-- ==== Sys2Proof/Word.lean ====
section
/-! DEFINITION. Word types and the plain operand types that the commands of Syntax.lean carry.
Bit vectors stand for what the manual treats as bits (R10, R13); unit numbers are natural numbers (R8). -/

namespace Sys2Proof

abbrev Byte := BitVec 8
abbrev W32 := BitVec 32
abbrev W64 := BitVec 64
/-- One 128-byte cache line (R282), byte 0 in the low bits (R10). -/
abbrev LineData := BitVec 1024

/-- A table with a default: strictly rising keys, and no entry equal to the default of its use. -/
abbrev Tab (α : Type) := List (Nat × α)

/-- The unit whose lanes are measured: a lateral link (R26) or an optical port (R326). -/
inductive LaneUnit where
  | link (i : Nat)
  | port (n : Nat)
deriving DecidableEq, Repr

/-- The unit that made a memory request, by the kind and number of R518, and the work item it was made for. -/
structure Requester where
  kind : Nat
  num  : Nat
  item : Option Nat
deriving DecidableEq, Repr

/-- Where a maintenance engine stands (R290): an MD, a cluster L2, an application-core L2 group. -/
inductive MaintUnit where
  | md (n : Nat)
  | cluster (n : Nat)
  | group (n : Nat)
deriving DecidableEq, Repr

/-- Which transport carries a Claryn message, and from whom (R435, R438). -/
inductive Via where
  | can (node : Nat)
  | udp (addr : Nat) (srcPort : Nat)
  | mailbox (channel : Nat)
deriving DecidableEq, Repr

/-- The header of a Claryn request that the services read (R433). -/
structure Req where
  via   : Via
  tid   : Nat
  index : Nat
  sub   : Nat
deriving DecidableEq, Repr

/-- A translation in an application core's own TLB (R236, R372), of an address space: 0 the host's virtual addresses, 1 a guest's virtual
addresses, 2 a guest's physical addresses. -/
structure CoreTlb where
  space : Nat
  vmid  : Nat
  asid  : Nat
  glob  : Bool
  va    : Nat
  size  : Nat
  pa    : Nat
deriving DecidableEq, Repr

/-- SFENCE.VMA, HFENCE.VVMA and HFENCE.GVMA (R236). -/
inductive FenceKind where
  | vma | vvma | gvma
deriving DecidableEq, Repr

/-- What an application core asks of the E9 in one instruction (R345, R372 to R376). -/
inductive AcOp where
  | load (rd : BitVec 5) (signed : Bool) (pa : Nat) (size : Nat)
  | store (rs2 : BitVec 5) (pa : Nat) (size : Nat)
  | amo (rd rs2 : BitVec 5) (funct5 : BitVec 5) (pa : Nat) (size : Nat)
  | fetch (pa : Nat)
  | csrRead (rd : BitVec 5) (csr : BitVec 12)
  | csrWrite (rd rs1 : BitVec 5) (csr : BitVec 12)
  | csrBits (rd rs1 : BitVec 5) (csr : BitVec 12) (set : Bool)
  | integer (word : BitVec 32)
  | fence
  | tlbFill (e : CoreTlb)
  | tlbFence (kind : FenceKind) (va : Option Nat) (asid : Option Nat) (vmid : Option Nat)
  | fLoad (fd : BitVec 5) (pa : Nat) (size : Nat)
  | fStore (fs : BitVec 5) (pa : Nat) (size : Nat)
  | vLoad (vd : BitVec 5) (elem : Nat) (pa : Nat) (size : Nat)
  | vStore (vs : BitVec 5) (elem : Nat) (pa : Nat) (size : Nat)
  | vset (rd rs1 : BitVec 5) (imm : Bool) (vtype : W64)
  | ecall
  | ebreak
  | mret
  | sret
  | fOther (fd : BitVec 5)
  | vOther (vd : BitVec 5)
  | other (rd : BitVec 5)
deriving DecidableEq, Repr

/-- A configuration request at the endpoint (R377, R380): a word of the header goes by its number; a register of a capability goes by its
role, since the PCIe specification leaves its place open: the control of the Resizable BAR (BAR4's size, 1 GiB times a power of two), of
MSI-X and of the device (whose bit 15 is the Function Level Reset), and the six of Advanced Error Reporting (0 uncorrectable status, 1 mask,
2 severity, 3 correctable status, 4 mask, 5 control). -/
inductive CfgOp where
  | read (reg : Nat)
  | write (reg : Nat) (value : W32)
  | bar4Size (log : Nat)
  | bar4Read
  | msixRead
  | msixWrite (enable mask : Bool)
  | devCtlRead
  | devCtlWrite (value : W32)
  | aerRead (k : Nat)
  | aerWrite (k : Nat) (value : W32)
deriving DecidableEq, Repr

/-- A debugger operation over JTAG (R475). -/
inductive DebugOp where
  | readIdcode
  | readDm (reg : BitVec 7)
  | writeDm (reg : BitVec 7) (v : W32)
  | haltCore (ac : Nat)
  | resumeCore (ac : Nat)
  | readCoreReg (ac : Nat) (r : BitVec 5)
  | writeCoreReg (ac : Nat) (r : BitVec 5) (v : W64)
  | resumePacer (tc : Nat)
  | readTile (tc : Nat) (a : Nat)
  | writeTile (tc : Nat) (a : Nat) (v : Byte)
  | readRegion (tc : Nat) (q : BitVec 4)
  | writeRegion (tc : Nat) (q : BitVec 4) (v : W64)
  | readScoreboard (tc : Nat)
  | writeScoreboard (tc : Nat) (tag : Nat) (reads writes : List (Nat × Nat)) (readDone : Bool)
  | clearScoreboard (tc : Nat) (tag : Nat)
  | haltController (security : Bool)
  | resumeController (security : Bool)
  | readController (security : Bool) (a : Nat)
  | writeController (security : Bool) (a : Nat) (v : Byte)
deriving DecidableEq, Repr

end Sys2Proof
end

