-- ==== Sys2Proof/Syntax.lean ====
section
/-! DEFINITION. The commands of the E9: one constructor for each row of spec/opcode_table.json.
Operands are unit numbers (R8), register values, the fields of an encoding (R64), and what the environment measures or answers. -/

namespace Sys2Proof

inductive Instr where
  -- start, reset (R481, R485)
  | pwrGoodAssert (hot : Bool)
  | packageResetRelease (modeSel : Bool) (boardSlot : BitVec 3) (canNode : BitVec 7) (fuseRow : Option Nat) (xd0Pass : Bool)
  | selfTestComplete (die : Nat) (pass : Bool)
  | linkTrainingComplete (link : Nat) (failedUp failedDown : List Nat)
  | discoveryComplete (micros : Nat)
  | bootCopyComplete (micros : Nat)
  | fatalLineAssert (code unit detail : Nat)
  | fatalReportTimeout (die code unit detail : Nat)
  | resetHoldEnd (hot : Bool)
  | dieBrownout (die : Nat)
  -- dies and links (R25 to R35)
  | bondErrorDetected (cd : Nat) (correctable : Bool)
  | flitCrcError (link : Nat)
  | heartbeatFlitSend (link : Nat) (up : Bool)
  | heartbeatLoss (link : Nat) (up : Bool)
  | checkFlitSend (link : Nat) (up : Bool)
  | checkFlitReceived (link : Nat) (up : Bool) (lane errors : Nat) (newWindow : Bool)
  | eyeMarginScan (u : LaneUnit) (margins : List (Bool × Nat × Nat))
  | laneBitLockLost (u : LaneUnit) (up : Bool) (lane : Nat)
  | spareTrained (u : LaneUnit)
  | linkRetrainDone (u : LaneUnit)
  | routeInstallDone (link : Nat)
  | transactionTimeout (who : Requester) (pa : Nat)
  | snoopTimeout (md agent : Nat)
  -- the Pacer (R43 to R67): custom-0 fields rd, rs1, rs2 of R64
  | psetq (tc : Nat) (rd rs1 rs2 : BitVec 5)
  | pgetq (tc : Nat) (rd rs1 rs2 : BitVec 5)
  | pqadd (tc : Nat) (rd rs1 rs2 : BitVec 5)
  | ptag (tc : Nat) (rd rs1 rs2 : BitVec 5)
  | pwait (tc : Nat) (rd rs1 rs2 : BitVec 5)
  | pfence (tc : Nat) (rd rs1 rs2 : BitVec 5)
  | pstat (tc : Nat) (rd rs1 rs2 : BitVec 5)
  | prdop (tc : Nat) (rd rs1 rs2 : BitVec 5)
  | pdone (tc : Nat) (rd rs1 rs2 : BitVec 5)
  | pperf (tc : Nat) (rd rs1 rs2 : BitVec 5)
  | pbsig (tc : Nat) (rd rs1 rs2 : BitVec 5)
  | pbwait (tc : Nat) (rd rs1 rs2 : BitVec 5)
  | psqrd (tc : Nat) (rd rs1 rs2 : BitVec 5)
  | psqadv (tc : Nat) (rd rs1 rs2 : BitVec 5)
  | pfret (tc : Nat) (rd rs1 rs2 : BitVec 5)
  | pacerLoad (tc : Nat) (compressed : Bool) (funct3 : BitVec 3) (rd rs1 : BitVec 5) (imm : BitVec 12)
  | pacerStore (tc : Nat) (compressed : Bool) (funct3 : BitVec 3) (rs1 rs2 : BitVec 5) (imm : BitVec 12)
  | pacerAtomic (tc : Nat) (funct5 : BitVec 5) (funct3 : BitVec 3) (rd rs1 rs2 : BitVec 5)
  | pacerScalarOp (tc : Nat) (word : BitVec 32)
  | pacerCsrAccess (tc : Nat) (funct3 : BitVec 3) (csr : BitVec 12) (rd rs1 : BitVec 5)
  | ecall (tc : Nat)
  | ebreak (tc : Nat) (compressed : Bool)
  -- the matrix array (R69 to R74): operation-layout fields m, xs, qb, qa, qd of R64
  | mldw (tc : Nat) (m : BitVec 2) (xs : BitVec 5) (qb qa qd : BitVec 4)
  | mmul (tc : Nat) (m : BitVec 2) (xs : BitVec 5) (qb qa qd : BitVec 4)
  | mrd (tc : Nat) (m : BitVec 2) (xs : BitVec 5) (qb qa qd : BitVec 4)
  | mlda (tc : Nat) (m : BitVec 2) (xs : BitVec 5) (qb qa qd : BitVec 4)
  | mzero (tc : Nat) (m : BitVec 2) (xs : BitVec 5) (qb qa qd : BitVec 4)
  -- the vector engine (R76 to R86)
  | vadd (tc : Nat) (m : BitVec 2) (xs : BitVec 5) (qb qa qd : BitVec 4)
  | vsub (tc : Nat) (m : BitVec 2) (xs : BitVec 5) (qb qa qd : BitVec 4)
  | vmul (tc : Nat) (m : BitVec 2) (xs : BitVec 5) (qb qa qd : BitVec 4)
  | vfma (tc : Nat) (m : BitVec 2) (xs : BitVec 5) (qb qa qd : BitVec 4)
  | vmin (tc : Nat) (m : BitVec 2) (xs : BitVec 5) (qb qa qd : BitVec 4)
  | vmax (tc : Nat) (m : BitVec 2) (xs : BitVec 5) (qb qa qd : BitVec 4)
  | vmov (tc : Nat) (m : BitVec 2) (xs : BitVec 5) (qb qa qd : BitVec 4)
  | vcvt (tc : Nat) (m : BitVec 2) (xs : BitVec 5) (qb qa qd : BitVec 4)
  | vceq (tc : Nat) (m : BitVec 2) (xs : BitVec 5) (qb qa qd : BitVec 4)
  | vclt (tc : Nat) (m : BitVec 2) (xs : BitVec 5) (qb qa qd : BitVec 4)
  | vcle (tc : Nat) (m : BitVec 2) (xs : BitVec 5) (qb qa qd : BitVec 4)
  | vfun (tc : Nat) (m : BitVec 2) (xs : BitVec 5) (qb qa qd : BitVec 4)
  | vred (tc : Nat) (m : BitVec 2) (xs : BitVec 5) (qb qa qd : BitVec 4)
  | vscan (tc : Nat) (m : BitVec 2) (xs : BitVec 5) (qb qa qd : BitVec 4)
  | vtopk (tc : Nat) (m : BitVec 2) (xs : BitVec 5) (qb qa qd : BitVec 4)
  | vcmprs (tc : Nat) (m : BitVec 2) (xs : BitVec 5) (qb qa qd : BitVec 4)
  | vexpd (tc : Nat) (m : BitVec 2) (xs : BitVec 5) (qb qa qd : BitVec 4)
  | vrand (tc : Nat) (m : BitVec 2) (xs : BitVec 5) (qb qa qd : BitVec 4)
  | vtrn (tc : Nat) (m : BitVec 2) (xs : BitVec 5) (qb qa qd : BitVec 4)
  -- the tile DMA and the Relay queue (R90 to R95)
  | dld (tc : Nat) (m : BitVec 2) (xs : BitVec 5) (qb qa qd : BitVec 4)
  | dst (tc : Nat) (m : BitVec 2) (xs : BitVec 5) (qb qa qd : BitVec 4)
  | dvin (tc : Nat) (m : BitVec 2) (xs : BitVec 5) (qb qa qd : BitVec 4)
  | dvout (tc : Nat) (m : BitVec 2) (xs : BitVec 5) (qb qa qd : BitVec 4)
  | dpf (tc : Nat) (m : BitVec 2) (xs : BitVec 5) (qb qa qd : BitVec 4)
  | drly (tc : Nat) (m : BitVec 2) (xs : BitVec 5) (qb qa qd : BitVec 4)
  -- issue and the scoreboard (R49 to R63)
  | operationStart (tc tag : Nat) (flaws : List (Nat × Bool))
  | operationComplete (tc tag : Nat) (flaws : List (Nat × Bool))
  | bankStarvationPromote (tc requester : Nat)
  | dmaErrorResponse (tc : Nat) (fetch : Bool) (code pa : Nat)
  | fastEventEntry (tc : Nat)
  -- Relay groups (R129 to R140)
  | relayGroupStart (g : Nat) (value : W64)
  | relayGroupEntryWrite (g off : Nat) (value : W64)
  | relayGroupBind (g : Nat) (value : W64)
  | relayContributionAccept (tc tag : Nat)
  | relayNodeCombine (g round level node : Nat)
  | relayRoundComplete (g : Nat)
  | relayResultDeliver (tc tag : Nat)
  -- sequence slots (R150, R228)
  | sqKeyWrite (slot : Nat) (high : Bool) (value : W64)
  | keyChkUpdate (slot : Nat)
  | sqBind (slot : Nat) (value : W64)
  -- the time base (R161 to R169)
  | fsyncEdge (periodNs : Nat)
  | ptpAnnounceReceive (domain : Nat) (master : W64) (rank : Nat)
  | ptpSyncReceive (domain : Nat) (master : W64) (twoStep : Bool) (originNs receiptNs : Nat)
  | ptpFollowUpReceive (domain : Nat) (master : W64) (originNs : Nat)
  | ptpDelayReqSend (sentNs : Nat)
  | ptpDelayRespReceive (domain : Nat) (master : W64) (receivedNs : Nat)
  | tbSourceWrite (value : Nat)
  | tbStepAccept (value : Bool)
  | rasterWrite (sub value : Nat)
  -- the Starter (R172 to R180)
  | releaseTimeReached (ctx q : Nat)
  | starterStart (die : Nat) (flaws : List (Nat × Bool))
  | deadlineReached (item : Nat)
  | reportHardLimit (item : Nat)
  | allowanceRampStep (die : Nat)
  | allowanceRecompute (die : Nat)
  -- the Eclipse (R185)
  | eclArm (value : Bool)
  | eclipseMarker (onPort : Bool) (n : Nat) (id : W32)
  | eclipseComplete (drainNs : Nat)
  -- contexts and queues (R193 to R211)
  | contextEnable (ctx : Nat) (flaws : List (Nat × Bool))
  | contextTeardown (ctx : Nat)
  | contextTeardownDone (ctx : Nat)
  | ctxCmdReserved (value : W64)
  | ctxBaseWrite (value : W64)
  | doorbell (ctx q : Nat) (value : W64)
  | descriptorRead (ctx q : Nat) (flaws : List (Nat × Bool))
  | descriptorReread (ctx q : Nat) (flaws : List (Nat × Bool))
  | queueResume (ctx q : Nat)
  | queueSkip (ctx q : Nat)
  | itemEnd (item : Nat) (flaws : List (Nat × Bool))
  -- Batons and the entry window (R217 to R224)
  | batonOperation (b : Nat) (op : W32)
  | batonOpWrite (b : Nat) (op : W32)
  | batonValueWrite (b : Nat) (value : W32)
  | batonEvtcondWrite (b : Nat) (value : W64)
  | batonBind (b : Nat) (value : W64)
  | ewinWrite (ctx off : Nat) (value : W64)
  -- translation (R238 to R254)
  | pageWalkComplete (item : Nat) (flaws : List (Nat × Bool))
  | prqWriteError (code : Nat)
  | prqHeadWrite (value : W32)
  | pageResponseRetry (tag : Nat) (flaws : List (Nat × Bool))
  | pageResponseInvalid (tag : Nat)
  | prqBaseWrite (value : W64)
  | tlbFill (tc : Nat) (fetch : Bool) (va : W64) (flaws : List (Nat × Bool))
  | transferTranslationMiss (tc tag : Nat) (fetch : Bool) (va : W64) (flaws : List (Nat × Bool))
  | invCmdReserved (value : W64)
  | clusterInvalidate (cl : Nat)
  | engineInvAck (tc : Nat)
  | clusterInvAck (cl : Nat)
  | invalidationComplete (nanos : Nat)
  -- memory (R265 to R292)
  | scrubStep (pa : Nat) (corrected uncorrectable : Bool)
  | pgretPop (md : Nat)
  | channelCandidate (channel : Nat)
  | retCmd (md : Nat) (value : W64)
  | retGo (md : Nat) (value : W64)
  | migrationComplete (md : Nat)
  | partBwWindow (md : Nat)
  | maintClean (md : Nat) (evt : Bool)
  | maintInvalidate (md : Nat) (evt : Bool)
  | maintCleanInvalidate (md : Nat) (evt : Bool)
  | maintZero (md : Nat) (evt : Bool)
  | l2MaintClean (u : MaintUnit) (evt : Bool)
  | l2MaintCleanInvalidate (u : MaintUnit) (evt : Bool)
  | maintCmdReserved (u : MaintUnit) (value : W64)
  | maintComplete (u : MaintUnit)
  | ncAccess (who : Requester) (write : Bool) (pa size : Nat) (value : W64) (flaws : List (Nat × Bool))
  -- coherence (R309 to R319)
  | gets (req : Nat) (who : Requester) (fill : Nat) (pa : Nat) (esc dirFixed : Bool)
  | getm (req : Nat) (who : Requester) (pa : Nat) (esc dirFixed : Bool)
  | promote (req : Nat) (who : Requester) (pa : Nat) (esc dirFixed : Bool)
  | look (unit : Nat) (who : Requester) (pa : Nat) (esc dirFixed : Bool)
  | putplace (unit : Nat) (who : Requester) (pa : Nat) (mask : BitVec 256) (data : LineData) (hint hintId : Nat) (esc dirFixed : Bool) (flaws : List (Nat × Bool))
  | cashome (who : Requester) (pa : Nat) (old new : W64) (esc dirFixed : Bool) (flaws : List (Nat × Bool))
  | fwds (agent pa : Nat)
  | fwdm (agent pa : Nat)
  | inv (agent pa : Nat)
  | peek (agent pa : Nat)
  | flushd (agent pa : Nat)
  | snack (agent pa : Nat) (flaws : List (Nat × Bool))
  | sndata (agent pa : Nat) (flaws : List (Nat × Bool))
  | grant (req pa : Nat)
  | grantack (agent pa : Nat) (flaws : List (Nat × Bool))
  | nack (req pa : Nat)
  | cohRetry (req pa : Nat) (flaws : List (Nat × Bool))
  | vacack (agent pa : Nat)
  | placeack (agent pa : Nat) (flaws : List (Nat × Bool))
  | homefill (req pa : Nat) (corrected uncorrectable : Bool)
  | ownerfill (req pa : Nat)
  | placedata (agent pa : Nat)
  | vacdata (agent pa : Nat)
  | vacclean (agent pa : Nat)
  -- optical ports (R329 to R344)
  | codewordReceive (port : Nat) (lanes : List (List Nat)) (number : Nat) (newWindow : Bool) (flaws : List (Nat × Bool))
  | codewordUncorrectable (port : Nat)
  | sbIdle (port : Nat)
  | sbAck (port value : Nat)
  | sbNak (port value : Nat)
  | sbCredit (port value : Nat)
  | sbState (port value : Nat)
  | sbGoingDown (port reason : Nat)
  | sbChipEvt (port value : Nat)
  | ackSend (port : Nat)
  | creditSend (port cls : Nat)
  | stateSend (port field : Nat)
  | portHeartbeatLoss (port : Nat)
  | portTrainAttempt (port : Nat)
  -- packets (R346 to R360)
  | winRd (port : Nat) (hdr : BitVec 256) (flaws : List (Nat × Bool))
  | winWr (port : Nat) (hdr : BitVec 256) (data : List Byte) (flaws : List (Nat × Bool))
  | winCpl (port : Nat) (hdr : BitVec 256) (data : List Byte)
  | put (port : Nat) (hdr : BitVec 256) (data : List Byte) (flaws : List (Nat × Bool))
  | putAck (port : Nat) (hdr : BitVec 256)
  | get (port : Nat) (hdr : BitVec 256) (flaws : List (Nat × Bool))
  | getData (port : Nat) (hdr : BitVec 256) (data : List Byte) (flaws : List (Nat × Bool))
  | relayUp (port : Nat) (hdr : BitVec 256) (data : List Byte)
  | relayDown (port : Nat) (hdr : BitVec 256) (data : List Byte)
  | unreachable (port : Nat) (hdr : BitVec 256)
  | boardWindowAccess (ac : Nat) (write : Bool) (pa size : Nat) (value : W64) (flaws : List (Nat × Bool))
  -- remote queues (R350 to R357)
  | rqDoorbell (rq : Nat) (value : W64)
  | rqResume (rq : Nat)
  | rqSkip (rq : Nat)
  | rqCfgWrite (rq : Nat) (value : W64)
  | rqCommandRead (rq : Nat) (flaws : List (Nat × Bool))
  | rqCommandStart (rq : Nat) (flaws : List (Nat × Bool))
  | rqCommandComplete (rq : Nat)
  -- application cores (R372 to R376)
  | acInstruction (ac : Nat) (compressed : Bool) (op : AcOp) (flaws : List (Nat × Bool))
  | cboClean (ac pa : Nat)
  | cboFlush (ac pa : Nat)
  | cboInval (ac pa : Nat)
  | cboZero (ac pa : Nat)
  | fenceI (ac : Nat)
  | imsicSeteipnum (hart file : Nat) (ident : W32)
  | mtimerInterrupt (hart : Nat) (supervisor : Bool)
  -- PCIe (R378 to R390)
  | pcieInboundRead (p bar addr size : Nat) (flaws : List (Nat × Bool))
  | pcieInboundWrite (p bar addr : Nat) (data : List Byte) (flaws : List (Nat × Bool))
  | pcieConfigRequest (op : CfgOp)
  | pcieCompletion (p tag : Nat) (ok : Bool) (data : List Byte)
  | epFlushRead (p : Nat)
  | peDiscardsRead (p : Nat)
  | pcieLinkChange (p rate width : Nat)
  | intxAssert (p pin : Nat)
  | intxDeassert (p pin : Nat)
  | gpirqChange (n : Nat) (asserted : Bool)
  -- the Signal Concentrator (R393 to R401)
  | scEvent (source : Nat) (detail : W32)
  | scPendSet (value : W64)
  | scPendClr (value : W64)
  | scSrcCfgWrite (source : Nat) (value high : W64)
  | evqWriteError (code : Nat)
  -- power, thermal, ageing (R402 to R423)
  | railPowerRead (milliwatts : List Nat)
  | opChangeComplete (cd : Nat)
  | thermalStep (dieTemps hbmTemps : List Int)
  | replanCmd (value : Bool)
  -- Claryn (R432 to R450)
  | canFrame (ident : Nat) (fd extended : Bool) (bytes : List Byte)
  | udpDatagram (addr srcPort : Nat) (bytes : List Byte)
  | mailboxDoor (channel : Nat) (value : W64)
  | read (r : Req)
  | write (r : Req) (value : List Byte)
  -- rows from the end of the table
  | registerWrite (pa : Nat) (value : W64)
  | portTrainingComplete (port : Nat) (failedTx failedRx : List Nat)
  | pcieAerPmeMessage (p : Nat) (pme : Bool)
  -- power and ageing, Claryn, the security controller (R454 to R476), continued: Lean's compiled code can build only the first 245
  -- constructors with operands, so these rows stand behind the others (the kernel has no such bound)
  | regulatorTimeout (rail : Nat)
  | capControlStep
  | fastLimiterEngage (estimates : List Nat)
  | thermalTrip (unit : Nat) (centi : Int)
  | lapSlackCheck (die : Nat) (slackMv : Nat)
  | replanComplete (required : List (Nat × Nat × Nat)) (fixedMargins : List (Nat × Int))
  | powerCapWrite (value : Nat)
  | powerModeWrite (value : Nat)
  | arpRequest (target sender : Nat)
  | icmpEcho (target sender : Nat) (payload : List Byte)
  | dhcpMessage (kind addr : Nat) (leaseSeconds : Nat)
  | readSeg (r : Req) (offset : Nat)
  | writeSeg (r : Req) (offset total : Nat) (segment : List Byte)
  | describe (r : Req)
  | next (r : Req)
  | abort (r : Req)
  | serviceUnknown (r : Req) (svc : Nat) (dir : Bool)
  | segmentSessionTimeout (via : Via)
  | storeComplete (ok : Bool)
  | resetCmd (value : Nat)
  | holdRelease (value : Bool)
  | fwUpdateCmd (value : Nat)
  | fwUpdateComplete (flashOk : Bool)
  | protCommit (value : Bool) (bankWrites : Bool)
  | attNonce (nonce : List Byte)
  | keyLoad (bytes : List Byte)
  | debugUnlock (level : Nat) (ownerSig debugSig debugKey : List Byte)
  | glitchDetected (detector : Nat)
  | controllerCheckFailure (security : Bool) (kind : Nat)
  | watchdogExpiry (security : Bool)
  | canErrorDetected (transmit : Bool)
  | ethLinkChange (value : Nat)
  | dhcpLeaseExpiry (final : Bool)
  | debugPortAccess (op : DebugOp)
  -- the commands without operands, in the table's order
  | pwrGoodDeassert
  | startThermalClear
  | discoveryRequest
  | hbmZeroComplete
  | startFailTimeout
  | goingDownEnd
  | heartbeatCollectionEnd
  | fsyncTimeout
  | ptpSyncTimeout
  | tbAcqTimeout
  | tbHoldoverExpiry
  | frameBoundary
  | eclipseCapture
  | eclipseDrainTimeout
  | prqWerrClear
  | invAll
  | invVmid
  | invAsid
  | invRange
  | invalidationStart
  | endpointReset
  | normalDelivery
  | fastDelivery
  | scUnroutedRead
  | scFastDroppedRead
  | estimatorRescale
  | fastLimiterRelease
  | supplyGuardRelease
  | replanTimer
  | poweredHour
  | dhcpRetry
  | heartbeat
  | storeCmd
  | storeDefaults
  | debugChallengeRead
  | canBusOffRecovery
deriving DecidableEq, Repr

end Sys2Proof
end

