-- ==== Sys2Proof/Decode.lean ====
section
/-! DEFINITION. The decoder of a word numbered as spec/opcode_table.json numbers its bits. The table gives no row of this
block any bits: every row is an operation or event with operands of its own, so no word spells a command. -/

namespace Sys2Proof

/-- The command that a word spells: none, for the table gives bits to no row. -/
def decodeTableWord (_nbits _w : Nat) : Option Instr := none

end Sys2Proof
end

