-- ==== Sys2Proof/Config.lean ====
section
/-! DEFINITION. What the spec leaves to each E9 or leaves open, as constants without a body: nothing can be proved of their values. -/

namespace Sys2Proof.Config

/-- A free value: the n-th value the spec leaves open in a run. -/
opaque free : Nat → BitVec 64

/-- The certificate of the identity key (R469, R462) as the maker signed it: of the public half and the serial number it binds together. -/
opaque certificate : List Byte → List Byte → List Byte

/-- A random number of an SM2 signature (R456, R470), the n-th drawn. -/
opaque signNonce : Nat → Nat

/-- The contents of a sealed bank as bytes (R466): the spec gives no layout, and PROT_DIGEST is the SM3 of these bytes. -/
opaque sealedBytes : Nat → List (Nat × Nat) → List (Nat × List Byte) → List Byte

/-- A fresh debug challenge of 32 bytes (R476). -/
opaque challenge : Nat → List Byte

/-- The correctly rounded result where the widest working precision does not decide it (R80). -/
opaque vfunTie : Nat → Nat → Nat

/-- A byte that a debugger reads from a controller's own memory before writing it (R475): of the security controller's, its ROM among them. -/
opaque controllerByte : Bool → Nat → Byte

/-- The identification code that the debug port shows at every level (R475). -/
opaque idCode : BitVec 32

/-- V_MAX of an application die in millivolts: R403 states it for a CD only. -/
opaque adVmax : Nat

/-- The voltage planned at the first start for a clock of an application die, by its steps of 400 MHz below 3.2 GHz, in millivolts: the
table of R403 is a CD's. -/
opaque adPlanned : Nat → Nat

/-- The top level of a die, by its window, of which no operating point is held (R421 names none). -/
opaque noPointLevel : Nat → Nat

/-- The first rank of a position of a Relay group, which the entry of another E9 gives (R128): group, shape, chip word, position. -/
opaque firstRank : Nat → BitVec 64 → BitVec 64 → Nat → Nat

end Sys2Proof.Config
end

