-- ==== Sys2Proof/Machine/State.lean ====
section
/-! DEFINITION. The state of the E9 as plain data, the reasons a step can stop, and the state before power is applied.
Tables (`Tab`) are keyed by the unit numbers of R8; a unit without an entry holds the reset value of its structure. -/

namespace Sys2Proof.Machine

open Sys2Proof

/-- A message of Claryn as its transport carries it: a CAN FD frame with its identifier (R440, R441), or a datagram from its port (R442). -/
inductive Wire where
  | can (ident : Nat) (bytes : List Byte)
  | udp (port : Nat) (bytes : List Byte)
deriving DecidableEq, Repr

/-- What the E9 has sent to a partner, newest first in `State.out` (R441, R485, R397, R333, R245). -/
inductive Emit where
  | status (v : Nat)
  | heartbeat (dest : Nat) (frame : W64) (chip runState reason incarn seq tbState flags : Nat) (wire : Wire)
  | eventMsg (dest : Nat) (index sub : Nat) (frame : W64) (seq : Nat) (value : Nat) (wire : Wire)
  | response (via : Via) (svc tid status index sub : Nat) (offset total : Nat) (value : List Byte) (wire : Wire)
  | goingDown (port reason : Nat)
  | perst (p : Nat) (asserted : Bool)
  | codeword (port : Nat) (lanes : List (Nat × List Nat))
  | imsic (hart file ident : Nat)
  | msix (vector : Nat)
  | probe (cls port serial : Nat) (pass : Bool) (fuse : Nat)
  | discoveryFlood
  | heartbeatFlit (link : Nat) (up : Bool)
  | checkFlit (link : Nat) (up : Bool)
  | replay (u : LaneUnit)
  | eclMarker (way id : Nat)       -- 2 × link + direction
  | pcieCompletion (p status : Nat) (data : List Byte)
  | pcieConfig (retry : Bool) (value : W32)
  | ptpDelayReq
  | arpReply (target : Nat)
  | icmpReply (target : Nat) (payload : List Byte)
  | dhcpDiscover
  | dhcpRequest
  | accessFault (ac pa : Nat) (isFetch isWrite : Bool)
  | timerInterrupt (hart : Nat) (supervisor : Bool)
  | railSet (mv : Nat)
  | pcieWrite (p pa : Nat) (data : List Byte)
  | pcieRead (p pa size tag : Nat)
  | debugData (v : W64)
  | challenge (bytes : List Byte)
  | readData (pa : Nat) (v : W64)
  | nackSent (req pa cause : Nat)
  | lookData (unit pa : Nat) (poisoned : Bool) (data : LineData)
  | memError (code pa : Nat) (who : Requester)
  | thermTrip
deriving DecidableEq, Repr

/-- Where the E9 stands in power-up, start and package reset (R481, R483, R485, R500). -/
inductive Phase where
  | off          -- PWR_GOOD low (R505)
  | thermalWait  -- step P2: a sensor reads at or above THERM_RESTART
  | inReset      -- package reset may be released (step P3)
  | starting     -- steps 1 to 3: self-tests, training, discovery
  | discovered   -- step 4 passed
  | zeroed       -- step 5 passed
  | running      -- RUN_STATE 1
  | held         -- R483
  | goingDown    -- steps 1 and 2 of R485
  | resetHold    -- step 3 of R485
  | failed       -- STATUS 11 (R500)
deriving DecidableEq, Repr

/-- A probe record as a die returns it to XD0 (R37): what the far end named of itself, and the die and port it arrived at. -/
structure Probe where
  cls      : Nat                   -- die class: 0 CD, 1 MD, 2 AD, 3 XD
  port     : Nat
  serial   : Nat
  pass     : Bool                  -- self-test result
  fuse     : Nat                   -- fuse map: the part of R1 that the package is fused as
  atSerial : Nat
  atPort   : Nat
deriving DecidableEq, Repr

/-- Start, straps, status pins and the reset sequencers. -/
structure Boot where
  phase      : Phase := .off
  status     : Nat := 0            -- STATUS[1:0] (R500)
  thermTrip  : Bool := false       -- THERM_TRIP_N low (R500)
  modeSel    : Bool := false       -- attached mode when true (R7)
  boardSlot  : BitVec 3 := 0
  canNode    : BitVec 7 := 0
  claryn     : Bool := false       -- Claryn runs (R458)
  reason     : Nat := 0            -- reason of the package reset under way (R363)
  fatalLine  : Bool := false       -- the package fatal line (R486)
  selfTest   : Tab Nat := []       -- per window: 1 passed, 2 failed (R37)
  bonds      : Tab Nat := []       -- the bond of CDn: 2 trained on every connection, 1 not (R24)
  probes     : List Probe := []    -- probe records (R37)
  flooded    : Bool := false       -- the discovery request is out (R37 step 4)
  losses     : List (Nat × Bool) := []   -- heartbeat-loss reports in the collection (R29)
  silent     : List Nat := []      -- dies that have stopped (R488)
  lastBeat   : List (Nat × Bool) := []   -- directions idle and kept alive by heartbeat flits (R28)
  attest     : Bool := true        -- the identity key is whole (R474)
  perst      : List Nat := []      -- root ports with PERST# asserted (R485, R497)
  measure    : List Byte := []     -- boot measurement (R458)
  slotBooted : Nat := 0            -- firmware slot booted (R460)
deriving DecidableEq, Repr

/-- The wrapped identity key of the part that `State.reset` is (DESIGN CHOICE, log 29): the private key 1 under the root key of zeros,
with a nonce of zeros and no additional data. -/
def partIdWrap : List Byte :=
   [0, 0, 0, 0, 0, 0, 0, 0, 0, 0, 0, 0, 232, 179, 207, 222, 239, 233, 252, 176,
    113, 25, 252, 159, 119, 8, 25, 94, 32, 2, 51, 213, 100, 62, 35, 47, 2, 115, 228, 5,
    159, 230, 124, 101, 88, 103, 237, 163, 74, 87, 123, 138, 224, 128, 200, 121, 35, 192, 124, 251]

/-- Its public half: the base point of the curve (R456). -/
def partIdPub : List Byte :=
   [50, 196, 174, 44, 31, 25, 129, 25, 95, 153, 4, 70, 106, 57, 201, 148, 143, 227, 11, 191,
    242, 102, 11, 225, 113, 90, 69, 137, 51, 76, 116, 199, 188, 55, 54, 162, 244, 246, 119, 156,
    89, 189, 206, 227, 107, 105, 33, 83, 208, 169, 135, 124, 198, 42, 71, 64, 2, 223, 50, 229,
    33, 57, 240, 160]

/-- What is fused or fixed at manufacture (R1, R5, R452, R457). -/
structure Fuse where
  part       : Nat := 0            -- 0 SE9-A, 1 SE9-B, 2 SE9-W (R470)
  stepping   : Nat := 0
  dieSerials : List Nat := [1, 2, 3, 4, 5, 6, 7, 8, 9, 10, 11, 12, 13, 14, 15, 16]   -- serial number of each die, by window (R37)
  serial     : List Byte := List.replicate 16 0
  mac        : List Byte := List.replicate 6 0
  rootKey    : List Byte := List.replicate 32 0          -- fuse root key (R457)
  idWrap     : List Byte := partIdWrap   -- the identity private key, wrapped: nonce, ciphertext, tag (R457, R469)
  idPub      : List Byte := partIdPub    -- its public half, as ID_CERT holds it
  fwKeyDigest  : List Byte := List.replicate 32 0
  debugKeyDigest : List Byte := List.replicate 32 0
  counter    : Nat := 0            -- burned counter bits (R466)
  rollback   : Nat := 0            -- FW_ROLLBACK_MIN (R462)
  idErased   : Bool := false       -- ERASE_IDENTITY done (R474)
  marginal   : Bool := false       -- the bit above the counter reads marginal (R467)
deriving DecidableEq, Repr

/-- A firmware slot of the boot flash (R459, R460). -/
structure FwSlot where
  state  : Nat := 0                -- 0 EMPTY, 1 NEW, 2 TRYING, 3 GOOD, 4 FAILED
  header : List Byte := []
  claryn : List Byte := []
  security : List Byte := []
deriving DecidableEq, Repr

/-- A boot configuration bank (R448): stored values, and whether its digest verifies. -/
structure CfgBank where
  seq   : Nat := 0
  ok    : Bool := false
  nums  : List (Nat × Nat) := []
  octs  : List (Nat × List Byte) := []
deriving DecidableEq, Repr

/-- A sealed bank (R466): its sequence, its seal, and the protected values. -/
structure SealedBank where
  seq   : Nat := 0
  hmac  : List Byte := []          -- HMAC-SM3 under the seal key
  nums  : List (Nat × Nat) := []
  octs  : List (Nat × List Byte) := []
deriving DecidableEq, Repr

/-- The boot flash (R508) and Claryn's record in it (R275, R422, R493). -/
structure Flash where
  slotA   : FwSlot := {}
  slotB   : FwSlot := {}
  sealed0 : SealedBank := {}
  sealed1 : SealedBank := {}
  cfg0    : CfgBank := {}
  cfg1    : CfgBank := {}
  retired : List Nat := []         -- retired channels 32s + c
  app     : Tab Byte := []         -- application boot region (R482)
  hours   : Nat := 0               -- POWERED_HOURS
  incarnation : Nat := 0
  volts   : Tab Nat := []          -- planned millivolts, key 16 × window + point, plus 1
  history : List (Nat × Nat × Int) := []   -- re-plans: window, hours, margin (R421)
  replanHours : Nat := 0
  storms  : List Nat := []         -- powered seconds of storm resets, latest first (R493)
  resetReason : Nat := 0           -- the retained region's reset records as of the last start (R481)
  resetCount  : Nat := 0
  seconds : Nat := 0               -- powered seconds counted so far (R493)
  fsCount : Nat := 0               -- alarms since manufacture (R462)
  fsLast  : List Byte := []        -- FS_LAST
deriving DecidableEq, Repr

/-- A fault-log entry (R494). -/
structure Flog where
  time   : W64
  seq    : Nat
  incarn : Nat
  code   : Nat
  cls    : Nat
  flags  : Nat
  unit   : Nat
  detail : Nat
deriving DecidableEq, Repr

/-- An open recovery window (R490, R492): the fault that opened it, its resources and its count. -/
structure Window where
  code  : Nat
  unit  : Nat
  res   : List (Nat × Nat)         -- (0 link | 1 port | 2 channel, number)
  count : Nat
deriving DecidableEq, Repr

/-- A class-1 repair that waits for the windows open at its detection (R491). -/
structure Deferred where
  code   : Nat
  unit   : Nat
  up     : Bool
  lane   : Nat
  after  : List (Nat × Nat)        -- windows (code, unit) still open
deriving DecidableEq, Repr

structure Faults where
  log       : List Flog := []
  seq       : Nat := 0
  windows   : List Window := []
  deferred  : List Deferred := []
  resetCount : Nat := 0
  resetReason : Nat := 0
  startResult : Nat := 0
  stormHold : Bool := false
  stormsKept : List Nat := []      -- storm resets in the retained region
deriving DecidableEq, Repr

/-- One direction of a link or port (R30, R31, R38), by its physical lanes. -/
structure Side where
  lanes   : List Nat := []         -- the lanes that carry the logical lanes, in their order
  spares  : List Nat := []         -- healthy lanes that carry none, the next to be used first
  bad     : List Nat := []         -- lanes failed or retired since training
  errs    : Tab Nat := []          -- check-flit bit errors (or corrected symbols) in the window
  low     : Tab Nat := []          -- consecutive low eye margins
deriving DecidableEq, Repr

/-- A lateral link (R26, R40). -/
structure Link where
  state   : Nat := 0               -- 0 absent, 1 failed, 2 half width, 3 full width
  retraining : Bool := false
  held    : Bool := false          -- its flits are held (R32, R33)
  replacing : Option (Bool × Nat × Nat) := none   -- direction, failing lane and the spare being trained for it (R31)
  queue   : List (Bool × Nat) := []         -- lanes waiting for their replacement
  limit   : Nat := 16              -- LANE_ERR_LIMIT as the open measurement window took it (R36)
  up      : Side := {}
  down    : Side := {}
deriving DecidableEq, Repr

/-- What an engine operation does (R66), kept with its operands from issue (R60). -/
inductive EngOp where
  | mldw | mmul | mrd | mlda | mzero
  | vadd | vsub | vmul | vfma | vmin | vmax | vmov | vcvt | vceq | vclt | vcle | vfun | vred | vscan | vtopk | vcmprs | vexpd | vrand | vtrn
  | dld | dst | dvin | dvout | dpf | pbsig | drly
deriving DecidableEq, Repr

/-- What another chip answered to one piece of a transfer (R347, R348). -/
structure Answer where
  pa   : Nat
  code : Nat                       -- 0, or the error code
  data : List Byte
deriving DecidableEq, Repr

/-- A scoreboard entry (R58 to R61): operands as read at issue. -/
structure Op where
  tag   : Nat
  eng   : EngOp
  m     : Nat
  ctl   : W64
  ctl2  : W64
  qa    : W64
  qb    : W64
  qd    : W64
  q1    : W64                      -- second plane (R93, R94)
  q2    : W64                      -- third plane
  maskA : W64                      -- mask region bound to qa
  maskD : W64                      -- mask region bound to qd
  slot  : Nat
  reads  : List (Nat × Nat)        -- byte ranges [lo, hi) of tile memory
  writes : List (Nat × Nat)
  started  : Bool
  readDone : Bool
  performed : Bool                 -- its effect on the accumulator has been made (R71)
  accepted : Bool                  -- a DRLY the Relay node has accepted (R133)
  round    : Nat                   -- the round a DRLY contributes to (R132)
  buf   : List Nat                 -- what the operation read at its start, as codes
  asked : Bool := false            -- its packets to other chips are out (R345)
  wrote : Bool := false            -- those that carry what it writes are, where it reads first (R90, R92)
  pages : List (Nat × Nat × Bool) := []   -- the pages they went through, by virtual page number (R251)
  got   : List Answer := []        -- what they have answered
deriving DecidableEq, Repr

/-- A weight buffer (R68, R69). -/
structure WBuf where
  k   : Nat := 128
  n   : Nat := 128
  fmt : Nat := 8
  el  : Tab W32 := []              -- key 128 i + j
deriving DecidableEq, Repr

/-- The accumulator (R68, R108). -/
structure Acc where
  int : Bool := false
  el  : Tab W32 := []
  sat : List Nat := []             -- elements whose saturation flag is set
deriving DecidableEq, Repr

/-- A tensor core (R41 to R62). -/
structure TCore where
  item    : Option Nat := none     -- acceptance number of the item it runs
  rank    : Nat := 0
  pc      : W64 := 0
  x       : Tab W64 := []          -- x1 to x31
  fx      : Tab W64 := []          -- x1 to x15 of the bank not in use (R49)
  inHandler : Bool := false
  q       : Tab W64 := []
  tile    : Tab Byte := []
  pram    : Tab Byte := []
  param   : Tab Byte := []
  code    : Tab Byte := []         -- code range as fetched at entry (R305)
  resv    : Option Nat := none     -- LR reservation (R46)
  sb      : List Op := []          -- oldest first
  tag     : Nat := 0
  acc     : Acc := {}
  accIntIssue : Bool := false      -- type after every issued operation (R70)
  w0      : WBuf := {}
  w1      : WBuf := {}
  w0Issue : Nat × Nat × Nat := (128, 128, 8)   -- (K, N, format) after every issued MLDW (R70)
  w1Issue : Nat × Nat × Nat := (128, 128, 8)
  fevec   : W64 := 0
  fepc    : W64 := 0
  festat  : Nat := 0
  pend    : List Nat := []         -- fast events pending at the core (R399)
  cycle   : W64 := 0
  instret : W64 := 0
  perf    : Tab W64 := []
  sat     : Nat := 0               -- R120
  flush   : Nat := 0
  stall   : Option Instr := none   -- the instruction the Pacer stands at
  halted  : Bool := false          -- halted at EBREAK (R475)
  stopped : Bool := false          -- issues nothing further (R50, R180)
  fault   : Option (Nat × W64) := none    -- cause and PC (R50)
  done    : Option Nat := none     -- PDONE value
  heldOps : List (Nat × W64) := [] -- operations held for a translation (R244): tag (0 fetch), address
  promote : List Nat := []         -- requesters at top priority (R57)
  steps   : Tab (List Int × List Int) := []  -- origin of the last operation on a slot, and the step that led to it (R243)
  codeOut : List Nat := []         -- pages of the code range whose lines are out of the instruction cache (R250, R305)
  codeG   : List Nat := []         -- pages of it fetched through leaves with G = 1 (R250)
deriving DecidableEq, Repr

/-- The values of a sequence slot an item latches at entry (R153). -/
structure Latch where
  slot    : Nat
  pos     : W32
  gen     : W32
  sampler : W64
  topp    : W32
  keyHi   : W64
  keyLo   : W64
deriving DecidableEq, Repr

/-- How far an accepted item has come (R172, R209, R211). -/
inductive ItemPhase where
  | walking | parked | waiting | assigned | running
deriving DecidableEq, Repr

/-- An accepted item (R202 to R215). -/
structure Item where
  ctx     : Nat
  q       : Nat
  idx     : W32
  desc    : List W64               -- the 16 words of R202
  opnds   : List (List W64)        -- the operand entries of R204, 8 words each
  phase   : ItemPhase
  die     : Nat := 7
  tcs     : List Nat := []
  tAccept : W64 := 0
  tAssign : W64 := 0
  tStart  : W64 := 0
  status  : Option Nat := none     -- first error status (R215)
  detail  : Nat := 0
  faultTc : Nat := 0xFF
  faultPc : W64 := 0
  latches : List Latch := []
  sums    : Tab W32 := []          -- PSQADV sums per slot (R153)
  kstat   : List (Nat × Nat) := [] -- PDONE values by rank (R215)
  faults  : List (Nat × Nat × Nat × W64) := []  -- Pacer faults: rank, core, cause, PC (R215)
  sat     : Nat := 0
  flush   : Nat := 0
  ended   : List Nat := []         -- tensor cores that have finished their part
  due     : Bool := false          -- its deadline has been reached (R180)
  slip    : Bool := false
  pages   : List (Nat × Nat) := [] -- unresolved pages: va / 4096, and access + 8 × stage + 16 × ADB as walked
  batch   : List Nat := []         -- pages of the batch requested and not yet resolved (R240)
deriving DecidableEq, Repr

/-- A context (R191, R192, R223). -/
structure Ctx where
  state   : Nat := 0               -- 0 DISABLED, 1 ENABLED, 2 TEARING_DOWN
  entry   : List W64 := []         -- the 16 words read at enable
  misses  : Nat := 0
  refusals : Nat := 0
  ewsel   : W64 := 0
deriving DecidableEq, Repr

/-- A queue (R196, R200). -/
structure Queue where
  tail      : W32 := 0
  accepted  : W32 := 0
  released  : W32 := 0
  completed : W32 := 0
  status    : Nat := 0
  parkedAt  : W32 := 0
  rereads   : Nat := 0             -- re-reads of the descriptor at ACCEPTED (R199)
  doneAhead : List W32 := []       -- completed ahead of the unbroken run
  relAhead  : List W32 := []       -- released ahead of the unbroken run (refusals)
deriving DecidableEq, Repr

structure Baton where
  value : W32 := 0
  ctl   : W64 := 0
  cond  : W64 := 0
deriving DecidableEq, Repr

/-- One round of a Relay group (R132 to R138). -/
structure Round where
  num      : Nat
  parts    : List (Nat × List Nat)        -- accepted contributions by rank (element codes)
  nodes    : List (Nat × Nat × List Nat)  -- computed tree nodes: level, node, elements
  waiting  : List (Nat × Nat × Nat)       -- (core, tag, rank) of DRLYs not completed
  items    : List Nat                     -- the item of each contribution (R140)
  arriving : List (Nat × Nat × List Byte) := []  -- node values of other chips as received so far (R358, R359)
  gathers  : List Nat := []               -- chips of this board whose part of a barrier is in (R358)
  gathered : Bool := false                -- this E9's message of the gather has been sent
deriving DecidableEq, Repr

/-- A Relay group (R128). -/
structure Group where
  gctl   : W64 := 0
  gshape : W64 := 0
  glocal : W64 := 0
  gchip  : W64 := 0
  gmap   : W64 := 0
  gbaton : W64 := 0
  ground : Nat := 0                       -- rounds completed since the start: GROUND shows the low 32 bits (R132)
  gabort : Nat := 0
  rounds : List Round := []
  counts : Tab Nat := []                  -- contributions issued per rank (R132)
deriving DecidableEq, Repr

/-- A sequence slot (R150). -/
structure Slot where
  ctl     : W64 := 0
  pos     : W32 := 0
  gen     : W32 := 0
  sampler : W64 := 0
  topp    : W32 := 0
  keyLo   : W64 := 0
  keyHi   : W64 := 0
  chk     : Option W32 := none     -- KEY_CHK as it still reads while its update is due
deriving DecidableEq, Repr

/-- The time-base unit (R158 to R170). -/
structure TimeBase where
  on       : Bool := false
  state    : Nat := 0
  now      : W64 := 0
  err      : Int := 0              -- phase error last measured, in ticks; the step pending in MISMATCH
  accepted : Bool := false
  raster   : Nat × Nat × Nat × Nat := (2250, 1, 24, 0)   -- lines, numerator, denominator, epoch in force
  pendRaster : Option (Nat × Nat × Nat × Nat) := none
  ref      : Nat := 0              -- reference in use: 0 none, 1 frame sync, 2 PTP
  fsGood   : Nat := 0
  fsBad    : Nat := 0
  fsValid  : Bool := false
  fsFrame  : Option Nat := none    -- FSYNC_FRAME written since the last edge
  fsSeen   : Bool := false
  ptpMaster : W64 := 0
  ptpRank  : Nat := 0
  ptpSeen  : Bool := false
  ptpGood  : Nat := 0
  ptpValid : Bool := false
  ptpReceipt : Option Nat := none  -- receipt of a two-step Sync awaiting its Follow_Up
  ptpSyncPair : Option (Nat × Nat) := none   -- last (origin, receipt)
  ptpSent  : Option Nat := none    -- Delay_Req sent
  ptpDelay : Nat := 0
  slewing  : Bool := false
deriving DecidableEq, Repr

/-- An armed or capturing Eclipse (R184 to R188): its parameters, the markers that have arrived, and what its units copied at E. -/
structure Eclipse where
  time    : W64
  ident   : W32
  buffer  : W64
  portSet : Nat
  baton   : Nat
  batonOp : Nat
  capturing : Bool := false
  seen    : List (Bool × Nat) := []   -- (on a port, port) or (on a link, 2 × link + direction)
  unlocked : Bool := false
  batons  : Tab Baton := []
  slots   : Tab Slot := []
  groups  : Tab Group := []
  ctxs    : Tab Ctx := []
  queues  : Tab Queue := []
  tbState : List Nat := []
  starters : List Nat := []
deriving DecidableEq, Repr

/-- A cached translation (R233). -/
structure Tlb where
  vmid : Nat
  asid : Nat
  vpn  : Nat                       -- first 4 KiB page
  size : Nat                       -- 4 KiB pages covered
  pa   : Nat
  glob : Bool
  perm : Nat                       -- bit 0 read, 1 write, 2 execute
  nc   : Bool
deriving DecidableEq, Repr

/-- A non-leaf entry of the master translation cache (R233): the table that an entry of stage 0 or 1 at `level` points to. -/
structure NonLeaf where
  vmid  : Nat
  asid  : Nat
  stage : Nat
  level : Nat
  pre   : Nat                      -- the address bits above the entry's span
  base  : Nat
deriving DecidableEq, Repr

/-- An outstanding page request (R245, R246). -/
structure PReq where
  tag    : Nat
  ctx    : Nat
  vpn    : Nat
  acc    : Nat
  stage  : Nat
  run    : Bool
  adb    : Bool
  item   : Nat
  written : Bool
deriving DecidableEq, Repr

structure InvCmd where
  kind : Nat
  arg0 : W64
  arg1 : W64
deriving DecidableEq, Repr

/-- The system translation unit (R254). -/
structure Stu where
  cfg     : W64 := 0
  prqBase : W64 := 0
  prqTail : W32 := 0
  prqHead : W32 := 0
  prqSrc  : Nat := 0
  badResp : Bool := false
  invOvf  : Bool := false
  werr    : Bool := false
  arg0    : W64 := 0
  arg1    : W64 := 0
  issued  : W32 := 0
  done    : W32 := 0
  baton   : W64 := 0
  cmds    : List InvCmd := []
  active  : Bool := false          -- the head command has started (R251)
  clusters : List Nat := []        -- clusters still to be invalidated
  ackOwed  : List Nat := []        -- clusters still to acknowledge
  engines  : List Nat := []        -- tensor cores still to acknowledge
  reqs    : List PReq := []
  posted  : List Nat := []         -- tags of the records written last, one after the other (R245)
  nextTag : Nat := 0
  master  : List Tlb := []
  walks   : List NonLeaf := []     -- non-leaf walk entries
  cluster : Tab (List Tlb) := []
  micro   : Tab (List Tlb) := []   -- key 2 × core + (1 for fetch)
deriving DecidableEq, Repr

/-- A line in a home LLC slice, or pushed into another slice (R282). -/
structure LlcLine where
  data   : LineData
  dirty  : Bool
  poison : Bool
  part   : Option Nat := none      -- partition whose fill allocated the line (R279)
  way    : Nat := 0
deriving DecidableEq, Repr

/-- Memory: HBM, what poisons it, and the LLC slices. Memory of the attached host is not the E9's: a read of it is a free value. -/
structure Mem where
  hbm    : Tab Byte := []
  poison : List Nat := []          -- poisoned lines in HBM
  llc    : List (Nat × LlcLine) := []   -- by line number
  plru   : Tab Nat := []           -- pseudo-LRU trees of the slices, key 65,536 × MD + set (R284)
  flaws  : List (Nat × Bool) := [] -- what the stacks' ECC reports for HBM reads of the command in hand: line, uncorrectable (R263, R264)
deriving DecidableEq, Repr

/-- A maintenance command (R290 to R292). -/
structure Maint where
  busy  : Bool := false
  op    : Nat := 0
  evt   : Bool := false
  base  : Nat := 0
  size  : Nat := 0
  cmdErr : Bool := false
  rangeErr : Bool := false
  left  : List Nat := []           -- lines whose open transaction the engine waits for (R291)
deriving DecidableEq, Repr

/-- A stream tracker of an MD (R289): the misses of one unit in one 4 KiB page. -/
structure Stream where
  unit   : Nat
  page   : Nat
  last   : Nat                     -- line of the last miss
  stride : Int                     -- in lines
  count  : Nat                     -- misses at that stride
deriving DecidableEq, Repr

/-- An MD (R265 to R280, R294). -/
structure Md where
  maint    : Maint := {}
  pgret    : List (Nat × Nat × Nat) := []   -- page, kind, count; oldest first
  pgOvf    : Bool := false
  pageCe   : Tab (List (Nat × Nat)) := []   -- corrected errors of a page by frame: (frame, count), newest first (R267)
  chanCe   : Tab (List (Nat × Nat)) := []   -- of a channel 32s + c of the tile (R269)
  cands    : List Nat := []        -- candidates 32 stack + channel, in channel order
  migrating : Option Nat := none
  retired  : List Nat := []        -- retired channels
  withdrawn : Bool := false
  noReserve : List Nat := []       -- candidates without reserve (R273)
  used     : Tab Nat := []         -- 128-byte accesses per partition in this 1 µs window
  mark     : Nat := 0              -- chunks of the migrating channel that the copy has passed (R272)
  streams  : List Stream := []     -- newest first (R289)
deriving DecidableEq, Repr

/-- States an agent holds a line in (R302). -/
inductive Moesi where
  | m | o | e | s
deriving DecidableEq, Repr

structure ALine where
  st     : Moesi
  data   : LineData
  poison : Bool
  part   : Option Nat := none      -- partition whose fill allocated the line (R279)
  way    : Nat := 0                -- way of its set (R282)
deriving DecidableEq, Repr

inductive DirSt where
  | ds | de | d_o | ts | tu | tw | te | tm
deriving DecidableEq, Repr

/-- A request a home serves (R309). -/
inductive CohKind where
  | gets | getm | promote | look | putplace | cashome
deriving DecidableEq, Repr

structure CohReq where
  kind   : CohKind
  req    : Nat                     -- agent, or requesting unit for Look, PutPlace, CasHome
  who    : Requester := ⟨9, 0, none⟩      -- on whose behalf (R261, R518)
  part   : Option Nat := none      -- its partition (R276)
  fill   : Nat := 0                -- kind of fill in a cluster L2: 0 tile DMA, 1 Pacer fetch, 2 write hint, 3 prefetch (R295)
  limit  : Nat := 8                -- COH_NACK_ESCALATE when the request was sent (R325)
  line   : Nat
  mask   : BitVec 256 := 0
  data   : LineData := 0
  hint   : Nat := 0
  hintId : Nat := 0
  old    : W64 := 0
  new    : W64 := 0
  word   : Nat := 0                -- which of the line's 16 words a CasHome names
  esc    : Bool := false
  nacks  : Nat := 0                -- consecutive Nacks received (R317)
deriving DecidableEq, Repr

/-- A VacData (`full`) or VacClean that waits in a writeback buffer of its home (R315). -/
structure Vac where
  agent  : Nat
  full   : Bool
  data   : LineData
  poison : Bool
  part   : Option Nat
deriving DecidableEq, Repr

/-- A directory entry (R306, R307): `was` is the stable state it closes into; `ds` without sharers stands for DI. -/
structure DirEnt where
  st      : DirSt
  owner   : Nat
  sharers : List Nat
  was     : DirSt
  req     : Option CohReq
  snoops  : List Nat               -- agents whose answer is awaited
  acks    : List Nat               -- agents whose GrantAck or PlaceAck is awaited
  fwd      : Bool                  -- the owner has supplied the requester
  vac     : List Vac               -- evictions that wait for the close
  push    : Bool := false          -- its PlaceData waits for one of the 64 outstanding pushes to its target (R308)
  way     : Nat := 0               -- way of its set (R306)
deriving DecidableEq, Repr

/-- A message in flight from or to a home (R309). -/
inductive CohMsg where
  | fwds (agent line req : Nat) | fwdm (agent line req : Nat) | inv (agent line : Nat) (discard : Bool)
  | peek (agent line : Nat) | flushd (agent line : Nat)
  | snack (agent line : Nat) (kept : Option Moesi) (fwd dirty wbp : Bool)
  | sndata (agent line : Nat) (kept : Option Moesi) (fwd dirty wbp poison : Bool) (data : LineData) (part : Option Nat)
  | grant (req line : Nat) (st : Option Moesi) (old : W64)
  | grantack (agent line : Nat)
  | nack (req : CohReq) (cause : Nat)
  | vacack (agent line : Nat)
  | placeack (agent line : Nat) (accept : Bool)
  | homefill (req line : Nat) (st : Option Moesi) (hbm poison : Bool) (data : LineData)   -- `hbm`: its read of HBM is still to come
  | ownerfill (own req line : Nat) (st : Moesi) (poison : Bool) (data : LineData)
  | placedata (agent line : Nat) (poison : Bool) (data : LineData)
  | vac (line : Nat) (v : Vac)     -- VacData or VacClean
deriving DecidableEq, Repr

/-- A request NACKed and to be retried (R317). -/
structure Retry where
  req   : CohReq
  waits : Bool                     -- waits at its unit for one of 4 escalations (R317)
deriving DecidableEq, Repr

structure Coh where
  dir     : List (Nat × DirEnt) := []
  lines   : List (Nat × Nat × ALine) := []    -- agent, line
  wb      : List (Nat × Nat × ALine) := []    -- writeback buffers
  near    : List (Nat × Nat) := []            -- (cluster, line) served by a slice (R314)
  net     : List CohMsg := []
  retries : List Retry := []
  escal   : List CohReq := []                 -- escalated requests at homes, oldest first
  open_   : List CohReq := []                 -- requests sent and not answered
  l2lru   : Tab Nat := []                     -- pseudo-LRU trees of the second-level caches, key 65,536 × agent + set (R284)
  dirlru  : Tab Nat := []                     -- and of the directories, key 65,536 × MD + set (R319)
  resv    : List (Nat × Nat) := []            -- application cores whose reserved line their group has kept: core, line
  streams : Tab (List (Nat × Nat)) := []      -- stream trackers of a cluster L2: core and slot, newest first (R288)
deriving DecidableEq, Repr

/-- What a codeword carries (R329, R330): 640 bytes of the packet stream and one sideband message. -/
structure Codeword where
  numbered : Bool := false
  kind     : Nat := 0              -- type of the sideband message
  value    : Nat := 0
  bytes    : List Byte := []
deriving DecidableEq, Repr

/-- What waits at a port to be sent: a packet, or the marker of an Eclipse (R330). -/
inductive TxItem where
  | packet (hdr : BitVec 256) (data : List Byte)
  | marker (id : Nat)
deriving DecidableEq, Repr

/-- An optical port (R326 to R338). -/
structure Port where
  state  : Nat := 0                -- R370
  role   : Nat := 0                -- role and peer taken at training (R337)
  peerId : Nat := 0
  retraining : Bool := false
  replacing : Option (Bool × Nat × Nat) := none
  queue  : List (Bool × Nat) := []
  limit  : Nat := 4000000          -- OPT_LANE_CORR_LIMIT as the open measurement window took it (R369)
  tx     : Side := {}
  rx     : Side := {}
  txNum  : Nat := 0                -- next number to send (R331)
  acked  : Nat := 0                -- first unacknowledged
  rxNum  : Nat := 0                -- next number expected
  nakOut : Bool := false           -- a replay is awaited
  credit : List Nat := [0, 0, 0]   -- 128-byte units that may be sent (R332)
  credIn : List Nat := [0, 0, 0]   -- last CREDIT values received
  returned : List Nat := [0, 0, 0] -- totals returned since training
  changed : List Bool := [false, false, false]
  peer   : List Nat := [0, 0, 0, 0]  -- STATE fields received since training
  told   : List Nat := [0, 0, 0, 0]  -- STATE fields as last announced (R370)
  seen   : List Bool := [false, false, false, false]
  lostAt : Option W64 := none      -- frame time at which it reported heartbeat loss (R364)
  queued : List TxItem := []       -- what waits for credit, for the replay buffer, or for response space
  replay : List Codeword := []     -- numbered codewords not yet acknowledged, the oldest first (R331)
  sent   : List (Nat × BitVec 256 × List Byte) := []   -- packets not yet acknowledged, with the number of their last codeword (R334)
  room   : List (Nat × Nat) := []  -- space reserved for responses: tag and units (R332)
  markIn : Option Nat := none      -- the first half of a marker that is arriving (R330)
  stream : List Byte := []         -- packet bytes received and not yet a whole packet (R333)
deriving DecidableEq, Repr

/-- A remote command in flight (R351 to R356). -/
structure RCmd where
  idx     : W32
  words   : List W64
  started : Bool := false
  packets : List Nat := []         -- tags outstanding
  status  : Nat := 0
  detail  : Nat := 0
  refused : Bool := false
  sent    : Nat := 0               -- bytes of its range that packets have been sent for
deriving DecidableEq, Repr

/-- A remote queue (R349, R357). -/
structure RQueue where
  cfg     : W64 := 0
  ring    : W64 := 0
  evtSrc  : Nat := 0
  tail    : W32 := 0
  read    : W32 := 0               -- commands read and decided
  done    : W32 := 0
  status  : Nat := 0
  parkedAt : W32 := 0
  rereads : Nat := 0
  doneAhead : List W32 := []       -- completed ahead of the unbroken run
  cmds    : List RCmd := []
deriving DecidableEq, Repr

/-- A packet this E9 has sent and waits for (R347, R354). -/
structure Pend where
  tag   : Nat
  kind  : Nat                      -- 0 window read, 1 window write, 2 PUT, 3 GET; 4 and 5 a transfer's window read and write; 6 another
                                   -- unit's window write; 7 its read, which the model answers at once
  chip  : Nat
  ac    : Nat
  rd    : Nat
  rq    : Nat
  cmd   : W32
  va    : Nat                      -- local address of a GET
  len   : Nat
  pa    : Nat
  off   : Nat := 0                 -- offset at the chip
  port  : Nat := 0                 -- the port its packet left on
  held  : Option (BitVec 256 × List Byte) := none   -- its packet still waits for earlier ones of a line (R341)
  who   : Requester := ⟨9, 15, none⟩   -- the unit that asked, of kind 6 (R518)
deriving DecidableEq, Repr

structure Chips where
  tab   : Tab Nat := []            -- chip table bytes (R370)
  down  : Tab Nat := []            -- planes that have reported a chip down (R344)
  incarn : Tab Nat := []           -- incarnation of a chip as verified, plus 1
  reasons : Tab Nat := []          -- reason of a lost chip's GOING_DOWN
  pend  : List Pend := []
  tag   : Nat := 0
  chipId : Nat := 0                -- CHIP_ID as read at start (R336)
  slotOk : Bool := true
deriving DecidableEq, Repr

/-- An interrupt file of a hart (R376), as its registers hold it. -/
structure IFile where
  delivery  : Nat := 0             -- eidelivery
  threshold : Nat := 0             -- eithreshold
  eie       : List Nat := []       -- identities enabled
deriving DecidableEq, Repr

/-- An application core (R372 to R376). -/
structure Core where
  on     : Bool := false
  halted : Bool := false
  pc     : W64 := 0
  insn   : W64 := 0                -- address of the instruction in hand
  x      : Tab W64 := []
  f      : Tab W64 := []           -- floating-point registers
  v      : Tab (BitVec 256) := []  -- vector registers, VLEN 256 (R373)
  priv   : Nat := 3                -- 0 user, 1 supervisor, 3 machine (R482)
  virt   : Bool := false           -- in a guest (R372)
  csr    : Tab W64 := []           -- control and status registers by number
  files  : Tab IFile := []         -- 0 machine, 1 supervisor, 2 to 8 guest (R376)
  dcsr   : W32 := 0                -- debug control of the core (R475)
  eip    : List (Nat × Nat) := []  -- pending identities (file, identity)
  waits  : Option Nat := none      -- the window access it waits for
  timer  : List Bool := [false, false]    -- machine and supervisor timer pending
  stimecmp  : W64 := 0             -- the compare values of Sstc (R374)
  vstimecmp : W64 := 0
  icache : List (Nat × LineData) := []    -- lines its instruction cache may hold since its last FENCE.I (R373, R375)
  resv   : Option Nat := none      -- reservation of a load-reserved (R372)
  tlb    : List CoreTlb := []      -- its own translations (R236)
deriving DecidableEq, Repr

/-- A read of the attached-host window that has no completion yet (R378): an application core's, or one piece of a tensor core's transfer. -/
structure PRead where
  tag  : Nat
  ac   : Nat                       -- application core or tensor core
  rd   : Nat                       -- register, plus 32 where the load is signed; of a transfer its tag
  size : Nat
  pa   : Nat
  dma  : Bool := false
deriving DecidableEq, Repr

/-- A PCIe controller (R377 to R386). -/
structure Pcie where
  rate   : Nat := 0
  width  : Nat := 0
  discards : Nat := 0
  pins   : List Bool := [false, false, false, false]
  reads  : List PRead := []        -- reads outstanding
  barLog : Nat := 0                -- log2 of BAR4's size in GiB (R380)
  cfg    : Tab W32 := []           -- the endpoint's header words that software writes, by number: command, BARs, interrupt line (R380)
  msixEn : Bool := false           -- MSI-X Enable (R397)
  msixMask : Bool := false         -- Function Mask
  devCtl : W32 := 0x2810           -- Device Control
  aer    : Tab W32 := []           -- Advanced Error Reporting, by role (R377)
deriving DecidableEq, Repr

/-- A source of the Signal Concentrator (R391 to R394). -/
structure Src where
  cfg    : W64 := 0
  pend   : Bool := false
  level  : Bool := false
  insvc  : Bool := false
  detail : W32 := 0
  time   : W64 := 0
deriving DecidableEq, Repr

structure SigCon where
  src    : Tab Src := []
  evqTail : W32 := 0
  ovf    : Bool := false
  cfgErr : Bool := false
  werr   : Bool := false
  unrouted : Nat := 0
  fastDropped : Nat := 0
  pba    : List Nat := []          -- MSI-X vectors held in the Pending Bit Array (R397)
deriving DecidableEq, Repr

/-- Power, thermal control and ageing (R402 to R425). -/
structure Power where
  rails    : List Nat := []        -- last rail powers, milliwatts
  lostRails : List Nat := []       -- regulators left out (R510)
  level    : Nat := 0              -- L
  sinceUp  : Nat := 10             -- control steps since the last step up
  sinceGuard : Nat := 10           -- control steps since a guard acted
  acted    : Bool := false         -- a guard acted since the last control step
  mode     : Nat := 0              -- POWER_MODE in force: as the last control step found it (R423)
  thermal  : Tab Nat := []         -- thermal level per CD
  thermAge : Tab Nat := []         -- steps since the thermal level changed
  topLevel : Tab Nat := []
  lap      : Tab Nat := []         -- Lap emergency levels
  guardAdd : Nat := 0
  guardOn  : Bool := false
  fastOn   : Bool := false
  point    : Tab Nat := []         -- operating point per CD
  target   : Tab Nat := []         -- change under way, plus 1
  adDrop   : Tab Nat := []         -- 400 MHz steps lowered per AD
  adAge    : Tab Nat := []
  boost    : Tab Nat := []         -- millivolts raised by Lap action per window
  volts    : Tab Nat := []         -- millivolts in use, key 16 × window + point, plus 1
  replan   : Bool := false
  wantPlan : Bool := false
  dieTemps : List Int := []
  hbmTemps : List Int := []
  est      : List Nat := []        -- die estimates, milliwatts
  hist     : List Nat := []        -- package power at each rail reading, newest first, milliwatts: 10 s of them
deriving DecidableEq, Repr

/-- An open segment session (R436). -/
structure Sess where
  via   : Via
  key   : Nat
  write : Bool
  total : Nat
  nextOff : Nat
  data  : List Byte
deriving DecidableEq, Repr

/-- A kept response (R438). -/
structure Kept where
  via  : Via
  svc  : Nat
  tid  : Nat
  key  : Nat
  off  : Nat
  frame : Option Nat               -- frame of the request last answered so; none where frame time stood still
  resp : Emit
deriving DecidableEq, Repr

/-- A mailbox channel (R443). -/
structure Mbox where
  busy : Bool := false
  done : Bool := false
  ovr  : Bool := false
  len  : Nat := 0
  rsp  : List Byte := []
deriving DecidableEq, Repr

/-- An event message that waits for others of its object (R446): `since` is when the first of them was raised. -/
structure EvtMsg where
  index : Nat
  sub   : Nat
  since : W64
  time  : W64
  seq   : Nat
  value : Nat
deriving DecidableEq, Repr

structure Claryn where
  events : List EvtMsg := []       -- oldest first
  waiting : List (Via × List Byte) := []   -- messages that wait, oldest first (R432)
  sess   : List Sess := []
  aborted : List (Via × Nat) := []   -- write sessions discarded before their end (R437)
  kept   : List Kept := []
  mb0    : Mbox := {}
  mb1    : Mbox := {}
  hbSeq  : Nat := 0
  evSeq  : Nat := 0
  tec    : Nat := 0                -- CAN FD error counters (R440)
  rec_   : Nat := 0
  dhcp   : Bool := false           -- DHCPv4 is in use since the start
  lease  : Bool := false           -- a DHCPv4 lease is held
  offered : Nat := 0
  storing : Nat := 0               -- 0 none, 1 values, 2 defaults (R448)
  storeNums : List (Nat × Nat) := []
  storeOcts : List (Nat × List Byte) := []
deriving DecidableEq, Repr

/-- The debug module of the application cores (R475). -/
structure Dm where
  active : Bool := false
  hart   : Nat := 0                -- hartsel
  data0  : W32 := 0
  data1  : W32 := 0
  cmderr : Nat := 0
  acked  : List Nat := []          -- harts whose resume is acknowledged
deriving DecidableEq, Repr

/-- The security controller (R453 to R478). -/
structure Security where
  badSigs  : Nat := 0
  badUnlocks : Nat := 0
  badTags  : Nat := 0
  odk      : Option (BitVec 128) := none
  challenge : List Byte := []
  change   : List Byte := []
  sigOwner : List Byte := []
  sigCust  : List Byte := []
  debug    : Nat := 0              -- DEBUG_LEVEL
  dm       : Dm := {}              -- the debug module behind the port
  staged   : Option FwSlot := none -- image under FW_UPDATE_CMD (R461)
  stagedCode : Nat := 0
  bankSeq  : Nat := 0
  haltClaryn : Bool := false
  haltSec  : Bool := false
  ctrlMem  : Tab Byte := []        -- bytes written in the controllers' memories, key 2a + which: 256 KiB of SRAM behind 64 KiB of ROM (R453)
  sealKey  : List Byte := []       -- derived at the start (R457, R458)
  idKek    : List Byte := []       -- the identity key encryption key, likewise
  pc       : W32 := 0              -- the security controller's core (R453)
  x        : Tab W32 := []
deriving DecidableEq, Repr

/-- Why a step can stop with a fault. -/
inductive Fault where
  /-- Raised by a command whose operand names a unit outside the ranges of R8 (a tensor core above 191, a queue above 3):
  no such unit exists, so no such command can be sent. Safe: the model stops where the hardware has nothing. -/
  | noSuchUnit
deriving DecidableEq, Repr

/-- Why a step can be refused. -/
inductive Refusal where
  /-- Raised by an arm of Dispatch whose meaning is not written yet. Safe: nothing can be proved of it. -/
  | notModelled (mnemonic : String)
deriving DecidableEq, Repr

/-- The E9. -/
structure State where
  pending : List Instr := []       -- commands waiting, first in first out
  fresh   : Nat := 0               -- the model's own: how many free values have been drawn
  out     : List Emit := []        -- what the E9 has sent, newest first
  boot    : Boot := {}
  fuse    : Fuse := {}
  flash   : Flash := {}
  faults  : Faults := {}
  present : Nat := 0               -- DIE_PRESENT (R40)
  links   : Tab Link := []
  alt     : Tab (List Nat) := []   -- alternate segments in the routers, by link (R21)
  pendAlt : List Nat := []         -- failed links whose new paths are being installed (R33)
  obj     : Tab Nat := []          -- numeric dictionary objects, key 256 × index + sub; the default of its row when unlisted
  oct     : Tab (List Byte) := []  -- STR and OCTETS objects
  regs    : Tab W64 := []          -- plain registers by physical address; the reset of its row when unlisted
  tcs     : Tab TCore := []
  items   : Tab Item := []         -- accepted and not completed, by acceptance number
  nextAcc : Nat := 0               -- next acceptance number (R205)
  rr      : Nat := 0               -- queue served last, 4 × context + queue (R205)
  ctxs    : Tab Ctx := []
  queues  : Tab Queue := []        -- key 4 × context + queue
  cmdStat : Nat := 0               -- SUB.CTX_CMDSTAT result
  cmdBusy : Bool := false
  bindErr : Bool := false
  ctxBase : W64 := 0
  batons  : Tab Baton := []
  groups  : Tab Group := []
  slots   : Tab Slot := []
  tb      : TimeBase := {}
  ecl     : Option Eclipse := none
  stu     : Stu := {}
  mem     : Mem := {}
  mds     : Tab Md := []
  l2maint : Tab Maint := []        -- clusters 0 to 23, groups at 24 + n
  coh     : Coh := {}
  ports   : Tab Port := []
  chips   : Chips := {}
  rqs     : Tab RQueue := []
  cores   : Tab Core := []
  mtime   : W64 := 0
  pcie    : Tab Pcie := []
  sc      : SigCon := {}
  pwr     : Power := {}
  cla     : Claryn := {}
  sec     : Security := {}
  routes  : Tab (List Nat) := []   -- the path each router holds, key 16 × source die + destination die (R19, R21)
deriving DecidableEq, Repr

/-- The E9 before power is applied: every register at the reset or default value its table gives
(the unlisted entry of each table), every queue empty. -/
def State.reset : State := {}

end Sys2Proof.Machine
end

