-- ==== Sys2Proof/Machine/Tab.lean ====
section
/-! DEFINITION. Tables with a default, and small list helpers. A table lists only entries that differ from its default, by rising key. -/

namespace Sys2Proof.Machine

open Sys2Proof

/-- The entry at `i`, or the default. -/
def tget {α : Type} (d : α) : Tab α → Nat → α
  | [], _ => d
  | (k, v) :: r, i => if k = i then v else tget d r i

/-- Write `v` at `i`, keeping keys rising and listing no default. -/
def tset {α : Type} [DecidableEq α] (d : α) (t : Tab α) (i : Nat) (v : α) : Tab α :=
  match t with
  | [] => if v = d then [] else [(i, v)]
  | (k, w) :: r =>
    if i < k then (if v = d then (k, w) :: r else (i, v) :: (k, w) :: r)
    else if i = k then (if v = d then r else (i, v) :: r)
    else (k, w) :: tset d r i v

def tmod {α : Type} [DecidableEq α] (d : α) (t : Tab α) (i : Nat) (f : α → α) : Tab α :=
  tset d t i (f (tget d t i))

/-- Keys rise strictly above `lo`, and no entry equals the default. -/
def twfFrom {α : Type} [DecidableEq α] (d : α) (lo : Nat) : Tab α → Bool
  | [] => true
  | (k, v) :: r => decide (lo ≤ k) && decide (v ≠ d) && twfFrom d (k + 1) r

/-- The canonical form of a table. -/
def twf {α : Type} [DecidableEq α] (d : α) (t : Tab α) : Bool := twfFrom d 0 t

/-- `n` little-endian bytes from address `a` (R10). -/
def tbytes (t : Tab Byte) (a : Nat) : Nat → List Byte
  | 0 => []
  | n + 1 => tget 0 t a :: tbytes t (a + 1) n

/-- Little-endian value of a byte list (R10). -/
def leNat : List Byte → Nat
  | [] => 0
  | b :: r => b.toNat + 256 * leNat r

/-- The `n` little-endian bytes of a number. -/
def leBytes : Nat → Nat → List Byte
  | 0, _ => []
  | n + 1, v => BitVec.ofNat 8 v :: leBytes n (v / 256)

/-- Big-endian value of a byte list. -/
def beNat (l : List Byte) : Nat := leNat l.reverse

def beBytes (n v : Nat) : List Byte := (leBytes n v).reverse

/-- Write bytes from address `a` upwards. -/
def tputs (t : Tab Byte) (a : Nat) : List Byte → Tab Byte
  | [] => t
  | b :: r => tputs (tset 0 t a b) (a + 1) r

/-- Bits [hi:lo] of a number. -/
def bitsOf (hi lo v : Nat) : Nat := (v >>> lo) % 2 ^ (hi - lo + 1)

/-- Bits [hi:lo] of a 64-bit word. -/
def fld (hi lo : Nat) (w : W64) : Nat := bitsOf hi lo w.toNat

def bit (i : Nat) (w : W64) : Bool := w.getLsbD i

/-- `w` with bits [hi:lo] replaced. -/
def setFld (hi lo v : Nat) (w : W64) : W64 :=
  let m : W64 := BitVec.ofNat 64 ((2 ^ (hi - lo + 1) - 1) <<< lo)
  (w &&& ~~~ m) ||| (BitVec.ofNat 64 (v <<< lo) &&& m)

/-- `w` with the bits of mask `m` taken from `v`: R12's reserved bits are those outside `m`. -/
def maskWrite (m : Nat) (w v : W64) : W64 :=
  (w &&& ~~~ (BitVec.ofNat 64 m)) ||| (v &&& BitVec.ofNat 64 m)

/-- A list with one element replaced. -/
def lset {α : Type} (l : List α) (i : Nat) (v : α) : List α := l.set i v

/-- First element satisfying `p`, and the rest of the list in order. -/
def takeFirst {α : Type} (p : α → Bool) : List α → Option (α × List α)
  | [] => none
  | x :: r => if p x then some (x, r) else (takeFirst p r).map fun y => (y.1, x :: y.2)

/-- Insert into a rising list without repeats. -/
def insNat (n : Nat) : List Nat → List Nat
  | [] => [n]
  | k :: r => if n < k then n :: k :: r else if n = k then k :: r else k :: insNat n r

/-- Each number once, in order of first occurrence. -/
def nubNat : List Nat → List Nat
  | [] => []
  | n :: r => n :: (nubNat r).filter fun m => decide (m ≠ n)

/-- Association lists keyed by line or by pairs. -/
def aget {κ α : Type} [DecidableEq κ] (l : List (κ × α)) (k : κ) : Option α :=
  match l with
  | [] => none
  | (j, v) :: r => if j = k then some v else aget r k

def adel {κ α : Type} [DecidableEq κ] (l : List (κ × α)) (k : κ) : List (κ × α) :=
  l.filter fun e => decide (e.1 ≠ k)

def aput {κ α : Type} [DecidableEq κ] (l : List (κ × α)) (k : κ) (v : α) : List (κ × α) :=
  (k, v) :: adel l k

/-- Numbers from `a` counting `n`. -/
def upto (a : Nat) : Nat → List Nat
  | 0 => []
  | n + 1 => a :: upto (a + 1) n

end Sys2Proof.Machine
end

