-- ==== Sys2Proof/Machine/Dict.lean ====
section
/-! DEFINITION. The rows of the object dictionary (R5, R36, R40, R170, R182, R188, R255, R281, R298 to R300, R325, R369, R370,
R424, R425, R452, R462, R496): type, access, default, range and unit of each, as DESCRIBE gives them (R439). -/

namespace Sys2Proof.Machine

open Sys2Proof

/-- The units an object's subindices number: the object exists while its unit does (R430). -/
inductive ObjUnit where
  | none | link | cd | md | port | die | stack | ad | group | pcie
deriving DecidableEq, Repr

/-- A dictionary row: `count` subindices from `sub`; type and access codes of R427 and R428; `max` 0 with `min` 0 for no range;
`len` the largest value in bytes; `effect` and `dflt` as R439 states; bits from `top` up are reserved (64 for none). -/
structure Row where
  index  : Nat
  sub    : Nat
  count  : Nat
  ty     : Nat
  acc    : Nat
  dflt   : Option Nat
  min    : Nat
  max    : Nat
  len    : Nat
  effect : Nat
  top    : Nat
  unit   : ObjUnit
  name   : String
deriving DecidableEq, Repr

/-- Rows from 0x1000.01. -/
def dictPart0 : List Row :=
  [⟨0x1000, 1, 1, 8, 0, none, 0, 0, 8, 0, 64, .none, "VENDOR_NAME"⟩,
   ⟨0x1000, 2, 1, 8, 0, none, 0, 0, 9, 0, 64, .none, "DEVICE_NAME"⟩,
   ⟨0x1000, 3, 1, 8, 2, none, 0, 0, 128, 0, 64, .none, "NODE_LABEL"⟩,
   ⟨0x1008, 1, 1, 8, 0, none, 0, 0, 5, 0, 64, .none, "PART_NUMBER"⟩,
   ⟨0x1008, 2, 1, 2, 0, none, 0, 0, 2, 0, 64, .none, "STEPPING"⟩,
   ⟨0x1009, 1, 1, 9, 0, none, 0, 0, 16, 0, 64, .none, "SERIAL"⟩,
   ⟨0x100A, 1, 1, 3, 1, none, 0, 0, 4, 0, 64, .none, "CLARYN_FW"⟩,
   ⟨0x100A, 2, 1, 3, 1, none, 0, 0, 4, 0, 64, .none, "SECURITY_FW"⟩,
   ⟨0x100B, 1, 1, 2, 0, some 256, 0, 0, 2, 0, 64, .none, "DICT_VERSION"⟩,
   ⟨0x1010, 1, 1, 1, 1, none, 0, 0, 1, 0, 64, .none, "CD_COUNT"⟩,
   ⟨0x1010, 2, 1, 1, 1, none, 0, 0, 1, 0, 64, .none, "PORT_COUNT"⟩,
   ⟨0x1010, 3, 1, 2, 1, none, 0, 0, 2, 0, 64, .none, "DIE_PRESENT"⟩,
   ⟨0x1010, 4, 1, 4, 1, none, 0, 0, 8, 0, 64, .none, "LINK_STATE"⟩,
   ⟨0x1010, 5, 1, 3, 1, none, 0, 0, 4, 0, 64, .none, "DISCOVERY_TIME"⟩,
   ⟨0x1100, 1, 1, 1, 1, none, 0, 0, 1, 0, 64, .none, "CAN_NODE_ID"⟩,
   ⟨0x1100, 2, 1, 1, 2, some 5, 1, 5, 1, 2, 64, .none, "CAN_DATA_RATE"⟩,
   ⟨0x1100, 3, 1, 1, 1, some 0, 0, 0, 1, 0, 64, .none, "CAN_STATE"⟩,
   ⟨0x1100, 4, 1, 3, 1, some 0, 0, 0, 4, 0, 64, .none, "CAN_BUS_OFFS"⟩,
   ⟨0x1101, 1, 1, 9, 0, none, 0, 0, 6, 0, 64, .none, "ETH_MAC"⟩,
   ⟨0x1101, 2, 1, 1, 2, some 1, 0, 1, 1, 2, 64, .none, "IP_MODE"⟩,
   ⟨0x1101, 3, 1, 3, 2, some 0, 0, 0, 4, 2, 64, .none, "IP_ADDR"⟩,
   ⟨0x1101, 4, 1, 1, 2, some 24, 8, 30, 1, 2, 64, .none, "IP_PREFIX"⟩,
   ⟨0x1101, 5, 1, 3, 2, some 0, 0, 0, 4, 2, 64, .none, "IP_GATEWAY"⟩,
   ⟨0x1101, 6, 1, 3, 1, some 0, 0, 0, 4, 0, 64, .none, "IP_NOW"⟩]

/-- Rows from 0x1101.07. -/
def dictPart1 : List Row :=
  [⟨0x1101, 7, 1, 1, 1, some 0, 0, 0, 1, 0, 64, .none, "ETH_LINK"⟩,
   ⟨0x1102, 1, 4, 4, 2, some 0, 0, 0, 8, 0, 38, .none, "MGR_ALLOW"⟩,
   ⟨0x1103, 1, 2, 4, 2, some 0, 0, 0, 8, 0, 48, .none, "MGR_DEST"⟩,
   ⟨0x1104, 1, 1, 2, 2, some 100, 10, 10000, 2, 0, 64, .none, "HB_PERIOD"⟩,
   ⟨0x1104, 2, 1, 0, 2, some 1, 0, 0, 1, 0, 64, .none, "EVT_CAN"⟩,
   ⟨0x1104, 3, 1, 0, 2, some 1, 0, 0, 1, 0, 64, .none, "EVT_UDP"⟩,
   ⟨0x1105, 1, 1, 3, 1, some 0, 0, 0, 4, 0, 64, .none, "UDP_DROPPED"⟩,
   ⟨0x1105, 2, 1, 4, 1, some 0, 0, 0, 8, 0, 64, .none, "REQ_SERVED"⟩,
   ⟨0x1106, 1, 1, 1, 3, none, 1, 2, 1, 0, 64, .none, "STORE_CMD"⟩,
   ⟨0x1106, 2, 1, 1, 1, some 0, 0, 0, 1, 0, 64, .none, "STORE_STATE"⟩,
   ⟨0x1106, 3, 1, 3, 1, none, 0, 0, 4, 0, 64, .none, "STORE_SEQ"⟩,
   ⟨0x1F00, 1, 1, 1, 1, none, 0, 0, 1, 0, 64, .none, "RUN_STATE"⟩,
   ⟨0x1F00, 2, 1, 2, 3, none, 0, 0, 2, 0, 64, .none, "RESET_CMD"⟩,
   ⟨0x1F00, 3, 1, 0, 3, none, 0, 0, 1, 0, 64, .none, "HOLD_RELEASE"⟩,
   ⟨0x2120, 1, 1, 3, 2, some 16, 0, 0, 4, 3, 64, .none, "LANE_ERR_LIMIT"⟩,
   ⟨0x2120, 2, 1, 2, 2, some 64, 0, 0, 2, 3, 64, .none, "LANE_EYE_MIN"⟩,
   ⟨0x2121, 1, 1, 3, 2, some 4000000, 0, 0, 4, 3, 64, .none, "OPT_LANE_CORR_LIMIT"⟩,
   ⟨0x2121, 2, 1, 2, 2, some 48, 0, 0, 2, 3, 64, .none, "OPT_LANE_EYE_MIN"⟩,
   ⟨0x2200, 1, 1, 2, 2, some 8, 0, 0, 2, 0, 64, .none, "PGRET_CE_LIMIT"⟩,
   ⟨0x2200, 2, 1, 3, 2, some 4096, 0, 0, 4, 0, 64, .none, "CH_CE_LIMIT"⟩,
   ⟨0x2200, 3, 1, 2, 2, some 24, 1, 168, 2, 0, 64, .none, "SCRUB_PERIOD"⟩,
   ⟨0x2300, 1, 1, 1, 2, some 8, 2, 32, 1, 3, 64, .none, "COH_NACK_ESCALATE"⟩,
   ⟨0x2300, 2, 1, 2, 2, some 32, 8, 256, 2, 3, 64, .none, "COH_RETRY_STEP"⟩,
   ⟨0x2400, 1, 1, 2, 2, none, 0, 4095, 2, 2, 64, .none, "CHIP_ID"⟩]

/-- Rows from 0x2400.02. -/
def dictPart2 : List Row :=
  [⟨0x2400, 2, 1, 1, 1, none, 0, 0, 1, 0, 64, .none, "BOARD_SLOT"⟩,
   ⟨0x2400, 3, 1, 3, 1, none, 0, 0, 4, 0, 64, .none, "INCARNATION"⟩,
   ⟨0x2400, 4, 1, 2, 2, some 0, 0, 0, 2, 0, 64, .none, "REMOTE_BATON_FIRST"⟩,
   ⟨0x2400, 5, 1, 2, 2, some 0, 0, 0, 2, 0, 64, .none, "REMOTE_BATON_COUNT"⟩,
   ⟨0x2401, 1, 24, 1, 2, none, 0, 2, 1, 0, 64, .port, "PORT_ROLE"⟩,
   ⟨0x2402, 1, 24, 1, 2, none, 0, 0, 1, 0, 64, .port, "PORT_PEER"⟩,
   ⟨0x3120, 1, 17, 1, 1, some 8, 0, 0, 1, 0, 64, .link, "LINK_SPARES_FREE"⟩,
   ⟨0x3121, 1, 17, 4, 1, some 0, 0, 0, 8, 0, 64, .link, "LINK_REPLAYS"⟩,
   ⟨0x3122, 1, 17, 2, 1, none, 0, 0, 2, 0, 64, .link, "LINK_EYE_WORST"⟩,
   ⟨0x3123, 1, 6, 4, 1, some 0, 0, 0, 8, 0, 64, .cd, "BOND_CORRECTED"⟩,
   ⟨0x3200, 1, 6, 4, 1, some 0, 0, 0, 8, 0, 64, .cd, "DEADLINE_MISSES"⟩,
   ⟨0x3201, 1, 6, 4, 1, some 0, 0, 0, 8, 0, 64, .cd, "RELEASE_SLIPS"⟩,
   ⟨0x3202, 1, 6, 3, 1, some 0, 0, 0, 4, 0, 64, .cd, "SLIP_MAX"⟩,
   ⟨0x3203, 1, 6, 1, 1, some 4, 0, 0, 1, 0, 64, .cd, "ISSUE_ALLOWANCE"⟩,
   ⟨0x3300, 1, 1, 4, 1, some 0, 0, 0, 8, 0, 64, .none, "STU_WALKS"⟩,
   ⟨0x3300, 2, 1, 4, 1, some 0, 0, 0, 8, 0, 64, .none, "STU_PAGE_REQUESTS"⟩,
   ⟨0x3300, 3, 1, 4, 1, some 0, 0, 0, 8, 0, 64, .none, "STU_INVALIDATIONS"⟩,
   ⟨0x3300, 4, 1, 3, 1, some 0, 0, 0, 4, 0, 64, .none, "STU_INV_TIME_MAX"⟩,
   ⟨0x3300, 5, 1, 3, 1, some 0, 0, 0, 4, 0, 64, .none, "STU_PARKED"⟩,
   ⟨0x3400, 1, 16, 4, 1, some 0, 0, 0, 8, 0, 64, .none, "PART_HBM_BYTES"⟩,
   ⟨0x3401, 1, 6, 4, 1, some 0, 0, 0, 8, 0, 64, .md, "HBM_CORRECTED"⟩,
   ⟨0x3402, 1, 6, 4, 1, some 0, 0, 0, 8, 0, 64, .md, "HBM_UNCORRECTABLE"⟩,
   ⟨0x3403, 1, 1, 4, 1, none, 0, 0, 8, 0, 64, .none, "HBM_CAPACITY"⟩,
   ⟨0x3500, 1, 6, 4, 1, some 0, 0, 0, 8, 0, 64, .md, "COH_NACKS"⟩]

/-- Rows from 0x3501.01. -/
def dictPart3 : List Row :=
  [⟨0x3501, 1, 6, 4, 1, some 0, 0, 0, 8, 0, 64, .md, "COH_ESCALATED"⟩,
   ⟨0x3502, 1, 6, 4, 1, some 0, 0, 0, 8, 0, 64, .md, "DIR_EVICTIONS"⟩,
   ⟨0x3503, 1, 6, 4, 1, some 0, 0, 0, 8, 0, 64, .md, "DIR_SET_TRANSIENT"⟩,
   ⟨0x3504, 1, 6, 4, 1, some 0, 0, 0, 8, 0, 64, .md, "COH_PUSH_DECLINED"⟩,
   ⟨0x3505, 1, 6, 4, 1, some 0, 0, 0, 8, 0, 64, .md, "DIR_CORRECTED"⟩,
   ⟨0x3600, 1, 24, 1, 1, some 0, 0, 0, 1, 0, 64, .port, "PORT_STATE"⟩,
   ⟨0x3601, 1, 24, 4, 1, some 0, 0, 0, 8, 0, 64, .port, "PORT_CORRECTED"⟩,
   ⟨0x3602, 1, 24, 4, 1, some 0, 0, 0, 8, 0, 64, .port, "PORT_REPLAYS"⟩,
   ⟨0x3603, 1, 24, 3, 1, some 0, 0, 0, 4, 0, 64, .port, "PORT_PEER_SEEN"⟩,
   ⟨0x3604, 1, 1, 4, 1, some 0, 0, 0, 8, 0, 64, .none, "CHIPS_LOST"⟩,
   ⟨0x4000, 1, 1, 2, 2, some 2400, 700, 2600, 2, 3, 64, .none, "POWER_CAP"⟩,
   ⟨0x4000, 2, 1, 2, 2, some 4000, 1000, 10000, 2, 3, 64, .none, "CAP_WINDOW"⟩,
   ⟨0x4000, 3, 1, 1, 2, some 0, 0, 1, 1, 3, 64, .none, "POWER_MODE"⟩,
   ⟨0x4000, 4, 1, 2, 2, some 20, 10, 200, 2, 3, 64, .none, "RAMP_TIME"⟩,
   ⟨0x4000, 5, 1, 2, 2, some 3200, 1200, 3200, 2, 0, 64, .none, "AC_FREQ_MAX"⟩,
   ⟨0x4010, 1, 1, 3, 1, none, 0, 0, 4, 0, 64, .none, "POWER_NOW"⟩,
   ⟨0x4010, 2, 1, 3, 1, none, 0, 0, 4, 0, 64, .none, "POWER_AVG"⟩,
   ⟨0x4010, 3, 1, 1, 1, some 0, 0, 0, 1, 0, 64, .none, "PKG_LEVEL"⟩,
   ⟨0x4010, 4, 1, 1, 1, some 0, 0, 0, 1, 0, 64, .none, "LIMIT_CAUSE"⟩,
   ⟨0x4010, 5, 1, 0, 1, some 0, 0, 0, 1, 0, 64, .none, "CAP_UNATTAINABLE"⟩,
   ⟨0x4010, 6, 1, 3, 1, some 0, 0, 0, 4, 0, 64, .none, "FAST_LIMIT_HITS"⟩,
   ⟨0x4010, 7, 1, 3, 1, some 0, 0, 0, 4, 0, 64, .none, "SUPPLY_GUARD_HITS"⟩,
   ⟨0x4010, 8, 1, 0, 2, some 0, 0, 0, 1, 0, 64, .none, "FIXED_LAPSED"⟩,
   ⟨0x4011, 1, 6, 1, 1, some 0, 0, 0, 1, 0, 64, .cd, "DIE_LEVEL"⟩]

/-- Rows from 0x4012.01. -/
def dictPart4 : List Row :=
  [⟨0x4012, 1, 16, 2, 1, none, 0, 0, 2, 0, 64, .die, "DIE_POWER"⟩,
   ⟨0x4013, 1, 2, 2, 1, some 3200, 0, 0, 2, 0, 64, .ad, "AD_FREQ"⟩,
   ⟨0x4100, 1, 1, 1, 2, some 95, 80, 100, 1, 0, 64, .none, "THERM_THROTTLE"⟩,
   ⟨0x4100, 2, 1, 1, 0, some 110, 0, 0, 1, 0, 64, .none, "THERM_CRIT"⟩,
   ⟨0x4100, 3, 1, 1, 0, some 70, 0, 0, 1, 0, 64, .none, "THERM_RESTART"⟩,
   ⟨0x4100, 4, 1, 1, 0, some 90, 0, 0, 1, 0, 64, .none, "HBM_THROTTLE"⟩,
   ⟨0x4100, 5, 1, 1, 0, some 95, 0, 0, 1, 0, 64, .none, "HBM_CRIT"⟩,
   ⟨0x4101, 1, 16, 5, 1, none, 0, 0, 4, 0, 64, .die, "DIE_TEMP"⟩,
   ⟨0x4102, 1, 24, 5, 1, none, 0, 0, 4, 0, 64, .stack, "HBM_TEMP"⟩,
   ⟨0x4103, 1, 1, 3, 1, some 0, 0, 0, 4, 0, 64, .none, "THERM_EVENTS"⟩,
   ⟨0x4200, 1, 1, 3, 1, none, 0, 0, 4, 0, 64, .none, "POWERED_HOURS"⟩,
   ⟨0x4200, 2, 1, 0, 3, none, 0, 0, 1, 0, 64, .none, "REPLAN_CMD"⟩,
   ⟨0x4200, 3, 1, 1, 1, some 0, 0, 0, 1, 0, 64, .none, "REPLAN_STATE"⟩,
   ⟨0x4200, 4, 1, 3, 1, none, 0, 0, 4, 0, 64, .none, "REPLAN_HOURS"⟩,
   ⟨0x4200, 5, 1, 1, 0, some 15, 0, 0, 1, 0, 64, .none, "LAP_GUARD"⟩,
   ⟨0x4201, 1, 16, 5, 1, none, 0, 0, 4, 0, 64, .die, "MARGIN_MV"⟩,
   ⟨0x4202, 1, 16, 3, 1, none, 0, 0, 4, 0, 64, .die, "MARGIN_HOURS"⟩,
   ⟨0x4203, 1, 6, 1, 1, some 0, 0, 0, 1, 0, 64, .cd, "CD_TOP_LEVEL"⟩,
   ⟨0x4204, 1, 6, 9, 1, none, 0, 0, 16, 0, 64, .cd, "CD_OP_VOLTAGE"⟩,
   ⟨0x5000, 1, 1, 1, 1, some 0, 0, 0, 1, 0, 64, .none, "PROT_STATE"⟩,
   ⟨0x5000, 2, 1, 3, 1, some 0, 0, 0, 4, 0, 64, .none, "PROT_SEQ"⟩,
   ⟨0x5000, 3, 1, 2, 1, none, 0, 0, 2, 0, 64, .none, "PROT_COMMITS_LEFT"⟩,
   ⟨0x5000, 4, 1, 9, 1, none, 0, 0, 32, 0, 64, .none, "PROT_DIGEST"⟩,
   ⟨0x5001, 1, 1, 9, 4, none, 0, 0, 64, 0, 64, .none, "OWNER_PUB"⟩]

/-- Rows from 0x5001.02. -/
def dictPart5 : List Row :=
  [⟨0x5001, 2, 1, 9, 4, none, 0, 0, 64, 0, 64, .none, "CUSTODIAN_PUB"⟩,
   ⟨0x5002, 1, 1, 1, 4, some 3, 0, 0, 1, 0, 64, .none, "FS_POLICY"⟩,
   ⟨0x5002, 2, 1, 1, 4, some 0, 0, 3, 1, 0, 64, .none, "DEBUG_MAX"⟩,
   ⟨0x5002, 3, 1, 2, 4, some 0, 0, 63, 2, 0, 64, .none, "FW_ROLLBACK_MIN"⟩,
   ⟨0x5002, 4, 1, 9, 4, none, 0, 0, 113, 0, 64, .none, "ODK_WRAPPED"⟩,
   ⟨0x5010, 1, 1, 9, 3, none, 0, 0, 4096, 0, 64, .none, "PROT_CHANGE"⟩,
   ⟨0x5010, 2, 1, 9, 3, none, 0, 0, 64, 0, 64, .none, "PROT_SIG_OWNER"⟩,
   ⟨0x5010, 3, 1, 9, 3, none, 0, 0, 64, 0, 64, .none, "PROT_SIG_CUST"⟩,
   ⟨0x5010, 4, 1, 0, 3, none, 0, 0, 1, 0, 64, .none, "PROT_COMMIT"⟩,
   ⟨0x5010, 5, 1, 1, 1, some 0, 0, 0, 1, 0, 64, .none, "PROT_STATUS"⟩,
   ⟨0x5020, 1, 1, 9, 0, none, 0, 0, 1024, 0, 64, .none, "ID_CERT"⟩,
   ⟨0x5020, 2, 1, 9, 3, none, 0, 0, 32, 0, 64, .none, "ATT_NONCE"⟩,
   ⟨0x5020, 3, 1, 9, 1, none, 0, 0, 224, 0, 64, .none, "ATT_REPORT"⟩,
   ⟨0x5030, 1, 1, 4, 2, some 0, 0, 0, 8, 0, 64, .none, "FW_STAGE_ADDR"⟩,
   ⟨0x5030, 2, 1, 3, 2, some 0, 0, 0, 4, 0, 64, .none, "FW_STAGE_LEN"⟩,
   ⟨0x5030, 3, 1, 1, 3, none, 1, 1, 1, 0, 64, .none, "FW_UPDATE_CMD"⟩,
   ⟨0x5030, 4, 1, 1, 1, some 0, 0, 0, 1, 0, 64, .none, "FW_UPDATE_STATE"⟩,
   ⟨0x5030, 5, 1, 3, 1, none, 0, 0, 4, 0, 64, .none, "FW_SLOTS"⟩,
   ⟨0x5040, 1, 1, 3, 1, some 0, 0, 0, 4, 0, 64, .none, "FS_COUNT"⟩,
   ⟨0x5040, 2, 1, 9, 1, none, 0, 0, 16, 0, 64, .none, "FS_LAST"⟩,
   ⟨0x5050, 1, 1, 1, 1, some 0, 0, 0, 1, 0, 64, .none, "DEBUG_LEVEL"⟩,
   ⟨0x5060, 1, 1, 9, 3, none, 0, 0, 48, 0, 64, .none, "KEY_LOAD"⟩,
   ⟨0x5100, 1, 16, 2, 4, some 256, 1, 256, 2, 0, 64, .none, "PART_BW_LIMIT"⟩,
   ⟨0x5101, 1, 16, 2, 4, some 0, 0, 0, 2, 0, 64, .none, "PART_BW_GUAR"⟩]

/-- Rows from 0x5102.01. -/
def dictPart6 : List Row :=
  [⟨0x5102, 1, 16, 2, 4, some 255, 0, 0, 2, 0, 64, .none, "PART_REACH"⟩,
   ⟨0x5103, 1, 16, 3, 4, some 16383, 0, 0, 4, 0, 64, .none, "PART_CTX_RANGE"⟩,
   ⟨0x5104, 1, 32, 1, 4, some 0, 0, 0, 1, 0, 64, .group, "GROUP_PARTITION"⟩,
   ⟨0x5105, 1, 4, 1, 4, some 0, 0, 0, 1, 0, 64, .pcie, "PCIE_PARTITION"⟩,
   ⟨0x5106, 1, 24, 1, 4, some 0, 0, 0, 1, 0, 64, .port, "PORT_PARTITION"⟩,
   ⟨0x6000, 1, 1, 1, 2, some 0, 0, 3, 1, 0, 64, .none, "TB_SOURCE"⟩,
   ⟨0x6000, 2, 1, 3, 2, some 2000, 0, 0, 4, 0, 64, .none, "TB_ACQ_TIMEOUT"⟩,
   ⟨0x6000, 3, 1, 3, 2, some 10000, 0, 0, 4, 0, 64, .none, "TB_HOLDOVER"⟩,
   ⟨0x6001, 1, 1, 2, 2, some 2250, 1, 16384, 2, 1, 64, .none, "RASTER_LINES"⟩,
   ⟨0x6001, 2, 1, 3, 2, some 1, 0, 0, 4, 1, 64, .none, "RASTER_PERIOD_NUM"⟩,
   ⟨0x6001, 3, 1, 3, 2, some 24, 0, 0, 4, 1, 64, .none, "RASTER_PERIOD_DEN"⟩,
   ⟨0x6001, 4, 1, 4, 2, some 0, 0, 0, 8, 1, 64, .none, "RASTER_EPOCH"⟩,
   ⟨0x6001, 5, 1, 4, 3, none, 0, 0, 8, 0, 40, .none, "FSYNC_FRAME"⟩,
   ⟨0x6002, 1, 1, 1, 1, some 0, 0, 0, 1, 0, 64, .none, "TB_STATE"⟩,
   ⟨0x6002, 2, 1, 7, 1, none, 0, 0, 8, 0, 64, .none, "TB_NOW"⟩,
   ⟨0x6002, 3, 1, 5, 1, some 0, 0, 0, 4, 0, 64, .none, "TB_PHASE_ERR"⟩,
   ⟨0x6002, 4, 1, 3, 1, some 0, 0, 0, 4, 0, 64, .none, "TB_DISCONT"⟩,
   ⟨0x6002, 5, 1, 0, 3, none, 0, 0, 1, 0, 64, .none, "TB_STEP_ACCEPT"⟩,
   ⟨0x6003, 1, 1, 1, 2, some 0, 0, 127, 1, 0, 64, .none, "PTP_DOMAIN"⟩,
   ⟨0x6003, 2, 1, 1, 2, some 0, 0, 1, 1, 0, 64, .none, "PTP_TRANSPORT"⟩,
   ⟨0x6003, 3, 1, 9, 1, none, 0, 0, 8, 0, 64, .none, "PTP_MASTER"⟩,
   ⟨0x6003, 4, 1, 5, 1, some 0, 0, 0, 4, 0, 64, .none, "PTP_OFFSET"⟩,
   ⟨0x6010, 1, 1, 7, 2, some 0, 0, 0, 8, 0, 64, .none, "ECL_TIME"⟩,
   ⟨0x6010, 2, 1, 3, 2, some 0, 0, 0, 4, 0, 64, .none, "ECL_ID"⟩]

/-- Rows from 0x6010.03. -/
def dictPart7 : List Row :=
  [⟨0x6010, 3, 1, 4, 2, some 0, 0, 0, 8, 0, 64, .none, "ECL_BUFFER"⟩,
   ⟨0x6010, 4, 1, 3, 2, some 0, 0, 0, 4, 0, 24, .none, "ECL_PORTS"⟩,
   ⟨0x6010, 5, 1, 0, 3, none, 0, 0, 1, 0, 64, .none, "ECL_ARM"⟩,
   ⟨0x6010, 6, 1, 1, 1, some 0, 0, 0, 1, 0, 64, .none, "ECL_STATUS"⟩,
   ⟨0x6010, 7, 1, 3, 2, some 5000, 0, 0, 4, 0, 64, .none, "ECL_DRAIN_LIMIT"⟩,
   ⟨0x6010, 8, 1, 2, 2, some 65535, 0, 0, 2, 0, 64, .none, "ECL_BATON"⟩,
   ⟨0x6010, 9, 1, 3, 2, some 0, 0, 0, 4, 0, 64, .none, "ECL_BATON_OP"⟩,
   ⟨0x7000, 1, 1, 9, 1, none, 0, 0, 32, 0, 64, .none, "FAULT_NEWEST"⟩,
   ⟨0x7000, 2, 1, 9, 1, none, 0, 0, 8192, 0, 64, .none, "FAULT_LOG"⟩,
   ⟨0x7000, 3, 1, 3, 1, none, 0, 0, 4, 0, 64, .none, "FAULT_SEQ"⟩,
   ⟨0x7001, 1, 1, 3, 1, some 0, 0, 0, 4, 0, 64, .none, "FAULTS_C1"⟩,
   ⟨0x7001, 2, 1, 3, 1, some 0, 0, 0, 4, 0, 64, .none, "FAULTS_C2"⟩,
   ⟨0x7001, 3, 1, 1, 1, some 0, 0, 0, 1, 0, 64, .none, "WINDOWS_OPEN"⟩,
   ⟨0x7002, 1, 1, 1, 1, none, 0, 0, 1, 0, 64, .none, "RESET_REASON"⟩,
   ⟨0x7002, 2, 1, 3, 1, none, 0, 0, 4, 0, 64, .none, "RESET_COUNT"⟩,
   ⟨0x7002, 3, 1, 1, 1, none, 0, 0, 1, 0, 64, .none, "START_RESULT"⟩,
   ⟨0x7002, 4, 1, 3, 1, none, 0, 0, 4, 0, 64, .none, "START_TIME"⟩,
   ⟨0x7002, 5, 1, 0, 1, some 0, 0, 0, 1, 0, 64, .none, "STORM_HOLD"⟩,
   ⟨0x7002, 6, 1, 4, 1, some 0, 0, 0, 8, 0, 64, .none, "STORM_LAST"⟩,
   ⟨0x7100, 1, 1, 3, 1, some 0, 0, 0, 4, 0, 64, .none, "MEM_ERR_COUNT"⟩,
   ⟨0x7100, 2, 1, 9, 1, none, 0, 0, 40, 0, 64, .none, "MEM_ERR_LAST"⟩]

/-- The dictionary, by rising index. -/
def dictRows : List Row :=
  dictPart0 ++ dictPart1 ++ dictPart2 ++ dictPart3 ++ dictPart4 ++ dictPart5 ++ dictPart6 ++ dictPart7

/-- The row that holds an object (R426). -/
def findRow (index sub : Nat) : Option Row :=
  dictRows.find? fun r => decide (r.index = index) && decide (r.sub ≤ sub) && decide (sub < r.sub + r.count)

/-- R447: objects whose values the boot configuration may hold. -/
def Row.storable (r : Row) : Bool :=
  decide (r.acc = 2) && (decide (r.index ≤ 0x2FFF) || (decide (0x4000 ≤ r.index) && decide (r.index ≤ 0x4FFF)) ||
    (decide (0x6000 ≤ r.index) && decide (r.index ≤ 0x6003))) && !(decide (r.index = 0x4010))

def objKey (index sub : Nat) : Nat := 256 * index + sub

/-- Default of a numeric object; PT0's context range differs from the others' (R281). -/
def objDefault (index sub : Nat) : Nat :=
  if index = 0x5103 ∧ sub = 1 then 0x3FFF0000
  else match findRow index sub with
    | some r => r.dflt.getD 0
    | none => 0

/-- A numeric object. -/
def oget (s : State) (index sub : Nat) : Nat :=
  match aget s.obj (objKey index sub) with
  | some v => v
  | none => objDefault index sub

/-- Set a numeric object. -/
def oset (s : State) (index sub v : Nat) : State :=
  { s with obj := tset (objDefault index sub) s.obj (objKey index sub) v }

/-- A STR or OCTETS object's bytes. -/
def octGet (s : State) (index sub : Nat) : List Byte := tget [] s.oct (objKey index sub)

def octSet (s : State) (index sub : Nat) (v : List Byte) : State := { s with oct := tset [] s.oct (objKey index sub) v }

end Sys2Proof.Machine
end

