-- ==== Sys2Proof/Machine/Priv.lean ====
section
/-! DEFINITION. The privileged state of an application core (R372, R373, R376): modes, traps, control and status registers, the interrupt
files. PRESUMED: the layout and the meaning are those of the RISC-V privileged architecture and its AIA, which the spec names and does not
repeat (log 144). -/

namespace Sys2Proof.Machine

open Sys2Proof

def csrAt (c : Core) (n : Nat) : W64 := tget 0 c.csr n
def csrPut (c : Core) (n : Nat) (v : W64) : Core := { c with csr := tset 0 c.csr n v }

/-- A bit of a word. -/
def setBit (i : Nat) (b : Bool) (w : W64) : W64 := setFld i i (if b then 1 else 0) w

/-- The bits of mstatus that sstatus shows: SIE, SPIE, UBE, SPP, VS, FS, XS, SUM, MXR, UXL, SD. -/
def sstatusMask : Nat := 0x80000003000DE762

/-! The vector unit: VLEN 256, ELEN 64 (R373) -/

/-- Elements of a register group for a type; none for one that cannot be set. -/
def vlMax (vtype : Nat) : Option Nat :=
  let sew := 8 * 2 ^ bitsOf 5 3 vtype
  let mul := bitsOf 2 0 vtype
  if 256 ≤ vtype ∨ 64 < sew ∨ mul = 4 then none
  else if mul < 4 then some (2 ^ mul * 256 / sew)
  else if 64 < sew * 2 ^ (8 - mul) then none else some (256 / (sew * 2 ^ (8 - mul)))

/-- The vector length for `avl` elements; between one and two register groups the implementation chooses. -/
def vlFor (avl vmax : Nat) (d : W64) : Nat :=
  if avl ≤ vmax then avl else if 2 * vmax ≤ avl then vmax else (avl + 1) / 2 + d.toNat % (vmax - (avl + 1) / 2 + 1)

/-- vtype as the register table holds it: at reset it reads with vill set. -/
def vtypeWord (v : W64) : W64 := v ^^^ 0x8000000000000000

/-- VSETVLI and VSETVL: `keep` keeps the length. -/
def vsetCore (rd vtype avl : Nat) (keep : Bool) (d : W64) (c : Core) : Core :=
  match vlMax vtype with
  | none => { csrPut (csrPut c 0xC21 0) 0xC20 0 with x := if rd = 0 then c.x else tset 0 c.x rd 0 }
  | some m =>
    let n := if keep then (csrAt c 0xC20).toNat else vlFor avl m d
    let k := csrPut (csrPut c 0xC21 (vtypeWord (BitVec.ofNat 64 vtype))) 0xC20 (BitVec.ofNat 64 n)
    if rd = 0 then k else { k with x := tset 0 k.x rd (BitVec.ofNat 64 n) }

/-! Traps -/

/-- The mode that takes an exception: 3 machine, 1 supervisor, 2 a guest's supervisor. -/
def trapMode (c : Core) (cause : Nat) : Nat :=
  if c.priv = 3 ∨ bit cause (csrAt c 0x302) = false then 3 else if c.virt && bit cause (csrAt c 0x602) then 2 else 1

/-- The stack of interrupt enables and modes in a supervisor's status: SIE, SPIE, SPP. -/
def pushStatus (w : W64) (priv : Nat) : W64 := setFld 8 8 (priv % 2) (setBit 1 false (setBit 5 (bit 1 w) w))
def popStatus (w : W64) : W64 := setFld 8 8 0 (setBit 5 true (setBit 1 (bit 5 w) w))

/-- Taking an exception of the instruction at `insn`: the pc, the cause and the trap value are saved, the mode is raised, and the pc goes to
the base of that mode's vector. -/
def trapCore (cause : Nat) (tval : W64) (c : Core) : Core :=
  let num : W64 := BitVec.ofNat 64 cause
  match trapMode c cause with
  | 3 =>
    let m := csrAt c 0x300
    let m := setBit 39 c.virt (setFld 12 11 c.priv (setBit 3 false (setBit 7 (bit 3 m) m)))
    let k := csrPut (csrPut (csrPut (csrPut (csrPut (csrPut c 0x300 m) 0x341 c.insn) 0x342 num) 0x343 tval) 0x34A 0) 0x34B 0
    { k with priv := 3, virt := false, pc := csrAt c 0x305 &&& ~~~ 3 }
  | 1 =>
    let h := csrAt c 0x600
    let h := setBit 7 c.virt (if c.virt then setFld 8 8 c.priv h else h)
    let k := csrPut (csrPut (csrPut (csrPut (csrPut c 0x300 (pushStatus (csrAt c 0x300) c.priv)) 0x600 h) 0x141 c.insn) 0x142 num) 0x143 tval
    { csrPut (csrPut k 0x643 0) 0x64A 0 with priv := 1, virt := false, pc := csrAt c 0x105 &&& ~~~ 3 }
  | _ =>
    let k := csrPut (csrPut (csrPut (csrPut c 0x200 (pushStatus (csrAt c 0x200) c.priv)) 0x241 c.insn) 0x242 num) 0x243 tval
    { k with priv := 1, pc := csrAt c 0x205 &&& ~~~ 3 }

/-- MRET, in machine mode. -/
def mretCore (c : Core) : Core :=
  let m := csrAt c 0x300
  let p := fld 12 11 m
  let w := setBit 39 false (setFld 12 11 0 (setBit 7 true (setBit 3 (bit 7 m) m)))
  { csrPut c 0x300 (if p = 3 then w else setBit 17 false w) with priv := p, virt := decide (p ≠ 3) && bit 39 m, pc := csrAt c 0x341 }

/-- SRET, of a supervisor or of a guest's. -/
def sretCore (c : Core) : Core :=
  if c.virt then
    let w := csrAt c 0x200
    { csrPut c 0x200 (popStatus w) with priv := fld 8 8 w, pc := csrAt c 0x241 }
  else
    let m := csrAt c 0x300
    let h := csrAt c 0x600
    { csrPut (csrPut c 0x300 (setBit 17 false (popStatus m))) 0x600 (setBit 7 false h) with priv := fld 8 8 m, virt := bit 7 h, pc := csrAt c 0x141 }

/-- Whether SRET may not run: the cause of the exception, 2 illegal or 22 virtual instruction. -/
def sretCause (c : Core) : Option Nat :=
  if c.priv = 0 then some (if c.virt then 22 else 2)
  else if c.priv = 1 && !c.virt && bit 22 (csrAt c 0x300) then some 2
  else if c.virt && bit 22 (csrAt c 0x600) then some 22 else none

/-- The cause of an environment call, by mode. -/
def ecallCause (c : Core) : Nat := if c.priv = 3 then 11 else if c.priv = 0 then 8 else if c.virt then 10 else 9

/-- Why a core entered debug mode (dcsr.cause): 1 EBREAK, 3 a halt request, 4 a step. -/
def dcsrCause (k : Nat) (d : W32) : W32 := (d &&& ~~~ 0x1C0) ||| BitVec.ofNat 32 (64 * k)

/-! Interrupt files (R376) -/

/-- Identities of an interrupt file: 0 machine, 1 supervisor, 2 to 8 guest (R376). -/
def fileIdents (file : Nat) : Nat := if file < 2 then 2047 else 255

def fileAtCore (c : Core) (f : Nat) : IFile := tget {} c.files f
def fileSet (c : Core) (f : Nat) (x : IFile) : Core := { c with files := tset {} c.files f x }

/-- The lowest pending and enabled identity below a file's threshold. -/
def topIdent (c : Core) (f : Nat) : Option Nat :=
  let x := fileAtCore c f
  (x.eie.filter fun i => c.eip.contains (f, i) && (decide (x.threshold = 0) || decide (i < x.threshold))).head?

/-- A file signals its hart. -/
def fileSignals (c : Core) (f : Nat) : Bool := decide ((fileAtCore c f).delivery = 1) && (topIdent c f).isSome

/-- 64 identities of a list, from 64k. -/
def identWord (l : List Nat) (k : Nat) : W64 := BitVec.ofNat 64 ((upto 0 64).foldl (fun n i => if l.contains (64 * k + i) then n + 2 ^ i else n) 0)
def identSet (f k : Nat) (v : W64) (l : List Nat) : List Nat :=
  (upto 0 64).foldl (fun u i => let n := 64 * k + i
    if n = 0 ∨ fileIdents f < n then u else if bit i v then insNat n u else u.filter fun j => decide (j ≠ n)) l

/-- A register of a file, by the value that selects it: 0x70, 0x72, 0x80 to 0xBF pending, 0xC0 to 0xFF enabled. -/
def fileRegOk (sel : Nat) : Bool := decide (sel = 0x70) || decide (sel = 0x72) || (decide (0x80 ≤ sel) && decide (sel < 0x100) && decide (sel % 2 = 0))

def fileReg (c : Core) (f sel : Nat) : W64 :=
  if sel = 0x70 then BitVec.ofNat 64 (fileAtCore c f).delivery
  else if sel = 0x72 then BitVec.ofNat 64 (fileAtCore c f).threshold
  else if sel < 0xC0 then identWord ((c.eip.filter fun e => decide (e.1 = f)).map fun e => e.2) ((sel - 0x80) / 2)
  else identWord (fileAtCore c f).eie ((sel - 0xC0) / 2)

def fileRegSet (f sel : Nat) (v : W64) (c : Core) : Core :=
  let x := fileAtCore c f
  if sel = 0x70 then fileSet c f { x with delivery := fld 0 0 v }
  else if sel = 0x72 then fileSet c f { x with threshold := fld 10 0 v % (fileIdents f + 1) }
  else if sel < 0xC0 then
    let mine := identSet f ((sel - 0x80) / 2) v ((c.eip.filter fun e => decide (e.1 = f)).map fun e => e.2)
    { c with eip := (c.eip.filter fun e => decide (e.1 ≠ f)) ++ mine.map fun i => (f, i) }
  else fileSet c f { x with eie := identSet f ((sel - 0xC0) / 2) v x.eie }

/-- The file behind an indirect CSR: machine 0, supervisor 1, the guest's that hstatus.VGEIN names. -/
def csrFile (c : Core) (n : Nat) : Option Nat :=
  if n = 0x351 ∨ n = 0x35C then some 0
  else if n = 0x151 ∨ n = 0x15C then some 1
  else if n = 0x251 ∨ n = 0x25C then (let g := fld 17 12 (csrAt c 0x600); if 1 ≤ g ∧ g ≤ 7 then some (1 + g) else none)
  else none

/-! Control and status registers -/

/-- Supervisor CSRs that stand for a guest's own in its mode. -/
def csrAlias (c : Core) (n : Nat) : Nat :=
  if c.virt && [0x100, 0x104, 0x105, 0x140, 0x141, 0x142, 0x143, 0x144, 0x14D, 0x150, 0x151, 0x15C, 0x180].contains n then n + 0x100 else n

/-- Whether the core's mode may make the access; else the cause of its exception: 2 illegal, 22 virtual instruction. Bits 9:8 of the number
are the lowest mode, 2 a hypervisor's; bits 11:10 both set mark a read-only CSR. -/
def csrCause (c : Core) (n : Nat) (write : Bool) : Option Nat :=
  let lvl := n / 256 % 4
  let own := if c.virt then c.priv else if c.priv = 1 then 2 else c.priv
  if write && decide (n / 1024 = 3) then some 2
  else if own < lvl then some (if c.virt && decide (lvl < 3) then 22 else 2)
  else if [0x151, 0x251, 0x351, 0x15C, 0x25C, 0x35C].contains (csrAlias c n) && decide (csrFile c (csrAlias c n) = none) then some (if c.virt then 22 else 2)
  else if [0x151, 0x251, 0x351].contains (csrAlias c n) && !(fileRegOk (csrAt c (csrAlias c n - 1)).toNat) then some (if c.virt then 22 else 2)
  else none

/-- A configuration byte of the 16 PMP entries: L locks it, and W without R is no setting. -/
def pmpByteSet (old new : Nat) (rw : Bool) : Nat :=
  if old.testBit 7 then old
  else
    let m := new &&& 0x9F
    if m.testBit 1 && !(m.testBit 0) then (m &&& 0x9C) + (if rw then 3 else 0) else m

/-- The configuration byte of an entry. -/
def pmpByte (c : Core) (i : Nat) : Nat := fld 7 0 (csrAt c (0x3A0 + 2 * (i / 8)) >>> (8 * (i % 8)))

/-- An address register is locked with its entry, or as the bottom of a locked range. -/
def pmpLocked (c : Core) (i : Nat) : Bool :=
  (pmpByte c i).testBit 7 || (decide (i < 15) && (pmpByte c (i + 1)).testBit 7 && decide (bitsOf 4 3 (pmpByte c (i + 1)) = 1))

def pmpCfgSet (c : Core) (n : Nat) (v d : W64) : Core :=
  csrPut c n (BitVec.ofNat 64 (leNat ((upto 0 8).map fun i =>
    BitVec.ofNat 8 (pmpByteSet (fld 7 0 (csrAt c n >>> (8 * i))) (fld 7 0 (v >>> (8 * i))) (bit i d)))))

/-- The bits that a CSR keeps as they are written; none where the architecture leaves it to the implementation which values it keeps. -/
def csrKeeps (n : Nat) : Option Nat :=
  if [0x140, 0x240, 0x340, 0x142, 0x242, 0x342, 0x143, 0x243, 0x343, 0x34A, 0x34B, 0x643, 0x64A, 0x605, 0x14D, 0x24D].contains n then some 0xFFFFFFFFFFFFFFFF
  else if [0x141, 0x241, 0x341].contains n then some 0xFFFFFFFFFFFFFFFE
  else if n = 0x300 then some 0x80007E79AA
  else if n = 0x200 then some 0xC6722
  else if n = 0x600 then some 0x7001C0
  else if n = 0x304 then some 0x3EEE
  else if n = 0x344 then some 0x2202
  else if n = 0x607 then some 0xFE
  else if n = 0x106 ∨ n = 0x306 ∨ n = 0x606 then some 0xFFFFFFFF
  else if n = 0x320 then some 0xFFFFFFFD
  else if 0xB00 ≤ n ∧ n < 0xB20 ∧ n ≠ 0xB01 then some 0xFFFFFFFFFFFFFFFF
  else if n = 3 then some 0xFF
  else if n = 8 then some 0xFF
  else if n = 9 then some 1
  else if n = 10 then some 3
  else if n = 0x150 ∨ n = 0x250 ∨ n = 0x350 then some 0xFF
  else none

/-- The modes satp, vsatp and hgatp can name: Bare, Sv39, Sv48, Sv57 (R372). -/
def satpOk (v : W64) : Bool := [0, 8, 9, 10].contains (fld 63 60 v)

/-- A write of a CSR, already aliased. `d` stands for what the implementation chooses. -/
def csrSet (n : Nat) (v d : W64) (c : Core) : Core :=
  if n = 0x100 then csrPut c 0x300 (maskWrite (sstatusMask &&& 0x80007E79AA) (csrAt c 0x300) v)
  else if n = 0x104 then csrPut c 0x304 (maskWrite ((csrAt c 0x303).toNat &&& 0x3EEE) (csrAt c 0x304) v)
  else if n = 0x144 then csrPut c 0x344 (maskWrite ((csrAt c 0x303).toNat &&& 0x2202) (csrAt c 0x344) v)
  else if n = 1 then csrPut c 3 (setFld 4 0 (fld 4 0 v) (csrAt c 3))
  else if n = 2 then csrPut c 3 (setFld 7 5 (fld 2 0 v) (csrAt c 3))
  else if n = 15 then csrPut (csrPut c 9 (BitVec.ofNat 64 (fld 0 0 v))) 10 (BitVec.ofNat 64 (fld 2 1 v))
  else if n = 0x3A0 ∨ n = 0x3A2 then pmpCfgSet c n v d
  else if 0x3B0 ≤ n ∧ n < 0x3C0 then (if pmpLocked c (n - 0x3B0) then c else csrPut c n (maskWrite 0x3FFFFFFFFFFFF 0 v))
  else if (0x3A0 ≤ n ∧ n < 0x3B0) ∨ (0x3C0 ≤ n ∧ n < 0x3F0) then c
  else if n = 0x105 ∨ n = 0x205 ∨ n = 0x305 then csrPut c n (if fld 1 0 v = 0 then v else setFld 1 0 (fld 0 0 d) v)
  else if n = 0x180 ∨ n = 0x280 ∨ n = 0x680 then (if satpOk v then csrPut c n v else if n = 0x680 then csrPut c n d else c)
  else if n = 0x302 ∨ n = 0x303 ∨ n = 0x602 ∨ n = 0x603 then csrPut c n (v &&& d)
  else if 0x323 ≤ n ∧ n < 0x340 then csrPut c n (maskWrite 0xFC00000000000000 d v)
  else if n = 0x300 then
    let w := maskWrite 0x80007E79AA 0 v
    csrPut c n (if fld 12 11 v = 2 then setFld 12 11 ([0, 1, 3].getD (d.toNat % 3) 0) w else w)
  else if n = 0x351 ∨ n = 0x151 ∨ n = 0x251 then
    (match csrFile c n with | some f => fileRegSet f (csrAt c (n - 1)).toNat v c | none => c)
  else if n = 0x35C ∨ n = 0x15C ∨ n = 0x25C then
    (match csrFile c n with
     | some f => (match topIdent c f with | some i => { c with eip := c.eip.filter fun e => decide (e ≠ (f, i)) } | none => c)
     | none => c)
  else if n = 0x14D then { c with stimecmp := v, timer := lset c.timer 1 false }
  else if n = 0x24D then { c with vstimecmp := v }
  else match csrKeeps n with
    | some m => csrPut c n (maskWrite m 0 v)
    | none => csrPut c n d

/-- mip: the machine's and the supervisor's timer and file, the guests' files, and the bits software sets. -/
def mipOf (c : Core) : W64 :=
  let b := fun (i : Nat) (v : Bool) => if v then 2 ^ i else 0
  let g := (upto 2 7).any fun f => fileSignals c f && bit (f - 1) (csrAt c 0x607)
  (csrAt c 0x344) ||| BitVec.ofNat 64 (b 5 (c.timer.getD 1 false) + b 7 (c.timer.getD 0 false) + b 9 (fileSignals c 1) + b 11 (fileSignals c 0) + b 12 g)

/-- SD, and the widths of the modes below, which are fixed at 64. -/
def statusRead (w : W64) : W64 :=
  w ||| (if fld 14 13 w = 3 ∨ fld 10 9 w = 3 then 0x8000000200000000 else 0x200000000)

/-- CSRs with a held value, as they read; none for the others. -/
def csrView (c : Core) (n : Nat) : Option W64 :=
  if n = 0x100 then some (statusRead (csrAt c 0x300) &&& BitVec.ofNat 64 sstatusMask)
  else if n = 0x300 then some (statusRead (csrAt c 0x300) ||| 0x800000000)
  else if n = 0x200 then some (statusRead (csrAt c 0x200))
  else if n = 0x600 then some (csrAt c 0x600 ||| 0x200000000)
  else if n = 0x104 then some (csrAt c 0x304 &&& csrAt c 0x303)
  else if n = 0x144 then some (mipOf c &&& csrAt c 0x303)
  else if n = 0x344 then some (mipOf c)
  else if n = 0xE12 then some (BitVec.ofNat 64 ((upto 2 7).foldl (fun k f => if fileSignals c f then k + 2 ^ (f - 1) else k) 0))
  else if n = 1 then some (BitVec.ofNat 64 (fld 4 0 (csrAt c 3)))
  else if n = 2 then some (BitVec.ofNat 64 (fld 7 5 (csrAt c 3)))
  else if n = 15 then some (BitVec.ofNat 64 (fld 0 0 (csrAt c 9) + 2 * fld 1 0 (csrAt c 10)))
  else if n = 0xC22 then some 32
  else if n = 0xC21 then some (vtypeWord (csrAt c n))
  else if n = 0x14D then some c.stimecmp
  else if n = 0x24D then some c.vstimecmp
  else if n = 0x351 ∨ n = 0x151 ∨ n = 0x251 then (csrFile c n).map fun f => fileReg c f (csrAt c (n - 1)).toNat
  else if n = 0x35C ∨ n = 0x15C ∨ n = 0x25C then
    (csrFile c n).map fun f => match topIdent c f with | some i => BitVec.ofNat 64 (65536 * i + i) | none => 0
  else if 0x3A0 ≤ n ∧ n < 0x3F0 then some (csrAt c n)
  else if [0x105, 0x205, 0x305, 0x180, 0x280, 0x680, 0x302, 0x303, 0x602, 0x603, 0xC20].contains n ∨ (0x323 ≤ n ∧ n < 0x340) then some (csrAt c n)
  else if 0xB00 ≤ n ∧ n < 0xB20 then none
  else (csrKeeps n).map fun _ => csrAt c n

end Sys2Proof.Machine
end

