-- ==== Sys2Proof/Machine/Topology.lean ====
section
/-! DEFINITION. Dies by their window numbers (R189), the lateral links (R18), primary paths (R19), alternate segments and the
paths that result (R21, R22). -/

namespace Sys2Proof.Machine

open Sys2Proof

def winMD (n : Nat) : Nat := 6 + n
def isMD (w : Nat) : Bool := decide (6 ≤ w) && decide (w < 12)

/-- The two dies of a lateral link, in the order in which the table under R21 writes its alternate segment. -/
def linkEnds (i : Nat) : Nat × Nat :=
  [(6, 7), (7, 8), (9, 10), (10, 11), (6, 9), (7, 10), (8, 11), (12, 6), (12, 7), (12, 8), (13, 9), (13, 10), (13, 11),
   (14, 6), (14, 9), (15, 8), (15, 11)].getD i (0, 0)

/-- The link that joins two dies. -/
def linkBetween (a b : Nat) : Option Nat :=
  (upto 0 17).find? fun i => decide (linkEnds i = (a, b)) || decide (linkEnds i = (b, a))

/-- Links of a die. -/
def linksOf (w : Nat) : List Nat := (upto 0 17).filter fun i => decide ((linkEnds i).1 = w) || decide ((linkEnds i).2 = w)

/-- Links of the bond numbering used by heartbeats and training: 17 + n is the bond of CDn. -/
def bondOf (link : Nat) : Option Nat := if 17 ≤ link ∧ link < 23 then some (link - 17) else none

/-- Primary path between MDs: along the row, then along the column (R19 rule 1). -/
def mdPath (a b : Nat) : List Nat :=
  let row := a / 3
  let ca := a % 3
  let cb := b % 3
  let cols := if ca ≤ cb then upto ca (cb - ca + 1) else (upto cb (ca - cb + 1)).reverse
  let p := cols.map fun c => winMD (3 * row + c)
  if b / 3 = row then p else p ++ [winMD b]

/-- Primary path from `a` to `b` (R19), both window numbers of MDs, ADs or XDs. -/
def gridPath (a b : Nat) : List Nat :=
  let adRow := fun (w : Nat) => w - 12
  let xdCol := fun (w : Nat) => if w = 14 then 0 else 2
  if a = b then [a]
  else if isMD a && isMD b then mdPath (a - 6) (b - 6)
  else if isMD b then
    if a = 12 ∨ a = 13 then a :: mdPath (3 * adRow a + (b - 6) % 3) (b - 6)
    else a :: mdPath (3 * ((b - 6) / 3) + xdCol a) (b - 6)
  else if isMD a then
    if b = 12 ∨ b = 13 then (mdPath (3 * adRow b + (a - 6) % 3) (a - 6)).reverse ++ [b]
    else (mdPath (3 * ((a - 6) / 3) + xdCol b) (a - 6)).reverse ++ [b]
  else if (a = 12 ∨ a = 13) ∧ (b = 12 ∨ b = 13) then
    (if a = 12 then [12, 7, 10, 13] else [13, 10, 7, 12])
  else if (a = 14 ∨ a = 15) ∧ (b = 14 ∨ b = 15) then
    (if a = 14 then [14, 6, 7, 8, 15] else [15, 8, 7, 6, 14])
  else
    let ad := if a = 12 ∨ a = 13 then a else b
    let xd := if a = 12 ∨ a = 13 then b else a
    [a, winMD (3 * adRow ad + xdCol xd), b]

/-- The grid die through which a die's traffic passes: a CD has its bond alone (R19). -/
def gridDie (w : Nat) : Nat := if w < 6 then winMD w else w

/-- Primary path between any two dies (R19), by window numbers: a CD's begins or ends at the MD beneath it. -/
def primary (a b : Nat) : List Nat :=
  if a = b then [a]
  else (if a < 6 then [a] else []) ++ gridPath (gridDie a) (gridDie b) ++ (if b < 6 then [b] else [])

/-- Simple paths from `a` to `b` over links that satisfy `ok`, of at most `n` hops, inner dies satisfying `inner`. -/
def simplePaths (ok : Nat → Bool) (inner : Nat → Bool) (b : Nat) : Nat → List Nat → Nat → List (List Nat)
  | 0, _, _ => []
  | n + 1, seen, a =>
    (linksOf a).flatMap fun i =>
      let c := if (linkEnds i).1 = a then (linkEnds i).2 else (linkEnds i).1
      if !(ok i) then []
      else if c = b then [(b :: a :: seen).reverse]
      else if (a :: seen).contains c || !(inner c) then []
      else simplePaths ok inner b n (a :: seen) c

def listLt : List Nat → List Nat → Bool
  | [], [] => false
  | [], _ => true
  | _, [] => false
  | x :: r, y :: t => decide (x < y) || (decide (x = y) && listLt r t)

/-- The shorter path, and of equal ones the one lower at the first difference (R22 rules 1 and 3). -/
def betterPath (p q : List Nat) : List Nat :=
  if p.length < q.length then p else if q.length < p.length then q else if listLt q p then q else p

def bestPath : List (List Nat) → Option (List Nat)
  | [] => none
  | p :: r => match bestPath r with
    | none => some p
    | some q => some (betterPath p q)

/-- The shortest path within `n` hops, trying fewer hops first. -/
def shortest (ok : Nat → Bool) (inner : Nat → Bool) (a b : Nat) : Nat → Nat → Option (List Nat)
  | 0, _ => none
  | n + 1, d =>
    match bestPath (simplePaths ok inner b d [] a) with
    | some p => some p
    | none => shortest ok inner a b n (d + 1)

/-- The alternate segment of link `i` over the links in service (R22). -/
def altSegment (ok : Nat → Bool) (i : Nat) : Option (List Nat) :=
  let e := linkEnds i
  let up := fun j => ok j && decide (j ≠ i)
  match shortest up isMD e.1 e.2 6 1 with
  | some p => some p
  | none => shortest up (fun _ => true) e.1 e.2 9 1

/-- Remove the hops between two visits of one die (R21). -/
def dropLoops : List Nat → List Nat
  | [] => []
  | a :: r =>
    let t := dropLoops r
    match t.findIdx? (· = a) with
    | some k => t.drop k
    | none => a :: t

/-- A path with each hop over an out-of-service link replaced by its alternate segment. -/
def replaceHops (alt : Nat → Option (List Nat)) : List Nat → List Nat
  | [] => []
  | [a] => [a]
  | a :: b :: r =>
    let tail := replaceHops alt (b :: r)
    match linkBetween a b with
    | none => a :: tail
    | some i => match alt i with
      | none => a :: tail
      | some seg =>
        let seg' := if seg.head? = some a then seg else seg.reverse
        seg'.dropLast ++ tail

/-- The primary path with every hop over an out-of-service link replaced (R19, R21). -/
def route (alt : Nat → Option (List Nat)) (a b : Nat) : List Nat := dropLoops (replaceHops alt (primary a b))

/-- The links a path runs over. -/
def pathLinks : List Nat → List Nat
  | a :: b :: r => (match linkBetween a b with | some i => [i] | none => []) ++ pathLinks (b :: r)
  | _ => []

/-- The path every router holds from `a` to `b` (R19, R21). A primary path over a die that is absent has no segment in the table
of R21 (a hop ends at that die): the path is then the one that R22 would choose between the two ends (DESIGN CHOICE, log 104). -/
def routerPath (ok : Nat → Bool) (there : Nat → Bool) (alt : Nat → Option (List Nat)) (a b : Nat) : List Nat :=
  let p := route alt a b
  if p.all there && (pathLinks p).all ok then p
  else
    let inner := fun w => there w
    let q := match shortest ok (fun w => isMD w && inner w) (gridDie a) (gridDie b) 9 1 with
      | some q => q
      | none => (shortest ok inner (gridDie a) (gridDie b) 9 1).getD []
    if q = [] then [] else (if a < 6 then [a] else []) ++ q ++ (if b < 6 then [b] else [])

/-- One round of reachability. -/
def spread (ok : Nat → Bool) (r : List Nat) : List Nat :=
  (upto 0 17).foldl (fun acc i =>
    let e := linkEnds i
    if !(ok i) then acc
    else if acc.contains e.1 then insNat e.2 acc
    else if acc.contains e.2 then insNat e.1 acc else acc) r

/-- Dies that XD0 reaches over the links in service. -/
def reachable (ok : Nat → Bool) : List Nat := (upto 0 10).foldl (fun r _ => spread ok r) [14]

end Sys2Proof.Machine
end

