-- ==== Sys2Proof/WellFormed.lean ====
section
/-! DEFINITION. The unit numbers that exist (R8), and the checks a well-formed command passes: every unit it names exists. -/

namespace Sys2Proof

/-- Unit ranges of R8, and of the tables that number further units. -/
def okCd (n : Nat) : Bool := decide (n < 6)
def okMd (n : Nat) : Bool := decide (n < 6)
def okDie (n : Nat) : Bool := decide (n < 16)          -- die window numbers (R189)
def okLink (n : Nat) : Bool := decide (n < 17)         -- R18
def okTc (n : Nat) : Bool := decide (n < 192)
def okCluster (n : Nat) : Bool := decide (n < 24)
def okAc (n : Nat) : Bool := decide (n < 128)
def okPort (n : Nat) : Bool := decide (n < 24)
def okPcie (n : Nat) : Bool := decide (n < 4)
def okCtx (n : Nat) : Bool := decide (n < 16384)
def okQueue (n : Nat) : Bool := decide (n < 4)
def okBaton (n : Nat) : Bool := decide (n < 8192)
def okSlot (n : Nat) : Bool := decide (n < 64)
def okGroup (n : Nat) : Bool := decide (n < 1024)
def okRq (n : Nat) : Bool := decide (n < 256)          -- R349

def MaintUnit.ok : MaintUnit → Bool
  | .md n => okMd n
  | .cluster n => okCluster n
  | .group n => decide (n < 32)

def LaneUnit.ok : LaneUnit → Bool
  | .link i => okLink i
  | .port n => okPort n

/-- A lateral link, or the bond of CDn as 17 + n. -/
def okLinkOrBond (i : Nat) : Bool := decide (i < 23)

/-- A unit of the kinds of R518 that exists. -/
def okRequester (who : Requester) : Bool :=
  (decide (who.kind = 1) && okTc who.num) || (decide (who.kind = 2) && okAc who.num) || (decide (who.kind = 3) && okPcie who.num) ||
  (decide (who.kind = 4) && okPort who.num) || (decide (5 ≤ who.kind) && decide (who.kind ≤ 8) && decide (who.num = 0)) ||
  (decide (who.kind = 9) && okDie who.num)

/-- A transport's sender: a CAN FD node 1 to 127, a mailbox channel 0 or 1 (R440, R443). -/
def viaOk : Via → Bool
  | .can n => decide (1 ≤ n) && decide (n < 128)
  | .udp _ _ => true
  | .mailbox c => decide (c < 2)

/-- The unit a debugger names (R475). -/
def okDebug : DebugOp → Bool
  | .haltCore n => okAc n
  | .resumeCore n => okAc n
  | .readCoreReg n _ => okAc n
  | .writeCoreReg n _ _ => okAc n
  | .resumePacer n => okTc n
  | .readTile n a => okTc n && decide (a < 0x400000)
  | .writeTile n a _ => okTc n && decide (a < 0x400000)
  | .readRegion n _ => okTc n
  | .writeRegion n _ _ => okTc n
  | .readScoreboard n => okTc n
  | .writeScoreboard n _ _ _ _ => okTc n
  | .clearScoreboard n _ => okTc n
  | _ => true

/-- Every unit the command names exists. -/
def Instr.wf : Instr → Bool
  | .pwrGoodAssert _ => true
  | .pwrGoodDeassert => true
  | .startThermalClear => true
  | .packageResetRelease _ _ _ _ _ => true
  | .selfTestComplete die _ => okDie die
  | .linkTrainingComplete link _ _ => okLinkOrBond link
  | .discoveryRequest => true
  | .discoveryComplete _ => true
  | .hbmZeroComplete => true
  | .bootCopyComplete _ => true
  | .startFailTimeout => true
  | .fatalLineAssert _ _ _ => true
  | .fatalReportTimeout die _ _ _ => okDie die
  | .goingDownEnd => true
  | .resetHoldEnd _ => true
  | .dieBrownout die => okDie die
  | .bondErrorDetected cd _ => okCd cd
  | .flitCrcError link => okLink link
  | .heartbeatFlitSend link _ => okLinkOrBond link
  | .heartbeatLoss link _ => okLinkOrBond link
  | .heartbeatCollectionEnd => true
  | .checkFlitSend link _ => okLink link
  | .checkFlitReceived link _ _ _ _ => okLink link
  | .eyeMarginScan u _ => u.ok
  | .laneBitLockLost u _ _ => u.ok
  | .spareTrained u => u.ok
  | .linkRetrainDone u => u.ok
  | .routeInstallDone link => okLink link
  | .transactionTimeout who _ => okRequester who
  | .snoopTimeout md _ => okMd md
  | .psetq tc _ _ _ => okTc tc
  | .pgetq tc _ _ _ => okTc tc
  | .pqadd tc _ _ _ => okTc tc
  | .ptag tc _ _ _ => okTc tc
  | .pwait tc _ _ _ => okTc tc
  | .pfence tc _ _ _ => okTc tc
  | .pstat tc _ _ _ => okTc tc
  | .prdop tc _ _ _ => okTc tc
  | .pdone tc _ _ _ => okTc tc
  | .pperf tc _ _ _ => okTc tc
  | .pbsig tc _ _ _ => okTc tc
  | .pbwait tc _ _ _ => okTc tc
  | .psqrd tc _ _ _ => okTc tc
  | .psqadv tc _ _ _ => okTc tc
  | .pfret tc _ _ _ => okTc tc
  | .pacerLoad tc _ _ _ _ _ => okTc tc
  | .pacerStore tc _ _ _ _ _ => okTc tc
  | .pacerAtomic tc _ _ _ _ _ => okTc tc
  | .pacerScalarOp tc _ => okTc tc
  | .pacerCsrAccess tc _ _ _ _ => okTc tc
  | .ecall tc => okTc tc
  | .ebreak tc _ => okTc tc
  | .mldw tc _ _ _ _ _ => okTc tc
  | .mmul tc _ _ _ _ _ => okTc tc
  | .mrd tc _ _ _ _ _ => okTc tc
  | .mlda tc _ _ _ _ _ => okTc tc
  | .mzero tc _ _ _ _ _ => okTc tc
  | .vadd tc _ _ _ _ _ => okTc tc
  | .vsub tc _ _ _ _ _ => okTc tc
  | .vmul tc _ _ _ _ _ => okTc tc
  | .vfma tc _ _ _ _ _ => okTc tc
  | .vmin tc _ _ _ _ _ => okTc tc
  | .vmax tc _ _ _ _ _ => okTc tc
  | .vmov tc _ _ _ _ _ => okTc tc
  | .vcvt tc _ _ _ _ _ => okTc tc
  | .vceq tc _ _ _ _ _ => okTc tc
  | .vclt tc _ _ _ _ _ => okTc tc
  | .vcle tc _ _ _ _ _ => okTc tc
  | .vfun tc _ _ _ _ _ => okTc tc
  | .vred tc _ _ _ _ _ => okTc tc
  | .vscan tc _ _ _ _ _ => okTc tc
  | .vtopk tc _ _ _ _ _ => okTc tc
  | .vcmprs tc _ _ _ _ _ => okTc tc
  | .vexpd tc _ _ _ _ _ => okTc tc
  | .vrand tc _ _ _ _ _ => okTc tc
  | .vtrn tc _ _ _ _ _ => okTc tc
  | .dld tc _ _ _ _ _ => okTc tc
  | .dst tc _ _ _ _ _ => okTc tc
  | .dvin tc _ _ _ _ _ => okTc tc
  | .dvout tc _ _ _ _ _ => okTc tc
  | .dpf tc _ _ _ _ _ => okTc tc
  | .drly tc _ _ _ _ _ => okTc tc
  | .operationStart tc _ _ => okTc tc
  | .operationComplete tc _ _ => okTc tc
  | .bankStarvationPromote tc _ => okTc tc
  | .dmaErrorResponse tc _ _ _ => okTc tc
  | .fastEventEntry tc => okTc tc
  | .relayGroupStart g _ => okGroup g
  | .relayGroupEntryWrite g _ _ => okGroup g
  | .relayGroupBind g _ => okGroup g
  | .relayContributionAccept tc _ => okTc tc
  | .relayNodeCombine g _ _ _ => okGroup g
  | .relayRoundComplete g => okGroup g
  | .relayResultDeliver tc _ => okTc tc
  | .sqKeyWrite slot _ _ => okSlot slot
  | .keyChkUpdate slot => okSlot slot
  | .sqBind slot _ => okSlot slot
  | .fsyncEdge _ => true
  | .fsyncTimeout => true
  | .ptpAnnounceReceive _ _ _ => true
  | .ptpSyncReceive _ _ _ _ _ => true
  | .ptpFollowUpReceive _ _ _ => true
  | .ptpDelayReqSend _ => true
  | .ptpDelayRespReceive _ _ _ => true
  | .ptpSyncTimeout => true
  | .tbAcqTimeout => true
  | .tbHoldoverExpiry => true
  | .tbSourceWrite _ => true
  | .tbStepAccept _ => true
  | .frameBoundary => true
  | .rasterWrite _ _ => true
  | .releaseTimeReached ctx q => okCtx ctx && okQueue q
  | .starterStart die _ => okCd die
  | .deadlineReached _ => true
  | .reportHardLimit _ => true
  | .allowanceRampStep die => okCd die
  | .allowanceRecompute die => okCd die
  | .eclArm _ => true
  | .eclipseCapture => true
  | .eclipseMarker onPort n _ => if onPort then okPort n else decide (n < 34)
  | .eclipseComplete _ => true
  | .eclipseDrainTimeout => true
  | .contextEnable ctx _ => okCtx ctx
  | .contextTeardown ctx => okCtx ctx
  | .contextTeardownDone ctx => okCtx ctx
  | .ctxCmdReserved _ => true
  | .ctxBaseWrite _ => true
  | .doorbell ctx q _ => okCtx ctx && okQueue q
  | .descriptorRead ctx q _ => okCtx ctx && okQueue q
  | .descriptorReread ctx q _ => okCtx ctx && okQueue q
  | .queueResume ctx q => okCtx ctx && okQueue q
  | .queueSkip ctx q => okCtx ctx && okQueue q
  | .itemEnd _ _ => true
  | .batonOperation b _ => okBaton b
  | .batonOpWrite b _ => okBaton b
  | .batonValueWrite b _ => okBaton b
  | .batonEvtcondWrite b _ => okBaton b
  | .batonBind b _ => okBaton b
  | .ewinWrite ctx _ _ => okCtx ctx
  | .pageWalkComplete _ _ => true
  | .prqWriteError _ => true
  | .prqWerrClear => true
  | .prqHeadWrite _ => true
  | .pageResponseRetry _ _ => true
  | .pageResponseInvalid _ => true
  | .prqBaseWrite _ => true
  | .tlbFill tc _ _ _ => okTc tc
  | .transferTranslationMiss tc _ _ _ _ => okTc tc
  | .invAll => true
  | .invVmid => true
  | .invAsid => true
  | .invRange => true
  | .invCmdReserved _ => true
  | .invalidationStart => true
  | .clusterInvalidate cl => okCluster cl
  | .engineInvAck tc => okTc tc
  | .clusterInvAck cl => okCluster cl
  | .invalidationComplete _ => true
  | .scrubStep _ _ _ => true
  | .pgretPop md => okMd md
  | .channelCandidate channel => decide (channel < 768)
  | .retCmd md _ => okMd md
  | .retGo md _ => okMd md
  | .migrationComplete md => okMd md
  | .partBwWindow md => okMd md
  | .maintClean md _ => okMd md
  | .maintInvalidate md _ => okMd md
  | .maintCleanInvalidate md _ => okMd md
  | .maintZero md _ => okMd md
  | .l2MaintClean u _ => u.ok
  | .l2MaintCleanInvalidate u _ => u.ok
  | .maintCmdReserved u _ => u.ok
  | .maintComplete u => u.ok
  | .ncAccess who _ _ _ _ _ => okRequester who
  | .gets req who _ _ _ _ => decide (req < 62) && okRequester who
  | .getm req who _ _ _ => decide (req < 62) && okRequester who
  | .promote req who _ _ _ => decide (req < 62) && okRequester who
  | .look unit who _ _ _ => decide (unit < 64) && okRequester who
  | .putplace unit who _ _ _ _ _ _ _ _ => decide (unit < 64) && okRequester who
  | .cashome who _ _ _ _ _ _ => okRequester who
  | .fwds agent _ => decide (agent < 62)
  | .fwdm agent _ => decide (agent < 62)
  | .inv agent _ => decide (agent < 62)
  | .peek agent _ => decide (agent < 62)
  | .flushd agent _ => decide (agent < 62)
  | .snack agent _ _ => decide (agent < 62)
  | .sndata agent _ _ => decide (agent < 62)
  | .grant req _ => decide (req < 64)
  | .grantack agent _ _ => decide (agent < 62)
  | .nack req _ => decide (req < 64)
  | .cohRetry req _ _ => decide (req < 64)
  | .vacack agent _ => decide (agent < 62)
  | .placeack agent _ _ => decide (agent < 62)
  | .homefill req _ _ _ => decide (req < 64)
  | .ownerfill req _ => decide (req < 62)
  | .placedata agent _ => decide (agent < 62)
  | .vacdata agent _ => decide (agent < 62)
  | .vacclean agent _ => decide (agent < 62)
  | .codewordReceive port _ _ _ _ => okPort port
  | .codewordUncorrectable port => okPort port
  | .sbIdle port => okPort port
  | .sbAck port _ => okPort port
  | .sbNak port _ => okPort port
  | .sbCredit port _ => okPort port
  | .sbState port _ => okPort port
  | .sbGoingDown port _ => okPort port
  | .sbChipEvt port _ => okPort port
  | .ackSend port => okPort port
  | .creditSend port cls => okPort port && decide (cls < 3)
  | .stateSend port field => okPort port && decide (field < 4)
  | .portHeartbeatLoss port => okPort port
  | .portTrainAttempt port => okPort port
  | .winRd port _ _ => okPort port
  | .winWr port _ _ _ => okPort port
  | .winCpl port _ _ => okPort port
  | .put port _ _ _ => okPort port
  | .putAck port _ => okPort port
  | .get port _ _ => okPort port
  | .getData port _ _ _ => okPort port
  | .relayUp port _ _ => okPort port
  | .relayDown port _ _ => okPort port
  | .unreachable port _ => okPort port
  | .boardWindowAccess ac _ _ _ _ _ => okAc ac
  | .rqDoorbell rq _ => okRq rq
  | .rqResume rq => okRq rq
  | .rqSkip rq => okRq rq
  | .rqCfgWrite rq _ => okRq rq
  | .rqCommandRead rq _ => okRq rq
  | .rqCommandStart rq _ => okRq rq
  | .rqCommandComplete rq => okRq rq
  | .acInstruction ac _ _ _ => okAc ac
  | .cboClean ac _ => okAc ac
  | .cboFlush ac _ => okAc ac
  | .cboInval ac _ => okAc ac
  | .cboZero ac _ => okAc ac
  | .fenceI ac => okAc ac
  | .imsicSeteipnum hart file _ => okAc hart && decide (file ≤ 8)
  | .mtimerInterrupt hart _ => okAc hart
  | .pcieInboundRead p _ _ _ _ => okPcie p
  | .pcieInboundWrite p _ _ _ _ => okPcie p
  | .pcieConfigRequest _ => true
  | .pcieCompletion p _ _ _ => okPcie p
  | .epFlushRead p => okPcie p
  | .peDiscardsRead p => okPcie p
  | .endpointReset => true
  | .pcieLinkChange p _ _ => okPcie p
  | .intxAssert p pin => okPcie p && decide (pin < 4)
  | .intxDeassert p pin => okPcie p && decide (pin < 4)
  | .gpirqChange n _ => decide (n < 8)
  | .scEvent _ _ => true
  | .scPendSet _ => true
  | .scPendClr _ => true
  | .scSrcCfgWrite source _ _ => decide (source < 8192)
  | .normalDelivery => true
  | .fastDelivery => true
  | .evqWriteError _ => true
  | .scUnroutedRead => true
  | .scFastDroppedRead => true
  | .railPowerRead _ => true
  | .regulatorTimeout rail => decide (rail < 7)
  | .estimatorRescale => true
  | .capControlStep => true
  | .fastLimiterEngage _ => true
  | .fastLimiterRelease => true
  | .supplyGuardRelease => true
  | .opChangeComplete cd => okCd cd
  | .thermalStep _ _ => true
  | .thermalTrip unit _ => decide (unit < 40)
  | .lapSlackCheck die _ => okDie die
  | .replanCmd _ => true
  | .replanTimer => true
  | .replanComplete _ _ => true
  | .poweredHour => true
  | .powerCapWrite _ => true
  | .powerModeWrite _ => true
  | .canFrame _ _ _ _ => true
  | .udpDatagram _ _ _ => true
  | .mailboxDoor channel _ => decide (channel < 2)
  | .arpRequest _ _ => true
  | .icmpEcho _ _ _ => true
  | .dhcpMessage _ _ _ => true
  | .dhcpRetry => true
  | .read r => viaOk r.via
  | .write r _ => viaOk r.via
  | .readSeg r _ => viaOk r.via
  | .writeSeg r _ _ _ => viaOk r.via
  | .describe r => viaOk r.via
  | .next r => viaOk r.via
  | .abort r => viaOk r.via
  | .serviceUnknown r _ _ => viaOk r.via
  | .segmentSessionTimeout _ => true
  | .heartbeat => true
  | .storeCmd => true
  | .storeDefaults => true
  | .storeComplete _ => true
  | .resetCmd _ => true
  | .holdRelease _ => true
  | .fwUpdateCmd _ => true
  | .fwUpdateComplete _ => true
  | .protCommit _ _ => true
  | .attNonce _ => true
  | .keyLoad _ => true
  | .debugChallengeRead => true
  | .debugUnlock _ _ _ _ => true
  | .glitchDetected _ => true
  | .controllerCheckFailure _ _ => true
  | .watchdogExpiry _ => true
  | .registerWrite _ _ => true
  | .portTrainingComplete port _ _ => okPort port
  | .pcieAerPmeMessage p _ => okPcie p
  | .canErrorDetected _ => true
  | .canBusOffRecovery => true
  | .ethLinkChange _ => true
  | .dhcpLeaseExpiry _ => true
  | .debugPortAccess op => okDebug op

end Sys2Proof
end

