-- ==== Sys2Proof/Machine/Ops.lean ====
section
/-! DEFINITION. Shared operations: unit checks, free values, what the E9 sends, counters, presence, events (R389 to R394, R446),
the fault log and its recovery windows (R489 to R495), and the entry into package reset (R484, R485). -/

namespace Sys2Proof.Machine

open Sys2Proof

/-- A command acts only on units that exist (R8). -/
def onUnit (ok : Bool) (t : State) : Host.Outcome State Fault Refusal := if ok then .next t else .fault .noSuchUnit

/-- What a command does when its event can arise, and nothing otherwise. -/
def onlyIf (c : Bool) (t s : State) : State := if c then t else s

def emit (e : Emit) (s : State) : State := { s with out := e :: s.out }

/-- A free value, and the state that has drawn it. -/
def drawFree (s : State) : W64 × State := (Config.free s.fresh, { s with fresh := s.fresh + 1 })

def b2n (b : Bool) : Nat := if b then 1 else 0

/-! Tables -/

def tcAt (s : State) (n : Nat) : TCore := tget {} s.tcs n
def tcPut (s : State) (n : Nat) (c : TCore) : State := { s with tcs := tset {} s.tcs n c }
def tcMod (s : State) (n : Nat) (f : TCore → TCore) : State := tcPut s n (f (tcAt s n))
def linkAt (s : State) (i : Nat) : Link := tget {} s.links i
def linkPut (s : State) (i : Nat) (l : Link) : State := { s with links := tset {} s.links i l }
def portAt (s : State) (i : Nat) : Port := tget {} s.ports i
def portPut (s : State) (i : Nat) (p : Port) : State := { s with ports := tset {} s.ports i p }
def itemAt (s : State) (n : Nat) : Option Item := aget s.items n
def itemPut (s : State) (n : Nat) (i : Item) : State := { s with items := aput s.items n i }
def ctxAt (s : State) (n : Nat) : Ctx := tget {} s.ctxs n
def ctxPut (s : State) (n : Nat) (c : Ctx) : State := { s with ctxs := tset {} s.ctxs n c }
def qKey (ctx q : Nat) : Nat := 4 * ctx + q
def queueAt (s : State) (k : Nat) : Queue := tget {} s.queues k
def queuePut (s : State) (k : Nat) (q : Queue) : State := { s with queues := tset {} s.queues k q }
def batonAt (s : State) (n : Nat) : Baton := tget {} s.batons n
def batonPut (s : State) (n : Nat) (b : Baton) : State := { s with batons := tset {} s.batons n b }
def groupAt (s : State) (n : Nat) : Group := tget {} s.groups n
def groupPut (s : State) (n : Nat) (g : Group) : State := { s with groups := tset {} s.groups n g }
def slotAt (s : State) (n : Nat) : Slot := tget {} s.slots n
def slotPut (s : State) (n : Nat) (x : Slot) : State := { s with slots := tset {} s.slots n x }
def mdAt (s : State) (n : Nat) : Md := tget {} s.mds n
def mdPut (s : State) (n : Nat) (m : Md) : State := { s with mds := tset {} s.mds n m }
def rqAt (s : State) (n : Nat) : RQueue := tget {} s.rqs n
def rqPut (s : State) (n : Nat) (r : RQueue) : State := { s with rqs := tset {} s.rqs n r }
def coreAt (s : State) (n : Nat) : Core := tget {} s.cores n
def corePut (s : State) (n : Nat) (c : Core) : State := { s with cores := tset {} s.cores n c }
def pcieAt (s : State) (n : Nat) : Pcie := tget {} s.pcie n
def pciePut (s : State) (n : Nat) (c : Pcie) : State := { s with pcie := tset {} s.pcie n c }
def srcAt (s : State) (n : Nat) : Src := tget {} s.sc.src n
def srcPut (s : State) (n : Nat) (x : Src) : State := { s with sc := { s.sc with src := tset {} s.sc.src n x } }

/-- Frame time now (R158). -/
def now (s : State) : W64 := s.tb.now

/-- An exception of an application core is taken (R260, R373). -/
def takeTrap (ac cause : Nat) (tval : W64) (s : State) : State := corePut s ac (trapCore cause tval (coreAt s ac))

/-- An access fault of an application core (R260): causes 1, 5 and 7 of RISC-V. The trap value is its virtual address, which the model does
not know: a free value. -/
def acTrap (ac pa : Nat) (isFetch isWrite : Bool) (s : State) : State :=
  let d := drawFree s
  emit (.accessFault ac pa isFetch isWrite) (takeTrap ac (if isFetch then 1 else if isWrite then 7 else 5) d.1 d.2)

/-! Presence (R1, R40, R189) -/

/-- A present die that is not in reset: in the held state every die but XD0 is (R483). -/
def diePresent (s : State) (w : Nat) : Bool := s.present.testBit w && (decide (s.boot.phase ≠ .held) || decide (w = 14))

/-- Step 2 of R485: from there on no die issues a new request. -/
def issuing (s : State) : Bool := decide (s.boot.phase ≠ .goingDown)
def cdPresent (s : State) (n : Nat) : Bool := diePresent s n
def mdPresent (s : State) (n : Nat) : Bool := diePresent s (6 + n)

/-- Dies fitted by ordering number (R1). -/
def dieFitted (part w : Nat) : Bool := !(decide (part = 1) && (decide (w = 4) || decide (w = 5) || decide (w = 10) || decide (w = 11)))
/-- Ports fitted by ordering number (R1). -/
def portFitted (part n : Nat) : Bool :=
  if part = 1 then decide (n < 6) || (decide (12 ≤ n) && decide (n < 18))
  else if part = 2 then decide (n < 4) || (decide (12 ≤ n) && decide (n < 16)) else decide (n < 24)

def portPresent (s : State) (n : Nat) : Bool := portFitted s.fuse.part n && diePresent s (if n < 12 then 14 else 15)
def pciePresent (s : State) (p : Nat) : Bool := diePresent s (14 + p / 2)
def tcPresent (s : State) (n : Nat) : Bool := decide (n < 192) && cdPresent s (n / 32)
def acPresent (s : State) (n : Nat) : Bool := decide (n < 128) && diePresent s (12 + n / 64)

/-- A lateral link that carries flits: in the held state the dies at its ends are in reset (R483). -/
def linkUp (s : State) (i : Nat) : Bool := decide (2 ≤ (linkAt s i).state) && decide (s.boot.phase ≠ .held)

/-- RUN_STATE (R444). -/
def runState (s : State) : Nat :=
  match s.boot.phase with
  | .running => 1
  | .held => 2
  | .goingDown => 3
  | .resetHold => 3
  | _ => 0

def running (s : State) : Bool := decide (s.boot.phase = .running)

/-- Whether package reset has already been entered: faults are then logged without effect (R498). -/
def inReset (s : State) : Bool :=
  match s.boot.phase with
  | .goingDown => true
  | .resetHold => true
  | .off => true
  | .failed => true
  | .thermalWait => true
  | .inReset => true
  | _ => false

/-! Counters -/

/-- `n` more in a counter of `w` bits; past its width the spec states no value. -/
def bumpObj (index sub w n : Nat) (s : State) : State :=
  let v := oget s index sub + n
  if v < 2 ^ w then oset s index sub v
  else
    let (x, t) := drawFree s
    oset t index sub (x.toNat % 2 ^ w)

/-- An object's bits set or cleared. -/
def osetBit (index sub i : Nat) (v : Bool) (s : State) : State :=
  let x := oget s index sub
  oset s index sub (if v then x ||| 2 ^ i else if x.testBit i then x - 2 ^ i else x)

/-! Events -/

/-- Level-sensed sources (R390). -/
def srcLevel (n : Nat) : Bool := decide (16 ≤ n) && decide (n < 40)

/-- An event for a source (R389, R393): pending is set, or the event merges; source 0 and those above 8,191 are unrouted. -/
def scRaise (source : Nat) (detail : W32) (s : State) : State :=
  if source = 0 ∨ 8191 < source then
    if s.sc.unrouted + 1 < 2 ^ 32 then { s with sc := { s.sc with unrouted := s.sc.unrouted + 1 } }
    else
      let (x, t) := drawFree s
      { t with sc := { t.sc with unrouted := x.toNat % 2 ^ 32 } }
  else srcPut s source { srcAt s source with pend := true, detail := detail, time := now s }

/-- Step 1 of R394 for a level source. -/
def scLevel (source : Nat) (s : State) : State :=
  let x := srcAt s source
  if x.level && !x.insvc then srcPut s source { x with pend := true, detail := 0, time := now s } else s

/-- Send to each place that Claryn's messages of its own go to: CAN FD as 0, and each MGR_DEST in use (R444, R446). -/
def clarynDests (s : State) (can udp : Bool) : List Nat :=
  (if can && decide (s.boot.canNode ≠ 0) && decide (oget s 0x1100 3 < 2) then [0] else []) ++
  (if udp && decide (oget s 0x1101 6 ≠ 0) then (upto 1 2).filter fun i => decide (oget s 0x1103 i ≠ 0) else [])

/-- CAN_STATE from the error counters (R440, ISO 11898-1): error passive above 127; 2, 3 and 4 stay. -/
def canSettle (s : State) : State :=
  if oget s 0x1100 3 < 2 then oset s 0x1100 3 (if 127 < s.cla.tec ∨ 127 < s.cla.rec_ then 1 else 0) else s

/-- A frame sent on CAN FD without error takes one from the transmit error counter. -/
def canSent (s : State) : State := canSettle { s with cla := { s.cla with tec := s.cla.tec - 1 } }

/-- A message to one of its places. -/
def emitTo (d : Nat) (e : Emit) (s : State) : State := if d = 0 then canSent (emit e s) else emit e s

/-- A CAN FD frame takes the smallest data length code that holds the message, filled with 0x00 (R440). -/
def canPad (l : List Byte) : List Byte := l ++ List.replicate ((([8, 12, 16, 20, 24, 32, 48, 64].find? fun n => decide (l.length ≤ n)).getD 64) - l.length) 0

/-- A message of the function `fn` as it goes to a place: 0 is CAN FD, under the identifier of R441; another is UDP, from port 20610 and
after the prefix (R442). -/
def wireOf (s : State) (d fn : Nat) (l : List Byte) : Wire :=
  if d = 0 then .can (fn + s.boot.canNode.toNat) (canPad l) else .udp 20610 ([0xE9, 0xC1, 1, 0] ++ l)

/-- A message that the E9 sends of its own (R433, R444, R446): DIR, TID, NODE and STATUS are 0 in it. -/
def ownMsg (svc index sub : Nat) (value : List Byte) : List Byte :=
  leBytes 1 svc ++ [0, 0, 0] ++ leBytes 2 index ++ leBytes 1 sub ++ leBytes 1 value.length ++ value

/-- The 24 bytes of an EVENT (R446). -/
def eventValue (e : EvtMsg) : List Byte := leBytes 8 e.time.toNat ++ leBytes 4 e.seq ++ leBytes 8 e.value ++ leBytes 4 0

/-- An EVENT message goes out (R446). -/
def sendEvent (s : State) (e : EvtMsg) : State :=
  (clarynDests s (decide (oget s 0x1104 2 = 1)) (decide (oget s 0x1104 3 = 1))).foldl
    (fun v d => emitTo d (.eventMsg d e.index e.sub e.time e.seq e.value (wireOf v d 0x100 (ownMsg 0x21 e.index e.sub (eventValue e)))) v) s

/-- Ticks of frame time up to a stamp, and in 10 ms, at the raster in force (R158, R169). -/
def stampTicks (s : State) (t : W64) : Nat := (fld 63 24 t * max 1 s.tb.raster.1 + fld 23 10 t) * 1024 + fld 9 0 t
def tenMs (s : State) : Nat := max 1 s.tb.raster.1 * 1024 * s.tb.raster.2.2.1 / (100 * max 1 s.tb.raster.2.1)

/-- The events whose 10 ms are over go out, the oldest first (R446). -/
def sendEvents (s : State) : State :=
  let due := fun e : EvtMsg => decide (stampTicks s e.since + tenMs s ≤ stampTicks s (now s))
  (s.cla.events.filter due).foldl sendEvent { s with cla := { s.cla with events := s.cla.events.filter (fun e => !(due e)) } }

/-- An event message is raised: one of the same object within 10 ms takes its value and number (R446). While frame time stands still
each goes out at once. -/
def queueEvent (index sub seq value : Nat) (s : State) : State :=
  let e : EvtMsg := ⟨index, sub, now s, now s, seq, value⟩
  if !s.tb.on then sendEvent s e
  else
    let t := sendEvents s
    let alike := fun x : EvtMsg => decide (x.index = index) && decide (x.sub = sub)
    let l := if t.cla.events.any alike then t.cla.events.map (fun x => if alike x then { e with since := x.since } else x) else t.cla.events ++ [e]
    { t with cla := { t.cla with events := l } }

/-- A normal-class event of Claryn naming an object (R446). From the entry to package reset on nothing more is sent (R445). -/
def clarynEvent (index sub value : Nat) (s : State) : State :=
  let t := scRaise 4 0 s
  let seq := t.cla.evSeq
  let u := { t with cla := { t.cla with evSeq := (seq + 1) % 2 ^ 32 } }
  if u.boot.claryn && !(inReset u) then queueEvent index sub seq value u else u

/-- Byte 21 of a heartbeat (R444). -/
def hbFlags (s : State) : Nat :=
  b2n (decide (oget s 0x4010 5 = 1)) + 2 * b2n (decide (oget s 0x4010 8 = 1)) + 4 * b2n (decide (s.pwr.thermal ≠ []))

/-- The 24 bytes of a HEARTBEAT (R444). -/
def heartbeatValue (s : State) (state reason seq : Nat) : List Byte :=
  leBytes 8 (now s).toNat ++ leBytes 2 s.chips.chipId ++ leBytes 1 state ++ leBytes 1 reason ++ leBytes 4 s.flash.incarnation ++
  leBytes 4 seq ++ leBytes 1 s.tb.state ++ leBytes 1 (hbFlags s) ++ [0, 0]

/-- A HEARTBEAT message (R444). -/
def sendHeartbeat (state reason : Nat) (s : State) : State :=
  let seq := s.cla.hbSeq
  (clarynDests s true true).foldl
    (fun v d => emitTo d (.heartbeat d (now v) v.chips.chipId state reason v.flash.incarnation seq v.tb.state (hbFlags v)
      (wireOf v d 0x300 (ownMsg 0x20 0 0 (heartbeatValue v state reason seq)))) v)
    { s with cla := { s.cla with hbSeq := (seq + 1) % 2 ^ 32 } }

/-! Faults -/

def faultClass (code : Nat) : Nat := code / 256 % 256

/-- Enter a record in the fault log (R494): the newest 256 are kept. -/
def logFault (code unit detail flags : Nat) (s : State) : State :=
  let e : Flog := ⟨now s, s.faults.seq, s.flash.incarnation, code, faultClass code, flags, unit, detail⟩
  { s with faults := { s.faults with log := (e :: s.faults.log).take 256, seq := (s.faults.seq + 1) % 2 ^ 32 } }

/-- The fault log's newest entry is announced (R495): entries of class 3 or 4. -/
def announceFault (s : State) : State := clarynEvent 0x7000 1 0 s

/-- The controller that is an endpoint in attached mode (R371). -/
def isEndpoint (s : State) (p : Nat) : Bool := s.boot.modeSel && decide (p = 0)
def rootPort (s : State) (p : Nat) : Bool := pciePresent s p && !(s.boot.modeSel && decide (p = 0))

def portInService (p : Port) : Bool := decide (p.state = 3) || decide (p.state = 4)

/-- Claryn serves the objects that lie outside 0x1000 to 0x1FFF and 0x7000 to 0x7FFF: it runs, and the E9 is not held (R445, R450). -/
def objectsOpen (s : State) : Bool := s.boot.claryn && !(inReset s) && !s.sec.haltClaryn && decide (s.boot.phase ≠ .held)

/-- Steps 1 and 2 of R485: the fatal line, RESET_REASON, GOING_DOWN on every port in service, the heartbeat of RUN_STATE 3,
PERST# on every root port. An XD that has fallen silent sends nothing (R486). A storm's powered seconds go to the retained region (R493). Where the start has failed,
package reset was released (R500): the comparators of R419 alone enter it again. -/
def packageReset (reason : Nat) (s : State) : State :=
  if inReset s && !(decide (reason = 5) && decide (s.boot.phase = .failed)) then
    -- R498: thermal shutdown together with any other cause
    if reason = 5 ∧ s.boot.phase = .goingDown then
      { s with boot := { s.boot with reason := 5 }, faults := { s.faults with resetReason := 5 } }
    else s
  else
    let ports := (upto 0 24).filter fun n => portPresent s n && portInService (portAt s n) && !(s.boot.silent.contains (if n < 12 then 14 else 15))
    let t := ports.foldl (fun u n => emit (.goingDown n reason) u) s
    let t := if t.boot.claryn && !(t.boot.silent.contains 14) then sendHeartbeat 3 reason t else t
    let roots := (upto 0 4).filter (rootPort t)
    let t := roots.foldl (fun u p => emit (.perst p true) u) t
    let (x, t) := if reason = 3 then drawFree t else (0, t)
    let secs := t.flash.seconds + x.toNat % 2 ^ 32
    { t with
      boot := { t.boot with phase := .goingDown, fatalLine := true, reason := reason, status := 0, perst := roots }
      faults := { t.faults with
        resetReason := reason
        resetCount := (t.faults.resetCount + 1) % 2 ^ 32
        stormsKept := if reason = 3 then (secs :: t.faults.stormsKept).take 2 else t.faults.stormsKept }
      flash := if reason = 3 then { t.flash with seconds := secs } else t.flash }

/-- A class-3 fault (R489): logged with flag [2] where it causes the reset, announced, and package reset entered. -/
def fatal (code unit detail : Nat) (s : State) : State :=
  if inReset s then logFault code unit detail 0 s
  else
    let flags := 4 + (if s.faults.windows = [] then 0 else 2)
    announceFault (packageReset (if code = 0x0309 then 3 else 1) (logFault code unit detail flags s))

/-- A record of class 4 (R489, R495). -/
def record (code unit detail flags : Nat) (s : State) : State := announceFault (logFault code unit detail flags s)

/-- Whether a resource belongs to an open window (R490, R491). -/
def resourceOpen (s : State) (res : List (Nat × Nat)) : Bool :=
  s.faults.windows.any fun w => w.res.any fun r => res.contains r

/-- Count a fault of class 1 or 2 in every open window (R492). -/
def countInWindows (s : State) : State :=
  { s with faults := { s.faults with windows := s.faults.windows.map fun w => { w with count := w.count + 1 } } }

/-- What follows the logging of a class-1 or class-2 fault: escalation where it hits the resource of an open window (R491), and a
storm where a window's count reaches 3 (R492). Of two class-3 faults at once the lower code causes the reset (R498). -/
def afterFault (code unit : Nat) (hit : Bool) (s : State) : State :=
  let storm := s.faults.windows.any fun w => decide (3 ≤ w.count)
  let t := if hit then fatal 0x0308 unit code s else s
  if storm then fatal 0x0309 0 code t else t

/-- A fault of class 1 (R489, R491): logged, counted, an event on source 5. The answer tells whether its repair is deferred. -/
def fault1 (code unit detail : Nat) (res : List (Nat × Nat)) (s : State) : State :=
  if inReset s then logFault code unit detail 0 s
  else
    let hit := resourceOpen s res
    let opened := !(decide (s.faults.windows = []))
    let flags := b2n hit + 2 * b2n opened + 8 * b2n (opened && !hit)
    let t := bumpObj 0x7001 1 32 1 (logFault code unit detail flags s)
    afterFault code unit hit (countInWindows (scRaise 5 0 t))

/-- A fault of class 2 (R490 to R492): logged and counted; it opens its own window unless it escalates. -/
def fault2 (code unit detail : Nat) (res : List (Nat × Nat)) (s : State) : State :=
  if inReset s then logFault code unit detail 0 s
  else
    let hit := resourceOpen s res
    let opened := !(decide (s.faults.windows = []))
    let t := bumpObj 0x7001 2 32 1 (logFault code unit detail (b2n hit + 2 * b2n opened) s)
    let t := countInWindows t
    let t := if hit then t else { t with faults := { t.faults with windows := t.faults.windows ++ [⟨code, unit, res, 1⟩] } }
    afterFault code unit hit t

/-- Whether a class-1 fault detected now has its repair deferred (R491). -/
def deferNow (s : State) : Bool := !(decide (s.faults.windows = []))

/-- Keep a repair until every window open now has closed (R491). -/
def deferRepair (code unit : Nat) (up : Bool) (lane : Nat) (s : State) : State :=
  { s with faults := { s.faults with
      deferred := s.faults.deferred ++ [⟨code, unit, up, lane, s.faults.windows.map fun w => (w.code, w.unit)⟩] } }

end Sys2Proof.Machine
end

