-- ==== Sys2Proof/Machine/Health.lean ====
section
/-! DEFINITION. Registers by address (R189), HBM channels and their records (R262, R267 to R273), lane replacement, half width and
failure of links and ports (R31 to R34, R334), and the repairs that wait for a window to close (R491). -/

namespace Sys2Proof.Machine

open Sys2Proof

/-! Registers -/

def winBase (w : Nat) : Nat := 0x0F0000000000 + w * 0x400000000
def mdReg (n off : Nat) : Nat := winBase (6 + n) + 0x10000000 + off
def clReg (cl off : Nat) : Nat := winBase (cl / 4) + 0x20000000 + (cl % 4) * 0x1000 + off
def groupReg (g off : Nat) : Nat := winBase (12 + g / 16) + 0x20000000 + (g % 16) * 0x1000 + off
def peReg (p off : Nat) : Nat := winBase (14 + p / 2) + 0x109000000 + (p % 2) * 0x1000 + off
def scReg (off : Nat) : Nat := winBase 14 + 0x108000000 + off

/-- Window of an address in the configuration range, and the offset within it. -/
def winOf (pa : Nat) : Option (Nat × Nat) :=
  if 0x0F0000000000 ≤ pa ∧ pa < 0x0F4000000000 then
    some ((pa - 0x0F0000000000) / 0x400000000, (pa - 0x0F0000000000) % 0x400000000)
  else none

/-- Reset value of a plain register (R294, R295; the vectors of the MSI-X table are masked, R397; every other is 0). -/
def regReset (pa : Nat) : W64 :=
  match winOf pa with
  | none => 0
  | some (w, o) =>
    if 6 ≤ w ∧ w < 12 ∧ 0x10000000 ≤ o ∧ o < 0x10000088 then 0xFFFF
    else if 6 ≤ w ∧ w < 12 ∧ o = 0x10000088 then 0x41
    else if w < 6 ∧ 0x20000000 ≤ o ∧ o < 0x20004000 ∧ o % 0x1000 = 0 then 0xFFFFFFFFFFFFFFFF
    else if w < 6 ∧ 0x20000000 ≤ o ∧ o < 0x20004000 ∧ o % 0x1000 = 8 then 0x1000001
    else if w = 14 ∧ 0x10A000000 ≤ o ∧ o < 0x10A008000 ∧ o % 16 = 8 then 0x100000000
    else 0

def regGet (s : State) (pa : Nat) : W64 :=
  match aget s.regs pa with
  | some v => v
  | none => regReset pa

def regPut (s : State) (pa : Nat) (v : W64) : State := { s with regs := tset (regReset pa) s.regs pa v }

/-! HBM channels -/

/-- Stack and channel within the tile, 32s + c (R262). -/
def chanOf (pa : Nat) : Nat :=
  let o := pa % 0x8000000000
  32 * (bitsOf 13 12 o ^^^ bitsOf 25 24 o) + (((bitsOf 14 14 o) * 16 + bitsOf 11 8 o) ^^^ bitsOf 19 15 o)

/-- Channel-local address (R262). -/
def chanLocal (pa : Nat) : Nat :=
  let o := pa % 0x8000000000
  bitsOf 38 15 o * 256 + bitsOf 7 0 o

/-- Frames in a span of seconds at the raster in force (R13, R169). -/
def framesIn (s : State) (secs : Nat) : Nat := secs * s.tb.raster.2.2.1 / (if s.tb.raster.2.1 = 0 then 1 else s.tb.raster.2.1)

def frameNow (s : State) : Nat := fld 63 24 (now s)

/-- One more error in a list of (frame, count), keeping those within `span` frames. -/
def noteError (frame span : Nat) (l : List (Nat × Nat)) : List (Nat × Nat) :=
  let k := l.filter fun e => decide (frame ≤ e.1 + span)
  match k with
  | (f, c) :: r => if f = frame then (f, c + 1) :: r else (frame, 1) :: (f, c) :: r
  | [] => [(frame, 1)]

def errorCount (l : List (Nat × Nat)) : Nat := l.foldl (fun n e => n + e.2) 0

/-- A page record (R267): a record of a page already queued counts there; a full queue drops it. -/
def pageRecord (md page kind : Nat) (s : State) : State :=
  let m := mdAt s md
  if m.pgret.any fun r => decide (r.1 = page) then
    mdPut s md { m with pgret := m.pgret.map fun r => if r.1 = page then (r.1, r.2.1, if r.2.2 < 255 then r.2.2 + 1 else 255) else r }
  else if m.pgret.length < 64 then
    scRaise (fld 15 0 (regGet s (mdReg md 0x200))) 0 (mdPut s md { m with pgret := m.pgret ++ [(page, kind, 1)] })
  else mdPut s md { m with pgOvf := true }

/-- Migration of the first candidate starts (R272 step 1): the top 16 GiB are withdrawn and the recovery window opens (R274). -/
def startMigration (md : Nat) (s : State) : State :=
  let m := mdAt s md
  match m.cands with
  | [] => s
  | c :: rest =>
    if m.migrating.isSome then s
    else fault2 0x0205 (128 * md + c) 0 [(2, 128 * md + c)]
      (mdPut s md { m with cands := rest, migrating := some c, withdrawn := true, mark := 0 })

/-- A channel becomes a candidate (R269, R270, R273). -/
def addCandidate (md c : Nat) (s : State) : State :=
  let m := mdAt s md
  if m.cands.contains c || m.retired.contains c || m.noReserve.contains c || decide (m.migrating = some c) then s
  else if m.retired.any (fun r => decide (r / 32 = c / 32)) || (match m.migrating with | some r => decide (r / 32 = c / 32) | none => false) then
    mdPut s md { m with noReserve := insNat c m.noReserve }
  else
    let t := mdPut s md { m with cands := insNat c m.cands }
    if bit 0 (regGet t (mdReg md 0x1D8)) || m.withdrawn then startMigration md t else t

/-! Lanes -/

/-- Lanes of a direction that have not failed. -/
def healthy (x : Side) : Nat :=
  (x.lanes.filter fun k => !(x.bad.contains k)).length + (x.spares.filter fun k => !(x.bad.contains k)).length

/-- The first `n` healthy lanes, lowest-numbered first, carry the logical lanes; every other healthy lane is a spare (R32, R38). -/
def chooseLanes (n : Nat) (x : Side) : Side :=
  let h := ((x.lanes ++ x.spares).filter fun k => !(x.bad.contains k)).foldl (fun l k => insNat k l) []
  { x with lanes := h.take n, spares := h.drop n }

/-- The lanes a direction of `n` physical lanes trained on. -/
def trainedSide (n : Nat) (failed : List Nat) : Side := { lanes := (upto 0 n).filter fun k => !(failed.contains k) }

/-- The spare being trained in a direction (R31 step 1). -/
def spareInUse (r : Option (Bool × Nat × Nat)) (up : Bool) : Option Nat :=
  match r with
  | some (u, _, sp) => if u = up then some sp else none
  | none => none

/-- Spares still free: the one being trained is taken. -/
def freeSpares (r : Option (Bool × Nat × Nat)) (up : Bool) (x : Side) : Nat := x.spares.length - (if (spareInUse r up).isSome then 1 else 0)

/-- The failed lane is retired: as a spare it is free no more. -/
def retireLane (lane : Nat) (x : Side) : Side := { x with bad := lane :: x.bad, spares := x.spares.filter fun k => decide (k ≠ lane) }

/-- The switch to the trained spare (R31 step 2). -/
def switchLane (lane sp : Nat) (x : Side) : Side :=
  { x with lanes := x.lanes.map fun k => if k = lane then sp else k, spares := x.spares.filter fun k => decide (k ≠ sp) }

def linkWidth (l : Link) : Nat := if l.state = 3 then 128 else 64

/-- LINK_SPARES_FREE: the lower of the two directions (R36, R38); on a failed link, as it stood when the link failed (DESIGN CHOICE, log 105).
A link that has trained no lane shows the default of its row. -/
def linkSpares (l : Link) : Nat :=
  if l.up.lanes = [] ∧ l.down.lanes = [] then 8 else min (freeSpares l.replacing true l.up) (freeSpares l.replacing false l.down)

def linkSide (l : Link) (up : Bool) : Side := if up then l.up else l.down
def setLinkSide (l : Link) (up : Bool) (x : Side) : Link := if up then { l with up := x } else { l with down := x }

/-- Present dies that no path reaches any more (R23). -/
def cutOff (s : State) : List Nat :=
  let r := reachable (linkUp s)
  (upto 0 16).filter fun w => diePresent s w && !(r.contains (if w < 6 then 6 + w else w))

/-- A link with fewer than 64 healthy lanes in a direction fails (R33); a present die left without a path is fatal (R23). -/
def linkFail (i : Nat) (s : State) : State :=
  let l := linkAt s i
  let h := min (healthy l.up) (healthy l.down)
  let t := linkPut s i { l with state := 1, held := true, retraining := false, replacing := none, queue := [] }
  let seg := (altSegment (linkUp t) i).getD []
  let t := fault2 0x0202 i h ((0, i) :: (pathLinks seg).map fun j => (0, j)) t
  let t := { t with pendAlt := if t.pendAlt.contains i then t.pendAlt else t.pendAlt ++ [i] }
  (cutOff t).foldl (fun u w => fatal 0x0304 w 0 u) t

/-- A lane fails with no spare free: half width (R32 step 1). -/
def linkHalf (i : Nat) (s : State) : State :=
  let l := linkAt s i
  fault2 0x0201 i (min (healthy l.up) (healthy l.down)) [(0, i)]
    (linkPut s i { l with retraining := true, held := true, replacing := none, queue := [] })

/-- Training of the next free spare starts, or waits for the one under way (R31). -/
def linkSwitch (i : Nat) (up : Bool) (lane : Nat) (s : State) : State :=
  let l := linkAt s i
  match l.replacing with
  | none => linkPut s i { l with replacing := (linkSide l up).spares.head?.map fun sp => (up, lane, sp) }
  | some _ => linkPut s i { l with queue := l.queue ++ [(up, lane)] }

/-- What follows for the lanes once the fault is logged: a lane in use gets a spare; for a spare that failed in training the next
one is trained; a free spare is only retired (R31). -/
def linkReplace (i : Nat) (up : Bool) (lane : Nat) (wait : Bool) (s : State) : State :=
  let l := linkAt s i
  if (linkSide l up).lanes.contains lane then (if wait then deferRepair 0x0101 i up lane s else linkSwitch i up lane s)
  else match l.replacing with
    | some (u, f, sp) =>
      if u = up ∧ sp = lane then linkPut s i { l with replacing := (linkSide l up).spares.head?.map fun k => (up, f, k) } else s
    | none => s

/-- A lane the direction has: one in use or a spare. -/
def hasLane (x : Side) (lane : Nat) : Bool := (x.lanes.contains lane || x.spares.contains lane) && !(x.bad.contains lane)

/-- A failing lane of a lateral link (R31 to R34). On a link in recovery the second fault is the lane's, 0x0101 (DESIGN CHOICE, log 106). -/
def linkLaneFail (i : Nat) (up : Bool) (lane : Nat) (s : State) : State :=
  let l := linkAt s i
  let x := linkSide l up
  if !(linkUp s i) || !(hasLane x lane) then s
  else
    let l' := setLinkSide l up (retireLane lane x)
    let t := linkPut s i l'
    if resourceOpen s [(0, i)] then fault1 0x0101 i lane [(0, i)] t
    else if min (healthy l'.up) (healthy l'.down) < 64 then linkFail i t
    else if healthy (linkSide l' up) < linkWidth l then linkHalf i t
    else
      let wait := deferNow t
      let u := fault1 0x0101 i lane [(0, i)] t
      if inReset u then u else linkReplace i up lane wait u

def portSide (p : Port) (up : Bool) : Side := if up then p.tx else p.rx
def setPortSide (p : Port) (up : Bool) (x : Side) : Port := if up then { p with tx := x } else { p with rx := x }
def portWidth (p : Port) : Nat := if p.state = 4 then 8 else 4

/-- A port with fewer than 4 healthy lanes in a direction fails (R334); it leaves every route set and raises source 7 (R390). -/
def portFail (n : Nat) (s : State) : State :=
  let p := portAt s n
  let h := min (healthy p.tx) (healthy p.rx)
  scRaise 7 0 (fault2 0x0204 n h [(1, n)]
    (portPut s n { p with state := 5, retraining := false, replacing := none, queue := [] }))

def portHalf (n : Nat) (s : State) : State :=
  let p := portAt s n
  fault2 0x0203 n (min (healthy p.tx) (healthy p.rx)) [(1, n)]
    (portPut s n { p with retraining := true, replacing := none, queue := [] })

def portSwitch (n : Nat) (up : Bool) (lane : Nat) (s : State) : State :=
  let p := portAt s n
  match p.replacing with
  | none => portPut s n { p with replacing := (portSide p up).spares.head?.map fun sp => (up, lane, sp) }
  | some _ => portPut s n { p with queue := p.queue ++ [(up, lane)] }

def portReplace (n : Nat) (up : Bool) (lane : Nat) (wait : Bool) (s : State) : State :=
  let p := portAt s n
  if (portSide p up).lanes.contains lane then (if wait then deferRepair 0x0102 n up lane s else portSwitch n up lane s)
  else match p.replacing with
    | some (u, f, sp) =>
      if u = up ∧ sp = lane then portPut s n { p with replacing := (portSide p up).spares.head?.map fun k => (up, f, k) } else s
    | none => s

/-- A failing lane of an optical port (R334). -/
def portLaneFail (n : Nat) (up : Bool) (lane : Nat) (s : State) : State :=
  let p := portAt s n
  let x := portSide p up
  if !(portInService p) || !(hasLane x lane) then s
  else
    let p' := setPortSide p up (retireLane lane x)
    let t := portPut s n p'
    if resourceOpen s [(1, n)] then fault1 0x0102 n lane [(1, n)] t
    else if min (healthy p'.tx) (healthy p'.rx) < 4 then portFail n t
    else if healthy (portSide p' up) < portWidth p then portHalf n t
    else
      let wait := deferNow t
      let u := fault1 0x0102 n lane [(1, n)] t
      if inReset u then u else portReplace n up lane wait u

/-- The repair action of a class-1 fault whose windows have closed (R491). For 0x0103 `unit` is the channel and `lane` the page. -/
def repair (d : Deferred) (s : State) : State :=
  if d.code = 0x0101 then linkSwitch d.unit d.up d.lane s
  else if d.code = 0x0102 then portSwitch d.unit d.up d.lane s
  else if d.code = 0x0103 then pageRecord (d.unit / 128) d.lane 2 s
  else addCandidate (d.unit / 128) (d.unit % 128) s

/-- A recovery window closes (R490), and the repairs that waited for it alone proceed (R491). -/
def closeWindow (code unit : Nat) (s : State) : State :=
  let ds := s.faults.deferred.map fun d => { d with after := d.after.filter fun w => decide (w ≠ (code, unit)) }
  let t := { s with faults := { s.faults with
    windows := s.faults.windows.filter fun w => !(decide (w.code = code) && decide (w.unit = unit))
    deferred := ds.filter fun d => decide (d.after ≠ []) } }
  (ds.filter fun d => decide (d.after = [])).foldl (fun u d => repair d u) t

/-- A failing lane. A failed port's packets are sent again at once, so its handling ends and its window closes. -/
def laneFail (u : LaneUnit) (up : Bool) (lane : Nat) (s : State) : State :=
  match u with
  | .link i => linkLaneFail i up lane s
  | .port n => closeWindow 0x0204 n (portLaneFail n up lane s)

end Sys2Proof.Machine
end

