-- ==== Sys2Proof/Machine/Rs.lean ====
section
/-! DEFINITION. The code of an optical codeword: RS(544,514) over GF(2^10) as IEEE 802.3 clause 91 has it, and the places of its
symbols, bytes and sideband message (R328 to R330). -/

namespace Sys2Proof.Machine

open Sys2Proof

/-! The field: x^10 + x^3 + 1, whose root is 2 (PRESUMED, log 118) -/

def gfDouble (a : Nat) : Nat := if a < 512 then 2 * a else (2 * a - 1024) ^^^ 9

def gfMulGo : Nat → Nat → Nat → Nat
  | 0, _, _ => 0
  | n + 1, a, b => (if b % 2 = 1 then a else 0) ^^^ gfMulGo n (gfDouble a) (b / 2)

def gfMul (a b : Nat) : Nat := if a = 0 ∨ b = 0 then 0 else gfMulGo 10 a b

/-- A power, from the bits of the exponent. -/
def gfPowGo : Nat → Nat → Nat → Nat
  | 0, _, _ => 1
  | n + 1, a, e => gfMul (if e % 2 = 1 then a else 1) (gfPowGo n (gfMul a a) (e / 2))

def gfPow (a e : Nat) : Nat := gfPowGo 10 a e
def gfInv (a : Nat) : Nat := gfPow a 1022
/-- α^e. -/
def gfExp (e : Nat) : Nat := gfPow 2 (e % 1023)

/-! Polynomials, lowest coefficient first -/

def polyEval (p : List Nat) (x : Nat) : Nat := p.foldr (fun c v => c ^^^ gfMul v x) 0

def polyAdd : List Nat → List Nat → List Nat
  | [], q => q
  | p, [] => p
  | a :: p, b :: q => (a ^^^ b) :: polyAdd p q

def polyScale (k : Nat) (p : List Nat) : List Nat := p.map (gfMul k)

/-- The factors (x - α^j), j below `n`, multiplied out. -/
def generator : Nat → List Nat
  | 0 => [1]
  | n + 1 => polyAdd (0 :: generator n) (polyScale (gfExp n) (generator n))

/-! Encoding: 514 data symbols in the order sent, then the 30 check symbols of the division by the generator -/

/-- One step of the division: the remainder, highest coefficient first. -/
def rsShift (g : List Nat) (rem : List Nat) (sym : Nat) : List Nat :=
  let k := sym ^^^ rem.headD 0
  polyAdd (rem.tail ++ [0]) (polyScale k g)

def rsEncode (data : List Nat) : List Nat :=
  data ++ data.foldl (rsShift (generator 30).reverse.tail) (List.replicate 30 0)

/-! Decoding: at most 15 symbols are corrected -/

/-- The word at α^j: the first symbol sent is the highest coefficient. -/
def rsAt (word : List Nat) (j : Nat) : Nat := let x := gfExp j; word.foldl (fun v c => gfMul v x ^^^ c) 0

def syndromes (word : List Nat) : List Nat := (upto 0 30).map (rsAt word)

/-- State of the search for the error locator: locator, the last one replaced, its length, shift and discrepancy. -/
structure BmState where
  c : List Nat := [1]
  b : List Nat := [1]
  len : Nat := 0
  m : Nat := 1
  d : Nat := 1
deriving DecidableEq, Repr

def bmStep (syn : List Nat) (x : BmState) (n : Nat) : BmState :=
  let d := (upto 0 (x.len + 1)).foldl (fun v i => v ^^^ gfMul (x.c.getD i 0) (syn.getD (n - i) 0)) 0
  if d = 0 then { x with m := x.m + 1 }
  else
    let c := polyAdd x.c (List.replicate x.m 0 ++ polyScale (gfMul d (gfInv x.d)) x.b)
    if 2 * x.len ≤ n then ⟨c, x.c, n + 1 - x.len, 1, d⟩ else { x with c := c, m := x.m + 1 }

def locator (syn : List Nat) : BmState := (upto 0 30).foldl (bmStep syn) {}

/-- The formal derivative: in characteristic 2 the odd coefficients stay. -/
def polyDerive : List Nat → List Nat
  | [] => []
  | _ :: p => (p.zip (upto 0 p.length)).map fun e => if e.2 % 2 = 0 then e.1 else 0

/-- The evaluator: the product of syndromes and locator, up to the 30th power. -/
def evaluator (syn c : List Nat) : List Nat :=
  (upto 0 30).map fun n => (upto 0 (n + 1)).foldl (fun v i => v ^^^ gfMul (c.getD i 0) (syn.getD (n - i) 0)) 0

/-- The error at place `i` of the word, if the locator has its root there. -/
def errorAt (c o dc : List Nat) (i : Nat) : Nat :=
  let x := gfExp (543 - i)
  let y := gfInv x
  if polyEval c y = 0 then gfMul x (gfMul (polyEval o y) (gfInv (polyEval dc y))) else 0

/-- The word as corrected and the places corrected; none for a word that cannot be corrected (R328). -/
def rsDecode (word : List Nat) : Option (List Nat × List Nat) :=
  let syn := syndromes word
  if syn.all (fun v => decide (v = 0)) then some (word, [])
  else
    let l := locator syn
    let o := evaluator syn l.c
    let dc := polyDerive l.c
    let errs := (upto 0 544).map (errorAt l.c o dc)
    let fixed := List.zipWith (fun a b => a ^^^ b) word errs
    let places := (upto 0 544).filter fun i => decide (errs.getD i 0 ≠ 0)
    if l.len ≤ 15 ∧ places.length = l.len ∧ (syndromes fixed).all (fun v => decide (v = 0)) = true then some (fixed, places) else none

/-! Places (R329, R330) -/

def sidebandWord (c : Codeword) : Nat := c.numbered.toNat * 2 ^ 19 + c.kind % 8 * 2 ^ 16 + c.value % 2 ^ 16

/-- Data symbol k holds bits [10k + 9:10k]: the 640 bytes, then the sideband message. -/
def codewordData (c : Codeword) : List Nat :=
  let v := leNat ((c.bytes ++ List.replicate 640 0).take 640) + 2 ^ 5120 * sidebandWord c
  (upto 0 514).map fun k => v / 2 ^ (10 * k) % 1024

def packTen : List Nat → Nat
  | [] => 0
  | a :: r => a % 1024 + 1024 * packTen r

def codewordOf (data : List Nat) : Codeword :=
  let v := packTen (data.take 514)
  ⟨v.testBit 5139, v / 2 ^ 5136 % 8, v / 2 ^ 5120 % 2 ^ 16, leBytes 640 (v % 2 ^ 5120)⟩

/-- Symbol i goes on logical lane i mod w. -/
def laneCut (w : Nat) (word : List Nat) : List (List Nat) :=
  (upto 0 w).map fun j => (upto 0 (544 / w)).map fun r => word.getD (r * w + j) 0

def laneJoin (lanes : List (List Nat)) : List Nat :=
  let w := lanes.length
  (upto 0 544).map fun i => (lanes.getD (i % w) []).getD (i / w) 0 % 1024

end Sys2Proof.Machine
end

