-- ==== Sys2Proof/Machine/Memory.lean ====
section
/-! DEFINITION. The physical address map (R256 to R258, R378), the fabric between dies (R19 to R21, R308), routes between chips (R340, R341),
packet headers (R333), partitions and reach (R276, R277), error responses (R259 to R261, R518), and the copies of a line (R307, R320). -/

namespace Sys2Proof.Machine

open Sys2Proof

/-! The address map -/

inductive Target where
  | hbm (tile : Nat)
  | mmio (win off : Nat)
  | board (slot off : Nat)
  | host (p : Nat)
  | absent
deriving DecidableEq, Repr

def tileSize : Nat := 0x8000000000
def tileOf (pa : Nat) : Nat := pa / tileSize

/-- A present tile's byte outside its withdrawn top region (R258, R270). -/
def hbmThere (s : State) (pa : Nat) : Bool :=
  decide (pa < 6 * tileSize) && mdPresent s (tileOf pa) && !((mdAt s (tileOf pa)).withdrawn && decide (0x7C00000000 ≤ pa % tileSize))

/-- R256, R257, R258, R378. -/
def target (s : State) (pa : Nat) : Target :=
  if pa < 6 * tileSize then (if hbmThere s pa then .hbm (tileOf pa) else .absent)
  else match winOf pa with
    | some (w, o) => if diePresent s w then .mmio w o else .absent
    | none =>
      if 0x200000000000 ≤ pa ∧ pa < 0x400000000000 then
        (if pa % 2 ^ 42 < 6 * tileSize then .board (bitsOf 44 42 pa) (pa % 2 ^ 42) else .absent)
      else if 0x400000000000 ≤ pa ∧ pa < 0x1400000000000 then
        (let p := pa / 0x400000000000 - 1
         if pciePresent s p then .host p else .absent)
      else .absent

/-- The board-shared window (R257). -/
def inWindow (pa : Nat) : Bool := decide (0x200000000000 ≤ pa) && decide (pa < 0x400000000000)

/-- This E9's slot of the window: CHIP_ID mod 8 (R336). -/
def ownSlot (s : State) : Nat := s.chips.chipId % 8

/-- The local address behind an address served inside the package (R348). -/
def localAddr (s : State) (pa : Nat) : Option Nat :=
  match target s pa with
  | .hbm _ => some pa
  | .board k off => if k = ownSlot s then some off else none
  | _ => none

/-! The fabric: which die a unit or a home sits on, and what travels between dies (R19 to R21) -/

/-- Window number of the die of a caching agent or requesting unit: clusters, groups, LLC slices, then XD0 and XD1 as 62 and 63. -/
def unitWin (u : Nat) : Nat := if u < 24 then u / 4 else if u < 56 then 12 + (u - 24) / 16 else if u < 62 then 6 + (u - 56) else u - 48

def homeWin (ln : Nat) : Nat := winMD (tileOf (128 * ln))

/-- The dies a coherence message runs between (R309): its source, its destination. -/
def msgEnds : CohMsg → Nat × Nat
  | .fwds a l _ => (homeWin l, unitWin a)
  | .fwdm a l _ => (homeWin l, unitWin a)
  | .inv a l _ => (homeWin l, unitWin a)
  | .peek a l => (homeWin l, unitWin a)
  | .flushd a l => (homeWin l, unitWin a)
  | .snack a l _ _ _ _ => (unitWin a, homeWin l)
  | .sndata a l _ _ _ _ _ _ _ => (unitWin a, homeWin l)
  | .grant r l _ _ => (homeWin l, unitWin r)
  | .grantack a l => (unitWin a, homeWin l)
  | .nack r _ => (homeWin r.line, unitWin r.req)
  | .vacack a l => (homeWin l, unitWin a)
  | .placeack a l _ => (unitWin a, homeWin l)
  | .homefill r l _ _ _ _ => (homeWin l, unitWin r)
  | .ownerfill o r _ _ _ _ => (unitWin o, unitWin r)
  | .placedata a l _ _ => (homeWin l, unitWin a)
  | .vac l v => (unitWin v.agent, homeWin l)

/-- The path the routers hold between two dies. -/
def routeOf (s : State) (a b : Nat) : List Nat := tget [] s.routes (16 * a + b)

/-- Traffic between two dies is held while a link of its path is (R32, R33). -/
def pathHeld (s : State) (a b : Nat) : Bool := (pathLinks (routeOf s a b)).any fun i => (linkAt s i).held

/-- Messages in flight whose path runs over a link: the flits that wait while it is held. -/
def heldFlits (s : State) (i : Nat) : Nat :=
  (s.coh.net.filter fun m => (pathLinks (routeOf s (msgEnds m).1 (msgEnds m).2)).contains i).length

/-! Routes -/

/-- A chip's byte in the chip table (R370). -/
def chipByte (s : State) (c : Nat) : Nat := tget 0 s.chips.tab c
def chipMark (s : State) (c : Nat) : Nat := bitsOf 6 5 (chipByte s c)
def chipLost (s : State) (c : Nat) : Bool := decide (chipMark s c = 2)
def chipOfSlot (s : State) (slot : Nat) : Nat := s.chips.chipId / 8 * 8 + slot

def portUp (s : State) (n : Nat) : Bool := portPresent s n && portInService (portAt s n)
def portsWith (s : State) (f : Port → Bool) : List Nat := (upto 0 24).filter fun n => portUp s n && f (portAt s n)

/-- Board ports in service straight to a chip of this board (R340 order 2). -/
def directPorts (s : State) (b : Nat) : List Nat :=
  if b / 8 = s.chips.chipId / 8 then portsWith s fun p => decide (p.role = 1) && decide (p.peerId = b % 8) else []

/-- Board ports to the lowest-numbered slot that reaches the chip (R340 order 3); none through a lost chip (R366). -/
def viaPorts (s : State) (b : Nat) : List Nat :=
  if b / 8 = s.chips.chipId / 8 then
    let l := portsWith s fun p =>
      decide (p.role = 1) && (p.peer.getD 3 0).testBit (b % 8) && !(chipLost s (chipOfSlot s p.peerId))
    match l.map fun n => (portAt s n).peerId with
    | [] => []
    | c :: cs => let k := cs.foldl min c; l.filter fun n => decide ((portAt s n).peerId = k)
  else []

def switchPorts (s : State) (b : Nat) : List Nat :=
  portsWith s fun p => decide (p.role = 2) && (chipByte s b).testBit p.peerId

/-- The first route set that is not empty (R340); empty when the chip is unreachable. -/
def routeSet (s : State) (b : Nat) : List Nat :=
  if directPorts s b ≠ [] then directPorts s b else if viaPorts s b ≠ [] then viaPorts s b else switchPorts s b

/-- The port a packet takes (R341). -/
def portFor (s : State) (b h : Nat) : Option Nat := let l := routeSet s b; l[h % l.length]?

def offHash (off : Nat) : Nat := bitsOf 18 7 off ^^^ bitsOf 30 19 off

/-! Packets -/

/-- The class of a packet type (R332, R333): responses 1, Relay 2, else 0. -/
def pktClass (type : Nat) : Nat :=
  if type = 3 ∨ type = 5 ∨ type = 7 ∨ type = 10 then 1 else if type = 8 ∨ type = 9 then 2 else 0

/-- A packet header (R333): `w1` the hint bits above the offset, `w2` and `w3` the last two words. -/
def pktHdr (dest src type len tag off w1 w2 w3 : Nat) : BitVec 256 :=
  BitVec.ofNat 256 (dest % 4096 + 2 ^ 12 * (src % 4096) + 2 ^ 24 * type + 2 ^ 28 * pktClass type + 2 ^ 32 * len + 2 ^ 48 * (tag % 65536) +
    2 ^ 64 * (off % 2 ^ 44 + w1) + 2 ^ 128 * w2 + 2 ^ 192 * w3)

def hfield (h : BitVec 256) (hi lo : Nat) : Nat := bitsOf hi lo h.toNat

/-! Sending (R329 to R334) -/

def hdrClass (h : BitVec 256) : Nat := hfield h 29 28
def pktUnits (data : List Byte) : Nat := (32 + data.length + 127) / 128
/-- Codewords that bytes of the packet stream fill. -/
def wordsFor (n : Nat) : Nat := (n + 639) / 640
/-- Codewords that packets without gaps fill when nothing more goes with them. Behind the last packet the rest of its codeword is fill,
which the receiver knows by the type 0 in a header's place: where less than the 4 bytes up to a type is left, a codeword of fill follows
(DESIGN CHOICE, log 119). -/
def streamWords (n : Nat) : Nat := let k := wordsFor n; if 0 < 640 * k - n ∧ 640 * k - n < 4 then k + 1 else k

def unacked (p : Port) : Nat := (p.txNum + 65536 - p.acked) % 65536

/-- Bytes of a packet in the stream: the header, then its data. -/
def pktBytes (h : BitVec 256) (data : List Byte) : List Byte := leBytes 32 h.toNat ++ data

/-- On the way down every codeword of a port in service carries GOING_DOWN (R363). -/
def outWord (s : State) (n : Nat) (c : Codeword) : Codeword :=
  if s.boot.phase = .goingDown ∧ portInService (portAt s n) = true then { c with kind := 5, value := s.boot.reason } else c

/-- A codeword leaves on the lanes in use: symbol i on logical lane i mod w (R329). An XD that has fallen silent sends none (R486). -/
def emitWord (n : Nat) (c : Codeword) (s : State) : State :=
  let l := (portAt s n).tx.lanes
  if s.boot.silent.contains (if n < 12 then 14 else 15) then s
  else emit (.codeword n (l.zip (laneCut l.length (rsEncode (codewordData (outWord s n c)))))) s

/-- An unnumbered codeword with a sideband message (R330). -/
def emitSideband (n kind value : Nat) (s : State) : State := emitWord n { kind := kind, value := value } s

/-- A numbered codeword: it takes the next number and stays in the replay buffer (R331). -/
def sendWord (n : Nat) (c : Codeword) (s : State) : State :=
  let p := portAt s n
  emitWord n c (portPut s n { p with txNum := (p.txNum + 1) % 65536, replay := p.replay ++ [c] })

/-- The space that the responses to a request take (R332): a read's answer brings the bytes asked for. -/
def responseUnits (h : BitVec 256) : Nat :=
  if hfield h 27 24 = 1 ∨ hfield h 27 24 = 6 then (32 + hfield h 44 32 + 127) / 128 else 1

def isRequest (h : BitVec 256) : Bool := [1, 2, 4, 6].contains (hfield h 27 24)

/-- A request of this E9, for whose responses space is reserved before it is sent (R332). -/
def reserves (s : State) (h : BitVec 256) : Bool := isRequest h && decide (hfield h 23 12 = s.chips.chipId)

def roomTaken (p : Port) : Nat := p.room.foldl (fun n e => n + e.2) 0

/-- What goes at once and what stays, in order: a packet goes with credit of its class, room in the replay buffer and space for its
responses, and behind nothing of its class; a marker goes behind everything, and everything behind it (R330, R332). -/
def txSplit (s : State) (p : Port) (used : Nat) : List TxItem → List TxItem × List TxItem × Port
  | [] => ([], [], p)
  | x :: r =>
    let keep := fun (_ : Unit) => let y := txSplit s { p with queued := p.queued ++ [x] } used r; (y.1, x :: y.2.1, y.2.2)
    let markerWaits := p.queued.any fun q => match q with | .marker _ => true | _ => false
    match x with
    | .marker _ =>
      if p.retraining || decide (p.queued ≠ []) || decide (2048 < used + 2) then keep ()
      else let y := txSplit s p (used + 2) r; (x :: y.1, y.2.1, y.2.2)
    | .packet h data =>
      let c := hdrClass h
      let behind := markerWaits || p.queued.any fun q => match q with | .packet g _ => decide (hdrClass g = c) | _ => false
      let words := used + streamWords (32 + data.length)
      let space := if reserves s h then roomTaken p + responseUnits h else 0
      if p.retraining || behind || decide (p.credit.getD c 0 < pktUnits data) || decide (2048 < words) || decide (4096 < space) then keep ()
      else
        let p := { p with credit := lset p.credit c (p.credit.getD c 0 - pktUnits data) }
        let p := if reserves s h then { p with room := (hfield h 63 48, responseUnits h) :: p.room } else p
        let y := txSplit s p words r
        (x :: y.1, y.2.1, y.2.2)

/-- Codewords of a stream's bytes, the last filled with zeros. -/
def cutWords : Nat → List Byte → List (List Byte)
  | 0, _ => []
  | n + 1, l => if l = [] then [] else ((l ++ List.replicate 640 0).take 640) :: cutWords n (l.drop 640)

/-- The stream so far leaves in numbered codewords. -/
def sendStream (n : Nat) (l : List Byte) (s : State) : State :=
  let k := streamWords l.length
  (cutWords k (l ++ List.replicate (640 * k - l.length) 0)).foldl (fun t b => sendWord n { numbered := true, bytes := b } t) s

/-- What goes leaves: packets without gaps, and a marker in two consecutive codewords of its own (R330, R333). -/
def sendItems (n : Nat) : List TxItem → List Byte → State → State
  | [], l, s => sendStream n l s
  | .marker k :: r, l, s =>
    let t := sendWord n { numbered := true, kind := 6, value := k % 65536 } (sendStream n l s)
    sendItems n r [] (sendWord n { numbered := true, kind := 6, value := k / 65536 % 65536 } t)
  | .packet h data :: r, l, s =>
    let m := l ++ pktBytes h data
    let p := portAt s n
    sendItems n r m (portPut s n { p with sent := p.sent ++ [((p.txNum + wordsFor m.length + 65535) % 65536, h, data)] })

/-- What waits at a port is sent in order as far as it may go. -/
def flushPort (n : Nat) (s : State) : State :=
  let p := portAt s n
  let x := txSplit s { p with queued := [] } (unacked p) p.queued
  sendItems n x.1 [] (portPut s n { x.2.2 with queued := x.2.1 })

/-- Something to send joins what waits at a port. -/
def pushItem (n : Nat) (x : TxItem) (s : State) : State :=
  let p := portAt s n
  flushPort n (portPut s n { p with queued := p.queued ++ [x] })

def pushPacket (n : Nat) (h : BitVec 256) (data : List Byte) (s : State) : State := pushItem n (.packet h data) s

/-- Hand a packet to a port, or none. -/
def sendOn (port : Option Nat) (h : BitVec 256) (data : List Byte) (s : State) : State :=
  match port with
  | some n => pushPacket n h data s
  | none => s

/-! Requests to other chips and their answers (R332, R341, R347, R354) -/

def pendOf (s : State) (tag : Nat) : Option Pend := s.chips.pend.find? fun p => decide (p.tag = tag)
def pendSet (l : List Pend) (s : State) : State := { s with chips := { s.chips with pend := l } }

def freeTag (s : State) : Nat → Nat → Nat
  | 0, t => t
  | f + 1, t => if (pendOf s t).isSome then freeTag s f ((t + 1) % 65536) else t

/-- Two ranges share a 128-byte line. -/
def shareLine (a n b m : Nat) : Bool := decide (a / 128 ≤ (b + m - 1) / 128) && decide (b / 128 ≤ (a + n - 1) / 128)

/-- Earlier packets for a line of the request still wait, or were sent on another port and have not been acknowledged (R341). -/
def clashes (earlier : List Pend) (p : Pend) (n : Nat) : Bool :=
  earlier.any fun q => decide (q.chip = p.chip) && shareLine q.off q.len p.off p.len && (q.held.isSome || decide (q.port ≠ n))

/-- A request leaves under a tag of its own, or waits for the earlier packets of its lines. -/
def request (p : Pend) (hdr : Nat → BitVec 256) (data : List Byte) (s : State) : Nat × State :=
  let tag := freeTag s s.chips.pend.length s.chips.tag
  let t := { s with chips := { s.chips with tag := (tag + 1) % 65536 } }
  let wait := pendSet (s.chips.pend ++ [{ p with tag := tag, held := some (hdr tag, data) }]) t
  match portFor s p.chip (offHash p.off) with
  | none => (tag, wait)
  | some n =>
    if clashes s.chips.pend p n then (tag, wait)
    else (tag, pushPacket n (hdr tag) data (pendSet (s.chips.pend ++ [{ p with tag := tag, port := n }]) t))

/-- Requests that waited go, in order, once nothing of their lines is ahead of them on another port. -/
def sendHeld : List Nat → State → State
  | [], s => s
  | tag :: r, s => match pendOf s tag with
    | none => sendHeld r s
    | some p => match p.held with
      | none => sendHeld r s
      | some (h, data) => match portFor s p.chip (offHash p.off) with
        | none => sendHeld r s
        | some n =>
          if clashes (s.chips.pend.takeWhile fun q => decide (q.tag ≠ tag)) p n then sendHeld r s
          else sendHeld r (pushPacket n h data
            (pendSet (s.chips.pend.map fun q => if q.tag = tag then { q with held := none, port := n } else q) s))

/-- The space reserved for a tag's responses is free again (R332). -/
def freeRoom (tag : Nat) (s : State) : State :=
  ((upto 0 24).filter fun n => (portAt s n).room.any fun e => decide (e.1 = tag)).foldl (fun t n =>
    flushPort n (portPut t n { portAt t n with room := (portAt t n).room.filter fun e => decide (e.1 ≠ tag) })) s

/-- A request has been answered. -/
def dropPend (tag : Nat) (s : State) : State :=
  let t := freeRoom tag (pendSet (s.chips.pend.filter fun p => decide (p.tag ≠ tag)) s)
  sendHeld ((t.chips.pend.filter fun p => p.held.isSome).map fun p => p.tag) t

/-! Error responses -/

/-- R261, R300, R518: the record of an error response. -/
def memErrRecord (s : State) (code pa : Nat) (who : Requester) : List Byte :=
  let work := match who.item with
    | some k => match itemAt s k with
      | some it => (it.ctx, k)
      | none => (0x80000000, 0)
    | none => (0x80000000, 0)
  leBytes 8 pa ++ leBytes 4 code ++ leBytes 4 (who.kind * 2 ^ 24 + who.num) ++ leBytes 4 work.1 ++ leBytes 4 0 ++ leBytes 8 work.2 ++
    leBytes 8 (now s).toNat

/-- An error response is logged and returned to its requester (R260, R261). -/
def memErr (code pa : Nat) (who : Requester) (s : State) : State :=
  emit (.memError code pa who) (octSet (bumpObj 0x7100 1 32 1 s) 0x7100 2 (memErrRecord s code pa who))

/-! Partitions -/

/-- Word of a context's entry as read at enable (R192). -/
def ctxWord (s : State) (c i : Nat) : W64 := (ctxAt s c).entry.getD i 0
def ctxPart (s : State) (c : Nat) : Nat := fld 3 0 (ctxWord s c 0)

/-- Partition of a request (R276). -/
def partOf (s : State) (who : Requester) : Option Nat :=
  match who.kind with
  | 2 => some (oget s 0x5104 (who.num / 4 + 1))
  | 3 => some (oget s 0x5105 (who.num + 1))
  | 4 => some (oget s 0x5106 (who.num + 1))
  | 9 => none
  | _ => match who.item with
    | some n => (itemAt s n).map fun it => ctxPart s it.ctx
    | none => none

/-- Reach of a partition (R277); traffic without a partition is not checked. -/
def reaches (s : State) (part : Option Nat) (b : Nat) : Bool :=
  match part with
  | none => true
  | some p => (oget s 0x5102 (p + 1)).testBit b

/-! Lines -/

def lineOf (pa : Nat) : Nat := pa / 128

def lineByte (d : LineData) (i : Nat) : Byte := (d >>> (8 * i)).truncate 8
def lineBytes128 (d : LineData) : List Byte := (upto 0 128).map (lineByte d)
def lineOfBytes (l : List Byte) : LineData := BitVec.ofNat 1024 (leNat l)
/-- Bytes [i, i + n) of a line. -/
def lineCut (d : LineData) (i n : Nat) : List Byte := (upto i n).map (lineByte d)

/-- The bits of a line that `n` half bytes from half byte `h` cover. -/
def nibbleMask (h n : Nat) : LineData := BitVec.ofNat 1024 ((2 ^ (4 * n) - 1) * 2 ^ (4 * h))

/-- `new` where the mask has ones, `old` elsewhere. -/
def mergeLine (mask old new : LineData) : LineData := (old &&& ~~~ mask) ||| (new &&& mask)

/-- A run of bytes at offset `i`, as a line and the mask of what it writes; `half` leaves out the high half of the last byte (R90, R309). -/
def runMask (i : Nat) (half : Bool) (l : List Byte) : LineData := nibbleMask (2 * i) (2 * l.length - b2n half)
def runLine (i : Nat) (l : List Byte) : LineData := BitVec.ofNat 1024 (leNat l * 2 ^ (8 * i))
def wholeMask : LineData := BitVec.allOnes 1024

/-- The first byte of each line of a range. -/
def lineStarts (pa n : Nat) : List Nat :=
  (upto (lineOf pa) (if n = 0 then 0 else lineOf (pa + n - 1) - lineOf pa + 1)).map fun l => max pa (128 * l)

/-- A range as (address, bytes) within lines. -/
def lineSpans (pa n : Nat) : List (Nat × Nat) :=
  (lineStarts pa n).map fun a => (a, min (pa + n) (128 * (lineOf a + 1)) - a)

/-- Cut a run of bytes at line boundaries. -/
def cutLines : Nat → Nat → List Byte → List (Nat × List Byte)
  | 0, _, _ => []
  | f + 1, a, l =>
    if l = [] then []
    else (a, l.take (128 - a % 128)) :: cutLines f (a + (128 - a % 128)) (l.drop (128 - a % 128))

/-! Copies of a line -/

/-- Home data (R307): the home slice on a hit, and otherwise HBM; with its poison. -/
def homeLine (s : State) (ln : Nat) : LineData × Bool :=
  match aget s.mem.llc ln with
  | some e => (e.data, e.poison)
  | none => (lineOfBytes (tbytes s.mem.hbm (128 * ln) 128), s.mem.poison.contains ln)

/-- A line that a message in flight carries away from its only holder. -/
def msgLine (ln : Nat) : CohMsg → Option (LineData × Bool)
  | .ownerfill _ _ l st p d => if l = ln ∧ st ≠ .s then some (d, p) else none
  | .sndata _ l _ _ dirty _ p d _ => if l = ln ∧ dirty = true then some (d, p) else none
  | _ => none

/-- A writeback buffer whose eviction its home has settled holds nothing any more: the VacAck is on its way (R315, R320). -/
def vacSettled (s : State) (a ln : Nat) : Bool := s.coh.net.any fun m => decide (m = .vacack a ln)

/-- The newest copy of a line, with its poison (R312, R320): its owner's, one in a writeback buffer or in flight, else home data. -/
def newest (s : State) (ln : Nat) : LineData × Bool :=
  match s.coh.lines.find? fun e => decide (e.2.1 = ln) && decide (e.2.2.st ≠ .s) with
  | some e => (e.2.2.data, e.2.2.poison)
  | none => match s.coh.wb.find? fun e => decide (e.2.1 = ln) && decide (e.2.2.st ≠ .s) && !(vacSettled s e.1 ln) with
    | some e => (e.2.2.data, e.2.2.poison)
    | none => match s.coh.net.findSome? (msgLine ln) with
      | some d => d
      | none => homeLine s ln

/-- A byte of local HBM as every coherent reader sees it (R320). -/
def memByte (s : State) (a : Nat) : Byte := lineByte (newest s (lineOf a)).1 (a % 128)

def memBytes (s : State) (a : Nat) : Nat → List Byte
  | 0 => []
  | n + 1 => memByte s a :: memBytes s (a + 1) n

/-- Whether a read of the line returns POISONED (R264, R323). -/
def linePoisoned (s : State) (ln : Nat) : Bool := (newest s ln).2

/-- Change every copy of a line (data by `f`, poison by `p`). -/
def mapALine (ln : Nat) (f : LineData → LineData) (p : Bool → Bool) (l : List (Nat × Nat × ALine)) : List (Nat × Nat × ALine) :=
  l.map fun e => if e.2.1 = ln then (e.1, e.2.1, { e.2.2 with data := f e.2.2.data, poison := p e.2.2.poison }) else e

def mapMsg (ln : Nat) (f : LineData → LineData) (p : Bool → Bool) : CohMsg → CohMsg
  | .sndata a l k g w x z d q => if l = ln then .sndata a l k g w x (p z) (f d) q else .sndata a l k g w x z d q
  | .homefill r l t h z d => if l = ln then .homefill r l t h (p z) (f d) else .homefill r l t h z d
  | .ownerfill o r l t z d => if l = ln then .ownerfill o r l t (p z) (f d) else .ownerfill o r l t z d
  | .placedata a l z d => if l = ln then .placedata a l (p z) (f d) else .placedata a l z d
  | .vac l v => if l = ln then .vac l { v with data := f v.data, poison := p v.poison } else .vac l v
  | m => m

def mapDir (ln : Nat) (f : LineData → LineData) (p : Bool → Bool) (l : List (Nat × DirEnt)) : List (Nat × DirEnt) :=
  l.map fun e => if e.1 = ln then (e.1, { e.2 with vac := e.2.vac.map fun v => { v with data := f v.data, poison := p v.poison } }) else e

def mapCopies (ln : Nat) (f : LineData → LineData) (p : Bool → Bool) (s : State) : State :=
  { s with
    mem := { s.mem with llc := s.mem.llc.map fun e => if e.1 = ln then (e.1, { e.2 with data := f e.2.data, poison := p e.2.poison }) else e }
    coh := { s.coh with
      lines := mapALine ln f p s.coh.lines
      wb := mapALine ln f p s.coh.wb
      net := s.coh.net.map (mapMsg ln f p)
      dir := mapDir ln f p s.coh.dir } }

/-! Errors of an access -/

/-- Why an access to a byte ends in an error response before memory is reached (R259): the lack of a target first (R258), then reach.
Writes into the attached-host window are posted and receive none (R259, R383). -/
def accessError (s : State) (part : Option Nat) (write : Bool) (pa : Nat) : Option Nat :=
  match target s pa with
  | .absent => some 1
  | .mmio _ _ => none
  | .hbm n => if !(reaches s part n) then some 4 else none
  | .board k off =>
    if k = ownSlot s then
      (if !(hbmThere s off) then some 1 else if !(reaches s part 6 && reaches s part (tileOf off)) then some 4 else none)
    else if chipLost s (chipOfSlot s k) || decide (routeSet s (chipOfSlot s k) = []) then some 1
    else if !(reaches s part 6) then some 4 else none
  | .host p => if !(reaches s part 7) then some 4 else if !write && decide ((pcieAt s p).rate = 0) then some 5 else none

/-- The first error of a range, and where. -/
def rangeError (s : State) (part : Option Nat) (write : Bool) (pa n : Nat) : Option (Nat × Nat) :=
  (lineStarts pa n).findSome? fun a => (accessError s part write a).map fun c => (c, a)

/-- Bytes that another chip or the host holds: free values. -/
def freeBytes : Nat → State → List Byte × State
  | 0, s => ([], s)
  | n + 1, s =>
    let d := drawFree s
    let r := freeBytes n d.2
    (d.1.truncate 8 :: r.1, r.2)

end Sys2Proof.Machine
end

