-- ==== Sys2Proof/Machine/Hbm.lean ====
section
/-! DEFINITION. The HBM controllers: where a byte lies while a channel is retired (R271, R272), corrected and uncorrectable reads
(R263, R264), poison, page records (R267), and the metering and the limit of each partition's traffic (R279). -/

namespace Sys2Proof.Machine

open Sys2Proof

/-! Channels -/

/-- Chunks of a channel that a migration moves (R271). -/
def chunkTotal : Nat := 31 * 2 ^ 19

/-- The channel and channel-local address that hold a byte now: the chunks of a retired channel, and those of a migrating one below the
copy mark, lie in the reserve (R271, R272). -/
def chanNow (s : State) (pa : Nat) : Nat × Nat :=
  let m := mdAt s (tileOf pa)
  let c := chanOf pa
  let a := chanLocal pa
  let j := a / 256
  if decide (j < chunkTotal) && (m.retired.contains c || (decide (m.migrating = some c) && decide (j < m.mark))) then
    let k := j / 2 ^ 19
    (c / 32 * 32 + (if k < c % 32 then k else k + 1), 31 * 2 ^ 27 + j % 2 ^ 19 * 256 + a % 256)
  else (c, a)

def chanUnit (s : State) (pa : Nat) : Nat := 128 * tileOf pa + (chanNow s pa).1

/-- How far the copy has come by the time an error is met is a free value; it never goes back (R272 step 2). -/
def copyRuns (md : Nat) (s : State) : State :=
  if (mdAt s md).migrating.isNone then s
  else
    let d := drawFree s
    let m := mdAt d.2 md
    mdPut d.2 md { m with mark := min chunkTotal (m.mark + d.1.toNat) }

/-! Reads that the stack's ECC reports -/

def dayFrames (s : State) : Nat := framesIn s 86400
def hourFrames (s : State) : Nat := framesIn s 3600

/-- A page record is a repair: it waits for open windows to close (R491). -/
def recordPage (pa kind : Nat) (s : State) : State := pageRecord (tileOf pa) (pa / 4096) kind s

/-- A read that the stack's ECC corrects (R263, R267, R269). The page is recorded when this error brings its count to the limit, and,
after the limit has been lowered under its count, at its next error (R298). -/
def readCorrected (pa : Nat) (s0 : State) : State :=
  let s := copyRuns (tileOf pa) s0
  let n := tileOf pa
  let t := bumpObj 0x3401 (n + 1) 64 1 s
  let m := mdAt t n
  let pg := noteError (frameNow t) (dayFrames t) (tget [] m.pageCe (pa / 4096))
  let ch := noteError (frameNow t) (hourFrames t) (tget [] m.chanCe (chanNow t pa).1)
  let t := mdPut t n { m with pageCe := tset [] m.pageCe (pa / 4096) pg, chanCe := tset [] m.chanCe (chanNow t pa).1 ch }
  if oget t 0x2200 1 ≤ errorCount pg then recordPage pa 1 t else t

def setPoison (ln : Nat) (v : Bool) (s : State) : State :=
  { s with mem := { s.mem with poison := if v then insNat ln s.mem.poison else s.mem.poison.filter fun l => decide (l ≠ ln) } }

/-- A read that cannot be corrected: the line is poisoned, in every cache, the fault logged, the page recorded (R264, R267). -/
def readUncorrectable (pa : Nat) (s0 : State) : State :=
  let s := copyRuns (tileOf pa) s0
  let unit := chanUnit s pa
  let detail := (chanNow s pa).2 / 128
  let t := setPoison (lineOf pa) true (mapCopies (lineOf pa) id (fun _ => true) (bumpObj 0x3402 (tileOf pa + 1) 64 1 s))
  let wait := deferNow t
  let u := fault1 0x0103 unit detail [(2, unit)] t
  if inReset u then u else if wait then deferRepair 0x0103 unit false (pa / 4096) u else recordPage pa 2 u

/-- A requester without one (R518): the window number of the die. -/
def noUnit (win : Nat) : Requester := ⟨9, win, none⟩

/-! Partitions -/

/-- 128-byte accesses that a share of n/256 of an MD's 10.24 TB/s allows in 1 µs (R279). -/
def shareOf (n : Nat) : Nat := 80000 * n / 256

def usedBy (s : State) (md p : Nat) : Nat := tget 0 (mdAt s md).used p

/-- One 128-byte access to an MD's HBM (R279). -/
def meter (part : Option Nat) (md : Nat) (s : State) : State :=
  match part with
  | none => s
  | some p => bumpObj 0x3400 (p + 1) 64 128 (mdPut s md { mdAt s md with used := tset 0 (mdAt s md).used p (usedBy s md p + 1) })

/-- The partition has used up its limit at this MD in the current 1 µs: its requests wait there (R279). -/
def overLimit (s : State) (part : Option Nat) (md : Nat) : Bool :=
  match part with
  | none => false
  | some p => decide (shareOf (oget s 0x5100 (p + 1)) ≤ usedBy s md p)

/-- Its use is below its guaranteed share (R280). -/
def underGuar (s : State) (part : Option Nat) (md : Nat) : Bool :=
  match part with
  | none => false
  | some p => decide (usedBy s md p < shareOf (oget s 0x5101 (p + 1)))

/-- What one access took beyond the limit counts in the next 1 µs (DESIGN CHOICE, log 108). -/
def nextWindow (s : State) (md : Nat) : Tab Nat :=
  (upto 0 16).foldl (fun t p => tset 0 t p (usedBy s md p - shareOf (oget s 0x5100 (p + 1)))) []

/-- R279: a new 1 µs. -/
def execPartBwWindow (md : Nat) (s : State) : Host.Outcome State Fault Refusal :=
  onUnit (okMd md) (mdPut s md { mdAt s md with used := nextWindow s md })

/-! Accesses to HBM -/

def flawAt (s : State) (ln : Nat) : Option Bool := aget s.mem.flaws ln

/-- What the next reads of HBM meet: lines and whether the error is uncorrectable. -/
def setFlaws (l : List (Nat × Bool)) (s : State) : State := { s with mem := { s.mem with flaws := l } }

/-- What a command's reads of HBM meet is an operand of it; it holds for that command only (R263, R264). -/
def withFlaws (l : List (Nat × Bool)) (f : State → State) (s : State) : State :=
  setFlaws [] (f (setFlaws l s))

/-- One read of a line from HBM: metered, counted where the stack corrects it; the answer is the error it ends in, if any. -/
def hbmRead (part : Option Nat) (ln : Nat) (s : State) : Option Nat × State :=
  let t := meter part (tileOf (128 * ln)) s
  if t.mem.poison.contains ln then (some 3, t)
  else match flawAt t ln with
    | some false => (none, readCorrected (128 * ln) t)
    | some true => (some 2, readUncorrectable (128 * ln) t)
    | none => (none, t)

def hbmData (s : State) (ln : Nat) : LineData := lineOfBytes (tbytes s.mem.hbm (128 * ln) 128)

/-- The 128 bytes of a line go into HBM (R262). -/
def putHbm (ln : Nat) (d : LineData) (s : State) : State :=
  { s with mem := { s.mem with hbm := tputs s.mem.hbm (128 * ln) (lineBytes128 d) } }

/-- A line written to HBM; a poisoned one gives a page record (R264, R267). -/
def hbmLine (ln : Nat) (d : LineData) (poison : Bool) (part : Option Nat) (s : State) : State :=
  let t := meter part (tileOf (128 * ln)) (setPoison ln poison (putHbm ln d s))
  if poison then recordPage (128 * ln) 3 t else t

/-- Bytes of one line written at the controller, as an NC access does (R264, R283): a part of a line is merged into what a read of it gives,
and is discarded where that read is uncorrectable. -/
def hbmMerge (part : Option Nat) (ln : Nat) (mask d : LineData) (s : State) : Option Nat × State :=
  let wr := fun (p : Bool) (t : State) =>
    setPoison ln p (putHbm ln (mergeLine mask (hbmData t ln) d) (meter part (tileOf (128 * ln)) t))
  if mask = wholeMask then (none, wr false s)
  else
    let r := hbmRead part ln s
    if r.1 = some 2 then (some 2, r.2) else (none, wr (r.2.mem.poison.contains ln) r.2)

end Sys2Proof.Machine
end

