-- ==== Sys2Proof/Machine/Caches.lean ====
section
/-! DEFINITION. The caches (R282, R284): sets, ways and tree pseudo-LRU, the LLC slices, the copies at agents and the directory's entries
(R302, R306), evictions and their settling (R315), and the stream trackers of the MDs (R289). -/

namespace Sys2Proof.Machine

open Sys2Proof

/-! Ways -/

/-- The tree after a use of a way: every node on its path points away from it. Node 1 decides bit 3 of the way, nodes 2n and 2n + 1 lie
below node n (DESIGN CHOICE, log 109). -/
def plruTouch (t w : Nat) : Nat :=
  [(1, 3), (2 + w / 8, 2), (4 + w / 4, 1), (8 + w / 2, 0)].foldl (fun x e =>
    let clear := if x.testBit e.1 then x - 2 ^ e.1 else x
    if w.testBit e.2 then clear else clear + 2 ^ e.1) t

/-- Ways below a node at a height: whether the mask permits one of them. -/
def anyWay (mask lo n : Nat) : Bool := (upto lo n).any mask.testBit

/-- The way that the nodes point at, among those the mask permits. -/
def plruPick (t mask : Nat) : Nat → Nat → Nat → Nat
  | 0, _, lo => lo
  | h + 1, node, lo =>
    let half := 2 ^ h
    let right := (t.testBit node || !(anyWay mask lo half)) && anyWay mask (lo + half) half
    plruPick t mask h (2 * node + (if right then 1 else 0)) (if right then lo + half else lo)

/-- The way a fill takes: the lowest-numbered invalid one the mask permits, else the pseudo-LRU one among those that may be evicted. -/
def pickWay (t mask : Nat) (used locked : List Nat) : Option Nat :=
  match (upto 0 16).find? fun w => mask.testBit w && !(used.contains w) with
  | some w => some w
  | none =>
    let m := (upto 0 16).foldl (fun k w => if mask.testBit w && !(locked.contains w) then k + 2 ^ w else k) 0
    if m = 0 then none else some (plruPick t m 4 1 0)

/-! Sets -/

/-- Home of a line, and its set in the directory and in a slice: bits [22:7] of its tile offset (R306). -/
def lineHome (ln : Nat) : Nat := tileOf (128 * ln)
def lineSet (ln : Nat) : Nat := ln % 65536
def lineThere (s : State) (ln : Nat) : Bool := hbmThere s (128 * ln)

def isGroup (a : Nat) : Bool := decide (24 ≤ a) && decide (a < 56)
def isSlice (a : Nat) : Bool := decide (56 ≤ a) && decide (a < 62)

/-- Sets of a second-level cache (R282); a line's set is its number modulo them (PRESUMED, log 110). -/
def l2Sets (a : Nat) : Nat := if a < 24 then 4096 else if a < 56 then 2048 else 65536

/-- Agents of R302 on dies that are present. -/
def agentPresent (s : State) (a : Nat) : Bool :=
  if a < 24 then cdPresent s (a / 4) else if a < 56 then diePresent s (12 + (a - 24) / 16) else decide (a < 62) && mdPresent s (a - 56)
/-- Requesting units of R303: clusters, groups, XD0 and XD1 as 62 and 63. -/
def unitPresent (s : State) (u : Nat) : Bool :=
  if u < 56 then agentPresent s u else decide (62 ≤ u) && decide (u < 64) && diePresent s (u - 48)

/-- The unit whose tracker a requester's request holds (R296, R303); 64 where it has none. -/
def unitOf (who : Requester) : Nat :=
  match who.kind with
  | 1 => who.num / 8
  | 2 => 24 + who.num / 4
  | 3 => 62 + who.num / 2
  | 4 => if who.num < 12 then 62 else 63
  | 9 => 64
  | _ => 62

/-! Copies at agents -/

def cohMod (s : State) (f : Coh → Coh) : State := { s with coh := f s.coh }
def say (m : CohMsg) (s : State) : State := cohMod s fun c => { c with net := c.net ++ [m] }

/-! Messages on their way (R20, R308) -/

/-- Class of a message: 1 snoop, 2 response, 3 data. -/
def msgClass : CohMsg → Nat
  | .fwds _ _ _ => 1
  | .fwdm _ _ _ => 1
  | .inv _ _ _ => 1
  | .peek _ _ => 1
  | .flushd _ _ => 1
  | .sndata _ _ _ _ _ _ _ _ _ => 3
  | .homefill _ _ _ _ _ _ => 3
  | .ownerfill _ _ _ _ _ _ => 3
  | .placedata _ _ _ _ => 3
  | .vac _ _ => 3
  | _ => 2

/-- A HomeFill whose read of HBM is still to come has not left its home. -/
def unsent : CohMsg → Bool
  | .homefill _ _ _ hbm _ _ => hbm
  | _ => false

/-- A message travels behind one that was sent before it: between the same two dies, in one virtual channel (DEDUCED, log 116). -/
def behind (m earlier : CohMsg) : Bool :=
  !(unsent earlier) && decide (msgEnds m = msgEnds earlier) && decide ((msgEnds m).1 ≠ (msgEnds m).2) && decide (msgClass m = msgClass earlier)

/-- Nothing that was sent before a message is ahead of it: what leaves its home only now comes after all that has. -/
def nextUp (m : CohMsg) (before after : List CohMsg) : Bool :=
  !(before.any (behind m)) && !(unsent m && after.any (behind m))

/-- The first message that a test admits, if nothing travels ahead of it. -/
def firstFree (p : CohMsg → Bool) : List CohMsg → List CohMsg → Option (CohMsg × List CohMsg)
  | _, [] => none
  | seen, m :: r => if p m then (if nextUp m seen r then some (m, seen.reverse ++ r) else none) else firstFree p (m :: seen) r

/-- Take the first message that a test admits off the network: in order, and not over a path that is held (R20, R32, R33). -/
def hear (p : CohMsg → Bool) (s : State) : Option (CohMsg × State) :=
  match firstFree p [] s.coh.net with
  | some (m, rest) => if pathHeld s (msgEnds m).1 (msgEnds m).2 then none else some (m, cohMod s fun c => { c with net := rest })
  | none => none

def lineAt (s : State) (a ln : Nat) : Option ALine := (s.coh.lines.find? fun e => decide (e.1 = a) && decide (e.2.1 = ln)).map fun e => e.2.2
def wbAt (s : State) (a ln : Nat) : Option ALine := (s.coh.wb.find? fun e => decide (e.1 = a) && decide (e.2.1 = ln)).map fun e => e.2.2
def linesBut (a ln : Nat) (l : List (Nat × Nat × ALine)) : List (Nat × Nat × ALine) := l.filter fun e => !(decide (e.1 = a) && decide (e.2.1 = ln))
/-- A copy goes, and with it the reservations of the group's cores. -/
def lineDrop (a ln : Nat) (s : State) : State :=
  cohMod s fun c => { c with
    lines := linesBut a ln c.lines
    resv := c.resv.filter fun e => !(decide (24 + e.1 / 4 = a) && decide (e.2 = ln)) }
/-- Change the copy an agent holds, in its way. -/
def linePut (a ln : Nat) (x : ALine) (s : State) : State := cohMod s fun c => { c with lines := (a, ln, x) :: linesBut a ln c.lines }
def wbDrop (a ln : Nat) (s : State) : State :=
  cohMod s fun c => { c with wb := c.wb.filter fun e => !(decide (e.1 = a) && decide (e.2.1 = ln)) }
def dirtySt (x : Moesi) : Bool := decide (x = .m) || decide (x = .o)

/-! The directory -/

def entAt (s : State) (ln : Nat) : Option DirEnt := aget s.coh.dir ln
def entPut (ln : Nat) (e : DirEnt) (s : State) : State := cohMod s fun c => { c with dir := aput c.dir ln e }
def entDel (ln : Nat) (s : State) : State := cohMod s fun c => { c with dir := adel c.dir ln }
def stable (d : DirSt) : Bool := decide (d = .ds) || decide (d = .de) || decide (d = .d_o)
def emptyEnt : DirEnt := { st := .ds, owner := 0, sharers := [], was := .ds, req := none, snoops := [], acks := [], fwd := false, vac := [] }

/-- A transaction of the line is open, or a request for it waits for a victim's way (R316, R319, R321). -/
def lineBusy (s : State) (ln : Nat) : Bool :=
  (match entAt s ln with | some e => !(stable e.st) | none => false) ||
  s.coh.dir.any fun e => decide (e.2.st = .te) && (match e.2.req with | some r => decide (r.line = ln) | none => false)

/-- Agents an entry lists as holders. -/
def holders (e : DirEnt) : List Nat := (if e.was = .ds then [] else [e.owner]) ++ e.sharers
def sharersBut (e : DirEnt) (r : Nat) : List Nat := e.sharers.filter fun a => decide (a ≠ r)

/-- Entries of a line's directory set at its home. -/
def setEntries (s : State) (ln : Nat) : List (Nat × DirEnt) :=
  s.coh.dir.filter fun e => decide (lineHome e.1 = lineHome ln) && decide (lineSet e.1 = lineSet ln)

def dirKey (ln : Nat) : Nat := 65536 * lineHome ln + lineSet ln
def dirTouch (ln way : Nat) (s : State) : State :=
  cohMod s fun c => { c with dirlru := tmod 0 c.dirlru (dirKey ln) fun t => plruTouch t way }

/-- A free way of the line's directory set. -/
def dirWay (s : State) (ln : Nat) : Option Nat :=
  let used := (setEntries s ln).map fun e => e.2.way
  (upto 0 16).find? fun w => !(used.contains w)

/-- An entry that enters the directory, or is used, in its way (R306, R319). -/
def entUse (ln : Nat) (e : DirEnt) (s : State) : State :=
  match entAt s ln with
  | some x => dirTouch ln x.way (entPut ln { e with way := x.way } s)
  | none => let w := (dirWay s ln).getD 0; dirTouch ln w (entPut ln { e with way := w } s)

/-! Home trackers (R296, R297) -/

def isEsc (r : Option CohReq) : Bool := match r with | some x => x.esc | none => false

/-- The request of a unit for a line that has not been answered. -/
def openOf (s : State) (u ln : Nat) : Option CohReq := s.coh.open_.find? fun r => decide (r.req = u) && decide (r.line = ln)

/-- Requests that a home holds trackers for: transient entries, and Looks whose HomeFill waits for HBM. -/
def homeReqs (s : State) (md : Nat) : List (Option CohReq) :=
  (s.coh.dir.filterMap fun e => if lineHome e.1 = md && !(stable e.2.st) then some e.2.req else none) ++
  s.coh.net.filterMap fun m => match m with
    | .homefill u l none true _ _ => if lineHome l = md then some (openOf s u l) else none
    | _ => none

/-- Home trackers in use outside the reserve. -/
def homeTrackers (s : State) (md : Nat) : Nat := ((homeReqs s md).filter fun r => !(isEsc r)).length

/-- Home trackers of an MD that a partition's requests hold (R297). -/
def partTrackers (s : State) (md p : Nat) : Nat :=
  ((homeReqs s md).filter fun r => match r with | some x => decide (x.part = some p) | none => false).length

/-- A prefetch of a cluster L2 (R288). -/
def isPrefetch (r : CohReq) : Bool := decide (r.kind = .gets) && decide (r.fill = 3)

/-- Home trackers that prefetches hold (R289). -/
def prefetchTrackers (s : State) (md : Nat) : Nat :=
  ((homeReqs s md).filter fun r => match r with | some x => isPrefetch x | none => false).length

/-- No home tracker is free for a request that is not escalated, or its partition is at its share of them (R297, R316). -/
def trackerCause (s : State) (md : Nat) (part : Option Nat) : Option Nat :=
  if 16128 ≤ homeTrackers s md then some 2
  else match part with
    | some p => if 12288 ≤ partTrackers s md p then some 3 else none
    | none => none

/-- Trackers run short for a prefetch, or prefetches hold an eighth of them (R289). -/
def prefetchTrackersShort (s : State) (md : Nat) (part : Option Nat) : Bool :=
  (trackerCause s md part).isSome || decide (2048 ≤ prefetchTrackers s md)

/-! LLC slices -/

def llcDrop (ln : Nat) (s : State) : State := { s with mem := { s.mem with llc := adel s.mem.llc ln } }

/-- An LLC line leaves its slice; dirty data goes to HBM. -/
def llcEvict (ln : Nat) (s : State) : State :=
  match aget s.mem.llc ln with
  | none => s
  | some e => if e.dirty then hbmLine ln e.data e.poison e.part (llcDrop ln s) else llcDrop ln s

/-- Ways of a slice that a partition's fills may take (R284); a prefetch's are fewer. -/
def llcMask (s : State) (md : Nat) (part : Option Nat) (prefetch : Bool) : Nat :=
  (match part with | none => 0xFFFF | some p => fld 15 0 (regGet s (mdReg md (8 * p)))) &&&
  (if prefetch then fld 15 0 (regGet s (mdReg md 0x80)) else 0xFFFF)

/-- What the ways of a slice's set hold: lines homed here, and lines of other homes that pushes have placed (R282, R313). -/
def sliceSet (s : State) (md set : Nat) : List (Nat × Nat) :=
  (s.mem.llc.filterMap fun e => if lineHome e.1 = md ∧ lineSet e.1 = set then some (e.2.way, e.1) else none) ++
  s.coh.lines.filterMap fun e => if e.1 = 56 + md ∧ lineSet e.2.1 = set then some (e.2.2.way, e.2.1) else none

def llcTouch (md set way : Nat) (s : State) : State :=
  { s with mem := { s.mem with plru := tmod 0 s.mem.plru (65536 * md + set) fun t => plruTouch t way } }

/-- The clusters that a slice has served lose the line before the slice does (R314). -/
def nearInv (a ln : Nat) (s : State) : State :=
  if isSlice a then
    let t := (s.coh.near.filter fun e => decide (e.2 = ln) && decide (e.1 / 4 = a - 56)).foldl (fun u e => lineDrop e.1 ln u) s
    cohMod t fun c => { c with near := c.near.filter fun e => !(decide (e.2 = ln) && decide (e.1 / 4 = a - 56)) }
  else s

/-- The line of another home that a slice drops takes the copies it has served with it. -/
def sliceEvict (md ln : Nat) (s : State) : State :=
  if lineHome ln = md then llcEvict ln s else nearInv (56 + md) ln (lineDrop (56 + md) ln s)

/-- A way of a slice for a line, emptied; none where the mask permits none. -/
def sliceWay (md ln mask : Nat) (s : State) : Option Nat × State :=
  let set := sliceSet s md (lineSet ln)
  match pickWay (tget 0 s.mem.plru (65536 * md + lineSet ln)) mask (set.map fun e => e.1) [] with
  | none => (none, s)
  | some w => match set.find? fun e => decide (e.1 = w) with
    | some e => (some w, sliceEvict md e.2 s)
    | none => (some w, s)

/-- A line enters its home slice, where the mask permits a way (R284). -/
def llcFill (ln mask : Nat) (e : LlcLine) (s : State) : State :=
  let md := lineHome ln
  match aget s.mem.llc ln with
  | some x => llcTouch md (lineSet ln) x.way { s with mem := { s.mem with llc := aput s.mem.llc ln { e with way := x.way } } }
  | none => match sliceWay md ln mask s with
    | (none, t) => t
    | (some w, t) => llcTouch md (lineSet ln) w { t with mem := { t.mem with llc := aput t.mem.llc ln { e with way := w } } }

/-- Dirty data arrives at the home (R311): into the slice, or to HBM where the slice does not allocate it. -/
def toHome (ln : Nat) (d : LineData) (poison : Bool) (part : Option Nat) (s : State) : State :=
  match aget s.mem.llc ln with
  | some e => llcFill ln 0xFFFF { e with data := d, dirty := true, poison := poison } s
  | none =>
    let m := llcMask s (lineHome ln) part false
    if m = 0 then hbmLine ln d poison part s else llcFill ln m ⟨d, true, poison, part, 0⟩ s

/-! Prefetch into a slice (R289) -/

/-- Fetch a line into its home slice ahead of any request. Its error is only logged. -/
def llcPrefetch (part : Option Nat) (ln : Nat) (s : State) : State :=
  let md := lineHome ln
  let m := llcMask s md part true
  if !(lineThere s ln) || (aget s.mem.llc ln).isSome || lineBusy s ln || prefetchTrackersShort s md part || overLimit s part md || decide (m = 0) then s
  else
    let r := hbmRead part ln s
    let t := match r.1 with | some c => memErr c (128 * ln) (noUnit (winMD md)) r.2 | none => r.2
    llcFill ln m ⟨hbmData t ln, false, t.mem.poison.contains ln, part, 0⟩ t

/-- The tracker after one more miss: a stride begins with two misses, and any other starts a new one. -/
def streamStep (ln : Nat) (x : Stream) : Stream :=
  let d : Int := (ln : Int) - x.last
  if d = x.stride then { x with last := ln, count := x.count + 1 } else { x with last := ln, stride := d, count := 2 }

/-- Lines that a stream fetches ahead: never past its page. -/
def streamAhead (x : Stream) (degree : Nat) : List Nat :=
  (upto 1 degree).filterMap fun (k : Nat) =>
    let l : Int := (x.last : Int) + x.stride * (k : Int)
    if 0 ≤ l ∧ l.toNat / 32 = x.page then some l.toNat else none

/-- A miss of a unit in a slice: its stream is followed, and after three misses at one stride lines ahead are fetched (R289). A new
stream takes the place of the oldest of 256 (DESIGN CHOICE, log 111). -/
def noteMiss (unit : Nat) (part : Option Nat) (ln : Nat) (s : State) : State :=
  let md := lineHome ln
  let cfg := regGet s (mdReg md 0x88)
  if !(bit 0 cfg) then s
  else
    let m := mdAt s md
    let mine := fun (x : Stream) => decide (x.unit = unit) && decide (x.page = ln / 32)
    let x := match m.streams.find? mine with | some x => streamStep ln x | none => ⟨unit, ln / 32, ln, 0, 1⟩
    let t := mdPut s md { m with streams := (x :: m.streams.filter fun y => !(mine y)).take 256 }
    let deg := fld 7 4 cfg
    if x.count < 3 ∨ x.stride = 0 then t
    else (streamAhead x (if 1 ≤ deg ∧ deg ≤ 8 then deg else 8)).foldl (fun u l => llcPrefetch part l u) t

/-- Home data for a request of a unit (R307, R311): from the slice on a hit; otherwise read from HBM, allocated in the slice under the
partition's mask, which a prefetch's is narrower than, and noted as a miss. With the error the read ends in, if any, and the data. -/
def homeRead (unit : Nat) (part : Option Nat) (prefetch : Bool) (ln : Nat) (s : State) : Option Nat × (LineData × Bool) × State :=
  match aget s.mem.llc ln with
  | some e => (if e.poison then some 3 else none, (e.data, e.poison), llcTouch (lineHome ln) (lineSet ln) e.way s)
  | none =>
    let r := hbmRead part ln s
    let d := hbmData r.2 ln
    let p := r.2.mem.poison.contains ln
    (r.1, (d, p), noteMiss unit part ln (llcFill ln (llcMask r.2 (lineHome ln) part prefetch) ⟨d, false, p, part, 0⟩ r.2))

/-! Evictions of groups (R315) -/

/-- A group may have 16 evictions outstanding at one home (R308). -/
def vacRoom (s : State) (a ln : Nat) : Bool :=
  decide ((s.coh.wb.filter fun e => decide (e.1 = a) && decide (lineHome e.2.1 = lineHome ln)).length < 16)

/-- An eviction is applied if the entry still lists its sender as owner, and acknowledged (R315). -/
def applyVac (ln : Nat) (v : Vac) (s : State) : State :=
  let t := match entAt s ln with
    | none => s
    | some e =>
      if stable e.st && decide (e.st ≠ .ds) && decide (e.owner = v.agent) then
        let u := if v.full then toHome ln v.data v.poison v.part s else s
        if e.sharers = [] then entDel ln u else entPut ln { e with st := .ds, was := .ds, owner := 0 } u
      else s
  say (.vacack v.agent ln) t

/-- An eviction reaches the home: settled at once, or after the open transaction. -/
def vacArrive (ln : Nat) (v : Vac) (s : State) : State :=
  match entAt s ln with
  | some e => if stable e.st then applyVac ln v s else entPut ln { e with vac := e.vac ++ [v] } s
  | none => applyVac ln v s

/-- An eviction on its way is heard at its home, where nothing is ahead of it and its path is not held. -/
def vacHear (a ln : Nat) (s : State) : State :=
  match hear (fun m => match m with | .vac l v => decide (v.agent = a) && decide (l = ln) | _ => false) s with
  | some (.vac l v, t) => vacArrive l v t
  | _ => s

/-- A group evicts a line it owns: the line moves to its writeback buffer and the home is told. An E line goes without data. -/
def vacate (a ln : Nat) (x : ALine) (s : State) : State :=
  let full := dirtySt x.st
  let t := cohMod (lineDrop a ln s) fun c => { c with wb := (a, ln, if full then x else { x with st := .s }) :: c.wb }
  vacHear a ln (say (.vac ln ⟨a, full, x.data, x.poison, x.part⟩) t)

/-! Fills of second-level caches -/

/-- Requests that leave their line at an agent (R306, R311). -/
def needsEntry (k : CohKind) : Bool := decide (k = .gets) || decide (k = .getm) || decide (k = .promote)

/-- Ways that a fill of a kind may take in a cluster L2 (R284, R295); an application-core L2 has no mask; in a slice a push is a fill of
the partition it is made for. -/
def agentMask (s : State) (a fill : Nat) (part : Option Nat) : Nat :=
  if a < 24 then bitsOf (16 * fill + 15) (16 * fill) (regGet s (clReg a 0)).toNat
  else if a < 56 then 0xFFFF else llcMask s (a - 56) part false

def l2Key' (a ln : Nat) : Nat := 65536 * a + ln % l2Sets a
def l2Touch (a ln way : Nat) (s : State) : State :=
  if isSlice a then llcTouch (a - 56) (lineSet ln) way s
  else cohMod s fun c => { c with l2lru := tmod 0 c.l2lru (l2Key' a ln) fun t => plruTouch t way }

/-- Lines in a set of an agent's own cache: way, line, copy. -/
def agentSet (s : State) (a ln : Nat) : List (Nat × Nat × ALine) :=
  s.coh.lines.filterMap fun e => if e.1 = a ∧ e.2.1 % l2Sets a = ln % l2Sets a then some (e.2.2.way, e.2.1, e.2.2) else none

/-- A line that an agent may not evict: its request or transaction is open, or its eviction has no room (R308, R315). -/
def pinned (s : State) (a l : Nat) (x : ALine) : Bool :=
  isGroup a && ((s.coh.open_.any fun r => decide (r.req = a) && decide (r.line = l)) ||
    (decide (x.st ≠ .s) && (!(vacRoom s a l) || (wbAt s a l).isSome)))

/-- An agent's line leaves: an S line silently, an owned one by VacData or VacClean. -/
def agentEvict (a l : Nat) (x : ALine) (s : State) : State := if x.st = .s then lineDrop a l s else vacate a l x s

/-- Ways of the line's set that a group keeps empty for the fills of other lines it has asked for (R308). -/
def waysKept (s : State) (a ln : Nat) : Nat :=
  if isGroup a then
    (s.coh.open_.filter fun r => decide (r.req = a) && needsEntry r.kind && decide (r.line ≠ ln) &&
      decide (r.line % l2Sets a = ln % l2Sets a) && (lineAt s a r.line).isNone).length
  else 0

/-- A way for a line in an agent's cache, emptied; none where none is permitted. -/
def agentWay (a ln mask0 : Nat) (s : State) : Option Nat × State :=
  if isSlice a then sliceWay (a - 56) ln mask0 s
  else
    let set := agentSet s a ln
    let mask := if 16 ≤ set.length + waysKept s a ln then mask0 &&& (set.foldl (fun k e => k ||| 2 ^ e.1) 0) else mask0
    let locked := set.filterMap fun e => if pinned s a e.2.1 e.2.2 then some e.1 else none
    match pickWay (tget 0 s.coh.l2lru (l2Key' a ln)) mask (set.map fun e => e.1) locked with
    | none => (none, s)
    | some w => match set.find? fun e => decide (e.1 = w) with
      | some e => (some w, agentEvict a e.2.1 e.2.2 s)
      | none => (some w, s)

/-- A fill of an agent's cache (R284): in the way the line has, or in one that its mask permits; with none it is not allocated. -/
def agentFill (a ln mask : Nat) (x : ALine) (s : State) : Bool × State :=
  match lineAt s a ln with
  | some y => (true, l2Touch a ln y.way (linePut a ln { x with way := y.way } s))
  | none => match agentWay a ln mask s with
    | (none, t) => (false, t)
    | (some w, t) => (true, l2Touch a ln w (linePut a ln { x with way := w } t))

/-- Whether a fill would find a way. -/
def canFill (s : State) (a ln mask : Nat) : Bool := (lineAt s a ln).isSome || (agentWay a ln mask s).1.isSome

end Sys2Proof.Machine
end

