-- ==== Sys2Proof/Machine/Home.lean ====
section
/-! DEFINITION. The home of a line: what a request makes of its entry and its holders when every snoop is answered in the same step
(R303, R311 to R314, R319). The same transactions message by message are in Protocol.lean; a unit's own access is one step (DESIGN CHOICE,
log 112). -/

namespace Sys2Proof.Machine

open Sys2Proof

/-! Entries -/

/-- A line's entry as a request finds it, in a stable state. -/
def entNow (s : State) (ln : Nat) : DirEnt :=
  match entAt s ln with | some e => { e with was := e.st } | none => emptyEnt

/-- The owner's copy. -/
def ownerLine (s : State) (e : DirEnt) (ln : Nat) : Option ALine := if e.was = .ds then none else lineAt s e.owner ln

/-- Close an entry at once: a DS entry without sharers is DI. -/
def entClose (ln : Nat) (e : DirEnt) (s : State) : State :=
  if decide (e.was = .ds) && decide (e.sharers = []) then entDel ln s else entUse ln { e with st := e.was } s

/-- A holder loses its copy; dirty data goes to the home (R310, R311, R314). -/
def invCopy (ln a : Nat) (s : State) : State :=
  let t := nearInv a ln (lineDrop a ln s)
  match lineAt s a ln with
  | some x => if dirtySt x.st then toHome ln x.data x.poison x.part t else t
  | none => t

def invAll (ln : Nat) (l : List Nat) (s : State) : State := l.foldl (fun t a => invCopy ln a t) s

/-- The stable entry that tree pseudo-LRU takes from a full set (R319). -/
def dirVictim (s : State) (ln : Nat) : Option (Nat × DirEnt) :=
  let cand := (setEntries s ln).filter fun e => stable e.2.st
  let m := cand.foldl (fun k e => k ||| 2 ^ e.2.way) 0
  if m = 0 then none
  else
    let w := plruPick (tget 0 s.coh.dirlru (dirKey ln)) m 4 1 0
    cand.find? fun e => decide (e.2.way = w)

/-- A way for the line's entry: a victim leaves a full set, and its copies with it (R319). -/
def makeRoom (ln : Nat) (s : State) : State :=
  if (entAt s ln).isSome || (dirWay s ln).isSome then s
  else match dirVictim s ln with
    | none => s
    | some (vl, v) => bumpObj 0x3502 (lineHome ln + 1) 64 1 (entDel vl (invAll vl (holders { v with was := v.st }) s))

/-- A request that needs an entry would be refused: every way of the set is transient (R316). -/
def setStuck (s : State) (ln : Nat) : Bool := (entAt s ln).isNone && (dirWay s ln).isNone && (dirVictim s ln).isNone

/-! Requests (R311) -/

def errOf (poison : Bool) : Option Nat := if poison then some 3 else none

/-- Where a GetS leaves the entry: an M owner keeps O, an E owner keeps S. -/
def sharedEnt (e : DirEnt) (x : Option ALine) (a : Nat) (alone : Bool) : DirEnt :=
  match x with
  | some y => if y.st = .e then { e with was := .ds, owner := 0, sharers := insNat a (insNat e.owner e.sharers) }
      else { e with was := .d_o, sharers := if a = e.owner then e.sharers else insNat a e.sharers }
  | none => if alone && isGroup a then { e with was := .de, owner := a, sharers := [] }
      else { e with was := .ds, owner := 0, sharers := insNat a e.sharers }

/-- GetS of an agent, for a prefetch or on demand; its cache takes the line under `mask`. -/
def getsNow (a : Nat) (part : Option Nat) (prefetch : Bool) (mask ln : Nat) (s : State) : Option Nat × (LineData × Bool) × State :=
  let t := makeRoom ln s
  let e := entNow t ln
  match ownerLine t e ln with
  | some x =>
    let u := linePut e.owner ln { x with st := if x.st = .e then .s else .o } t
    let u := entClose ln (sharedEnt e (some x) a false) u
    (errOf x.poison, (x.data, x.poison), (agentFill a ln mask ⟨.s, x.data, x.poison, part, 0⟩ u).2)
  | none =>
    let alone := decide (holders e = [])
    let r := homeRead a part prefetch ln t
    let u := entClose ln (sharedEnt e none a alone) r.2.2
    (r.1, r.2.1, (agentFill a ln mask ⟨if alone && isGroup a then .e else .s, r.2.1.1, r.2.1.2, part, 0⟩ u).2)

/-- GetM of a group: every other copy goes; a dirty one is forwarded in M. -/
def getmNow (g : Nat) (part : Option Nat) (ln : Nat) (s : State) : Option Nat × State :=
  let t := makeRoom ln s
  let e := entNow t ln
  let own : DirEnt := { e with was := .de, owner := g, sharers := [] }
  match ownerLine t e ln with
  | some x =>
    let u := invAll ln (sharersBut e g) (lineDrop e.owner ln t)
    (errOf x.poison, (agentFill g ln 0xFFFF { x with st := if dirtySt x.st then .m else .e, part := part } (entClose ln own u)).2)
  | none =>
    let u := invAll ln (sharersBut e g) t
    let r := homeRead g part false ln u
    (r.1, (agentFill g ln 0xFFFF ⟨.e, r.2.1.1, r.2.1.2, part, 0⟩ (entClose ln own r.2.2)).2)

/-- Promote of a group that holds the line in S or O. -/
def promoteNow (g ln : Nat) (x : ALine) (s : State) : State :=
  let e := entNow s ln
  let u := invAll ln ((holders e).filter fun a => decide (a ≠ g)) s
  linePut g ln { x with st := .m } (entClose ln { e with was := .de, owner := g, sharers := [] } u)

/-- Look: home data where it is current, else the owner's, whose state stays. -/
def lookNow (unit : Nat) (part : Option Nat) (ln : Nat) (s : State) : Option Nat × (LineData × Bool) × State :=
  match ownerLine s (entNow s ln) ln with
  | some x => (errOf x.poison, (x.data, x.poison), s)
  | none => homeRead unit part false ln s

/-! Writes (R309, R313) -/

/-- Agent a push goes to; none where the hint leaves the line at its home. -/
def pushAgent (s : State) (hint hintId ln : Nat) : Option Nat :=
  let a := match hint with
    | 1 => some hintId
    | 2 => some (24 + hintId)
    | 3 => if hintId = lineHome ln then none else some (56 + hintId)
    | _ => none
  match a with
  | some k => if agentPresent s k then some k else none
  | none => none

/-- A request of the agent for the line has not been answered. -/
def openReq (s : State) (u ln : Nat) : Bool := s.coh.open_.any fun r => decide (r.req = u) && decide (r.line = ln)

/-- A target declines a poisoned line, a line it has a request open for, and a line for which its mask permits no way (R313, R323). -/
def declines (s : State) (a ln : Nat) (part : Option Nat) (poison : Bool) : Bool :=
  poison || openReq s a ln || !(canFill s a ln (agentMask s a 2 part))

/-- Merge a write into home data; where part of a line misses the slice, the old data is read from HBM, and an uncorrectable read discards
the write (R264, R311). -/
def mergeHome (part : Option Nat) (ln : Nat) (mask d : LineData) (s : State) : Option Nat × State :=
  let whole := decide (mask = wholeMask)
  match aget s.mem.llc ln with
  | some e => (none, toHome ln (mergeLine mask e.data d) (e.poison && !whole) part s)
  | none =>
    if whole then (none, toHome ln d false part s)
    else
      let r := hbmRead part ln s
      if r.1 = some 2 then (some 2, r.2)
      else (none, toHome ln (mergeLine mask (hbmData r.2 ln) d) (r.2.mem.poison.contains ln) part r.2)

/-- The push of a write that a target takes; a decline is counted (R313). -/
def pushNow (a : Nat) (part : Option Nat) (ln : Nat) (s : State) : State :=
  let h := homeLine s ln
  if declines s a ln part h.2 then bumpObj 0x3504 (lineHome ln + 1) 64 1 s
  else
    let r := agentFill a ln (agentMask s a 2 part) ⟨.s, h.1, h.2, part, 0⟩ s
    entClose ln { emptyEnt with sharers := [a] } r.2

/-- PutPlace: every copy goes, dirty data home; the write is merged and visible (R312); then its push. -/
def putNow (part : Option Nat) (hint hintId ln : Nat) (mask d : LineData) (s : State) : Option Nat × State :=
  let e := entNow s ln
  let room := (entAt s ln).isSome || (dirWay s ln).isSome
  let r := mergeHome part ln mask d (entDel ln (invAll ln (holders e) s))
  match r.1 with
  | some c => (some c, r.2)
  | none => match (if room then pushAgent r.2 hint hintId ln else none) with
    | some a => (none, pushNow a part ln r.2)
    | none => (none, r.2)

def wordOfLine (d : LineData) (i : Nat) : W64 := (d >>> (64 * i)).truncate 64
def wordMask (i : Nat) : LineData := nibbleMask (16 * i) 16
def wordLine (i : Nat) (v : W64) : LineData := (v.zeroExtend 1024 : LineData) <<< (64 * i)

/-- CasHome on an aligned word (R309): the error its read ends in, the old value, and the state. -/
def casNow (part : Option Nat) (ln i : Nat) (old new : W64) (s : State) : Option Nat × W64 × State :=
  let e := entNow s ln
  let t := entDel ln (invAll ln (holders e) s)
  let r := homeRead 62 part false ln t
  let v := wordOfLine r.2.1.1 i
  if r.1.isSome then (r.1, v, r.2.2)
  else if v = old then (none, v, toHome ln (mergeLine (wordMask i) r.2.1.1 (wordLine i new)) r.2.1.2 part r.2.2)
  else (none, v, r.2.2)

/-! Units -/

/-- A near slice that holds the line serves a cluster of the CD above it (R314). -/
def nearSlice (s : State) (cl ln : Nat) : Option ALine := if lineHome ln = cl / 4 then none else lineAt s (56 + cl / 4) ln

/-- A read by a cluster L2 for a fill of one kind: its own copy, the near slice's, or a GetS. -/
def clusterRead (cl : Nat) (part : Option Nat) (fill ln : Nat) (s : State) : Option Nat × (LineData × Bool) × State :=
  match lineAt s cl ln with
  | some x => (errOf x.poison, (x.data, x.poison), l2Touch cl ln x.way s)
  | none => match nearSlice s cl ln with
    | some x =>
      let t := agentFill cl ln (agentMask s cl fill part) ⟨.s, x.data, x.poison, part, 0⟩ (l2Touch (56 + cl / 4) ln x.way s)
      (errOf x.poison, (x.data, x.poison),
        if t.1 then cohMod t.2 fun c => { c with near := (cl, ln) :: c.near.filter fun e => decide (e ≠ (cl, ln)) } else t.2)
    | none => getsNow cl part (decide (fill = 3)) (agentMask s cl fill part) ln s

/-- A read by a group for one of its cores. Where no way can be freed the line is read without a copy. -/
def groupRead (g : Nat) (part : Option Nat) (ln : Nat) (s : State) : Option Nat × (LineData × Bool) × State :=
  match lineAt s g ln with
  | some x => (errOf x.poison, (x.data, x.poison), l2Touch g ln x.way s)
  | none => if canFill s g ln 0xFFFF then getsNow g part false 0xFFFF ln s else lookNow g part ln s

/-- A group makes a line its own, to write it (R311): the error its fill ends in. -/
def groupOwn (g : Nat) (part : Option Nat) (ln : Nat) (s : State) : Option Nat × State :=
  match lineAt s g ln with
  | some x => (none, l2Touch g ln x.way (if x.st = .m ∨ x.st = .e then s else promoteNow g ln x s))
  | none => getmNow g part ln s

/-- A group writes a line that it has made its own (R312); where no way can be freed the write goes to the home. A fill that ends in an error
discards the write of a part of the line. -/
def groupWrite' (g : Nat) (part : Option Nat) (ln : Nat) (mask d : LineData) (s : State) : Option Nat × State :=
  let whole := decide (mask = wholeMask)
  if (lineAt s g ln).isNone && !(canFill s g ln 0xFFFF) then putNow part 0 0 ln mask d s
  else
    let r := groupOwn g part ln s
    match lineAt r.2 g ln with
    | none => r
    | some x =>
      if r.1.isSome && !whole then r
      else (none, linePut g ln { x with st := .m, data := mergeLine mask x.data d, poison := x.poison && !whole } r.2)

end Sys2Proof.Machine
end

