-- ==== Sys2Proof/Machine/Num.lean ====
section
/-! DEFINITION. Number formats (R54, R96 to R100), exact values, rounding to nearest with ties to even, the flush of R106,
and the conversions of R109 with the saturated and flushed marks of R110. Element codes are natural numbers. -/

namespace Sys2Proof.Machine

open Sys2Proof

/-- Bits per element of a format code (R54). -/
def fmtBits (f : Nat) : Nat :=
  if f ≤ 1 then 4 else if f ≤ 5 then 8 else if f ≤ 7 then 16 else if f = 8 ∨ f = 9 then 32
  else if f = 10 then 16 else if f = 11 then 32 else if f = 12 then 1 else 0

def fmtReserved (f : Nat) : Bool := decide (12 < f)
def fmtIsInt (f : Nat) : Bool := decide (f ≤ 3) || decide (f = 9)
def fmtIsFloat (f : Nat) : Bool := decide (4 ≤ f) && decide (f ≤ 8)
/-- The nine arithmetic formats (R96, R97). -/
def fmtArith (f : Nat) : Bool := decide (f ≤ 8)

/-- Exponent bits, fraction bits and bias (R97). -/
def ffE (f : Nat) : Nat := if f = 4 then 4 else if f = 5 then 5 else if f = 7 then 5 else 8
def ffF (f : Nat) : Nat := if f = 4 then 3 else if f = 5 then 2 else if f = 6 then 7 else if f = 7 then 10 else 23
def ffBias (f : Nat) : Int := if f = 4 then 7 else if f = 5 ∨ f = 7 then 15 else 127

/-- Canonical NaN (R100). -/
def canonNaN (f : Nat) : Nat :=
  if f = 4 then 0x7F else if f = 5 then 0x7E else if f = 6 then 0x7FC0 else if f = 7 then 0x7E00 else 0x7FC00000

/-- An exact value: NaN, an infinity, or (−1)^neg × mant × 2^exp. -/
inductive Val where
  | nan
  | inf (neg : Bool)
  | fin (neg : Bool) (mant : Nat) (exp : Int)
deriving DecidableEq, Repr

/-- The value of a float code (R97, R98). -/
def fval (f c : Nat) : Val :=
  let F := ffF f
  let E := ffE f
  let neg := decide (bitsOf (E + F) (E + F) c = 1)
  let e := bitsOf (E + F - 1) F c
  let frac := c % 2 ^ F
  if f = 4 then
    if e = 15 ∧ frac = 7 then .nan
    else if e = 0 then .fin neg frac (1 - ffBias f - F)
    else .fin neg (2 ^ F + frac) (e - ffBias f - F)
  else if e = 2 ^ E - 1 then (if frac = 0 then .inf neg else .nan)
  else if e = 0 then .fin neg frac (1 - ffBias f - F)
  else .fin neg (2 ^ F + frac) (e - ffBias f - F)

/-- The integer an integer code stands for (R96). -/
def ival (f c : Nat) : Int :=
  let b := fmtBits f
  if f = 1 ∨ f = 3 ∨ f = 10 ∨ f = 11 then (c : Int)
  else if 2 ^ (b - 1) ≤ c then (c : Int) - 2 ^ b else c

def intMin (f : Nat) : Int := if f = 1 ∨ f = 3 then 0 else -(2 ^ (fmtBits f - 1))
def intMax (f : Nat) : Int := if f = 1 ∨ f = 3 then 2 ^ fmtBits f - 1 else 2 ^ (fmtBits f - 1) - 1

/-- The code of an integer within range. -/
def icode (f : Nat) (v : Int) : Nat := (v % (2 ^ fmtBits f : Int)).toNat

/-- Saturate to the range of an integer format. -/
def clampInt (f : Nat) (v : Int) : Int := if v < intMin f then intMin f else if intMax f < v then intMax f else v

/-- mant × 2^d rounded to an integer, ties to even. -/
def rne (mant : Nat) (d : Int) : Nat :=
  if 0 ≤ d then mant <<< d.toNat
  else
    let sh := (-d).toNat
    let q := mant >>> sh
    let r := mant % 2 ^ sh
    let half := 2 ^ (sh - 1)
    if half < r ∨ (r = half ∧ q % 2 = 1) then q + 1 else q

/-- Code of infinity, or of ±448 for FP8-E4M3 (R98). -/
def overflowCode (f : Nat) (neg : Bool) : Nat :=
  (if neg then 2 ^ (ffE f + ffF f) else 0) + (if f = 4 then 0x7E else (2 ^ ffE f - 1) * 2 ^ ffF f)

/-- The magnitude code before overflow is handled, with gradual underflow. -/
def rawMag (f mant : Nat) (exp : Int) : Nat :=
  let F : Int := ffF f
  let top : Int := (Nat.log2 mant : Int) + exp
  let quant : Int := if top - F < 1 - ffBias f - F then 1 - ffBias f - F else top - F
  let q := rne mant (exp - quant)
  let ef : Nat := (quant + F + ffBias f).toNat
  ef * 2 ^ ffF f + q - 2 ^ ffF f

/-- R106: the value rounded to the destination's precision with an unbounded exponent lies below 2^−126. -/
def isTiny (f mant : Nat) (exp : Int) : Bool :=
  let top : Int := (Nat.log2 mant : Int) + exp
  let q := rne mant (exp - (top - ffF f))
  decide (mant ≠ 0) && decide ((Nat.log2 q : Int) + (top - ffF f) < -126)

/-- The result does not fit the destination's finite range. -/
def overflows (f mant : Nat) (exp : Int) : Bool :=
  decide (mant ≠ 0) &&
  (if f = 4 then decide (0x7E < rawMag f mant exp) else decide ((2 ^ ffE f - 1) * 2 ^ ffF f ≤ rawMag f mant exp))

/-- Round an exact value to a float format, ties to even; `flush` applies R106 to FP32 and BF16. -/
def fround (f : Nat) (flush : Bool) (v : Val) : Nat :=
  match v with
  | .nan => canonNaN f
  | .inf neg => overflowCode f neg
  | .fin neg mant exp =>
    let s := if neg then 2 ^ (ffE f + ffF f) else 0
    if mant = 0 then s
    else if flush ∧ (f = 6 ∨ f = 8) ∧ isTiny f mant exp then s
    else if overflows f mant exp then overflowCode f neg
    else s + rawMag f mant exp

/-- Signed mantissa at the exponent `e`, which is not above the value's own. -/
def atExp (neg : Bool) (mant : Nat) (exp e : Int) : Int :=
  let m : Int := (mant <<< (exp - e).toNat : Nat)
  if neg then -m else m

def vneg : Val → Val
  | .nan => .nan
  | .inf s => .inf (!s)
  | .fin s m e => .fin (!s) m e

/-- Exact sum; the sign of an exact zero follows roundTiesToEven of IEEE 754. -/
def vadd' (a b : Val) : Val :=
  match a, b with
  | .nan, _ => .nan
  | _, .nan => .nan
  | .inf s, .inf t => if s = t then .inf s else .nan
  | .inf s, _ => .inf s
  | _, .inf t => .inf t
  | .fin s m e, .fin t n g =>
    let lo := if e < g then e else g
    let z := atExp s m e lo + atExp t n g lo
    if z = 0 then .fin (s && t && (decide (m = 0) && decide (n = 0)) ) 0 0
    else .fin (decide (z < 0)) z.natAbs lo

/-- Exact product. -/
def vmul' (a b : Val) : Val :=
  match a, b with
  | .nan, _ => .nan
  | _, .nan => .nan
  | .inf s, .inf t => .inf (xor s t)
  | .inf s, .fin t n _ => if n = 0 then .nan else .inf (xor s t)
  | .fin s m _, .inf t => if m = 0 then .nan else .inf (xor s t)
  | .fin s m e, .fin t n g => .fin (xor s t) (m * n) (e + g)

/-- a < b, with −0 below +0 when `zeros` (R79); false with a NaN. -/
def vlt (zeros : Bool) (a b : Val) : Bool :=
  match a, b with
  | .nan, _ => false
  | _, .nan => false
  | .inf s, .inf t => s && !t
  | .inf s, .fin _ _ _ => s
  | .fin _ _ _, .inf t => !t
  | .fin s m e, .fin t n g =>
    let lo := if e < g then e else g
    let x := atExp s m e lo
    let y := atExp t n g lo
    decide (x < y) || (zeros && decide (m = 0) && decide (n = 0) && s && !t)

def veq (a b : Val) : Bool :=
  match a, b with
  | .nan, _ => false
  | _, .nan => false
  | a, b => !(vlt false a b) && !(vlt false b a)

def isNaN (f c : Nat) : Bool := fmtIsFloat f && decide (fval f c = .nan)

/-- Addition, subtraction, multiplication and fused multiply-add of R79 and R105 in a float format. -/
def fadd (f a b : Nat) : Nat := fround f true (vadd' (fval f a) (fval f b))
def fsub (f a b : Nat) : Nat := fround f true (vadd' (fval f a) (vneg (fval f b)))
def fmul (f a b : Nat) : Nat := fround f true (vmul' (fval f a) (fval f b))
def ffma (f a b c : Nat) : Nat := fround f true (vadd' (vmul' (fval f a) (fval f b)) (fval f c))

/-- minimum and maximum (R79, R111): a NaN gives the canonical NaN, −0 is below +0. -/
def fmin (f a b : Nat) : Nat :=
  if isNaN f a ∨ isNaN f b then canonNaN f else if vlt true (fval f b) (fval f a) then b else a
def fmax (f a b : Nat) : Nat :=
  if isNaN f a ∨ isNaN f b then canonNaN f else if vlt true (fval f a) (fval f b) then b else a

/-- Saturating INT32 arithmetic (R79, R107). -/
def isat (v : Int) : Nat := icode 9 (clampInt 9 v)
def iadd (a b : Nat) : Nat := isat (ival 9 a + ival 9 b)
def isub (a b : Nat) : Nat := isat (ival 9 a - ival 9 b)
def imin (a b : Nat) : Nat := if ival 9 b < ival 9 a then b else a
def imax (a b : Nat) : Nat := if ival 9 a < ival 9 b then b else a

/-- R104: the exact product rounded to FP32 (float class), then R106. -/
def product (f a b : Nat) : Nat := fround 8 true (vmul' (fval f a) (fval f b))

/-- The exact value of an integer as a float value. -/
def vofInt (v : Int) : Val := .fin (decide (v < 0)) v.natAbs 0

/-- Round a value to an integer, ties to even. -/
def vround (neg : Bool) (mant : Nat) (exp : Int) : Int := if neg then -(rne mant exp : Int) else rne mant exp

/-- A conversion's result with its saturated and flushed marks (R109, R110). -/
structure Conv where
  code : Nat
  sat  : Bool
  flush : Bool
deriving DecidableEq, Repr

def convert (src dst c : Nat) : Conv :=
  if fmtIsFloat src then
    match fval src c with
    | .nan => if fmtIsFloat dst then ⟨canonNaN dst, false, false⟩ else ⟨0, true, false⟩
    | .inf neg =>
      if fmtIsFloat dst then ⟨overflowCode dst neg, decide (dst = 4), false⟩
      else ⟨icode dst (if neg then intMin dst else intMax dst), true, false⟩
    | .fin neg mant exp =>
      if fmtIsFloat dst then
        let r := fround dst true (.fin neg mant exp)
        ⟨r, overflows dst mant exp, decide (mant ≠ 0) && decide (r % 2 ^ (ffE dst + ffF dst) = 0)⟩
      else
        let v := vround neg mant exp
        let w := clampInt dst v
        ⟨icode dst w, decide (v ≠ w), decide (mant ≠ 0) && decide (w = 0)⟩
  else
    let v := ival src c
    if fmtIsFloat dst then
      match vofInt v with
      | .fin neg mant exp =>
        let r := fround dst true (.fin neg mant exp)
        ⟨r, overflows dst mant exp, false⟩
      | _ => ⟨0, false, false⟩
    else
      let w := clampInt dst v
      ⟨icode dst w, decide (v ≠ w), decide (v ≠ 0) && decide (w = 0)⟩

/-- Exact widening to FP32 that never flushes (R109, inside VRED and VFUN). -/
def widen (f c : Nat) : Nat := if f = 8 then c else fround 8 false (fval f c)

end Sys2Proof.Machine
end

