-- ==== Sys2Proof/Machine/Operands.lean ====
section
/-! DEFINITION. Operand forms of the tensor core: region registers and their elements (R52 to R54), bound masks (R55), issue checks
(R515), operand slots and the origin of a transfer (R88, R89, R204), and the lines of a video slot (R92, R516). -/

namespace Sys2Proof.Machine

open Sys2Proof

/-! Regions -/

/-- A region register's fields, with the counts of rows and columns (R52). -/
structure Region where
  base  : Nat
  rows  : Nat
  cols  : Nat
  pitch : Nat
  fmt   : Nat
  maskq : Nat
  masken : Bool
  maskinv : Bool
deriving DecidableEq, Repr

def regionOf (w : W64) : Region :=
  ⟨fld 14 0 w, fld 23 16 w + 1, fld 39 24 w + 1, fld 51 40 w, fld 55 52 w, fld 59 56 w, bit 60 w, bit 61 w⟩

/-- Bits of a region register that hold a field (R11, R12, R52). -/
def regionBits : Nat := 0x3FFFFFFFFFFF7FFF

def tileBytes : Nat := 0x400000

/-- A row's bytes, rounded up to a multiple of 128 (R53). -/
def rowSize (r : Region) : Nat := ((r.cols * fmtBits r.fmt + 7) / 8 + 127) / 128 * 128

def footLo (r : Region) : Nat := r.base * 128
def footHi (r : Region) : Nat := r.base * 128 + (r.rows - 1) * r.pitch * 128 + rowSize r

/-- R53: the pitch covers a row, but in a region of one row, and the footprint lies within tile memory. -/
def extentOk (r : Region) : Bool := (decide (r.rows = 1) || decide (rowSize r ≤ r.pitch * 128)) && decide (footHi r ≤ tileBytes)

/-- Byte in which element (i, j) begins (R53). -/
def elemAddr (r : Region) (i j : Nat) : Nat := r.base * 128 + i * r.pitch * 128 + j * fmtBits r.fmt / 8

/-- Element (i, j) as a code (R53). -/
def elemGet (t : Tab Byte) (r : Region) (i j : Nat) : Nat :=
  let w := fmtBits r.fmt
  if w < 8 then ((tget 0 t (elemAddr r i j)).toNat >>> (j * w % 8)) % 2 ^ w else leNat (tbytes t (elemAddr r i j) (w / 8))

def elemPut (t : Tab Byte) (r : Region) (i j v : Nat) : Tab Byte :=
  let w := fmtBits r.fmt
  let a := elemAddr r i j
  if w < 8 then
    let b := (tget 0 t a).toNat
    let sh := j * w % 8
    tset 0 t a (BitVec.ofNat 8 (b - ((b >>> sh) % 2 ^ w) <<< sh + (v % 2 ^ w) <<< sh))
  else tputs t a (leBytes (w / 8) v)

/-- Every (row, column), in row-major order. -/
def places (rows cols : Nat) : List (Nat × Nat) := (upto 0 rows).flatMap fun i => (upto 0 cols).map fun j => (i, j)

def regionElems (t : Tab Byte) (r : Region) : List Nat := (places r.rows r.cols).map fun e => elemGet t r e.1 e.2

def rowElems (t : Tab Byte) (r : Region) (i : Nat) : List Nat := (upto 0 r.cols).map fun j => elemGet t r i j

/-- Write elements in row-major order, as many as are given. -/
def putElems (r : Region) : List (Nat × Nat) → List Nat → Tab Byte → Tab Byte
  | e :: es, v :: vs, t => putElems r es vs (elemPut t r e.1 e.2 v)
  | _, _, t => t

def regionPut (t : Tab Byte) (r : Region) (vs : List Nat) : Tab Byte := putElems r (places r.rows r.cols) vs t

/-- Write `f i j` to every active element. -/
def regionFill (t : Tab Byte) (r : Region) (act : Nat → Nat → Bool) (f : Nat → Nat → Nat) : Tab Byte :=
  (places r.rows r.cols).foldl (fun u e => if act e.1 e.2 then elemPut u r e.1 e.2 (f e.1 e.2) else u) t

/-- Whether element (i, j) of a region is active under the mask region `m` bound to it (R55). -/
def active (t : Tab Byte) (r : Region) (m : W64) (i j : Nat) : Bool :=
  !r.masken || xor (decide (elemGet t (regionOf m) i j = 1)) r.maskinv

/-! Tensor core registers -/

def qReg (c : TCore) (n : Nat) : W64 := tget 0 c.q n
def xReg (c : TCore) (n : Nat) : W64 := if n = 0 then 0 else tget 0 c.x n
/-- x0 reads 0 and discards writes (R43). -/
def xPut (c : TCore) (n : Nat) (v : W64) : TCore := if n = 0 then c else { c with x := tset 0 c.x n v }

/-! Issue checks: the causes that hold, of which the lowest is reported (R515) -/

def lowestCause (l : List (Nat × Bool)) : Option Nat :=
  l.foldl (fun r e => if e.2 then (match r with | none => some e.1 | some c => some (min c e.1)) else r) none

/-- A region in use (R53, R54): a reserved format contributes cause 0x06 alone. -/
def useCauses (r : Region) : List (Nat × Bool) :=
  [(6, fmtReserved r.fmt), (5, !(fmtReserved r.fmt) && !(extentOk r))]

/-- The mask bound to a region where masks apply (R55). -/
def maskCauses (c : TCore) (r : Region) : List (Nat × Bool) :=
  if r.masken && !(fmtReserved r.fmt) then
    let m := regionOf (qReg c r.maskq)
    useCauses m ++ [(0xA, !(fmtReserved m.fmt) && !(decide (m.fmt = 12) && decide (m.rows = r.rows) && decide (m.cols = r.cols)))]
  else []

/-- No mask may be bound (R77). -/
def noMask (r : Region) : Nat × Bool := (0xA, r.masken && !(fmtReserved r.fmt))

/-- A shape check, not made on a region of a reserved format (R515). -/
def shapeCause (rs : List Region) (ok : Bool) : Nat × Bool := (7, !ok && rs.all fun r => !(fmtReserved r.fmt))

def sameShape (a b : Region) : Bool := decide (a.rows = b.rows) && decide (a.cols = b.cols)

/-- The mask bound to a region, as read at issue; the region itself where none is bound. -/
def maskWord (c : TCore) (w : W64) : W64 := qReg c (regionOf w).maskq

/-- A footprint in the read or write set, on 128-byte granules (R60). -/
def granules (w : W64) : Nat × Nat := (footLo (regionOf w), footHi (regionOf w))

/-- A region and the mask bound to it where masks apply (R60). -/
def granulesMasked (c : TCore) (w : W64) : List (Nat × Nat) :=
  if (regionOf w).masken then [granules (maskWord c w)] else []

/-! Operand slots -/

/-- An operand slot (R88, R204). -/
structure OpSlot where
  base   : Nat
  ext0   : Nat
  ext1   : Nat
  ext2   : Nat
  ext3   : Nat
  str1   : Nat
  str2   : Nat
  str3   : Nat
  attr   : W64
deriving DecidableEq, Repr

/-- A 57-bit virtual address sign-extended from bit 56 (R231). -/
def sext57 (v : Nat) : Nat := if v.testBit 56 then v % 2 ^ 57 + (2 ^ 64 - 2 ^ 57) else v % 2 ^ 57

def opSlotOf (e : List W64) : OpSlot :=
  let w := fun i => e.getD i 0
  ⟨sext57 (w 0).toNat, fld 31 0 (w 1), fld 63 32 (w 1), fld 31 0 (w 2), fld 63 32 (w 2), fld 47 0 (w 3), fld 47 0 (w 4), fld 47 0 (w 5), w 6⟩

def OpSlot.fmt (o : OpSlot) : Nat := fld 3 0 o.attr
def OpSlot.layout (o : OpSlot) : Nat := fld 7 4 o.attr
def OpSlot.vfmt (o : OpSlot) : Nat := fld 11 8 o.attr
def OpSlot.access (o : OpSlot) : Nat := fld 13 12 o.attr
def OpSlot.hint (o : OpSlot) : Nat := fld 17 16 o.attr
def OpSlot.hintId (o : OpSlot) : Nat := fld 25 20 o.attr

/-- A field of a slot as PRDOP reads it (R88). -/
def OpSlot.field (o : OpSlot) (n : Nat) : Nat := [o.base, o.ext0, o.ext1, o.ext2, o.ext3, o.str1, o.str2, o.str3, o.attr.toNat].getD n 0

def descWord (it : Item) (i : Nat) : W64 := it.desc.getD i 0
def nSlots (it : Item) : Nat := fld 44 40 (descWord it 0)

/-- A slot of the item, while the descriptor declares it (R88). -/
def itemSlot (it : Item) (n : Nat) : Option OpSlot := if n < nSlots it then some (opSlotOf (it.opnds.getD n [])) else none

/-- Bytes in a line of `w` pixels (R516). -/
def lineBytes (vfmt w : Nat) : Nat :=
  if vfmt = 1 then 4 * ((4 * ((w + 1) / 2) + 2) / 3) else if vfmt = 2 then 8 * ((w + 1) / 2) else if vfmt = 3 then 4 * w else 6 * w

/-- Bytes of one row of a slot: the span of dimension 0 (R204, R207). -/
def rowSpan (o : OpSlot) : Nat := if o.layout = 1 then lineBytes o.vfmt o.ext0 else (o.ext0 * fmtBits o.fmt + 7) / 8

/-- Bytes of a slot's footprint (R204). -/
def slotBytes (o : OpSlot) : Nat := rowSpan o + (o.ext1 - 1) * o.str1 + (o.ext2 - 1) * o.str2 + (o.ext3 - 1) * o.str3

/-- The origin of a transfer (R89). -/
structure Origin where
  d0 : Int
  d1 : Int
  d2 : Nat
  d3 : Nat
deriving DecidableEq, Repr

def sext32 (v : Nat) : Int := if v.testBit 31 then (v : Int) - 2 ^ 32 else v

def originOf (c0 c1 : W64) : Origin := ⟨sext32 (fld 31 0 c0), sext32 (fld 63 32 c0), fld 31 0 c1, fld 63 32 c1⟩

def inExt (v : Int) (n : Nat) : Bool := decide (0 ≤ v) && decide (v < n)

def clampExt (v : Int) (n : Nat) : Nat := if v < 0 then 0 else if (n : Int) ≤ v then n - 1 else v.toNat

/-- Virtual address of row (d1, d2, d3) of a slot. -/
def slotRow (o : OpSlot) (d1 d2 d3 : Nat) : Nat := (o.base + d1 * o.str1 + d2 * o.str2 + d3 * o.str3) % 2 ^ 64

end Sys2Proof.Machine
end

