-- ==== Sys2Proof/Machine/Flags.lean ====
section
/-! DEFINITION. What the tensor core counts and marks: the element steps of MRD with their saturated and flushed marks (R72, R73, R119),
the exponent histogram (R113 to R115), and the counters of the work item (R120). -/

namespace Sys2Proof.Machine

open Sys2Proof

/-- Whether a code is a zero of its format. -/
def isZeroCode (fmt c : Nat) : Bool := if fmtIsFloat fmt then decide (c % 2 ^ (ffE fmt + ffF fmt) = 0) else decide (c = 0)

def isFinite (fmt c : Nat) : Bool :=
  if fmtIsFloat fmt then (match fval fmt c with | .fin _ _ _ => true | _ => false) else true

/-- One element of a read-out: the value that enters step 4 and whether it is FP32, what is written, and its marks. -/
structure Readout where
  v     : Nat
  float : Bool
  out   : Nat
  sat   : Bool
  flush : Bool
deriving DecidableEq, Repr

/-- Steps 1 to 4 of R72 on an accumulator element; infinities and NaNs already in the accumulator are not counted (R119). -/
def readout (int satFlag : Bool) (col scalar : Option Nat) (dfmt a : Nat) : Readout :=
  let scaled := col.isSome || scalar.isSome
  let v := if int && scaled then (convert 9 8 a).code else a
  let v := match col with | some c => fmul 8 v c | none => v
  let v := match scalar with | some c => fmul 8 v c | none => v
  let float := !int || scaled
  let k := convert (if float then 8 else 9) dfmt v
  let src := if int then 9 else 8
  let fin := isFinite src a
  ⟨v, float, k.code, fin && (k.sat || (int && satFlag)), fin && !(isZeroCode src a) && isZeroCode dfmt k.code⟩

/-- R114; none for a NaN. -/
def histBin (float : Bool) (v : Nat) : Option Nat :=
  if float then
    if isNaN 8 v then none else some (bitsOf 30 23 v)
  else
    let n := (ival 9 v).natAbs
    if n = 0 then some 0 else some (127 + Nat.log2 n)

def histNeg (float : Bool) (v : Nat) : Bool := v.testBit 31 && !(float && isNaN 8 v)

def countIf {α : Type} (p : α → Bool) (l : List α) : Nat := l.foldl (fun n x => if p x then n + 1 else n) 0

/-- The 264 words of the histogram record (R115). -/
def histogram (l : List Readout) : List Nat :=
  ((upto 0 256).map fun b => countIf (fun r => decide (histBin r.float r.v = some b)) l) ++
  [countIf (fun r => decide (histBin r.float r.v = none)) l,
   countIf (fun r => histNeg r.float r.v) l,
   countIf (fun r => r.sat) l,
   countIf (fun r => r.flush) l,
   l.length, 0, 0, 0]

/-- The saturated and flushed counts of a core, which saturate at 2^32 − 1 (R120). -/
def addCounts (sat flush : Nat) (c : TCore) : TCore :=
  { c with sat := min (c.sat + sat) 0xFFFFFFFF, flush := min (c.flush + flush) 0xFFFFFFFF }

end Sys2Proof.Machine
end

