-- ==== Sys2Proof/Machine/Issue.lean ====
section
/-! DEFINITION. How the Pacer executes an instruction: fetch range, faults, retirement and stalls (R43 to R51), and how it issues an
operation to an engine (R58 to R61). -/

namespace Sys2Proof.Machine

open Sys2Proof

/-- What an instruction does at the Pacer: go on with the next instruction, go to a pc, stall, or fault with a cause of R51. -/
inductive PacerRes where
  | next (t : State)
  | jump (t : State) (pc : W64)
  | stall
  | fault (cause : Nat)

def kernelBase (it : Item) : Nat := sext57 (descWord it 4).toNat
def kernelSize (it : Item) : Nat := fld 24 0 (descWord it 5)

/-- Whether `len` bytes at the pc lie in the kernel code range (R46). -/
def inCode (it : Item) (pc : W64) (len : Nat) : Bool :=
  decide (kernelBase it ≤ pc.toNat) && decide (pc.toNat + len ≤ kernelBase it + kernelSize it)

/-- A core that executes instructions: it runs an item, has neither ended its part nor been halted, and holds no fetch (R244). -/
def pacerLive (c : TCore) : Bool :=
  c.item.isSome && !c.stopped && !c.halted && c.done.isNone && !(c.heldOps.any fun h => decide (h.1 = 0))

/-- An instruction whose lines have left the instruction cache waits until they are fetched again (R250, R305). -/
def codeHeld (c : TCore) (len : Nat) : Bool := c.codeOut.contains (c.pc.toNat / 4096) || c.codeOut.contains ((c.pc.toNat + len - 1) / 4096)

/-- A Pacer fault (R50): the core issues nothing further, and the item's first error status is PACER_FAULT (R215). -/
def pacerFault (tc cause : Nat) (s : State) : State :=
  let c := tcAt s tc
  let t := tcPut s tc { c with stopped := true, fault := some (cause, c.pc), stall := none }
  match c.item with
  | none => t
  | some n => match itemAt t n with
    | none => t
    | some it => itemPut t n { it with
        faults := it.faults ++ [(c.rank, tc, cause, c.pc)]
        status := match it.status with | none => some 2 | some k => some k }

/-- The instruction retires, and the Pacer goes on at `pc`. -/
def retire (tc : Nat) (pc : W64) (s : State) : State :=
  tcMod s tc fun c => { c with pc := pc, instret := c.instret + 1, stall := none }

/-- Execute one instruction of `len` bytes. A stalled instruction stands until its wait ends; no other can then execute. On the way down none
is issued (R485). -/
def pacerRun (tc : Nat) (self : Instr) (len : Nat) (body : Item → State → PacerRes) (s : State) : State :=
  let c := tcAt s tc
  match c.item with
  | none => s
  | some n => match itemAt s n with
    | none => s
    | some it =>
      if !(pacerLive c) || !(issuing s) || !(decide (c.stall = none) || decide (c.stall = some self)) then s
      else if !(inCode it c.pc len) then pacerFault tc 2 s
      else if codeHeld c len then s
      else match body it s with
        | .next t => retire tc (c.pc + BitVec.ofNat 64 len) t
        | .jump t pc => retire tc pc t
        | .stall => tcPut s tc { c with stall := some self }
        | .fault k => pacerFault tc k s

/-- The lowest cause that holds is reported; with none the instruction goes on (R515). -/
def checked (causes : List (Nat × Bool)) (r : PacerRes) : PacerRes :=
  match lowestCause causes with
  | some k => .fault k
  | none => r

/-! Banks (R57): requesters 0 to 5 in the order of the rule -/

/-- The requester of an engine path. -/
def bankOf (path : Nat) : Nat := [2, 0, 1, 3, 4].getD path 5

/-- Priority now: those promoted come first, each for its next request, then the fixed order. -/
def bankOrder (c : TCore) : List Nat := c.promote ++ (upto 0 6).filter fun k => !(c.promote.contains k)

/-- A requester makes its next request, and its promotion ends. -/
def bankRequest (k : Nat) (c : TCore) : TCore := { c with promote := c.promote.filter fun j => decide (j ≠ k) }

/-! Operations -/

/-- Queues of R58: 0 matrix, 1 vector, 2 DMA, 3 Relay. -/
def engQueue : EngOp → Nat
  | .mldw => 0 | .mmul => 0 | .mrd => 0 | .mlda => 0 | .mzero => 0
  | .dld => 2 | .dst => 2 | .dvin => 2 | .dvout => 2 | .dpf => 2 | .pbsig => 2
  | .drly => 3
  | _ => 1

def queueDepth (q : Nat) : Nat := if q = 2 then 16 else if q = 3 then 4 else 8

/-- Paths of R61 and R68: 0 weight, 1 stream, 2 read-out, 3 vector, 4 DMA, 5 Relay. -/
def engPath : EngOp → Nat
  | .mldw => 0
  | .mmul => 1 | .mlda => 1 | .mzero => 1
  | .mrd => 2
  | .dld => 4 | .dst => 4 | .dvin => 4 | .dvout => 4 | .dpf => 4 | .pbsig => 4
  | .drly => 5
  | _ => 3

/-- An operation still in its queue: not started, or a DRLY not accepted (R58, R133). -/
def queued (o : Op) : Bool := if o.eng = .drly then !o.accepted else !o.started

def queueFill (c : TCore) (q : Nat) : Nat := (c.sb.filter fun o => decide (engQueue o.eng = q) && queued o).length

/-- R59. -/
def nextTag (t : Nat) : Nat := if t = 0xFFFF then 1 else t + 1

/-- An operation with nothing but its kind and control value. -/
def plainOp (eng : EngOp) (m : Nat) (ctl : W64) : Op :=
  { tag := 0, eng := eng, m := m, ctl := ctl, ctl2 := 0, qa := 0, qb := 0, qd := 0, q1 := 0, q2 := 0, maskA := 0, maskD := 0, slot := 0,
    reads := [], writes := [], started := false, readDone := false, performed := false, accepted := false, round := 0, buf := [] }

/-- Room in the scoreboard and in the operation's queue (R58). -/
def roomFor (c : TCore) (eng : EngOp) : Bool :=
  decide (c.sb.length < 32) && decide (queueFill c (engQueue eng) < queueDepth (engQueue eng))

/-- Enter an operation in the scoreboard with its tag (R58, R59). -/
def enter (tc : Nat) (o : Op) (s : State) : State :=
  tcMod s tc fun c => { c with sb := c.sb ++ [{ o with tag := nextTag c.tag }], tag := nextTag c.tag }

/-- Issue an operation, or stall for room (R58). -/
def issue (tc : Nat) (o : Op) (s : State) : PacerRes :=
  if roomFor (tcAt s tc) o.eng then .next (enter tc o s) else .stall

def overlap (a b : List (Nat × Nat)) : Bool := a.any fun x => b.any fun y => decide (x.1 < y.2) && decide (y.1 < x.2)

end Sys2Proof.Machine
end

