-- ==== Sys2Proof/Machine/Protocol.lean ====
section
/-! DEFINITION. The coherence protocol message by message (R301 to R321, R323): error responses at their requesters (R260), trackers, requests
and their service at the home, snoops and their answers, fills, pushes, evictions, Nacks and escalation, directory victims. -/

namespace Sys2Proof.Machine

open Sys2Proof

/-! Error responses at their requesters (R260) -/

/-- A memory error at a core: cause 0x0F at the next instruction boundary (R51). -/
def memFault (tc : Nat) (s : State) : State :=
  let c := tcAt s tc
  if c.item.isSome && !c.stopped && c.done.isNone then pacerFault tc 0xF s else s

def mdSrc (s : State) (md : Nat) : Nat := fld 15 0 (regGet s (mdReg md 0x200))

/-- An error response, logged, with its effect on its requester. -/
def errorTo (code pa : Nat) (who : Requester) (write fetch : Bool) (s : State) : State :=
  let t := memErr code pa who s
  if who.kind = 1 then memFault who.num t
  else if who.kind = 2 then
    (if !write || decide (code = 1) || decide (code = 4) then acTrap who.num pa fetch write t
     else match target s pa with
       | .hbm n => scRaise (mdSrc t n) 0 t
       | .board k off => if k = ownSlot s then scRaise (mdSrc t (tileOf off)) 0 t else t
       | _ => t)
  else t

/-! Trackers (R296, R297) -/

/-- Transient entries of a home (R324). -/
def transientAt (s : State) (md : Nat) : Nat := (s.coh.dir.filter fun e => decide (lineHome e.1 = md) && !(stable e.2.st)).length

/-- Escalated requests of a unit at a home (R317). -/
def escHeld (s : State) (u md : Nat) : Nat :=
  (s.coh.escal.filter fun r => decide (r.req = u) && decide (lineHome r.line = md)).length +
  ((homeReqs s md).filter fun r => match r with | some x => x.esc && decide (x.req = u) | none => false).length

/-- Reserved home trackers in use (R324). -/
def escAtHome (s : State) (md : Nat) : Nat :=
  (s.coh.escal.filter fun r => decide (lineHome r.line = md)).length + ((homeReqs s md).filter isEsc).length

/-- Writeback buffers of an MD that hold an eviction (R315, R324). -/
def wbHeld (s : State) (md : Nat) : Nat :=
  (s.coh.dir.filter fun e => decide (lineHome e.1 = md)).foldl (fun n e => n + e.2.vac.length) 0

/-- Issue trackers that a requester's unit has in use (R296): requests to homes, to other chips and to hosts that have not been answered. An
application core has its own 256; of an XD they are the ports' and the PCIe controllers' too. -/
def issueUsed (s : State) (who : Requester) : Nat :=
  let u := unitOf who
  if who.kind = 1 then
    (s.coh.open_.filter fun r => decide (r.req = u)).length +
    (s.chips.pend.filter fun p => (decide (p.kind = 4) || decide (p.kind = 5)) && decide (p.ac / 8 = u)).length +
    (s.pcie.foldl (fun n e => n + (e.2.reads.filter fun r => r.dma && decide (r.ac / 8 = u)).length) 0)
  else if who.kind = 2 then
    (s.coh.open_.filter fun r => decide (r.req = u) && decide (r.who.num = who.num)).length +
    (s.chips.pend.filter fun p => decide (p.kind < 2) && decide (p.ac = who.num)).length +
    (s.pcie.foldl (fun n e => n + (e.2.reads.filter fun r => !r.dma && decide (r.ac = who.num)).length) 0)
  else
    (s.coh.open_.filter fun r => decide (r.req = u)).length +
    (s.chips.pend.filter fun p => ((decide (p.kind = 6) || decide (p.kind = 7)) && decide (unitOf p.who = u)) ||
      ((decide (p.kind = 2) || decide (p.kind = 3)) && decide (62 + p.port / 12 = u))).length

/-- The pool: 4,096 of a cluster, 256 of an application core, 16,384 of an XD (R296). -/
def issuePool (who : Requester) : Nat := if who.kind = 1 then 4096 else if who.kind = 2 then 256 else 16384

/-- Trackers are free for `n` requests of the requester at once; more than its pool has go once none is in use (R297). -/
def issueRoom (s : State) (who : Requester) (n : Nat) : Bool :=
  decide (issueUsed s who + n ≤ issuePool who) || decide (issueUsed s who = 0)

/-- Lines in flight that a stream may have (R295). -/
def pfDist (w : W64) : Nat := let d := fld 24 16 w; if 16 ≤ d ∧ d ≤ 256 then d else 256

/-- A prefetcher's lines in flight: at most DIST of each of the core's streams, and an eighth of the cluster's pool (R288, R289, R295). -/
def prefetchRoom (s : State) (r : CohReq) : Bool :=
  let mine := s.coh.open_.filter isPrefetch
  let cfg := regGet s (clReg r.req 8)
  let streams := ((tget [] s.coh.streams r.req).filter fun e => decide (e.1 = r.who.num)).length
  bit 0 cfg && decide ((mine.filter fun x => decide (x.req = r.req)).length < 512) &&
  decide ((mine.filter fun x => decide (x.who = r.who)).length < max 1 streams * pfDist cfg)

def closeReq (u ln : Nat) (s : State) : State :=
  cohMod s fun c => { c with open_ := match takeFirst (fun r : CohReq => decide (r.req = u) && decide (r.line = ln)) c.open_ with | some x => x.2 | none => c.open_ }

/-! Writes at the home (R309, R311, R312) -/

/-- Bits of a line under a mask with one bit for each half byte. -/
def expandMask (m : BitVec 256) : LineData :=
  BitVec.ofNat 1024 ((upto 0 256).foldl (fun n i => if m.getLsbD i then n + 15 * 16 ^ i else n) 0)

/-- The write is merged into home data and the writer granted: it is globally visible. A merge whose read is uncorrectable is discarded,
and a CasHome whose read is poisoned does not act; their writer has the error (R260, R264). -/
def performWrite (r : CohReq) (s : State) : Bool × State :=
  let failed := fun (c : Nat) (t : State) => (false, errorTo c (128 * r.line) r.who true false (closeReq r.req r.line t))
  if r.kind = .cashome then
    let h := homeRead r.req r.part false r.line s
    match h.1 with
    | some c => failed c h.2.2
    | none =>
      let v := wordOfLine h.2.1.1 r.word
      let t := if v = r.old then toHome r.line (mergeLine (wordMask r.word) h.2.1.1 (wordLine r.word r.new)) h.2.1.2 r.part h.2.2 else h.2.2
      (true, say (.grant r.req r.line none v) t)
  else
    let x := mergeHome r.part r.line (expandMask r.mask) r.data s
    match x.1 with
    | some c => failed c x.2
    | none => (true, say (.grant r.req r.line none 0) x.2)

/-! Nacks -/

/-- A Nack of a home is counted (R325). -/
def nackCount (md cause : Nat) (s : State) : State :=
  let t := bumpObj 0x3500 (md + 1) 64 1 s
  if cause = 4 then bumpObj 0x3503 (md + 1) 64 1 t else t

/-- A request is refused for now (R316). -/
def nackIt (r : CohReq) (cause : Nat) (s : State) : State := nackCount (lineHome r.line) cause (say (.nack r cause) s)

/-- An escalated request takes a reserved tracker and waits (R317). -/
def escalate (r : CohReq) (s : State) : State := cohMod s fun c => { c with escal := c.escal ++ [r] }

/-! Service -/

/-- State in which a request that found no holder is filled (R311). -/
def fillState (r : CohReq) (alone : Bool) : Option Moesi :=
  match r.kind with
  | .gets => if alone && isGroup r.req then some .e else some .s
  | .getm => some .e
  | .promote => some .e
  | _ => none

/-- Send home data to the requester; where it is not in the slice its read of HBM is still to come. -/
def sendHome (r : CohReq) (st : Option Moesi) (s : State) : State :=
  let h := homeLine s r.line
  say (.homefill r.req r.line st (aget s.mem.llc r.line).isNone h.2 h.1) s

/-- Where an entry stands once the requester of a read has its copy. -/
def grantedEnt (e : DirEnt) (r : CohReq) (st : Option Moesi) : DirEnt :=
  match st with
  | some .s => if e.was = .ds then { e with sharers := insNat r.req e.sharers } else { e with sharers := if r.req = e.owner then e.sharers else insNat r.req e.sharers }
  | some _ => { e with was := .de, owner := r.req, sharers := [] }
  | none => e

/-- R listed by the entry, for a Promote (R311). -/
def listed (e : DirEnt) (r : Nat) : Bool := e.sharers.contains r || (decide (e.was = .d_o) && decide (e.owner = r))

/-- Snoops a request needs at an entry (R311). -/
def snoopsFor (e : DirEnt) (r : CohReq) : List CohMsg :=
  let invs := fun (l : List Nat) => l.map fun a => CohMsg.inv a r.line false
  match r.kind with
  | .gets => if e.was = .ds then [] else [.fwds e.owner r.line r.req]
  | .getm => if e.was = .ds then invs (sharersBut e r.req) else .fwdm e.owner r.line r.req :: invs (sharersBut e r.req)
  | .promote =>
    if listed e r.req then invs ((holders e).filter fun a => decide (a ≠ r.req))
    else if e.was = .ds then invs (sharersBut e r.req) else .fwdm e.owner r.line r.req :: invs (sharersBut e r.req)
  | .look => if e.was = .ds then [] else [.peek e.owner r.line]
  | _ => invs (holders e)

def snoopAgent : CohMsg → Option Nat
  | .fwds a _ _ => some a
  | .fwdm a _ _ => some a
  | .inv a _ _ => some a
  | .peek a _ => some a
  | .flushd a _ => some a
  | _ => none

def transientFor (k : CohKind) : DirSt :=
  match k with | .gets => .ts | .look => .ts | .getm => .tu | .promote => .tu | _ => .tw

/-- Pushes that a home has outstanding to an agent (R308). -/
def pushesOut (s : State) (md a : Nat) : Nat :=
  (s.coh.dir.filter fun e => decide (lineHome e.1 = md) && decide (e.2.st = .tw) && !e.2.push && e.2.acks.contains a).length

def sendPush (ln a : Nat) (s : State) : State := let h := homeLine s ln; say (.placedata a ln h.2 h.1) s

/-- The push of a write: at most 64 are outstanding, and a further one waits (R308, R313). -/
def openPush (ln a : Nat) (e : DirEnt) (s : State) : State :=
  let x := { e with was := .ds, owner := 0, sharers := [a], acks := [a] }
  if pushesOut s (lineHome ln) a < 64 then sendPush ln a (entPut ln x s) else entPut ln { x with push := true } s

/-- The oldest push that waits for the agent goes out. -/
def nextPush (md a : Nat) (s : State) : State :=
  match s.coh.dir.find? fun e => decide (lineHome e.1 = md) && e.2.push && e.2.acks.contains a with
  | some (ln, e) => sendPush ln a (entPut ln { e with push := false } s)
  | none => s

/-- All snoops are answered: the fill, the grant, or the write and its push (R311 to R313). -/
def performReq (ln : Nat) (e : DirEnt) (r : CohReq) (s : State) : State :=
  match r.kind with
  | .gets =>
    if e.fwd then entPut ln (grantedEnt e r (some .s)) s
    else
      let st := fillState r (decide (holders e = []))
      sendHome r st (entPut ln (grantedEnt e r st) s)
  | .getm =>
    if e.fwd then entPut ln (grantedEnt e r (some .m)) s else sendHome r (some .e) (entPut ln (grantedEnt e r (some .e)) s)
  | .promote =>
    if e.fwd then entPut ln (grantedEnt e r (some .m)) s
    else if listed e r.req then say (.grant r.req ln (some .m) 0) (entPut ln (grantedEnt e r (some .m)) s)
    else sendHome r (some .e) (entPut ln (grantedEnt e r (some .e)) s)
  | .look => if e.fwd then s else sendHome r none s
  | _ =>
    let t := performWrite r s
    match (if t.1 && decide (r.kind = .putplace) then pushAgent t.2 r.hint r.hintId ln else none) with
    | some a => openPush ln a e t.2
    | none => entPut ln { e with was := .ds, owner := 0, sharers := [], acks := [] } t.2

/-! Range maintenance at the home (R290, R322) -/

def mdMaint (s : State) (md : Nat) : Maint := (mdAt s md).maint
def mdMaintPut (md : Nat) (m : Maint) (s : State) : State := mdPut s md { mdAt s md with maint := m }

/-- Dirty home data is written to HBM and stays valid. -/
def llcClean (ln : Nat) (s : State) : State :=
  match aget s.mem.llc ln with
  | none => s
  | some e =>
    if e.dirty then
      let t := hbmLine ln e.data e.poison e.part s
      { t with mem := { t.mem with llc := aput t.mem.llc ln { e with dirty := false } } }
    else s

def zeroLine (ln : Nat) (s : State) : State :=
  { s with mem := { s.mem with hbm := tputs s.mem.hbm (128 * ln) (List.replicate 128 0), poison := s.mem.poison.filter fun l => decide (l ≠ ln) } }

/-- The operation on home data, once every copy the operation removes is gone. -/
def maintHome (op ln : Nat) (s : State) : State :=
  match op with
  | 1 => llcClean ln s
  | 2 => llcDrop ln s
  | 3 => llcEvict ln s
  | _ => zeroLine ln (llcDrop ln s)

/-- Snoops of the engine (R322). -/
def maintSnoops (op ln : Nat) (e : DirEnt) : List CohMsg :=
  if op = 1 then (if e.was = .ds then [] else [.flushd e.owner ln])
  else (holders e).map fun a => .inv a ln (decide (op ≠ 3))

/-- A HomeFill of the line is on its way (R291, R321). -/
def fillOpen (s : State) (ln : Nat) : Bool :=
  s.coh.net.any fun m => match m with | .homefill _ l _ _ _ _ => decide (l = ln) | _ => false

/-- The engine does not act on a line yet. -/
def maintHeld (s : State) (ln : Nat) : Bool := lineBusy s ln || fillOpen s ln

/-- The home serves no request for the line: a transaction is open, or the engine waits for a fill of it (R291, R316). -/
def lineShut (s : State) (ln : Nat) : Bool := lineBusy s ln || (mdMaint s (lineHome ln)).left.contains ln

/-! Opening and closing transactions -/

/-- The entry takes its stable state; waiting evictions are settled. -/
def closeEnt (ln : Nat) (e : DirEnt) (s : State) : State :=
  let x := { e with st := e.was, req := none, snoops := [], acks := [], fwd := false, vac := [], push := false }
  let t := if decide (e.was = .ds) && decide (e.sharers = []) then entDel ln s else entPut ln x s
  e.vac.foldl (fun u v => applyVac ln v u) t

/-- Whether the engine waits for the line's transaction. -/
def maintWaits (s : State) (ln : Nat) : Bool := (mdMaint s (lineHome ln)).left.contains ln && !(maintHeld s ln)

/-- Wait of the requests at a home: the line, or a way of its set. -/
def escalWaits (s : State) (ln : Nat) (r : CohReq) : Bool :=
  decide (r.line = ln) || (decide (lineHome r.line = lineHome ln) && decide (lineSet r.line = lineSet ln) && (entAt s r.line).isNone)

/-- An escalated request that can be served now. -/
def escalReady (s : State) (ln : Nat) (r : CohReq) : Bool :=
  escalWaits s ln r && !(lineShut s r.line) && !(needsEntry r.kind && setStuck s r.line)

/-- What remains to be done at a home within one step: close an entry that is complete, let in what waits, serve a request. -/
inductive Task where
  | advance (ln : Nat)
  | after (ln : Nat)
  | serve (r : CohReq)
deriving DecidableEq, Repr

/-- An entry with every answer and acknowledgement in is closed (R312, R319, R322). -/
def advanceTask (ln : Nat) (s : State) : State × List Task :=
  match entAt s ln with
  | none => (s, [])
  | some e =>
    if stable e.st || decide (e.snoops ≠ []) || decide (e.acks ≠ []) then (s, [])
    else if e.st = .tm then
      let op := (mdMaint s (lineHome ln)).op
      (closeEnt ln (if op = 1 then e else { e with was := .ds, owner := 0, sharers := [] }) (maintHome op ln s), [.after ln])
    else if e.st = .te then
      (bumpObj 0x3502 (lineHome ln + 1) 64 1 (closeEnt ln { e with was := .ds, owner := 0, sharers := [] } s),
        (match e.req with | some r => [.serve r] | none => []) ++ [.after ln])
    else (closeEnt ln e s, [.after ln])

/-- The maintenance engine opens a line in TM (R322). -/
def openMaint (ln : Nat) (s : State) : State × List Task :=
  let md := lineHome ln
  let t := mdMaintPut md { mdMaint s md with left := (mdMaint s md).left.filter fun l => decide (l ≠ ln) } s
  match entAt t ln with
  | none => (maintHome (mdMaint t md).op ln t, [.after ln])
  | some e =>
    let sn := maintSnoops (mdMaint t md).op ln { e with was := e.st }
    let u := entPut ln { e with st := .tm, was := e.st, snoops := sn.filterMap snoopAgent, fwd := false } t
    if sn = [] then (u, [.advance ln]) else (sn.foldl (fun v x => say x v) u, [])

/-- What a closed line lets in: the maintenance engine first, then every escalated request that can be served, oldest first (R317, R321). -/
def afterTask (ln : Nat) (s : State) : State × List Task :=
  if maintWaits s ln then openMaint ln s
  else match takeFirst (escalReady s ln) s.coh.escal with
    | some (r, rest) => (cohMod s fun c => { c with escal := rest }, [.serve r, .after ln])
    | none => (s, [])

/-- A victim of a full set makes room, or every way is transient (R316, R319). -/
def victimTask (r : CohReq) (s : State) : State × List Task :=
  match dirVictim s r.line with
  | none => (if r.esc then escalate r s else nackIt r 4 s, [])
  | some (vl, v) =>
    let a := holders { v with was := v.st }
    let u := entPut vl { v with st := .te, was := v.st, req := some r, snoops := a, fwd := false } s
    if a = [] then (u, [.advance vl]) else (a.foldl (fun w k => say (.inv k vl false) w) u, [])

/-- Open a line's transaction and send its snoops (R311). -/
def openTask (r : CohReq) (e0 : DirEnt) (needs : Bool) (s : State) : State × List Task :=
  let e := { e0 with was := e0.st }
  if decide (r.kind = .look) && decide (e.was = .ds) then (sendHome r none s, [])
  else
    let sn := snoopsFor e r
    let t := entUse r.line
      { e with st := transientFor r.kind, req := some r, snoops := sn.filterMap snoopAgent, acks := if needs then [r.req] else [], fwd := false } s
    if sn = [] then (performReq r.line ((entAt t r.line).getD emptyEnt) r t, [.advance r.line]) else (sn.foldl (fun v y => say y v) t, [])

/-- A request whose line has no open transaction (R311, R316, R319). -/
def serveTask (r : CohReq) (s : State) : State × List Task :=
  let held := (entAt s r.line).isSome
  let needs := needsEntry r.kind
  let full := !held && (dirWay s r.line).isNone
  if full && needs then victimTask r s
  else if !held && decide (r.kind = .look) then (sendHome r none s, [])
  else if !held && !needs && (full || (pushAgent s r.hint r.hintId r.line).isNone || decide (r.kind = .cashome)) then ((performWrite r s).2, [])
  else openTask r ((entAt s r.line).getD emptyEnt) needs s

def runTask (t : Task) (s : State) : State × List Task :=
  match t with
  | .advance ln => advanceTask ln s
  | .after ln => afterTask ln s
  | .serve r => serveTask r s

/-- Work through what a step leaves to be done; the fuel bounds the chain of requests that closes let in. -/
def runTasks : Nat → List Task → State → State
  | 0, _, s => s
  | _, [], s => s
  | f + 1, t :: ts, s => runTasks f ((runTask t s).2 ++ ts) (runTask t s).1

/-- Requests in service chains are bounded by those that wait. -/
def chainFuel (s : State) : Nat := 4 * (s.coh.escal.length + s.coh.dir.length) + 8

def settleLine (t : Task) (s : State) : State := runTasks (chainFuel s) [t] s

/-- Why a request that is not escalated is refused as it arrives, if it is (R297, R316). -/
def refuseCause (s : State) (part : Option Nat) (ln : Nat) : Option Nat :=
  if lineShut s ln then some 1 else trackerCause s (lineHome ln) part

/-- A prefetch is dropped at its home where trackers run short, or regulator tokens for a read of HBM (R279, R289). -/
def dropsAtHome (s : State) (r : CohReq) : Bool :=
  isPrefetch r && (prefetchTrackersShort s (lineHome r.line) r.part || ((aget s.mem.llc r.line).isNone && overLimit s r.part (lineHome r.line)))

/-- A request arrives at its home (R311, R316, R317). That a dropped prefetch is not answered, and its tracker is free at once, is a
DESIGN CHOICE (log 148). -/
def arrive (r : CohReq) (s : State) : State :=
  let md := lineHome r.line
  if dropsAtHome s r then closeReq r.req r.line s
  else if r.esc then
    if 4 ≤ escHeld s r.req md then cohMod s fun c => { c with retries := c.retries ++ [⟨r, true⟩] }
    else
      let t := bumpObj 0x3501 (md + 1) 64 1 s
      if lineShut t r.line then escalate r t else settleLine (.serve r) t
  else match refuseCause s r.part r.line with
    | some c => nackIt r c s
    | none => settleLine (.serve r) s

/-! Requests -/

def isWrite (k : CohKind) : Bool := !(decide (k = .gets) || decide (k = .look))

/-- The requester is one whose requests the unit's trackers hold (R303). -/
def whoFits (r : CohReq) : Bool := decide (unitOf r.who = r.req)

/-- A write's merge that would read HBM waits while its partition is at its limit (R279). -/
def writeWaits (s : State) (r : CohReq) : Bool :=
  (decide (r.kind = .putplace) || decide (r.kind = .cashome)) && overLimit s r.part (lineHome r.line) && (aget s.mem.llc r.line).isNone

/-- Lines of local HBM are coherent; an address without a target ends in an error, and any other is outside the protocol (R258, R301). -/
def coherentAddr (s : State) (pa : Nat) : Bool :=
  match target s pa with | .hbm _ => true | .absent => true | _ => false

/-- The error response to a request: a prefetch has no requester, so its error is only logged (R260, R264, R289). -/
def failReq (code : Nat) (r : CohReq) (s : State) : State :=
  if isPrefetch r then memErr code (128 * r.line) (noUnit (unitWin r.req)) s
  else errorTo code (128 * r.line) r.who (isWrite r.kind) (decide (r.fill = 1)) s

/-- A group empties the way that its fill will take, before it asks (R308). -/
def keepWay (r : CohReq) (s : State) : State :=
  if isGroup r.req && needsEntry r.kind && (lineAt s r.req r.line).isNone then (agentWay r.req r.line 0xFFFF s).2 else s

/-- A requester sends a request (R303). It waits for a tracker, while its path is held (R32, R33), and while its partition is at its limit; a
prefetch that would wait for a tracker is dropped. Out of reach, or without a target, it ends in an error response (R258, R277). -/
def sendReq (ok fixed : Bool) (r : CohReq) (s : State) : State :=
  if !ok || !(issuing s) || !(whoFits r) || !(issueRoom s r.who 1) || (isPrefetch r && !(prefetchRoom s r)) || !(coherentAddr s (128 * r.line)) ||
      pathHeld s (unitWin r.req) (homeWin r.line) || writeWaits s r then s
  else match accessError s r.part (isWrite r.kind) (128 * r.line) with
    | some c => failReq c r s
    | none =>
      let t := keepWay r (if fixed then bumpObj 0x3505 (lineHome r.line + 1) 64 1 s else s)
      arrive r (cohMod t fun c => { c with open_ := c.open_ ++ [r] })

def mkReq (s : State) (k : CohKind) (u : Nat) (who : Requester) (pa : Nat) (esc : Bool) : CohReq :=
  { kind := k, req := u, who := who, part := partOf s who, limit := oget s 0x2300 1, line := lineOf pa, esc := esc }

/-- A group has its fill's way before it asks (R308). -/
def fillRoom (s : State) (u ln : Nat) : Bool := !(isGroup u) || canFill s u ln 0xFFFF

/-- A hit in the near slice is served there, and the slice lists the cluster (R314). -/
def getsEffect (u : Nat) (who : Requester) (fill pa : Nat) (esc fixed : Bool) (s : State) : State :=
  let ln := lineOf pa
  let r := { mkReq s .gets u who pa esc with fill := fill }
  let ok := decide (u < 56) && decide (fill < 4) && agentPresent s u && !(openReq s u ln) && (lineAt s u ln).isNone && fillRoom s u ln
  if ok && whoFits r && decide (u < 24) && (nearSlice s u ln).isSome then (clusterRead u r.part fill ln s).2.2
  else sendReq ok fixed r s

def execGets (req : Nat) (who : Requester) (fill pa : Nat) (esc dirFixed : Bool) (s : State) : Host.Outcome State Fault Refusal :=
  onUnit (decide (req < 62) && okRequester who) (getsEffect req who fill pa esc dirFixed s)

/-- Sent by a group that may not write the line yet. -/
def getmEffect (u : Nat) (who : Requester) (pa : Nat) (esc fixed : Bool) (s : State) : State :=
  let ln := lineOf pa
  let ok := isGroup u && agentPresent s u && !(openReq s u ln) && fillRoom s u ln &&
    (match lineAt s u ln with | none => true | some x => decide (x.st = .s))
  sendReq ok fixed (mkReq s .getm u who pa esc) s

def execGetm (req : Nat) (who : Requester) (pa : Nat) (esc dirFixed : Bool) (s : State) : Host.Outcome State Fault Refusal :=
  onUnit (decide (req < 62) && okRequester who) (getmEffect req who pa esc dirFixed s)

/-- Sent by a group that holds the line in S or O. -/
def promoteEffect (u : Nat) (who : Requester) (pa : Nat) (esc fixed : Bool) (s : State) : State :=
  let ln := lineOf pa
  let ok := isGroup u && agentPresent s u && !(openReq s u ln) &&
    (match lineAt s u ln with | none => false | some x => decide (x.st = .s) || decide (x.st = .o))
  sendReq ok fixed (mkReq s .promote u who pa esc) s

def execPromote (req : Nat) (who : Requester) (pa : Nat) (esc dirFixed : Bool) (s : State) : Host.Outcome State Fault Refusal :=
  onUnit (decide (req < 62) && okRequester who) (promoteEffect req who pa esc dirFixed s)

def lookEffect (u : Nat) (who : Requester) (pa : Nat) (esc fixed : Bool) (s : State) : State :=
  sendReq (unitPresent s u) fixed (mkReq s .look u who pa esc) s

def execLook (unit : Nat) (who : Requester) (pa : Nat) (esc dirFixed : Bool) (s : State) : Host.Outcome State Fault Refusal :=
  onUnit (decide (unit < 64) && okRequester who) (lookEffect unit who pa esc dirFixed s)

/-- R313. A write writes at least one half byte, with a hint code of R204. -/
def putplaceEffect (u : Nat) (who : Requester) (pa : Nat) (mask : BitVec 256) (data : LineData) (hint hintId : Nat) (esc fixed : Bool)
    (s : State) : State :=
  sendReq (unitPresent s u && decide (mask ≠ 0) && decide (hint < 4)) fixed
    { mkReq s .putplace u who pa esc with mask := mask, data := data, hint := hint, hintId := hintId } s

def execPutplace (unit : Nat) (who : Requester) (pa : Nat) (mask : BitVec 256) (data : LineData) (hint hintId : Nat) (esc dirFixed : Bool)
    (flaws : List (Nat × Bool)) (s : State) : Host.Outcome State Fault Refusal :=
  onUnit (decide (unit < 64) && okRequester who) (withFlaws flaws (putplaceEffect unit who pa mask data hint hintId esc dirFixed) s)

/-- R309: from XD0, on an aligned 64-bit word. -/
def cashomeEffect (who : Requester) (pa : Nat) (old new : W64) (esc fixed : Bool) (s : State) : State :=
  sendReq (unitPresent s 62 && decide (pa % 8 = 0)) fixed
    { mkReq s .cashome 62 who pa esc with old := old, new := new, word := pa % 128 / 8 } s

def execCashome (who : Requester) (pa : Nat) (old new : W64) (esc dirFixed : Bool) (flaws : List (Nat × Bool)) (s : State) :
    Host.Outcome State Fault Refusal := onUnit (okRequester who) (withFlaws flaws (cashomeEffect who pa old new esc dirFixed) s)

/-! Snoops at their agents (R309, R310, R315) -/

/-- Home of a snoop's answer without data: nothing held. -/
def ackNone (a ln : Nat) (s : State) : State := say (.snack a ln none false false false) s

/-- A writeback buffer whose eviction its home has not settled: with the VacAck on its way the copy is no longer the line's (R315, R320). -/
def wbLive (s : State) (a ln : Nat) : Option ALine := if vacSettled s a ln then none else wbAt s a ln

/-- What a writeback buffer holds has been handed over: it is clean. -/
def wbClean (a ln : Nat) (s : State) : State :=
  cohMod s fun c => { c with wb := c.wb.map fun e => if e.1 = a ∧ e.2.1 = ln then (a, ln, { e.2.2 with st := .s }) else e }

def fwdsAt (a ln r : Nat) (s : State) : State :=
  match lineAt s a ln with
  | some x =>
    if x.st = .s then ackNone a ln s
    else
      let k : Moesi := if x.st = .e then .s else .o
      say (.snack a ln (some k) true (dirtySt x.st) false) (say (.ownerfill a r ln .s x.poison x.data) (linePut a ln { x with st := k } s))
  | none => match wbLive s a ln with
    | some x =>
      if dirtySt x.st then
        say (.sndata a ln none true true true x.poison x.data x.part) (say (.ownerfill a r ln .s x.poison x.data) (wbClean a ln s))
      else ackNone a ln s
    | none => ackNone a ln s

def fwdmAt (a ln r : Nat) (s : State) : State :=
  match lineAt s a ln with
  | some x =>
    if x.st = .s then ackNone a ln (lineDrop a ln s)
    else
      let d := dirtySt x.st
      say (.snack a ln none true d false) (say (.ownerfill a r ln (if d then .m else .e) x.poison x.data) (lineDrop a ln s))
  | none => match wbLive s a ln with
    | some x =>
      if dirtySt x.st then say (.snack a ln none true true true) (say (.ownerfill a r ln .m x.poison x.data) (wbClean a ln s))
      else ackNone a ln s
    | none => ackNone a ln s

def invAt (a ln : Nat) (discard : Bool) (s : State) : State :=
  match lineAt s a ln with
  | some x =>
    let t := nearInv a ln (lineDrop a ln s)
    if dirtySt x.st && !discard then say (.sndata a ln none false true false x.poison x.data x.part) t else ackNone a ln t
  | none => match wbLive s a ln with
    | some x =>
      if dirtySt x.st && !discard then say (.sndata a ln none false true true x.poison x.data x.part) (wbClean a ln s)
      else say (.snack a ln none false false (dirtySt x.st)) (wbClean a ln s)
    | none => ackNone a ln (nearInv a ln s)

/-- What the writeback buffer gives a Peek or a FlushD. -/
def wbAnswer (a ln : Nat) (s : State) : State :=
  match wbLive s a ln with
  | some x => if dirtySt x.st then say (.sndata a ln none false true true x.poison x.data x.part) (wbClean a ln s) else ackNone a ln s
  | none => ackNone a ln s

/-- A Peek keeps the state; M is answered as E (DESIGN CHOICE, log 149). -/
def peekAt (a ln : Nat) (s : State) : State :=
  match lineAt s a ln with
  | some x => say (.sndata a ln (some (if x.st = .m then .e else x.st)) false (dirtySt x.st) false x.poison x.data x.part) s
  | none => wbAnswer a ln s

def flushdAt (a ln : Nat) (s : State) : State :=
  match lineAt s a ln with
  | some x =>
    if dirtySt x.st then
      let k : Moesi := if x.st = .m then .e else .s
      say (.sndata a ln (some k) false true false x.poison x.data x.part) (linePut a ln { x with st := k } s)
    else say (.snack a ln (some x.st) false false false) s
  | none => wbAnswer a ln s

/-! Snoop answers at the home -/

/-- What an answer says of the holder's copy (R310, R311): the entry as it will close. -/
def keptEnt (e : DirEnt) (a : Nat) (kept : Option Moesi) : DirEnt :=
  let isOwner := decide (e.was ≠ .ds) && decide (e.owner = a)
  match kept with
  | none => if isOwner then { e with was := .ds, owner := 0 } else { e with sharers := e.sharers.filter fun k => decide (k ≠ a) }
  | some .s => if isOwner then { e with was := .ds, owner := 0, sharers := insNat a e.sharers } else e
  | some .o => if isOwner then { e with was := .d_o } else e
  | some _ => e

/-- The answer is recorded; with the last one the request is performed (R312). -/
def answered (ln : Nat) (e : DirEnt) (a : Nat) (kept : Option Moesi) (fwd : Bool) (s : State) : State :=
  let x := { keptEnt e a kept with snoops := e.snoops.filter fun k => decide (k ≠ a), fwd := e.fwd || fwd }
  let t := entPut ln x s
  if x.snoops ≠ [] then t
  else match x.st, x.req with
    | .te, _ => settleLine (.advance ln) t
    | .tm, _ => settleLine (.advance ln) t
    | _, some r => settleLine (.advance ln) (performReq ln x r t)
    | _, none => settleLine (.advance ln) t

/-- An answer without data. -/
def snackHome (a ln : Nat) (kept : Option Moesi) (fwd : Bool) (s : State) : State :=
  match entAt s ln with
  | some e => if e.snoops.contains a then answered ln e a kept fwd s else s
  | none => s

/-- A snoop's data: for a Look it goes on to the requester; dirty data that its holder gives up, or that is merged, goes to home data. -/
def sndataHome (ln : Nat) (e : DirEnt) (dirty wbp poison : Bool) (d : LineData) (part : Option Nat) (s : State) : State × Bool :=
  match e.st, e.req with
  | .ts, some r =>
    let t := if dirty && wbp then toHome ln d poison part s else s
    if r.kind = .look then (say (.homefill r.req ln none false poison d) t, true) else (t, false)
  | _, _ => if dirty then (toHome ln d poison part s, false) else (s, false)

/-- An answer with the line; what a Peek kept is the owner's state still. -/
def sndataAt (a ln : Nat) (kept : Option Moesi) (fwd dirty wbp poison : Bool) (d : LineData) (part : Option Nat) (s : State) : State :=
  match entAt s ln with
  | some e =>
    if e.snoops.contains a then
      let x := sndataHome ln e dirty wbp poison d part s
      let isLook := decide (e.st = .ts) && (match e.req with | some r => decide (r.kind = .look) | none => false)
      answered ln e a (if isLook then (if wbp then kept else some .e) else kept) (fwd || x.2) x.1
    else s
  | none => s

/-! Grants, fills and acknowledgements -/

/-- R312: a Promote's grant makes the copy writable; every other tells the writer that its write is performed. -/
def grantAt (u ln : Nat) (st : Option Moesi) (old : W64) (s : State) : State :=
  let t := closeReq u ln s
  match st with
  | some _ => say (.grantack u ln) (match lineAt t u ln with | some x => linePut u ln { x with st := .m } t | none => t)
  | none => emit (.readData (128 * ln) old) t

/-- An expected acknowledgement arrives at the home (R312). -/
def ackAt (ln a : Nat) (s : State) : State :=
  match entAt s ln with
  | none => s
  | some e =>
    let t := entPut ln { e with acks := e.acks.filter fun k => decide (k ≠ a) } s
    settleLine (.advance ln) t

def openPart (s : State) (u ln : Nat) : Option Nat := match openOf s u ln with | some r => r.part | none => none
def openFill (s : State) (u ln : Nat) : Nat := match openOf s u ln with | some r => r.fill | none => 0

/-- The error that a request of the unit ends in; a unit that has none open stands for its die. -/
def failOpen (code u ln : Nat) (r : Option CohReq) (s : State) : State :=
  match r with | some x => failReq code x s | none => memErr code (128 * ln) (noUnit (unitWin u)) s

/-- A requester receives a line in a state, or as a Look, with the error its read ended in (R260, R264, R323). -/
def receiveLine (u ln : Nat) (st : Option Moesi) (err : Option Nat) (poison : Bool) (d : LineData) (s : State) : State :=
  let r := openOf s u ln
  let part := openPart s u ln
  let fill := openFill s u ln
  let t := closeReq u ln s
  let t := match st with
    | none => emit (.lookData u (128 * ln) poison d) t
    | some k => say (.grantack u ln) (agentFill u ln (agentMask t u fill part) ⟨k, d, poison, part, 0⟩ t).2
  match err with
  | some c => failOpen c u ln r t
  | none => t

/-- Fills that wait for HBM at an MD, oldest first: unit and line. -/
def waitingFills (s : State) (md : Nat) : List (Nat × Nat) :=
  s.coh.net.filterMap fun m => match m with
    | .homefill u l _ true _ _ => if lineHome l = md then some (u, l) else none
    | _ => none

/-- R279, R280: a partition at its limit waits; of several, those below their guarantee come first, and the oldest of each. -/
def fillWaits (s : State) (u ln : Nat) : Bool :=
  let md := lineHome ln
  let part := openPart s u ln
  let ahead := (waitingFills s md).takeWhile fun e => decide (e ≠ (u, ln))
  overLimit s part md || (waitingFills s md).any fun e =>
    let q := openPart s e.1 e.2
    !(overLimit s q md) && ((underGuar s q md && !(underGuar s part md)) || (decide (underGuar s q md = underGuar s part md) && ahead.contains e))

/-- An access that would read HBM now goes after the fills that wait there, but for those its partition's guarantee puts it before (R280). -/
def hbmTurn (s : State) (part : Option Nat) (md : Nat) : Bool :=
  (waitingFills s md).any fun e =>
    let q := openPart s e.1 e.2
    !(overLimit s q md) && (underGuar s q md || !(underGuar s part md))

/-- A HomeFill: from the slice as it was sent, or with the read of HBM, its outcome, and the line's place in the slice
(R263, R264, R279, R284, R311). -/
def homefillAt (u ln : Nat) (st : Option Moesi) (hbm poison : Bool) (d : LineData) (s : State) : State :=
  settleLine (.after ln)
    (if hbm then
      let r := homeRead u (openPart s u ln) (decide (openFill s u ln = 3)) ln s
      receiveLine u ln st r.1 (r.1.isSome || poison) d r.2.2
    else receiveLine u ln st (errOf poison) poison d s)

/-- A prefetch whose partition has come to its limit before its read of HBM is dropped, and its transaction closes (R279). -/
def dropFill (u ln : Nat) (s : State) : State := settleLine (.after ln) (ackAt ln u (closeReq u ln s))

/-! Pushes (R313) -/

/-- The target installs the line, or declines. -/
def placedataAt (a ln : Nat) (poison : Bool) (d : LineData) (s : State) : State :=
  let part := (entAt s ln).bind fun e => e.req.bind fun r => r.part
  if declines s a ln part poison then say (.placeack a ln false) s
  else say (.placeack a ln true) (agentFill a ln (agentMask s a 2 part) ⟨.s, d, poison, part, 0⟩ s).2

/-- A decline is counted and clears the target's bit; the next push to the target may go. -/
def placeackAt (a ln : Nat) (accept : Bool) (s : State) : State :=
  let u := if accept then s else
    let v := bumpObj 0x3504 (lineHome ln + 1) 64 1 s
    match entAt v ln with | some e => entPut ln { e with sharers := e.sharers.filter fun k => decide (k ≠ a) } v | none => v
  nextPush (lineHome ln) a (ackAt ln a u)

/-- R316: the requester schedules a retry. -/
def nackAt (r : CohReq) (s : State) : State := cohMod s fun c => { c with retries := c.retries ++ [⟨{ r with nacks := r.nacks + 1 }, false⟩] }

/-! Messages heard -/

/-- What a message does where it arrives. -/
def deliverMsg : CohMsg → State → State
  | .fwds a l r, s => fwdsAt a l r s
  | .fwdm a l r, s => fwdmAt a l r s
  | .inv a l x, s => invAt a l x s
  | .peek a l, s => peekAt a l s
  | .flushd a l, s => flushdAt a l s
  | .snack a l k f _ _, s => snackHome a l k f s
  | .sndata a l k f x w p d q, s => sndataAt a l k f x w p d q s
  | .grant u l st old, s => grantAt u l st old s
  | .grantack a l, s => ackAt l a s
  | .nack r _, s => nackAt r s
  | .vacack a l, s => wbDrop a l s
  | .placeack a l k, s => placeackAt a l k s
  | .homefill u l st h p d, s => homefillAt u l st h p d s
  | .ownerfill _ u l st p d, s => receiveLine u l (some st) (errOf p) p d s
  | .placedata a l p d, s => placedataAt a l p d s
  | .vac l v, s => vacArrive l v s

/-- The first message that a test admits is heard, where it can be. -/
def heard (p : CohMsg → Bool) (s : State) : State := match hear p s with | some (m, t) => deliverMsg m t | none => s

def fwdsEffect (a pa : Nat) (s : State) : State := heard (fun m => match m with | .fwds b l _ => decide (b = a) && decide (l = lineOf pa) | _ => false) s
def fwdmEffect (a pa : Nat) (s : State) : State := heard (fun m => match m with | .fwdm b l _ => decide (b = a) && decide (l = lineOf pa) | _ => false) s
def invEffect (a pa : Nat) (s : State) : State := heard (fun m => match m with | .inv b l _ => decide (b = a) && decide (l = lineOf pa) | _ => false) s
def peekEffect (a pa : Nat) (s : State) : State := heard (fun m => match m with | .peek b l => decide (b = a) && decide (l = lineOf pa) | _ => false) s
def flushdEffect (a pa : Nat) (s : State) : State := heard (fun m => match m with | .flushd b l => decide (b = a) && decide (l = lineOf pa) | _ => false) s
def snackEffect (a pa : Nat) (s : State) : State :=
  heard (fun m => match m with | .snack b l _ _ _ _ => decide (b = a) && decide (l = lineOf pa) | _ => false) s
def sndataEffect (a pa : Nat) (s : State) : State :=
  heard (fun m => match m with | .sndata b l _ _ _ _ _ _ _ => decide (b = a) && decide (l = lineOf pa) | _ => false) s
def grantEffect (u pa : Nat) (s : State) : State :=
  heard (fun m => match m with | .grant r l _ _ => decide (r = u) && decide (l = lineOf pa) | _ => false) s
def grantackEffect (a pa : Nat) (s : State) : State :=
  heard (fun m => match m with | .grantack b l => decide (b = a) && decide (l = lineOf pa) | _ => false) s
def ownerfillEffect (u pa : Nat) (s : State) : State :=
  heard (fun m => match m with | .ownerfill _ r l _ _ _ => decide (r = u) && decide (l = lineOf pa) | _ => false) s
def placedataEffect (a pa : Nat) (s : State) : State :=
  heard (fun m => match m with | .placedata b l _ _ => decide (b = a) && decide (l = lineOf pa) | _ => false) s
def placeackEffect (a pa : Nat) (s : State) : State :=
  heard (fun m => match m with | .placeack b l _ => decide (b = a) && decide (l = lineOf pa) | _ => false) s
def nackEffect (u pa : Nat) (s : State) : State :=
  heard (fun m => match m with | .nack r _ => decide (r.req = u) && decide (r.line = lineOf pa) | _ => false) s
def vacackEffect (a pa : Nat) (s : State) : State :=
  heard (fun m => match m with | .vacack b l => decide (b = a) && decide (l = lineOf pa) | _ => false) s

def isFillOf (u ln : Nat) : CohMsg → Bool
  | .homefill r l _ _ _ _ => decide (r = u) && decide (l = ln)
  | _ => false

/-- A HomeFill that has its read of HBM to come waits for its turn there (R279, R280); a prefetch over the limit does not. -/
def homefillEffect (u pa : Nat) (corrected uncorrectable : Bool) (s : State) : State :=
  let ln := lineOf pa
  if s.coh.net.any (fun m => isFillOf u ln m && unsent m) && fillWaits s u ln then
    (if decide (openFill s u ln = 3) && overLimit s (openPart s u ln) (lineHome ln) then
      match hear (isFillOf u ln) s with | some (_, t) => dropFill u ln t | none => s
     else s)
  else withFlaws (if corrected || uncorrectable then [(ln, uncorrectable)] else []) (heard (isFillOf u ln)) s

def execFwds (agent pa : Nat) (s : State) : Host.Outcome State Fault Refusal := onUnit (decide (agent < 62)) (fwdsEffect agent pa s)
def execFwdm (agent pa : Nat) (s : State) : Host.Outcome State Fault Refusal := onUnit (decide (agent < 62)) (fwdmEffect agent pa s)
def execInv (agent pa : Nat) (s : State) : Host.Outcome State Fault Refusal := onUnit (decide (agent < 62)) (invEffect agent pa s)
def execPeek (agent pa : Nat) (s : State) : Host.Outcome State Fault Refusal := onUnit (decide (agent < 62)) (peekEffect agent pa s)
def execFlushd (agent pa : Nat) (s : State) : Host.Outcome State Fault Refusal := onUnit (decide (agent < 62)) (flushdEffect agent pa s)
def execSnack (agent pa : Nat) (flaws : List (Nat × Bool)) (s : State) : Host.Outcome State Fault Refusal :=
  onUnit (decide (agent < 62)) (withFlaws flaws (snackEffect agent pa) s)
def execSndata (agent pa : Nat) (flaws : List (Nat × Bool)) (s : State) : Host.Outcome State Fault Refusal :=
  onUnit (decide (agent < 62)) (withFlaws flaws (sndataEffect agent pa) s)
def execGrant (req pa : Nat) (s : State) : Host.Outcome State Fault Refusal := onUnit (decide (req < 64)) (grantEffect req pa s)
def execGrantack (agent pa : Nat) (flaws : List (Nat × Bool)) (s : State) : Host.Outcome State Fault Refusal :=
  onUnit (decide (agent < 62)) (withFlaws flaws (grantackEffect agent pa) s)
def execHomefill (req pa : Nat) (corrected uncorrectable : Bool) (s : State) : Host.Outcome State Fault Refusal :=
  onUnit (decide (req < 64)) (homefillEffect req pa corrected uncorrectable s)
def execOwnerfill (req pa : Nat) (s : State) : Host.Outcome State Fault Refusal := onUnit (decide (req < 62)) (ownerfillEffect req pa s)
def execPlacedata (agent pa : Nat) (s : State) : Host.Outcome State Fault Refusal := onUnit (decide (agent < 62)) (placedataEffect agent pa s)
def execPlaceack (agent pa : Nat) (flaws : List (Nat × Bool)) (s : State) : Host.Outcome State Fault Refusal :=
  onUnit (decide (agent < 62)) (withFlaws flaws (placeackEffect agent pa) s)
def execNack (req pa : Nat) (s : State) : Host.Outcome State Fault Refusal := onUnit (decide (req < 64)) (nackEffect req pa s)
def execVacack (agent pa : Nat) (s : State) : Host.Outcome State Fault Refusal := onUnit (decide (agent < 62)) (vacackEffect agent pa s)

/-! Retries -/

/-- A Promote whose copy has gone is retried as a GetM (R321); the limit of COH_NACK_ESCALATE as the request took it sets ESC (R317, R325). -/
def retryOf (s : State) (r : CohReq) : CohReq :=
  let k := if decide (r.kind = .promote) && (lineAt s r.req r.line).isNone then .getm else r.kind
  { r with kind := k, esc := r.esc || decide (r.limit ≤ r.nacks) }

/-- The retry of a request goes out; it too waits while its path is held or its partition at its limit. -/
def cohRetryEffect (u pa : Nat) (s : State) : State :=
  match takeFirst (fun x : Retry => decide (x.req.req = u) && decide (x.req.line = lineOf pa)) s.coh.retries with
  | some (x, rest) =>
    if pathHeld s (unitWin u) (homeWin (lineOf pa)) || writeWaits s x.req then s
    else arrive (retryOf s x.req) (cohMod s fun c => { c with retries := rest })
  | none => s

def execCohRetry (req pa : Nat) (flaws : List (Nat × Bool)) (s : State) : Host.Outcome State Fault Refusal :=
  onUnit (decide (req < 64)) (withFlaws flaws (cohRetryEffect req pa) s)

/-! Evictions (R315) -/

/-- An eviction of the kind that is on its way is heard; else a group evicts a line of the states a message is for, where its home has room for
one more (R308). -/
def vacEffect (a pa : Nat) (full : Bool) (s : State) : State :=
  let ln := lineOf pa
  if s.coh.net.any fun m => match m with | .vac l v => decide (l = ln) && decide (v.agent = a) && decide (v.full = full) | _ => false then vacHear a ln s
  else match lineAt s a ln with
  | some x =>
    if isGroup a && decide (x.st ≠ .s) && decide (dirtySt x.st = full) && vacRoom s a ln && (wbAt s a ln).isNone && !(openReq s a ln) &&
      !(pathHeld s (unitWin a) (homeWin ln)) then vacate a ln x s else s
  | none => s

def execVacdata (agent pa : Nat) (s : State) : Host.Outcome State Fault Refusal := onUnit (decide (agent < 62)) (vacEffect agent pa true s)
def execVacclean (agent pa : Nat) (s : State) : Host.Outcome State Fault Refusal := onUnit (decide (agent < 62)) (vacEffect agent pa false s)

end Sys2Proof.Machine
end

