-- ==== Sys2Proof/Machine/Access.lean ====
section
/-! DEFINITION. The accesses of units by bytes (R256, R260, R320): what they wait for (R20, R32, R33, R279, R280, R291, R297, R316), how one that
cannot wait lets what is open at its line come to its end (DESIGN CHOICE, log 148), and the access as one step (log 112). -/

namespace Sys2Proof.Machine

open Sys2Proof

/-! What an access waits for -/

/-- An access that needs no request: a read that hits the unit's own cache, or the near slice of a cluster; a group's write to a line it holds
in M or E (R307, R314). -/
def lineHit (s : State) (unit : Nat) (read : Bool) (ln : Nat) : Bool :=
  (decide (unit < 56) && (match lineAt s unit ln with | some x => read || decide (x.st = .m) || decide (x.st = .e) | none => false)) ||
  (read && decide (unit < 24) && (nearSlice s unit ln).isSome)

/-- Its request would leave the line at the unit, and so needs an entry (R311). -/
def takesEntry (unit : Nat) (read : Bool) : Bool := isGroup unit || (read && decide (unit < 24))

/-- Agents that its transaction snoops: the line's holders, and those of the victim whose entry it takes (R311, R319). -/
def snooped (s : State) (unit : Nat) (read : Bool) (ln : Nat) : List Nat :=
  holders (entNow s ln) ++
  (if takesEntry unit read && (entAt s ln).isNone && (dirWay s ln).isNone then
    match dirVictim s ln with | some (_, v) => holders { v with was := v.st } | none => []
   else [])

/-- The dies that its messages run between. -/
def linePaths (s : State) (unit : Nat) (read : Bool) (ln : Nat) : List (Nat × Nat) :=
  ((unitWin unit, homeWin ln) :: (homeWin ln, unitWin unit) ::
    (snooped s unit read ln).flatMap fun a => [(homeWin ln, unitWin a), (unitWin a, homeWin ln), (unitWin a, unitWin unit)]).filter fun p => decide (p.1 ≠ p.2)

def pathsHeld (s : State) (l : List (Nat × Nat)) : Bool := l.any fun p => pathHeld s p.1 p.2

/-- Messages that it would overtake are on their way (R20). -/
def lineCrossed (s : State) (unit : Nat) (read : Bool) (ln : Nat) : Bool :=
  s.coh.net.any fun m => !(unsent m) && (linePaths s unit read ln).contains (msgEnds m)

/-- The Nack that its request would get (R316). -/
def lineCause (s : State) (unit : Nat) (part : Option Nat) (read : Bool) (ln : Nat) : Option Nat :=
  match refuseCause s part ln with
  | some c => some c
  | none => if takesEntry unit read && setStuck s ln then some 4 else none

/-- Its data would come from HBM, and its partition is at its limit there, or others go first (R279, R280). -/
def missWaits (s : State) (part : Option Nat) (ln : Nat) : Bool :=
  (aget s.mem.llc ln).isNone && (ownerLine s (entNow s ln) ln).isNone && (overLimit s part (lineHome ln) || hbmTurn s part (lineHome ln))

/-- A request for the line would wait: for a Nack's cause to go, for a held path or for messages on their way, for HBM, or for a tracker. -/
def reqWaits (s : State) (who : Requester) (part : Option Nat) (read : Bool) (ln : Nat) : Bool :=
  (lineCause s (unitOf who) part read ln).isSome || pathsHeld s (linePaths s (unitOf who) read ln) || lineCrossed s (unitOf who) read ln ||
  missWaits s part ln || !(issueRoom s who 1)

/-- Whether a unit's access to a line waits. -/
def lineWaits (s : State) (who : Requester) (part : Option Nat) (read : Bool) (ln : Nat) : Bool :=
  !(lineHit s (unitOf who) read ln) && reqWaits s who part read ln

/-- An access to registers, to another chip or to a host waits for the path to their die, and for a tracker (R32, R33, R297). -/
def farWaits (s : State) (who : Requester) (pa : Nat) : Bool :=
  let held := fun (die : Nat) => pathHeld s (unitWin (unitOf who)) die || pathHeld s die (unitWin (unitOf who))
  match target s pa with
  | .mmio w _ => held w
  | .board k off => (match portFor s (chipOfSlot s k) (offHash off) with | some n => held (14 + n / 12) | none => false) || !(issueRoom s who 1)
  | .host p => held (14 + p / 2) || !(issueRoom s who 1)
  | _ => false

/-- What an access to a line of the address space asks of which home: one to the own slot of the window goes to the home even where the unit
holds the line (R348). -/
def addrWaits (s : State) (who : Requester) (part : Option Nat) (read : Bool) (pa : Nat) : Bool :=
  match localAddr s pa with
  | some x => if inWindow pa then reqWaits s who part read (lineOf x) else lineWaits s who part read (lineOf x)
  | none => farWaits s who pa

/-- Whether an access to a range waits. -/
def rangeWaits (s : State) (who : Requester) (part : Option Nat) (read : Bool) (pa n : Nat) : Bool :=
  (lineStarts pa n).any (addrWaits s who part read)

/-- A request that the home refuses has been Nacked once more (R316, R325). -/
def nackedLine (who : Requester) (part : Option Nat) (read : Bool) (ln : Nat) (s : State) : State :=
  match lineCause s (unitOf who) part read ln with
  | some c => nackCount (lineHome ln) c s
  | none => s

/-- The first line that a waiting access waits for has refused it. -/
def nacked (who : Requester) (part : Option Nat) (read : Bool) (pa n : Nat) (s : State) : State :=
  match (lineStarts pa n).find? (addrWaits s who part read) with
  | none => s
  | some a => match localAddr s a with
    | none => s
    | some x => nackedLine who part read (lineOf x) s

/-- An access that waits has not been made; its sender repeats it, as R317 has a refused request repeated. -/
def whenFree (who : Requester) (part : Option Nat) (read : Bool) (pa n : Nat) (t s : State) : State :=
  if rangeWaits s who part read pa n then nacked who part read pa n s else t

/-! An access that cannot wait (log 148): the messages of what is open at its line arrive first -/

/-- The line a message is about. -/
def msgOf : CohMsg → Nat
  | .fwds _ l _ => l
  | .fwdm _ l _ => l
  | .inv _ l _ => l
  | .peek _ l => l
  | .flushd _ l => l
  | .snack _ l _ _ _ _ => l
  | .sndata _ l _ _ _ _ _ _ _ => l
  | .grant _ l _ _ => l
  | .grantack _ l => l
  | .nack r _ => r.line
  | .vacack _ l => l
  | .placeack _ l _ => l
  | .homefill _ l _ _ _ _ => l
  | .ownerfill _ _ l _ _ _ => l
  | .placedata _ l _ _ => l
  | .vac l _ => l

/-- The first message that passes a test and has nothing ahead of it. -/
def firstNext (p : CohMsg → Bool) : List CohMsg → List CohMsg → Option (CohMsg × List CohMsg)
  | _, [] => none
  | seen, m :: r => if p m && nextUp m seen r then some (m, seen.reverse ++ r) else firstNext p (m :: seen) r

/-- Lines whose transactions the line waits for: itself, and the victims its requests have taken. -/
def awaited (s : State) (ln : Nat) : List Nat :=
  ln :: s.coh.dir.filterMap fun e => if e.2.st = .te ∧ (e.2.req.map fun r => r.line) = some ln then some e.1 else none

/-- The message that arrives next: one of those lines', else any, and over a path that is held if there is no other. -/
def nextMsg (s : State) (ln : Nat) : Option (CohMsg × List CohMsg) :=
  let ok := fun (m : CohMsg) => !(pathHeld s (msgEnds m).1 (msgEnds m).2)
  match firstNext (fun m => ok m && (awaited s ln).contains (msgOf m)) [] s.coh.net with
  | some x => some x
  | none => match firstNext ok [] s.coh.net with
    | some x => some x
    | none => firstNext (fun _ => true) [] s.coh.net

def drainLine (unit : Nat) (read : Bool) (ln : Nat) : Nat → State → State
  | 0, s => s
  | f + 1, s =>
    if lineShut s ln || lineCrossed s unit read ln then
      match nextMsg s ln with
      | some (m, rest) => drainLine unit read ln f (deliverMsg m (cohMod s fun c => { c with net := rest }))
      | none => s
    else s

/-- Messages that the open transactions can still send. -/
def drainFuel (s : State) : Nat := 200 * (s.coh.dir.length + s.coh.escal.length + s.coh.net.length + 2)

/-- The line as an access that cannot wait finds it, once Nacked where a transaction was open. -/
def settled (who : Requester) (read : Bool) (ln : Nat) (s : State) : State :=
  drainLine (unitOf who) read ln (drainFuel s) (if lineShut s ln then nackCount (lineHome ln) 1 s else s)

/-- The access; where its line's transaction never ends it ends in TIMEOUT (R35, R259). -/
def atHome {α : Type} (who : Requester) (read : Bool) (ln : Nat) (none_ : α) (f : State → Option Nat × α × State) (s : State) : Option Nat × α × State :=
  let t := settled who read ln s
  if lineShut t ln then (some 6, none_, t) else f t

def putHome (who : Requester) (ln : Nat) (f : State → Option Nat × State) (s : State) : Option Nat × State :=
  let t := settled who false ln s
  if lineShut t ln then (some 6, t) else f t

/-- A read of a line by a unit (R303). -/
def lineRead (who : Requester) (part : Option Nat) (fill ln : Nat) (s : State) : Option Nat × (LineData × Bool) × State :=
  let f := fun (t : State) =>
    if who.kind = 1 then clusterRead (who.num / 8) part fill ln t
    else if who.kind = 2 then groupRead (24 + who.num / 4) part ln t
    else lookNow (unitOf who) part ln t
  if lineHit s (unitOf who) true ln then f s else atHome who true ln (0, false) f s

/-- A Look of a line by a unit. -/
def lookLine (who : Requester) (part : Option Nat) (ln : Nat) (s : State) : Option Nat × (LineData × Bool) × State :=
  atHome who true ln (0, false) (lookNow (unitOf who) part ln) s

/-- A write of a line by a unit with its hint (R303). -/
def lineWrite (who : Requester) (part : Option Nat) (hint : Nat × Nat) (ln : Nat) (mask d : LineData) (s : State) : Option Nat × State :=
  let f := fun (t : State) =>
    if who.kind = 2 then groupWrite' (24 + who.num / 4) part ln mask d t else putNow part hint.1 hint.2 ln mask d t
  if lineHit s (unitOf who) false ln then f s else putHome who ln f s

/-- A PutPlace with hint 0 of a unit. -/
def putLine (who : Requester) (part : Option Nat) (ln : Nat) (mask d : LineData) (s : State) : Option Nat × State :=
  putHome who ln (putNow part 0 0 ln mask d) s

/-! Bytes -/

/-- A window request to the chip of a slot, and what its answer is awaited for. -/
def windowPend (s : State) (kind slot off n pa ac rd : Nat) : Pend :=
  { tag := 0, kind := kind, chip := chipOfSlot s slot, ac := ac, rd := rd, rq := 0, cmd := 0, va := off, len := n, pa := pa, off := off }

def winRdHdr (s : State) (chip off n tag : Nat) : BitVec 256 := pktHdr chip s.chips.chipId 1 n tag off 0 0 0
def winWrHdr (s : State) (chip off n tag : Nat) (half : Bool) : BitVec 256 :=
  pktHdr chip s.chips.chipId 2 n tag off 0 (2 ^ 16 * b2n half) 0

/-- Ask another chip for bytes (R345, R346). -/
def askWindow (p : Pend) (s : State) : State := (request p (winRdHdr s p.chip p.off p.len) [] s).2

def tellWindow (p : Pend) (half : Bool) (l : List Byte) (s : State) : State :=
  (request p (fun tag => winWrHdr s p.chip p.off p.len tag half) l s).2

/-- Bytes of local memory within one line. -/
def spanRead (who : Requester) (part : Option Nat) (fill a n : Nat) (s : State) : Option Nat × List Byte × State :=
  let r := lineRead who part fill (lineOf a) s
  (r.1, lineCut r.2.1.1 (a % 128) n, r.2.2)

/-- A read of local memory at a physical address: one to the own slot of the window is a Look (R348), one of an NC page goes to the HBM
controller in no cache (R283). `a` is the address in local HBM. -/
def localRead (who : Requester) (part : Option Nat) (fill : Nat) (nc : Bool) (pa a n : Nat) (s : State) : Option Nat × List Byte × State :=
  if inWindow pa then let r := lookLine who part (lineOf a) s; (r.1, lineCut r.2.1.1 (a % 128) n, r.2.2)
  else if nc then let r := hbmRead part (lineOf a) s; (r.1, tbytes r.2.mem.hbm a n, r.2)
  else spanRead who part fill a n s

/-- A write of local memory: to the own slot of the window a PutPlace with hint 0 (R346, R348), to an NC page at the HBM controller. -/
def localWrite (who : Requester) (part : Option Nat) (hint : Nat × Nat) (nc : Bool) (pa a : Nat) (mask d : LineData) (s : State) :
    Option Nat × State :=
  if inWindow pa then putLine who part (lineOf a) mask d s
  else if nc then hbmMerge part (lineOf a) mask d s
  else lineWrite who part hint (lineOf a) mask d s

/-- The bus address of a physical address: at the endpoint, the host's (R378). -/
def busAddr (s : State) (p pa : Nat) : Nat := if isEndpoint s p then pa - 0x400000000000 else pa

/-- The lowest tag no outstanding read of a controller has. -/
def readTag (l : List PRead) : Nat := ((upto 0 (l.length + 1)).find? fun n => l.all fun r => decide (r.tag ≠ n)).getD 0

/-- A read of the attached-host window goes out, and its completion is waited for under a tag. -/
def askHost (p : Nat) (r : PRead) (s : State) : State :=
  let c := pcieAt s p
  emit (.pcieRead p (busAddr s p r.pa) r.size (readTag c.reads)) (pciePut s p { c with reads := c.reads ++ [{ r with tag := readTag c.reads }] })

/-- A posted write to the attached-host window: it reports nothing (R378). One to slice 0 while the endpoint's link is down is discarded and
logged (R384). -/
def postHost (who : Requester) (p pa : Nat) (l : List Byte) (s : State) : State :=
  if (pcieAt s p).rate ≠ 0 then emit (.pcieWrite p (busAddr s p pa) l) s else if isEndpoint s p then memErr 5 pa who s else s

/-- Bytes of local memory written within one line; `half` leaves the high half of the last byte as it is. -/
def spanWrite (who : Requester) (part : Option Nat) (hint : Nat × Nat) (a : Nat) (half : Bool) (l : List Byte) (s : State) :
    Option Nat × State :=
  lineWrite who part hint (lineOf a) (runMask (a % 128) half l) (runLine (a % 128) l) s

/-- What comes back from another chip or the host for a read that ends in the same command: the error REMOTE or the bytes, free values
(DESIGN CHOICE, log 146). -/
def farAnswer (n : Nat) (s : State) : Option Nat × List Byte × State :=
  let d := drawFree s
  if d.1.getLsbD 0 then (some 5, [], d.2) else let r := freeBytes n d.2; (none, r.1, r.2)

/-- Bytes within one line of the address space, of which the access has been checked. -/
def readInLine (who : Requester) (part : Option Nat) (pa n : Nat) (s : State) : Option Nat × List Byte × State :=
  match localAddr s pa with
  | some a => localRead who part 0 false pa a n s
  | none => match target s pa with
    | .board k off => farAnswer n (askWindow (windowPend s 7 k off n pa 0 0) s)
    | .host p => farAnswer n (emit (.pcieRead p (busAddr s p pa) n (readTag (pcieAt s p).reads)) s)
    | _ => let r := freeBytes n s; (none, r.1, r.2)

def readLines (who : Requester) (part : Option Nat) : List (Nat × Nat) → State → Except (Nat × Nat) (List Byte) × State
  | [], s => (.ok [], s)
  | (a, n) :: r, s =>
    let x := readInLine who part a n s
    match x.1 with
    | some c => (.error (c, a), x.2.2)
    | none => let y := readLines who part r x.2.2
      (y.1.map fun l => x.2.1 ++ l, y.2)

/-- A read of a range: its bytes, or the first error, which is logged. -/
def memRead (who : Requester) (part : Option Nat) (pa n : Nat) (s : State) : Except (Nat × Nat) (List Byte) × State :=
  match rangeError s part false pa n with
  | some e => (.error e, memErr e.1 e.2 who s)
  | none => match readLines who part (lineSpans pa n) s with
    | (.error e, t) => (.error e, memErr e.1 e.2 who t)
    | (.ok l, t) => (.ok l, t)

def writeInLine (who : Requester) (part : Option Nat) (hint : Nat × Nat) (pa : Nat) (l : List Byte) (s : State) : Option Nat × State :=
  match localAddr s pa with
  | some a => localWrite who part hint false pa a (runMask (a % 128) false l) (runLine (a % 128) l) s
  | none => match target s pa with
    | .board k off => (none, tellWindow { windowPend s 6 k off l.length pa 0 0 with who := who } false l s)
    | .host p => (none, postHost who p pa l s)
    | _ => (none, s)

/-- An error response of one line of an access is logged (R261). -/
def logged (who : Requester) (a : Nat) (r : Option Nat × State) : State := match r.1 with | some c => memErr c a who r.2 | none => r.2

/-- Writes of one access, line by line, each error logged; the first is the access's. -/
def writeLines (who : Requester) (part : Option Nat) (hint : Nat × Nat) : List (Nat × List Byte) → State → Option (Nat × Nat) × State
  | [], s => (none, s)
  | (a, l) :: r, s =>
    let x := writeInLine who part hint a l s
    let y := writeLines who part hint r (logged who a x)
    (match x.1 with | some c => some (c, a) | none => y.1, y.2)

/-- A write of a range with a hint: nothing is written where a byte has no target or is out of reach; an error is logged. -/
def memPut (who : Requester) (part : Option Nat) (hint : Nat × Nat) (pa : Nat) (l : List Byte) (s : State) : Option (Nat × Nat) × State :=
  match rangeError s part true pa l.length with
  | some e => (some e, memErr e.1 e.2 who s)
  | none => writeLines who part hint (cutLines l.length pa l) s

def memWrite (who : Requester) (part : Option Nat) (pa : Nat) (l : List Byte) (s : State) : Option (Nat × Nat) × State :=
  memPut who part (0, 0) pa l s

/-! Pages that are not cacheable (R283), and reads of pages -/

/-- Bytes of an NC page: at the HBM controller, in no cache, without a snoop. -/
def ncRead (part : Option Nat) (pa n : Nat) (s : State) : Option Nat × List Byte × State :=
  let r := hbmRead part (lineOf pa) s
  (r.1, tbytes r.2.mem.hbm pa n, r.2)

/-- A piece of a page within one line, for a fill of a kind. -/
def pieceRead (who : Requester) (part : Option Nat) (fill : Nat) (nc : Bool) (pa n : Nat) (s : State) : Option Nat × List Byte × State :=
  match accessError s part false pa with
  | some c => (some c, [], s)
  | none => match localAddr s pa with
    | some a => localRead who part fill nc pa a n s
    | none => readInLine who part pa n s

/-- Pieces of a page in order, up to the first error. -/
def pageRead (who : Requester) (part : Option Nat) (fill : Nat) (nc : Bool) :
    List (Nat × Nat) → State → Except (Nat × Nat) (List Byte) × State
  | [], s => (.ok [], s)
  | (a, n) :: r, s =>
    let x := pieceRead who part fill nc a n s
    match x.1 with
    | some c => (.error (c, a), x.2.2)
    | none => let y := pageRead who part fill nc r x.2.2
      (y.1.map fun l => x.2.1 ++ l, y.2)

def ncWrite (part : Option Nat) (pa : Nat) (half : Bool) (l : List Byte) (s : State) : Option Nat × State :=
  hbmMerge part (lineOf pa) (runMask (pa % 128) half l) (runLine (pa % 128) l) s

end Sys2Proof.Machine
end

