-- ==== Sys2Proof/Machine/Rv.lean ====
section
/-! DEFINITION. Scalar integer instructions of RV64IMC that touch registers and the pc alone (R43, R372). PRESUMED: their meaning is
that of the RISC-V unprivileged ISA, which the spec names and does not repeat. -/

namespace Sys2Proof.Machine

open Sys2Proof

/-- What a scalar instruction does: nothing defined, an instruction of another command, or a register write and the next pc. -/
inductive RvRes where
  | illegal
  | other
  | done (rd : Nat) (v : W64) (pc : W64)
deriving DecidableEq, Repr

def sxt (n v : Nat) : W64 := (BitVec.ofNat n v).signExtend 64
def sx32 (v : W64) : W64 := (v.truncate 32).signExtend 64

def immI (w : Nat) : W64 := sxt 12 (bitsOf 31 20 w)
def immB (w : Nat) : W64 := sxt 13 (bitsOf 31 31 w * 4096 + bitsOf 7 7 w * 2048 + bitsOf 30 25 w * 32 + bitsOf 11 8 w * 2)
def immU (w : Nat) : W64 := sxt 32 (bitsOf 31 12 w * 4096)
def immJ (w : Nat) : W64 := sxt 21 (bitsOf 31 31 w * 1048576 + bitsOf 19 12 w * 4096 + bitsOf 20 20 w * 2048 + bitsOf 30 21 w * 2)

def sdiv64 (a b : W64) : W64 := if b = 0 then BitVec.ofInt 64 (-1) else BitVec.ofInt 64 (a.toInt.tdiv b.toInt)
def srem64 (a b : W64) : W64 := if b = 0 then a else BitVec.ofInt 64 (a.toInt.tmod b.toInt)
def udiv64 (a b : W64) : W64 := if b = 0 then BitVec.ofInt 64 (-1) else BitVec.ofNat 64 (a.toNat / b.toNat)
def urem64 (a b : W64) : W64 := if b = 0 then a else BitVec.ofNat 64 (a.toNat % b.toNat)

/-- The high half of a product. -/
def mulHigh (a b : Int) : W64 := BitVec.ofInt 64 ((a * b) / 2 ^ 64)

def shl (a : W64) (n : Nat) : W64 := a <<< n
def shr (a : W64) (n : Nat) : W64 := a >>> n
def sar (a : W64) (n : Nat) : W64 := BitVec.sshiftRight a n

/-- OP with funct7 0x00, 0x20 or 0x01. -/
def aluOp (f7 f3 : Nat) (a b : W64) : Option W64 :=
  let n := b.toNat % 64
  if f7 = 0 then
    [a + b, shl a n, BitVec.ofNat 64 (if a.slt b then 1 else 0), BitVec.ofNat 64 (if a.ult b then 1 else 0), a ^^^ b, shr a n, a ||| b, a &&& b][f3]?
  else if f7 = 0x20 then (if f3 = 0 then some (a - b) else if f3 = 5 then some (sar a n) else none)
  else if f7 = 1 then
    [a * b, mulHigh a.toInt b.toInt, mulHigh a.toInt b.toNat, mulHigh a.toNat b.toNat, sdiv64 a b, udiv64 a b, srem64 a b, urem64 a b][f3]?
  else none

def aluOp32 (f7 f3 : Nat) (a b : W64) : Option W64 :=
  let n := b.toNat % 32
  let ua : W64 := (a.truncate 32).zeroExtend 64
  let ub : W64 := (b.truncate 32).zeroExtend 64
  if f7 = 0 then (if f3 = 0 then some (sx32 (a + b)) else if f3 = 1 then some (sx32 (shl a n)) else if f3 = 5 then some (sx32 (shr ua n)) else none)
  else if f7 = 0x20 then (if f3 = 0 then some (sx32 (a - b)) else if f3 = 5 then some (sx32 (sar (sx32 a) n)) else none)
  else if f7 = 1 then
    (if f3 = 0 then some (sx32 (a * b)) else if f3 = 4 then some (sx32 (sdiv64 (sx32 a) (sx32 b)))
     else if f3 = 5 then some (if ub = 0 then BitVec.ofInt 64 (-1) else sx32 (udiv64 ua ub))
     else if f3 = 6 then some (sx32 (srem64 (sx32 a) (sx32 b)))
     else if f3 = 7 then some (if ub = 0 then sx32 a else sx32 (urem64 ua ub)) else none)
  else none

def branchTaken (f3 : Nat) (a b : W64) : Option Bool :=
  if f3 = 0 then some (decide (a = b)) else if f3 = 1 then some (decide (a ≠ b))
  else if f3 = 4 then some (a.slt b) else if f3 = 5 then some (!(a.slt b))
  else if f3 = 6 then some (a.ult b) else if f3 = 7 then some (!(a.ult b)) else none

def wr (rd : Nat) (len : Nat) (pc : W64) : Option W64 → RvRes
  | some v => .done rd v (pc + BitVec.ofNat 64 len)
  | none => .illegal

/-- A 32-bit instruction word. -/
def rvWord (w : Nat) (pc : W64) (x : Nat → W64) : RvRes :=
  let op := bitsOf 6 0 w
  let rd := bitsOf 11 7 w
  let f3 := bitsOf 14 12 w
  let a := x (bitsOf 19 15 w)
  let b := x (bitsOf 24 20 w)
  let f7 := bitsOf 31 25 w
  if op = 0x37 then wr rd 4 pc (some (immU w))
  else if op = 0x17 then wr rd 4 pc (some (pc + immU w))
  else if op = 0x6F then .done rd (pc + 4) (pc + immJ w)
  else if op = 0x67 then (if f3 = 0 then .done rd (pc + 4) ((a + immI w) &&& BitVec.ofInt 64 (-2)) else .illegal)
  else if op = 0x63 then (match branchTaken f3 a b with
    | some t => .done 0 0 (if t then pc + immB w else pc + 4)
    | none => .illegal)
  else if op = 0x13 then
    (if f3 = 1 then (if bitsOf 31 26 w = 0 then wr rd 4 pc (some (shl a (bitsOf 25 20 w))) else .illegal)
     else if f3 = 5 then
      (if bitsOf 31 26 w = 0 then wr rd 4 pc (some (shr a (bitsOf 25 20 w)))
       else if bitsOf 31 26 w = 0x10 then wr rd 4 pc (some (sar a (bitsOf 25 20 w))) else .illegal)
     else wr rd 4 pc (aluOp 0 f3 a (immI w)))
  else if op = 0x1B then
    (if f3 = 0 then wr rd 4 pc (some (sx32 (a + immI w)))
     else if f3 = 1 ∨ f3 = 5 then wr rd 4 pc (if f7 = 0 ∨ (f7 = 0x20 ∧ f3 = 5) then aluOp32 f7 f3 a (BitVec.ofNat 64 (bitsOf 24 20 w)) else none)
     else .illegal)
  else if op = 0x33 then wr rd 4 pc (aluOp f7 f3 a b)
  else if op = 0x3B then wr rd 4 pc (aluOp32 f7 f3 a b)
  else if op = 0x0F then (if f3 = 0 then .done 0 0 (pc + 4) else .illegal)
  else if op = 0x03 ∨ op = 0x23 ∨ op = 0x2F ∨ op = 0x73 ∨ op = 0x0B ∨ op = 0x2B ∨ op = 0x5B ∨ op = 0x7B then .other
  else .illegal

/-- A compressed instruction (C extension). -/
def rvHalf (w : Nat) (pc : W64) (x : Nat → W64) : RvRes :=
  let f3 := bitsOf 15 13 w
  let rd := bitsOf 11 7 w
  let r2 := bitsOf 6 2 w
  let rd' := 8 + bitsOf 9 7 w
  let rs2' := 8 + bitsOf 4 2 w
  let imm6 : W64 := sxt 6 (bitsOf 12 12 w * 32 + bitsOf 6 2 w)
  let sh := bitsOf 12 12 w * 32 + bitsOf 6 2 w
  let q := w % 4
  if q = 0 then
    if f3 = 0 then
      let u := bitsOf 10 7 w * 64 + bitsOf 12 11 w * 16 + bitsOf 5 5 w * 8 + bitsOf 6 6 w * 4
      if u = 0 then .illegal else wr rs2' 2 pc (some (x 2 + BitVec.ofNat 64 u))
    else if f3 = 2 ∨ f3 = 3 ∨ f3 = 6 ∨ f3 = 7 then .other else .illegal
  else if q = 1 then
    if f3 = 0 then wr rd 2 pc (some (x rd + imm6))
    else if f3 = 1 then (if rd = 0 then .illegal else wr rd 2 pc (some (sx32 (x rd + imm6))))
    else if f3 = 2 then wr rd 2 pc (some imm6)
    else if f3 = 3 then
      if rd = 2 then
        let v := bitsOf 12 12 w * 512 + bitsOf 4 3 w * 128 + bitsOf 5 5 w * 64 + bitsOf 2 2 w * 32 + bitsOf 6 6 w * 16
        if v = 0 then .illegal else wr 2 2 pc (some (x 2 + sxt 10 v))
      else if sh = 0 then .illegal else wr rd 2 pc (some (sxt 18 (sh * 4096)))
    else if f3 = 4 then
      let k := bitsOf 11 10 w
      if k = 0 then wr rd' 2 pc (some (shr (x rd') sh))
      else if k = 1 then wr rd' 2 pc (some (sar (x rd') sh))
      else if k = 2 then wr rd' 2 pc (some (x rd' &&& imm6))
      else
        let j := bitsOf 12 12 w * 4 + bitsOf 6 5 w
        let a := x rd'
        let b := x rs2'
        wr rd' 2 pc (if j = 0 then some (a - b) else if j = 1 then some (a ^^^ b) else if j = 2 then some (a ||| b) else if j = 3 then some (a &&& b)
          else if j = 4 then some (sx32 (a - b)) else if j = 5 then some (sx32 (a + b)) else none)
    else if f3 = 5 then
      let v := bitsOf 12 12 w * 2048 + bitsOf 8 8 w * 1024 + bitsOf 10 9 w * 256 + bitsOf 6 6 w * 128 + bitsOf 7 7 w * 64 + bitsOf 2 2 w * 32 +
        bitsOf 11 11 w * 16 + bitsOf 5 3 w * 2
      .done 0 0 (pc + sxt 12 v)
    else
      let v := bitsOf 12 12 w * 256 + bitsOf 6 5 w * 64 + bitsOf 2 2 w * 32 + bitsOf 11 10 w * 8 + bitsOf 4 3 w * 2
      .done 0 0 (if (decide (x rd' = 0)) = decide (f3 = 6) then pc + sxt 9 v else pc + 2)
  else
    if f3 = 0 then wr rd 2 pc (some (shl (x rd) sh))
    else if f3 = 4 then
      if bitsOf 12 12 w = 0 then
        if r2 = 0 then (if rd = 0 then .illegal else .done 0 0 (x rd &&& BitVec.ofInt 64 (-2)))
        else wr rd 2 pc (some (x r2))
      else if r2 = 0 then (if rd = 0 then .other else .done 1 (pc + 2) (x rd &&& BitVec.ofInt 64 (-2)))
      else wr rd 2 pc (some (x rd + x r2))
    else if f3 = 2 ∨ f3 = 3 then (if rd = 0 then .illegal else .other)
    else if f3 = 6 ∨ f3 = 7 then .other
    else .illegal

/-- Bytes of the instruction in a fetched word. -/
def rvLen (w : Nat) : Nat := if w % 4 = 3 then 4 else 2

def rvScalar (w : Nat) (pc : W64) (x : Nat → W64) : RvRes := if w % 4 = 3 then rvWord w pc x else rvHalf (w % 65536) pc x

/-- The new memory value of an AMO on operands of `n` bytes; none for an encoding without a meaning. -/
def amoValue (f5 n : Nat) (old src : W64) : Option W64 :=
  let o := if n = 4 then sx32 old else old
  let v := if n = 4 then sx32 src else src
  let uo := old.toNat % 2 ^ (8 * n)
  let uv := src.toNat % 2 ^ (8 * n)
  if f5 = 1 then some v else if f5 = 0 then some (o + v) else if f5 = 4 then some (o ^^^ v) else if f5 = 12 then some (o &&& v)
  else if f5 = 8 then some (o ||| v) else if f5 = 16 then some (if o.slt v then o else v) else if f5 = 20 then some (if o.slt v then v else o)
  else if f5 = 24 then some (if uo < uv then o else v) else if f5 = 28 then some (if uo < uv then v else o) else none

end Sys2Proof.Machine
end

