-- ==== Sys2Proof/Machine/Crypto.lean ====
section
/-! DEFINITION. SM3, SM4 and SM2 verification (R453), written out from their public standards, and the SM4 counter-mode unwrapping
with a GHASH tag of R471. PRESUMED: the spec names the algorithms and gives no tables of theirs. -/

namespace Sys2Proof.Machine

open Sys2Proof

def rotl32 (x : W32) (n : Nat) : W32 := x.rotateLeft (n % 32)

/-- Words of `k` bytes, most significant byte first. -/
def beWords (k : Nat) : Nat → List Byte → List Nat
  | 0, _ => []
  | n + 1, l => beNat (l.take k) :: beWords k n (l.drop k)

/-! SM3 -/

def sm3P0 (x : W32) : W32 := x ^^^ rotl32 x 9 ^^^ rotl32 x 17
def sm3P1 (x : W32) : W32 := x ^^^ rotl32 x 15 ^^^ rotl32 x 23

def nth32 (l : List W32) (i : Nat) : W32 := l.getD i 0

/-- Message expansion: the list holds the words newest first. -/
def sm3Expand : Nat → List W32 → List W32
  | 0, l => l
  | n + 1, l =>
    let w := sm3P1 (nth32 l 15 ^^^ nth32 l 8 ^^^ rotl32 (nth32 l 2) 15) ^^^ rotl32 (nth32 l 12) 7 ^^^ nth32 l 5
    sm3Expand n (w :: l)

structure Sm3 where
  a : W32
  b : W32
  c : W32
  d : W32
  e : W32
  f : W32
  g : W32
  h : W32
deriving DecidableEq, Repr

def sm3Round (w : List W32) (v : Sm3) (j : Nat) : Sm3 :=
  let t : W32 := if j < 16 then 0x79CC4519 else 0x7A879D8A
  let ss1 := rotl32 (rotl32 v.a 12 + v.e + rotl32 t (j % 32)) 7
  let ss2 := ss1 ^^^ rotl32 v.a 12
  let ff := if j < 16 then v.a ^^^ v.b ^^^ v.c else (v.a &&& v.b) ||| (v.a &&& v.c) ||| (v.b &&& v.c)
  let gg := if j < 16 then v.e ^^^ v.f ^^^ v.g else (v.e &&& v.f) ||| (~~~ v.e &&& v.g)
  let wj := nth32 w j
  let wj' := wj ^^^ nth32 w (j + 4)
  let tt1 := ff + v.d + ss2 + wj'
  let tt2 := gg + v.h + ss1 + wj
  ⟨tt1, v.a, rotl32 v.b 9, v.c, sm3P0 tt2, v.e, rotl32 v.f 19, v.g⟩

def sm3Block (v : Sm3) (blk : List Byte) : Sm3 :=
  let w := (sm3Expand 52 ((beWords 4 16 blk).map (BitVec.ofNat 32)).reverse).reverse
  let r := (upto 0 64).foldl (sm3Round w) v
  ⟨r.a ^^^ v.a, r.b ^^^ v.b, r.c ^^^ v.c, r.d ^^^ v.d, r.e ^^^ v.e, r.f ^^^ v.f, r.g ^^^ v.g, r.h ^^^ v.h⟩

def sm3Blocks : Nat → Sm3 → List Byte → Sm3
  | 0, v, _ => v
  | n + 1, v, l => sm3Blocks n (sm3Block v (l.take 64)) (l.drop 64)

/-- The SM3 digest of a byte string. -/
def sm3 (m : List Byte) : List Byte :=
  let n := m.length
  let pad := (119 - n % 64) % 64
  let p := m ++ (0x80#8 :: List.replicate pad 0) ++ beBytes 8 (8 * n)
  let v := sm3Blocks (p.length / 64) ⟨0x7380166F, 0x4914B2B9, 0x172442D7, 0xDA8A0600, 0xA96F30BC, 0x163138AA, 0xE38DEE4D, 0xB0FB0E4E⟩ p
  [v.a, v.b, v.c, v.d, v.e, v.f, v.g, v.h].flatMap fun x => beBytes 4 x.toNat

/-! SM4 -/

def sm4S0 : List Nat :=
  [0xd6,0x90,0xe9,0xfe,0xcc,0xe1,0x3d,0xb7,0x16,0xb6,0x14,0xc2,0x28,0xfb,0x2c,0x05,
   0x2b,0x67,0x9a,0x76,0x2a,0xbe,0x04,0xc3,0xaa,0x44,0x13,0x26,0x49,0x86,0x06,0x99,
   0x9c,0x42,0x50,0xf4,0x91,0xef,0x98,0x7a,0x33,0x54,0x0b,0x43,0xed,0xcf,0xac,0x62,
   0xe4,0xb3,0x1c,0xa9,0xc9,0x08,0xe8,0x95,0x80,0xdf,0x94,0xfa,0x75,0x8f,0x3f,0xa6]
def sm4S1 : List Nat :=
  [0x47,0x07,0xa7,0xfc,0xf3,0x73,0x17,0xba,0x83,0x59,0x3c,0x19,0xe6,0x85,0x4f,0xa8,
   0x68,0x6b,0x81,0xb2,0x71,0x64,0xda,0x8b,0xf8,0xeb,0x0f,0x4b,0x70,0x56,0x9d,0x35,
   0x1e,0x24,0x0e,0x5e,0x63,0x58,0xd1,0xa2,0x25,0x22,0x7c,0x3b,0x01,0x21,0x78,0x87,
   0xd4,0x00,0x46,0x57,0x9f,0xd3,0x27,0x52,0x4c,0x36,0x02,0xe7,0xa0,0xc4,0xc8,0x9e]
def sm4S2 : List Nat :=
  [0xea,0xbf,0x8a,0xd2,0x40,0xc7,0x38,0xb5,0xa3,0xf7,0xf2,0xce,0xf9,0x61,0x15,0xa1,
   0xe0,0xae,0x5d,0xa4,0x9b,0x34,0x1a,0x55,0xad,0x93,0x32,0x30,0xf5,0x8c,0xb1,0xe3,
   0x1d,0xf6,0xe2,0x2e,0x82,0x66,0xca,0x60,0xc0,0x29,0x23,0xab,0x0d,0x53,0x4e,0x6f,
   0xd5,0xdb,0x37,0x45,0xde,0xfd,0x8e,0x2f,0x03,0xff,0x6a,0x72,0x6d,0x6c,0x5b,0x51]
def sm4S3 : List Nat :=
  [0x8d,0x1b,0xaf,0x92,0xbb,0xdd,0xbc,0x7f,0x11,0xd9,0x5c,0x41,0x1f,0x10,0x5a,0xd8,
   0x0a,0xc1,0x31,0x88,0xa5,0xcd,0x7b,0xbd,0x2d,0x74,0xd0,0x12,0xb8,0xe5,0xb4,0xb0,
   0x89,0x69,0x97,0x4a,0x0c,0x96,0x77,0x7e,0x65,0xb9,0xf1,0x09,0xc5,0x6e,0xc6,0x84,
   0x18,0xf0,0x7d,0xec,0x3a,0xdc,0x4d,0x20,0x79,0xee,0x5f,0x3e,0xd7,0xcb,0x39,0x48]

def sm4Sbox (i : Nat) : Nat :=
  if i < 64 then sm4S0.getD i 0 else if i < 128 then sm4S1.getD (i - 64) 0
  else if i < 192 then sm4S2.getD (i - 128) 0 else sm4S3.getD (i - 192) 0

def sm4Tau (x : W32) : W32 :=
  let n := x.toNat
  BitVec.ofNat 32 (sm4Sbox (bitsOf 31 24 n) * 2 ^ 24 + sm4Sbox (bitsOf 23 16 n) * 2 ^ 16 + sm4Sbox (bitsOf 15 8 n) * 2 ^ 8 + sm4Sbox (bitsOf 7 0 n))

def sm4T (x : W32) : W32 :=
  let b := sm4Tau x
  b ^^^ rotl32 b 2 ^^^ rotl32 b 10 ^^^ rotl32 b 18 ^^^ rotl32 b 24

def sm4T' (x : W32) : W32 :=
  let b := sm4Tau x
  b ^^^ rotl32 b 13 ^^^ rotl32 b 23

/-- Constant key: byte j of CK_i is (4i + j) × 7 mod 256. -/
def sm4Ck (i : Nat) : W32 :=
  BitVec.ofNat 32 (((4 * i) * 7 % 256) * 2 ^ 24 + ((4 * i + 1) * 7 % 256) * 2 ^ 16 + ((4 * i + 2) * 7 % 256) * 2 ^ 8 + ((4 * i + 3) * 7 % 256))

structure Quad where
  a : W32
  b : W32
  c : W32
  d : W32
deriving DecidableEq, Repr

def quadOf (x : BitVec 128) : Quad :=
  ⟨x.extractLsb' 96 32, x.extractLsb' 64 32, x.extractLsb' 32 32, x.extractLsb' 0 32⟩

/-- The 32 round keys of a 128-bit key. -/
def sm4Keys : Nat → Nat → Quad → List W32
  | 0, _, _ => []
  | n + 1, i, k =>
    let rk := k.a ^^^ sm4T' (k.b ^^^ k.c ^^^ k.d ^^^ sm4Ck i)
    rk :: sm4Keys n (i + 1) ⟨k.b, k.c, k.d, rk⟩

def sm4KeySchedule (key : BitVec 128) : List W32 :=
  let k := quadOf key
  sm4Keys 32 0 ⟨k.a ^^^ 0xA3B1BAC6, k.b ^^^ 0x56AA3350, k.c ^^^ 0x677D9197, k.d ^^^ 0xB27022DC⟩

def sm4Rounds (rks : List W32) (x : Quad) : Quad :=
  rks.foldl (fun v rk => ⟨v.b, v.c, v.d, v.a ^^^ sm4T (v.b ^^^ v.c ^^^ v.d ^^^ rk)⟩) x

/-- SM4 encryption of one block, most significant byte first. -/
def sm4 (key block : BitVec 128) : BitVec 128 :=
  let r := sm4Rounds (sm4KeySchedule key) (quadOf block)
  r.d ++ r.c ++ r.b ++ r.a

/-! GCM over SM4 (R471) -/

/-- Product in the field of GHASH, bits most significant first. -/
def gmul (x y : BitVec 128) : BitVec 128 :=
  ((upto 0 128).foldl (fun (st : BitVec 128 × BitVec 128) i =>
    (if x.getMsbD i then st.1 ^^^ st.2 else st.1,
     if st.2.getLsbD 0 then (st.2 >>> 1) ^^^ (0xE1#128 <<< 120) else st.2 >>> 1)) (0, y)).1

def blk128 (l : List Byte) : BitVec 128 := BitVec.ofNat 128 (beNat (l ++ List.replicate (16 - l.length) 0))

def blkBytes (x : BitVec 128) : List Byte := beBytes 16 x.toNat

/-- The 16-byte blocks of bytes, the last filled with zeros. -/
def gcmBlocks (l : List Byte) : List (BitVec 128) := (upto 0 ((l.length + 15) / 16)).map fun i => blk128 ((l.drop (16 * i)).take 16)

def ghash (h : BitVec 128) (blocks : List (BitVec 128)) : BitVec 128 :=
  blocks.foldl (fun y b => gmul (y ^^^ b) h) 0

/-- The first counter block of a 96-bit nonce (NIST SP 800-38D). -/
def gcmStart (nonce : List Byte) : BitVec 128 := BitVec.ofNat 128 (beNat nonce * 2 ^ 32 + 1)

/-- The tag of SM4-GCM (R456) over additional data and ciphertext. -/
def gcmTag (key : BitVec 128) (nonce aad ct : List Byte) : BitVec 128 :=
  let lens : BitVec 128 := BitVec.ofNat 128 (8 * aad.length * 2 ^ 64 + 8 * ct.length)
  ghash (sm4 key 0) (gcmBlocks aad ++ gcmBlocks ct ++ [lens]) ^^^ sm4 key (gcmStart nonce)

/-- The counter mode of SM4-GCM: the same for encryption and decryption. -/
def gcmCrypt (key : BitVec 128) (nonce text : List Byte) : List Byte :=
  let pad := (upto 1 ((text.length + 15) / 16)).flatMap fun i => blkBytes (sm4 key (gcmStart nonce + BitVec.ofNat 128 i))
  text.zipWith (fun a b => a ^^^ b) pad

/-- Authenticated decryption by SM4-GCM: the plaintext, where the tag holds. -/
def gcmOpen (key : BitVec 128) (nonce aad ct tag : List Byte) : Option (List Byte) :=
  if gcmTag key nonce aad ct = blk128 tag then some (gcmCrypt key nonce ct) else none

/-! SM2 verification -/

def sm2p : Nat := 0xFFFFFFFEFFFFFFFFFFFFFFFFFFFFFFFFFFFFFFFF00000000FFFFFFFFFFFFFFFF
def sm2a : Nat := sm2p - 3
def sm2b : Nat := 0x28E9FA9E9D9F5E344D5A9E4BCF6509A7F39789F515AB8F92DDBCBD414D940E93
def sm2n : Nat := 0xFFFFFFFEFFFFFFFFFFFFFFFFFFFFFFFF7203DF6B21C6052B53BBF40939D54123
def sm2gx : Nat := 0x32C4AE2C1F1981195F9904466A39C9948FE30BBFF2660BE1715A4589334C74C7
def sm2gy : Nat := 0xBC3736A2F4F6779C59BDCEE36B692153D0A9877CC62A474002DF32E52139F0A0

/-- b^e mod m by `k` squarings. -/
def powMod (m : Nat) : Nat → Nat → Nat → Nat
  | 0, _, _ => 1 % m
  | k + 1, b, e =>
    let h := powMod m k (b * b % m) (e / 2)
    if e % 2 = 1 then b * h % m else h

def invMod (a : Nat) : Nat := powMod sm2p 256 (a % sm2p) (sm2p - 2)

def subMod (a b : Nat) : Nat := (a + sm2p - b % sm2p) % sm2p

/-- Affine points; none is the point at infinity. -/
def ecAdd (P Q : Option (Nat × Nat)) : Option (Nat × Nat) :=
  match P, Q with
  | none, q => q
  | p, none => p
  | some (x1, y1), some (x2, y2) =>
    if x1 = x2 ∧ (y1 + y2) % sm2p = 0 then none
    else
      let l := if x1 = x2 then (3 * x1 * x1 + sm2a) % sm2p * invMod (2 * y1) % sm2p
               else subMod y2 y1 * invMod (subMod x2 x1) % sm2p
      let x3 := subMod (l * l) (x1 + x2)
      some (x3, subMod (l * subMod x1 x3) y1)

def ecMul : Nat → Nat → Option (Nat × Nat) → Option (Nat × Nat)
  | 0, _, _ => none
  | k + 1, n, P =>
    let r := ecMul k (n / 2) (ecAdd P P)
    if n % 2 = 1 then ecAdd P r else r

def onCurve (x y : Nat) : Bool :=
  decide (x < sm2p) && decide (y < sm2p) && decide (y * y % sm2p = (x * x % sm2p * x + sm2a * x + sm2b) % sm2p)

/-- SM2 digest of a message under an identity and a public key of 64 bytes (X then Y). -/
def sm2Digest (ident pub msg : List Byte) : List Byte :=
  let za := sm3 (beBytes 2 (8 * ident.length) ++ ident ++ beBytes 32 sm2a ++ beBytes 32 sm2b ++ beBytes 32 sm2gx ++ beBytes 32 sm2gy ++ pub)
  sm3 (za ++ msg)

/-- SM2 verification of a 64-byte signature (r then s) over a digest. -/
def sm2VerifyDigest (pub sig digest : List Byte) : Bool :=
  let x := beNat (pub.take 32)
  let y := beNat (pub.drop 32)
  let r := beNat (sig.take 32)
  let t := beNat (sig.drop 32)
  let e := beNat digest
  let u := (r + t) % sm2n
  decide (pub.length = 64) && decide (sig.length = 64) && onCurve x y &&
  decide (0 < r) && decide (r < sm2n) && decide (0 < t) && decide (t < sm2n) && decide (u ≠ 0) &&
  (match ecAdd (ecMul 256 t (some (sm2gx, sm2gy))) (ecMul 256 u (some (x, y))) with
   | some (x1, _) => decide ((e + x1) % sm2n = r)
   | none => false)

/-- The default identity of the SM2 standard, "1234567812345678". -/
def sm2Ident : List Byte := [0x31, 0x32, 0x33, 0x34, 0x35, 0x36, 0x37, 0x38, 0x31, 0x32, 0x33, 0x34, 0x35, 0x36, 0x37, 0x38]

def sm2Verify (pub sig msg : List Byte) : Bool := sm2VerifyDigest pub sig (sm2Digest sm2Ident pub msg)

/-! SM2 signing and decryption, as the identity key does them (R456, R457) -/

def sm2Base : Option (Nat × Nat) := some (sm2gx, sm2gy)

/-- The public key of a private key: 64 bytes, x then y. -/
def sm2Pub (d : Nat) : List Byte :=
  match ecMul 256 d sm2Base with
  | some (x, y) => beBytes 32 x ++ beBytes 32 y
  | none => []

/-- A signature over a digest with one random number; none where the standard draws another. -/
def sm2SignWith (d k : Nat) (digest : List Byte) : Option (List Byte) :=
  match ecMul 256 k sm2Base with
  | none => none
  | some (x, _) =>
    let r := (beNat digest + x) % sm2n
    let s := powMod sm2n 256 ((1 + d) % sm2n) (sm2n - 2) * ((k + sm2n * sm2n - r * (d % sm2n)) % sm2n) % sm2n
    if k = 0 ∨ sm2n ≤ k ∨ r = 0 ∨ r + k = sm2n ∨ s = 0 then none else some (beBytes 32 r ++ beBytes 32 s)

/-- The SM3-based key derivation function (R456): `n` bytes. -/
def sm3Kdf (z : List Byte) (n : Nat) : List Byte := ((upto 1 ((n + 31) / 32)).flatMap fun i => sm3 (z ++ beBytes 4 i)).take n

/-- HMAC-SM3 (R456): RFC 2104 over the 64-byte blocks of SM3. -/
def hmacSm3 (key msg : List Byte) : List Byte :=
  let k := if 64 < key.length then sm3 key else key
  let k := k ++ List.replicate (64 - k.length) 0
  sm3 (k.map (fun b => b ^^^ 0x5C) ++ sm3 (k.map (fun b => b ^^^ 0x36) ++ msg))

/-- Decryption of C1, C3, C2, with C1 uncompressed (R456). -/
def sm2Decrypt (d : Nat) (w : List Byte) : Option (List Byte) :=
  let x := beNat ((w.drop 1).take 32)
  let y := beNat ((w.drop 33).take 32)
  let c2 := w.drop 97
  if w.length < 98 ∨ w.head? ≠ some 4 ∨ onCurve x y = false then none
  else match ecMul 256 d (some (x, y)) with
    | none => none
    | some (x2, y2) =>
      let t := sm3Kdf (beBytes 32 x2 ++ beBytes 32 y2) c2.length
      let m := c2.zipWith (fun a b => a ^^^ b) t
      if t.all (fun b => decide (b = 0)) || decide (sm3 (beBytes 32 x2 ++ m ++ beBytes 32 y2) ≠ (w.drop 65).take 32) then none else some m

end Sys2Proof.Machine
end

