-- ==== Sys2Proof/Machine/Matrix.lean ====
section
/-! DEFINITION. The matrix array (R68 to R74): the issue of MLDW, MMUL, MRD, MLDA and MZERO, what each reads at its start, and its
effect on the weight buffers, the accumulator and tile memory (R104 to R108, R113 to R124). -/

namespace Sys2Proof.Machine

open Sys2Proof

/-! Issue -/

def small (r : Region) : Bool := decide (r.rows ≤ 128) && decide (r.cols ≤ 128)

/-- MLDW (R69). -/
def issueMldw (tc m xs qb qa qd : Nat) (s : State) : PacerRes :=
  let c := tcAt s tc
  let w := qReg c qa
  let r := regionOf w
  let t := tcMod s tc fun c =>
    let b := (if 2 ≤ m then (r.cols, r.rows, r.fmt) else (r.rows, r.cols, r.fmt))
    if m % 2 = 0 then { c with w0Issue := b } else { c with w1Issue := b }
  checked ([(1, decide (xs ≠ 0) || decide (qb ≠ 0) || decide (qd ≠ 0))] ++ useCauses r ++
      [(6, !(fmtArith r.fmt)), shapeCause [r] (small r), noMask r])
    (if roomFor c .mldw then .next (enter tc { plainOp .mldw m 0 with qa := w, reads := [granules w] } t) else .stall)

/-- MMUL (R70): checked against the buffer as it will be after every older MLDW. -/
def issueMmul (tc m xs qb qa qd : Nat) (s : State) : PacerRes :=
  let c := tcAt s tc
  let w := qReg c qa
  let r := regionOf w
  let b := if m % 2 = 0 then c.w0Issue else c.w1Issue
  let ovr := decide (2 ≤ m)
  let int := fmtIsInt r.fmt
  checked ([(1, decide (xs ≠ 0) || decide (qb ≠ 0) || decide (qd ≠ 0))] ++ useCauses r ++
      [(6, decide (r.fmt ≠ b.2.2)), shapeCause [r] (decide (r.cols = b.1) && decide (r.rows ≤ 128)),
       (9, !ovr && decide (c.accIntIssue ≠ int)), noMask r])
    (if roomFor c .mmul then
      .next (enter tc { plainOp .mmul m 0 with qa := w, reads := [granules w] }
        (if ovr then tcMod s tc fun c => { c with accIntIssue := int } else s))
     else .stall)

/-- Destination formats of MRD (R73). -/
def mrdFmtOk (int scaled : Bool) (f : Nat) : Bool :=
  let fl := decide (4 ≤ f) && decide (f ≤ 8)
  let it := decide (f ≤ 3) || decide (f = 9)
  if !int then fl else if scaled then fl || it else it || decide (f = 8)

/-- MRD (R72, R115). That qa and qb count as used even where the control word leaves their step out is a DESIGN CHOICE (log 150). -/
def issueMrd (tc m xs qb qa qd : Nat) (s : State) : PacerRes :=
  let c := tcAt s tc
  let ctl := xReg c xs
  let col := bit 33 ctl
  let hist := bit 34 ctl
  let wd := qReg c qd
  let wa := qReg c qa
  let wb := qReg c qb
  let d := regionOf wd
  let a := regionOf wa
  let b := regionOf wb
  checked ([(1, decide (m ≠ 0))] ++ useCauses d ++
      [(6, !(mrdFmtOk c.accIntIssue (col || bit 32 ctl) d.fmt)), shapeCause [d] (small d), noMask d] ++
      (if col then useCauses a ++ [(6, decide (a.fmt ≠ 8)), shapeCause [a, d] (decide (a.rows = 1) && decide (a.cols = d.cols)), noMask a] else []) ++
      (if hist then useCauses b ++
        [(6, !(decide (b.fmt = 11) || decide (b.fmt = 9))), shapeCause [b] (decide (b.rows = 1) && decide (b.cols = 264)), noMask b] else []) ++
      [(0xD, decide (fld 63 35 ctl ≠ 0))])
    (issue tc { plainOp .mrd 0 ctl with
        qa := wa, qb := wb, qd := wd
        reads := if col then [granules wa] else []
        writes := granules wd :: (if hist then [granules wb] else []) } s)

/-- MLDA (R74). -/
def issueMlda (tc m xs qb qa qd : Nat) (s : State) : PacerRes :=
  let c := tcAt s tc
  let w := qReg c qa
  let r := regionOf w
  checked ([(1, decide (m ≠ 0) || decide (xs ≠ 0) || decide (qb ≠ 0) || decide (qd ≠ 0))] ++ useCauses r ++
      [(6, !(decide (r.fmt = 8) || decide (r.fmt = 9))), shapeCause [r] (small r), noMask r])
    (if roomFor c .mlda then
      .next (enter tc { plainOp .mlda 0 0 with qa := w, reads := [granules w] }
        (tcMod s tc fun c => { c with accIntIssue := decide (r.fmt = 9) }))
     else .stall)

/-- MZERO (R74). -/
def issueMzero (tc m xs qb qa qd : Nat) (s : State) : PacerRes :=
  let c := tcAt s tc
  checked [(1, decide (1 < m) || decide (xs ≠ 0) || decide (qb ≠ 0) || decide (qa ≠ 0) || decide (qd ≠ 0))]
    (if roomFor c .mzero then
      .next (enter tc (plainOp .mzero m 0) (tcMod s tc fun c => { c with accIntIssue := decide (m = 1) }))
     else .stall)

def execMldw (tc : Nat) (m : BitVec 2) (xs : BitVec 5) (qb qa qd : BitVec 4) (s : State) : Host.Outcome State Fault Refusal :=
  onUnit (okTc tc) (pacerRun tc (.mldw tc m xs qb qa qd) 4 (fun _ => issueMldw tc m.toNat xs.toNat qb.toNat qa.toNat qd.toNat) s)

def execMmul (tc : Nat) (m : BitVec 2) (xs : BitVec 5) (qb qa qd : BitVec 4) (s : State) : Host.Outcome State Fault Refusal :=
  onUnit (okTc tc) (pacerRun tc (.mmul tc m xs qb qa qd) 4 (fun _ => issueMmul tc m.toNat xs.toNat qb.toNat qa.toNat qd.toNat) s)

def execMrd (tc : Nat) (m : BitVec 2) (xs : BitVec 5) (qb qa qd : BitVec 4) (s : State) : Host.Outcome State Fault Refusal :=
  onUnit (okTc tc) (pacerRun tc (.mrd tc m xs qb qa qd) 4 (fun _ => issueMrd tc m.toNat xs.toNat qb.toNat qa.toNat qd.toNat) s)

def execMlda (tc : Nat) (m : BitVec 2) (xs : BitVec 5) (qb qa qd : BitVec 4) (s : State) : Host.Outcome State Fault Refusal :=
  onUnit (okTc tc) (pacerRun tc (.mlda tc m xs qb qa qd) 4 (fun _ => issueMlda tc m.toNat xs.toNat qb.toNat qa.toNat qd.toNat) s)

def execMzero (tc : Nat) (m : BitVec 2) (xs : BitVec 5) (qb qa qd : BitVec 4) (s : State) : Host.Outcome State Fault Refusal :=
  onUnit (okTc tc) (pacerRun tc (.mzero tc m xs qb qa qd) 4 (fun _ => issueMzero tc m.toNat xs.toNat qb.toNat qa.toNat qd.toNat) s)

/-! Effects -/

/-- One level of the adder tree: neighbours in pairs (R123). -/
def pairUp {α : Type} (f : α → α → α) : List α → List α
  | a :: b :: r => f a b :: pairUp f r
  | l => l

/-- `n` levels of pairing. -/
def treeSum {α : Type} (f : α → α → α) : Nat → List α → List α
  | 0, l => l
  | n + 1, l => treeSum f n (pairUp f l)

/-- Sum S_b of a block of 32 positions (R122, R123). -/
def blockSum (fmt : Nat) (act wgt : List Nat) : Nat :=
  if fmtIsInt fmt then
    icode 9 ((List.zipWith (fun a b => ival fmt a * ival fmt b) act wgt).foldl (· + ·) 0)
  else
    let ps := List.zipWith (product fmt) act wgt
    (treeSum (fadd 8) 5 (ps ++ List.replicate (32 - ps.length) 0)).headD 0

/-- Every block sum of a row and a column, in increasing b. -/
def blockSums (fmt : Nat) (act wgt : List Nat) : List Nat :=
  (upto 0 ((act.length + 31) / 32)).map fun b => blockSum fmt ((act.drop (32 * b)).take 32) ((wgt.drop (32 * b)).take 32)

/-- Load a weight buffer (R69). -/
def loadWeights (t : Tab Byte) (r : Region) (trans : Bool) : WBuf :=
  let el := (places r.rows r.cols).foldl (fun m e =>
    tset 0 m (if trans then 128 * e.2 + e.1 else 128 * e.1 + e.2) (BitVec.ofNat 32 (elemGet t r e.1 e.2))) []
  if trans then ⟨r.cols, r.rows, r.fmt, el⟩ else ⟨r.rows, r.cols, r.fmt, el⟩

def weightCol (b : WBuf) (j : Nat) : List Nat := (upto 0 b.k).map fun k => (tget 0 b.el (128 * k + j)).toNat

/-- What MMUL has formed when its rows have streamed: N, the number of blocks, then the block sums of each element. -/
def streamRows (t : Tab Byte) (r : Region) (b : WBuf) : List Nat :=
  b.n :: (b.k + 31) / 32 :: ((upto 0 r.rows).flatMap fun i =>
    let act := rowElems t r i
    (upto 0 b.n).flatMap fun j => blockSums b.fmt act (weightCol b j))

/-- One addition into an accumulator element: the new value and whether it saturated (R105, R107). -/
def accAdd (int : Bool) (a v : Nat) : Nat × Bool :=
  if int then
    let z := ival 9 a + ival 9 v
    (icode 9 (clampInt 9 z), decide (clampInt 9 z ≠ z))
  else (fadd 8 a v, false)

/-- Block sums added in order (R124). -/
def accSum (int : Bool) (a : Nat × Bool) : List Nat → Nat × Bool
  | [] => a
  | v :: r => let b := accAdd int a.1 v; accSum int (b.1, a.2 || b.2) r

def accKey (i j : Nat) : Nat := 128 * i + j

/-- One element's update. -/
def accElem (int ovr : Bool) (acc : Acc) (k : Nat) (sums : List Nat) : Acc :=
  let r := match ovr, sums with
    | true, v :: rest => accSum int (v, false) rest
    | _, _ => accSum int ((tget 0 acc.el k).toNat, acc.sat.contains k) sums
  { acc with el := tset 0 acc.el k (BitVec.ofNat 32 r.1), sat := if r.2 then insNat k acc.sat else acc.sat.filter (fun j => decide (j ≠ k)) }

/-- MMUL's effect on the accumulator (R70, R124). -/
def accStream (ovr int : Bool) (rows : Nat) (buf : List Nat) (acc : Acc) : Acc :=
  let n := buf.getD 0 0
  let nb := buf.getD 1 0
  let sums := buf.drop 2
  (places rows n).foldl (fun a e => accElem int ovr a (accKey e.1 e.2) ((sums.drop ((e.1 * n + e.2) * nb)).take nb))
    (if ovr then { int := int } else acc)

/-- MLDA's effect (R74). -/
def accLoad (r : Region) (codes : List Nat) : Acc :=
  { int := decide (r.fmt = 9)
    el := (List.zip (places r.rows r.cols) codes).foldl (fun m e => tset 0 m (accKey e.1.1 e.1.2) (BitVec.ofNat 32 e.2)) [] }

/-- Every element MRD reads out, in row-major order (R72). -/
def readoutAll (acc : Acc) (ctl : W64) (d : Region) (cols : List Nat) : List Readout :=
  (places d.rows d.cols).map fun e =>
    readout acc.int (acc.sat.contains (accKey e.1 e.2)) (if bit 33 ctl then some (cols.getD e.2 0) else none)
      (if bit 32 ctl then some (fld 31 0 ctl) else none) d.fmt (tget 0 acc.el (accKey e.1 e.2)).toNat

/-- MRD's effect on tile memory and the counters; the histogram is written after the last row (R115, R116, R120). -/
def performMrd (o : Op) (c : TCore) : TCore :=
  let d := regionOf o.qd
  let rs := readoutAll c.acc o.ctl d o.buf
  let t := regionPut c.tile d (rs.map fun r => r.out)
  let t := if bit 34 o.ctl then regionPut t (regionOf o.qb) (histogram rs) else t
  addCounts (countIf (fun r => r.sat) rs) (countIf (fun r => r.flush) rs) { c with tile := t }

/-- Whether an operation acts on the accumulator (R71). -/
def isAccOp (e : EngOp) : Bool := decide (e = .mmul) || decide (e = .mlda) || decide (e = .mzero) || decide (e = .mrd)

/-- The accumulator effect of an operation that has started. -/
def performAcc (o : Op) (c : TCore) : TCore :=
  match o.eng with
  | .mmul => { c with acc := accStream (decide (2 ≤ o.m)) (fmtIsInt (regionOf o.qa).fmt) (regionOf o.qa).rows o.buf c.acc }
  | .mlda => { c with acc := accLoad (regionOf o.qa) o.buf }
  | .mzero => { c with acc := { int := decide (o.m = 1) } }
  | .mrd => performMrd o c
  | _ => c

/-- What a matrix operation reads at its start, kept with it; MLDW's start fills the buffer (R69). -/
def startMatrix (o : Op) (c : TCore) : Op × TCore :=
  let r := regionOf o.qa
  match o.eng with
  | .mldw =>
    let b := loadWeights c.tile r (decide (2 ≤ o.m))
    (o, if o.m % 2 = 0 then { c with w0 := b } else { c with w1 := b })
  | .mmul => ({ o with buf := streamRows c.tile r (if o.m % 2 = 0 then c.w0 else c.w1) }, c)
  | .mlda => ({ o with buf := regionElems c.tile r }, c)
  | .mrd => ({ o with buf := if bit 33 o.ctl then rowElems c.tile r 0 else [] }, c)
  | _ => (o, c)

end Sys2Proof.Machine
end

