-- ==== Sys2Proof/Machine/Real.lean ====
section
/-! DEFINITION. The functions of VFUN (R80), correctly rounded to FP32: each value is enclosed in an interval that is narrowed until
both ends round alike. Square roots and reciprocals are rounded from exact integers. -/

namespace Sys2Proof.Machine

open Sys2Proof

/-- A real number within `e` of `c`, in units of 2^−p. -/
structure Ball where
  c : Int
  e : Nat
deriving DecidableEq, Repr

def bInt (p : Nat) (v : Int) : Ball := ⟨v * 2 ^ p, 0⟩
def bAdd (a b : Ball) : Ball := ⟨a.c + b.c, a.e + b.e⟩
def bNeg (a : Ball) : Ball := ⟨-a.c, a.e⟩
def bSub (a b : Ball) : Ball := ⟨a.c - b.c, a.e + b.e⟩
def bMul (p : Nat) (a b : Ball) : Ball :=
  ⟨(a.c * b.c).fdiv (2 ^ p), (a.c.natAbs * b.e + b.c.natAbs * a.e + a.e * b.e) / 2 ^ p + 2⟩
def bDivN (a : Ball) (n : Nat) : Ball := ⟨a.c.fdiv n, a.e / n + 2⟩
/-- Quotient; the divisor's interval does not contain 0. -/
def bDiv (p : Nat) (a b : Ball) : Ball :=
  let q := (a.c * 2 ^ p).fdiv b.c
  ⟨q, (a.e * 2 ^ p + (q.natAbs + 1) * b.e) / (b.c.natAbs - b.e) + 2⟩

/-- A ratio of integers. -/
def bRat (p : Nat) (n : Int) (d : Nat) : Ball := ⟨(n * 2 ^ p).fdiv d, 1⟩

/-- mant × 2^exp. -/
def bFin (p : Nat) (neg : Bool) (mant : Nat) (exp : Int) : Ball :=
  let s : Int := exp + p
  let m : Int := if 0 ≤ s then (mant <<< s.toNat : Nat) else (mant >>> (-s).toNat : Nat)
  ⟨if neg then -m else m, if 0 ≤ s then 0 else 1⟩

/-- Σ t^(2k+1) / (2k+1) for k below n, alternating when `alt`: artanh or arctan of t. -/
def oddSeries (p : Nat) (alt : Bool) (t2 : Ball) : Nat → Nat → Ball → Ball
  | 0, _, _ => ⟨0, 4⟩
  | n + 1, k, pw =>
    let r := oddSeries p alt t2 n (k + 1) (bMul p pw t2)
    let term := bDivN pw (2 * k + 1)
    if alt && decide (k % 2 = 1) then bSub r term else bAdd r term

def artanh (p : Nat) (t : Ball) : Ball := oddSeries p false (bMul p t t) (p / 3 + 8) 0 t
def arctan (p : Nat) (t : Ball) : Ball := oddSeries p true (bMul p t t) (p / 3 + 8) 0 t

def ln2 (p : Nat) : Ball :=
  let a := artanh p (bRat p 1 3)
  bAdd a a

def pi (p : Nat) : Ball :=
  let a := arctan p (bRat p 1 5)
  let b := arctan p (bRat p 1 239)
  bSub ⟨16 * a.c, 16 * a.e⟩ ⟨4 * b.c, 4 * b.e⟩

/-- 1 + r/k (1 + r/(k+1) (…)): the exponential series for |r| below 1. -/
def expSeries (p : Nat) (r : Ball) : Nat → Nat → Ball
  | 0, _ => ⟨2 ^ p, 4⟩
  | n + 1, k => bAdd (bInt p 1) (bDivN (bMul p r (expSeries p r n (k + 1))) k)

/-- e^x as an integer power of two and a factor near 1. -/
def expParts (p : Nat) (x : Ball) : Int × Ball :=
  let l := ln2 p
  let k : Int := (2 * x.c + l.c).fdiv (2 * l.c)
  let r := bSub x ⟨k * l.c, k.natAbs * l.e⟩
  (k, expSeries p r (p / 4 + 20) 1)

/-- b × 2^k in units of 2^−p. -/
def bShift (b : Ball) (k : Int) : Ball :=
  if 0 ≤ k then ⟨b.c * 2 ^ k.toNat, b.e * 2 ^ k.toNat⟩
  else ⟨b.c.fdiv (2 ^ (-k).toNat), b.e / 2 ^ (-k).toNat + 2⟩

/-- Sine and cosine series of z, |z| below 1: Σ (−1)^i z^(2i) / ((k+1)(k+2)…). -/
def trigSeries (p : Nat) (z2 : Ball) : Nat → Nat → Ball
  | 0, _ => ⟨2 ^ p, 4⟩
  | n + 1, k => bSub (bInt p 1) (bDivN (bMul p z2 (trigSeries p z2 n (k + 2))) (k * (k + 1)))

def cosBall (p : Nat) (z : Ball) : Ball := trigSeries p (bMul p z z) (p / 4 + 10) 1
def sinBall (p : Nat) (z : Ball) : Ball := bMul p z (trigSeries p (bMul p z z) (p / 4 + 10) 2)

/-- The FP32 code that both ends of an interval times 2^k round to (R80 step 3, R106), if they agree. -/
def ballRound (p : Nat) (b : Ball) (k : Int) : Option Nat :=
  let lo := b.c - b.e
  let hi := b.c + b.e
  if (0 < lo ∨ hi < 0) then
    let f := fun (v : Int) => fround 8 true (.fin (decide (v < 0)) v.natAbs (k - p))
    if f lo = f hi then some (f lo) else none
  else none

/-- Narrow the interval until it decides the result. -/
def narrow (f : Nat → Ball × Int) : List Nat → Option Nat
  | [] => none
  | p :: r => match ballRound p (f p).1 (f p).2 with
    | some c => some c
    | none => narrow f r

def precisions : List Nat := [256, 512, 1024, 2048]

/-- Integer square root, bit by bit from the top. -/
def isqrtBits (n : Nat) : Nat → Nat → Nat
  | 0, r => r
  | b + 1, r => isqrtBits n b (if (r + 2 ^ b) * (r + 2 ^ b) ≤ n then r + 2 ^ b else r)

def isqrt (n : Nat) : Nat := isqrtBits n (Nat.log2 n / 2 + 1) 0

/-- Rounds √(mant × 2^exp), or its reciprocal, with a sticky bit from the exact remainder. -/
def sqrtVal (mant : Nat) (exp : Int) : Nat :=
  let sh : Nat := if (exp - 200) % 2 = 0 then 200 else 201
  let n := mant <<< sh
  let q := isqrt n
  fround 8 true (.fin false (2 * q + (if q * q = n then 0 else 1)) ((exp - sh).fdiv 2 - 1))

def rsqrtVal (mant : Nat) (exp : Int) : Nat :=
  -- 1/√x = √(2^t / mant) × 2^(−(exp + t)/2)
  let t : Nat := if (exp + 300) % 2 = 0 then 300 else 301
  let n := 2 ^ t / mant
  let q := isqrt n
  let exact := decide (q * q * mant = 2 ^ t)
  fround 8 true (.fin false (2 * q + (if exact then 0 else 1)) ((-(exp + t)).fdiv 2 - 1))

def recipVal (neg : Bool) (mant : Nat) (exp : Int) : Nat :=
  let n := 2 ^ 200 / mant
  fround 8 true (.fin neg (2 * n + (if n * mant = 2 ^ 200 then 0 else 1)) (-exp - 201))

def zero32 (neg : Bool) : Nat := if neg then 0x80000000 else 0
def one32 (neg : Bool) : Nat := if neg then 0xBF800000 else 0x3F800000
def inf32 (neg : Bool) : Nat := if neg then 0xFF800000 else 0x7F800000

/-- Whether mant × 2^exp is at least the integer n. -/
def geInt (mant : Nat) (exp : Int) (n : Nat) : Bool :=
  if 0 ≤ exp then decide (n ≤ mant <<< exp.toNat) else decide (n <<< (-exp).toNat ≤ mant)

/-- σ(x) = 1 / (1 + e^−x) for |x| below a few hundred. -/
def sigmoidBall (p : Nat) (x : Ball) : Ball × Int :=
  if 0 ≤ x.c then
    let e := expParts p (bNeg x)
    (bDiv p (bInt p 1) (bAdd (bInt p 1) (bShift e.2 e.1)), 0)
  else
    let e := expParts p x
    (bDiv p e.2 (bAdd (bInt p 1) (bShift e.2 e.1)), e.1)

/-- tanh x = (1 − e^−2x) / (1 + e^−2x) for x of 0 or more, by its sign otherwise. -/
def tanhBall (p : Nat) (x : Ball) : Ball × Int :=
  let a : Ball := if x.c < 0 then bNeg x else x
  let e := expParts p ⟨-2 * a.c, 2 * a.e⟩
  let q := bShift e.2 e.1
  let r := bDiv p (bSub (bInt p 1) q) (bAdd (bInt p 1) q)
  (if x.c < 0 then bNeg r else r, 0)

def ln1 (p : Nat) (m : Ball) : Ball :=
  let a := artanh p (bDiv p (bSub m (bInt p 1)) (bAdd m (bInt p 1)))
  bAdd a a

/-- log2 of mant × 2^exp. -/
def log2Ball (p mant : Nat) (exp : Int) : Ball × Int :=
  let t := Nat.log2 mant
  let m := bFin p false mant (-(t : Int))
  (bAdd (bInt p (exp + t)) (bDiv p (ln1 p m) (ln2 p)), 0)

/-- x modulo 2, in quarters counted from 0, and the rest below 1/4 as (mant, exp), for sinPi and cosPi. -/
def quarterOf (mant : Nat) (exp : Int) : Nat × Nat × Int :=
  if 0 ≤ exp then (((mant <<< exp.toNat) % 2) * 4, 0, 0)
  else
    let d := (-exp).toNat
    let m := mant % 2 ^ (d + 1)
    -- quarters of width 2^(d-2)
    if d < 2 then ((m <<< (2 - d)) % 8, 0, 0)
    else (m >>> (d - 2), m % 2 ^ (d - 2), exp)

/-- sin(π x) for x in [0, 2) given in quarters: exact zeros are handled before. -/
def sinPiBall (p q mant : Nat) (exp : Int) : Ball × Int :=
  let z := bMul p (pi p) (bFin p false mant exp)
  let w := bMul p (pi p) (bSub ⟨2 ^ p / 4, 0⟩ (bFin p false mant exp))
  let v := match q % 4 with
    | 0 => sinBall p z
    | 1 => cosBall p w
    | 2 => cosBall p z
    | _ => sinBall p w
  (if 4 ≤ q then bNeg v else v, 0)

def gauss (p : Nat) (x : Ball) : Ball :=
  -- 2 × 0.797_884_56 × (x + 0.044715 x³)
  let x3 := bMul p x (bMul p x x)
  bMul p (bRat p (2 * 79788456) 100000000) (bAdd x (bMul p (bRat p 44715 1000000) x3))

def orTie (code x : Nat) : Option Nat → Nat
  | some c => c
  | none => Config.vfunTie code x % 2 ^ 32

/-- f on an FP32 code (R80 step 3): special inputs and exact zeros first. -/
def vfun32 (code x : Nat) : Nat :=
  match fval 8 x with
  | .nan => canonNaN 8
  | .inf neg =>
    if code = 0 ∨ code = 1 then (if neg then 0 else inf32 false)
    else if code = 2 then (if neg then canonNaN 8 else inf32 false)
    else if code = 3 then zero32 neg
    else if code = 4 then (if neg then canonNaN 8 else 0)
    else if code = 5 then (if neg then canonNaN 8 else inf32 false)
    else if code = 6 then one32 neg
    else if code = 7 then (if neg then 0 else one32 false)
    else if code = 8 ∨ code = 9 then canonNaN 8
    else (if neg then zero32 true else inf32 false)
  | .fin neg mant exp =>
    if mant = 0 then
      if code = 0 ∨ code = 1 ∨ code = 9 then one32 false
      else if code = 2 then inf32 true
      else if code = 3 ∨ code = 4 then inf32 neg
      else if code = 7 then 0x3F000000
      else zero32 neg
    else if code = 0 then
      if geInt mant exp 256 then (if neg then 0 else inf32 false)
      else orTie code x (narrow (fun p =>
        let b := bFin p neg mant exp
        let k : Int := b.c.fdiv (2 ^ p)
        let r : Ball := ⟨b.c - k * 2 ^ p, b.e⟩
        let e := expParts p (bMul p r (ln2 p))
        (e.2, e.1 + k)) precisions)
    else if code = 1 then
      if geInt mant exp 256 then (if neg then 0 else inf32 false)
      else orTie code x (narrow (fun p => let e := expParts p (bFin p neg mant exp); (e.2, e.1)) precisions)
    else if code = 2 then
      if neg then canonNaN 8
      else if x = 0x3F800000 then 0
      else orTie code x (narrow (fun p => log2Ball p mant exp) precisions)
    else if code = 3 then recipVal neg mant exp
    else if code = 4 then (if neg then canonNaN 8 else rsqrtVal mant exp)
    else if code = 5 then (if neg then canonNaN 8 else sqrtVal mant exp)
    else if code = 6 then
      if geInt mant exp 256 then one32 neg
      else orTie code x (narrow (fun p => tanhBall p (bFin p neg mant exp)) precisions)
    else if code = 7 then
      if geInt mant exp 256 then (if neg then 0 else one32 false)
      else orTie code x (narrow (fun p => sigmoidBall p (bFin p neg mant exp)) precisions)
    else if code = 8 then
      let q := quarterOf mant exp
      if q.2.1 = 0 ∧ q.1 % 4 = 0 then zero32 neg
      else orTie code x (narrow (fun p =>
        let b := sinPiBall p q.1 q.2.1 q.2.2
        (if neg then bNeg b.1 else b.1, b.2)) precisions)
    else if code = 9 then
      let q := quarterOf mant exp
      let h := (q.1 + 2) % 8
      if q.2.1 = 0 ∧ h % 4 = 0 then 0
      else orTie code x (narrow (fun p => sinPiBall p h q.2.1 q.2.2) precisions)
    else if code = 10 then
      if geInt mant exp 256 then (if neg then zero32 true else x)
      else orTie code x (narrow (fun p =>
        let b := bFin p neg mant exp
        let g := sigmoidBall p b
        (bMul p b g.1, g.2)) precisions)
    else
      if geInt mant exp 64 then (if neg then zero32 true else x)
      else orTie code x (narrow (fun p =>
        let b := bFin p neg mant exp
        let g := sigmoidBall p (gauss p b)
        (bMul p b g.1, g.2)) precisions)

/-- VFUN on one element (R80): the difference, the function, and the destination's rounding. An offset of ±0 passes a unchanged. -/
def vfunElem (code fmt a b32 : Nat) : Nat :=
  let a32 := widen fmt a
  let d := if isNaN 8 a32 then canonNaN 8
    else if b32 % 0x80000000 = 0 then a32
    else fround 8 false (vadd' (fval 8 a32) (vneg (fval 8 b32)))
  let r := vfun32 code d
  if fmt = 8 then r else fround fmt true (fval 8 r)

end Sys2Proof.Machine
end

