-- ==== Sys2Proof/Machine/Vector.lean ====
section
/-! DEFINITION. The vector engine (R76 to R86): the issue checks of its operations and what each writes to tile memory, with VRAND's
counter blocks and normal values (R144 to R149). -/

namespace Sys2Proof.Machine

open Sys2Proof

/-! Issue checks -/

def isFmt4 (f : Nat) : Bool := decide (f = 8) || decide (f = 7) || decide (f = 6) || decide (f = 9)
def isFmt3 (f : Nat) : Bool := decide (f = 8) || decide (f = 7) || decide (f = 6)

/-- Formats of qa in the operations of two operands (R78). -/
def binFmtOk (e : EngOp) (f : Nat) : Bool := if e = .vmul ∨ e = .vfma ∨ e = .vfun then isFmt3 f else isFmt4 f

def isCompare (e : EngOp) : Bool := decide (e = .vceq) || decide (e = .vclt) || decide (e = .vcle)

/-- Shape of the second operand (R76). -/
def secondShape (m : Nat) (a b : Region) : Bool :=
  if m = 0 then sameShape a b else if m = 2 then decide (b.rows = 1) && decide (b.cols = a.cols)
  else decide (b.cols = 1) && decide (b.rows = a.rows)

/-- VADD to VCLE but VMOV and VCVT, and VFUN (R76 to R80). A field that the mode leaves unused must be 0 (R65, R76; DEDUCED, log 125). -/
def issueBinary (e : EngOp) (tc m xs qb qa qd : Nat) (s : State) : PacerRes :=
  let c := tcAt s tc
  let ctl := xReg c xs
  let wa := qReg c qa
  let wb := qReg c qb
  let wd := qReg c qd
  let a := regionOf wa
  let b := regionOf wb
  let d := regionOf wd
  let fun' := decide (e = .vfun)
  checked ([(1, if m = 1 then decide (qb ≠ 0) else !fun' && decide (xs ≠ 0))] ++ useCauses a ++ useCauses d ++ maskCauses c a ++ maskCauses c d ++
      [(6, !(binFmtOk e a.fmt) || decide (d.fmt ≠ (if isCompare e then 12 else a.fmt))), shapeCause [a, d] (sameShape a d),
       (0xD, fun' && (decide (12 ≤ fld 3 0 ctl) || decide (fld 31 4 ctl ≠ 0) || (decide (m ≠ 1) && decide (fld 63 32 ctl ≠ 0))))] ++
      (if m = 1 then [] else useCauses b ++ maskCauses c b ++ [(6, decide (b.fmt ≠ a.fmt)), shapeCause [a, b] (secondShape m a b)]))
    (issue tc { plainOp e m ctl with
        qa := wa, qb := wb, qd := wd, maskD := maskWord c wd
        reads := granules wa :: granulesMasked c wa ++ granulesMasked c wd ++ (if m = 1 then [] else granules wb :: granulesMasked c wb) ++
          (if e = .vfma then [granules wd] else [])
        writes := [granules wd] } s)

/-- VMOV (R76). -/
def issueVmov (tc m xs qb qa qd : Nat) (s : State) : PacerRes :=
  let c := tcAt s tc
  let wa := qReg c qa
  let wd := qReg c qd
  let a := regionOf wa
  let d := regionOf wd
  checked ([(1, decide (1 < m) || decide (qb ≠ 0) || (if m = 1 then decide (qa ≠ 0) else decide (xs ≠ 0)))] ++ useCauses d ++ maskCauses c d ++
      [(6, decide (d.fmt = 12))] ++
      (if m = 0 then useCauses a ++ maskCauses c a ++ [(6, decide (a.fmt ≠ d.fmt)), shapeCause [a, d] (sameShape a d)] else []))
    (issue tc { plainOp .vmov m (xReg c xs) with
        qa := wa, qd := wd, maskD := maskWord c wd
        reads := (if m = 0 then granules wa :: granulesMasked c wa else []) ++ granulesMasked c wd
        writes := [granules wd] } s)

def cvtFmt (f : Nat) : Bool := fmtArith f || decide (f = 9)

/-- An operation from qa to qd without further operands, its format and shape checks given. -/
def issueUnary (e : EngOp) (masked : Bool) (fmtOk : Nat → Nat → Bool) (shapeOk : Region → Region → Bool) (par : W64 → Bool)
    (bad : Bool) (tc xs qa qd : Nat) (s : State) : PacerRes :=
  let c := tcAt s tc
  let ctl := xReg c xs
  let wa := qReg c qa
  let wd := qReg c qd
  let a := regionOf wa
  let d := regionOf wd
  checked ([(1, bad)] ++ useCauses a ++ maskCauses c a ++ useCauses d ++ (if masked then maskCauses c d else [noMask d]) ++
      [(6, !(fmtOk a.fmt d.fmt)), shapeCause [a, d] (shapeOk a d), (0xD, par ctl)])
    (issue tc { plainOp e 0 ctl with
        qa := wa, qd := wd, maskD := maskWord c wd
        reads := granules wa :: granulesMasked c wa ++ granulesMasked c wd
        writes := [granules wd] } s)

def issueVcvt (tc m xs qb qa qd : Nat) : State → PacerRes :=
  issueUnary .vcvt true (fun a d => cvtFmt a && cvtFmt d) sameShape (fun _ => false)
    (decide (m ≠ 0) || decide (xs ≠ 0) || decide (qb ≠ 0)) tc 0 qa qd

def issueVred (tc m xs qb qa qd : Nat) : State → PacerRes :=
  issueUnary .vred false (fun a d => isFmt4 a && (decide (d = 8) || (decide (d = 9) && decide (a = 9))))
    (fun a d => decide (d.rows = a.rows) && decide (d.cols = 1)) (fun ctl => decide (fld 63 2 ctl ≠ 0))
    (decide (m ≠ 0) || decide (qb ≠ 0)) tc xs qa qd

def issueVscan (tc m xs qb qa qd : Nat) : State → PacerRes :=
  issueUnary .vscan false (fun a d => isFmt3 a && decide (d = 8)) sameShape (fun _ => false)
    (decide (m ≠ 0) || decide (xs ≠ 0) || decide (qb ≠ 0)) tc 0 qa qd

def issueVexpd (tc m xs qb qa qd : Nat) : State → PacerRes :=
  issueUnary .vexpd true (fun a d => decide (a ≠ 12) && decide (a = d)) sameShape (fun _ => false)
    (decide (m ≠ 0) || decide (xs ≠ 0) || decide (qb ≠ 0)) tc 0 qa qd

def issueVtrn (tc m xs qb qa qd : Nat) : State → PacerRes :=
  issueUnary .vtrn false (fun a d => decide (a = d) && decide (8 ≤ fmtBits a))
    (fun a d => small a && decide (d.rows = a.cols) && decide (d.cols = a.rows)) (fun _ => false)
    (decide (m ≠ 0) || decide (xs ≠ 0) || decide (qb ≠ 0)) tc 0 qa qd

/-- VTOPK (R83). -/
def issueVtopk (tc m xs qb qa qd : Nat) (s : State) : PacerRes :=
  let c := tcAt s tc
  let ctl := xReg c xs
  let k := fld 6 0 ctl
  let wa := qReg c qa
  let wb := qReg c qb
  let wd := qReg c qd
  let a := regionOf wa
  let b := regionOf wb
  let d := regionOf wd
  checked ([(1, decide (m ≠ 0))] ++ useCauses a ++ maskCauses c a ++ useCauses d ++ useCauses b ++
      [(6, !(isFmt4 a.fmt) || decide (d.fmt ≠ a.fmt) || decide (b.fmt ≠ 10)),
       shapeCause [a, b, d] (decide (d.rows = a.rows) && decide (d.cols = k) && sameShape b d), noMask d, noMask b,
       (0xD, decide (fld 63 7 ctl ≠ 0) || decide (k = 0) || decide (64 < k) || decide (a.cols < k))])
    (issue tc { plainOp .vtopk 0 ctl with
        qa := wa, qb := wb, qd := wd
        reads := granules wa :: granulesMasked c wa
        writes := [granules wd, granules wb] } s)

/-- VCMPRS (R84). -/
def issueVcmprs (tc m xs qb qa qd : Nat) (s : State) : PacerRes :=
  let c := tcAt s tc
  let wa := qReg c qa
  let wb := qReg c qb
  let wd := qReg c qd
  let a := regionOf wa
  let b := regionOf wb
  let d := regionOf wd
  checked ([(1, decide (m ≠ 0) || decide (xs ≠ 0))] ++ useCauses a ++ useCauses d ++ useCauses b ++ maskCauses c a ++
      [(6, decide (a.fmt = 12) || decide (d.fmt ≠ a.fmt) || decide (b.fmt ≠ 11)),
       shapeCause [a, b, d] (sameShape a d && decide (b.rows = a.rows) && decide (b.cols = 1)), noMask d, noMask b,
       (0xA, !a.masken && !(fmtReserved a.fmt))])
    (issue tc { plainOp .vcmprs 0 0 with
        qa := wa, qb := wb, qd := wd, maskA := maskWord c wa
        reads := granules wa :: granulesMasked c wa
        writes := [granules wd, granules wb] } s)

/-- Whether a slot is bound to a context (R225, R226). -/
def slotBound (s : State) (slot ctx : Nat) : Bool := bit 0 (slotAt s slot).ctl && decide (fld 29 16 (slotAt s slot).ctl = ctx)

/-- Latch a slot's values (R153). -/
def latchOf (s : State) (n : Nat) : Latch :=
  let x := slotAt s n
  ⟨n, x.pos, x.gen, x.sampler, x.topp, x.keyHi, x.keyLo⟩

/-- The latched values an item uses; a bound slot outside SEQ_MASK is latched at its first use (DESIGN CHOICE). -/
def useLatch (s : State) (it : Item) (n : Nat) : Latch × Item :=
  match it.latches.find? (fun l => decide (l.slot = n)) with
  | some l => (l, it)
  | none => (latchOf s n, { it with latches := it.latches ++ [latchOf s n] })

/-- VRAND (R85, R146, R148). -/
def issueVrand (tc m xs qb qa qd : Nat) (it : Item) (s : State) : PacerRes :=
  let c := tcAt s tc
  let ctl := xReg c xs
  let slot := fld 5 0 ctl
  let wd := qReg c qd
  let d := regionOf wd
  let l := useLatch s it slot
  let o := { plainOp .vrand m ctl with
    qd := wd, maskD := maskWord c wd, slot := slot, q1 := l.1.keyHi, q2 := l.1.keyLo, buf := [l.1.gen.toNat, l.1.pos.toNat]
    reads := granulesMasked c wd, writes := [granules wd] }
  checked ([(1, decide (m = 3) || decide (qa ≠ 0) || decide (qb ≠ 0))] ++ useCauses d ++ maskCauses c d ++
      [(6, if m = 0 then decide (d.fmt ≠ 11) else !(isFmt3 d.fmt)),
       (0xD, decide (fld 7 6 ctl ≠ 0) || !(slotBound s slot it.ctx))])
    (if roomFor c .vrand then .next (enter tc o (match c.item with | some n => itemPut s n l.2 | none => s)) else .stall)

/-! Meanings at issue -/

def vecRun (tc : Nat) (self : Instr) (f : Item → State → PacerRes) (s : State) : Host.Outcome State Fault Refusal :=
  onUnit (okTc tc) (pacerRun tc self 4 f s)

def execVadd (tc : Nat) (m : BitVec 2) (xs : BitVec 5) (qb qa qd : BitVec 4) (s : State) : Host.Outcome State Fault Refusal :=
  vecRun tc (.vadd tc m xs qb qa qd) (fun _ => issueBinary .vadd tc m.toNat xs.toNat qb.toNat qa.toNat qd.toNat) s

def execVsub (tc : Nat) (m : BitVec 2) (xs : BitVec 5) (qb qa qd : BitVec 4) (s : State) : Host.Outcome State Fault Refusal :=
  vecRun tc (.vsub tc m xs qb qa qd) (fun _ => issueBinary .vsub tc m.toNat xs.toNat qb.toNat qa.toNat qd.toNat) s

def execVmul (tc : Nat) (m : BitVec 2) (xs : BitVec 5) (qb qa qd : BitVec 4) (s : State) : Host.Outcome State Fault Refusal :=
  vecRun tc (.vmul tc m xs qb qa qd) (fun _ => issueBinary .vmul tc m.toNat xs.toNat qb.toNat qa.toNat qd.toNat) s

def execVfma (tc : Nat) (m : BitVec 2) (xs : BitVec 5) (qb qa qd : BitVec 4) (s : State) : Host.Outcome State Fault Refusal :=
  vecRun tc (.vfma tc m xs qb qa qd) (fun _ => issueBinary .vfma tc m.toNat xs.toNat qb.toNat qa.toNat qd.toNat) s

def execVmin (tc : Nat) (m : BitVec 2) (xs : BitVec 5) (qb qa qd : BitVec 4) (s : State) : Host.Outcome State Fault Refusal :=
  vecRun tc (.vmin tc m xs qb qa qd) (fun _ => issueBinary .vmin tc m.toNat xs.toNat qb.toNat qa.toNat qd.toNat) s

def execVmax (tc : Nat) (m : BitVec 2) (xs : BitVec 5) (qb qa qd : BitVec 4) (s : State) : Host.Outcome State Fault Refusal :=
  vecRun tc (.vmax tc m xs qb qa qd) (fun _ => issueBinary .vmax tc m.toNat xs.toNat qb.toNat qa.toNat qd.toNat) s

def execVmov (tc : Nat) (m : BitVec 2) (xs : BitVec 5) (qb qa qd : BitVec 4) (s : State) : Host.Outcome State Fault Refusal :=
  vecRun tc (.vmov tc m xs qb qa qd) (fun _ => issueVmov tc m.toNat xs.toNat qb.toNat qa.toNat qd.toNat) s

def execVcvt (tc : Nat) (m : BitVec 2) (xs : BitVec 5) (qb qa qd : BitVec 4) (s : State) : Host.Outcome State Fault Refusal :=
  vecRun tc (.vcvt tc m xs qb qa qd) (fun _ => issueVcvt tc m.toNat xs.toNat qb.toNat qa.toNat qd.toNat) s

def execVceq (tc : Nat) (m : BitVec 2) (xs : BitVec 5) (qb qa qd : BitVec 4) (s : State) : Host.Outcome State Fault Refusal :=
  vecRun tc (.vceq tc m xs qb qa qd) (fun _ => issueBinary .vceq tc m.toNat xs.toNat qb.toNat qa.toNat qd.toNat) s

def execVclt (tc : Nat) (m : BitVec 2) (xs : BitVec 5) (qb qa qd : BitVec 4) (s : State) : Host.Outcome State Fault Refusal :=
  vecRun tc (.vclt tc m xs qb qa qd) (fun _ => issueBinary .vclt tc m.toNat xs.toNat qb.toNat qa.toNat qd.toNat) s

def execVcle (tc : Nat) (m : BitVec 2) (xs : BitVec 5) (qb qa qd : BitVec 4) (s : State) : Host.Outcome State Fault Refusal :=
  vecRun tc (.vcle tc m xs qb qa qd) (fun _ => issueBinary .vcle tc m.toNat xs.toNat qb.toNat qa.toNat qd.toNat) s

def execVfun (tc : Nat) (m : BitVec 2) (xs : BitVec 5) (qb qa qd : BitVec 4) (s : State) : Host.Outcome State Fault Refusal :=
  vecRun tc (.vfun tc m xs qb qa qd) (fun _ => issueBinary .vfun tc m.toNat xs.toNat qb.toNat qa.toNat qd.toNat) s

def execVred (tc : Nat) (m : BitVec 2) (xs : BitVec 5) (qb qa qd : BitVec 4) (s : State) : Host.Outcome State Fault Refusal :=
  vecRun tc (.vred tc m xs qb qa qd) (fun _ => issueVred tc m.toNat xs.toNat qb.toNat qa.toNat qd.toNat) s

def execVscan (tc : Nat) (m : BitVec 2) (xs : BitVec 5) (qb qa qd : BitVec 4) (s : State) : Host.Outcome State Fault Refusal :=
  vecRun tc (.vscan tc m xs qb qa qd) (fun _ => issueVscan tc m.toNat xs.toNat qb.toNat qa.toNat qd.toNat) s

def execVtopk (tc : Nat) (m : BitVec 2) (xs : BitVec 5) (qb qa qd : BitVec 4) (s : State) : Host.Outcome State Fault Refusal :=
  vecRun tc (.vtopk tc m xs qb qa qd) (fun _ => issueVtopk tc m.toNat xs.toNat qb.toNat qa.toNat qd.toNat) s

def execVcmprs (tc : Nat) (m : BitVec 2) (xs : BitVec 5) (qb qa qd : BitVec 4) (s : State) : Host.Outcome State Fault Refusal :=
  vecRun tc (.vcmprs tc m xs qb qa qd) (fun _ => issueVcmprs tc m.toNat xs.toNat qb.toNat qa.toNat qd.toNat) s

def execVexpd (tc : Nat) (m : BitVec 2) (xs : BitVec 5) (qb qa qd : BitVec 4) (s : State) : Host.Outcome State Fault Refusal :=
  vecRun tc (.vexpd tc m xs qb qa qd) (fun _ => issueVexpd tc m.toNat xs.toNat qb.toNat qa.toNat qd.toNat) s

def execVrand (tc : Nat) (m : BitVec 2) (xs : BitVec 5) (qb qa qd : BitVec 4) (s : State) : Host.Outcome State Fault Refusal :=
  vecRun tc (.vrand tc m xs qb qa qd) (fun it => issueVrand tc m.toNat xs.toNat qb.toNat qa.toNat qd.toNat it) s

def execVtrn (tc : Nat) (m : BitVec 2) (xs : BitVec 5) (qb qa qd : BitVec 4) (s : State) : Host.Outcome State Fault Refusal :=
  vecRun tc (.vtrn tc m xs qb qa qd) (fun _ => issueVtrn tc m.toNat xs.toNat qb.toNat qa.toNat qd.toNat) s

/-! Values -/

/-- A selected element as a vector result: FP32 and BF16 follow R106, a NaN is canonical (R100). -/
def asResult (f c : Nat) : Nat := if fmtIsFloat f then fround f true (fval f c) else c

/-- One element of an operation of two operands, VFUN apart (R79). -/
def binElem (e : EngOp) (f a b c : Nat) : Nat :=
  let int := decide (f = 9)
  let lt := if int then decide (ival 9 a < ival 9 b) else vlt false (fval f a) (fval f b)
  let eq := if int then decide (a = b) else veq (fval f a) (fval f b)
  match e with
  | .vadd => if int then iadd a b else fadd f a b
  | .vsub => if int then isub a b else fsub f a b
  | .vmul => fmul f a b
  | .vfma => ffma f a b c
  | .vmin => if int then imin a b else asResult f (fmin f a b)
  | .vmax => if int then imax a b else asResult f (fmax f a b)
  | .vceq => b2n eq
  | .vclt => b2n lt
  | .vcle => b2n (lt || eq)
  | _ => 0

/-- Second operand b(i, j) as a code (R76). -/
def secondAt (t : Tab Byte) (o : Op) (i j : Nat) : Nat :=
  let b := regionOf o.qb
  if o.m = 0 then elemGet t b i j
  else if o.m = 1 then (if o.eng = .vfun then fld 63 32 o.ctl else o.ctl.toNat % 2 ^ fmtBits (regionOf o.qa).fmt)
  else if o.m = 2 then elemGet t b 0 j else elemGet t b i 0

/-- Every operand is read as it stood before the operation's first write, also where qd overlaps it (DESIGN CHOICE, log 151). -/
def binaryEffect (o : Op) (t : Tab Byte) : Tab Byte :=
  let a := regionOf o.qa
  let d := regionOf o.qd
  regionFill t d (active t d o.maskD) fun i j =>
    if o.eng = .vfun then
      vfunElem (fld 3 0 o.ctl) a.fmt (elemGet t a i j) (if o.m = 1 then secondAt t o i j else widen a.fmt (secondAt t o i j))
    else binElem o.eng a.fmt (elemGet t a i j) (secondAt t o i j) (if o.eng = .vfma then elemGet t d i j else 0)

/-- VRED's elements in the domain that qd selects, the square of kind 3 formed (R81). -/
def redElem (fa fd kind x : Nat) : Nat :=
  if fd = 9 then (if kind = 3 then isat (ival 9 x * ival 9 x) else x)
  else
    let y := if fa = 9 then (convert 9 8 x).code else widen fa x
    if kind = 3 then fmul 8 y y else y

def redIdentity (fd kind : Nat) : Nat :=
  if fd = 9 then (if kind = 1 then 0x80000000 else if kind = 2 then 0x7FFFFFFF else 0)
  else (if kind = 1 then 0xFF800000 else if kind = 2 then 0x7F800000 else 0)

def redCombine (fd kind a b : Nat) : Nat :=
  if fd = 9 then (if kind = 1 then imax a b else if kind = 2 then imin a b else iadd a b)
  else (if kind = 1 then asResult 8 (fmax 8 a b) else if kind = 2 then asResult 8 (fmin 8 a b) else fadd 8 a b)

/-- Levels of the pairwise tree over n elements. -/
def treeLevels (n : Nat) : Nat := if n ≤ 1 then 0 else Nat.log2 (n - 1) + 1

def redRow (fa fd kind : Nat) (row : List Nat) : Nat :=
  let l := treeLevels row.length
  let xs := row.map (redElem fa fd kind) ++ List.replicate (2 ^ l - row.length) (redIdentity fd kind)
  asResult fd ((treeSum (redCombine fd kind) l xs).headD 0)

/-- Prefix sums from left to right (R82): each addition takes its operands exactly (R99), and the first element is a result of its own. -/
def scanRow : Option Nat → List Nat → List Nat
  | _, [] => []
  | none, x :: r => asResult 8 x :: scanRow (some x) r
  | some a, x :: r => fadd 8 a x :: scanRow (some (fadd 8 a x)) r

/-- Whether x ranks above y (R83). -/
def ranksAbove (f x y : Nat) : Bool :=
  if f = 9 then decide (ival 9 y < ival 9 x)
  else if isNaN f x then false else if isNaN f y then true else vlt false (fval f y) (fval f x)

/-- The first of the greatest among (index, code) pairs in index order. -/
def topOf (f : Nat) : List (Nat × Nat) → Option (Nat × Nat)
  | [] => none
  | e :: r => match topOf f r with
    | none => some e
    | some g => if ranksAbove f g.2 e.2 then some g else some e

def topK (f : Nat) : Nat → List (Nat × Nat) → List (Nat × Nat)
  | 0, _ => []
  | n + 1, l => match topOf f l with
    | none => []
    | some e => e :: topK f n (l.filter fun g => decide (g.1 ≠ e.1))

def enumerate (l : List Nat) : List (Nat × Nat) := List.zip (upto 0 l.length) l

def topkEffect (o : Op) (t : Tab Byte) : Tab Byte :=
  let a := regionOf o.qa
  let sel := (upto 0 a.rows).flatMap fun i => topK a.fmt (fld 6 0 o.ctl) (enumerate (rowElems t a i))
  regionPut (regionPut t (regionOf o.qd) (sel.map fun e => e.2)) (regionOf o.qb) (sel.map fun e => e.1)

/-- Active elements of a row, in increasing index. -/
def activeRow (t : Tab Byte) (r : Region) (m : W64) (i : Nat) : List Nat :=
  ((upto 0 r.cols).filter fun j => active t r m i j).map fun j => elemGet t r i j

def cmprsEffect (o : Op) (t : Tab Byte) : Tab Byte :=
  let a := regionOf o.qa
  let d := regionOf o.qd
  let rows := (upto 0 a.rows).map fun i => activeRow t a o.maskA i
  let u := (List.zip (upto 0 a.rows) rows).foldl (fun v e => putElems d ((upto 0 e.2.length).map fun j => (e.1, j)) e.2 v) t
  regionPut u (regionOf o.qb) (rows.map fun r => r.length)

def expdEffect (o : Op) (t : Tab Byte) : Tab Byte :=
  let a := regionOf o.qa
  let d := regionOf o.qd
  (upto 0 a.rows).foldl (fun v i =>
    putElems d (((upto 0 d.cols).filter fun j => active t d o.maskD i j).map fun j => (i, j)) (rowElems t a i) v) t

/-! VRAND -/

/-- Output words of a counter block (R144, R145). -/
def vrandBlock (key : BitVec 128) (gen pos stream idx : Nat) : List Nat :=
  let x : BitVec 128 := BitVec.ofNat 128 (((gen * 2 ^ 32 + pos) * 2 ^ 32 + stream) * 2 ^ 32 + idx)
  let y := (sm4 key x).toNat
  [bitsOf 127 96 y, bitsOf 95 64 y, bitsOf 63 32 y, bitsOf 31 0 y]

def vrandWord (key : BitVec 128) (gen pos : Nat) (ctl : W64) (blk i : Nat) : Nat :=
  (vrandBlock key gen pos (fld 31 8 ctl) ((fld 63 32 ctl + blk) % 2 ^ 32)).getD i 0

/-- A uniform value of R148. -/
def uniformOf (f w : Nat) : Nat :=
  if f = 8 then fround 8 true (.fin false (w / 2 ^ 8) (-24))
  else if f = 7 then fround 7 true (.fin false (w / 2 ^ 21) (-11))
  else fround 6 true (.fin false (w / 2 ^ 24) (-8))

/-- A normal value in FP32 (R149). -/
def normal32 (ya yb : Nat) : Nat :=
  let u1 := fround 8 true (.fin false (ya / 2 ^ 8 + 1) (-24))
  let a := vfun32 2 u1
  let b := fmul 8 a 0xBFB17218
  let c := vfun32 5 b
  let d := vfun32 9 (fround 8 true (.fin false (yb / 2 ^ 8) (-23)))
  fmul 8 c d

def randElem (o : Op) (f e : Nat) : Nat :=
  let key : BitVec 128 := o.q1 ++ o.q2
  let gen := o.buf.getD 0 0
  let pos := o.buf.getD 1 0
  if o.m = 2 then
    let w := fun i => vrandWord key gen pos o.ctl (e / 2) (2 * (e % 2) + i)
    let z := normal32 (w 0) (w 1)
    if f = 8 then z else fround f true (fval 8 z)
  else
    let w := vrandWord key gen pos o.ctl (e / 4) (e % 4)
    if o.m = 0 then w else uniformOf f w

def randEffect (o : Op) (t : Tab Byte) : Tab Byte :=
  let d := regionOf o.qd
  regionFill t d (active t d o.maskD) fun i j => randElem o d.fmt (i * d.cols + j)

/-! Effects -/

/-- VCVT with its counts over the elements written (R118, R119). -/
def cvtEffect (o : Op) (c : TCore) : TCore :=
  let t := c.tile
  let a := regionOf o.qa
  let d := regionOf o.qd
  let act := (places d.rows d.cols).filter fun e => active t d o.maskD e.1 e.2
  let conv := act.map fun e => convert a.fmt d.fmt (elemGet t a e.1 e.2)
  addCounts (countIf (fun k => k.sat) conv) (countIf (fun k => k.flush) conv)
    { c with tile := putElems d act (conv.map fun k => k.code) t }

/-- What a vector operation writes, from tile memory as it stands at its start (R76 to R86). -/
def startVector (o : Op) (c : TCore) : TCore :=
  let t := c.tile
  let a := regionOf o.qa
  let d := regionOf o.qd
  match o.eng with
  | .vmov => { c with tile := regionFill t d (active t d o.maskD) fun i j =>
      if o.m = 0 then elemGet t a i j else o.ctl.toNat % 2 ^ fmtBits d.fmt }
  | .vcvt => cvtEffect o c
  | .vred => { c with tile := regionPut t d ((upto 0 a.rows).map fun i => redRow a.fmt d.fmt (fld 1 0 o.ctl) (rowElems t a i)) }
  | .vscan => { c with tile := regionPut t d ((upto 0 a.rows).flatMap fun i => scanRow none ((rowElems t a i).map (widen a.fmt))) }
  | .vtopk => { c with tile := topkEffect o t }
  | .vcmprs => { c with tile := cmprsEffect o t }
  | .vexpd => { c with tile := expdEffect o t }
  | .vrand => { c with tile := randEffect o t }
  | .vtrn => { c with tile := regionPut t d ((places d.rows d.cols).map fun e => elemGet t a e.2 e.1) }
  | _ => { c with tile := binaryEffect o t }

end Sys2Proof.Machine
end

