-- ==== Sys2Proof/Machine/Pacer.lean ====
section
/-! DEFINITION. The instructions that execute in the Pacer, and PBSIG (R43 to R50, R67): custom-0 instructions, scalar accesses to the
local data map, CSRs. -/

namespace Sys2Proof.Machine

open Sys2Proof

/-! Baton words (R217, R218) -/

/-- An operation word without reserved codes or bits. -/
def batonWordOk (op : W32) : Bool := decide (op.toNat % 16 ≤ 6) && decide (bitsOf 7 5 op.toNat = 0)

/-- A condition word without reserved codes or bits. -/
def condWordOk (c : W64) : Bool := decide (fld 34 32 c ≤ 5) && decide (fld 63 35 c = 0)

/-- A condition on a Baton's value; a reserved relation never holds (R218, R222). -/
def condHolds (c : W64) (v : W32) : Bool :=
  let x : W32 := c.truncate 32
  let ge := decide ((v - x).toNat < 2 ^ 31)
  match fld 34 32 c with
  | 0 => decide (v = x)
  | 1 => decide (v ≠ x)
  | 2 => ge
  | 3 => !ge
  | 4 => decide (v &&& x = x)
  | 5 => decide (v &&& x ≠ 0)
  | _ => false

def batonBound (s : State) (b ctx : Nat) : Bool := bit 0 (batonAt s b).ctl && decide (fld 29 16 (batonAt s b).ctl = ctx)

/-! Custom-0 -/

/-- Set a core's register and go on. -/
def setX (tc rd : Nat) (v : W64) (s : State) : PacerRes := .next (tcMod s tc fun c => xPut c rd v)

def onCustom (tc : Nat) (self : Instr) (body : Item → State → PacerRes) (s : State) : Host.Outcome State Fault Refusal :=
  onUnit (okTc tc) (pacerRun tc self 4 body s)

def unused (l : List (BitVec 5)) : Nat × Bool := (1, l.any fun f => decide (f ≠ 0))
/-- A field of five bits that names a region register has its fifth bit 0 (R64). -/
def qField (f : BitVec 5) : Nat × Bool := (1, decide (16 ≤ f.toNat))

def execPsetq (tc : Nat) (rd rs1 rs2 : BitVec 5) (s : State) : Host.Outcome State Fault Refusal :=
  onCustom tc (.psetq tc rd rs1 rs2) (fun _ s => checked [unused [rs2], qField rd]
    (.next (tcMod s tc fun c => { c with q := tset 0 c.q rd.toNat (xReg c rs1.toNat &&& BitVec.ofNat 64 regionBits) }))) s

def execPgetq (tc : Nat) (rd rs1 rs2 : BitVec 5) (s : State) : Host.Outcome State Fault Refusal :=
  onCustom tc (.pgetq tc rd rs1 rs2) (fun _ s => checked [unused [rs2], qField rs1] (setX tc rd.toNat (qReg (tcAt s tc) rs1.toNat) s)) s

def execPqadd (tc : Nat) (rd rs1 rs2 : BitVec 5) (s : State) : Host.Outcome State Fault Refusal :=
  onCustom tc (.pqadd tc rd rs1 rs2) (fun _ s => checked [unused [rs2], qField rd]
    (.next (tcMod s tc fun c =>
      let q := qReg c rd.toNat
      { c with q := tset 0 c.q rd.toNat (setFld 14 0 ((fld 14 0 q + (xReg c rs1.toNat).toNat) % 32768) q) }))) s

def execPtag (tc : Nat) (rd rs1 rs2 : BitVec 5) (s : State) : Host.Outcome State Fault Refusal :=
  onCustom tc (.ptag tc rd rs1 rs2) (fun _ s => checked [unused [rs1, rs2]] (setX tc rd.toNat (BitVec.ofNat 64 (tcAt s tc).tag) s)) s

/-- Whether an operation with this tag is in flight (R67). -/
def inFlight (c : TCore) (tag : W64) : Bool := c.sb.any fun o => decide (o.tag = tag.toNat)

def execPwait (tc : Nat) (rd rs1 rs2 : BitVec 5) (s : State) : Host.Outcome State Fault Refusal :=
  onCustom tc (.pwait tc rd rs1 rs2) (fun _ s => checked [unused [rd, rs2]]
    (if inFlight (tcAt s tc) (xReg (tcAt s tc) rs1.toNat) then .stall else .next s)) s

def execPfence (tc : Nat) (rd rs1 rs2 : BitVec 5) (s : State) : Host.Outcome State Fault Refusal :=
  onCustom tc (.pfence tc rd rs1 rs2) (fun _ s => checked [unused [rd, rs1], (1, decide (16 ≤ rs2.toNat))]
    (let m := if rs2 = 0 then 15 else rs2.toNat
     if (tcAt s tc).sb.any fun o => m.testBit (engQueue o.eng) then .stall else .next s)) s

def execPstat (tc : Nat) (rd rs1 rs2 : BitVec 5) (s : State) : Host.Outcome State Fault Refusal :=
  onCustom tc (.pstat tc rd rs1 rs2) (fun _ s => checked [unused [rs2]]
    (setX tc rd.toNat (BitVec.ofNat 64 (b2n (inFlight (tcAt s tc) (xReg (tcAt s tc) rs1.toNat)))) s)) s

def execPrdop (tc : Nat) (rd rs1 rs2 : BitVec 5) (s : State) : Host.Outcome State Fault Refusal :=
  onCustom tc (.prdop tc rd rs1 rs2) (fun it s =>
    let v := xReg (tcAt s tc) rs1.toNat
    let o := itemSlot it (fld 3 0 v)
    checked [unused [rs2], (8, o.isNone), (0xD, decide (fld 7 4 v ≠ 0) || decide (fld 63 12 v ≠ 0))]
      (match o with
       | some o => setX tc rd.toNat (BitVec.ofNat 64 (o.field (fld 11 8 v))) s
       | none => .fault 8)) s

/-- PDONE ends this core's part of the item (R67): its kernel status is kept by rank (R215). -/
def finishPart (tc : Nat) (k : Nat) (s : State) : State :=
  let c := tcAt s tc
  let t := tcPut s tc { c with done := some k }
  match c.item with
  | none => t
  | some n => match itemAt t n with
    | none => t
    | some it => itemPut t n { it with kstat := it.kstat ++ [(c.rank, k)], ended := it.ended ++ [tc] }

def execPdone (tc : Nat) (rd rs1 rs2 : BitVec 5) (s : State) : Host.Outcome State Fault Refusal :=
  onCustom tc (.pdone tc rd rs1 rs2) (fun _ s => checked [unused [rd, rs2]]
    (if (tcAt s tc).sb = [] then .next (finishPart tc (fld 7 0 (xReg (tcAt s tc) rs1.toNat)) s) else .stall)) s

/-- Counters 0 to 3 hold what completed operations took; 4 and 5 depend on timing, which the model does not have: free values. -/
def execPperf (tc : Nat) (rd rs1 rs2 : BitVec 5) (s : State) : Host.Outcome State Fault Refusal :=
  onCustom tc (.pperf tc rd rs1 rs2) (fun _ s =>
    let v := xReg (tcAt s tc) rs1.toNat
    let k := fld 2 0 v
    checked [unused [rs2], (0xD, decide (fld 63 3 v ≠ 0))]
      (if k = 4 ∨ k = 5 then (let d := drawFree s; setX tc rd.toNat d.1 d.2)
       else if 6 ≤ k then setX tc rd.toNat 0 s
       else setX tc rd.toNat (tget 0 (tcAt s tc).perf k) s)) s

/-- PBSIG is an operation of the DMA queue (R67, R220). -/
def execPbsig (tc : Nat) (rd rs1 rs2 : BitVec 5) (s : State) : Host.Outcome State Fault Refusal :=
  onCustom tc (.pbsig tc rd rs1 rs2) (fun it s =>
    let b := xReg (tcAt s tc) rs1.toNat
    let w := xReg (tcAt s tc) rs2.toNat
    checked [unused [rd], (0xD, decide (fld 63 13 b ≠ 0) || decide (fld 63 32 w ≠ 0) || !(batonWordOk (w.truncate 32)) ||
        !(batonBound s (fld 12 0 b) it.ctx))]
      (issue tc { plainOp .pbsig 0 b with ctl2 := w } s)) s

def execPbwait (tc : Nat) (rd rs1 rs2 : BitVec 5) (s : State) : Host.Outcome State Fault Refusal :=
  onCustom tc (.pbwait tc rd rs1 rs2) (fun it s =>
    let b := xReg (tcAt s tc) rs1.toNat
    let w := xReg (tcAt s tc) rs2.toNat
    let v := (batonAt s (fld 12 0 b)).value
    checked [(0xD, decide (fld 63 13 b ≠ 0) || !(condWordOk w) || !(batonBound s (fld 12 0 b) it.ctx))]
      (if condHolds w v then setX tc rd.toNat (v.zeroExtend 64) s else .stall)) s

/-- KEY_CHK of a key (R150). -/
def keyChk (hi lo : W64) : W32 := BitVec.ofNat 32 (bitsOf 127 96 (sm4 (hi ++ lo) 0).toNat)

/-- KEY_CHK as it reads (R150). -/
def keyChkRead (x : Slot) : W32 := x.chk.getD (keyChk x.keyHi x.keyLo)

/-- An item names the slot: in SEQ_MASK, or in a PSQRD, PSQADV or VRAND it has issued, which latches it (R226). -/
def namesSlot (it : Item) (n : Nat) : Bool := (descWord it 8).getLsbD n || it.latches.any fun l => decide (l.slot = n)

/-- SQ.CTL as it reads, with BUSY while an item that names the slot runs (R150). -/
def sqCtlRead (s : State) (n : Nat) : W64 :=
  let busy := s.items.any fun e => decide (e.2.phase = .running) && namesSlot e.2 n
  (slotAt s n).ctl ||| (if busy then 0x80000000 else 0)

/-- A field of a slot as PSQRD reads it (R151). -/
def sqField (s : State) (l : Latch) (k : Nat) : W64 :=
  if k = 0 then sqCtlRead s l.slot else if k = 1 then l.pos.zeroExtend 64 else if k = 2 then l.gen.zeroExtend 64
  else if k = 3 then l.sampler else if k = 4 then l.topp.zeroExtend 64 else if k = 5 then (keyChk l.keyHi l.keyLo).zeroExtend 64 else 0

def execPsqrd (tc : Nat) (rd rs1 rs2 : BitVec 5) (s : State) : Host.Outcome State Fault Refusal :=
  onCustom tc (.psqrd tc rd rs1 rs2) (fun it s =>
    let v := xReg (tcAt s tc) rs1.toNat
    let n := fld 5 0 v
    let l := useLatch s it n
    checked [unused [rs2], (0xD, decide (fld 7 6 v ≠ 0) || decide (fld 63 12 v ≠ 0) || !(slotBound s n it.ctx))]
      (let t := match (tcAt s tc).item with | some k => itemPut s k l.2 | none => s
       setX tc rd.toNat (sqField t l.1 (fld 11 8 v)) t)) s

def execPsqadv (tc : Nat) (rd rs1 rs2 : BitVec 5) (s : State) : Host.Outcome State Fault Refusal :=
  onCustom tc (.psqadv tc rd rs1 rs2) (fun it s =>
    let v := xReg (tcAt s tc) rs1.toNat
    let n := fld 5 0 v
    let add : W32 := (xReg (tcAt s tc) rs2.toNat).truncate 32
    let it := (useLatch s it n).2
    checked [unused [rd], (0xD, decide (fld 63 6 v ≠ 0) || !(slotBound s n it.ctx))]
      (.next (match (tcAt s tc).item with
        | some k => itemPut s k { it with sums := tset 0 it.sums n (tget 0 it.sums n + add) }
        | none => s))) s

/-- x1 to x15 change places with the other bank (R49). -/
def swapBanks (c : TCore) : TCore :=
  { c with x := c.fx ++ c.x.filter (fun e => decide (16 ≤ e.1)), fx := c.x.filter fun e => decide (e.1 < 16) }

def execPfret (tc : Nat) (rd rs1 rs2 : BitVec 5) (s : State) : Host.Outcome State Fault Refusal :=
  onCustom tc (.pfret tc rd rs1 rs2) (fun _ s => checked [unused [rd, rs1, rs2], (1, !(tcAt s tc).inHandler)]
    (.jump (tcMod s tc fun c => { swapBanks c with inHandler := false }) (tcAt s tc).fepc)) s

/-! The local data map (R45, R46) -/

def inTile (a n : Nat) : Bool := decide (a + n ≤ tileBytes)
def inParam (a n : Nat) : Bool := decide (0x01000000 ≤ a) && decide (a + n ≤ 0x01000100)
def inPram (a n : Nat) : Bool := decide (0x01100000 ≤ a) && decide (a + n ≤ 0x01104000)

/-- Causes of an access (R46, R515). -/
def accessCauses (a n : Nat) (readOnly : Bool) : List (Nat × Bool) :=
  [(3, !(inTile a n || inPram a n || (readOnly && inParam a n))), (4, decide (a % n ≠ 0))]

def granuleOf (a : Nat) : List (Nat × Nat) := [(a / 128 * 128, a / 128 * 128 + 128)]

/-- A load of tile memory waits for writers of the granule; a store or atomic also for readers before their read-done point (R62). -/
def accessWaits (c : TCore) (a n : Nat) (write : Bool) : Bool :=
  inTile a n && c.sb.any fun o => overlap (granuleOf a) o.writes || (write && !o.readDone && overlap (granuleOf a) o.reads)

/-- An access to tile memory is a request of the Pacer to its banks (R57). -/
def bankUse (tc a n : Nat) (s : State) : State := if inTile a n then tcMod s tc (bankRequest 5) else s

def localGet (c : TCore) (a n : Nat) : Nat :=
  if inTile a n then leNat (tbytes c.tile a n) else if inParam a n then leNat (tbytes c.param (a - 0x01000000) n)
  else leNat (tbytes c.pram (a - 0x01100000) n)

def localPut (c : TCore) (a n v : Nat) : TCore :=
  if inTile a n then { c with tile := tputs c.tile a (leBytes n v) } else { c with pram := tputs c.pram (a - 0x01100000) (leBytes n v) }

/-- A loaded value in a register: sign-extended unless funct3 [2] is set. -/
def extendLoad (f3 n v : Nat) : W64 := if f3 < 4 then sxt (8 * n) v else BitVec.ofNat 64 v

def execPacerLoad (tc : Nat) (compressed : Bool) (funct3 : BitVec 3) (rd rs1 : BitVec 5) (imm : BitVec 12) (s : State) :
    Host.Outcome State Fault Refusal :=
  onUnit (okTc tc) (pacerRun tc (.pacerLoad tc compressed funct3 rd rs1 imm) (if compressed then 2 else 4) (fun _ s =>
    let c := tcAt s tc
    let n := 2 ^ (funct3.toNat % 4)
    let a := (xReg c rs1.toNat + imm.signExtend 64).toNat
    checked ((1, decide (funct3 = 7) || (compressed && !(decide (funct3 = 2) || decide (funct3 = 3)))) :: accessCauses a n true)
      (if accessWaits c a n false then .stall else setX tc rd.toNat (extendLoad funct3.toNat n (localGet c a n)) (bankUse tc a n s))) s)

def execPacerStore (tc : Nat) (compressed : Bool) (funct3 : BitVec 3) (rs1 rs2 : BitVec 5) (imm : BitVec 12) (s : State) :
    Host.Outcome State Fault Refusal :=
  onUnit (okTc tc) (pacerRun tc (.pacerStore tc compressed funct3 rs1 rs2 imm) (if compressed then 2 else 4) (fun _ s =>
    let c := tcAt s tc
    let n := 2 ^ (funct3.toNat % 4)
    let a := (xReg c rs1.toNat + imm.signExtend 64).toNat
    checked ((1, decide (4 ≤ funct3.toNat) || (compressed && !(decide (funct3 = 2) || decide (funct3 = 3)))) :: accessCauses a n false)
      (if accessWaits c a n true then .stall else .next (tcMod (bankUse tc a n s) tc fun c => localPut c a n (xReg c rs2.toNat).toNat))) s)

/-- An atomic on the local data map: LR, SC and the AMOs (R46). -/
def pacerAtomicBody (tc f5 f3 rd rs1 rs2 : Nat) (s : State) : PacerRes :=
  let n := 2 ^ (f3 % 4)
  let a := (xReg (tcAt s tc) rs1).toNat
  let c := if inTile a n then bankRequest 5 (tcAt s tc) else tcAt s tc
  let old := sxt (8 * n) (localGet c a n)
  let src := xReg c rs2
  checked ((1, !(decide (f3 = 2) || decide (f3 = 3)) || !(decide (f5 = 2) || decide (f5 = 3) || (amoValue f5 n 0 0).isSome) ||
      (decide (f5 = 2) && decide (rs2 ≠ 0))) :: accessCauses a n false)
    (if accessWaits c a n true then .stall
     else if f5 = 2 then .next (tcPut s tc { xPut c rd old with resv := some a })
     else if f5 = 3 then
       if c.resv = some a then .next (tcPut s tc { xPut (localPut c a n src.toNat) rd 0 with resv := none })
       else .next (tcPut s tc { xPut c rd 1 with resv := none })
     else match amoValue f5 n old src with
       | some v => .next (tcPut s tc (xPut (localPut c a n v.toNat) rd old))
       | none => .fault 1)

def execPacerAtomic (tc : Nat) (funct5 : BitVec 5) (funct3 : BitVec 3) (rd rs1 rs2 : BitVec 5) (s : State) :
    Host.Outcome State Fault Refusal :=
  onUnit (okTc tc) (pacerRun tc (.pacerAtomic tc funct5 funct3 rd rs1 rs2) 4
    (fun _ => pacerAtomicBody tc funct5.toNat funct3.toNat rd.toNat rs1.toNat rs2.toNat) s)

/-! CSRs, ECALL and EBREAK -/

/-- A CSR's value (R48); CYCLE depends on timing and is a free value. -/
def csrRead (tc csr : Nat) (it : Item) (s : State) : Option (W64 × State) :=
  let c := tcAt s tc
  if csr = 0xC00 then (let d := drawFree s; some (d.1, tcPut d.2 tc { c with cycle := d.1 }))
  else if csr = 0xC01 then some (now s, s)
  else if csr = 0xC02 then some (c.instret, s)
  else if csr = 0xCC0 then some (BitVec.ofNat 64 tc, s)
  else if csr = 0xCC1 then some (BitVec.ofNat 64 it.ctx, s)
  else if csr = 0xCC2 then some (descWord it 1, s)
  else if csr = 0xCC3 then some (descWord it 2, s)
  else if csr = 0xCC4 then some (descWord it 3, s)
  else if csr = 0x800 then some (c.fevec, s)
  else if csr = 0x801 then some (c.fepc, s)
  else if csr = 0x802 then some (BitVec.ofNat 64 c.festat, s)
  else none

/-- A CSR write; none for a read-only CSR. -/
def csrWrite (tc csr : Nat) (v : W64) (s : State) : Option State :=
  let w := v &&& BitVec.ofInt 64 (-2)
  if csr = 0x800 then some (tcMod s tc fun c => { c with fevec := w })
  else if csr = 0x801 then some (tcMod s tc fun c => { c with fepc := w })
  else none

def csrBody (tc f3 csr rd rs1 : Nat) (it : Item) (s : State) : PacerRes :=
  let src := if 4 ≤ f3 then BitVec.ofNat 64 rs1 else xReg (tcAt s tc) rs1
  let k := f3 % 4
  if k = 0 then .fault 1
  else match csrRead tc csr it s with
    | none => .fault 1
    | some (old, t) =>
      if k ≠ 1 ∧ rs1 = 0 then setX tc rd old t
      else match csrWrite tc csr (if k = 1 then src else if k = 2 then old ||| src else old &&& ~~~src) t with
        | none => .fault 1
        | some u => setX tc rd old u

def execPacerCsrAccess (tc : Nat) (funct3 : BitVec 3) (csr : BitVec 12) (rd rs1 : BitVec 5) (s : State) : Host.Outcome State Fault Refusal :=
  onUnit (okTc tc) (pacerRun tc (.pacerCsrAccess tc funct3 csr rd rs1) 4 (csrBody tc funct3.toNat csr.toNat rd.toNat rs1.toNat) s)

def execEcall (tc : Nat) (s : State) : Host.Outcome State Fault Refusal :=
  onUnit (okTc tc) (pacerRun tc (.ecall tc) 4 (fun _ _ => .fault 0xC) s)

/-- EBREAK halts the Pacer at debug level 2 and above (R67, R475), to go on behind the EBREAK; otherwise cause 0x0B. -/
def execEbreak (tc : Nat) (compressed : Bool) (s : State) : Host.Outcome State Fault Refusal :=
  onUnit (okTc tc) (pacerRun tc (.ebreak tc compressed) (if compressed then 2 else 4) (fun _ s =>
    if s.sec.debug < 2 then .fault 0xB else .next (tcMod s tc fun c => { c with halted := true })) s)

end Sys2Proof.Machine
end

