-- ==== Sys2Proof/Machine/BatonUnit.lean ====
section
/-! DEFINITION. The Baton unit: operations, the events of a Baton and the PBWAITs they complete (R216 to R222). -/

namespace Sys2Proof.Machine

open Sys2Proof

/-- The value after an operation (R217). -/
def batonApply (op v : W32) : W32 :=
  let x : W32 := (op >>> 8)
  match op.toNat % 16 with
  | 1 => x
  | 2 => v + x
  | 3 => v - x
  | 4 => if v.toNat < x.toNat then x else v
  | 5 => v ||| x
  | 6 => v &&& ~~~x
  | _ => v

/-- A PBWAIT that stands at a tensor core completes when its condition holds for the value (R220). -/
def wakeCore (b : Nat) (v : W32) (tc : Nat) (s : State) : State :=
  let c := tcAt s tc
  match c.stall with
  | some (.pbwait _ rd rs1 rs2) =>
    if fld 12 0 (xReg c rs1.toNat) = b ∧ condHolds (xReg c rs2.toNat) v = true then
      retire tc (c.pc + 4) (tcPut s tc (xPut c rd.toNat (v.zeroExtend 64)))
    else s
  | _ => s

/-- A new value in a Baton, with its event (R222) and its waiters (R219). -/
def batonStore (b : Nat) (v : W32) (evt : Bool) (s : State) : State :=
  let x := batonAt s b
  let t := batonPut s b { x with value := v }
  let rise := condHolds x.cond v && !(condHolds x.cond x.value)
  let t := if bit 1 x.ctl && (evt || rise) then scRaise 1 (BitVec.ofNat 32 b) t else t
  t.tcs.foldl (fun u e => wakeCore b v e.1 u) t

/-- An operation word arrives at the unit (R217); a word with reserved codes or bits is ignored (R221). -/
def batonOp (b : Nat) (op : W32) (s : State) : State :=
  if batonWordOk op && decide (b < 8192) then batonStore b (batonApply op (batonAt s b).value) (op.getLsbD 4) s else s

/-- An event on a context's source (R398): kind 0 completion, 1 miss, 2 refusal, 3 queue parked. -/
def ctxEvent (ctx q kind : Nat) (idx : W32) (s : State) : State :=
  scRaise (fld 15 0 (((ctxAt s ctx).entry).getD 3 0)) (BitVec.ofNat 32 (kind * 2 ^ 30 + q * 2 ^ 28 + idx.toNat % 2 ^ 28)) s

/-- An item is ended (R180, R194): its cores issue nothing further and the first error status stands (R215).
A transfer held for a translation (R244) moves nothing. -/
def stopItem (n st : Nat) (s : State) : State :=
  match itemAt s n with
  | none => s
  | some it =>
    let t := itemPut s n { it with status := match it.status with | none => some st | some k => some k }
    it.tcs.foldl (fun u k => tcMod u k fun c => if c.done.isSome then c else { c with
      stopped := true, stall := none, heldOps := [], sb := c.sb.filter fun o => !(c.heldOps.any fun h => decide (h.1 = o.tag)) }) t

end Sys2Proof.Machine
end

