-- ==== Sys2Proof/Machine/Groups.lean ====
section
/-! DEFINITION. Relay groups: their fields (R128), the checks of a start (R129), the canonical tree (R135, R136) and the abort (R140). -/

namespace Sys2Proof.Machine

open Sys2Proof

def gValid (g : Group) : Bool := bit 0 g.gctl
def gKind (g : Group) : Nat := fld 3 1 g.gctl
def gFmt (g : Group) : Nat := fld 7 4 g.gctl
def gRoot (g : Group) : Bool := bit 8 g.gctl
def gScope (g : Group) : Nat := fld 10 9 g.gctl
def gBound (g : Group) : Bool := bit 11 g.gctl
def gCtx (g : Group) : Nat := fld 29 16 g.gctl
def gState (g : Group) : Nat := fld 33 32 g.gctl
def gN (g : Group) : Nat := fld 20 0 g.gshape
def gE (g : Group) : Nat := fld 50 32 g.gshape
def gLo (g : Group) : Nat := fld 19 0 g.glocal
def gHi (g : Group) : Nat := fld 51 32 g.glocal
def gPos (g : Group) : Nat := fld 11 0 g.gchip
def gCount (g : Group) : Nat := fld 27 16 g.gchip

def gSetState (v : Nat) (g : Group) : Group := { g with gctl := setFld 33 32 v g.gctl }

/-- A group is bound to a context (R225). -/
def groupOf (s : State) (n ctx : Nat) : Bool := gBound (groupAt s n) && decide (gCtx (groupAt s n) = ctx)

/-- Values with which a group can be in service (R129). -/
def gSound (g : Group) : Bool :=
  gBound g && decide (gKind g ≤ 4) && decide (gScope g ≠ 3) &&
  (if gScope g = 0 then decide (gCount g = 0) else decide (gPos g ≤ gCount g)) &&
  decide (1 ≤ gN g) && decide (gN g ≤ 1048576) &&
  (decide (gKind g = 4) || decide (1 ≤ gE g)) && decide (gE g ≤ 262144) &&
  decide (gLo g ≤ gHi g) && decide (gHi g < gN g)

/-- Bits of each word of an entry that hold a field software writes (R128); an operation word without its reserved bits (R217). -/
def groupMask (w : Nat) : Nat :=
  [0x000000003FFF0FFF, 0x0007FFFF001FFFFF, 0x000FFFFF000FFFFF, 0x000000000FFF0FFF, 0x000FFFFFFFFFFF80, 0xFFFFFF1F00003FFF, 0, 0].getD w 0

/-- Bits that a write may not set: fields that only read, and STATE (R11). -/
def groupReserved (w : Nat) (v : W64) : Bool := decide (v.toNat &&& (2 ^ 64 - 1 - (groupMask w ||| (if w = 0 then 0x300000000 else 0))) ≠ 0)

/-! Which ranks bring data and which receive it (R131) -/

def bringsData (g : Group) (rank : Nat) : Bool := decide (gKind g ≤ 2) || (decide (gKind g = 3) && decide (rank = 0))
def getsResult (g : Group) (rank : Nat) : Bool :=
  if gKind g ≤ 2 then !(gRoot g) || decide (rank = 0) else decide (gKind g = 3) && decide (rank ≠ 0)

/-- FMT of the table under R131. -/
def gFmtOk (g : Group) : Bool :=
  match gKind g with
  | 0 => decide (gFmt g = 8) || decide (gFmt g = 9)
  | 1 => decide (gFmt g = 8) || decide (gFmt g = 7) || decide (gFmt g = 6) || decide (gFmt g = 9)
  | 2 => decide (gFmt g = 8) || decide (gFmt g = 7) || decide (gFmt g = 6) || decide (gFmt g = 9)
  | 3 => decide (gFmt g < 12)
  | _ => true

/-! The tree -/


/-- A node has leaves below N. -/
def nodeThere (n l m : Nat) : Bool := decide (m * 2 ^ l < n)

/-- The combination of two elements (R136). -/
def combineElem (g : Group) (a b : Nat) : Nat :=
  match gKind g with
  | 0 => if gFmt g = 9 then iadd a b else fadd 8 a b
  | 1 => if gFmt g = 9 then imax a b else fround (gFmt g) true (fval (gFmt g) (fmax (gFmt g) a b))
  | 2 => if gFmt g = 9 then imin a b else fround (gFmt g) true (fval (gFmt g) (fmin (gFmt g) a b))
  | _ => a

def combineLists (g : Group) : List Nat → List Nat → List Nat
  | a :: r, b :: t => combineElem g a b :: combineLists g r t
  | _, _ => []

/-- Two non-empty children; of a broadcast the value is rank 0's, and a barrier has no elements. -/
def combineNodes (g : Group) (left right : List Nat) : List Nat :=
  if gKind g ≤ 2 then combineLists g left right else left

/-- The value of a node that is known here. -/
def nodeValue (r : Round) (l m : Nat) : Option (List Nat) :=
  match (r.nodes.find? fun e => decide (e.1 = l) && decide (e.2.1 = m)) with
  | some e => some e.2.2
  | none => if l = 0 then (aget r.parts m) else none

/-- A node formed from its children, once they are known (R135). -/
def formNode (g : Group) (r : Round) (l m : Nat) : Option (List Nat) :=
  match l with
  | 0 => aget r.parts m
  | k + 1 =>
    if nodeThere (gN g) k (2 * m + 1) then
      match nodeValue r k (2 * m), nodeValue r k (2 * m + 1) with
      | some a, some b => some (combineNodes g a b)
      | _, _ => none
    else nodeValue r k (2 * m)

/-- The round's result, where it is known here. -/
def rootValue (g : Group) (r : Round) : Option (List Nat) := nodeValue r (treeLevels (gN g)) 0

def roundAt (g : Group) (k : Nat) : Option Round := g.rounds.find? fun r => decide (r.num = k)
def roundPut (g : Group) (r : Round) : Group :=
  if g.rounds.any fun x => decide (x.num = r.num) then { g with rounds := g.rounds.map fun x => if x.num = r.num then r else x }
  else { g with rounds := g.rounds ++ [r] }

def emptyRound (k : Nat) : Round := { num := k, parts := [], nodes := [], waiting := [], items := [] }

/-- Remove an operation from a core's scoreboard. -/
def dropOp (tc tag : Nat) (s : State) : State := tcMod s tc fun c => { c with sb := c.sb.filter fun o => decide (o.tag ≠ tag) }

/-- What has come back for one piece of a transfer (R345, R347, R348, R378). -/
def noteAnswer (tc tag : Nat) (a : Answer) (s : State) : State :=
  tcMod s tc fun c => { c with sb := c.sb.map fun o => if o.tag = tag then { o with got := o.got ++ [a] } else o }

/-- Where a group's chip list lies, and the error of reading it (R128, R258). -/
def listAt (g : Group) : Nat := g.gmap.toNat / 128 * 128 % 2 ^ 52
def listError (s : State) (g : Group) : Option (Nat × Nat) := rangeError s none false (listAt g) (2 * (gCount g + 1))

/-- The chip list of a group (R128); one that lies in no memory names no chip (DESIGN CHOICE, log 147). -/
def chipList (s : State) (g : Group) : List Nat :=
  if (listError s g).isSome then []
  else (upto 0 (gCount g + 1)).map fun i => leNat (memBytes s (listAt g + 2 * i) 2) % 4096

/-- The error of reading it is logged as its group starts. -/
def listLog (g : Group) (s : State) : State :=
  if gScope g = 0 then s else match listError s g with | some e => memErr e.1 e.2 (noUnit 14) s | none => s

/-- The switch port of a multicast for a group (R341, R359). -/
def multicastPort (s : State) (n : Nat) : Option Nat := let l := portsWith s fun p => decide (p.role = 2); l[n % l.length]?

/-- Send a Relay packet to a chip (R333, R341). -/
def sendRelay (type dest n round level : Nat) (data : List Byte) (s : State) : State :=
  sendOn (portFor s dest n) (pktHdr dest s.chips.chipId type data.length 0 n 0 0 (2 ^ 16 * (round % 2 ^ 32) + 2 ^ 48 * level)) data s

def abortHdr (s : State) (n chip round : Nat) : BitVec 256 := pktHdr chip s.chips.chipId 9 0 0 n 0 0 (5 + 2 ^ 16 * round)

/-- An abort is forwarded to every other E9 of the group (R140): a RELAY_DOWN without data whose STATUS is GROUP_ABORTED
(DESIGN CHOICE, log 117). -/
def spreadAbort (n : Nat) (g : Group) (s : State) : State :=
  if gScope g = 0 then s
  else ((chipList s g).filter fun c => decide (c ≠ s.chips.chipId)).foldl (fun t c =>
    sendOn (portFor t c n) (abortHdr t n c (g.ground % 2 ^ 32)) [] t) s

/-- Every incomplete round of the group ends here (R140). -/
def endRounds (n reason : Nat) (s : State) : State :=
  let g := groupAt s n
  let g' := { gSetState 2 g with rounds := [], gabort := if gState g = 2 then g.gabort else reason }
  let t := groupPut s n g'
  let t := (g.rounds.flatMap fun r => r.waiting).foldl (fun u w => dropOp w.1 w.2.1 u) t
  (g.rounds.flatMap fun r => r.items).foldl (fun u k => stopItem k 4 u) t

/-- An abort ends every incomplete round of the group at once, and spreads (R140). -/
def relayAbort (n reason : Nat) (s : State) : State :=
  let g := groupAt s n
  if g.rounds = [] then s else spreadAbort n g (endRounds n reason s)

/-- The abort that another E9 has forwarded: of a group in service that has not aborted. It goes on to the others. -/
def groupAborted (n : Nat) (s : State) : State :=
  let g := groupAt s n
  if !(gValid g) || decide (gState g = 2) then s else spreadAbort n g (endRounds n 5 s)

/-- Abort the groups whose incomplete rounds an item contributes to. -/
def abortOf (item reason : Nat) (s : State) : State :=
  s.groups.foldl (fun t e => if e.2.rounds.any fun r => r.items.contains item then relayAbort e.1 reason t else t) s

/-- An item is ended at its deadline, by a fault of translation or by teardown, and its open rounds abort (R140, R180, R181). -/
def endItem (n st reason : Nat) (s : State) : State := abortOf n reason (stopItem n st s)

/-! Writes of an entry (R128, R129, R140) -/

def groupWord (g : Group) (w : Nat) : W64 :=
  [g.gctl, g.gshape, g.glocal, g.gchip, g.gmap, g.gbaton, BitVec.ofNat 64 (g.ground % 2 ^ 32), BitVec.ofNat 64 g.gabort].getD w 0

def setGroupWord (g : Group) (w : Nat) (v : W64) : Group :=
  match w with
  | 0 => { g with gctl := v }
  | 1 => { g with gshape := v }
  | 2 => { g with glocal := v }
  | 3 => { g with gchip := v }
  | 4 => { g with gmap := v }
  | 5 => { g with gbaton := v }
  | _ => g

/-- A word of an entry as a write leaves it; `bind` tells whether the binding fields are written with it. -/
def groupAfter (g : Group) (w : Nat) (v : W64) (bind : Bool) : Group :=
  let m := if w = 0 ∧ bind = false then groupMask 0 - 0x3FFF0800 else groupMask w
  setGroupWord g w (maskWrite m (groupWord g w) v)

/-- Whether a binding field would change. -/
def bindChanges (g h : Group) : Bool := decide (gBound g ≠ gBound h) || decide (gCtx g ≠ gCtx h)

/-- An accepted item names the group, in DESC.RLY or in a DRLY (R226, R227). -/
def groupNamed (s : State) (n : Nat) : Bool :=
  (s.items.any fun e => (upto 0 (min 4 (fld 42 40 (descWord e.2 9)))).any fun j => decide (fld (10 * j + 9) (10 * j) (descWord e.2 9) = n)) ||
  s.tcs.any fun e => e.2.item.isSome && e.2.sb.any fun o => decide (o.eng = .drly) && decide (fld 9 0 o.ctl = n)

/-- Write word `w` of group `n` (R128, R129, R140, R228). -/
def groupWrite (n w : Nat) (v : W64) (bind : Bool) (s : State) : State :=
  let g := groupAt s n
  if 6 ≤ w then s
  else
    let h := groupAfter g w v bind
    if bind && decide (w = 0) && bindChanges g h && groupNamed s n then { s with bindErr := true }
    else if !(gValid g) && gValid h then
      if gSound h && !(groupReserved w v) then
        listLog h (groupPut s n { gSetState 0 h with ground := 0, gabort := 0, rounds := [], counts := [] })
      else groupPut s n (gSetState 3 { h with gctl := setFld 0 0 0 h.gctl })
    else if gValid g && (!(gSound h) || groupReserved w v) then s
    else
      let t := if gValid g then relayAbort n 4 s else s
      let h := groupAfter (groupAt t n) w v bind
      groupPut t n (if gValid h then h else { h with rounds := [] })

end Sys2Proof.Machine
end

