-- ==== Sys2Proof/Machine/Translate.lean ====
section
/-! DEFINITION. Address translation (R229 to R246): page-table walks of both stages, the cached copies at their levels (R233, R241), what a
page may resolve to (R232), and page requests. The page-table formats are those of Sv57, Sv57x4, Svnapot and Svpbmt that R231 names (PRESUMED). -/

namespace Sys2Proof.Machine

open Sys2Proof

/-! Contexts -/

def ctxEnabled (s : State) (c : Nat) : Bool := decide ((ctxAt s c).state = 1)

/-- MODE of a root (R229): 0 Bare. -/
def rootMode (w : W64) : Nat := fld 63 60 w
def vmidOf (s : State) (c : Nat) : Nat := if rootMode (ctxWord s c 2) = 0 then 0 else fld 57 44 (ctxWord s c 2)
def asidOf (s : State) (c : Nat) : Nat := if rootMode (ctxWord s c 1) = 0 then 0 else fld 59 44 (ctxWord s c 1)
def bare (s : State) (c : Nat) : Bool := decide (rootMode (ctxWord s c 1) = 0) && decide (rootMode (ctxWord s c 2) = 0)

/-- The STU as a requester, for an item or none (R518). -/
def stuReq (item : Option Nat) : Requester := ⟨6, 0, item⟩

/-! Walks. An access is a sum of 1 read, 2 write, 4 execute (R245) -/

inductive WalkRes where
  /-- The page containing the address: the leaf's first physical page, its size in 4 KiB pages, permissions, G, NC. -/
  | page (pa size perm : Nat) (glob nc : Bool)
  /-- Does not resolve: the failing stage, and whether it would with A and D set. -/
  | fails (stage : Nat) (adb : Bool)
  /-- An error response to a read of a page-table entry. -/
  | error (code pa : Nat)
deriving DecidableEq, Repr

/-- What a walk does on its way: reads of entries, A and D updates, and the non-leaf entries it passes. -/
inductive WalkNote where
  | read (pa : Nat)
  | set (pa : Nat) (old new : W64)
  | non (stage level pre base : Nat)
deriving DecidableEq, Repr

def pteV (p : W64) : Bool := bit 0 p
def pteR (p : W64) : Bool := bit 1 p
def pteW (p : W64) : Bool := bit 2 p
def pteX (p : W64) : Bool := bit 3 p
def pteU (p : W64) : Bool := bit 4 p
def pteG (p : W64) : Bool := bit 5 p
def pteA (p : W64) : Bool := bit 6 p
def pteD (p : W64) : Bool := bit 7 p
def ptePpn (p : W64) : Nat := fld 53 10 p
def ptePbmt (p : W64) : Nat := fld 62 61 p
def pteLeaf (p : W64) : Bool := pteR p || pteX p

/-- A valid entry without a reserved encoding, at any level. -/
def pteSound (p : W64) : Bool :=
  pteV p && !(pteW p && !(pteR p)) && decide (fld 60 54 p = 0) && decide (ptePbmt p ≠ 3) &&
  (pteLeaf p || (decide (fld 63 61 p = 0) && !(pteA p) && !(pteD p) && !(pteU p)))

/-- First page and size of a leaf at a level; none where it is misaligned or reserved. -/
def leafSpan (l : Nat) (p : W64) : Option (Nat × Nat) :=
  if bit 63 p then (if l = 0 ∧ ptePpn p % 16 = 8 then some (ptePpn p - 8, 16) else none)
  else if ptePpn p % 512 ^ l = 0 then some (ptePpn p, 512 ^ l) else none

def hasAcc (acc i : Nat) : Bool := acc.testBit i

/-- Permission of a leaf for an access (R231). -/
def leafAllows (acc : Nat) (p : W64) : Bool :=
  pteU p && (!(hasAcc acc 0) || pteR p) && (!(hasAcc acc 1) || (pteR p && pteW p)) && (!(hasAcc acc 2) || pteX p) && decide (ptePbmt p ≠ 2)

def adSet (acc : Nat) (p : W64) : Bool := pteA p && (!(hasAcc acc 1) || pteD p)
def withAd (acc : Nat) (p : W64) : W64 := p ||| (if hasAcc acc 1 then 0xC0 else 0x40)

/-- Accesses a leaf resolves for, with D needed to write. -/
def leafPerm (p : W64) : Nat := b2n (pteR p) + 2 * b2n (pteR p && pteW p && pteD p) + 4 * b2n (pteX p)

/-- Index of an address at a level; the guest root has 11 bits. -/
def vpnAt (guest : Bool) (l va : Nat) : Nat := bitsOf (if guest && decide (l = 4) then 58 else 20 + 9 * l) (12 + 9 * l) va

/-- A walk over the levels that are left. `fetch` reads an entry at an address, `mark` asks whether its address may be written. -/
def walkLevels (fetch : Nat → Except WalkRes (Nat × W64) × List WalkNote) (mark : Nat → Option WalkRes × List WalkNote)
    (guest adu : Bool) (va acc : Nat) : Nat → Nat → WalkRes × List WalkNote
  | 0, _ => (.fails (b2n guest) false, [])
  | l + 1, base =>
    let f := fetch (base + 8 * vpnAt guest l va)
    match f.1 with
    | .error r => (r, f.2)
    | .ok (pa, p) =>
      if !(pteSound p) then (.fails (b2n guest) false, f.2)
      else if !(pteLeaf p) then
        let r := walkLevels fetch mark guest adu va acc l (4096 * ptePpn p)
        (r.1, f.2 ++ .non (b2n guest) l (va / 2 ^ (12 + 9 * l)) (4096 * ptePpn p) :: r.2)
      else match leafSpan l p with
        | none => (.fails (b2n guest) false, f.2)
        | some (pg, n) =>
          if !(leafAllows acc p) then (.fails (b2n guest) false, f.2)
          else if adSet acc p then (.page pg n (leafPerm p) (pteG p) (decide (ptePbmt p = 1)), f.2)
          else if !adu then (.fails (b2n guest) true, f.2)
          else
            let m := mark (base + 8 * vpnAt guest l va)
            match m.1 with
            | some r => (r, f.2 ++ m.2)
            | none => (.page pg n (leafPerm (withAd acc p)) (pteG p) (decide (ptePbmt p = 1)), f.2 ++ m.2 ++ [.set pa p (withAd acc p)])

/-- The error that a Look of a line would end in (R303, R260): TIMEOUT where its transaction stays open. -/
def lookError (s : State) (ln : Nat) : Option Nat :=
  if lineShut s ln then some 6
  else match ownerLine s (entNow s ln) ln with
    | some x => errOf x.poison
    | none => match aget s.mem.llc ln with
      | some e => errOf e.poison
      | none => if s.mem.poison.contains ln then some 3 else if flawAt s ln = some true then some 2 else none

/-- Read an entry at its physical address (R237, R260). -/
def readPte (s : State) (part pa : Nat) : Except WalkRes W64 × List WalkNote :=
  match accessError s (some part) false pa with
  | some c => (.error (.error c pa), [])
  | none => match localAddr s pa with
    | none => (.error (.error 1 pa), [])
    | some a => match lookError s (lineOf a) with
      | some c => (.error (.error c pa), [.read a])
      | none => (.ok (BitVec.ofNat 64 (leNat (memBytes s a 8))), [.read a])

/-- Where a walk of an address begins: at the deepest non-leaf entry the walk cache holds for it, else at the root (R233, R239). -/
def walkStart (s : State) (vmid asid stage va root : Nat) : Nat × Nat :=
  ((upto 1 4).findSome? fun l => (s.stu.walks.find? fun e => decide (e.vmid = vmid) && decide (e.asid = asid) && decide (e.stage = stage) &&
    decide (e.level = l) && decide (e.pre = va / 2 ^ (12 + 9 * l))).map fun e => (l, e.base)).getD (5, root)

/-- The guest stage (Sv57x4). -/
def guestWalk (s : State) (ctx : Nat) (adu : Bool) (gpa acc : Nat) : WalkRes × List WalkNote :=
  if 2 ^ 59 ≤ gpa then (.fails 1 false, [])
  else
    let b := walkStart s (vmidOf s ctx) 0 1 gpa (4096 * (fld 43 0 (ctxWord s ctx 2) / 4 * 4))
    walkLevels (fun a => match readPte s (ctxPart s ctx) a with | (.error r, n) => (.error r, n) | (.ok p, n) => (.ok (a, p), n))
      (fun _ => (none, [])) true adu gpa acc b.1 b.2

/-- Physical address of a guest-physical byte. -/
def guestByte (s : State) (ctx : Nat) (adu : Bool) (gpa acc : Nat) : Except WalkRes Nat × List WalkNote :=
  if rootMode (ctxWord s ctx 2) = 0 then (.ok gpa, [])
  else match guestWalk s ctx adu gpa acc with
    | (.page pg n _ _ _, ns) => (.ok (4096 * (pg + gpa / 4096 % n) + gpa % 4096), ns)
    | (r, ns) => (.error r, ns)

/-- A whole walk for the 4 KiB page `vpn` of a context (R231). -/
def walk (s : State) (ctx vpn acc : Nat) : WalkRes × List WalkNote :=
  let va := 4096 * vpn
  let adu := bit 0 s.stu.cfg
  let two := decide (rootMode (ctxWord s ctx 2) ≠ 0)
  if bare s ctx then (.page vpn 1 7 false false, [])
  else if rootMode (ctxWord s ctx 1) = 0 then guestWalk s ctx adu va acc
  else if sext57 va ≠ va then (.fails 0 false, [])
  else
    let b := walkStart s (vmidOf s ctx) (asidOf s ctx) 0 va (4096 * fld 43 0 (ctxWord s ctx 1))
    let r := walkLevels
      (fun g => match guestByte s ctx adu g 1 with
        | (.error r, n) => (.error r, n)
        | (.ok a, n) => match readPte s (ctxPart s ctx) a with
          | (.error r, k) => (.error r, n ++ k)
          | (.ok p, k) => (.ok (a, p), n ++ k))
      (fun g => match guestByte s ctx adu g 2 with
        | (.error r, n) => (some r, n)
        | (.ok _, n) => (none, n))
      false adu va acc b.1 b.2
    if !two then r
    else match r with
      | (.page pg n pm gl nc, ns) =>
        (match guestWalk s ctx adu (4096 * (pg + vpn % n)) acc with
         | (.page pg2 n2 pm2 _ nc2, ms) =>
           let size := min n n2
           (.page (pg2 + (pg + vpn % n) % n2 - vpn % size) size (pm &&& pm2) gl (nc || nc2), ns ++ ms)
         | (x, ms) => (x, ns ++ ms))
      | x => x

/-! Copies (R233) -/

def tlbCovers (e : Tlb) (vmid asid vpn acc : Nat) : Bool :=
  decide (e.vmid = vmid) && (e.glob || decide (e.asid = asid)) && decide (e.vpn ≤ vpn) && decide (vpn < e.vpn + e.size) &&
  decide (e.perm &&& acc = acc)

def tlbFind (l : List Tlb) (vmid asid vpn acc : Nat) : Option Tlb := l.find? fun e => tlbCovers e vmid asid vpn acc

/-- Keep at most `n` of the elements of one set. -/
def trimSet {α : Type} (same : α → Bool) : Nat → List α → List α
  | _, [] => []
  | n, x :: r => if same x then (if n = 0 then trimSet same 0 r else x :: trimSet same (n - 1) r) else x :: trimSet same n r

/-- Enter an element newest first in a cache of sets; the one of its set filled longest ago leaves (DESIGN CHOICE, log 114). -/
def setPut {α : Type} [DecidableEq α] (ways : Nat) (idx : α → Nat) (e : α) (l : List α) : List α :=
  trimSet (fun x => decide (idx x = idx e)) ways (e :: l.filter fun x => decide (x ≠ e))

/-- Sets and ways of the levels of R233; a page's set is its number in pages of its size (DESIGN CHOICE, log 114). -/
def tlbSet (sets : Nat) (e : Tlb) : Nat := e.vpn / (if e.size = 0 then 1 else e.size) % sets
def masterPut (e : Tlb) (l : List Tlb) : List Tlb := setPut 16 (tlbSet 8192) e l
def clusterPut (e : Tlb) (l : List Tlb) : List Tlb := setPut 8 (tlbSet 512) e l
def microPut (e : Tlb) (l : List Tlb) : List Tlb := setPut 64 (tlbSet 1) e l
def walkPut (e : NonLeaf) (l : List NonLeaf) : List NonLeaf := setPut 16 (fun x => x.pre % 512) e l

def tlbPage (e : Tlb) (vpn : Nat) : Nat := e.pa + (vpn - e.vpn)

def microKey (tc : Nat) (fetch : Bool) : Nat := 2 * tc + b2n fetch
def microAt (s : State) (k : Nat) : List Tlb := tget [] s.stu.micro k
def clusterAt (s : State) (cl : Nat) : List Tlb := tget [] s.stu.cluster cl
def stuMod (s : State) (f : Stu → Stu) : State := { s with stu := f s.stu }

/-- The copy a walk's result makes. -/
def entryOf (s : State) (ctx vpn : Nat) : WalkRes → Option Tlb
  | .page pg n pm gl nc => some ⟨vmidOf s ctx, asidOf s ctx, vpn / n * n, n, pg, gl, pm, nc⟩
  | _ => none

/-- Which memory a resolved page may lie in (R232, R277). -/
def pageAllowed (s : State) (part pg : Nat) : Bool :=
  match target s (4096 * pg) with
  | .hbm n => reaches s (some part) n
  | .board _ _ => reaches s (some part) 6
  | .host _ => s.boot.modeSel && reaches s (some part) 7
  | _ => false

/-! Resolving a page of an item -/

inductive PageRes where
  | ok (pg : Nat) (nc : Bool)
  | missing (stage : Nat) (adb : Bool)
  | denied                          -- outside reach, or an error response to the walk (R232, R260)
deriving DecidableEq, Repr

/-- One thing a walk did: a Look, or a CasHome of the entry as it was walked (R242, R303). -/
def walkNote (ctx : Nat) (n : WalkNote) (s : State) : State :=
  let part := some (ctxPart s ctx)
  match n with
  | .read a => (lookLine (stuReq none) part (lineOf a) s).2.2
  | .set pa old new => match localAddr s pa with
    | none => s
    | some a => (atHome (stuReq none) false (lineOf a) 0 (casNow part (lineOf a) (a % 128 / 8) old new) s).2.2
  | .non _ _ _ _ => s

/-- The non-leaf entries that a walk which resolved passed (R233, R235). -/
def keepWalk (ctx : Nat) (ns : List WalkNote) (s : State) : State :=
  ns.foldl (fun t n => match n with
    | .non st l p b => stuMod t fun x => { x with walks := walkPut ⟨vmidOf t ctx, if st = 0 then asidOf t ctx else 0, st, l, p, b⟩ x.walks }
    | _ => t) s

/-- What one walk sets in an entry it meets again and again is one update of what it read first (R242). -/
def oneSet : List WalkNote → List WalkNote
  | [] => []
  | .set pa old new :: r =>
    let same := fun n => match n with | .set q _ _ => decide (q = pa) | _ => false
    .set pa old ((r.filter same).foldl (fun v n => match n with | .set _ _ w => v ||| w | _ => v) new) :: (oneSet r).filter fun n => !(same n)
  | n :: r => n :: oneSet r

/-- What a walk did to memory, in order. -/
def walkNotes (ctx : Nat) (l : List WalkNote) (s : State) : State := (oneSet l).foldl (fun u n => walkNote ctx n u) s

/-- Lines that a walk reads and whose transaction is open. -/
def walkShut (s : State) (l : List WalkNote) : Option Nat :=
  l.findSome? fun n => match n with | .read a => if lineShut s (lineOf a) then some (lineOf a) else none | _ => none

/-- What is open at the lines of a walk comes to its end before the walk reads them (R237, log 148). -/
def walkReady (ctx vpn acc : Nat) : Nat → State → State
  | 0, s => s
  | f + 1, s => match walkShut s (walk s ctx vpn acc).2 with
    | some ln => walkReady ctx vpn acc f (settled (stuReq none) true ln s)
    | none => s

/-- A line that a walk for a page would read, and that its Look would wait for (R279, R316). -/
def walkWaits (s : State) (ctx vpn acc : Nat) : Option Nat :=
  if bare s ctx || (tlbFind s.stu.master (vmidOf s ctx) (asidOf s ctx) vpn acc).isSome then none
  else (walk s ctx vpn acc).2.findSome? fun n => match n with
    | .read a => if reqWaits s (stuReq none) (some (ctxPart s ctx)) true (lineOf a) then some (lineOf a) else none
    | _ => none

/-- Walks for pages are made once none of their Looks waits. -/
def whenWalks (ctx : Nat) (pages : List (Nat × Nat)) (t s : State) : State :=
  match pages.findSome? fun p => walkWaits s ctx p.1 (p.2 % 8) with
  | some ln => nackedLine (stuReq none) (some (ctxPart s ctx)) true ln s
  | none => t

/-- A walk for an item: counted, its A and D updates made (R242), its result kept in the master cache (R235, R238). -/
def walkPage (ctx : Nat) (item : Option Nat) (vpn acc : Nat) (s0 : State) : PageRes × State :=
  let s := walkReady ctx vpn acc 64 s0
  let r := walk s ctx vpn acc
  let t := if bare s ctx then s else bumpObj 0x3300 1 64 1 s
  match r.1 with
  | .error c pa => (.denied, memErr c pa (stuReq item) (walkNotes ctx r.2 t))
  | .fails st adb => (.missing st adb, walkNotes ctx r.2 t)
  | .page pg n _ _ nc =>
    let p := pg + vpn % n
    if !(pageAllowed t (ctxPart s ctx) p) then (.denied, walkNotes ctx r.2 t)
    else
      let u := keepWalk ctx r.2 (walkNotes ctx r.2 t)
      (.ok p nc, if bare s ctx then u else match entryOf s ctx vpn r.1 with
        | some e => stuMod u fun x => { x with master := masterPut e x.master }
        | none => u)

/-- A page at enqueue: the master cache, and else a walk (R238). -/
def resolvePage (ctx : Nat) (item : Option Nat) (vpn acc : Nat) (s : State) : PageRes × State :=
  match tlbFind s.stu.master (vmidOf s ctx) (asidOf s ctx) vpn acc with
  | some e => if bare s ctx then walkPage ctx item vpn acc s
    else if pageAllowed s (ctxPart s ctx) (tlbPage e vpn) then (.ok (tlbPage e vpn) e.nc, s) else (.denied, s)
  | none => walkPage ctx item vpn acc s

/-- The physical page behind a page of a context, where it resolves. -/
def pagePhys (ctx : Nat) (item : Option Nat) (vpn acc : Nat) (s : State) : Option (Nat × Bool) × State :=
  match resolvePage ctx item vpn acc s with
  | (.ok pg nc, t) => (some (pg, nc), t)
  | (_, t) => (none, t)

/-- An entry is installed at every level it passes (R241). -/
def installTlb (tc : Nat) (fetch deep : Bool) (e : Tlb) (s : State) : State :=
  stuMod s fun x => { x with
    cluster := if deep then tset [] x.cluster (tc / 8) (clusterPut e (tget [] x.cluster (tc / 8))) else x.cluster
    micro := tset [] x.micro (microKey tc fetch) (microPut e (tget [] x.micro (microKey tc fetch))) }

/-- Where an engine finds a page: its micro-TLB, the cluster's, the master's, a walk; each fill installs the entry on its way (R241). -/
def engPage (tc : Nat) (fetch : Bool) (ctx : Nat) (item : Option Nat) (vpn acc : Nat) (s : State) : Option (Nat × Bool) × State :=
  let find := fun l => tlbFind l (vmidOf s ctx) (asidOf s ctx) vpn acc
  if bare s ctx then pagePhys ctx item vpn acc s
  else match find (microAt s (microKey tc fetch)) with
    | some e => (some (tlbPage e vpn, e.nc), s)
    | none => match find (clusterAt s (tc / 8)) with
      | some e => (some (tlbPage e vpn, e.nc), installTlb tc fetch false e s)
      | none => match pagePhys ctx item vpn acc s with
        | (none, t) => (none, t)
        | (some p, t) => (some p, match tlbFind t.stu.master (vmidOf s ctx) (asidOf s ctx) vpn acc with
          | some e => installTlb tc fetch true e t
          | none => t)

/-- Pages of an engine in order, each with its physical page; none once one does not resolve. -/
def engPages (tc : Nat) (fetch : Bool) (ctx : Nat) (item : Option Nat) (acc : Nat) :
    List Nat → State → Option (List (Nat × Nat × Bool)) × State
  | [], s => (some [], s)
  | v :: r, s =>
    match engPage tc fetch ctx item v acc s with
    | (none, t) => (none, t)
    | (some p, t) => let y := engPages tc fetch ctx item acc r t
      (y.1.map fun l => (v, p) :: l, y.2)

/-- Runs of a virtual range within 4 KiB pages. -/
def pageSpans (va n : Nat) : List (Nat × Nat) :=
  if n = 0 then [] else
  (upto (va / 4096) ((va + n - 1) / 4096 - va / 4096 + 1)).map fun p =>
    (max va (4096 * p), min (va + n) (4096 * (p + 1)) - max va (4096 * p))

/-! Page requests (R245, R246) -/

def prqSize (w : W64) : Nat := 2 ^ max 4 (min 16 (fld 4 0 w))
def prqFull (s : State) : Bool := decide (prqSize s.stu.prqBase ≤ (s.stu.prqTail - s.stu.prqHead).toNat)

/-- The 32-byte record at the ring's next index. -/
def prqRecord (s : State) (r : PReq) : List Byte :=
  let k := Nat.log2 (prqSize s.stu.prqBase)
  leBytes 8 (4096 * (r.vpn % 2 ^ 45) + r.acc + 8 * r.stage + 16 * b2n r.run + 32 * b2n r.adb) ++
  leBytes 8 (r.ctx + 2 ^ 48 * (s.stu.prqTail.toNat / 2 ^ k % 65536)) ++ leBytes 8 r.tag ++ leBytes 8 r.item

def setReq (tag : Nat) (f : PReq → PReq) (s : State) : State :=
  stuMod s fun x => { x with reqs := x.reqs.map fun r => if r.tag = tag then f r else r }

/-- Write one record, unless records are held. -/
def postReq (r : PReq) (s : State) : State :=
  if !(bit 1 s.stu.cfg) || s.stu.werr || prqFull s then s
  else
    let at_ := (s.stu.prqBase.toNat / 4096 * 4096) % 2 ^ 52 + 32 * (s.stu.prqTail.toNat % prqSize s.stu.prqBase)
    let w := memWrite (stuReq none) none at_ (prqRecord s r) s
    match w.1 with
    | some _ => scRaise s.stu.prqSrc 0 (stuMod w.2 fun x => { x with werr := true })
    | none =>
      scRaise s.stu.prqSrc 0 (bumpObj 0x3300 2 64 1 (setReq r.tag (fun q => { q with written := true })
        (stuMod w.2 fun x => { x with prqTail := x.prqTail + 1, posted := x.posted ++ [r.tag] })))

/-- Write the held records in order while nothing holds them. -/
def flushReqs (s : State) : State :=
  let l := s.stu.reqs.filter fun r => !r.written
  if l = [] then s else l.foldl (fun t r => postReq r t) (stuMod s fun x => { x with posted := [] })

/-- A request for a context's page: one outstanding per page (R246). -/
def requestPage (ctx vpn acc stage : Nat) (run adb : Bool) (item : Nat) (s : State) : State :=
  if s.stu.reqs.any fun r => decide (r.ctx = ctx) && decide (r.vpn = vpn) then s
  else flushReqs (stuMod s fun x => { x with
    reqs := x.reqs ++ [⟨x.nextTag, ctx, vpn, acc, stage, run, adb, item, false⟩]
    nextTag := (x.nextTag + 1) % 2 ^ 32 })

/-- Pages that a tensor core's held operations wait on (R244). -/
def heldPages (c : TCore) : List Nat := c.heldOps.map fun h => h.2.toNat / 4096

/-- Whether some item still waits on a request. -/
def reqWanted (s : State) (r : PReq) : Bool :=
  s.items.any fun e => decide (e.2.ctx = r.ctx) &&
    ((decide (e.2.phase = .parked) && e.2.pages.any fun p => decide (p.1 = r.vpn)) ||
     (decide (e.2.phase = .running) && e.2.tcs.any fun n => (heldPages (tcAt s n)).contains r.vpn))

/-- Requests no item waits on are retired (R246). -/
def retireReqs (s : State) : State := stuMod s fun x => { x with reqs := x.reqs.filter fun r => reqWanted s r }

end Sys2Proof.Machine
end

