-- ==== Sys2Proof/Machine/Dma.lean ====
section
/-! DEFINITION. The tile DMA and DRLY (R88 to R95, R130, R131, R516): issue checks, what a transfer moves, what it asks of other chips
(R345, R347), and what it fetches ahead (R243, R288). -/

namespace Sys2Proof.Machine

open Sys2Proof

/-! Issue -/

def dmaReads (e : EngOp) : Bool := decide (e = .dld) || decide (e = .dvin)
def isVideo (e : EngOp) : Bool := decide (e = .dvin) || decide (e = .dvout)
def is422 (v : Nat) : Bool := decide (v = 1) || decide (v = 2)

/-- The region registers a transfer names (R66). -/
def dmaRegs (e : EngOp) (q : Nat) : List Nat := if isVideo e then (upto q 3).filter fun k => decide (k < 16) else [q]

/-- Coordinates the slot's layout permits (R89, R93, R204). -/
def placeOk (e : EngOp) (o : OpSlot) (g : Origin) (cols : Nat) : Bool :=
  decide (o.layout = if isVideo e then 1 else 0) &&
  (decide (e = .dpf) || o.access.testBit (if dmaReads e then 0 else 1)) &&
  !(decide (fmtBits o.fmt = 4) && decide (g.d0 % 2 ≠ 0)) &&
  decide (g.d2 < o.ext2) && decide (g.d3 < o.ext3) &&
  !(isVideo e && is422 o.vfmt && (decide (g.d0 % 2 ≠ 0) || decide (cols % 2 ≠ 0)))

/-- The whole block lies inside the extents of dimensions 0 and 1. -/
def blockInside (o : OpSlot) (g : Origin) (r : Region) : Bool :=
  decide (0 ≤ g.d0) && decide (g.d0 + r.cols ≤ o.ext0) && decide (0 ≤ g.d1) && decide (g.d1 + r.rows ≤ o.ext1)

/-- Planes of a video transfer agree with the first (R93, R94). -/
def planesOk (o : OpSlot) (rs : List Region) : Bool :=
  match rs with
  | y :: cs => cs.all fun c => decide (c.rows = y.rows) && decide (c.cols = if is422 o.vfmt then y.cols / 2 else y.cols)
  | [] => true

def planeFmtOk (e : EngOp) (o : OpSlot) (rs : List Region) : Bool :=
  rs.all (fun r => decide (r.fmt = o.fmt) && (decide (r.fmt = 7) || decide (r.fmt = 8))) &&
  !(decide (e = .dvout) && decide (o.vfmt = 5) && rs.any fun r => decide (r.fmt ≠ 7))

/-- The slot a transfer names; where it is not declared the checks that need it are not made. -/
def noSlot : OpSlot := ⟨0, 1, 1, 1, 1, 0, 0, 0, 0⟩

def dmaCauses (e : EngOp) (m : Nat) (it : Item) (slot : Nat) (c0 c1 : W64) (q : Nat) (c : TCore) : List (Nat × Bool) :=
  let ws := (dmaRegs e q).map (qReg c)
  let rs := ws.map regionOf
  let o := (itemSlot it slot).getD noSlot
  let there := (itemSlot it slot).isSome
  let r := rs.headD (regionOf 0)
  let g := originOf c0 c1
  [(1, if dmaReads e then decide (m = 3) else decide (m ≠ 0))] ++ rs.flatMap useCauses ++
  [(6, there && !(decide (e = .dpf)) && !(if isVideo e then planeFmtOk e o rs else decide (r.fmt = o.fmt))),
   (7, there && isVideo e && !(planesOk o rs) && rs.all fun x => !(fmtReserved x.fmt)),
   (8, !there || !(placeOk e o g r.cols)),
   (0xA, rs.any fun x => x.masken && !(fmtReserved x.fmt)),
   (0xD, isVideo e && decide (13 < q)),
   (0xE, there && dmaReads e && decide (m = 2) && !(blockInside o g r))]

/-- A DMA transfer (R66): slot in the qa field of DLD and DVIN, in the qd field of the others. -/
def issueDma (e : EngOp) (tc m xs qb qa qd : Nat) (it : Item) (s : State) : PacerRes :=
  let c := tcAt s tc
  let slot := if dmaReads e then qa else qd
  let q := if dmaReads e then qd else qa
  let c0 := xReg c xs
  let c1 := if xs = 0 then 0 else xReg c (xs + 1)
  let ws := (dmaRegs e q).map (qReg c)
  checked ([(1, decide (qb ≠ 0) || decide (xs % 2 ≠ 0))] ++ dmaCauses e m it slot c0 c1 q c)
    (issue tc { plainOp e m c0 with
      ctl2 := c1, slot := slot
      qa := ws.getD 0 0, q1 := ws.getD 1 0, q2 := ws.getD 2 0
      reads := if e = .dst ∨ e = .dvout then ws.map granules else []
      writes := if dmaReads e then ws.map granules else [] } s)

def dmaRun (e : EngOp) (tc : Nat) (self : Instr) (m : BitVec 2) (xs : BitVec 5) (qb qa qd : BitVec 4) (s : State) :
    Host.Outcome State Fault Refusal :=
  onUnit (okTc tc) (pacerRun tc self 4 (issueDma e tc m.toNat xs.toNat qb.toNat qa.toNat qd.toNat) s)

def execDld (tc : Nat) (m : BitVec 2) (xs : BitVec 5) (qb qa qd : BitVec 4) (s : State) : Host.Outcome State Fault Refusal :=
  dmaRun .dld tc (.dld tc m xs qb qa qd) m xs qb qa qd s

def execDst (tc : Nat) (m : BitVec 2) (xs : BitVec 5) (qb qa qd : BitVec 4) (s : State) : Host.Outcome State Fault Refusal :=
  dmaRun .dst tc (.dst tc m xs qb qa qd) m xs qb qa qd s

def execDvin (tc : Nat) (m : BitVec 2) (xs : BitVec 5) (qb qa qd : BitVec 4) (s : State) : Host.Outcome State Fault Refusal :=
  dmaRun .dvin tc (.dvin tc m xs qb qa qd) m xs qb qa qd s

def execDvout (tc : Nat) (m : BitVec 2) (xs : BitVec 5) (qb qa qd : BitVec 4) (s : State) : Host.Outcome State Fault Refusal :=
  dmaRun .dvout tc (.dvout tc m xs qb qa qd) m xs qb qa qd s

def execDpf (tc : Nat) (m : BitVec 2) (xs : BitVec 5) (qb qa qd : BitVec 4) (s : State) : Host.Outcome State Fault Refusal :=
  dmaRun .dpf tc (.dpf tc m xs qb qa qd) m xs qb qa qd s

/-! DRLY -/

/-- A DRLY contributes to the round that its rank's count names (R132); while the group stands aborted it completes at once (R140). -/
def enterDrly (tc g rank item : Nat) (o : Op) (s : State) : State :=
  let t := enter tc o s
  let tag := (tcAt t tc).tag
  let x := groupAt t g
  if gState x = 2 then dropOp tc tag t
  else
    let k := tget 0 x.counts rank
    let r := (roundAt x k).getD (emptyRound k)
    let r := { r with waiting := r.waiting ++ [(tc, tag, rank)], items := r.items ++ [item] }
    let y := gSetState 1 (roundPut { x with counts := tset 0 x.counts rank (k + 1) } r)
    tcMod (groupPut t g y) tc fun c => { c with sb := c.sb.map fun p => if p.tag = tag then { p with round := k } else p }

/-- DRLY (R95, R130, R131). -/
def issueDrly (tc m xs qb qa qd : Nat) (it : Item) (s : State) : PacerRes :=
  let c := tcAt s tc
  let h := xReg c xs
  let g := fld 9 0 h
  let rank := fld 35 16 h
  let x := groupAt s g
  let reads := bringsData x rank
  let writes := getsResult x rank
  let used := (if reads then [regionOf (qReg c qa)] else []) ++ (if writes then [regionOf (qReg c qd)] else [])
  let inside := decide (gLo x ≤ rank) && decide (rank ≤ gHi x)
  checked ([(1, decide (m ≠ 0) || decide (qb ≠ 0) || (!reads && decide (qa ≠ 0)) || (decide (gKind x = 4) && decide (qd ≠ 0)))] ++
      used.flatMap useCauses ++
      [(6, !(gFmtOk x) || used.any fun r => decide (r.fmt ≠ gFmt x)),
       (7, used.any fun r => !(fmtReserved r.fmt) && decide (r.rows * r.cols ≠ gE x)),
       (0xA, used.any fun r => r.masken && !(fmtReserved r.fmt)),
       (0xD, decide (fld 15 10 h ≠ 0) || decide (fld 63 36 h ≠ 0) || !(gValid x) || !(groupOf s g it.ctx) || !inside)])
    (if roomFor c .drly then
      .next (enterDrly tc g rank (c.item.getD 0)
        { plainOp .drly 0 h with
          qa := qReg c qa, qd := qReg c qd
          reads := if reads then [granules (qReg c qa)] else []
          writes := if writes then [granules (qReg c qd)] else [] } s)
     else .stall)

def execDrly (tc : Nat) (m : BitVec 2) (xs : BitVec 5) (qb qa qd : BitVec 4) (s : State) : Host.Outcome State Fault Refusal :=
  onUnit (okTc tc) (pacerRun tc (.drly tc m xs qb qa qd) 4 (issueDrly tc m.toNat xs.toNat qb.toNat qa.toNat qd.toNat) s)

/-! Bytes at virtual addresses -/

/-- 4 KiB pages that virtual ranges touch, in order and once each. -/
def pagesOf (ranges : List (Nat × Nat)) : List Nat :=
  nubNat (ranges.flatMap fun r => (pageSpans r.1 r.2).map fun p => p.1 / 4096)

/-- A piece of a range within one line: physical address, bytes, whether its page is NC. -/
abbrev Piece := Nat × Nat × Bool

/-- Pieces of a virtual range, from the pages an engine has resolved. -/
def vaPieces (pages : List (Nat × Nat × Bool)) (va n : Nat) : List Piece :=
  (pageSpans va n).flatMap fun p =>
    match aget pages (p.1 / 4096) with
    | some e => (lineSpans (4096 * e.1 + p.1 % 4096) p.2).map fun l => (l.1, l.2, e.2)
    | none => []

/-- A transfer under way, as its pieces need it: who asks, for which partition, with which hint, and what other chips have answered. -/
structure Xfer where
  tc    : Nat
  who   : Requester
  part  : Nat
  hint  : Nat × Nat
  pages : List (Nat × Nat × Bool)
  got   : List Answer

def answerAt (x : Xfer) (pa : Nat) : Option Answer := x.got.find? fun a => decide (a.pa = pa)

/-- Bytes of a piece. An NC page is read at the HBM controller, without a snoop (R283); another chip's bytes have come as its answer (R345). -/
def readPiece (x : Xfer) (p : Piece) (s : State) : Option Nat × List Byte × State :=
  match answerAt x p.1 with
  | some a => (if a.code = 0 then none else some a.code, a.data, s)
  | none => match accessError s (some x.part) false p.1 with
    | some c => (some c, [], s)
    | none => match localAddr s p.1 with
      | some a => localRead x.who (some x.part) 0 p.2.2 p.1 a p.2.1 s
      | none => let r := freeBytes p.2.1 s; (none, r.1, r.2)

/-- Read pieces; a piece that receives an error response is logged and its bytes are free values. -/
def readPieces (x : Xfer) : List Piece → State → List Byte × Bool × State
  | [], s => ([], false, s)
  | p :: r, s =>
    let y := readPiece x p s
    match y.1 with
    | some c =>
      let f := freeBytes p.2.1 (memErr c p.1 x.who y.2.2)
      let z := readPieces x r f.2
      (f.1 ++ z.1, true, z.2.2)
    | none =>
      let z := readPieces x r y.2.2
      (y.2.1 ++ z.1, z.2.1, z.2.2)

/-- What a run writes: its bits from the first byte on, and the bits among them that are written. -/
abbrev Bits := Nat × Nat

/-- Byte `i` on of a run's bits. -/
def bitsFrom (b : Bits) (i n : Nat) : Bits := (b.1 / 2 ^ (8 * i) % 2 ^ (8 * n), b.2 / 2 ^ (8 * i) % 2 ^ (8 * n))

/-- The bits of byte `i` that are written. -/
def byteMask (b : Bits) (i : Nat) : Nat := b.2 / 2 ^ (8 * i) % 256

/-- A run ends in the low half of byte `i`, which a window packet marks (R333). -/
def endsHalf (b : Bits) (i : Nat) : Bool := decide (byteMask b i = 0x0F) && decide (byteMask b (i + 1) = 0)

/-- The bytes of a piece from `i` on that something is written of; what is not written of such a byte is as `old` has it. -/
def bytesOut (b : Bits) (old : List Byte) (i n : Nat) : List (Option Byte) :=
  (upto i n).map fun k =>
    let m := byteMask b k
    if m = 0 then none else some (BitVec.ofNat 8 ((bitsFrom b k 1).1 &&& m ||| (old.getD k 0).toNat &&& (255 - m)))

/-- The runs of bytes among them, each with its place. -/
def byteRuns : Nat → List (Option Byte) → List (Nat × List Byte)
  | _, [] => []
  | i, none :: r => byteRuns (i + 1) r
  | i, some v :: r => match byteRuns (i + 1) r with
    | (k, l) :: t => if k = i + 1 then (i, v :: l) :: t else (i, [v]) :: (k, l) :: t
    | [] => [(i, [v])]

/-- The error that a piece's packets were answered with. -/
def answerError (x : Xfer) (p : Piece) : Option Nat :=
  (x.got.find? fun a => decide (a.code ≠ 0) && decide (p.1 ≤ a.pa) && decide (a.pa < p.1 + p.2.1)).map fun a => a.code

/-- What a piece held before, where the transfer has read it. -/
def readFirst (x : Xfer) (p : Piece) : List Byte := match answerAt x p.1 with | some a => a.data | none => []

/-- A piece written: at the home under a mask (R90, R309), on an NC page at the controller, to the host in posted writes of its runs; another
chip has been sent it. -/
def writePiece (x : Xfer) (p : Piece) (b : Bits) (s : State) : Option Nat × State :=
  match answerError x p with
  | some c => (some c, s)
  | none => match accessError s (some x.part) true p.1 with
    | some c => (some c, s)
    | none => match localAddr s p.1 with
      | some a =>
        let mask : LineData := BitVec.ofNat 1024 (b.2 * 2 ^ (8 * (a % 128)))
        let d : LineData := BitVec.ofNat 1024 (b.1 * 2 ^ (8 * (a % 128)))
        localWrite x.who (some x.part) x.hint p.2.2 p.1 a mask d s
      | none => match target s p.1 with
        | .host k => (none, (byteRuns 0 (bytesOut b (readFirst x p) 0 p.2.1)).foldl (fun t r => postHost x.who k (p.1 + r.1) r.2 t) s)
        | _ => (none, s)

/-- Write pieces with their bits; a piece that receives an error response is logged and not written. -/
def writePieces (x : Xfer) : List Piece → Nat → Bits → State → Bool × State
  | [], _, _, s => (false, s)
  | p :: r, i, b, s =>
    let y := if (bitsFrom b i p.2.1).2 = 0 then (none, s) else writePiece x p (bitsFrom b i p.2.1) s
    match y.1 with
    | some c => (true, (writePieces x r (i + p.2.1) b (memErr c p.1 x.who y.2)).2)
    | none => writePieces x r (i + p.2.1) b y.2

/-! Tensor slots -/

/-- The run of columns [a, b) of a slot's row: virtual address and bytes (R90). -/
def rowRun (o : OpSlot) (row : Nat) (g : Origin) (a b : Nat) : Nat × Nat :=
  let w := fmtBits o.fmt
  ((slotRow o row g.d2 g.d3 + a * w / 8) % 2 ^ 64, (b * w + 7) / 8 - a * w / 8)

/-- Column `j` of a run that begins at column `a`, from its bytes. -/
def runElem (o : OpSlot) (a j : Nat) (l : List Byte) : Nat :=
  let w := fmtBits o.fmt
  let at_ := j * w - a * w / 8 * 8
  (leNat ((l.drop (at_ / 8)).take ((w + 7) / 8)) >>> (at_ % 8)) % 2 ^ w

/-- Columns of a row that the transfer covers inside the extent. -/
def colLo (o : OpSlot) (m : Nat) (g : Origin) : Nat := if m = 1 then clampExt g.d0 o.ext0 else (max g.d0 0).toNat
def colHi (o : OpSlot) (m : Nat) (g : Origin) (cols : Nat) : Nat :=
  if m = 1 then clampExt (g.d0 + cols - 1) o.ext0 + 1 else min (g.d0 + cols).toNat o.ext0

/-- The slot's row behind row `i` of the block, if any (R90). -/
def srcRow (o : OpSlot) (m : Nat) (g : Origin) (i : Nat) : Option Nat :=
  if m = 1 then some (clampExt (g.d1 + i) o.ext1) else if inExt (g.d1 + i) o.ext1 then some (g.d1 + i).toNat else none

def blockRuns (o : OpSlot) (m : Nat) (g : Origin) (r : Region) : List (Nat × Nat) :=
  let a := colLo o m g
  let b := colHi o m g r.cols
  if b ≤ a then [] else (upto 0 r.rows).filterMap fun i => (srcRow o m g i).map fun row => rowRun o row g a b

/-- One row of the block as DLD fills it. -/
def loadRow (o : OpSlot) (m : Nat) (g : Origin) (cols : Nat) (l : List Byte) : List Nat :=
  let a := colLo o m g
  (upto 0 cols).map fun (j : Nat) =>
    let x := g.d0 + (j : Int)
    if m = 1 then runElem o a (clampExt x o.ext0) l else if inExt x o.ext0 then runElem o a x.toNat l else 0

/-- Codes of the whole block, row by row. -/
def loadRows (x : Xfer) (o : OpSlot) (m : Nat) (g : Origin) (r : Region) :
    List Nat → State → List Nat × Nat × Bool × State
  | [], s => ([], 0, false, s)
  | i :: is, s =>
    let a := colLo o m g
    let b := colHi o m g r.cols
    match srcRow o m g i with
    | none =>
      let y := loadRows x o m g r is s
      (List.replicate r.cols 0 ++ y.1, y.2.1, y.2.2)
    | some row =>
      if b ≤ a then
        let y := loadRows x o m g r is s
        (List.replicate r.cols 0 ++ y.1, y.2.1, y.2.2)
      else
        let v := rowRun o row g a b
        let z := readPieces x (vaPieces x.pages v.1 v.2) s
        let y := loadRows x o m g r is z.2.2
        (loadRow o m g r.cols z.1 ++ y.1, v.2 + y.2.1, z.2.1 || y.2.2.1, y.2.2.2)

/-- Pack codes of `w` bits from the low end. -/
def packBits (w : Nat) : List Nat → Nat
  | [] => 0
  | v :: r => v % 2 ^ w + 2 ^ w * packBits w r

/-- The bits that one row of a block writes: element by element, so that no element outside the block changes (R90). -/
def rowBits (o : OpSlot) (g : Origin) (r : Region) (buf : List Nat) (i : Nat) : Bits :=
  let w := fmtBits o.fmt
  let a := colLo o 0 g
  let n := colHi o 0 g r.cols - a
  let vals := (buf.drop (i * r.cols + ((a : Int) - g.d0).toNat)).take n
  (packBits w vals * 2 ^ (a * w % 8), (2 ^ (n * w) - 1) * 2 ^ (a * w % 8))

/-- Runs of a DST's block, each with what it writes. -/
def storeRuns (o : OpSlot) (g : Origin) (r : Region) (buf : List Nat) : List (Nat × Nat × Bits) :=
  let a := colLo o 0 g
  let b := colHi o 0 g r.cols
  if b ≤ a then []
  else (upto 0 r.rows).filterMap fun i => (srcRow o 0 g i).map fun row =>
    ((rowRun o row g a b).1, (rowRun o row g a b).2, rowBits o g r buf i)

/-- Write runs of bits: the bytes of the runs, whether an error response was met, the state. -/
def writeRuns (x : Xfer) : List (Nat × Nat × Bits) → State → Nat × Bool × State
  | [], s => (0, false, s)
  | (va, n, b) :: r, s =>
    let y := writePieces x (vaPieces x.pages va n) 0 b s
    let z := writeRuns x r y.2
    (n + z.1, y.1 || z.2.1, z.2.2)

/-! Video slots (R92 to R94) -/

def wideSample (v : Nat) : Bool := decide (v = 2) || decide (v = 4) || decide (v = 5)
def sampleBits (v : Nat) : Nat := if v = 2 ∨ v = 4 then 12 else if v = 5 then 16 else 10

/-- Place of a plane's sample of a pixel along the line: planes 0 Y or R, 1 Cb or G, 2 Cr or B. -/
def sampleIndex (v plane px : Nat) : Nat :=
  if is422 v then 4 * (px / 2) + (if plane = 0 then 1 + 2 * (px % 2) else if plane = 1 then 0 else 2)
  else if v = 5 then 3 * px + plane
  else 3 * px + (if plane = 0 then 1 else if plane = 1 then 0 else 2)

/-- First sample of the group of a pixel, and the sample after it. -/
def groupLo (v px : Nat) : Nat := if is422 v then 4 * (px / 2) else 3 * px
def groupHi (v px : Nat) : Nat := if is422 v then 4 * (px / 2) + 4 else 3 * px + 3

/-- Whole words that hold samples [k0, k1): byte offset and length. -/
def wordRun (v k0 k1 : Nat) : Nat × Nat :=
  if wideSample v then (2 * k0, 2 * (k1 - k0)) else (4 * (k0 / 3), 4 * ((k1 - 1) / 3 + 1) - 4 * (k0 / 3))

/-- Sample `k` from bytes that begin at offset `base`. -/
def sampleOf (v base k : Nat) (l : List Byte) : Nat :=
  if wideSample v then leNat ((l.drop (2 * k - base)).take 2) % 2 ^ sampleBits v
  else bitsOf (10 * (k % 3) + 9) (10 * (k % 3)) (leNat ((l.drop (4 * (k / 3) - base)).take 4))

/-- Sample `k` of value `x` as bits of a run that begins at offset `base`, with the unused bits of its word, which are 0 (R92). -/
def sampleAs (v base k x : Nat) : Bits :=
  if wideSample v then (x * 2 ^ (8 * (2 * k - base)), 0xFFFF * 2 ^ (8 * (2 * k - base)))
  else
    let w := 8 * (4 * (k / 3) - base)
    (x * 2 ^ (w + 10 * (k % 3)), (0x3FF * 2 ^ (10 * (k % 3)) + 0xC0000000) * 2 ^ w)

/-- A sample as a plane's element (R93). -/
def sampleToPlane (v f x : Nat) : Nat := if v = 5 then (if f = 7 then x else widen 7 x) else fround f false (vofInt x)

/-- A plane's element as a sample (R94). -/
def planeToSample (v f x : Nat) : Nat :=
  if v = 5 then x % 65536
  else match fval f x with
    | .nan => 0
    | .inf neg => if neg then 0 else 2 ^ sampleBits v - 1
    | .fin neg m e =>
      let z := vround neg m e
      if z < 0 then 0 else min z.toNat (2 ^ sampleBits v - 1)

/-- Pixel of column `j` of a plane. -/
def planePx (v plane : Nat) (d0 : Int) (j : Nat) : Int := if is422 v && decide (plane ≠ 0) then d0 + 2 * j else d0 + j

def lineRun (o : OpSlot) (row : Nat) (g : Origin) (a b : Nat) : Nat × Nat × Nat :=
  let r := wordRun o.vfmt (groupLo o.vfmt a) (groupHi o.vfmt (b - 1))
  ((slotRow o row g.d2 g.d3 + r.1) % 2 ^ 64, r.2, r.1)

def frameRuns (o : OpSlot) (m : Nat) (g : Origin) (r : Region) : List (Nat × Nat) :=
  let a := colLo o m g
  let b := colHi o m g r.cols
  if b ≤ a then [] else (upto 0 r.rows).filterMap fun i => (srcRow o m g i).map fun row => ((lineRun o row g a b).1, (lineRun o row g a b).2.1)

/-- One row of a plane from a line's bytes. -/
def unpackRow (o : OpSlot) (m plane f cols : Nat) (g : Origin) (base : Nat) (l : List Byte) : List Nat :=
  (upto 0 cols).map fun j =>
    let x := planePx o.vfmt plane g.d0 j
    let get := fun (p : Nat) => sampleToPlane o.vfmt f (sampleOf o.vfmt base (sampleIndex o.vfmt plane p) l)
    if m = 1 then get (clampExt x o.ext0) else if inExt x o.ext0 then get x.toNat else 0

/-- Rows of the three planes (R93). -/
def unpackRows (w : Xfer) (o : OpSlot) (m : Nat) (g : Origin) (y c : Region) :
    List Nat → State → (List Nat × List Nat × List Nat) × Nat × Bool × State
  | [], s => (([], [], []), 0, false, s)
  | i :: is, s =>
    let a := colLo o m g
    let b := colHi o m g y.cols
    let row := if b ≤ a then none else srcRow o m g i
    let x := match row with
      | none => ([], 0, 0, false, s)
      | some k =>
        let v := lineRun o k g a b
        let p := readPieces w (vaPieces w.pages v.1 v.2.1) s
        (p.1, v.2.2, v.2.1, p.2.1, p.2.2)
    let z := unpackRows w o m g y c is x.2.2.2.2
    let one := fun (plane : Nat) (r : Region) =>
      if row.isSome then unpackRow o m plane r.fmt r.cols g x.2.1 x.1 else List.replicate r.cols 0
    ((one 0 y ++ z.1.1, one 1 c ++ z.1.2.1, one 2 c ++ z.1.2.2), x.2.2.1 + z.2.1, x.2.2.2.1 || z.2.2.1, z.2.2.2)

def bitsOr (a b : Bits) : Bits := (a.1 ||| b.1, a.2 ||| b.2)

/-- One row of a plane as bits of its line's run: the samples whose pixels lie inside the frame (R94). -/
def packRow (o : OpSlot) (plane f : Nat) (g : Origin) (base : Nat) : Nat → List Nat → Bits
  | _, [] => (0, 0)
  | j, v :: r =>
    let x := planePx o.vfmt plane g.d0 j
    let t := packRow o plane f g base (j + 1) r
    if inExt x o.ext0 then bitsOr (sampleAs o.vfmt base (sampleIndex o.vfmt plane x.toNat) (planeToSample o.vfmt f v)) t else t

/-- Runs of a DVOUT's block, each with what it writes. -/
def videoRuns (o : OpSlot) (g : Origin) (y c : Region) (buf : List Nat) : List (Nat × Nat × Bits) :=
  let a := colLo o 0 g
  let b := colHi o 0 g y.cols
  let nY := y.rows * y.cols
  let nC := c.rows * c.cols
  if b ≤ a then []
  else (upto 0 y.rows).filterMap fun i => (srcRow o 0 g i).map fun k =>
    let v := lineRun o k g a b
    (v.1, v.2.1,
      bitsOr (packRow o 0 y.fmt g v.2.2 0 ((buf.drop (i * y.cols)).take y.cols))
        (bitsOr (packRow o 1 c.fmt g v.2.2 0 ((buf.drop (nY + i * c.cols)).take c.cols))
          (packRow o 2 c.fmt g v.2.2 0 ((buf.drop (nY + nC + i * c.cols)).take c.cols))))

/-! Whole transfers -/

/-- Virtual ranges that a transfer of a block at an origin touches. -/
def rangesAt (o : Op) (sl : OpSlot) (g : Origin) : List (Nat × Nat) :=
  let m := if dmaReads o.eng then o.m else 0
  if isVideo o.eng then frameRuns sl m g (regionOf o.qa) else blockRuns sl m g (regionOf o.qa)

/-- Virtual ranges a transfer touches. -/
def dmaRanges (o : Op) (sl : OpSlot) : List (Nat × Nat) := rangesAt o sl (originOf o.ctl o.ctl2)

/-- The access its pages are translated for: a DPF only reads (R90, R230). -/
def dmaAccess (o : Op) (sl : OpSlot) : Nat := if o.eng = .dpf then 1 else sl.access

/-- What DST and DVOUT read of tile memory at their start. -/
def dmaCapture (o : Op) (c : TCore) : List Nat :=
  if o.eng = .dst then regionElems c.tile (regionOf o.qa)
  else if o.eng = .dvout then
    regionElems c.tile (regionOf o.qa) ++ regionElems c.tile (regionOf o.q1) ++ regionElems c.tile (regionOf o.q2)
  else []

/-- Runs that a DST or DVOUT writes. -/
def outRuns (o : Op) (sl : OpSlot) : List (Nat × Nat × Bits) :=
  let g := originOf o.ctl o.ctl2
  if o.eng = .dst then storeRuns sl g (regionOf o.qa) o.buf
  else if o.eng = .dvout then videoRuns sl g (regionOf o.qa) (regionOf o.q1) o.buf else []

def xferOf (tc item : Nat) (it : Item) (o : Op) (sl : OpSlot) (pages : List (Nat × Nat × Bool)) (s : State) : Xfer :=
  ⟨tc, ⟨1, tc, some item⟩, ctxPart s it.ctx, (sl.hint, sl.hintId), pages, o.got⟩

/-- A transfer's effect (R90, R93, R94): the bytes moved, whether an error response was met, and the state. Where the three regions of a DVIN
overlap the last plane's bytes remain (DESIGN CHOICE, log 129). -/
def dmaMove (x : Xfer) (o : Op) (sl : OpSlot) (s : State) : Nat × Bool × State :=
  let g := originOf o.ctl o.ctl2
  let r := regionOf o.qa
  let rows := upto 0 r.rows
  match o.eng with
  | .dld =>
    let y := loadRows x sl o.m g r rows s
    (y.2.1, y.2.2.1, tcMod y.2.2.2 x.tc fun c => { c with tile := regionPut c.tile r y.1 })
  | .dvin =>
    let y := unpackRows x sl o.m g r (regionOf o.q1) rows s
    (y.2.1, y.2.2.1, tcMod y.2.2.2 x.tc fun c => { c with
      tile := regionPut (regionPut (regionPut c.tile r y.1.1) (regionOf o.q1) y.1.2.1) (regionOf o.q2) y.1.2.2 })
  | .dst => writeRuns x (outRuns o sl) s
  | .dvout => writeRuns x (outRuns o sl) s
  | _ => (0, false, s)

/-! The board-shared window and the attached host's (R345, R347, R378) -/

/-- A piece lies in another chip's memory, or in the attached host's. -/
def isFar (s : State) (x : Xfer) (write : Bool) (p : Piece) : Bool :=
  decide (accessError s (some x.part) write p.1 = none) && (localAddr s p.1).isNone &&
  (match target s p.1 with | .board _ _ => true | .host _ => true | _ => false)

def isHost (s : State) (p : Piece) : Bool := match target s p.1 with | .host _ => true | _ => false

/-- The far pieces that a transfer reads. -/
def farReads (s : State) (x : Xfer) (o : Op) (sl : OpSlot) : List Piece :=
  ((dmaRanges o sl).flatMap fun r => vaPieces x.pages r.1 r.2).filter (isFar s x false)

/-- Pieces of a run, each with its bits. -/
def pieceBits : Nat → Bits → List Piece → List (Piece × Bits)
  | _, _, [] => []
  | i, b, p :: r => (p, bitsFrom b i p.2.1) :: pieceBits (i + p.2.1) b r

/-- The far pieces that a transfer writes something of. -/
def farWrites (s : State) (x : Xfer) (o : Op) (sl : OpSlot) : List (Piece × Bits) :=
  ((outRuns o sl).flatMap fun r => pieceBits 0 r.2.2 (vaPieces x.pages r.1 r.2.1)).filter fun w => decide (w.2.2 ≠ 0) && isFar s x true w.1

/-- Some byte of a far piece is written in part, and no packet says so: the piece is read first, and what is not written goes back as it was
(R90, R92, R94, R516; DESIGN CHOICE, log 138). -/
def readsFirst (s : State) (w : Piece × Bits) : Bool :=
  (upto 0 w.1.2.1).any fun i => let m := byteMask w.2 i; decide (m ≠ 0) && decide (m ≠ 255) && (isHost s w.1 || !(endsHalf w.2 i))

/-- A packet for a piece, and what its answer is awaited for: kind 4 reads and 5 writes of a transfer. -/
def askPiece (x : Xfer) (o : Op) (kind : Nat) (p : Piece) (half : Bool) (l : List Byte) (s : State) : State :=
  match target s p.1 with
  | .board k off =>
    let q := windowPend s kind k off p.2.1 p.1 x.tc o.tag
    if kind = 4 then askWindow q s else tellWindow q half l s
  | .host k =>
    if kind = 4 ∧ (accessError s (some x.part) false p.1).isSome = true then noteAnswer x.tc o.tag ⟨p.1, 5, []⟩ s
    else askHost k ⟨0, x.tc, o.tag, p.2.1, p.1, true⟩ s
  | _ => s

def askReads (x : Xfer) (o : Op) (l : List Piece) (s : State) : State := l.foldl (fun t p => askPiece x o 4 p false [] t) s

/-- The runs of a piece go to another chip, unless reading it met an error. -/
def sendRuns (x : Xfer) (o : Op) (w : Piece × Bits) (s : State) : State :=
  if (answerError x w.1).isSome || isHost s w.1 then s
  else (byteRuns 0 (bytesOut w.2 (readFirst x w.1) 0 w.1.2.1)).foldl (fun t r =>
    askPiece x o 5 (w.1.1 + r.1, r.2.length, w.1.2.2) ((answerAt x w.1.1).isNone && endsHalf w.2 (r.1 + r.2.length - 1)) r.2 t) s

def opMod (tc tag : Nat) (f : Op → Op) (s : State) : State := tcMod s tc fun c => { c with sb := c.sb.map fun p => if p.tag = tag then f p else p }

/-- What a transfer writes to other chips goes out; what it has read for that of another chip's memory is used. -/
def askWrites (x : Xfer) (o : Op) (sl : OpSlot) (s : State) : State :=
  let l := farWrites s x o sl
  let t := opMod x.tc o.tag (fun p => { p with
    asked := true, wrote := true, pages := x.pages
    got := p.got.filter fun a => decide (a.code ≠ 0) || l.any fun w => isHost s w.1 && decide (w.1.1 = a.pa) }) s
  l.foldl (fun u w => sendRuns x o w u) t

/-- The transfer has something to ask of other chips or of the host. -/
def asksFar (s : State) (x : Xfer) (o : Op) (sl : OpSlot) : Bool :=
  if dmaReads o.eng then !((farReads s x o sl).isEmpty)
  else (farWrites s x o sl).any fun w => !(isHost s w.1) || readsFirst s w

/-- The transfer's requests to other chips go out, once; the pages they went through are kept. -/
def askRemote (x : Xfer) (o : Op) (sl : OpSlot) (s : State) : State :=
  if !(asksFar s x o sl) then s
  else
    let t := opMod x.tc o.tag (fun p => { p with asked := true, pages := x.pages }) s
    if dmaReads o.eng then askReads x o (farReads s x o sl) t
    else
      let l := (farWrites s x o sl).filter (readsFirst s)
      if l = [] then askWrites x o sl s else askReads x o (l.map fun w => w.1) t

/-- An answer to one of the transfer's packets is still out. -/
def awaits (s : State) (tc tag : Nat) : Bool :=
  s.chips.pend.any (fun p => (decide (p.kind = 4) || decide (p.kind = 5)) && decide (p.ac = tc) && decide (p.rd = tag)) ||
  s.pcie.any fun e => e.2.reads.any fun r => r.dma && decide (r.ac = tc) && decide (r.rd = tag)

/-! Code (R305) -/

/-- A page of the code range comes into the instruction cache; a page that does not resolve, or that cannot be read, stays out. -/
def codePage (tc n : Nat) (it : Item) (p : Nat × Nat) (s : State) : Option (Nat × Nat) × State :=
  let out := fun (t : State) => tcMod t tc fun c => { c with codeOut := insNat (p.1 / 4096) c.codeOut }
  let glob := fun (t : State) => (tlbFind (microAt t (microKey tc true)) (vmidOf t it.ctx) (asidOf t it.ctx) (p.1 / 4096) 4).any fun e => e.glob
  match engPage tc true it.ctx (some n) (p.1 / 4096) 4 s with
  | (none, t) => (none, out t)
  | (some (pg, nc), t) =>
    let x := pageRead ⟨1, tc, some n⟩ (some (ctxPart t it.ctx)) 1 nc (lineSpans (4096 * pg + p.1 % 4096) p.2) t
    match x.1 with
    | .error e => (some e, out x.2)
    | .ok l => (none, tcMod x.2 tc fun c => { c with
        codeOut := c.codeOut.filter fun v => decide (v ≠ p.1 / 4096)
        codeG := if glob t then insNat (p.1 / 4096) c.codeG else c.codeG.filter fun v => decide (v ≠ p.1 / 4096)
        code := tputs c.code (p.1 - kernelBase it) l })

/-- The code range as it stands at entry; a page that cannot be read is logged, and faults the core once it is executed (R260, R261). -/
def fetchCode (tc n : Nat) (it : Item) (s : State) : State :=
  (pageSpans (kernelBase it) (kernelSize it)).foldl (fun t p =>
    let r := codePage tc n it p t
    match r.1 with | some e => memErr e.1 e.2 ⟨1, tc, some n⟩ r.2 | none => r.2) (tcMod s tc fun c => { c with codeG := [] })

/-! Prefetch (R243, R288) -/

/-- Translations of pages fetched ahead: those that do not resolve are dropped. -/
def aheadPages (tc ctx : Nat) (item : Option Nat) (acc : Nat) : List Nat → State → List (Nat × Nat × Bool) × State
  | [], s => ([], s)
  | v :: r, s =>
    let p := engPage tc false ctx item v acc s
    let y := aheadPages tc ctx item acc r p.2
    (match p.1 with | some e => (v, e) :: y.1 | none => y.1, y.2)

/-- A line fetched into a core's cluster L2 ahead of use: dropped where it would wait, and a prefetch where trackers run short for it; an error
is only logged (R264, R289). -/
def fetchAhead (who : Requester) (part fill ln : Nat) (s : State) : State :=
  let cl := unitOf who
  let short := decide (fill = 3) &&
    (prefetchTrackersShort s (lineHome ln) (some part) || !(prefetchRoom s { mkReq s .gets cl who (128 * ln) false with fill := fill }))
  if (lineAt s cl ln).isSome || short || lineWaits s who (some part) true ln || decide (agentMask s cl fill (some part) = 0) then s
  else
    let r := clusterRead cl (some part) fill ln s
    match r.1 with
    | some c => memErr c (128 * ln) (noUnit (cl / 4)) r.2.2
    | none => r.2.2

/-- Lines of local HBM behind pieces of pages that are not NC. -/
def linesOf (s : State) (part : Nat) (ps : List Piece) : List Nat :=
  nubNat (ps.filterMap fun p => if p.2.2 || (accessError s (some part) false p.1).isSome then none else (localAddr s p.1).map lineOf)

/-- Fetch the lines of ranges into the core's cluster L2, one after the other: in one step none of them is left in flight. -/
def fetchLines (who : Requester) (part fill : Nat) (pages : List (Nat × Nat × Bool)) (ranges : List (Nat × Nat)) (s : State) : State :=
  (linesOf s part (ranges.flatMap fun r => vaPieces pages r.1 r.2)).foldl (fun t ln => fetchAhead who part fill ln t) s

def coordsOf (g : Origin) : List Int := [g.d0, g.d1, g.d2, g.d3]
def coordDiff (a b : List Int) : List Int := a.zipWith (fun x y => x - y) b
def coordAdd (a b : List Int) (k : Int) : List Int := a.zipWith (fun x y => x + k * y) b

/-- An origin from coordinates that the slot has. -/
def originAt (sl : OpSlot) (c : List Int) : Option Origin :=
  let d2 := c.getD 2 0
  let d3 := c.getD 3 0
  if 0 ≤ d2 ∧ d2 < sl.ext2 ∧ 0 ≤ d3 ∧ d3 < sl.ext3 then some ⟨c.getD 0 0, c.getD 1 0, d2.toNat, d3.toNat⟩ else none

def blockAt (o : Op) (sl : OpSlot) (c : List Int) : List (Nat × Nat) :=
  match originAt sl c with | some g => rangesAt o sl g | none => []

/-- A transfer starts: the step between its slot's last two operations is kept; when it repeats, the translations of the next two blocks
come into the micro-TLB, and the lines of the next block into the cluster L2, whose 32 trackers hold the streams used last (R243, R288). -/
def streamStart (tc item : Nat) (it : Item) (o : Op) (s : State) : State :=
  match itemSlot it o.slot with
  | none => s
  | some sl =>
    let g := coordsOf (originOf o.ctl o.ctl2)
    let old := tget ([], []) (tcAt s tc).steps o.slot
    let step := if old.1 = [] then [] else coordDiff g old.1
    let t := tcMod s tc fun c => { c with steps := tset ([], []) c.steps o.slot (g, step) }
    if step = [] ∨ step ≠ old.2 then t
    else
      let b1 := blockAt o sl (coordAdd g step 1)
      let b2 := blockAt o sl (coordAdd g step 2)
      let p := aheadPages tc it.ctx (some item) sl.access (pagesOf (b1 ++ b2)) t
      let u := cohMod p.2 fun c => { c with
        streams := tset [] c.streams (tc / 8) (((tc, o.slot) :: (tget [] c.streams (tc / 8)).filter fun e => decide (e ≠ (tc, o.slot))).take 32) }
      let cfg := regGet u (clReg (tc / 8) 8)
      if bit 0 cfg then fetchLines ⟨1, tc, some item⟩ (ctxPart u it.ctx) 3 p.1 b1 u else u

/-- DPF: the translations and the lines of its block (R90, R243). -/
def dpfEffect (tc item : Nat) (it : Item) (o : Op) (sl : OpSlot) (s : State) : State :=
  let l := dmaRanges o sl
  let p := aheadPages tc it.ctx (some item) 1 (pagesOf l) s
  fetchLines ⟨1, tc, some item⟩ (ctxPart s it.ctx) 0 p.1 l p.2

/-- Packets that a transfer's requests to other chips and to the host take. -/
def farCount (s : State) (x : Xfer) (o : Op) (sl : OpSlot) : Nat :=
  if dmaReads o.eng then (farReads s x o sl).length
  else (farWrites s x o sl).foldl (fun n w => n + (byteRuns 0 (bytesOut w.2 [] 0 w.1.2.1)).length) 0

/-- The requests wait for a path or for trackers (R32, R33, R297). -/
def farHeld (s : State) (x : Xfer) (o : Op) (sl : OpSlot) : Bool :=
  let l := if dmaReads o.eng then farReads s x o sl else (farWrites s x o sl).map fun w => w.1
  l ≠ [] && (l.any (fun p => farWaits s x.who p.1) || !(issueRoom s x.who (farCount s x o sl)))

/-- An access of an NC page waits for its path, for its partition's limit and for its turn (R32, R33, R279, R280, R283). -/
def ncWaits (s : State) (who : Requester) (part : Option Nat) (ln : Nat) : Bool :=
  pathHeld s (unitWin (unitOf who)) (homeWin ln) || overLimit s part (lineHome ln) || hbmTurn s part (lineHome ln) || !(issueRoom s who 1)

/-- A piece of a transfer in local memory waits (R32, R33, R279, R280, R297, R316). -/
def pieceWaits (s : State) (x : Xfer) (o : Op) (p : Piece) : Bool :=
  match localAddr s p.1 with
  | none => false
  | some a => if p.2.2 then ncWaits s x.who (some x.part) (lineOf a) else addrWaits s x.who (some x.part) (dmaReads o.eng) p.1

def xferPieces (x : Xfer) (o : Op) (sl : OpSlot) : List Piece := (dmaRanges o sl).flatMap fun r => vaPieces x.pages r.1 r.2

def xferWaits (s : State) (x : Xfer) (o : Op) (sl : OpSlot) : Bool := (xferPieces x o sl).any (pieceWaits s x o)

/-- A transfer that waits, its request Nacked where its line's home refuses it. -/
def xferNacked (x : Xfer) (o : Op) (sl : OpSlot) (s : State) : State :=
  match (xferPieces x o sl).find? (pieceWaits s x o) with
  | none => s
  | some p => if p.2.2 then s else match localAddr s p.1 with
    | some a => nackedLine x.who (some x.part) (dmaReads o.eng) (lineOf a) s
    | none => s

end Sys2Proof.Machine
end

