-- ==== Sys2Proof/Machine/Release.lean ====
section
/-! DEFINITION. Accepted items: their order in a queue (R196), readiness (R172), assignment to a die (R173), completion (R179 to R183,
R208, R211 to R215), and what follows when something an item waits on changes. -/

namespace Sys2Proof.Machine

open Sys2Proof

/-! Fields of a descriptor (R202) -/

def itKind (it : Item) : Nat := fld 19 16 (descWord it 0)
def itPrio (it : Item) : Nat := fld 23 20 (descWord it 0)
def itEndMode (it : Item) : Bool := decide (fld 25 24 (descWord it 0) = 0)
def itN (it : Item) : Nat := fld 32 28 (descWord it 0) + 1
def itMask (it : Item) : Nat := fld 38 33 (descWord it 0)
def itRelease (it : Item) : W64 := descWord it 2
def itDeadline (it : Item) : W64 := descWord it 3
/-- A deadline of all ones is none (R171). -/
def hasDeadline (it : Item) : Bool := decide (itDeadline it ≠ 0xFFFFFFFFFFFFFFFF)

/-- The submission unit as a requester (R518). -/
def subReq (item : Option Nat) : Requester := ⟨5, 0, item⟩

/-! Queues -/

/-- log2 of a queue's ring size, and its two rings (R192). -/
def ringLog (s : State) (c q : Nat) : Nat := fld 4 0 (ctxWord s c (4 + 2 * q))
def descAddr (s : State) (c q : Nat) (i : W32) : Nat :=
  fld 51 12 (ctxWord s c (4 + 2 * q)) * 4096 + i.toNat % 2 ^ ringLog s c q * 128
def cplAddr (s : State) (c q : Nat) (i : W32) : Nat :=
  fld 51 12 (ctxWord s c (5 + 2 * q)) * 4096 + i.toNat % 2 ^ ringLog s c q * 64
/-- Generation of an index (R198). -/
def genOf (s : State) (c q : Nat) (i : W32) : Nat := i.toNat / 2 ^ ringLog s c q % 65536

/-- A queue is parked, keeping its first cause, and an event is raised (R197, R199, R200). -/
def parkQueue (c q st : Nat) (idx : W32) (s : State) : State :=
  let x := queueAt s (qKey c q)
  ctxEvent c q 3 idx (if x.status = 0 then queuePut s (qKey c q) { x with status := st, parkedAt := idx, rereads := 0 } else s)

/-- An index that counts an unbroken run, moved over what lies ahead of it. -/
def advanceRun : Nat → W32 → List W32 → W32 × List W32
  | 0, i, l => (i, l)
  | n + 1, i, l => if l.contains i then advanceRun n (i + 1) (l.filter fun j => decide (j ≠ i)) else (i, l)

/-- Descriptor `i` has left the head of its queue (R196). -/
def markReleased (c q : Nat) (i : W32) (s : State) : State :=
  let x := queueAt s (qKey c q)
  let r := advanceRun (x.relAhead.length + 1) x.released (i :: x.relAhead)
  queuePut s (qKey c q) { x with released := r.1, relAhead := r.2 }

/-- The completion record of descriptor `i` is written (R196, R211 step 4). -/
def markCompleted (c q : Nat) (i : W32) (s : State) : State :=
  let x := queueAt s (qKey c q)
  let r := advanceRun (x.doneAhead.length + 1) x.completed (i :: x.doneAhead)
  queuePut s (qKey c q) { x with completed := r.1, doneAhead := r.2 }

/-- Still at or behind the head of its queue. -/
def atHead (it : Item) : Bool := decide (it.phase = .walking) || decide (it.phase = .parked) || decide (it.phase = .waiting)

/-- Acceptance numbers of the items held, in order. -/
def itemNums (s : State) : List Nat := s.items.foldl (fun l e => insNat e.1 l) []

/-! Completion -/

/-- The first fault of the lowest rank (R215). -/
def lowestFault : List (Nat × Nat × Nat × W64) → Option (Nat × Nat × Nat × W64)
  | [] => none
  | f :: r => match lowestFault r with
    | none => some f
    | some g => if g.1 < f.1 then some g else some f

def lowestStatus : List (Nat × Nat) → Option (Nat × Nat)
  | [] => none
  | k :: r => match lowestStatus r with
    | none => if k.2 = 0 then none else some k
    | some g => if k.2 ≠ 0 ∧ k.1 ≤ g.1 then some k else some g

/-- Kernel status (R215). -/
def kernelStatus (it : Item) : Nat := match lowestStatus it.kstat with | some k => k.2 | none => 0

/-- Late (R179). -/
def isLate (it : Item) (tEnd : W64) : Bool := hasDeadline it && decide ((itDeadline it).toNat ≤ tEnd.toNat)

/-- The completion record (R213, R215). -/
def cplRecord (it : Item) (st : Nat) (late : Bool) (tEnd : W64) : List Byte :=
  let f := if st = 2 then lowestFault it.faults else none
  let detail := if st = 1 then it.detail else match f with | some x => x.2.2.1 | none => 0
  let tc := match f with | some x => x.2.1 | none => it.faultTc
  let pc := match f with | some x => x.2.2.2 | none => it.faultPc
  leBytes 8 (descWord it 1).toNat ++
  leBytes 8 (st + 2 ^ 8 * detail + 2 ^ 16 * kernelStatus it + 2 ^ 24 * b2n late + 2 ^ 25 * b2n it.slip + 2 ^ 32 * tc + 2 ^ 40 * it.die +
    2 ^ 48 * fld 15 0 (descWord it 0)) ++
  leBytes 8 pc.toNat ++ leBytes 4 it.sat ++ leBytes 4 it.flush ++
  leBytes 8 it.tAccept.toNat ++ leBytes 8 it.tAssign.toNat ++ leBytes 8 it.tStart.toNat ++ leBytes 8 tEnd.toNat

/-- SQ.POS of every named slot (R153). -/
def addSums (it : Item) (s : State) : State :=
  it.sums.foldl (fun t e => slotPut t e.1 { slotAt t e.1 with pos := (slotAt t e.1).pos + e.2 }) s

/-! A source entry (R391) -/

def cfgEn (c : W64) : Bool := bit 0 c
def cfgFast (c : W64) : Bool := bit 2 c
def cfgTgt (c : W64) : Nat := fld 26 16 c
def cfgCtx (c : W64) : Nat := fld 61 48 c

/-- The item of a core is of the context whose items may receive the event (R399). -/
def fastFor (s : State) (c : W64) : Bool :=
  match (tcAt s (cfgTgt c)).item.bind (itemAt s) with
  | some it => decide (it.ctx = cfgCtx c)
  | none => false

/-- While the core's PACER.FEVEC is 0 the event stays pending at the Signal Concentrator (R49, R400). -/
def fastHeld (s : State) (c : W64) : Bool := cfgFast c && fastFor s c && decide ((tcAt s (cfgTgt c)).fevec = 0)

/-- The sources whose events are held for a core. -/
def heldFor (s : State) (tc : Nat) : List Nat :=
  (s.sc.src.filter fun e => e.2.pend && cfgEn e.2.cfg && decide (cfgTgt e.2.cfg = tc) && fastHeld s e.2.cfg).map fun e => e.1

/-- A fast event that reached no item of its context (R399). -/
def dropFast (n : Nat) (s : State) : State :=
  if s.sc.fastDropped + n < 2 ^ 32 then { s with sc := { s.sc with fastDropped := s.sc.fastDropped + n } }
  else
    let (x, t) := drawFree s
    { t with sc := { t.sc with fastDropped := x.toNat % 2 ^ 32 } }

/-- A tensor core has ended its part of its item: PDONE, or stopped with every issued operation complete (R50, R179, R180). -/
def partEnded (c : TCore) : Bool := c.done.isSome || (c.stopped && decide (c.sb = []))

/-- The item whose part a tensor core still runs. -/
def coreItem (s : State) (k : Nat) : Option Nat := if partEnded (tcAt s k) then none else (tcAt s k).item

/-- Saturated and flushed totals of a core (R120). -/
def withTotals (s : State) (it : Item) (k : Nat) : Item :=
  { it with sat := min 0xFFFFFFFF (it.sat + (tcAt s k).sat), flush := min 0xFFFFFFFF (it.flush + (tcAt s k).flush) }

/-- A tensor core is free again; the fast events still pending, at the core or held for it, are dropped (R399, R400). -/
def freeCore (tc : Nat) (s : State) : State :=
  let c := tcAt s tc
  let held := heldFor s tc
  let t := held.foldl (fun u n => srcPut u n { srcAt u n with pend := false }) s
  let t := if c.pend = [] ∧ held = [] then t else dropFast (c.pend.length + held.length) t
  tcPut t tc { c with item := none, pend := [], stall := none, heldOps := [], sb := [], stopped := false, fault := none, done := none }

/-- A core that has ended its part is taken by another item: what its item still needs of it is kept (R180). -/
def takeCore (k : Nat) (s : State) : State :=
  match (tcAt s k).item with
  | none => s
  | some n => match itemAt s n with
    | none => freeCore k s
    | some it => freeCore k (itemPut s n { withTotals s it k with tcs := it.tcs.filter fun j => decide (j ≠ k) })

/-- Whether a post is performed (R194, R202, R208). A refused descriptor's post needs its Baton bound to the context (R226). -/
def postDue (s : State) (it : Item) (st : Nat) (w : W64) : Bool :=
  let ok := decide (st = 0) && decide (kernelStatus it = 0)
  bit 15 w && decide ((ctxAt s it.ctx).state ≠ 2) &&
  (match fld 17 16 w with | 0 => true | 1 => ok | 2 => !ok | _ => false) &&
  (decide (st ≠ 1) || (decide (it.detail ≠ 0x0E) && decide (it.detail ≠ 0x0F) && decide (it.detail ≠ 0x11) && batonBound s (fld 12 0 w) it.ctx))

def doPost (it : Item) (st j : Nat) (s : State) : State :=
  let w := descWord it (14 + j)
  if postDue s it st w then batonOp (fld 12 0 w) (w >>> 32).toNat s else s

/-- A miss is counted for the die assigned and for the context (R182). -/
def countMiss (it : Item) (s : State) : State :=
  let t := if it.die < 6 then bumpObj 0x3200 (it.die + 1) 64 1 s else s
  ctxPut t it.ctx { ctxAt t it.ctx with misses := (ctxAt t it.ctx).misses + 1 }

/-- Completion with a status, in the steps of R211: slot positions, the record, COMPLETED, the posts, the events. -/
def complete (n st : Nat) (s : State) : State :=
  match itemAt s n with
  | none => s
  | some it =>
    let tEnd := now s
    let late := decide (st ≠ 1) && isLate it tEnd
    let miss := late || decide (st = 3)
    let t := addSums it (if atHead it then markReleased it.ctx it.q it.idx s else s)
    let w := memWrite (subReq (some n)) (some (ctxPart t it.ctx)) (cplAddr t it.ctx it.q it.idx) (cplRecord it st late tEnd) t
    let t := if w.1.isSome then parkQueue it.ctx it.q 3 it.idx w.2 else w.2
    let t := it.tcs.foldl (fun u k => freeCore k u) t
    let t := { t with items := adel t.items n }
    let t := retireReqs (markCompleted it.ctx it.q it.idx t)
    let t := if miss then countMiss it t else t
    let t := doPost it st 1 (doPost it st 0 t)
    let t := if bit 26 (descWord it 0) then ctxEvent it.ctx it.q 0 it.idx t else t
    let t := if miss && bit 16 (ctxWord t it.ctx 0) then ctxEvent it.ctx it.q 1 it.idx t else t
    if decide (st = 1) && bit 17 (ctxWord t it.ctx 0) then ctxEvent it.ctx it.q 2 it.idx t else t

/-- A refusal (R208). -/
def refuse (n reason : Nat) (s : State) : State :=
  match itemAt s n with
  | none => s
  | some it =>
    let t := itemPut s n { it with detail := reason }
    complete n 1 (ctxPut t it.ctx { ctxAt t it.ctx with refusals := (ctxAt t it.ctx).refusals + 1 })

/-! Readiness -/

def waitsHold (s : State) (it : Item) : Bool :=
  (upto 0 2).all fun j =>
    let w := descWord it (10 + 2 * j)
    !(bit 15 w) || condHolds (descWord it (11 + 2 * j)) (batonAt s (fld 12 0 w)).value

/-- No earlier item that names one of its sequence slots is left (R152). -/
def slotOrder (s : State) (n : Nat) (it : Item) : Bool :=
  s.items.all fun e => !(decide (e.1 < n)) || decide (descWord e.2 8 &&& descWord it 8 = 0)

/-- The head of its queue: nothing accepted earlier from the queue is still there. -/
def isHead (s : State) (n : Nat) (it : Item) : Bool :=
  s.items.all fun e => !(decide (e.1 < n) && decide (e.2.ctx = it.ctx) && decide (e.2.q = it.q) && atHead e.2)

def released (s : State) (it : Item) : Bool := decide (itRelease it = 0) || decide ((itRelease it).toNat ≤ (now s).toNat)

/-- R172. -/
def isReady (s : State) (n : Nat) (it : Item) : Bool :=
  decide (it.phase = .waiting) && ctxEnabled s it.ctx && s.tb.on && decide (s.tb.state ≠ 0) && released s it && isHead s n it &&
  waitsHold s it && slotOrder s n it

def firstReady (s : State) : Option Nat :=
  (itemNums s).find? fun n => match itemAt s n with | some it => isReady s n it | none => false

/-- Free tensor cores of a die, by linear number. -/
def freeCores (s : State) (d : Nat) : List Nat :=
  if cdPresent s d then (upto (32 * d) 32).filter fun n => decide (coreItem s n = none) else []

/-- Cores of the die not taken by an item that has started (R173, R174). -/
def bestDie (s : State) (mask : Nat) : Option Nat :=
  ((upto 0 6).filter fun d => mask.testBit d && cdPresent s d).foldl
    (fun r d => match r with
      | none => some d
      | some b => if (freeCores s b).length < (freeCores s d).length then some d else some b) none

/-- A ready item is assigned to a die (R173); a signal item completes at once with OK (R203), and is never a slip (DESIGN CHOICE, log 154). -/
def releaseItem (n : Nat) (s : State) : State :=
  match itemAt s n with
  | none => s
  | some it =>
    if itKind it = 1 then
      complete n 0 (itemPut (markReleased it.ctx it.q it.idx s) n { it with phase := .assigned, tAssign := now s, tStart := now s })
    else match bestDie s (itMask it) with
      | none => s
      | some d => itemPut (markReleased it.ctx it.q it.idx s) n { it with phase := .assigned, die := d, tAssign := now s }

/-- Release every item that is ready, and those that their posts make ready. -/
def settle : Nat → State → State
  | 0, s => s
  | f + 1, s => match firstReady s with
    | none => s
    | some n => settle f (releaseItem n s)

def settleAll (s : State) : State := settle s.items.length s

/-- An operation arrives at a Baton, and what waits on it is released (R219). -/
def signalBaton (b : Nat) (op : W32) (s : State) : State := settleAll (batonOp b op s)

/-! Deadlines -/

/-- One frame after a frame time (R180). -/
def frameAfter (t : W64) : Nat := t.toNat + 2 ^ 24

/-- A tensor core of the item holds a transfer for a translation (R244). -/
def holdsTransfer (s : State) (it : Item) : Bool := it.tcs.any fun k => decide ((tcAt s k).heldOps ≠ [])

/-- Every tensor core of a running item has passed PDONE (R179, R181). -/
def allDone (s : State) (it : Item) : Bool := it.tcs.all fun k => (tcAt s k).done.isSome

/-- The deadline of an item is reached (R180, R181, R209, R244). -/
def atDeadline (n : Nat) (s : State) : State :=
  match itemAt s n with
  | none => s
  | some it =>
    match it.phase with
    | .parked => complete n 5 s
    | .running =>
      if allDone s it then s
      else if holdsTransfer s it then endItem n 5 6 s
      else if itEndMode it then endItem n 3 2 s else s
    | _ => if itEndMode it then complete n 3 s else s

/-- The deadline plus one frame period, in report mode (R180); a transfer still held gives TRANSLATION_TIMEOUT (R244, R248). -/
def atHardLimit (n : Nat) (s : State) : State :=
  match itemAt s n with
  | none => s
  | some it =>
    match it.phase with
    | .parked => complete n 5 s
    | .running => if allDone s it then s else (if holdsTransfer s it then endItem n 5 6 s else endItem n 3 2 s)
    | _ => complete n 3 s

/-- What the current frame time means for one item. A running item meets its deadline once: a transfer held first after it waits to the hard
limit. An item accepted past its hard limit runs (R210). -/
def itemTime (s : State) (n : Nat) : State :=
  match itemAt s n with
  | none => s
  | some it =>
    if !(hasDeadline it) || decide ((now s).toNat < (itDeadline it).toNat) then s
    else if !(itEndMode it) && decide (frameAfter (itDeadline it) ≤ (now s).toNat) && decide (it.tAccept.toNat < frameAfter (itDeadline it)) then
      atHardLimit n s
    else if it.due && decide (it.phase = .running) then s
    else atDeadline n (itemPut s n { it with due := true })

/-- Deadlines passed are reached, and releases passed make items ready (R166, R176). -/
def timePasses (s : State) : State := settleAll ((itemNums s).foldl itemTime s)

end Sys2Proof.Machine
end

