-- ==== Sys2Proof/Machine/Engine.lean ====
section
/-! DEFINITION. The start and completion of operations (R57, R60, R61, R63, R75, R87), error responses to a core (R51) and fast events (R49). -/

namespace Sys2Proof.Machine

open Sys2Proof

/-! Start -/

/-- Operations issued before `o`. -/
def olderOps (c : TCore) (o : Op) : List Op := c.sb.takeWhile fun p => decide (p.tag ≠ o.tag)

/-- What holds back `o` for an older operation (R60, R61, R69, R70). -/
def blocks (p o : Op) : Bool :=
  overlap p.writes o.reads || overlap p.writes o.writes || (!p.readDone && overlap p.reads o.writes) ||
  (decide (engPath p.eng = engPath o.eng) && !p.started) ||
  (decide (o.eng = .mldw) && decide (p.eng = .mmul) && decide (p.m % 2 = o.m % 2) && !p.readDone) ||
  (decide (o.eng = .mmul) && decide (p.eng = .mldw) && decide (p.m % 2 = o.m % 2))

/-- A held transfer, and every operation of its path behind it, stands still (R244). -/
def behindHeld (c : TCore) (o : Op) : Bool :=
  decide (engPath o.eng = 4) && (olderOps c o ++ [o]).any fun p => c.heldOps.any fun h => decide (h.1 = p.tag)

def canStart (c : TCore) (o : Op) : Bool := !o.started && !(behindHeld c o) && !((olderOps c o).any fun p => blocks p o)

def setOp (c : TCore) (o : Op) : TCore := { c with sb := c.sb.map fun p => if p.tag = o.tag then o else p }

/-- The start of an operation: a vector operation works on tile memory as it stands now, the others keep what they read. -/
def startOp (o : Op) (c : TCore) : TCore :=
  let q := { o with started := true, readDone := true }
  match engPath o.eng with
  | 3 => setOp (startVector q c) q
  | 4 => setOp c { q with buf := dmaCapture o c }
  | 5 => c
  | _ => let r := startMatrix q c; setOp r.2 r.1

/-- A transfer of an item that has started: the streams it is part of, and its requests to other chips (R243, R345). -/
def startDma (tc : Nat) (o : Op) (s : State) : State :=
  match (tcAt s tc).item with
  | none => s
  | some n => match itemAt s n with
    | none => s
    | some it =>
      let sl := (itemSlot it o.slot).getD noSlot
      if o.eng = .dpf ∨ o.eng = .pbsig then s
      else
        let t := streamStart tc n it o s
        match engPages tc false it.ctx (some n) (dmaAccess o sl) (pagesOf (dmaRanges o sl)) t with
        | (none, _) => t
        | (some pages, u) =>
          let x := xferOf tc n it o sl pages u
          if farHeld u x o sl then u else askRemote x o sl u

/-- The requester of tile memory an operation's start makes a request for (R57); one that reads or writes no tile makes none. -/
def bankOfOp (o : Op) : Option Nat :=
  match o.eng with
  | .mzero => none
  | .pbsig => none
  | .dpf => none
  | .drly => none
  | e => some (bankOf (engPath e))

/-- Its request. -/
def startRequest (o : Op) (c : TCore) : TCore := match bankOfOp o with | some k => bankRequest k c | none => c

def operationStartEffect (tc tag : Nat) (s : State) : State :=
  let c := tcAt s tc
  match c.sb.find? fun o => decide (o.tag = tag) with
  | none => s
  | some o =>
    if canStart c o && issuing s then
      let t := tcPut s tc (startOp o (startRequest o c))
      match (if engPath o.eng = 4 then (tcAt t tc).sb.find? fun p => decide (p.tag = tag) else none) with
      | some p => startDma tc p t
      | none => t
    else s

def execOperationStart (tc tag : Nat) (flaws : List (Nat × Bool)) (s : State) : Host.Outcome State Fault Refusal :=
  onUnit (okTc tc) (withFlaws flaws (operationStartEffect tc tag) s)

/-! Completion -/

/-- Elements a vector operation is charged for, their rate class by width, and busy cycles (R87). -/
def vecBusy (o : Op) : Nat :=
  let a := regionOf o.qa
  let d := regionOf o.qd
  let count := fun (r : Region) => r.rows * r.cols
  let rate := fun (r : Region) (w32 w16 : Nat) => if fmtBits r.fmt = 32 then w32 else w16
  let up := fun (n k : Nat) => (n + k - 1) / k
  match o.eng with
  | .vfun => up (count d) (if fld 3 0 o.ctl ≤ 5 then 256 else 128)
  | .vscan => up (count a) 128
  | .vrand => up (count d) 128
  | .vred => up (count a) (rate a 512 1024)
  | .vtopk => up (count a) (rate a 512 1024) + 2 * (fld 7 0 o.ctl) * a.rows
  | .vcvt => up (count a) (if fmtBits a.fmt = 32 ∨ fmtBits d.fmt = 32 then 512 else 1024)
  | .vcmprs => up (count a) (rate a 512 1024)
  | .vexpd => up (count a) (rate a 512 1024)
  | .vtrn => up (count a) (rate a 512 1024)
  | .vmov => up (count d) (rate d 512 1024)
  | _ => up (count d) (rate a 512 1024)

/-- Busy cycles of the stream path (R75). -/
def streamBusy (o : Op) : Nat :=
  let r := regionOf o.qa
  match o.eng with
  | .mmul => if r.fmt = 8 then 4 * r.rows else r.rows
  | .mlda => r.rows
  | .mzero => 1
  | _ => 0

/-- A performance counter of R67. -/
def perfAdd (k n : Nat) (c : TCore) : TCore := { c with perf := tset 0 c.perf k (tget 0 c.perf k + BitVec.ofNat 64 n) }

def perfOf (o : Op) (c : TCore) : TCore :=
  if engPath o.eng = 1 then perfAdd 0 (streamBusy o) c else if engPath o.eng = 3 then perfAdd 1 (vecBusy o) c else c

/-- Perform an accumulator operation once. -/
def performOnce (c : TCore) (tag : Nat) : TCore :=
  match c.sb.find? fun o => decide (o.tag = tag) with
  | none => c
  | some o => if o.performed then c else setOp (performAcc o c) { o with performed := true }

/-- The accumulator operations up to `o` in order (R71); none may still wait to start. -/
def accUpTo (c : TCore) (o : Op) : List Op := ((olderOps c o) ++ [o]).filter fun p => isAccOp p.eng

/-- A page of the code range is fetched again; an error response faults the core (R250, R260). -/
def refetchPage (tc n : Nat) (it : Item) (vpn : Nat) (s : State) : State :=
  match (pageSpans (kernelBase it) (kernelSize it)).find? fun p => decide (p.1 / 4096 = vpn) with
  | none => s
  | some p => match codePage tc n it p s with
    | (none, t) => t
    | (some e, t) => memFault tc (memErr e.1 e.2 ⟨1, tc, some n⟩ t)

/-- A completed operation leaves the scoreboard (R58). -/
def leave (tc : Nat) (o : Op) (s : State) : State := dropOp tc o.tag (tcMod s tc (perfOf o))

/-- A transfer that finds every page, and whose lines and answers from other chips are there, moves its bytes and leaves; an error response
faults the core. A DPF leaves as it is handed on (R63). -/
def completeDma (tc : Nat) (o : Op) (s : State) : State :=
  match (tcAt s tc).item with
  | none => s
  | some n => match itemAt s n with
    | none => s
    | some it =>
      let sl := (itemSlot it o.slot).getD noSlot
      if o.eng = .dpf then dropOp tc o.tag (dpfEffect tc n it o sl s)
      else match (if o.asked then (some o.pages, s) else engPages tc false it.ctx (some n) (dmaAccess o sl) (pagesOf (dmaRanges o sl)) s) with
        | (none, _) => s
        | (some pages, t) =>
          let x := xferOf tc n it o sl pages t
          if xferWaits t x o sl then xferNacked x o sl s
          else if !o.asked && asksFar t x o sl then (if farHeld t x o sl then s else askRemote x o sl t)
          else if awaits t tc o.tag then s
          else if o.asked && !(dmaReads o.eng) && !o.wrote then (if farHeld t x o sl then s else askWrites x o sl t)
          else
            let y := dmaMove x o sl t
            let u := dropOp tc o.tag (tcMod y.2.2 tc (perfAdd (if dmaReads o.eng then 2 else 3) y.1))
            if y.2.1 then memFault tc u else u

/-- PBSIG waits for every earlier DST, DVOUT and DRLY of the core (R67, R219). -/
def completeSignal (tc : Nat) (o : Op) (s : State) : State :=
  if (olderOps (tcAt s tc) o).any fun p => decide (p.eng = .dst) || decide (p.eng = .dvout) || decide (p.eng = .drly) then s
  else signalBaton (fld 12 0 o.ctl) (o.ctl2.truncate 32) (dropOp tc o.tag s)

def completeMatrix (tc : Nat) (o : Op) (s : State) : State :=
  let c := tcAt s tc
  if isAccOp o.eng then
    if (accUpTo c o).all fun p => p.started then
      leave tc o (tcPut s tc ((accUpTo c o).foldl (fun d p => performOnce d p.tag) c))
    else s
  else leave tc o s

/-- R63; a held transfer does not complete, nor does one behind it that has not been issued (R244, R251). -/
def operationCompleteEffect (tc tag : Nat) (s : State) : State :=
  let c := tcAt s tc
  match c.sb.find? fun o => decide (o.tag = tag) with
  | none => s
  | some o =>
    if !o.started || decide (o.eng = .drly) || (behindHeld c o && !o.asked) then s
    else match engPath o.eng with
      | 3 => leave tc o s
      | 4 => if o.eng = .pbsig then completeSignal tc o s else completeDma tc o s
      | _ => completeMatrix tc o s

def execOperationComplete (tc tag : Nat) (flaws : List (Nat × Bool)) (s : State) : Host.Outcome State Fault Refusal :=
  onUnit (okTc tc) (withFlaws flaws (operationCompleteEffect tc tag) s)

/-- R57: a requester refused on 16 consecutive cycles goes to the top for its next request. -/
def execBankStarvationPromote (tc requester : Nat) (s : State) : Host.Outcome State Fault Refusal :=
  onUnit (okTc tc) (onlyIf (decide (requester < 6) && tcPresent s tc)
    (tcMod s tc fun c => { c with promote := insNat requester c.promote }) s)

/-- R51, R260, R261. -/
def dmaErrorEffect (tc : Nat) (code pa : Nat) (s : State) : State :=
  let c := tcAt s tc
  if c.item.isNone || decide (code = 0) || decide (6 < code) then s
  else memFault tc (memErr code pa ⟨1, tc, c.item⟩ s)

def execDmaErrorResponse (tc : Nat) (_fetch : Bool) (code pa : Nat) (s : State) : Host.Outcome State Fault Refusal :=
  onUnit (okTc tc) (dmaErrorEffect tc code pa s)

/-- R49: FEVEC set, no handler running, at an instruction boundary. -/
def fastEventEffect (tc : Nat) (s : State) : State :=
  let c := tcAt s tc
  match c.pend with
  | [] => s
  | src :: rest =>
    if pacerLive c && decide (c.fevec ≠ 0) && !c.inHandler && decide (c.stall = none) then
      tcPut s tc { swapBanks c with pend := rest, fepc := c.pc, festat := src, pc := c.fevec, inHandler := true }
    else s

def execFastEventEntry (tc : Nat) (s : State) : Host.Outcome State Fault Refusal := onUnit (okTc tc) (fastEventEffect tc s)

end Sys2Proof.Machine
end

