-- ==== Sys2Proof/Machine/Remote.lean ====
section
/-! DEFINITION. Remote queues and the loss of a chip (R349 to R356, R364, R365): what the submission interface, the ports and the PCIe
endpoint share. -/

namespace Sys2Proof.Machine

open Sys2Proof

/-! Remote queues -/

def rqEn (r : RQueue) : Bool := bit 0 r.cfg
def rqCtx (r : RQueue) : Nat := fld 29 16 r.cfg
/-- log2 of the ring entries, held within 4 to 12 (R357). -/
def rqLog (r : RQueue) : Nat := max 4 (min 12 (fld 35 32 r.cfg))
def rqAddr (r : RQueue) (i : W32) : Nat := fld 51 12 r.ring * 4096 + i.toNat % 2 ^ rqLog r * 64
def rqGen (r : RQueue) (i : W32) : Nat := i.toNat / 2 ^ rqLog r % 65536
def rqLive (s : State) (n : Nat) : Bool := rqEn (rqAt s n) && ctxEnabled s (rqCtx (rqAt s n))

/-- Words of a command (R351). -/
def rcWord (c : RCmd) (i : Nat) : W64 := c.words.getD i 0
def rcIsGet (c : RCmd) : Bool := decide (fld 19 16 (rcWord c 0) = 2)
def rcOrdered (c : RCmd) : Bool := bit 20 (rcWord c 0)
def rcChip (c : RCmd) : Nat := fld 43 32 (rcWord c 0)
def rcRemote (c : RCmd) : Nat := fld 43 0 (rcWord c 1)
def rcLocal (c : RCmd) : Nat := sext57 (rcWord c 2).toNat
def rcLen (c : RCmd) : Nat := fld 30 0 (rcWord c 3)

/-- A remote queue is parked, keeping its first cause, and an event is raised (R350). -/
def parkRq (n st : Nat) (idx : W32) (s : State) : State :=
  let r := rqAt s n
  scRaise r.evtSrc 0 (if r.status = 0 then rqPut s n { r with status := st, parkedAt := idx, rereads := 0 } else s)

def rqCmd (s : State) (n : Nat) (i : W32) : Option RCmd := (rqAt s n).cmds.find? fun c => decide (c.idx = i)

def rqMod (n : Nat) (i : W32) (f : RCmd → RCmd) (s : State) : State :=
  let r := rqAt s n
  rqPut s n { r with cmds := r.cmds.map fun c => if c.idx = i then f c else c }

/-- The first error of a command stands (R356). -/
def rqNote (n : Nat) (i : W32) (st det : Nat) (s : State) : State :=
  rqMod n i (fun c => if c.status = 0 then { c with status := st, detail := det } else c) s

/-- Whether the LPOST is performed (R350, R351, R354); none of a context that is torn down (R194). -/
def lpostDue (s : State) (ctx st det : Nat) (w : W64) : Bool :=
  bit 15 w && !(decide (st = 1) && decide (det = 0x11)) && decide ((ctxAt s ctx).state ≠ 2) && batonBound s (fld 12 0 w) ctx &&
  (match fld 17 16 w with | 0 => true | 1 => decide (st = 0) | 2 => decide (st ≠ 0) | _ => false)

/-- Completion of a command (R354): the status word, DONE, the LPOST. One that was not read has its index's generation (R350). -/
def rqFinish (n : Nat) (i : W32) (s : State) : State :=
  match rqCmd s n i with
  | none => s
  | some c =>
    let r := rqAt s n
    let w := memWrite (subReq none) (some (ctxPart s (rqCtx r))) (rqAddr r i + 0x38)
      (leBytes 8 (c.status + 2 ^ 8 * c.detail + 2 ^ 48 * (if c.words = [] then rqGen r i else fld 15 0 (rcWord c 0)))) s
    let t := if w.1.isSome then parkRq n 3 i w.2 else w.2
    let r := rqAt t n
    let d := advanceRun (r.doneAhead.length + 1) r.done (i :: r.doneAhead)
    let t := rqPut t n { r with cmds := r.cmds.filter (fun x => decide (x.idx ≠ i)), done := d.1, doneAhead := d.2 }
    if lpostDue t (rqCtx r) c.status c.detail (rcWord c 5) then
      signalBaton (fld 12 0 (rcWord c 5)) ((rcWord c 5) >>> 32).toNat t
    else t

/-- Nothing of the command is in flight. -/
def rqQuiet (c : RCmd) : Bool := decide (c.packets = []) && (decide (rcLen c ≤ c.sent) || decide (c.status ≠ 0))

/-- A command that has come to its end and waits to complete. -/
def rqEnded (c : RCmd) : Bool := (c.started || decide (c.status ≠ 0)) && rqQuiet c

/-- End every command of a queue with a status; those with nothing in flight complete at once, in ring order (R350, R365, R368). One that
has come to its end already completes with the status it has (R354). -/
def rqEndAll (n st det : Nat) (which : RCmd → Bool) (s : State) : State :=
  ((rqAt s n).cmds.filter which).foldl (fun t c =>
    let u := if rqEnded c then t else rqNote n c.idx st det t
    match rqCmd u n c.idx with
    | some d => if rqQuiet d then rqFinish n c.idx u else u
    | none => u) s

/-- Remote queues bound to a context and enabled. -/
def rqsOf (s : State) (ctx : Nat) : List Nat := (upto 0 256).filter fun n => rqEn (rqAt s n) && decide (rqCtx (rqAt s n) = ctx)

/-- Commands rung and not read are taken up unread (R350). -/
def rqTakeUnread (n : Nat) (s : State) : State :=
  let r := rqAt s n
  rqPut s n { r with read := r.tail, cmds := r.cmds ++ (upto 0 (r.tail - r.read).toNat).map fun k => { idx := r.read + BitVec.ofNat 32 k, words := [] } }

/-- Teardown of the bound context ends every command not yet complete (R350). -/
def rqTeardown (ctx : Nat) (s : State) : State := (rqsOf s ctx).foldl (fun t n => rqEndAll n 6 0 (fun _ => true) (rqTakeUnread n t)) s

/-- EN is cleared once every command of the context's queues has completed (R350). -/
def rqDisable (ctx : Nat) (s : State) : State :=
  (rqsOf s ctx).foldl (fun t n => rqPut t n { rqAt t n with cfg := setFld 0 0 0 (rqAt t n).cfg, status := 4 }) s

/-- RQ.STAT (R200, R357): a queue that is enabled, or was until its context was torn down, is STOPPED while the context is not ENABLED. -/
def rqStatus (s : State) (r : RQueue) : Nat :=
  if rqEn r || decide (r.status = 4) then (if !(ctxEnabled s (rqCtx r)) then 4 else if r.status = 4 then 0 else r.status) else r.status

def rqIdle (s : State) (ctx : Nat) : Bool := (rqsOf s ctx).all fun n => decide ((rqAt s n).cmds = [])

/-! Packets in flight -/

/-- A packet of a remote command has been answered: its tag is settled. -/
def settlePacket (p : Pend) (s : State) : State :=
  rqMod p.rq p.cmd (fun c => { c with packets := c.packets.filter fun t => decide (t ≠ p.tag) }) (dropPend p.tag s)

def transferAnswer (p : Pend) (code : Nat) (data : List Byte) (s : State) : State := noteAnswer p.ac p.rd ⟨p.pa, code, data⟩ (dropPend p.tag s)

/-- A window access is answered with an error: an application core's instruction faults, and a discarded store counts as done; a transfer
meets the error as it completes. -/
def failWindow (p : Pend) (code : Nat) (s : State) : State :=
  if p.kind = 4 ∨ p.kind = 5 then transferAnswer p code [] s
  else if p.kind = 6 then memErr code p.pa p.who (dropPend p.tag s)
  else if p.kind = 7 then dropPend p.tag s
  else
    let t := memErr code p.pa ⟨2, p.ac, none⟩ (dropPend p.tag s)
    let t := corePut t p.ac { coreAt t p.ac with waits := none }
    if p.kind = 0 ∨ code = 1 ∨ code = 4 then acTrap p.ac p.pa false (decide (p.kind = 1)) t else t

/-- Packets of remote commands; every other request is a window access. -/
def isRemote (p : Pend) : Bool := decide (p.kind = 2) || decide (p.kind = 3)

/-! Ports that have left service (R334) -/

/-- A request this E9 sent cannot be delivered (R340, R342, R348, R356). -/
def unreachTag (tag : Nat) (s : State) : State :=
  match pendOf s tag with
  | none => s
  | some p => if isRemote p then rqNote p.rq p.cmd 2 0 (settlePacket p s) else failWindow p 1 s

def onPort (tag n : Nat) (s : State) : State := pendSet (s.chips.pend.map fun q => if q.tag = tag then { q with port := n } else q) s

/-- What a packet's port is chosen by: the line of its request, or its group (R341). -/
def routeHash (h : BitVec 256) : Nat :=
  if hfield h 27 24 = 8 ∨ hfield h 27 24 = 9 then hfield h 107 64 % 1024 else offHash (hfield h 107 64)

/-- The original header goes back to its source, with DEST and SRC swapped (R333, R342). -/
def backHdr (h : BitVec 256) : BitVec 256 :=
  pktHdr (hfield h 23 12) (hfield h 11 0) 10 (hfield h 44 32) (hfield h 63 48) (hfield h 107 64) (hfield h 127 108 * 2 ^ 44) (hfield h 191 128)
    (hfield h 255 204 * 2 ^ 12 + hfield h 199 192 + 2 ^ 8 * hfield h 27 24)

/-- R342: a packet for another chip goes on once, on a direct board port, or comes back as UNREACHABLE. What comes from a lost chip
is discarded, and nothing goes on through or to one (R365, R366). -/
def forwardPacket (h : BitVec 256) (data : List Byte) (s : State) : State :=
  let dest := hfield h 11 0
  let l := if chipLost s dest then [] else directPorts s dest
  if chipLost s (hfield h 23 12) then s
  else if l ≠ [] then sendOn l[routeHash h % l.length]? h data s
  else if hfield h 27 24 ≠ 10 then sendOn (portFor s (hfield h 23 12) (routeHash h)) (backHdr h) [] s
  else s

/-- A packet takes the route that its destination has now (R340 to R342). -/
def resendOne (h : BitVec 256) (data : List Byte) (s : State) : State :=
  let tag := hfield h 63 48
  if hfield h 23 12 ≠ s.chips.chipId then forwardPacket h data s
  else if hfield h 11 0 = 0xFFF then sendOn (multicastPort s (routeHash h)) h data s
  else match portFor s (hfield h 11 0) (routeHash h) with
    | some n => pushPacket n h data (if reserves s h then onPort tag n s else s)
    | none => if reserves s h then unreachTag tag s else s

/-- Packets held at a port: those not acknowledged, then those not yet sent. -/
def heldPackets (p : Port) : List (BitVec 256 × List Byte) :=
  p.sent.map (fun e => e.2) ++ p.queued.filterMap fun x => match x with | .packet h d => some (h, d) | .marker _ => none

/-- Packets held at ports that are out of service are sent again under the route rules, ahead of newer ones. -/
def resendPorts (s : State) : State :=
  (upto 0 24).foldl (fun t n =>
    let p := portAt t n
    if portUp t n || decide (heldPackets p = []) then t
    else (heldPackets p).foldl (fun u q => resendOne q.1 q.2 u) (portPut t n { p with queued := [], sent := [], replay := [], room := [], acked := p.txNum })) s

/-- Requests that have not left yet and have no route any more complete as unreachable (R340 order 5, R348). -/
def unrouted (s : State) : State :=
  (s.chips.pend.filter fun p => p.held.isSome && (portFor s p.chip (offHash p.off)).isNone).foldl (fun t p => unreachTag p.tag t) s

/-! The loss of a chip -/

def setMark (b v : Nat) (s : State) : State :=
  let x := chipByte s b
  { s with chips := { s.chips with tab := tset 0 s.chips.tab b (x % 32 + 32 * v) } }

/-- Packets from a chip that wait at a port to go on are discarded (R365 step 4). -/
def dropFrom (b n : Nat) (s : State) : State :=
  let p := portAt s n
  let stays := fun (x : TxItem) => match x with | .packet h _ => decide (hfield h 23 12 ≠ b) | .marker _ => true
  if p.queued.all stays then s else portPut s n { p with queued := p.queued.filter stays }

/-- Chip `b` is lost (R365): what came from it is discarded, its commands and window accesses end, the rounds of groups that list it abort,
and it is marked and counted. -/
def chipGone (b reason : Nat) (s : State) : State :=
  if b = s.chips.chipId ∨ chipLost s b = true then s
  else
    let t := (upto 0 24).foldl (fun u n => dropFrom b n u) s
    let t := t.rqs.foldl (fun u e => endCommands e.1 u) t
    let t := (t.chips.pend.filter fun p => decide (p.chip = b) && !(isRemote p)).foldl (fun u p => failWindow p 1 u) t
    let t := t.groups.foldl (fun u e =>
      if decide (gScope e.2 ≠ 0) && decide (e.2.rounds ≠ []) && (chipList u e.2).contains b then relayAbort e.1 3 u else u) t
    let t := { t with chips := { t.chips with reasons := tset 0 t.chips.reasons b reason } }
    scRaise 7 0 (bumpObj 0x3604 1 64 1 (setMark b 2 t))
where
  /-- The packets in flight to the chip are settled, and its commands complete with CHIP_LOST. -/
  endCommands (n : Nat) (u : State) : State :=
    let v := (u.chips.pend.filter fun p => decide (p.chip = b) && isRemote p && decide (p.rq = n)).foldl (fun w p => settlePacket p w) u
    rqEndAll n 3 reason (fun c => decide (rcChip c = b)) v

/-- Loss of a chip frees what waits on it (R365), and routes through it are gone (R366). -/
def loseChip (b reason : Nat) (s : State) : State := unrouted (settleAll (retireReqs (chipGone b reason s)))

/-- The planes whose ports are in service. -/
def planesUp (s : State) : List Nat := (portsWith s fun p => decide (p.role = 2)).map fun n => (portAt s n).peerId

/-- Chips that every switch plane in service reports down are lost (R364). -/
def planesJudge (s : State) : State :=
  let l := planesUp s
  if l = [] then s
  else (s.chips.down.filter fun e => l.all fun k => e.2.testBit k).foldl (fun t e => loseChip e.1 0 t) s

/-- What follows once ports may have left service since `old`: their packets take other routes, and the planes that are left decide which
chips are down (R334, R364). -/
def resendFailed (old s : State) : State :=
  let t := unrouted (resendPorts s)
  if planesUp old = planesUp t then t else planesJudge t

end Sys2Proof.Machine
end

