-- ==== Sys2Proof/Machine/Relay.lean ====
section
/-! DEFINITION. Commands of the Relay: entries and bindings (R127 to R129, R228), acceptance, tree nodes, delivery and rounds
(R132 to R139), across chips (R358, R359), and the sequence slots' commands (R150, R228). -/

namespace Sys2Proof.Machine

open Sys2Proof

/-- R129: the write that sets VALID. -/
def execRelayGroupStart (g : Nat) (value : W64) (s : State) : Host.Outcome State Fault Refusal :=
  onUnit (okGroup g) (onlyIf (bit 0 value && !(gValid (groupAt s g))) (groupWrite g 0 value false s) s)

/-- R140: any other write of the entry, at its byte offset. -/
def execRelayGroupEntryWrite (g off : Nat) (value : W64) (s : State) : Host.Outcome State Fault Refusal :=
  onUnit (okGroup g) (onlyIf (decide (off < 64) && decide (off % 8 = 0)) (groupWrite g (off / 8) value false s) s)

/-- R228: the driver's write of BOUND and CTX with word 0. -/
def execRelayGroupBind (g : Nat) (value : W64) (s : State) : Host.Outcome State Fault Refusal :=
  onUnit (okGroup g) (groupWrite g 0 value true s)

/-! Rounds -/

/-- A DRLY whose result goes nowhere completes as soon as its contribution is accepted (R138). -/
def doneAtAccept (g : Group) (rank : Nat) : Bool := decide (gKind g ≠ 4) && !(getsResult g rank)

def dropWaiting (n k tc tag : Nat) (s : State) : State :=
  let g := groupAt s n
  match roundAt g k with
  | none => s
  | some r => groupPut s n (roundPut g { r with waiting := r.waiting.filter fun w => !(decide (w.1 = tc) && decide (w.2.1 = tag)) })

/-- The contribution of a DRLY still waits for the Relay. -/
def waitsAccept (s : State) (w : Nat × Nat × Nat) : Bool :=
  (tcAt s w.1).sb.any fun o => decide (o.tag = w.2.1) && decide (o.eng = .drly) && !o.accepted

def setRound (tc tag k : Nat) (s : State) : State :=
  tcMod s tc fun c => { c with sb := c.sb.map fun o => if o.tag = tag then { o with round := k } else o }

/-- Contributions of one rank take their rounds in the order the Relay accepts them (R134): the one accepted now takes the earliest round
that one of them still holds, and leaves its own to that one. -/
def takeEarliest (n rank tc tag k : Nat) (s : State) : State :=
  let g := groupAt s n
  match g.rounds.find? fun r => r.waiting.any fun w => decide (w.2.2 = rank) && waitsAccept s w with
  | none => s
  | some r => match r.waiting.find? fun w => decide (w.2.2 = rank) && waitsAccept s w with
    | none => s
    | some w =>
      if r.num = k then s
      else
        let own := (tc, tag, rank)
        let put := fun (x : Round) =>
          if x.num = r.num then { x with waiting := x.waiting.map fun v => if v = w then own else v }
          else if x.num = k then { x with waiting := x.waiting.map fun v => if v = own then w else v } else x
        let mine := (tcAt s tc).item.getD 0
        let its := (tcAt s w.1).item.getD 0
        let items := fun (x : Round) =>
          if x.num = r.num then { x with items := mine :: x.items.erase its } else if x.num = k then { x with items := its :: x.items.erase mine } else x
        setRound tc tag r.num (setRound w.1 w.2.1 k (groupPut s n { g with rounds := g.rounds.map fun x => items (put x) }))

/-- R133: the node reads qa, or registers the contribution. Only the open round and the one behind it are served (R132). -/
def acceptNow (tc tag : Nat) (s : State) : State :=
  let c := tcAt s tc
  match c.sb.find? fun o => decide (o.tag = tag) && decide (o.eng = .drly) with
  | none => s
  | some o =>
    let n := fld 9 0 o.ctl
    let rank := fld 35 16 o.ctl
    let g := groupAt s n
    match roundAt g o.round with
    | none => s
    | some r =>
      if o.accepted || !(canStart c { o with started := false }) || decide (g.ground + 1 < o.round) then s
      else
        let codes := if bringsData g rank then regionElems c.tile (regionOf o.qa) else []
        let t := groupPut s n (roundPut g { r with parts := aput r.parts rank codes })
        let t := tcPut t tc (setOp c { o with started := true, readDone := true, accepted := true })
        if doneAtAccept g rank then dropWaiting n o.round tc tag (dropOp tc tag t) else t

/-- R133, R134. -/
def relayAcceptEffect (tc tag : Nat) (s : State) : State :=
  match (tcAt s tc).sb.find? fun o => decide (o.tag = tag) && decide (o.eng = .drly) with
  | none => s
  | some o =>
    if o.accepted then s
    else
      let t := takeEarliest (fld 9 0 o.ctl) (fld 35 16 o.ctl) tc tag o.round s
      let u := acceptNow tc tag t
      if ((tcAt u tc).sb.any fun p => decide (p.tag = tag) && !p.accepted) then s else u

def execRelayContributionAccept (tc tag : Nat) (s : State) : Host.Outcome State Fault Refusal := onUnit (okTc tc) (relayAcceptEffect tc tag s)

/-- The node's lowest rank lies here. -/
def nodeHere (g : Group) (l m : Nat) : Bool := decide (gLo g ≤ m * 2 ^ l) && decide (m * 2 ^ l ≤ gHi g)

/-! Which E9 holds a rank (R128). The entry gives this E9's own ranks; those of the others are their entries', as constants within the
bounds that the rule sets. -/

def firstRankAt (n : Nat) (g : Group) (pos : Nat) : Nat :=
  if pos = 0 then 0
  else if pos = gPos g then gLo g
  else if pos = gPos g + 1 then gHi g + 1
  else
    let v := Config.firstRank n g.gshape g.gchip pos
    if pos < gPos g then min v (gLo g) else max v (gHi g + 1)

/-- The position of the E9 that holds a rank: the last whose ranks begin at or below it. -/
def holderOf (n : Nat) (g : Group) (rank : Nat) : Nat :=
  if gLo g ≤ rank ∧ rank ≤ gHi g then gPos g
  else (upto 0 (gCount g + 1)).foldl (fun p k => if firstRankAt n g k ≤ rank ∧ k ≠ gPos g then k else p) 0

/-- The chip at a position of the chip list. -/
def chipAt (s : State) (g : Group) (pos : Nat) : Nat := if pos = gPos g then s.chips.chipId else (chipList s g).getD pos 0

/-- The chip that holds a rank. -/
def chipOfRank (s : State) (n : Nat) (g : Group) (rank : Nat) : Nat := chipAt s g (holderOf n g rank)

/-- Last leaf of a node that exists. -/
def lastLeaf (g : Group) (l m : Nat) : Nat := min ((m + 1) * 2 ^ l) (gN g) - 1

/-- The leaves of a node lie on the E9s of one board. -/
def onOneBoard (s : State) (n : Nat) (g : Group) (l m : Nat) : Bool :=
  decide (chipOfRank s n g (m * 2 ^ l) / 8 = chipOfRank s n g (lastLeaf g l m) / 8)

/-- The first chip of a board in the chip list (R359). -/
def rootOfBoard (s : State) (g : Group) (board : Nat) : Nat := ((chipList s g).find? fun c => decide (c / 8 = board)).getD 0

/-- A barrier's node above the board level is evaluated on the root chip, in a single gather (R358). -/
def isGathered (s : State) (n : Nat) (g : Group) (l m : Nat) : Bool :=
  decide (gKind g = 4) && decide (gScope g = 2) && !(onOneBoard s n g l m)

/-- The chip that computes a node: the one with its lowest rank, or the root chip of a gather. -/
def nodeChip (s : State) (n : Nat) (g : Group) (l m : Nat) : Nat :=
  if isGathered s n g l m then chipAt s g 0 else chipOfRank s n g (m * 2 ^ l)

/-- A node is computed on this E9. -/
def computedHere (s : State) (n : Nat) (g : Group) (l m : Nat) : Bool :=
  if gScope g = 0 then nodeHere g l m else decide (nodeChip s n g l m = s.chips.chipId)

/-- Where a node's value climbs to, if its parent is computed on another E9; one of a gather goes with the gather's messages. -/
def climbsTo (s : State) (n : Nat) (g : Group) (l m : Nat) : Option Nat :=
  if gScope g = 0 ∨ treeLevels (gN g) ≤ l ∨ isGathered s n g (l + 1) (m / 2) = true ∨ computedHere s n g (l + 1) (m / 2) = true then none
  else some (nodeChip s n g (l + 1) (m / 2))

/-- Elements as bytes, each in a whole number of bytes (R360). -/
def elemBytes (f : Nat) : Nat := (fmtBits f + 7) / 8
def packElems (f : Nat) (l : List Nat) : List Byte := if fmtBits f < 8 then leBytes ((l.length * fmtBits f + 7) / 8) (packBits (fmtBits f) l) else l.flatMap (leBytes (elemBytes f))
def unpackElems (f : Nat) (n : Nat) (l : List Byte) : List Nat := (upto 0 n).map fun i => bitsOf (fmtBits f * (i + 1) - 1) (fmtBits f * i) (leNat l)

/-- Cut a group's data into packets of at most 4,096 bytes. -/
def cutPackets : Nat → List Byte → List (List Byte)
  | 0, l => [l]
  | n + 1, l => if l.length ≤ 4096 then [l] else l.take 4096 :: cutPackets n (l.drop 4096)

/-! The gather of a barrier (R358). The chips of one board stand at consecutive positions; a message of the gather carries the root's level
(DESIGN CHOICE, log 72). -/

/-- The largest nodes that cover the leaves from `lo` below `hi`, as leaves of level `l`. -/
def coverGo : Nat → Nat → Nat → Nat → List (Nat × Nat)
  | 0, _, _, _ => []
  | f + 1, l, lo, hi =>
    if hi ≤ lo then []
    else
      let a := if lo % 2 = 1 then [(l, lo)] else []
      let b := if hi % 2 = 1 then [(l, hi - 1)] else []
      a ++ b ++ coverGo f (l + 1) ((lo + 1) / 2) (hi / 2)

/-- The ranks of a board's chips: the first, and one past the last; the last board's reach the end of the tree. -/
def boardSpan (s : State) (n : Nat) (g : Group) (board : Nat) : Nat × Nat :=
  let l := (upto 0 (gCount g + 1)).filter fun p => decide (chipAt s g p / 8 = board)
  let last := l.foldl max 0
  (firstRankAt n g (l.headD 0), if last = gCount g then 2 ^ treeLevels (gN g) else firstRankAt n g (last + 1))

/-- The largest nodes that lie on one board: those whose parents are gathered. -/
def boardNodes (s : State) (n : Nat) (g : Group) (board : Nat) : List (Nat × Nat) :=
  let b := boardSpan s n g board
  (coverGo (treeLevels (gN g) + 1) 0 b.1 b.2).filter fun e => nodeThere (gN g) e.1 e.2

/-- Those of them that one chip computes. -/
def chipNodes (s : State) (n : Nat) (g : Group) (chip : Nat) : List (Nat × Nat) :=
  (boardNodes s n g (chip / 8)).filter fun e => decide (chipOfRank s n g (e.2 * 2 ^ e.1) = chip)

/-- The other chips of this board that have a part in the gather. -/
def boardMates (s : State) (n : Nat) (g : Group) : List Nat :=
  (chipList s g).filter fun c => decide (c ≠ s.chips.chipId) && decide (c / 8 = s.chips.chipId / 8) && decide (chipNodes s n g c ≠ [])

/-- With its part complete an E9 tells its board root, and a board root, with its board complete, tells the root chip. -/
def gatherCheck (n round : Nat) (s : State) : State :=
  let g := groupAt s n
  match roundAt g round with
  | none => s
  | some r =>
    let own := s.chips.chipId
    let root := rootOfBoard s g (own / 8)
    let mine := chipNodes s n g own
    if !(gValid g) || decide (gKind g ≠ 4) || decide (gScope g ≠ 2) || decide (gPos g = 0) || r.gathered ||
        mine.any (fun e => (nodeValue r e.1 e.2).isNone) then s
    else
      let go := fun (c : Nat) =>
        sendRelay 8 c n round (treeLevels (gN g)) [] (groupPut s n (roundPut g { r with gathered := true }))
      if root ≠ own then (if mine = [] then s else go root)
      else if (boardMates s n g).all r.gathers.contains then go (chipAt s g 0) else s

/-- A message of the gather: on the root chip it makes the sender's nodes known, of its whole board where it comes from another. -/
def gatherArrives (n round src : Nat) (s : State) : State :=
  let g := groupAt s n
  let r := (roundAt g round).getD (emptyRound round)
  let open_ := fun (x : Round) => groupPut s n (gSetState 1 (roundPut g x))
  if gPos g = 0 then
    let l := if src / 8 = s.chips.chipId / 8 then chipNodes s n g src else boardNodes s n g (src / 8)
    open_ { r with nodes := r.nodes ++ (l.filter fun e => (nodeValue r e.1 e.2).isNone).map fun e => (e.1, e.2, []) }
  else gatherCheck n round (open_ { r with gathers := insNat src r.gathers })

/-- R135, R137, R358: a tree node is formed where its lowest rank lies, and a node of a gather on the root chip; its value climbs to
where its parent is computed. -/
def relayCombineEffect (n round level node : Nat) (s : State) : State :=
  let g := groupAt s n
  match roundAt g round with
  | none => s
  | some r =>
    if !(gValid g) || decide (treeLevels (gN g) < level) || !(nodeThere (gN g) level node) || !(computedHere s n g level node) ||
        r.nodes.any (fun e => decide (e.1 = level) && decide (e.2.1 = node)) then s
    else match formNode g r level node with
      | none => s
      | some v =>
        let t := groupPut s n (roundPut g { r with nodes := r.nodes ++ [(level, node, v)] })
        gatherCheck n round (match climbsTo s n g level node with
          | some c => (cutPackets v.length (packElems (gFmt g) v)).foldl (fun u x => sendRelay 8 c n round level x u) t
          | none => t)

def execRelayNodeCombine (g round level node : Nat) (s : State) : Host.Outcome State Fault Refusal :=
  onUnit (okGroup g) (relayCombineEffect g round level node s)

/-- R138: the result reaches a rank's qd, and its DRLY completes. -/
def relayDeliverEffect (tc tag : Nat) (s : State) : State :=
  let c := tcAt s tc
  match c.sb.find? fun o => decide (o.tag = tag) && decide (o.eng = .drly) with
  | none => s
  | some o =>
    let n := fld 9 0 o.ctl
    let rank := fld 35 16 o.ctl
    let g := groupAt s n
    match roundAt g o.round with
    | none => s
    | some r => match rootValue g r with
      | none => s
      | some v =>
        if !o.accepted || decide (o.round ≠ g.ground) then s
        else
          let t := if getsResult g rank then tcPut s tc { c with tile := regionPut c.tile (regionOf o.qd) v } else s
          dropWaiting n o.round tc tag (dropOp tc tag t)

def execRelayResultDeliver (tc tag : Nat) (s : State) : Host.Outcome State Fault Refusal := onUnit (okTc tc) (relayDeliverEffect tc tag s)

/-- R359: the root chip sends the result once through the planes, and to the E9s of its own board. With ROOT = 1 too: no rank of theirs
takes it, and it completes the round there, as R139 has it on each E9. -/
def sendDown (n : Nat) (g : Group) (round : Nat) (v : List Nat) (s : State) : State :=
  if gScope g = 0 ∨ gPos g ≠ 0 then s
  else
    let own := s.chips.chipId
    let cuts := cutPackets v.length (packElems (gFmt g) v)
    let t := if gScope g = 2 then
      cuts.foldl (fun u x => sendOn (multicastPort u n) (pktHdr 0xFFF own 9 x.length 0 n 0 0
        (2 ^ 16 * (round % 2 ^ 32) + 2 ^ 48 * treeLevels (gN g))) x u) s else s
    ((chipList s g).filter fun c => decide (c ≠ own) && decide (c / 8 = own / 8)).foldl
      (fun u c => cuts.foldl (fun w x => sendRelay 9 c n round (treeLevels (gN g)) x w) u) t

/-- R139: with the result known and written at every local rank, the round completes. -/
def relayRoundEffect (n : Nat) (s : State) : State :=
  let g := groupAt s n
  match roundAt g g.ground with
  | none => s
  | some r => match rootValue g r with
    | none => s
    | some v =>
      if !(gValid g) || !(issuing s) || decide (r.waiting ≠ []) then s
      else
        let rest := g.rounds.filter fun x => decide (x.num ≠ r.num)
        let t := sendDown n g r.num v s
        let t := groupPut t n (gSetState (if rest = [] then 0 else 1) { g with rounds := rest, ground := g.ground + 1 })
        if bit 13 g.gbaton then signalBaton (fld 12 0 g.gbaton) ((g.gbaton >>> 32).truncate 32) t else t

def execRelayRoundComplete (g : Nat) (s : State) : Host.Outcome State Fault Refusal := onUnit (okGroup g) (relayRoundEffect g s)

/-! Sequence slots -/

/-- An accepted item names the slot (R227). -/
def slotNamed (s : State) (n : Nat) : Bool := s.items.any fun e => namesSlot e.2 n

/-- Write word `w` of slot `n` (R150, R228); the binding only with `bind`. -/
def slotWrite (n w : Nat) (v : W64) (bind : Bool) (s : State) : State :=
  let x := slotAt s n
  match w with
  | 0 =>
    let c := maskWrite 0x3FFF0001 x.ctl v
    if !bind || decide (c = x.ctl) then s
    else if slotNamed s n then { s with bindErr := true } else slotPut s n { x with ctl := c }
  | 1 => slotPut s n { x with pos := v.truncate 32 }
  | 2 => slotPut s n { x with gen := v.truncate 32 }
  | 3 => slotPut s n { x with sampler := maskWrite 0xFFFFFFFF0000007F x.sampler v }
  | 4 => slotPut s n { x with topp := v.truncate 32 }
  | 5 => slotPut s n { x with keyLo := v, chk := some (keyChkRead x) }
  | 6 => slotPut s n { x with keyHi := v, chk := some (keyChkRead x) }
  | _ => s

/-- A slot's word as it reads: keys read 0, BUSY while a running item names it. -/
def slotRead (s : State) (n w : Nat) : W64 :=
  let x := slotAt s n
  match w with
  | 0 => sqCtlRead s n
  | 1 => x.pos.zeroExtend 64
  | 2 => x.gen.zeroExtend 64
  | 3 => x.sampler
  | 4 => x.topp.zeroExtend 64
  | 7 => (keyChkRead x).zeroExtend 64
  | _ => 0

def execSqKeyWrite (slot : Nat) (high : Bool) (value : W64) (s : State) : Host.Outcome State Fault Refusal :=
  onUnit (okSlot slot) (slotWrite slot (if high then 6 else 5) value false s)

def execKeyChkUpdate (slot : Nat) (s : State) : Host.Outcome State Fault Refusal :=
  onUnit (okSlot slot) (slotPut s slot { slotAt s slot with chk := none })

def execSqBind (slot : Nat) (value : W64) (s : State) : Host.Outcome State Fault Refusal :=
  onUnit (okSlot slot) (slotWrite slot 0 value true s)

end Sys2Proof.Machine
end

