-- ==== Sys2Proof/Machine/Shadow.lean ====
section
/-! DEFINITION. Frame time in ticks (R13), the allowance of a die (R178), and what is copied when frame time comes to E (R184, R185 step 2). -/

namespace Sys2Proof.Machine

open Sys2Proof

def rasterLines (s : State) : Nat := max 1 s.tb.raster.1
/-- Ticks since 0:0.0 at the raster in force. -/
def ticksOf (s : State) (t : W64) : Nat := (fld 63 24 t * rasterLines s + fld 23 10 t) * 1024 + fld 9 0 t
def ofTicks (s : State) (k : Nat) : W64 :=
  BitVec.ofNat 64 ((k / (rasterLines s * 1024)) * 2 ^ 24 + (k / 1024 % rasterLines s) * 2 ^ 10 + k % 1024)
/-- Ticks in a span of nanoseconds at the raster in force. -/
def ticksIn (s : State) (ns : Nat) : Nat := ns * rasterLines s * 1024 * s.tb.raster.2.2.1 / (max 1 s.tb.raster.2.1 * 10 ^ 9)
/-- Start of the frame after `t`. -/
def nextFrame (t : W64) : W64 := BitVec.ofNat 64 ((fld 63 24 t + 1) * 2 ^ 24)

/-- Tensor cores of a die that run. -/
def runningOn (s : State) (d : Nat) : Nat :=
  ((upto (32 * d) 32).filter fun k => (coreItem s k).isSome).length

/-- W of a die (R178): 4 while no item runs on it. -/
def allowance (s : State) (d : Nat) : Nat := if runningOn s d = 0 then 4 else oget s 0x3203 (d + 1)

/-- ECL_STATUS (R188). -/
def eclStatus (v : Nat) (s : State) : State := oset s 0x6010 6 v

/-- Markers sent at E: on every lateral link in service, in both directions, and on every optical port in service (R185 step 2). -/
def sendMarkers (ident : Nat) (s : State) : State :=
  let t := ((upto 0 17).filter (linkUp s)).foldl (fun u i => emit (.eclMarker (2 * i + 1) ident) (emit (.eclMarker (2 * i) ident) u)) s
  ((upto 0 24).filter (portUp s)).foldl (fun u n => pushItem n (.marker ident) u) t

/-- The copies every unit makes at E (R184): SQ.CTL as it reads, keys as 0. -/
def eclCopy (e : Eclipse) (s : State) : Eclipse :=
  { e with
    capturing := true
    unlocked := decide (s.tb.state ≠ 1)
    batons := s.batons
    slots := s.slots.foldl (fun t x => tset {} t x.1 { x.2 with ctl := sqCtlRead s x.1, keyLo := 0, keyHi := 0, chk := some (keyChkRead x.2) }) []
    groups := s.groups
    ctxs := s.ctxs
    queues := s.queues
    tbState := [s.tb.state, oget s 0x6002 3, oget s 0x6002 4]
    starters := (upto 0 6).flatMap fun d => [oget s 0x3200 (d + 1), oget s 0x3201 (d + 1), oget s 0x3202 (d + 1), allowance s d] }

/-- An armed Eclipse whose E frame time comes to with `t`. -/
def eclDue (s : State) (t : W64) : Bool :=
  match s.ecl with
  | some e => !e.capturing && decide ((now s).toNat < e.time.toNat) && decide (e.time.toNat ≤ t.toNat)
  | none => false

/-- R185 step 2: the units copy what they hold just before E, and the markers go. -/
def eclCapture (s : State) : State :=
  match s.ecl with
  | none => s
  | some e => if e.capturing then s else eclStatus 2 (sendMarkers e.ident.toNat { s with ecl := some (eclCopy e s) })

/-- The last tick before E. -/
def beforeE (s : State) : W64 :=
  match s.ecl with
  | some e => ofTicks s (ticksOf s e.time - 1)
  | none => 0

end Sys2Proof.Machine
end

