-- ==== Sys2Proof/Machine/Links.lean ====
section
/-! DEFINITION. Commands of the dies and links: bond and flit errors, heartbeats, lane health, retraining and routes (R25 to R34). -/

namespace Sys2Proof.Machine

open Sys2Proof

/-- LINK_STATE (R40): two bits per link. -/
def linkStateWord (s : State) : Nat := (upto 0 17).foldl (fun n i => n + (linkAt s i).state * 4 ^ i) 0

/-- An uncorrectable bond error is a package fatal, a correctable one is counted (R25, R36). -/
def bondErrorEffect (cd : Nat) (correctable : Bool) (s : State) : State :=
  if !(cdPresent s cd) then s
  else if correctable then bumpObj 0x3123 (cd + 1) 64 1 s
  else fatal 0x0302 cd 0 s

def execBondErrorDetected (cd : Nat) (correctable : Bool) (s : State) : Host.Outcome State Fault Refusal :=
  onUnit (okCd cd) (bondErrorEffect cd correctable s)

/-- R27, R36: the flit is replayed and counted. -/
def execFlitCrcError (link : Nat) (s : State) : Host.Outcome State Fault Refusal :=
  onUnit (okLink link) (onlyIf (linkUp s link) (emit (.replay (.link link)) (bumpObj 0x3121 (link + 1) 64 1 s)) s)

/-- Whether a link or bond carries flits now. -/
def carries (s : State) (i : Nat) : Bool :=
  match bondOf i with
  | some n => cdPresent s n
  | none => linkUp s i

/-- R28: an idle direction sends a heartbeat flit. -/
def execHeartbeatFlitSend (link : Nat) (up : Bool) (s : State) : Host.Outcome State Fault Refusal :=
  onUnit (okLinkOrBond link) (onlyIf (carries s link)
    (emit (.heartbeatFlit link up) { s with boot := { s.boot with
      lastBeat := if s.boot.lastBeat.contains (link, up) then s.boot.lastBeat else (link, up) :: s.boot.lastBeat } }) s)

/-- R28, R29: loss is reported to Claryn; on a bond it is a package fatal at once. -/
def heartbeatLossEffect (link : Nat) (up : Bool) (s : State) : State :=
  if !(carries s link) then s
  else match bondOf link with
    | some n => fatal 0x0303 n 0 s
    | none => { s with boot := { s.boot with
        losses := if s.boot.losses.contains (link, up) then s.boot.losses else (link, up) :: s.boot.losses
        lastBeat := s.boot.lastBeat.filter fun b => decide (b ≠ (link, up)) } }

def execHeartbeatLoss (link : Nat) (up : Bool) (s : State) : Host.Outcome State Fault Refusal :=
  onUnit (okLinkOrBond link) (heartbeatLossEffect link up s)

def lostLinks (s : State) : List Nat :=
  (upto 0 17).filter fun i => linkUp s i && (s.boot.losses.any fun l => decide (l.1 = i))

/-- Present dies every lateral link of which has reported loss (R29). -/
def silentDies (s : State) : List Nat :=
  (upto 6 10).filter fun w =>
    let up := (linksOf w).filter (linkUp s)
    diePresent s w && decide (up ≠ []) && up.all fun i => (lostLinks s).contains i

def linkMask (l : List Nat) : Nat := l.foldl (fun n i => n + 2 ^ i) 0

/-- R29: the end of the collection period. -/
def heartbeatCollectionEffect (s : State) : State :=
  let lost := lostLinks s
  let quiet := silentDies s
  let t := { s with boot := { s.boot with losses := [], silent := quiet.foldl (fun l w => insNat w l) s.boot.silent } }
  if quiet ≠ [] then quiet.foldl (fun u w => fatal 0x0301 w (linkMask (linksOf w)) u) t
  else lost.foldl (fun u i => if linkUp u i && !(inReset u) then linkFail i u else u) t

def execHeartbeatCollectionEnd (s : State) : Host.Outcome State Fault Refusal := .next (heartbeatCollectionEffect s)

/-- R30: a lane-check flit is inserted. -/
def execCheckFlitSend (link : Nat) (up : Bool) (s : State) : Host.Outcome State Fault Refusal :=
  onUnit (okLink link) (onlyIf (linkUp s link && !(linkAt s link).held) (emit (.checkFlit link up) s) s)

/-- R30: bit errors of a lane over the 1 s window, against the limit the window began with (R36). -/
def checkFlitEffect (link : Nat) (up : Bool) (lane errors : Nat) (newWindow : Bool) (s : State) : State :=
  if !(linkUp s link) then s
  else
    let l := linkAt s link
    let l := if newWindow then { l with limit := oget s 0x2120 1, up := { l.up with errs := [] }, down := { l.down with errs := [] } } else l
    let x := linkSide l up
    let n := tget 0 x.errs lane + errors
    let t := linkPut s link (setLinkSide l up { x with errs := tset 0 x.errs lane n })
    if l.limit < n then laneFail (.link link) up lane t else t

def execCheckFlitReceived (link : Nat) (up : Bool) (lane errors : Nat) (newWindow : Bool) (s : State) :
    Host.Outcome State Fault Refusal :=
  onUnit (okLink link) (checkFlitEffect link up lane errors newWindow s)

def unitSide (s : State) (u : LaneUnit) (up : Bool) : Side :=
  match u with
  | .link i => linkSide (linkAt s i) up
  | .port n => portSide (portAt s n) up

def setUnitSide (s : State) (u : LaneUnit) (up : Bool) (x : Side) : State :=
  match u with
  | .link i => linkPut s i (setLinkSide (linkAt s i) up x)
  | .port n => portPut s n (setPortSide (portAt s n) up x)

def unitUp (s : State) (u : LaneUnit) : Bool :=
  match u with
  | .link i => linkUp s i
  | .port n => portInService (portAt s n)

/-- One lane's eye margin (R30): failing when below the minimum in three consecutive measurements. -/
def eyeLane (u : LaneUnit) (limit : Nat) (s : State) (e : Bool × Nat × Nat) : State :=
  let x := unitSide s u e.1
  if x.bad.contains e.2.1 then s
  else
    let n := if e.2.2 < limit then tget 0 x.low e.2.1 + 1 else 0
    let t := setUnitSide s u e.1 { x with low := tset 0 x.low e.2.1 n }
    if 3 ≤ n then laneFail u e.1 e.2.1 t else t

def minList : List Nat → Nat
  | [] => 0
  | [a] => a
  | a :: r => min a (minList r)

/-- One measurement of the offset sampler over a unit's lanes (R30): LINK_EYE_WORST is the lowest margin of the lanes in use (R36). -/
def eyeScanEffect (u : LaneUnit) (margins : List (Bool × Nat × Nat)) (s : State) : State :=
  if !(unitUp s u) then s
  else
    let active := margins.filter fun e => !((unitSide s u e.1).bad.contains e.2.1)
    let used := margins.filter fun e => (unitSide s u e.1).lanes.contains e.2.1
    let t := match u with
      | .link i => if used = [] then s else oset s 0x3122 (i + 1) (minList (used.map fun e => e.2.2) % 2 ^ 16)
      | .port _ => s
    let limit := match u with
      | .link _ => oget s 0x2120 2
      | .port _ => oget s 0x2121 2
    active.foldl (eyeLane u limit) t

def execEyeMarginScan (u : LaneUnit) (margins : List (Bool × Nat × Nat)) (s : State) : Host.Outcome State Fault Refusal :=
  onUnit u.ok (resendFailed s (eyeScanEffect u margins s))

/-- R30: a lane that loses bit lock is failing at once. -/
def execLaneBitLockLost (u : LaneUnit) (up : Bool) (lane : Nat) (s : State) : Host.Outcome State Fault Refusal :=
  onUnit u.ok (resendFailed s (laneFail u up lane s))

/-- R31 steps 2 and 3: the receiver switches to the spare, the failing lane is retired, and the next waiting replacement starts. -/
def spareTrainedEffect (u : LaneUnit) (s : State) : State :=
  match u with
  | .link i =>
    let l := linkAt s i
    match l.replacing with
    | none => s
    | some (up, lane, sp) =>
      let t := linkPut s i { setLinkSide l up (switchLane lane sp (linkSide l up)) with replacing := none, queue := l.queue.tail }
      match l.queue with
      | [] => t
      | e :: _ => linkSwitch i e.1 e.2 t
  | .port n =>
    let p := portAt s n
    match p.replacing with
    | none => s
    | some (up, lane, sp) =>
      let t := portPut s n { setPortSide p up (switchLane lane sp (portSide p up)) with replacing := none, queue := p.queue.tail }
      match p.queue with
      | [] => t
      | e :: _ => portSwitch n e.1 e.2 t

def execSpareTrained (u : LaneUnit) (s : State) : Host.Outcome State Fault Refusal := onUnit u.ok (spareTrainedEffect u s)

/-- Held flits of a link are replayed and counted (R32, R33, R36): one flit for each message that waited for it. -/
def replayHeld (i n : Nat) (s : State) : State :=
  if n = 0 then s else emit (.replay (.link i)) (bumpObj 0x3121 (i + 1) 64 n s)

/-- R32 steps 2 to 4: 64 lanes are chosen in each direction and the link runs at half width; held flits go, the event is raised and
the window closes. -/
def linkRetrainEffect (u : LaneUnit) (s : State) : State :=
  match u with
  | .link i =>
    let l := linkAt s i
    if !l.retraining then s
    else
      let t := replayHeld i (heldFlits s i)
        (linkPut s i { l with state := 2, retraining := false, held := false, up := chooseLanes 64 l.up, down := chooseLanes 64 l.down })
      closeWindow 0x0201 i (clarynEvent 0x1010 4 (linkStateWord t) t)
  | .port n =>
    let p := portAt s n
    if !p.retraining then s
    else
      let t := scRaise 7 0 (portPut s n { p with state := 3, retraining := false, tx := chooseLanes 4 p.tx, rx := chooseLanes 4 p.rx })
      flushPort n (closeWindow 0x0203 n (clarynEvent 0x3600 (n + 1) 3 t))

def execLinkRetrainDone (u : LaneUnit) (s : State) : Host.Outcome State Fault Refusal := onUnit u.ok (linkRetrainEffect u s)

/-- A link that the routers still use: in service, or failed with its new path not yet installed (R33). -/
def linkRouted (s : State) (i : Nat) : Bool := linkUp s i || s.pendAlt.contains i

/-- Every alternate segment over the links in service (R22). -/
def installRoutes (s : State) : Tab (List Nat) :=
  (upto 0 17).foldl (fun t i =>
    let e := linkEnds i
    if diePresent s e.1 && diePresent s e.2 && !(linkRouted s i) then tset [] t i ((altSegment (linkUp s) i).getD []) else t) []

/-- The segment chosen for a link, if it needs one. -/
def segmentOf (alt : Tab (List Nat)) (i : Nat) : Option (List Nat) :=
  let p := tget [] alt i
  if p = [] then none else some p

/-- The paths that the routers hold, for every two dies present (R19, R21). -/
def installPaths (s : State) (alt : Tab (List Nat)) : Tab (List Nat) :=
  let dies := (upto 0 16).filter (diePresent s)
  dies.foldl (fun t a => dies.foldl (fun u b =>
    if a = b then u else tset [] u (16 * a + b) (routerPath (linkRouted s) (diePresent s) (segmentOf alt) a b)) t) []

/-- Claryn has written the segments in force and the resulting paths into every router. -/
def putRoutes (s : State) : State :=
  let alt := installRoutes s
  { s with alt := alt, routes := installPaths s alt }

/-- R33: the new paths are in every router, the held flits go on them ahead of newer traffic, and the window closes. -/
def routeInstallEffect (link : Nat) (s : State) : State :=
  if !(s.pendAlt.contains link) then s
  else
    let t := replayHeld link (heldFlits s link) (linkPut s link { linkAt s link with held := false })
    closeWindow 0x0202 link (putRoutes { t with pendAlt := t.pendAlt.filter fun i => decide (i ≠ link) })

def execRouteInstallDone (link : Nat) (s : State) : Host.Outcome State Fault Refusal :=
  onUnit (okLink link) (routeInstallEffect link s)

end Sys2Proof.Machine
end

