-- ==== Sys2Proof/Machine/Secure.lean ====
section
/-! DEFINITION. Operations of the security controller: firmware images and slots (R459, R460), sealed banks (R466, R467), the
False Start alarm and its erasures (R472 to R474). -/

namespace Sys2Proof.Machine

open Sys2Proof

def slice (l : List Byte) (a n : Nat) : List Byte := (l.drop a).take n
def leAt (l : List Byte) (a n : Nat) : Nat := leNat (slice l a n)
def allZero (l : List Byte) : Bool := l.all fun b => decide (b = 0)

/-! Firmware images -/

def imgVersion (f : FwSlot) : Nat := leAt f.header 4 4
def imgRollback (f : FwSlot) : Nat := leAt f.header 8 2

/-- An image is valid but for its rollback index (R459). -/
def imgSound (digest : List Byte) (f : FwSlot) : Bool :=
  let h := f.header
  decide (h.length = 224) && decide (leAt h 0 4 = 0x53453946) &&
  decide (leAt h 10 2 = 0) && allZero (slice h 0x14 12) &&
  decide (leAt h 0x0C 4 = f.claryn.length) && decide (leAt h 0x10 4 = f.security.length) &&
  decide (224 + f.claryn.length + f.security.length ≤ 0x2000000) &&
  decide (sm3 (slice h 0x60 64) = digest) && sm2Verify (slice h 0x60 64) (slice h 0xA0 64) (slice h 0 0xA0) &&
  decide (sm3 f.claryn = slice h 0x20 32) && decide (sm3 f.security = slice h 0x40 32)

def imgValid (s : State) (f : FwSlot) : Bool :=
  imgSound s.fuse.fwKeyDigest f && decide (oget s 0x5002 3 ≤ imgRollback f)

/-- Rule 1 of R460. -/
def slotRule1 (f : FwSlot) : FwSlot := if f.state = 2 then { f with state := 4 } else f

/-- Rule 4 of R460: an invalid image fails; an EMPTY slot holds none. -/
def slotRule4 (valid : Bool) (f : FwSlot) : FwSlot := if !valid && decide (f.state ≠ 0) then { f with state := 4 } else f

/-- Slot selection (R460): the states after it, and the slot booted. -/
def selectSlot (va vb : Bool) (a b : FwSlot) : FwSlot × FwSlot × Option Nat :=
  let a := slotRule1 a
  let b := slotRule1 b
  let newA := va && decide (a.state = 1)
  let newB := vb && decide (b.state = 1)
  let goodA := va && decide (a.state = 3)
  let goodB := vb && decide (b.state = 3)
  let a' := slotRule4 va a
  let b' := slotRule4 vb b
  if newA then ({ a with state := 2 }, b', some 0)
  else if newB then (a', { b with state := 2 }, some 1)
  else if goodA && (!goodB || decide (imgVersion b ≤ imgVersion a)) then (a', b', some 0)
  else if goodB then (a', b', some 1)
  else (a', b', none)

/-! Protected values -/

/-- Whether a key names a protected object (R428). -/
def isProt (key : Nat) : Bool :=
  match findRow (key / 256) (key % 256) with
  | some r => decide (r.acc = 4)
  | none => false

def protNums (s : State) : List (Nat × Nat) := s.obj.filter fun e => isProt e.1
def protOcts (s : State) : List (Nat × List Byte) := s.oct.filter fun e => isProt e.1

/-- Every protected object at its default. -/
def protDefaults (s : State) : State :=
  { s with obj := s.obj.filter (fun e => !(isProt e.1)), oct := s.oct.filter (fun e => !(isProt e.1)) }

def applyBank (b : SealedBank) (s : State) : State :=
  let t := b.nums.foldl (fun u e => oset u (e.1 / 256) (e.1 % 256) e.2) (protDefaults s)
  b.octs.foldl (fun u e => octSet u (e.1 / 256) (e.1 % 256) e.2) t

/-! Keys (R457) -/

/-- A key derived from the fuse root key with an ASCII label (R456, R457). -/
def derivedKey (s : State) (label : List Byte) (n : Nat) : List Byte := sm3Kdf (s.fuse.rootKey ++ label) n

def labelSeal : List Byte := [0x53, 0x45, 0x41, 0x4C]
def labelIdkek : List Byte := [0x49, 0x44, 0x4B, 0x45, 0x4B]

/-- Step 2 of R458: the seal key and the identity key encryption key, of which ERASE_IDENTITY has left all ones (R474). -/
def deriveKeys (s : State) : State :=
  { s with sec := { s.sec with
      sealKey := derivedKey s labelSeal 32
      idKek := if s.fuse.idErased then List.replicate 16 0xFF else derivedKey s labelIdkek 16 } }

/-- The identity private key, unwrapped (R457): none once it is erased. -/
def idPrivate (s : State) : Option Nat :=
  if s.fuse.idErased then none
  else (gcmOpen (blk128 s.sec.idKek) (slice s.fuse.idWrap 0 12) [] (slice s.fuse.idWrap 12 32) (slice s.fuse.idWrap 44 16)).map beNat

/-- The seal of a bank's contents (R466). -/
def bankSeal (key : List Byte) (seq : Nat) (nums : List (Nat × Nat)) (octs : List (Nat × List Byte)) : List Byte :=
  hmacSm3 key (Config.sealedBytes seq nums octs)

/-- Whether a bank's seal verifies. -/
def sealOk (s : State) (b : SealedBank) : Bool := decide (b.hmac = bankSeal s.sec.sealKey b.seq b.nums b.octs)

/-- PROT_STATE for values in force: claimed while an owner key is set. -/
def claimedState (s : State) : Nat := if allZero (octGet s 0x5001 1) then 0 else 1

/-- PROT_SEQ, PROT_COMMITS_LEFT and PROT_DIGEST for the counter as it stands (R462, R468). -/
def protPublish (s : State) : State :=
  let t := oset (oset s 0x5000 2 s.fuse.counter) 0x5000 3 (2032 - s.fuse.counter)
  octSet (oset t 0x5002 3 s.fuse.rollback) 0x5000 4 (sm3 (Config.sealedBytes s.fuse.counter (protNums s) (protOcts s)))

/-- The bank not in force takes the values as they stand with the next sequence number, and the counter bit is burned (R466). -/
def sealCommit (s : State) : State :=
  let q := s.fuse.counter + 1
  let b : SealedBank := ⟨q, bankSeal s.sec.sealKey q (protNums s) (protOcts s), protNums s, protOcts s⟩
  let fl := if s.flash.sealed0.seq = s.fuse.counter ∧ sealOk s s.flash.sealed0 = true then { s.flash with sealed1 := b } else { s.flash with sealed0 := b }
  protPublish { s with flash := fl, fuse := { s.fuse with counter := s.fuse.counter + 1 } }

/-- The live ODK: the wrapped key under the identity key (R457, R471), while the identity is whole (R474). -/
def loadOdk (s : State) : State :=
  let w := octGet s 0x5002 4
  { s with sec := { s.sec with odk := if w = [] then none else ((idPrivate s).bind fun d => sm2Decrypt d w).map blk128 } }

/-- The slot that was not booted, with another content. -/
def setOtherSlot (f : FwSlot → FwSlot) (s : State) : State :=
  { s with flash := if s.boot.slotBooted = 0 then { s.flash with slotB := f s.flash.slotB } else { s.flash with slotA := f s.flash.slotA } }

/-- An update cut short leaves the slot it was writing EMPTY or FAILED (R461). -/
def abandonUpdate (s : State) : State :=
  if oget s 0x5030 4 = 1 then
    let (x, t) := drawFree s
    setOtherSlot (fun f => { f with state := if bit 0 x then 4 else 0 })
      { oset t 0x5030 4 0 with sec := { t.sec with staged := none, stagedCode := 0 } }
  else s

/-! The False Start alarm -/

/-- Zero every sequence-slot key and the live ODK (R474, R477). -/
def zeroKeys (s : State) : State :=
  { s with
    slots := s.slots.foldl (fun t e => tset {} t e.1 { e.2 with keyLo := 0, keyHi := 0, chk := none }) []
    sec := { s.sec with odk := none } }

/-- FS_LAST (R462): code, actions as policy bits, 0, 0, detail, frame time. -/
def fsRecord (code acts detail : Nat) (t : W64) : List Byte :=
  leBytes 1 code ++ leBytes 1 acts ++ [0, 0] ++ leBytes 4 detail ++ leBytes 8 t.toNat

/-- ERASE_USER (R474): an erasure commit clears ODK_WRAPPED while reserve bits are left. -/
def eraseUser (s : State) : State :=
  let t := zeroKeys s
  if octGet t 0x5002 4 = [] then t
  else if t.fuse.counter < 2048 then sealCommit (octSet t 0x5002 4 [])
  else { t with flash := { t.flash with fsLast := t.flash.fsLast.set 7 ((t.flash.fsLast.getD 7 0) ||| 0x80) } }

/-- ERASE_IDENTITY (R474): the fuses of the identity key encryption key and of the wrapped key burn to all ones. -/
def eraseIdentity (s : State) : State :=
  { s with
    fuse := { s.fuse with idErased := true, idWrap := List.replicate 60 0xFF }
    sec := { s.sec with idKek := List.replicate 16 0xFF }
    boot := { s.boot with attest := false } }

/-- The alarm (R473). `early`: raised before step 3 of R458, which performs the erasures but not the reset (R474). -/
def alarm (code detail : Nat) (early : Bool) (s : State) : State :=
  let policy := oget s 0x5002 1
  let reset := !early && (policy.testBit 0 || decide (code = 6))
  let acts := b2n reset + 2 * b2n (policy.testBit 1) + 4 * b2n (policy.testBit 2)
  let t := record 0x0403 code detail (if reset then 4 else 0) (abandonUpdate s)
  let t := { t with flash := { t.flash with fsLast := fsRecord code acts detail (now t), fsCount := (t.flash.fsCount + 1) % 2 ^ 32 } }
  let t := scRaise 6 0 t
  let t := if policy.testBit 1 then eraseUser t else t
  let t := if policy.testBit 2 then eraseIdentity t else t
  if reset then packageReset 4 t else t

/-- R467: the sealed bank whose sequence is the counter and whose seal verifies. -/
def bankInForce (s : State) : Option SealedBank :=
  [s.flash.sealed0, s.flash.sealed1].find? fun b => decide (b.seq = s.fuse.counter) && sealOk s b

/-- Steps 1 and 2 of R458 and R467: the keys, the sealed bank in force, the alarms of either step, the live ODK. The protected values hold
over a reset (R487), so an alarm acts on the FS_POLICY of the bank in force; where it has erased, no ODK comes to life again in this start. -/
def readSealed (fuseRow : Option Nat) (s : State) : State :=
  let t := deriveKeys (if s.fuse.marginal then { s with fuse := { s.fuse with marginal := false, counter := s.fuse.counter + 1 } } else s)
  let u := if t.fuse.counter = 0 then oset (protDefaults t) 0x5000 1 0
    else match bankInForce t with
      | some b => oset (applyBank b t) 0x5000 1 (claimedState (applyBank b t))
      | none => oset (protDefaults t) 0x5000 1 2
  let u := protPublish u
  let erases := (oget u 0x5002 1).testBit 1
  let lost := decide (t.fuse.counter ≠ 0) && decide (bankInForce t = none)
  let v := match fuseRow with
    | some row => alarm 5 row true u
    | none => u
  let v := if lost then alarm 1 t.fuse.counter true v else v
  if (fuseRow.isSome || lost) && erases then v else loadOdk v

end Sys2Proof.Machine
end

