-- ==== Sys2Proof/Machine/Start.lean ====
section
/-! DEFINITION. Power-up, start and package reset (R37 to R40, R458, R479 to R487, R500). -/

namespace Sys2Proof.Machine

open Sys2Proof

/-- R481 steps P1 to P3: with a sensor at or above THERM_RESTART the start waits, else package reset may be released. -/
def pwrGoodAssertEffect (hot : Bool) (s : State) : State :=
  if s.boot.phase = .off then { s with boot := { s.boot with phase := if hot then .thermalWait else .inReset, status := 0 } } else s

def execPwrGoodAssert (hot : Bool) (s : State) : Host.Outcome State Fault Refusal := .next (pwrGoodAssertEffect hot s)

/-- What a package reset keeps (R487): the boot flash, the fuses, the retained region; and what lies outside the E9. -/
def discard (phase : Phase) (r : State) : State :=
  let s := abandonUpdate r
  { State.reset with
    pending := s.pending
    fresh := s.fresh
    out := s.out
    boot := { phase := phase, thermTrip := s.boot.thermTrip, reason := s.boot.reason, fatalLine := s.boot.fatalLine, perst := s.boot.perst,
              modeSel := s.boot.modeSel, boardSlot := s.boot.boardSlot, canNode := s.boot.canNode, attest := s.boot.attest }
    fuse := s.fuse
    flash := s.flash
    faults := { s.faults with windows := [], deferred := [], stormHold := false }
    mem := {} }

/-- R480, R505: removal of power. The retained region is lost and every output is unpowered. -/
def pwrGoodDeassertEffect (s : State) : State :=
  let t := discard .off s
  { t with
    boot := { phase := .off, attest := s.boot.attest, perst := upto 0 4, modeSel := s.boot.modeSel, boardSlot := s.boot.boardSlot, canNode := s.boot.canNode }
    faults := {} }

def execPwrGoodDeassert (s : State) : Host.Outcome State Fault Refusal := .next (pwrGoodDeassertEffect s)

/-- R481 step P2: every sensor reads below THERM_RESTART. -/
def execStartThermalClear (s : State) : Host.Outcome State Fault Refusal :=
  .next (onlyIf (decide (s.boot.phase = .thermalWait)) { s with boot := { s.boot with phase := .inReset, fatalLine := false } } s)

/-- Boot configuration bank in use (R448): the higher sequence number among those that verify. -/
def cfgBank (s : State) : Option CfgBank :=
  let a := s.flash.cfg0
  let b := s.flash.cfg1
  if a.ok && (!b.ok || decide (b.seq ≤ a.seq)) then some a else if b.ok then some b else none

/-- Default role and peer of a port (R339). -/
def defaultRole (n : Nat) : Nat := if n % 12 < 10 then 1 else 2
def defaultPeer (slot n : Nat) : Nat :=
  let k := n % 12
  if k < 2 then slot ^^^ 1 else if k < 4 then slot ^^^ 2 else if k < 6 then slot ^^^ 4
  else if k = 6 then slot ^^^ 3 else if k = 7 then slot ^^^ 5 else if k = 8 then slot ^^^ 6 else if k = 9 then slot ^^^ 7
  else if n = 10 then 0 else if n = 11 then 1 else if n = 22 then 2 else 3

/-- Objects whose default comes from a strap, from R339, or from the start itself (R369, R452). -/
def strapDefaults (s : State) : State :=
  let slot := s.boot.boardSlot.toNat
  let t := oset (oset s 0x2400 1 slot) 0x2400 2 slot
  let t := (upto 0 24).foldl (fun u n => oset (oset u 0x2401 (n + 1) (defaultRole n)) 0x2402 (n + 1) (defaultPeer slot n)) t
  oset (oset t 0x1100 1 t.boot.canNode.toNat) 0x1100 3 (if t.boot.canNode = 0 then 4 else 0)

/-- Claryn applies the boot configuration (R447, R448). -/
def applyConfig (s : State) : State :=
  match cfgBank s with
  | some b =>
    let t := b.nums.foldl (fun u e => oset u (e.1 / 256) (e.1 % 256) e.2) s
    oset (b.octs.foldl (fun u e => octSet u (e.1 / 256) (e.1 % 256) e.2) t) 0x1106 3 b.seq
  | none => clarynEvent 0x1106 3 0 s

/-- R481 step 2, R445: configuration, INCARNATION, the retained records, the first heartbeat. -/
def clarynStart (s : State) : State :=
  let t := { s with boot := { s.boot with claryn := true } }
  let t := applyConfig (strapDefaults t)
  let inc := (t.flash.incarnation + 1) % 2 ^ 32
  let storms := (t.faults.stormsKept ++ t.flash.storms).take 2
  let t := { t with
    flash := { t.flash with incarnation := inc, storms := storms, resetReason := t.faults.resetReason, resetCount := t.faults.resetCount }
    faults := { t.faults with stormsKept := [] }
    pwr := { t.pwr with volts := t.flash.volts }
    chips := { t.chips with chipId := oget t 0x2400 1, slotOk := decide (oget t 0x2400 1 % 8 = t.boot.boardSlot.toNat) }
    tb := { t.tb with raster := (oget t 0x6001 1, oget t 0x6001 2, oget t 0x6001 3, oget t 0x6001 4) } }
  let t := oset t 0x2400 3 inc
  let t := oset (oset t 0x4200 1 t.flash.hours) 0x4200 4 t.flash.replanHours
  let t := oset t 0x7002 6 (storms.getD 0 0 + 2 ^ 32 * storms.getD 1 0)
  let t := oset { t with cla := { t.cla with dhcp := decide (oget t 0x1101 2 = 1) } } 0x1101 6 (if oget t 0x1101 2 = 0 then oget t 0x1101 3 else 0)
  let t := if t.chips.slotOk then t else clarynEvent 0x2400 1 t.chips.chipId t
  sendHeartbeat 0 0 t

/-- R458, R460: the slot is chosen and verified; with a valid one Claryn is released. -/
def secureBoot (s : State) : State :=
  let sel := selectSlot (imgValid s s.flash.slotA) (imgValid s s.flash.slotB) s.flash.slotA s.flash.slotB
  let t := { s with flash := { s.flash with slotA := sel.1, slotB := sel.2.1 } }
  match sel.2.2 with
  | none => t
  | some k =>
    let f := if k = 0 then sel.1 else sel.2.1
    let t := { t with boot := { t.boot with measure := sm3 (slice f.header 0 0xA0), slotBooted := k } }
    clarynStart (oset (oset t 0x100A 1 (imgVersion f)) 0x100A 2 (imgVersion f))

/-- R481 step 1: the straps are sampled, the self-tests begin, the security controller starts from ROM. -/
def packageResetReleaseEffect (modeSel : Bool) (boardSlot : BitVec 3) (canNode : BitVec 7) (fuseRow : Option Nat) (xd0Pass : Bool)
    (s : State) : State :=
  if s.boot.phase ≠ .inReset then s
  else
    let t := { s with boot := { s.boot with
      phase := .starting, status := 0, fatalLine := false, modeSel := modeSel, boardSlot := boardSlot, canNode := canNode
      attest := !s.fuse.idErased, selfTest := tset 0 [] 14 (if xd0Pass then 1 else 2), bonds := [], probes := [], flooded := false } }
    if xd0Pass then secureBoot (readSealed fuseRow t) else t

def execPackageResetRelease (modeSel : Bool) (boardSlot : BitVec 3) (canNode : BitVec 7) (fuseRow : Option Nat) (xd0Pass : Bool)
    (s : State) : Host.Outcome State Fault Refusal :=
  .next (packageResetReleaseEffect modeSel boardSlot canNode fuseRow xd0Pass s)

def starting (s : State) : Bool := decide (s.boot.phase = .starting)

/-- R37 step 2. -/
def execSelfTestComplete (die : Nat) (pass : Bool) (s : State) : Host.Outcome State Fault Refusal :=
  onUnit (okDie die) (onlyIf (starting s && dieFitted s.fuse.part die && decide (die ≠ 14))
    { s with boot := { s.boot with selfTest := tset 0 s.boot.selfTest die (if pass then 1 else 2) } } s)

/-- The two dies of a lateral link, or of the bond 17 + n. -/
def allEnds (i : Nat) : Nat × Nat := if 17 ≤ i then (i - 17, winMD (i - 17)) else linkEnds i

/-- The class of a die (R37), and its links by port number. The spec gives each port a fixed number and does not list them: a die's lateral
links in the order of R18, then its bond (DESIGN CHOICE, log 107). -/
def dieClass (w : Nat) : Nat := if w < 6 then 0 else if w < 12 then 1 else if w < 14 then 2 else 3
def diePorts (w : Nat) : List Nat := if w < 6 then [17 + w] else linksOf w ++ (if w < 12 then [11 + w] else [])
def portOn (w i : Nat) : Nat := (diePorts w).findIdx fun k => decide (k = i)
def serialOf (s : State) (w : Nat) : Nat := s.fuse.dieSerials.getD w 0

/-- What the end of link `i` on die `src` sends to its other end on die `dst` (R37 step 3). -/
def probeOf (s : State) (i src dst : Nat) : Probe :=
  ⟨dieClass src, portOn src i, serialOf s src, decide (tget 0 s.boot.selfTest src = 1), s.fuse.part, serialOf s dst, portOn dst i⟩

/-- Each end of a trained link sends its probe (R37 step 3). -/
def sendProbes (i : Nat) (s : State) : State :=
  let e := allEnds i
  let p := probeOf s i e.1 e.2
  let q := probeOf s i e.2 e.1
  emit (.probe q.cls q.port q.serial q.pass q.fuse) (emit (.probe p.cls p.port p.serial p.pass p.fuse)
    { s with boot := { s.boot with probes := p :: q :: s.boot.probes } })

/-- Data connections of a bond in each direction (R24). -/
def bondLanes : Nat := 80000

/-- R37 steps 2 and 3: the lanes a link trained on, by those that failed, and the probes of its two ends. Both dies have ended their
self-tests by then. A bond trains on all its connections or not at all (R24). -/
def linkTrainingEffect (link : Nat) (failedUp failedDown : List Nat) (s : State) : State :=
  let e := allEnds link
  if !(starting s) || decide (tget 0 s.boot.selfTest e.1 = 0) || decide (tget 0 s.boot.selfTest e.2 = 0) then s
  else match bondOf link with
    | some n =>
      if (failedUp ++ failedDown).any (fun k => decide (k < bondLanes)) then { s with boot := { s.boot with bonds := tset 0 s.boot.bonds n 1 } }
      else sendProbes link { s with boot := { s.boot with bonds := tset 0 s.boot.bonds n 2 } }
    | none =>
      let up := trainedSide 136 failedUp
      let down := trainedSide 136 failedDown
      let t := linkPut s link { up := up, down := down, limit := oget s 0x2120 1 }
      if up.lanes = [] ∨ down.lanes = [] then t else sendProbes link t

def execLinkTrainingComplete (link : Nat) (failedUp failedDown : List Nat) (s : State) : Host.Outcome State Fault Refusal :=
  onUnit (okLinkOrBond link) (linkTrainingEffect link failedUp failedDown s)

/-- R37 step 4. -/
def execDiscoveryRequest (s : State) : Host.Outcome State Fault Refusal :=
  .next (onlyIf (starting s && s.boot.claryn) (emit .discoveryFlood { s with boot := { s.boot with flooded := true } }) s)

/-- One probe record seen from a die already numbered: the port it arrived at fixes the number of the die that sent it (R37 step 5). -/
def numberProbe (nums : List (Nat × Nat)) (p : Probe) : List (Nat × Nat) :=
  match aget nums p.atSerial with
  | none => nums
  | some w =>
    match (diePorts w)[p.atPort]? with
    | none => nums
    | some i =>
      let e := allEnds i
      let d := if e.1 = w then e.2 else e.1
      if (aget nums p.serial).isSome || decide (dieClass d ≠ p.cls) then nums else nums ++ [(p.serial, d)]

/-- The dies by serial number: XD0 is the one with its anchor tied, and every other die is numbered from port positions relative to it. -/
def numberDies (s : State) : List (Nat × Nat) :=
  (upto 0 10).foldl (fun nums _ => s.boot.probes.foldl numberProbe nums) [(serialOf s 14, 14)]

/-- XD0 has a probe from die `w` that names its self-test result (R37, R38); its own it knows. -/
def heardTest (s : State) (nums : List (Nat × Nat)) (w : Nat) (pass : Bool) : Bool :=
  if w = 14 then decide (tget 0 s.boot.selfTest 14 = if pass then 1 else 2)
  else s.boot.probes.any fun p => decide (aget nums p.serial = some w) && decide (p.pass = pass)

/-- A die found, fitted and passed (R38). -/
def passed (s : State) (nums : List (Nat × Nat)) (w : Nat) : Bool := dieFitted s.fuse.part w && heardTest s nums w true

/-- The graph has the link: a probe from each end, at the ports that R18 gives it (R37 step 5). -/
def edgeFound (s : State) (nums : List (Nat × Nat)) (i : Nat) : Bool :=
  let e := allEnds i
  let one := fun (a b : Nat) => s.boot.probes.any fun p =>
    decide (aget nums p.serial = some a) && decide (aget nums p.atSerial = some b) && decide ((diePorts a)[p.port]? = some i) && decide ((diePorts b)[p.atPort]? = some i)
  one e.1 e.2 && one e.2 e.1

def lowerLanes (s : State) (i : Nat) : Nat := min (healthy (linkAt s i).up) (healthy (linkAt s i).down)

/-- A lateral link that discovery keeps (R38). -/
def linkKept (s : State) (nums : List (Nat × Nat)) (i : Nat) : Bool :=
  passed s nums (linkEnds i).1 && passed s nums (linkEnds i).2 && edgeFound s nums i && decide (64 ≤ lowerLanes s i)

def bondTrained (s : State) (n : Nat) : Bool := decide (tget 0 s.boot.bonds n = 2)

/-- Whether a die is present after discovery (R38), over the dies XD0 reaches. -/
def dieKept (s : State) (nums : List (Nat × Nat)) (reach : List Nat) (w : Nat) : Bool :=
  if w < 6 then passed s nums w && bondTrained s w && passed s nums (6 + w) && reach.contains (6 + w)
  else passed s nums w && reach.contains w

/-- DIE_PRESENT (R40). -/
def presentMask (s : State) : Nat :=
  let nums := numberDies s
  let kept := (upto 0 17).filter (linkKept s nums)
  let reach := reachable fun i => kept.contains i
  (upto 0 16).foldl (fun n w => if dieKept s nums reach w then n + 2 ^ w else n) 0

/-- Why a fitted die was mapped out (R495): 1 self-test, 2 bond, 3 no path. -/
def mapOutReason (s : State) (nums : List (Nat × Nat)) (w : Nat) : Nat :=
  if heardTest s nums w false then 1 else if w < 6 ∧ !(bondTrained s w) then 2 else 3

/-- R39. -/
def minimumMet (p : Nat) : Bool :=
  p.testBit 14 && (p.testBit 12 || p.testBit 13) && (upto 0 6).any fun n => p.testBit n && p.testBit (6 + n)

/-- The width a lateral link starts at (R38), by its lower count: 3 full, 2 half, 0 mapped out. -/
def startWidth (n : Nat) : Nat := if 128 ≤ n then 3 else if 64 ≤ n then 2 else 0

/-- A lateral link as it starts: the lanes that carry its logical lanes, and the spares (R38). -/
def startLink (l : Link) (st : Nat) : Link :=
  if st = 0 then { l with state := 0 }
  else
    let w := if st = 3 then 128 else 64
    { l with state := st, up := chooseLanes w l.up, down := chooseLanes w l.down }

/-- R38 for one lateral link: one between dies that passed and too narrow is mapped out, and logged even where that cuts a die off. -/
def judgeLink (mask : Nat) (nums : List (Nat × Nat)) (u : State) (i : Nat) : State :=
  let e := linkEnds i
  let both := mask.testBit e.1 && mask.testBit e.2
  let n := lowerLanes u i
  let st := if both then startWidth n else 0
  let t := linkPut u i (startLink (linkAt u i) st)
  let judged := dieFitted u.fuse.part e.1 && dieFitted u.fuse.part e.2 && !(heardTest u nums e.1 false) && !(heardTest u nums e.2 false)
  if st = 2 then record 0x0406 i n 0 t else if judged && decide (n < 64) then record 0x0405 i n 0 t else t

/-- Link states, records of what is mapped out, and the paths in every router (R37 steps 5 to 7, R38). -/
def discover (s : State) : State :=
  let nums := numberDies s
  let mask := presentMask s
  let t := { s with present := mask }
  let t := (upto 0 16).foldl (fun u w =>
    if dieFitted u.fuse.part w && !(mask.testBit w) then record 0x0404 w (mapOutReason s nums w) 0 u else u) t
  putRoutes ((upto 0 17).foldl (judgeLink mask nums) t)

/-- R493: the two latest storm resets lie within 3,600 powered seconds. -/
def stormRule (s : State) : Bool :=
  match s.flash.storms with
  | a :: b :: _ => decide (a - b ≤ 3600)
  | _ => false

/-- The held state (R483). -/
def enterHeld (result : Nat) (s : State) : State :=
  let t := record 0x0407 0 result 0 s
  { t with
    boot := { t.boot with phase := .held, status := 2 }
    faults := { t.faults with startResult := result, stormHold := decide (result = 2) } }

/-- V_MAX of a die with a regulator (R403). -/
def vMax (w : Nat) : Nat := if w < 6 then 800 else Config.adVmax

/-- Planned millivolts of an operating point at first start (R403); of an application die's clock the spec states none, but that it never
exceeds V_MAX. -/
def plannedMv (w pt : Nat) : Nat := if w < 6 then [750, 720, 690, 660, 630, 600, 580, 560].getD pt 560 else min Config.adVmax (Config.adPlanned pt)

/-- Voltage of a die's point: as planned at first start, or as re-planned; 0 where withdrawn (R403, R421). -/
def voltAt (s : State) (w pt : Nat) : Nat :=
  match tget 0 s.pwr.volts (16 * w + pt) with
  | 0 => plannedMv w pt
  | v + 1 => v

/-- The voltage a die's regulator gives at a point: with what Lap action has raised (R420), never above V_MAX (R403); 0 at a withdrawn point. -/
def dieMv (s : State) (w pt : Nat) : Nat :=
  if voltAt s w pt = 0 then 0 else min (vMax w) (voltAt s w pt + tget 0 s.pwr.boost w)

/-- Operating points a die has: eight of a CD (R403), and the six clocks of an AD (R407). -/
def pointsOf (w : Nat) : Nat := if w < 6 then 8 else 6

/-- Top level of a die under ageing (R421): the lowest-numbered point not withdrawn. -/
def topPoint (volts : Tab Nat) (w : Nat) : Option Nat := (upto 0 (pointsOf w)).find? fun p => decide (tget 0 volts (16 * w + p) ≠ 1)

/-- The level of a die's top point; with no point held the spec names none: some level it has. -/
def planTop (volts : Tab Nat) (w : Nat) : Nat := (topPoint volts w).getD (Config.noPointLevel w % (if w < 6 then 23 else 6))

/-- The dies with a regulator and operating points that are present (R404). -/
def poweredDies (s : State) : List Nat := [0, 1, 2, 3, 4, 5, 12, 13].filter (diePresent s)

/-- Top levels of the present dies that have operating points. -/
def topLevels (s : State) : Tab Nat := (poweredDies s).foldl (fun t w => tset 0 t w (planTop s.pwr.volts w)) []

/-- The largest of the four levels of R407. -/
def ownLevel (s : State) (d : Nat) : Nat :=
  max (max s.pwr.level (tget 0 s.pwr.thermal d)) (max (tget 0 s.pwr.topLevel d) (tget 0 s.pwr.lap d))

/-- The level a CD runs at (R407), with the supply guard's addition (R410). -/
def levelOf (s : State) (d : Nat) : Nat := min 22 (ownLevel s d + s.pwr.guardAdd)

/-- Operating point of a level (R406). -/
def pointOf (l : Nat) : Nat := min 7 l

/-- 400 MHz steps by which an AD's thermal limit and its top level lower the application-core clock, down to 1.2 GHz (R407, R417, R421). -/
def adSteps (s : State) (a : Nat) : Nat := min 5 (max (tget 0 s.pwr.adDrop a) (tget 0 s.pwr.topLevel (12 + a)))

/-- Application-core clock of an AD (R407). -/
def adFreq (s : State) (a : Nat) : Nat := min (oget s 0x4000 5) (3200 - 400 * adSteps s a)

/-- The voltage a die has in use; one on its way to another point counts at the higher of the two (R404, R405). -/
def usedMv (s : State) (w : Nat) : Nat :=
  if w < 6 then max (dieMv s w (tget 0 s.pwr.point w)) (if tget 0 s.pwr.target w = 0 then 0 else dieMv s w (tget 0 s.pwr.target w - 1))
  else dieMv s w ((3200 - adFreq s (w - 12)) / 400)

/-- The core rail (R404): 20 mV above the highest die voltage in use, within 600 mV to 820 mV. -/
def railMv (s : State) : Nat := max 600 (min 820 (((poweredDies s).map (usedMv s)).foldl max 0 + 20))

/-- What LIMIT_CAUSE shows (R424). A withdrawn point is in effect where a present die does not hold its first. -/
def limitCause (s : State) : Nat :=
  let any (f : Nat → Bool) := (upto 0 6).any fun d => cdPresent s d && f d
  b2n (decide (s.pwr.level ≠ 0)) +
  2 * b2n (any (fun d => decide (tget 0 s.pwr.thermal d ≠ 0)) || decide (s.pwr.adDrop ≠ [])) +
  4 * b2n s.pwr.fastOn + 8 * b2n (decide (s.pwr.guardAdd ≠ 0)) +
  16 * b2n ((poweredDies s).any fun w => decide (topPoint s.pwr.volts w ≠ some 0)) +
  32 * b2n (decide (s.pwr.lap ≠ []) || decide (s.pwr.boost ≠ []))

/-- The plan applied before the compute dies are released (R422): each CD stands at the point of its top level, as DIE_LEVEL shows. -/
def applyPlan (s : State) : State :=
  let t := { s with pwr := { s.pwr with topLevel := topLevels s, mode := oget s 0x4000 3 } }
  (poweredDies t).foldl (fun u w =>
    if w < 6 then
      let v := oset { u with pwr := { u.pwr with point := tset 0 u.pwr.point w (pointOf (levelOf u w)) } } 0x4011 (w + 1) (levelOf u w)
      oset v 0x4203 (w + 1) (tget 0 v.pwr.topLevel w)
    else u) t

/-- R481 step 4: the stored voltage plan, the core rail, and frame time from 0:0.0 in ACQUIRING, or in FREE_RUN where TB_SOURCE is 3 (R161). -/
def startPower (s : State) : State :=
  let t := { s with
    boot := { s.boot with phase := .discovered }
    tb := { s.tb with on := true, state := 0, now := 0 } }
  let t := if oget t 0x6000 1 = 3 then scRaise 2 0 { t with tb := { t.tb with state := 3 } } else t
  let t := applyPlan t
  emit (.railSet (railMv t)) t

/-- R37 steps 5 to 7, R39, R481 step 4. -/
def discoveryCompleteEffect (micros : Nat) (s : State) : State :=
  if !(starting s && s.boot.claryn && s.boot.flooded) then s
  else
    let t := oset (discover s) 0x1010 5 (micros % 2 ^ 32)
    if !(minimumMet t.present) then enterHeld 1 t
    else if stormRule t then enterHeld 2 t
    else startPower t

def execDiscoveryComplete (micros : Nat) (s : State) : Host.Outcome State Fault Refusal := .next (discoveryCompleteEffect micros s)

/-- Retired channels of a tile, from Claryn's record (R275). -/
def retiredOf (s : State) (md : Nat) : List Nat :=
  (s.flash.retired.filter fun c => decide (c / 128 = md)).map fun c => c % 128

/-- R481 step 5, R266, R275: memory zeroed, retirements applied, ports and root ports begin training. -/
def hbmZeroCompleteEffect (s : State) : State :=
  if s.boot.phase ≠ .discovered then s
  else
    let t := { s with mem := {}, coh := {} }
    let t := (upto 0 6).foldl (fun u n =>
      if mdPresent u n && decide (retiredOf u n ≠ []) then mdPut u n { mdAt u n with retired := retiredOf u n, withdrawn := true } else u) t
    let t := (upto 0 24).foldl (fun u n =>
      if !(portPresent u n) || decide (oget u 0x2401 (n + 1) = 0) then u
      else portPut u n { portAt u n with
        state := if u.chips.slotOk then 2 else 1, role := oget u 0x2401 (n + 1), peerId := oget u 0x2402 (n + 1) }) t
    let t := (upto 0 4).foldl (fun u p => if u.boot.perst.contains p then emit (.perst p false) u else u) t
    { t with boot := { t.boot with phase := .zeroed, perst := [] } }

def execHbmZeroComplete (s : State) : Host.Outcome State Fault Refusal := .next (hbmZeroCompleteEffect s)

/-- Base of the lowest-numbered present tile (R482). -/
def lowestTile (s : State) : Nat := ((upto 0 6).find? (mdPresent s)).getD 0 * 0x8000000000

/-- A TRYING slot becomes GOOD (R460). -/
def confirmSlot (f : FwSlot) : FwSlot := if f.state = 2 then { f with state := 3 } else f

/-- R481 step 6, R482, R445: the application boot region is copied, every present hart starts, RUN_STATE is 1. -/
def bootCopyCompleteEffect (micros : Nat) (s : State) : State :=
  if s.boot.phase ≠ .zeroed then s
  else
    let base := lowestTile s
    let hbm := s.flash.app.foldl (fun m e => if e.1 < 0x400000 then tset 0 m (base + e.1) e.2 else m) s.mem.hbm
    let cores := ((upto 0 128).filter (acPresent s)).foldl (fun t n =>
      tset {} t n { on := true, pc := BitVec.ofNat 64 base, x := tset 0 [] 10 (BitVec.ofNat 64 n) }) s.cores
    let t := { s with
      mem := { s.mem with hbm := hbm }
      cores := cores
      flash := { s.flash with slotA := confirmSlot s.flash.slotA, slotB := confirmSlot s.flash.slotB }
      boot := { s.boot with phase := .running, status := 1 }
      faults := { s.faults with startResult := 0 } }
    sendHeartbeat 1 0 (oset t 0x7002 4 (micros % 2 ^ 32))

def execBootCopyComplete (micros : Nat) (s : State) : Host.Outcome State Fault Refusal := .next (bootCopyCompleteEffect micros s)

/-- R500: Claryn not running 1 s after the release of package reset. -/
def execStartFailTimeout (s : State) : Host.Outcome State Fault Refusal :=
  .next (onlyIf (starting s && !s.boot.claryn) { s with boot := { s.boot with phase := .failed, status := 3 } } s)

/-- R485 step 1: a class-3 fault asserts the package fatal line. -/
def execFatalLineAssert (code unit detail : Nat) (s : State) : Host.Outcome State Fault Refusal :=
  .next (onlyIf (decide (faultClass code = 3)) (fatal code unit detail s) s)

/-- R486: a present die whose class-3 report is not acknowledged asserts the line itself. -/
def execFatalReportTimeout (die code unit detail : Nat) (s : State) : Host.Outcome State Fault Refusal :=
  onUnit (okDie die) (onlyIf (diePresent s die && decide (faultClass code = 3)) (fatal code unit detail s) s)

/-- R485 step 3, R487: every die is held in reset and the run's state is gone. -/
def execGoingDownEnd (s : State) : Host.Outcome State Fault Refusal :=
  .next (onlyIf (decide (s.boot.phase = .goingDown)) (discard .resetHold s) s)

/-- R485 step 4: the hold ends; after reason 0x05 with a hot sensor the start waits (R419). -/
def execResetHoldEnd (hot : Bool) (s : State) : Host.Outcome State Fault Refusal :=
  .next (onlyIf (decide (s.boot.phase = .resetHold))
    { s with boot := { s.boot with phase := if s.boot.reason = 5 ∧ hot = true then .thermalWait else .inReset, fatalLine := false } } s)

/-- R488 step 1: the die falls silent on its links. -/
def execDieBrownout (die : Nat) (s : State) : Host.Outcome State Fault Refusal :=
  onUnit (okDie die) (onlyIf (diePresent s die)
    { s with boot := { s.boot with silent := insNat die s.boot.silent, lastBeat := s.boot.lastBeat.filter fun b => !((linksOf die).contains b.1) } } s)

end Sys2Proof.Machine
end

