-- ==== Sys2Proof/Machine/Submit.lean ====
section
/-! DEFINITION. The submission unit: contexts (R191 to R194, R517), doorbells and rings (R195 to R201), acceptance (R202 to R210),
and the end of items (R211). -/

namespace Sys2Proof.Machine

open Sys2Proof

/-! Contexts -/

def bytesWord (l : List Byte) (i : Nat) : W64 := BitVec.ofNat 64 (leNat ((l.drop (8 * i)).take 8))
def wordsOf (l : List Byte) (n : Nat) : List W64 := (upto 0 n).map (bytesWord l)

/-- Bits of the entry's words that hold a field; of GATP the bits hgatp leaves reserved are outside (R192, R229). -/
def ctxEntryMask (i : Nat) : Nat :=
  [0x1F0003FFFF, 0xFFFFFFFFFFFFFFFF, 0xF3FFFFFFFFFFFFFF, 0xFFFF, 0xFFFFFFFFFF01F, 0xFFFFFFFFFF000, 0xFFFFFFFFFF01F, 0xFFFFFFFFFF000,
   0xFFFFFFFFFF01F, 0xFFFFFFFFFF000, 0xFFFFFFFFFF01F, 0xFFFFFFFFFF000].getD i 0

/-- No reserved bit of a word is set (R11). -/
def noReserved (mask : Nat) (w : W64) : Bool := decide (w.toNat &&& (2 ^ 64 - 1 - mask) = 0)

def entryQueues (e : List W64) : Nat := fld 15 14 (e.getD 0 0) + 1

/-- The entry of one queue: a size of 4 to 16, or all zero beyond NQ (R192). -/
def queueEntryOk (e : List W64) (q : Nat) : Bool :=
  let d := e.getD (4 + 2 * q) 0
  if q < entryQueues e then decide (4 ≤ fld 4 0 d) && decide (fld 4 0 d ≤ 16) else decide (d = 0) && decide (e.getD (5 + 2 * q) 0 = 0)

/-- Check 2 of R517. -/
def entryOk (s : State) (c : Nat) (e : List W64) : Bool :=
  let range := BitVec.ofNat 64 (oget s 0x5103 (fld 3 0 (e.getD 0 0) + 1))
  ((upto 0 16).all fun i => noReserved (ctxEntryMask i) (e.getD i 0)) && ((upto 0 4).all (queueEntryOk e)) &&
  (decide (rootMode (e.getD 1 0) = 0) || decide (rootMode (e.getD 1 0) = 10)) &&
  (decide (rootMode (e.getD 2 0) = 0) || decide (rootMode (e.getD 2 0) = 10)) &&
  decide (fld 13 0 range ≤ c) && decide (c ≤ fld 29 16 range)

/-- Where a byte of a ring may lie (check 3 of R517). -/
def ringByteOk (s : State) (part pa : Nat) : Bool :=
  match target s pa with
  | .hbm n => reaches s (some part) n
  | .board _ _ => reaches s (some part) 6
  | .host _ => s.boot.modeSel && reaches s (some part) 7
  | _ => false

def ringOk (s : State) (part pa n : Nat) : Bool := decide (pa % n = 0) && ringByteOk s part pa && ringByteOk s part (pa + n - 1)

def ringsOk (s : State) (e : List W64) : Bool :=
  (upto 0 (entryQueues e)).all fun q =>
    let k := fld 4 0 (e.getD (4 + 2 * q) 0)
    let part := fld 3 0 (e.getD 0 0)
    ringOk s part (fld 51 12 (e.getD (4 + 2 * q) 0) * 4096) (128 * 2 ^ k) && ringOk s part (fld 51 12 (e.getD (5 + 2 * q) 0) * 4096) (64 * 2 ^ k)

/-- A write of SUB.CTX_CMD is ignored while a command is in progress (R193). -/
def ctxResult (r : Nat) (s : State) : State := { s with cmdStat := r }

/-- R193, R517. -/
def contextEnableEffect (c : Nat) (s : State) : State :=
  if s.cmdBusy then s
  else if (ctxAt s c).state ≠ 0 then ctxResult 1 s
  else
    let r := memRead (subReq none) none (s.ctxBase.toNat + 128 * c) 128 s
    match r.1 with
    | .error _ => ctxResult 2 r.2
    | .ok l =>
      let e := wordsOf l 16
      if !(entryOk r.2 c e) then ctxResult 2 r.2
      else if !(ringsOk r.2 e) then ctxResult 3 r.2
      else
        let t := ctxPut r.2 c { ctxAt r.2 c with state := 1, entry := e, misses := 0, refusals := 0 }
        ctxResult 0 ((upto 0 4).foldl (fun u q => queuePut u (qKey c q) {}) t)

def execContextEnable (ctx : Nat) (flaws : List (Nat × Bool)) (s : State) : Host.Outcome State Fault Refusal :=
  onUnit (okCtx ctx) (withFlaws flaws (contextEnableEffect ctx) s)

/-- Step 2 of R194: VALID is cleared, and an open round aborts. -/
def clearGroup (n : Nat) (s : State) : State :=
  let t := relayAbort n 4 s
  groupPut t n { groupAt t n with gctl := setFld 0 0 0 (groupAt t n).gctl, rounds := [] }

/-- Steps 3 and 4 of R194 for one item. -/
def teardownItem (ctx n : Nat) (s : State) : State :=
  match itemAt s n with
  | none => s
  | some it => if it.ctx ≠ ctx then s else if it.phase = .running then stopItem n 7 s else complete n 7 s

/-- Steps 1 to 5 of R194. An item whose open round step 2 aborts keeps RELAY_ABORTED as its first status (DESIGN CHOICE, log 152). -/
def teardownStart (ctx : Nat) (s : State) : State :=
  let t := ctxPut s ctx { ctxAt s ctx with state := 2 }
  let t := t.groups.foldl (fun u e => if gBound e.2 && decide (gCtx e.2 = ctx) && gValid e.2 then clearGroup e.1 u else u) t
  let t := (itemNums t).foldl (fun u n => teardownItem ctx n u) t
  settleAll (retireReqs (rqTeardown ctx t))

def contextTeardownEffect (c : Nat) (s : State) : State :=
  if s.cmdBusy then s
  else if (ctxAt s c).state ≠ 1 then ctxResult 1 s
  else teardownStart c { s with cmdBusy := true }

def execContextTeardown (ctx : Nat) (s : State) : Host.Outcome State Fault Refusal := onUnit (okCtx ctx) (contextTeardownEffect ctx s)

/-- Step 6 of R194, once no item and no remote command of the context is left. -/
def teardownDoneEffect (c : Nat) (s : State) : State :=
  if (ctxAt s c).state = 2 ∧ (s.items.all fun e => decide (e.2.ctx ≠ c)) = true ∧ rqIdle s c = true then
    let t := rqDisable c (ctxPut s c { ctxAt s c with state := 0 })
    if t.ctxs.any fun e => decide (e.2.state = 2) then t else { t with cmdBusy := false, cmdStat := 0 }
  else s

def execContextTeardownDone (ctx : Nat) (s : State) : Host.Outcome State Fault Refusal := onUnit (okCtx ctx) (teardownDoneEffect ctx s)

/-- Code 0 or 3 acts on no context and returns result 4 (R193, R517). -/
def execCtxCmdReserved (value : W64) (s : State) : Host.Outcome State Fault Refusal :=
  .next (onlyIf (!s.cmdBusy && (decide (fld 17 16 value = 0) || decide (fld 17 16 value = 3))) (ctxResult 4 s) s)

/-- SUB.CTX_BASE is written only while every context is DISABLED (R193). -/
def ctxBaseSet (value : W64) (s : State) : State :=
  if s.ctxs.all fun e => decide (e.2.state = 0) then { s with ctxBase := maskWrite 0xFFFFFFFE00000 0 value } else s

def execCtxBaseWrite (value : W64) (s : State) : Host.Outcome State Fault Refusal := .next (ctxBaseSet value s)

/-! Doorbells -/

/-- A queue the context has (R223). -/
def hasQueue (s : State) (c q : Nat) : Bool := decide ((ctxAt s c).entry ≠ []) && decide (q < entryQueues (ctxAt s c).entry)

/-- R197. -/
def doorbellValid (s : State) (c q : Nat) (v : W64) : Bool :=
  let x := queueAt s (qKey c q)
  let p : W32 := v.truncate 32
  decide (fld 63 48 v = 0) && decide (fld 47 32 v = genOf s c q (p - 1)) && decide ((p - x.tail).toNat < 2 ^ 31) &&
  decide ((p - x.completed).toNat ≤ 2 ^ ringLog s c q)

/-- R191, R197, R200. -/
def doorbellEffect (c q : Nat) (v : W64) (s : State) : State :=
  if !(ctxEnabled s c) || !(hasQueue s c q) then s
  else
    let x := queueAt s (qKey c q)
    if doorbellValid s c q v then queuePut s (qKey c q) { x with tail := v.truncate 32 }
    else parkQueue c q 2 x.accepted s

def execDoorbell (ctx q : Nat) (value : W64) (s : State) : Host.Outcome State Fault Refusal :=
  onUnit (okCtx ctx && okQueue q) (doorbellEffect ctx q value s)

/-! Acceptance checks (R207) -/

/-- Bits of the descriptor's words that hold a field (R202). -/
def descMask (i : Nat) : Nat :=
  [0x1F7FF7FFFFFF, 0xFFFFFFFFFFFFFFFF, 0xFFFFFFFFFFFFFFFF, 0xFFFFFFFFFFFFFFFF, 0x1FFFFFFFFFFFFFF, 0xFFFFFF01FFFFFF, 0x1FFFFFFFFFFFFFF,
   0x1FFFFFFFFFFFFFF, 0xFFFFFFFFFFFFFFFF, 0x7FFFFFFFFFF, 0x9FFF, 0xFFFFFFFFFFFFFFFF, 0x9FFF, 0xFFFFFFFFFFFFFFFF, 0xFFFFFFFF00039FFF,
   0xFFFFFFFF00039FFF].getD i 0

/-- Bits of an operand entry's words that hold a field (R204). -/
def opndMask (i : Nat) : Nat :=
  [0x1FFFFFFFFFFFFFF, 0xFFFFFFFFFFFFFFFF, 0xFFFFFFFFFFFFFFFF, 0xFFFFFFFFFFFF, 0xFFFFFFFFFFFF, 0xFFFFFFFFFFFF, 0x3F33FFF].getD i 0

def itSlots (it : Item) : List OpSlot := it.opnds.map opSlotOf

def chkReserved (it : Item) : Bool :=
  (upto 0 16).any (fun i => !(noReserved (descMask i) (descWord it i))) || (decide (nSlots it = 0) && decide (descWord it 7 ≠ 0)) ||
  it.opnds.any fun e => (upto 0 8).any fun i => !(noReserved (opndMask i) (e.getD i 0))

/-- A signal item's fields (R203). -/
def signalOk (it : Item) : Bool :=
  decide (fld 32 28 (descWord it 0) = 0) && decide (itMask it = 0) && decide (nSlots it = 0) &&
  ((upto 4 6).all fun i => decide (descWord it i = 0)) && !(hasDeadline it)

def chkKind (it : Item) : Bool :=
  decide (1 < itKind it) || decide (1 < fld 25 24 (descWord it 0)) || (decide (itKind it = 1) && !(signalOk it))

def chkDies (s : State) (it : Item) : Bool :=
  let allow := fld 13 8 (ctxWord s it.ctx 0)
  decide (itMask it = 0) || decide (itMask it &&& allow ≠ itMask it) || !((upto 0 6).any fun d => (itMask it).testBit d && cdPresent s d)

/-- A present CD has its 32 tensor cores (R15). -/
def chkCores (s : State) (it : Item) : Bool := decide (fld 36 32 (ctxWord s it.ctx 0) + 1 < itN it)

def chkTime (s : State) (it : Item) : Bool :=
  let lines := s.tb.raster.1
  let bad := fun (t : W64) => decide (lines ≤ fld 23 10 t)
  (decide (itRelease it ≠ 0) && bad (itRelease it)) || (hasDeadline it && bad (itDeadline it)) ||
  decide ((itDeadline it).toNat ≤ (itRelease it).toNat)

def itParam (it : Item) : Nat := sext57 (descWord it 6).toNat
def itOpnd (it : Item) : Nat := sext57 (descWord it 7).toNat
def itEntry (it : Item) : Nat := fld 55 32 (descWord it 5)

def chkCode (it : Item) : Bool :=
  decide (kernelBase it % 4096 ≠ 0) || decide (kernelSize it < 4) || decide (16777216 < kernelSize it) ||
  decide (itEntry it % 2 ≠ 0) || decide (kernelSize it ≤ itEntry it)

def chkAlign (it : Item) : Bool := decide (itParam it % 256 ≠ 0) || (decide (nSlots it ≠ 0) && decide (itOpnd it % 64 ≠ 0))

/-- A range is canonical under Sv57 and does not wrap (R231). -/
def rangeCanonical (lo n : Nat) : Bool :=
  let hi := lo + max n 1 - 1
  decide (hi < 2 ^ 56) || (decide (2 ^ 64 - 2 ^ 56 ≤ lo) && decide (hi < 2 ^ 64))

/-- Declared ranges with the access each is translated for (R209, R230). -/
def itRanges (it : Item) : List (Nat × Nat × Nat) :=
  [(kernelBase it, kernelSize it, 4)] ++ (if itParam it = 0 then [] else [(itParam it, 256, 1)]) ++
  (if nSlots it = 0 then [] else [(itOpnd it, 64 * nSlots it, 1)]) ++ (itSlots it).map fun o => (o.base, slotBytes o, o.access)

def chkAddress (it : Item) : Bool := (itRanges it).any fun r => !(rangeCanonical r.1 r.2.1)

/-- Stride of a dimension against the span below it (R207). -/
def strideChain (below : Nat) : List (Nat × Nat) → Bool
  | [] => true
  | (ext, str) :: r => if ext ≤ 1 then strideChain below r else decide (below ≤ str) && strideChain (ext * str) r

def opndOk (o : OpSlot) : Bool :=
  decide (o.fmt < 13) && decide (o.layout ≤ 1) && decide (o.access ≠ 0) &&
  decide (o.ext0 ≠ 0) && decide (o.ext1 ≠ 0) && decide (o.ext2 ≠ 0) && decide (o.ext3 ≠ 0) &&
  (if o.layout = 1 then decide (1 ≤ o.vfmt) && decide (o.vfmt ≤ 5) && (decide (o.fmt = 7) || decide (o.fmt = 8)) && decide (o.ext3 = 1)
   else decide (o.vfmt = 0)) &&
  strideChain (rowSpan o) [(o.ext1, o.str1), (o.ext2, o.str2), (o.ext3, o.str3)]

def chkOperand (it : Item) : Bool := decide (16 < nSlots it) || (itSlots it).any fun o => !(opndOk o)

/-- A hint code and target that exist (R204, R313). -/
def hintOk (s : State) (h n : Nat) : Bool :=
  match h with
  | 0 => decide (n = 0)
  | 1 => decide (n < 24) && cdPresent s (n / 4)
  | 2 => decide (n < 32) && diePresent s (12 + n / 16)
  | _ => decide (n < 6) && mdPresent s n

def chkHint (s : State) (it : Item) : Bool := (itSlots it).any fun o => !(hintOk s o.hint o.hintId)

def chkSequence (s : State) (it : Item) : Bool := (upto 0 64).any fun n => (descWord it 8).getLsbD n && !(slotBound s n it.ctx)

def itGroups (it : Item) : List Nat := (upto 0 (min 4 (fld 42 40 (descWord it 9)))).map fun j => fld (10 * j + 9) (10 * j) (descWord it 9)

def chkRelay (s : State) (it : Item) : Bool :=
  decide (4 < fld 42 40 (descWord it 9)) || (itGroups it).any fun g => !(gValid (groupAt s g)) || !(groupOf s g it.ctx)

def itWaits (it : Item) : List Nat := (upto 0 2).filter fun j => bit 15 (descWord it (10 + 2 * j))
def itPosts (it : Item) : List Nat := (upto 0 2).filter fun j => bit 15 (descWord it (14 + j))

def chkBaton (s : State) (it : Item) : Bool :=
  (itWaits it).any (fun j => !(batonBound s (fld 12 0 (descWord it (10 + 2 * j))) it.ctx)) ||
  (itPosts it).any fun j => !(batonBound s (fld 12 0 (descWord it (14 + j))) it.ctx)

def chkWords (it : Item) : Bool :=
  (itWaits it).any (fun j => !(condWordOk (descWord it (11 + 2 * j)))) ||
  (itPosts it).any fun j => !(batonWordOk ((descWord it (14 + j)) >>> 32).toNat) || decide (fld 17 16 (descWord it (14 + j)) = 3)

/-- The first failing check of R207 before 0x10, which the pages decide. -/
def acceptReason (s : State) (it : Item) : Option Nat :=
  let work := decide (itKind it = 0)
  ([(0x01, chkReserved it), (0x02, chkKind it), (0x03, decide (fld 7 4 (ctxWord s it.ctx 0) < itPrio it)),
    (0x04, work && chkDies s it), (0x05, work && chkCores s it), (0x06, chkTime s it), (0x07, work && chkCode it),
    (0x08, work && chkAlign it), (0x09, work && chkAddress it), (0x0A, work && chkOperand it), (0x0B, work && chkHint s it),
    (0x0C, work && chkSequence s it), (0x0D, work && chkRelay s it), (0x0E, chkBaton s it), (0x0F, chkWords it)].find?
      fun e => e.2).map fun e => e.1

/-! Reading descriptors -/

/-- Read a virtual range for the submission unit: none where a page does not resolve. -/
def readVirt (ctx : Nat) (item : Option Nat) : List (Nat × Nat) → State → Option (Except (Nat × Nat) (List Byte)) × State
  | [], s => (some (.ok []), s)
  | (va, n) :: r, s =>
    match pagePhys ctx item (va / 4096) 1 s with
    | (none, t) => (none, t)
    | (some (pg, nc), t) =>
      let x := pageRead (subReq item) (some (ctxPart t ctx)) 0 nc (lineSpans (4096 * pg + va % 4096) n) t
      match x.1 with
      | .error e => (some (.error e), memErr e.1 e.2 (subReq item) x.2)
      | .ok l =>
        let y := readVirt ctx item r x.2
        match y.1 with
        | some (.ok m) => (some (.ok (l ++ m)), y.2)
        | o => (o, y.2)

def opndEntries (n : Nat) (l : List Byte) : List (List W64) := (upto 0 n).map fun j => wordsOf (l.drop (64 * j)) 8

/-- The operand table, where the descriptor declares one: of any kind and length, since check 0x01 of R207 looks at every entry. -/
def readOpnds (it : Item) (item : Option Nat) (s : State) : Option (Except (Nat × Nat) (List (List W64))) × State :=
  let n := nSlots it
  if n = 0 then (some (.ok []), s)
  else
    let r := readVirt it.ctx item (pageSpans (itOpnd it) (64 * n)) s
    match r.1 with
    | none => (none, r.2)
    | some (.error e) => (some (.error e), r.2)
    | some (.ok l) => (some (.ok (opndEntries n l)), r.2)

/-- A descriptor takes its acceptance number and stamp (R205, R196). -/
def enqueueItem (c q : Nat) (it : Item) (s : State) : State :=
  let x := queueAt s (qKey c q)
  let t := queuePut s (qKey c q) { x with accepted := x.accepted + 1, rereads := 0 }
  { itemPut t t.nextAcc it with nextAcc := t.nextAcc + 1 }

/-- The deadline may have passed already, and a signal item may be ready (R203, R210). -/
def afterAccept (n : Nat) (s : State) : State := settleAll (itemTime s n)

/-- Acceptance of a descriptor whose generation is right (R207 to R209). -/
def acceptDesc (c q : Nat) (desc : List W64) (s : State) : State :=
  let i := (queueAt s (qKey c q)).accepted
  let it : Item := { ctx := c, q := q, idx := i, desc := desc, opnds := [], phase := .walking, tAccept := now s }
  let r := readOpnds it none s
  match r.1 with
  | some (.error _) => parkQueue c q 3 i r.2
  | x =>
    let it := { it with opnds := match x with | some (.ok e) => e | _ => [], phase := if itKind it = 0 then .walking else .waiting }
    let n := r.2.nextAcc
    let t := enqueueItem c q it r.2
    match acceptReason t it with
    | some k => settleAll (refuse n k t)
    | none => afterAccept n t

/-- The descriptor at ACCEPTED is read and its generation compared (R199, R200), once its lines are free. -/
def serveQueue (c q : Nat) (s : State) : State :=
  let x := queueAt s (qKey c q)
  whenFree (subReq none) (some (ctxPart s c)) true (descAddr s c q x.accepted) 128 (
  let r := memRead (subReq none) (some (ctxPart s c)) (descAddr s c q x.accepted) 128 s
  match r.1 with
  | .error _ => parkQueue c q 3 x.accepted r.2
  | .ok l =>
    let d := wordsOf l 16
    if fld 15 0 (d.getD 0 0) = genOf s c q x.accepted then acceptDesc c q d r.2
    else if x.rereads < 8 then queuePut r.2 (qKey c q) { x with rereads := x.rereads + 1 }
    else parkQueue c q 1 x.accepted r.2) s

/-- A queue that has a descriptor to be read (R199, R200, R206). -/
def hasWork (s : State) (c q : Nat) : Bool :=
  let x := queueAt s (qKey c q)
  issuing s && ctxEnabled s c && hasQueue s c q && decide (x.status = 0) && decide (x.accepted ≠ x.tail) && decide (s.items.length < 65536)

/-- The next queue in the round (R205); one that waits for a re-read is passed over. -/
def nextQueue (s : State) : Option Nat :=
  let l := (s.queues.map fun e => e.1).filter fun k => hasWork s (k / 4) (k % 4) && decide ((queueAt s k).rereads = 0)
  match l.find? (fun k => decide (s.rr < k)) with
  | some k => some k
  | none => l.head?

def descriptorReadEffect (c q : Nat) (s : State) : State :=
  if nextQueue s = some (qKey c q) then serveQueue c q { s with rr := qKey c q } else s

def execDescriptorRead (ctx q : Nat) (flaws : List (Nat × Bool)) (s : State) : Host.Outcome State Fault Refusal :=
  onUnit (okCtx ctx && okQueue q) (withFlaws flaws (descriptorReadEffect ctx q) s)

/-- Step 2 of R199. -/
def descriptorRereadEffect (c q : Nat) (s : State) : State :=
  if hasWork s c q && decide ((queueAt s (qKey c q)).rereads ≠ 0) then serveQueue c q s else s

def execDescriptorReread (ctx q : Nat) (flaws : List (Nat × Bool)) (s : State) : Host.Outcome State Fault Refusal :=
  onUnit (okCtx ctx && okQueue q) (withFlaws flaws (descriptorRereadEffect ctx q) s)

/-! RESUME and SKIP (R201) -/

def queueResumeEffect (c q : Nat) (s : State) : State :=
  let x := queueAt s (qKey c q)
  if ctxEnabled s c && hasQueue s c q && decide (x.status ≠ 0) then queuePut s (qKey c q) { x with status := 0, rereads := 0 } else s

def execQueueResume (ctx q : Nat) (s : State) : Host.Outcome State Fault Refusal :=
  onUnit (okCtx ctx && okQueue q) (queueResumeEffect ctx q s)

/-- A skipped descriptor as the completion record shows it. -/
def skippedItem (s : State) (c q : Nat) : Item :=
  let i := (queueAt s (qKey c q)).accepted
  { ctx := c, q := q, idx := i, desc := [BitVec.ofNat 64 (genOf s c q i)], opnds := [], phase := .waiting, tAccept := now s }

def queueSkipEffect (c q : Nat) (s : State) : State :=
  let x := queueAt s (qKey c q)
  if ctxEnabled s c && hasQueue s c q && decide (x.status ≠ 0) then
    if x.accepted = x.tail then queueResumeEffect c q s
    else
      let t := queueResumeEffect c q s
      settleAll (refuse t.nextAcc 0x11 (enqueueItem c q (skippedItem t c q) t))
  else s

def execQueueSkip (ctx q : Nat) (s : State) : Host.Outcome State Fault Refusal :=
  onUnit (okCtx ctx && okQueue q) (queueSkipEffect ctx q s)

/-! The end of an item -/

/-- A tensor core of a running item has ended its part, with every operation issued complete (R180); after a Pacer fault a DRLY may still
wait for the rounds that the end of the item aborts (R140). -/
def coreEnded (it : Item) (c : TCore) : Bool :=
  c.done.isSome || (c.stopped && (decide (c.sb = []) || (decide (it.faults ≠ []) && c.sb.all fun o => decide (o.eng = .drly))))

/-- R211: an item whose cores have all ended. After a Pacer fault the rounds it leaves incomplete abort (R140). -/
def itemEndEffect (n : Nat) (s : State) : State :=
  match itemAt s n with
  | none => s
  | some it =>
    if decide (it.phase = .running) && it.tcs.all fun k => coreEnded it (tcAt s k) then
      let st := it.status.getD 0
      let t := itemPut s n (it.tcs.foldl (fun i k => withTotals s i k) it)
      settleAll (complete n st (if it.faults ≠ [] then abortOf n 1 t else t))
    else s

def execItemEnd (item : Nat) (flaws : List (Nat × Bool)) (s : State) : Host.Outcome State Fault Refusal := .next (withFlaws flaws (itemEndEffect item) s)

end Sys2Proof.Machine
end

