-- ==== Sys2Proof/Machine/TimeBase.lean ====
section
/-! DEFINITION. The time base (R158 to R170): frame time and its arithmetic, the states, frame sync, PTP, steps and raster changes. -/

namespace Sys2Proof.Machine

open Sys2Proof

/-! Frame time (R13) -/

def tbMod (f : TimeBase → TimeBase) (s : State) : State := { s with tb := f s.tb }

/-- Frame time stands at `t` (R166): what that makes due, comes due. The Eclipse records what was before its E (R184). -/
def setNow (t : W64) (s : State) : State :=
  timePasses (tbMod (fun b => { b with now := t }) (if eclDue s t then eclCapture s else s))

/-! States -/

/-- A transition, with its event (R161). An acceptance not applied is discarded when MISMATCH is left; items are released once ACQUIRING is left (R172). -/
def tbGo (st : Nat) (s : State) : State :=
  if s.tb.state = st then s
  else settleAll (scRaise 2 0 (tbMod (fun b => { b with state := st, accepted := false, slewing := if st = 1 then b.slewing else false }) s))

/-- The raster accepted for a frame boundary takes effect (R169). -/
def applyRaster (s : State) : State := tbMod (fun b => { b with raster := b.pendRaster.getD b.raster, pendRaster := none }) s

/-- A step is applied at a frame boundary, where an accepted raster takes effect too (R166, R169); no phase error is left. -/
def tbStep (t : W64) (s : State) : State :=
  tbMod (fun b => { b with err := 0 }) (setNow t (bumpObj 0x6002 4 32 1 (applyRaster s)))

/-- The reference that TB_SOURCE selects among those valid (R170): 0 none, 1 frame sync, 2 PTP. -/
def selectedRef (s : State) : Nat :=
  match oget s 0x6000 1 with
  | 0 => if s.tb.fsValid then 1 else if s.tb.ptpValid then 2 else 0
  | 1 => if s.tb.fsValid then 1 else 0
  | 2 => if s.tb.ptpValid then 2 else 0
  | _ => 0

/-- The reference in use is lost (R161). -/
def tbLost (s : State) : State :=
  let t := tbMod (fun b => { b with ref := 0 }) s
  if t.tb.state = 1 then tbGo 2 t else if t.tb.state = 4 then tbGo 3 t else t

/-- The reference in use no longer stands. -/
def tbRecheck (s : State) : State := if s.tb.ref ≠ 0 ∧ selectedRef s ≠ s.tb.ref then tbLost s else s

/-- A value clamped to I32 (R170). -/
def clampI32 (v : Int) : Nat := ((max (-(2 ^ 31)) (min (2 ^ 31 - 1) v)) % 2 ^ 32).toNat

/-- A measured phase error (R170). -/
def setPhase (e : Int) (s : State) : State := oset (tbMod (fun b => { b with err := e }) s) 0x6002 3 (clampI32 e)

/-- The selected reference marks frame time `ref` now (R161, R163): `e` is positive when the E9 is behind. `edge`: the mark is a frame boundary. -/
def onReference (src : Nat) (ref : W64) (edge : Bool) (s : State) : State :=
  if selectedRef s ≠ src then s
  else
    let e : Int := (ticksOf s ref : Int) - ticksOf s s.tb.now
    let t := setPhase e (tbMod (fun b => { b with ref := src }) s)
    let near := decide (e.natAbs ≤ 1024)
    match t.tb.state with
    | 0 => if edge then tbGo 1 (tbStep ref t) else t
    | 1 => if near then tbMod (fun b => { b with slewing := decide (e ≠ 0) }) t else tbGo 4 (tbGo 2 t)
    | 2 => if near then tbGo 1 (tbMod (fun b => { b with slewing := decide (e ≠ 0) }) t) else tbGo 4 t
    | 3 => if near then tbGo 1 (tbMod (fun b => { b with slewing := decide (e ≠ 0) }) t) else tbGo 4 t
    | _ => t

/-! Frame boundaries -/

/-- The raster that will be in force at the next frame boundary (R169). -/
def comingRaster (s : State) : Nat × Nat × Nat × Nat := s.tb.pendRaster.getD s.tb.raster

/-- The limits of R169: the raster's lines, its frame period of 1 ms to 1 s, its line period of at least 1 µs. -/
def rasterOk (r : Nat × Nat × Nat × Nat) : Bool :=
  decide (1 ≤ r.1) && decide (r.1 ≤ 16384) && decide (0 < r.2.2.1) && decide (r.2.2.1 ≤ 1000 * r.2.1) && decide (r.2.1 ≤ r.2.2.1) &&
  decide (r.1 * r.2.2.1 ≤ 1000000 * r.2.1)

def rasterWith (r : Nat × Nat × Nat × Nat) (sub v : Nat) : Nat × Nat × Nat × Nat :=
  match sub with
  | 1 => (v, r.2)
  | 2 => (r.1, v, r.2.2)
  | 3 => (r.1, r.2.1, v, r.2.2.2)
  | _ => (r.1, r.2.1, r.2.2.1, v)

/-- At a frame boundary the accepted raster and the accepted step take effect (R161, R166, R169). -/
def atBoundary (s : State) : State :=
  let t := applyRaster s
  let t := setNow (nextFrame t.tb.now) t
  if decide (t.tb.ref ≠ 0) && decide (t.tb.state = 4) && t.tb.accepted then
    tbGo 1 (tbStep (ofTicks t ((ticksOf t t.tb.now : Int) + t.tb.err).toNat) t)
  else t

/-- The first lock on PTP (R161, R167): the frame boundary of PTP's frame time that comes next, as the local frame time at which it comes,
in ticks, and the frame time it marks. -/
def lockDue (s : State) : Option (Nat × W64) :=
  if s.tb.state = 0 ∧ s.tb.ref = 2 ∧ s.tb.ptpValid = true then
    let frame := rasterLines s * 1024
    let f := ((ticksOf s s.tb.now + s.tb.err).toNat / frame + 1) * frame
    some (((f : Int) - s.tb.err).toNat, ofTicks s f)
  else none

/-- The lock comes no later than `k` ticks. -/
def lockBy (s : State) (k : Nat) : Bool := match lockDue s with | some x => decide (x.1 ≤ k) | none => false

def atLock (s : State) : State := match lockDue s with | some x => tbGo 1 (tbStep x.2 s) | none => s

/-- Frame time runs on to `t`; a boundary on the way takes effect, and so does the first lock. -/
def runTo : Nat → W64 → State → State
  | 0, t, s => setNow t s
  | f + 1, t, s =>
    if t.toNat ≤ s.tb.now.toNat then s
    else if lockBy s (min (ticksOf s t) (ticksOf s (nextFrame s.tb.now))) then runTo f t (atLock s)
    else if fld 63 24 s.tb.now < fld 63 24 t then
      let u := atBoundary s
      if u.tb.now.toNat < t.toNat then runTo f t u else u
    else setNow t s

/-- Frame time runs on to `t`. An Eclipse on the way finds everything that falls due before its E done, and nothing that falls due at it (R184). -/
def moveTo (t : W64) (s : State) : State :=
  if !s.tb.on then s else runTo 3 t (if eclDue s t then runTo 3 (beforeE s) s else s)

/-- One tick of frame time. -/
def tick (s : State) : State :=
  if !s.tb.on then s
  else if lockBy s (ticksOf s s.tb.now + 1) then atLock s
  else if fld 9 0 s.tb.now < 1023 then setNow (s.tb.now + 1) s
  else if fld 23 10 s.tb.now + 1 < rasterLines s then setNow (setFld 9 0 0 s.tb.now + 1024) s
  else atBoundary s

/-- The next frame boundary: while the first lock on PTP is due, the one that PTP marks where that comes first. -/
def frameBoundaryEffect (s : State) : State :=
  if !s.tb.on then s
  else if lockBy s (ticksOf s (nextFrame s.tb.now)) then atLock s
  else atBoundary (if eclDue s (nextFrame s.tb.now) then runTo 3 (beforeE s) s else s)

def execFrameBoundary (s : State) : Host.Outcome State Fault Refusal := .next (frameBoundaryEffect s)

/-! Frame sync (R164) -/

/-- Within ±0.1 % of the declared frame period, in nanoseconds. -/
def periodGood (s : State) (ns : Nat) : Bool :=
  let num := s.tb.raster.2.1
  let den := s.tb.raster.2.2.1
  decide (((ns * den : Int) - num * 1000000000).natAbs * 1000 ≤ num * 1000000000)

/-- The frame an edge marks: FSYNC_FRAME, or the frame whose start lies nearest, the later on a tie. -/
def edgeFrame (s : State) : Nat :=
  match s.tb.fsFrame with
  | some f => f
  | none =>
    let f := rasterLines s * 1024
    (ticksOf s s.tb.now + f / 2) / f

def fsyncEdgeEffect (ns : Nat) (s : State) : State :=
  if !s.tb.on then s
  else
    let good := periodGood s ns
    let ref := BitVec.ofNat 64 (edgeFrame s * 2 ^ 24)
    let t := tbMod (fun b => { b with
      fsFrame := none, fsSeen := true
      fsGood := if b.fsSeen && good then min 3 (b.fsGood + 1) else 0
      fsBad := if b.fsSeen && !good then min 3 (b.fsBad + 1) else 0 }) s
    let t := if 3 ≤ t.tb.fsBad then tbRecheck (tbMod (fun b => { b with fsValid := false }) t)
      else if 3 ≤ t.tb.fsGood then tbMod (fun b => { b with fsValid := true }) t else t
    if t.tb.fsValid then onReference 1 ref true t else t

def execFsyncEdge (periodNs : Nat) (s : State) : Host.Outcome State Fault Refusal := .next (fsyncEdgeEffect periodNs s)

/-- No edge within 1.5 frame periods of the last one. -/
def execFsyncTimeout (s : State) : Host.Outcome State Fault Refusal :=
  .next (onlyIf s.tb.on (tbRecheck (tbMod (fun b => { b with fsValid := false, fsSeen := false, fsGood := 0, fsBad := 0 }) s)) s)

/-! PTP (R165, R167) -/

def ptpMine (s : State) (domain : Nat) : Bool := s.tb.on && decide (domain = oget s 0x6003 1)

/-- The best master clock algorithm: `rank` is an Announce's place in its order, lower being better. A change of master loses the reference. -/
def ptpAnnounceEffect (domain : Nat) (master : W64) (rank : Nat) (s : State) : State :=
  if !(ptpMine s domain) then s
  else if s.tb.ptpSeen && decide (s.tb.ptpMaster = master) then tbMod (fun b => { b with ptpRank := rank }) s
  else if s.tb.ptpSeen && decide (s.tb.ptpRank ≤ rank) then s
  else
    tbRecheck (octSet (tbMod (fun b => { b with
      ptpSeen := true, ptpMaster := master, ptpRank := rank, ptpGood := 0, ptpValid := false
      ptpReceipt := none, ptpSyncPair := none, ptpSent := none }) s) 0x6003 3 (beBytes 8 master.toNat))

def execPtpAnnounceReceive (domain : Nat) (master : W64) (rank : Nat) (s : State) : Host.Outcome State Fault Refusal :=
  .next (ptpAnnounceEffect domain master rank s)

/-- R167: frame time of a PTP instant; none before the epoch. -/
def ptpFrame (s : State) (t : Int) : Option W64 :=
  let r := s.tb.raster
  if t < r.2.2.2 ∨ r.2.1 = 0 then none
  else some (ofTicks s (((t - r.2.2.2).toNat * r.2.2.1 * r.1 * 1024) / (r.2.1 * 1000000000)))

/-- A Sync with its origin and receipt instants: the offset, validity after 16 within ±100 ns, and the phase error. An instant before the
epoch is no valid reference (R167). -/
def ptpOffset (origin receipt : Nat) (s : State) : State :=
  let off : Int := (receipt : Int) - origin - s.tb.ptpDelay
  let good := decide (off.natAbs ≤ 100)
  let t := oset (tbMod (fun b => { b with
    ptpSyncPair := some (origin, receipt), ptpReceipt := none
    ptpGood := if good then min 16 (b.ptpGood + 1) else 0 }) s) 0x6003 4 (clampI32 off)
  match ptpFrame t ((origin : Int) + t.tb.ptpDelay) with
  | none => tbRecheck (tbMod (fun b => { b with ptpValid := false }) t)
  | some f =>
    let t := if 16 ≤ t.tb.ptpGood then tbMod (fun b => { b with ptpValid := true }) t else t
    if t.tb.ptpValid then onReference 2 f false t else t

def ptpFrom (s : State) (domain : Nat) (master : W64) : Bool := ptpMine s domain && s.tb.ptpSeen && decide (s.tb.ptpMaster = master)

def ptpSyncEffect (domain : Nat) (master : W64) (twoStep : Bool) (origin receipt : Nat) (s : State) : State :=
  if !(ptpFrom s domain master) then s
  else if twoStep then tbMod (fun b => { b with ptpReceipt := some receipt }) s
  else ptpOffset origin receipt s

def execPtpSyncReceive (domain : Nat) (master : W64) (twoStep : Bool) (originNs receiptNs : Nat) (s : State) :
    Host.Outcome State Fault Refusal := .next (ptpSyncEffect domain master twoStep originNs receiptNs s)

def ptpFollowUpEffect (domain : Nat) (master : W64) (origin : Nat) (s : State) : State :=
  match s.tb.ptpReceipt with
  | some r => if ptpFrom s domain master then ptpOffset origin r s else s
  | none => s

def execPtpFollowUpReceive (domain : Nat) (master : W64) (originNs : Nat) (s : State) : Host.Outcome State Fault Refusal :=
  .next (ptpFollowUpEffect domain master originNs s)

/-- End-to-end delay measurement starts. -/
def execPtpDelayReqSend (sentNs : Nat) (s : State) : Host.Outcome State Fault Refusal :=
  .next (onlyIf (s.tb.on && s.tb.ptpSeen) (emit .ptpDelayReq (tbMod (fun b => { b with ptpSent := some sentNs }) s)) s)

/-- The mean of the two one-way times is the path delay. -/
def ptpDelayEffect (domain : Nat) (master : W64) (received : Nat) (s : State) : State :=
  match s.tb.ptpSent, s.tb.ptpSyncPair with
  | some sent, some (origin, receipt) =>
    if ptpFrom s domain master then
      tbMod (fun b => { b with ptpSent := none, ptpDelay := ((((receipt : Int) - origin) + ((received : Int) - sent)) / 2).toNat }) s
    else s
  | _, _ => s

def execPtpDelayRespReceive (domain : Nat) (master : W64) (receivedNs : Nat) (s : State) : Host.Outcome State Fault Refusal :=
  .next (ptpDelayEffect domain master receivedNs s)

/-- No Sync for three intervals: the reference is lost, and the silent master gives way to any other that announces itself (DEDUCED, log 122). -/
def execPtpSyncTimeout (s : State) : Host.Outcome State Fault Refusal :=
  .next (onlyIf s.tb.on (tbRecheck (tbMod (fun b => { b with ptpValid := false, ptpGood := 0, ptpRank := 2 ^ 64 }) s)) s)

/-- PTP_DOMAIN (R165, R170): the master of another domain is none of the new one. -/
def ptpDomainSet (v : Nat) (s : State) : State :=
  if v = oget s 0x6003 1 then s
  else tbRecheck (oset (tbMod (fun b => { b with
    ptpSeen := false, ptpValid := false, ptpGood := 0, ptpReceipt := none, ptpSyncPair := none, ptpSent := none }) s) 0x6003 1 v)

/-! Timeouts and writes -/

/-- ACQUIRING to FREE_RUN, with no valid reference (R161). -/
def execTbAcqTimeout (s : State) : Host.Outcome State Fault Refusal :=
  .next (onlyIf (s.tb.on && decide (s.tb.state = 0) && decide (selectedRef s = 0)) (tbGo 3 s) s)

def execTbHoldoverExpiry (s : State) : Host.Outcome State Fault Refusal :=
  .next (onlyIf (s.tb.on && decide (s.tb.state = 2)) (tbGo 3 s) s)

/-- TB_SOURCE (R161, R170). The answer is a status of R437: 0 done, 6 out of range. -/
def tbSourceSet (v : Nat) (s : State) : Nat × State :=
  if 3 < v then (6, s)
  else
    let t := oset s 0x6000 1 v
    (0, if !t.tb.on then t
        else if v = 3 then tbGo 3 (tbMod (fun b => { b with ref := 0 }) t)
        else tbRecheck t)

def execTbSourceWrite (value : Nat) (s : State) : Host.Outcome State Fault Refusal := .next (onlyIf (objectsOpen s) (tbSourceSet value s).2 s)

/-- TB_STEP_ACCEPT (R161): refused outside MISMATCH with the device-state error 8. -/
def tbAcceptSet (v : Bool) (s : State) : Nat × State :=
  if !v then (0, s) else if s.tb.on && decide (s.tb.state = 4) then (0, tbMod (fun b => { b with accepted := true }) s) else (8, s)

def execTbStepAccept (value : Bool) (s : State) : Host.Outcome State Fault Refusal := .next (onlyIf (objectsOpen s) (tbAcceptSet value s).2 s)

/-- A raster object (R169), or FSYNC_FRAME (R164, R170). While frame time does not run there is no boundary to wait for. -/
def rasterSet (sub v : Nat) (s : State) : Nat × State :=
  if sub = 5 then (if 2 ^ 40 ≤ v then (7, s) else (0, tbMod (fun b => { b with fsFrame := some v }) s))
  else
    let r := rasterWith (comingRaster s) sub v
    if !(rasterOk r) then (6, s)
    else if s.items ≠ [] then (8, s)
    else (0, oset (tbMod (fun b => if b.on then { b with pendRaster := some r } else { b with raster := r }) s) 0x6001 sub v)

def execRasterWrite (sub value : Nat) (s : State) : Host.Outcome State Fault Refusal :=
  .next (onlyIf (objectsOpen s && decide (1 ≤ sub) && decide (sub ≤ 5)) (rasterSet sub value s).2 s)

end Sys2Proof.Machine
end

