-- ==== Sys2Proof/Machine/Starter.lean ====
section
/-! DEFINITION. The Starters (R172 to R182): release, the order of start, the state at entry (R47, R153, R305), deadlines, and the issue
allowance under the level each die runs at (R177, R178, R406, R407, R410). -/

namespace Sys2Proof.Machine

open Sys2Proof

/-! Release and deadlines -/

/-- The item at the head of a queue. -/
def queueHead (s : State) (c q : Nat) : Option Nat :=
  (itemNums s).find? fun n => match itemAt s n with
    | some it => decide (it.ctx = c) && decide (it.q = q) && atHead it
    | none => false

/-- R172: frame time stands at the head's release time. -/
def releaseTimeEffect (c q : Nat) (s : State) : State :=
  match queueHead s c q with
  | none => s
  | some n => match itemAt s n with
    | none => s
    | some it => settleAll (moveTo (itRelease it) s)

def execReleaseTimeReached (ctx q : Nat) (s : State) : Host.Outcome State Fault Refusal :=
  onUnit (okCtx ctx && okQueue q) (releaseTimeEffect ctx q s)

/-- R180, R181: frame time stands at the item's deadline. -/
def deadlineEffect (n : Nat) (s : State) : State :=
  match itemAt s n with
  | none => s
  | some it => if hasDeadline it then settleAll (itemTime (moveTo (itDeadline it) s) n) else s

def execDeadlineReached (item : Nat) (s : State) : Host.Outcome State Fault Refusal := .next (deadlineEffect item s)

/-- R180: frame time stands one frame period past a report-mode item's deadline. -/
def hardLimitEffect (n : Nat) (s : State) : State :=
  match itemAt s n with
  | none => s
  | some it =>
    if hasDeadline it && !(itEndMode it) then settleAll (itemTime (moveTo (BitVec.ofNat 64 (frameAfter (itDeadline it))) s) n) else s

def execReportHardLimit (item : Nat) (s : State) : Host.Outcome State Fault Refusal := .next (hardLimitEffect item s)

/-! The order of start -/

/-- A release time of 0 stands for the acceptance stamp (R171, R174). -/
def releaseStamp (it : Item) : W64 := if itRelease it = 0 then it.tAccept else itRelease it

/-- Whether `a` comes before `b` (R174). -/
def startsBefore (n : Nat) (a : Item) (m : Nat) (b : Item) : Bool :=
  if itPrio a ≠ itPrio b then decide (itPrio b < itPrio a)
  else if itDeadline a ≠ itDeadline b then decide ((itDeadline a).toNat < (itDeadline b).toNat)
  else if releaseStamp a ≠ releaseStamp b then decide ((releaseStamp a).toNat < (releaseStamp b).toNat)
  else if a.ctx ≠ b.ctx then decide (a.ctx < b.ctx)
  else decide (n < m)

/-- The first item of a die's order. -/
def firstOf (s : State) (d : Nat) : Option (Nat × Item) :=
  s.items.foldl (fun r e =>
    if e.2.phase = .assigned ∧ e.2.die = d then
      match r with
      | none => some e
      | some b => if startsBefore e.1 e.2 b.1 b.2 then some e else some b
    else r) none

/-- The cores an item takes (R175): the lowest-numbered cluster that has n free, for n of 8 or less, or else the lowest-numbered. -/
def chooseCores (free : List Nat) (d n : Nat) : List Nat :=
  let cl := (upto 0 4).find? fun c => decide (n ≤ 8) && decide (n ≤ (free.filter fun k => decide (k / 8 = 4 * d + c)).length)
  match cl with
  | some c => (free.filter fun k => decide (k / 8 = 4 * d + c)).take n
  | none => free.take n

/-- A tensor core's state before the first instruction (R47). -/
def entryCore (n rank count : Nat) (it : Item) (param : List Byte) : TCore :=
  { item := some n, rank := rank
    pc := BitVec.ofNat 64 (kernelBase it + itEntry it)
    x := tset 0 (tset 0 (tset 0 (tset 0 [] 2 0x01104000) 10 (BitVec.ofNat 64 rank)) 11 (BitVec.ofNat 64 count)) 12 0x01000000
    param := tputs [] 0 param }

/-- Cores enter in rank order, each with its code range as it stands now (R305). -/
def enterCores (n : Nat) (it : Item) (param : List Byte) : Nat → List Nat → State → State
  | _, [], s => s
  | r, k :: ks, s => enterCores n it param (r + 1) ks (fetchCode k n it (tcPut s k (entryCore n r it.tcs.length it param)))

/-- Slots of SEQ_MASK as latched at the start (R153). -/
def entryLatches (s : State) (it : Item) : List Latch := ((upto 0 64).filter fun n => (descWord it 8).getLsbD n).map (latchOf s)

/-- A start later than its release by more than one line is a slip; SLIP_MAX keeps the largest, saturating (R182). -/
def countSlip (d late : Nat) (s : State) : State :=
  let t := if 1024 < late then bumpObj 0x3201 (d + 1) 64 1 s else s
  if oget t 0x3202 (d + 1) < late then oset t 0x3202 (d + 1) (min late 0xFFFFFFFF) else t

/-- The parameter block as read at entry; zeros where none is declared (R202). -/
def readParam (n : Nat) (it : Item) (s : State) : Option (Except (Nat × Nat) (List Byte)) × State :=
  if itParam it = 0 then (some (.ok []), s) else readVirt it.ctx (some n) (pageSpans (itParam it) 256) s

/-- The item starts on its cores. -/
def startItem (n : Nat) (it : Item) (param : List Byte) (s : State) : State :=
  let t := if runningOn s it.die = 0 then oset s 0x3203 (it.die + 1) 4 else s
  let late := ticksOf t (now t) - ticksOf t (releaseStamp it)
  let tcs := chooseCores (freeCores t it.die) it.die (itN it)
  let t := tcs.foldl (fun u k => takeCore k u) t
  let it := { it with phase := .running, tcs := tcs, tStart := now t, latches := entryLatches t it, slip := decide (1024 < late) }
  countSlip it.die late (enterCores n it param 0 tcs (itemPut t n it))

/-- R174: the first item of the die's order starts once n of its cores are free. An error on its parameter block parks the queue (R200); while its
page has been withdrawn the item waits, and nothing is asked for it (DESIGN CHOICE, log 156). -/
def starterStartEffect (d : Nat) (s : State) : State :=
  match firstOf s d with
  | none => s
  | some (n, it) =>
    if (freeCores s d).length < itN it ∨ issuing s = false then s
    else
      let r := readParam n it s
      match r.1 with
      | none => r.2
      | some (.error _) => parkQueue it.ctx it.q 3 it.idx r.2
      | some (.ok l) => startItem n it l r.2

def execStarterStart (die : Nat) (flaws : List (Nat × Bool)) (s : State) : Host.Outcome State Fault Refusal :=
  onUnit (okCd die) (withFlaws flaws (starterStartEffect die) s)

/-! Levels and the issue allowance -/

/-- A of a level (R406). -/
def levelCeiling (l : Nat) : Nat := if l ≤ 7 then 64 else 64 - 4 * (l - 7)

/-- A of a CD; the fast limiter halves it, to no less than 4 (R410). -/
def ceilingA (s : State) (d : Nat) : Nat :=
  let a := levelCeiling (levelOf s d)
  if s.pwr.fastOn then max 4 (a / 2) else a

/-- The gate of every running core of a die (R178). -/
def gate (s : State) (d : Nat) : Nat := min (ceilingA s d) (min (32 * allowance s d / max 1 (runningOn s d)) 64)

/-- R178: W rises while a running core's gate is below A. -/
def rampEffect (d : Nat) (s : State) : State :=
  if decide (0 < runningOn s d) && decide (gate s d < ceilingA s d) then oset s 0x3203 (d + 1) (min 64 (allowance s d + 1)) else s

def execAllowanceRampStep (die : Nat) (s : State) : Host.Outcome State Fault Refusal := onUnit (okCd die) (rampEffect die s)

/-- R178: W is set to the activity in use. -/
def recomputeEffect (d : Nat) (s : State) : State :=
  if runningOn s d = 0 then oset s 0x3203 (d + 1) 4
  else if gate s d < ceilingA s d then s
  else oset s 0x3203 (d + 1) (max 4 ((runningOn s d * gate s d + 31) / 32))

def execAllowanceRecompute (die : Nat) (s : State) : Host.Outcome State Fault Refusal := onUnit (okCd die) (recomputeEffect die s)

end Sys2Proof.Machine
end

