-- ==== Sys2Proof/Machine/Eclipse.lean ====
section
/-! DEFINITION. The Eclipse (R184 to R188): arming, capture, markers, the record. -/

namespace Sys2Proof.Machine

open Sys2Proof

/-- E less than two lines ahead, or an Eclipse armed or capturing already (R187). -/
def eclTooLate (s : State) : Bool :=
  let e := BitVec.ofNat 64 (oget s 0x6010 1)
  s.ecl.isSome || decide (ticksOf s e < ticksOf s (now s) + 2048)

/-- A write to ECL_ARM (R185 step 1, R187): the parameters are taken as they stand. -/
def eclArmSet (v : Bool) (s : State) : State :=
  if !v then s
  else if eclTooLate s then scRaise 3 0 (eclStatus 5 s)
  else
    let e : Eclipse :=
      { time := BitVec.ofNat 64 (oget s 0x6010 1), ident := BitVec.ofNat 32 (oget s 0x6010 2), buffer := BitVec.ofNat 64 (oget s 0x6010 3),
        portSet := oget s 0x6010 4, baton := oget s 0x6010 8, batonOp := oget s 0x6010 9 }
    eclStatus 1 { s with ecl := some e }

def execEclArm (value : Bool) (s : State) : Host.Outcome State Fault Refusal := .next (onlyIf (objectsOpen s) (eclArmSet value s) s)

/-- R185 step 2: local frame time is E. -/
def eclCaptureEffect (s : State) : State :=
  match s.ecl with
  | none => s
  | some e =>
    if e.capturing then s
    else
      let t := moveTo e.time s
      if t.tb.now.toNat < e.time.toNat then t else eclCapture t

def execEclipseCapture (s : State) : Host.Outcome State Fault Refusal := .next (eclCaptureEffect s)

/-- R185 steps 3 and 4: a marker of this Eclipse; any other is discarded. -/
def eclMarkerEffect (onPort : Bool) (n : Nat) (ident : W32) (s : State) : State :=
  match s.ecl with
  | none => s
  | some e =>
    if e.ident = ident ∧ e.seen.contains (onPort, n) = false then { s with ecl := some { e with seen := (onPort, n) :: e.seen } } else s

def execEclipseMarker (onPort : Bool) (n : Nat) (id : W32) (s : State) : Host.Outcome State Fault Refusal :=
  onUnit (if onPort then okPort n else decide (n < 34)) (eclMarkerEffect onPort n id s)

/-- Markers the Eclipse waits for: each incoming link in service, and each port in ECL_PORTS. -/
def eclAwaited (s : State) (e : Eclipse) : List (Bool × Nat) :=
  (((upto 0 17).filter (linkUp s)).flatMap fun i => [(false, 2 * i), (false, 2 * i + 1)]) ++
  ((upto 0 24).filter fun n => e.portSet.testBit n).map fun n => (true, n)

def eclMissing (s : State) (e : Eclipse) : List (Bool × Nat) := (eclAwaited s e).filter fun m => !(e.seen.contains m)

/-! The record. Its sections and what each holds are R184's and R188's; the places of the header's fields and of the context, time-base and
Starter entries are the model's (DESIGN CHOICE). -/

def padTo (n : Nat) (l : List Byte) : List Byte := (l ++ List.replicate n 0).take n

def batonEntry (b : Baton) : List Byte := padTo 64 (leBytes 4 b.value.toNat)

/-- A slot in the layout of R150 with its keys 0. -/
def slotEntry (x : Slot) : List Byte :=
  leBytes 8 x.ctl.toNat ++ leBytes 8 x.pos.toNat ++ leBytes 8 x.gen.toNat ++ leBytes 8 x.sampler.toNat ++ leBytes 8 x.topp.toNat ++
  leBytes 16 0 ++ leBytes 8 (keyChkRead x).toNat

/-- A group in the layout of R128. -/
def groupEntry (g : Group) : List Byte := (upto 0 8).flatMap fun w => leBytes 8 (groupWord g w).toNat

def ctxRecord (e : Eclipse) (c : Nat) : List Byte :=
  let x := tget {} e.ctxs c
  ((upto 0 4).flatMap fun q =>
    let k := tget {} e.queues (qKey c q)
    leBytes 4 k.accepted.toNat ++ leBytes 4 k.released.toNat ++ leBytes 4 k.completed.toNat) ++ leBytes 8 x.state ++ leBytes 8 x.misses

/-- The sections in the order of R184. -/
def eclSections (e : Eclipse) : List (List Byte) :=
  [(upto 0 8192).flatMap (fun n => batonEntry (tget {} e.batons n)),
   (upto 0 64).flatMap (fun n => slotEntry (tget {} e.slots n)),
   (upto 0 1024).flatMap (fun n => groupEntry (tget {} e.groups n)),
   (upto 0 16384).flatMap (ctxRecord e),
   padTo 64 (leBytes 4 (e.tbState.getD 0 0) ++ leBytes 4 (e.tbState.getD 1 0) ++ leBytes 4 (e.tbState.getD 2 0)),
   (upto 0 6).flatMap fun d => padTo 64 (leBytes 8 (e.starters.getD (4 * d) 0) ++ leBytes 8 (e.starters.getD (4 * d + 1) 0) ++
     leBytes 4 (e.starters.getD (4 * d + 2) 0) ++ leBytes 4 (e.starters.getD (4 * d + 3) 0))]

/-- Directory entries: offset and length in units of 64 bytes, three bytes each. -/
def eclDirectory : Nat → List (List Byte) → List Byte
  | _, [] => []
  | o, x :: r => leBytes 3 (o / 64) ++ leBytes 3 (x.length / 64) ++ eclDirectory (o + x.length) r

/-- The missing-marker mask: links at [16:0], ports at [47:24]. -/
def missingMask (l : List (Bool × Nat)) : Nat :=
  (upto 0 17).foldl (fun n i => if l.contains (false, 2 * i) || l.contains (false, 2 * i + 1) then n + 2 ^ i else n) 0 +
  (upto 0 24).foldl (fun n p => if l.contains (true, p) then n + 2 ^ (24 + p) else n) 0

def eclRecord (e : Eclipse) (status drainNs : Nat) (missing : List (Bool × Nat)) : List Byte :=
  let secs := eclSections e
  padTo 64 (leBytes 4 e.ident.toNat ++ leBytes 4 drainNs ++ leBytes 8 e.time.toNat ++ leBytes 8 (missingMask missing) ++
    leBytes 1 status ++ leBytes 1 (b2n e.unlocked) ++ [0, 0] ++ eclDirectory 64 secs) ++ secs.flatten

/-- The record is written and the Eclipse is over (R185 step 5, R187). -/
def eclFinish (e : Eclipse) (status drainNs : Nat) (s : State) : State :=
  let t := (memWrite ⟨8, 0, none⟩ none (e.buffer.toNat / 4096 * 4096) (eclRecord e status drainNs (eclMissing s e)) s).2
  scRaise 3 0 (eclStatus status { t with ecl := none })

/-- R185 step 5: every marker has arrived. -/
def eclCompleteEffect (drainNs : Nat) (s : State) : State :=
  match s.ecl with
  | none => s
  | some e =>
    if e.capturing && decide (eclMissing s e = []) then
      let t := eclFinish e 3 drainNs s
      if e.baton = 0xFFFF then t else signalBaton e.baton (BitVec.ofNat 32 e.batonOp) t
    else s

def execEclipseComplete (drainNs : Nat) (s : State) : Host.Outcome State Fault Refusal := .next (eclCompleteEffect drainNs s)

/-- R187: markers missing at ECL_DRAIN_LIMIT. -/
def eclDrainEffect (s : State) : State :=
  match s.ecl with
  | none => s
  | some e => if e.capturing && decide (eclMissing s e ≠ []) then eclFinish e 4 (1000 * oget s 0x6010 7) s else s

def execEclipseDrainTimeout (s : State) : Host.Outcome State Fault Refusal := .next (eclDrainEffect s)

/-- An update sent before E that arrives on a port after local E counts in the shadow too (R185 step 4). -/
def shadowBaton (port b : Nat) (op : W32) (s : State) : State :=
  match s.ecl with
  | none => s
  | some e =>
    if e.capturing && (eclMissing s e).contains (true, port) && batonWordOk op then
      { s with ecl := some { e with batons := tmod {} e.batons b fun x => { x with value := batonApply op x.value } } }
    else s

/-- The STATE of a group that a Relay packet sent before E changes after local E changes in the shadow too (R185 step 4). -/
def shadowGroup (port n : Nat) (before after : State) : State :=
  let g := groupAt after n
  if decide (gState g = gState (groupAt before n)) && decide (g.gabort = (groupAt before n).gabort) then after
  else match after.ecl with
    | none => after
    | some e =>
      if e.capturing && (eclMissing after e).contains (true, port) then
        { after with ecl := some { e with groups := tmod {} e.groups n fun x => { gSetState (gState g) x with gabort := g.gabort } } }
      else after

/-- What arrives on a port behind a marker of this Eclipse before local E is held until local E has passed (R185 step 3). -/
def behindMarker (s : State) (port : Nat) : Bool :=
  match s.ecl with
  | some e => !e.capturing && e.seen.contains (true, port)
  | none => false

end Sys2Proof.Machine
end

