-- ==== Sys2Proof/Machine/MemorySys.lean ====
section
/-! DEFINITION. HBM as software meets it: scrubbing (R265), the page-retirement queue (R268), channel retirement (R269 to R275), accesses of
NC pages (R283). -/

namespace Sys2Proof.Machine

open Sys2Proof

/-- A command on a register of a die that is absent ends with NO_TARGET (R258); its requester is not an operand (DESIGN CHOICE, log 113). -/
def onDie (win pa : Nat) (t s : State) : State := if diePresent s win then t else memErr 1 pa (noUnit win) s

/-- R265: the scrub reads a line of HBM. -/
def scrubEffect (pa : Nat) (corrected uncorrectable : Bool) (s : State) : State :=
  if !(hbmThere s pa) || s.mem.poison.contains (lineOf pa) then s
  else
    let t := if corrected then readCorrected pa s else s
    if uncorrectable then memErr 2 pa (noUnit (6 + tileOf pa)) (readUncorrectable pa t) else t

def execScrubStep (pa : Nat) (corrected uncorrectable : Bool) (s : State) : Host.Outcome State Fault Refusal :=
  .next (scrubEffect pa corrected uncorrectable s)

/-! The page-retirement queue -/

/-- A page record as MD.PGRET_POP returns it (R268). -/
def pgretWord (r : Nat × Nat × Nat) : W64 := BitVec.ofNat 64 (r.1 * 4096 + r.2.1 + 16 * r.2.2)

def pgretPopEffect (md : Nat) (s : State) : State :=
  let m := mdAt s md
  match m.pgret with
  | [] => emit (.readData (mdReg md 0x188) 0) s
  | r :: rest => emit (.readData (mdReg md 0x188) (pgretWord r)) (mdPut s md { m with pgret := rest })

def execPgretPop (md : Nat) (s : State) : Host.Outcome State Fault Refusal := onUnit (okMd md) (onDie (6 + md) (mdReg md 0x188) (pgretPopEffect md s) s)

/-! Channel retirement -/

/-- Neither a candidate already nor past being one. -/
def newCandidate (s : State) (md c : Nat) : Bool :=
  let m := mdAt s md
  !(m.cands.contains c || m.retired.contains c || m.noReserve.contains c || decide (m.migrating = some c))

/-- A channel becomes a candidate (R269): the fault is logged, and its entry waits for open windows (R491). -/
def becomeCandidate (md c detail : Nat) (s : State) : State :=
  if !(newCandidate s md c) then s
  else
    let wait := deferNow s
    let u := fault1 0x0104 (128 * md + c) detail [(2, 128 * md + c)] s
    if inReset u then u else if wait then deferRepair 0x0104 (128 * md + c) false 0 u else addCandidate md c u

/-- R269: corrected errors above CH_CE_LIMIT within one hour. -/
def candidateEffect (channel : Nat) (s : State) : State :=
  let md := channel / 128
  let c := channel % 128
  let l := (tget [] (mdAt s md).chanCe c).filter fun e => decide (frameNow s ≤ e.1 + hourFrames s)
  if mdPresent s md && decide (oget s 0x2200 2 < errorCount l) then becomeCandidate md c 0 s else s

def execChannelCandidate (channel : Nat) (s : State) : Host.Outcome State Fault Refusal :=
  onUnit (decide (channel < 768)) (candidateEffect channel s)

def retCmdEffect (md : Nat) (v : W64) (s : State) : State := becomeCandidate md (32 * fld 1 0 v + fld 6 2 v) 1 s

def execRetCmd (md : Nat) (value : W64) (s : State) : Host.Outcome State Fault Refusal := onUnit (okMd md) (onDie (6 + md) (mdReg md 0x1C8) (retCmdEffect md value s) s)

def execRetGo (md : Nat) (value : W64) (s : State) : Host.Outcome State Fault Refusal :=
  onUnit (okMd md) (onDie (6 + md) (mdReg md 0x1D0) (onlyIf (bit 0 value) (startMigration md s) s) s)

/-- HBM_CAPACITY (R299, R272): 16 GiB less in a tile with a retired channel. -/
def hbmCapacity (s : State) : Nat :=
  (upto 0 6).foldl (fun n k => if mdPresent s k then n + (if (mdAt s k).retired = [] then tileSize else tileSize - 0x400000000) else n) 0

/-- Step 4 of R272: the channel is retired, the window closes, and a further candidate's migration starts where one waits. -/
def migrationEffect (md : Nat) (s : State) : State :=
  let m := mdAt s md
  match m.migrating with
  | none => s
  | some c =>
    let out := m.cands.filter fun k => decide (k / 32 = c / 32)
    let t := mdPut s md { m with
      migrating := none, retired := insNat c m.retired, cands := m.cands.filter fun k => decide (k / 32 ≠ c / 32)
      noReserve := out.foldl (fun l k => insNat k l) m.noReserve }
    let t := { t with flash := { t.flash with retired := insNat (128 * md + c) t.flash.retired } }
    let t := clarynEvent 0x3403 1 (hbmCapacity t) t
    startMigration md (closeWindow 0x0205 (128 * md + c) t)

def execMigrationComplete (md : Nat) (s : State) : Host.Outcome State Fault Refusal := onUnit (okMd md) (onlyIf (mdPresent s md) (migrationEffect md s) s)

/-- An access to an NC page: at the HBM controller, in no cache, without a snoop (R283). -/
def ncEffect (who : Requester) (write : Bool) (pa size : Nat) (value : W64) (s : State) : State :=
  let part := partOf s who
  if size ≠ 1 ∧ size ≠ 2 ∧ size ≠ 4 ∧ size ≠ 8 ∨ pa % size ≠ 0 then s
  else match rangeError s part write pa size with
    | some e => errorTo e.1 e.2 who write false s
    | none => match target s pa with
      | .hbm _ =>
        if ncWaits s who part (lineOf pa) then s
        else if write then
          let r := ncWrite part pa false (leBytes size value.toNat) s
          (match r.1 with | some c => errorTo c pa who true false r.2 | none => r.2)
        else
          let r := ncRead part pa size s
          (match r.1 with
           | some c => errorTo c pa who false false r.2.2
           | none => emit (.readData pa (BitVec.ofNat 64 (leNat r.2.1))) r.2.2)
      | _ => s

def execNcAccess (who : Requester) (write : Bool) (pa size : Nat) (value : W64) (flaws : List (Nat × Bool)) (s : State) :
    Host.Outcome State Fault Refusal :=
  onUnit (okRequester who) (withFlaws flaws (ncEffect who write pa size value) s)

end Sys2Proof.Machine
end

