-- ==== Sys2Proof/Machine/Power.lean ====
section
/-! DEFINITION. Power, thermal control and ageing (R402 to R425, R510). Powers come in milliwatts, temperatures in 0.01 °C. -/

namespace Sys2Proof.Machine

open Sys2Proof

def pwrMod (f : Power → Power) (s : State) : State := { s with pwr := f s.pwr }

/-- Claryn manages power while it runs and package reset has not been entered. -/
def powerOn (s : State) : Bool := s.boot.claryn && !(inReset s) && !s.sec.haltClaryn

/-- A power of `num / den` milliwatts in whole watts; of a fraction the spec states no rounding. -/
def watts (num den : Nat) (s : State) : Nat × State :=
  if num % (1000 * den) = 0 then (num / (1000 * den), s)
  else
    let (x, t) := drawFree s
    (num / (1000 * den) + x.toNat % 2, t)

/-- Publish a power in an object of `w` bits. -/
def setWatts (index sub w num den : Nat) (s : State) : State :=
  let r := watts num den s
  oset r.2 index sub (r.1 % 2 ^ w)

/-! Levels in force -/

/-- The core rail is set where what it must be has changed (R404). -/
def railFollow (old : Nat) (s : State) : State := if railMv s = old then s else emit (.railSet (railMv s)) s

/-- A CD whose level asks for another operating point starts a change (R405); with the same point DIE_LEVEL follows at once. -/
def retarget (d : Nat) (s : State) : State :=
  let l := levelOf s d
  if tget 0 s.pwr.target d ≠ 0 then s
  else if pointOf l = tget 0 s.pwr.point d then oset s 0x4011 (d + 1) l
  else railFollow (railMv s) (pwrMod (fun p => { p with target := tset 0 p.target d (pointOf l + 1) }) s)

/-- Whether a CD runs above the package level for thermal or ageing reasons, or under a Lap emergency (R415). -/
def liftedCd (s : State) (d : Nat) : Bool :=
  decide (s.pwr.level < tget 0 s.pwr.thermal d) || decide (s.pwr.level < tget 0 s.pwr.topLevel d) || decide (s.pwr.level < tget 0 s.pwr.lap d)

/-- FIXED_LAPSED (R415) and its event, in the mode in force (R423). -/
def lapse (s : State) : State :=
  if s.pwr.mode = 1 ∧ oget s 0x4010 8 = 0 then clarynEvent 0x4010 8 1 (oset s 0x4010 8 1) else s

/-- After any change of what the effective levels rest on: the points follow, LIMIT_CAUSE and FIXED_LAPSED show it. -/
def levelsMoved (s : State) : State :=
  let t := ((upto 0 6).filter (cdPresent s)).foldl (fun u d => retarget d u) s
  let t := oset t 0x4010 4 (limitCause t)
  if (upto 0 6).any fun d => cdPresent t d && liftedCd t d then lapse t else t

/-- The top level of each die, and what the ADs run at, as the objects show them. -/
def publishTops (s : State) : State :=
  let t := (upto 0 6).foldl (fun u d => oset u 0x4203 (d + 1) (tget 0 u.pwr.topLevel d)) s
  (upto 0 2).foldl (fun u a => oset u 0x4013 (a + 1) (adFreq u a)) t

/-! Telemetry -/

/-- R510: a regulator silent for 1 ms. -/
def regulatorTimeoutEffect (r : Nat) (s : State) : State :=
  if powerOn s && !(s.pwr.lostRails.contains r) then
    clarynEvent 0x4010 1 (oget s 0x4010 1) (pwrMod (fun p => { p with lostRails := insNat r p.lostRails }) s)
  else s

def execRegulatorTimeout (rail : Nat) (s : State) : Host.Outcome State Fault Refusal := onUnit (decide (rail < 7)) (regulatorTimeoutEffect rail s)

/-- Package power (R402): the rails read, and for a rail left out a share the spec gives no figure for. -/
def packagePower (s : State) : Nat × State :=
  (upto 0 7).foldl (fun (r : Nat × State) i =>
    if r.2.pwr.lostRails.contains i then
      let (x, t) := drawFree r.2
      (r.1 + x.toNat % 2 ^ 32, t)
    else (r.1 + r.2.pwr.rails.getD i 0, r.2)) (0, s)

/-- R510: each regulator's power as read; one left out stays out. The package power joins those of the last 10 s, the longest CAP_WINDOW:
a reading every 100 µs (R402). -/
def railReadEffect (milliwatts : List Nat) (s : State) : State :=
  if powerOn s then
    let r := packagePower (pwrMod (fun p => { p with rails := milliwatts.take 7 }) s)
    pwrMod (fun p => { p with hist := (r.1 :: p.hist).take 100000 }) r.2
  else s

def execRailPowerRead (milliwatts : List Nat) (s : State) : Host.Outcome State Fault Refusal := .next (railReadEffect milliwatts s)

/-- The mean of the package power over the last `ms` milliseconds, as a sum and a count; over what there is, where that is less (R402). -/
def meanPower (s : State) (ms : Nat) : Nat × Nat :=
  let l := s.pwr.hist.take (10 * ms)
  (l.foldl (fun n x => n + x) 0, max 1 l.length)

/-- Divide a power among dies: free shares whose sum is the whole. -/
def shares : List Nat → Nat → State → List (Nat × Nat) × State
  | [], _, s => ([], s)
  | [w], p, s => ([(w, p)], s)
  | w :: r, p, s =>
    let (x, t) := drawFree s
    let k := x.toNat % (p + 1)
    let (l, u) := shares r (p - k) t
    ((w, k) :: l, u)

/-- DIE_POWER shows the estimates. -/
def publishEst (l : List (Nat × Nat)) (s : State) : State := l.foldl (fun u e => setWatts 0x4012 (e.1 + 1) 16 e.2 1 u) s

/-- R402: the estimates of the present dies are made to sum to the measured power. -/
def estimatorRescaleEffect (s : State) : State :=
  if !(powerOn s) then s
  else
    let r := packagePower s
    let (l, t) := shares ((upto 0 16).filter (diePresent s)) r.1 r.2
    let t := pwrMod (fun p => { p with est := (upto 0 16).map fun w => (aget l w).getD 0 }) t
    publishEst l t

def execEstimatorRescale (s : State) : Host.Outcome State Fault Refusal := .next (estimatorRescaleEffect s)

/-! The cap (R408 to R415) -/

/-- L of fixed-table mode (R413). -/
def fixedLevel (cap : Nat) : Nat := (2600 - cap + 199) / 200

/-- P_proj ≥ k × POWER_CAP / 100, without division (R408): `d` and `avg` are D and P_avg, each a sum and a count. -/
def projAtLeast (d avg : Nat × Nat) (window cap k : Nat) : Bool :=
  decide ((k * cap * 1000 * window * (d.2 * avg.2) : Int) ≤
    100 * ((avg.1 * d.2 : Int) * window + ((d.1 * avg.2 : Int) - avg.1 * d.2) * min 100 window))

/-- L changes; leaving level 22 clears CAP_UNATTAINABLE with an event (R409). -/
def setLevel (l : Nat) (s : State) : State :=
  let was := s.pwr.level
  let t := oset (pwrMod (fun p => { p with level := l }) s) 0x4010 3 l
  if was = 22 ∧ l < 22 ∧ oget t 0x4010 5 = 1 then clarynEvent 0x4010 5 0 (oset t 0x4010 5 0) else t

/-- The supply guard at a 1 ms step (R410). -/
def supplyGuard (mean5 : Nat × Nat) (s : State) : State :=
  if 2600000 * mean5.2 < mean5.1 then
    let t := if s.pwr.guardOn then s else lapse (bumpObj 0x4010 7 32 1 s)
    pwrMod (fun p => { p with guardOn := true, guardAdd := min 22 (p.guardAdd + 2), sinceGuard := 0 }) t
  else pwrMod (fun p => { p with guardOn := false }) s

/-- Steps 1 to 4 of R408. -/
def capStep (d avg : Nat × Nat) (s : State) : State :=
  let cap := oget s 0x4000 1
  let win := oget s 0x4000 2
  if projAtLeast d avg win cap 100 then
    if s.pwr.level < 22 then setLevel (s.pwr.level + 1) s
    else if oget s 0x4010 5 = 0 then clarynEvent 0x4010 5 1 (oset s 0x4010 5 1) else s
  else if !(projAtLeast d avg win cap 98) && decide (0 < s.pwr.level) && decide (10 ≤ s.pwr.sinceUp) && decide (10 ≤ s.pwr.sinceGuard) then
    setLevel (s.pwr.level - 1) (pwrMod (fun p => { p with sinceUp := 0 }) s)
  else s

/-- R408, R413, R423: the 1 ms control step. -/
def capControlEffect (s : State) : State :=
  if !(powerOn s) then s
  else
    let d := meanPower s 1
    let avg := meanPower s (oget s 0x4000 2)
    let t := pwrMod (fun p => { p with
      sinceUp := min 10 (p.sinceUp + 1)
      sinceGuard := if p.fastOn || decide (p.guardAdd ≠ 0) || p.acted then 0 else min 10 (p.sinceGuard + 1)
      acted := false
      mode := oget s 0x4000 3 }) s
    let t := setWatts 0x4010 2 32 avg.1 avg.2 (setWatts 0x4010 1 32 d.1 d.2 t)
    let t := supplyGuard (meanPower s 5) t
    levelsMoved (if t.pwr.mode = 1 then setLevel (fixedLevel (oget t 0x4000 1)) t else capStep d avg t)

def execCapControlStep (s : State) : Host.Outcome State Fault Refusal := .next (capControlEffect s)

/-- The dies' estimators as they read now (R402), in window order; a die that is absent draws nothing. -/
def estimatesRead (l : List Nat) (s : State) : State :=
  let e := (upto 0 16).map fun w => if diePresent s w then l.getD w 0 else 0
  publishEst (((upto 0 16).filter (diePresent s)).map fun w => (w, e.getD w 0)) (pwrMod (fun p => { p with est := e }) s)

/-- R410: the fast limiter engages above 2,900 W of estimates. -/
def fastEngageEffect (l : List Nat) (s : State) : State :=
  if powerOn s then
    let t := estimatesRead l s
    if 2900000 < t.pwr.est.foldl (fun n x => n + x) 0 ∧ t.pwr.fastOn = false then
      levelsMoved (lapse (bumpObj 0x4010 6 32 1 (pwrMod (fun p => { p with fastOn := true, sinceGuard := 0, acted := true }) t)))
    else t
  else s

def execFastLimiterEngage (estimates : List Nat) (s : State) : Host.Outcome State Fault Refusal := .next (fastEngageEffect estimates s)

def execFastLimiterRelease (s : State) : Host.Outcome State Fault Refusal :=
  .next (onlyIf (powerOn s && s.pwr.fastOn) (levelsMoved (pwrMod (fun p => { p with fastOn := false, sinceGuard := 0, acted := true }) s)) s)

/-- R410: one step of the supply guard's addition goes once the mean is down. -/
def execSupplyGuardRelease (s : State) : Host.Outcome State Fault Refusal :=
  .next (onlyIf (powerOn s && !s.pwr.guardOn && decide (s.pwr.guardAdd ≠ 0))
    (levelsMoved (pwrMod (fun p => { p with guardAdd := p.guardAdd - 1, sinceGuard := 0, acted := true }) s)) s)

/-- R405: the change ends; DIE_LEVEL shows the level, or the point reached where the level has moved on since. -/
def opChangeEffect (d : Nat) (s : State) : State :=
  match tget 0 s.pwr.target d with
  | 0 => s
  | k + 1 =>
    let old := railMv s
    let t := railFollow old (pwrMod (fun p => { p with point := tset 0 p.point d k, target := tset 0 p.target d 0 }) s)
    retarget d (if pointOf (levelOf t d) = k then t else oset t 0x4011 (d + 1) k)

def execOpChangeComplete (cd : Nat) (s : State) : Host.Outcome State Fault Refusal :=
  onUnit (okCd cd) (onlyIf (powerOn s) (opChangeEffect cd s) s)

/-- A write of POWER_CAP: the status, and the state after it (R413). -/
def powerCapSet (v : Nat) (s : State) : Nat × State :=
  if v < 700 ∨ 2600 < v then (6, s)
  else if oget s 0x4000 3 = 1 ∧ v < 1200 then (8, s)
  else (0, oset s 0x4000 1 v)

def execPowerCapWrite (value : Nat) (s : State) : Host.Outcome State Fault Refusal := .next (onlyIf (objectsOpen s) (powerCapSet value s).2 s)

/-- A write of POWER_MODE (R413, R423): the new mode applies from the next control step. -/
def powerModeSet (v : Nat) (s : State) : Nat × State :=
  if 1 < v then (6, s) else if v = 1 ∧ oget s 0x4000 1 < 1200 then (8, s) else (0, oset s 0x4000 3 v)

def execPowerModeWrite (value : Nat) (s : State) : Host.Outcome State Fault Refusal := .next (onlyIf (objectsOpen s) (powerModeSet value s).2 s)

/-- A write of FIXED_LAPSED: only 0 may be written (R415). -/
def fixedLapsedSet (v : Nat) (s : State) : Nat × State := if v = 0 then (0, oset s 0x4010 8 0) else (6, s)

/-! Temperatures (R416 to R419) -/

/-- Stacks of a tile (R262). -/
def tileStacks (n : Nat) : List Nat := upto (4 * n) 4

/-- Temperatures as read; a sensor the step gives no reading of stays far below every limit. -/
def dieTemp (s : State) (w : Nat) : Int := s.pwr.dieTemps.getD w (-27315)
def hbmTemp (s : State) (k : Nat) : Int := s.pwr.hbmTemps.getD k (-27315)

/-- A CD's hottest sensor, or a stack of its tile, stands within `below` of its limit or above it (R417). -/
def hotCd (s : State) (d : Nat) (below : Int) : Bool :=
  decide (100 * (oget s 0x4100 1 : Int) - below < dieTemp s d + 1) ||
  (mdPresent s d && (tileStacks d).any fun k => decide (9000 - below < hbmTemp s k + 1))

/-- A CD's thermal level after one step, and the steps it has kept it (R417). -/
def thermalCd (d : Nat) (s : State) : State :=
  let l := tget 0 s.pwr.thermal d
  let age := min 10 (tget 0 s.pwr.thermAge d + 1)
  let put (v a : Nat) (u : State) := pwrMod (fun p => { p with thermal := tset 0 p.thermal d v, thermAge := tset 0 p.thermAge d a }) u
  if hotCd s d 0 then (if l < 22 then bumpObj 0x4103 1 32 1 (put (l + 1) 0 s) else put l age s)
  else if !(hotCd s d 299) && decide (10 ≤ age) && decide (0 < l) then put (l - 1) 0 s
  else put l age s

/-- An AD's clock after one step (R417). -/
def thermalAd (a : Nat) (s : State) : State :=
  let w := 12 + a
  let lim := 100 * (oget s 0x4100 1 : Int)
  let n := tget 0 s.pwr.adDrop a
  let age := min 10 (tget 0 s.pwr.adAge a + 1)
  let put (v g : Nat) (u : State) := pwrMod (fun p => { p with adDrop := tset 0 p.adDrop a v, adAge := tset 0 p.adAge a g }) u
  if lim ≤ dieTemp s w then
    let v := max n (min 5 ((3200 - adFreq s a) / 400 + 1))
    put v (if v = n then age else 0) s
  else if decide (dieTemp s w ≤ lim - 300) && decide (10 ≤ age) && decide (0 < n) then put (n - 1) 0 s
  else put n age s

def throttling (s : State) : Bool := (upto 0 6).any fun d => cdPresent s d && decide (tget 0 s.pwr.thermal d ≠ 0)

/-- A signed value as an I32 object holds it (R427). -/
def i32 (v : Int) : Nat := (v % 2 ^ 32).toNat

/-- R417: the 1 ms thermal step. -/
def thermalStepEffect (dies hbms : List Int) (s : State) : State :=
  if !(powerOn s) then s
  else
    let was := throttling s
    let t := pwrMod (fun p => { p with dieTemps := dies.take 16, hbmTemps := hbms.take 24 }) s
    let t := ((upto 0 16).filter fun w => diePresent t w && decide (w < dies.length)).foldl (fun u w => oset u 0x4101 (w + 1) (i32 (dieTemp u w))) t
    let t := ((upto 0 24).filter fun k => mdPresent t (k / 4) && decide (k < hbms.length)).foldl (fun u k => oset u 0x4102 (k + 1) (i32 (hbmTemp u k))) t
    let t := ((upto 0 6).filter (cdPresent t)).foldl (fun u d => thermalCd d u) t
    let t := ((upto 0 2).filter fun a => diePresent t (12 + a)).foldl (fun u a => thermalAd a u) t
    let t := railFollow (railMv s) (publishTops t)
    levelsMoved (if !was && throttling t then clarynEvent 0x4103 1 (oget t 0x4103 1) t else t)

def execThermalStep (dieTemps hbmTemps : List Int) (s : State) : Host.Outcome State Fault Refusal := .next (thermalStepEffect dieTemps hbmTemps s)

/-- A die (0 to 15) or stack (16 to 39) of a thermal trip is present, in reset or not; before discovery, and where the start has failed, fitted. -/
def tripUnit (s : State) (u : Nat) : Bool :=
  let w := if u < 16 then u else 6 + (u - 16) / 4
  if s.boot.phase = .starting ∨ s.boot.phase = .failed then dieFitted s.fuse.part w else s.present.testBit w

/-- R419: a unit at its critical limit; 0x0402 is logged, THERM_TRIP_N driven low, package reset entered with reason 5. -/
def thermalTripEffect (u : Nat) (c : Int) (s : State) : State :=
  if tripUnit s u && decide ((if u < 16 then 11000 else 9500) ≤ c) && !(inReset s && decide (s.boot.phase ≠ .goingDown) && decide (s.boot.phase ≠ .failed)) then
    record 0x0402 u (i32 c) 0 (packageReset 5 (emit .thermTrip { s with boot := { s.boot with thermTrip := true } }))
  else s

def execThermalTrip (unit : Nat) (centi : Int) (s : State) : Host.Outcome State Fault Refusal :=
  onUnit (decide (unit < 40)) (thermalTripEffect unit centi s)

/-! Ageing (R420 to R422) -/

def replanStart (s : State) : State := oset (pwrMod (fun p => { p with replan := true }) s) 0x4200 3 1

/-- A re-plan asked for while one runs waits for its end (R420). -/
def replanWant (s : State) : State := if s.pwr.replan then pwrMod (fun p => { p with wantPlan := true }) s else replanStart s

/-- R420: less than half the required slack. A die below V_MAX is raised by 10 mV, to no more than V_MAX (R403); at V_MAX a CD's effective
level rises by one. An AD runs at no level: there only the emergency stands. -/
def lapEffect (w slack : Nat) (s : State) : State :=
  if !(powerOn s && diePresent s w && (decide (w < 6) || decide (w = 12) || decide (w = 13)) && decide (2 * slack < oget s 0x4200 5)) then s
  else
    let v := usedMv s w
    let t :=
      if v < vMax w then pwrMod (fun p => { p with boost := tset 0 p.boost w (tget 0 p.boost w + min 10 (vMax w - v)) }) s
      else pwrMod (fun p => { p with lap := tset 0 p.lap w (if w < 6 then min 22 (ownLevel s w + 1) else 1) }) s
    let t := replanWant (railFollow (railMv s) t)
    let t := levelsMoved t
    clarynEvent 0x4010 4 (oget t 0x4010 4) t

def execLapSlackCheck (die : Nat) (slackMv : Nat) (s : State) : Host.Outcome State Fault Refusal := onUnit (okDie die) (lapEffect die slackMv s)

/-- R421: a REPLAN_CMD written while a re-plan runs is ignored. -/
def replanCmdSet (v : Bool) (s : State) : State := if v && powerOn s && !s.pwr.replan then replanStart s else s

def execReplanCmd (value : Bool) (s : State) : Host.Outcome State Fault Refusal := .next (onlyIf (objectsOpen s) (replanCmdSet value s) s)

/-- R421: 1,000 powered hours since the last re-plan. -/
def execReplanTimer (s : State) : Host.Outcome State Fault Refusal :=
  .next (onlyIf (powerOn s && !s.pwr.replan && decide (s.flash.replanHours + 1000 ≤ s.flash.hours)) (replanStart s) s)

/-- Voltage of a point from the voltage its replicas require: the guard added, rounded up to 5 mV (R421 step 2). -/
def plannedFrom (guard req : Nat) : Nat := (req + guard + 4) / 5 * 5

/-- Powered hours until the fitted line reaches zero margin (R421 step 5): 0xFFFF_FFFF where it does not fall; the rounding of a fraction,
and a line that reached zero before now, have no stated value. -/
def marginHours (hist : List (Nat × Int)) (hoursNow : Nat) (s : State) : Nat × State :=
  let n : Int := hist.length
  let sx : Int := hist.foldl (fun a e => a + e.1) 0
  let sy : Int := hist.foldl (fun a e => a + e.2) 0
  let sxy : Int := hist.foldl (fun a e => a + e.1 * e.2) 0
  let sxx : Int := hist.foldl (fun a e => a + (e.1 : Int) * e.1) 0
  let num := n * sxy - sx * sy
  let den := n * sxx - sx * sx
  if den ≤ 0 ∨ 0 ≤ num then (0xFFFFFFFF, s)
  else
    -- x0 − now = (sy × den − sx × num) / (n × −num) − now
    let a := sy * den - sx * num - hoursNow * (n * -num)
    let b := n * -num
    let (x, t) := drawFree s
    if a < 0 ∨ 2 ^ 32 ≤ a / b then (x.toNat % 2 ^ 32, t)
    else if a % b = 0 then ((a / b).toNat, s)
    else ((a / b).toNat + x.toNat % 2, t)

/-- Margins of a die after a re-plan, entered in the history (R421 steps 4 and 5). -/
def marginsOf (w : Nat) (mv : Int) (s : State) : State :=
  let h := s.flash.hours
  let all := (w, h, mv) :: s.flash.history
  let mine := (all.filter fun e => decide (e.1 = w)).take 64
  let keep := mine ++ all.filter fun e => decide (e.1 ≠ w)
  let t := oset { s with flash := { s.flash with history := keep } } 0x4201 (w + 1) (i32 mv)
  if w < 6 ∨ w = 12 ∨ w = 13 then
    let r := marginHours (mine.map fun e => (e.2.1, e.2.2)) h t
    oset r.2 0x4202 (w + 1) r.1
  else t

/-- One point's new voltage (R421 steps 2 and 3): 0 where it is withdrawn. -/
def planPoint (guard : Nat) (s : State) (e : Nat × Nat × Nat) : State :=
  let v := plannedFrom guard e.2.2
  pwrMod (fun p => { p with volts := tset 0 p.volts (16 * e.1 + e.2.1) (if vMax e.1 < v then 1 else v + 1) }) s

/-- A die's top level after a re-plan that had the voltages `was`. A withdrawal raises an event. -/
def retop (was : Tab Nat) (s : State) (w : Nat) : State :=
  let k := planTop s.pwr.volts w
  let t := pwrMod (fun p => { p with topLevel := tset 0 p.topLevel w k }) s
  if (upto 0 (pointsOf w)).any fun p => decide (tget 0 s.pwr.volts (16 * w + p) = 1) && decide (tget 0 was (16 * w + p) ≠ 1) then
    clarynEvent (if w < 6 then 0x4203 else 0x4201) (w + 1) (if w < 6 then k else oget t 0x4201 (w + 1)) t
  else t

/-- An MD's or XD's margin at its fixed voltage; an event where it falls below 10 mV (R421). -/
def fixedMargin (s : State) (e : Nat × Int) : State :=
  let before := s.flash.history.find? fun h => decide (h.1 = e.1)
  let low := match before with
    | some h => decide (h.2.2 < 10)
    | none => false
  let t := marginsOf e.1 e.2 s
  if decide (e.2 < 10) && !low then clarynEvent 0x4201 (e.1 + 1) (i32 e.2) t else t

/-- R421: what the re-plan found, per die, point and required millivolts, and the margins at fixed voltage. -/
def replanCompleteEffect (required : List (Nat × Nat × Nat)) (fixed : List (Nat × Int)) (s : State) : State :=
  if !(powerOn s && s.pwr.replan) then s
  else
    let old := railMv s
    let guard := oget s 0x4200 5
    let dies := poweredDies s
    let req := required.filter fun e => dies.contains e.1 && decide (e.2.1 < pointsOf e.1)
    let t := req.foldl (planPoint guard) s
    let t := { t with flash := { t.flash with volts := t.pwr.volts, replanHours := t.flash.hours } }
    let t := oset t 0x4200 4 t.flash.hours
    let t := dies.foldl (fun u w => match req.find? fun e => decide (e.1 = w) && decide (e.2.1 = 0) with
      | some e => marginsOf w ((vMax w : Int) - plannedFrom guard e.2.2) u
      | none => u) t
    let t := (fixed.filter fun e => diePresent t e.1 && !(dies.contains e.1)).foldl fixedMargin t
    let t := pwrMod (fun p => { p with replan := false, lap := [], boost := [] }) t
    let t := publishTops (dies.foldl (retop s.pwr.volts) t)
    let t := levelsMoved (railFollow old (oset t 0x4200 3 0))
    if t.pwr.wantPlan then replanStart (pwrMod (fun p => { p with wantPlan := false }) t) else t

def execReplanComplete (required : List (Nat × Nat × Nat)) (fixedMargins : List (Nat × Int)) (s : State) : Host.Outcome State Fault Refusal :=
  .next (replanCompleteEffect required fixedMargins s)

/-- R422: POWERED_HOURS counts, and Claryn's record takes the plan in use. -/
def poweredHourEffect (s : State) : State :=
  if powerOn s then
    let t := bumpObj 0x4200 1 32 1 s
    { t with flash := { t.flash with hours := oget t 0x4200 1, volts := t.pwr.volts } }
  else s

def execPoweredHour (s : State) : Host.Outcome State Fault Refusal := .next (poweredHourEffect s)

/-- CD_OP_VOLTAGE (R424): the eight voltages as U16 millivolts. -/
def opVoltages (s : State) (d : Nat) : List Byte := (upto 0 8).foldl (fun l p => l ++ leBytes 2 (dieMv s d p)) []

end Sys2Proof.Machine
end

