-- ==== Sys2Proof/Machine/Security.lean ====
section
/-! DEFINITION. The security controller: updates (R461), two-party changes (R463 to R466), attestation (R470), key loading (R471),
alarms (R472), controller failures (R454, R455) and debug access (R475 to R477). A write of an object answers the status of R437. -/

namespace Sys2Proof.Machine

open Sys2Proof

def secMod (f : Security → Security) (s : State) : State := { s with sec := f s.sec }

/-- The security controller and Claryn run (R458), and no package reset has been entered. -/
def secOn (s : State) : Bool := s.boot.claryn && !(inReset s) && !s.sec.haltSec

/-! Firmware update (R461) -/

/-- A staged image lies in local HBM, 4 KiB aligned, and reads without error. -/
def stageOk (s : State) (pa n : Nat) : Bool :=
  decide (pa % 4096 = 0) && decide (0 < n) && decide (n ≤ 0x2000000) && decide (pa + n ≤ 6 * tileSize) &&
  (lineStarts pa n).all (hbmThere s) && decide (rangeError s none false pa n = none)

/-- An image cut into its header and payloads (R459). -/
def cutImage (l : List Byte) : FwSlot :=
  let c := leAt l 0x0C 4
  let n := leAt l 0x10 4
  ⟨1, l.take 224, slice l 224 c, slice l (224 + c) n⟩

/-- The outcome of the checks on an image (R459, R462): 0 where it may be installed. -/
def imageCode (s : State) (f : FwSlot) : Nat :=
  if !(imgSound s.fuse.fwKeyDigest f) then 0x10 else if imgRollback f < oget s 0x5002 3 then 0x11 else 0

def fwUpdateSet (v : Nat) (s : State) : Nat × State :=
  if v ≠ 1 then (6, s)
  else if oget s 0x5030 4 = 1 then (12, s)
  else
    let pa := oget s 0x5030 1
    let n := oget s 0x5030 2
    let t := oset s 0x5030 4 1
    if stageOk s pa n then
      let f := cutImage (memBytes s pa n)
      (0, secMod (fun c => { c with staged := some f, stagedCode := imageCode s f }) t)
    else (0, secMod (fun c => { c with staged := none, stagedCode := 0x12 }) t)

def execFwUpdateCmd (value : Nat) (s : State) : Host.Outcome State Fault Refusal := .next (onlyIf (secOn s && objectsOpen s) (fwUpdateSet value s).2 s)

/-- Steps 3 and 4 of R461; a flash write that fails leaves the slot EMPTY or FAILED. -/
def fwUpdateCompleteEffect (flashOk : Bool) (s : State) : State :=
  if !(secOn s && decide (oget s 0x5030 4 = 1)) then s
  else
    let done := secMod (fun c => { c with staged := none, stagedCode := 0 }) s
    match s.sec.staged with
    | none => oset done 0x5030 4 0x12
    | some f =>
      if s.sec.stagedCode ≠ 0 then oset done 0x5030 4 s.sec.stagedCode
      else if flashOk then setOtherSlot (fun _ => { f with state := 1 }) (oset done 0x5030 4 2)
      else oset (abandonUpdate s) 0x5030 4 0x13

def execFwUpdateComplete (flashOk : Bool) (s : State) : Host.Outcome State Fault Refusal := .next (fwUpdateCompleteEffect flashOk s)

/-! Values of objects (R427, R431) -/

/-- Bytes of a fixed-size type; 0 for STR and OCTETS. -/
def typeBytes (ty : Nat) : Nat := [1, 1, 2, 4, 8, 4, 4, 8].getD ty 0

/-- Whether bytes are UTF-8 text, as a STR holds (R427). -/
def utf8 : Nat → List Byte → Bool
  | 0, l => decide (l = [])
  | _, [] => true
  | n + 1, b :: r =>
    let cont (k : Nat) : Bool := decide (k ≤ r.length) && (r.take k).all fun c => decide (c.toNat / 64 = 2)
    let c := (r.getD 0 0).toNat
    if b.toNat < 0x80 then utf8 n r
    else if 0xC2 ≤ b.toNat ∧ b.toNat < 0xE0 then cont 1 && utf8 n (r.drop 1)
    else if 0xE0 ≤ b.toNat ∧ b.toNat < 0xF0 then
      cont 2 && (b.toNat ≠ 0xE0 || 0xA0 ≤ c) && (b.toNat ≠ 0xED || c < 0xA0) && utf8 n (r.drop 2)
    else if 0xF0 ≤ b.toNat ∧ b.toNat < 0xF5 then
      cont 3 && (b.toNat ≠ 0xF0 || 0x90 ≤ c) && (b.toNat ≠ 0xF4 || c < 0x90) && utf8 n (r.drop 3)
    else false

/-- Reserved bits of a value (R431) beyond the top the row gives. -/
def reservedBits (index sub v : Nat) : Bool :=
  if index = 0x5103 then decide (bitsOf 15 14 v ≠ 0) || decide (bitsOf 31 30 v ≠ 0)
  else if index = 0x6010 ∧ sub = 9 then decide (bitsOf 7 5 v ≠ 0)
  else decide (index = 0x5102) && decide (255 < v)

/-- Stated values of an object that its row's range does not say (R280, R281, R424, R452). -/
def valueOk (index sub v : Nat) : Bool :=
  if index = 0x1100 ∧ sub = 2 then decide (v ≠ 3)
  else if index = 0x4000 ∧ sub = 5 then decide (v % 400 = 0)
  else if index = 0x1102 then decide (bitsOf 37 32 v ≤ 32)
  else if index = 0x5101 then decide (v ≤ 256)
  else if index = 0x5104 ∨ index = 0x5105 ∨ index = 0x5106 then decide (v < 16)
  else true

/-- Status of a value for an object: its length and type, its reserved bits, its range (R427, R431, R437). -/
def valueStatus (r : Row) (sub : Nat) (l : List Byte) : Nat :=
  if 8 ≤ r.ty then
    if r.len < l.length then 5 else if r.ty = 8 ∧ utf8 l.length l = false then 6 else 0
  else if l.length ≠ typeBytes r.ty then 5
  else
    let v := leNat l
    if (r.top < 64 ∧ 2 ^ r.top ≤ v) ∨ reservedBits r.index sub v = true then 7
    else if r.ty = 0 ∧ 1 < v then 6
    else if (r.min ≠ 0 ∨ r.max ≠ 0) ∧ (v < r.min ∨ r.max < v) then 6
    else if valueOk r.index sub v then 0 else 6

/-- Whether an object's unit is present (R430). -/
def unitThere (s : State) (u : ObjUnit) (i : Nat) : Bool :=
  match u with
  | .none => true
  | .link => decide ((linkAt s i).state ≠ 0)
  | .cd => s.present.testBit i
  | .md => s.present.testBit (6 + i)
  | .port => portFitted s.fuse.part i && s.present.testBit (if i < 12 then 14 else 15)
  | .die => s.present.testBit i
  | .stack => s.present.testBit (6 + i / 4)
  | .ad => s.present.testBit (12 + i)
  | .group => s.present.testBit (12 + i / 16)
  | .pcie => s.present.testBit (14 + i / 2)

/-- The row of an object that exists (R426, R430). -/
def objRow (s : State) (index sub : Nat) : Option Row :=
  match findRow index sub with
  | some r => if unitThere s r.unit (sub - r.sub) then some r else none
  | none => none

/-! Two-party changes (R463 to R468) -/

/-- Entries of a change record from its bytes (R463): index, subindex, value; none where an entry passes the record's end or its
padding is not zero. -/
def changeEntries : Nat → List Byte → Option (List (Nat × Nat × List Byte))
  | 0, l => if l = [] then some [] else none
  | n + 1, l =>
    let len := leAt l 3 1
    let pad := (len + 3) / 4 * 4
    if l.length < 4 + pad ∨ allZero (slice l (4 + len) (pad - len)) = false then none
    else (changeEntries n (l.drop (4 + pad))).map fun r => (leAt l 0 2, leAt l 2 1, slice l 4 len) :: r

/-- A record's entries where its layout is sound (outcome 0x10). -/
def changeParse (rec_ : List Byte) : Option (List (Nat × Nat × List Byte)) :=
  if rec_.length < 0x20 ∨ leAt rec_ 0 4 ≠ 0x50524331 ∨ leAt rec_ 6 2 ≠ 0 ∨ 4 ≤ leAt rec_ 0x1C 4 then none
  else changeEntries (leAt rec_ 4 2) (rec_.drop 0x20)

/-- An entry's value is accepted by its type, its reserved bits and its object's own rule (outcome 0x15). -/
def changeOk (s : State) (e : Nat × Nat × List Byte) : Bool :=
  match objRow s e.1 e.2.1 with
  | none => false
  | some r =>
    decide (valueStatus r e.2.1 e.2.2 = 0) &&
    (if e.1 = 0x5001 then decide (e.2.2.length = 64)
     else if e.1 = 0x5002 ∧ e.2.1 = 1 then decide (leNat e.2.2 < 8)
     else if e.1 = 0x5002 ∧ e.2.1 = 3 then decide (oget s 0x5002 3 ≤ leNat e.2.2)
     else if e.1 = 0x5002 ∧ e.2.1 = 4 then decide (e.2.2.length = 113) || decide (e.2.2 = [])
     else true)

/-- Protected values with the entries applied. -/
def applyEntries (l : List (Nat × Nat × List Byte)) (s : State) : State :=
  l.foldl (fun t e => match findRow e.1 e.2.1 with
    | some r => if 8 ≤ r.ty then octSet t e.1 e.2.1 e.2.2 else oset t e.1 e.2.1 (leNat e.2.2)
    | none => t) s

/-- The guarantees of all partitions (R280). -/
def guarSum (s : State) : Nat := (upto 1 16).foldl (fun n i => n + oget s 0x5101 i) 0

/-- A key as the objects hold it, zeros while none is set. -/
def pubKey (s : State) (sub : Nat) : List Byte :=
  let k := octGet s 0x5001 sub
  if k = [] then List.replicate 64 0 else k

/-- The outcome of a commit's checks (R465), in the table's order. -/
def commitCode (bankOk : Bool) (s : State) : Nat :=
  let r := s.sec.change
  match changeParse r with
  | none => 0x10
  | some l =>
    let claim := decide (leAt r 0x1C 4 % 2 = 1)
    let release := decide (leAt r 0x1C 4 / 2 = 1)
    let t := applyEntries l s
    if slice r 8 16 ≠ s.fuse.serial then 0x11
    else if leAt r 0x18 4 ≠ oget s 0x5000 2 then 0x12
    else if claim = decide (oget s 0x5000 1 = 1) ∨ (claim && release) = true then 0x13
    else if l.any (fun e => match objRow s e.1 e.2.1 with | some w => decide (w.acc ≠ 4) | none => true) then 0x14
    else if !(l.all (changeOk s)) || decide (256 < guarSum t) then 0x15
    else
      let u := if claim then t else s
      if !(sm2Verify (pubKey u 1) s.sec.sigOwner r) then 0x16
      else if !(sm2Verify (pubKey u 2) s.sec.sigCust r) then 0x17
      else if 2032 ≤ s.fuse.counter then 0x18
      else if !bankOk then 0x19 else 0

/-- The values of a change in force (R464): a release returns every protected object to its default, and FW_ROLLBACK_MIN stays burned. -/
def commitApply (s : State) : State :=
  let r := s.sec.change
  let l := (changeParse r).getD []
  let release := decide (leAt r 0x1C 4 / 2 = 1)
  let t := if release then protDefaults s else applyEntries l s
  let t := if release then t else { t with fuse := { t.fuse with rollback := oget t 0x5002 3 } }
  let t := loadOdk (sealCommit t)
  secMod (fun c => { c with badSigs := 0 }) (oset t 0x5000 1 (if release then 0 else 1))

/-- A write of PROT_COMMIT (R465): 8 failures of a signature in a row raise the alarm (R472). -/
def protCommitSet (v bankOk : Bool) (s : State) : State :=
  if !v then s
  else
    let c := commitCode bankOk s
    if c = 0 then
      let t := commitApply s
      clarynEvent 0x5000 2 (oget t 0x5000 2) (oset t 0x5010 5 0)
    else
      let t := oset s 0x5010 5 c
      if c = 0x16 ∨ c = 0x17 then
        let n := t.sec.badSigs + 1
        let t := secMod (fun k => { k with badSigs := if n = 8 then 0 else n }) t
        if n = 8 then alarm 2 c false t else t
      else t

def execProtCommit (value : Bool) (bankWrites : Bool) (s : State) : Host.Outcome State Fault Refusal :=
  .next (onlyIf (secOn s && objectsOpen s) (protCommitSet value bankWrites s) s)

/-! Attestation (R470) -/

/-- Bytes 0x00 to 0x9F of a report. -/
def reportBody (nonce : List Byte) (s : State) : List Byte :=
  leBytes 4 1 ++ leBytes 1 s.fuse.part ++ [0, 0, 0] ++ slice (s.fuse.serial ++ List.replicate 16 0) 0 16 ++ nonce ++
  leBytes 8 (now s).toNat ++ leBytes 4 (oget s 0x2400 3) ++ leBytes 4 (oget s 0x5000 2) ++ leBytes 4 (oget s 0x100A 1) ++
  leBytes 4 (oget s 0x100A 2) ++ slice (s.boot.measure ++ List.replicate 32 0) 0 32 ++
  slice (octGet s 0x5000 4 ++ List.replicate 32 0) 0 32 ++
  leBytes 1 s.sec.debug ++ leBytes 1 (oget s 0x5000 1) ++ leBytes 1 s.boot.slotBooted ++ [0] ++
  leBytes 4 s.flash.fsCount ++ leBytes 2 s.present ++ leBytes 2 s.fuse.stepping ++ leBytes 4 0

/-- The identity key's signature over bytes of a report (R456, R470), with the first random number that serves. -/
def identitySign (d n : Nat) (b : List Byte) : List Byte :=
  let e := sm2Digest sm2Ident (sm2Pub d) b
  ((upto 0 8).findSome? fun i => sm2SignWith d (Config.signNonce (8 * n + i)) e).getD (List.replicate 64 0)

/-- A write of ATT_NONCE: a report of 224 bytes, or DEVICE_STATE once the identity is erased. -/
def attNonceSet (nonce : List Byte) (s : State) : Nat × State :=
  if nonce.length ≠ 32 then (5, s)
  else if !s.boot.attest then (8, s)
  else match idPrivate s with
    | none => (8, s)
    | some d =>
      let b := reportBody nonce s
      (0, octSet { s with fresh := s.fresh + 1 } 0x5020 3 (b ++ identitySign d s.fresh b))

def execAttNonce (nonce : List Byte) (s : State) : Host.Outcome State Fault Refusal := .next (onlyIf (secOn s && objectsOpen s) (attNonceSet nonce s).2 s)

/-! Loading sequence keys (R471) -/

/-- A write of KEY_LOAD; 16 tag failures in a row raise the alarm (R472). -/
def keyLoadSet (l : List Byte) (s : State) : Nat × State :=
  let slot := leAt l 0 1
  if l.length ≠ 48 then (5, s)
  else if !(allZero (slice l 1 3)) then (7, s)
  else if 63 < slot then (6, s)
  else match s.sec.odk with
    | none => (8, s)
    | some k =>
      match gcmOpen k (slice l 4 12) (s.fuse.serial ++ leBytes 1 slot) (slice l 16 16) (slice l 32 16) with
      | some p =>
        let hi : W64 := BitVec.ofNat 64 (beNat (slice p 0 8))
        let lo : W64 := BitVec.ofNat 64 (beNat (slice p 8 8))
        (0, secMod (fun c => { c with badTags := 0 }) (slotWrite slot 5 lo false (slotWrite slot 6 hi false s)))
      | none =>
        let n := s.sec.badTags + 1
        let t := secMod (fun c => { c with badTags := if n = 16 then 0 else n }) s
        (6, if n = 16 then alarm 7 slot false t else t)

def execKeyLoad (bytes : List Byte) (s : State) : Host.Outcome State Fault Refusal := .next (onlyIf (secOn s && objectsOpen s) (keyLoadSet bytes s).2 s)

/-! Alarms and failures of the controllers -/

/-- An alarm that a detector raises; in steps 2 and 3 of R485 it is logged without effect (R498), and before a start there is no controller. -/
def alarmed (code detail : Nat) (early : Bool) (s : State) : State :=
  if s.boot.phase = .goingDown then logFault 0x0403 code detail 0 s else if inReset s then s else alarm code detail early s

/-- R472 code 0x04; before Claryn's release the start goes on (R474). -/
def execGlitchDetected (detector : Nat) (s : State) : Host.Outcome State Fault Refusal :=
  .next (alarmed 4 detector (!s.boot.claryn) s)

/-- R455: a failure of a controller, named 1 ECC, 2 residue, 3 watchdog. -/
def controllerFailure (security : Bool) (kind : Nat) (s : State) : State :=
  if security then alarmed 6 kind false s
  else if s.boot.claryn then fatal 0x0307 0 kind s else s

def execControllerCheckFailure (security : Bool) (kind : Nat) (s : State) : Host.Outcome State Fault Refusal :=
  .next (onlyIf (decide (kind = 1) || decide (kind = 2)) (controllerFailure security kind s) s)

def execWatchdogExpiry (security : Bool) (s : State) : Host.Outcome State Fault Refusal := .next (controllerFailure security 3 s)

/-! Debug (R475 to R477) -/

/-- A challenge of 32 bytes, fresh at every read (R476). -/
def debugChallengeEffect (s : State) : State :=
  let c := (Config.challenge s.fresh ++ List.replicate 32 0).take 32
  emit (.challenge c) (secMod (fun k => { k with challenge := c }) { s with fresh := s.fresh + 1 })

def execDebugChallengeRead (s : State) : Host.Outcome State Fault Refusal := .next (onlyIf (secOn s) (debugChallengeEffect s) s)

/-- Whether an unlock succeeds (R475, R476). -/
def unlockOk (level : Nat) (ownerSig debugSig debugKey : List Byte) (s : State) : Bool :=
  let m := sm3 (s.sec.challenge ++ s.fuse.serial ++ leBytes 1 level)
  decide (level ≤ oget s 0x5002 2) && decide (s.sec.challenge ≠ []) &&
  (decide (level = 0) || sm2Verify (pubKey s 1) ownerSig m) &&
  (decide (level < 3) || (decide (sm3 debugKey = s.fuse.debugKeyDigest) && sm2Verify debugKey debugSig m))

/-- R476, R477: four failures in a row raise the alarm; the level lasts until the next package reset. -/
def debugUnlockEffect (level : Nat) (ownerSig debugSig debugKey : List Byte) (s : State) : State :=
  if unlockOk level ownerSig debugSig debugKey s then
    let t := if 2 ≤ level then zeroKeys s else s
    let t := secMod (fun k => { k with badUnlocks := 0, debug := max k.debug level }) t
    clarynEvent 0x5050 1 t.sec.debug t
  else
    let n := s.sec.badUnlocks + 1
    let t := secMod (fun k => { k with badUnlocks := if n = 4 then 0 else n }) s
    if n = 4 then alarm 3 level false t else t

def execDebugUnlock (level : Nat) (ownerSig debugSig debugKey : List Byte) (s : State) : Host.Outcome State Fault Refusal :=
  .next (onlyIf (secOn s) (debugUnlockEffect level ownerSig debugSig debugKey s) s)

end Sys2Proof.Machine
end

