-- ==== Sys2Proof/Machine/Objects.lean ====
section
/-! DEFINITION. The objects of the dictionary as they read and as a write changes them (R426 to R431, R447 to R450, R452). -/

namespace Sys2Proof.Machine

open Sys2Proof

/-! Reading -/

def howMany (n : Nat) (f : Nat → Bool) : Nat := ((upto 0 n).filter f).length

/-- PORT_PEER_SEEN (R370): chip, port and incarnation as last announced in the STATE fields of R338. -/
def peerSeen (p : Port) : Nat :=
  p.told.getD 0 0 % 4096 + (p.told.getD 1 0 % 32) * 2 ^ 12 + (p.told.getD 2 0 % 2 ^ 14) * 2 ^ 18

/-- The value of a numeric object: what a unit holds now, or the value kept in the dictionary. -/
def objNum (s : State) (index sub : Nat) : Nat :=
  if index = 0x1008 then s.fuse.stepping
  else if index = 0x1010 ∧ sub = 1 then howMany 6 s.present.testBit
  else if index = 0x1010 ∧ sub = 2 then howMany 24 fun n => portFitted s.fuse.part n && s.present.testBit (if n < 12 then 14 else 15)
  else if index = 0x1010 ∧ sub = 3 then s.present
  else if index = 0x1010 ∧ sub = 4 then linkStateWord s
  else if index = 0x1F00 ∧ sub = 1 then runState s
  else if index = 0x3120 then linkSpares (linkAt s (sub - 1))
  else if index = 0x3203 then allowance s (sub - 1)
  else if index = 0x3300 ∧ sub = 5 then (s.items.filter fun e => decide (e.2.phase = .parked)).length
  else if index = 0x3403 then hbmCapacity s
  else if index = 0x3600 then (portAt s (sub - 1)).state
  else if index = 0x3603 then peerSeen (portAt s (sub - 1))
  else if index = 0x4010 ∧ sub = 3 then s.pwr.level
  else if index = 0x4010 ∧ sub = 4 then limitCause s
  else if index = 0x4013 then adFreq s (sub - 1)
  else if index = 0x4200 ∧ sub = 3 then b2n s.pwr.replan
  else if index = 0x4203 then tget 0 s.pwr.topLevel (sub - 1)
  else if index = 0x5030 ∧ sub = 5 then s.flash.slotA.state + 16 * s.flash.slotB.state + 256 * s.boot.slotBooted
  else if index = 0x5040 then s.flash.fsCount
  else if index = 0x5050 then s.sec.debug
  else if index = 0x6002 ∧ sub = 1 then s.tb.state
  else if index = 0x6002 ∧ sub = 2 then (now s).toNat
  else if index = 0x7000 ∧ sub = 3 then (match s.faults.log with | e :: _ => e.seq | [] => 0)
  else if index = 0x7001 ∧ sub = 3 then s.faults.windows.length
  else if index = 0x7002 ∧ sub = 1 then s.faults.resetReason
  else if index = 0x7002 ∧ sub = 2 then s.faults.resetCount
  else if index = 0x7002 ∧ sub = 3 then s.faults.startResult
  else if index = 0x7002 ∧ sub = 5 then b2n s.faults.stormHold
  else oget s index sub

/-- A fault-log entry's 32 bytes (R494). -/
def flogBytes (e : Flog) : List Byte :=
  leBytes 8 e.time.toNat ++ leBytes 4 e.seq ++ leBytes 4 e.incarn ++
  leBytes 2 e.code ++ leBytes 1 e.cls ++ leBytes 1 e.flags ++ leBytes 2 e.unit ++ [0, 0] ++ leBytes 4 e.detail ++ leBytes 4 0

def asciiOf (t : String) : List Byte := t.toList.map fun c => BitVec.ofNat 8 c.toNat

def partName (p : Nat) : String := if p = 0 then "SE9-A" else if p = 1 then "SE9-B" else "SE9-W"

/-- The value of a STR or OCTETS object. -/
def objOct (s : State) (index sub : Nat) : List Byte :=
  if index = 0x1000 ∧ sub = 1 then asciiOf "Brodwald"
  else if index = 0x1000 ∧ sub = 2 then asciiOf "Septoc E9"
  else if index = 0x1008 then asciiOf (partName s.fuse.part)
  else if index = 0x1009 then s.fuse.serial
  else if index = 0x1101 then s.fuse.mac
  else if index = 0x4204 then opVoltages s (sub - 1)
  else if index = 0x5001 then pubKey s sub
  else if index = 0x5020 ∧ sub = 1 then (Config.certificate s.fuse.idPub s.fuse.serial).take 1024
  else if index = 0x5040 then s.flash.fsLast
  else if index = 0x7000 ∧ sub = 1 then (s.faults.log.take 1).flatMap flogBytes
  else if index = 0x7000 ∧ sub = 2 then s.faults.log.flatMap flogBytes
  else octGet s index sub

/-- An object's value in bytes (R427). -/
def objRead (s : State) (r : Row) (sub : Nat) : List Byte :=
  if 8 ≤ r.ty then objOct s r.index sub else leBytes (typeBytes r.ty) (objNum s r.index sub)

/-! Storing the configuration (R447, R448) -/

/-- The current values of every storable object that exists. -/
def storables : List (Row × Nat) := (dictRows.filter Row.storable).flatMap fun r => (upto r.sub r.count).map fun k => (r, k)

def storeNums (s : State) : List (Nat × Nat) :=
  (storables.filter fun e => decide (e.1.ty < 8) && unitThere s e.1.unit (e.2 - e.1.sub)).map fun e => (objKey e.1.index e.2, objNum s e.1.index e.2)

def storeOcts (s : State) : List (Nat × List Byte) :=
  (storables.filter fun e => decide (8 ≤ e.1.ty) && unitThere s e.1.unit (e.2 - e.1.sub)).map fun e => (objKey e.1.index e.2, octGet s e.1.index e.2)

/-- A write of STORE_CMD: 1 stores the values, 2 a bank that holds none. -/
def storeSet (v : Nat) (s : State) : Nat × State :=
  if v ≠ 1 ∧ v ≠ 2 then (6, s)
  else if oget s 0x1106 2 = 1 then (12, s)
  else
    let t := oset s 0x1106 2 1
    (0, { t with cla := { t.cla with storing := v, storeNums := if v = 1 then storeNums s else [], storeOcts := if v = 1 then storeOcts s else [] } })

/-- The bank not in use takes the values and then its digest, or the store fails (R448). -/
def storeCompleteEffect (ok : Bool) (s : State) : State :=
  if s.cla.storing = 0 then s
  else
    let first := match cfgBank s with
      | some b => decide (b = s.flash.cfg0)
      | none => false
    let seq := (match cfgBank s with | some b => b.seq | none => 0) + 1
    let bank : CfgBank := ⟨seq, ok, s.cla.storeNums, s.cla.storeOcts⟩
    let t := { s with
      cla := { s.cla with storing := 0, storeNums := [], storeOcts := [] }
      flash := if first then { s.flash with cfg1 := bank } else { s.flash with cfg0 := bank } }
    if ok then oset (oset t 0x1106 2 2) 0x1106 3 (seq % 2 ^ 32) else oset t 0x1106 2 3

/-! Node control (R449, R450, R483) -/

/-- A write of RESET_CMD; the reset is entered once the response has been sent. -/
def resetSet (v : Nat) : Nat × (State → State) :=
  if v ≠ 0xE9 then (6, id) else (0, fun t => record 0x0401 0 1 4 (packageReset 2 t))

/-- A write of HOLD_RELEASE: in the held state the storm records go and package reset is entered. -/
def holdSet (v : Nat) (s : State) : Nat × (State → State) :=
  if v = 0 then (0, id)
  else if s.boot.phase ≠ .held then (8, id)
  else (0, fun t =>
    record 0x0401 0 2 4 (packageReset 2 (oset { t with
      flash := { t.flash with storms := [] }
      faults := { t.faults with stormsKept := [], stormHold := false } } 0x7002 6 0)))

/-! Writing -/

/-- What the write of a value that passed R427 and R431 does: its status, the state, and what follows the response. The ends of a
commit's flash writes are the environment's: whether the bank could be written is a free bit here (R465). A write of ECL_ARM that R187 refuses
is answered OK: the spec gives its refusal ECL_STATUS 5 and no status of the dictionary (DESIGN CHOICE, log 124). -/
def objEffect (index sub : Nat) (l : List Byte) (s : State) : Nat × State × (State → State) :=
  let v := leNat l
  let plain (p : Nat × State) : Nat × State × (State → State) := (p.1, p.2, id)
  if index = 0x1106 ∧ sub = 1 then plain (storeSet v s)
  else if index = 0x1F00 ∧ sub = 2 then ((resetSet v).1, s, (resetSet v).2)
  else if index = 0x1F00 ∧ sub = 3 then ((holdSet v s).1, s, (holdSet v s).2)
  else if index = 0x4000 ∧ sub = 1 then plain (powerCapSet v s)
  else if index = 0x4000 ∧ sub = 3 then plain (powerModeSet v s)
  else if index = 0x4000 ∧ sub = 5 then plain (0, railFollow (railMv s) (oset s index sub v))
  else if index = 0x4010 ∧ sub = 8 then plain (fixedLapsedSet v s)
  else if index = 0x4200 ∧ sub = 2 then plain (0, replanCmdSet (decide (v = 1)) s)
  else if index = 0x5010 ∧ sub = 1 then plain (0, secMod (fun k => { k with change := l }) s)
  else if index = 0x5010 ∧ sub = 2 then plain (0, secMod (fun k => { k with sigOwner := l }) s)
  else if index = 0x5010 ∧ sub = 3 then plain (0, secMod (fun k => { k with sigCust := l }) s)
  else if index = 0x5010 ∧ sub = 4 then
    let (x, t) := drawFree s
    plain (0, protCommitSet (decide (v = 1)) (bit 0 x) t)
  else if index = 0x5020 ∧ sub = 2 then plain (attNonceSet l s)
  else if index = 0x5030 ∧ sub = 3 then plain (fwUpdateSet v s)
  else if index = 0x5060 then plain (keyLoadSet l s)
  else if index = 0x6000 ∧ sub = 1 then plain (tbSourceSet v s)
  else if index = 0x6001 then plain (rasterSet sub v s)
  else if index = 0x6002 ∧ sub = 5 then plain (tbAcceptSet (decide (v = 1)) s)
  else if index = 0x6003 ∧ sub = 1 then plain (0, ptpDomainSet v s)
  else if index = 0x6010 ∧ sub = 5 then plain (0, eclArmSet (decide (v = 1)) s)
  else
    match findRow index sub with
    | some r => plain (0, if 8 ≤ r.ty then octSet s index sub l else oset s index sub v)
    | none => plain (1, s)

/-- Objects served in the held state (R450). -/
def servedHeld (index : Nat) : Bool := (decide (0x1000 ≤ index) && decide (index ≤ 0x1FFF)) || (decide (0x7000 ≤ index) && decide (index ≤ 0x7FFF))

/-- Whether the object can be named: its row, or NO_OBJECT, or DEVICE_STATE in the held state (R426, R430, R450). -/
def objGate (s : State) (index sub : Nat) : Except Nat Row :=
  match objRow s index sub with
  | none => .error 1
  | some r => if s.boot.phase = .held ∧ servedHeld index = false then .error 8 else .ok r

/-- A write of a whole value (R428, R431, R437): access, then length, reserved bits and range, then the object's own rule. -/
def objWrite (index sub : Nat) (l : List Byte) (s : State) : Nat × State × (State → State) :=
  match objGate s index sub with
  | .error c => (c, s, id)
  | .ok r =>
    if r.acc = 0 ∨ r.acc = 1 then (3, s, id)
    else if r.acc = 4 then (4, s, id)
    else
      let c := valueStatus r sub l
      if c = 0 then objEffect index sub l s else (c, s, id)

/-- An object's default (R439): of three the strap gives it, or the table of R339 with it (R369). -/
def defaultOf (s : State) (r : Row) (sub : Nat) : Option Nat :=
  if r.index = 0x2400 ∧ sub = 1 then some s.boot.boardSlot.toNat
  else if r.index = 0x2401 then some (defaultRole (sub - 1))
  else if r.index = 0x2402 then some (defaultPeer s.boot.boardSlot.toNat (sub - 1))
  else if 8 ≤ r.ty ∨ r.dflt = none then none else some (objDefault r.index sub)

/-- STR and OCTETS objects whose Default column is not a dash (R452, R462). -/
def openDefault (r : Row) : Bool := decide (r.index = 0x1000) || decide (r.index = 0x5001) || (decide (r.index = 0x5002) && decide (r.sub = 4))

/-- The 56 bytes of DESCRIBE (R439). -/
def describeBytes (s : State) (r : Row) (sub : Nat) : List Byte :=
  let none_ := decide (r.dflt = none) && decide (defaultOf s r sub = none) && !(openDefault r)
  leBytes 1 r.ty ++ leBytes 1 r.acc ++ leBytes 1 (b2n r.storable + 2 * r.effect + 8 * b2n none_) ++ [0] ++
  leBytes 4 r.len ++ leBytes 8 ((defaultOf s r sub).getD 0) ++ leBytes 8 r.min ++ leBytes 8 r.max ++
  (asciiOf r.name ++ List.replicate 24 0).take 24

/-- The next existing object after the one named (R434). -/
def nextObject (s : State) (index sub : Nat) : Option (Nat × Nat) :=
  (dictRows.findSome? fun r => ((upto r.sub r.count).find? fun k =>
    decide (objKey index sub < objKey r.index k) && unitThere s r.unit (k - r.sub)).map fun k => (r.index, k))

end Sys2Proof.Machine
end

