-- ==== Sys2Proof/Machine/Claryn.lean ====
section
/-! DEFINITION. Claryn's messages and services (R432 to R450), its transports (R440 to R443), heartbeats, and stores. -/

namespace Sys2Proof.Machine

open Sys2Proof

/-- Claryn serves while it runs: not in package reset, not halted by a debugger (R450, R475). -/
def serving (s : State) : Bool := s.boot.claryn && !(inReset s) && !s.sec.haltClaryn

def claMod (f : Claryn → Claryn) (s : State) : State := { s with cla := f s.cla }

/-- A request as the header of R433 gives it; `ok` false where the header is malformed. -/
structure Msg where
  svc    : Nat
  dir    : Bool := false
  tid    : Nat
  node   : Nat
  status : Nat := 0
  index  : Nat
  sub    : Nat
  len    : Nat := 0
  off    : Nat := 0
  total  : Nat := 0
  data   : List Byte := []
  ok     : Bool := true
deriving DecidableEq, Repr

def isSeg (svc : Nat) : Bool := decide (svc = 3) || decide (svc = 4)

/-- A message from its bytes (R433): a value of LEN bytes, or a segment. -/
def parseMsg (l : List Byte) : Msg :=
  let svc := leAt l 0 1 % 128
  let len := leAt l 7 1
  { svc := svc, dir := decide (128 ≤ leAt l 0 1), tid := leAt l 1 1, node := leAt l 2 1, status := leAt l 3 1
    index := leAt l 4 2, sub := leAt l 6 1, len := len
    off := if isSeg svc then leAt l 8 4 else 0, total := if isSeg svc then leAt l 12 4 else 0
    data := if isSeg svc then l.drop 16 else slice l 8 len
    ok := decide (8 ≤ l.length) &&
      (if isSeg svc then decide (16 ≤ l.length) && decide (len = 0) else decide (len ≤ 56) && decide (8 + len ≤ l.length)) }

/-- Segment size of a transport (R435). -/
def segSize : Via → Nat
  | .can _ => 48
  | .udp _ _ => 1024
  | .mailbox _ => 4080

def viaCan : Via → Bool
  | .can _ => true
  | _ => false

def viaBox : Via → Bool
  | .mailbox _ => true
  | _ => false

/-- What a response holds beside the copied header: status, INDEX and SUB, OFFSET, TOTAL, the bytes. -/
structure Reply where
  status : Nat
  index  : Nat
  sub    : Nat
  off    : Nat := 0
  total  : Nat := 0
  value  : List Byte := []
deriving DecidableEq, Repr

/-! Segment sessions (R436) -/

def sessOf (s : State) (via : Via) : Option Sess := s.cla.sess.find? fun e => decide (e.via = via)
def dropSess (via : Via) (s : State) : State := claMod (fun c => { c with sess := c.sess.filter fun e => decide (e.via ≠ via) }) s
def putSess (e : Sess) (s : State) : State := claMod (fun c => { c with sess := e :: c.sess.filter fun x => decide (x.via ≠ e.via) }) s

/-- A refusal. Of a segment it carries the offset next expected and the value's length (R433), where its session is open. -/
def failWith (s : State) (via : Via) (m : Msg) (c : Nat) : Reply :=
  match sessOf s via with
  | some e => if isSeg m.svc && decide (e.key = objKey m.index m.sub) && decide (e.write = decide (m.svc = 4)) then
      ⟨c, m.index, m.sub, e.nextOff, e.total, []⟩ else ⟨c, m.index, m.sub, 0, 0, []⟩
  | none => ⟨c, m.index, m.sub, 0, 0, []⟩

/-- A session is discarded; of a write session the next segment learns it (R437). -/
def discardSess (via : Via) (s : State) : State :=
  match sessOf s via with
  | some e =>
    let t := dropSess via s
    if e.write then claMod (fun c => { c with aborted := (via, e.key) :: c.aborted.filter fun x => decide (x ≠ (via, e.key)) }) t else t
  | none => s

/-- Open a session at offset 0: the status, and the state with it open. -/
def openSess (via : Via) (m : Msg) (r : Row) (s : State) : Nat × State :=
  let key := objKey m.index m.sub
  let bad := if m.svc = 4 then (if r.len < m.total ∨ (r.ty < 8 ∧ m.total ≠ r.len) then 5 else 0)
    else if r.acc = 3 then 2 else if m.total ≠ 0 then 7 else 0
  if bad ≠ 0 then (bad, s)
  else if sessOf s via = none ∧ 32 ≤ s.cla.sess.length then (12, s)
  else
    let t := claMod (fun c => { c with aborted := c.aborted.filter fun x => decide (x ≠ (via, key)) }) (discardSess via s)
    let l := if m.svc = 4 then [] else objRead s r m.sub
    (0, putSess ⟨via, key, decide (m.svc = 4), if m.svc = 4 then m.total else l.length, 0, l⟩ t)

/-- A segment for an open session: READ_SEG serves the latch, WRITE_SEG collects, and the last byte applies the value. -/
def segment (via : Via) (m : Msg) (s : State) : Reply × State × (State → State) :=
  let key := objKey m.index m.sub
  let dead := s.cla.aborted.contains (via, key)
  match sessOf s via with
  | none =>
    if m.svc = 4 ∧ dead = true then
      (failWith s via m 11, claMod (fun c => { c with aborted := c.aborted.filter fun x => decide (x ≠ (via, key)) }) s, id)
    else (failWith s via m 10, s, id)
  | some e =>
    if e.key ≠ key ∨ e.write ≠ decide (m.svc = 4) then
      if m.svc = 4 ∧ dead = true then
        (failWith s via m 11, claMod (fun c => { c with aborted := c.aborted.filter fun x => decide (x ≠ (via, key)) }) s, id)
      else (failWith s via m 10, s, id)
    else
      let n := min (e.total - m.off) (segSize via)
      if m.off ≠ e.nextOff then (failWith s via m 10, s, id)
      else if m.svc = 3 then
        let t := if e.total ≤ m.off + n then dropSess via s else putSess { e with nextOff := m.off + n } s
        (⟨0, m.index, m.sub, m.off + n, e.total, slice e.data m.off n⟩, t, id)
      else if (if viaCan via then decide (m.data.length < n) else decide (m.data.length ≠ n)) then (failWith s via m 10, s, id)
      else
        let all := e.data ++ m.data.take n
        if m.off + n < e.total then (⟨0, m.index, m.sub, m.off + n, e.total, []⟩, putSess { e with nextOff := m.off + n, data := all } s, id)
        else
          let r := objWrite m.index m.sub all (dropSess via s)
          (⟨r.1, m.index, m.sub, m.off + n, e.total, []⟩, r.2)

/-! Services (R434 to R439) -/

/-- The answer to a request, the state after it, and what follows once it has been sent (R449). -/
def respondTo (via : Via) (m : Msg) (s : State) : Reply × State × (State → State) :=
  if !m.ok || m.dir || decide (m.svc = 0) || decide (7 < m.svc) || (viaCan via && (decide (m.node = 0) || decide (127 < m.node))) ||
      (decide (m.svc ≠ 2) && decide (m.len ≠ 0)) then
    (failWith s via m 9, s, id)
  else if m.status ≠ 0 ∨ (viaCan via = false ∧ m.node ≠ 0) then (failWith s via m 7, s, id)
  else if m.svc = 6 then
    match nextObject s m.index m.sub with
    | some o => (⟨0, o.1, o.2, 0, 0, []⟩, s, id)
    | none => (failWith s via m 1, s, id)
  else match objGate s m.index m.sub with
    | .error c => (failWith s via m c, s, id)
    | .ok r =>
      if m.svc = 1 then
        if r.acc = 3 then (failWith s via m 2, s, id)
        else
          let v := objRead s r m.sub
          if 56 < v.length then (failWith s via m 5, s, id) else (⟨0, m.index, m.sub, 0, 0, v⟩, s, id)
      else if m.svc = 2 then
        let w := objWrite m.index m.sub m.data s
        (failWith s via m w.1, w.2)
      else if m.svc = 5 then (⟨0, m.index, m.sub, 0, 0, describeBytes s r m.sub⟩, s, id)
      else if m.svc = 7 then
        match sessOf s via with
        | some e => (failWith s via m 0, if e.key = objKey m.index m.sub then discardSess via s else s, id)
        | none => (failWith s via m 0, s, id)
      else if m.off = 0 then
        let o := openSess via m r s
        if o.1 = 0 then segment via m o.2 else (failWith s via m o.1, s, id)
      else segment via m s

/-! Sending a response -/

/-- A response as a message (R433). -/
def replyBytes (m : Msg) (r : Reply) : List Byte :=
  leBytes 1 (m.svc + 128) ++ leBytes 1 m.tid ++ leBytes 1 m.node ++ leBytes 1 r.status ++ leBytes 2 r.index ++ leBytes 1 r.sub ++
  leBytes 1 (if isSeg m.svc then 0 else r.value.length) ++ (if isSeg m.svc then leBytes 4 r.off ++ leBytes 4 r.total else []) ++ r.value

def mboxAt (s : State) (c : Nat) : Mbox := if c = 0 then s.cla.mb0 else s.cla.mb1
def mboxPut (c : Nat) (b : Mbox) (s : State) : State := claMod (fun k => if c = 0 then { k with mb0 := b } else { k with mb1 := b }) s
def mbReg (c off : Nat) : Nat := winBase 14 + 0x108100000 + c * 0x4000 + off

/-- MB.RSP, DONE and the channel's event (R443). -/
def mailReply (c : Nat) (l : List Byte) (s : State) : State :=
  let t := mboxPut c { mboxAt s c with busy := false, done := true, len := l.length, rsp := l } s
  let src := fld 15 0 (regGet t (mbReg c 0x2010))
  if src = 0 then t else scRaise src 0 t

/-- A response as its transport carries it (R441, R442). -/
def replyEmit (s : State) (via : Via) (m : Msg) (r : Reply) : Emit :=
  .response via (m.svc + 128) m.tid r.status r.index r.sub r.off r.total r.value (wireOf s (if viaCan via then 0 else 1) 0x200 (replyBytes m r))

/-- A response goes out on its transport; CAN FD sends nothing while stopped, off or bus off (R441), UDP nothing without an address (R442),
and from the entry to package reset on nothing is sent (R445). -/
def sendVia (via : Via) (e : Emit) (s : State) : State :=
  if inReset s then s
  else match via with
    | .can _ => if s.boot.canNode ≠ 0 ∧ oget s 0x1100 3 < 2 then canSent (emit e s) else s
    | .udp _ _ => if oget s 0x1101 6 = 0 then s else emit e s
    | .mailbox _ => s

def sendReply (via : Via) (m : Msg) (r : Reply) (s : State) : State :=
  match via with
  | .mailbox c => if inReset s then s else mailReply c (replyBytes m r) s
  | v => sendVia v (replyEmit s v m r) s

/-! Retries (R438) -/

/-- The frame a response is kept with: none while frame time stands still. -/
def keptAt (s : State) : Option Nat := if s.tb.on then some (frameNow s) else none

/-- Whether a kept response is at most 2 s old. While frame time stands still the spec gives nothing to tell it by: then `open_` says. -/
def keptYoung (s : State) (k : Kept) (open_ : Bool) : Bool :=
  match keptAt s, k.frame with
  | some f, some g => decide (f ≤ g + framesIn s 2)
  | _, _ => open_

/-- The kept response to the requester's previous request, where this one equals it and comes within 2 s. -/
def keptFor (s : State) (via : Via) (m : Msg) (open_ : Bool) : Option Kept :=
  if viaBox via then none
  else s.cla.kept.find? fun k => decide (k.via = via) && decide (k.svc = m.svc) && decide (k.tid = m.tid) &&
    decide (k.key = objKey m.index m.sub) && (!(isSeg m.svc) || decide (k.off = m.off)) && keptYoung s k open_

/-- Keep a response; of more than 64 requesters one is forgotten, which one the spec does not say. -/
def keep (k : Kept) (s : State) : State :=
  let l := s.cla.kept.filter fun e => decide (e.via ≠ k.via)
  if l.length < 64 then claMod (fun c => { c with kept := k :: l }) s
  else
    let (x, t) := drawFree s
    claMod (fun c => { c with kept := k :: l.eraseIdx (x.toNat % 64) }) t

/-- Where frame time stands still, a free value says whether a kept response is still young (log 92). -/
def ageBit (s : State) : Bool × State := if s.tb.on then (false, s) else let d := drawFree s; (d.1.getLsbD 0, d.2)

/-- One message is served (R432). -/
def serveMsg (via : Via) (m : Msg) (s : State) : State :=
  if !(serving s) then s
  else
    let x := ageBit (bumpObj 0x1105 2 64 1 s)
    let t := x.2
    match keptFor t via m x.1 with
    | some k => sendVia via k.resp (keep { k with frame := keptAt t } t)
    | none =>
      let r := respondTo via m t
      let u := if viaBox via then r.2.1 else keep ⟨via, m.svc, m.tid, objKey m.index m.sub, m.off, keptAt t, replyEmit t via m r.1⟩ r.2.1
      r.2.2 (sendReply via m r.1 u)

/-- The first `n` waiting messages are served, in order of arrival. -/
def serveFirst : Nat → State → State
  | 0, s => s
  | n + 1, s => match s.cla.waiting with
    | [] => s
    | e :: r => serveFirst n (serveMsg e.1 (parseMsg e.2) (claMod (fun c => { c with waiting := r }) s))

/-- Claryn has time: every waiting message is served. -/
def serveAll (s : State) : State := if serving s then serveFirst s.cla.waiting.length s else s

def sameMsg (via : Via) (m : Msg) (e : Via × List Byte) : Bool :=
  let p := parseMsg e.2
  decide (e.1 = via) && decide (p.svc = m.svc) && decide (p.tid = m.tid) && decide (p.index = m.index) && decide (p.sub = m.sub) && decide (p.off = m.off)

/-- Whether MGR_ALLOW lets a source in (R442). -/
def sourceAllowed (s : State) (addr : Nat) : Bool :=
  let es := (upto 1 4).map fun i => oget s 0x1102 i
  es.all (fun e => decide (e = 0)) ||
  es.any fun e => decide (e ≠ 0) && decide (bitsOf 31 0 e / 2 ^ (32 - bitsOf 37 32 e) = addr / 2 ^ (32 - bitsOf 37 32 e))

/-- A transport on which a request can arrive: CAN FD with a node ID, not bus off (R440); UDP with an address (R442). -/
def viaOpen (s : State) : Via → Bool
  | .can _ => decide (s.boot.canNode ≠ 0) && decide (oget s 0x1100 3 ≠ 2)
  | .udp _ _ => decide (oget s 0x1101 6 ≠ 0)
  | .mailbox _ => true

/-- A source that MGR_ALLOW bars (R442). -/
def viaBarred (s : State) : Via → Bool
  | .udp addr _ => !(sourceAllowed s addr)
  | _ => false

/-- A request is served: the one that waits, after those that arrived before it; or one that arrives now, after all that wait (R432). -/
def serveRow (via : Via) (m : Msg) (s : State) : State :=
  if !(serving s && viaOpen s via) then s
  else if viaBarred s via then bumpObj 0x1105 1 32 1 s
  else match s.cla.waiting.findIdx? (sameMsg via m) with
    | some i => serveFirst (i + 1) s
    | none => serveMsg via m (serveAll s)

def nodeOf : Via → Nat
  | .can n => n
  | _ => 0

/-- The message of a service row. -/
def rowMsg (r : Req) (svc : Nat) : Msg := { svc := svc, tid := r.tid % 256, node := nodeOf r.via, index := r.index % 65536, sub := r.sub % 256 }

def execRead (r : Req) (s : State) : Host.Outcome State Fault Refusal := onUnit (viaOk r.via) (serveRow r.via (rowMsg r 1) s)

def execWrite (r : Req) (value : List Byte) (s : State) : Host.Outcome State Fault Refusal :=
  onUnit (viaOk r.via) (serveRow r.via { rowMsg r 2 with len := value.length, data := value, ok := decide (value.length ≤ 56) } s)

def execReadSeg (r : Req) (offset : Nat) (s : State) : Host.Outcome State Fault Refusal :=
  onUnit (viaOk r.via) (serveRow r.via { rowMsg r 3 with off := offset } s)

def execWriteSeg (r : Req) (offset total : Nat) (segment : List Byte) (s : State) : Host.Outcome State Fault Refusal :=
  onUnit (viaOk r.via) (serveRow r.via { rowMsg r 4 with off := offset, total := total, data := segment } s)

def execDescribe (r : Req) (s : State) : Host.Outcome State Fault Refusal := onUnit (viaOk r.via) (serveRow r.via (rowMsg r 5) s)

def execNext (r : Req) (s : State) : Host.Outcome State Fault Refusal := onUnit (viaOk r.via) (serveRow r.via (rowMsg r 6) s)

def execAbort (r : Req) (s : State) : Host.Outcome State Fault Refusal := onUnit (viaOk r.via) (serveRow r.via (rowMsg r 7) s)

/-- R434: another SVC, or DIR 1. A service of the table with DIR 0 is none of these. -/
def execServiceUnknown (r : Req) (svc : Nat) (dir : Bool) (s : State) : Host.Outcome State Fault Refusal :=
  onUnit (viaOk r.via) (onlyIf (dir || decide (svc % 128 = 0) || decide (7 < svc % 128)) (serveRow r.via { rowMsg r (svc % 128) with dir := dir } s) s)

/-- R436: 2 s without a segment. -/
def execSegmentSessionTimeout (via : Via) (s : State) : Host.Outcome State Fault Refusal := .next (onlyIf (serving s) (dropSess via s) s)

/-! Transports (R432, R440 to R443) -/

/-- A message waits, where there is room (R432): a datagram beyond the queue is counted, a frame beyond the FIFO is lost. -/
def arriveMsg (via : Via) (l : List Byte) (s : State) : State :=
  let w := s.cla.waiting
  if w.length < 64 then claMod (fun c => { c with waiting := w ++ [(via, l)] }) s
  else match via with
    | .can _ => if ((w.drop 64).filter fun e => viaCan e.1).length < 32 then claMod (fun c => { c with waiting := w ++ [(via, l)] }) s else s
    | .udp _ _ => bumpObj 0x1105 1 32 1 s
    | .mailbox _ => claMod (fun c => { c with waiting := w ++ [(via, l)] }) s

/-- R440, R441: an FD frame in the base format. One that carries an identifier of this E9's own stops its transmitter. -/
def canFrameEffect (ident : Nat) (fd extended : Bool) (l : List Byte) (s : State) : State :=
  let n := s.boot.canNode.toNat
  if !(serving s) || !fd || extended || decide (n = 0) || decide (oget s 0x1100 3 = 2) then s
  else
    let t := canSettle (claMod (fun c => { c with rec_ := if 127 < c.rec_ then 127 else c.rec_ - 1 }) s)
    if ident = 0x100 + n ∨ ident = 0x200 + n ∨ ident = 0x300 + n then
      if oget t 0x1100 3 = 3 then t else clarynEvent 0x1100 3 3 (oset t 0x1100 3 3)
    else if ident = 0x280 + n ∧ 8 ≤ l.length then arriveMsg (.can (leAt l 2 1)) (l.take 64) t
    else t

def execCanFrame (ident : Nat) (fd extended : Bool) (bytes : List Byte) (s : State) : Host.Outcome State Fault Refusal :=
  .next (canFrameEffect ident fd extended bytes s)

/-- R442: without an address no datagram reaches the E9. -/
def udpEffect (addr port : Nat) (l : List Byte) (s : State) : State :=
  if !(serving s) || decide (oget s 0x1101 6 = 0) then s
  else if l.take 4 ≠ [0xE9, 0xC1, 1, 0] ∨ l.length < 12 ∨ 1044 < l.length ∨ sourceAllowed s addr = false then bumpObj 0x1105 1 32 1 s
  else arriveMsg (.udp addr port) (l.drop 4) s

def execUdpDatagram (addr srcPort : Nat) (bytes : List Byte) (s : State) : Host.Outcome State Fault Refusal := .next (udpEffect addr srcPort bytes s)

/-- MB.REQ's bytes, as register writes have left them (R443). -/
def mbReqBytes (s : State) (c n : Nat) : List Byte :=
  ((upto 0 ((n + 7) / 8)).flatMap fun i => leBytes 8 (regGet s (mbReg c (8 * i))).toNat).take n

/-- R443: service starts, or the write is ignored and OVR set. -/
def mailboxDoorEffect (c : Nat) (v : W64) (s : State) : State :=
  if !(s.boot.claryn && !(inReset s)) then s
  else
    let b := mboxAt s c
    let n := fld 12 0 v
    if b.busy ∨ n < 8 ∨ 4096 < n then mboxPut c { b with ovr := true } s
    else arriveMsg (.mailbox c) (mbReqBytes s c n) (mboxPut c { b with busy := true, done := false } s)

def execMailboxDoor (channel : Nat) (value : W64) (s : State) : Host.Outcome State Fault Refusal :=
  onUnit (decide (channel < 2)) (mailboxDoorEffect channel value s)

/-- Whether a frame to an address is this E9's (R442). -/
def ownAddress (s : State) (a : Nat) : Bool := serving s && decide (oget s 0x1101 6 ≠ 0) && decide (oget s 0x1101 6 = a)

def execArpRequest (target sender : Nat) (s : State) : Host.Outcome State Fault Refusal :=
  .next (onlyIf (ownAddress s target) (emit (.arpReply sender) s) s)

def execIcmpEcho (target sender : Nat) (payload : List Byte) (s : State) : Host.Outcome State Fault Refusal :=
  .next (onlyIf (ownAddress s target) (emit (.icmpReply sender payload) s) s)

/-- R442, RFC 2131: an offer (2) is requested, an acknowledgement (5) gives the lease, a refusal (6) ends it. -/
def dhcpEffect (kind addr : Nat) (s : State) : State :=
  if !(serving s && s.cla.dhcp) then s
  else if kind = 2 then (if s.cla.lease then s else emit .dhcpRequest (claMod (fun c => { c with offered := addr }) s))
  else if kind = 5 then
    if s.cla.offered = 0 then s else oset (claMod (fun c => { c with lease := true }) s) 0x1101 6 (addr % 2 ^ 32)
  else if kind = 6 then emit .dhcpDiscover (oset (claMod (fun c => { c with lease := false, offered := 0 }) s) 0x1101 6 0)
  else s

def execDhcpMessage (kind addr : Nat) (_leaseSeconds : Nat) (s : State) : Host.Outcome State Fault Refusal := .next (dhcpEffect kind addr s)

def execDhcpRetry (s : State) : Host.Outcome State Fault Refusal :=
  .next (onlyIf (serving s && s.cla.dhcp && !s.cla.lease) (emit .dhcpDiscover s) s)

/-- RFC 2131: renewal is requested; at the final expiry the address goes. -/
def execDhcpLeaseExpiry (final : Bool) (s : State) : Host.Outcome State Fault Refusal :=
  .next (onlyIf (serving s && s.cla.lease)
    (if final then oset (claMod (fun c => { c with lease := false, offered := 0 }) s) 0x1101 6 0 else emit .dhcpRequest s) s)

/-- R442: ETH_LINK as the PHY reports it. -/
def execEthLinkChange (value : Nat) (s : State) : Host.Outcome State Fault Refusal :=
  .next (onlyIf (serving s && decide (value < 3)) (oset s 0x1101 7 value) s)

/-- R440 under ISO 11898-1: a transmit error counts 8, a receive error 1; error passive above 127, bus off above 255. -/
def canErrorEffect (transmit : Bool) (s : State) : State :=
  if !(serving s) || decide (s.boot.canNode = 0) || decide (2 ≤ oget s 0x1100 3) then s
  else
    let t := claMod (fun c => if transmit then { c with tec := c.tec + 8 } else { c with rec_ := min 255 (c.rec_ + 1) }) s
    if 255 < t.cla.tec then bumpObj 0x1100 4 32 1 (oset t 0x1100 3 2) else canSettle t

def execCanErrorDetected (transmit : Bool) (s : State) : Host.Outcome State Fault Refusal := .next (canErrorEffect transmit s)

def execCanBusOffRecovery (s : State) : Host.Outcome State Fault Refusal :=
  .next (onlyIf (serving s && decide (oget s 0x1100 3 = 2)) (oset (claMod (fun c => { c with tec := 0, rec_ := 0 }) s) 0x1100 3 0) s)

/-! Heartbeats, stores, node control -/

def execHeartbeat (s : State) : Host.Outcome State Fault Refusal := .next (onlyIf (serving s) (sendHeartbeat (runState s) 0 s) s)

def execStoreCmd (s : State) : Host.Outcome State Fault Refusal := .next (onlyIf (serving s) (storeSet 1 s).2 s)

def execStoreDefaults (s : State) : Host.Outcome State Fault Refusal := .next (onlyIf (serving s) (storeSet 2 s).2 s)

def execStoreComplete (ok : Bool) (s : State) : Host.Outcome State Fault Refusal := .next (onlyIf (serving s) (storeCompleteEffect ok s) s)

def execResetCmd (value : Nat) (s : State) : Host.Outcome State Fault Refusal := .next (onlyIf (serving s) ((resetSet value).2 s) s)

def execHoldRelease (value : Bool) (s : State) : Host.Outcome State Fault Refusal := .next (onlyIf (serving s) ((holdSet (b2n value) s).2 s) s)

end Sys2Proof.Machine
end

