-- ==== Sys2Proof/Machine/Batons.lean ====
section
/-! DEFINITION. Commands on Batons and on the entry window of a context page (R217 to R228). -/

namespace Sys2Proof.Machine

open Sys2Proof

/-- R217: an operation word arrives at the Baton unit. -/
def execBatonOperation (b : Nat) (op : W32) (s : State) : Host.Outcome State Fault Refusal := onUnit (okBaton b) (signalBaton b op s)

/-- R219, R221: a write to BTN.OP in a Baton page. -/
def execBatonOpWrite (b : Nat) (op : W32) (s : State) : Host.Outcome State Fault Refusal := onUnit (okBaton b) (signalBaton b op s)

/-- A write to BTN.VALUE in the control table: a SET with all 32 bits, no EVT flag (R219). -/
def batonValueSet (b : Nat) (v : W32) (s : State) : State := settleAll (batonStore b v false s)

def execBatonValueWrite (b : Nat) (value : W32) (s : State) : Host.Outcome State Fault Refusal := onUnit (okBaton b) (batonValueSet b value s)

/-- A write to BTN.EVTCOND (R222); bits [63:35] are reserved. -/
def batonCondSet (b : Nat) (v : W64) (s : State) : State := batonPut s b { batonAt s b with cond := maskWrite 0x7FFFFFFFF 0 v }

def execBatonEvtcondWrite (b : Nat) (value : W64) (s : State) : Host.Outcome State Fault Refusal := onUnit (okBaton b) (batonCondSet b value s)

/-- A core's PBWAIT that stands, or its PBSIG in flight, names the Baton: the naming ends with the instruction (DESIGN CHOICE, log 155). -/
def coreNames (c : TCore) (b : Nat) : Bool :=
  (match c.stall with
   | some (.pbwait _ _ rs1 _) => decide (fld 12 0 (xReg c rs1.toNat) = b)
   | _ => false) ||
  c.sb.any fun o => decide (o.eng = .pbsig) && decide (fld 12 0 o.ctl = b)

/-- An accepted item names the Baton: in a wait or a post, in a PBWAIT or in a PBSIG (R226, R227). -/
def batonNamed (s : State) (b : Nat) : Bool :=
  (s.items.any fun e => [10, 12, 14, 15].any fun i => bit 15 (descWord e.2 i) && decide (fld 12 0 (descWord e.2 i) = b)) ||
  s.tcs.any fun e => e.2.item.isSome && coreNames e.2 b

/-- A write to BTN.CTL (R221, R228): one that changes the binding while an accepted item names the Baton is ignored. -/
def batonCtlSet (b : Nat) (v : W64) (s : State) : State :=
  let x := batonAt s b
  let c := maskWrite 0x3FFF0003 x.ctl v
  if decide (c &&& 0x3FFF0001 ≠ x.ctl &&& 0x3FFF0001) && batonNamed s b then
    { s with bindErr := true }
  else batonPut s b { x with ctl := c }

def execBatonBind (b : Nat) (value : W64) (s : State) : Host.Outcome State Fault Refusal := onUnit (okBaton b) (batonCtlSet b value s)

/-! The entry window (R223, R224) -/

def ewSel (s : State) (ctx : Nat) : Nat := fld 9 0 (ctxAt s ctx).ewsel
def ewIsSlot (s : State) (ctx : Nat) : Bool := bit 16 (ctxAt s ctx).ewsel

/-- A word of the selected entry, or 0 where it is not bound to the context. -/
def ewinRead (ctx w : Nat) (s : State) : W64 :=
  if ewIsSlot s ctx then (if slotBound s (ewSel s ctx) ctx then slotRead s (ewSel s ctx) w else 0)
  else if groupOf s (ewSel s ctx) ctx then groupWord (groupAt s (ewSel s ctx)) w else 0

/-- A write of a word of the selected entry; the binding fields ignore it (R224). -/
def ewinSet (ctx w : Nat) (v : W64) (s : State) : State :=
  if ewIsSlot s ctx then
    (if decide (ewSel s ctx < 64) && slotBound s (ewSel s ctx) ctx then slotWrite (ewSel s ctx) w v false s else s)
  else if groupOf s (ewSel s ctx) ctx then groupWrite (ewSel s ctx) w v false s else s

def execEwinWrite (ctx off : Nat) (value : W64) (s : State) : Host.Outcome State Fault Refusal :=
  onUnit (okCtx ctx) (onlyIf (decide (off < 64) && decide (off % 8 = 0)) (ewinSet ctx (off / 8) value s) s)

end Sys2Proof.Machine
end

