-- ==== Sys2Proof/Machine/Ports.lean ====
section
/-! DEFINITION. Optical ports: the sideband and replay (R330, R331), credit (R332), training, roles and service (R335 to R338), and the loss
and return of chips (R344, R362 to R368). -/

namespace Sys2Proof.Machine

open Sys2Proof

def portMod (n : Nat) (f : Port → Port) (s : State) : State := portPut s n (f (portAt s n))

/-- A port that has a peer to hear: trained, whether or not it is in service yet. -/
def hearing (p : Port) : Bool := decide (2 ≤ p.state) && decide (p.state ≠ 5) && decide (p.tx.lanes ≠ [])

def ownBoard (s : State) : Nat := s.chips.chipId / 8
/-- The chip that a board port leads to (R338). -/
def peerChip (s : State) (p : Port) : Nat := 8 * ownBoard s + p.peerId

/-! Numbers and replay (R331) -/

/-- Number of the last numbered codeword delivered. -/
def lastNum (p : Port) : Nat := (p.rxNum + 65535) % 65536

/-- R331: the codeword is discarded, and so is every later numbered one until the replay. -/
def uncorrectableEffect (port : Nat) (s : State) : State :=
  let p := portAt s port
  if hearing p then emitSideband port 2 (lastNum p) (portPut s port { p with nakOut := true }) else s

def execCodewordUncorrectable (port : Nat) (s : State) : Host.Outcome State Fault Refusal := onUnit (okPort port) (uncorrectableEffect port s)

/-! Sideband messages -/

/-- IDLE carries nothing (R330). -/
def execSbIdle (port : Nat) (s : State) : Host.Outcome State Fault Refusal := onUnit (okPort port) s

/-- The number named lies among the codewords not yet acknowledged, or just before them. -/
def ackFits (p : Port) (v : Nat) : Bool := decide ((v % 65536 + 1 + 65536 - p.acked) % 65536 ≤ unacked p)

/-- Codewords up to number `v` have been delivered: they leave the replay buffer, and what they carried is acknowledged. -/
def ackTo (v : Nat) (p : Port) : Port :=
  let n := (v % 65536 + 1 + 65536 - p.acked) % 65536
  { p with
    acked := (v + 1) % 65536
    replay := p.replay.drop n
    sent := p.sent.filter fun e => decide (n ≤ (e.1 + 65536 - p.acked) % 65536) }

def sbAckEffect (port v : Nat) (s : State) : State :=
  let p := portAt s port
  if hearing p && ackFits p v then flushPort port (portPut s port (ackTo v p)) else s

def execSbAck (port value : Nat) (s : State) : Host.Outcome State Fault Refusal := onUnit (okPort port) (sbAckEffect port value s)

/-- Everything after the codeword named is sent again (R331, R370). -/
def sbNakEffect (port v : Nat) (s : State) : State :=
  let p := portAt s port
  if hearing p && ackFits p v then
    let q := ackTo v p
    flushPort port (q.replay.foldl (fun t c => emitWord port c t) (bumpObj 0x3602 (port + 1) 64 (unacked q) (portPut s port q)))
  else s

def execSbNak (port value : Nat) (s : State) : Host.Outcome State Fault Refusal := onUnit (okPort port) (sbNakEffect port value s)

/-- R332. Class 3 is none. -/
def sbCreditEffect (port v : Nat) (s : State) : State :=
  let p := portAt s port
  let c := bitsOf 15 14 v
  let n := bitsOf 13 0 v
  if hearing p && decide (c < 3) then
    flushPort port (portPut s port { p with
      credit := lset p.credit c (p.credit.getD c 0 + (n + 2 ^ 14 - p.credIn.getD c 0) % 2 ^ 14), credIn := lset p.credIn c n })
  else s

def execSbCredit (port value : Nat) (s : State) : Host.Outcome State Fault Refusal := onUnit (okPort port) (sbCreditEffect port value s)

/-! Roles, service and STATE -/

/-- A port leaves service: an event (R390), and its packets take other routes. -/
def portOut (port st : Nat) (s : State) : State :=
  resendFailed s (scRaise 7 0 (portMod port (fun p => { p with state := st, retraining := false, replacing := none, queue := [] }) s))

/-- Chip `b` is reachable again (R367), or for the first time. -/
def chipReturn (b : Nat) (s : State) : State :=
  if chipMark s b = 1 then s else if chipLost s b then scRaise 7 0 (setMark b 1 s) else setMark b 1 s

/-- The peer's STATE agrees with the port's role (R338). -/
def stateAgrees (s : State) (p : Port) : Bool :=
  let f0 := p.peer.getD 0 0
  let f1 := p.peer.getD 1 0
  if p.role = 1 then decide (bitsOf 11 0 f0 = peerChip s p) && !(f1.testBit 7)
  else decide (bitsOf 11 0 f0 = 0xFFF) && decide (bitsOf 13 12 f0 = p.peerId)

/-- Another port in service has the plane (R337). -/
def planeTaken (s : State) (port : Nat) : Bool :=
  let p := portAt s port
  decide (p.role = 2) && (upto 0 24).any fun n => decide (n ≠ port) && portUp s n && decide ((portAt s n).role = 2) && decide ((portAt s n).peerId = p.peerId)

/-- A board neighbour announces its incarnation: a chip that was lost must have a new one (R367). -/
def peerIncarnation (port : Nat) (s : State) : State :=
  let p := portAt s port
  let b := peerChip s p
  if p.role ≠ 1 ∨ !(portUp s port) ∨ p.seen.getD 2 false = false then s
  else
    let k := p.peer.getD 2 0 % 2 ^ 14 + 1
    if chipLost s b && decide (tget 0 s.chips.incarn b = k) then s
    else
      let t := { s with chips := { s.chips with incarn := tset 0 s.chips.incarn b k } }
      chipReturn b t

/-- Full width on 8 healthy lanes in each direction, half on 4 to 7; a port at half width stays there until it trains again (R335). -/
def trainedState (p : Port) : Nat := if 8 ≤ min (healthy p.tx) (healthy p.rx) ∧ p.tx.lanes.length = 8 then 4 else 3

/-- What the STATE fields seen so far mean for the port. -/
def judgeState (port : Nat) (s : State) : State :=
  let p := portAt s port
  if p.seen.getD 0 false && p.seen.getD 1 false then
    if stateAgrees s p && !(planeTaken s port) then
      (if portInService p then s
       else
         let t := scRaise 7 0 (portMod port (fun p => { p with state := trainedState p }) s)
         if p.role = 1 ∧ chipLost t (peerChip t p) = false then chipReturn (peerChip t p) t else t)
    else if p.state = 6 then s else portOut port 6 s
  else s

/-- Chips of the board that a neighbour reaches for this E9 have been seen (R340 order 3, R370). -/
def seenVia (s : State) : State :=
  (upto (8 * ownBoard s) 8).foldl (fun t b => if chipMark t b = 0 ∧ b ≠ t.chips.chipId ∧ viaPorts t b ≠ [] then setMark b 1 t else t) s

/-- R330, R338. A neighbour that no longer reaches a chip takes a route away (R340). -/
def sbStateEffect (port v : Nat) (s : State) : State :=
  let p := portAt s port
  if !(hearing p) then s
  else
    let i := bitsOf 15 14 v
    let x := bitsOf 13 0 v
    let t := portPut s port { p with peer := lset p.peer i x, told := lset p.told i x, seen := lset p.seen i true }
    unrouted (seenVia (peerIncarnation port (judgeState port t)))

/-- The chip that a port's partner has announced itself as; before it has, the one a board port is configured for (R337, R338). None for
a switch. -/
def portSender (s : State) (p : Port) : Option Nat :=
  if p.seen.getD 0 false then (let c := bitsOf 11 0 (p.peer.getD 0 0); if c = 0xFFF then none else some c)
  else if p.role = 1 then some (peerChip s p) else none

/-- R364, R368: a neighbour goes down. The retrain of every port to it is abandoned. -/
def goingDownEffect (port reason : Nat) (s : State) : State :=
  let p := portAt s port
  if !(hearing p) then s
  else match portSender s p with
    | none => s
    | some b =>
      let l := (upto 0 24).filter fun n => (portAt s n).retraining && decide (portSender s (portAt s n) = some b)
      loseChip b (reason % 256) (l.foldl (fun t n => closeWindow 0x0203 n (portOut n 1 t)) s)

def execSbGoingDown (port reason : Nat) (s : State) : Host.Outcome State Fault Refusal := onUnit (okPort port) (goingDownEffect port reason s)

def withBit (k : Nat) (v : Bool) (x : Nat) : Nat := if v then x ||| 2 ^ k else if x.testBit k then x - 2 ^ k else x

/-- What a plane reports of a chip: bit k of the chip table's byte while it reports it up, and of `down` while it reports it down. -/
def setPlane (b plane : Nat) (up : Bool) (s : State) : State :=
  { s with chips := { s.chips with
    tab := tset 0 s.chips.tab b (withBit plane up (chipByte s b))
    down := tset 0 s.chips.down b (withBit plane (!up) (tget 0 s.chips.down b)) } }

/-- A plane's reports end with its port: it starts anew when the port trains (R344). -/
def forgetPlane (plane : Nat) (s : State) : State :=
  { s with chips := { s.chips with
    tab := s.chips.tab.map fun e => (e.1, withBit plane false e.2)
    down := s.chips.down.map fun e => (e.1, withBit plane false e.2) } }

/-- R344, R364, R367. -/
def chipEvtEffect (port v : Nat) (s : State) : State :=
  let p := portAt s port
  let b := bitsOf 11 0 v
  if !(portUp s port) || decide (p.role ≠ 2) || decide (3 < p.peerId) then s
  else if v.testBit 15 then chipReturn b (setPlane b p.peerId true s)
  else
    let t := setPlane b p.peerId false s
    if v.testBit 14 then loseChip b 0 t else planesJudge (unrouted (resendPorts t))

def execSbChipEvt (port value : Nat) (s : State) : Host.Outcome State Fault Refusal := onUnit (okPort port) (chipEvtEffect port value s)

/-! What the port sends -/

/-- R331: ACK, or NAK while a replay is awaited. -/
def execAckSend (port : Nat) (s : State) : Host.Outcome State Fault Refusal :=
  onUnit (okPort port) (onlyIf (hearing (portAt s port))
    (emitSideband port (if (portAt s port).nakOut then 2 else 1) (lastNum (portAt s port)) s) s)

def creditSendEffect (port c : Nat) (s : State) : State :=
  let p := portAt s port
  if hearing p && p.changed.getD c false then
    emitSideband port 3 (2 ^ 14 * c + p.returned.getD c 0) (portPut s port { p with changed := lset p.changed c false })
  else s

def execCreditSend (port cls : Nat) (s : State) : Host.Outcome State Fault Refusal :=
  onUnit (okPort port && decide (cls < 3)) (creditSendEffect port cls s)

/-- Board slots with a direct port in service. -/
def directSlots (s : State) : Nat := (upto 0 8).foldl (fun n k => if directPorts s (8 * ownBoard s + k) ≠ [] then n + 2 ^ k else n) 0

/-- STATE fields of this E9 (R330). -/
def stateField (s : State) (port i : Nat) : Nat :=
  let p := portAt s port
  match i with
  | 0 => s.chips.chipId
  | 1 => port + 2 ^ 5 * (if p.state = 4 then 2 else if p.state = 3 then 1 else 0) + 2 ^ 7 * b2n (decide (p.role = 2))
  | 2 => s.flash.incarnation % 2 ^ 14
  | _ => directSlots s

def execStateSend (port field : Nat) (s : State) : Host.Outcome State Fault Refusal :=
  onUnit (okPort port && decide (field < 4)) (onlyIf (hearing (portAt s port)) (emitSideband port 4 (2 ^ 14 * field + stateField s port field) s) s)

/-! Heartbeat loss and training -/

/-- Board ports to a slot. -/
def slotPorts (s : State) (slot : Nat) : List Nat :=
  (upto 0 24).filter fun n => portPresent s n && decide ((portAt s n).role = 1) && decide ((portAt s n).peerId = slot)

/-- Within 4 µs of an instant, in the ticks of the raster in force. -/
def soonAfter (s : State) (t : W64) : Bool := decide (ticksOf s (now s) ≤ ticksOf s t + ticksIn s 4000)

/-- Every direct port to a board neighbour that was in service has reported heartbeat loss, within 4 µs of the first (R364). A port that was
out of service before for another cause does not count (DEDUCED, log 120). -/
def neighbourLost (s : State) (slot : Nat) : Bool :=
  (slotPorts s slot).all (fun n => !(portUp s n)) &&
  ((slotPorts s slot).filterMap fun n => (portAt s n).lostAt).all (soonAfter s)

/-- R362, R364. -/
def heartbeatPortEffect (port : Nat) (s : State) : State :=
  let p := portAt s port
  if !(portUp s port) then s
  else
    let t := portOut port 1 (portPut s port { p with lostAt := some (now s) })
    let t := if p.retraining then closeWindow 0x0203 port t else t
    if p.role = 1 ∧ neighbourLost t p.peerId = true then loseChip (peerChip s p) 0 t else t

def execPortHeartbeatLoss (port : Nat) (s : State) : Host.Outcome State Fault Refusal := onUnit (okPort port) (heartbeatPortEffect port s)

/-- A port begins to train with the role and peer that the objects hold (R335, R337). -/
def trainPort (role peer : Nat) : Port := { state := 2, role := role, peerId := peer }

def trainAttemptEffect (port : Nat) (s : State) : State :=
  let p := portAt s port
  let role := oget s 0x2401 (port + 1)
  if portPresent s port && s.chips.slotOk && running s && (decide (p.state = 1) || decide (p.state = 5) || decide (p.state = 6)) then
    let t := if p.role = 2 ∧ p.state ≠ 6 then forgetPlane p.peerId s else s
    scRaise 7 0 (portPut t port { (if role = 0 then {} else trainPort role (oget s 0x2402 (port + 1))) with told := p.told })
  else s

def execPortTrainAttempt (port : Nat) (s : State) : Host.Outcome State Fault Refusal := onUnit (okPort port) (trainAttemptEffect port s)

/-- A direction as it trained: its first lanes carry the logical ones, the others are spares. -/
def trainedLanes (n : Nat) (failed : List Nat) : Side := chooseLanes n (trainedSide 9 failed)

/-- R335: with fewer than 4 lanes in a direction the port stays down; otherwise it waits for its peer's STATE (R338). The space of its
receive buffers, 4,096 units for each class, is returned first of all (R332; DEDUCED, log 121). -/
def portTrainedEffect (port : Nat) (failedTx failedRx : List Nat) (s : State) : State :=
  let p := portAt s port
  let h := min (healthy (trainedSide 9 failedTx)) (healthy (trainedSide 9 failedRx))
  if p.state ≠ 2 ∨ p.tx.lanes ≠ [] then s
  else if h < 4 then portPut s port { p with state := 1 }
  else
    let w := if 8 ≤ h then 8 else 4
    portPut s port { p with
      tx := trainedLanes w failedTx, rx := trainedLanes w failedRx, limit := oget s 0x2121 1
      returned := [4096, 4096, 4096], changed := [true, true, true] }

def execPortTrainingComplete (port : Nat) (failedTx failedRx : List Nat) (s : State) : Host.Outcome State Fault Refusal :=
  onUnit (okPort port) (portTrainedEffect port failedTx failedRx s)

end Sys2Proof.Machine
end

