-- ==== Sys2Proof/Machine/ChipLinks.lean ====
section
/-! DEFINITION. Packets (R333, R345 to R348, R353 to R355, R358 to R360), the board-shared window, and remote queues (R349 to R357). -/

namespace Sys2Proof.Machine

open Sys2Proof

/-! Fields of a header (R333) -/

def hType (h : BitVec 256) : Nat := hfield h 27 24
def hDest (h : BitVec 256) : Nat := hfield h 11 0
def hSrc (h : BitVec 256) : Nat := hfield h 23 12
def hLen (h : BitVec 256) : Nat := hfield h 44 32
def hTag (h : BitVec 256) : Nat := hfield h 63 48
def hOff (h : BitVec 256) : Nat := hfield h 107 64
def hStatus (h : BitVec 256) : Nat := hfield h 199 192
def hRound (h : BitVec 256) : Nat := hfield h 239 208
def hLevel (h : BitVec 256) : Nat := hfield h 244 240

/-- A packet of a type that arrives on a port in service for this E9, from a chip that is not lost (R365 step 4). One that an Eclipse holds
has not arrived yet (R185 step 3). -/
def arrives (s : State) (port : Nat) (h : BitVec 256) (type : Nat) : Bool :=
  portUp s port && !(behindMarker s port) && decide (hType h = type) && (decide (hDest h = s.chips.chipId) || (decide (type = 9) && decide (hDest h = 0xFFF))) && !(chipLost s (hSrc h))

def portReq (port : Nat) : Requester := ⟨4, port, none⟩

/-- An offset of a remote access names local HBM only (R257). -/
def offsetError (s : State) (part : Option Nat) (write : Bool) (off n : Nat) : Option (Nat × Nat) :=
  if (lineStarts off n).any fun a => !(hbmThere s a) then some (1, off) else rangeError s part write off n

/-- Serve a read at the target (R346, R353), line by line as a Look: status and bytes. -/
def serveRead (who : Requester) (part : Option Nat) (off n : Nat) (s : State) : Nat × List Byte × State :=
  match offsetError s part false off n with
  | some e => (e.1, [], memErr e.1 e.2 who s)
  | none => match pageRead who part 0 false (lineSpans off n) s with
    | (.error e, t) => (e.1, [], memErr e.1 e.2 who t)
    | (.ok l, t) => (0, l, t)

/-- A run of bytes written line by line; `half` keeps the high half of the last byte (R90). -/
def servePieces (who : Requester) (part : Option Nat) (hint : Nat × Nat) (half : Bool) :
    List (Nat × List Byte) → State → Option (Nat × Nat) × State
  | [], s => (none, s)
  | (a, l) :: r, s =>
    let x := spanWrite who part hint a (half && r.isEmpty) l s
    let y := servePieces who part hint half r (logged who a x)
    (match x.1 with | some c => some (c, a) | none => y.1, y.2)

/-- Serve a write at the target, line by line as a PutPlace with its hint (R346, R351). -/
def serveWrite (who : Requester) (part : Option Nat) (hint : Nat × Nat) (off : Nat) (half : Bool) (l : List Byte) (s : State) : Nat × State :=
  match offsetError s part true off l.length with
  | some e => (e.1, memErr e.1 e.2 who s)
  | none => match servePieces who part hint half (cutLines l.length off l) s with
    | (some e, t) => (e.1, t)
    | (none, t) => (0, t)

def portPart (s : State) (port : Nat) : Option Nat := partOf s (portReq port)

/-- A response goes back on the route of its request's line (R341). -/
def answer (h : BitVec 256) (type status : Nat) (data : List Byte) (s : State) : State :=
  sendOn (portFor s (hSrc h) (offHash (hOff h))) (pktHdr (hSrc h) s.chips.chipId type data.length (hTag h) (hOff h) 0 0 status) data s

/-- A request packet that reads or writes local memory waits for its lines (R32, R33, R279, R297, R316). -/
def packetWaits (s : State) (port : Nat) (h : BitVec 256) : Bool :=
  let read := decide (hType h = 1) || decide (hType h = 6)
  [1, 2, 4, 6].contains (hType h) && arrives s port h (hType h) && (offsetError s (portPart s port) (!read) (hOff h) (hLen h)).isNone &&
  rangeWaits s (portReq port) (portPart s port) read (hOff h) (hLen h)

/-- It has been Nacked where its line's home refuses it. -/
def packetNacked (port : Nat) (h : BitVec 256) (s : State) : State :=
  nacked (portReq port) (portPart s port) (decide (hType h = 1) || decide (hType h = 6)) (hOff h) (hLen h) s

/-! Window packets -/

def winRdEffect (port : Nat) (h : BitVec 256) (s : State) : State :=
  if !(arrives s port h 1) then s
  else if packetWaits s port h then packetNacked port h s
  else
    let r := serveRead (portReq port) (portPart s port) (hOff h) (hLen h) s
    answer h 3 r.1 r.2.1 r.2.2

def execWinRd (port : Nat) (hdr : BitVec 256) (flaws : List (Nat × Bool)) (s : State) : Host.Outcome State Fault Refusal :=
  onUnit (okPort port) (withFlaws flaws (winRdEffect port hdr) s)

def winWrEffect (port : Nat) (h : BitVec 256) (data : List Byte) (s : State) : State :=
  if !(arrives s port h 2) || decide (data.length ≠ hLen h) then s
  else if packetWaits s port h then packetNacked port h s
  else
    let r := serveWrite (portReq port) (portPart s port) (0, 0) (hOff h) (h.getLsbD 144) data s
    answer h 3 r.1 [] r.2

def execWinWr (port : Nat) (hdr : BitVec 256) (data : List Byte) (flaws : List (Nat × Bool)) (s : State) : Host.Outcome State Fault Refusal :=
  onUnit (okPort port) (withFlaws flaws (winWrEffect port hdr data) s)

/-- A value loaded, extended as the instruction asks: bit 5 of `rd` marks a signed load. -/
def loadedValue (rd n : Nat) (l : List Byte) : W64 :=
  let v := leNat (l.take n)
  if rd.testBit 5 && v.testBit (8 * n - 1) then BitVec.ofNat 64 (v + (2 ^ 64 - 2 ^ (8 * n))) else BitVec.ofNat 64 v

/-- An application core's register. -/
def coreX (c : Core) (r : Nat) : W64 := if r = 0 then 0 else tget 0 c.x r
def coreXPut (c : Core) (r : Nat) (v : W64) : Core := if r = 0 then c else { c with x := tset 0 c.x r v }

/-- The register an element of a vector register group lies in, and its first byte there (R373: VLEN 256). -/
def vecAt (r i n : Nat) : Nat × Nat := ((r + i * n / 32) % 32, i * n % 32)

def vecBytes (c : Core) (r i n : Nat) : List Byte :=
  let p := vecAt r i n
  ((leBytes 32 (tget 0 c.v p.1).toNat).drop p.2).take n

def vecPut (c : Core) (r i : Nat) (l : List Byte) : Core :=
  let p := vecAt r i l.length
  let b := leBytes 32 (tget 0 c.v p.1).toNat
  { c with v := tset 0 c.v p.1 (BitVec.ofNat 256 (leNat (b.take p.2 ++ l ++ b.drop (p.2 + l.length)))) }

/-- A loaded value lands: `rd` is the register, plus 32 for a signed load, plus 64 for a floating-point register, where a narrow value is
boxed, or plus 128 for a vector register, with 256 times the element. -/
def landLoad (rd : Nat) (l : List Byte) (c : Core) : Core :=
  match rd / 64 % 4 with
  | 0 => coreXPut c (rd % 32) (loadedValue rd l.length l)
  | 1 => { c with f := tset 0 c.f (rd % 32) (BitVec.ofNat 64 (leNat l + (2 ^ 64 - 2 ^ (8 * l.length)))) }
  | _ => vecPut c (rd % 32) (rd / 256) l

/-- R347: the completion of a window load or store, or of a piece of a transfer; an error of the target is REMOTE (R348). -/
def winCplEffect (port : Nat) (h : BitVec 256) (data : List Byte) (s : State) : State :=
  if !(arrives s port h 3) then s
  else match pendOf s (hTag h) with
    | none => s
    | some p =>
      if isRemote p then s
      else if hStatus h ≠ 0 then failWindow p 5 s
      else if p.kind = 6 ∨ p.kind = 7 then dropPend p.tag s
      else if p.kind = 4 ∨ p.kind = 5 then transferAnswer p 0 data s
      else
        let t := dropPend p.tag s
        let c := { coreAt t p.ac with waits := none }
        if p.kind = 0 then
          emit (.readData p.pa (loadedValue p.rd p.len data)) (corePut t p.ac (landLoad p.rd (data.take p.len) c))
        else corePut t p.ac c

def execWinCpl (port : Nat) (hdr : BitVec 256) (data : List Byte) (s : State) : Host.Outcome State Fault Refusal :=
  onUnit (okPort port) (winCplEffect port hdr data s)

/-! The board-shared window (R345 to R348) -/

/-- A core of an AD. -/
def acReq (ac : Nat) : Requester := ⟨2, ac, none⟩

/-- An application core's load or store in the window. `rd` is the register of a load, plus 32 where it is signed. An access to the own slot
is a Look or a PutPlace with hint 0 at the home of its address (R348). -/
def windowAccess (ac : Nat) (write : Bool) (pa size rd : Nat) (value : W64) (s : State) : State :=
  let who := acReq ac
  let part := partOf s who
  match target s pa with
  | .board k off =>
    match rangeError s part write pa size with
    | some e => errorTo e.1 e.2 who write false s
    | none =>
      if k = ownSlot s then
        if write then
          match putLine who part (lineOf off) (runMask (off % 128) false (leBytes size value.toNat)) (runLine (off % 128) (leBytes size value.toNat)) s with
          | (some c, t) => errorTo c pa who true false t
          | (none, t) => t
        else
          let r := lookLine who part (lineOf off) s
          match r.1 with
          | some c => errorTo c pa who false false r.2.2
          | none =>
            let l := lineCut r.2.1.1 (off % 128) size
            emit (.readData pa (loadedValue rd size l)) (corePut r.2.2 ac (landLoad rd l (coreAt r.2.2 ac)))
      else
        let p := windowPend s (b2n write) k off size pa ac rd
        let t := if write then request p (fun tag => winWrHdr s p.chip off size tag false) (leBytes size value.toNat) s
          else request p (winRdHdr s p.chip off size) [] s
        corePut t.2 ac { coreAt t.2 ac with waits := some t.1 }
  | _ => errorTo 1 pa who write false s

def sizeOk (pa size : Nat) : Bool := (decide (size = 1) || decide (size = 2) || decide (size = 4) || decide (size = 8)) && decide (pa % size = 0)

/-- A core that can execute: present, started, not halted, and not waiting for a window access; none does once its die has stopped issuing
(R485). -/
def acLive (s : State) (ac : Nat) : Bool := issuing s && acPresent s ac && (coreAt s ac).on && !(coreAt s ac).halted && decide ((coreAt s ac).waits = none)

def execBoardWindowAccess (ac : Nat) (write : Bool) (pa size : Nat) (value : W64) (flaws : List (Nat × Bool)) (s : State) :
    Host.Outcome State Fault Refusal :=
  onUnit (okAc ac) (onlyIf (acLive s ac && inWindow pa && sizeOk pa size)
    (whenFree (acReq ac) (partOf s (acReq ac)) (!write) pa size (withFlaws flaws (windowAccess ac write pa size 0 value) s) s) s)

/-! Remote commands at the sender -/

/-- Bytes of the next packet of a command: up to the end of a 4 KiB block of the remote range (R353). -/
def rcPiece (c : RCmd) : Nat := min (rcLen c - c.sent) (4096 - (rcRemote c + c.sent) % 4096)
def rcPost (c : RCmd) : Bool := !(rcIsGet c) && bit 15 (rcWord c 4)

/-- Local physical pieces of a command's virtual range, each with whether its page is NC; none where a page does not resolve (R353). -/
def rcLocalPieces (ctx acc : Nat) : List (Nat × Nat) → State → Option (List (Nat × Nat × Bool)) × State
  | [], s => (some [], s)
  | p :: r, s => match pagePhys ctx none (p.1 / 4096) acc s with
    | (none, t) => (none, t)
    | (some pg, t) =>
      let y := rcLocalPieces ctx acc r t
      (y.1.map fun l => (4096 * pg.1 + p.1 % 4096, p.2, pg.2) :: l, y.2)

/-- Read pieces of local memory: the bytes, or the first error, which is logged. -/
def readAll (who : Requester) (part : Option Nat) : List (Nat × Nat × Bool) → State → Except Nat (List Byte) × State
  | [], s => (.ok [], s)
  | (pa, n, nc) :: r, s =>
    match pageRead who part 0 nc (lineSpans pa n) s with
    | (.error e, t) => (.error e.1, memErr e.1 e.2 who t)
    | (.ok l, t) =>
      let y := readAll who part r t
      (y.1.map fun m => l ++ m, y.2)

/-- Write the lines of a piece; a page that is not cacheable at the controller. -/
def writeLocal (who : Requester) (part : Option Nat) (hint : Nat × Nat) (nc : Bool) : List (Nat × List Byte) → State → Option (Nat × Nat) × State
  | [], s => (none, s)
  | (a, l) :: r, s =>
    let x := match localAddr s a with
      | some b => localWrite who part hint nc a b (runMask (b % 128) false l) (runLine (b % 128) l) s
      | none => writeInLine who part hint a l s
    let y := writeLocal who part hint nc r (logged who a x)
    (match x.1 with | some c => some (c, a) | none => y.1, y.2)

/-- Write pieces of local memory with a hint; the first error is logged. -/
def writeAll (who : Requester) (part : Option Nat) (hint : Nat × Nat) : List (Nat × Nat × Bool) → List Byte → State → Option Nat × State
  | [], _, s => (none, s)
  | (pa, n, nc) :: r, l, s =>
    let x := match rangeError s part true pa n with
      | some e => (some e, memErr e.1 e.2 who s)
      | none => writeLocal who part hint nc (cutLines n pa (l.take n)) s
    match x.1 with
    | some e => (some e.1, x.2)
    | none => writeAll who part hint r (l.drop n) x.2

/-- The write hint of a command (R351). -/
def rcHint (c : RCmd) : Nat × Nat := (fld 25 24 (rcWord c 0), fld 31 26 (rcWord c 0))

/-- The unit of a local access: the XD's port, or the submission unit of XD0 where the target is this E9. -/
def rcReq (port : Option Nat) : Requester := match port with | some n => portReq n | none => subReq none

/-- RPOST at its target (R355): refused outside the range of REMOTE_BATON_FIRST and COUNT. -/
def remotePost (port : Option Nat) (b : Nat) (op : W32) (s : State) : Bool × State :=
  let first := oget s 0x2400 4
  if first ≤ b ∧ b < first + oget s 0x2400 5 then
    (true, signalBaton b op (match port with | some n => shadowBaton n b op s | none => s))
  else (false, s)

/-- A packet of a command whose target is this E9 is served inside the package (R340 order 1). -/
def selfPiece (n : Nat) (i : W32) (c : RCmd) (k : Nat) (local_ : List (Nat × Nat × Bool)) (s : State) : State :=
  let part := some (ctxPart s (rqCtx (rqAt s n)))
  let off := rcRemote c + c.sent
  if rcIsGet c then
    let r := serveRead (rcReq none) part off k s
    if r.1 ≠ 0 then rqNote n i 4 r.1 r.2.2
    else match writeAll (rcReq none) part (rcHint c) local_ r.2.1 r.2.2 with
      | (some e, t) => rqNote n i 5 e t
      | (none, t) => t
  else match readAll (rcReq none) part local_ s with
    | (.error e, t) => rqNote n i 5 e t
    | (.ok l, t) =>
      let w := serveWrite (rcReq none) part (rcHint c) off false l t
      if w.1 ≠ 0 then rqNote n i 4 w.1 w.2
      else if rcPost c && decide (rcLen c ≤ c.sent + k) then
        let p := remotePost none (fld 12 0 (rcWord c 4)) (rcWord c 4 >>> 32).toNat w.2
        if p.1 then p.2 else rqNote n i 4 0x10 p.2
      else w.2

/-- The header of a command's packet under its tag (R333). -/
def rcHdr (s : State) (c : RCmd) (off k tag : Nat) : BitVec 256 :=
  let last := rcPost c && decide (rcLen c ≤ c.sent + k)
  let hint := if rcIsGet c then 0 else (rcHint c).1 * 2 ^ 48 + (rcHint c).2 * 2 ^ 50
  pktHdr (rcChip c) s.chips.chipId (if rcIsGet c then 6 else 4) k tag off hint (if last then (rcWord c 4).toNat else 0) 0

/-- Send the next packet of a command, or end it with an error. -/
def sendPiece (n : Nat) (i : W32) (c : RCmd) (s : State) : State :=
  let ctx := rqCtx (rqAt s n)
  let k := rcPiece c
  let off := rcRemote c + c.sent
  match rcLocalPieces ctx (if rcIsGet c then 2 else 1) (pageSpans (rcLocal c + c.sent) k) s with
  | (none, t) => rqNote n i 7 0 t
  | (some pieces, t) =>
    if rcChip c = t.chips.chipId then rqMod n i (fun x => { x with sent := x.sent + k }) (selfPiece n i c k pieces t)
    else match portFor t (rcChip c) (offHash off) with
      | none => rqNote n i 2 0 t
      | some port =>
        let r := if rcIsGet c then (.ok [], t) else readAll (rcReq (some port)) (some (ctxPart t ctx)) pieces t
        match r.1 with
        | .error e => rqNote n i 5 e r.2
        | .ok data =>
          let p : Pend := { tag := 0, kind := if rcIsGet c then 3 else 2, chip := rcChip c, ac := 0, rd := 0, rq := n, cmd := i,
                            va := rcLocal c + c.sent, len := k, pa := off, off := off }
          let q := request p (rcHdr r.2 c off k) data r.2
          rqMod n i (fun x => { x with sent := x.sent + k, packets := x.packets ++ [q.1] }) q.2

/-- A tracker is free for the next packet, at the XD of its port (R297). -/
def pumpRoom (s : State) (c : RCmd) : Bool :=
  decide (rcChip c = s.chips.chipId) ||
  (match portFor s (rcChip c) (offHash (rcRemote c + c.sent)) with | some n => issueRoom s (portReq n) 1 | none => true)

/-- Packets of a command go out while tags and trackers are free; the one that carries the RPOST waits for every other's acknowledgement (R355). -/
def pump : Nat → Nat → W32 → State → State
  | 0, _, _, s => s
  | f + 1, n, i, s => match rqCmd s n i with
    | none => s
    | some c =>
      if !c.started || !(issuing s) || decide (c.status ≠ 0) || decide (rcLen c ≤ c.sent) || decide (65536 ≤ s.chips.pend.length) || !(pumpRoom s c) then s
      else if rcPost c && decide (rcLen c ≤ c.sent + rcPiece c) && decide (c.packets ≠ []) then s
      else pump f n i (sendPiece n i c s)

def pumpCmd (n : Nat) (i : W32) (s : State) : State :=
  match rqCmd s n i with
  | none => s
  | some c => pump ((rcLen c - c.sent) / 4096 + 2) n i s

/-! PUT and GET packets -/

def putEffect (port : Nat) (h : BitVec 256) (data : List Byte) (s : State) : State :=
  if !(arrives s port h 4) || decide (data.length ≠ hLen h) then s
  else if packetWaits s port h then packetNacked port h s
  else
    let r := serveWrite (portReq port) (portPart s port) (hfield h 113 112, hfield h 119 114) (hOff h) false data s
    if r.1 = 0 ∧ h.getLsbD 143 = true then
      let p := remotePost (some port) (hfield h 140 128) (BitVec.ofNat 32 (hfield h 191 160)) r.2
      answer h 5 (if p.1 then 0 else 0x10) [] p.2
    else answer h 5 r.1 [] r.2

def execPut (port : Nat) (hdr : BitVec 256) (data : List Byte) (flaws : List (Nat × Bool)) (s : State) : Host.Outcome State Fault Refusal :=
  onUnit (okPort port) (withFlaws flaws (putEffect port hdr data) s)

/-- R354, R356: an acknowledged packet; the next ones go out. -/
def putAckEffect (port : Nat) (h : BitVec 256) (s : State) : State :=
  if !(arrives s port h 5) then s
  else match pendOf s (hTag h) with
    | none => s
    | some p =>
      if p.kind ≠ 2 then s
      else
        let t := if hStatus h ≠ 0 then rqNote p.rq p.cmd 4 (hStatus h) s else s
        pumpCmd p.rq p.cmd (settlePacket p t)

def execPutAck (port : Nat) (hdr : BitVec 256) (s : State) : Host.Outcome State Fault Refusal := onUnit (okPort port) (putAckEffect port hdr s)

def getEffect (port : Nat) (h : BitVec 256) (s : State) : State :=
  if !(arrives s port h 6) then s
  else if packetWaits s port h then packetNacked port h s
  else
    let r := serveRead (portReq port) (portPart s port) (hOff h) (hLen h) s
    answer h 7 r.1 r.2.1 r.2.2

def execGet (port : Nat) (hdr : BitVec 256) (flaws : List (Nat × Bool)) (s : State) : Host.Outcome State Fault Refusal :=
  onUnit (okPort port) (withFlaws flaws (getEffect port hdr) s)

/-- R354: the data goes to local memory through the translations as they stand (R353), with the command's hint (R351). -/
def getDataEffect (port : Nat) (h : BitVec 256) (data : List Byte) (s : State) : State :=
  if !(arrives s port h 7) then s
  else match pendOf s (hTag h) with
    | none => s
    | some p =>
      if p.kind ≠ 3 then s
      else
        let ctx := rqCtx (rqAt s p.rq)
        let hint := match rqCmd s p.rq p.cmd with | some c => rcHint c | none => (0, 0)
        let t :=
          if hStatus h ≠ 0 then rqNote p.rq p.cmd 4 (hStatus h) s
          else match rcLocalPieces ctx 2 (pageSpans p.va p.len) s with
            | (none, t) => rqNote p.rq p.cmd 7 0 t
            | (some l, t) => match writeAll (portReq port) (some (ctxPart t ctx)) hint l data t with
              | (some e, u) => rqNote p.rq p.cmd 5 e u
              | (none, u) => u
        pumpCmd p.rq p.cmd (settlePacket p t)

def execGetData (port : Nat) (hdr : BitVec 256) (data : List Byte) (flaws : List (Nat × Bool)) (s : State) : Host.Outcome State Fault Refusal :=
  onUnit (okPort port) (withFlaws flaws (getDataEffect port hdr data) s)

/-- R342: an undeliverable request returns; one for another chip goes on. -/
def unreachableEffect (port : Nat) (h : BitVec 256) (s : State) : State :=
  if !(portUp s port) || behindMarker s port || decide (hType h ≠ 10) then s
  else if hDest h ≠ s.chips.chipId then (if (portAt s port).role = 1 then forwardPacket h [] s else s)
  else if [1, 2, 4, 6].contains (hfield h 203 200) then unreachTag (hTag h) s else s

def execUnreachable (port : Nat) (hdr : BitVec 256) (s : State) : Host.Outcome State Fault Refusal :=
  onUnit (okPort port) (unreachableEffect port hdr s)

/-! Relay packets (R358 to R360) -/

/-- Bytes of a group's value (R360). -/
def groupBytes (g : Group) : Nat := if gKind g = 4 then 0 else (packElems (gFmt g) (List.replicate (gE g) 0)).length

/-- The value of a tree node arrives in packets of at most 4,096 bytes; with the last one it is known here. -/
def nodeArrives (n k l m : Nat) (data : List Byte) (s : State) : Option State :=
  let g := groupAt s n
  let r := (roundAt g k).getD (emptyRound k)
  let have_ := ((r.arriving.find? fun e => decide (e.1 = l) && decide (e.2.1 = m)).map fun e => e.2.2).getD []
  let total := groupBytes g
  if data.length ≠ min 4096 (total - have_.length) ∨ r.nodes.any (fun e => decide (e.1 = l) && decide (e.2.1 = m)) = true then none
  else
    let all := have_ ++ data
    let rest := r.arriving.filter fun e => !(decide (e.1 = l) && decide (e.2.1 = m))
    let r := if total ≤ all.length then { r with nodes := r.nodes ++ [(l, m, if total = 0 then [] else unpackElems (gFmt g) (gE g) all)], arriving := rest }
      else { r with arriving := (l, m, all) :: rest }
    some (groupPut s n (gSetState (if gState g = 0 then 1 else gState g) (roundPut g r)))

/-- The group takes part across chips and is in service. -/
def relayServes (s : State) (n : Nat) : Bool :=
  decide (n < 1024) && gValid (groupAt s n) && decide (gScope (groupAt s n) ≠ 0)

/-- R360: the round aborts here with ENTRY_CHANGED, and on the group's other E9s; the sender hears of it where the entry does not list it. -/
def relayRefuse (n src : Nat) (s : State) : State :=
  let g := groupAt s n
  let t := if gValid g && decide (gState g ≠ 2) then spreadAbort n g (endRounds n 4 s) else s
  if relayServes s n then t else sendOn (portFor t src n) (abortHdr t n src 0) [] t

/-- The node a RELAY_UP brings: of its level, the right child that the sender computes and whose parent is computed here (R358). -/
def arrivingNode (s : State) (n src level : Nat) : Nat :=
  let g := groupAt s n
  let pos := (upto 0 (gCount g + 1)).find? fun p => decide (chipAt s g p = src)
  let first := firstRankAt n g (pos.getD 0)
  let m := (first + 2 ^ level - 1) / 2 ^ level
  if m % 2 = 1 then m else m + 1

/-- The round a packet names by its low 32 bits: the one nearest to those the group stands at (R132). -/
def roundOf (g : Group) (h : BitVec 256) : Nat :=
  let d := (hRound h + 2 ^ 32 - g.ground % 2 ^ 32) % 2 ^ 32
  if d < 2 ^ 31 then g.ground + d else g.ground + d - 2 ^ 32

/-- R358, R360: the partial result of a right child whose parent is computed here, or a message of a barrier's gather. -/
def relayUpEffect (port : Nat) (h : BitVec 256) (data : List Byte) (s : State) : State :=
  if !(arrives s port h 8) then s
  else
    let n := hOff h % 1024
    let g := groupAt s n
    shadowGroup port n s (
      if !(relayServes s n) then relayRefuse n (hSrc h) s
      else if gState g = 2 ∨ roundOf g h < g.ground then s
      else if hLevel h = treeLevels (gN g) ∧ gKind g = 4 then
        (if data = [] then gatherArrives n (roundOf g h) (hSrc h) s else relayRefuse n (hSrc h) s)
      else match nodeArrives n (roundOf g h) (hLevel h) (arrivingNode s n (hSrc h) (hLevel h)) data s with
        | some t => t
        | none => relayRefuse n (hSrc h) s)

def execRelayUp (port : Nat) (hdr : BitVec 256) (data : List Byte) (s : State) : Host.Outcome State Fault Refusal :=
  onUnit (okPort port) (settleAll (relayUpEffect port hdr data s))

/-- A board root: the first chip of its board in the chip list (R359). -/
def boardRoot (s : State) (g : Group) : Bool :=
  decide (((chipList s g).find? fun c => decide (c / 8 = ownBoard s)) = some s.chips.chipId)

/-- R359: the round's result; a board root passes it on to its board. One with STATUS GROUP_ABORTED is an abort forwarded (R140). -/
def relayDownEffect (port : Nat) (h : BitVec 256) (data : List Byte) (s : State) : State :=
  if !(arrives s port h 9) then s
  else
    let n := hOff h % 1024
    let g := groupAt s n
    shadowGroup port n s (
      if hStatus h = 5 then groupAborted n s
      else if !(relayServes s n) then relayRefuse n (hSrc h) s
      else if gState g = 2 ∨ roundOf g h < g.ground then s
      else match nodeArrives n (roundOf g h) (treeLevels (gN g)) 0 data s with
        | none => relayRefuse n (hSrc h) s
        | some t =>
          if hDest h = 0xFFF ∧ boardRoot t g = true then
            ((chipList t g).filter fun c => decide (c ≠ t.chips.chipId) && decide (c / 8 = ownBoard t)).foldl
              (fun u c => sendRelay 9 c n (hRound h) (hLevel h) data u) t
          else t)

def execRelayDown (port : Nat) (hdr : BitVec 256) (data : List Byte) (s : State) : Host.Outcome State Fault Refusal :=
  onUnit (okPort port) (settleAll (relayDownEffect port hdr data s))

/-! Remote queues -/

/-- R350, R197. -/
def rqDoorbellEffect (n : Nat) (v : W64) (s : State) : State :=
  let r := rqAt s n
  let p : W32 := v.truncate 32
  if !(rqLive s n) then s
  else if decide (fld 63 48 v = 0) && decide (fld 47 32 v = rqGen r (p - 1)) && decide ((p - r.tail).toNat < 2 ^ 31) && decide ((p - r.done).toNat ≤ 2 ^ rqLog r) then
    rqPut s n { r with tail := p }
  else parkRq n 2 r.read s

def execRqDoorbell (rq : Nat) (value : W64) (s : State) : Host.Outcome State Fault Refusal := onUnit (okRq rq) (rqDoorbellEffect rq value s)

def rqResumeEffect (n : Nat) (s : State) : State :=
  let r := rqAt s n
  if rqLive s n && decide (r.status ≠ 0) && decide (r.status ≠ 4) then rqPut s n { r with status := 0, rereads := 0 } else s

def execRqResume (rq : Nat) (s : State) : Host.Outcome State Fault Refusal := onUnit (okRq rq) (rqResumeEffect rq s)

/-- R350: the command at the head completes REFUSED 0x11, unread. -/
def rqSkipEffect (n : Nat) (s : State) : State :=
  let r := rqAt s n
  if rqLive s n && decide (r.status ≠ 0) && decide (r.status ≠ 4) then
    let t := rqResumeEffect n s
    if r.read = r.tail then t
    else
      let q := rqAt t n
      rqFinish n r.read (rqPut t n { q with read := q.read + 1, cmds := q.cmds ++ [{ idx := r.read, words := [], status := 1, detail := 0x11 }] })
  else s

def execRqSkip (rq : Nat) (s : State) : Host.Outcome State Fault Refusal := onUnit (okRq rq) (rqSkipEffect rq s)

/-- R357: CTX changes only while EN is 0; EN is set only while its context is ENABLED, and resets the indices. -/
def rqCfgSet (n : Nat) (v : W64) (s : State) : State :=
  let r := rqAt s n
  if rqEn r then
    if bit 0 v then
      (if ctxEnabled s (rqCtx r) then rqPut s n { r with cfg := maskWrite 0xF00000001 r.cfg v, tail := 0, read := 0, done := 0, doneAhead := [], cmds := [], status := 0, rereads := 0 }
       else s)
    else rqPut s n { r with cfg := maskWrite 0xF00000001 r.cfg v }
  else
    let c := maskWrite 0xF3FFF0000 r.cfg v
    if bit 0 v && ctxEnabled s (fld 29 16 c) then
      rqPut s n { r with cfg := setFld 0 0 1 c, tail := 0, read := 0, done := 0, doneAhead := [], cmds := [], status := 0, rereads := 0 }
    else rqPut s n { r with cfg := c }

def execRqCfgWrite (rq : Nat) (value : W64) (s : State) : Host.Outcome State Fault Refusal := onUnit (okRq rq) (rqCfgSet rq value s)

/-- Bits of the command's words that hold a field (R351); an operation word without its reserved bits (R217). -/
def rcMask (i : Nat) : Nat :=
  [0xFFFFF1FFFFF, 0xFFFFFFFFFFF, 0x1FFFFFFFFFFFFFF, 0x7FFFFFFF, 0xFFFFFF1F00009FFF, 0xFFFFFF1F00039FFF, 0, 0xFFFF00000000FFFF].getD i 0

/-- What a page of the local range is refused for: 3 where it does not resolve or lies in no memory a page may, 4 outside reach. -/
def rcPageReason (ctx acc : Nat) : List (Nat × Nat) → State → Nat × State
  | [], s => (0, s)
  | p :: r, s =>
    match resolvePage ctx none (p.1 / 4096) acc s with
    | (.ok _ _, t) => rcPageReason ctx acc r t
    | (.missing _ _, t) => (3, t)
    | (.denied, t) => match (walk s ctx (p.1 / 4096) acc).1 with
      | .page pg n _ _ _ => ((match target s (4096 * (pg + p.1 / 4096 % n)) with
          | .hbm _ => 4 | .board _ _ => 4 | .host _ => if s.boot.modeSel then 4 else 3 | _ => 3), t)
      | _ => (3, t)

/-- R352. -/
def rcReason (n : Nat) (c : RCmd) (s : State) : Nat × State :=
  let ctx := rqCtx (rqAt s n)
  let op := fld 19 16 (rcWord c 0)
  if (upto 0 8).any fun i => !(noReserved (rcMask i) (rcWord c i)) then (1, s)
  else if (op ≠ 1 ∧ op ≠ 2) ∨ rcLen c = 0 ∨ 2 ^ 30 < rcLen c then (2, s)
  else
    let r := if rangeCanonical (rcLocal c) (rcLen c) then rcPageReason ctx (if op = 2 then 2 else 1) (pageSpans (rcLocal c) (rcLen c)) s else (3, s)
    if r.1 ≠ 0 then r
    else if bit 15 (rcWord c 5) && !(batonBound s (fld 12 0 (rcWord c 5)) ctx) then (5, r.2) else (0, r.2)

/-- A command read with its generation: refused, lost with its chip, or kept. A refused one completes at once. -/
def acceptCmd (n : Nat) (words : List W64) (s : State) : State :=
  let r := rqAt s n
  let i := r.read
  let c : RCmd := { idx := i, words := words }
  let t := rqPut s n { r with read := i + 1, rereads := 0, cmds := r.cmds ++ [c] }
  let k := rcReason n c t
  if k.1 ≠ 0 then rqFinish n i (rqNote n i 1 k.1 k.2)
  else if chipLost k.2 (rcChip c) then rqFinish n i (rqNote n i 3 (tget 0 k.2.chips.reasons (rcChip c)) k.2)
  else k.2

/-- R199, R200, R352. -/
def rqReadEffect (n : Nat) (s : State) : State :=
  let r := rqAt s n
  if !(rqLive s n) || !(issuing s) || decide (r.status ≠ 0) || decide (r.read = r.tail) || decide (64 ≤ r.cmds.length) then s
  else whenFree (subReq none) (some (ctxPart s (rqCtx r))) true (rqAddr r r.read) 64 (
    let x := memRead (subReq none) (some (ctxPart s (rqCtx r))) (rqAddr r r.read) 64 s
    match x.1 with
    | .error _ => parkRq n 3 r.read x.2
    | .ok l =>
      let w := wordsOf l 8
      if fld 15 0 (w.getD 0 0) = rqGen r r.read then acceptCmd n w x.2
      else if r.rereads < 8 then rqPut x.2 n { r with rereads := r.rereads + 1 }
      else parkRq n 1 r.read x.2) s

def execRqCommandRead (rq : Nat) (flaws : List (Nat × Bool)) (s : State) : Host.Outcome State Fault Refusal :=
  onUnit (okRq rq) (withFlaws flaws (rqReadEffect rq) s)

/-- The next command to start, in ring order; an ORDERED one waits for every earlier to complete (R351, R353). -/
def nextStart (r : RQueue) : Option RCmd :=
  match r.cmds.find? fun c => !c.started && decide (c.status = 0) with
  | none => none
  | some c => if rcOrdered c && r.cmds.any fun d => decide ((c.idx - d.idx).toNat < 2 ^ 31) && decide (d.idx ≠ c.idx) then none else some c

/-- A started command with packets still to send goes on first. -/
def rqStartEffect (n : Nat) (s : State) : State :=
  if !(rqLive s n) then s
  else match (rqAt s n).cmds.find? fun c => c.started && decide (c.status = 0) && decide (c.sent < rcLen c) && decide (c.packets = []) with
    | some c => pumpCmd n c.idx s
    | none => match nextStart (rqAt s n) with
      | none => s
      | some c => pumpCmd n c.idx (rqMod n c.idx (fun x => { x with started := true }) s)

def execRqCommandStart (rq : Nat) (flaws : List (Nat × Bool)) (s : State) : Host.Outcome State Fault Refusal :=
  onUnit (okRq rq) (withFlaws flaws (rqStartEffect rq) s)

/-- R354: the first command in ring order that has ended completes. -/
def rqCompleteEffect (n : Nat) (s : State) : State :=
  match (rqAt s n).cmds.find? rqEnded with
  | none => s
  | some c => rqFinish n c.idx s

def execRqCommandComplete (rq : Nat) (s : State) : Host.Outcome State Fault Refusal := onUnit (okRq rq) (rqCompleteEffect rq s)

end Sys2Proof.Machine
end

