-- ==== Sys2Proof/Machine/Codewords.lean ====
section
/-! DEFINITION. Codewords as they arrive (R328 to R334): decoding, numbering, the packet stream and its credit, and the delivery of what a
codeword carries. -/

namespace Sys2Proof.Machine

open Sys2Proof

/-! Lanes -/

/-- Corrected symbols of one lane in the window (R334). -/
def laneSymbols (port lane n : Nat) (s : State) : State :=
  let p := portAt s port
  let k := tget 0 p.rx.errs lane + n
  let t := portPut s port { p with rx := { p.rx with errs := tset 0 p.rx.errs lane k } }
  if p.limit < k then laneFail (.port port) false lane t else t

/-- Corrected symbols of each lane in use: symbol i came on logical lane i mod w (R329). -/
def addLanes (port : Nat) (places : List Nat) (s : State) : State :=
  let l := (portAt s port).rx.lanes
  (upto 0 l.length).foldl (fun t j =>
    let n := (places.filter fun i => decide (i % l.length = j)).length
    if n = 0 then t else laneSymbols port (l.getD j 0) n t) s

/-! The packet stream -/

/-- Packet types whose LEN bytes follow the header; in a request to read, and in UNREACHABLE, LEN is what was asked for. -/
def hasData (type : Nat) : Bool := [2, 3, 4, 7, 8, 9].contains type

/-- The first whole packet of a stream: header, data and the rest. -/
def cutStream (l : List Byte) : Option (BitVec 256 × List Byte × List Byte) :=
  if l.length < 32 then none
  else
    let h := BitVec.ofNat 256 (leNat (l.take 32))
    let n := if hasData (hType h) then hLen h else 0
    if (l.drop 32).length < n then none else some (h, (l.drop 32).take n, (l.drop 32).drop n)

/-- What a packet does where it arrives (R346 to R360): one for this E9 has its effect; one for another chip, on a board port, goes on (R342). -/
def deliverPacket (port : Nat) (h : BitVec 256) (data : List Byte) (s : State) : State :=
  if hDest h ≠ s.chips.chipId ∧ hDest h ≠ 0xFFF ∧ (portAt s port).role = 1 then forwardPacket h data s
  else match hType h with
    | 1 => winRdEffect port h s
    | 2 => winWrEffect port h data s
    | 3 => winCplEffect port h data s
    | 4 => putEffect port h data s
    | 5 => putAckEffect port h s
    | 6 => getEffect port h s
    | 7 => getDataEffect port h data s
    | 8 => settleAll (relayUpEffect port h data s)
    | 9 => settleAll (relayDownEffect port h data s)
    | 10 => unreachableEffect port h s
    | _ => s

/-- Where a header's place has no type of R333 the rest of the codeword that holds the type's byte is fill (log 119). The stream ends where
a codeword ends. -/
def afterFill (l : List Byte) : List Byte := l.drop (l.length - 640 * ((l.length - 4) / 640))

/-- Whole packets leave the stream: the space they took is returned (R332), and they are delivered. A request whose lines are not free keeps
its place, and with it those behind it of its class; the packets that stay come first in what is left of the stream. -/
def takePackets : Nat → Nat → Bool → State → List Byte × State
  | 0, _, _, s => ([], s)
  | f + 1, port, held, s =>
    let p := portAt s port
    if p.stream.length < 4 then ([], s)
    else if (p.stream.getD 3 0).toNat % 16 = 0 ∨ 10 < (p.stream.getD 3 0).toNat % 16 then
      takePackets f port held (portPut s port { p with stream := afterFill p.stream })
    else match cutStream p.stream with
      | none => ([], s)
      | some (h, data, rest) =>
        if decide (hdrClass h = 0) && (held || packetWaits s port h) then
          let t := if held then s else packetNacked port h s
          let r := takePackets f port true (portMod port (fun q => { q with stream := rest }) t)
          (p.stream.take (p.stream.length - rest.length) ++ r.1, r.2)
        else
          let c := hdrClass h
          let q := { p with stream := rest, changed := lset p.changed c true
                            returned := lset p.returned c ((p.returned.getD c 0 + pktUnits data) % 2 ^ 14) }
          takePackets f port held (deliverPacket port h data (portPut s port q))

/-- A port in service takes what its stream holds, also what came before it entered service (R331). -/
def takeStream (port : Nat) (s : State) : State :=
  if portUp s port then
    let r := takePackets ((portAt s port).stream.length + 1) port false s
    if portUp r.2 port && decide (r.1 ≠ []) then portMod port (fun q => { q with stream := r.1 ++ q.stream }) r.2 else r.2
  else s

def execSbState (port value : Nat) (s : State) : Host.Outcome State Fault Refusal :=
  onUnit (okPort port) (takeStream port (sbStateEffect port value s))

/-! Codewords -/

/-- A sideband message takes effect (R330); a marker's halves come in two consecutive numbered codewords. -/
def sidebandEffect (port : Nat) (c : Codeword) (s : State) : State :=
  let half := (portAt s port).markIn
  let t := if c.numbered then portMod port (fun p => { p with markIn := if c.kind = 6 ∧ half = none then some c.value else none }) s else s
  match c.kind with
  | 1 => sbAckEffect port c.value t
  | 2 => sbNakEffect port c.value t
  | 3 => sbCreditEffect port c.value t
  | 4 => sbStateEffect port c.value t
  | 5 => goingDownEffect port c.value t
  | 6 => match half with
    | some lo => if c.numbered then eclMarkerEffect true port (BitVec.ofNat 32 (lo + 65536 * c.value)) t else t
    | none => t
  | 7 => chipEvtEffect port c.value t
  | _ => t

/-- R331: a codeword that decodes. A numbered one counts only in number order, and its bytes join the stream. -/
def wordEffect (port number : Nat) (c : Codeword) (s : State) : State :=
  if !c.numbered then takeStream port (sidebandEffect port c s)
  else
    let p := portAt s port
    if number % 65536 ≠ p.rxNum then s
    else
      let t := portPut s port { p with rxNum := (p.rxNum + 1) % 65536, nakOut := false, stream := p.stream ++ c.bytes }
      takeStream port (sidebandEffect port c (takeStream port t))

/-- R328 to R331, R334: the symbols of the logical lanes are decoded, and corrected symbols are counted for each lane. What an Eclipse holds
has not arrived yet (R185 step 3). -/
def codewordEffect (port : Nat) (lanes : List (List Nat)) (number : Nat) (newWindow : Bool) (s : State) : State :=
  if !(hearing (portAt s port)) || behindMarker s port then s
  else match rsDecode (laneJoin lanes) with
    | none => uncorrectableEffect port s
    | some (word, places) =>
      let t := bumpObj 0x3601 (port + 1) 64 places.length s
      let t := if newWindow then portMod port (fun p => { p with limit := oget t 0x2121 1, rx := { p.rx with errs := [] } }) t else t
      wordEffect port number (codewordOf word) (resendFailed s (addLanes port places t))

def execCodewordReceive (port : Nat) (lanes : List (List Nat)) (number : Nat) (newWindow : Bool) (flaws : List (Nat × Bool)) (s : State) :
    Host.Outcome State Fault Refusal :=
  onUnit (okPort port) (withFlaws flaws (codewordEffect port lanes number newWindow) s)

end Sys2Proof.Machine
end

