-- ==== Sys2Proof/Machine/Coherence.lean ====
section
/-! DEFINITION. The snoop timeout (R323) and the range maintenance of the MDs and of the second-level caches (R290 to R292, R322). -/

namespace Sys2Proof.Machine

open Sys2Proof

/-! Snoop timeout (R323) -/

/-- A snoop to the agent is unanswered at one of the MD's entries. -/
def snoopOwed (s : State) (md a : Nat) : Bool := s.coh.dir.any fun e => decide (lineHome e.1 = md) && e.2.snoops.contains a

def execSnoopTimeout (md agent : Nat) (s : State) : Host.Outcome State Fault Refusal :=
  onUnit (okMd md) (onlyIf (snoopOwed s md agent) (fatal 0x0306 (6 + md) agent s) s)

/-! Maintenance commands (R290 to R292) -/

def inRange (lo n ln : Nat) : Bool := decide (lo ≤ 128 * ln) && decide (128 * ln < lo + n)

/-- Lines of a range that the home holds in some form: an entry, a line of the slice, a request that waits for a victim's way, or a HomeFill on
its way. -/
def heldLines (s : State) (lo n : Nat) : List Nat :=
  (nubNat ((s.coh.dir.map fun e => e.1) ++ (s.mem.llc.map fun e => e.1) ++
    (s.coh.dir.filterMap fun e => if e.2.st = .te then e.2.req.map fun r => r.line else none) ++
    s.coh.net.filterMap fun m => match m with | .homefill _ l _ _ _ _ => some l | _ => none)).filter (inRange lo n)

/-- ZERO of the lines that nothing holds. -/
def zeroRange (lo n : Nat) (held : List Nat) (s : State) : State :=
  let out := fun (ln : Nat) => inRange lo n ln && !(held.contains ln)
  { s with mem := { s.mem with
      hbm := s.mem.hbm.filter fun e => !(out (lineOf e.1)), poison := s.mem.poison.filter fun l => !(out l) } }

/-- The engine reaches a line (R291): one whose transaction or fill is open is waited for. -/
def maintLine (ln : Nat) (s : State) : State :=
  if maintHeld s ln then s else runTasks (chainFuel s) (openMaint ln s).2 (openMaint ln s).1

def mdCommand (md op : Nat) (evt : Bool) (s : State) : State :=
  let m := mdMaint s md
  let lo := fld 51 7 (regGet s (mdReg md 0x100)) * 128
  let n := fld 39 7 (regGet s (mdReg md 0x108)) * 128
  if m.busy then mdMaintPut md { m with cmdErr := true } s
  else if n = 0 then (if evt then scRaise (mdSrc s md) 0 s else s)
  else if lo < md * tileSize ∨ (md + 1) * tileSize < lo + n then mdMaintPut md { m with rangeErr := true } s
  else
    let l := heldLines s lo n
    let t := mdMaintPut md { m with busy := true, op := op, evt := evt, base := lo, size := n, left := l.filter (maintHeld s) } s
    let t := if op = 4 then zeroRange lo n l t else t
    l.foldl (fun u ln => maintLine ln u) t

/-- A command of an MD's engine, on a die that is there (R258). -/
def mdMaintRun (md op : Nat) (evt : Bool) (s : State) : Host.Outcome State Fault Refusal :=
  onUnit (okMd md) (onDie (6 + md) (mdReg md 0x110) (mdCommand md op evt s) s)

def execMaintClean (md : Nat) (evt : Bool) (s : State) : Host.Outcome State Fault Refusal := mdMaintRun md 1 evt s
def execMaintInvalidate (md : Nat) (evt : Bool) (s : State) : Host.Outcome State Fault Refusal := mdMaintRun md 2 evt s
def execMaintCleanInvalidate (md : Nat) (evt : Bool) (s : State) : Host.Outcome State Fault Refusal := mdMaintRun md 3 evt s
def execMaintZero (md : Nat) (evt : Bool) (s : State) : Host.Outcome State Fault Refusal := mdMaintRun md 4 evt s

/-! Engines of the second-level caches act on that cache only -/

def l2Key : MaintUnit → Nat
  | .cluster n => n
  | .group n => 24 + n
  | .md n => 56 + n
def l2At (s : State) (u : MaintUnit) : Maint := tget {} s.l2maint (l2Key u)
def l2Put (u : MaintUnit) (m : Maint) (s : State) : State := { s with l2maint := tset {} s.l2maint (l2Key u) m }
def l2Reg (u : MaintUnit) (off : Nat) : Nat :=
  match u with | .cluster n => clReg n off | .group n => groupReg n off | .md n => mdReg n off
/-- The die an engine is on. -/
def maintWin : MaintUnit → Nat
  | .cluster n => n / 4
  | .group n => 12 + n / 16
  | .md n => 6 + n

/-- A command reaches the engine's control register, where its die is present (R258). -/
def toEngine (u : MaintUnit) (t s : State) : State := onDie (maintWin u) (match u with | .md n => mdReg n 0x110 | _ => l2Reg u 0x20) t s

def isL2 : MaintUnit → Bool
  | .md _ => false
  | _ => true

/-- A dirty line goes to its home: an O or M owner becomes clean, and with `drop` leaves, its eviction settled at the home at once (R290). -/
def l2Line (a op ln : Nat) (x : ALine) (s : State) : State :=
  if op = 1 then
    (if dirtySt x.st then
      let t := toHome ln x.data x.poison x.part (linePut a ln { x with st := if x.st = .m then .e else .s } s)
      (match entAt t ln with
       | some e => if x.st = .o then entPut ln { e with st := .ds, was := .ds, owner := 0, sharers := insNat a e.sharers } t else t
       | none => t)
     else s)
  else
    let t := nearInv a ln (lineDrop a ln s)
    if x.st = .s then t else settleVac a ln x t
where
  settleVac (a ln : Nat) (x : ALine) (t : State) : State :=
    let u := if dirtySt x.st then toHome ln x.data x.poison x.part t else t
    match entAt t ln with
    | some e => if e.sharers = [] then entDel ln u else entPut ln { e with st := .ds, was := .ds, owner := 0 } u
    | none => u

/-- Lines of the cache in the engine's range. -/
def l2Lines (s : State) (a lo n : Nat) : List (Nat × ALine) :=
  (s.coh.lines.filter fun e => decide (e.1 = a) && inRange lo n e.2.1).map fun e => e.2

/-- No fill into that cache and no transaction of its lines is open (R291), and nothing of them is on its way or held (R20, R32). -/
def l2Quiet (s : State) (a lo n : Nat) : Bool :=
  s.coh.open_.all (fun r => !(decide (r.req = a) && inRange lo n r.line)) &&
  (l2Lines s a lo n).all fun e => !(lineShut s e.1) && !(pathsHeld s (linePaths s a false e.1)) && !(lineCrossed s a false e.1)

/-- The source that the engine of a second-level cache raises is not stated. -/
def l2Event (s : State) : State := let d := drawFree s; scRaise (d.1.toNat % 65536) 0 d.2

def l2Command (u : MaintUnit) (op : Nat) (evt : Bool) (s : State) : State :=
  let m := l2At s u
  let lo := fld 51 7 (regGet s (l2Reg u 0x10)) * 128
  let n := fld 39 7 (regGet s (l2Reg u 0x18)) * 128
  if !(isL2 u) then s
  else if m.busy then l2Put u { m with cmdErr := true } s
  else if n = 0 then (if evt then l2Event s else s)
  else l2Put u { m with busy := true, op := op, evt := evt, base := lo, size := n } s

def execL2MaintClean (u : MaintUnit) (evt : Bool) (s : State) : Host.Outcome State Fault Refusal :=
  onUnit u.ok (toEngine u (l2Command u 1 evt s) s)
def execL2MaintCleanInvalidate (u : MaintUnit) (evt : Bool) (s : State) : Host.Outcome State Fault Refusal :=
  onUnit u.ok (toEngine u (l2Command u 3 evt s) s)

/-- CMD_ERR of an engine. -/
def maintErr (u : MaintUnit) (s : State) : State :=
  match u with
  | .md n => mdMaintPut n { mdMaint s n with cmdErr := true } s
  | _ => l2Put u { l2At s u with cmdErr := true } s

/-- A write of the control register (R290, R292). -/
def maintCtrl (u : MaintUnit) (v : W64) (s : State) : State :=
  let op := fld 2 0 v
  match u with
  | .md n => if 1 ≤ op ∧ op ≤ 4 then mdCommand n op (bit 3 v) s else maintErr u s
  | _ => if op = 1 ∨ op = 3 then l2Command u op (bit 3 v) s else maintErr u s

def maintBusy (s : State) (u : MaintUnit) : Bool := match u with | .md n => (mdMaint s n).busy | _ => (l2At s u).busy

/-- R292: while BUSY, or with a reserved code, a command is ignored. -/
def maintReserved (s : State) (u : MaintUnit) (v : W64) : Bool :=
  maintBusy s u || (match u with | .md _ => decide (fld 2 0 v = 0) || decide (4 < fld 2 0 v) | _ => decide (fld 2 0 v ≠ 1) && decide (fld 2 0 v ≠ 3))

def execMaintCmdReserved (u : MaintUnit) (value : W64) (s : State) : Host.Outcome State Fault Refusal :=
  onUnit u.ok (toEngine u (onlyIf (maintReserved s u value) (maintErr u s) s) s)

/-- R292: every line processed, BUSY clears. -/
def maintDone (u : MaintUnit) (s : State) : State :=
  match u with
  | .md n =>
    let m := mdMaint s n
    if m.busy && decide (m.left = []) && s.coh.dir.all (fun e => !(decide (lineHome e.1 = n) && decide (e.2.st = .tm))) then
      let t := mdMaintPut n { m with busy := false } s
      if m.evt then scRaise (mdSrc t n) 0 t else t
    else s
  | _ =>
    let m := l2At s u
    if m.busy && l2Quiet s (l2Key u) m.base m.size then
      let t := (l2Lines s (l2Key u) m.base m.size).foldl (fun v e => l2Line (l2Key u) m.op e.1 e.2 v) s
      let t := l2Put u { m with busy := false } t
      if m.evt then l2Event t else t
    else s

def execMaintComplete (u : MaintUnit) (s : State) : Host.Outcome State Fault Refusal := onUnit u.ok (maintDone u s)

end Sys2Proof.Machine
end

