-- ==== Sys2Proof/Machine/Signals.lean ====
section
/-! DEFINITION. The Signal Concentrator (R389 to R401): sources and their entries, pending and service, the event ring, normal
delivery to IMSIC files and MSI-X vectors, fast delivery to tensor cores. -/

namespace Sys2Proof.Machine

open Sys2Proof

def scMod (s : State) (f : SigCon → SigCon) : State := { s with sc := f s.sc }

def cfgLog (n : Nat) (c : W64) : Bool := bit 3 c || decide (n = 1)
def cfgKind (c : W64) : Nat := fld 5 4 c
def cfgFile (c : W64) : Nat := fld 31 28 c
def cfgIdent (c : W64) : Nat := fld 42 32 c

/-- R392: whether a write of an entry is valid. -/
def srcCfgOk (s : State) (v : W64) : Bool :=
  (if cfgFast v then decide (cfgKind v = 2) else decide (cfgKind v ≠ 2)) &&
  decide (cfgKind v < 3) && decide (cfgFile v ≤ 8) && (decide (cfgKind v ≠ 1) || s.boot.modeSel) &&
  (match cfgKind v with
   | 0 => acPresent s (cfgTgt v) && decide (1 ≤ cfgIdent v) && decide (cfgIdent v ≤ fileIdents (cfgFile v))
   | 1 => decide (cfgIdent v = 0)
   | _ => tcPresent s (cfgTgt v) && decide (cfgIdent v = 0))

/-- R392, R12: the bits of an entry that hold a field; SENSE is read only, and LOG of source 1 is fixed. -/
def srcCfgSet (n : Nat) (v : W64) (s : State) : State :=
  if srcCfgOk s v then srcPut s n { srcAt s n with cfg := maskWrite 0x3FFF07FFF7FF003D 0 v } else scMod s fun c => { c with cfgErr := true }

/-- An entry as it reads. -/
def srcCfgRead (s : State) (n : Nat) : W64 :=
  (srcAt s n).cfg ||| BitVec.ofNat 64 (2 * b2n (srcLevel n) + 8 * b2n (decide (n = 1)))

def execScSrcCfgWrite (source : Nat) (value _high : W64) (s : State) : Host.Outcome State Fault Refusal :=
  onUnit (decide (source < 8192)) (srcCfgSet source value s)

/-! Events, inputs and service -/

/-- R393. -/
def execScEvent (source : Nat) (detail : W32) (s : State) : Host.Outcome State Fault Refusal := .next (scRaise source detail s)

/-- R395: the set address. Source 0 is none that can be delivered (R389). -/
def scPendSetEffect (v : W64) (s : State) : State := if v.toNat < 8192 then scRaise v.toNat 0 s else s

/-- R395, R394 step 4: the clear address. -/
def scPendClrEffect (v : W64) (s : State) : State :=
  let n := v.toNat
  if n < 8192 then
    let t := srcPut s n { srcAt s n with pend := false, insvc := (srcAt s n).insvc && !(srcLevel n) }
    if srcLevel n then scLevel n t else t
  else s

def execScPendSet (value : W64) (s : State) : Host.Outcome State Fault Refusal := .next (scPendSetEffect value s)
def execScPendClr (value : W64) (s : State) : Host.Outcome State Fault Refusal := .next (scPendClrEffect value s)

/-- The input of a level source changes (R394 step 1). -/
def scInput (n : Nat) (v : Bool) (s : State) : State := scLevel n (srcPut s n { srcAt s n with level := v })

def execGpirqChange (n : Nat) (asserted : Bool) (s : State) : Host.Outcome State Fault Refusal :=
  onUnit (decide (n < 8)) (scInput (16 + n) asserted s)

/-! The event ring (R398, R401) -/

def evqSize (s : State) : Nat := 2 ^ max 4 (min 16 (fld 4 0 (regGet s (scReg 0x1000))))
def evqBase (s : State) : Nat := fld 51 12 (regGet s (scReg 0x1000)) * 4096
def evqHead (s : State) : W32 := (regGet s (scReg 0x1010)).truncate 32
def evqFull (s : State) : Bool := decide (evqSize s ≤ (s.sc.evqTail - evqHead s).toNat)
def evqAddr (s : State) : Nat := evqBase s + 16 * (s.sc.evqTail.toNat % evqSize s)

/-- The record of a delivery. -/
def evqRecord (s : State) (n : Nat) (x : Src) : List Byte :=
  leBytes 8 x.time.toNat ++ leBytes 8 (n + 2 ^ 16 * (s.sc.evqTail.toNat / evqSize s % 65536) + 2 ^ 32 * x.detail.toNat)

/-- The Signal Concentrator as a requester (R518). -/
def scReq : Requester := ⟨7, 0, none⟩

/-- Whether a delivery of the source writes a record: LOG, a ring, and room in it. -/
def writesRecord (s : State) (n : Nat) : Bool := cfgLog n (srcAt s n).cfg && decide (evqBase s ≠ 0) && !(evqFull s)

/-- The record is written, or the error response to its write noted (R398). `err` is an error the write receives on its way. -/
def evqWrite (n : Nat) (err : Option Nat) (s : State) : State :=
  if !(cfgLog n (srcAt s n).cfg) || decide (evqBase s = 0) then s
  else if evqFull s then scMod s fun c => { c with ovf := true }
  else match err with
    | some code => scMod (memErr code (evqAddr s) scReq s) fun c => { c with werr := true }
    | none =>
      let r := memWrite scReq none (evqAddr s) (evqRecord s n (srcAt s n)) s
      match r.1 with
      | some _ => scMod r.2 fun c => { c with werr := true }
      | none => scMod r.2 fun c => { c with evqTail := c.evqTail + 1 }

/-! Delivery (R396, R397, R399) -/

def deliverable (s : State) (fast : Bool) (e : Nat × Src) : Bool :=
  e.2.pend && cfgEn e.2.cfg && decide (cfgFast e.2.cfg = fast) && !(fastHeld s e.2.cfg)

/-- The lowest pending source of a class whose delivery is enabled. -/
def nextSource (s : State) (fast : Bool) : Option Nat := (s.sc.src.find? (deliverable s fast)).map fun e => e.1

/-- Pending clears; a level source is then in service (R393, R394). -/
def taken (n : Nat) (s : State) : State :=
  srcPut s n { srcAt s n with pend := false, insvc := (srcAt s n).insvc || srcLevel n }

/-- A write to a file's seteipnum_le register: the identity becomes pending, where the file implements it (R376). -/
def eipSet (hart file ident : Nat) (s : State) : State :=
  if 1 ≤ ident ∧ ident ≤ fileIdents file then
    let c := coreAt s hart
    corePut s hart { c with eip := if c.eip.contains (file, ident) then c.eip else c.eip ++ [(file, ident)] }
  else s

def execImsicSeteipnum (hart file : Nat) (ident : W32) (s : State) : Host.Outcome State Fault Refusal :=
  onUnit (okAc hart && decide (file ≤ 8)) (onlyIf (acPresent s hart) (eipSet hart file ident.toNat s) s)

/-- Address of the second word of an MSI-X table entry, whose bit 32 masks the vector (R380). -/
def msixCtl (v : Nat) : Nat := winBase 14 + 0x10A000000 + 16 * v + 8
def msixMasked (s : State) (v : Nat) : Bool := bit 32 (regGet s (msixCtl v))

/-- MSI-X is enabled, and the endpoint may send: MSI-X Enable, and Bus Master Enable of its command register (PCIe). -/
def msixOn (s : State) : Bool := (pcieAt s 0).msixEn && (tget 0 (pcieAt s 0).cfg 1).getLsbD 2

/-- An MSI-X message, or its bit of the Pending Bit Array (R397). While MSI-X is not enabled nothing is sent, and whether the array holds
the message is a free value. -/
def sendMsix (v : Nat) (s : State) : State :=
  let c := pcieAt s 0
  let hold := scMod s fun k => { k with pba := insNat v k.pba }
  if !(msixOn s) then
    (let d := drawFree s
     if bit 0 d.1 then { hold with fresh := d.2.fresh } else d.2)
  else if c.msixMask || msixMasked s v then hold else emit (.msix v) s

/-- The held messages of vectors that nothing masks any more go out, the lowest vector first. -/
def releaseMsix (s : State) : State :=
  if !(msixOn s) || (pcieAt s 0).msixMask then s
  else (s.sc.pba.filter fun v => !(msixMasked s v)).foldl (fun t v => emit (.msix v) t)
    (scMod s fun k => { k with pba := k.pba.filter fun v => msixMasked s v })

/-- A write of the word that holds a vector's mask: a held message goes out once the vector is unmasked. -/
def msixCtlSet (v : Nat) (w : W64) (s : State) : State :=
  releaseMsix (regPut s (msixCtl v) w)

/-- The interrupt of a normal delivery. -/
def sendNormal (c : W64) (s : State) : State :=
  if cfgKind c = 1 then sendMsix (cfgTgt c) s
  else emit (.imsic (cfgTgt c) (cfgFile c) (cfgIdent c)) (eipSet (cfgTgt c) (cfgFile c) (cfgIdent c) s)

/-- R399. -/
def sendFast (n : Nat) (c : W64) (s : State) : State :=
  if fastFor s c then tcMod s (cfgTgt c) fun x => { x with pend := x.pend ++ [n] } else dropFast 1 s

def deliver (n : Nat) (err : Option Nat) (s : State) : State :=
  let c := (srcAt s n).cfg
  let t := taken n (evqWrite n err s)
  if cfgFast c then sendFast n c t else sendNormal c t

/-- The next delivery: fast sources first (R396). -/
def nextDelivery (s : State) : Option Nat :=
  match nextSource s true with
  | some n => some n
  | none => nextSource s false

def normalDeliveryEffect (s : State) : State :=
  match nextSource s true, nextSource s false with
  | none, some n => deliver n none s
  | _, _ => s

def fastDeliveryEffect (s : State) : State :=
  match nextSource s true with
  | some n => deliver n none s
  | none => s

def execNormalDelivery (s : State) : Host.Outcome State Fault Refusal := .next (normalDeliveryEffect s)
def execFastDelivery (s : State) : Host.Outcome State Fault Refusal := .next (fastDeliveryEffect s)

/-- The next delivery, whose record's write receives an error response of a code of R259. -/
def evqErrorEffect (code : Nat) (s : State) : State :=
  match nextDelivery s with
  | some n => if writesRecord s n && decide (1 ≤ code) && decide (code ≤ 6) then deliver n (some code) s else s
  | none => s

def execEvqWriteError (code : Nat) (s : State) : Host.Outcome State Fault Refusal := .next (evqErrorEffect code s)

/-! Counters cleared by reading (R401) -/

def unroutedRead (s : State) : W64 × State := (BitVec.ofNat 64 s.sc.unrouted, scMod s fun c => { c with unrouted := 0 })
def fastDroppedRead (s : State) : W64 × State := (BitVec.ofNat 64 s.sc.fastDropped, scMod s fun c => { c with fastDropped := 0 })

def execScUnroutedRead (s : State) : Host.Outcome State Fault Refusal :=
  .next (emit (.readData (scReg 0x1020) (unroutedRead s).1) (unroutedRead s).2)
def execScFastDroppedRead (s : State) : Host.Outcome State Fault Refusal :=
  .next (emit (.readData (scReg 0x1028) (fastDroppedRead s).1) (fastDroppedRead s).2)

/-- SC.STAT (R401). -/
def scStat (s : State) : W64 :=
  BitVec.ofNat 64 (b2n (evqFull s) + 2 * b2n s.sc.ovf + 4 * b2n s.sc.cfgErr + 8 * b2n s.sc.werr)
def scStatSet (v : W64) (s : State) : State :=
  scMod s fun c => { c with ovf := c.ovf && !(bit 1 v), cfgErr := c.cfgErr && !(bit 2 v), werr := c.werr && !(bit 3 v) }

/-- Word `w` of SC.PEND, SC.LEVEL or SC.INSVC: source n at bit n mod 64 of word n div 64. -/
def srcBits (s : State) (f : Src → Bool) (w : Nat) : W64 :=
  BitVec.ofNat 64 ((upto 0 64).foldl (fun n i => if f (srcAt s (64 * w + i)) then n + 2 ^ i else n) 0)

end Sys2Proof.Machine
end

