-- ==== Sys2Proof/Machine/Stu.lean ====
section
/-! DEFINITION. Commands of the system translation unit: resolving an item's pages (R238 to R240), translation while it runs (R241, R244),
page requests and their answers (R245 to R248), and invalidation (R250, R251). -/

namespace Sys2Proof.Machine

open Sys2Proof

def prqEn (s : State) : Bool := bit 1 s.stu.cfg

/-! Resolving at enqueue -/

/-- Every page of the item's declared ranges with its access (R238). -/
def itPages (it : Item) : List (Nat × Nat) := (itRanges it).flatMap fun r => (pageSpans r.1 r.2.1).map fun p => (p.1 / 4096, r.2.2)

/-- An unresolved page as the item keeps it. -/
def pageNote (acc stage : Nat) (adb : Bool) : Nat := acc + 8 * stage + 16 * b2n adb

/-- Walk pages in order up to one that is denied: the unresolved, whether one was denied, the state. -/
def resolveAll (ctx n : Nat) : List (Nat × Nat) → State → List (Nat × Nat) × Bool × State
  | [], s => ([], false, s)
  | (vpn, acc) :: r, s =>
    let x := resolvePage ctx (some n) vpn (acc % 8) s
    match x.1 with
    | .denied => ([], true, x.2)
    | .ok _ _ => resolveAll ctx n r x.2
    | .missing st adb =>
      let y := resolveAll ctx n r x.2
      ((vpn, pageNote (acc % 8) st adb) :: y.1, y.2)

/-- The operand table is declared and has not been read yet. -/
def tableUnread (it : Item) : Bool := decide (itKind it = 0) && decide (nSlots it ≠ 0) && decide (it.opnds = [])

/-- What several accesses lack of one page: the accesses together, the stage of the first, and whether A and D alone are missing to all
(R245). -/
def noteAll (l : List Nat) : Nat :=
  pageNote (l.foldl (fun a k => a ||| k % 8) 0) (l.headD 0 / 8 % 2) (l.all fun k => k.testBit 4)

/-- What an item lacks of a page. -/
def lackOf (it : Item) (v : Nat) : Nat := noteAll (it.pages.filterMap fun p => if p.1 = v then some p.2 else none)

/-- Post the next requests of a parked item (R240); with PRQ_EN 0 each answers itself INVALID (R254). -/
def requestBatch (n : Nat) (s : State) : State :=
  match itemAt s n with
  | none => s
  | some it =>
    if it.phase ≠ .parked ∨ it.batch ≠ [] then s
    else if !(prqEn s) then complete n 6 s
    else
      let l := (nubNat (it.pages.map fun p => p.1)).take 64
      l.foldl (fun t v =>
        let k := lackOf it v
        requestPage it.ctx v (k % 8) (k / 8 % 2) false (k.testBit 4) n t) (itemPut s n { it with batch := l })

/-- What follows once an item's pages have been walked (R209, R232, R240). -/
def afterWalk (n : Nat) (missing : List (Nat × Nat)) (denied : Bool) (s : State) : State :=
  match itemAt s n with
  | none => s
  | some it =>
    if denied then refuse n 0x10 s
    else if missing = [] then
      itemTime (itemPut s n { it with phase := if tableUnread it then .walking else .waiting, pages := [], batch := [] }) n
    else itemTime (requestBatch n (itemPut s n { it with phase := .parked, pages := missing, batch := [] })) n

/-- R238: all the pages of the item; an operand table that could not be read at acceptance is read and checked first. Where that read ends in an
error response the queue parks at the item, which stays as it is (DESIGN CHOICE, log 153). -/
def pageWalkEffect (n : Nat) (s : State) : State :=
  match itemAt s n with
  | none => s
  | some it =>
    if it.phase ≠ .walking ∨ issuing s = false then s
    else whenWalks it.ctx (itPages it) (
      let r := if tableUnread it then readOpnds it (some n) s else (some (.ok it.opnds), s)
      match r.1 with
      | some (.error _) => parkQueue it.ctx it.q 3 it.idx r.2
      | x =>
        let jt := match x with | some (.ok e) => { it with opnds := e } | _ => it
        let t := itemPut r.2 n jt
        match (if tableUnread it && !(tableUnread jt) then acceptReason t jt else none) with
        | some k => settleAll (refuse n k t)
        | none =>
          let y := resolveAll it.ctx n (itPages jt) t
          settleAll (retireReqs (afterWalk n y.1 y.2.1 y.2.2))) s

def execPageWalkComplete (item : Nat) (flaws : List (Nat × Bool)) (s : State) : Host.Outcome State Fault Refusal :=
  .next (withFlaws flaws (pageWalkEffect item) s)

/-! The page-request ring -/

def prqAddr (s : State) : Nat := s.stu.prqBase.toNat / 4096 * 4096 % 2 ^ 52 + 32 * (s.stu.prqTail.toNat % prqSize s.stu.prqBase)

/-- The write of a record received an error response, and so none after it was made: TAIL has not advanced over them, their requests stay
outstanding and are not counted (R245, R255). -/
def unpost (l : List Nat) (s : State) : State :=
  let t := stuMod s fun x => { x with
    prqTail := x.prqTail - BitVec.ofNat 32 l.length
    posted := x.posted.filter fun t => !(l.contains t)
    reqs := x.reqs.map fun r => if l.contains r.tag then { r with written := false } else r }
  oset t 0x3300 2 (oget t 0x3300 2 - l.length)

/-- Which of the records written last met the error is a free value. -/
def prqErrorEffect (code : Nat) (s : State) : State :=
  let l := s.stu.posted
  if prqEn s && !s.stu.werr && decide (l ≠ []) && decide (1 ≤ code) && decide (code ≤ 6) then
    let d := drawFree s
    let t := unpost (l.drop (d.1.toNat % l.length)) d.2
    scRaise t.stu.prqSrc 0 (stuMod (memErr code (prqAddr t) (stuReq none) t) fun x => { x with werr := true })
  else s

def execPrqWriteError (code : Nat) (s : State) : Host.Outcome State Fault Refusal := .next (prqErrorEffect code s)

/-- R245: the held records are written in order, the failed one first. -/
def werrClear (s : State) : State := flushReqs (stuMod s fun x => { x with werr := false })

def execPrqWerrClear (s : State) : Host.Outcome State Fault Refusal := .next (werrClear s)

def prqHeadSet (v : W32) (s : State) : State := flushReqs (stuMod s fun x => { x with prqHead := v })

def execPrqHeadWrite (value : W32) (s : State) : Host.Outcome State Fault Refusal := .next (prqHeadSet value s)

/-- A write while PRQ_EN is 1 is ignored whole (DESIGN CHOICE, log 158). -/
def prqBaseSet (v : W64) (s : State) : State :=
  if prqEn s then s else stuMod s fun x => { x with prqBase := maskWrite 0xFFFFFFFFFF01F 0 v }

def execPrqBaseWrite (value : W64) (s : State) : Host.Outcome State Fault Refusal := .next (prqBaseSet value s)

/-! Answers -/

/-- The access a held operation needs (R230): execution for a fetch, and the slot's ACCESS for a transfer. -/
def heldAccess (it : Item) (c : TCore) (tag : Nat) : Nat :=
  if tag = 0 then 4
  else match c.sb.find? fun o => decide (o.tag = tag) with
    | some o => ((itemSlot it o.slot).getD noSlot).access
    | none => 1

/-- Release a core's operations held on a page that now resolves; none where the page is denied. -/
def releaseHeld (n ctx vpn tc : Nat) (it : Item) : List (Nat × W64) → State → Option (List (Nat × W64)) × State
  | [], s => (some [], s)
  | h :: r, s =>
    if h.2.toNat / 4096 ≠ vpn then
      let y := releaseHeld n ctx vpn tc it r s
      (y.1.map fun l => h :: l, y.2)
    else
      let x := resolvePage ctx (some n) vpn (heldAccess it (tcAt s tc) h.1) s
      match x.1 with
      | .denied => (none, x.2)
      | .ok _ _ => releaseHeld n ctx vpn tc it r x.2
      | .missing _ _ =>
        let y := releaseHeld n ctx vpn tc it r x.2
        (y.1.map fun l => h :: l, y.2)

/-- A running item ends with TRANSLATION_FAULT (R244, R248). -/
def transFault (n tc : Nat) (s : State) : State :=
  match itemAt s n with
  | none => s
  | some it => endItem n 6 6 (itemPut s n { it with faultTc := if it.status.isNone then tc else it.faultTc, faultPc := if it.status.isNone then 0 else it.faultPc })

/-- One core of a running item after a RETRY. -/
def retryCore (n ctx vpn tc : Nat) (s : State) : State :=
  match itemAt s n with
  | none => s
  | some it =>
    let r := releaseHeld n ctx vpn tc it (tcAt s tc).heldOps s
    match r.1 with
    | none => transFault n tc r.2
    | some l => tcMod r.2 tc fun c => { c with heldOps := l }

/-- One item of the context after a RETRY for a page: only that page is walked again, and the accesses that resolve now are done (R240). -/
def retryItem (ctx vpn n : Nat) (s : State) : State :=
  match itemAt s n with
  | none => s
  | some it =>
    if it.ctx ≠ ctx then s
    else if it.phase = .parked then
      let y := resolveAll ctx n (it.pages.filter fun p => decide (p.1 = vpn)) s
      if y.2.1 then refuse n 0x10 y.2.2
      else if y.1 ≠ [] then itemPut y.2.2 n { it with pages := (it.pages.filter fun p => decide (p.1 ≠ vpn)) ++ y.1 }
      else
        let left := it.pages.filter fun p => decide (p.1 ≠ vpn)
        let jt := { it with pages := left, batch := it.batch.filter fun v => decide (v ≠ vpn) }
        if left = [] then afterWalk n [] false (itemPut y.2.2 n jt) else requestBatch n (itemPut y.2.2 n jt)
    else if it.phase = .running then it.tcs.foldl (fun t k => retryCore n ctx vpn k t) s
    else s

/-- What a page lacks for an access that does not resolve. -/
def missingAs (s : State) (ctx vpn acc : Nat) : Nat :=
  match (walk s ctx vpn acc).1 with
  | .fails st adb => pageNote acc st adb
  | _ => pageNote acc 0 false

/-- What an item that still waits on the page lacks of it, and whether it runs. -/
def waitsOn (s : State) (ctx vpn n : Nat) : List (Nat × Bool) :=
  match itemAt s n with
  | none => []
  | some it =>
    if it.ctx ≠ ctx then []
    else if it.phase = .parked then it.pages.filterMap fun p => if p.1 = vpn then some (p.2, false) else none
    else if it.phase = .running then
      it.tcs.flatMap fun k => (tcAt s k).heldOps.filterMap fun h =>
        if h.2.toNat / 4096 = vpn then some (missingAs s ctx vpn (heldAccess it (tcAt s k) h.1), true) else none
    else []

/-- End an item that waits on a page answered INVALID, in its batch or beyond it (R244, R246, R247). -/
def invalidItem (ctx vpn n : Nat) (s : State) : State :=
  match itemAt s n with
  | none => s
  | some it =>
    if it.ctx ≠ ctx then s
    else if it.phase = .parked then (if it.pages.any (fun p => decide (p.1 = vpn)) then complete n 6 s else s)
    else if it.phase = .running then
      match it.tcs.find? fun k => (heldPages (tcAt s k)).contains vpn with
      | some k => transFault n k s
      | none => s
    else s

def invalidAll (ctx vpn : Nat) (s : State) : State := (itemNums s).foldl (fun t n => invalidItem ctx vpn n t) s

/-- A page that still does not resolve gets a new request with a new tag (R247). -/
def askAgain (ctx vpn : Nat) (s : State) : State :=
  match (itemNums s).flatMap fun n => (waitsOn s ctx vpn n).map fun w => (n, w) with
  | [] => s
  | w :: r =>
    let k := noteAll ((w :: r).map fun e => e.2.1)
    if prqEn s then requestPage ctx vpn (k % 8) (k / 8 % 2) w.2.2 (k.testBit 4) w.1 s else invalidAll ctx vpn s

/-- A response to a tag (R247, R248). -/
def respond (tag : Nat) (answer : PReq → State → State) (s : State) : State :=
  match s.stu.reqs.find? fun r => decide (r.tag = tag) with
  | none => if s.stu.nextTag ≤ tag then stuMod s fun x => { x with badResp := true } else s
  | some r => settleAll (retireReqs (answer r (stuMod s fun x => { x with reqs := x.reqs.filter fun q => decide (q.tag ≠ tag) })))

def retryEffect (tag : Nat) (s : State) : State :=
  respond tag (fun r t => askAgain r.ctx r.vpn ((itemNums t).foldl (fun u n => retryItem r.ctx r.vpn n u) t)) s

def invalidEffect (tag : Nat) (s : State) : State := respond tag (fun r t => invalidAll r.ctx r.vpn t) s

def execPageResponseRetry (tag : Nat) (flaws : List (Nat × Bool)) (s : State) : Host.Outcome State Fault Refusal :=
  .next (withFlaws flaws (retryEffect tag) s)
def execPageResponseInvalid (tag : Nat) (s : State) : Host.Outcome State Fault Refusal := .next (invalidEffect tag s)

/-! Translation while an item runs -/

/-- ACCESS of the slot whose footprint covers an address. -/
def accessAt (it : Item) (va : Nat) : Nat :=
  ((itSlots it).find? fun o => decide (o.base ≤ va) && decide (va < o.base + slotBytes o)).elim 1 fun o => o.access

/-- R241: the fill of a micro-TLB from the level that holds the page; a fetch brings the page's lines back where they had left the
instruction cache (R250). -/
def tlbFillEffect (tc : Nat) (fetch : Bool) (va : W64) (s : State) : State :=
  match (tcAt s tc).item with
  | none => s
  | some n => match itemAt s n with
    | none => s
    | some it =>
      let vpn := va.toNat / 4096
      let acc := if fetch then 4 else accessAt it va.toNat
      let find := fun l => tlbFind l (vmidOf s it.ctx) (asidOf s it.ctx) vpn acc
      let found := (find (microAt s (microKey tc fetch))).isSome || (find (clusterAt s (tc / 8))).isSome
      whenWalks it.ctx (if found then [] else [(vpn, acc)]) (
        if fetch then
          (if (tcAt s tc).codeOut.contains vpn then refetchPage tc n it vpn s else (engPage tc true it.ctx (some n) vpn 4 s).2)
        else (engPage tc false it.ctx (some n) vpn (accessAt it va.toNat) s).2) s

def execTlbFill (tc : Nat) (fetch : Bool) (va : W64) (flaws : List (Nat × Bool)) (s : State) : Host.Outcome State Fault Refusal :=
  onUnit (okTc tc) (withFlaws flaws (tlbFillEffect tc fetch va) s)

/-- A transfer under way that still needs its pages, or a fetch in the code range, at an address. -/
def transferAt (it : Item) (c : TCore) (tag : Nat) (fetch : Bool) (va : Nat) : Bool :=
  if fetch then pacerLive c && inCode it (BitVec.ofNat 64 va) 1
  else match c.sb.find? fun o => decide (o.tag = tag) with
    | none => false
    | some o => o.started && !o.asked && (dmaRanges o ((itemSlot it o.slot).getD noSlot)).any fun r => decide (r.1 ≤ va) && decide (va < r.1 + r.2)

/-- R244: the operation is held and a request with RUN is posted. A core that has stopped drops the transfer. -/
def transferMissEffect (tc tag : Nat) (fetch : Bool) (va : W64) (s : State) : State :=
  let c := tcAt s tc
  match c.item with
  | none => s
  | some n => match itemAt s n with
    | none => s
    | some it =>
      let vpn := va.toNat / 4096
      let acc := if fetch then 4 else heldAccess it c tag
      let find := fun l => tlbFind l (vmidOf s it.ctx) (asidOf s it.ctx) vpn acc
      if decide (it.phase ≠ .running) || !(issuing s) || !(transferAt it c tag fetch va.toNat) || (find (microAt s (microKey tc fetch))).isSome ||
        (find (clusterAt s (tc / 8))).isSome then s
      else whenWalks it.ctx [(vpn, acc)] (
        let x := resolvePage it.ctx (some n) vpn acc s
        match x.1 with
        | .ok _ _ => x.2
        | .denied => settleAll (transFault n tc x.2)
        | .missing st adb =>
          if c.stopped then (if fetch then x.2 else dropOp tc tag x.2)
          else
            let t := tcMod x.2 tc fun c => { c with heldOps := c.heldOps ++ [(if fetch then 0 else tag, va)] }
            if prqEn t then requestPage it.ctx vpn acc st true adb n t else settleAll (transFault n tc t)) s

def execTransferTranslationMiss (tc tag : Nat) (fetch : Bool) (va : W64) (flaws : List (Nat × Bool)) (s : State) :
    Host.Outcome State Fault Refusal :=
  onUnit (okTc tc) (withFlaws flaws (transferMissEffect tc tag fetch va) s)

/-! Invalidation -/

/-- Append a command with the arguments as they stand (R250). -/
def invAppend (kind : Nat) (s : State) : State :=
  stuMod s fun x =>
    if 16 ≤ x.cmds.length then { x with invOvf := true }
    else { x with cmds := x.cmds ++ [⟨kind, x.arg0, x.arg1⟩], issued := x.issued + 1 }

def execInvAll (s : State) : Host.Outcome State Fault Refusal := .next (invAppend 0 s)
def execInvVmid (s : State) : Host.Outcome State Fault Refusal := .next (invAppend 1 s)
def execInvAsid (s : State) : Host.Outcome State Fault Refusal := .next (invAppend 2 s)
def execInvRange (s : State) : Host.Outcome State Fault Refusal := .next (invAppend 3 s)

/-- A write of STU.INV_CMD (R250). -/
def invCmdSet (v : W64) (s : State) : State :=
  if v.toNat < 4 then invAppend v.toNat s else stuMod s fun x => { x with invOvf := true }

/-- A reserved kind, or a reserved bit set. -/
def execInvCmdReserved (value : W64) (s : State) : Host.Outcome State Fault Refusal :=
  .next (onlyIf (decide (4 ≤ value.toNat)) (invCmdSet value s) s)

/-- Whether a command covers an entry (R250). -/
def invCovers (c : InvCmd) (e : Tlb) : Bool :=
  let vm := decide (e.vmid = fld 61 48 c.arg1)
  let as_ := decide (e.asid = fld 47 32 c.arg1)
  let lo := fld 56 12 c.arg0
  let v := e.vpn % 2 ^ 45
  match c.kind with
  | 0 => true
  | 1 => vm
  | 2 => vm && as_ && !e.glob
  | _ => vm && (as_ || e.glob) && decide (0 < fld 31 0 c.arg1) && decide (v < lo + fld 31 0 c.arg1) && decide (lo < v + e.size)

def invDrop (c : InvCmd) (l : List Tlb) : List Tlb := l.filter fun e => !(invCovers c e)

/-- Non-leaf entries of the address spaces a command names: the guest stage's belong to every one of their VMID (R250). -/
def invNames (c : InvCmd) (w : NonLeaf) : Bool :=
  decide (c.kind = 0) ||
  (decide (w.vmid = fld 61 48 c.arg1) && (decide (c.kind = 1) || decide (w.stage = 1) || decide (w.asid = fld 47 32 c.arg1)))

def presentClusters (s : State) : List Nat := (upto 0 24).filter fun k => cdPresent s (k / 4)
def clusterCores (cl : Nat) : List Nat := upto (8 * cl) 8

/-- Steps 1 and 2 of R251. -/
def invStartEffect (s : State) : State :=
  match s.stu.cmds with
  | [] => s
  | c :: _ =>
    if s.stu.active then s
    else stuMod s fun x => { x with
      active := true, master := invDrop c x.master, walks := x.walks.filter fun w => !(invNames c w), clusters := presentClusters s, ackOwed := presentClusters s
      engines := (presentClusters s).flatMap clusterCores }

def execInvalidationStart (s : State) : Host.Outcome State Fault Refusal := .next (invStartEffect s)

/-- Whether a command covers a page of a context, of a leaf with G as given. -/
def invPage (s : State) (c : InvCmd) (ctx : Nat) (glob : Bool) (vpn : Nat) : Bool :=
  !(bare s ctx) && invCovers c ⟨vmidOf s ctx, asidOf s ctx, vpn, 1, 0, glob, 0, false⟩

/-- Instruction-cache lines of covered pages go (R250, R305). -/
def dropCode (c : InvCmd) (tc : Nat) (s : State) : State :=
  match (tcAt s tc).item with
  | none => s
  | some n => match itemAt s n with
    | none => s
    | some it =>
      let gone := ((pageSpans (kernelBase it) (kernelSize it)).map fun p => p.1 / 4096).filter fun v => invPage s c it.ctx ((tcAt s tc).codeG.contains v) v
      if gone = [] then s
      else tcMod s tc fun x => { x with
        codeOut := gone.foldl (fun l v => insNat v l) x.codeOut
        code := x.code.filter fun e => !(gone.contains ((kernelBase it + e.1) / 4096)) }

/-- Steps 3 and 4 of R251. -/
def clusterInvEffect (cl : Nat) (s : State) : State :=
  match s.stu.cmds with
  | [] => s
  | c :: _ =>
    if s.stu.active && s.stu.clusters.contains cl then
      let t := stuMod s fun x => { x with
        clusters := x.clusters.filter fun k => decide (k ≠ cl)
        cluster := tset [] x.cluster cl (invDrop c (tget [] x.cluster cl))
        micro := (clusterCores cl).foldl (fun m k =>
          [microKey k false, microKey k true].foldl (fun m j => tset [] m j (invDrop c (tget [] m j))) m) x.micro }
      (clusterCores cl).foldl (fun u k => dropCode c k u) t
    else s

def execClusterInvalidate (cl : Nat) (s : State) : Host.Outcome State Fault Refusal := onUnit (okCluster cl) (clusterInvEffect cl s)

/-- A transfer whose packets are out through a page that the command covers (R251 step 5). -/
def onOldPage (s : State) (c : InvCmd) (ctx : Nat) (o : Op) : Bool :=
  o.asked && o.pages.any fun p => invPage s c ctx false p.1 || invPage s c ctx true p.1

/-- What step 5 waits for: transfers issued with a removed entry, which complete against the old page. -/
def onOldPages (s : State) (tc : Nat) : Bool :=
  match s.stu.cmds, (tcAt s tc).item.bind (itemAt s) with
  | c :: _, some it => (tcAt s tc).sb.any (onOldPage s c it.ctx)
  | _, _ => false

/-- Step 5: a transfer in local memory moves its bytes as it completes, so none is left on a removed entry. The remote engines take part
likewise: the step that moves a packet's bytes resolves their pages itself, so a remote engine never stands on a removed entry and has
nothing to wait for (R353). -/
def engineAckEffect (tc : Nat) (s : State) : State :=
  if s.stu.active && s.stu.engines.contains tc && !(s.stu.clusters.contains (tc / 8)) && !(onOldPages s tc) then
    stuMod s fun x => { x with engines := x.engines.filter fun k => decide (k ≠ tc) }
  else s

def execEngineInvAck (tc : Nat) (s : State) : Host.Outcome State Fault Refusal := onUnit (okTc tc) (engineAckEffect tc s)

/-- Step 6. -/
def clusterAckEffect (cl : Nat) (s : State) : State :=
  if s.stu.active && s.stu.ackOwed.contains cl && !(s.stu.clusters.contains cl) && !((clusterCores cl).any fun k => s.stu.engines.contains k) then
    stuMod s fun x => { x with ackOwed := x.ackOwed.filter fun k => decide (k ≠ cl) }
  else s

def execClusterInvAck (cl : Nat) (s : State) : Host.Outcome State Fault Refusal := onUnit (okCluster cl) (clusterAckEffect cl s)

/-- Step 7: INV_DONE, the counters of R255, the Baton operation where INV_BATON has it, and the event always (DESIGN CHOICE, log 157). -/
def invDoneEffect (nanos : Nat) (s : State) : State :=
  if s.stu.active && decide (s.stu.clusters = []) && decide (s.stu.ackOwed = []) then
    let t := stuMod s fun x => { x with active := false, cmds := x.cmds.drop 1, done := x.done + 1, engines := [] }
    let t := bumpObj 0x3300 3 64 1 t
    let t := if oget t 0x3300 4 < nanos then oset t 0x3300 4 (min nanos 0xFFFFFFFF) else t
    let b := t.stu.baton
    scRaise t.stu.prqSrc 0 (if bit 15 b then signalBaton (fld 12 0 b) (b >>> 32).toNat t else t)
  else s

def execInvalidationComplete (nanos : Nat) (s : State) : Host.Outcome State Fault Refusal := .next (invDoneEffect nanos s)

end Sys2Proof.Machine
end

