-- ==== Sys2Proof/Machine/Regs.lean ====
section
/-! DEFINITION. Registers by physical address (R189, R190): what a read returns and what a write does, page by page. Reserved bits
read 0 and ignore writes (R11, R12); an offset no table lists reads 0 and ignores writes. -/

namespace Sys2Proof.Machine

open Sys2Proof

/-! MD pages (R294, R324) -/

/-- MD.RET_STAT: the candidate under migration, else the one that waits, else one without reserve. -/
def retStat (m : Md) : W64 :=
  let c : Nat × Nat := match m.migrating, m.cands, m.noReserve with
    | some k, _, _ => (2, k)
    | none, k :: _, _ => (1, k)
    | none, [], k :: _ => (3, k)
    | none, [], [] => (0, 0)
  let gone := (upto 0 4).foldl (fun n k => if m.retired.any fun r => decide (r / 32 = k) then n + 2 ^ k else n) 0
  BitVec.ofNat 64 (c.1 + 4 * (c.2 / 32) + 16 * (c.2 % 32) + 2 ^ 12 * gone + 2 ^ 16 * b2n m.withdrawn)

def maintStat (m : Maint) : W64 := BitVec.ofNat 64 (b2n m.busy + 2 * b2n m.cmdErr + 4 * b2n m.rangeErr)
def maintStatSet (v : W64) (m : Maint) : Maint := { m with cmdErr := m.cmdErr && !(bit 1 v), rangeErr := m.rangeErr && !(bit 2 v) }

/-- Requests of the clusters above an MD that are not answered (R296). -/
def issueHeld (s : State) (md : Nat) : Nat := (s.coh.open_.filter fun r => decide (r.req < 24) && decide (r.req / 4 = md)).length

def homeEntries (s : State) (md : Nat) : Nat := (s.coh.dir.filter fun e => decide (lineHome e.1 = md)).length

def mdRead (n o : Nat) (s : State) : W64 :=
  let m := mdAt s n
  match o with
  | 0x118 => maintStat m.maint
  | 0x180 => BitVec.ofNat 64 (m.pgret.length + 128 * b2n m.pgOvf)
  | 0x188 => match m.pgret with | [] => 0 | r :: _ => pgretWord r
  | 0x1C0 => retStat m
  | 0x208 => BitVec.ofNat 64 (homeTrackers s n + escAtHome s n + 2 ^ 16 * issueHeld s n)
  | 0x300 => BitVec.ofNat 64 (homeEntries s n + 2 ^ 32 * transientAt s n)
  | 0x308 => BitVec.ofNat 64 (escAtHome s n)
  | 0x310 => BitVec.ofNat 64 (wbHeld s n)
  | _ => regGet s (mdReg n o)

/-- Bits of the plain registers of an MD page. -/
def mdMask (o : Nat) : Nat :=
  if o < 0x88 then 0xFFFF
  else match o with
    | 0x88 => 0xF1
    | 0x100 => 0xFFFFFFFFFFF80
    | 0x108 => 0xFFFFFFFF80
    | 0x1D8 => 1
    | 0x200 => 0xFFFF
    | _ => 0

def plainSet (pa mask : Nat) (v : W64) (s : State) : State := if mask = 0 then s else regPut s pa (maskWrite mask 0 v)

/-- RET_AUTO set while a candidate waits starts its migration (R270, R272). -/
def retAutoSet (n : Nat) (v : W64) (s : State) : State :=
  let t := plainSet (mdReg n 0x1D8) 1 v s
  if bit 0 v then startMigration n t else t

def mdWrite (n o : Nat) (v : W64) (s : State) : State :=
  match o with
  | 0x110 => maintCtrl (.md n) v s
  | 0x118 => mdMaintPut n (maintStatSet v (mdMaint s n)) s
  | 0x180 => mdPut s n { mdAt s n with pgOvf := (mdAt s n).pgOvf && !(bit 7 v) }
  | 0x1C8 => retCmdEffect n v s
  | 0x1D0 => if bit 0 v then startMigration n s else s
  | 0x1D8 => retAutoSet n v s
  | _ => plainSet (mdReg n o) (mdMask o) v s

/-! Pages of clusters and groups (R295) -/

def l2Read (u : MaintUnit) (o : Nat) (s : State) : W64 := if o = 0x28 then maintStat (l2At s u) else regGet s (l2Reg u o)

def l2Mask (cluster : Bool) (o : Nat) : Nat :=
  match o with
  | 0 => if cluster then 0xFFFFFFFFFFFFFFFF else 0
  | 8 => if cluster then 0x1FF0001 else 0
  | 0x10 => 0xFFFFFFFFFFF80
  | 0x18 => 0xFFFFFFFF80
  | _ => 0

def l2Write (u : MaintUnit) (o : Nat) (v : W64) (s : State) : State :=
  match o with
  | 0x20 => maintCtrl u v s
  | 0x28 => l2Put u (maintStatSet v (l2At s u)) s
  | _ => plainSet (l2Reg u o) (l2Mask (match u with | .cluster _ => true | _ => false) o) v s

/-! The windows of the ADs (R374, R376) -/

/-- The interrupt file of a page: hart of the AD, and 0 machine, 1 supervisor, 2 to 8 guest. -/
def imsicPage (o : Nat) : Option (Nat × Nat) :=
  if 0x100000000 ≤ o ∧ o < 0x100040000 then some ((o - 0x100000000) / 0x1000, 0)
  else if 0x101000000 ≤ o ∧ o < 0x101200000 then some ((o - 0x101000000) / 0x8000, (o - 0x101000000) % 0x8000 / 0x1000 + 1)
  else none

/-- mtime: how far it has run since it was last read or written is a free value; it never runs back. -/
def mtimeNow (s : State) : W64 × State :=
  let (x, t) := drawFree s
  let v := s.mtime + BitVec.ofNat 64 (x.toNat % 2 ^ 32)
  (v, { t with mtime := v })

/-- MTIMER of the ACLINT: mtimecmp of hart h at 8h, mtime at 0x7FF8. -/
def adRead (w o : Nat) (s : State) : W64 × State :=
  if 0x20000000 ≤ o ∧ o < 0x20010000 then (l2Read (.group (16 * (w - 12) + (o - 0x20000000) / 0x1000)) (o % 0x1000) s, s)
  else if o = 0x102007FF8 then mtimeNow s
  else if 0x102000000 ≤ o ∧ o < 0x102000200 then (regGet s (winBase w + o), s)
  else (0, s)

def adWrite (w o : Nat) (v : W64) (s : State) : State :=
  if 0x20000000 ≤ o ∧ o < 0x20010000 then l2Write (.group (16 * (w - 12) + (o - 0x20000000) / 0x1000)) (o % 0x1000) v s
  else if o = 0x102007FF8 then { s with mtime := v }
  else if 0x102000000 ≤ o ∧ o < 0x102000200 then
    let h := 64 * (w - 12) + (o - 0x102000000) / 8
    let t := regPut s (winBase w + o) v
    corePut t h { coreAt t h with timer := lset (coreAt t h).timer 0 false }
  else s

/-! Registers of the PCIe controllers (R385) -/

def peRead (p o : Nat) (s : State) : W64 :=
  match o with
  | 0 => regGet s (peReg p 0)
  | 8 => BitVec.ofNat 64 ((pcieAt s p).rate + 16 * (pcieAt s p).width)
  | 0x10 => regGet s (peReg p 0x10)
  | 0x20 => BitVec.ofNat 64 (pcieAt s p).discards
  | _ => 0

def peWrite (p o : Nat) (v : W64) (s : State) : State :=
  match o with
  | 0 => plainSet (peReg p 0) 0xFF v s
  | 0x10 => if isEndpoint s p && decide ((pcieAt s p).barLog < 12) then plainSet (peReg p 0x10) 0xFFFFFC0000000 v s else s
  | _ => s

/-- PE_DISCARDS is cleared by reading. -/
def discardsRead (p : Nat) (s : State) : W64 × State := (peRead p 0x20 s, pciePut s p { pcieAt s p with discards := 0 })

/-- The controller and offset of a configuration access of a root port's devices (R377). -/
def ecamAt (s : State) (pa : Nat) : Option (Nat × Nat) :=
  match winOf pa with
  | some (w, o) =>
    let p := 2 * (w - 14) + (o - 0x200000000) / 0x10000000
    if (w = 14 ∨ w = 15) ∧ 0x200000000 ≤ o ∧ o < 0x220000000 ∧ rootPort s p then some (p, (o - 0x200000000) % 0x10000000) else none
  | none => none

/-- It goes out as it is; its answer is the device's. -/
def ecamRead (p o n : Nat) (s : State) : List Byte × State :=
  let d := drawFree s
  (leBytes n d.1.toNat, emit (.pcieRead p o n 0) d.2)
def ecamWrite (p o : Nat) (l : List Byte) (s : State) : State := emit (.pcieWrite p o l) s

/-! Context pages (R223). A queue of a context that is not ENABLED reports STOPPED (R200); a context never enabled has no queue. -/

def ctxPageRead (c o : Nat) (s : State) : W64 :=
  let x := ctxAt s c
  if o = 0x40 then BitVec.ofNat 64 x.state
  else if o = 0x200 then BitVec.ofNat 64 x.misses
  else if o = 0x208 then BitVec.ofNat 64 x.refusals
  else if o = 0x300 then x.ewsel
  else if 0x340 ≤ o ∧ o < 0x380 then ewinRead c ((o - 0x340) / 8) s
  else if 0x100 ≤ o ∧ o < 0x180 then
    let q := (o - 0x100) / 0x20
    let k := queueAt s (qKey c q)
    if !(hasQueue s c q) then 0
    else if o % 0x20 = 0 then BitVec.ofNat 64 (k.tail.toNat + 2 ^ 32 * k.accepted.toNat)
    else if o % 0x20 = 8 then BitVec.ofNat 64 (k.released.toNat + 2 ^ 32 * k.completed.toNat)
    else if o % 0x20 = 16 then BitVec.ofNat 64 ((if x.state = 1 then k.status else 4) + 2 ^ 32 * k.parkedAt.toNat)
    else 0
  else 0

/-- RESUME and SKIP in one write: SKIP, which resumes as well (R201). -/
def ctxPageWrite (exact : Bool) (c o : Nat) (v : W64) (s : State) : State :=
  if o < 0x20 then (if exact then doorbellEffect c (o / 8) v s else s)
  else if o = 0x300 then ctxPut s c { ctxAt s c with ewsel := maskWrite 0x103FF 0 v }
  else if 0x340 ≤ o ∧ o < 0x380 then ewinSet c ((o - 0x340) / 8) v s
  else if 0x100 ≤ o ∧ o < 0x180 ∧ o % 0x20 = 0x18 then
    (if bit 1 v then queueSkipEffect c ((o - 0x100) / 0x20) s else if bit 0 v then queueResumeEffect c ((o - 0x100) / 0x20) s else s)
  else s

/-! Submission control (R193) -/

def subRead (o : Nat) (s : State) : W64 :=
  match o with
  | 0 => s.ctxBase
  | 0x10 => BitVec.ofNat 64 (b2n s.cmdBusy + 256 * s.cmdStat + 2 ^ 16 * b2n s.bindErr)
  | 0x18 => BitVec.ofNat 64 (s.ctxs.filter fun e => decide (e.2.state ≠ 0)).length
  | 0x20 => BitVec.ofNat 64 s.items.length
  | _ => 0

def subWrite (o : Nat) (v : W64) (s : State) : State :=
  match o with
  | 0 => ctxBaseSet v s
  | 8 =>
    if s.cmdBusy then s
    else if fld 17 16 v = 1 then contextEnableEffect (fld 13 0 v) s
    else if fld 17 16 v = 2 then contextTeardownEffect (fld 13 0 v) s
    else ctxResult 4 s
  | 0x10 => { s with bindErr := s.bindErr && !(bit 16 v) }
  | _ => s

/-! Batons (R221) -/

def batonPageRead (o : Nat) (s : State) : W64 := if o % 64 = 0 then (batonAt s (o / 64)).value.zeroExtend 64 else 0
def batonPageWrite (o : Nat) (v : W64) (s : State) : State :=
  if o % 64 = 8 ∧ v.toNat < 2 ^ 32 then signalBaton (o / 64) (v.truncate 32) s else s

def batonCtlRead (o : Nat) (s : State) : W64 :=
  let b := batonAt s (o / 64)
  if o % 64 = 0 then b.ctl else if o % 64 = 8 then b.value.zeroExtend 64 else if o % 64 = 16 then b.cond else 0
def batonCtlWrite (o : Nat) (v : W64) (s : State) : State :=
  if o % 64 = 0 then batonCtlSet (o / 64) v s
  else if o % 64 = 8 then batonValueSet (o / 64) (v.truncate 32) s
  else if o % 64 = 16 then batonCondSet (o / 64) v s
  else s

/-! The STU page (R254) -/

def stuStat (s : State) : W64 :=
  BitVec.ofNat 64 (b2n (prqFull s && s.stu.reqs.any fun r => !r.written) + 2 * b2n s.stu.badResp + 4 * b2n s.stu.invOvf + 8 * b2n s.stu.werr)

def stuRead (o : Nat) (s : State) : W64 :=
  let x := s.stu
  match o with
  | 0 => x.cfg
  | 8 => x.prqBase
  | 0x10 => x.prqTail.zeroExtend 64
  | 0x18 => x.prqHead.zeroExtend 64
  | 0x20 => BitVec.ofNat 64 x.prqSrc
  | 0x30 => stuStat s
  | 0x40 => x.arg0
  | 0x48 => x.arg1
  | 0x58 => x.issued.zeroExtend 64
  | 0x60 => x.done.zeroExtend 64
  | 0x68 => x.baton
  | _ => 0

/-- A write that clears PRQ_EN keeps the requests that are outstanding; those not yet written are once it is set again (DESIGN CHOICE, log 158). -/
def stuWrite (o : Nat) (v : W64) (s : State) : State :=
  match o with
  | 0 => flushReqs (stuMod s fun x => { x with cfg := maskWrite 3 0 v })
  | 8 => prqBaseSet v s
  | 0x18 => prqHeadSet (v.truncate 32) s
  | 0x20 => stuMod s fun x => { x with prqSrc := fld 15 0 v }
  | 0x28 => if bit 32 v then invalidEffect (fld 31 0 v) s else retryEffect (fld 31 0 v) s
  | 0x30 =>
    let t := stuMod s fun x => { x with badResp := x.badResp && !(bit 1 v), invOvf := x.invOvf && !(bit 2 v) }
    if bit 3 v && t.stu.werr then werrClear t else t
  | 0x40 => stuMod s fun x => { x with arg0 := maskWrite 0x1FFFFFFFFFFF000 0 v }
  | 0x48 => stuMod s fun x => { x with arg1 := maskWrite 0x3FFFFFFFFFFFFFFF 0 v }
  | 0x50 => invCmdSet v s
  | 0x68 => stuMod s fun x => { x with baton := maskWrite 0xFFFFFF1F00009FFF 0 v }
  | _ => s

/-! Remote queues and the chip table (R357, R370) -/

def rqRead (n o : Nat) (s : State) : W64 :=
  let r := rqAt s n
  match o with
  | 8 => BitVec.ofNat 64 (r.tail.toNat + 2 ^ 32 * r.done.toNat)
  | 0x10 => BitVec.ofNat 64 (rqStatus s r + 2 ^ 32 * r.parkedAt.toNat)
  | _ => 0

def rqWrite (exact : Bool) (n o : Nat) (v : W64) (s : State) : State :=
  match o with
  | 0 => if exact then rqDoorbellEffect n v s else s
  | 0x18 => if bit 1 v then rqSkipEffect n s else if bit 0 v then rqResumeEffect n s else s
  | _ => s

def rqcRead (n o : Nat) (s : State) : W64 :=
  let r := rqAt s n
  match o with
  | 0 => r.cfg
  | 8 => r.ring
  | 0x10 => BitVec.ofNat 64 r.evtSrc
  | _ => 0

def rqcWrite (n o : Nat) (v : W64) (s : State) : State :=
  match o with
  | 0 => rqCfgSet n v s
  | 8 => rqPut s n { rqAt s n with ring := maskWrite 0xFFFFFFFFFF000 0 v }
  | 0x10 => rqPut s n { rqAt s n with evtSrc := fld 15 0 v }
  | _ => s

/-- A byte of the chip table: planes, a direct port, and the mark; a reachable chip without a route reads unreachable. -/
def chipTabByte (s : State) (c : Nat) : Nat :=
  let m := chipMark s c
  bitsOf 3 0 (chipByte s c) + 16 * b2n (decide (directPorts s c ≠ [])) + 32 * (if m = 1 ∧ routeSet s c = [] then 3 else m)

def chipTabRead (s : State) (c : Nat) : W64 := BitVec.ofNat 64 (leNat ((upto c 8).map fun k => BitVec.ofNat 8 (chipTabByte s k)))

/-! The Signal Concentrator and the MSI-X structures (R391, R401, R380) -/

def scRead (o : Nat) (s : State) : W64 :=
  if 0x100 ≤ o ∧ o < 0x500 then srcBits s (fun x => x.pend) ((o - 0x100) / 8)
  else if 0x500 ≤ o ∧ o < 0x900 then srcBits s (fun x => x.level) ((o - 0x500) / 8)
  else if 0x900 ≤ o ∧ o < 0xD00 then srcBits s (fun x => x.insvc) ((o - 0x900) / 8)
  else if 0x20000 ≤ o ∧ o < 0x40000 then (if o % 16 = 0 then srcCfgRead s ((o - 0x20000) / 16) else 0)
  else match o with
    | 0x1000 => regGet s (scReg 0x1000)
    | 0x1008 => s.sc.evqTail.zeroExtend 64
    | 0x1010 => regGet s (scReg 0x1010)
    | 0x1018 => scStat s
    | 0x1020 => BitVec.ofNat 64 s.sc.unrouted
    | 0x1028 => BitVec.ofNat 64 s.sc.fastDropped
    | _ => 0

def scWrite (o : Nat) (v : W64) (s : State) : State :=
  if 0x20000 ≤ o ∧ o < 0x40000 then (if o % 16 = 0 then srcCfgSet ((o - 0x20000) / 16) v s else s)
  else match o with
    | 0 => scPendSetEffect v s
    | 8 => scPendClrEffect v s
    | 0x1000 => plainSet (scReg 0x1000) 0xFFFFFFFFFF01F v s
    | 0x1010 => plainSet (scReg 0x1010) 0xFFFFFFFF v s
    | 0x1018 => scStatSet v s
    | _ => s

/-- A word of the Pending Bit Array. -/
def pbaWord (s : State) (w : Nat) : W64 :=
  BitVec.ofNat 64 ((upto 0 64).foldl (fun n i => if s.sc.pba.contains (64 * w + i) then n + 2 ^ i else n) 0)

/-! The mailbox (R443) -/

def mailRead (c o : Nat) (s : State) : W64 :=
  let b := mboxAt s c
  if o < 0x1000 then regGet s (mbReg c o)
  else if o < 0x2000 then BitVec.ofNat 64 (leNat ((b.rsp.drop (o - 0x1000)).take 8))
  else if o = 0x2008 then BitVec.ofNat 64 (b2n b.busy + 2 * b2n b.done + 4 * b2n b.ovr + 2 ^ 16 * b.len)
  else if o = 0x2010 then regGet s (mbReg c o)
  else 0

def mailWrite (c o : Nat) (v : W64) (s : State) : State :=
  if o < 0x1000 then regPut s (mbReg c o) v
  else if o = 0x2000 then mailboxDoorEffect c v s
  else if o = 0x2008 then mboxPut c { mboxAt s c with ovr := (mboxAt s c).ovr && !(bit 2 v) } s
  else if o = 0x2010 then plainSet (mbReg c o) 0xFFFF v s
  else s

/-! Windows of the XDs -/

/-- Registers both XDs have: their controllers'. -/
def xdRead (w o : Nat) (s : State) : W64 × State :=
  if 0x109000000 ≤ o ∧ o < 0x109002000 then
    let p := 2 * (w - 14) + (o - 0x109000000) / 0x1000
    if o % 0x1000 = 0x20 then discardsRead p s else (peRead p (o % 0x1000) s, s)
  else (0, s)

def xdWrite (w o : Nat) (v : W64) (s : State) : State :=
  if 0x109000000 ≤ o ∧ o < 0x109002000 then peWrite (2 * (w - 14) + (o - 0x109000000) / 0x1000) (o % 0x1000) v s
  else s

/-- Registers of XD0 alone. -/
def xd0Read (o : Nat) (s : State) : W64 × State :=
  if o < 0x100000000 then (0, s)
  else if o < 0x104000000 then (ctxPageRead ((o - 0x100000000) / 0x1000) (o % 0x1000) s, s)
  else if o < 0x104080000 then (batonPageRead (o - 0x104000000) s, s)
  else if o < 0x104090000 then (groupWord (groupAt s ((o - 0x104080000) / 64)) (o % 64 / 8), s)
  else if o < 0x104091000 then (slotRead s ((o - 0x104090000) / 64) (o % 64 / 8), s)
  else if 0x1040A0000 ≤ o ∧ o < 0x1040A1000 then (subRead (o % 0x1000) s, s)
  else if 0x1040B0000 ≤ o ∧ o < 0x104130000 then (batonCtlRead (o - 0x1040B0000) s, s)
  else if 0x105000000 ≤ o ∧ o < 0x105001000 then (stuRead (o % 0x1000) s, s)
  else if 0x106000000 ≤ o ∧ o < 0x106100000 then (rqRead ((o - 0x106000000) / 0x1000) (o % 0x1000) s, s)
  else if 0x106100000 ≤ o ∧ o < 0x106102000 then (rqcRead ((o - 0x106100000) / 32) (o % 32) s, s)
  else if 0x106200000 ≤ o ∧ o < 0x106201000 then (chipTabRead s (o - 0x106200000), s)
  else if o = 0x108001020 then unroutedRead s
  else if o = 0x108001028 then fastDroppedRead s
  else if 0x108000000 ≤ o ∧ o < 0x108040000 then (scRead (o - 0x108000000) s, s)
  else if 0x108100000 ≤ o ∧ o < 0x108108000 then (mailRead ((o - 0x108100000) / 0x4000) (o % 0x4000) s, s)
  else if 0x10A000000 ≤ o ∧ o < 0x10A008000 then (regGet s (winBase 14 + o), s)
  else if 0x10A010000 ≤ o ∧ o < 0x10A010100 then (pbaWord s ((o - 0x10A010000) / 8), s)
  else xdRead 14 o s

def xd0Write (exact : Bool) (o : Nat) (v : W64) (s : State) : State :=
  if o < 0x100000000 then s
  else if o < 0x104000000 then ctxPageWrite exact ((o - 0x100000000) / 0x1000) (o % 0x1000) v s
  else if o < 0x104080000 then batonPageWrite (o - 0x104000000) v s
  else if o < 0x104090000 then groupWrite ((o - 0x104080000) / 64) (o % 64 / 8) v true s
  else if o < 0x104091000 then slotWrite ((o - 0x104090000) / 64) (o % 64 / 8) v true s
  else if 0x1040A0000 ≤ o ∧ o < 0x1040A1000 then subWrite (o % 0x1000) v s
  else if 0x1040B0000 ≤ o ∧ o < 0x104130000 then batonCtlWrite (o - 0x1040B0000) v s
  else if 0x105000000 ≤ o ∧ o < 0x105001000 then stuWrite (o % 0x1000) v s
  else if 0x106000000 ≤ o ∧ o < 0x106100000 then rqWrite exact ((o - 0x106000000) / 0x1000) (o % 0x1000) v s
  else if 0x106100000 ≤ o ∧ o < 0x106102000 then rqcWrite ((o - 0x106100000) / 32) (o % 32) v s
  else if 0x108000000 ≤ o ∧ o < 0x108040000 then scWrite (o - 0x108000000) v s
  else if 0x108100000 ≤ o ∧ o < 0x108108000 then mailWrite ((o - 0x108100000) / 0x4000) (o % 0x4000) v s
  else if 0x10A000000 ≤ o ∧ o < 0x10A008000 then
    (if o % 16 = 8 then msixCtlSet ((o - 0x10A000000) / 16) v s else regPut s (winBase 14 + o) v)
  else xdWrite 14 o v s

/-! Every register -/

/-- The register at an 8-byte-aligned address, and what its read leaves. -/
def regRead (pa : Nat) (s : State) : W64 × State :=
  match winOf pa with
  | none => (0, s)
  | some (w, o) =>
    if w < 6 then (if 0x20000000 ≤ o ∧ o < 0x20004000 then l2Read (.cluster (4 * w + (o - 0x20000000) / 0x1000)) (o % 0x1000) s else 0, s)
    else if w < 12 then
      (if 0x10000000 ≤ o ∧ o < 0x10001000 then
        (if o = 0x10000188 then
          (mdRead (w - 6) 0x188 s, mdPut s (w - 6) { mdAt s (w - 6) with pgret := (mdAt s (w - 6)).pgret.drop 1 })
         else (mdRead (w - 6) (o % 0x1000) s, s))
       else (0, s))
    else if w < 14 then adRead w o s
    else if w = 14 then xd0Read o s
    else xdRead w o s

/-- A write of the register at an 8-byte-aligned address; `exact` tells a single aligned 64-bit write, which doorbells require. -/
def regWrite (exact : Bool) (pa : Nat) (v : W64) (s : State) : State :=
  match winOf pa with
  | none => s
  | some (w, o) =>
    if w < 6 then (if 0x20000000 ≤ o ∧ o < 0x20004000 then l2Write (.cluster (4 * w + (o - 0x20000000) / 0x1000)) (o % 0x1000) v s else s)
    else if w < 12 then (if 0x10000000 ≤ o ∧ o < 0x10001000 then mdWrite (w - 6) (o % 0x1000) v s else s)
    else if w < 14 then adWrite w o v s
    else if w = 14 then xd0Write exact o v s
    else xdWrite w o v s

/-- The register at any address, without what a read clears. -/
def regPeek (s : State) (pa : Nat) : W64 := (regRead pa s).1

/-- Registers in which a 1 clears a bit: a narrow write leaves their other bits alone. -/
def isW1c (pa : Nat) : Bool :=
  match winOf pa with
  | none => false
  | some (w, o) =>
    (decide (6 ≤ w) && decide (w < 12) && (decide (o = 0x10000118) || decide (o = 0x10000180))) ||
    ((decide (w < 6) || decide (w = 12) || decide (w = 13)) && decide (0x20000000 ≤ o) && decide (o < 0x20010000) && decide (o % 0x1000 = 0x28)) ||
    (decide (w = 14) && ([0x1040A0010, 0x105000030, 0x108001018, 0x108102008, 0x108106008].contains o))

/-- What the bytes of a register hold that a narrow write does not name: its value; 0 where a 1 clears; the stored key of a slot. -/
def narrowBase (s : State) (pa : Nat) : W64 :=
  if isW1c pa then 0
  else match winOf pa with
    | some (14, o) =>
      if 0x104090000 ≤ o ∧ o < 0x104091000 ∧ o % 64 = 40 then (slotAt s ((o - 0x104090000) / 64)).keyLo
      else if 0x104090000 ≤ o ∧ o < 0x104091000 ∧ o % 64 = 48 then (slotAt s ((o - 0x104090000) / 64)).keyHi
      else regPeek s pa
    | _ => regPeek s pa

/-- `l` over the bytes of a word from byte `i`. -/
def mergeBytes (w : W64) (i : Nat) (l : List Byte) : W64 :=
  let b := leBytes 8 w.toNat
  BitVec.ofNat 64 (leNat (b.take i ++ l ++ b.drop (i + l.length)))

/-- The hart and file whose page an address lies in. -/
def fileAt (a : Nat) : Option (Nat × Nat) :=
  match winOf a with
  | some (w, o) => if w = 12 ∨ w = 13 then (imsicPage o).map fun f => (64 * (w - 12) + f.1, f.2) else none
  | none => none

/-- SC.PEND_SET and SC.PEND_CLR take 32-bit and 64-bit writes alone (R395). -/
def pendReg (pa : Nat) : Bool := decide (pa = scReg 0) || decide (pa = scReg 8)

/-- Bytes within one 8-byte word of the windows; `whole` tells that they are all of the write. An interrupt file's page takes 32-bit writes of
its first word (R376); a configuration access goes out as it is (R377). -/
def regPiece (whole : Bool) (a : Nat) (l : List Byte) (s : State) : State :=
  let pa := a - a % 8
  match fileAt a, ecamAt s a with
  | some f, _ => if a % 0x1000 = 0 ∧ l.length = 4 ∧ whole then emit (.imsic f.1 f.2 (leNat l)) (eipSet f.1 f.2 (leNat l) s) else s
  | none, some e => ecamWrite e.1 e.2 l s
  | none, none =>
    if pendReg pa && !(whole && decide (a % 8 = 0) && (decide (l.length = 4) || decide (l.length = 8))) then s
    else if l.length = 8 then regWrite whole pa (BitVec.ofNat 64 (leNat l)) s
    else regWrite false pa (mergeBytes (narrowBase s pa) (a % 8) l) s

/-- Cut bytes at 8-byte boundaries. -/
def cutAt8 : Nat → Nat → List Byte → List (Nat × List Byte)
  | 0, _, _ => []
  | f + 1, a, l => if l = [] then [] else (a, l.take (8 - a % 8)) :: cutAt8 f (a + (8 - a % 8)) (l.drop (8 - a % 8))

/-- A write of bytes to registers: one write of 8 aligned bytes is a 64-bit write; a wider one rings no doorbell (R197, R380). -/
def regBytes (a : Nat) (l : List Byte) (s : State) : State :=
  (cutAt8 l.length a l).foldl (fun t e => regPiece (decide (l.length ≤ 8 - a % 8)) e.1 e.2 t) s

/-- A read of `n` bytes of registers. -/
def regLoad : Nat → Nat → Nat → State → List Byte × State
  | 0, _, _, s => ([], s)
  | f + 1, a, n, s =>
    if n = 0 then ([], s)
    else
      let k := min n (8 - a % 8)
      let r := match ecamAt s a with
        | some e => ecamRead e.1 e.2 k s
        | none => (((leBytes 8 (regRead (a - a % 8) s).1.toNat).drop (a % 8)).take k, (regRead (a - a % 8) s).2)
      let y := regLoad f (a + k) (n - k) r.2
      (r.1 ++ y.1, y.2)

/-- REGISTER_WRITE (R12): a 64-bit write of any register. Where there is no target it ends with NO_TARGET (R258); its requester is not an
operand (DESIGN CHOICE, log 113). -/
def execRegisterWrite (pa : Nat) (value : W64) (s : State) : Host.Outcome State Fault Refusal :=
  .next (match target s pa with
    | .mmio _ _ => if pa % 8 = 0 then regPiece true pa (leBytes 8 value.toNat) s else s
    | .absent => memErr 1 pa (noUnit (match winOf pa with | some (w, _) => w | none => 14)) s
    | _ => s)

end Sys2Proof.Machine
end

