-- ==== Sys2Proof/Machine/RvExt.lean ====
section
/-! DEFINITION. Integer instructions of the application cores beyond RV64IMC (R372): Zba, Zbb, Zbs, Zicond, Zcb and Zimop of RVA23. PRESUMED:
their meaning is that of the RISC-V ISA, which the spec names and does not repeat (log 144). -/

namespace Sys2Proof.Machine

open Sys2Proof

def ux32 (v : W64) : W64 := (v.truncate 32).zeroExtend 64

/-- Leading zeros, trailing zeros and ones of the low `n` bits. -/
def clzN (n : Nat) (v : W64) : Nat := ((upto 0 n).takeWhile fun i => !(bit (n - 1 - i) v)).length
def ctzN (n : Nat) (v : W64) : Nat := ((upto 0 n).takeWhile fun i => !(bit i v)).length
def cpopN (n : Nat) (v : W64) : Nat := ((upto 0 n).filter fun i => bit i v).length

def rol64 (a : W64) (n : Nat) : W64 := a.rotateLeft (n % 64)
def ror64 (a : W64) (n : Nat) : W64 := a.rotateRight (n % 64)
def rol32 (a : W64) (n : Nat) : W64 := ((a.truncate 32 : W32).rotateLeft (n % 32)).signExtend 64
def ror32 (a : W64) (n : Nat) : W64 := ((a.truncate 32 : W32).rotateRight (n % 32)).signExtend 64

def ofB (l : List Byte) : W64 := BitVec.ofNat 64 (leNat l)
/-- REV8 and ORC.B. -/
def rev8 (a : W64) : W64 := ofB (leBytes 8 a.toNat).reverse
def orcB (a : W64) : W64 := ofB ((leBytes 8 a.toNat).map fun b => if b = 0 then 0 else 255)

/-- OP. -/
def extOp (f7 f3 : Nat) (a b : W64) : Option W64 :=
  let n := b.toNat % 64
  if f7 = 0x20 then (if f3 = 7 then some (a &&& ~~~ b) else if f3 = 6 then some (a ||| ~~~ b) else if f3 = 4 then some (~~~ (a ^^^ b)) else none)
  else if f7 = 5 then
    (if f3 = 4 then some (if a.slt b then a else b) else if f3 = 5 then some (if a.ult b then a else b)
     else if f3 = 6 then some (if a.slt b then b else a) else if f3 = 7 then some (if a.ult b then b else a) else none)
  else if f7 = 0x30 then (if f3 = 1 then some (rol64 a n) else if f3 = 5 then some (ror64 a n) else none)
  else if f7 = 0x10 then (if f3 = 2 then some (shl a 1 + b) else if f3 = 4 then some (shl a 2 + b) else if f3 = 6 then some (shl a 3 + b) else none)
  else if f7 = 0x24 then (if f3 = 1 then some (a &&& ~~~ (shl 1 n)) else if f3 = 5 then some (shr a n &&& 1) else none)
  else if f7 = 0x34 then (if f3 = 1 then some (a ^^^ shl 1 n) else none)
  else if f7 = 0x14 then (if f3 = 1 then some (a ||| shl 1 n) else none)
  else if f7 = 7 then (if f3 = 5 then some (if b = 0 then 0 else a) else if f3 = 7 then some (if b = 0 then a else 0) else none)
  else none

/-- OP-32. -/
def extOp32 (f7 f3 r2 : Nat) (a b : W64) : Option W64 :=
  if f7 = 4 then (if f3 = 0 then some (ux32 a + b) else if f3 = 4 ∧ r2 = 0 then some (a &&& 0xFFFF) else none)
  else if f7 = 0x10 then
    (if f3 = 2 then some (shl (ux32 a) 1 + b) else if f3 = 4 then some (shl (ux32 a) 2 + b) else if f3 = 6 then some (shl (ux32 a) 3 + b) else none)
  else if f7 = 0x30 then (if f3 = 1 then some (rol32 a (b.toNat % 32)) else if f3 = 5 then some (ror32 a (b.toNat % 32)) else none)
  else none

/-- OP-IMM with funct3 1 or 5: a single-bit or rotate immediate, or an operation of one source. -/
def extImm (w f3 : Nat) (a : W64) : Option W64 :=
  let k := bitsOf 31 20 w
  let n := bitsOf 25 20 w
  let t := bitsOf 31 26 w
  if f3 = 1 then
    if k = 0x600 then some (BitVec.ofNat 64 (clzN 64 a)) else if k = 0x601 then some (BitVec.ofNat 64 (ctzN 64 a))
    else if k = 0x602 then some (BitVec.ofNat 64 (cpopN 64 a)) else if k = 0x604 then some ((a.truncate 8 : Byte).signExtend 64)
    else if k = 0x605 then some ((a.truncate 16 : BitVec 16).signExtend 64)
    else if t = 0x12 then some (a &&& ~~~ (shl 1 n)) else if t = 0x1A then some (a ^^^ shl 1 n) else if t = 0x0A then some (a ||| shl 1 n) else none
  else if f3 = 5 then
    if k = 0x287 then some (orcB a) else if k = 0x6B8 then some (rev8 a)
    else if t = 0x18 then some (ror64 a n) else if t = 0x12 then some (shr a n &&& 1) else none
  else none

def extImm32 (w f3 : Nat) (a : W64) : Option W64 :=
  let k := bitsOf 31 20 w
  if f3 = 1 then
    if k = 0x600 then some (BitVec.ofNat 64 (clzN 32 a)) else if k = 0x601 then some (BitVec.ofNat 64 (ctzN 32 a))
    else if k = 0x602 then some (BitVec.ofNat 64 (cpopN 32 a))
    else if bitsOf 31 26 w = 2 then some (shl (ux32 a) (bitsOf 25 20 w)) else none
  else if f3 = 5 ∧ bitsOf 31 25 w = 0x30 then some (ror32 a (bitsOf 24 20 w)) else none

/-- A compressed instruction of Zcb, or a may-be-operation, which does nothing (C.MOP). -/
def extHalf (w : Nat) (pc : W64) (x : Nat → W64) : RvRes :=
  let rd := 8 + bitsOf 9 7 w
  let j := bitsOf 6 5 w
  if w % 4 = 0 ∧ bitsOf 15 13 w = 4 then .other
  else if w % 4 = 1 ∧ bitsOf 15 10 w = 0x27 then
    let a := x rd
    if j = 2 then wr rd 2 pc (some (a * x (8 + bitsOf 4 2 w)))
    else if j = 3 then
      wr rd 2 pc (match bitsOf 4 2 w with
        | 0 => some (a &&& 0xFF)
        | 1 => some ((a.truncate 8 : Byte).signExtend 64)
        | 2 => some (a &&& 0xFFFF)
        | 3 => some ((a.truncate 16 : BitVec 16).signExtend 64)
        | 4 => some (ux32 a)
        | 5 => some (~~~ a)
        | _ => none)
    else .illegal
  else if w % 4 = 1 ∧ bitsOf 15 11 w = 0x0C ∧ bitsOf 7 7 w = 1 ∧ bitsOf 6 2 w = 0 then .done 0 0 (pc + 2)
  else if w % 4 = 0 ∧ (bitsOf 15 13 w = 1 ∨ bitsOf 15 13 w = 5) then .other
  else if w % 4 = 2 ∧ (bitsOf 15 13 w = 1 ∨ bitsOf 15 13 w = 5) then .other
  else .illegal

/-- An instruction that RV64IMC does not have: floating-point, vector and system instructions are those of other commands. -/
def extWord (w : Nat) (pc : W64) (x : Nat → W64) : RvRes :=
  let op := bitsOf 6 0 w
  let f3 := bitsOf 14 12 w
  let rd := bitsOf 11 7 w
  let a := x (bitsOf 19 15 w)
  let b := x (bitsOf 24 20 w)
  let f7 := bitsOf 31 25 w
  if op = 0x33 then wr rd 4 pc (extOp f7 f3 a b)
  else if op = 0x3B then wr rd 4 pc (extOp32 f7 f3 (bitsOf 24 20 w) a b)
  else if op = 0x13 then wr rd 4 pc (extImm w f3 a)
  else if op = 0x1B then wr rd 4 pc (extImm32 w f3 a)
  else if [0x07, 0x27, 0x0F, 0x43, 0x47, 0x4B, 0x4F, 0x53, 0x57, 0x77].contains op then .other
  else .illegal

/-- A may-be-operation of Zimop writes 0. -/
def isMop (w : Nat) : Bool :=
  decide (w % 4 = 3) && decide (bitsOf 6 0 w = 0x73) && decide (bitsOf 14 12 w = 4) && decide (bitsOf 31 31 w = 1) && decide (bitsOf 29 28 w = 0) &&
  (decide (bitsOf 25 25 w = 1) || decide (bitsOf 25 22 w = 7))

/-- An integer instruction of an application core. -/
def acScalar (w : Nat) (pc : W64) (x : Nat → W64) : RvRes :=
  if isMop w then .done (bitsOf 11 7 w) 0 (pc + 4)
  else match rvScalar w pc x with
    | .illegal => if w % 4 = 3 then extWord w pc x else extHalf (w % 65536) pc x
    | r => r

end Sys2Proof.Machine
end

