-- ==== Sys2Proof/Machine/Cores.lean ====
section
/-! DEFINITION. Application cores (R372 to R376): their accesses to memory, registers and the windows, the counters they read, the line
operations of R375, and the timer interrupt. PRESUMED: what an instruction computes is the RISC-V ISA's, which the spec names and does
not repeat; a result of floating-point, vector and cryptographic arithmetic is a free value. -/

namespace Sys2Proof.Machine

open Sys2Proof

def acMod (ac : Nat) (f : Core → Core) (s : State) : State := corePut s ac (f (coreAt s ac))

/-- The pc moves past an instruction of `len` bytes. -/
def acNext (ac len : Nat) (s : State) : State := acMod ac (fun c => { c with pc := c.pc + BitVec.ofNat 64 len, insn := c.pc }) s

def acSet (ac r : Nat) (v : W64) (s : State) : State := acMod ac (fun c => coreXPut c r v) s

/-- The L2 group of a core (R282, R302). -/
def groupAgent (ac : Nat) : Nat := 24 + ac / 4

/-- An instruction whose result the spec does not give: its register and the pc are free values. -/
def acFree (ac rd : Nat) (s : State) : State :=
  let d := drawFree s
  let e := drawFree d.2
  acMod ac (fun c => { coreXPut c rd d.1 with pc := e.1 }) e.2

/-! Loads and stores -/

/-- Other cores' reservations of a line end with a store to it (R372). -/
def dropResv (ac ln : Nat) (s : State) : State := cohMod s fun c => { c with resv := c.resv.filter fun e => decide (e.1 = ac) || decide (e.2 ≠ ln) }

def acPart (s : State) (ac : Nat) : Option Nat := partOf s (acReq ac)

/-- Bytes of local memory stored by a core: its group makes each line its own (R302, R311); an error as R260 says. -/
def acPuts (ac pa : Nat) (l : List Byte) (s : State) : State :=
  let t := (lineStarts pa l.length).foldl (fun u a => dropResv ac (lineOf a) u) s
  match writeLines (acReq ac) (acPart s ac) (0, 0) (cutLines l.length pa l) t with
  | (some e, u) => errorTo e.1 e.2 (acReq ac) true false u
  | (none, u) => u

/-- A load: `rd` as `landLoad` takes it. The pc is past the instruction already. -/
def acLoad (ac rd pa size : Nat) (s : State) : State :=
  if inWindow pa then
    (if sizeOk pa size then windowAccess ac false pa size rd 0 s else acTrap ac pa false false s)
  else match rangeError s (acPart s ac) false pa size with
  | some e => errorTo e.1 e.2 (acReq ac) false false s
  | none => match target s pa with
    | .mmio _ _ =>
      let r := regLoad 9 pa size s
      emit (.readData pa (loadedValue rd size r.1)) (acMod ac (landLoad rd r.1) r.2)
    | .host p => askHost p ⟨0, ac, rd, size, pa, false⟩ (acMod ac (fun k => { k with waits := some (readTag (pcieAt s p).reads) }) s)
    | _ => match readLines (acReq ac) (acPart s ac) (lineSpans pa size) s with
      | (.error e, t) => errorTo e.1 e.2 (acReq ac) false false t
      | (.ok l, t) => emit (.readData pa (loadedValue rd size l)) (acMod ac (landLoad rd l) t)

/-- A store. One to the attached-host window is posted: nothing of it comes back (R259, R378). -/
def acStore (ac pa : Nat) (l : List Byte) (s : State) : State :=
  if inWindow pa then
    (if sizeOk pa l.length then windowAccess ac true pa l.length 0 (BitVec.ofNat 64 (leNat l)) s else acTrap ac pa false true s)
  else match rangeError s (acPart s ac) true pa l.length with
  | some e => errorTo e.1 e.2 (acReq ac) true false s
  | none => match target s pa with
    | .mmio _ _ => regBytes pa l s
    | .host p => postHost (acReq ac) p pa l s
    | _ => acPuts ac pa l s

/-! Atomics: naturally aligned (R373), in local HBM; the board-shared window takes none (R345) -/

def isHbm (s : State) (pa : Nat) : Bool := match target s pa with | .hbm _ => true | _ => false

/-- The old value of an atomic, once its group may write the line; a load-reserved only reads it. -/
def atomicRead (ac f5 pa size : Nat) (s : State) : Option Nat × List Byte × State :=
  let r := if f5 = 2 ∨ canFill s (groupAgent ac) (lineOf pa) 0xFFFF = false then (none, s) else groupOwn (groupAgent ac) (acPart s ac) (lineOf pa) s
  match r.1 with
  | some c => (some c, [], r.2)
  | none => spanRead (acReq ac) (acPart s ac) 0 pa size r.2

/-- The bytes of a register, or of a pair of them for the 16 bytes of AMOCAS.Q (Zacas). -/
def pairBytes (c : Core) (r size : Nat) : List Byte :=
  if size = 16 then leBytes 8 (coreX c r).toNat ++ leBytes 8 (if r = 0 then 0 else coreX c (r + 1)).toNat else leBytes size (coreX c r).toNat

def landPair (r size : Nat) (l : List Byte) (c : Core) : Core :=
  if size = 16 then (if r = 0 then c else coreXPut (coreXPut c r (loadedValue 0 8 l)) (r + 1) (loadedValue 0 8 (l.drop 8)))
  else coreXPut c r (loadedValue 32 size l)

/-- What an atomic does with the old value: funct5 2 is LR, 3 SC, 5 the compare-and-swap of Zacas. A store-conditional whose reservation is
still held may fail all the same; it fails where the group has lost the line since. -/
def atomicStore (ac rd rs2 f5 pa size : Nat) (l : List Byte) (s : State) : State :=
  let old := loadedValue 32 size l
  let src := coreX (coreAt s ac) rs2
  if f5 = 2 then
    let t := acMod ac (fun c => { coreXPut c rd old with resv := some pa }) s
    cohMod t fun c => { c with resv := (if (lineAt s (groupAgent ac) (lineOf pa)).isSome then [(ac, lineOf pa)] else []) ++ c.resv.filter fun e => decide (e.1 ≠ ac) }
  else if f5 = 3 then
    let d := drawFree s
    let held := decide ((coreAt s ac).resv = some pa) && s.coh.resv.contains (ac, lineOf pa) && bit 0 d.1
    let t := acMod ac (fun c => { coreXPut c rd (if held then 0 else 1) with resv := none }) d.2
    let t := cohMod t fun c => { c with resv := c.resv.filter fun e => decide (e.1 ≠ ac) }
    if held then acPuts ac pa (leBytes size src.toNat) t else t
  else if f5 = 5 then
    let t := acMod ac (landPair rd size l) s
    if l = pairBytes (coreAt s ac) rd size then acPuts ac pa (pairBytes (coreAt s ac) rs2 size) t else t
  else match amoValue f5 size old src with
  | some v => acPuts ac pa (leBytes size v.toNat) (acSet ac rd old s)
  | none => acFree ac rd s

/-- An error that the read of an atomic ends in is precise; only a load-reserved reports it as a load's (DESIGN CHOICE, log 123). -/
def acAtomic (ac rd rs2 f5 pa size : Nat) (s : State) : State :=
  let write := decide (f5 ≠ 2)
  if inWindow pa then acTrap ac pa false true s
  else if (size ≠ 4 ∧ size ≠ 8 ∧ (size ≠ 16 ∨ f5 ≠ 5)) ∨ pa % size ≠ 0 then acTrap ac pa false write s
  else match rangeError s (acPart s ac) false pa size with
  | some e => errorTo e.1 e.2 (acReq ac) write false s
  | none =>
    if !(isHbm s pa) then acTrap ac pa false write s
    else match atomicRead ac f5 pa size s with
      | (some c, _, t) => acTrap ac pa false write (memErr c pa (acReq ac) t)
      | (none, l, t) => atomicStore ac rd rs2 f5 pa size l t

/-! Instructions -/

/-- A counter goes on while mcountinhibit leaves it running: how far is a free value. -/
def acCount (ac k : Nat) (s : State) : W64 × State :=
  let c := coreAt s ac
  if bit k (csrAt c 0x320) then (csrAt c (0xB00 + k), s)
  else
    let d := drawFree s
    let v := csrAt c (0xB00 + k) + d.1
    (v, acMod ac (fun j => csrPut j (0xB00 + k) v) d.2)

/-- A CSR as it reads: those whose value the spec gives (R373, R374), those that hold one, the counters (R373). Any other is a free value. -/
def acCsr (ac csr : Nat) (s : State) : W64 × State :=
  if csr = 0xC01 then
    let m := mtimeNow s
    (if (coreAt s ac).virt then m.1 + csrAt (coreAt s ac) 0x605 else m.1, m.2)
  else if csr = 0xCC8 then (now s, s)
  else if csr = 0xF11 then (0, s)
  else if csr = 0xF12 then (0x80000000000000E9, s)
  else if csr = 0xF13 then (BitVec.ofNat 64 s.fuse.stepping, s)
  else if csr = 0xF14 then (BitVec.ofNat 64 ac, s)
  else if 0xC00 ≤ csr ∧ csr < 0xC20 then acCount ac (csr - 0xC00) s
  else if 0xB00 ≤ csr ∧ csr < 0xB20 then acCount ac (csr - 0xB00) s
  else match csrView (coreAt s ac) csr with
    | some v => (v, s)
    | none => drawFree s

/-- Writes of CSRs that leave nothing to the implementation draw no free value. -/
def csrExact (csr : Nat) : Bool := (csrKeeps csr).isSome && decide (csr ≠ 0x300)

/-- An access of a CSR, `f` giving the value written from the old one: rd takes the old value. A mode that may not make the access takes an
exception. -/
def acCsrDo (ac rd csr : Nat) (f : Option (W64 → W64)) (s : State) : State :=
  let c := coreAt s ac
  match csrCause c csr f.isSome with
  | some cause => let d := drawFree s; takeTrap ac cause d.1 d.2
  | none =>
    let k := csrAlias c csr
    let r := acCsr ac k s
    match f with
    | none => acSet ac rd r.1 r.2
    | some g =>
      let d := if csrExact k then (0, r.2) else drawFree r.2
      acSet ac rd r.1 (acMod ac (csrSet k (g r.1) d.1) d.2)

/-- One line for a fetch: the copy in the core's instruction cache, which nothing keeps coherent and which may be gone again, or the line as
its group reads it (R375). Whether the copy is still there is a free value. -/
def fetchLine (ac ln : Nat) (s : State) : Except (Nat × Nat) LineData × State :=
  let fresh := fun (t : State) =>
    match readLines (acReq ac) (acPart t ac) [(128 * ln, 128)] t with
    | (.error e, u) => (.error e, u)
    | (.ok l, u) => (.ok (lineOfBytes l), acMod ac (fun c => { c with icache := (ln, lineOfBytes l) :: c.icache.filter fun e => decide (e.1 ≠ ln) }) u)
  match aget (coreAt s ac).icache ln with
  | none => fresh s
  | some d => let f := drawFree s; if bit 0 f.1 then (.ok d, f.2) else fresh f.2

def fetchBytes (ac : Nat) : List (Nat × Nat) → State → Except (Nat × Nat) (List Byte) × State
  | [], s => (.ok [], s)
  | (a, n) :: r, s =>
    match fetchLine ac (lineOf a) s with
    | (.error e, t) => (.error e, t)
    | (.ok d, t) => let y := fetchBytes ac r t; (y.1.map fun l => lineCut d (a % 128) n ++ l, y.2)

/-- An instruction fetch: from local HBM alone, with errors as access faults (R260, R345). -/
def acFetch (ac pa : Nat) (s : State) : State :=
  if inWindow pa then acTrap ac pa true false s
  else match rangeError s (acPart s ac) false pa 4 with
  | some e => errorTo e.1 e.2 (acReq ac) false true s
  | none =>
    if !(isHbm s pa) then acTrap ac pa true false s
    else match fetchBytes ac (lineSpans pa 4) s with
      | (.error e, t) => errorTo e.1 e.2 (acReq ac) false true t
      | (.ok l, t) => emit (.readData pa (BitVec.ofNat 64 (leNat l))) t

def acInteger (ac word : Nat) (s : State) : State :=
  let c := coreAt s ac
  match acScalar word c.pc (coreX c) with
  | .done rd v pc => acMod ac (fun k => { coreXPut k rd v with pc := pc, insn := c.pc }) s
  | .illegal => let d := drawFree s; takeTrap ac 2 d.1 (acMod ac (fun k => { k with insn := k.pc }) d.2)
  | .other => acFree ac (bitsOf 11 7 word) s

/-! Physical memory protection: the 16 entries of R373 -/

/-- The bytes an entry covers: from, and up to. -/
def pmpRange (c : Core) (i : Nat) : Nat × Nat :=
  let a := (csrAt c (0x3B0 + i)).toNat
  match bitsOf 4 3 (pmpByte c i) with
  | 1 => (if i = 0 then 0 else 4 * (csrAt c (0x3AF + i)).toNat, 4 * a)
  | 2 => (4 * a, 4 * a + 4)
  | 3 =>
    let k := ((upto 0 50).takeWhile fun j => a.testBit j).length
    (4 * (a - a % 2 ^ (k + 1)), 4 * (a - a % 2 ^ (k + 1)) + 2 ^ (k + 3))
  | _ => (0, 0)

/-- The mode an access is made in: a load or store in machine mode takes that of mstatus.MPP where MPRV is set. -/
def accessMode (c : Core) (fetch : Bool) : Nat :=
  if !fetch && decide (c.priv = 3) && bit 17 (csrAt c 0x300) then fld 12 11 (csrAt c 0x300) else c.priv

/-- Whether the entries permit an access: bit 0 of `need` a read, bit 1 a write, bit 2 a fetch. The lowest entry that covers any byte decides,
and one that covers only some refuses; with none, machine mode alone goes on. -/
def pmpOk (c : Core) (need pa size : Nat) : Bool :=
  let m := accessMode c (need.testBit 2)
  match (upto 0 16).find? fun i => decide ((pmpRange c i).1 < pa + size) && decide (pa < (pmpRange c i).2) with
  | none => decide (m = 3)
  | some i =>
    let r := pmpRange c i
    let b := pmpByte c i
    decide (r.1 ≤ pa) && decide (pa + size ≤ r.2) && ((decide (m = 3) && !(b.testBit 7)) || decide (need &&& b = need))

/-- What an access asks of the entries, with its bytes. -/
def acNeeds : AcOp → Option (Nat × Nat × Nat)
  | .load _ _ pa n => some (1, pa, n)
  | .fLoad _ pa n => some (1, pa, n)
  | .vLoad _ _ pa n => some (1, pa, n)
  | .store _ pa n => some (2, pa, n)
  | .fStore _ pa n => some (2, pa, n)
  | .vStore _ _ pa n => some (2, pa, n)
  | .amo _ _ f5 pa n => some (if f5 = 2 then 1 else if f5 = 3 then 2 else 3, pa, n)
  | .fetch pa => some (4, pa, 4)
  | _ => none

/-! The core's own TLBs (R236) -/

def coreTlbHas (e : CoreTlb) (va : Option Nat) : Bool := match va with | some a => decide (e.va ≤ a) && decide (a < e.va + e.size) | none => true

/-- Whether a fence removes a translation: SFENCE.VMA those of the host, HFENCE.VVMA those of a guest's virtual addresses; one that names an
address space leaves the global ones. HFENCE.GVMA removes those of a guest's physical addresses, and every one of the guest that went
through them. -/
def fenceHits (kind : FenceKind) (va asid vmid : Option Nat) (e : CoreTlb) : Bool :=
  let ofVm := match vmid with | some v => decide (e.vmid = v) | none => true
  let ofAs := match asid with | some a => decide (e.asid = a) && !e.glob | none => true
  match kind with
  | .vma => decide (e.space = 0) && coreTlbHas e va && ofAs
  | .vvma => decide (e.space = 1) && coreTlbHas e va && ofAs && ofVm
  | .gvma => ofVm && (decide (e.space = 1) || (decide (e.space = 2) && coreTlbHas e va))

/-- An access that meets a line it has to wait for (R32, R279, R316). -/
def acWaits (s : State) (ac : Nat) (read : Bool) (pa size : Nat) : Bool := rangeWaits s (acReq ac) (acPart s ac) read pa size

/-- The access of an instruction: whether it only reads, where, how much. A load-reserved only reads. -/
def acAccess : AcOp → Option (Bool × Nat × Nat)
  | .load _ _ pa size => some (true, pa, size)
  | .store _ pa size => some (false, pa, size)
  | .fLoad _ pa size => some (true, pa, size)
  | .fStore _ pa size => some (false, pa, size)
  | .vLoad _ _ pa size => some (true, pa, size)
  | .vStore _ _ pa size => some (false, pa, size)
  | .amo _ _ f5 pa size => some (decide (f5.toNat = 2), pa, size)
  | .fetch pa => some (true, pa, 4)
  | _ => none

def acOpWaits (s : State) (ac : Nat) (op : AcOp) : Bool := match acAccess op with | some (r, pa, n) => acWaits s ac r pa n | none => false

/-- An instruction whose access waits has not completed: the state is as before, but for the Nack. -/
def acWhenFree (ac : Nat) (op : AcOp) (t s : State) : State :=
  match acAccess op with
  | some (r, pa, n) => whenFree (acReq ac) (acPart s ac) r pa n t s
  | none => t

/-- EBREAK: the debugger's where dcsr gives it the mode's and the port stands open (R475), else a breakpoint exception. -/
def acBreak (ac : Nat) (s : State) : State :=
  let c := coreAt s ac
  let b := if c.virt then (if c.priv = 1 then 17 else 16) else if c.priv = 3 then 15 else if c.priv = 1 then 13 else 12
  if decide (1 ≤ s.sec.debug) && c.dcsr.getLsbD b then acMod ac (fun k => { k with halted := true, pc := k.insn, dcsr := dcsrCause 1 k.dcsr }) s
  else let d := drawFree s; takeTrap ac 3 d.1 d.2

/-- VSETVLI, VSETIVLI, VSETVL: with the zero register as length the longest, or where rd is zero too the length kept. -/
def acVset (ac rd rs1 : Nat) (imm : Bool) (vtype : Nat) (s : State) : State :=
  let c := coreAt s ac
  let avl := if imm then rs1 else if rs1 = 0 then 2 ^ 64 else (coreX c rs1).toNat
  let d := drawFree s
  acMod ac (vsetCore rd vtype avl (!imm && decide (rs1 = 0) && decide (rd = 0)) d.1) d.2

/-- The values of floating-point and vector arithmetic are free. -/
def acFloat (ac fd : Nat) (s : State) : State :=
  let d := drawFree s
  acMod ac (fun c => { c with f := tset 0 c.f fd d.1 }) d.2

def acVector (ac vd : Nat) (s : State) : State :=
  let a := drawFree s
  let b := drawFree a.2
  let e := drawFree b.2
  let g := drawFree e.2
  acMod ac (fun c => { c with v := tset 0 c.v vd (BitVec.ofNat 256 (a.1.toNat + 2 ^ 64 * b.1.toNat + 2 ^ 128 * e.1.toNat + 2 ^ 192 * g.1.toNat)) }) g.2

def acEffect (ac : Nat) (compressed : Bool) (op : AcOp) (s : State) : State :=
  let n := acNext ac (if compressed then 2 else 4) s
  let c := coreAt s ac
  match op with
  | .load rd signed pa size => acLoad ac (rd.toNat + 32 * b2n signed) pa size n
  | .store rs2 pa size => acStore ac pa (leBytes size (coreX c rs2.toNat).toNat) n
  | .fLoad fd pa size => acLoad ac (64 + fd.toNat) pa size n
  | .fStore fs pa size => acStore ac pa (leBytes size (tget 0 c.f fs.toNat).toNat) n
  | .vLoad vd elem pa size => acLoad ac (128 + vd.toNat + 256 * elem) pa size n
  | .vStore vs elem pa size => acStore ac pa (vecBytes c vs.toNat elem size) n
  | .amo rd rs2 f5 pa size => acAtomic ac rd.toNat rs2.toNat f5.toNat pa size n
  | .fetch pa => acFetch ac pa (acMod ac (fun k => { k with insn := k.pc }) s)
  | .csrRead rd csr => acCsrDo ac rd.toNat csr.toNat none n
  | .csrWrite rd rs1 csr => acCsrDo ac rd.toNat csr.toNat (some fun _ => coreX c rs1.toNat) n
  | .csrBits rd rs1 csr on => acCsrDo ac rd.toNat csr.toNat (some fun w => if on then w ||| coreX c rs1.toNat else w &&& ~~~ (coreX c rs1.toNat)) n
  | .integer word => acInteger ac word.toNat s
  | .fence => n
  | .tlbFill e => acMod ac (fun c => { c with tlb := e :: c.tlb }) s
  | .tlbFence kind va asid vmid => acMod ac (fun c => { c with tlb := c.tlb.filter fun e => !(fenceHits kind va asid vmid e) }) n
  | .vset rd rs1 imm vtype => acVset ac rd.toNat rs1.toNat imm vtype.toNat n
  | .ecall => takeTrap ac (ecallCause c) 0 n
  | .ebreak => acBreak ac n
  | .mret => if c.priv = 3 then acMod ac mretCore n else let d := drawFree n; takeTrap ac 2 d.1 d.2
  | .sret => match sretCause c with
    | some k => let d := drawFree n; takeTrap ac k d.1 d.2
    | none => acMod ac sretCore n
  | .fOther fd => acFloat ac fd.toNat n
  | .vOther vd => acVector ac vd.toNat n
  | .other rd => acFree ac rd.toNat s

/-- The place in mstatus of the state of the unit an instruction uses: floating point 13, vector 9. -/
def acUnit : AcOp → Option Nat
  | .fLoad _ _ _ | .fStore _ _ _ | .fOther _ => some 13
  | .vLoad _ _ _ _ | .vStore _ _ _ _ | .vset _ _ _ _ | .vOther _ => some 9
  | _ => none

/-- That unit is off: for the core, or for the guest it runs. -/
def acOff (c : Core) (op : AcOp) : Bool :=
  match acUnit op with
  | some i => decide (fld (i + 1) i (csrAt c 0x300) = 0) || (c.virt && decide (fld (i + 1) i (csrAt c 0x200) = 0))
  | none => false

/-- The unit's state is dirty from here on. -/
def acDirty (op : AcOp) (c : Core) : Core :=
  match acUnit op with
  | some i =>
    let k := csrPut c 0x300 (setFld (i + 1) i 3 (csrAt c 0x300))
    if c.virt then csrPut k 0x200 (setFld (i + 1) i 3 (csrAt c 0x200)) else k
  | none => c

/-- An instruction of a unit that is off is illegal, and an access that physical memory protection refuses ends in an access fault before it
is made. -/
def acGuarded (ac : Nat) (compressed : Bool) (op : AcOp) (s : State) : State :=
  let here := acMod ac (fun c => { c with insn := c.pc }) s
  if acOff (coreAt s ac) op then (let d := drawFree here; takeTrap ac 2 d.1 d.2)
  else match acNeeds op with
  | some (k, pa, n) =>
    if pmpOk (coreAt s ac) k pa n then acEffect ac compressed op (acMod ac (acDirty op) s) else acTrap ac pa (k.testBit 2) (k.testBit 1) here
  | none => acEffect ac compressed op (acMod ac (acDirty op) s)

/-- The core halts after one instruction where the debugger steps it (R475). -/
def acStepped (ac : Nat) (s : State) : State :=
  if (coreAt s ac).dcsr.getLsbD 2 && !((coreAt s ac).halted) then acMod ac (fun k => { k with halted := true, dcsr := dcsrCause 4 k.dcsr }) s else s

/-- A size an instruction can have. -/
def acOpOk : AcOp → Bool
  | .load _ _ _ n => [1, 2, 4, 8].contains n
  | .store _ _ n => [1, 2, 4, 8].contains n
  | .fLoad _ _ n => [2, 4, 8].contains n
  | .fStore _ _ n => [2, 4, 8].contains n
  | .vLoad _ _ _ n => [1, 2, 4, 8].contains n
  | .vStore _ _ _ n => [1, 2, 4, 8].contains n
  | .amo _ _ _ _ n => [1, 2, 4, 8, 16].contains n
  | _ => true

def execAcInstruction (ac : Nat) (compressed : Bool) (op : AcOp) (flaws : List (Nat × Bool)) (s : State) : Host.Outcome State Fault Refusal :=
  onUnit (okAc ac) (onlyIf (acLive s ac && acOpOk op) (acWhenFree ac op (withFlaws flaws (fun t => acStepped ac (acGuarded ac compressed op t)) s) s) s)

/-! Line operations (R375, R290) -/

/-- Nothing of the line is in flight: no open transaction, request, snoop, fill or eviction. -/
def lineQuiet (s : State) (ln : Nat) : Bool :=
  (match entAt s ln with | some e => stable e.st | none => true) && s.coh.open_.all (fun r => decide (r.line ≠ ln)) &&
  s.coh.retries.all (fun r => decide (r.req.line ≠ ln)) && s.coh.wb.all (fun e => decide (e.2.1 ≠ ln))

/-- The copies of a line at its agents, with the newest data first brought home where it is dirty. -/
def flushOwner (ln : Nat) (s : State) : State :=
  match s.coh.lines.find? fun e => decide (e.2.1 = ln) && dirtySt e.2.2.st with
  | some e => toHome ln e.2.2.data e.2.2.poison e.2.2.part s
  | none => s

/-- Every copy at an agent becomes clean: an M owner exclusive, an O owner shared. -/
def cleanCopies (ln : Nat) (s : State) : State :=
  let t := cohMod s fun c => { c with lines := c.lines.map fun e =>
    if e.2.1 = ln then (e.1, e.2.1, { e.2.2 with st := match e.2.2.st with | .m => .e | .o => .s | k => k }) else e }
  match entAt t ln with
  | some e => if e.st = .d_o then entPut ln { e with st := .ds, was := .ds, owner := 0, sharers := insNat e.owner e.sharers } t else t
  | none => t

/-- Every copy at an agent goes, and the line's directory entry with them. -/
def dropCopies (ln : Nat) (s : State) : State :=
  entDel ln (cohMod s fun c => { c with
    lines := c.lines.filter fun e => decide (e.2.1 ≠ ln), near := c.near.filter fun e => decide (e.2 ≠ ln), resv := c.resv.filter fun e => decide (e.2 ≠ ln) })

/-- One line, as the MD engine treats it: 1 CLEAN, 2 INVALIDATE, 3 CLEAN_INVALIDATE (R290). -/
def lineOp (op ln : Nat) (s : State) : State :=
  if op = 1 then llcClean ln (cleanCopies ln (flushOwner ln s))
  else if op = 2 then maintHome 2 ln (dropCopies ln s)
  else maintHome 3 ln (dropCopies ln (flushOwner ln s))

/-- A line of local HBM that is in flight, or that a held path leads to, is waited for: the instruction does not complete yet. -/
def cboWaits (s : State) (ac pa : Nat) : Bool :=
  let u := groupAgent ac
  decide (rangeError s (acPart s ac) true (128 * lineOf pa) 128 = none) && isHbm s (128 * lineOf pa) &&
  (!(lineQuiet s (lineOf pa)) || lineShut s (lineOf pa) || pathsHeld s (linePaths s u false (lineOf pa)) || lineCrossed s u false (lineOf pa))

/-- Outside local HBM nothing is cached. -/
def cboEffect (op ac pa : Nat) (s : State) : State :=
  let a := 128 * lineOf pa
  match rangeError s (acPart s ac) true a 128 with
  | some e => errorTo e.1 e.2 (acReq ac) true false (acNext ac 4 s)
  | none =>
    if !(isHbm s a) then acNext ac 4 s
    else acNext ac 4 (lineOp op (lineOf pa) s)

def execCboClean (ac pa : Nat) (s : State) : Host.Outcome State Fault Refusal := onUnit (okAc ac) (onlyIf (acLive s ac && !(cboWaits s ac pa)) (acStepped ac (cboEffect 1 ac pa s)) s)
def execCboFlush (ac pa : Nat) (s : State) : Host.Outcome State Fault Refusal := onUnit (okAc ac) (onlyIf (acLive s ac && !(cboWaits s ac pa)) (acStepped ac (cboEffect 3 ac pa s)) s)
def execCboInval (ac pa : Nat) (s : State) : Host.Outcome State Fault Refusal := onUnit (okAc ac) (onlyIf (acLive s ac && !(cboWaits s ac pa)) (acStepped ac (cboEffect 2 ac pa s)) s)

/-- CBO.ZERO (R375): the line becomes zero through the coherent path. -/
def cboZeroEffect (ac pa : Nat) (s : State) : State :=
  let a := 128 * lineOf pa
  let n := acNext ac 4 s
  match rangeError s (acPart s ac) true a 128 with
  | some e => errorTo e.1 e.2 (acReq ac) true false n
  | none => if isHbm s a then acPuts ac a (List.replicate 128 0) n else acTrap ac pa false true n

def execCboZero (ac pa : Nat) (s : State) : Host.Outcome State Fault Refusal := onUnit (okAc ac) (onlyIf (acLive s ac)
  (whenFree (acReq ac) (acPart s ac) false (128 * lineOf pa) 128 (acStepped ac (cboZeroEffect ac pa s)) s) s)

/-- FENCE.I acts on the executing core alone: its instruction cache holds no line any more (R375). -/
def fenceIEffect (ac : Nat) (s : State) : State := acMod ac (fun c => { c with icache := [] }) (acNext ac 4 s)

def execFenceI (ac : Nat) (s : State) : Host.Outcome State Fault Refusal := onUnit (okAc ac) (onlyIf (acLive s ac) (acStepped ac (fenceIEffect ac s)) s)

/-! Timers (R374) -/

def mtimecmp (s : State) (h : Nat) : W64 := regGet s (winBase (12 + h / 64) + 0x102000000 + 8 * (h % 64))

/-- The compare value of a hart's machine or supervisor timer. -/
def timerCmp (s : State) (h : Nat) (supervisor : Bool) : W64 := if supervisor then (coreAt s h).stimecmp else mtimecmp s h

/-- mtime reaches the hart's compare value: it has run at least that far, and the timer interrupt is pending. -/
def mtimerEffect (h : Nat) (supervisor : Bool) (s : State) : State :=
  let t := (mtimeNow s).2
  let t := { t with mtime := if t.mtime.toNat < (timerCmp s h supervisor).toNat then timerCmp s h supervisor else t.mtime }
  emit (.timerInterrupt h supervisor) (acMod h (fun c => { c with timer := lset c.timer (b2n supervisor) true }) t)

def execMtimerInterrupt (hart : Nat) (supervisor : Bool) (s : State) : Host.Outcome State Fault Refusal :=
  onUnit (okAc hart) (onlyIf (acPresent s hart && (coreAt s hart).on) (mtimerEffect hart supervisor s) s)

end Sys2Proof.Machine
end

