-- ==== Sys2Proof/Machine/Encoding.lean ====
section
/-! DEFINITION. The encodings of the Pacer's instructions: the register and operation layouts of R64, the opcode, funct and op6 values of R66,
and the loads, stores, atomics, CSR and environment instructions of RV64IMAC (PRESUMED: the RISC-V unprivileged ISA's, which R43 names). -/

namespace Sys2Proof.Machine

open Sys2Proof

/-! Fields (R64) -/

def rdOf (w : Nat) : BitVec 5 := BitVec.ofNat 5 (bitsOf 11 7 w)
def rs1Of (w : Nat) : BitVec 5 := BitVec.ofNat 5 (bitsOf 19 15 w)
def rs2Of (w : Nat) : BitVec 5 := BitVec.ofNat 5 (bitsOf 24 20 w)
def f3Of (w : Nat) : BitVec 3 := BitVec.ofNat 3 (bitsOf 14 12 w)
def opM (w : Nat) : BitVec 2 := BitVec.ofNat 2 (bitsOf 25 24 w)
def opXs (w : Nat) : BitVec 5 := BitVec.ofNat 5 (bitsOf 23 19 w)
def opQb (w : Nat) : BitVec 4 := BitVec.ofNat 4 (bitsOf 18 15 w)
def opQa (w : Nat) : BitVec 4 := BitVec.ofNat 4 (bitsOf 14 11 w)
def opQd (w : Nat) : BitVec 4 := BitVec.ofNat 4 (bitsOf 10 7 w)

/-! The Pacer extension (R66): none for an encoding that is not listed -/

/-- Custom-0, by funct3 and funct7. -/
def custom0 (tc w : Nat) : Option Instr :=
  match bitsOf 14 12 w, bitsOf 31 25 w with
  | 0, 0 => some (.psetq tc (rdOf w) (rs1Of w) (rs2Of w))
  | 0, 1 => some (.pgetq tc (rdOf w) (rs1Of w) (rs2Of w))
  | 0, 2 => some (.pqadd tc (rdOf w) (rs1Of w) (rs2Of w))
  | 1, 0 => some (.ptag tc (rdOf w) (rs1Of w) (rs2Of w))
  | 1, 1 => some (.pwait tc (rdOf w) (rs1Of w) (rs2Of w))
  | 1, 2 => some (.pfence tc (rdOf w) (rs1Of w) (rs2Of w))
  | 1, 3 => some (.pstat tc (rdOf w) (rs1Of w) (rs2Of w))
  | 2, 0 => some (.prdop tc (rdOf w) (rs1Of w) (rs2Of w))
  | 2, 1 => some (.pdone tc (rdOf w) (rs1Of w) (rs2Of w))
  | 2, 2 => some (.pperf tc (rdOf w) (rs1Of w) (rs2Of w))
  | 3, 0 => some (.pbsig tc (rdOf w) (rs1Of w) (rs2Of w))
  | 3, 1 => some (.pbwait tc (rdOf w) (rs1Of w) (rs2Of w))
  | 4, 0 => some (.psqrd tc (rdOf w) (rs1Of w) (rs2Of w))
  | 4, 1 => some (.psqadv tc (rdOf w) (rs1Of w) (rs2Of w))
  | 5, 0 => some (.pfret tc (rdOf w) (rs1Of w) (rs2Of w))
  | _, _ => none

/-- Custom-1, by op6. -/
def custom1 (tc w : Nat) : Option Instr :=
  match bitsOf 31 26 w with
  | 0x00 => some (.mldw tc (opM w) (opXs w) (opQb w) (opQa w) (opQd w))
  | 0x01 => some (.mmul tc (opM w) (opXs w) (opQb w) (opQa w) (opQd w))
  | 0x02 => some (.mrd tc (opM w) (opXs w) (opQb w) (opQa w) (opQd w))
  | 0x03 => some (.mlda tc (opM w) (opXs w) (opQb w) (opQa w) (opQd w))
  | 0x04 => some (.mzero tc (opM w) (opXs w) (opQb w) (opQa w) (opQd w))
  | _ => none

/-- Custom-2, by op6. -/
def custom2 (tc w : Nat) : Option Instr :=
  match bitsOf 31 26 w with
  | 0x00 => some (.vadd tc (opM w) (opXs w) (opQb w) (opQa w) (opQd w))
  | 0x01 => some (.vsub tc (opM w) (opXs w) (opQb w) (opQa w) (opQd w))
  | 0x02 => some (.vmul tc (opM w) (opXs w) (opQb w) (opQa w) (opQd w))
  | 0x03 => some (.vfma tc (opM w) (opXs w) (opQb w) (opQa w) (opQd w))
  | 0x04 => some (.vmin tc (opM w) (opXs w) (opQb w) (opQa w) (opQd w))
  | 0x05 => some (.vmax tc (opM w) (opXs w) (opQb w) (opQa w) (opQd w))
  | 0x06 => some (.vmov tc (opM w) (opXs w) (opQb w) (opQa w) (opQd w))
  | 0x07 => some (.vcvt tc (opM w) (opXs w) (opQb w) (opQa w) (opQd w))
  | 0x08 => some (.vceq tc (opM w) (opXs w) (opQb w) (opQa w) (opQd w))
  | 0x09 => some (.vclt tc (opM w) (opXs w) (opQb w) (opQa w) (opQd w))
  | 0x0A => some (.vcle tc (opM w) (opXs w) (opQb w) (opQa w) (opQd w))
  | 0x10 => some (.vfun tc (opM w) (opXs w) (opQb w) (opQa w) (opQd w))
  | 0x11 => some (.vred tc (opM w) (opXs w) (opQb w) (opQa w) (opQd w))
  | 0x12 => some (.vscan tc (opM w) (opXs w) (opQb w) (opQa w) (opQd w))
  | 0x18 => some (.vtopk tc (opM w) (opXs w) (opQb w) (opQa w) (opQd w))
  | 0x19 => some (.vcmprs tc (opM w) (opXs w) (opQb w) (opQa w) (opQd w))
  | 0x1A => some (.vexpd tc (opM w) (opXs w) (opQb w) (opQa w) (opQd w))
  | 0x1C => some (.vrand tc (opM w) (opXs w) (opQb w) (opQa w) (opQd w))
  | 0x1D => some (.vtrn tc (opM w) (opXs w) (opQb w) (opQa w) (opQd w))
  | _ => none

/-- Custom-3, by op6. -/
def custom3 (tc w : Nat) : Option Instr :=
  match bitsOf 31 26 w with
  | 0x00 => some (.dld tc (opM w) (opXs w) (opQb w) (opQa w) (opQd w))
  | 0x01 => some (.dst tc (opM w) (opXs w) (opQb w) (opQa w) (opQd w))
  | 0x02 => some (.dvin tc (opM w) (opXs w) (opQb w) (opQa w) (opQd w))
  | 0x03 => some (.dvout tc (opM w) (opXs w) (opQb w) (opQa w) (opQd w))
  | 0x04 => some (.dpf tc (opM w) (opXs w) (opQb w) (opQa w) (opQd w))
  | 0x08 => some (.drly tc (opM w) (opXs w) (opQb w) (opQa w) (opQd w))
  | _ => none

/-! Loads, stores, atomics, CSRs and the environment -/

/-- ECALL and EBREAK; any other instruction of the system opcode without a CSR is undefined here (R43). -/
def systemWord (tc w : Nat) : Option Instr :=
  if bitsOf 14 12 w ≠ 0 then some (.pacerCsrAccess tc (f3Of w) (BitVec.ofNat 12 (bitsOf 31 20 w)) (rdOf w) (rs1Of w))
  else if w = 0x73 then some (.ecall tc)
  else if w = 0x100073 then some (.ebreak tc false)
  else none

/-- A 32-bit word that rvWord leaves to another command. -/
def pacerLong (tc w : Nat) : Option Instr :=
  match bitsOf 6 0 w with
  | 0x03 => some (.pacerLoad tc false (f3Of w) (rdOf w) (rs1Of w) (BitVec.ofNat 12 (bitsOf 31 20 w)))
  | 0x23 => some (.pacerStore tc false (f3Of w) (rs1Of w) (rs2Of w) (BitVec.ofNat 12 (bitsOf 31 25 w * 32 + bitsOf 11 7 w)))
  | 0x2F => some (.pacerAtomic tc (BitVec.ofNat 5 (bitsOf 31 27 w)) (f3Of w) (rdOf w) (rs1Of w) (rs2Of w))
  | 0x73 => systemWord tc w
  | 0x0B => custom0 tc w
  | 0x2B => custom1 tc w
  | 0x5B => custom2 tc w
  | 0x7B => custom3 tc w
  | _ => none

/-- Registers x8 to x15 of the compressed forms. -/
def cReg (n : Nat) : BitVec 5 := BitVec.ofNat 5 (8 + n)

/-- A compressed word that rvHalf leaves to another command. -/
def pacerShort (tc w : Nat) : Option Instr :=
  let f3 := bitsOf 15 13 w
  let u2 := bitsOf 12 10 w * 8 + bitsOf 6 6 w * 4 + bitsOf 5 5 w * 64
  let u3 := bitsOf 12 10 w * 8 + bitsOf 6 5 w * 64
  let imm := fun (n : Nat) => BitVec.ofNat 12 n
  match w % 4, f3 with
  | 0, 2 => some (.pacerLoad tc true 2 (cReg (bitsOf 4 2 w)) (cReg (bitsOf 9 7 w)) (imm u2))
  | 0, 3 => some (.pacerLoad tc true 3 (cReg (bitsOf 4 2 w)) (cReg (bitsOf 9 7 w)) (imm u3))
  | 0, 6 => some (.pacerStore tc true 2 (cReg (bitsOf 9 7 w)) (cReg (bitsOf 4 2 w)) (imm u2))
  | 0, 7 => some (.pacerStore tc true 3 (cReg (bitsOf 9 7 w)) (cReg (bitsOf 4 2 w)) (imm u3))
  | 2, 2 => some (.pacerLoad tc true 2 (rdOf w) 2 (imm (bitsOf 12 12 w * 32 + bitsOf 6 4 w * 4 + bitsOf 3 2 w * 64)))
  | 2, 3 => some (.pacerLoad tc true 3 (rdOf w) 2 (imm (bitsOf 12 12 w * 32 + bitsOf 6 5 w * 8 + bitsOf 4 2 w * 64)))
  | 2, 6 => some (.pacerStore tc true 2 2 (BitVec.ofNat 5 (bitsOf 6 2 w)) (imm (bitsOf 12 9 w * 4 + bitsOf 8 7 w * 64)))
  | 2, 7 => some (.pacerStore tc true 3 2 (BitVec.ofNat 5 (bitsOf 6 2 w)) (imm (bitsOf 12 10 w * 8 + bitsOf 9 7 w * 64)))
  | 2, 4 => some (.ebreak tc true)
  | _, _ => none

/-- The instruction of another command that a fetched word holds; none for an undefined encoding. -/
def pacerInstr (tc w : Nat) : Option Instr := if w % 4 = 3 then pacerLong tc w else pacerShort tc (w % 65536)

end Sys2Proof.Machine
end

