-- ==== Sys2Proof/Machine/Custom.lean ====
section
/-! DEFINITION. PACER_SCALAR_OP (R43, R64 to R66): a fetched word runs as the instruction it encodes; an undefined encoding is illegal (R51, R65). -/

namespace Sys2Proof.Machine

open Sys2Proof

/-- The meaning of an instruction that a word can encode. -/
def runDecoded (i : Instr) (s : State) : Host.Outcome State Fault Refusal :=
  match i with
  | .psetq tc rd rs1 rs2 => execPsetq tc rd rs1 rs2 s
  | .pgetq tc rd rs1 rs2 => execPgetq tc rd rs1 rs2 s
  | .pqadd tc rd rs1 rs2 => execPqadd tc rd rs1 rs2 s
  | .ptag tc rd rs1 rs2 => execPtag tc rd rs1 rs2 s
  | .pwait tc rd rs1 rs2 => execPwait tc rd rs1 rs2 s
  | .pfence tc rd rs1 rs2 => execPfence tc rd rs1 rs2 s
  | .pstat tc rd rs1 rs2 => execPstat tc rd rs1 rs2 s
  | .prdop tc rd rs1 rs2 => execPrdop tc rd rs1 rs2 s
  | .pdone tc rd rs1 rs2 => execPdone tc rd rs1 rs2 s
  | .pperf tc rd rs1 rs2 => execPperf tc rd rs1 rs2 s
  | .pbsig tc rd rs1 rs2 => execPbsig tc rd rs1 rs2 s
  | .pbwait tc rd rs1 rs2 => execPbwait tc rd rs1 rs2 s
  | .psqrd tc rd rs1 rs2 => execPsqrd tc rd rs1 rs2 s
  | .psqadv tc rd rs1 rs2 => execPsqadv tc rd rs1 rs2 s
  | .pfret tc rd rs1 rs2 => execPfret tc rd rs1 rs2 s
  | .pacerLoad tc compressed funct3 rd rs1 imm => execPacerLoad tc compressed funct3 rd rs1 imm s
  | .pacerStore tc compressed funct3 rs1 rs2 imm => execPacerStore tc compressed funct3 rs1 rs2 imm s
  | .pacerAtomic tc funct5 funct3 rd rs1 rs2 => execPacerAtomic tc funct5 funct3 rd rs1 rs2 s
  | .pacerCsrAccess tc funct3 csr rd rs1 => execPacerCsrAccess tc funct3 csr rd rs1 s
  | .ecall tc => execEcall tc s
  | .ebreak tc compressed => execEbreak tc compressed s
  | .mldw tc m xs qb qa qd => execMldw tc m xs qb qa qd s
  | .mmul tc m xs qb qa qd => execMmul tc m xs qb qa qd s
  | .mrd tc m xs qb qa qd => execMrd tc m xs qb qa qd s
  | .mlda tc m xs qb qa qd => execMlda tc m xs qb qa qd s
  | .mzero tc m xs qb qa qd => execMzero tc m xs qb qa qd s
  | .vadd tc m xs qb qa qd => execVadd tc m xs qb qa qd s
  | .vsub tc m xs qb qa qd => execVsub tc m xs qb qa qd s
  | .vmul tc m xs qb qa qd => execVmul tc m xs qb qa qd s
  | .vfma tc m xs qb qa qd => execVfma tc m xs qb qa qd s
  | .vmin tc m xs qb qa qd => execVmin tc m xs qb qa qd s
  | .vmax tc m xs qb qa qd => execVmax tc m xs qb qa qd s
  | .vmov tc m xs qb qa qd => execVmov tc m xs qb qa qd s
  | .vcvt tc m xs qb qa qd => execVcvt tc m xs qb qa qd s
  | .vceq tc m xs qb qa qd => execVceq tc m xs qb qa qd s
  | .vclt tc m xs qb qa qd => execVclt tc m xs qb qa qd s
  | .vcle tc m xs qb qa qd => execVcle tc m xs qb qa qd s
  | .vfun tc m xs qb qa qd => execVfun tc m xs qb qa qd s
  | .vred tc m xs qb qa qd => execVred tc m xs qb qa qd s
  | .vscan tc m xs qb qa qd => execVscan tc m xs qb qa qd s
  | .vtopk tc m xs qb qa qd => execVtopk tc m xs qb qa qd s
  | .vcmprs tc m xs qb qa qd => execVcmprs tc m xs qb qa qd s
  | .vexpd tc m xs qb qa qd => execVexpd tc m xs qb qa qd s
  | .vrand tc m xs qb qa qd => execVrand tc m xs qb qa qd s
  | .vtrn tc m xs qb qa qd => execVtrn tc m xs qb qa qd s
  | .dld tc m xs qb qa qd => execDld tc m xs qb qa qd s
  | .dst tc m xs qb qa qd => execDst tc m xs qb qa qd s
  | .dvin tc m xs qb qa qd => execDvin tc m xs qb qa qd s
  | .dvout tc m xs qb qa qd => execDvout tc m xs qb qa qd s
  | .dpf tc m xs qb qa qd => execDpf tc m xs qb qa qd s
  | .drly tc m xs qb qa qd => execDrly tc m xs qb qa qd s
  | _ => .next s

/-- An instruction that touches registers and the pc alone runs here; a word of another command runs as that command does. -/
def execPacerScalarOp (tc : Nat) (word : BitVec 32) (s : State) : Host.Outcome State Fault Refusal :=
  let res := fun (_ : Unit) => rvScalar word.toNat (tcAt s tc).pc (xReg (tcAt s tc))
  let run := fun (_ : Unit) => onUnit (okTc tc) (pacerRun tc (.pacerScalarOp tc word) (rvLen word.toNat) (fun _ s =>
    match rvScalar word.toNat (tcAt s tc).pc (xReg (tcAt s tc)) with
    | .done rd v pc => .jump (tcMod s tc fun c => xPut c rd v) pc
    | _ => .fault 1) s)
  match res () with
  | .other => (match pacerInstr tc word.toNat with
    | some i => runDecoded i s
    | none => run ())
  | _ => run ()

end Sys2Proof.Machine
end

