-- ==== Sys2Proof/Machine/Debug.lean ====
section
/-! DEFINITION. The debug port (R475): the debug module of the application cores after the RISC-V External Debug Support specification 0.13.2,
whose layout is PRESUMED (log 145); halted tensor cores; the controllers. -/

namespace Sys2Proof.Machine

open Sys2Proof

/-- The level that opens a debugger operation (R475). -/
def debugLevel : DebugOp → Nat
  | .readIdcode => 0
  | .readDm _ => 1
  | .writeDm _ _ => 1
  | .haltCore _ => 1
  | .resumeCore _ => 1
  | .readCoreReg _ _ => 1
  | .writeCoreReg _ _ _ => 1
  | .resumePacer _ => 2
  | .readTile _ _ => 2
  | .writeTile _ _ _ => 2
  | .readRegion _ _ => 2
  | .writeRegion _ _ _ => 2
  | .readScoreboard _ => 2
  | .writeScoreboard _ _ _ _ _ => 2
  | .clearScoreboard _ _ => 2
  | .haltController _ => 3
  | .resumeController _ => 3
  | .readController _ _ => 3
  | .writeController _ _ _ => 3

/-- An application core a debugger can reach: present and started. -/
def coreReached (s : State) (n : Nat) : Bool := acPresent s n && (coreAt s n).on
def onCore (n : Nat) (f : Core → State) (s : State) : State := if coreReached s n then f (coreAt s n) else s

/-- A tensor core the debugger can look into: halted at EBREAK. -/
def onHalted (n : Nat) (f : TCore → State) (s : State) : State := if (tcAt s n).halted then f (tcAt s n) else s

/-! The debug module -/

def dmMod (f : Dm → Dm) (s : State) : State := { s with sec := { s.sec with dm := f s.sec.dm } }

/-- dcsr: version 4, the bits a debugger writes, the cause of the halt, the core's mode. -/
def dcsrRead (c : Core) : W64 := BitVec.ofNat 64 (2 ^ 30 + (c.dcsr &&& 0x3B1C4).toNat + c.priv + 32 * b2n c.virt)
def dcsrSet (v : W64) (c : Core) : Core :=
  { c with dcsr := (c.dcsr &&& 0x1C0) ||| (v.truncate 32 &&& 0x3B004), priv := if fld 1 0 v = 2 then c.priv else fld 1 0 v, virt := bit 5 v && decide (fld 1 0 v ≠ 3) }

/-- A register by its abstract number: CSRs from 0, x from 0x1000, f from 0x1020; dcsr and dpc are 0x7B0 and 0x7B1. -/
def dmRegRead (n r : Nat) (s : State) : Option (W64 × State) :=
  let c := coreAt s n
  if r = 0x7B0 then some (dcsrRead c, s)
  else if r = 0x7B1 then some (c.pc, s)
  else if r < 0x1000 then some (acCsr n r s)
  else if r < 0x1020 then some (coreX c (r - 0x1000), s)
  else if r < 0x1040 then some (tget 0 c.f (r - 0x1020), s)
  else none

def dmRegWrite (n r : Nat) (v : W64) (s : State) : Option State :=
  if r = 0x7B0 then some (acMod n (dcsrSet v) s)
  else if r = 0x7B1 then some (acMod n (fun c => { c with pc := v }) s)
  else if r < 0x1000 then
    (if r / 1024 = 3 then none
     else let d := if csrExact r then (0, s) else drawFree s
          some (acMod n (csrSet r v d.1) d.2))
  else if r < 0x1020 then some (acMod n (fun c => coreXPut c (r - 0x1000) v) s)
  else if r < 0x1040 then some (acMod n (fun c => { c with f := tset 0 c.f (r - 0x1020) v }) s)
  else none

def dmError (k : Nat) (s : State) : State := dmMod (fun d => { d with cmderr := k }) s

/-- Access Register: 32 or 64 bits read, 64 bits written. Errors: 2 not supported, 3 exception, 4 the core is not halted. -/
def dmAccess (w : Nat) (s : State) : State :=
  let n := s.sec.dm.hart
  let size := bitsOf 22 20 w
  if bitsOf 31 24 w ≠ 0 ∨ w.testBit 19 ∨ w.testBit 18 then dmError 2 s
  else if !(coreReached s n) || !((coreAt s n).halted) then dmError 4 s
  else if !(w.testBit 17) then s
  else if w.testBit 16 then
    (if size ≠ 3 then dmError 2 s
     else match dmRegWrite n (w % 65536) (BitVec.ofNat 64 (s.sec.dm.data0.toNat + 2 ^ 32 * s.sec.dm.data1.toNat)) s with
       | some t => t
       | none => dmError 3 s)
  else if size ≠ 2 ∧ size ≠ 3 then dmError 2 s
  else match dmRegRead n (w % 65536) s with
    | some (v, t) => dmMod (fun d => { d with data0 := v.truncate 32, data1 := if size = 3 then (v >>> 32).truncate 32 else d.data1 }) t
    | none => dmError 3 s

/-- A core halts for the debugger, or runs on. -/
def coreHalt (n : Nat) (s : State) : State :=
  onCore n (fun c => if c.halted then s else corePut s n { c with halted := true, dcsr := dcsrCause 3 c.dcsr }) s
def coreResume (n : Nat) (s : State) : State := onCore n (fun c => corePut s n { c with halted := false }) s

/-- dmcontrol: dmactive 0 resets the module; haltreq, resumereq and hartsel act. It resets no hart (DESIGN CHOICE, log 145). -/
def dmControl (w : Nat) (s : State) : State :=
  if !(w.testBit 0) then dmMod (fun _ => {}) s
  else
    let n := bitsOf 25 16 w + 1024 * bitsOf 15 6 w
    let t := dmMod (fun d => { d with active := true, hart := n, acked := if w.testBit 30 then d.acked.filter (fun k => decide (k ≠ n)) else d.acked }) s
    if w.testBit 31 then coreHalt n t
    else if w.testBit 30 && coreReached t n then coreResume n (dmMod (fun d => { d with acked := insNat n d.acked }) t)
    else t

/-- dmstatus of the hart selected: version 2, authenticated. -/
def dmStatus (s : State) : Nat :=
  let n := s.sec.dm.hart
  let up := coreReached s n
  let f := fun (i : Nat) (b : Bool) => b2n b * (3 * 2 ^ i)
  2 + 0x80 + f 8 (up && (coreAt s n).halted) + f 10 (up && !((coreAt s n).halted)) + f 12 (decide (n < 128) && !up) + f 14 (decide (128 ≤ n)) +
    f 16 (s.sec.dm.acked.contains n)

def dmRead (r : Nat) (s : State) : W64 :=
  let d := s.sec.dm
  BitVec.ofNat 64 (match r with
    | 0x04 => d.data0.toNat
    | 0x05 => d.data1.toNat
    | 0x10 => b2n d.active + 65536 * (d.hart % 1024) + 64 * (d.hart / 1024)
    | 0x11 => dmStatus s
    | 0x16 => 2 + 256 * d.cmderr
    | _ => 0)

def dmWrite (r : Nat) (v : W32) (s : State) : State :=
  if r = 0x10 then dmControl v.toNat s
  else if !(s.sec.dm.active) then s
  else match r with
    | 0x04 => dmMod (fun d => { d with data0 := v }) s
    | 0x05 => dmMod (fun d => { d with data1 := v }) s
    | 0x16 => dmMod (fun d => { d with cmderr := d.cmderr &&& (7 - bitsOf 10 8 v.toNat) }) s
    | 0x17 => if s.sec.dm.cmderr = 0 then dmAccess v.toNat s else s
    | _ => s

/-! The scoreboard (R58 to R60) -/

/-- The words of a scoreboard entry: tag, operation, mode, what it read at issue, its slot, its flags, and its read and write ranges. -/
def opWords (o : Op) : List W64 :=
  [BitVec.ofNat 64 o.tag, BitVec.ofNat 64 o.eng.toCtorIdx, BitVec.ofNat 64 o.m, o.ctl, o.ctl2, o.qa, o.qb, o.qd, o.q1, o.q2, o.maskA, o.maskD,
   BitVec.ofNat 64 o.slot, BitVec.ofNat 64 (b2n o.started + 2 * b2n o.readDone + 4 * b2n o.performed + 8 * b2n o.accepted)] ++
  (o.reads ++ o.writes).map fun r => BitVec.ofNat 64 (r.1 + 2 ^ 32 * r.2)

/-! The controllers' memories (R453) -/

/-- Key of a byte of a controller's own memory. -/
def ctrlKey (security : Bool) (a : Nat) : Nat := 2 * a + b2n security

/-- A byte of it: of the security controller's 64 KiB of ROM and 256 KiB of SRAM behind it. -/
def ctrlThere (security : Bool) (a : Nat) : Bool := !security || decide (a < 0x50000)

/-- The mask ROM takes no write. -/
def ctrlWritable (security : Bool) (a : Nat) : Bool := !security || (decide (0x10000 ≤ a) && decide (a < 0x50000))

/-- The operation itself (R475). -/
def debugEffect (op : DebugOp) (s : State) : State :=
  match op with
  | .readIdcode => emit (.debugData (Config.idCode.zeroExtend 64)) s
  | .readDm r => emit (.debugData (dmRead r.toNat s)) s
  | .writeDm r v => dmWrite r.toNat v s
  | .haltCore n => coreHalt n s
  | .resumeCore n => coreResume n s
  | .readCoreReg n r => onCore n (fun c => if c.halted then emit (.debugData (tget 0 c.x r.toNat)) s else s) s
  | .writeCoreReg n r v => onCore n (fun c => if c.halted && decide (r ≠ 0) then corePut s n { c with x := tset 0 c.x r.toNat v } else s) s
  | .resumePacer n => onHalted n (fun c => tcPut s n { c with halted := false }) s
  | .readTile n a => onHalted n (fun c => emit (.debugData ((tget 0 c.tile a).zeroExtend 64)) s) s
  | .writeTile n a v => onHalted n (fun c => tcPut s n { c with tile := tset 0 c.tile a v }) s
  | .readRegion n q => onHalted n (fun c => emit (.debugData (tget 0 c.q q.toNat)) s) s
  | .writeRegion n q v => onHalted n (fun c => tcPut s n { c with q := tset 0 c.q q.toNat v }) s
  | .readScoreboard n => onHalted n (fun c => c.sb.foldl (fun t o => (opWords o).foldl (fun u w => emit (.debugData w) u) t) s) s
  | .writeScoreboard n tag reads writes readDone => onHalted n (fun c => tcPut s n { c with
      sb := c.sb.map fun o => if o.tag = tag then { o with reads := reads, writes := writes, readDone := readDone } else o }) s
  | .clearScoreboard n tag => onHalted n (fun c => tcPut s n { c with sb := c.sb.filter fun o => decide (o.tag ≠ tag) }) s
  | .haltController sc => secMod (fun k => if sc then { k with haltSec := true } else { k with haltClaryn := true }) s
  | .resumeController sc => secMod (fun k => if sc then { k with haltSec := false } else { k with haltClaryn := false }) s
  | .readController sc a =>
    if !(ctrlThere sc a) then s
    else
      let b := match aget s.sec.ctrlMem (ctrlKey sc a) with
        | some v => v
        | none => Config.controllerByte sc a
      emit (.debugData (b.zeroExtend 64)) s
  | .writeController sc a v => if ctrlWritable sc a then secMod (fun k => { k with ctrlMem := aput k.ctrlMem (ctrlKey sc a) v }) s else s

/-- Level 0 is open whenever the E9 has power; the others while package reset is released. -/
def debugOpen (s : State) (op : DebugOp) : Bool :=
  if debugLevel op = 0 then decide (s.boot.phase ≠ .off) else !(inReset s) && decide (debugLevel op ≤ s.sec.debug)

def execDebugPortAccess (op : DebugOp) (s : State) : Host.Outcome State Fault Refusal :=
  onUnit (okDebug op) (onlyIf (debugOpen s op) (debugEffect op s) s)

end Sys2Proof.Machine
end

