-- ==== Sys2Proof/Machine/Pcie.lean ====
section
/-! DEFINITION. The PCIe controllers (R377 to R388): inbound reads and writes, the endpoint's BARs and its reset, completions of outbound
reads, link changes and messages; and what a request without a response comes to (R35, R260). -/

namespace Sys2Proof.Machine

open Sys2Proof

def pcieReq (p : Nat) : Requester := ⟨3, p, none⟩

/-- A controller on which a request can arrive: present, its link up, and the E9 past discovery. -/
def pcieUp (s : State) (p : Nat) : Bool := pciePresent s p && decide ((pcieAt s p).rate ≠ 0) && !(inReset s)

/-- What an inbound request meets is in no state to serve it yet: the request waits at its controller (R32, R279, R297, R316). -/
def inboundFree (p : Nat) (read : Bool) (pa n : Nat) (t s : State) : State := whenFree (pcieReq p) (partOf s (pcieReq p)) read pa n t s

/-! Where an inbound request goes -/

inductive Inbound where
  | regs (a : Nat)                 -- registers of a window
  | hbm (pa : Nat)                 -- local HBM through BAR4
  | mem (pa : Nat)                 -- E9 memory below a root port
  | refused                        -- Unsupported Request
deriving DecidableEq, Repr

/-- The endpoint's BARs (R380, R381, R483): while held, BAR2 alone. -/
def barTarget (s : State) (bar addr n : Nat) : Option Inbound :=
  let ok := running s
  match bar with
  | 0 => if addr + n ≤ 0x8000000 then some (if ok then .regs (winBase 14 + 0x100000000 + addr) else .refused) else none
  | 2 => if addr + n ≤ 0x4000000 then some (if ok || decide (s.boot.phase = .held) then .regs (winBase 14 + 0x108000000 + addr) else .refused) else none
  | 4 => if addr + n ≤ 2 ^ (30 + (pcieAt s 0).barLog) then some (if ok then .hbm ((regGet s (peReg 0 0x10)).toNat + addr) else .refused) else none
  | _ => none

/-- A root port's reach (R379). -/
def rootTarget (s : State) (addr : Nat) (word : Bool) : Inbound :=
  match target s addr with
  | .hbm _ => .mem addr
  | .board _ _ => .mem addr
  | .mmio w o => if word ∧ ((fileAt addr).isSome ∧ addr % 0x1000 = 0 ∨ w = 14 ∧ o = 0x108000000) then .regs addr else .refused
  | _ => if addr < 6 * tileSize ∨ inWindow addr then .mem addr else .refused

/-- Where a request goes; none where no such request can arrive. `word` tells a 32-bit write. -/
def inboundTo (s : State) (p bar addr n : Nat) (word : Bool) : Option Inbound :=
  if isEndpoint s p then barTarget s bar addr n else some (rootTarget s addr word)

/-! Reads (R386): every posted write before has taken effect, since each takes effect in its own command -/

/-- Completion status (PCIe): 0 successful, 1 Unsupported Request for NO_TARGET and REACH, 4 Completer Abort otherwise (R260). -/
def cplStatus (code : Nat) : Nat := if code = 1 ∨ code = 4 then 1 else 4

/-- The first error of an access through BAR4: nothing outside local HBM is behind it (R381). -/
def barError (s : State) (part : Option Nat) (write : Bool) (pa n : Nat) : Option (Nat × Nat) :=
  if 6 * tileSize ≤ pa then some (1, pa)
  else match rangeError s part write pa (min (pa + n) (6 * tileSize) - pa) with
  | some e => some e
  | none => if 6 * tileSize < pa + n then some (1, 6 * tileSize) else none

def answerRead (p : Nat) (r : Except (Nat × Nat) (List Byte) × State) : State :=
  match r.1 with
  | .ok l => emit (.pcieCompletion p 0 l) r.2
  | .error e => emit (.pcieCompletion p (cplStatus e.1) []) r.2

def memAnswer (p pa n : Nat) (s : State) : State :=
  inboundFree p true pa n (answerRead p (memRead (pcieReq p) (partOf s (pcieReq p)) pa n s)) s

def inboundReadEffect (p bar addr n : Nat) (s : State) : State :=
  if !(pcieUp s p) || decide (n = 0) || decide (4096 < n) then s
  else match inboundTo s p bar addr n false with
  | none => s
  | some .refused => emit (.pcieCompletion p 1 []) s
  | some (.regs a) => inboundFree p true a n (let r := regLoad (n + 1) a n s; emit (.pcieCompletion p 0 r.1) r.2) s
  | some (.hbm pa) =>
    match barError s (partOf s (pcieReq p)) false pa n with
    | some e => emit (.pcieCompletion p (cplStatus e.1) []) (memErr e.1 e.2 (pcieReq p) s)
    | none => memAnswer p pa n s
  | some (.mem pa) => memAnswer p pa n s

def execPcieInboundRead (p bar addr size : Nat) (flaws : List (Nat × Bool)) (s : State) : Host.Outcome State Fault Refusal :=
  onUnit (okPcie p) (withFlaws flaws (inboundReadEffect p bar addr size) s)

/-! Posted writes -/

/-- An inbound posted write with an error is discarded, logged and counted (R260, R385). -/
def discardIn (p : Nat) (s : State) : State :=
  let c := pcieAt s p
  if c.discards + 1 < 2 ^ 32 then pciePut s p { c with discards := c.discards + 1 }
  else
    let d := drawFree s
    pciePut d.2 p { pcieAt d.2 p with discards := d.1.toNat % 2 ^ 32 }

/-- The write hint of a controller (R382). -/
def peHint (s : State) (p : Nat) : Nat × Nat := (fld 1 0 (regGet s (peReg p 0)), fld 7 2 (regGet s (peReg p 0)))

def writeOr (p pa : Nat) (l : List Byte) (s : State) : State :=
  let r := memPut (pcieReq p) (partOf s (pcieReq p)) (peHint s p) pa l s
  match r.1 with
  | some _ => discardIn p r.2
  | none => r.2

def inboundWriteEffect (p bar addr : Nat) (l : List Byte) (s : State) : State :=
  if !(pcieUp s p) || decide (l = []) || decide (512 < l.length) then s
  else match inboundTo s p bar addr l.length (decide (l.length = 4) && decide (addr % 4 = 0)) with
  | none => s
  | some .refused => s
  | some (.regs a) => inboundFree p false a l.length (regBytes a l s) s
  | some (.hbm pa) =>
    match barError s (partOf s (pcieReq p)) true pa l.length with
    | some e => discardIn p (memErr e.1 e.2 (pcieReq p) s)
    | none => inboundFree p false pa l.length (writeOr p pa l s) s
  | some (.mem pa) => inboundFree p false pa l.length (writeOr p pa l s) s

def execPcieInboundWrite (p bar addr : Nat) (data : List Byte) (flaws : List (Nat × Bool)) (s : State) : Host.Outcome State Fault Refusal :=
  onUnit (okPcie p) (withFlaws flaws (inboundWriteEffect p bar addr data) s)

/-! Configuration requests at the endpoint (R380, R481, R483) -/

/-- The bits of a BAR's low word that hold its base, by BAR (R380): 128 MiB, 64 MiB, and BAR4's size. -/
def barMask (s : State) (k : Nat) : Nat :=
  2 ^ 32 - (if k = 0 then 2 ^ 27 else if k = 1 then 2 ^ 26 else 2 ^ min 32 (30 + (pcieAt s 0).barLog))

/-- Those of its high word: a BAR4 above 4 GiB takes bits of it. -/
def barHigh (s : State) (k : Nat) : Nat := 2 ^ 32 - (if k = 2 then 2 ^ ((pcieAt s 0).barLog - 2) else 1)

/-- The bits of a header word that software writes: the command register's memory space, bus master, parity, SERR and interrupt disable, the
BARs, the interrupt line. -/
def cfgMask (s : State) (reg : Nat) : Nat :=
  if reg = 1 then 0x546
  else if reg = 4 then barMask s 0 else if reg = 6 then barMask s 1 else if reg = 8 then barMask s 2
  else if reg = 5 then barHigh s 0 else if reg = 7 then barHigh s 1 else if reg = 9 then barHigh s 2
  else if reg = 15 then 0xFF else 0

/-- A doubleword of the header (type 0): the identities and BARs of R380, 64 bits each, BAR4 prefetchable; what else it holds is the PCIe
specification's, a free value. -/
def configWord (reg : Nat) (s : State) : W32 × State :=
  let v := tget 0 (pcieAt s 0).cfg reg &&& BitVec.ofNat 32 (cfgMask s reg)
  let d := drawFree s
  if reg = 0 then (0x00E91F3E, s)
  else if reg = 1 then (v ||| (d.1.truncate 32 &&& 0xFFFF0000), d.2)
  else if reg = 2 then (BitVec.ofNat 32 (0x12000000 + d.1.toNat % 256), d.2)
  else if reg = 4 ∨ reg = 6 then (v ||| 4, s)
  else if reg = 8 then (v ||| 12, s)
  else if reg = 5 ∨ reg = 7 ∨ reg = 9 then (v, s)
  else if reg = 15 then (v ||| (d.1.truncate 32 &&& 0xFFFFFF00), d.2)
  else (d.1.truncate 32, d.2)

def pcieMod (f : Pcie → Pcie) (s : State) : State := pciePut s 0 (f (pcieAt s 0))

/-- A write of a header word. -/
def configSet (reg : Nat) (v : W32) (s : State) : State :=
  let m := cfgMask s reg
  let t := if m = 0 then s else pcieMod (fun c => { c with cfg := tset 0 c.cfg reg (v &&& BitVec.ofNat 32 m) }) s
  if reg = 1 then releaseMsix t else t

/-- The MSI-X control word: Enable, Function Mask, and a table of 2,048 vectors (R377). -/
def msixWord (s : State) : W32 :=
  BitVec.ofNat 32 ((b2n (pcieAt s 0).msixEn * 2 ^ 15 + b2n (pcieAt s 0).msixMask * 2 ^ 14 + 2047) * 65536)

def msixSet (enable mask : Bool) (s : State) : State := releaseMsix (pcieMod (fun c => { c with msixEn := enable, msixMask := mask }) s)

/-- Error reporting, by role: what its masks, severities and control read before a write (PRESUMED, log 47). -/
def aerDefault (k : Nat) : W32 := if k = 2 then 0x00462030 else if k = 4 then 0x2000 else 0

/-- A status register tells of errors on the link, which the model does not have: a free value, as are the capability bits of the control. -/
def aerWord (k : Nat) (s : State) : W32 × State :=
  if k = 0 ∨ k = 3 ∨ 5 ≤ k then (let d := drawFree s; (d.1.truncate 32, d.2)) else (tget (aerDefault k) (pcieAt s 0).aer k, s)

def aerSet (k : Nat) (v : W32) (s : State) : State :=
  if k = 1 ∨ k = 2 ∨ k = 4 then pcieMod (fun c => { c with aer := tset (aerDefault k) c.aer k v }) s else s

/-- BAR4 takes a size of 1 GiB to 4 TiB; at 4 TiB its aperture is fixed at 0 (R380, R381). -/
def bar4SizeSet (k : Nat) (s : State) : State :=
  if k ≤ 12 then
    let t := pciePut s 0 { pcieAt s 0 with barLog := k }
    if k = 12 then regPut t (peReg 0 0x10) 0 else t
  else s

/-! The endpoint's reset (R384, R400) -/

/-- MSI-X vectors are masked again, and held messages discarded. -/
def msixReset (s : State) : State :=
  scMod { s with regs := s.regs.filter fun e => !(decide (winBase 14 + 0x10A000000 ≤ e.1) && decide (e.1 < winBase 14 + 0x10A008000)) }
    fun c => { c with pba := [] }

/-- The configuration space as a reset leaves it: the link, its reads and its counts stay. -/
def configReset (c : Pcie) : Pcie := { c with barLog := 0, cfg := [], msixEn := false, msixMask := false, devCtl := 0x2810, aer := [] }

def endpointResetEffect (s : State) : State :=
  let t := s.ctxs.foldl (fun u e => if (ctxAt u e.1).state = 1 then teardownStart e.1 u else u) s
  msixReset (regPut (pcieMod configReset t) (peReg 0 0x10) 0)

/-- Request Retry Status until the E9 runs or is held. -/
def configEffect (op : CfgOp) (s : State) : State :=
  if !(s.boot.modeSel && pcieUp s 0) then s
  else if !(running s || decide (s.boot.phase = .held)) then emit (.pcieConfig true 0) s
  else match op with
    | .read reg => let r := configWord reg s; emit (.pcieConfig false r.1) r.2
    | .write reg v => emit (.pcieConfig false 0) (configSet reg v s)
    | .bar4Size k => emit (.pcieConfig false 0) (bar4SizeSet k s)
    | .bar4Read => emit (.pcieConfig false (BitVec.ofNat 32 (256 * (10 + (pcieAt s 0).barLog)))) s
    | .msixRead => emit (.pcieConfig false (msixWord s)) s
    | .msixWrite enable mask => emit (.pcieConfig false 0) (msixSet enable mask s)
    | .devCtlRead => emit (.pcieConfig false (pcieAt s 0).devCtl) s
    | .devCtlWrite v =>
      let t := pcieMod (fun c => { c with devCtl := v &&& 0x7FFF }) s
      emit (.pcieConfig false 0) (if v.getLsbD 15 then endpointResetEffect t else t)
    | .aerRead k => let r := aerWord k s; emit (.pcieConfig false r.1) r.2
    | .aerWrite k v => emit (.pcieConfig false 0) (aerSet k v s)

def execPcieConfigRequest (op : CfgOp) (s : State) : Host.Outcome State Fault Refusal := .next (configEffect op s)

/-! Completions of outbound reads (R378) -/

/-- A read ends, with its bytes or with an error code of R259: a transfer's goes on with them, an application core's load completes. -/
def endRead (p : Nat) (r : PRead) (res : Except Nat (List Byte)) (s : State) : State :=
  let c := pcieAt s p
  let t := pciePut s p { c with reads := c.reads.filter fun x => decide (x.tag ≠ r.tag) }
  if r.dma then
    match res with
    | .error code => noteAnswer r.ac r.rd ⟨r.pa, code, []⟩ t
    | .ok l => noteAnswer r.ac r.rd ⟨r.pa, 0, l⟩ t
  else
    let t := acMod r.ac (fun k => { k with waits := none }) t
    match res with
    | .error code => errorTo code r.pa (acReq r.ac) false false t
    | .ok l =>
      let x := loadedValue r.rd r.size l
      emit (.readData r.pa x) (corePut t r.ac (landLoad r.rd l (coreAt t r.ac)))

/-- A completion brings all the bytes of its read, or an error. -/
def completionEffect (p tag : Nat) (ok : Bool) (data : List Byte) (s : State) : State :=
  match (pcieAt s p).reads.find? fun r => decide (r.tag = tag) with
  | some r => if !ok then endRead p r (.error 5) s else if data.length = r.size then endRead p r (.ok data) s else s
  | none => s

def execPcieCompletion (p tag : Nat) (ok : Bool) (data : List Byte) (s : State) : Host.Outcome State Fault Refusal :=
  onUnit (okPcie p) (completionEffect p tag ok data s)

/-! Reads of the controllers' registers -/

/-- R386: it reads 0, once every earlier posted write has taken effect. -/
def execEpFlushRead (p : Nat) (s : State) : Host.Outcome State Fault Refusal :=
  onUnit (okPcie p) (onlyIf (pciePresent s p) (emit (.readData (peReg p 0x18) 0) s) s)

def execPeDiscardsRead (p : Nat) (s : State) : Host.Outcome State Fault Refusal :=
  onUnit (okPcie p) (onlyIf (pciePresent s p) (emit (.readData (peReg p 0x20) (discardsRead p s).1) (discardsRead p s).2) s)

def execEndpointReset (s : State) : Host.Outcome State Fault Refusal :=
  .next (onlyIf (s.boot.modeSel && pciePresent s 0 && !(inReset s)) (endpointResetEffect s) s)

/-! Links, pins and messages (R390) -/

/-- A link that goes down ends its outstanding reads with REMOTE (R378), and its pins are no longer asserted. -/
def linkDown (p : Nat) (s : State) : State :=
  let t := (pcieAt s p).reads.foldl (fun u r => endRead p r (.error 5) u) s
  let t := pciePut t p { pcieAt t p with pins := [false, false, false, false] }
  (upto 0 4).foldl (fun u i => scInput (24 + 4 * p + i) false u) t

def rateOk (rate width : Nat) : Bool := (decide (rate = 0) && decide (width = 0)) || (decide (1 ≤ rate) && decide (rate ≤ 6) && [1, 2, 4, 8, 16].contains width)

def linkChangeEffect (p rate width : Nat) (s : State) : State :=
  if !(pciePresent s p) || inReset s || !(rateOk rate width) || (decide (rate ≠ 0) && s.boot.perst.contains p) then s
  else
    let t := scRaise (8 + p) 0 (pciePut s p { pcieAt s p with rate := rate, width := width })
    if rate = 0 then linkDown p t else t

def execPcieLinkChange (p rate width : Nat) (s : State) : Host.Outcome State Fault Refusal := onUnit (okPcie p) (linkChangeEffect p rate width s)

/-- A root port tracks the Assert and Deassert messages of each pin. -/
def intxEffect (p pin : Nat) (v : Bool) (s : State) : State :=
  if rootPort s p && pcieUp s p then scInput (24 + 4 * p + pin) v (pciePut s p { pcieAt s p with pins := lset (pcieAt s p).pins pin v }) else s

def execIntxAssert (p pin : Nat) (s : State) : Host.Outcome State Fault Refusal := onUnit (okPcie p && decide (pin < 4)) (intxEffect p pin true s)
def execIntxDeassert (p pin : Nat) (s : State) : Host.Outcome State Fault Refusal := onUnit (okPcie p && decide (pin < 4)) (intxEffect p pin false s)

def execPcieAerPmeMessage (p : Nat) (_pme : Bool) (s : State) : Host.Outcome State Fault Refusal :=
  onUnit (okPcie p) (onlyIf (pciePresent s p) (scRaise (8 + p) 0 s) s)

/-! Requests without a response (R35, R260) -/

/-- A transfer whose read of the attached host's memory has no completion meets the error as it completes; any other access of the core
ends with it at once. -/
def transferTimeout (tc pa : Nat) (s : State) : State :=
  match (upto 0 4).find? fun p => (pcieAt s p).reads.any fun r => r.dma && decide (r.ac = tc) && decide (r.pa = pa) with
  | some p => match (pcieAt s p).reads.find? fun r => r.dma && decide (r.ac = tc) && decide (r.pa = pa) with
    | some r => endRead p r (.error 6) s
    | none => s
  | none => match s.chips.pend.find? fun q => (decide (q.kind = 4) || decide (q.kind = 5)) && decide (q.ac = tc) && decide (q.pa = pa) with
    | some q => failWindow q 6 s
    | none => dmaErrorEffect tc 6 pa s

/-- An application core that waits for the address: its window access or its read of the attached host's memory ends with TIMEOUT; one that
runs meets it at its access of local memory (R260). -/
def coreTimeout (ac pa : Nat) (s : State) : State :=
  match s.chips.pend.find? fun q => decide (q.kind < 2) && decide (q.ac = ac) && decide (q.pa = pa) with
  | some q => failWindow q 6 s
  | none => (upto 0 4).foldl (fun t p => match (pcieAt t p).reads.find? fun r => !r.dma && decide (r.ac = ac) && decide (r.pa = pa) with
    | some r => endRead p r (.error 6) t
    | none => t) (if acLive s ac && (localAddr s pa).isSome then errorTo 6 pa (acReq ac) false false s else s)

/-- A range of `n` bytes holds an address. -/
def holdsAddr (a n pa : Nat) : Bool := decide (a ≤ pa) && decide (pa < a + n)

/-- The queue whose next descriptor or command lies at an address: one of a context, or a remote one. -/
def ringReader (s : State) (pa : Nat) : Option Nat :=
  (s.queues.find? fun e => hasWork s (e.1 / 4) (e.1 % 4) && holdsAddr (descAddr s (e.1 / 4) (e.1 % 4) e.2.accepted) 128 pa).map fun e => e.1
def remoteReader (s : State) (pa : Nat) : Option Nat :=
  (s.rqs.find? fun e => rqLive s e.1 && decide (e.2.status = 0) && decide (e.2.read ≠ e.2.tail) && holdsAddr (rqAddr e.2 e.2.read) 64 pa).map fun e => e.1

/-- The submission unit's ring, table or parameter read: the queue parks with RING_ERROR (R200). -/
def submitTimeout (item : Option Nat) (pa : Nat) (s : State) : State :=
  let t := memErr 6 pa (subReq item) s
  match item.bind (itemAt s) with
  | some it => parkQueue it.ctx it.q 3 it.idx t
  | none => match ringReader s pa, remoteReader s pa with
    | some k, _ => parkQueue (k / 4) (k % 4) 3 (queueAt s k).accepted t
    | none, some n => parkRq n 3 (rqAt s n).read t
    | none, none => t

/-- A page walk: the page does not resolve and none is requested. -/
def walkTimeout (item : Option Nat) (pa : Nat) (s : State) : State :=
  let t := memErr 6 pa (stuReq item) s
  match item with
  | none => t
  | some n => match itemAt t n with
    | none => t
    | some it =>
      if it.phase = .walking ∨ it.phase = .parked then settleAll (refuse n 0x10 t)
      else if it.phase = .running then transFault n (it.tcs.headD 0xFF) t
      else t

/-- TIMEOUT, as each requester sees it. -/
def timeoutEffect (who : Requester) (pa : Nat) (s : State) : State :=
  match who.kind with
  | 1 => transferTimeout who.num pa s
  | 2 => coreTimeout who.num pa s
  | 3 => if pcieUp s who.num then emit (.pcieCompletion who.num 4 []) (memErr 6 pa who s) else s
  | 5 => submitTimeout who.item pa s
  | 6 => walkTimeout who.item pa s
  | 7 => evqErrorEffect 6 s
  | _ => memErr 6 pa who s

def execTransactionTimeout (who : Requester) (pa : Nat) (s : State) : Host.Outcome State Fault Refusal :=
  onUnit (okRequester who) (timeoutEffect who pa s)

end Sys2Proof.Machine
end

