-- ==== Sys2Proof/Machine/Dispatch.lean ====
section
/-! DEFINITION. One arm for each command: the one direct call of its meaning. -/

namespace Sys2Proof.Machine

open Sys2Proof

def exec (i : Instr) (s : State) : Host.Outcome State Fault Refusal :=
  match i with
  | .pwrGoodAssert hot => Sys2Proof.Machine.execPwrGoodAssert hot s
  | .packageResetRelease modeSel boardSlot canNode fuseRow xd0Pass => Sys2Proof.Machine.execPackageResetRelease modeSel boardSlot canNode fuseRow xd0Pass s
  | .selfTestComplete die pass => Sys2Proof.Machine.execSelfTestComplete die pass s
  | .linkTrainingComplete link lanesUp lanesDown => Sys2Proof.Machine.execLinkTrainingComplete link lanesUp lanesDown s
  | .discoveryComplete micros => Sys2Proof.Machine.execDiscoveryComplete micros s
  | .bootCopyComplete micros => Sys2Proof.Machine.execBootCopyComplete micros s
  | .fatalLineAssert code unit detail => Sys2Proof.Machine.execFatalLineAssert code unit detail s
  | .fatalReportTimeout die code unit detail => Sys2Proof.Machine.execFatalReportTimeout die code unit detail s
  | .resetHoldEnd hot => Sys2Proof.Machine.execResetHoldEnd hot s
  | .dieBrownout die => Sys2Proof.Machine.execDieBrownout die s
  | .bondErrorDetected cd correctable => Sys2Proof.Machine.execBondErrorDetected cd correctable s
  | .flitCrcError link => Sys2Proof.Machine.execFlitCrcError link s
  | .heartbeatFlitSend link up => Sys2Proof.Machine.execHeartbeatFlitSend link up s
  | .heartbeatLoss link up => Sys2Proof.Machine.execHeartbeatLoss link up s
  | .checkFlitSend link up => Sys2Proof.Machine.execCheckFlitSend link up s
  | .checkFlitReceived link up lane errors newWindow => Sys2Proof.Machine.execCheckFlitReceived link up lane errors newWindow s
  | .eyeMarginScan u margins => Sys2Proof.Machine.execEyeMarginScan u margins s
  | .laneBitLockLost u up lane => Sys2Proof.Machine.execLaneBitLockLost u up lane s
  | .spareTrained u => Sys2Proof.Machine.execSpareTrained u s
  | .linkRetrainDone u => Sys2Proof.Machine.execLinkRetrainDone u s
  | .routeInstallDone link => Sys2Proof.Machine.execRouteInstallDone link s
  | .transactionTimeout who pa => Sys2Proof.Machine.execTransactionTimeout who pa s
  | .snoopTimeout md agent => Sys2Proof.Machine.execSnoopTimeout md agent s
  | .psetq tc rd rs1 rs2 => Sys2Proof.Machine.execPsetq tc rd rs1 rs2 s
  | .pgetq tc rd rs1 rs2 => Sys2Proof.Machine.execPgetq tc rd rs1 rs2 s
  | .pqadd tc rd rs1 rs2 => Sys2Proof.Machine.execPqadd tc rd rs1 rs2 s
  | .ptag tc rd rs1 rs2 => Sys2Proof.Machine.execPtag tc rd rs1 rs2 s
  | .pwait tc rd rs1 rs2 => Sys2Proof.Machine.execPwait tc rd rs1 rs2 s
  | .pfence tc rd rs1 rs2 => Sys2Proof.Machine.execPfence tc rd rs1 rs2 s
  | .pstat tc rd rs1 rs2 => Sys2Proof.Machine.execPstat tc rd rs1 rs2 s
  | .prdop tc rd rs1 rs2 => Sys2Proof.Machine.execPrdop tc rd rs1 rs2 s
  | .pdone tc rd rs1 rs2 => Sys2Proof.Machine.execPdone tc rd rs1 rs2 s
  | .pperf tc rd rs1 rs2 => Sys2Proof.Machine.execPperf tc rd rs1 rs2 s
  | .pbsig tc rd rs1 rs2 => Sys2Proof.Machine.execPbsig tc rd rs1 rs2 s
  | .pbwait tc rd rs1 rs2 => Sys2Proof.Machine.execPbwait tc rd rs1 rs2 s
  | .psqrd tc rd rs1 rs2 => Sys2Proof.Machine.execPsqrd tc rd rs1 rs2 s
  | .psqadv tc rd rs1 rs2 => Sys2Proof.Machine.execPsqadv tc rd rs1 rs2 s
  | .pfret tc rd rs1 rs2 => Sys2Proof.Machine.execPfret tc rd rs1 rs2 s
  | .pacerLoad tc compressed funct3 rd rs1 imm => Sys2Proof.Machine.execPacerLoad tc compressed funct3 rd rs1 imm s
  | .pacerStore tc compressed funct3 rs1 rs2 imm => Sys2Proof.Machine.execPacerStore tc compressed funct3 rs1 rs2 imm s
  | .pacerAtomic tc funct5 funct3 rd rs1 rs2 => Sys2Proof.Machine.execPacerAtomic tc funct5 funct3 rd rs1 rs2 s
  | .pacerScalarOp tc word => Sys2Proof.Machine.execPacerScalarOp tc word s
  | .pacerCsrAccess tc funct3 csr rd rs1 => Sys2Proof.Machine.execPacerCsrAccess tc funct3 csr rd rs1 s
  | .ecall tc => Sys2Proof.Machine.execEcall tc s
  | .ebreak tc compressed => Sys2Proof.Machine.execEbreak tc compressed s
  | .mldw tc m xs qb qa qd => Sys2Proof.Machine.execMldw tc m xs qb qa qd s
  | .mmul tc m xs qb qa qd => Sys2Proof.Machine.execMmul tc m xs qb qa qd s
  | .mrd tc m xs qb qa qd => Sys2Proof.Machine.execMrd tc m xs qb qa qd s
  | .mlda tc m xs qb qa qd => Sys2Proof.Machine.execMlda tc m xs qb qa qd s
  | .mzero tc m xs qb qa qd => Sys2Proof.Machine.execMzero tc m xs qb qa qd s
  | .vadd tc m xs qb qa qd => Sys2Proof.Machine.execVadd tc m xs qb qa qd s
  | .vsub tc m xs qb qa qd => Sys2Proof.Machine.execVsub tc m xs qb qa qd s
  | .vmul tc m xs qb qa qd => Sys2Proof.Machine.execVmul tc m xs qb qa qd s
  | .vfma tc m xs qb qa qd => Sys2Proof.Machine.execVfma tc m xs qb qa qd s
  | .vmin tc m xs qb qa qd => Sys2Proof.Machine.execVmin tc m xs qb qa qd s
  | .vmax tc m xs qb qa qd => Sys2Proof.Machine.execVmax tc m xs qb qa qd s
  | .vmov tc m xs qb qa qd => Sys2Proof.Machine.execVmov tc m xs qb qa qd s
  | .vcvt tc m xs qb qa qd => Sys2Proof.Machine.execVcvt tc m xs qb qa qd s
  | .vceq tc m xs qb qa qd => Sys2Proof.Machine.execVceq tc m xs qb qa qd s
  | .vclt tc m xs qb qa qd => Sys2Proof.Machine.execVclt tc m xs qb qa qd s
  | .vcle tc m xs qb qa qd => Sys2Proof.Machine.execVcle tc m xs qb qa qd s
  | .vfun tc m xs qb qa qd => Sys2Proof.Machine.execVfun tc m xs qb qa qd s
  | .vred tc m xs qb qa qd => Sys2Proof.Machine.execVred tc m xs qb qa qd s
  | .vscan tc m xs qb qa qd => Sys2Proof.Machine.execVscan tc m xs qb qa qd s
  | .vtopk tc m xs qb qa qd => Sys2Proof.Machine.execVtopk tc m xs qb qa qd s
  | .vcmprs tc m xs qb qa qd => Sys2Proof.Machine.execVcmprs tc m xs qb qa qd s
  | .vexpd tc m xs qb qa qd => Sys2Proof.Machine.execVexpd tc m xs qb qa qd s
  | .vrand tc m xs qb qa qd => Sys2Proof.Machine.execVrand tc m xs qb qa qd s
  | .vtrn tc m xs qb qa qd => Sys2Proof.Machine.execVtrn tc m xs qb qa qd s
  | .dld tc m xs qb qa qd => Sys2Proof.Machine.execDld tc m xs qb qa qd s
  | .dst tc m xs qb qa qd => Sys2Proof.Machine.execDst tc m xs qb qa qd s
  | .dvin tc m xs qb qa qd => Sys2Proof.Machine.execDvin tc m xs qb qa qd s
  | .dvout tc m xs qb qa qd => Sys2Proof.Machine.execDvout tc m xs qb qa qd s
  | .dpf tc m xs qb qa qd => Sys2Proof.Machine.execDpf tc m xs qb qa qd s
  | .drly tc m xs qb qa qd => Sys2Proof.Machine.execDrly tc m xs qb qa qd s
  | .operationStart tc tag flaws => Sys2Proof.Machine.execOperationStart tc tag flaws s
  | .operationComplete tc tag flaws => Sys2Proof.Machine.execOperationComplete tc tag flaws s
  | .bankStarvationPromote tc requester => Sys2Proof.Machine.execBankStarvationPromote tc requester s
  | .dmaErrorResponse tc fetch code pa => Sys2Proof.Machine.execDmaErrorResponse tc fetch code pa s
  | .fastEventEntry tc => Sys2Proof.Machine.execFastEventEntry tc s
  | .relayGroupStart g value => Sys2Proof.Machine.execRelayGroupStart g value s
  | .relayGroupEntryWrite g off value => Sys2Proof.Machine.execRelayGroupEntryWrite g off value s
  | .relayGroupBind g value => Sys2Proof.Machine.execRelayGroupBind g value s
  | .relayContributionAccept tc tag => Sys2Proof.Machine.execRelayContributionAccept tc tag s
  | .relayNodeCombine g round level node => Sys2Proof.Machine.execRelayNodeCombine g round level node s
  | .relayRoundComplete g => Sys2Proof.Machine.execRelayRoundComplete g s
  | .relayResultDeliver tc tag => Sys2Proof.Machine.execRelayResultDeliver tc tag s
  | .sqKeyWrite slot high value => Sys2Proof.Machine.execSqKeyWrite slot high value s
  | .keyChkUpdate slot => Sys2Proof.Machine.execKeyChkUpdate slot s
  | .sqBind slot value => Sys2Proof.Machine.execSqBind slot value s
  | .fsyncEdge periodNs => Sys2Proof.Machine.execFsyncEdge periodNs s
  | .ptpAnnounceReceive domain master rank => Sys2Proof.Machine.execPtpAnnounceReceive domain master rank s
  | .ptpSyncReceive domain master twoStep originNs receiptNs => Sys2Proof.Machine.execPtpSyncReceive domain master twoStep originNs receiptNs s
  | .ptpFollowUpReceive domain master originNs => Sys2Proof.Machine.execPtpFollowUpReceive domain master originNs s
  | .ptpDelayReqSend sentNs => Sys2Proof.Machine.execPtpDelayReqSend sentNs s
  | .ptpDelayRespReceive domain master receivedNs => Sys2Proof.Machine.execPtpDelayRespReceive domain master receivedNs s
  | .tbSourceWrite value => Sys2Proof.Machine.execTbSourceWrite value s
  | .tbStepAccept value => Sys2Proof.Machine.execTbStepAccept value s
  | .rasterWrite sub value => Sys2Proof.Machine.execRasterWrite sub value s
  | .releaseTimeReached ctx q => Sys2Proof.Machine.execReleaseTimeReached ctx q s
  | .starterStart die flaws => Sys2Proof.Machine.execStarterStart die flaws s
  | .deadlineReached item => Sys2Proof.Machine.execDeadlineReached item s
  | .reportHardLimit item => Sys2Proof.Machine.execReportHardLimit item s
  | .allowanceRampStep die => Sys2Proof.Machine.execAllowanceRampStep die s
  | .allowanceRecompute die => Sys2Proof.Machine.execAllowanceRecompute die s
  | .eclArm value => Sys2Proof.Machine.execEclArm value s
  | .eclipseMarker onPort n id => Sys2Proof.Machine.execEclipseMarker onPort n id s
  | .eclipseComplete drainNs => Sys2Proof.Machine.execEclipseComplete drainNs s
  | .contextEnable ctx flaws => Sys2Proof.Machine.execContextEnable ctx flaws s
  | .contextTeardown ctx => Sys2Proof.Machine.execContextTeardown ctx s
  | .contextTeardownDone ctx => Sys2Proof.Machine.execContextTeardownDone ctx s
  | .ctxCmdReserved value => Sys2Proof.Machine.execCtxCmdReserved value s
  | .ctxBaseWrite value => Sys2Proof.Machine.execCtxBaseWrite value s
  | .doorbell ctx q value => Sys2Proof.Machine.execDoorbell ctx q value s
  | .descriptorRead ctx q flaws => Sys2Proof.Machine.execDescriptorRead ctx q flaws s
  | .descriptorReread ctx q flaws => Sys2Proof.Machine.execDescriptorReread ctx q flaws s
  | .queueResume ctx q => Sys2Proof.Machine.execQueueResume ctx q s
  | .queueSkip ctx q => Sys2Proof.Machine.execQueueSkip ctx q s
  | .itemEnd item flaws => Sys2Proof.Machine.execItemEnd item flaws s
  | .batonOperation b op => Sys2Proof.Machine.execBatonOperation b op s
  | .batonOpWrite b op => Sys2Proof.Machine.execBatonOpWrite b op s
  | .batonValueWrite b value => Sys2Proof.Machine.execBatonValueWrite b value s
  | .batonEvtcondWrite b value => Sys2Proof.Machine.execBatonEvtcondWrite b value s
  | .batonBind b value => Sys2Proof.Machine.execBatonBind b value s
  | .ewinWrite ctx off value => Sys2Proof.Machine.execEwinWrite ctx off value s
  | .pageWalkComplete item flaws => Sys2Proof.Machine.execPageWalkComplete item flaws s
  | .prqWriteError code => Sys2Proof.Machine.execPrqWriteError code s
  | .prqHeadWrite value => Sys2Proof.Machine.execPrqHeadWrite value s
  | .pageResponseRetry tag flaws => Sys2Proof.Machine.execPageResponseRetry tag flaws s
  | .pageResponseInvalid tag => Sys2Proof.Machine.execPageResponseInvalid tag s
  | .prqBaseWrite value => Sys2Proof.Machine.execPrqBaseWrite value s
  | .tlbFill tc fetch va flaws => Sys2Proof.Machine.execTlbFill tc fetch va flaws s
  | .transferTranslationMiss tc tag fetch va flaws => Sys2Proof.Machine.execTransferTranslationMiss tc tag fetch va flaws s
  | .invCmdReserved value => Sys2Proof.Machine.execInvCmdReserved value s
  | .clusterInvalidate cl => Sys2Proof.Machine.execClusterInvalidate cl s
  | .engineInvAck tc => Sys2Proof.Machine.execEngineInvAck tc s
  | .clusterInvAck cl => Sys2Proof.Machine.execClusterInvAck cl s
  | .invalidationComplete nanos => Sys2Proof.Machine.execInvalidationComplete nanos s
  | .scrubStep pa corrected uncorrectable => Sys2Proof.Machine.execScrubStep pa corrected uncorrectable s
  | .pgretPop md => Sys2Proof.Machine.execPgretPop md s
  | .channelCandidate channel => Sys2Proof.Machine.execChannelCandidate channel s
  | .retCmd md value => Sys2Proof.Machine.execRetCmd md value s
  | .retGo md value => Sys2Proof.Machine.execRetGo md value s
  | .migrationComplete md => Sys2Proof.Machine.execMigrationComplete md s
  | .partBwWindow md => Sys2Proof.Machine.execPartBwWindow md s
  | .maintClean md evt => Sys2Proof.Machine.execMaintClean md evt s
  | .maintInvalidate md evt => Sys2Proof.Machine.execMaintInvalidate md evt s
  | .maintCleanInvalidate md evt => Sys2Proof.Machine.execMaintCleanInvalidate md evt s
  | .maintZero md evt => Sys2Proof.Machine.execMaintZero md evt s
  | .l2MaintClean u evt => Sys2Proof.Machine.execL2MaintClean u evt s
  | .l2MaintCleanInvalidate u evt => Sys2Proof.Machine.execL2MaintCleanInvalidate u evt s
  | .maintCmdReserved u value => Sys2Proof.Machine.execMaintCmdReserved u value s
  | .maintComplete u => Sys2Proof.Machine.execMaintComplete u s
  | .ncAccess who write pa size value flaws => Sys2Proof.Machine.execNcAccess who write pa size value flaws s
  | .gets req who fill pa esc dirFixed => Sys2Proof.Machine.execGets req who fill pa esc dirFixed s
  | .getm req who pa esc dirFixed => Sys2Proof.Machine.execGetm req who pa esc dirFixed s
  | .promote req who pa esc dirFixed => Sys2Proof.Machine.execPromote req who pa esc dirFixed s
  | .look unit who pa esc dirFixed => Sys2Proof.Machine.execLook unit who pa esc dirFixed s
  | .putplace unit who pa mask data hint hintId esc dirFixed flaws => Sys2Proof.Machine.execPutplace unit who pa mask data hint hintId esc dirFixed flaws s
  | .cashome who pa old new esc dirFixed flaws => Sys2Proof.Machine.execCashome who pa old new esc dirFixed flaws s
  | .fwds agent pa => Sys2Proof.Machine.execFwds agent pa s
  | .fwdm agent pa => Sys2Proof.Machine.execFwdm agent pa s
  | .inv agent pa => Sys2Proof.Machine.execInv agent pa s
  | .peek agent pa => Sys2Proof.Machine.execPeek agent pa s
  | .flushd agent pa => Sys2Proof.Machine.execFlushd agent pa s
  | .snack agent pa flaws => Sys2Proof.Machine.execSnack agent pa flaws s
  | .sndata agent pa flaws => Sys2Proof.Machine.execSndata agent pa flaws s
  | .grant req pa => Sys2Proof.Machine.execGrant req pa s
  | .grantack agent pa flaws => Sys2Proof.Machine.execGrantack agent pa flaws s
  | .nack req pa => Sys2Proof.Machine.execNack req pa s
  | .cohRetry req pa flaws => Sys2Proof.Machine.execCohRetry req pa flaws s
  | .vacack agent pa => Sys2Proof.Machine.execVacack agent pa s
  | .placeack agent pa flaws => Sys2Proof.Machine.execPlaceack agent pa flaws s
  | .homefill req pa corrected uncorrectable => Sys2Proof.Machine.execHomefill req pa corrected uncorrectable s
  | .ownerfill req pa => Sys2Proof.Machine.execOwnerfill req pa s
  | .placedata agent pa => Sys2Proof.Machine.execPlacedata agent pa s
  | .vacdata agent pa => Sys2Proof.Machine.execVacdata agent pa s
  | .vacclean agent pa => Sys2Proof.Machine.execVacclean agent pa s
  | .codewordReceive port lanes number newWindow flaws => Sys2Proof.Machine.execCodewordReceive port lanes number newWindow flaws s
  | .codewordUncorrectable port => Sys2Proof.Machine.execCodewordUncorrectable port s
  | .sbIdle port => Sys2Proof.Machine.execSbIdle port s
  | .sbAck port value => Sys2Proof.Machine.execSbAck port value s
  | .sbNak port value => Sys2Proof.Machine.execSbNak port value s
  | .sbCredit port value => Sys2Proof.Machine.execSbCredit port value s
  | .sbState port value => Sys2Proof.Machine.execSbState port value s
  | .sbGoingDown port reason => Sys2Proof.Machine.execSbGoingDown port reason s
  | .sbChipEvt port value => Sys2Proof.Machine.execSbChipEvt port value s
  | .ackSend port => Sys2Proof.Machine.execAckSend port s
  | .creditSend port cls => Sys2Proof.Machine.execCreditSend port cls s
  | .stateSend port field => Sys2Proof.Machine.execStateSend port field s
  | .portHeartbeatLoss port => Sys2Proof.Machine.execPortHeartbeatLoss port s
  | .portTrainAttempt port => Sys2Proof.Machine.execPortTrainAttempt port s
  | .winRd port hdr flaws => Sys2Proof.Machine.execWinRd port hdr flaws s
  | .winWr port hdr data flaws => Sys2Proof.Machine.execWinWr port hdr data flaws s
  | .winCpl port hdr data => Sys2Proof.Machine.execWinCpl port hdr data s
  | .put port hdr data flaws => Sys2Proof.Machine.execPut port hdr data flaws s
  | .putAck port hdr => Sys2Proof.Machine.execPutAck port hdr s
  | .get port hdr flaws => Sys2Proof.Machine.execGet port hdr flaws s
  | .getData port hdr data flaws => Sys2Proof.Machine.execGetData port hdr data flaws s
  | .relayUp port hdr data => Sys2Proof.Machine.execRelayUp port hdr data s
  | .relayDown port hdr data => Sys2Proof.Machine.execRelayDown port hdr data s
  | .unreachable port hdr => Sys2Proof.Machine.execUnreachable port hdr s
  | .boardWindowAccess ac write pa size value flaws => Sys2Proof.Machine.execBoardWindowAccess ac write pa size value flaws s
  | .rqDoorbell rq value => Sys2Proof.Machine.execRqDoorbell rq value s
  | .rqResume rq => Sys2Proof.Machine.execRqResume rq s
  | .rqSkip rq => Sys2Proof.Machine.execRqSkip rq s
  | .rqCfgWrite rq value => Sys2Proof.Machine.execRqCfgWrite rq value s
  | .rqCommandRead rq flaws => Sys2Proof.Machine.execRqCommandRead rq flaws s
  | .rqCommandStart rq flaws => Sys2Proof.Machine.execRqCommandStart rq flaws s
  | .rqCommandComplete rq => Sys2Proof.Machine.execRqCommandComplete rq s
  | .acInstruction ac compressed op flaws => Sys2Proof.Machine.execAcInstruction ac compressed op flaws s
  | .cboClean ac pa => Sys2Proof.Machine.execCboClean ac pa s
  | .cboFlush ac pa => Sys2Proof.Machine.execCboFlush ac pa s
  | .cboInval ac pa => Sys2Proof.Machine.execCboInval ac pa s
  | .cboZero ac pa => Sys2Proof.Machine.execCboZero ac pa s
  | .fenceI ac => Sys2Proof.Machine.execFenceI ac s
  | .imsicSeteipnum hart file ident => Sys2Proof.Machine.execImsicSeteipnum hart file ident s
  | .mtimerInterrupt hart supervisor => Sys2Proof.Machine.execMtimerInterrupt hart supervisor s
  | .pcieInboundRead p bar addr size flaws => Sys2Proof.Machine.execPcieInboundRead p bar addr size flaws s
  | .pcieInboundWrite p bar addr data flaws => Sys2Proof.Machine.execPcieInboundWrite p bar addr data flaws s
  | .pcieConfigRequest op => Sys2Proof.Machine.execPcieConfigRequest op s
  | .pcieCompletion p tag ok data => Sys2Proof.Machine.execPcieCompletion p tag ok data s
  | .epFlushRead p => Sys2Proof.Machine.execEpFlushRead p s
  | .peDiscardsRead p => Sys2Proof.Machine.execPeDiscardsRead p s
  | .pcieLinkChange p rate width => Sys2Proof.Machine.execPcieLinkChange p rate width s
  | .intxAssert p pin => Sys2Proof.Machine.execIntxAssert p pin s
  | .intxDeassert p pin => Sys2Proof.Machine.execIntxDeassert p pin s
  | .gpirqChange n asserted => Sys2Proof.Machine.execGpirqChange n asserted s
  | .scEvent source detail => Sys2Proof.Machine.execScEvent source detail s
  | .scPendSet value => Sys2Proof.Machine.execScPendSet value s
  | .scPendClr value => Sys2Proof.Machine.execScPendClr value s
  | .scSrcCfgWrite source value high => Sys2Proof.Machine.execScSrcCfgWrite source value high s
  | .evqWriteError code => Sys2Proof.Machine.execEvqWriteError code s
  | .railPowerRead milliwatts => Sys2Proof.Machine.execRailPowerRead milliwatts s
  | .opChangeComplete cd => Sys2Proof.Machine.execOpChangeComplete cd s
  | .thermalStep dieTemps hbmTemps => Sys2Proof.Machine.execThermalStep dieTemps hbmTemps s
  | .replanCmd value => Sys2Proof.Machine.execReplanCmd value s
  | .canFrame ident fd extended bytes => Sys2Proof.Machine.execCanFrame ident fd extended bytes s
  | .udpDatagram addr srcPort bytes => Sys2Proof.Machine.execUdpDatagram addr srcPort bytes s
  | .mailboxDoor channel value => Sys2Proof.Machine.execMailboxDoor channel value s
  | .read r => Sys2Proof.Machine.execRead r s
  | .write r value => Sys2Proof.Machine.execWrite r value s
  | .registerWrite pa value => Sys2Proof.Machine.execRegisterWrite pa value s
  | .portTrainingComplete port lanesTx lanesRx => Sys2Proof.Machine.execPortTrainingComplete port lanesTx lanesRx s
  | .pcieAerPmeMessage p pme => Sys2Proof.Machine.execPcieAerPmeMessage p pme s
  | .regulatorTimeout rail => Sys2Proof.Machine.execRegulatorTimeout rail s
  | .capControlStep => Sys2Proof.Machine.execCapControlStep s
  | .fastLimiterEngage estimateSum => Sys2Proof.Machine.execFastLimiterEngage estimateSum s
  | .thermalTrip unit centi => Sys2Proof.Machine.execThermalTrip unit centi s
  | .lapSlackCheck die slackMv => Sys2Proof.Machine.execLapSlackCheck die slackMv s
  | .replanComplete required fixedMargins => Sys2Proof.Machine.execReplanComplete required fixedMargins s
  | .powerCapWrite value => Sys2Proof.Machine.execPowerCapWrite value s
  | .powerModeWrite value => Sys2Proof.Machine.execPowerModeWrite value s
  | .arpRequest target sender => Sys2Proof.Machine.execArpRequest target sender s
  | .icmpEcho target sender payload => Sys2Proof.Machine.execIcmpEcho target sender payload s
  | .dhcpMessage kind addr leaseSeconds => Sys2Proof.Machine.execDhcpMessage kind addr leaseSeconds s
  | .readSeg r offset => Sys2Proof.Machine.execReadSeg r offset s
  | .writeSeg r offset total segment => Sys2Proof.Machine.execWriteSeg r offset total segment s
  | .describe r => Sys2Proof.Machine.execDescribe r s
  | .next r => Sys2Proof.Machine.execNext r s
  | .abort r => Sys2Proof.Machine.execAbort r s
  | .serviceUnknown r svc dir => Sys2Proof.Machine.execServiceUnknown r svc dir s
  | .segmentSessionTimeout via => Sys2Proof.Machine.execSegmentSessionTimeout via s
  | .storeComplete ok => Sys2Proof.Machine.execStoreComplete ok s
  | .resetCmd value => Sys2Proof.Machine.execResetCmd value s
  | .holdRelease value => Sys2Proof.Machine.execHoldRelease value s
  | .fwUpdateCmd value => Sys2Proof.Machine.execFwUpdateCmd value s
  | .fwUpdateComplete flashOk => Sys2Proof.Machine.execFwUpdateComplete flashOk s
  | .protCommit value bankWrites => Sys2Proof.Machine.execProtCommit value bankWrites s
  | .attNonce nonce => Sys2Proof.Machine.execAttNonce nonce s
  | .keyLoad bytes => Sys2Proof.Machine.execKeyLoad bytes s
  | .debugUnlock level ownerSig debugSig debugKey => Sys2Proof.Machine.execDebugUnlock level ownerSig debugSig debugKey s
  | .glitchDetected detector => Sys2Proof.Machine.execGlitchDetected detector s
  | .controllerCheckFailure security kind => Sys2Proof.Machine.execControllerCheckFailure security kind s
  | .watchdogExpiry security => Sys2Proof.Machine.execWatchdogExpiry security s
  | .canErrorDetected transmit => Sys2Proof.Machine.execCanErrorDetected transmit s
  | .ethLinkChange value => Sys2Proof.Machine.execEthLinkChange value s
  | .dhcpLeaseExpiry final => Sys2Proof.Machine.execDhcpLeaseExpiry final s
  | .debugPortAccess op => Sys2Proof.Machine.execDebugPortAccess op s
  | .pwrGoodDeassert => Sys2Proof.Machine.execPwrGoodDeassert s
  | .startThermalClear => Sys2Proof.Machine.execStartThermalClear s
  | .discoveryRequest => Sys2Proof.Machine.execDiscoveryRequest s
  | .hbmZeroComplete => Sys2Proof.Machine.execHbmZeroComplete s
  | .startFailTimeout => Sys2Proof.Machine.execStartFailTimeout s
  | .goingDownEnd => Sys2Proof.Machine.execGoingDownEnd s
  | .heartbeatCollectionEnd => Sys2Proof.Machine.execHeartbeatCollectionEnd s
  | .fsyncTimeout => Sys2Proof.Machine.execFsyncTimeout s
  | .ptpSyncTimeout => Sys2Proof.Machine.execPtpSyncTimeout s
  | .tbAcqTimeout => Sys2Proof.Machine.execTbAcqTimeout s
  | .tbHoldoverExpiry => Sys2Proof.Machine.execTbHoldoverExpiry s
  | .frameBoundary => Sys2Proof.Machine.execFrameBoundary s
  | .eclipseCapture => Sys2Proof.Machine.execEclipseCapture s
  | .eclipseDrainTimeout => Sys2Proof.Machine.execEclipseDrainTimeout s
  | .prqWerrClear => Sys2Proof.Machine.execPrqWerrClear s
  | .invAll => Sys2Proof.Machine.execInvAll s
  | .invVmid => Sys2Proof.Machine.execInvVmid s
  | .invAsid => Sys2Proof.Machine.execInvAsid s
  | .invRange => Sys2Proof.Machine.execInvRange s
  | .invalidationStart => Sys2Proof.Machine.execInvalidationStart s
  | .endpointReset => Sys2Proof.Machine.execEndpointReset s
  | .normalDelivery => Sys2Proof.Machine.execNormalDelivery s
  | .fastDelivery => Sys2Proof.Machine.execFastDelivery s
  | .scUnroutedRead => Sys2Proof.Machine.execScUnroutedRead s
  | .scFastDroppedRead => Sys2Proof.Machine.execScFastDroppedRead s
  | .estimatorRescale => Sys2Proof.Machine.execEstimatorRescale s
  | .fastLimiterRelease => Sys2Proof.Machine.execFastLimiterRelease s
  | .supplyGuardRelease => Sys2Proof.Machine.execSupplyGuardRelease s
  | .replanTimer => Sys2Proof.Machine.execReplanTimer s
  | .poweredHour => Sys2Proof.Machine.execPoweredHour s
  | .dhcpRetry => Sys2Proof.Machine.execDhcpRetry s
  | .heartbeat => Sys2Proof.Machine.execHeartbeat s
  | .storeCmd => Sys2Proof.Machine.execStoreCmd s
  | .storeDefaults => Sys2Proof.Machine.execStoreDefaults s
  | .debugChallengeRead => Sys2Proof.Machine.execDebugChallengeRead s
  | .canBusOffRecovery => Sys2Proof.Machine.execCanBusOffRecovery s

end Sys2Proof.Machine
end

