-- ==== Sys2Proof/Safety.lean ====
section
/-! DEFINITION. What the statements speak of: a state in canonical form (the memories list rising addresses and no byte of zero, R266), a
tensor core that stands ready for an instruction, and what every instruction that retires leaves. -/

namespace Sys2Proof

/-- The canonical form of one byte memory. -/
abbrev Memory.wf (t : Tab Byte) : Bool := Machine.twf 0 t

/-- Every byte memory of the E9 in canonical form: HBM, and the application boot region of the flash. -/
def Machine.State.memWf (s : Machine.State) : Bool := Memory.wf s.mem.hbm && Memory.wf s.flash.app

namespace Machine

/-- Tensor core `tc` runs item `n`, has not ended its part, stalls at no other instruction, and `len` bytes at its pc lie in the kernel
code range and in its instruction cache (R46, R50, R51, R250). -/
def PacerReady (s : State) (tc n : Nat) (it : Item) (len : Nat) (self : Instr) : Prop :=
  tc < 192 ∧ (tcAt s tc).item = some n ∧ itemAt s n = some it ∧ pacerLive (tcAt s tc) = true ∧
  ((tcAt s tc).stall = none ∨ (tcAt s tc).stall = some self) ∧ inCode it (tcAt s tc).pc len = true ∧
  codeHeld (tcAt s tc) len = false ∧ issuing s = true

/-- A core behind an instruction of `len` bytes: the pc has advanced, one more instruction has retired, nothing is waited for. -/
def onward (len : Nat) (c : TCore) : TCore := { c with pc := c.pc + BitVec.ofNat 64 len, instret := c.instret + 1, stall := none }

/-- A region in use raises no cause of its own: its format is not reserved and its extents hold (R53, R54). -/
def RegionOk (w : W64) : Prop := fmtReserved (regionOf w).fmt = false ∧ extentOk (regionOf w) = true

/-- No mask is bound to the region. -/
def Unmasked (w : W64) : Prop := (regionOf w).masken = false

/-- A region with no mask, or with a usable BOOL region of its own shape (R55). -/
def MaskOk (c : TCore) (w : W64) : Prop :=
  (regionOf w).masken = true →
    RegionOk (maskWord c w) ∧ (regionOf (maskWord c w)).fmt = 12 ∧
    (regionOf (maskWord c w)).rows = (regionOf w).rows ∧ (regionOf (maskWord c w)).cols = (regionOf w).cols

/-- A core behind the issue of an operation: the operation stands last in the scoreboard under the next tag (R58, R59). -/
def entered (o : Op) (c : TCore) : TCore := { c with sb := c.sb ++ [{ o with tag := nextTag c.tag }], tag := nextTag c.tag }

/-- Claryn serves, nothing waits, and request `m` comes on a transport that is open to its sender and is no retry; `t` has counted it
(R432, R438, R440, R442). -/
def Heard (s t : State) (via : Via) (m : Msg) : Prop :=
  serving s = true ∧ s.cla.waiting = [] ∧ viaOk via = true ∧ viaOpen s via = true ∧ viaBarred s via = false ∧
  t = (ageBit (bumpObj 0x1105 2 64 1 s)).2 ∧ keptFor t via m (ageBit (bumpObj 0x1105 2 64 1 s)).1 = none

/-- Request `m` is answered: the answer is kept for a retry, on the mailbox excepted, and goes out (R433, R438). `h` is the state that
counted the request, `t` what it has done. -/
def answeredWith (via : Via) (m : Msg) (r : Reply) (h t : State) : State :=
  sendReply via m r (if viaBox via then t else
    keep ⟨via, m.svc, m.tid, objKey m.index m.sub, m.off, keptAt h, replyEmit h via m r⟩ t)

/-- An application core runs an instruction: it is live, its access waits for nothing, its unit is on, and physical memory protection permits
it (R372, R373, R485). -/
def acRuns (s : State) (ac : Nat) (op : AcOp) : Bool :=
  acLive s ac && acOpOk op && !(acOpWaits s ac op) && !(acOff (coreAt s ac) op) &&
  (match acNeeds op with | some (k, pa, n) => pmpOk (coreAt s ac) k pa n | none => true)

/-- No Look of the walks for these pages waits (R237, R279, R316). -/
def WalksGo (s : State) (ctx : Nat) (pages : List (Nat × Nat)) : Prop := ∀ p ∈ pages, walkWaits s ctx p.1 (p.2 % 8) = none

/-- No port out of service holds packets that wait to be sent again (R334). -/
def NoneHeld (s : State) : Prop := ∀ n, n < 24 → portUp s n = true ∨ heldPackets (portAt s n) = []

/-- Healthy lanes a link keeps, in its poorer direction, once `lane` is retired (R31 to R33). -/
def leftLanes (l : Link) (up : Bool) (lane : Nat) : Nat :=
  min (healthy (setLinkSide l up (retireLane lane (linkSide l up))).up) (healthy (setLinkSide l up (retireLane lane (linkSide l up))).down)

/-- Message `m` can reach its end, between `p` and `q` in the order of sending: nothing travels ahead of it, its path is open (R20, R32);
`u` has taken it off the network. -/
def Arrived (s u : State) (m : CohMsg) (p q : List CohMsg) : Prop :=
  s.coh.net = p ++ m :: q ∧ nextUp m p q = true ∧ pathHeld s (msgEnds m).1 (msgEnds m).2 = false ∧
  u = { s with coh := { s.coh with net := p ++ q } }

/-- A request that its unit may send now and that has a target in reach (R258, R277, R279, R296). -/
def requestGoes (s : State) (r : CohReq) : Bool :=
  issuing s && whoFits r && issueRoom s r.who 1 && !(isPrefetch r && !(prefetchRoom s r)) && coherentAddr s (128 * r.line) && !(pathHeld s (unitWin r.req) (homeWin r.line)) && !(writeWaits s r) &&
  (accessError s r.part (isWrite r.kind) (128 * r.line)).isNone

/-- Nothing waits at the home for the line to close. -/
def NoneWaits (s : State) (ln : Nat) : Prop := s.coh.escal = [] ∧ (mdMaint s (lineHome ln)).left = []

/-- An entry closed to its stable state. -/
def closed (e : DirEnt) : DirEnt := { e with st := e.was, req := none, snoops := [], acks := [], fwd := false, vac := [], push := false }

/-- No agent, buffer or message in flight holds a copy of the line, its home has no entry for it, and nothing waits for one (R302, R306). -/
def NoCopies (s : State) (ln : Nat) : Prop :=
  entAt s ln = none ∧ lineBusy s ln = false ∧ (∀ e ∈ s.coh.lines, e.2.1 ≠ ln) ∧ (∀ e ∈ s.coh.wb, e.2.1 ≠ ln) ∧ ∀ m ∈ s.coh.net, msgLine ln m = none

/-- A write of the line drives no other line out of its home slice (R284): the slice holds it, permits it no way, or has one free. -/
def SliceRoom (s : State) (part : Option Nat) (ln : Nat) : Prop :=
  (aget s.mem.llc ln).isSome = true ∨ llcMask s (lineHome ln) part false = 0 ∨
    ∃ w, w < 16 ∧ (llcMask s (lineHome ln) part false).testBit w = true ∧ ∀ e ∈ sliceSet s (lineHome ln) (lineSet ln), e.1 ≠ w

/-! What each command may write -/

/-- The fields of the state, the queue of waiting commands apart. -/
inductive StateField where
  | fresh | out | boot | fuse | flash | faults | present | links | alt | pendAlt | obj | oct | regs | tcs | items | nextAcc
  | rr | ctxs | queues | cmdStat | cmdBusy | bindErr | ctxBase | batons | groups | slots | tb | ecl | stu | mem | mds | l2maint
  | coh | ports | chips | rqs | cores | mtime | pcie | sc | pwr | cla | sec | routes
deriving DecidableEq, Repr

/-- The field is as it was. -/
def Unchanged (f : StateField) (s t : State) : Prop :=
  match f with
  | .fresh => t.fresh = s.fresh
  | .out => t.out = s.out
  | .boot => t.boot = s.boot
  | .fuse => t.fuse = s.fuse
  | .flash => t.flash = s.flash
  | .faults => t.faults = s.faults
  | .present => t.present = s.present
  | .links => t.links = s.links
  | .alt => t.alt = s.alt
  | .pendAlt => t.pendAlt = s.pendAlt
  | .obj => t.obj = s.obj
  | .oct => t.oct = s.oct
  | .regs => t.regs = s.regs
  | .tcs => t.tcs = s.tcs
  | .items => t.items = s.items
  | .nextAcc => t.nextAcc = s.nextAcc
  | .rr => t.rr = s.rr
  | .ctxs => t.ctxs = s.ctxs
  | .queues => t.queues = s.queues
  | .cmdStat => t.cmdStat = s.cmdStat
  | .cmdBusy => t.cmdBusy = s.cmdBusy
  | .bindErr => t.bindErr = s.bindErr
  | .ctxBase => t.ctxBase = s.ctxBase
  | .batons => t.batons = s.batons
  | .groups => t.groups = s.groups
  | .slots => t.slots = s.slots
  | .tb => t.tb = s.tb
  | .ecl => t.ecl = s.ecl
  | .stu => t.stu = s.stu
  | .mem => t.mem = s.mem
  | .mds => t.mds = s.mds
  | .l2maint => t.l2maint = s.l2maint
  | .coh => t.coh = s.coh
  | .ports => t.ports = s.ports
  | .chips => t.chips = s.chips
  | .rqs => t.rqs = s.rqs
  | .cores => t.cores = s.cores
  | .mtime => t.mtime = s.mtime
  | .pcie => t.pcie = s.pcie
  | .sc => t.sc = s.sc
  | .pwr => t.pwr = s.pwr
  | .cla => t.cla = s.cla
  | .sec => t.sec = s.sec
  | .routes => t.routes = s.routes

/-- The fields a command may write, whatever its operands; every other is kept. -/
def writes (c : Instr) : List StateField :=
  match c with
  | .pwrGoodAssert _ | .selfTestComplete _ _ | .resetHoldEnd _ | .dieBrownout _ | .startThermalClear | .startFailTimeout =>
    [.boot]
  | .packageResetRelease _ _ _ _ _ =>
    [.fresh, .out, .boot, .fuse, .flash, .faults, .obj, .oct, .slots, .tb, .chips, .sc, .pwr, .cla, .sec]
  | .linkTrainingComplete _ _ _ =>
    [.out, .boot, .links]
  | .discoveryComplete _ =>
    [.fresh, .out, .boot, .faults, .present, .links, .alt, .obj, .tb, .sc, .pwr, .cla, .routes]
  | .bootCopyComplete _ =>
    [.out, .boot, .flash, .faults, .obj, .mem, .cores, .cla]
  | .fatalLineAssert _ _ _ | .fatalReportTimeout _ _ _ _ | .bondErrorDetected _ _ | .heartbeatLoss _ _ | .snoopTimeout _ _
  | .thermalTrip _ _ | .resetCmd _ | .holdRelease _ =>
    [.fresh, .out, .boot, .flash, .faults, .obj, .sc, .cla]
  | .flitCrcError _ =>
    [.fresh, .out, .obj]
  | .heartbeatFlitSend _ _ | .discoveryRequest =>
    [.out, .boot]
  | .checkFlitSend _ _ | .ackSend _ | .stateSend _ _ | .epFlushRead _ | .arpRequest _ _ | .icmpEcho _ _ _ | .dhcpRetry =>
    [.out]
  | .checkFlitReceived _ _ _ _ _ =>
    [.fresh, .out, .boot, .flash, .faults, .links, .pendAlt, .obj, .mds, .ports, .sc, .cla]
  | .eyeMarginScan _ _ | .laneBitLockLost _ _ _ =>
    [.fresh, .out, .boot, .flash, .faults, .links, .pendAlt, .obj, .oct, .tcs, .items, .ctxs, .queues, .batons, .groups, .slots, .stu,
     .mem, .mds, .coh, .ports, .chips, .rqs, .cores, .sc, .cla]
  | .spareTrained _ =>
    [.links, .ports]
  | .linkRetrainDone _ | .migrationComplete _ =>
    [.fresh, .out, .boot, .flash, .faults, .links, .obj, .mds, .ports, .sc, .cla]
  | .routeInstallDone _ =>
    [.fresh, .out, .boot, .flash, .faults, .links, .alt, .pendAlt, .obj, .mds, .ports, .sc, .cla, .routes]
  | .transactionTimeout _ _ =>
    [.fresh, .out, .boot, .flash, .faults, .obj, .oct, .tcs, .items, .ctxs, .queues, .batons, .groups, .slots, .stu, .mem, .mds, .coh,
     .ports, .chips, .rqs, .cores, .pcie, .sc, .cla]
  | .psetq _ _ _ _ | .pgetq _ _ _ _ | .pqadd _ _ _ _ | .ptag _ _ _ _ | .pwait _ _ _ _ | .pfence _ _ _ _ | .pstat _ _ _ _ | .prdop _ _ _ _
  | .pdone _ _ _ _ | .pbsig _ _ _ _ | .pbwait _ _ _ _ | .psqrd _ _ _ _ | .psqadv _ _ _ _ | .pfret _ _ _ _ | .pacerLoad _ _ _ _ _ _
  | .pacerStore _ _ _ _ _ _ | .pacerAtomic _ _ _ _ _ _ | .ecall _ | .ebreak _ _ | .mldw _ _ _ _ _ _ | .mmul _ _ _ _ _ _ | .mrd _ _ _ _ _ _
  | .mlda _ _ _ _ _ _ | .mzero _ _ _ _ _ _ | .vadd _ _ _ _ _ _ | .vsub _ _ _ _ _ _ | .vmul _ _ _ _ _ _ | .vfma _ _ _ _ _ _
  | .vmin _ _ _ _ _ _ | .vmax _ _ _ _ _ _ | .vmov _ _ _ _ _ _ | .vcvt _ _ _ _ _ _ | .vceq _ _ _ _ _ _ | .vclt _ _ _ _ _ _
  | .vcle _ _ _ _ _ _ | .vfun _ _ _ _ _ _ | .vred _ _ _ _ _ _ | .vscan _ _ _ _ _ _ | .vtopk _ _ _ _ _ _ | .vcmprs _ _ _ _ _ _
  | .vexpd _ _ _ _ _ _ | .vrand _ _ _ _ _ _ | .vtrn _ _ _ _ _ _ | .dld _ _ _ _ _ _ | .dst _ _ _ _ _ _ | .dvin _ _ _ _ _ _
  | .dvout _ _ _ _ _ _ | .dpf _ _ _ _ _ _ =>
    [.tcs, .items]
  | .pperf _ _ _ _ | .pacerCsrAccess _ _ _ _ _ =>
    [.fresh, .tcs, .items]
  | .pacerScalarOp _ _ =>
    [.fresh, .tcs, .items, .groups]
  | .drly _ _ _ _ _ _ =>
    [.tcs, .items, .groups]
  | .operationStart _ _ _ =>
    [.fresh, .out, .boot, .flash, .faults, .obj, .oct, .tcs, .items, .stu, .mem, .mds, .coh, .ports, .chips, .cores, .pcie, .sc, .cla]
  | .operationComplete _ _ _ =>
    [.fresh, .out, .boot, .flash, .faults, .obj, .oct, .tcs, .items, .ctxs, .queues, .batons, .slots, .stu, .mem, .mds, .coh, .ports,
     .chips, .cores, .pcie, .sc, .cla]
  | .bankStarvationPromote _ _ | .fastEventEntry _ =>
    [.tcs]
  | .dmaErrorResponse _ _ _ _ =>
    [.fresh, .out, .obj, .oct, .tcs, .items]
  | .relayGroupStart _ _ | .relayGroupEntryWrite _ _ _ | .relayGroupBind _ _ =>
    [.fresh, .out, .obj, .oct, .tcs, .items, .bindErr, .groups, .ports]
  | .relayContributionAccept _ _ | .relayResultDeliver _ _ =>
    [.tcs, .groups]
  | .relayNodeCombine _ _ _ _ =>
    [.out, .groups, .ports]
  | .relayRoundComplete _ | .itemEnd _ _ | .pageWalkComplete _ _ | .pageResponseRetry _ _ | .pageResponseInvalid _
  | .transferTranslationMiss _ _ _ _ _ =>
    [.fresh, .out, .boot, .flash, .faults, .obj, .oct, .tcs, .items, .ctxs, .queues, .batons, .groups, .slots, .stu, .mem, .mds, .coh,
     .ports, .chips, .cores, .sc, .cla]
  | .sqKeyWrite _ _ _ | .sqBind _ _ =>
    [.bindErr, .slots]
  | .keyChkUpdate _ =>
    [.slots]
  | .fsyncEdge _ | .ptpSyncReceive _ _ _ _ _ | .ptpFollowUpReceive _ _ _ | .releaseTimeReached _ _ | .deadlineReached _
  | .reportHardLimit _ | .frameBoundary | .eclipseCapture =>
    [.fresh, .out, .boot, .flash, .faults, .obj, .oct, .tcs, .items, .ctxs, .queues, .batons, .groups, .slots, .tb, .ecl, .stu, .mem,
     .mds, .coh, .ports, .chips, .cores, .sc, .cla]
  | .ptpAnnounceReceive _ _ _ | .tbSourceWrite _ | .fsyncTimeout | .ptpSyncTimeout | .tbAcqTimeout | .tbHoldoverExpiry =>
    [.fresh, .out, .boot, .flash, .faults, .obj, .oct, .tcs, .items, .ctxs, .queues, .batons, .slots, .tb, .stu, .mem, .mds, .coh,
     .ports, .chips, .cores, .sc, .cla]
  | .ptpDelayReqSend _ =>
    [.out, .tb]
  | .ptpDelayRespReceive _ _ _ | .tbStepAccept _ =>
    [.tb]
  | .rasterWrite _ _ =>
    [.obj, .tb]
  | .starterStart _ _ =>
    [.fresh, .out, .boot, .flash, .faults, .obj, .oct, .tcs, .items, .queues, .stu, .mem, .mds, .coh, .ports, .chips, .cores, .sc, .cla]
  | .allowanceRampStep _ | .allowanceRecompute _ | .powerCapWrite _ | .powerModeWrite _ | .ethLinkChange _ =>
    [.obj]
  | .eclArm _ =>
    [.fresh, .obj, .ecl, .sc]
  | .eclipseMarker _ _ _ =>
    [.ecl]
  | .eclipseComplete _ | .put _ _ _ _ =>
    [.fresh, .out, .boot, .flash, .faults, .obj, .oct, .tcs, .items, .ctxs, .queues, .batons, .slots, .ecl, .stu, .mem, .mds, .coh,
     .ports, .chips, .cores, .sc, .cla]
  | .contextEnable _ _ =>
    [.fresh, .out, .boot, .flash, .faults, .obj, .oct, .tcs, .items, .ctxs, .queues, .cmdStat, .mem, .mds, .coh, .ports, .chips,
     .cores, .sc, .cla]
  | .contextTeardown _ =>
    [.fresh, .out, .boot, .flash, .faults, .obj, .oct, .tcs, .items, .ctxs, .queues, .cmdStat, .cmdBusy, .batons, .groups, .slots,
     .stu, .mem, .mds, .coh, .ports, .chips, .rqs, .cores, .sc, .cla]
  | .contextTeardownDone _ =>
    [.ctxs, .cmdStat, .cmdBusy, .rqs]
  | .ctxCmdReserved _ =>
    [.cmdStat]
  | .ctxBaseWrite _ =>
    [.ctxBase]
  | .doorbell _ _ _ =>
    [.fresh, .queues, .sc]
  | .descriptorRead _ _ _ =>
    [.fresh, .out, .boot, .flash, .faults, .obj, .oct, .tcs, .items, .nextAcc, .rr, .ctxs, .queues, .batons, .groups, .slots, .stu,
     .mem, .mds, .coh, .ports, .chips, .cores, .sc, .cla]
  | .descriptorReread _ _ _ =>
    [.fresh, .out, .boot, .flash, .faults, .obj, .oct, .tcs, .items, .nextAcc, .ctxs, .queues, .batons, .groups, .slots, .stu, .mem,
     .mds, .coh, .ports, .chips, .cores, .sc, .cla]
  | .queueResume _ _ =>
    [.queues]
  | .queueSkip _ _ =>
    [.fresh, .out, .boot, .flash, .faults, .obj, .oct, .tcs, .items, .nextAcc, .ctxs, .queues, .batons, .slots, .stu, .mem, .mds, .coh,
     .ports, .chips, .cores, .sc, .cla]
  | .batonOperation _ _ | .batonOpWrite _ _ | .batonValueWrite _ _ | .invalidationComplete _ =>
    [.fresh, .out, .boot, .flash, .faults, .obj, .oct, .tcs, .items, .ctxs, .queues, .batons, .slots, .stu, .mem, .mds, .coh, .ports,
     .chips, .cores, .sc, .cla]
  | .batonEvtcondWrite _ _ =>
    [.batons]
  | .batonBind _ _ =>
    [.bindErr, .batons]
  | .ewinWrite _ _ _ =>
    [.fresh, .out, .obj, .oct, .tcs, .items, .bindErr, .groups, .slots, .ports]
  | .prqWriteError _ =>
    [.fresh, .out, .obj, .oct, .stu, .sc]
  | .prqHeadWrite _ | .tlbFill _ _ _ _ | .prqWerrClear =>
    [.fresh, .out, .boot, .flash, .faults, .obj, .oct, .tcs, .items, .stu, .mem, .mds, .coh, .ports, .chips, .cores, .sc, .cla]
  | .prqBaseWrite _ | .invCmdReserved _ | .engineInvAck _ | .clusterInvAck _ | .invAll | .invVmid | .invAsid | .invRange
  | .invalidationStart =>
    [.stu]
  | .clusterInvalidate _ =>
    [.tcs, .stu]
  | .scrubStep _ _ _ =>
    [.fresh, .out, .boot, .flash, .faults, .obj, .oct, .mem, .mds, .coh, .sc, .cla]
  | .pgretPop _ =>
    [.fresh, .out, .obj, .oct, .mds]
  | .channelCandidate _ =>
    [.fresh, .out, .boot, .flash, .faults, .obj, .mds, .sc, .cla]
  | .retCmd _ _ | .retGo _ _ =>
    [.fresh, .out, .boot, .flash, .faults, .obj, .oct, .mds, .sc, .cla]
  | .partBwWindow _ =>
    [.mds]
  | .maintClean _ _ | .maintInvalidate _ _ | .maintCleanInvalidate _ _ | .maintZero _ _ | .ncAccess _ _ _ _ _ _ | .gets _ _ _ _ _ _
  | .getm _ _ _ _ _ | .promote _ _ _ _ _ | .look _ _ _ _ _ | .putplace _ _ _ _ _ _ _ _ _ _ | .cashome _ _ _ _ _ _ _ | .snack _ _ _
  | .sndata _ _ _ | .grantack _ _ _ | .cohRetry _ _ _ | .placeack _ _ _ | .homefill _ _ _ _ =>
    [.fresh, .out, .boot, .flash, .faults, .obj, .oct, .tcs, .items, .mem, .mds, .coh, .cores, .sc, .cla]
  | .l2MaintClean _ _ | .l2MaintCleanInvalidate _ _ =>
    [.fresh, .out, .obj, .oct, .l2maint, .sc]
  | .maintCmdReserved _ _ =>
    [.fresh, .out, .obj, .oct, .mds, .l2maint]
  | .maintComplete _ =>
    [.fresh, .obj, .mem, .mds, .l2maint, .coh, .sc]
  | .fwds _ _ | .fwdm _ _ | .inv _ _ | .peek _ _ | .flushd _ _ | .nack _ _ | .vacack _ _ =>
    [.coh]
  | .grant _ _ =>
    [.out, .coh]
  | .ownerfill _ _ | .cboClean _ _ | .cboFlush _ _ | .cboInval _ _ =>
    [.fresh, .out, .obj, .oct, .tcs, .items, .mem, .mds, .coh, .cores, .sc]
  | .placedata _ _ | .vacdata _ _ | .vacclean _ _ =>
    [.fresh, .obj, .mem, .mds, .coh, .sc]
  | .codewordReceive _ _ _ _ _ =>
    [.fresh, .out, .boot, .flash, .faults, .links, .pendAlt, .obj, .oct, .tcs, .items, .ctxs, .queues, .batons, .groups, .slots, .ecl,
     .stu, .mem, .mds, .coh, .ports, .chips, .rqs, .cores, .sc, .cla]
  | .codewordUncorrectable _ | .sbAck _ _ | .sbCredit _ _ | .creditSend _ _ =>
    [.out, .ports]
  | .sbIdle _ =>
    []
  | .sbNak _ _ =>
    [.fresh, .out, .obj, .ports]
  | .sbState _ _ =>
    [.fresh, .out, .boot, .flash, .faults, .obj, .oct, .tcs, .items, .ctxs, .queues, .batons, .groups, .slots, .ecl, .stu, .mem, .mds,
     .coh, .ports, .chips, .rqs, .cores, .sc, .cla]
  | .sbGoingDown _ _ | .portHeartbeatLoss _ =>
    [.fresh, .out, .boot, .flash, .faults, .links, .obj, .oct, .tcs, .items, .ctxs, .queues, .batons, .groups, .slots, .stu, .mem,
     .mds, .coh, .ports, .chips, .rqs, .cores, .sc, .cla]
  | .sbChipEvt _ _ =>
    [.fresh, .out, .boot, .flash, .faults, .obj, .oct, .tcs, .items, .ctxs, .queues, .batons, .groups, .slots, .stu, .mem, .mds, .coh,
     .ports, .chips, .rqs, .cores, .sc, .cla]
  | .portTrainAttempt _ =>
    [.fresh, .ports, .chips, .sc]
  | .winRd _ _ _ | .get _ _ _ | .boardWindowAccess _ _ _ _ _ _ | .cboZero _ _ | .evqWriteError _ | .normalDelivery | .fastDelivery =>
    [.fresh, .out, .boot, .flash, .faults, .obj, .oct, .tcs, .items, .mem, .mds, .coh, .ports, .chips, .cores, .sc, .cla]
  | .winWr _ _ _ _ =>
    [.fresh, .out, .boot, .flash, .faults, .obj, .oct, .tcs, .items, .mem, .mds, .coh, .ports, .cores, .sc, .cla]
  | .winCpl _ _ _ =>
    [.fresh, .out, .obj, .oct, .tcs, .ports, .chips, .cores]
  | .putAck _ _ | .getData _ _ _ _ | .rqCommandStart _ _ =>
    [.fresh, .out, .boot, .flash, .faults, .obj, .oct, .tcs, .items, .ctxs, .queues, .batons, .slots, .ecl, .stu, .mem, .mds, .coh,
     .ports, .chips, .rqs, .cores, .sc, .cla]
  | .relayUp _ _ _ | .relayDown _ _ _ =>
    [.fresh, .out, .boot, .flash, .faults, .obj, .oct, .tcs, .items, .ctxs, .queues, .batons, .groups, .slots, .ecl, .stu, .mem, .mds,
     .coh, .ports, .chips, .cores, .sc, .cla]
  | .unreachable _ _ =>
    [.fresh, .out, .obj, .oct, .tcs, .ports, .chips, .rqs, .cores]
  | .rqDoorbell _ _ =>
    [.fresh, .rqs, .sc]
  | .rqResume _ | .rqCfgWrite _ _ =>
    [.rqs]
  | .rqSkip _ | .rqCommandRead _ _ | .rqCommandComplete _ =>
    [.fresh, .out, .boot, .flash, .faults, .obj, .oct, .tcs, .items, .ctxs, .queues, .batons, .slots, .stu, .mem, .mds, .coh, .ports,
     .chips, .rqs, .cores, .sc, .cla]
  | .acInstruction _ _ _ _ | .pcieInboundWrite _ _ _ _ _ =>
    [.fresh, .out, .boot, .flash, .faults, .obj, .oct, .regs, .tcs, .items, .nextAcc, .ctxs, .queues, .cmdStat, .cmdBusy, .bindErr,
     .ctxBase, .batons, .groups, .slots, .stu, .mem, .mds, .l2maint, .coh, .ports, .chips, .rqs, .cores, .mtime, .pcie, .sc, .cla]
  | .fenceI _ | .imsicSeteipnum _ _ _ =>
    [.cores]
  | .mtimerInterrupt _ _ =>
    [.fresh, .out, .cores, .mtime]
  | .pcieInboundRead _ _ _ _ _ =>
    [.fresh, .out, .boot, .flash, .faults, .obj, .oct, .tcs, .items, .mem, .mds, .coh, .ports, .chips, .cores, .mtime, .pcie, .sc, .cla]
  | .pcieConfigRequest _ | .endpointReset =>
    [.fresh, .out, .boot, .flash, .faults, .obj, .oct, .regs, .tcs, .items, .ctxs, .queues, .batons, .groups, .slots, .stu, .mem, .mds,
     .coh, .ports, .chips, .rqs, .cores, .pcie, .sc, .cla]
  | .pcieCompletion _ _ _ _ | .pcieLinkChange _ _ _ =>
    [.fresh, .out, .obj, .oct, .tcs, .items, .cores, .pcie, .sc]
  | .peDiscardsRead _ =>
    [.out, .pcie]
  | .intxAssert _ _ | .intxDeassert _ _ =>
    [.pcie, .sc]
  | .gpirqChange _ _ | .scPendClr _ | .scSrcCfgWrite _ _ _ =>
    [.sc]
  | .scEvent _ _ | .scPendSet _ | .pcieAerPmeMessage _ _ =>
    [.fresh, .sc]
  | .railPowerRead _ =>
    [.fresh, .pwr]
  | .opChangeComplete _ =>
    [.out, .obj, .pwr]
  | .thermalStep _ _ | .regulatorTimeout _ | .capControlStep | .fastLimiterEngage _ | .lapSlackCheck _ _ | .fastLimiterRelease
  | .supplyGuardRelease =>
    [.fresh, .out, .obj, .sc, .pwr, .cla]
  | .replanCmd _ | .replanTimer =>
    [.obj, .pwr]
  | .canFrame _ _ _ _ =>
    [.fresh, .out, .obj, .sc, .cla]
  | .udpDatagram _ _ _ | .mailboxDoor _ _ | .canErrorDetected _ =>
    [.fresh, .obj, .cla]
  | .read _ | .write _ _ | .readSeg _ _ | .writeSeg _ _ _ _ | .describe _ | .next _ | .abort _ | .serviceUnknown _ _ _ =>
    [.fresh, .out, .boot, .fuse, .flash, .faults, .obj, .oct, .tcs, .items, .ctxs, .queues, .bindErr, .batons, .slots, .tb, .ecl, .stu,
     .mem, .mds, .coh, .ports, .chips, .cores, .sc, .pwr, .cla, .sec]
  | .registerWrite _ _ =>
    [.fresh, .out, .boot, .flash, .faults, .obj, .oct, .regs, .tcs, .items, .nextAcc, .ctxs, .queues, .cmdStat, .cmdBusy, .bindErr,
     .ctxBase, .batons, .groups, .slots, .stu, .mem, .mds, .l2maint, .coh, .ports, .chips, .rqs, .cores, .mtime, .sc, .cla]
  | .portTrainingComplete _ _ _ =>
    [.ports]
  | .replanComplete _ _ =>
    [.fresh, .out, .flash, .obj, .sc, .pwr, .cla]
  | .dhcpMessage _ _ _ | .dhcpLeaseExpiry _ | .heartbeat =>
    [.out, .obj, .cla]
  | .segmentSessionTimeout _ =>
    [.cla]
  | .storeComplete _ =>
    [.flash, .obj, .cla]
  | .fwUpdateCmd _ =>
    [.obj, .sec]
  | .fwUpdateComplete _ =>
    [.fresh, .flash, .obj, .sec]
  | .protCommit _ _ | .debugUnlock _ _ _ _ | .glitchDetected _ | .controllerCheckFailure _ _ | .watchdogExpiry _ =>
    [.fresh, .out, .boot, .fuse, .flash, .faults, .obj, .oct, .slots, .sc, .cla, .sec]
  | .attNonce _ =>
    [.fresh, .oct]
  | .keyLoad _ =>
    [.fresh, .out, .boot, .fuse, .flash, .faults, .obj, .oct, .bindErr, .slots, .sc, .cla, .sec]
  | .debugPortAccess _ =>
    [.fresh, .out, .tcs, .cores, .mtime, .sec]
  | .pwrGoodDeassert | .goingDownEnd =>
    [.fresh, .out, .boot, .fuse, .flash, .faults, .present, .links, .alt, .pendAlt, .obj, .oct, .regs, .tcs, .items, .nextAcc, .rr,
     .ctxs, .queues, .cmdStat, .cmdBusy, .bindErr, .ctxBase, .batons, .groups, .slots, .tb, .ecl, .stu, .mem, .mds, .l2maint, .coh,
     .ports, .chips, .rqs, .cores, .mtime, .pcie, .sc, .pwr, .cla, .sec, .routes]
  | .hbmZeroComplete =>
    [.out, .boot, .mem, .mds, .coh, .ports]
  | .heartbeatCollectionEnd =>
    [.fresh, .out, .boot, .flash, .faults, .links, .pendAlt, .obj, .sc, .cla]
  | .eclipseDrainTimeout =>
    [.fresh, .out, .boot, .flash, .faults, .obj, .oct, .tcs, .items, .ecl, .mem, .mds, .coh, .ports, .chips, .cores, .sc, .cla]
  | .scUnroutedRead | .scFastDroppedRead =>
    [.out, .sc]
  | .estimatorRescale =>
    [.fresh, .obj, .pwr]
  | .poweredHour =>
    [.fresh, .flash, .obj]
  | .storeCmd | .storeDefaults | .canBusOffRecovery =>
    [.obj, .cla]
  | .debugChallengeRead =>
    [.fresh, .out, .sec]

end Machine

end Sys2Proof
end

