-- ==== Sys2Proof/Certificates/Slice0/Obligations.lean ====
section
/-! DEFINITION. The statements for the provers. Each names the rules of spec/ it follows; the ones about a value the spec leaves open say so. -/

open Sys2Proof Sys2Proof.Machine

/-! Power, start and reset -/

/-- R480, R481 (steps P1 to P3), R505: power-good rises and falls, and the thermal wait ends. Says that these commands complete: pwrGoodAssert,
pwrGoodDeassert, startThermalClear. -/
def Obligations.PowerGoodStartsAndStopsTheE9 : Prop :=
  (∀ (hot : Bool) (s : State), s.boot.phase = .off →
    exec (.pwrGoodAssert hot) s =
      .next { s with boot := { s.boot with phase := if hot then .thermalWait else .inReset, status := 0 } }) ∧
  (∀ (hot : Bool) (s : State), s.boot.phase ≠ .off → exec (.pwrGoodAssert hot) s = .next s) ∧
  (∀ s : State, s.boot.phase = .thermalWait →
    exec .startThermalClear s = .next { s with boot := { s.boot with phase := .inReset, fatalLine := false } }) ∧
  (∀ s : State, s.boot.phase ≠ .thermalWait → exec .startThermalClear s = .next s) ∧
  (∀ s : State, ∃ t, exec .pwrGoodDeassert s = .next t ∧ t.boot.phase = .off ∧ t.boot.status = 0 ∧ runState t = 0 ∧
    t.faults = {} ∧ t.mem = {} ∧ t.coh = {} ∧ t.present = 0 ∧ t.tcs = [] ∧ t.items = [] ∧ t.ctxs = [] ∧ t.queues = [] ∧ t.batons = [] ∧
    t.groups = [] ∧ t.slots = [] ∧ t.obj = [] ∧ t.regs = [] ∧ t.cores = [] ∧ t.ports = [] ∧ t.links = [] ∧
    t.out = s.out ∧ t.pending = s.pending ∧ t.fuse = s.fuse ∧ t.flash.app = s.flash.app ∧ t.flash.hours = s.flash.hours)

/-- R485 (steps 3 and 4), R487, R419: the run's state goes, the flash, the fuses and the retained region stay; then the hold ends. Says that these
commands complete: resetHoldEnd, goingDownEnd. -/
def Obligations.PackageResetDiscardsTheRun : Prop :=
  (∀ s : State, s.boot.phase = .goingDown → ∃ t, exec .goingDownEnd s = .next t ∧ t.boot.phase = .resetHold ∧ runState t = 3 ∧
    t.faults.log = s.faults.log ∧ t.faults.resetCount = s.faults.resetCount ∧ t.faults.resetReason = s.faults.resetReason ∧
    t.faults.windows = [] ∧ t.mem = {} ∧ t.coh = {} ∧ t.present = 0 ∧ t.tcs = [] ∧ t.items = [] ∧ t.ctxs = [] ∧ t.queues = [] ∧
    t.batons = [] ∧ t.groups = [] ∧ t.slots = [] ∧ t.obj = [] ∧ t.regs = [] ∧ t.cores = [] ∧ t.ports = [] ∧ t.links = [] ∧ t.sc = {} ∧
    t.out = s.out ∧ t.pending = s.pending ∧ t.fuse = s.fuse ∧ t.flash.app = s.flash.app ∧ t.flash.hours = s.flash.hours) ∧
  (∀ s : State, s.boot.phase ≠ .goingDown → exec .goingDownEnd s = .next s) ∧
  (∀ (hot : Bool) (s : State), s.boot.phase = .resetHold →
    exec (.resetHoldEnd hot) s = .next { s with boot := { s.boot with
      phase := if s.boot.reason = 5 ∧ hot = true then .thermalWait else .inReset, fatalLine := false } }) ∧
  (∀ (hot : Bool) (s : State), s.boot.phase ≠ .resetHold → exec (.resetHoldEnd hot) s = .next s)

/-- R37, R481, R482, R500, R501: what the steps of the start leave. Says that these commands complete: packageResetRelease, selfTestComplete,
linkTrainingComplete, discoveryComplete, bootCopyComplete, discoveryRequest, hbmZeroComplete, startFailTimeout. -/
def Obligations.StartSequenceReachesRunning : Prop :=
  (∀ (m : Bool) (b : BitVec 3) (c : BitVec 7) (row : Option Nat) (s : State), s.boot.phase = .inReset →
    exec (.packageResetRelease m b c row false) s = .next { s with boot := { s.boot with
      phase := .starting, status := 0, fatalLine := false, modeSel := m, boardSlot := b, canNode := c, attest := !s.fuse.idErased
      selfTest := [(14, 2)], bonds := [], probes := [], flooded := false } }) ∧
  (∀ (m : Bool) (b : BitVec 3) (c : BitVec 7) (row : Option Nat) (s : State), s.boot.phase = .inReset →
    ∃ t, exec (.packageResetRelease m b c row true) s = .next t ∧ t.boot.phase = .starting ∧ t.boot.modeSel = m ∧ t.boot.boardSlot = b ∧
      t.boot.canNode = c ∧ t.boot.selfTest = [(14, 1)]) ∧
  (∀ (m : Bool) (b : BitVec 3) (c : BitVec 7) (row : Option Nat) (pass : Bool) (s : State), s.boot.phase ≠ .inReset →
    exec (.packageResetRelease m b c row pass) s = .next s) ∧
  (∀ (die : Nat) (pass : Bool) (s : State), okDie die = true → die ≠ 14 → s.boot.phase = .starting → dieFitted s.fuse.part die = true →
    exec (.selfTestComplete die pass) s =
      .next { s with boot := { s.boot with selfTest := tset 0 s.boot.selfTest die (if pass then 1 else 2) } }) ∧
  (∀ (i : Nat) (fu fd : List Nat) (s : State), i < 17 → s.boot.phase = .starting → tget 0 s.boot.selfTest (linkEnds i).1 ≠ 0 →
    tget 0 s.boot.selfTest (linkEnds i).2 ≠ 0 → ∃ t, exec (.linkTrainingComplete i fu fd) s = .next t ∧
    t.links = (linkPut s i { up := trainedSide 136 fu, down := trainedSide 136 fd }).links ∧
    ((trainedSide 136 fu).lanes ≠ [] → (trainedSide 136 fd).lanes ≠ [] →
      t.boot.probes = probeOf s i (linkEnds i).1 (linkEnds i).2 :: probeOf s i (linkEnds i).2 (linkEnds i).1 :: s.boot.probes) ∧
    t = { s with links := t.links, boot := t.boot, out := t.out }) ∧
  (∀ (n : Nat) (s : State), n < 6 → s.boot.phase = .starting → tget 0 s.boot.selfTest n ≠ 0 → tget 0 s.boot.selfTest (6 + n) ≠ 0 →
    ∃ t, exec (.linkTrainingComplete (17 + n) [] []) s = .next t ∧ bondTrained t n = true ∧
      t.boot.probes = probeOf s (17 + n) n (6 + n) :: probeOf s (17 + n) (6 + n) n :: s.boot.probes ∧ t = { s with boot := t.boot, out := t.out }) ∧
  (∀ s : State, s.boot.phase = .starting → s.boot.claryn = true →
    exec .discoveryRequest s = .next { s with boot := { s.boot with flooded := true }, out := .discoveryFlood :: s.out }) ∧
  (∀ (micros : Nat) (s : State), s.boot.phase = .starting → s.boot.claryn = true → s.boot.flooded = true → minimumMet (presentMask s) = false →
    ∃ t, exec (.discoveryComplete micros) s = .next t ∧ t.present = presentMask s ∧ t.boot.phase = .held ∧ t.boot.status = 2 ∧ runState t = 2 ∧
      t.faults.startResult = 1) ∧
  (∀ (micros : Nat) (s : State), s.boot.phase = .starting → s.boot.claryn = true → s.boot.flooded = true → minimumMet (presentMask s) = true →
    stormRule s = true → ∃ t, exec (.discoveryComplete micros) s = .next t ∧ t.present = presentMask s ∧ t.boot.phase = .held ∧
      t.boot.status = 2 ∧ t.faults.startResult = 2 ∧ t.faults.stormHold = true) ∧
  (∀ (micros : Nat) (s : State), s.boot.phase = .starting → s.boot.claryn = true → s.boot.flooded = true → minimumMet (presentMask s) = true →
    stormRule s = false → ∃ t, exec (.discoveryComplete micros) s = .next t ∧ t.present = presentMask s ∧ t.boot.phase = .discovered ∧
      t.tb.on = true ∧ t.tb.now = 0) ∧
  (∀ (micros : Nat) (s : State), (s.boot.phase ≠ .starting ∨ s.boot.claryn = false ∨ s.boot.flooded = false) →
    exec (.discoveryComplete micros) s = .next s) ∧
  (∀ s : State, s.boot.phase = .discovered → ∃ t, exec .hbmZeroComplete s = .next t ∧ t.boot.phase = .zeroed ∧
    t.mem = {} ∧ t.coh = {} ∧ t.boot.perst = [] ∧ t = { s with mem := {}, coh := {}, mds := t.mds, ports := t.ports, out := t.out, boot := t.boot }) ∧
  (∀ (micros : Nat) (s : State), s.boot.phase = .zeroed → ∃ t, exec (.bootCopyComplete micros) s = .next t ∧ t.boot.phase = .running ∧
    t.boot.status = 1 ∧ runState t = 1 ∧ t.faults.startResult = 0 ∧
    (∀ ac < 128, acPresent s ac = true → coreAt t ac = { on := true, pc := BitVec.ofNat 64 (lowestTile s), x := tset 0 [] 10 (BitVec.ofNat 64 ac) }) ∧
    t.tcs = s.tcs ∧ t.regs = s.regs ∧ t.pending = s.pending) ∧
  (∀ s : State, exec .startFailTimeout s =
    .next (if s.boot.phase = .starting ∧ s.boot.claryn = false then { s with boot := { s.boot with phase := .failed, status := 3 } } else s))

/-- R485, R486, R488, R489, R494: a class-3 fault enters package reset with reason 0x01 once, and a silent die is marked. Says that these commands
complete: fatalLineAssert, fatalReportTimeout, dieBrownout. -/
def Obligations.ClassThreeFaultEntersPackageReset : Prop :=
  (∀ (code unit detail : Nat) (s : State), faultClass code = 3 → code ≠ 0x0309 → inReset s = false →
    ∃ t, exec (.fatalLineAssert code unit detail) s = .next t ∧ t.boot.phase = .goingDown ∧ t.boot.fatalLine = true ∧ t.boot.reason = 1 ∧
      t.faults.resetReason = 1 ∧ t.faults.resetCount = (s.faults.resetCount + 1) % 2 ^ 32 ∧ t.boot.status = 0 ∧ runState t = 3 ∧
      (t.faults.log.head?.map fun e => (e.code, e.unit, e.detail, e.cls)) = some (code, unit, detail, 3) ∧ t.mem = s.mem ∧ t.tcs = s.tcs) ∧
  (∀ (die code unit detail : Nat) (s : State), okDie die = true → diePresent s die = true → faultClass code = 3 →
    exec (.fatalReportTimeout die code unit detail) s = exec (.fatalLineAssert code unit detail) s) ∧
  (∀ (die code unit detail : Nat) (s : State), okDie die = true → diePresent s die = true → faultClass code = 3 → code ≠ 0x0309 →
    inReset s = false → ∃ t, exec (.fatalReportTimeout die code unit detail) s = .next t ∧ t.boot.phase = .goingDown ∧ t.boot.fatalLine = true ∧
      t.boot.reason = 1 ∧ t.faults.resetReason = 1 ∧ runState t = 3 ∧
      (t.faults.log.head?.map fun e => (e.code, e.unit, e.detail, e.cls)) = some (code, unit, detail, 3) ∧ t.mem = s.mem ∧ t.tcs = s.tcs) ∧
  (∀ (code unit detail : Nat) (s : State), faultClass code = 3 → inReset s = true → ∃ t,
    exec (.fatalLineAssert code unit detail) s = .next t ∧ t.faults.log.length = min (s.faults.log.length + 1) 256 ∧ t = { s with faults := t.faults }) ∧
  (∀ (die : Nat) (s : State), okDie die = true → diePresent s die = true → ∃ t, exec (.dieBrownout die) s = .next t ∧
    die ∈ t.boot.silent ∧ t = { s with boot := { s.boot with silent := t.boot.silent, lastBeat := t.boot.lastBeat } })

/-! Links and lanes -/

/-- R25, R27, R28, R29, R323: what an error of a bond or a flit, a heartbeat and its loss, and an unanswered snoop do. Says that these commands
complete: bondErrorDetected, flitCrcError, heartbeatFlitSend, heartbeatLoss, snoopTimeout. -/
def Obligations.LinkErrorsAreCountedOrFatal : Prop :=
  (∀ (cd : Nat) (s : State), cd < 6 → cdPresent s cd = true → oget s 0x3123 (cd + 1) + 1 < 2 ^ 64 →
    exec (.bondErrorDetected cd true) s = .next (oset s 0x3123 (cd + 1) (oget s 0x3123 (cd + 1) + 1))) ∧
  (∀ (cd : Nat) (s : State), cd < 6 → cdPresent s cd = true →
    exec (.bondErrorDetected cd false) s = exec (.fatalLineAssert 0x0302 cd 0) s) ∧
  (∀ (i : Nat) (s : State), i < 17 → linkUp s i = true → oget s 0x3121 (i + 1) + 1 < 2 ^ 64 →
    exec (.flitCrcError i) s = .next { oset s 0x3121 (i + 1) (oget s 0x3121 (i + 1) + 1) with out := .replay (.link i) :: s.out }) ∧
  (∀ (i : Nat) (up : Bool) (s : State), i < 17 → linkUp s i = true → (i, up) ∉ s.boot.lastBeat →
    exec (.heartbeatFlitSend i up) s =
      .next { s with boot := { s.boot with lastBeat := (i, up) :: s.boot.lastBeat }, out := .heartbeatFlit i up :: s.out }) ∧
  (∀ (i : Nat) (up : Bool) (s : State), i < 17 → linkUp s i = true → (i, up) ∉ s.boot.losses → ∃ t, exec (.heartbeatLoss i up) s = .next t ∧
    t.boot.losses = (i, up) :: s.boot.losses ∧ (i, up) ∉ t.boot.lastBeat ∧
    t = { s with boot := { s.boot with losses := t.boot.losses, lastBeat := t.boot.lastBeat } }) ∧
  (∀ (n : Nat) (up : Bool) (s : State), n < 6 → cdPresent s n = true →
    exec (.heartbeatLoss (17 + n) up) s = exec (.fatalLineAssert 0x0303 n 0) s) ∧
  (∀ (md agent : Nat) (s : State), md < 6 → snoopOwed s md agent = true →
    exec (.snoopTimeout md agent) s = exec (.fatalLineAssert 0x0306 (6 + md) agent) s) ∧
  (∀ (md agent : Nat) (s : State), md < 6 → snoopOwed s md agent = true → inReset s = false →
    ∃ t, exec (.snoopTimeout md agent) s = .next t ∧ t.boot.phase = .goingDown ∧ t.boot.fatalLine = true ∧ t.boot.reason = 1 ∧
      (t.faults.log.head?.map fun e => (e.code, e.unit, e.detail, e.cls)) = some (0x0306, 6 + md, agent, 3) ∧ t.coh = s.coh ∧ t.mem = s.mem)

/-- R29 to R31: a collection without reports changes nothing and every other one forgets its reports; lane-check flits are counted per lane against
the limit of the window, eye margins against the minimum. Says that these commands complete: checkFlitSend, checkFlitReceived, eyeMarginScan,
heartbeatCollectionEnd. -/
def Obligations.LaneHealthIsMeasured : Prop :=
  (∀ s : State, s.boot.losses = [] → exec .heartbeatCollectionEnd s = .next s) ∧
  (∀ s : State, ∃ t, exec .heartbeatCollectionEnd s = .next t ∧ t.boot.losses = [] ∧ t.mem = s.mem ∧ t.tcs = s.tcs ∧ t.ports = s.ports) ∧
  (∀ (i : Nat) (up : Bool) (s : State), i < 17 → linkUp s i = true → (linkAt s i).held = false →
    exec (.checkFlitSend i up) s = .next { s with out := .checkFlit i up :: s.out }) ∧
  (∀ (i : Nat) (up : Bool) (lane errors : Nat) (s : State), i < 17 → linkUp s i = true →
    tget 0 (linkSide (linkAt s i) up).errs lane + errors ≤ (linkAt s i).limit →
    exec (.checkFlitReceived i up lane errors false) s = .next (linkPut s i (setLinkSide (linkAt s i) up
      { linkSide (linkAt s i) up with
        errs := tset 0 (linkSide (linkAt s i) up).errs lane (tget 0 (linkSide (linkAt s i) up).errs lane + errors) }))) ∧
  (∀ (i : Nat) (up : Bool) (lane errors : Nat) (s : State), i < 17 → linkUp s i = true → errors ≤ oget s 0x2120 1 →
    exec (.checkFlitReceived i up lane errors true) s = .next (linkPut s i (setLinkSide
      { linkAt s i with limit := oget s 0x2120 1, up := { (linkAt s i).up with errs := [] }, down := { (linkAt s i).down with errs := [] } } up
      { linkSide (linkAt s i) up with errs := tset 0 [] lane errors }))) ∧
  (∀ (i : Nat) (up : Bool) (lane m : Nat) (s : State), i < 17 → linkUp s i = true → NoneHeld s → lane ∈ (linkSide (linkAt s i) up).lanes →
    lane ∉ (linkSide (linkAt s i) up).bad → oget s 0x2120 2 ≤ m →
    exec (.eyeMarginScan (.link i) [(up, lane, m)]) s = .next (linkPut (oset s 0x3122 (i + 1) (m % 2 ^ 16)) i
      (setLinkSide (linkAt s i) up { linkSide (linkAt s i) up with low := tset 0 (linkSide (linkAt s i) up).low lane 0 })))

/-- R31, R32, R33, R491: a failing lane takes the next free spare, else the link runs at half width, else it fails. R32 steps 2 to 4, R33: the end of
a retraining and of an installation of paths sends the held flits and closes the recovery window it opened. Says that these commands complete:
laneBitLockLost, spareTrained, linkRetrainDone, routeInstallDone. -/
def Obligations.FailingLanesAreReplacedAndLinksRecover : Prop :=
  (∀ (i : Nat) (up : Bool) (lane sp : Nat) (r : List Nat) (s : State), i < 17 → linkUp s i = true → NoneHeld s →
    lane ∈ (linkSide (linkAt s i) up).lanes → lane ∉ (linkSide (linkAt s i) up).bad → (linkSide (linkAt s i) up).spares = sp :: r → sp ≠ lane →
    s.faults.windows = [] → inReset s = false → (linkAt s i).replacing = none → 64 ≤ leftLanes (linkAt s i) up lane →
    linkWidth (linkAt s i) ≤ healthy (retireLane lane (linkSide (linkAt s i) up)) →
    ∃ t, exec (.laneBitLockLost (.link i) up lane) s = .next t ∧ (linkAt t i).replacing = some (up, lane, sp) ∧
      lane ∈ (linkSide (linkAt t i) up).bad ∧ (linkAt t i).state = (linkAt s i).state ∧
      (t.faults.log.head?.map fun e => (e.code, e.unit, e.detail)) = some (0x0101, i, lane) ∧ t.mem = s.mem ∧ t.tcs = s.tcs) ∧
  (∀ (i : Nat) (up : Bool) (lane : Nat) (s : State), i < 17 → linkUp s i = true → NoneHeld s → hasLane (linkSide (linkAt s i) up) lane = true →
    s.faults.windows = [] → inReset s = false → 64 ≤ leftLanes (linkAt s i) up lane →
    healthy (retireLane lane (linkSide (linkAt s i) up)) < linkWidth (linkAt s i) →
    ∃ t, exec (.laneBitLockLost (.link i) up lane) s = .next t ∧ (linkAt t i).retraining = true ∧ (linkAt t i).held = true ∧
      (t.faults.windows.map fun w => (w.code, w.unit)) = [(0x0201, i)]) ∧
  (∀ (i : Nat) (up : Bool) (lane : Nat) (s : State), i < 17 → linkUp s i = true → NoneHeld s → hasLane (linkSide (linkAt s i) up) lane = true →
    s.faults.windows = [] → inReset s = false → leftLanes (linkAt s i) up lane < 64 →
    ∃ t, exec (.laneBitLockLost (.link i) up lane) s = .next t ∧ (linkAt t i).state = 1 ∧ (linkAt t i).held = true ∧ i ∈ t.pendAlt) ∧
  (∀ (i : Nat) (s : State) (up : Bool) (lane sp : Nat), i < 17 → (linkAt s i).replacing = some (up, lane, sp) → (linkAt s i).queue = [] →
    exec (.spareTrained (.link i)) s = .next (linkPut s i
      { setLinkSide (linkAt s i) up (switchLane lane sp (linkSide (linkAt s i) up)) with replacing := none, queue := [] })) ∧
  (∀ (i : Nat) (s : State) (up : Bool) (lane sp k : Nat) (f : Bool × Nat) (r : List (Bool × Nat)), i < 17 →
    (linkAt s i).replacing = some (up, lane, sp) → (linkAt s i).queue = f :: r →
    (linkSide (setLinkSide (linkAt s i) up (switchLane lane sp (linkSide (linkAt s i) up))) f.1).spares.head? = some k →
    ∃ t, exec (.spareTrained (.link i)) s = .next t ∧ (linkAt t i).replacing = some (f.1, f.2, k) ∧ (linkAt t i).queue = r) ∧
  (∀ (i : Nat) (s : State), i < 17 → (linkAt s i).retraining = true → s.faults.deferred = [] →
    ∃ t, exec (.linkRetrainDone (.link i)) s = .next t ∧
      linkAt t i = { linkAt s i with
        state := 2, retraining := false, held := false, up := chooseLanes 64 (linkAt s i).up, down := chooseLanes 64 (linkAt s i).down } ∧
      (∀ j, j ≠ i → linkAt t j = linkAt s j) ∧
      (heldFlits s i ≠ 0 → oget s 0x3121 (i + 1) + heldFlits s i < 2 ^ 64 → oget t 0x3121 (i + 1) = oget s 0x3121 (i + 1) + heldFlits s i) ∧
      t.faults.windows = (s.faults.windows.filter fun w => !(decide (w.code = 0x0201) && decide (w.unit = i))) ∧ t.mem = s.mem ∧ t.ports = s.ports) ∧
  (∀ (i : Nat) (s : State), i < 17 → i ∈ s.pendAlt → (linkAt s i).state = 1 → s.faults.deferred = [] →
    ∃ t, exec (.routeInstallDone i) s = .next t ∧ linkAt t i = { linkAt s i with held := false } ∧ i ∉ t.pendAlt ∧
      t.alt = installRoutes { s with links := t.links, pendAlt := t.pendAlt } ∧
      t.routes = installPaths { s with links := t.links, pendAlt := t.pendAlt } t.alt ∧
      t.faults.windows = (s.faults.windows.filter fun w => !(decide (w.code = 0x0202) && decide (w.unit = i))) ∧ t.mem = s.mem)

/-- R35, R259 to R261, R384, R398, R518: a request without a response is logged with TIMEOUT and the record of R518, and then ends as each requester
sees it: a tensor core faults with cause 0xF, an application core takes an access fault, an inbound PCIe read is answered with Completer Abort, the
submission unit parks the item's queue, a walking item is refused, an event record is not written. Says that these commands complete:
transactionTimeout. -/
def Obligations.TimedOutRequestIsReported : Prop :=
  (∀ (p pa : Nat) (item : Option Nat) (s : State), p < 4 → pcieUp s p = true →
    ∃ t, exec (.transactionTimeout ⟨3, p, item⟩ pa) s = .next t ∧ t.out = .pcieCompletion p 4 [] :: .memError 6 pa ⟨3, p, item⟩ :: s.out ∧
      t.mem = s.mem ∧ t.tcs = s.tcs ∧ t.cores = s.cores) ∧
  (∀ (p pa : Nat) (item : Option Nat) (s : State), p < 4 → pcieUp s p = false → exec (.transactionTimeout ⟨3, p, item⟩ pa) s = .next s) ∧
  (∀ (k n pa : Nat) (item : Option Nat) (s : State), (k = 4 ∧ n < 24 ∨ k = 8 ∧ n = 0 ∨ k = 9 ∧ n < 16) →
    ∃ t, exec (.transactionTimeout ⟨k, n, item⟩ pa) s = .next t ∧ t.out = .memError 6 pa ⟨k, n, item⟩ :: s.out ∧
      octGet t 0x7100 2 = memErrRecord s 6 pa ⟨k, n, item⟩ ∧ t.mem = s.mem ∧ t.tcs = s.tcs ∧ t.cores = s.cores ∧ t.items = s.items) ∧
  (∀ (tc pa n : Nat) (item : Option Nat) (s : State), tc < 192 → (tcAt s tc).item = some n → (tcAt s tc).stopped = false → (tcAt s tc).done = none →
    (∀ p, p < 4 → ∀ r ∈ (pcieAt s p).reads, ¬(r.dma = true ∧ r.ac = tc ∧ r.pa = pa)) → (∀ q ∈ s.chips.pend, ¬(q.ac = tc ∧ q.pa = pa)) →
    ∃ t, exec (.transactionTimeout ⟨1, tc, item⟩ pa) s = .next t ∧ (tcAt t tc).stopped = true ∧ (tcAt t tc).fault = some (0xF, (tcAt s tc).pc) ∧
      t.out = .memError 6 pa ⟨1, tc, some n⟩ :: s.out ∧ octGet t 0x7100 2 = memErrRecord s 6 pa ⟨1, tc, some n⟩ ∧ t.mem = s.mem ∧
      (∀ k, k ≠ tc → tcAt t k = tcAt s k)) ∧
  (∀ (tc pa : Nat) (item : Option Nat) (s : State), tc < 192 → (tcAt s tc).item = none →
    (∀ p, p < 4 → ∀ r ∈ (pcieAt s p).reads, ¬(r.dma = true ∧ r.ac = tc ∧ r.pa = pa)) → (∀ q ∈ s.chips.pend, ¬(q.ac = tc ∧ q.pa = pa)) →
    exec (.transactionTimeout ⟨1, tc, item⟩ pa) s = .next s) ∧
  (∀ (ac pa x : Nat) (item : Option Nat) (s : State), ac < 128 → acLive s ac = true → localAddr s pa = some x →
    (∀ p, p < 4 → ∀ r ∈ (pcieAt s p).reads, ¬(r.dma = false ∧ r.ac = ac ∧ r.pa = pa)) → (∀ q ∈ s.chips.pend, ¬(q.ac = ac ∧ q.pa = pa)) →
    ∃ t, exec (.transactionTimeout ⟨2, ac, item⟩ pa) s = .next t ∧ t.out = .accessFault ac pa false false :: .memError 6 pa ⟨2, ac, none⟩ :: s.out ∧
      octGet t 0x7100 2 = memErrRecord s 6 pa ⟨2, ac, none⟩ ∧ t.mem = s.mem ∧ (∀ k, k ≠ ac → coreAt t k = coreAt s k)) ∧
  (∀ (n pa : Nat) (it : Item) (s : State), itemAt s n = some it →
    exec (.transactionTimeout ⟨5, 0, some n⟩ pa) s = .next (parkQueue it.ctx it.q 3 it.idx (memErr 6 pa ⟨5, 0, some n⟩ s)) ∧
    ((it.phase = .walking ∨ it.phase = .parked) →
      exec (.transactionTimeout ⟨6, 0, some n⟩ pa) s = .next (settleAll (refuse n 0x10 (memErr 6 pa ⟨6, 0, some n⟩ s))))) ∧
  (∀ (pa : Nat) (s : State), s.queues = [] → s.rqs = [] →
    exec (.transactionTimeout ⟨5, 0, none⟩ pa) s = .next (memErr 6 pa ⟨5, 0, none⟩ s)) ∧
  (∀ (pa : Nat) (s : State), exec (.transactionTimeout ⟨6, 0, none⟩ pa) s = .next (memErr 6 pa ⟨6, 0, none⟩ s)) ∧
  (∀ (pa : Nat) (item : Option Nat) (s : State), nextDelivery s = none → exec (.transactionTimeout ⟨7, 0, item⟩ pa) s = .next s) ∧
  (∀ (pa n : Nat) (item : Option Nat) (s : State), nextDelivery s = some n → writesRecord s n = true →
    exec (.transactionTimeout ⟨7, 0, item⟩ pa) s = .next (deliver n (some 6) s))

/-! The Pacer -/

/-- R65, R67: PSETQ writes a region register without its reserved bits, PGETQ reads one, PQADD moves its base within 15 bits, PTAG reads the latest
tag. Nothing but the core changes. R67, R151, R153: PRDOP, PPERF and PSQRD read what the item and its slots hold; counters 4 and 5 depend on timing,
and their value here is free (log 20). PSQADV adds to the slot's sum, PDONE ends the core's part with its kernel status. Says that these commands
complete: psetq, pgetq, pqadd, ptag, prdop, pdone, pperf, psqrd, psqadv. -/
def Obligations.PacerMovesRegionsAndReadsItsItem : Prop :=
  (∀ (tc n : Nat) (it : Item) (rd rs1 : BitVec 5) (s : State), PacerReady s tc n it 4 (.psetq tc rd rs1 0) → rd.toNat < 16 →
    exec (.psetq tc rd rs1 0) s = .next (tcPut s tc (onward 4 { tcAt s tc with
      q := tset 0 (tcAt s tc).q rd.toNat (xReg (tcAt s tc) rs1.toNat &&& 0x3FFFFFFFFFFF7FFF) }))) ∧
  (∀ (tc n : Nat) (it : Item) (rd rs1 : BitVec 5) (s : State), PacerReady s tc n it 4 (.pgetq tc rd rs1 0) → rs1.toNat < 16 →
    exec (.pgetq tc rd rs1 0) s = .next (tcPut s tc (onward 4 (xPut (tcAt s tc) rd.toNat (qReg (tcAt s tc) rs1.toNat))))) ∧
  (∀ (tc n : Nat) (it : Item) (rd rs1 : BitVec 5) (s : State), PacerReady s tc n it 4 (.pqadd tc rd rs1 0) → rd.toNat < 16 →
    exec (.pqadd tc rd rs1 0) s = .next (tcPut s tc (onward 4 { tcAt s tc with
      q := tset 0 (tcAt s tc).q rd.toNat (setFld 14 0 ((fld 14 0 (qReg (tcAt s tc) rd.toNat) + (xReg (tcAt s tc) rs1.toNat).toNat) % 32768)
        (qReg (tcAt s tc) rd.toNat)) }))) ∧
  (∀ (tc n : Nat) (it : Item) (rd : BitVec 5) (s : State), PacerReady s tc n it 4 (.ptag tc rd 0 0) →
    exec (.ptag tc rd 0 0) s = .next (tcPut s tc (onward 4 (xPut (tcAt s tc) rd.toNat (BitVec.ofNat 64 (tcAt s tc).tag))))) ∧
  (∀ (tc n : Nat) (it : Item) (o : OpSlot) (rd rs1 : BitVec 5) (s : State), PacerReady s tc n it 4 (.prdop tc rd rs1 0) →
    itemSlot it (fld 3 0 (xReg (tcAt s tc) rs1.toNat)) = some o → fld 7 4 (xReg (tcAt s tc) rs1.toNat) = 0 →
    fld 63 12 (xReg (tcAt s tc) rs1.toNat) = 0 →
    exec (.prdop tc rd rs1 0) s = .next (tcPut s tc (onward 4 (xPut (tcAt s tc) rd.toNat
      (BitVec.ofNat 64 (o.field (fld 11 8 (xReg (tcAt s tc) rs1.toNat)))))))) ∧
  (∀ (tc n : Nat) (it : Item) (rd rs1 : BitVec 5) (s : State), PacerReady s tc n it 4 (.pperf tc rd rs1 0) →
    (xReg (tcAt s tc) rs1.toNat).toNat < 4 →
    exec (.pperf tc rd rs1 0) s = .next (tcPut s tc (onward 4 (xPut (tcAt s tc) rd.toNat
      (tget 0 (tcAt s tc).perf (xReg (tcAt s tc) rs1.toNat).toNat))))) ∧
  (∀ (tc n : Nat) (it : Item) (rd rs1 : BitVec 5) (s : State), PacerReady s tc n it 4 (.pperf tc rd rs1 0) →
    ((xReg (tcAt s tc) rs1.toNat).toNat = 4 ∨ (xReg (tcAt s tc) rs1.toNat).toNat = 5) →
    ∃ v : W64, exec (.pperf tc rd rs1 0) s =
      .next { tcPut s tc (onward 4 (xPut (tcAt s tc) rd.toNat v)) with fresh := s.fresh + 1 }) ∧
  (∀ (tc n : Nat) (it : Item) (rd rs1 : BitVec 5) (l : Latch × Item) (u s : State), PacerReady s tc n it 4 (.psqrd tc rd rs1 0) →
    l = useLatch s it (fld 5 0 (xReg (tcAt s tc) rs1.toNat)) → u = { s with items := aput s.items n l.2 } →
    fld 7 6 (xReg (tcAt s tc) rs1.toNat) = 0 → fld 63 12 (xReg (tcAt s tc) rs1.toNat) = 0 →
    slotBound s (fld 5 0 (xReg (tcAt s tc) rs1.toNat)) it.ctx = true →
    exec (.psqrd tc rd rs1 0) s = .next (tcPut u tc (onward 4 (xPut (tcAt s tc) rd.toNat (sqField u l.1 (fld 11 8 (xReg (tcAt s tc) rs1.toNat))))))) ∧
  (∀ (tc n : Nat) (it jt : Item) (rs1 rs2 : BitVec 5) (s : State), PacerReady s tc n it 4 (.psqadv tc 0 rs1 rs2) →
    jt = (useLatch s it (xReg (tcAt s tc) rs1.toNat).toNat).2 →
    (xReg (tcAt s tc) rs1.toNat).toNat < 64 → slotBound s (xReg (tcAt s tc) rs1.toNat).toNat it.ctx = true →
    exec (.psqadv tc 0 rs1 rs2) s = .next { tcPut s tc (onward 4 (tcAt s tc)) with
      items := aput s.items n { jt with sums := (tset 0 jt.sums (xReg (tcAt s tc) rs1.toNat).toNat
        (tget 0 jt.sums (xReg (tcAt s tc) rs1.toNat).toNat + (xReg (tcAt s tc) rs2.toNat).truncate 32)) } }) ∧
  (∀ (tc n : Nat) (it : Item) (rs1 : BitVec 5) (s : State), PacerReady s tc n it 4 (.pdone tc 0 rs1 0) → (tcAt s tc).sb = [] →
    exec (.pdone tc 0 rs1 0) s = .next { tcPut s tc (onward 4 { tcAt s tc with done := some (fld 7 0 (xReg (tcAt s tc) rs1.toNat)) }) with
      items := aput s.items n { it with
        kstat := it.kstat ++ [((tcAt s tc).rank, fld 7 0 (xReg (tcAt s tc) rs1.toNat))], ended := it.ended ++ [tc] } }) ∧
  (∀ (tc n : Nat) (it : Item) (rs1 : BitVec 5) (s : State), PacerReady s tc n it 4 (.pdone tc 0 rs1 0) → (tcAt s tc).sb ≠ [] →
    exec (.pdone tc 0 rs1 0) s = .next (tcPut s tc { tcAt s tc with stall := some (.pdone tc 0 rs1 0) }))

/-- R67: PWAIT and PFENCE go on when nothing they name is in flight and stand otherwise; PSTAT tells whether it is. R67, R218, R220: PBSIG enters the
DMA queue with its Baton and operation word; PBWAIT reads the value once its condition holds, and stands until then. Says that these commands
complete: pwait, pfence, pstat, pbsig, pbwait. -/
def Obligations.PacerWaitsAndSignalsBatons : Prop :=
  (∀ (tc n : Nat) (it : Item) (rs1 : BitVec 5) (s : State), PacerReady s tc n it 4 (.pwait tc 0 rs1 0) →
    inFlight (tcAt s tc) (xReg (tcAt s tc) rs1.toNat) = false →
    exec (.pwait tc 0 rs1 0) s = .next (tcPut s tc (onward 4 (tcAt s tc)))) ∧
  (∀ (tc n : Nat) (it : Item) (rs1 : BitVec 5) (s : State), PacerReady s tc n it 4 (.pwait tc 0 rs1 0) →
    inFlight (tcAt s tc) (xReg (tcAt s tc) rs1.toNat) = true →
    exec (.pwait tc 0 rs1 0) s = .next (tcPut s tc { tcAt s tc with stall := some (.pwait tc 0 rs1 0) })) ∧
  (∀ (tc n : Nat) (it : Item) (rs2 : BitVec 5) (s : State), PacerReady s tc n it 4 (.pfence tc 0 0 rs2) → rs2.toNat < 16 →
    (∀ o ∈ (tcAt s tc).sb, (if rs2 = 0 then 15 else rs2.toNat).testBit (engQueue o.eng) = false) →
    exec (.pfence tc 0 0 rs2) s = .next (tcPut s tc (onward 4 (tcAt s tc)))) ∧
  (∀ (tc n : Nat) (it : Item) (rs2 : BitVec 5) (s : State) (o : Op), PacerReady s tc n it 4 (.pfence tc 0 0 rs2) → rs2.toNat < 16 →
    o ∈ (tcAt s tc).sb → (if rs2 = 0 then 15 else rs2.toNat).testBit (engQueue o.eng) = true →
    exec (.pfence tc 0 0 rs2) s = .next (tcPut s tc { tcAt s tc with stall := some (.pfence tc 0 0 rs2) })) ∧
  (∀ (tc n : Nat) (it : Item) (rd rs1 : BitVec 5) (s : State), PacerReady s tc n it 4 (.pstat tc rd rs1 0) →
    exec (.pstat tc rd rs1 0) s = .next (tcPut s tc (onward 4 (xPut (tcAt s tc) rd.toNat
      (if inFlight (tcAt s tc) (xReg (tcAt s tc) rs1.toNat) then 1 else 0))))) ∧
  (∀ (tc n : Nat) (it : Item) (rs1 rs2 : BitVec 5) (s : State), PacerReady s tc n it 4 (.pbsig tc 0 rs1 rs2) →
    (xReg (tcAt s tc) rs1.toNat).toNat < 8192 → fld 63 32 (xReg (tcAt s tc) rs2.toNat) = 0 →
    batonWordOk ((xReg (tcAt s tc) rs2.toNat).truncate 32) = true → batonBound s (xReg (tcAt s tc) rs1.toNat).toNat it.ctx = true →
    roomFor (tcAt s tc) .pbsig = true →
    exec (.pbsig tc 0 rs1 rs2) s = .next (tcPut s tc (onward 4 { tcAt s tc with
      tag := nextTag (tcAt s tc).tag
      sb := (tcAt s tc).sb ++ [{ plainOp .pbsig 0 (xReg (tcAt s tc) rs1.toNat) with
        ctl2 := xReg (tcAt s tc) rs2.toNat, tag := nextTag (tcAt s tc).tag }] }))) ∧
  (∀ (tc n : Nat) (it : Item) (rd rs1 rs2 : BitVec 5) (s : State), PacerReady s tc n it 4 (.pbwait tc rd rs1 rs2) →
    (xReg (tcAt s tc) rs1.toNat).toNat < 8192 → condWordOk (xReg (tcAt s tc) rs2.toNat) = true →
    batonBound s (xReg (tcAt s tc) rs1.toNat).toNat it.ctx = true →
    condHolds (xReg (tcAt s tc) rs2.toNat) (batonAt s (xReg (tcAt s tc) rs1.toNat).toNat).value = true →
    exec (.pbwait tc rd rs1 rs2) s = .next (tcPut s tc (onward 4 (xPut (tcAt s tc) rd.toNat
      ((batonAt s (xReg (tcAt s tc) rs1.toNat).toNat).value.zeroExtend 64))))) ∧
  (∀ (tc n : Nat) (it : Item) (rd rs1 rs2 : BitVec 5) (s : State), PacerReady s tc n it 4 (.pbwait tc rd rs1 rs2) →
    (xReg (tcAt s tc) rs1.toNat).toNat < 8192 → condWordOk (xReg (tcAt s tc) rs2.toNat) = true →
    batonBound s (xReg (tcAt s tc) rs1.toNat).toNat it.ctx = true →
    condHolds (xReg (tcAt s tc) rs2.toNat) (batonAt s (xReg (tcAt s tc) rs1.toNat).toNat).value = false →
    exec (.pbwait tc rd rs1 rs2) s = .next (tcPut s tc { tcAt s tc with stall := some (.pbwait tc rd rs1 rs2) }))

/-- R43 to R46, R57, R62: scalar loads, stores and atomics on tile memory, PRAM and PARAM, naturally aligned, once no operation in flight holds the
granule; one on tile memory is the Pacer's next request to its banks. R64 to R66: ADDI runs as RISC-V says, a fetched word of the Pacer extension as
the instruction it encodes, and an undefined one faults with cause 0x01. Says that these commands complete: pacerLoad, pacerStore, pacerAtomic,
pacerScalarOp. -/
def Obligations.PacerAccessesTheLocalMap : Prop :=
  (∀ (tc n : Nat) (it : Item) (f3 : BitVec 3) (rd rs1 : BitVec 5) (imm : BitVec 12) (a : Nat) (s : State),
    PacerReady s tc n it 4 (.pacerLoad tc false f3 rd rs1 imm) → f3 ≠ 7 → a = (xReg (tcAt s tc) rs1.toNat + imm.signExtend 64).toNat →
    (inTile a (2 ^ (f3.toNat % 4)) || inPram a (2 ^ (f3.toNat % 4)) || inParam a (2 ^ (f3.toNat % 4))) = true → a % 2 ^ (f3.toNat % 4) = 0 →
    accessWaits (tcAt s tc) a (2 ^ (f3.toNat % 4)) false = false →
    exec (.pacerLoad tc false f3 rd rs1 imm) s = .next (tcPut s tc (onward 4 (xPut
      (if inTile a (2 ^ (f3.toNat % 4)) then bankRequest 5 (tcAt s tc) else tcAt s tc) rd.toNat
      (extendLoad f3.toNat (2 ^ (f3.toNat % 4)) (localGet (tcAt s tc) a (2 ^ (f3.toNat % 4)))))))) ∧
  (∀ (tc n : Nat) (it : Item) (f3 : BitVec 3) (rs1 rs2 : BitVec 5) (imm : BitVec 12) (a : Nat) (s : State),
    PacerReady s tc n it 4 (.pacerStore tc false f3 rs1 rs2 imm) → f3.toNat < 4 → a = (xReg (tcAt s tc) rs1.toNat + imm.signExtend 64).toNat →
    inTile a (2 ^ f3.toNat) = true → a % 2 ^ f3.toNat = 0 → accessWaits (tcAt s tc) a (2 ^ f3.toNat) true = false →
    exec (.pacerStore tc false f3 rs1 rs2 imm) s = .next (tcPut s tc (onward 4 { bankRequest 5 (tcAt s tc) with
      tile := tputs (tcAt s tc).tile a (leBytes (2 ^ f3.toNat) (xReg (tcAt s tc) rs2.toNat).toNat) }))) ∧
  (∀ (tc n : Nat) (it : Item) (rd rs1 rs2 : BitVec 5) (a : Nat) (s : State),
    PacerReady s tc n it 4 (.pacerAtomic tc 0 3 rd rs1 rs2) → a = (xReg (tcAt s tc) rs1.toNat).toNat →
    inTile a 8 = true → a % 8 = 0 → accessWaits (tcAt s tc) a 8 true = false →
    exec (.pacerAtomic tc 0 3 rd rs1 rs2) s = .next (tcPut s tc (onward 4 (xPut { bankRequest 5 (tcAt s tc) with
      tile := tputs (tcAt s tc).tile a (leBytes 8 (BitVec.ofNat 64 (localGet (tcAt s tc) a 8) + xReg (tcAt s tc) rs2.toNat).toNat) }
      rd.toNat (BitVec.ofNat 64 (localGet (tcAt s tc) a 8)))))) ∧
  (∀ (tc n : Nat) (it : Item) (rd rs1 : BitVec 5) (imm : BitVec 12) (s : State),
    PacerReady s tc n it 4 (.pacerScalarOp tc (imm ++ rs1 ++ (0 : BitVec 3) ++ rd ++ (0x13 : BitVec 7))) →
    exec (.pacerScalarOp tc (imm ++ rs1 ++ (0 : BitVec 3) ++ rd ++ (0x13 : BitVec 7))) s =
      .next (tcPut s tc (onward 4 (xPut (tcAt s tc) rd.toNat (xReg (tcAt s tc) rs1.toNat + imm.signExtend 64))))) ∧
  (∀ (tc : Nat) (rd rs1 : BitVec 5) (s : State),
    exec (.pacerScalarOp tc ((3 : BitVec 7) ++ (0 : BitVec 5) ++ rs1 ++ (1 : BitVec 3) ++ rd ++ (0x0B : BitVec 7))) s =
      exec (.pstat tc rd rs1 0) s) ∧
  (∀ (tc : Nat) (m : BitVec 2) (xs : BitVec 5) (qb qa qd : BitVec 4) (s : State),
    exec (.pacerScalarOp tc ((0 : BitVec 6) ++ m ++ xs ++ qb ++ qa ++ qd ++ (0x5B : BitVec 7))) s = exec (.vadd tc m xs qb qa qd) s) ∧
  (∀ (tc n : Nat) (it : Item) (s : State), PacerReady s tc n it 4 (.pacerScalarOp tc 0x7F) →
    exec (.pacerScalarOp tc 0x7F) s = .next (pacerFault tc 1 s))

/-- R48 to R51, R67, R475: a read of INSTRET and a write of FEVEC; EBREAK halts at debug level 2 and above and faults below; ECALL faults with cause
0x0C; PFRET leaves the fast handler; a reserved field faults with cause 1. A fault stops the core and fixes the item's first error. Says that these
commands complete: pfret, pacerCsrAccess, ecall, ebreak. -/
def Obligations.PacerControlAndFaults : Prop :=
  (∀ (tc n : Nat) (it : Item) (rd : BitVec 5) (s : State), PacerReady s tc n it 4 (.pacerCsrAccess tc 2 0xC02 rd 0) →
    exec (.pacerCsrAccess tc 2 0xC02 rd 0) s = .next (tcPut s tc (onward 4 (xPut (tcAt s tc) rd.toNat (tcAt s tc).instret)))) ∧
  (∀ (tc n : Nat) (it : Item) (rs1 : BitVec 5) (s : State), PacerReady s tc n it 4 (.pacerCsrAccess tc 1 0x800 0 rs1) →
    exec (.pacerCsrAccess tc 1 0x800 0 rs1) s = .next (tcPut s tc (onward 4 { tcAt s tc with
      fevec := xReg (tcAt s tc) rs1.toNat &&& BitVec.ofInt 64 (-2) }))) ∧
  (∀ (tc n : Nat) (it : Item) (s : State), PacerReady s tc n it 4 (.ebreak tc false) → 2 ≤ s.sec.debug →
    exec (.ebreak tc false) s = .next (tcPut s tc (onward 4 { tcAt s tc with halted := true }))) ∧
  (∀ (tc n : Nat) (it : Item) (s : State), PacerReady s tc n it 4 (.ebreak tc false) → s.sec.debug < 2 →
    exec (.ebreak tc false) s = .next (pacerFault tc 0xB s)) ∧
  (∀ (tc n : Nat) (it : Item) (s : State), PacerReady s tc n it 4 (.ecall tc) →
    exec (.ecall tc) s = .next { tcPut s tc { tcAt s tc with stopped := true, fault := some (0xC, (tcAt s tc).pc), stall := none } with
      items := aput s.items n { it with
        faults := it.faults ++ [((tcAt s tc).rank, tc, 0xC, (tcAt s tc).pc)]
        status := match it.status with | none => some 2 | some k => some k } }) ∧
  (∀ (tc n : Nat) (it : Item) (s : State), PacerReady s tc n it 4 (.pfret tc 0 0 0) → (tcAt s tc).inHandler = true →
    exec (.pfret tc 0 0 0) s = .next (tcPut s tc { swapBanks (tcAt s tc) with
      inHandler := false, pc := (tcAt s tc).fepc, instret := (tcAt s tc).instret + 1, stall := none })) ∧
  (∀ (tc n : Nat) (it : Item) (rd rs1 rs2 : BitVec 5) (s : State), PacerReady s tc n it 4 (.psetq tc rd rs1 rs2) →
    (rs2 ≠ 0 ∨ 16 ≤ rd.toNat) → exec (.psetq tc rd rs1 rs2) s = .next (pacerFault tc 1 s))

/-! Issue to the engines -/

/-- R58, R59, R69 to R74: a matrix operation that meets its checks, with room for it, enters the scoreboard with its regions and control value as read
at issue; MLDW fixes the weight buffer and MMUL, MLDA and MZERO the accumulator kind that later checks go by. Says that these commands complete: mldw,
mmul, mrd, mlda, mzero. -/
def Obligations.MatrixOperationsAreIssued : Prop :=
  (∀ (tc n : Nat) (it : Item) (m : BitVec 2) (qa : BitVec 4) (c : TCore) (w : W64) (r : Region) (s : State),
    PacerReady s tc n it 4 (.mldw tc m 0 0 qa 0) → c = tcAt s tc → w = qReg c qa.toNat → r = regionOf w → roomFor c .mldw = true →
    RegionOk w → Unmasked w → fmtArith r.fmt = true → r.rows ≤ 128 → r.cols ≤ 128 →
    exec (.mldw tc m 0 0 qa 0) s = .next (tcPut s tc (onward 4 (entered { plainOp .mldw m.toNat 0 with qa := w, reads := [granules w] }
      { c with
        w0Issue := (if m.toNat = 0 then (r.rows, r.cols, r.fmt) else if m.toNat = 2 then (r.cols, r.rows, r.fmt) else c.w0Issue)
        w1Issue := (if m.toNat = 1 then (r.rows, r.cols, r.fmt) else if m.toNat = 3 then (r.cols, r.rows, r.fmt) else c.w1Issue) })))) ∧
  (∀ (tc n : Nat) (it : Item) (m : BitVec 2) (qa : BitVec 4) (c : TCore) (w : W64) (r : Region) (b : Nat × Nat × Nat) (s : State),
    PacerReady s tc n it 4 (.mmul tc m 0 0 qa 0) → c = tcAt s tc → w = qReg c qa.toNat → r = regionOf w → roomFor c .mmul = true →
    RegionOk w → Unmasked w → b = (if m.toNat % 2 = 0 then c.w0Issue else c.w1Issue) →
    r.fmt = b.2.2 → r.cols = b.1 → r.rows ≤ 128 → (2 ≤ m.toNat ∨ c.accIntIssue = fmtIsInt r.fmt) →
    exec (.mmul tc m 0 0 qa 0) s = .next (tcPut s tc (onward 4 (entered { plainOp .mmul m.toNat 0 with qa := w, reads := [granules w] }
      { c with accIntIssue := fmtIsInt r.fmt })))) ∧
  (∀ (tc n : Nat) (it : Item) (xs : BitVec 5) (qb qa qd : BitVec 4) (c : TCore) (ctl a b d : W64) (s : State),
    PacerReady s tc n it 4 (.mrd tc 0 xs qb qa qd) → c = tcAt s tc → ctl = xReg c xs.toNat → a = qReg c qa.toNat → b = qReg c qb.toNat →
    d = qReg c qd.toNat → roomFor c .mrd = true → fld 63 35 ctl = 0 →
    RegionOk d → Unmasked d → (regionOf d).rows ≤ 128 → (regionOf d).cols ≤ 128 →
    mrdFmtOk c.accIntIssue (bit 33 ctl || bit 32 ctl) (regionOf d).fmt = true →
    (bit 33 ctl = true → RegionOk a ∧ Unmasked a ∧ (regionOf a).fmt = 8 ∧ (regionOf a).rows = 1 ∧ (regionOf a).cols = (regionOf d).cols) →
    (bit 34 ctl = true → RegionOk b ∧ Unmasked b ∧ ((regionOf b).fmt = 11 ∨ (regionOf b).fmt = 9) ∧ (regionOf b).rows = 1 ∧
      (regionOf b).cols = 264) →
    exec (.mrd tc 0 xs qb qa qd) s = .next (tcPut s tc (onward 4 (entered { plainOp .mrd 0 ctl with
      qa := a, qb := b, qd := d
      reads := if bit 33 ctl then [granules a] else []
      writes := granules d :: (if bit 34 ctl then [granules b] else []) } c)))) ∧
  (∀ (tc n : Nat) (it : Item) (qa : BitVec 4) (c : TCore) (w : W64) (r : Region) (s : State),
    PacerReady s tc n it 4 (.mlda tc 0 0 0 qa 0) → c = tcAt s tc → w = qReg c qa.toNat → r = regionOf w → roomFor c .mlda = true →
    RegionOk w → Unmasked w → (r.fmt = 8 ∨ r.fmt = 9) → r.rows ≤ 128 → r.cols ≤ 128 →
    exec (.mlda tc 0 0 0 qa 0) s = .next (tcPut s tc (onward 4 (entered { plainOp .mlda 0 0 with qa := w, reads := [granules w] }
      { c with accIntIssue := decide (r.fmt = 9) })))) ∧
  (∀ (tc n : Nat) (it : Item) (m : BitVec 2) (c : TCore) (s : State),
    PacerReady s tc n it 4 (.mzero tc m 0 0 0 0) → c = tcAt s tc → m.toNat ≤ 1 → roomFor c .mzero = true →
    exec (.mzero tc m 0 0 0 0) s = .next (tcPut s tc (onward 4 (entered (plainOp .mzero m.toNat 0)
      { c with accIntIssue := decide (m.toNat = 1) }))))

/-- R55, R58 to R60, R76 to R80: the operations of two operands, and VMOV, enter the vector queue with their operands, masks and footprints as read at
issue. R58 to R60, R80 to R86, R146: the operations from qa to qd, VTOPK, VCMPRS and VRAND enter the vector queue; VRAND takes the key, GEN and POS
that the item has latched for the slot. Says that these commands complete: vadd, vsub, vmul, vfma, vmin, vmax, vmov, vcvt, vceq, vclt, vcle, vfun,
vred, vscan, vtopk, vcmprs, vexpd, vrand, vtrn. -/
def Obligations.VectorOperationsAreIssued : Prop :=
  (∀ p ∈ ([(.vadd, .vadd), (.vsub, .vsub), (.vmul, .vmul), (.vfma, .vfma), (.vmin, .vmin), (.vmax, .vmax), (.vceq, .vceq), (.vclt, .vclt),
      (.vcle, .vcle), (.vfun, .vfun)] : List (EngOp × (Nat → BitVec 2 → BitVec 5 → BitVec 4 → BitVec 4 → BitVec 4 → Instr))),
    ∀ (tc n : Nat) (it : Item) (m : BitVec 2) (xs : BitVec 5) (qb qa qd : BitVec 4) (c : TCore) (ctl a b d : W64) (s : State),
    PacerReady s tc n it 4 (p.2 tc m xs qb qa qd) → c = tcAt s tc → ctl = xReg c xs.toNat → a = qReg c qa.toNat → b = qReg c qb.toNat →
    d = qReg c qd.toNat → roomFor c p.1 = true → RegionOk a → RegionOk d → MaskOk c a → MaskOk c d → binFmtOk p.1 (regionOf a).fmt = true →
    (regionOf d).fmt = (if isCompare p.1 then 12 else (regionOf a).fmt) →
    (regionOf a).rows = (regionOf d).rows → (regionOf a).cols = (regionOf d).cols →
    (if m.toNat = 1 then qb = 0 else p.1 = .vfun ∨ xs = 0) → (m.toNat ≠ 1 → RegionOk b ∧ MaskOk c b ∧ (regionOf b).fmt = (regionOf a).fmt ∧ secondShape m.toNat (regionOf a) (regionOf b) = true) →
    (p.1 = .vfun → fld 3 0 ctl < 12 ∧ fld 31 4 ctl = 0 ∧ (m.toNat ≠ 1 → fld 63 32 ctl = 0)) →
    exec (p.2 tc m xs qb qa qd) s = .next (tcPut s tc (onward 4 (entered { plainOp p.1 m.toNat ctl with
      qa := a, qb := b, qd := d, maskD := maskWord c d
      reads := granules a :: granulesMasked c a ++ granulesMasked c d ++
        (if m.toNat = 1 then [] else granules b :: granulesMasked c b) ++ (if p.1 = .vfma then [granules d] else [])
      writes := [granules d] } c)))) ∧
  (∀ (tc n : Nat) (it : Item) (qa qd : BitVec 4) (c : TCore) (a d : W64) (s : State),
    PacerReady s tc n it 4 (.vmov tc 0 0 0 qa qd) → c = tcAt s tc → a = qReg c qa.toNat → d = qReg c qd.toNat → roomFor c .vmov = true →
    RegionOk a → RegionOk d → MaskOk c a → MaskOk c d → (regionOf d).fmt ≠ 12 → (regionOf a).fmt = (regionOf d).fmt →
    (regionOf a).rows = (regionOf d).rows → (regionOf a).cols = (regionOf d).cols →
    exec (.vmov tc 0 0 0 qa qd) s = .next (tcPut s tc (onward 4 (entered { plainOp .vmov 0 (xReg c 0) with
      qa := a, qd := d, maskD := maskWord c d
      reads := granules a :: granulesMasked c a ++ granulesMasked c d
      writes := [granules d] } c)))) ∧
  (∀ (tc n : Nat) (it : Item) (xs : BitVec 5) (qd : BitVec 4) (c : TCore) (d : W64) (s : State),
    PacerReady s tc n it 4 (.vmov tc 1 xs 0 0 qd) → c = tcAt s tc → d = qReg c qd.toNat → roomFor c .vmov = true →
    RegionOk d → MaskOk c d → (regionOf d).fmt ≠ 12 →
    exec (.vmov tc 1 xs 0 0 qd) s = .next (tcPut s tc (onward 4 (entered { plainOp .vmov 1 (xReg c xs.toNat) with
      qa := qReg c 0, qd := d, maskD := maskWord c d
      reads := granulesMasked c d
      writes := [granules d] } c)))) ∧
  (∀ p ∈ ([(.vcvt, .vcvt), (.vscan, .vscan), (.vexpd, .vexpd), (.vtrn, .vtrn), (.vred, .vred)] :
      List (EngOp × (Nat → BitVec 2 → BitVec 5 → BitVec 4 → BitVec 4 → BitVec 4 → Instr))),
    ∀ (tc n : Nat) (it : Item) (xs : BitVec 5) (qa qd : BitVec 4) (c : TCore) (wa wd : W64) (a d : Region) (s : State),
    PacerReady s tc n it 4 (p.2 tc 0 xs 0 qa qd) → c = tcAt s tc → wa = qReg c qa.toNat → wd = qReg c qd.toNat → a = regionOf wa →
    d = regionOf wd → roomFor c p.1 = true → RegionOk wa → RegionOk wd → MaskOk c wa →
    (match p.1 with
      | .vcvt => xs = 0 ∧ MaskOk c wd ∧ cvtFmt a.fmt = true ∧ cvtFmt d.fmt = true ∧ a.rows = d.rows ∧ a.cols = d.cols
      | .vscan => xs = 0 ∧ Unmasked wd ∧ isFmt3 a.fmt = true ∧ d.fmt = 8 ∧ a.rows = d.rows ∧ a.cols = d.cols
      | .vexpd => xs = 0 ∧ MaskOk c wd ∧ a.fmt ≠ 12 ∧ a.fmt = d.fmt ∧ a.rows = d.rows ∧ a.cols = d.cols
      | .vtrn => xs = 0 ∧ Unmasked wd ∧ a.fmt = d.fmt ∧ 8 ≤ fmtBits a.fmt ∧ a.rows ≤ 128 ∧ a.cols ≤ 128 ∧ d.rows = a.cols ∧ d.cols = a.rows
      | _ => Unmasked wd ∧ isFmt4 a.fmt = true ∧ (d.fmt = 8 ∨ (d.fmt = 9 ∧ a.fmt = 9)) ∧ d.rows = a.rows ∧ d.cols = 1 ∧
        fld 63 2 (xReg c xs.toNat) = 0) →
    exec (p.2 tc 0 xs 0 qa qd) s = .next (tcPut s tc (onward 4 (entered { plainOp p.1 0 (xReg c xs.toNat) with
      qa := wa, qd := wd, maskD := maskWord c wd
      reads := granules wa :: granulesMasked c wa ++ granulesMasked c wd
      writes := [granules wd] } c)))) ∧
  (∀ (tc n : Nat) (it : Item) (xs : BitVec 5) (qb qa qd : BitVec 4) (c : TCore) (ctl a b d : W64) (s : State),
    PacerReady s tc n it 4 (.vtopk tc 0 xs qb qa qd) → c = tcAt s tc → ctl = xReg c xs.toNat → a = qReg c qa.toNat → b = qReg c qb.toNat →
    d = qReg c qd.toNat → roomFor c .vtopk = true → RegionOk a → RegionOk b → RegionOk d → MaskOk c a → Unmasked b → Unmasked d →
    isFmt4 (regionOf a).fmt = true → (regionOf d).fmt = (regionOf a).fmt → (regionOf b).fmt = 10 → 1 ≤ ctl.toNat → ctl.toNat ≤ 64 →
    ctl.toNat ≤ (regionOf a).cols → (regionOf d).rows = (regionOf a).rows → (regionOf d).cols = ctl.toNat →
    (regionOf b).rows = (regionOf d).rows → (regionOf b).cols = (regionOf d).cols →
    exec (.vtopk tc 0 xs qb qa qd) s = .next (tcPut s tc (onward 4 (entered { plainOp .vtopk 0 ctl with
      qa := a, qb := b, qd := d
      reads := granules a :: granulesMasked c a
      writes := [granules d, granules b] } c)))) ∧
  (∀ (tc n : Nat) (it : Item) (qb qa qd : BitVec 4) (c : TCore) (a b d : W64) (s : State),
    PacerReady s tc n it 4 (.vcmprs tc 0 0 qb qa qd) → c = tcAt s tc → a = qReg c qa.toNat → b = qReg c qb.toNat →
    d = qReg c qd.toNat → roomFor c .vcmprs = true → RegionOk a → RegionOk b → RegionOk d → (regionOf a).masken = true → MaskOk c a →
    Unmasked b → Unmasked d → (regionOf a).fmt ≠ 12 → (regionOf d).fmt = (regionOf a).fmt → (regionOf b).fmt = 11 →
    (regionOf a).rows = (regionOf d).rows → (regionOf a).cols = (regionOf d).cols → (regionOf b).rows = (regionOf a).rows →
    (regionOf b).cols = 1 →
    exec (.vcmprs tc 0 0 qb qa qd) s = .next (tcPut s tc (onward 4 (entered { plainOp .vcmprs 0 0 with
      qa := a, qb := b, qd := d, maskA := maskWord c a
      reads := [granules a, granules (maskWord c a)]
      writes := [granules d, granules b] } c)))) ∧
  (∀ (tc n : Nat) (it : Item) (m : BitVec 2) (xs : BitVec 5) (qd : BitVec 4) (c : TCore) (ctl d : W64) (l : Latch × Item) (s : State),
    PacerReady s tc n it 4 (.vrand tc m xs 0 0 qd) → c = tcAt s tc → ctl = xReg c xs.toNat → d = qReg c qd.toNat → m ≠ 3 →
    roomFor c .vrand = true → RegionOk d → MaskOk c d → (if m = 0 then (regionOf d).fmt = 11 else isFmt3 (regionOf d).fmt = true) →
    fld 7 6 ctl = 0 → slotBound s (fld 5 0 ctl) it.ctx = true → l = useLatch s it (fld 5 0 ctl) →
    exec (.vrand tc m xs 0 0 qd) s = .next { tcPut s tc (onward 4 (entered { plainOp .vrand m.toNat ctl with
        qd := d, maskD := maskWord c d, slot := fld 5 0 ctl, q1 := l.1.keyHi, q2 := l.1.keyLo, buf := [l.1.gen.toNat, l.1.pos.toNat]
        reads := granulesMasked c d, writes := [granules d] } c)) with
      items := aput s.items n l.2 })

/-- R66, R88 to R95, R130 to R132: a transfer enters the DMA queue when the slot is declared, permits the access and holds the coordinates; DRLY
enters the Relay queue as its rank's contribution to the round its count names. Says that these commands complete: dld, dst, dvin, dvout, dpf, drly. -/
def Obligations.TransfersAreIssued : Prop :=
  (∀ p ∈ ([(.dld, .dld), (.dst, .dst), (.dpf, .dpf)] : List (EngOp × (Nat → BitVec 2 → BitVec 5 → BitVec 4 → BitVec 4 → BitVec 4 → Instr))),
    ∀ (tc n : Nat) (it : Item) (m : BitVec 2) (xs : BitVec 5) (qa qd slot q : BitVec 4) (c : TCore) (o : OpSlot) (c0 c1 w : W64) (s : State),
    PacerReady s tc n it 4 (p.2 tc m xs 0 qa qd) → c = tcAt s tc → xs.toNat % 2 = 0 → c0 = xReg c xs.toNat →
    c1 = (if xs = 0 then 0 else xReg c (xs.toNat + 1)) → slot = (if p.1 = .dld then qa else qd) → q = (if p.1 = .dld then qd else qa) →
    itemSlot it slot.toNat = some o → w = qReg c q.toNat → roomFor c p.1 = true → RegionOk w → Unmasked w →
    placeOk p.1 o (originOf c0 c1) (regionOf w).cols = true → (p.1 ≠ .dpf → (regionOf w).fmt = o.fmt) →
    (if p.1 = .dld then m ≠ 3 ∧ (m = 2 → blockInside o (originOf c0 c1) (regionOf w) = true) else m = 0) →
    exec (p.2 tc m xs 0 qa qd) s = .next (tcPut s tc (onward 4 (entered { plainOp p.1 m.toNat c0 with
      ctl2 := c1, slot := slot.toNat, qa := w
      reads := if p.1 = .dst then [granules w] else []
      writes := if p.1 = .dld then [granules w] else [] } c)))) ∧
  (∀ p ∈ ([(.dvin, .dvin), (.dvout, .dvout)] : List (EngOp × (Nat → BitVec 2 → BitVec 5 → BitVec 4 → BitVec 4 → BitVec 4 → Instr))),
    ∀ (tc n : Nat) (it : Item) (m : BitVec 2) (xs : BitVec 5) (qa qd slot q : BitVec 4) (c : TCore) (o : OpSlot) (c0 c1 y u v : W64) (s : State),
    PacerReady s tc n it 4 (p.2 tc m xs 0 qa qd) → c = tcAt s tc → xs.toNat % 2 = 0 → c0 = xReg c xs.toNat →
    c1 = (if xs = 0 then 0 else xReg c (xs.toNat + 1)) → slot = (if p.1 = .dvin then qa else qd) → q = (if p.1 = .dvin then qd else qa) →
    q.toNat ≤ 13 → itemSlot it slot.toNat = some o → y = qReg c q.toNat → u = qReg c (q.toNat + 1) → v = qReg c (q.toNat + 2) →
    roomFor c p.1 = true → RegionOk y ∧ RegionOk u ∧ RegionOk v → Unmasked y ∧ Unmasked u ∧ Unmasked v →
    planeFmtOk p.1 o [regionOf y, regionOf u, regionOf v] = true → planesOk o [regionOf y, regionOf u, regionOf v] = true →
    placeOk p.1 o (originOf c0 c1) (regionOf y).cols = true →
    (if p.1 = .dvin then m ≠ 3 ∧ (m = 2 → blockInside o (originOf c0 c1) (regionOf y) = true) else m = 0) →
    exec (p.2 tc m xs 0 qa qd) s = .next (tcPut s tc (onward 4 (entered { plainOp p.1 m.toNat c0 with
      ctl2 := c1, slot := slot.toNat, qa := y, q1 := u, q2 := v
      reads := if p.1 = .dvout then [granules y, granules u, granules v] else []
      writes := if p.1 = .dvin then [granules y, granules u, granules v] else [] } c)))) ∧
  (∀ (tc n : Nat) (it : Item) (xs : BitVec 5) (qa qd : BitVec 4) (c e : TCore) (h a d : W64) (g rank : Nat) (x : Group) (r : Round) (s : State),
    PacerReady s tc n it 4 (.drly tc 0 xs 0 qa qd) → c = tcAt s tc → h = xReg c xs.toNat → a = qReg c qa.toNat → d = qReg c qd.toNat →
    g = fld 9 0 h → rank = fld 35 16 h → x = groupAt s g → roomFor c .drly = true →
    fld 15 10 h = 0 → fld 63 36 h = 0 → gValid x = true → groupOf s g it.ctx = true → gLo x ≤ rank → rank ≤ gHi x → gFmtOk x = true →
    gState x ≠ 2 → (gKind x = 4 → qd = 0) →
    (if bringsData x rank then RegionOk a ∧ Unmasked a ∧ (regionOf a).fmt = gFmt x ∧ (regionOf a).rows * (regionOf a).cols = gE x else qa = 0) →
    (getsResult x rank = true → RegionOk d ∧ Unmasked d ∧ (regionOf d).fmt = gFmt x ∧ (regionOf d).rows * (regionOf d).cols = gE x) →
    r = (roundAt x (tget 0 x.counts rank)).getD (emptyRound (tget 0 x.counts rank)) →
    e = entered { plainOp .drly 0 h with
      qa := a, qd := d,
      reads := if bringsData x rank then [granules a] else [],
      writes := if getsResult x rank then [granules d] else [] } c →
    exec (.drly tc 0 xs 0 qa qd) s = .next { tcPut s tc (onward 4 { e with
        sb := (e.sb.map fun p => if p.tag = e.tag then { p with round := tget 0 x.counts rank } else p) }) with
      groups := tset {} s.groups g (gSetState 1 (roundPut { x with counts := tset 0 x.counts rank (tget 0 x.counts rank + 1) }
        { r with waiting := r.waiting ++ [(tc, nextTag c.tag, rank)], items := insNat n r.items })) })

/-- R50, R58, R61, R515: with no room an operation stands at the Pacer; a check that fails stops the core with its cause. -/
def Obligations.IssueWaitsForRoomAndFaults : Prop :=
  (∀ (tc n : Nat) (it : Item) (m : BitVec 2) (s : State), PacerReady s tc n it 4 (.mzero tc m 0 0 0 0) → m.toNat ≤ 1 →
    roomFor (tcAt s tc) .mzero = false →
    exec (.mzero tc m 0 0 0 0) s = .next (tcPut s tc { tcAt s tc with stall := some (.mzero tc m 0 0 0 0) })) ∧
  (∀ (tc n : Nat) (it : Item) (m : BitVec 2) (xs : BitVec 5) (qb qa qd : BitVec 4) (s : State),
    PacerReady s tc n it 4 (.mzero tc m xs qb qa qd) → (1 < m.toNat ∨ xs ≠ 0 ∨ qb ≠ 0 ∨ qa ≠ 0 ∨ qd ≠ 0) →
    exec (.mzero tc m xs qb qa qd) s = .next (pacerFault tc 1 s)) ∧
  (∀ (tc n : Nat) (it : Item) (m : BitVec 2) (qa : BitVec 4) (s : State), PacerReady s tc n it 4 (.mldw tc m 0 0 qa 0) →
    fmtReserved (regionOf (qReg (tcAt s tc) qa.toNat)).fmt = true →
    exec (.mldw tc m 0 0 qa 0) s = .next (pacerFault tc 6 s)) ∧
  (∀ (tc n : Nat) (it : Item) (m : BitVec 2) (qa : BitVec 4) (s : State), PacerReady s tc n it 4 (.mldw tc m 0 0 qa 0) →
    fmtReserved (regionOf (qReg (tcAt s tc) qa.toNat)).fmt = false → extentOk (regionOf (qReg (tcAt s tc) qa.toNat)) = false →
    exec (.mldw tc m 0 0 qa 0) s = .next (pacerFault tc 5 s)) ∧
  (∀ (tc n : Nat) (it : Item) (qa qd : BitVec 4) (s : State), PacerReady s tc n it 4 (.vtrn tc 0 0 0 qa qd) →
    RegionOk (qReg (tcAt s tc) qa.toNat) → RegionOk (qReg (tcAt s tc) qd.toNat) →
    (regionOf (qReg (tcAt s tc) qa.toNat)).fmt = (regionOf (qReg (tcAt s tc) qd.toNat)).fmt →
    8 ≤ fmtBits (regionOf (qReg (tcAt s tc) qa.toNat)).fmt →
    (regionOf (qReg (tcAt s tc) qd.toNat)).rows ≠ (regionOf (qReg (tcAt s tc) qa.toNat)).cols →
    exec (.vtrn tc 0 0 0 qa qd) s = .next (pacerFault tc 7 s))

/-! The engines -/

/-- R57, R74: MLDA's operation takes the region's elements at its start and leaves an accumulator of the region's format that holds them, zero
elsewhere; MZERO's leaves zeros of the type m names; another m is cause 0x01. The next state is given whole but for the elements; the start of an
operation is its path's next request to the banks. Says that these commands complete: operationStart, operationComplete. -/
def Obligations.MldaAndMzeroSetTheAccumulator : Prop :=
  (∀ (tc tag : Nat) (fl : List (Nat × Bool)) (c : TCore) (o : Op) (s : State), tc < 192 → c = tcAt s tc →
    c.sb.find? (fun p => decide (p.tag = tag)) = some o → o.eng = .mlda → canStart c o = true → issuing s = true →
    exec (.operationStart tc tag fl) s = .next (setFlaws [] (tcPut s tc (setOp (bankRequest 0 c) { o with
      started := true, readDone := true, buf := regionElems c.tile (regionOf o.qa) })))) ∧
  (∀ (tc tag : Nat) (fl : List (Nat × Bool)) (c : TCore) (o : Op) (r : Region) (src : Tab Byte) (s : State), tc < 192 → c = tcAt s tc →
    c.sb.find? (fun p => decide (p.tag = tag)) = some o → o.eng = .mlda → o.started = true → o.performed = false →
    (∀ p ∈ olderOps c o, isAccOp p.eng = false) → r = regionOf o.qa → r.cols ≤ 128 → o.buf = regionElems src r →
    ∃ acc : Acc, acc.int = decide (r.fmt = 9) ∧ acc.sat = [] ∧
      (∀ i j, i < r.rows → j < r.cols → tget 0 acc.el (accKey i j) = BitVec.ofNat 32 (elemGet src r i j)) ∧
      (∀ i j, j < 128 → (r.rows ≤ i ∨ r.cols ≤ j) → tget 0 acc.el (accKey i j) = 0) ∧
      exec (.operationComplete tc tag fl) s = .next (setFlaws [] (tcPut s tc (perfOf o { c with
        acc := acc, sb := c.sb.filter fun p => decide (p.tag ≠ tag) })))) ∧
  (∀ (tc tag : Nat) (fl : List (Nat × Bool)) (c : TCore) (o : Op) (s : State), tc < 192 → c = tcAt s tc →
    c.sb.find? (fun p => decide (p.tag = tag)) = some o → o.eng = .mzero → o.started = true → o.performed = false →
    (∀ p ∈ olderOps c o, isAccOp p.eng = false) →
    exec (.operationComplete tc tag fl) s = .next (setFlaws [] (tcPut s tc (perfOf o { c with
      acc := { int := decide (o.m = 1), el := [], sat := [] }, sb := c.sb.filter fun p => decide (p.tag ≠ tag) })))) ∧
  (∀ (tc n : Nat) (it : Item) (m : BitVec 2) (c : TCore) (s : State),
    PacerReady s tc n it 4 (.mzero tc m 0 0 0 0) → c = tcAt s tc → m.toNat ≤ 1 → roomFor c .mzero = true →
    exec (.mzero tc m 0 0 0 0) s = .next (tcPut s tc (onward 4 (entered (plainOp .mzero m.toNat 0)
      { c with accIntIssue := decide (m.toNat = 1) })))) ∧
  (∀ (tc n : Nat) (it : Item) (m : BitVec 2) (s : State), PacerReady s tc n it 4 (.mzero tc m 0 0 0 0) → 1 < m.toNat →
    exec (.mzero tc m 0 0 0 0) s = .next (pacerFault tc 1 s))

/-- R57, R69, R70, R73, R120: MLDW fills its weight buffer at its start; MMUL and MRD act on the accumulator and on tile memory, with their counts,
when they complete, after every accumulator operation before them. What the operation waits for keeps it from starting. -/
def Obligations.MatrixOperationsTakeEffect : Prop :=
  (∀ (tc tag : Nat) (fl : List (Nat × Bool)) (c : TCore) (o : Op) (s : State), tc < 192 → c = tcAt s tc →
    c.sb.find? (fun p => decide (p.tag = tag)) = some o → o.eng = .mldw → canStart c o = true → issuing s = true →
    exec (.operationStart tc tag fl) s = .next (setFlaws [] (tcPut s tc (setOp
      (if o.m % 2 = 0 then { bankRequest 2 c with w0 := loadWeights c.tile (regionOf o.qa) (decide (2 ≤ o.m)) }
       else { bankRequest 2 c with w1 := loadWeights c.tile (regionOf o.qa) (decide (2 ≤ o.m)) })
      { o with started := true, readDone := true })))) ∧
  (∀ (tc tag : Nat) (fl : List (Nat × Bool)) (c : TCore) (o : Op) (s : State), tc < 192 → c = tcAt s tc →
    c.sb.find? (fun p => decide (p.tag = tag)) = some o → (canStart c o = false ∨ issuing s = false) →
    exec (.operationStart tc tag fl) s = .next (setFlaws [] s)) ∧
  (∀ (tc tag : Nat) (fl : List (Nat × Bool)) (c : TCore) (o : Op) (s : State), tc < 192 → c = tcAt s tc →
    c.sb.find? (fun p => decide (p.tag = tag)) = some o → o.eng = .mmul → canStart c o = true → issuing s = true →
    exec (.operationStart tc tag fl) s = .next (setFlaws [] (tcPut s tc (setOp (bankRequest 0 c) { o with
      started := true, readDone := true
      buf := streamRows c.tile (regionOf o.qa) (if o.m % 2 = 0 then c.w0 else c.w1) })))) ∧
  (∀ (tc tag : Nat) (fl : List (Nat × Bool)) (c : TCore) (o : Op) (s : State), tc < 192 → c = tcAt s tc →
    c.sb.find? (fun p => decide (p.tag = tag)) = some o → o.eng = .mmul → o.started = true → o.performed = false →
    (∀ p ∈ olderOps c o, isAccOp p.eng = false) →
    exec (.operationComplete tc tag fl) s = .next (setFlaws [] (tcPut s tc (perfOf o { c with
      acc := accStream (decide (2 ≤ o.m)) (fmtIsInt (regionOf o.qa).fmt) (regionOf o.qa).rows o.buf c.acc
      sb := c.sb.filter fun p => decide (p.tag ≠ tag) })))) ∧
  (∀ (tc tag : Nat) (fl : List (Nat × Bool)) (c : TCore) (o : Op) (s : State), tc < 192 → c = tcAt s tc →
    c.sb.find? (fun p => decide (p.tag = tag)) = some o → o.eng = .mrd → o.started = true → o.performed = false →
    (∀ p ∈ olderOps c o, isAccOp p.eng = false) →
    exec (.operationComplete tc tag fl) s = .next (setFlaws [] (tcPut s tc { performMrd o c with
      sb := c.sb.filter fun p => decide (p.tag ≠ tag) }))) ∧
  (∀ (tc tag : Nat) (fl : List (Nat × Bool)) (c : TCore) (o p : Op) (s : State), tc < 192 → c = tcAt s tc →
    c.sb.find? (fun p => decide (p.tag = tag)) = some o → o.eng = .mmul → p ∈ olderOps c o → isAccOp p.eng = true → p.started = false →
    exec (.operationComplete tc tag fl) s = .next (setFlaws [] s))

/-- R57, R86: VTRN's start writes the transpose, element by element, and no byte of tile memory outside qd's footprint; its completion leaves the
scoreboard. Nothing but the core changes. -/
def Obligations.VtrnWritesTheTranspose : Prop :=
  (∀ (tc tag : Nat) (fl : List (Nat × Bool)) (c : TCore) (o : Op) (a d : Region) (s : State), tc < 192 → c = tcAt s tc →
    c.sb.find? (fun p => decide (p.tag = tag)) = some o → o.eng = .vtrn → canStart c o = true → issuing s = true → a = regionOf o.qa → d = regionOf o.qd →
    extentOk d = true → fmtReserved d.fmt = false → a.fmt = d.fmt → 8 ≤ fmtBits d.fmt → d.rows = a.cols → d.cols = a.rows →
    ∃ t : Tab Byte,
      (∀ i j, i < a.rows → j < a.cols → elemGet t d j i = elemGet c.tile a i j) ∧
      (∀ k, (k < footLo d ∨ footHi d ≤ k) → tget 0 t k = tget 0 c.tile k) ∧
      exec (.operationStart tc tag fl) s = .next (setFlaws [] (tcPut s tc (setOp { bankRequest 3 c with tile := t } { o with
        started := true, readDone := true })))) ∧
  (∀ (tc tag : Nat) (fl : List (Nat × Bool)) (c : TCore) (o : Op) (s : State), tc < 192 → c = tcAt s tc →
    c.sb.find? (fun p => decide (p.tag = tag)) = some o → engPath o.eng = 3 → o.started = true →
    exec (.operationComplete tc tag fl) s = .next (setFlaws [] (tcPut s tc (perfOf o { c with
      sb := c.sb.filter fun p => decide (p.tag ≠ tag) }))))

/-- R106: no product, sum, difference, fused multiply-add or conversion to FP32 or BF16 answers a subnormal number: where the exponent field is
zero, the fraction is zero. -/
def Obligations.FlushedResultsAreNeverSubnormal : Prop :=
  (∀ a b c : Nat, ∀ v ∈ [fadd 8 a b, fsub 8 a b, fmul 8 a b, ffma 8 a b c, product 6 a b, product 8 a b],
    bitsOf 30 23 v = 0 → bitsOf 22 0 v = 0) ∧
  (∀ a b c : Nat, ∀ v ∈ [fadd 6 a b, fsub 6 a b, fmul 6 a b, ffma 6 a b c], bitsOf 14 7 v = 0 → bitsOf 6 0 v = 0) ∧
  (∀ src a : Nat, src < 10 → (bitsOf 30 23 (convert src 8 a).code = 0 → bitsOf 22 0 (convert src 8 a).code = 0) ∧
    (bitsOf 14 7 (convert src 6 a).code = 0 → bitsOf 6 0 (convert src 6 a).code = 0))

/-- R49, R51, R57, R63, R67, R87, R90, R219, R244: a transfer whose pages, lines and answers are there moves its bytes and leaves; an error response
in it, or by itself, stops the core with cause 0x0F and is logged; DPF leaves as it is handed on; PBSIG waits for the core's earlier stores; a
promotion is noted; a fast event enters its handler with the shadow registers. Says that these commands complete: bankStarvationPromote,
dmaErrorResponse, fastEventEntry. -/
def Obligations.TransfersAndEventsReachTheCore : Prop :=
  (∀ (tc tag : Nat) (fl : List (Nat × Bool)) (c : TCore) (o p : Op) (s : State), tc < 192 → c = tcAt s tc →
    c.sb.find? (fun p => decide (p.tag = tag)) = some o → engPath o.eng = 4 → canStart c o = true → issuing s = true →
    p = { o with started := true, readDone := true, buf := dmaCapture o c } →
    exec (.operationStart tc tag fl) s =
      .next (setFlaws [] (startDma tc p (tcPut (setFlaws fl s) tc (setOp (startRequest o c) p)))) ∧
    ((o.eng = .dpf ∨ o.eng = .pbsig) →
      exec (.operationStart tc tag fl) s = .next (setFlaws [] (tcPut s tc (setOp c p))))) ∧
  (∀ (tc tag n : Nat) (fl : List (Nat × Bool)) (it : Item) (c : TCore) (o : Op) (sl : OpSlot) (pages : List (Nat × Nat × Bool)) (x : Xfer)
    (y : Nat × Bool × State) (t u s : State), tc < 192 → c = tcAt s tc → c.item = some n → itemAt s n = some it →
    c.sb.find? (fun p => decide (p.tag = tag)) = some o → (o.eng = .dld ∨ o.eng = .dst ∨ o.eng = .dvin ∨ o.eng = .dvout) →
    o.started = true → behindHeld c o = false → itemSlot it o.slot = some sl →
    engPages tc false it.ctx (some n) sl.access (pagesOf (dmaRanges o sl)) (setFlaws fl s) = (some pages, t) → x = xferOf tc n it o sl pages t →
    o.asked = false →
    xferWaits t x o sl = false → asksFar t x o sl = false → awaits t tc tag = false → y = dmaMove x o sl t →
    u = dropOp tc tag (tcMod y.2.2 tc (perfAdd (if dmaReads o.eng then 2 else 3) y.1)) →
    exec (.operationComplete tc tag fl) s = .next (setFlaws [] (if y.2.1 then memFault tc u else u))) ∧
  (∀ (tc tag n : Nat) (fl : List (Nat × Bool)) (it : Item) (c : TCore) (o : Op) (sl : OpSlot) (s : State), tc < 192 → c = tcAt s tc →
    c.item = some n → itemAt s n = some it → c.sb.find? (fun p => decide (p.tag = tag)) = some o → o.eng = .dpf → o.started = true →
    behindHeld c o = false → itemSlot it o.slot = some sl →
    exec (.operationComplete tc tag fl) s = .next (setFlaws [] (dropOp tc tag (dpfEffect tc n it o sl (setFlaws fl s))))) ∧
  (∀ (tc tag : Nat) (fl : List (Nat × Bool)) (c : TCore) (o : Op) (s : State), tc < 192 → c = tcAt s tc →
    c.sb.find? (fun p => decide (p.tag = tag)) = some o → (o.started = false ∨ o.eng = .drly ∨ (behindHeld c o = true ∧ o.asked = false)) →
    exec (.operationComplete tc tag fl) s = .next (setFlaws [] s)) ∧
  (∀ (tc tag : Nat) (fl : List (Nat × Bool)) (c : TCore) (o p : Op) (s : State), tc < 192 → c = tcAt s tc →
    c.sb.find? (fun p => decide (p.tag = tag)) = some o → o.eng = .pbsig → p ∈ olderOps c o →
    (p.eng = .dst ∨ p.eng = .dvout ∨ p.eng = .drly) → exec (.operationComplete tc tag fl) s = .next (setFlaws [] s)) ∧
  (∀ (tc tag : Nat) (fl : List (Nat × Bool)) (c : TCore) (o : Op) (s : State), tc < 192 → c = tcAt s tc →
    c.sb.find? (fun p => decide (p.tag = tag)) = some o → o.eng = .pbsig → o.started = true → behindHeld c o = false →
    (∀ p ∈ olderOps c o, p.eng ≠ .dst ∧ p.eng ≠ .dvout ∧ p.eng ≠ .drly) →
    exec (.operationComplete tc tag fl) s = .next (setFlaws [] (signalBaton (fld 12 0 o.ctl) (o.ctl2.truncate 32)
      (tcPut (setFlaws fl s) tc { c with sb := c.sb.filter fun p => decide (p.tag ≠ tag) })))) ∧
  (∀ (tc r : Nat) (s : State), tc < 192 → r < 6 → tcPresent s tc = true →
    exec (.bankStarvationPromote tc r) s = .next (tcPut s tc { tcAt s tc with promote := insNat r (tcAt s tc).promote })) ∧
  (∀ (tc n code pa : Nat) (it : Item) (fetch : Bool) (s : State), tc < 192 → (tcAt s tc).item = some n → itemAt s n = some it →
    (tcAt s tc).stopped = false → (tcAt s tc).done = none → 1 ≤ code → code ≤ 6 →
    exec (.dmaErrorResponse tc fetch code pa) s = .next (pacerFault tc 0xF (memErr code pa ⟨1, tc, some n⟩ s))) ∧
  (∀ (tc src : Nat) (rest : List Nat) (c : TCore) (s : State), tc < 192 → c = tcAt s tc → c.pend = src :: rest → pacerLive c = true →
    c.fevec ≠ 0 → c.inHandler = false → c.stall = none →
    exec (.fastEventEntry tc) s = .next (tcPut s tc { swapBanks c with
      pend := rest, fepc := c.pc, festat := src, pc := c.fevec, inHandler := true }))

/-! The Relay and the sequence slots -/

/-- R127 to R129, R140, R228: the write that sets VALID starts a sound entry at round 0 and puts an unsound one in error; later writes change the
entry, abort an open round with reason 4, or are ignored; the driver's binding is refused while an accepted item names the group. Says that these
commands complete: relayGroupStart, relayGroupEntryWrite, relayGroupBind. -/
def Obligations.RelayEntriesStartAndBind : Prop :=
  (∀ (g : Nat) (v : W64) (h : Group) (s : State), g < 1024 → bit 0 v = true → gValid (groupAt s g) = false →
    h = groupAfter (groupAt s g) 0 v false → gSound h = true → groupReserved 0 v = false →
    exec (.relayGroupStart g v) s =
      .next { s with groups := tset {} s.groups g { gSetState 0 h with ground := 0, gabort := 0, rounds := [], counts := [] } }) ∧
  (∀ (g : Nat) (v : W64) (h : Group) (s : State), g < 1024 → bit 0 v = true → gValid (groupAt s g) = false →
    h = groupAfter (groupAt s g) 0 v false → (gSound h = false ∨ groupReserved 0 v = true) →
    exec (.relayGroupStart g v) s = .next { s with groups := tset {} s.groups g (gSetState 3 { h with gctl := setFld 0 0 0 h.gctl }) }) ∧
  (∀ (g w : Nat) (v : W64) (h : Group) (s : State), g < 1024 → w < 6 → h = groupAfter (groupAt s g) w v false →
    gValid (groupAt s g) = true → gSound h = true → groupReserved w v = false → (groupAt s g).rounds = [] →
    exec (.relayGroupEntryWrite g (8 * w) v) s = .next (groupPut s g h)) ∧
  (∀ (g w : Nat) (v : W64) (h k : Group) (t s : State), g < 1024 → w < 6 → h = groupAfter (groupAt s g) w v false →
    gValid (groupAt s g) = true → gSound h = true → groupReserved w v = false → (groupAt s g).rounds ≠ [] → t = relayAbort g 4 s →
    k = groupAfter (groupAt t g) w v false →
    exec (.relayGroupEntryWrite g (8 * w) v) s = .next (groupPut t g k) ∧ gState k = 2 ∧ k.rounds = [] ∧
      (gState (groupAt s g) ≠ 2 → k.gabort = 4)) ∧
  (∀ (g w : Nat) (v : W64) (h : Group) (s : State), g < 1024 → w < 6 → h = groupAfter (groupAt s g) w v false →
    gValid (groupAt s g) = true → (gSound h = false ∨ groupReserved w v = true) →
    exec (.relayGroupEntryWrite g (8 * w) v) s = .next s) ∧
  (∀ (g w : Nat) (v : W64) (h : Group) (s : State), g < 1024 → 1 ≤ w → w < 6 → h = groupAfter (groupAt s g) w v false →
    gValid (groupAt s g) = false → (groupAt s g).rounds = [] → h ≠ {} →
    exec (.relayGroupEntryWrite g (8 * w) v) s = .next { s with groups := tset {} s.groups g h }) ∧
  (∀ (g : Nat) (v : W64) (h : Group) (s : State), g < 1024 → h = groupAfter (groupAt s g) 0 v true →
    bindChanges (groupAt s g) h = true → groupNamed s g = true →
    exec (.relayGroupBind g v) s = .next { s with bindErr := true }) ∧
  (∀ (g : Nat) (v : W64) (h : Group) (s : State), g < 1024 → h = groupAfter (groupAt s g) 0 v true → groupNamed s g = false →
    gValid (groupAt s g) = false → gValid h = false → (groupAt s g).rounds = [] → h ≠ {} →
    exec (.relayGroupBind g v) s = .next { s with groups := tset {} s.groups g h })

/-- R132 to R139: a contribution is accepted with its rank's elements, a node is formed from its children, the result reaches each rank's qd, and with
no rank waiting the round ends and the next one opens. Says that these commands complete: relayContributionAccept, relayNodeCombine,
relayRoundComplete, relayResultDeliver. -/
def Obligations.RelayRoundsFormTheirResult : Prop :=
  (∀ (tc tag n rank : Nat) (c : TCore) (o : Op) (g : Group) (r : Round) (s : State), tc < 192 → c = tcAt s tc →
    c.sb.find? (fun p => decide (p.tag = tag) && decide (p.eng = .drly)) = some o → n = fld 9 0 o.ctl → rank = fld 35 16 o.ctl →
    g = groupAt s n → roundAt g o.round = some r → o.accepted = false → canStart c { o with started := false } = true →
    o.round ≤ g.ground + 1 → doneAtAccept g rank = false →
    (∀ x ∈ g.rounds, x.num ≠ o.round → ∀ w ∈ x.waiting, w.2.2 = rank → waitsAccept s w = false) →
    exec (.relayContributionAccept tc tag) s = .next { tcPut s tc (setOp c { o with started := true, readDone := true, accepted := true }) with
      groups := tset {} s.groups n (roundPut g { r with
        parts := (aput r.parts rank (if bringsData g rank then regionElems c.tile (regionOf o.qa) else [])) }) }) ∧
  (∀ (g k l m : Nat) (x : Group) (r : Round) (v : List Nat) (s : State), g < 1024 → x = groupAt s g → roundAt x k = some r → gValid x = true →
    l ≤ treeLevels (gN x) → nodeThere (gN x) l m = true → computedHere s g x l m = true → (∀ e ∈ r.nodes, ¬(e.1 = l ∧ e.2.1 = m)) → formNode x r l m = some v →
    climbsTo s g x l m = none → (gKind x ≠ 4 ∨ gScope x ≠ 2) →
    exec (.relayNodeCombine g k l m) s = .next { s with groups := tset {} s.groups g (roundPut x { r with nodes := r.nodes ++ [(l, m, v)] }) }) ∧
  (∀ (g : Group) (r : Round) (l m : Nat) (a b : List Nat), nodeThere (gN g) l (2 * m + 1) = true → nodeValue r l (2 * m) = some a →
    nodeValue r l (2 * m + 1) = some b → formNode g r (l + 1) m = some (if gKind g ≤ 2 then combineLists g a b else a)) ∧
  (∀ (g : Group) (r : Round) (l m : Nat), nodeThere (gN g) l (2 * m + 1) = false → formNode g r (l + 1) m = nodeValue r l (2 * m)) ∧
  (∀ (tc tag n rank : Nat) (c : TCore) (o : Op) (g : Group) (r : Round) (v : List Nat) (s : State), tc < 192 → c = tcAt s tc →
    c.sb.find? (fun p => decide (p.tag = tag) && decide (p.eng = .drly)) = some o → n = fld 9 0 o.ctl → rank = fld 35 16 o.ctl →
    g = groupAt s n → roundAt g o.round = some r → rootValue g r = some v → o.accepted = true → o.round = g.ground →
    exec (.relayResultDeliver tc tag) s = .next { tcPut s tc { c with
        tile := if getsResult g rank then regionPut c.tile (regionOf o.qd) v else c.tile
        sb := c.sb.filter fun p => decide (p.tag ≠ tag) } with
      groups := tset {} s.groups n (roundPut g { r with
        waiting := (r.waiting.filter fun w => !(decide (w.1 = tc) && decide (w.2.1 = tag))) }) }) ∧
  (∀ (g : Nat) (x : Group) (r : Round) (v : List Nat) (s : State), g < 1024 → x = groupAt s g → roundAt x x.ground = some r → issuing s = true →
    rootValue x r = some v → gValid x = true → r.waiting = [] → gScope x = 0 → bit 13 x.gbaton = false →
    exec (.relayRoundComplete g) s = .next { s with groups := (tset {} s.groups g (gSetState
      (if (x.rounds.filter fun y => decide (y.num ≠ r.num)) = [] then 0 else 1)
      { x with rounds := (x.rounds.filter fun y => decide (y.num ≠ r.num)), ground := x.ground + 1 })) })

/-- R150, R228: a key write keeps KEY_CHK as it read until the update, which makes it follow the key; a binding is written unless an accepted item
names the slot, and then BIND_ERR is set. Nothing but the slot changes. Says that these commands complete: sqKeyWrite, keyChkUpdate, sqBind. -/
def Obligations.SequenceSlotsHoldKeysAndBindings : Prop :=
  (∀ (n : Nat) (v : W64) (s : State), n < 64 →
    exec (.sqKeyWrite n true v) s = .next (slotPut s n { slotAt s n with keyHi := v, chk := some (keyChkRead (slotAt s n)) }) ∧
    exec (.sqKeyWrite n false v) s = .next (slotPut s n { slotAt s n with keyLo := v, chk := some (keyChkRead (slotAt s n)) })) ∧
  (∀ (n : Nat) (s : State), n < 64 → exec (.keyChkUpdate n) s = .next (slotPut s n { slotAt s n with chk := none }) ∧
    keyChkRead { slotAt s n with chk := none } = keyChk (slotAt s n).keyHi (slotAt s n).keyLo) ∧
  (∀ (n : Nat) (v : W64) (s : State), n < 64 → slotNamed s n = false →
    maskWrite 0x3FFF0001 (slotAt s n).ctl v ≠ (slotAt s n).ctl →
    exec (.sqBind n v) s = .next (slotPut s n { slotAt s n with ctl := maskWrite 0x3FFF0001 (slotAt s n).ctl v })) ∧
  (∀ (n : Nat) (v : W64) (s : State), n < 64 → slotNamed s n = true →
    maskWrite 0x3FFF0001 (slotAt s n).ctl v ≠ (slotAt s n).ctl →
    exec (.sqBind n v) s = .next { s with bindErr := true })

/-! The time base -/

/-- R161, R164, R166, R169: at a frame boundary the accepted raster and a due step take effect; the third good edge in a row makes frame sync valid
and locks an acquiring time base to its frame, with the accepted raster; a lock on PTP comes at the boundary that PTP's frame time marks; the third
bad one, or a missing edge, loses it. R161, R164, R169, R170: ACQUIRING without a reference and an expired HOLDOVER go to FREE_RUN, as does TB_SOURCE
3; an acceptance counts only in MISMATCH; a raster write is taken within its limits while no work item is held, and FSYNC_FRAME names the next edge's
frame. R165, R167, R170: an Announce of a better master is followed from the start; a Sync with its origin and receipt gives the offset less the path
delay, which the Delay_Req and Delay_Resp measure as the mean of both ways; 16 offsets within 100 ns make the reference valid, and a Sync timeout ends
that, with the silent master's rank (the model's choice, log 122), as does an instant before the epoch. Messages of another domain or master leave the
state. Says that these commands complete: fsyncEdge, ptpAnnounceReceive, ptpSyncReceive, ptpFollowUpReceive, ptpDelayReqSend, ptpDelayRespReceive,
tbSourceWrite, tbStepAccept, rasterWrite, fsyncTimeout, ptpSyncTimeout, tbAcqTimeout, tbHoldoverExpiry, frameBoundary. -/
def Obligations.TimeBaseFollowsItsSourceAndWrites : Prop :=
  (∀ (b : TimeBase) (s : State), s.tb.on = true → b = { s.tb with raster := comingRaster s, pendRaster := none, now := nextFrame s.tb.now } →
    lockDue s = none → eclDue s (nextFrame s.tb.now) = false → (s.tb.ref = 0 ∨ ¬(s.tb.state = 4 ∧ s.tb.accepted = true)) →
    ∃ t, exec .frameBoundary s = .next t ∧ t.tb = b ∧ (s.items = [] → t = { s with tb := b })) ∧
  (∀ (b : TimeBase) (u : State) (s : State), s.tb.on = true →
    b = { s.tb with raster := comingRaster s, pendRaster := none, now := nextFrame s.tb.now } → u = { s with tb := b } → s.tb.ref ≠ 0 →
    eclDue s (nextFrame s.tb.now) = false → s.tb.state = 4 → s.tb.accepted = true →
    ∃ t, exec .frameBoundary s = .next t ∧
      t.tb = { b with now := ofTicks u ((ticksOf u b.now : Int) + b.err).toNat, err := 0, state := 1, accepted := false }) ∧
  (∀ (k : Nat) (w : W64) (s : State), s.tb.on = true → s.tb.state = 0 → lockDue s = some (k, w) → k ≤ ticksOf s (nextFrame s.tb.now) →
    ∃ t, exec .frameBoundary s = .next t ∧ t.tb = { s.tb with
      raster := comingRaster s, pendRaster := none, now := w, err := 0, state := 1, accepted := false }) ∧
  (∀ s : State, s.tb.on = false → exec .frameBoundary s = .next s) ∧
  (∀ (ns : Nat) (s : State), s.tb.on = true → s.tb.fsSeen = false → s.tb.fsValid = false →
    exec (.fsyncEdge ns) s = .next { s with tb := { s.tb with fsFrame := none, fsSeen := true, fsGood := 0, fsBad := 0 } }) ∧
  (∀ (ns : Nat) (s : State), s.tb.on = true → s.tb.fsSeen = true → periodGood s ns = true → 2 ≤ s.tb.fsGood → s.tb.state = 0 →
    oget s 0x6000 1 ≤ 1 →
    ∃ t, exec (.fsyncEdge ns) s = .next t ∧ t.tb = { s.tb with
      fsFrame := none, fsGood := 3, fsBad := 0, fsValid := true, ref := 1, err := 0, state := 1, accepted := false
      raster := comingRaster s, pendRaster := none
      now := BitVec.ofNat 64 (edgeFrame s * 2 ^ 24) }) ∧
  (∀ (ns : Nat) (s : State), s.tb.on = true → s.tb.fsSeen = true → periodGood s ns = false → 2 ≤ s.tb.fsBad → s.tb.state = 1 → s.tb.ref = 1 →
    oget s 0x6000 1 = 1 →
    ∃ t, exec (.fsyncEdge ns) s = .next t ∧ t.tb = { s.tb with
      fsFrame := none, fsGood := 0, fsBad := 3, fsValid := false, ref := 0, state := 2, accepted := false, slewing := false }) ∧
  (∀ s : State, s.tb.on = true → s.tb.state = 1 → s.tb.ref = 1 → oget s 0x6000 1 = 1 →
    ∃ t, exec .fsyncTimeout s = .next t ∧ t.tb = { s.tb with
      fsValid := false, fsSeen := false, fsGood := 0, fsBad := 0, ref := 0, state := 2, accepted := false, slewing := false }) ∧
  (∀ s : State, s.tb.on = true → s.tb.ref = 0 →
    exec .fsyncTimeout s = .next { s with tb := { s.tb with fsValid := false, fsSeen := false, fsGood := 0, fsBad := 0 } }) ∧
  (∀ (b : TimeBase) (s : State), s.tb.on = true → b = { s.tb with state := 3, accepted := false, slewing := false } →
    (s.tb.state = 0 → selectedRef s = 0 → ∃ t, exec .tbAcqTimeout s = .next t ∧ t.tb = b) ∧
    (s.tb.state = 2 → ∃ t, exec .tbHoldoverExpiry s = .next t ∧ t.tb = b) ∧
    (objectsOpen s = true → s.tb.state ≠ 3 → ∃ t, exec (.tbSourceWrite 3) s = .next t ∧ t.tb = { b with ref := 0 }) ∧
    (s.tb.state ≠ 0 ∨ selectedRef s ≠ 0 → exec .tbAcqTimeout s = .next s) ∧
    (s.tb.state ≠ 2 → exec .tbHoldoverExpiry s = .next s)) ∧
  (∀ (v sub : Nat) (b : Bool) (s : State), objectsOpen s = false → exec (.tbSourceWrite v) s = .next s ∧ exec (.tbStepAccept b) s = .next s ∧
    exec (.rasterWrite sub v) s = .next s) ∧
  (∀ (v : Nat) (s : State), objectsOpen s = true → v ≤ 2 → (s.tb.on = false ∨ s.tb.ref = 0) → exec (.tbSourceWrite v) s = .next (oset s 0x6000 1 v)) ∧
  (∀ (v : Nat) (s : State), 3 < v → exec (.tbSourceWrite v) s = .next s) ∧
  (∀ s : State, objectsOpen s = true → s.tb.on = true → s.tb.state = 4 → exec (.tbStepAccept true) s = .next { s with tb := { s.tb with accepted := true } }) ∧
  (∀ s : State, (s.tb.on = false ∨ s.tb.state ≠ 4) → exec (.tbStepAccept true) s = .next s) ∧
  (∀ (sub v : Nat) (s : State), 1 ≤ sub → sub ≤ 4 → rasterOk (rasterWith (comingRaster s) sub v) = true → s.items = [] → s.tb.on = true →
    objectsOpen s = true → exec (.rasterWrite sub v) s = .next (oset { s with tb := { s.tb with pendRaster := some (rasterWith (comingRaster s) sub v) } } 0x6001 sub v)) ∧
  (∀ (sub v : Nat) (s : State), 1 ≤ sub → sub ≤ 4 → (rasterOk (rasterWith (comingRaster s) sub v) = false ∨ s.items ≠ []) →
    exec (.rasterWrite sub v) s = .next s) ∧
  (∀ (v : Nat) (s : State), objectsOpen s = true → v < 2 ^ 40 → exec (.rasterWrite 5 v) s = .next { s with tb := { s.tb with fsFrame := some v } }) ∧
  (∀ (d rank : Nat) (m : W64) (s : State), (s.tb.on = false ∨ d ≠ oget s 0x6003 1) → exec (.ptpAnnounceReceive d m rank) s = .next s) ∧
  (∀ (d rank : Nat) (m : W64) (s : State), s.tb.on = true → d = oget s 0x6003 1 → s.tb.ptpSeen = true → s.tb.ptpMaster = m →
    exec (.ptpAnnounceReceive d m rank) s = .next { s with tb := { s.tb with ptpRank := rank } }) ∧
  (∀ (d rank : Nat) (m : W64) (s : State), s.tb.on = true → d = oget s 0x6003 1 → (s.tb.ptpSeen = false ∨ (s.tb.ptpMaster ≠ m ∧ rank < s.tb.ptpRank)) →
    (s.tb.ref = 0 ∨ (s.tb.ref = 1 ∧ s.tb.fsValid = true ∧ oget s 0x6000 1 ≤ 1)) →
    exec (.ptpAnnounceReceive d m rank) s = .next (octSet { s with tb := { s.tb with
      ptpSeen := true, ptpMaster := m, ptpRank := rank, ptpGood := 0, ptpValid := false
      ptpReceipt := none, ptpSyncPair := none, ptpSent := none } } 0x6003 3 (beBytes 8 m.toNat))) ∧
  (∀ (d o r : Nat) (m : W64) (s : State), s.tb.on = true → d = oget s 0x6003 1 → s.tb.ptpSeen = true → s.tb.ptpMaster = m →
    exec (.ptpSyncReceive d m true o r) s = .next { s with tb := { s.tb with ptpReceipt := some r } }) ∧
  (∀ (d o r : Nat) (m : W64) (off : Int) (b : TimeBase) (s : State), s.tb.on = true → d = oget s 0x6003 1 → s.tb.ptpSeen = true →
    s.tb.ptpMaster = m → s.tb.ptpValid = false → s.tb.ptpGood < 15 → off = (r : Int) - o - s.tb.ptpDelay →
    (ptpFrame s ((o : Int) + s.tb.ptpDelay)).isSome = true →
    b = { s.tb with ptpSyncPair := some (o, r), ptpReceipt := none, ptpGood := if off.natAbs ≤ 100 then s.tb.ptpGood + 1 else 0 } →
    exec (.ptpSyncReceive d m false o r) s = .next (oset { s with tb := b } 0x6003 4 (clampI32 off)) ∧
    exec (.ptpFollowUpReceive d m o) { s with tb := { s.tb with ptpReceipt := some r } } = .next (oset { s with tb := b } 0x6003 4 (clampI32 off))) ∧
  (∀ (d o r : Nat) (m : W64) (s : State), s.tb.on = true → d = oget s 0x6003 1 → s.tb.ptpSeen = true → s.tb.ptpMaster = m → s.tb.ptpGood = 15 →
    ((r : Int) - o - s.tb.ptpDelay).natAbs ≤ 100 → (ptpFrame s ((o : Int) + s.tb.ptpDelay)).isSome = true →
    ∃ t, exec (.ptpSyncReceive d m false o r) s = .next t ∧ t.tb.ptpGood = 16 ∧ t.tb.ptpValid = true ∧ t.tb.ptpSyncPair = some (o, r)) ∧
  (∀ (d o r : Nat) (m : W64) (s : State), s.tb.on = true → d = oget s 0x6003 1 → s.tb.ptpSeen = true → s.tb.ptpMaster = m →
    (o : Int) + s.tb.ptpDelay < s.tb.raster.2.2.2 → s.tb.ref = 2 → s.tb.state = 1 → oget s 0x6000 1 = 2 →
    ∃ t, exec (.ptpSyncReceive d m false o r) s = .next t ∧ t.tb.ptpValid = false ∧ t.tb.ref = 0 ∧ t.tb.state = 2) ∧
  (∀ (sent : Nat) (s : State), s.tb.on = true → s.tb.ptpSeen = true →
    exec (.ptpDelayReqSend sent) s = .next { s with tb := { s.tb with ptpSent := some sent }, out := .ptpDelayReq :: s.out }) ∧
  (∀ (d o r sent rcv : Nat) (m : W64) (s : State), s.tb.on = true → d = oget s 0x6003 1 → s.tb.ptpSeen = true → s.tb.ptpMaster = m →
    s.tb.ptpSent = some sent → s.tb.ptpSyncPair = some (o, r) →
    exec (.ptpDelayRespReceive d m rcv) s = .next { s with tb := { s.tb with
      ptpSent := none, ptpDelay := ((((r : Int) - o) + ((rcv : Int) - sent)) / 2).toNat } }) ∧
  (∀ s : State, s.tb.on = true → (s.tb.ref = 0 ∨ (s.tb.ref = 1 ∧ s.tb.fsValid = true ∧ oget s 0x6000 1 ≤ 1)) →
    exec .ptpSyncTimeout s = .next { s with tb := { s.tb with ptpValid := false, ptpGood := 0, ptpRank := 2 ^ 64 } }) ∧
  (∀ s : State, s.tb.on = true → s.tb.ref = 2 → s.tb.state = 1 → oget s 0x6000 1 = 2 →
    ∃ t, exec .ptpSyncTimeout s = .next t ∧ t.tb = { s.tb with
      ptpValid := false, ptpGood := 0, ptpRank := 2 ^ 64, ref := 0, state := 2, accepted := false, slewing := false })

/-! The Starters and the Eclipse -/

/-- R172, R173, R180: at its release time a head item that nothing else holds back is assigned to the die with the most free cores; at a deadline an
end-mode item is ended, before its start with status 3 and while it runs by ending its cores; a report-mode item is ended one frame later. Says that
these commands complete: releaseTimeReached, deadlineReached, reportHardLimit. -/
def Obligations.ReleaseAndDeadlineOfAnItem : Prop :=
  (∀ (c q n d : Nat) (it : Item) (u s : State), c < 16384 → q < 4 → s.items = [(n, it)] → queueHead s c q = some n → hasDeadline it = false →
    s.tb.on = true → (now s).toNat < (itRelease it).toNat → fld 63 24 (itRelease it) = fld 63 24 (now s) →
    lockDue s = none → eclDue s (itRelease it) = false →
    u = { s with tb := { s.tb with now := itRelease it } } → isReady u n it = true → itKind it = 0 → bestDie u (itMask it) = some d →
    exec (.releaseTimeReached c q) s = .next (itemPut (markReleased it.ctx it.q it.idx u) n { it with
      phase := .assigned, die := d, tAssign := itRelease it })) ∧
  (∀ (c q : Nat) (s : State), c < 16384 → q < 4 → queueHead s c q = none → exec (.releaseTimeReached c q) s = .next s) ∧
  (∀ (n : Nat) (it : Item) (s : State), itemAt s n = some it → hasDeadline it = true → (itDeadline it).toNat ≤ (now s).toNat →
    itEndMode it = true → it.phase = .running → it.due = false → allDone s it = false → holdsTransfer s it = false →
    exec (.deadlineReached n) s = .next (settleAll (endItem n 3 2 (itemPut s n { it with due := true })))) ∧
  (∀ (n : Nat) (it : Item) (s : State), itemAt s n = some it → hasDeadline it = true → (itDeadline it).toNat ≤ (now s).toNat →
    itEndMode it = true → it.phase = .waiting →
    exec (.deadlineReached n) s = .next (settleAll (complete n 3 (itemPut s n { it with due := true })))) ∧
  (∀ (n : Nat) (it : Item) (s : State), itemAt s n = some it → hasDeadline it = false → exec (.deadlineReached n) s = .next s) ∧
  (∀ (n : Nat) (it : Item) (s : State), itemAt s n = some it → hasDeadline it = true → frameAfter (itDeadline it) < 2 ^ 64 →
    frameAfter (itDeadline it) ≤ (now s).toNat → it.tAccept.toNat < frameAfter (itDeadline it) → itEndMode it = false → it.phase = .running →
    allDone s it = false →
    exec (.reportHardLimit n) s = .next (settleAll (if holdsTransfer s it then endItem n 5 6 s else endItem n 3 2 s))) ∧
  (∀ (n : Nat) (s : State), itemAt s n = none → exec (.deadlineReached n) s = .next s ∧ exec (.reportHardLimit n) s = .next s)

/-- R47, R153, R174, R175, R305: the first item of the die's order starts once its cores are free, each in the entry state with its code range as
fetched; with too few free, or no item, nothing changes. The registers of an entered core are named one by one. R178: the allowance steps up by one,
to 64, while a core's gate is below the ceiling; it falls to the activity in use, no lower than 4. Says that these commands complete: starterStart,
allowanceRampStep, allowanceRecompute. -/
def Obligations.StarterEntersCoresWithinTheAllowance : Prop :=
  (∀ (d : Nat) (fl : List (Nat × Bool)) (s : State), d < 6 → firstOf s d = none → exec (.starterStart d fl) s = .next (setFlaws [] s)) ∧
  (∀ (d n : Nat) (fl : List (Nat × Bool)) (it : Item) (s : State), d < 6 → firstOf s d = some (n, it) → (freeCores s d).length < itN it →
    exec (.starterStart d fl) s = .next (setFlaws [] s)) ∧
  (∀ (d n : Nat) (fl : List (Nat × Bool)) (it : Item) (s : State), d < 6 → firstOf s d = some (n, it) → itN it ≤ (freeCores s d).length →
    itParam it = 0 →
    ∃ (t : State) (jt : Item), exec (.starterStart d fl) s = .next t ∧ itemAt t n = some jt ∧ jt.phase = .running ∧
      jt.tStart = now s ∧ jt.desc = it.desc ∧ jt.tcs = chooseCores (freeCores s d) d (itN it) ∧ jt.latches = entryLatches s it ∧
      (∀ (r k : Nat), jt.tcs[r]? = some k → ∃ (code : Tab Byte) (out : List Nat),
        tcAt t k = { entryCore n r jt.tcs.length it [] with code := code, codeOut := out }) ∧
      (∀ k, k ∉ jt.tcs → tcAt t k = tcAt s k)) ∧
  (∀ (n r count : Nat) (it : Item) (param : List Byte) (c : TCore), r < 2 ^ 64 → 0 < count → c = entryCore n r count it param →
    c.item = some n ∧ c.pc = BitVec.ofNat 64 (kernelBase it + itEntry it) ∧ xReg c 2 = 0x01104000 ∧ xReg c 10 = BitVec.ofNat 64 r ∧
    xReg c 11 = BitVec.ofNat 64 count ∧ xReg c 12 = 0x01000000 ∧
    (∀ k, k ≠ 2 → k ≠ 10 → k ≠ 11 → k ≠ 12 → xReg c k = 0) ∧ (∀ k, qReg c k = 0) ∧ c.tile = [] ∧ c.sb = [] ∧ c.tag = 0 ∧ c.fevec = 0) ∧
  (∀ (d : Nat) (s : State), d < 6 → 0 < runningOn s d → gate s d < ceilingA s d →
    exec (.allowanceRampStep d) s = .next (oset s 0x3203 (d + 1) (min 64 (allowance s d + 1)))) ∧
  (∀ (d : Nat) (s : State), d < 6 → (runningOn s d = 0 ∨ ceilingA s d ≤ gate s d) → exec (.allowanceRampStep d) s = .next s) ∧
  (∀ (d : Nat) (s : State), d < 6 → runningOn s d = 0 → exec (.allowanceRecompute d) s = .next (oset s 0x3203 (d + 1) 4)) ∧
  (∀ (d : Nat) (s : State), d < 6 → 0 < runningOn s d → gate s d < ceilingA s d → exec (.allowanceRecompute d) s = .next s) ∧
  (∀ (d : Nat) (s : State), d < 6 → 0 < runningOn s d → ceilingA s d ≤ gate s d →
    exec (.allowanceRecompute d) s = .next (oset s 0x3203 (d + 1) (max 4 ((runningOn s d * gate s d + 31) / 32))))

/-- R184 to R188: arming takes the parameters, or raises the event with status 5 when E is too near; at E every unit is copied and the markers are
sent; markers of this Eclipse are noted once; with none missing the Eclipse completes, and at the drain limit it ends incomplete. Says that these
commands complete: eclArm, eclipseMarker, eclipseComplete, eclipseCapture, eclipseDrainTimeout. -/
def Obligations.EclipseCapturesAndCompletes : Prop :=
  (∀ s : State, objectsOpen s = true → eclTooLate s = false →
    exec (.eclArm true) s = .next (oset { s with ecl := some {
      time := BitVec.ofNat 64 (oget s 0x6010 1), ident := BitVec.ofNat 32 (oget s 0x6010 2), buffer := BitVec.ofNat 64 (oget s 0x6010 3),
      portSet := oget s 0x6010 4, baton := oget s 0x6010 8, batonOp := oget s 0x6010 9 } } 0x6010 6 1)) ∧
  (∀ s : State, objectsOpen s = true → eclTooLate s = true → exec (.eclArm true) s = .next (scRaise 3 0 (oset s 0x6010 6 5))) ∧
  (∀ s : State, exec (.eclArm false) s = .next s) ∧
  (∀ (b : Bool) (s : State), objectsOpen s = false → exec (.eclArm b) s = .next s) ∧
  (∀ (e : Eclipse) (s : State), s.ecl = some e → e.capturing = false → e.time.toNat ≤ (now s).toNat →
    exec .eclipseCapture s = .next (oset (sendMarkers e.ident.toNat { s with ecl := some (eclCopy e s) }) 0x6010 6 2)) ∧
  (∀ (e : Eclipse) (s : State), (eclCopy e s).batons = s.batons ∧ (eclCopy e s).groups = s.groups ∧ (eclCopy e s).queues = s.queues ∧
    (eclCopy e s).ctxs = s.ctxs ∧ (eclCopy e s).capturing = true ∧ (eclCopy e s).unlocked = decide (s.tb.state ≠ 1)) ∧
  (∀ (p : Bool) (n : Nat) (id : W32) (e : Eclipse) (s : State), (if p then n < 24 else n < 34) → s.ecl = some e → e.ident = id →
    (p, n) ∉ e.seen → exec (.eclipseMarker p n id) s = .next { s with ecl := some { e with seen := (p, n) :: e.seen } }) ∧
  (∀ (p : Bool) (n : Nat) (id : W32) (s : State), (if p then n < 24 else n < 34) → (∀ e, s.ecl = some e → e.ident ≠ id ∨ (p, n) ∈ e.seen) →
    exec (.eclipseMarker p n id) s = .next s) ∧
  (∀ (ns : Nat) (e : Eclipse) (s : State), s.ecl = some e → e.capturing = true → eclMissing s e = [] → e.baton = 0xFFFF →
    ∃ t, exec (.eclipseComplete ns) s = .next t ∧ t.ecl = none ∧ oget t 0x6010 6 = 3 ∧ (srcAt t 3).pend = true ∧ t.tb = s.tb ∧
      t.batons = s.batons ∧ t.groups = s.groups) ∧
  (∀ (e : Eclipse) (s : State), s.ecl = some e → e.capturing = true → eclMissing s e ≠ [] →
    ∃ t, exec .eclipseDrainTimeout s = .next t ∧ t.ecl = none ∧ oget t 0x6010 6 = 4 ∧ (srcAt t 3).pend = true ∧ t.tb = s.tb ∧
      t.batons = s.batons ∧ t.groups = s.groups)

/-! Contexts, queues and items -/

/-- R191 to R194, R517: an enable reads the 16 words of the entry, checks the state, the entry and the rings in that order and reports the first that
fails; a teardown is started on an enabled context, and done once nothing of it is left; CTX_BASE moves only with every context disabled. Says that
these commands complete: contextEnable, contextTeardown, contextTeardownDone, ctxCmdReserved, ctxBaseWrite. -/
def Obligations.ContextsAreEnabledAndTornDown : Prop :=
  (∀ (c : Nat) (s : State), c < 16384 → s.cmdBusy = true → exec (.contextTeardown c) s = .next s) ∧
  (∀ (c : Nat) (fl : List (Nat × Bool)) (s : State), c < 16384 → s.cmdBusy = true →
    exec (.contextEnable c fl) s = .next (setFlaws [] s)) ∧
  (∀ (c : Nat) (fl : List (Nat × Bool)) (s : State), c < 16384 → s.cmdBusy = false → (ctxAt s c).state ≠ 0 →
    exec (.contextEnable c fl) s = .next (setFlaws [] { s with cmdStat := 1 })) ∧
  (∀ (c : Nat) (fl : List (Nat × Bool)) (l : List Byte) (u s : State), c < 16384 → s.cmdBusy = false → (ctxAt s c).state = 0 →
    memRead (subReq none) none (s.ctxBase.toNat + 128 * c) 128 (setFlaws fl s) = (.ok l, u) → entryOk u c (wordsOf l 16) = false →
    exec (.contextEnable c fl) s = .next (setFlaws [] { u with cmdStat := 2 })) ∧
  (∀ (c : Nat) (fl : List (Nat × Bool)) (l : List Byte) (u s : State), c < 16384 → s.cmdBusy = false → (ctxAt s c).state = 0 →
    memRead (subReq none) none (s.ctxBase.toNat + 128 * c) 128 (setFlaws fl s) = (.ok l, u) → entryOk u c (wordsOf l 16) = true →
    ringsOk u (wordsOf l 16) = false → exec (.contextEnable c fl) s = .next (setFlaws [] { u with cmdStat := 3 })) ∧
  (∀ (c : Nat) (fl : List (Nat × Bool)) (l : List Byte) (u s : State), c < 16384 → s.cmdBusy = false → (ctxAt s c).state = 0 →
    memRead (subReq none) none (s.ctxBase.toNat + 128 * c) 128 (setFlaws fl s) = (.ok l, u) → entryOk u c (wordsOf l 16) = true →
    ringsOk u (wordsOf l 16) = true →
    exec (.contextEnable c fl) s = .next (setFlaws [] { u with
      cmdStat := 0
      ctxs := tset {} u.ctxs c { ctxAt u c with state := 1, entry := wordsOf l 16, misses := 0, refusals := 0 }
      queues := tset {} (tset {} (tset {} (tset {} u.queues (4 * c) {}) (4 * c + 1) {}) (4 * c + 2) {}) (4 * c + 3) {} })) ∧
  (∀ (c : Nat) (s : State), c < 16384 → s.cmdBusy = false → (ctxAt s c).state ≠ 1 →
    exec (.contextTeardown c) s = .next { s with cmdStat := 1 }) ∧
  (∀ (c : Nat) (s : State), c < 16384 → s.cmdBusy = false → (ctxAt s c).state = 1 →
    ∃ t, exec (.contextTeardown c) s = .next t ∧ t.cmdBusy = true ∧ t.cmdStat = s.cmdStat ∧ t.tb = s.tb ∧ t.ctxBase = s.ctxBase ∧
      (s.items = [] → (ctxAt t c).state = 2)) ∧
  (∀ (c : Nat) (u s : State), c < 16384 → (ctxAt s c).state = 2 → (∀ e ∈ s.items, e.2.ctx ≠ c) → rqIdle s c = true →
    u = rqDisable c (ctxPut s c { ctxAt s c with state := 0 }) →
    exec (.contextTeardownDone c) s = .next (if ∀ e ∈ u.ctxs, e.2.state ≠ 2 then { u with cmdBusy := false, cmdStat := 0 } else u)) ∧
  (∀ (v : W64) (s : State), s.cmdBusy = false → (fld 17 16 v = 0 ∨ fld 17 16 v = 3) →
    exec (.ctxCmdReserved v) s = .next { s with cmdStat := 4 }) ∧
  (∀ (v : W64) (s : State), (∀ e ∈ s.ctxs, e.2.state = 0) → exec (.ctxBaseWrite v) s = .next { s with ctxBase := maskWrite 0xFFFFFFFE00000 0 v }) ∧
  (∀ (v : W64) (s : State) (e : Nat × Ctx), e ∈ s.ctxs → e.2.state ≠ 0 → exec (.ctxBaseWrite v) s = .next s)

/-- R191, R197, R199 to R201, R205: a valid doorbell moves the tail and an invalid one parks the queue; the queue next in the round is served; a
generation that does not match is read again up to 8 times and then parks the queue; RESUME clears the cause, and SKIP refuses the descriptor. Says
that these commands complete: doorbell, descriptorRead, descriptorReread, queueResume, queueSkip. -/
def Obligations.QueuesAreServedAndParked : Prop :=
  (∀ (c q : Nat) (v : W64) (s : State), c < 16384 → q < 4 → ctxEnabled s c = true → hasQueue s c q = true → doorbellValid s c q v = true →
    exec (.doorbell c q v) s = .next (queuePut s (4 * c + q) { queueAt s (4 * c + q) with tail := v.truncate 32 })) ∧
  (∀ (c q : Nat) (v : W64) (s : State), c < 16384 → q < 4 → ctxEnabled s c = true → hasQueue s c q = true → doorbellValid s c q v = false →
    (queueAt s (4 * c + q)).status = 0 →
    exec (.doorbell c q v) s = .next (ctxEvent c q 3 (queueAt s (4 * c + q)).accepted (queuePut s (4 * c + q)
      { queueAt s (4 * c + q) with status := 2, parkedAt := (queueAt s (4 * c + q)).accepted, rereads := 0 }))) ∧
  (∀ (c q : Nat) (v : W64) (s : State), c < 16384 → q < 4 → (ctxEnabled s c = false ∨ hasQueue s c q = false) →
    exec (.doorbell c q v) s = .next s) ∧
  (∀ (c q : Nat) (fl : List (Nat × Bool)) (x : Queue) (l : List Byte) (u s : State), c < 16384 → q < 4 → nextQueue s = some (4 * c + q) → x = queueAt s (4 * c + q) →
    rangeWaits (setFlaws fl { s with rr := 4 * c + q }) (subReq none) (some (ctxPart s c)) true (descAddr s c q x.accepted) 128 = false →
    memRead (subReq none) (some (ctxPart s c)) (descAddr s c q x.accepted) 128 (setFlaws fl { s with rr := 4 * c + q }) = (.ok l, u) →
    fld 15 0 (bytesWord l 0) = genOf s c q x.accepted →
    exec (.descriptorRead c q fl) s = .next (setFlaws [] (acceptDesc c q (wordsOf l 16) u))) ∧
  (∀ (c q : Nat) (fl : List (Nat × Bool)) (x : Queue) (l : List Byte) (u s : State), c < 16384 → q < 4 → nextQueue s = some (4 * c + q) → x = queueAt s (4 * c + q) →
    rangeWaits (setFlaws fl { s with rr := 4 * c + q }) (subReq none) (some (ctxPart s c)) true (descAddr s c q x.accepted) 128 = false →
    memRead (subReq none) (some (ctxPart s c)) (descAddr s c q x.accepted) 128 (setFlaws fl { s with rr := 4 * c + q }) = (.ok l, u) →
    fld 15 0 (bytesWord l 0) ≠ genOf s c q x.accepted → x.rereads < 8 →
    exec (.descriptorRead c q fl) s = .next (setFlaws [] (queuePut u (4 * c + q) { x with rereads := x.rereads + 1 }))) ∧
  (∀ (c q : Nat) (fl : List (Nat × Bool)) (s : State), c < 16384 → q < 4 → nextQueue s ≠ some (4 * c + q) →
    exec (.descriptorRead c q fl) s = .next (setFlaws [] s)) ∧
  (∀ (c q : Nat) (fl : List (Nat × Bool)) (x : Queue) (l : List Byte) (u s : State), c < 16384 → q < 4 → hasWork s c q = true → x = queueAt s (4 * c + q) → x.rereads ≠ 0 →
    rangeWaits (setFlaws fl s) (subReq none) (some (ctxPart s c)) true (descAddr s c q x.accepted) 128 = false →
    memRead (subReq none) (some (ctxPart s c)) (descAddr s c q x.accepted) 128 (setFlaws fl s) = (.ok l, u) →
    fld 15 0 (bytesWord l 0) ≠ genOf s c q x.accepted →
    exec (.descriptorReread c q fl) s = .next (setFlaws [] (if x.rereads < 8 then queuePut u (4 * c + q) { x with rereads := x.rereads + 1 }
      else parkQueue c q 1 x.accepted u))) ∧
  (∀ (c q : Nat) (s : State), c < 16384 → q < 4 → ctxEnabled s c = true → hasQueue s c q = true → (queueAt s (4 * c + q)).status ≠ 0 →
    exec (.queueResume c q) s = .next (queuePut s (4 * c + q) { queueAt s (4 * c + q) with status := 0, rereads := 0 })) ∧
  (∀ (c q : Nat) (s : State), c < 16384 → q < 4 → (queueAt s (4 * c + q)).status = 0 →
    exec (.queueResume c q) s = .next s ∧ exec (.queueSkip c q) s = .next s) ∧
  (∀ (c q : Nat) (u s : State), c < 16384 → q < 4 → ctxEnabled s c = true → hasQueue s c q = true → (queueAt s (4 * c + q)).status ≠ 0 →
    (queueAt s (4 * c + q)).accepted ≠ (queueAt s (4 * c + q)).tail →
    u = queuePut s (4 * c + q) { queueAt s (4 * c + q) with status := 0, rereads := 0 } →
    exec (.queueSkip c q) s = .next (settleAll (refuse u.nextAcc 0x11 (enqueueItem c q (skippedItem u c q) u))))

/-- R196, R205, R207, R211 to R215: an accepted descriptor takes the next acceptance number; the first failing check refuses it with its reason; an
item whose cores have all ended completes with its first error status, and its record says what the cores reported. Says that these commands complete:
itemEnd. -/
def Obligations.ItemsAreAcceptedAndEnd : Prop :=
  (∀ (c q : Nat) (it : Item) (s : State),
    enqueueItem c q it s = { s with
      queues := tset {} s.queues (4 * c + q) { queueAt s (4 * c + q) with accepted := (queueAt s (4 * c + q)).accepted + 1, rereads := 0 }
      items := aput s.items s.nextAcc it, nextAcc := s.nextAcc + 1 }) ∧
  (∀ (c q k : Nat) (desc : List W64) (e : List (List W64)) (d it : Item) (u s : State),
    d = { ctx := c, q := q, idx := (queueAt s (4 * c + q)).accepted, desc := desc, opnds := [], phase := .walking, tAccept := now s } →
    readOpnds d none s = (some (.ok e), u) → it = { d with opnds := e, phase := if itKind d = 0 then .walking else .waiting } →
    acceptReason (enqueueItem c q it u) it = some k →
    acceptDesc c q desc s = settleAll (refuse u.nextAcc k (enqueueItem c q it u))) ∧
  (∀ (c q : Nat) (desc : List W64) (e : List (List W64)) (d it : Item) (u s : State),
    d = { ctx := c, q := q, idx := (queueAt s (4 * c + q)).accepted, desc := desc, opnds := [], phase := .walking, tAccept := now s } →
    readOpnds d none s = (some (.ok e), u) → it = { d with opnds := e, phase := if itKind d = 0 then .walking else .waiting } →
    acceptReason (enqueueItem c q it u) it = none →
    acceptDesc c q desc s = settleAll (itemTime (enqueueItem c q it u) u.nextAcc)) ∧
  (∀ (it : Item) (s : State), nSlots it = 0 → readOpnds it none s = (some (.ok []), s)) ∧
  (∀ (s : State) (it : Item), chkReserved it = true → acceptReason s it = some 1) ∧
  (∀ (n : Nat) (fl : List (Nat × Bool)) (it : Item) (s : State), itemAt s n = some it → it.phase = .running →
    (∀ k ∈ it.tcs, coreEnded it (tcAt s k) = true) → it.faults = [] →
    exec (.itemEnd n fl) s = .next (setFlaws [] (settleAll (complete n (it.status.getD 0)
      (itemPut (setFlaws fl s) n (it.tcs.foldl (fun i k => withTotals s i k) it)))))) ∧
  (∀ (n : Nat) (fl : List (Nat × Bool)) (it : Item) (s : State), itemAt s n = some it → it.phase = .running →
    (∀ k ∈ it.tcs, coreEnded it (tcAt s k) = true) → it.faults ≠ [] →
    exec (.itemEnd n fl) s = .next (setFlaws [] (settleAll (complete n (it.status.getD 0)
      (abortOf n 1 (itemPut (setFlaws fl s) n (it.tcs.foldl (fun i k => withTotals s i k) it))))))) ∧
  (∀ (n : Nat) (fl : List (Nat × Bool)) (it : Item) (s : State), itemAt s n = some it → it.phase = .running →
    (∀ k ∈ it.tcs, coreEnded it (tcAt s k) = true) →
    ∃ t, exec (.itemEnd n fl) s = .next t ∧ itemAt t n = none ∧ t.tb = s.tb ∧ t.pending = s.pending) ∧
  (∀ (n k : Nat) (fl : List (Nat × Bool)) (it : Item) (s : State), itemAt s n = some it → k ∈ it.tcs → coreEnded it (tcAt s k) = false →
    exec (.itemEnd n fl) s = .next (setFlaws [] s)) ∧
  (∀ (it : Item) (st : Nat) (late : Bool) (tEnd : W64), (cplRecord it st late tEnd).length = 64) ∧
  (∀ (n : Nat) (it : Item) (st : Nat) (s : State), itemAt s n = some it → ∃ t, complete n st s = t ∧ t.tb = s.tb ∧ t.pending = s.pending ∧
    (∀ m jt, m ≠ n → (m, jt) ∈ s.items → (m, jt) ∈ t.items))

/-! Batons and the entry window -/

/-- R217, R219, R221, R222, R228: an operation word, a BTN.OP write and a VALUE write give the Baton its new value; a word with reserved codes or bits
is ignored; EVTCOND and CTL are written, a binding only while no accepted item names the Baton. R223, R224: a write in the entry window reaches the
word of the slot or group that EWSEL selects while it is bound to the context, and otherwise nothing. Says that these commands complete:
batonOperation, batonOpWrite, batonValueWrite, batonEvtcondWrite, batonBind, ewinWrite. -/
def Obligations.BatonsAndEntryWindowsTakeTheirWrites : Prop :=
  (∀ (v : W32) (x : BitVec 24) (e : Bool), let w : BitVec 4 → W32 := fun k => x ++ (0 : BitVec 3) ++ (BitVec.ofBool e) ++ k
    batonApply (w 1) v = x.zeroExtend 32 ∧ batonApply (w 2) v = v + x.zeroExtend 32 ∧ batonApply (w 3) v = v - x.zeroExtend 32 ∧
    (batonApply (w 4) v).toNat = max v.toNat x.toNat ∧ batonApply (w 5) v = v ||| x.zeroExtend 32 ∧
    batonApply (w 6) v = v &&& ~~~(x.zeroExtend 32)) ∧
  (∀ (b : Nat) (op : W32) (s : State), b < 8192 → batonWordOk op = true → bit 1 (batonAt s b).ctl = false → s.tcs = [] → s.items = [] →
    exec (.batonOperation b op) s = .next (batonPut s b { batonAt s b with value := batonApply op (batonAt s b).value }) ∧
    exec (.batonOpWrite b op) s = .next (batonPut s b { batonAt s b with value := batonApply op (batonAt s b).value })) ∧
  (∀ (b : Nat) (op : W32) (s : State), b < 8192 → batonWordOk op = true →
    (∃ t, exec (.batonOperation b op) s = .next t ∧ t.tb = s.tb ∧
      (s.items = [] → t.batons = tset {} s.batons b { batonAt s b with value := batonApply op (batonAt s b).value })) ∧
    exec (.batonOpWrite b op) s = exec (.batonOperation b op) s) ∧
  (∀ (b : Nat) (op : W32) (s : State), b < 8192 → batonWordOk op = false → firstReady s = none →
    exec (.batonOperation b op) s = .next s ∧ exec (.batonOpWrite b op) s = .next s) ∧
  (∀ (b : Nat) (v : W32) (s : State), b < 8192 → ∃ t, exec (.batonValueWrite b v) s = .next t ∧
    (s.items = [] → t.batons = tset {} s.batons b { batonAt s b with value := v })) ∧
  (∀ (b : Nat) (v : W32) (s : State), b < 8192 → bit 1 (batonAt s b).ctl = true → s.items = [] → s.tcs = [] →
    condHolds (batonAt s b).cond v = true → condHolds (batonAt s b).cond (batonAt s b).value = false →
    exec (.batonValueWrite b v) s = .next (scRaise 1 (BitVec.ofNat 32 b) (batonPut s b { batonAt s b with value := v }))) ∧
  (∀ (b : Nat) (v : W64) (s : State), b < 8192 →
    exec (.batonEvtcondWrite b v) s = .next (batonPut s b { batonAt s b with cond := v &&& 0x7FFFFFFFF })) ∧
  (∀ (b : Nat) (v : W64) (s : State), b < 8192 → batonNamed s b = false →
    exec (.batonBind b v) s = .next (batonPut s b { batonAt s b with ctl := maskWrite 0x3FFF0003 (batonAt s b).ctl v })) ∧
  (∀ (b : Nat) (v : W64) (s : State), b < 8192 → batonNamed s b = true →
    maskWrite 0x3FFF0003 (batonAt s b).ctl v &&& 0x3FFF0001 ≠ (batonAt s b).ctl &&& 0x3FFF0001 →
    exec (.batonBind b v) s = .next { s with bindErr := true }) ∧
  (∀ (c n : Nat) (v : W64) (s : State), c < 16384 → ewIsSlot s c = true → n = ewSel s c → n < 64 → slotBound s n c = true →
    exec (.ewinWrite c 8 v) s = .next (slotPut s n { slotAt s n with pos := v.truncate 32 }) ∧
    exec (.ewinWrite c 16 v) s = .next (slotPut s n { slotAt s n with gen := v.truncate 32 }) ∧
    exec (.ewinWrite c 24 v) s = .next (slotPut s n { slotAt s n with sampler := maskWrite 0xFFFFFFFF0000007F (slotAt s n).sampler v }) ∧
    exec (.ewinWrite c 32 v) s = .next (slotPut s n { slotAt s n with topp := v.truncate 32 }) ∧
    exec (.ewinWrite c 40 v) s = exec (.sqKeyWrite n false v) s ∧ exec (.ewinWrite c 48 v) s = exec (.sqKeyWrite n true v) s ∧
    exec (.ewinWrite c 0 v) s = .next s) ∧
  (∀ (c off : Nat) (v : W64) (s : State), c < 16384 → off < 64 → off % 8 = 0 → ewIsSlot s c = false → groupOf s (ewSel s c) c = true →
    ewSel s c < 1024 →
    exec (.ewinWrite c off v) s = exec (.relayGroupEntryWrite (ewSel s c) off v) s) ∧
  (∀ (c off : Nat) (v : W64) (s : State), c < 16384 → (off % 8 ≠ 0 ∨ 64 ≤ off ∨
      (ewIsSlot s c = true ∧ slotBound s (ewSel s c) c = false) ∨ (ewIsSlot s c = false ∧ groupOf s (ewSel s c) c = false)) →
    exec (.ewinWrite c off v) s = .next s)
/-! The system translation unit -/

/-- R209, R232, R238, R240: an item whose pages all resolve waits for its release; one whose page is denied is refused with 0x10; one with unresolved
pages is parked with them. An item that is not being walked is left. R241, R244: a fill takes a copy into the micro-TLB from the cluster's; a transfer
under way that meets a page without translation is held, with a request that says RUN; one whose page resolves is not. Says that these commands
complete: pageWalkComplete, tlbFill, transferTranslationMiss. -/
def Obligations.PagesResolveAtEnqueueAndWhileRunning : Prop :=
  (∀ (n : Nat) (fl : List (Nat × Bool)) (it : Item) (u s : State), itemAt s n = some it → it.phase = .walking → tableUnread it = false →
    issuing s = true → WalksGo (setFlaws fl s) it.ctx (itPages it) →
    resolveAll it.ctx n (itPages it) (itemPut (setFlaws fl s) n it) = ([], false, u) → itemAt u n = some it → hasDeadline it = false →
    exec (.pageWalkComplete n fl) s = .next (setFlaws [] (settleAll (retireReqs (itemPut u n { it with
      phase := .waiting, pages := [], batch := [] }))))) ∧
  (∀ (n : Nat) (fl : List (Nat × Bool)) (it : Item) (m : List (Nat × Nat)) (u s : State), itemAt s n = some it → it.phase = .walking → tableUnread it = false →
    issuing s = true → WalksGo (setFlaws fl s) it.ctx (itPages it) →
    resolveAll it.ctx n (itPages it) (itemPut (setFlaws fl s) n it) = (m, true, u) → itemAt u n = some it →
    exec (.pageWalkComplete n fl) s = .next (setFlaws [] (settleAll (retireReqs (refuse n 0x10 u))))) ∧
  (∀ (n : Nat) (fl : List (Nat × Bool)) (it : Item) (p : Nat × Nat) (m : List (Nat × Nat)) (u s : State), itemAt s n = some it → it.phase = .walking →
    tableUnread it = false → issuing s = true → WalksGo (setFlaws fl s) it.ctx (itPages it) →
    resolveAll it.ctx n (itPages it) (itemPut (setFlaws fl s) n it) = (p :: m, false, u) → itemAt u n = some it →
    exec (.pageWalkComplete n fl) s = .next (setFlaws [] (settleAll (retireReqs (itemTime (requestBatch n
      (itemPut u n { it with phase := .parked, pages := p :: m, batch := [] })) n))))) ∧
  (∀ (n : Nat) (fl : List (Nat × Bool)) (it : Item) (s : State), itemAt s n = some it → (it.phase ≠ .walking ∨ issuing s = false) →
    exec (.pageWalkComplete n fl) s = .next (setFlaws [] s)) ∧
  (∀ (s : State) (ctx vpn acc : Nat) (n : Option Nat), bare s ctx = true → pageAllowed s (ctxPart s ctx) vpn = true →
    resolvePage ctx n vpn acc s = (.ok vpn false, s)) ∧
  (∀ (s : State) (ctx vpn acc : Nat) (n : Option Nat), bare s ctx = true → pageAllowed s (ctxPart s ctx) vpn = false →
    resolvePage ctx n vpn acc s = (.denied, s)) ∧
  (∀ (tc n : Nat) (f : Bool) (va : W64) (fl : List (Nat × Bool)) (it : Item) (e : Tlb) (acc : Nat) (s : State), tc < 192 →
    (tcAt s tc).item = some n → itemAt s n = some it → bare s it.ctx = false → (f = true → va.toNat / 4096 ∉ (tcAt s tc).codeOut) → acc = (if f then 4 else accessAt it va.toNat) →
    tlbFind (microAt s (microKey tc f)) (vmidOf s it.ctx) (asidOf s it.ctx) (va.toNat / 4096) acc = none →
    tlbFind (clusterAt s (tc / 8)) (vmidOf s it.ctx) (asidOf s it.ctx) (va.toNat / 4096) acc = some e →
    exec (.tlbFill tc f va fl) s = .next (setFlaws [] { s with stu := { s.stu with
      micro := tset [] s.stu.micro (2 * tc + b2n f) ((e :: (microAt s (microKey tc f)).filter fun x => decide (x ≠ e)).take 64) } })) ∧
  (∀ (tc n : Nat) (f : Bool) (va : W64) (fl : List (Nat × Bool)) (it : Item) (s : State), tc < 192 → (tcAt s tc).item = some n →
    itemAt s n = some it → bare s it.ctx = true → (f = true → va.toNat / 4096 ∉ (tcAt s tc).codeOut) →
    exec (.tlbFill tc f va fl) s = .next (setFlaws [] s)) ∧
  (∀ (tc tag n : Nat) (f : Bool) (va : W64) (fl : List (Nat × Bool)) (it : Item) (acc st : Nat) (adb : Bool) (u s : State), tc < 192 →
    (tcAt s tc).item = some n → itemAt s n = some it → it.phase = .running → issuing s = true → transferAt it (tcAt s tc) tag f va.toNat = true → (tcAt s tc).stopped = false →
    acc = (if f then 4 else heldAccess it (tcAt s tc) tag) →
    tlbFind (microAt s (microKey tc f)) (vmidOf s it.ctx) (asidOf s it.ctx) (va.toNat / 4096) acc = none →
    tlbFind (clusterAt s (tc / 8)) (vmidOf s it.ctx) (asidOf s it.ctx) (va.toNat / 4096) acc = none →
    WalksGo (setFlaws fl s) it.ctx [(va.toNat / 4096, acc)] →
    resolvePage it.ctx (some n) (va.toNat / 4096) acc (setFlaws fl s) = (.missing st adb, u) → tcAt u tc = tcAt s tc → bit 1 u.stu.cfg = true →
    exec (.transferTranslationMiss tc tag f va fl) s = .next (setFlaws [] (requestPage it.ctx (va.toNat / 4096) acc st true adb n
      (tcPut u tc { tcAt s tc with heldOps := (tcAt s tc).heldOps ++ [(if f then 0 else tag, va)] })))) ∧
  (∀ (tc tag n : Nat) (f : Bool) (va : W64) (fl : List (Nat × Bool)) (it : Item) (s : State), tc < 192 → (tcAt s tc).item = some n → itemAt s n = some it →
    (tlbFind (microAt s (microKey tc f)) (vmidOf s it.ctx) (asidOf s it.ctx) (va.toNat / 4096)
      (if f then 4 else heldAccess it (tcAt s tc) tag)).isSome = true →
    exec (.transferTranslationMiss tc tag f va fl) s = .next (setFlaws [] s))

/-- R245 to R248: a request is answered by its tag: INVALID ends what waits on the page, RETRY walks it again; a tag never given sets BAD_RESP and one
retired is ignored. The ring's base moves only with PRQ_EN 0; HEAD and the end of a write error release the held records. Says that these commands
complete: prqWriteError, prqHeadWrite, pageResponseRetry, pageResponseInvalid, prqBaseWrite, prqWerrClear. -/
def Obligations.PageRequestsAreAnswered : Prop :=
  (∀ (tag : Nat) (fl : List (Nat × Bool)) (r : PReq) (u s : State), s.stu.reqs.find? (fun q => decide (q.tag = tag)) = some r →
    u = { s with stu := { s.stu with reqs := s.stu.reqs.filter fun q => decide (q.tag ≠ tag) } } →
    exec (.pageResponseInvalid tag) s = .next (settleAll (retireReqs (invalidAll r.ctx r.vpn u))) ∧
    exec (.pageResponseRetry tag fl) s = .next (setFlaws [] (settleAll (retireReqs (askAgain r.ctx r.vpn
      ((itemNums u).foldl (fun v n => retryItem r.ctx r.vpn n v) (setFlaws fl u))))))) ∧
  (∀ (tag : Nat) (fl : List (Nat × Bool)) (s : State), (∀ q ∈ s.stu.reqs, q.tag ≠ tag) → s.stu.nextTag ≤ tag →
    exec (.pageResponseInvalid tag) s = .next { s with stu := { s.stu with badResp := true } } ∧
    exec (.pageResponseRetry tag fl) s = .next (setFlaws [] { s with stu := { s.stu with badResp := true } })) ∧
  (∀ (tag : Nat) (fl : List (Nat × Bool)) (s : State), (∀ q ∈ s.stu.reqs, q.tag ≠ tag) → tag < s.stu.nextTag →
    exec (.pageResponseInvalid tag) s = .next s ∧ exec (.pageResponseRetry tag fl) s = .next (setFlaws [] s)) ∧
  (∀ (v : W64) (s : State), bit 1 s.stu.cfg = false →
    exec (.prqBaseWrite v) s = .next { s with stu := { s.stu with prqBase := maskWrite 0xFFFFFFFFFF01F 0 v } }) ∧
  (∀ (v : W64) (s : State), bit 1 s.stu.cfg = true → exec (.prqBaseWrite v) s = .next s) ∧
  (∀ (v : W32) (s : State), (∀ q ∈ s.stu.reqs, q.written = true) →
    exec (.prqHeadWrite v) s = .next { s with stu := { s.stu with prqHead := v } } ∧
    exec .prqWerrClear s = .next { s with stu := { s.stu with werr := false } }) ∧
  (∀ (v : W32) (s : State), exec (.prqHeadWrite v) s = .next (flushReqs { s with stu := { s.stu with prqHead := v } }) ∧
    exec .prqWerrClear s = .next (flushReqs { s with stu := { s.stu with werr := false } })) ∧
  (∀ (code : Nat) (l : List Nat) (s : State), bit 1 s.stu.cfg = true → s.stu.werr = false → l = s.stu.posted → l ≠ [] → 1 ≤ code → code ≤ 6 →
    ∃ k t, k < l.length ∧ exec (.prqWriteError code) s = .next t ∧ t.stu = { s.stu with
        werr := true, prqTail := s.stu.prqTail - BitVec.ofNat 32 (l.length - k)
        posted := l.filter fun a => !((l.drop k).contains a)
        reqs := s.stu.reqs.map fun r => if (l.drop k).contains r.tag then { r with written := false } else r } ∧
      t.out = .memError code (prqAddr t) ⟨6, 0, none⟩ :: s.out) ∧
  (∀ (code : Nat) (s : State), (s.stu.werr = true ∨ s.stu.posted = [] ∨ code = 0 ∨ 6 < code) → exec (.prqWriteError code) s = .next s)

/-- R250, R251, R255: an invalidation command waits in a queue of 16, a seventeenth or a reserved kind sets OVF; its start removes what it covers from
the master's copies, each present cluster drops its own, engines and clusters acknowledge, and the completion counts and raises the event. Says that
these commands complete: invCmdReserved, clusterInvalidate, engineInvAck, clusterInvAck, invalidationComplete, invAll, invVmid, invAsid, invRange,
invalidationStart. -/
def Obligations.InvalidationsReachEveryCopy : Prop :=
  (∀ s : State, s.stu.cmds.length < 16 → ∀ p ∈ ([(0, .invAll), (1, .invVmid), (2, .invAsid), (3, .invRange)] : List (Nat × Instr)),
    exec p.2 s = .next { s with stu := { s.stu with cmds := s.stu.cmds ++ [⟨p.1, s.stu.arg0, s.stu.arg1⟩], issued := s.stu.issued + 1 } }) ∧
  (∀ s : State, 16 ≤ s.stu.cmds.length → ∀ c ∈ ([.invAll, .invVmid, .invAsid, .invRange] : List Instr),
    exec c s = .next { s with stu := { s.stu with invOvf := true } }) ∧
  (∀ (v : W64) (s : State), 4 ≤ v.toNat → exec (.invCmdReserved v) s = .next { s with stu := { s.stu with invOvf := true } }) ∧
  (∀ (c : InvCmd) (r : List InvCmd) (s : State), s.stu.cmds = c :: r → s.stu.active = false →
    exec .invalidationStart s = .next { s with stu := { s.stu with
      active := true, master := (s.stu.master.filter fun e => !(invCovers c e)), walks := (s.stu.walks.filter fun w => !(invNames c w)), clusters := presentClusters s, ackOwed := presentClusters s
      engines := (presentClusters s).flatMap clusterCores } }) ∧
  (∀ s : State, (s.stu.cmds = [] ∨ s.stu.active = true) → exec .invalidationStart s = .next s) ∧
  (∀ (cl : Nat) (c : InvCmd) (r : List InvCmd) (s : State), cl < 24 → s.stu.cmds = c :: r → s.stu.active = true → cl ∈ s.stu.clusters →
    ∃ t, exec (.clusterInvalidate cl) s = .next t ∧ t.stu = { s.stu with
      clusters := s.stu.clusters.filter fun k => decide (k ≠ cl)
      cluster := tset [] s.stu.cluster cl ((clusterAt s cl).filter fun e => !(invCovers c e))
      micro := (upto (8 * cl) 8).foldl (fun m k => [2 * k, 2 * k + 1].foldl (fun m j =>
        tset [] m j ((tget [] m j).filter fun e => !(invCovers c e))) m) s.stu.micro }) ∧
  (∀ (tc : Nat) (s : State), tc < 192 → s.stu.active = true → tc ∈ s.stu.engines → tc / 8 ∉ s.stu.clusters →
    onOldPages s tc = false →
    exec (.engineInvAck tc) s = .next { s with stu := { s.stu with engines := s.stu.engines.filter fun k => decide (k ≠ tc) } }) ∧
  (∀ (cl : Nat) (s : State), cl < 24 → s.stu.active = true → cl ∈ s.stu.ackOwed → cl ∉ s.stu.clusters →
    (∀ k ∈ s.stu.engines, k / 8 ≠ cl) →
    exec (.clusterInvAck cl) s = .next { s with stu := { s.stu with ackOwed := s.stu.ackOwed.filter fun k => decide (k ≠ cl) } }) ∧
  (∀ (ns : Nat) (s : State), s.stu.active = true → s.stu.clusters = [] → s.stu.ackOwed = [] → bit 15 s.stu.baton = false →
    ∃ t, exec (.invalidationComplete ns) s = .next t ∧
      t.stu = { s.stu with active := false, cmds := s.stu.cmds.drop 1, done := s.stu.done + 1, engines := [] } ∧
      (oget s 0x3300 3 + 1 < 2 ^ 64 → oget t 0x3300 3 = oget s 0x3300 3 + 1)) ∧
  (∀ (ns : Nat) (s : State), (s.stu.active = false ∨ s.stu.clusters ≠ [] ∨ s.stu.ackOwed ≠ []) → exec (.invalidationComplete ns) s = .next s)

/-! HBM -/

/-- R263 to R268, R279: a scrub read that finds nothing changes nothing; a corrected error counts for its MD, its page and its channel, and records the
page once the count has reached PGRET_CE_LIMIT (the record of a further error after the limit was lowered under the count is the model's reading,
DEDUCED from R298); an uncorrectable one poisons the line and keeps the data; PGRET_POP takes the oldest record, or answers 0, and on an absent MD ends
with NO_TARGET; a 1 µs window begins with what the partition took beyond its limit (log 108).
Says that these commands complete: scrubStep, pgretPop, partBwWindow. -/
def Obligations.HbmErrorsAreRecorded : Prop :=
  (∀ (pa : Nat) (s : State), exec (.scrubStep pa false false) s = .next s) ∧
  (∀ (pa : Nat) (a b : Bool) (s : State), (hbmThere s pa = false ∨ lineOf pa ∈ s.mem.poison) → exec (.scrubStep pa a b) s = .next s) ∧
  (∀ (pa n c : Nat) (m : Md) (pg ch : List (Nat × Nat)) (t u s : State), hbmThere s pa = true → lineOf pa ∉ s.mem.poison → n = tileOf pa →
    (mdAt s n).migrating = none → t = bumpObj 0x3401 (n + 1) 64 1 s → m = mdAt t n → c = (chanNow t pa).1 →
    pg = noteError (frameNow t) (dayFrames t) (tget [] m.pageCe (pa / 4096)) → ch = noteError (frameNow t) (hourFrames t) (tget [] m.chanCe c) →
    u = mdPut t n { m with pageCe := tset [] m.pageCe (pa / 4096) pg, chanCe := tset [] m.chanCe c ch } →
    (errorCount pg < oget t 0x2200 1 → exec (.scrubStep pa true false) s = .next u) ∧
    (oget t 0x2200 1 ≤ errorCount pg → exec (.scrubStep pa true false) s = .next (recordPage pa 1 u))) ∧
  (∀ (pa kind : Nat) (m : Md) (s : State), m = mdAt s (tileOf pa) → (∀ r ∈ m.pgret, r.1 ≠ pa / 4096) →
    (m.pgret.length < 64 → recordPage pa kind s = scRaise (fld 15 0 (regGet s (mdReg (tileOf pa) 0x200))) 0
      (mdPut s (tileOf pa) { m with pgret := m.pgret ++ [(pa / 4096, kind, 1)] })) ∧
    (64 ≤ m.pgret.length → recordPage pa kind s = mdPut s (tileOf pa) { m with pgOvf := true })) ∧
  (∀ (pa : Nat) (s : State), hbmThere s pa = true → lineOf pa ∉ s.mem.poison →
    ∃ t, exec (.scrubStep pa false true) s = .next t ∧ lineOf pa ∈ t.mem.poison ∧ t.mem.hbm = s.mem.hbm ∧ t.coh = s.coh) ∧
  (∀ (md : Nat) (r : Nat × Nat × Nat) (l : List (Nat × Nat × Nat)) (s : State), md < 6 → mdPresent s md = true → (mdAt s md).pgret = r :: l →
    exec (.pgretPop md) s = .next { mdPut s md { mdAt s md with pgret := l } with
      out := .readData (mdReg md 0x188) (BitVec.ofNat 64 (r.1 * 4096 + r.2.1 + 16 * r.2.2)) :: s.out }) ∧
  (∀ (md : Nat) (s : State), md < 6 → mdPresent s md = true → (mdAt s md).pgret = [] →
    exec (.pgretPop md) s = .next { s with out := .readData (mdReg md 0x188) 0 :: s.out }) ∧
  (∀ (md : Nat) (s : State), md < 6 → mdPresent s md = false →
    exec (.pgretPop md) s = .next (memErr 1 (mdReg md 0x188) (noUnit (6 + md)) s)) ∧
  (∀ (md : Nat) (s : State), md < 6 → exec (.partBwWindow md) s = .next (mdPut s md { mdAt s md with used := nextWindow s md }))

/-- R269 to R275: a channel above its limit, or named by RET_CMD, becomes a candidate with fault 0x0104; RET_GO starts the first candidate's migration,
which withdraws the tile's top region and opens the window of fault 0x0205; at its end the channel is retired. On an absent MD both commands end with
NO_TARGET. Says that these commands complete: channelCandidate, retCmd, retGo, migrationComplete. -/
def Obligations.ChannelsAreRetired : Prop :=
  (∀ (ch : Nat) (s : State), ch < 768 → (mdPresent s (ch / 128) = false ∨
      errorCount ((tget [] (mdAt s (ch / 128)).chanCe (ch % 128)).filter fun e => decide (frameNow s ≤ e.1 + hourFrames s)) ≤ oget s 0x2200 2 ∨
      newCandidate s (ch / 128) (ch % 128) = false) →
    exec (.channelCandidate ch) s = .next s) ∧
  (∀ (ch : Nat) (u s : State), ch < 768 → mdPresent s (ch / 128) = true →
    oget s 0x2200 2 < errorCount ((tget [] (mdAt s (ch / 128)).chanCe (ch % 128)).filter fun e => decide (frameNow s ≤ e.1 + hourFrames s)) →
    newCandidate s (ch / 128) (ch % 128) = true → u = fault1 0x0104 (128 * (ch / 128) + ch % 128) 0 [(2, 128 * (ch / 128) + ch % 128)] s →
    inReset u = false → s.faults.windows = [] →
    exec (.channelCandidate ch) s = .next (addCandidate (ch / 128) (ch % 128) u)) ∧
  (∀ (md c : Nat) (v : W64) (u s : State), md < 6 → mdPresent s md = true → c = 32 * fld 1 0 v + fld 6 2 v → newCandidate s md c = true →
    u = fault1 0x0104 (128 * md + c) 1 [(2, 128 * md + c)] s → inReset u = false →
    exec (.retCmd md v) s = .next (if s.faults.windows = [] then addCandidate md c u else deferRepair 0x0104 (128 * md + c) false 0 u)) ∧
  (∀ (md c : Nat) (v : W64) (s : State), md < 6 → mdPresent s md = true → c = 32 * fld 1 0 v + fld 6 2 v → newCandidate s md c = false →
    exec (.retCmd md v) s = .next s) ∧
  (∀ (md c : Nat) (s : State), newCandidate s md c = true → (∀ r ∈ (mdAt s md).retired, r / 32 ≠ c / 32) → (mdAt s md).migrating = none →
    (mdAt s md).withdrawn = false →
    bit 0 (regGet (mdPut s md { mdAt s md with cands := insNat c (mdAt s md).cands }) (mdReg md 0x1D8)) = false →
    addCandidate md c s = mdPut s md { mdAt s md with cands := insNat c (mdAt s md).cands }) ∧
  (∀ (md c r : Nat) (s : State), newCandidate s md c = true → r ∈ (mdAt s md).retired → r / 32 = c / 32 →
    addCandidate md c s = mdPut s md { mdAt s md with noReserve := insNat c (mdAt s md).noReserve }) ∧
  (∀ (md c : Nat) (l : List Nat) (v : W64) (s : State), md < 6 → mdPresent s md = true → bit 0 v = true → (mdAt s md).cands = c :: l →
    (mdAt s md).migrating = none →
    exec (.retGo md v) s = .next (fault2 0x0205 (128 * md + c) 0 [(2, 128 * md + c)]
      (mdPut s md { mdAt s md with cands := l, migrating := some c, withdrawn := true, mark := 0 }))) ∧
  (∀ (md : Nat) (v : W64) (s : State), md < 6 → mdPresent s md = true →
    (bit 0 v = false ∨ (mdAt s md).cands = [] ∨ (mdAt s md).migrating ≠ none) → exec (.retGo md v) s = .next s) ∧
  (∀ (md : Nat) (v : W64) (s : State), md < 6 → mdPresent s md = false →
    exec (.retCmd md v) s = .next (memErr 1 (mdReg md 0x1C8) (noUnit (6 + md)) s) ∧
    exec (.retGo md v) s = .next (memErr 1 (mdReg md 0x1D0) (noUnit (6 + md)) s)) ∧
  (∀ (md : Nat) (s : State), md < 6 → (mdPresent s md = false ∨ (mdAt s md).migrating = none) → exec (.migrationComplete md) s = .next s) ∧
  (∀ (md c : Nat) (s : State), md < 6 → mdPresent s md = true → (mdAt s md).migrating = some c → (mdAt s md).cands = [] →
    s.faults.deferred = [] →
    ∃ t, exec (.migrationComplete md) s = .next t ∧ t.flash.retired = insNat (128 * md + c) s.flash.retired ∧
      mdAt t md = { mdAt s md with migrating := none, retired := insNat c (mdAt s md).retired } ∧
      (∀ w ∈ t.faults.windows, ¬(w.code = 0x0205 ∧ w.unit = 128 * md + c)))

/-! Maintenance and uncached accesses -/

/-- R283, R290 to R292: a maintenance command takes the range of its registers; while one runs, or out of range, its error bit is set and nothing
else; over a range of which the home holds nothing it starts, and a ZERO clears the range's bytes and poison; a dirty line of the slice that nothing else
holds is written to HBM by CLEAN, dropped by INVALIDATE, and both by CLEAN_INVALIDATE. Done, BUSY clears, and the event is raised where it was asked for. An NC write stores its little-endian bytes in HBM and an NC read
answers them. Says that these commands complete: maintClean, maintInvalidate, maintCleanInvalidate, maintZero, l2MaintClean, l2MaintCleanInvalidate,
maintCmdReserved, maintComplete, ncAccess. -/
def Obligations.MaintenanceAndUncachedAccesses : Prop :=
  (∀ p ∈ ([(1, .maintClean), (2, .maintInvalidate), (3, .maintCleanInvalidate), (4, .maintZero)] : List (Nat × (Nat → Bool → Instr))),
    ∀ (md lo n : Nat) (evt : Bool) (m : Maint) (s : State), md < 6 → mdPresent s md = true → m = mdMaint s md →
    lo = fld 51 7 (regGet s (mdReg md 0x100)) * 128 → n = fld 39 7 (regGet s (mdReg md 0x108)) * 128 →
    (m.busy = true → exec (p.2 md evt) s = .next (mdPut s md { mdAt s md with maint := { m with cmdErr := true } })) ∧
    (m.busy = false → n = 0 → exec (p.2 md evt) s = .next (if evt then scRaise (mdSrc s md) 0 s else s)) ∧
    (m.busy = false → n ≠ 0 → (lo < md * tileSize ∨ (md + 1) * tileSize < lo + n) →
      exec (p.2 md evt) s = .next (mdPut s md { mdAt s md with maint := { m with rangeErr := true } })) ∧
    (m.busy = false → n ≠ 0 → md * tileSize ≤ lo → lo + n ≤ (md + 1) * tileSize → heldLines s lo n = [] → p.1 ≠ 4 →
      exec (p.2 md evt) s = .next (mdPut s md { mdAt s md with
        maint := { m with busy := true, op := p.1, evt := evt, base := lo, size := n, left := [] } })) ∧
    (m.busy = false → n ≠ 0 → md * tileSize ≤ lo → lo + n ≤ (md + 1) * tileSize → heldLines s lo n = [] → p.1 = 4 →
      ∃ t, exec (p.2 md evt) s = .next t ∧ t.mem.hbm = s.mem.hbm.filter (fun e => !(inRange lo n (lineOf e.1))) ∧
        t.mem.poison = s.mem.poison.filter (fun l => !(inRange lo n l)) ∧ (mdMaint t md).busy = true ∧ t.coh = s.coh)) ∧
  (∀ p ∈ ([(1, .maintClean), (2, .maintInvalidate), (3, .maintCleanInvalidate)] : List (Nat × (Nat → Bool → Instr))),
    ∀ (md lo n ln : Nat) (evt : Bool) (m : Maint) (e : LlcLine) (u s : State), md < 6 → mdPresent s md = true → m = mdMaint s md →
    lo = fld 51 7 (regGet s (mdReg md 0x100)) * 128 → n = fld 39 7 (regGet s (mdReg md 0x108)) * 128 → m.busy = false → n ≠ 0 →
    md * tileSize ≤ lo → lo + n ≤ (md + 1) * tileSize → heldLines s lo n = [ln] → s.coh.dir = [] → s.coh.net = [] → s.coh.escal = [] →
    lineHome ln = md → aget s.mem.llc ln = some e → e.dirty = true → e.poison = false →
    u = mdPut s md { mdAt s md with maint := { m with busy := true, op := p.1, evt := evt, base := lo, size := n, left := [] } } →
    ∃ t, exec (p.2 md evt) s = .next t ∧
      t.mem.hbm = (if p.1 = 2 then s.mem.hbm else tputs s.mem.hbm (128 * ln) (lineBytes128 e.data)) ∧
      t.mem.llc = (if p.1 = 1 then aput s.mem.llc ln { e with dirty := false } else adel s.mem.llc ln) ∧
      t.coh = s.coh ∧ mdMaint t md = mdMaint u md) ∧
  (∀ p ∈ ([.maintClean, .maintInvalidate, .maintCleanInvalidate, .maintZero] : List (Nat → Bool → Instr)),
    ∀ (md : Nat) (evt : Bool) (s : State), md < 6 → mdPresent s md = false →
    exec (p md evt) s = .next (memErr 1 (mdReg md 0x110) (noUnit (6 + md)) s)) ∧
  (∀ (u : MaintUnit) (evt : Bool) (v : W64) (s : State), u.ok = true → isL2 u = true → diePresent s (maintWin u) = false →
    exec (.l2MaintClean u evt) s = .next (memErr 1 (l2Reg u 0x20) (noUnit (maintWin u)) s) ∧
    exec (.l2MaintCleanInvalidate u evt) s = .next (memErr 1 (l2Reg u 0x20) (noUnit (maintWin u)) s) ∧
    exec (.maintCmdReserved u v) s = .next (memErr 1 (l2Reg u 0x20) (noUnit (maintWin u)) s)) ∧
  (∀ (u : MaintUnit) (evt : Bool) (m : Maint) (s : State), u.ok = true → isL2 u = true → diePresent s (maintWin u) = true → m = l2At s u →
    ∀ p ∈ ([(1, .l2MaintClean), (3, .l2MaintCleanInvalidate)] : List (Nat × (MaintUnit → Bool → Instr))),
    (m.busy = true → exec (p.2 u evt) s = .next (l2Put u { m with cmdErr := true } s)) ∧
    (m.busy = false → fld 39 7 (regGet s (l2Reg u 0x18)) = 0 → evt = false → exec (p.2 u evt) s = .next s) ∧
    (m.busy = false → fld 39 7 (regGet s (l2Reg u 0x18)) ≠ 0 → exec (p.2 u evt) s = .next (l2Put u { m with
      busy := true, op := p.1, evt := evt, base := fld 51 7 (regGet s (l2Reg u 0x10)) * 128
      size := fld 39 7 (regGet s (l2Reg u 0x18)) * 128 } s))) ∧
  (∀ (md : Nat) (v : W64) (s : State), md < 6 → mdPresent s md = false →
    exec (.maintCmdReserved (.md md) v) s = .next (memErr 1 (mdReg md 0x110) (noUnit (6 + md)) s)) ∧
  (∀ (md : Nat) (v : W64) (s : State), md < 6 → mdPresent s md = true → ((mdMaint s md).busy = true ∨ fld 2 0 v = 0 ∨ 4 < fld 2 0 v) →
    exec (.maintCmdReserved (.md md) v) s = .next (mdPut s md { mdAt s md with maint := { mdMaint s md with cmdErr := true } })) ∧
  (∀ (u : MaintUnit) (v : W64) (s : State), u.ok = true → isL2 u = true → diePresent s (maintWin u) = true →
    ((l2At s u).busy = true ∨ (fld 2 0 v ≠ 1 ∧ fld 2 0 v ≠ 3)) →
    exec (.maintCmdReserved u v) s = .next (l2Put u { l2At s u with cmdErr := true } s)) ∧
  (∀ (md : Nat) (t s : State), md < 6 → (mdMaint s md).busy = true → (mdMaint s md).left = [] →
    (∀ e ∈ s.coh.dir, lineHome e.1 = md → e.2.st ≠ .tm) → t = mdPut s md { mdAt s md with maint := { mdMaint s md with busy := false } } →
    exec (.maintComplete (.md md)) s = .next (if (mdMaint s md).evt then scRaise (mdSrc t md) 0 t else t)) ∧
  (∀ (u : MaintUnit) (s : State), u.ok = true → isL2 u = true → (l2At s u).busy = true → (l2At s u).evt = false → s.coh.open_ = [] →
    l2Lines s (l2Key u) (l2At s u).base (l2At s u).size = [] →
    exec (.maintComplete u) s = .next (l2Put u { l2At s u with busy := false } s)) ∧
  (∀ (who : Requester) (pa size n : Nat) (v : W64) (l : List Byte) (t s : State), okRequester who = true →
    (size = 1 ∨ size = 2 ∨ size = 4 ∨ size = 8) → pa % size = 0 → target s pa = .hbm n → reaches s (partOf s who) n = true →
    lineOf pa ∉ s.mem.poison → ncWaits s who (partOf s who) (lineOf pa) = false →
    t = meter (partOf s who) n (setFlaws [] s) → l = leBytes size v.toNat →
    exec (.ncAccess who true pa size v []) s = .next (setFlaws [] (setPoison (lineOf pa) false (putHbm (lineOf pa)
      (mergeLine (runMask (pa % 128) false l) (hbmData t (lineOf pa)) (runLine (pa % 128) l)) (meter (partOf s who) n t)))) ∧
    exec (.ncAccess who false pa size v []) s =
      .next (setFlaws [] (emit (.readData pa (BitVec.ofNat 64 (leNat (tbytes s.mem.hbm pa size)))) t)))

/-! Coherence -/

/-- R303, R309 to R313, R316, R317, R321: a request for a line without a directory entry is answered from home data: a read by a group alone takes E, by a
cluster S, a write intent E, a Look nothing, and a cluster's read that hits in its near slice is served there; a PutPlace or CasHome writes home data and
is granted. A request out of reach or without a target ends in an error response. A line in transition, a full tracker file or partition Nacks; the
requester retries, a Promote without its copy as a GetM, and escalates after the Nacks that COH_NACK_ESCALATE allowed when it was sent.
Says that these commands complete: gets, getm, promote, look, putplace, cashome, nack, cohRetry. -/
def Obligations.RequestsAreServedAtTheHome : Prop :=
  (∀ (u fill pa ln : Nat) (who : Requester) (st : Moesi) (r : CohReq) (e : DirEnt) (v s : State), okRequester who = true → ln = lineOf pa →
    agentPresent s u = true → openReq s u ln = false → lineAt s u ln = none → fillRoom s u ln = true → fill < 4 →
    r = { mkReq s .gets u who pa false with fill := fill } → requestGoes s r = true →
    v = { keepWay r s with coh := { (keepWay r s).coh with open_ := (keepWay r s).coh.open_ ++ [r] } } → v.coh.dir = [] →
    dropsAtHome v r = false → refuseCause v r.part ln = none →
    e = { emptyEnt with
      st := .ts, req := some r, acks := [u],
      was := if st = .e then .de else .ds, owner := if st = .e then u else 0, sharers := if st = .e then [] else [u] } →
    ((u < 24 ∧ nearSlice s u ln = none ∧ st = .s) ∨ (isGroup u = true ∧ st = .e)) → v.coh.escal = [] →
    exec (.gets u who fill pa false false) s = .next { v with coh := { v.coh with
        dir := [(ln, e)], dirlru := tmod 0 v.coh.dirlru (dirKey ln) fun t => plruTouch t 0
        net := v.coh.net ++ [.homefill u ln (some st) (aget v.mem.llc ln).isNone (homeLine v ln).2 (homeLine v ln).1] } }) ∧
  (∀ (u fill pa ln : Nat) (who : Requester) (x : ALine) (t : Bool × State) (s : State), okRequester who = true → ln = lineOf pa → u < 24 →
    unitOf who = u → agentPresent s u = true → openReq s u ln = false → lineAt s u ln = none → fill < 4 → nearSlice s u ln = some x →
    t = agentFill u ln (agentMask s u fill (partOf s who)) ⟨.s, x.data, x.poison, partOf s who, 0⟩ (l2Touch (56 + u / 4) ln x.way s) →
    t.1 = true →
    exec (.gets u who fill pa false false) s = .next { t.2 with coh := { t.2.coh with
      near := (u, ln) :: t.2.coh.near.filter fun e => decide (e ≠ (u, ln)) } }) ∧
  (∀ (u pa ln : Nat) (who : Requester) (r : CohReq) (v s : State), okRequester who = true → ln = lineOf pa → isGroup u = true →
    agentPresent s u = true → openReq s u ln = false → lineAt s u ln = none → fillRoom s u ln = true →
    r = mkReq s .getm u who pa false → requestGoes s r = true →
    v = { keepWay r s with coh := { (keepWay r s).coh with open_ := (keepWay r s).coh.open_ ++ [r] } } → v.coh.dir = [] →
    refuseCause v r.part ln = none → v.coh.escal = [] →
    exec (.getm u who pa false false) s = .next { v with coh := { v.coh with
        dir := [(ln, { emptyEnt with st := .tu, req := some r, acks := [u], was := .de, owner := u, sharers := [] })]
        dirlru := tmod 0 v.coh.dirlru (dirKey ln) fun t => plruTouch t 0
        net := v.coh.net ++ [.homefill u ln (some .e) (aget v.mem.llc ln).isNone (homeLine v ln).2 (homeLine v ln).1] } }) ∧
  (∀ (u pa ln : Nat) (who : Requester) (x : ALine) (r : CohReq) (d : DirEnt) (v s : State), okRequester who = true → ln = lineOf pa →
    isGroup u = true → agentPresent s u = true → openReq s u ln = false → lineAt s u ln = some x → (x.st = .s ∨ x.st = .o) →
    s.coh.dir = [(ln, d)] → d.st = .ds → d.sharers = [u] → r = mkReq s .promote u who pa false → requestGoes s r = true →
    v = { s with coh := { s.coh with open_ := s.coh.open_ ++ [r] } } → refuseCause v r.part ln = none → s.coh.escal = [] →
    exec (.promote u who pa false false) s = .next { v with coh := { v.coh with
      dir := [(ln, { d with st := .tu, was := .de, owner := u, sharers := [], req := some r, snoops := [], acks := [u], fwd := false })]
      dirlru := tmod 0 s.coh.dirlru (dirKey ln) fun t => plruTouch t d.way
      net := s.coh.net ++ [.grant u ln (some .m) 0] } }) ∧
  (∀ (u pa ln : Nat) (fixed : Bool) (who : Requester) (r : CohReq) (w v s : State), okRequester who = true → u < 64 → unitPresent s u = true →
    ln = lineOf pa → entAt s ln = none → r = mkReq s .look u who pa false → requestGoes s r = true →
    w = (if fixed then bumpObj 0x3505 (lineHome ln + 1) 64 1 s else s) →
    v = { w with coh := { w.coh with open_ := w.coh.open_ ++ [r] } } → refuseCause v r.part ln = none →
    exec (.look u who pa false fixed) s = .next { v with coh := { v.coh with
      net := v.coh.net ++ [.homefill u ln none (aget v.mem.llc ln).isNone (homeLine v ln).2 (homeLine v ln).1] } }) ∧
  (∀ (u pa hid ln : Nat) (who : Requester) (mask : BitVec 256) (d : LineData) (fl : List (Nat × Bool)) (r : CohReq) (v s : State),
    okRequester who = true → u < 64 → unitPresent s u = true → mask ≠ 0 → ln = lineOf pa → entAt s ln = none →
    r = { mkReq s .putplace u who pa false with mask := mask, data := d, hint := 0, hintId := hid } → requestGoes s r = true →
    v = { setFlaws fl s with coh := { s.coh with open_ := s.coh.open_ ++ [r] } } → refuseCause v r.part ln = none →
    exec (.putplace u who pa mask d 0 hid false false fl) s = .next (setFlaws [] (performWrite r v).2) ∧
    (∀ x, aget s.mem.llc ln = some x → (performWrite r v).2 = say (.grant u ln none 0) (toHome ln (mergeLine (expandMask mask) x.data d)
      (x.poison && !(decide (expandMask mask = wholeMask))) r.part v))) ∧
  (∀ (pa ln w : Nat) (who : Requester) (old new : W64) (fl : List (Nat × Bool)) (r : CohReq) (x : LlcLine) (v t s : State),
    okRequester who = true → unitPresent s 62 = true → pa % 8 = 0 → ln = lineOf pa → w = pa % 128 / 8 → entAt s ln = none →
    r = { mkReq s .cashome 62 who pa false with old := old, new := new, word := w } → requestGoes s r = true →
    v = { setFlaws fl s with coh := { s.coh with open_ := s.coh.open_ ++ [r] } } → refuseCause v r.part ln = none →
    aget s.mem.llc ln = some x → x.poison = false → t = llcTouch (lineHome ln) (lineSet ln) x.way v →
    exec (.cashome who pa old new false false fl) s = .next (setFlaws [] (say (.grant 62 ln none (wordOfLine x.data w))
      (if wordOfLine x.data w = old then toHome ln (mergeLine (wordMask w) x.data (wordLine w new)) false r.part t else t)))) ∧
  (∀ (u pa c : Nat) (who : Requester) (r : CohReq) (s : State), okRequester who = true → u < 64 → unitPresent s u = true →
    r = mkReq s .look u who pa false → issuing s = true → whoFits r = true → issueRoom s who 1 = true → coherentAddr s (128 * lineOf pa) = true →
    pathHeld s (unitWin u) (homeWin (lineOf pa)) = false → accessError s (partOf s who) false (128 * lineOf pa) = some c →
    exec (.look u who pa false false) s = .next (errorTo c (128 * lineOf pa) who false false s)) ∧
  (∀ (u pa c : Nat) (who : Requester) (r : CohReq) (v s : State), okRequester who = true → u < 64 → unitPresent s u = true →
    r = mkReq s .look u who pa false → requestGoes s r = true → v = { s with coh := { s.coh with open_ := s.coh.open_ ++ [r] } } →
    refuseCause v r.part r.line = some c →
    exec (.look u who pa false false) s = .next (bumpObj 0x3500 (lineHome (lineOf pa) + 1) 64 1 (say (.nack r c) v))) ∧
  (∀ (s : State) (part : Option Nat) (ln : Nat),
    (lineShut s ln = true → refuseCause s part ln = some 1) ∧
    (lineShut s ln = false → 16128 ≤ homeTrackers s (lineHome ln) → refuseCause s part ln = some 2) ∧
    (∀ p, lineShut s ln = false → homeTrackers s (lineHome ln) < 16128 → part = some p →
      12288 ≤ partTrackers s (lineHome ln) p → refuseCause s part ln = some 3)) ∧
  (∀ (s : State) (ln : Nat) (e : DirEnt), entAt s ln = some e → stable e.st = false → lineShut s ln = true) ∧
  (∀ (p q : List CohMsg) (u pa c : Nat) (r : CohReq) (t s : State), u < 64 → Arrived s t (.nack r c) p q → r.req = u → r.line = lineOf pa →
    (∀ x k, .nack x k ∈ p → x.req ≠ u ∨ x.line ≠ lineOf pa) →
    exec (.nack u pa) s = .next { t with coh := { t.coh with retries := t.coh.retries ++ [⟨{ r with nacks := r.nacks + 1 }, false⟩] } }) ∧
  (∀ (a b : List Retry) (u pa : Nat) (x : Retry) (fl : List (Nat × Bool)) (v s : State), u < 64 → s.coh.retries = a ++ x :: b →
    x.req.req = u → x.req.line = lineOf pa → (∀ y ∈ a, y.req.req ≠ u ∨ y.req.line ≠ lineOf pa) →
    pathHeld s (unitWin u) (homeWin (lineOf pa)) = false → writeWaits s x.req = false →
    v = { setFlaws fl s with coh := { s.coh with retries := a ++ b } } →
    exec (.cohRetry u pa fl) s = .next (setFlaws [] (arrive (retryOf s x.req) v))) ∧
  (∀ (s : State) (r : CohReq), (retryOf s r).esc = (r.esc || decide (r.limit ≤ r.nacks)) ∧
    (r.kind = .promote → lineAt s r.req r.line = none → (retryOf s r).kind = .getm) ∧ (r.kind ≠ .promote → (retryOf s r).kind = r.kind))

/-- R309 to R311, R314, R315: an agent that holds the line answers the snoop that reaches it: a FwdS leaves it S or O and fills the requester, a FwdM and an
Inv take its copy away, a Peek shows the data, a FlushD cleans it; an agent without a copy answers that it holds nothing. A snoop has to arrive first: the
order of messages is the model's reading (log 116). Says that these commands complete: fwds, fwdm, inv, peek, flushd. -/
def Obligations.AgentsAnswerSnoops : Prop :=
  (∀ (p q : List CohMsg) (a pa r : Nat) (x : ALine) (u s : State), a < 62 → Arrived s u (.fwds a (lineOf pa) r) p q →
    (∀ k, .fwds a (lineOf pa) k ∉ p) → lineAt s a (lineOf pa) = some x → x.st ≠ .s →
    exec (.fwds a pa) s = .next (say (.snack a (lineOf pa) (some (if x.st = .e then .s else .o)) true (dirtySt x.st) false)
      (say (.ownerfill a r (lineOf pa) .s x.poison x.data) (linePut a (lineOf pa) { x with st := if x.st = .e then .s else .o } u)))) ∧
  (∀ (p q : List CohMsg) (a pa r : Nat) (x : ALine) (u s : State), a < 62 → Arrived s u (.fwdm a (lineOf pa) r) p q →
    (∀ k, .fwdm a (lineOf pa) k ∉ p) → lineAt s a (lineOf pa) = some x → x.st ≠ .s →
    exec (.fwdm a pa) s = .next (say (.snack a (lineOf pa) none true (dirtySt x.st) false)
      (say (.ownerfill a r (lineOf pa) (if dirtySt x.st then .m else .e) x.poison x.data) (lineDrop a (lineOf pa) u)))) ∧
  (∀ (p q : List CohMsg) (a pa : Nat) (discard : Bool) (x : ALine) (u s : State), a < 62 → isSlice a = false →
    Arrived s u (.inv a (lineOf pa) discard) p q → (∀ k, .inv a (lineOf pa) k ∉ p) → lineAt s a (lineOf pa) = some x →
    exec (.inv a pa) s = .next (say (if dirtySt x.st && !discard then .sndata a (lineOf pa) none false true false x.poison x.data x.part
      else .snack a (lineOf pa) none false false false) (lineDrop a (lineOf pa) u))) ∧
  (∀ (p q : List CohMsg) (a pa : Nat) (discard : Bool) (x : ALine) (u s : State), a < 62 → isSlice a = false →
    Arrived s u (.inv a (lineOf pa) discard) p q → (∀ k, .inv a (lineOf pa) k ∉ p) → lineAt s a (lineOf pa) = none →
    wbAt s a (lineOf pa) = some x → vacSettled s a (lineOf pa) = false →
    exec (.inv a pa) s = .next (say (if dirtySt x.st && !discard then .sndata a (lineOf pa) none false true true x.poison x.data x.part
      else .snack a (lineOf pa) none false false (dirtySt x.st)) (wbClean a (lineOf pa) u))) ∧
  (∀ (p q : List CohMsg) (a pa : Nat) (x : ALine) (u s : State), a < 62 → Arrived s u (.peek a (lineOf pa)) p q →
    .peek a (lineOf pa) ∉ p → lineAt s a (lineOf pa) = some x →
    exec (.peek a pa) s = .next (say (.sndata a (lineOf pa) (some (if x.st = .m then .e else x.st)) false (dirtySt x.st) false x.poison x.data x.part) u)) ∧
  (∀ (p q : List CohMsg) (a pa : Nat) (x : ALine) (u s : State), a < 62 → Arrived s u (.flushd a (lineOf pa)) p q →
    .flushd a (lineOf pa) ∉ p → lineAt s a (lineOf pa) = some x →
    exec (.flushd a pa) s = .next (if dirtySt x.st then
      say (.sndata a (lineOf pa) (some (if x.st = .m then .e else .s)) false true false x.poison x.data x.part)
        (linePut a (lineOf pa) { x with st := if x.st = .m then .e else .s } u)
      else say (.snack a (lineOf pa) (some x.st) false false false) u)) ∧
  (∀ (p q : List CohMsg) (a pa r : Nat) (u s : State), a < 62 → isSlice a = false → lineAt s a (lineOf pa) = none →
    wbAt s a (lineOf pa) = none →
    let t := say (.snack a (lineOf pa) none false false false) u
    ((∀ k, .fwds a (lineOf pa) k ∉ p) → Arrived s u (.fwds a (lineOf pa) r) p q → exec (.fwds a pa) s = .next t) ∧
    ((∀ k, .fwdm a (lineOf pa) k ∉ p) → Arrived s u (.fwdm a (lineOf pa) r) p q → exec (.fwdm a pa) s = .next t) ∧
    ((∀ k, .inv a (lineOf pa) k ∉ p) → Arrived s u (.inv a (lineOf pa) false) p q → exec (.inv a pa) s = .next t) ∧
    (.peek a (lineOf pa) ∉ p → Arrived s u (.peek a (lineOf pa)) p q → exec (.peek a pa) s = .next t) ∧
    (.flushd a (lineOf pa) ∉ p → Arrived s u (.flushd a (lineOf pa)) p q → exec (.flushd a pa) s = .next t)) ∧
  (∀ (a pa : Nat) (s : State), a < 62 → s.coh.net = [] → ∀ c ∈ ([.fwds a pa, .fwdm a pa, .inv a pa, .peek a pa, .flushd a pa] : List Instr),
    exec c s = .next s)

/-- R310 to R313: an answer is noted at the entry that awaits it, and while others are awaited nothing more happens; the last one performs the request;
dirty data goes into home data. An acknowledgement that completes an entry closes it to its stable state; a decline is counted and leaves no sharer.
R312, R313, R315, R323: a grant makes a promoted copy M, or tells the writer the word it replaced; a fill gives its receiver the line and is
acknowledged, a poisoned one with the error POISONED; a push is taken unless declined; an eviction moves the line into the writeback buffer until its
acknowledgement. The order of messages is the model's reading (log 116). Says that these commands complete: snack, sndata, grantack, placeack, grant,
ownerfill, homefill, placedata, vacdata, vacclean, vacack. -/
def Obligations.LinesAreAnsweredGrantedAndEvicted : Prop :=
  (∀ (p q : List CohMsg) (a pa : Nat) (kept : Option Moesi) (fwd d w : Bool) (fl : List (Nat × Bool)) (e x : DirEnt) (u s : State), a < 62 →
    Arrived s u (.snack a (lineOf pa) kept fwd d w) p q → (∀ k f y z, .snack a (lineOf pa) k f y z ∉ p) →
    entAt s (lineOf pa) = some e → a ∈ e.snoops →
    x = { keptEnt e a kept with snoops := e.snoops.filter fun k => decide (k ≠ a), fwd := e.fwd || fwd } → x.snoops ≠ [] →
    exec (.snack a pa fl) s = .next (setFlaws [] (entPut (lineOf pa) x u))) ∧
  (∀ (p q : List CohMsg) (a pa : Nat) (kept : Option Moesi) (fwd d w : Bool) (fl : List (Nat × Bool)) (e x : DirEnt) (r : CohReq) (u s : State),
    a < 62 → Arrived s u (.snack a (lineOf pa) kept fwd d w) p q → (∀ k f y z, .snack a (lineOf pa) k f y z ∉ p) →
    entAt s (lineOf pa) = some e → e.snoops = [a] → e.st = .tu → e.req = some r →
    x = { keptEnt e a kept with snoops := [], fwd := e.fwd || fwd } →
    exec (.snack a pa fl) s =
      .next (setFlaws [] (settleLine (.advance (lineOf pa)) (performReq (lineOf pa) x r (entPut (lineOf pa) x (setFlaws fl u)))))) ∧
  (∀ (p q : List CohMsg) (a pa : Nat) (kept : Option Moesi) (fwd w poison : Bool) (d : LineData) (part : Option Nat) (fl : List (Nat × Bool))
    (e x : DirEnt) (u s : State), a < 62 →
    Arrived s u (.sndata a (lineOf pa) kept fwd true w poison d part) p q → (∀ k f y z o v n, .sndata a (lineOf pa) k f y z o v n ∉ p) →
    entAt s (lineOf pa) = some e → a ∈ e.snoops → e.st = .tu →
    x = { keptEnt e a kept with snoops := e.snoops.filter fun k => decide (k ≠ a), fwd := e.fwd || fwd } → x.snoops ≠ [] →
    exec (.sndata a pa fl) s = .next (setFlaws [] (entPut (lineOf pa) x (toHome (lineOf pa) d poison part (setFlaws fl u))))) ∧
  (∀ (p q : List CohMsg) (a pa : Nat) (e : DirEnt) (fl : List (Nat × Bool)) (u s : State), a < 62 →
    Arrived s u (.grantack a (lineOf pa)) p q → .grantack a (lineOf pa) ∉ p → s.coh.dir = [(lineOf pa, e)] → stable e.st = false →
    e.st ≠ .tm → e.st ≠ .te → e.snoops = [] → e.acks = [a] → e.vac = [] → NoneWaits s (lineOf pa) →
    exec (.grantack a pa fl) s = .next (setFlaws [] { u with coh := { u.coh with
      dir := if e.was = .ds ∧ e.sharers = [] then [] else [(lineOf pa, closed e)] } })) ∧
  (∀ (p q : List CohMsg) (a pa : Nat) (e : DirEnt) (fl : List (Nat × Bool)) (u s : State), a < 62 →
    Arrived s u (.placeack a (lineOf pa) true) p q → (∀ k, .placeack a (lineOf pa) k ∉ p) → s.coh.dir = [(lineOf pa, e)] →
    stable e.st = false → e.st ≠ .tm → e.st ≠ .te → e.snoops = [] → e.acks = [a] → e.vac = [] → NoneWaits s (lineOf pa) →
    exec (.placeack a pa fl) s = .next (setFlaws [] { u with coh := { u.coh with
      dir := if e.was = .ds ∧ e.sharers = [] then [] else [(lineOf pa, closed e)] } })) ∧
  (∀ (p q : List CohMsg) (a pa : Nat) (e : DirEnt) (fl : List (Nat × Bool)) (u s : State), a < 62 →
    Arrived s u (.placeack a (lineOf pa) false) p q → (∀ k, .placeack a (lineOf pa) k ∉ p) → s.coh.dir = [(lineOf pa, e)] →
    e.st = .tw → e.was = .ds → e.sharers = [a] → e.snoops = [] → e.acks = [a] → e.vac = [] → NoneWaits s (lineOf pa) →
    ∃ t, exec (.placeack a pa fl) s = .next t ∧ t.coh = { u.coh with dir := [] } ∧
      t.obj = (bumpObj 0x3504 (lineHome (lineOf pa) + 1) 64 1 s).obj ∧ t.mem = { s.mem with flaws := [] }) ∧
  (∀ (p q : List CohMsg) (a pa : Nat) (x : ALine) (st : Moesi) (old : W64) (u v s : State), a < 62 →
    Arrived s u (.grant a (lineOf pa) (some st) old) p q → (∀ k o, .grant a (lineOf pa) k o ∉ p) →
    v = closeReq a (lineOf pa) u → lineAt s a (lineOf pa) = some x →
    exec (.grant a pa) s = .next (say (.grantack a (lineOf pa)) (linePut a (lineOf pa) { x with st := .m } v))) ∧
  (∀ (p q : List CohMsg) (a pa : Nat) (old : W64) (u v s : State), a < 64 →
    Arrived s u (.grant a (lineOf pa) none old) p q → (∀ k o, .grant a (lineOf pa) k o ∉ p) → v = closeReq a (lineOf pa) u →
    exec (.grant a pa) s = .next { v with out := .readData (128 * lineOf pa) old :: s.out }) ∧
  (∀ (p q : List CohMsg) (a b pa : Nat) (st : Moesi) (poison : Bool) (d : LineData) (part : Option Nat) (r : CohReq) (u v w s : State), a < 62 →
    Arrived s u (.ownerfill b a (lineOf pa) st poison d) p q → (∀ c k o v, .ownerfill c a (lineOf pa) k o v ∉ p) →
    openOf s a (lineOf pa) = some r → part = r.part → v = closeReq a (lineOf pa) u →
    w = say (.grantack a (lineOf pa)) (agentFill a (lineOf pa) (agentMask v a r.fill part) ⟨st, d, poison, part, 0⟩ v).2 →
    exec (.ownerfill a pa) s = .next (if poison then failReq 3 r w else w)) ∧
  (∀ (r : CohReq) (s : State),
    (isPrefetch r = true → failReq 3 r s = memErr 3 (128 * r.line) (noUnit (unitWin r.req)) s) ∧
    (isPrefetch r = false → failReq 3 r s = errorTo 3 (128 * r.line) r.who (isWrite r.kind) (decide (r.fill = 1)) s)) ∧
  (∀ (p q : List CohMsg) (a pa : Nat) (st : Moesi) (poison : Bool) (d : LineData) (part : Option Nat) (r : CohReq) (u v w s : State), a < 62 →
    Arrived s u (.homefill a (lineOf pa) (some st) false poison d) p q → (∀ k h o v, .homefill a (lineOf pa) k h o v ∉ p) →
    (∀ k o v, .homefill a (lineOf pa) k true o v ∉ q) → openOf s a (lineOf pa) = some r → part = r.part →
    v = closeReq a (lineOf pa) (setFlaws [] u) →
    w = say (.grantack a (lineOf pa)) (agentFill a (lineOf pa) (agentMask v a r.fill part) ⟨st, d, poison, part, 0⟩ v).2 →
    exec (.homefill a pa false false) s = .next (setFlaws [] (settleLine (.after (lineOf pa)) (if poison then failReq 3 r w else w)))) ∧
  (∀ (p q : List CohMsg) (a pa : Nat) (corrected : Bool) (st : Option Moesi) (d : LineData) (r : Option Nat × (LineData × Bool) × State)
    (u s : State), a < 64 →
    Arrived s u (.homefill a (lineOf pa) st true false d) p q → (∀ k h o v, .homefill a (lineOf pa) k h o v ∉ p) →
    fillWaits s a (lineOf pa) = false →
    r = homeRead a (openPart s a (lineOf pa)) (decide (openFill s a (lineOf pa) = 3)) (lineOf pa)
      (setFlaws (if corrected then [(lineOf pa, false)] else []) u) → r.1 = none →
    exec (.homefill a pa corrected false) s =
      .next (setFlaws [] (settleLine (.after (lineOf pa)) (receiveLine a (lineOf pa) st none false d r.2.2)))) ∧
  (∀ (p q : List CohMsg) (a pa : Nat) (d : LineData) (u v s : State), a < 64 →
    Arrived s u (.homefill a (lineOf pa) none false false d) p q → (∀ k h o v, .homefill a (lineOf pa) k h o v ∉ p) →
    (∀ k o v, .homefill a (lineOf pa) k true o v ∉ q) → NoneWaits s (lineOf pa) → v = closeReq a (lineOf pa) (setFlaws [] u) →
    exec (.homefill a pa false false) s = .next { v with out := .lookData a (128 * lineOf pa) false d :: s.out }) ∧
  (∀ (p q : List CohMsg) (a pa : Nat) (d : LineData) (part : Option Nat) (u s : State), a < 62 →
    Arrived s u (.placedata a (lineOf pa) false d) p q → (∀ k v, .placedata a (lineOf pa) k v ∉ p) →
    part = (entAt s (lineOf pa)).bind (fun e => e.req.bind fun r => r.part) →
    exec (.placedata a pa) s = .next (if declines u a (lineOf pa) part false then say (.placeack a (lineOf pa) false) u
      else say (.placeack a (lineOf pa) true)
        (agentFill a (lineOf pa) (agentMask u a 2 part) ⟨.s, d, false, part, 0⟩ u).2)) ∧
  (∀ (a pa : Nat) (x : ALine) (v s : State), isGroup a = true → lineAt s a (lineOf pa) = some x → vacRoom s a (lineOf pa) = true →
    wbAt s a (lineOf pa) = none → openReq s a (lineOf pa) = false → pathHeld s (unitWin a) (homeWin (lineOf pa)) = false →
    dirtySt x.st = true → (∀ w, .vac (lineOf pa) w ∈ s.coh.net → w.agent ≠ a) →
    v = { lineDrop a (lineOf pa) s with coh := { (lineDrop a (lineOf pa) s).coh with wb := (a, lineOf pa, x) :: s.coh.wb } } →
    exec (.vacdata a pa) s = .next (vacHear a (lineOf pa) (say (.vac (lineOf pa) ⟨a, true, x.data, x.poison, x.part⟩) v)) ∧
    (s.coh.net = [] → exec (.vacdata a pa) s = .next (vacArrive (lineOf pa) ⟨a, true, x.data, x.poison, x.part⟩ v))) ∧
  (∀ (a pa : Nat) (x : ALine) (v s : State), isGroup a = true → lineAt s a (lineOf pa) = some x → vacRoom s a (lineOf pa) = true →
    wbAt s a (lineOf pa) = none → openReq s a (lineOf pa) = false → pathHeld s (unitWin a) (homeWin (lineOf pa)) = false → x.st = .e →
    (∀ w, .vac (lineOf pa) w ∈ s.coh.net → w.agent ≠ a) →
    v = { lineDrop a (lineOf pa) s with coh := { (lineDrop a (lineOf pa) s).coh with wb := (a, lineOf pa, { x with st := .s }) :: s.coh.wb } } →
    exec (.vacclean a pa) s = .next (vacHear a (lineOf pa) (say (.vac (lineOf pa) ⟨a, false, x.data, x.poison, x.part⟩) v)) ∧
    (s.coh.net = [] → exec (.vacclean a pa) s = .next (vacArrive (lineOf pa) ⟨a, false, x.data, x.poison, x.part⟩ v))) ∧
  (∀ (p q : List CohMsg) (pa : Nat) (w : Vac) (u s : State), w.agent < 62 → Arrived s u (.vac (lineOf pa) w) p q →
    (∀ x, .vac (lineOf pa) x ∈ p → x.agent ≠ w.agent) →
    vacHear w.agent (lineOf pa) s = vacArrive (lineOf pa) w u ∧
    (w.full = true → exec (.vacdata w.agent pa) s = .next (vacArrive (lineOf pa) w u)) ∧
    (w.full = false → exec (.vacclean w.agent pa) s = .next (vacArrive (lineOf pa) w u))) ∧
  (∀ (p q : List CohMsg) (a pa : Nat) (u s : State), a < 62 → Arrived s u (.vacack a (lineOf pa)) p q → .vacack a (lineOf pa) ∉ p →
    exec (.vacack a pa) s = .next { u with coh := { u.coh with
      wb := s.coh.wb.filter fun e => !(decide (e.1 = a) && decide (e.2.1 = lineOf pa)) } }) ∧
  (∀ (a pa : Nat) (s : State), a < 62 → (∀ x, lineAt s a (lineOf pa) = some x → x.st = .s) →
    (∀ w, .vac (lineOf pa) w ∈ s.coh.net → w.agent ≠ a) →
    exec (.vacdata a pa) s = .next s ∧ exec (.vacclean a pa) s = .next s)

/-! Optical ports -/

/-- R328 to R334: the symbols that the lanes bring are decoded; a codeword that does not decode is answered with NAK. Corrected symbols are counted. A
numbered codeword out of order is dropped; in order its bytes join the stream, whose whole packets are delivered and their space returned; an unnumbered
one has the effect of the sideband message it carries. ACK and NAK free the codewords they name, NAK sends the rest again and counts them; CREDIT adds what
it returns; the port's own messages carry its counts.
Says that these commands complete: codewordReceive, codewordUncorrectable, sbIdle, sbAck, sbNak, sbCredit, ackSend, creditSend, stateSend. -/
def Obligations.CodewordsAndSidebandMessages : Prop :=
  (∀ (n num : Nat) (lanes : List (List Nat)) (w : Bool) (fl : List (Nat × Bool)) (s : State), n < 24 →
    ((hearing (portAt s n) = false ∨ behindMarker s n = true) →
      exec (.codewordReceive n lanes num w fl) s = .next (setFlaws [] s)) ∧
    (hearing (portAt s n) = true → behindMarker s n = false → rsDecode (laneJoin lanes) = none →
      exec (.codewordReceive n lanes num w fl) s =
        .next (setFlaws [] (emitSideband n 2 (lastNum (portAt s n)) (portPut s n { portAt s n with nakOut := true }))))) ∧
  (∀ (n num : Nat) (lanes : List (List Nat)) (fl : List (Nat × Bool)) (word places : List Nat) (c : Codeword) (p : Port) (t v s : State),
    n < 24 → hearing (portAt s n) = true → behindMarker s n = false → rsDecode (laneJoin lanes) = some (word, places) → c = codewordOf word →
    t = resendFailed (setFlaws fl s) (addLanes n places (bumpObj 0x3601 (n + 1) 64 places.length (setFlaws fl s))) → p = portAt t n →
    v = portPut t n { p with rxNum := (p.rxNum + 1) % 65536, nakOut := false, stream := p.stream ++ c.bytes } →
    (c.numbered = false → exec (.codewordReceive n lanes num false fl) s = .next (setFlaws [] (takeStream n (sidebandEffect n c t)))) ∧
    (c.numbered = true → num % 65536 ≠ p.rxNum → exec (.codewordReceive n lanes num false fl) s = .next (setFlaws [] t)) ∧
    (c.numbered = true → num % 65536 = p.rxNum →
      exec (.codewordReceive n lanes num false fl) s = .next (setFlaws [] (takeStream n (sidebandEffect n c (takeStream n v)))))) ∧
  (∀ (n : Nat) (t s : State), (portUp s n = false → takeStream n s = s) ∧
    (portUp s n = true → takePackets ((portAt s n).stream.length + 1) n false s = ([], t) → takeStream n s = t)) ∧
  (∀ (f n : Nat) (h : BitVec 256) (d r : List Byte) (p : Port) (s : State), p = portAt s n →
    cutStream p.stream = some (h, d, r) → 1 ≤ hType h → hType h ≤ 10 → (hdrClass h = 0 → packetWaits s n h = false) →
    takePackets (f + 1) n false s = takePackets f n false (deliverPacket n h d (portPut s n { p with
      stream := r, changed := lset p.changed (hdrClass h) true
      returned := lset p.returned (hdrClass h) ((p.returned.getD (hdrClass h) 0 + pktUnits d) % 2 ^ 14) }))) ∧
  (∀ (n v : Nat) (s : State), n < 24 →
    exec (.sbAck n v) s = .next (sidebandEffect n { kind := 1, value := v } s) ∧
    exec (.sbNak n v) s = .next (sidebandEffect n { kind := 2, value := v } s) ∧
    exec (.sbCredit n v) s = .next (sidebandEffect n { kind := 3, value := v } s) ∧
    exec (.sbState n v) s = .next (takeStream n (sidebandEffect n { kind := 4, value := v } s)) ∧
    exec (.sbGoingDown n v) s = .next (sidebandEffect n { kind := 5, value := v } s) ∧
    exec (.sbChipEvt n v) s = .next (sidebandEffect n { kind := 7, value := v } s)) ∧
  (∀ (n : Nat) (s : State), n < 24 → hearing (portAt s n) = true →
    exec (.codewordUncorrectable n) s =
      .next (emitSideband n 2 (lastNum (portAt s n)) (portPut s n { portAt s n with nakOut := true }))) ∧
  (∀ (n : Nat) (s : State), n < 24 → exec (.sbIdle n) s = .next s) ∧
  (∀ (n v k : Nat) (p q : Port) (s : State), n < 24 → p = portAt s n → hearing p = true → ackFits p v = true → p.queued = [] →
    k = (v % 65536 + 1 + 65536 - p.acked) % 65536 →
    q = { p with acked := (v + 1) % 65536, replay := p.replay.drop k, sent := p.sent.filter fun e => decide (k ≤ (e.1 + 65536 - p.acked) % 65536) } →
    exec (.sbAck n v) s = .next (portPut s n q) ∧
    exec (.sbNak n v) s =
      .next (q.replay.foldl (fun t c => emitWord n c t) (bumpObj 0x3602 (n + 1) 64 (unacked q) (portPut s n q)))) ∧
  (∀ (n v : Nat) (s : State), n < 24 → (hearing (portAt s n) = false ∨ ackFits (portAt s n) v = false) →
    exec (.sbAck n v) s = .next s ∧ exec (.sbNak n v) s = .next s) ∧
  (∀ (n c k : Nat) (p : Port) (s : State), n < 24 → p = portAt s n → hearing p = true → c < 3 → k < 2 ^ 14 →
    exec (.sbCredit n (2 ^ 14 * c + k)) s = .next (flushPort n (portPut s n { p with
      credit := lset p.credit c (p.credit.getD c 0 + (k + 2 ^ 14 - p.credIn.getD c 0) % 2 ^ 14), credIn := lset p.credIn c k }))) ∧
  (∀ (n : Nat) (s : State), n < 24 → hearing (portAt s n) = true →
    exec (.ackSend n) s = .next (emitSideband n (if (portAt s n).nakOut then 2 else 1) (lastNum (portAt s n)) s)) ∧
  (∀ (n c : Nat) (p : Port) (s : State), n < 24 → p = portAt s n → c < 3 → hearing p = true → p.changed.getD c false = true →
    exec (.creditSend n c) s =
      .next (emitSideband n 3 (2 ^ 14 * c + p.returned.getD c 0) (portPut s n { p with changed := lset p.changed c false }))) ∧
  (∀ (n i : Nat) (s : State), n < 24 → i < 4 → hearing (portAt s n) = true →
    exec (.stateSend n i) s = .next (emitSideband n 4 (2 ^ 14 * i + stateField s n i) s)) ∧
  (∀ (n k v : Nat) (s : State), emitSideband n k v s = { s with out := .codeword n ((portAt s n).tx.lanes.zip
    (laneCut (portAt s n).tx.lanes.length (rsEncode (codewordData { numbered := false, kind := k, value := v, bytes := [] })))) :: s.out })

/-- R335 to R338, R344, R362 to R368: a port trains with the role its objects hold, on 8 or on 4 of its lanes, enters service once its peer's STATE agrees,
and is set aside where it does not; heartbeat loss takes it out; a neighbour that goes down, or that no plane reaches, is lost, and every lost chip is
marked. The 4,096 units of each receive buffer returned at training are the model's reading (log 121).
Says that these commands complete: portTrainAttempt, portTrainingComplete, sbState, portHeartbeatLoss, sbGoingDown, sbChipEvt. -/
def Obligations.PortsTrainServeAndFail : Prop :=
  (∀ (n : Nat) (t s : State), n < 24 → portPresent s n = true → s.chips.slotOk = true → s.boot.phase = .running →
    ((portAt s n).state = 1 ∨ (portAt s n).state = 5 ∨ (portAt s n).state = 6) →
    t = (if (portAt s n).role = 2 ∧ (portAt s n).state ≠ 6 then forgetPlane (portAt s n).peerId s else s) →
    exec (.portTrainAttempt n) s = .next (scRaise 7 0 (portPut t n { (if oget s 0x2401 (n + 1) = 0 then ({} : Port)
      else { state := 2, role := oget s 0x2401 (n + 1), peerId := oget s 0x2402 (n + 1) }) with told := (portAt s n).told }))) ∧
  (∀ (n k : Nat) (fx fr : List Nat) (s : State), n < 24 → (portAt s n).state = 2 → (portAt s n).tx.lanes = [] →
    k = min (healthy (trainedSide 9 fx)) (healthy (trainedSide 9 fr)) →
    (k < 4 → exec (.portTrainingComplete n fx fr) s = .next (portPut s n { portAt s n with state := 1 })) ∧
    (4 ≤ k → exec (.portTrainingComplete n fx fr) s = .next (portPut s n { portAt s n with
      tx := trainedLanes (if 8 ≤ k then 8 else 4) fx, rx := trainedLanes (if 8 ≤ k then 8 else 4) fr, limit := oget s 0x2121 1
      returned := [4096, 4096, 4096], changed := [true, true, true] }))) ∧
  (∀ (n i v : Nat) (p : Port) (s : State), n < 24 → hearing (portAt s n) = true → (portAt s n).role = 2 → i = bitsOf 15 14 v →
    p = { portAt s n with
      peer := lset (portAt s n).peer i (bitsOf 13 0 v), told := lset (portAt s n).told i (bitsOf 13 0 v), seen := lset (portAt s n).seen i true } →
    ((p.seen.getD 0 false && p.seen.getD 1 false) = false →
      exec (.sbState n v) s = .next (takeStream n (unrouted (seenVia (portPut s n p))))) ∧
    (p.seen.getD 0 false = true → p.seen.getD 1 false = true → stateAgrees s p = true → planeTaken (portPut s n p) n = false →
      exec (.sbState n v) s = .next (takeStream n (unrouted (seenVia (if portInService p then portPut s n p
        else scRaise 7 0 (portPut (portPut s n p) n { p with state := trainedState p })))))) ∧
    (p.seen.getD 0 false = true → p.seen.getD 1 false = true → (stateAgrees s p = false ∨ planeTaken (portPut s n p) n = true) → p.state ≠ 6 →
      exec (.sbState n v) s = .next (takeStream n (unrouted (seenVia (peerIncarnation n (portOut n 6 (portPut s n p))))))) ∧
    (p.seen.getD 0 false = true → p.seen.getD 1 false = true → (stateAgrees s p = false ∨ planeTaken (portPut s n p) n = true) → p.state = 6 →
      exec (.sbState n v) s = .next (takeStream n (unrouted (seenVia (portPut s n p)))))) ∧
  (∀ (n b v : Nat) (p : Port) (s : State), n < 24 → hearing (portAt s n) = true → (portAt s n).role = 1 → bitsOf 15 14 v = 1 →
    p = { portAt s n with
      peer := lset (portAt s n).peer 1 (bitsOf 13 0 v), told := lset (portAt s n).told 1 (bitsOf 13 0 v), seen := lset (portAt s n).seen 1 true } →
    p.seen.getD 0 false = true → p.seen.getD 1 false = true → p.seen.getD 2 false = false → stateAgrees s p = true → portInService p = false →
    b = peerChip s p → chipLost s b = false →
    exec (.sbState n v) s = .next (takeStream n (unrouted (seenVia
      (chipReturn b (scRaise 7 0 (portPut (portPut s n p) n { p with state := trainedState p }))))))) ∧
  (∀ (n : Nat) (p : Port) (s : State), n < 24 → p = portAt s n → portUp s n = true → p.role = 2 → p.retraining = false →
    exec (.portHeartbeatLoss n) s = .next (portOut n 1 (portPut s n { p with lostAt := some (now s) }))) ∧
  (∀ (n st : Nat) (s : State), portOut n st s = resendFailed s (scRaise 7 0 (portPut s n { portAt s n with
    state := st, retraining := false, replacing := none, queue := [] }))) ∧
  (∀ (t s : State), resendFailed s t = if planesUp s = planesUp (unrouted (resendPorts t)) then unrouted (resendPorts t)
    else planesJudge (unrouted (resendPorts t))) ∧
  (∀ (n : Nat) (s : State), n < 24 → portUp s n = false → exec (.portHeartbeatLoss n) s = .next s) ∧
  (∀ (n r b : Nat) (p : Port) (s : State), n < 24 → p = portAt s n → hearing p = true → portSender s p = some b →
    (∀ m < 24, (portAt s m).retraining = true → portSender s (portAt s m) ≠ some b) →
    exec (.sbGoingDown n r) s = .next (unrouted (settleAll (retireReqs (chipGone b (r % 256) s))))) ∧
  (∀ (p : Port) (s : State),
    (p.seen.getD 0 false = true → bitsOf 11 0 (p.peer.getD 0 0) ≠ 0xFFF → portSender s p = some (bitsOf 11 0 (p.peer.getD 0 0))) ∧
    (p.seen.getD 0 false = false → p.role = 1 → portSender s p = some (peerChip s p))) ∧
  (∀ (n r : Nat) (s : State), n < 24 → (hearing (portAt s n) = false ∨ portSender s (portAt s n) = none) →
    exec (.sbGoingDown n r) s = .next s) ∧
  (∀ (n v : Nat) (p : Port) (s : State), n < 24 → p = portAt s n → portUp s n = true → p.role = 2 → p.peerId ≤ 3 →
    (v.testBit 15 = true → exec (.sbChipEvt n v) s = .next (chipReturn (bitsOf 11 0 v) (setPlane (bitsOf 11 0 v) p.peerId true s))) ∧
    (v.testBit 15 = false → v.testBit 14 = true →
      exec (.sbChipEvt n v) s =
        .next (unrouted (settleAll (retireReqs (chipGone (bitsOf 11 0 v) 0 (setPlane (bitsOf 11 0 v) p.peerId false s)))))) ∧
    (v.testBit 15 = false → v.testBit 14 = false →
      exec (.sbChipEvt n v) s = .next (planesJudge (unrouted (resendPorts (setPlane (bitsOf 11 0 v) p.peerId false s)))))) ∧
  (∀ (b r : Nat) (s : State), b ≠ s.chips.chipId → chipLost s b = false → chipLost (chipGone b r s) b = true) ∧
  (∀ (b : Nat) (s : State), chipLost s b = true → chipMark (chipReturn b s) b = 1)

/-! Packets -/

/-- R333, R342, R345 to R348, R353 to R356: a packet for this E9 is served: a read answers the bytes, a write stores them and may post to a baton, an error
answers its code and is logged; a completion frees the core that waits or joins its transfer, an acknowledgement settles its command's packet; a packet
that does not arrive here, or comes from a lost chip, leaves the state. Says that these commands complete: winRd, winWr, winCpl, put, putAck, get, getData,
unreachable. -/
def Obligations.PacketsAreServedAndAnswered : Prop :=
  (∀ (n : Nat) (h : BitVec 256) (d : List Byte) (fl : List (Nat × Bool)) (s : State), n < 24 →
    (arrives s n h 1 = false → exec (.winRd n h fl) s = .next (setFlaws [] s)) ∧
    (arrives s n h 2 = false → exec (.winWr n h d fl) s = .next (setFlaws [] s)) ∧
    (arrives s n h 3 = false → exec (.winCpl n h d) s = .next s) ∧
    (arrives s n h 4 = false → exec (.put n h d fl) s = .next (setFlaws [] s)) ∧
    (arrives s n h 5 = false → exec (.putAck n h) s = .next s) ∧
    (arrives s n h 6 = false → exec (.get n h fl) s = .next (setFlaws [] s)) ∧
    (arrives s n h 7 = false → exec (.getData n h d fl) s = .next (setFlaws [] s))) ∧
  (∀ (n : Nat) (h : BitVec 256) (l : List Byte) (fl : List (Nat × Bool)) (t s : State), n < 24 →
    offsetError s (portPart s n) false (hOff h) (hLen h) = none → packetWaits s n h = false →
    pageRead (portReq n) (portPart s n) 0 false (lineSpans (hOff h) (hLen h)) (setFlaws fl s) = (.ok l, t) →
    (arrives s n h 1 = true → exec (.winRd n h fl) s = .next (setFlaws [] (answer h 3 0 l t))) ∧
    (arrives s n h 6 = true → exec (.get n h fl) s = .next (setFlaws [] (answer h 7 0 l t)))) ∧
  (∀ (n ln : Nat) (h : BitVec 256) (x : LlcLine) (fl : List (Nat × Bool)) (s : State), n < 24 → ln = lineOf (hOff h) →
    offsetError s (portPart s n) false (hOff h) (hLen h) = none → 0 < hLen h → hOff h % 128 + hLen h ≤ 128 → entAt s ln = none →
    packetWaits s n h = false → aget s.mem.llc ln = some x → x.poison = false → arrives s n h 1 = true →
    exec (.winRd n h fl) s = .next (setFlaws [] (answer h 3 0 (lineCut x.data (hOff h % 128) (hLen h))
      (llcTouch (lineHome ln) (lineSet ln) x.way (setFlaws fl s))))) ∧
  (∀ (n c pa : Nat) (h : BitVec 256) (fl : List (Nat × Bool)) (s : State), n < 24 →
    offsetError s (portPart s n) false (hOff h) (hLen h) = some (c, pa) →
    (arrives s n h 1 = true → exec (.winRd n h fl) s = .next (setFlaws [] (answer h 3 c [] (memErr c pa (portReq n) (setFlaws fl s))))) ∧
    (arrives s n h 6 = true → exec (.get n h fl) s = .next (setFlaws [] (answer h 7 c [] (memErr c pa (portReq n) (setFlaws fl s)))))) ∧
  (∀ (n c : Nat) (h : BitVec 256) (d : List Byte) (fl : List (Nat × Bool)) (t s : State), n < 24 → d.length = hLen h → packetWaits s n h = false →
    (arrives s n h 2 = true → serveWrite (portReq n) (portPart s n) (0, 0) (hOff h) (h.getLsbD 144) d (setFlaws fl s) = (c, t) →
      exec (.winWr n h d fl) s = .next (setFlaws [] (answer h 3 c [] t))) ∧
    (arrives s n h 4 = true → serveWrite (portReq n) (portPart s n) (hfield h 113 112, hfield h 119 114) (hOff h) false d (setFlaws fl s) = (c, t) →
      (c ≠ 0 ∨ h.getLsbD 143 = false) → exec (.put n h d fl) s = .next (setFlaws [] (answer h 5 c [] t))) ∧
    (arrives s n h 4 = true → serveWrite (portReq n) (portPart s n) (hfield h 113 112, hfield h 119 114) (hOff h) false d (setFlaws fl s) = (0, t) →
      h.getLsbD 143 = true → hfield h 140 128 < oget t 0x2400 4 →
      exec (.put n h d fl) s = .next (setFlaws [] (answer h 5 0x10 [] t)))) ∧
  (∀ (n : Nat) (h : BitVec 256) (d : List Byte) (fl : List (Nat × Bool)) (s : State), n < 24 → packetWaits s n h = true → d.length = hLen h →
    (arrives s n h 1 = true → exec (.winRd n h fl) s = .next (setFlaws [] (packetNacked n h (setFlaws fl s)))) ∧
    (arrives s n h 2 = true → exec (.winWr n h d fl) s = .next (setFlaws [] (packetNacked n h (setFlaws fl s)))) ∧
    (arrives s n h 4 = true → exec (.put n h d fl) s = .next (setFlaws [] (packetNacked n h (setFlaws fl s)))) ∧
    (arrives s n h 6 = true → exec (.get n h fl) s = .next (setFlaws [] (packetNacked n h (setFlaws fl s))))) ∧
  (∀ (who : Requester) (part : Option Nat) (hint : Nat × Nat) (off : Nat) (half : Bool) (l : List Byte) (t s : State), who.kind = 4 →
    offsetError s part true off l.length = none → l ≠ [] → off % 128 + l.length ≤ 128 → lineShut s (lineOf off) = false →
    lineCrossed s (unitOf who) false (lineOf off) = false →
    putNow part hint.1 hint.2 (lineOf off) (runMask (off % 128) half l) (runLine (off % 128) l) s = (none, t) →
    serveWrite who part hint off half l s = (0, t)) ∧
  (∀ (n : Nat) (h : BitVec 256) (d : List Byte) (p : Pend) (t s : State), n < 24 → arrives s n h 3 = true →
    pendOf s (hTag h) = some p → hStatus h = 0 → t = dropPend p.tag s →
    (p.kind = 0 → exec (.winCpl n h d) s = .next (emit (.readData p.pa (loadedValue p.rd p.len d))
      (corePut t p.ac (landLoad p.rd (d.take p.len) { coreAt t p.ac with waits := none })))) ∧
    (p.kind = 1 → exec (.winCpl n h d) s = .next (corePut t p.ac { coreAt t p.ac with waits := none })) ∧
    ((p.kind = 4 ∨ p.kind = 5) → exec (.winCpl n h d) s = .next (noteAnswer p.ac p.rd ⟨p.pa, 0, d⟩ t)) ∧
    ((p.kind = 6 ∨ p.kind = 7) → exec (.winCpl n h d) s = .next t)) ∧
  (∀ (rd : Nat) (l : List Byte) (c : Core), rd < 64 → landLoad rd l c = coreXPut c (rd % 32) (loadedValue rd l.length l)) ∧
  (∀ (n : Nat) (h : BitVec 256) (p : Pend) (d : List Byte) (s : State), n < 24 → arrives s n h 3 = true →
    pendOf s (hTag h) = some p → hStatus h ≠ 0 → isRemote p = false → exec (.winCpl n h d) s = .next (failWindow p 5 s)) ∧
  (∀ (n : Nat) (h : BitVec 256) (p : Pend) (s : State), n < 24 → arrives s n h 5 = true → pendOf s (hTag h) = some p → p.kind = 2 →
    exec (.putAck n h) s = .next (pumpCmd p.rq p.cmd (settlePacket p
      (if hStatus h = 0 then s else rqNote p.rq p.cmd 4 (hStatus h) s)))) ∧
  (∀ (n ctx : Nat) (h : BitVec 256) (d : List Byte) (fl : List (Nat × Bool)) (p : Pend) (c : RCmd) (l : List (Nat × Nat × Bool)) (t u s : State),
    n < 24 → arrives s n h 7 = true → pendOf s (hTag h) = some p → p.kind = 3 → hStatus h = 0 → rqCmd s p.rq p.cmd = some c →
    ctx = rqCtx (rqAt s p.rq) → rcLocalPieces ctx 2 (pageSpans p.va p.len) (setFlaws fl s) = (some l, t) →
    writeAll (portReq n) (some (ctxPart t ctx)) (rcHint c) l d t = (none, u) →
    exec (.getData n h d fl) s = .next (setFlaws [] (pumpCmd p.rq p.cmd (settlePacket p u)))) ∧
  (∀ (n : Nat) (h : BitVec 256) (p : Pend) (s : State), n < 24 → portUp s n = true → behindMarker s n = false → hType h = 10 →
    hDest h = s.chips.chipId →
    (hfield h 203 200 = 1 ∨ hfield h 203 200 = 2 ∨ hfield h 203 200 = 4 ∨ hfield h 203 200 = 6) → pendOf s (hTag h) = some p →
    exec (.unreachable n h) s = .next (if isRemote p then rqNote p.rq p.cmd 2 0 (settlePacket p s) else failWindow p 1 s))

/-- R345, R346, R348, R358 to R360: a core's access to its own slot of the board window is a Look or a PutPlace at the home, one to another slot is sent
and waited for; a Relay packet for a group that does not serve, or of the wrong length, is refused; one that fits brings its node's value, and a forwarded
abort ends the group's rounds here. How an abort is carried between E9s is the model's choice (log 117).
Says that these commands complete: boardWindowAccess, relayUp, relayDown. -/
def Obligations.WindowAccessesAndRelayPackets : Prop :=
  (∀ (ac pa size : Nat) (w : Bool) (v : W64) (fl : List (Nat × Bool)) (s : State), ac < 128 →
    ((acLive s ac && inWindow pa && sizeOk pa size) = false → exec (.boardWindowAccess ac w pa size v fl) s = .next s) ∧
    ((acLive s ac && inWindow pa && sizeOk pa size) = true → rangeWaits s (acReq ac) (partOf s (acReq ac)) (!w) pa size = true →
      exec (.boardWindowAccess ac w pa size v fl) s = .next (nacked (acReq ac) (partOf s (acReq ac)) (!w) pa size s))) ∧
  (∀ (ac pa size off : Nat) (v : W64) (fl : List (Nat × Bool)) (l : List Byte) (part : Option Nat) (x : LlcLine) (u s : State), ac < 128 →
    (acLive s ac && inWindow pa && sizeOk pa size) = true → target s pa = .board (ownSlot s) off →
    part = partOf s (acReq ac) → l = leBytes size v.toNat →
    (rangeError s part true pa size = none → rangeWaits s (acReq ac) part false pa size = false →
      putNow part 0 0 (lineOf off) (runMask (off % 128) false l) (runLine (off % 128) l) (setFlaws fl s) = (none, u) →
      exec (.boardWindowAccess ac true pa size v fl) s = .next (setFlaws [] u)) ∧
    (rangeError s part false pa size = none → rangeWaits s (acReq ac) part true pa size = false →
      entAt s (lineOf off) = none → aget s.mem.llc (lineOf off) = some x → x.poison = false →
      u = llcTouch (lineHome (lineOf off)) (lineSet (lineOf off)) x.way (setFlaws [] s) →
      exec (.boardWindowAccess ac false pa size v fl) s = .next { corePut u ac (coreAt s ac) with
        out := .readData pa (loadedValue 0 size (lineCut x.data (off % 128) size)) :: s.out })) ∧
  (∀ (ac pa size off k : Nat) (v : W64) (fl : List (Nat × Bool)) (p : Pend) (q : Nat × State) (s : State), ac < 128 →
    (acLive s ac && inWindow pa && sizeOk pa size) = true → target s pa = .board k off → k ≠ ownSlot s →
    (rangeError s (partOf s (acReq ac)) true pa size = none → rangeWaits s (acReq ac) (partOf s (acReq ac)) false pa size = false →
      p = windowPend s 1 k off size pa ac 0 →
      q = request p (fun tag => winWrHdr s (chipOfSlot s k) off size tag false) (leBytes size v.toNat) (setFlaws fl s) →
      exec (.boardWindowAccess ac true pa size v fl) s = .next (setFlaws [] (corePut q.2 ac { coreAt q.2 ac with waits := some q.1 }))) ∧
    (rangeError s (partOf s (acReq ac)) false pa size = none → rangeWaits s (acReq ac) (partOf s (acReq ac)) true pa size = false →
      p = windowPend s 0 k off size pa ac 0 →
      q = request p (winRdHdr s (chipOfSlot s k) off size) [] (setFlaws fl s) →
      exec (.boardWindowAccess ac false pa size v fl) s = .next (setFlaws [] (corePut q.2 ac { coreAt q.2 ac with waits := some q.1 })))) ∧
  (∀ (p : Pend) (hdr : Nat → BitVec 256) (d : List Byte) (n tag : Nat) (t s : State), tag = freeTag s s.chips.pend.length s.chips.tag →
    t = { s with chips := { s.chips with tag := (tag + 1) % 65536, pend := s.chips.pend ++ [{ p with tag := tag, port := n }] } } →
    portFor s p.chip (offHash p.off) = some n → clashes s.chips.pend p n = false →
    request p hdr d s = (tag, pushPacket n (hdr tag) d t)) ∧
  (∀ (n : Nat) (h : BitVec 256) (d : List Byte) (g : Nat) (s : State), n < 24 → g = hOff h % 1024 → relayServes s g = false →
    (arrives s n h 8 = true → exec (.relayUp n h d) s = .next (settleAll (shadowGroup n g s (relayRefuse g (hSrc h) s)))) ∧
    (arrives s n h 9 = true → hStatus h ≠ 5 →
      exec (.relayDown n h d) s = .next (settleAll (shadowGroup n g s (relayRefuse g (hSrc h) s))))) ∧
  (∀ (n src : Nat) (s : State), relayServes s n = true → gState (groupAt s n) ≠ 2 →
    relayRefuse n src s = spreadAbort n (groupAt s n) (endRounds n 4 s)) ∧
  (∀ (n : Nat) (h : BitVec 256) (d : List Byte) (g : Nat) (s : State), n < 24 → g = hOff h % 1024 → arrives s n h 9 = true → hStatus h = 5 →
    exec (.relayDown n h d) s = .next (settleAll (shadowGroup n g s (groupAborted g s)))) ∧
  (∀ (n : Nat) (h : BitVec 256) (d : List Byte) (g : Nat) (u s : State), n < 24 → g = hOff h % 1024 → relayServes s g = true →
    gState (groupAt s g) ≠ 2 → (groupAt s g).ground ≤ roundOf (groupAt s g) h →
    (arrives s n h 8 = true → gKind (groupAt s g) ≠ 4 →
      nodeArrives g (roundOf (groupAt s g) h) (hLevel h) (arrivingNode s g (hSrc h) (hLevel h)) d s = some u →
      exec (.relayUp n h d) s = .next (settleAll (shadowGroup n g s u))) ∧
    (arrives s n h 9 = true → hStatus h ≠ 5 → hDest h ≠ 0xFFF →
      nodeArrives g (roundOf (groupAt s g) h) (treeLevels (gN (groupAt s g))) 0 d s = some u →
      exec (.relayDown n h d) s = .next (settleAll (shadowGroup n g s u))))

/-! Remote queues -/

/-- R349 to R354, R357: a valid doorbell moves the tail, an invalid one parks; RESUME and SKIP; CFG enables a queue for an enabled context with its
indices 0; commands are read by generation, started in order, and completed when nothing of them is in flight.
Says that these commands complete: rqDoorbell, rqResume, rqSkip, rqCfgWrite, rqCommandRead, rqCommandStart, rqCommandComplete. -/
def Obligations.RemoteQueuesRunTheirCommands : Prop :=
  (∀ (n : Nat) (v : W64) (r : RQueue) (p : W32) (s : State), n < 256 → r = rqAt s n → p = v.truncate 32 → rqLive s n = true →
    fld 63 48 v = 0 → fld 47 32 v = rqGen r (p - 1) → (p - r.tail).toNat < 2 ^ 31 → (p - r.done).toNat ≤ 2 ^ rqLog r →
    exec (.rqDoorbell n v) s = .next (rqPut s n { r with tail := p })) ∧
  (∀ (n : Nat) (v : W64) (s : State), n < 256 → rqLive s n = true → fld 63 48 v ≠ 0 →
    exec (.rqDoorbell n v) s = .next (parkRq n 2 (rqAt s n).read s)) ∧
  (∀ (n : Nat) (v : W64) (fl : List (Nat × Bool)) (s : State), n < 256 → rqLive s n = false → exec (.rqDoorbell n v) s = .next s ∧
    exec (.rqResume n) s = .next s ∧ exec (.rqSkip n) s = .next s ∧ exec (.rqCommandRead n fl) s = .next (setFlaws [] s) ∧
    exec (.rqCommandStart n fl) s = .next (setFlaws [] s)) ∧
  (∀ (n : Nat) (s : State), n < 256 → rqLive s n = true → (rqAt s n).status ≠ 0 → (rqAt s n).status ≠ 4 →
    exec (.rqResume n) s = .next (rqPut s n { rqAt s n with status := 0, rereads := 0 })) ∧
  (∀ (n : Nat) (r : RQueue) (s : State), n < 256 → r = rqAt s n → rqLive s n = true → r.status ≠ 0 → r.status ≠ 4 → r.read ≠ r.tail →
    exec (.rqSkip n) s = .next (rqFinish n r.read (rqPut (rqPut s n { r with status := 0, rereads := 0 }) n { r with
      status := 0, rereads := 0, read := r.read + 1, cmds := r.cmds ++ [{ idx := r.read, words := [], status := 1, detail := 0x11 }] }))) ∧
  (∀ (n : Nat) (v c : W64) (s : State), n < 256 → rqEn (rqAt s n) = false → c = maskWrite 0xF3FFF0000 (rqAt s n).cfg v →
    exec (.rqCfgWrite n v) s = .next (rqPut s n (if bit 0 v && ctxEnabled s (fld 29 16 c) then { rqAt s n with
        cfg := setFld 0 0 1 c, tail := 0, read := 0, done := 0, doneAhead := [], cmds := [], status := 0, rereads := 0 }
      else { rqAt s n with cfg := c }))) ∧
  (∀ (n : Nat) (r : RQueue) (l : List Byte) (fl : List (Nat × Bool)) (u s : State), n < 256 → r = rqAt s n → rqLive s n = true → r.status = 0 →
    r.read ≠ r.tail → r.cmds.length < 64 → issuing s = true →
    rangeWaits s (subReq none) (some (ctxPart s (rqCtx r))) true (rqAddr r r.read) 64 = false → memRead (subReq none) (some (ctxPart s (rqCtx r))) (rqAddr r r.read) 64 (setFlaws fl s) = (.ok l, u) →
    (fld 15 0 ((wordsOf l 8).getD 0 0) = rqGen r r.read → exec (.rqCommandRead n fl) s = .next (setFlaws [] (acceptCmd n (wordsOf l 8) u))) ∧
    (fld 15 0 ((wordsOf l 8).getD 0 0) ≠ rqGen r r.read → r.rereads < 8 →
      exec (.rqCommandRead n fl) s = .next (setFlaws [] (rqPut u n { r with rereads := r.rereads + 1 }))) ∧
    (fld 15 0 ((wordsOf l 8).getD 0 0) ≠ rqGen r r.read → 8 ≤ r.rereads →
      exec (.rqCommandRead n fl) s = .next (setFlaws [] (parkRq n 1 r.read u)))) ∧
  (∀ (n : Nat) (c : RCmd) (fl : List (Nat × Bool)) (s : State), n < 256 → rqLive s n = true →
    (∀ d ∈ (rqAt s n).cmds, ¬(d.started = true ∧ d.status = 0 ∧ d.sent < rcLen d ∧ d.packets = [])) → nextStart (rqAt s n) = some c →
    exec (.rqCommandStart n fl) s =
      .next (setFlaws [] (pumpCmd n c.idx (rqMod n c.idx (fun x => { x with started := true }) (setFlaws fl s))))) ∧
  (∀ (n : Nat) (c : RCmd) (s : State), n < 256 → (rqAt s n).cmds.find? rqEnded = some c →
    exec (.rqCommandComplete n) s = .next (rqFinish n c.idx s)) ∧
  (∀ (n : Nat) (s : State), n < 256 → (∀ c ∈ (rqAt s n).cmds, rqEnded c = false) → exec (.rqCommandComplete n) s = .next s)

/-! Application cores -/

/-- R260, R302, R311, R345, R372 to R376, R475: an instruction of a running core, and what each form does: a load, a store, an atomic, a fetch, an integer
operation, a CSR access, an environment call, a return and a breakpoint, each with the pc advanced; an access without a target or misaligned traps. A trap
in machine mode saves the pc, the cause and the status, and goes to the handler; its layout is the RISC-V privileged architecture's, and results of
floating-point and vector arithmetic are free (log 21, log 22, log 144). A store in a line that the core's group holds takes effect in that copy, which
becomes M. A store-conditional without its reservation, or whose group has lost the line, fails; with it, whether it succeeds is free (log 23). Whether a
copy in the core's instruction cache is still there is free. A fence of the core's own TLB removes what it names.
R374, R376, R390: a write of an interrupt file makes its identity pending once, and no other; a timer interrupt finds mtime at or past the hart's
compare value. How far mtime has run is free (log 24). Says that these commands complete: acInstruction in every form, cboClean, cboInval, cboFlush,
cboZero, fenceI, imsicSeteipnum, mtimerInterrupt. -/
def Obligations.ApplicationCoresRunAndAreInterrupted : Prop :=
  (∀ (ac : Nat) (z : Bool) (op : AcOp) (fl : List (Nat × Bool)) (r : Bool) (pa k : Nat) (s : State), ac < 128 →
    ((acLive s ac && acOpOk op) = false → exec (.acInstruction ac z op fl) s = .next s) ∧
    (acLive s ac = true → acOpOk op = true → acAccess op = some (r, pa, k) → acWaits s ac r pa k = true →
      exec (.acInstruction ac z op fl) s = .next (nacked (acReq ac) (acPart s ac) r pa k s))) ∧
  (∀ (ac : Nat) (z : Bool) (op : AcOp) (fl : List (Nat × Bool)) (s : State), ac < 128 → acRuns s ac op = true →
    exec (.acInstruction ac z op fl) s =
      .next (setFlaws [] (acStepped ac (acEffect ac z op (corePut (setFlaws fl s) ac (acDirty op (coreAt s ac))))))) ∧
  (∀ (ac pa k n : Nat) (z : Bool) (op : AcOp) (fl : List (Nat × Bool)) (h s : State), ac < 128 → acLive s ac = true → acOpOk op = true →
    acOpWaits s ac op = false → h = corePut (setFlaws fl s) ac { coreAt s ac with insn := (coreAt s ac).pc } →
    (acOff (coreAt s ac) op = true →
      exec (.acInstruction ac z op fl) s =
        .next (setFlaws [] (acStepped ac (takeTrap ac 2 (Config.free s.fresh) { h with fresh := s.fresh + 1 })))) ∧
    (acOff (coreAt s ac) op = false → acNeeds op = some (k, pa, n) → pmpOk (coreAt s ac) k pa n = false →
      exec (.acInstruction ac z op fl) s = .next (setFlaws [] (acStepped ac (acTrap ac pa (k.testBit 2) (k.testBit 1) h))))) ∧
  (∀ (ac : Nat) (s : State), ((coreAt s ac).dcsr.getLsbD 2 = false → acStepped ac s = s) ∧
    ((coreAt s ac).dcsr.getLsbD 2 = true → (coreAt s ac).halted = false →
      acStepped ac s = corePut s ac { coreAt s ac with halted := true, dcsr := dcsrCause 4 (coreAt s ac).dcsr })) ∧
  (∀ (ac len : Nat) (s : State), acNext ac len s =
    corePut s ac { coreAt s ac with pc := (coreAt s ac).pc + BitVec.ofNat 64 len, insn := (coreAt s ac).pc }) ∧
  (∀ (ac pa size k x : Nat) (z sg : Bool) (rd rs2 : BitVec 5) (l : List Byte) (v : W64) (n u s : State),
    target s pa = .hbm k → pa < 6 * tileSize → x = rd.toNat + (if sg then 32 else 0) → n = acNext ac (if z then 2 else 4) s →
    (rangeError s (acPart s ac) false pa size = none → readLines (acReq ac) (acPart s ac) (lineSpans pa size) n = (.ok l, u) →
      l.length = size → v = loadedValue x size l →
      acEffect ac z (.load rd sg pa size) s = emit (.readData pa v) (corePut u ac (coreXPut (coreAt u ac) rd.toNat v))) ∧
    (∀ fd : BitVec 5, rangeError s (acPart s ac) false pa size = none → readLines (acReq ac) (acPart s ac) (lineSpans pa size) n = (.ok l, u) →
      acEffect ac z (.fLoad fd pa size) s =
        emit (.readData pa (loadedValue (64 + fd.toNat) size l)) (corePut u ac (landLoad (64 + fd.toNat) l (coreAt u ac)))) ∧
    (rangeError s (acPart s ac) true pa size = none →
      acEffect ac z (.store rs2 pa size) s = acPuts ac pa (leBytes size (coreX (coreAt s ac) rs2.toNat).toNat) n)) ∧
  (∀ (ac pa size g ln : Nat) (who : Requester) (part : Option Nat) (x : ALine) (s : State), ac < 128 → who = acReq ac → g = groupAgent ac →
    ln = lineOf pa → 0 < size → pa % 128 + size ≤ 128 → hbmThere s pa = true → lineAt s g ln = some x → x.poison = false →
    readLines who part (lineSpans pa size) s = (.ok (lineCut x.data (pa % 128) size), l2Touch g ln x.way s)) ∧
  (∀ (ac pa g ln : Nat) (l : List Byte) (x : ALine) (m : LineData) (w t s : State), ac < 128 → g = groupAgent ac → ln = lineOf pa → l ≠ [] →
    pa % 128 + l.length ≤ 128 → hbmThere s pa = true → lineAt s g ln = some x →
    (x.st = .m ∨ x.st = .e ∨ (lineShut s ln = false ∧ lineCrossed s g false ln = false)) →
    m = runMask (pa % 128) false l → t = dropResv ac ln s → w = l2Touch g ln x.way (if x.st = .m ∨ x.st = .e then t else promoteNow g ln x t) →
    acPuts ac pa l s = linePut g ln { x with
      st := .m, data := mergeLine m x.data (runLine (pa % 128) l), poison := x.poison && decide (m ≠ wholeMask) } w) ∧
  (∀ (ac pa k : Nat) (z : Bool) (l : List Byte) (h u s : State), target s pa = .hbm k → inWindow pa = false →
    rangeError s (acPart s ac) false pa 4 = none → h = corePut s ac { coreAt s ac with insn := (coreAt s ac).pc } →
    fetchBytes ac (lineSpans pa 4) h = (.ok l, u) →
    acEffect ac z (.fetch pa) s = emit (.readData pa (BitVec.ofNat 64 (leNat l))) u) ∧
  (∀ (ac ln : Nat) (d : LineData) (l : List Byte) (u s : State), aget (coreAt s ac).icache ln = some d →
    readLines (acReq ac) (acPart s ac) [(128 * ln, 128)] { s with fresh := s.fresh + 1 } = (.ok l, u) →
    fetchLine ac ln s = (if bit 0 (Config.free s.fresh) then (.ok d, { s with fresh := s.fresh + 1 })
      else (.ok (lineOfBytes l), corePut u ac { coreAt u ac with
        icache := (ln, lineOfBytes l) :: (coreAt u ac).icache.filter fun e => decide (e.1 ≠ ln) }))) ∧
  (∀ (ac pa size k : Nat) (z sg : Bool) (rd rs2 : BitVec 5) (x : W64) (n s : State),
    (size = 1 ∨ size = 2 ∨ size = 4 ∨ size = 8) → x = coreX (coreAt s ac) rs2.toNat → k = rd.toNat + (if sg then 32 else 0) →
    n = acNext ac (if z then 2 else 4) s →
    (inWindow pa = true → pa % size = 0 →
      acEffect ac z (.load rd sg pa size) s = windowAccess ac false pa size k 0 n ∧
      acEffect ac z (.store rs2 pa size) s = windowAccess ac true pa size 0 (BitVec.ofNat 64 (leNat (leBytes size x.toNat))) n) ∧
    (inWindow pa = true → pa % size ≠ 0 →
      acEffect ac z (.load rd sg pa size) s = acTrap ac pa false false n ∧ acEffect ac z (.store rs2 pa size) s = acTrap ac pa false true n) ∧
    (∀ w o r u, inWindow pa = false → target s pa = .mmio w o → rangeError s (acPart s ac) false pa size = none → regLoad 9 pa size n = (r, u) →
      acEffect ac z (.load rd sg pa size) s = emit (.readData pa (loadedValue k size r)) (corePut u ac (landLoad k r (coreAt u ac)))) ∧
    (∀ w o, inWindow pa = false → target s pa = .mmio w o → rangeError s (acPart s ac) true pa size = none →
      acEffect ac z (.store rs2 pa size) s = regBytes pa (leBytes size x.toNat) n) ∧
    (∀ p tag, inWindow pa = false → target s pa = .host p → rangeError s (acPart s ac) false pa size = none → tag = readTag (pcieAt s p).reads →
      acEffect ac z (.load rd sg pa size) s = { corePut n ac { coreAt n ac with waits := some tag } with
        pcie := tset {} s.pcie p { pcieAt s p with reads := (pcieAt s p).reads ++ [⟨tag, ac, k, size, pa, false⟩] }
        out := .pcieRead p (busAddr s p pa) size tag :: s.out }) ∧
    (∀ p, inWindow pa = false → target s pa = .host p → rangeError s (acPart s ac) true pa size = none → (pcieAt s p).rate ≠ 0 →
      acEffect ac z (.store rs2 pa size) s = { n with out := .pcieWrite p (busAddr s p pa) (leBytes size x.toNat) :: s.out })) ∧
  (∀ (ac pa size : Nat) (z sg : Bool) (rd rs2 : BitVec 5) (e : Nat × Nat) (n s : State),
    (size = 1 ∨ size = 2 ∨ size = 4 ∨ size = 8) → inWindow pa = false → n = acNext ac (if z then 2 else 4) s →
    (rangeError s (acPart s ac) false pa size = some e →
      acEffect ac z (.load rd sg pa size) s = acTrap ac e.2 false false (memErr e.1 e.2 (acReq ac) n)) ∧
    (rangeError s (acPart s ac) true pa size = some e → (e.1 = 1 ∨ e.1 = 4) →
      acEffect ac z (.store rs2 pa size) s = acTrap ac e.2 false true (memErr e.1 e.2 (acReq ac) n))) ∧
  (∀ (ac pa size k ln : Nat) (z : Bool) (rd rs2 f5 : BitVec 5) (l : List Byte) (old : W64) (c : Core) (n u s : State),
    (size = 4 ∨ size = 8 ∨ (size = 16 ∧ f5 = 5)) → pa % size = 0 → target s pa = .hbm k →
    inWindow pa = false → rangeError s (acPart s ac) false pa size = none → ln = lineOf pa → n = acNext ac (if z then 2 else 4) s →
    atomicRead ac f5.toNat pa size n = (none, l, u) → c = coreAt u ac → old = loadedValue 32 size l →
    (f5 = 2 → acEffect ac z (.amo rd rs2 f5 pa size) s = cohMod (corePut u ac { coreXPut c rd.toNat old with resv := some pa }) fun h => { h with
      resv := (if (lineAt u (groupAgent ac) ln).isSome then [(ac, ln)] else []) ++ h.resv.filter fun e => decide (e.1 ≠ ac) }) ∧
    (∀ (ok : Bool) (w : State), f5 = 3 → ok = (decide (c.resv = some pa) && u.coh.resv.contains (ac, ln) && bit 0 (Config.free u.fresh)) →
      w = cohMod { corePut u ac { coreXPut c rd.toNat (if ok then 0 else 1) with resv := none } with fresh := u.fresh + 1 } (fun h => { h with
        resv := h.resv.filter fun e => decide (e.1 ≠ ac) }) →
      acEffect ac z (.amo rd rs2 f5 pa size) s = (if ok then acPuts ac pa (leBytes size (coreX c rs2.toNat).toNat) w else w)) ∧
    (∀ v, f5 ≠ 2 → f5 ≠ 3 → f5 ≠ 5 → amoValue f5.toNat size old (coreX c rs2.toNat) = some v →
      acEffect ac z (.amo rd rs2 f5 pa size) s = acPuts ac pa (leBytes size v.toNat) (corePut u ac (coreXPut c rd.toNat old))) ∧
    (f5 = 5 → acEffect ac z (.amo rd rs2 f5 pa size) s =
      (if l = pairBytes c rd.toNat size then acPuts ac pa (pairBytes c rs2.toNat size) (corePut u ac (landPair rd.toNat size l c))
       else corePut u ac (landPair rd.toNat size l c)))) ∧
  (∀ (r size : Nat) (l : List Byte) (c : Core), size ≠ 16 → pairBytes c r size = leBytes size (coreX c r).toNat ∧
    landPair r size l c = coreXPut c r (loadedValue 32 size l)) ∧
  (∀ (ac pa size : Nat) (z : Bool) (rd rs2 f5 : BitVec 5) (s : State), (size = 4 ∨ size = 8) → (pa % size ≠ 0 ∨ inWindow pa = true) →
    acEffect ac z (.amo rd rs2 f5 pa size) s = acTrap ac pa false (inWindow pa || decide (f5 ≠ 2)) (acNext ac (if z then 2 else 4) s)) ∧
  (∀ (ac r : Nat) (z : Bool) (word : BitVec 32) (v pc : W64) (c : Core) (s : State), c = coreAt s ac →
    (acScalar word.toNat c.pc (coreX c) = .done r v pc →
      acEffect ac z (.integer word) s = corePut s ac { coreXPut c r v with pc := pc, insn := c.pc }) ∧
    (acScalar word.toNat c.pc (coreX c) = .illegal →
      acEffect ac z (.integer word) s = takeTrap ac 2 (Config.free s.fresh) { corePut s ac { c with insn := c.pc } with fresh := s.fresh + 1 }) ∧
    (rvScalar word.toNat c.pc (coreX c) = .done r v pc → isMop word.toNat = false → acScalar word.toNat c.pc (coreX c) = .done r v pc)) ∧
  (∀ (ac : Nat) (z : Bool) (rd : BitVec 5) (c : Core) (n s : State), n = acNext ac (if z then 2 else 4) s → c = coreAt n ac →
    c.priv = 3 → c.virt = false →
    (∀ p ∈ ([(0xCC8, now s), (0xF11, 0), (0xF12, 0x80000000000000E9), (0xF13, BitVec.ofNat 64 s.fuse.stepping), (0xF14, BitVec.ofNat 64 ac),
      (0x14D, c.stimecmp), (0x24D, c.vstimecmp), (0x340, csrAt c 0x340), (0x341, csrAt c 0x341)] : List (BitVec 12 × W64)),
      acEffect ac z (.csrRead rd p.1) s = corePut n ac (coreXPut c rd.toNat p.2)) ∧
    (∀ rs1 : BitVec 5, acEffect ac z (.csrWrite rd rs1 0x14D) s = corePut n ac (coreXPut { c with
        stimecmp := coreX (coreAt s ac) rs1.toNat, timer := lset c.timer 1 false } rd.toNat c.stimecmp) ∧
      acEffect ac z (.csrWrite rd rs1 0x24D) s = corePut n ac (coreXPut { c with vstimecmp := coreX (coreAt s ac) rs1.toNat } rd.toNat c.vstimecmp) ∧
      acEffect ac z (.csrWrite rd rs1 0x340) s = corePut n ac (coreXPut (csrPut c 0x340 (coreX (coreAt s ac) rs1.toNat)) rd.toNat (csrAt c 0x340)) ∧
      acEffect ac z (.csrWrite rd rs1 0xF14) s = takeTrap ac 2 (Config.free s.fresh) { n with fresh := s.fresh + 1 }) ∧
    acEffect ac z .fence s = n ∧
    (∀ e, acEffect ac z (.tlbFill e) s = corePut s ac { coreAt s ac with tlb := e :: (coreAt s ac).tlb }) ∧
    (∀ kind va asid vmid, acEffect ac z (.tlbFence kind va asid vmid) s = corePut n ac { c with
      tlb := c.tlb.filter fun e => !(fenceHits kind va asid vmid e) }) ∧
    acEffect ac z .ecall s = corePut n ac (trapCore 11 0 c) ∧
    acEffect ac z .mret s = corePut n ac (mretCore c) ∧
    acEffect ac z .sret s = corePut n ac (sretCore c) ∧
    (s.sec.debug = 0 → acEffect ac z .ebreak s = takeTrap ac 3 (Config.free s.fresh) { n with fresh := s.fresh + 1 }) ∧
    (1 ≤ s.sec.debug → c.dcsr.getLsbD 15 = true →
      acEffect ac z .ebreak s = corePut n ac { c with halted := true, pc := c.insn, dcsr := dcsrCause 1 c.dcsr }) ∧
    (∀ fd, acEffect ac z (.fOther fd) s = { corePut n ac { c with f := tset 0 c.f fd.toNat (Config.free s.fresh) } with fresh := s.fresh + 1 }) ∧
    acEffect ac z (.other rd) s = { corePut n ac { coreXPut c rd.toNat (Config.free s.fresh) with
      pc := Config.free (s.fresh + 1) } with fresh := s.fresh + 2 }) ∧
  (∀ (cause : Nat) (tval : W64) (c : Core), c.priv = 3 → let k := trapCore cause tval c
    k.priv = 3 ∧ k.pc = csrAt c 0x305 &&& ~~~ 3 ∧ csrAt k 0x341 = c.insn ∧ csrAt k 0x342 = BitVec.ofNat 64 cause ∧ csrAt k 0x343 = tval ∧
    bit 3 (csrAt k 0x300) = false ∧ bit 7 (csrAt k 0x300) = bit 3 (csrAt c 0x300) ∧ fld 12 11 (csrAt k 0x300) = 3 ∧ k.x = c.x ∧ k.v = c.v) ∧
  (∀ (ac pa k : Nat) (s : State), ac < 128 → acLive s ac = true → target s (128 * lineOf pa) = .hbm k →
    rangeError s (acPart s ac) true (128 * lineOf pa) 128 = none →
    (∀ p ∈ ([(1, .cboClean), (2, .cboInval), (3, .cboFlush)] : List (Nat × (Nat → Nat → Instr))),
      (cboWaits s ac pa = true → exec (p.2 ac pa) s = .next s) ∧
      (cboWaits s ac pa = false → exec (p.2 ac pa) s = .next (acStepped ac (acNext ac 4 (lineOp p.1 (lineOf pa) s))))) ∧
    (acWaits s ac false (128 * lineOf pa) 128 = false →
      exec (.cboZero ac pa) s = .next (acStepped ac (acPuts ac (128 * lineOf pa) (List.replicate 128 0) (acNext ac 4 s))))) ∧
  (∀ (op ln : Nat) (t s : State), t = lineOp op ln s →
    t.regs = s.regs ∧ t.boot = s.boot ∧ t.cores = s.cores ∧ (op = 1 → ∀ e ∈ t.coh.lines, e.2.1 = ln → e.2.2.st ≠ .m ∧ e.2.2.st ≠ .o) ∧
    (op ≠ 1 → ∀ e ∈ t.coh.lines, e.2.1 ≠ ln)) ∧
  (∀ (ac pa : Nat) (s : State), ac < 128 → acLive s ac = false → exec (.cboClean ac pa) s = .next s ∧ exec (.cboInval ac pa) s = .next s ∧
    exec (.cboFlush ac pa) s = .next s ∧ exec (.cboZero ac pa) s = .next s ∧ exec (.fenceI ac) s = .next s) ∧
  (∀ (ac : Nat) (s : State), ac < 128 → acLive s ac = true → exec (.fenceI ac) s = .next (acStepped ac (corePut s ac { coreAt s ac with
    pc := (coreAt s ac).pc + 4, insn := (coreAt s ac).pc, icache := [] }))) ∧
  (∀ (h f : Nat) (i : W32) (s : State), h < 128 → f ≤ 8 → acPresent s h = true → 1 ≤ i.toNat → i.toNat ≤ fileIdents f →
    (f, i.toNat) ∉ (coreAt s h).eip →
    exec (.imsicSeteipnum h f i) s = .next (corePut s h { coreAt s h with eip := (coreAt s h).eip ++ [(f, i.toNat)] })) ∧
  (∀ (h f : Nat) (i : W32) (s : State), h < 128 → f ≤ 8 → (acPresent s h = false ∨ i = 0 ∨ fileIdents f < i.toNat) →
    exec (.imsicSeteipnum h f i) s = .next s) ∧
  (∀ (h : Nat) (s : State), h < 128 → acPresent s h = true → (coreAt s h).on = true →
    (∃ t, exec (.mtimerInterrupt h false) s = .next t ∧ (mtimecmp s h).toNat ≤ t.mtime.toNat ∧ t.out = .timerInterrupt h false :: s.out ∧
      t.cores = (corePut s h { coreAt s h with timer := lset (coreAt s h).timer 0 true }).cores ∧ t.regs = s.regs ∧ t.mem = s.mem) ∧
    (∃ t, exec (.mtimerInterrupt h true) s = .next t ∧ (coreAt s h).stimecmp.toNat ≤ t.mtime.toNat ∧ t.out = .timerInterrupt h true :: s.out ∧
      t.cores = (corePut s h { coreAt s h with timer := lset (coreAt s h).timer 1 true }).cores ∧ t.regs = s.regs ∧ t.mem = s.mem)) ∧
  (∀ (h : Nat) (b : Bool) (s : State), h < 128 → (acPresent s h && (coreAt s h).on) = false → exec (.mtimerInterrupt h b) s = .next s)

/-! PCIe -/

/-- R260, R377 to R386, R390: an inbound read answers the bytes or a status, a posted write with an error is discarded and counted; configuration reads
retry until the E9 runs or is held; a completion ends its core's read; EP_FLUSH reads 0 and PE_DISCARDS is cleared by reading; a reset of the endpoint
masks every MSI-X vector; link changes and pins reach their sources. The status codes are the PCIe specification's (log 25).
Says that these commands complete: pcieInboundRead, pcieInboundWrite, pcieConfigRequest, pcieCompletion, epFlushRead, peDiscardsRead,
pcieAerPmeMessage, endpointReset, pcieLinkChange, intxAssert, intxDeassert. -/
def Obligations.PcieRequestsAreServed : Prop :=
  (∀ (p bar a n : Nat) (l : List Byte) (fl : List (Nat × Bool)) (s : State), p < 4 → pcieUp s p = false →
    exec (.pcieInboundRead p bar a n fl) s = .next (setFlaws [] s) ∧ exec (.pcieInboundWrite p bar a l fl) s = .next (setFlaws [] s)) ∧
  (∀ (p bar a n : Nat) (fl : List (Nat × Bool)) (v s : State), p < 4 → pcieUp s p = true → 0 < n → n ≤ 4096 → v = setFlaws fl s →
    (inboundTo s p bar a n false = none → exec (.pcieInboundRead p bar a n fl) s = .next (setFlaws [] s)) ∧
    (inboundTo s p bar a n false = some .refused →
      exec (.pcieInboundRead p bar a n fl) s = .next (setFlaws [] { s with out := .pcieCompletion p 1 [] :: s.out })) ∧
    (∀ pa l u, (inboundTo s p bar a n false = some (.mem pa) ∨
        (inboundTo s p bar a n false = some (.hbm pa) ∧ barError s (partOf s (pcieReq p)) false pa n = none)) →
      rangeWaits s (pcieReq p) (partOf s (pcieReq p)) true pa n = false → memRead (pcieReq p) (some (oget s 0x5105 (p + 1))) pa n v = (.ok l, u) →
      exec (.pcieInboundRead p bar a n fl) s = .next (setFlaws [] { u with out := .pcieCompletion p 0 l :: u.out })) ∧
    (∀ pa e u, inboundTo s p bar a n false = some (.mem pa) → rangeWaits s (pcieReq p) (partOf s (pcieReq p)) true pa n = false →
      memRead (pcieReq p) (some (oget s 0x5105 (p + 1))) pa n v = (.error e, u) →
      exec (.pcieInboundRead p bar a n fl) s =
        .next (setFlaws [] { u with out := .pcieCompletion p (if e.1 = 1 ∨ e.1 = 4 then 1 else 4) [] :: u.out })) ∧
    (∀ pa e, inboundTo s p bar a n false = some (.hbm pa) → barError s (partOf s (pcieReq p)) false pa n = some e →
      exec (.pcieInboundRead p bar a n fl) s =
        .next (setFlaws [] (emit (.pcieCompletion p (if e.1 = 1 ∨ e.1 = 4 then 1 else 4) []) (memErr e.1 e.2 (pcieReq p) v)))) ∧
    (∀ r, inboundTo s p bar a n false = some (.regs r) → rangeWaits s (pcieReq p) (partOf s (pcieReq p)) true r n = false →
      exec (.pcieInboundRead p bar a n fl) s = .next (setFlaws []
      { (regLoad (n + 1) r n v).2 with out := .pcieCompletion p 0 (regLoad (n + 1) r n v).1 :: (regLoad (n + 1) r n v).2.out }))) ∧
  (∀ (bar a n : Nat) (w : Bool) (s : State), s.boot.modeSel = true → s.boot.phase = .running →
    (bar = 0 → a + n ≤ 0x8000000 → inboundTo s 0 bar a n w = some (.regs (winBase 14 + 0x100000000 + a))) ∧
    (bar = 2 → a + n ≤ 0x4000000 → inboundTo s 0 bar a n w = some (.regs (winBase 14 + 0x108000000 + a))) ∧
    (bar = 4 → a + n ≤ 2 ^ (30 + (pcieAt s 0).barLog) → inboundTo s 0 bar a n w = some (.hbm ((regGet s (peReg 0 0x10)).toNat + a)))) ∧
  (∀ (a n : Nat) (w : Bool) (s : State), s.boot.modeSel = true → s.boot.phase = .held →
    (a + n ≤ 0x8000000 → inboundTo s 0 0 a n w = some .refused) ∧
    (a + n ≤ 0x4000000 → inboundTo s 0 2 a n w = some (.regs (winBase 14 + 0x108000000 + a))) ∧
    (a + n ≤ 2 ^ (30 + (pcieAt s 0).barLog) → inboundTo s 0 4 a n w = some .refused)) ∧
  (∀ (p bar a k n : Nat) (w : Bool) (s : State), (p ≠ 0 ∨ s.boot.modeSel = false) → target s a = .hbm k → inboundTo s p bar a n w = some (.mem a)) ∧
  (∀ (p bar a : Nat) (w : Bool) (l : List Byte) (part : Option Nat) (fl : List (Nat × Bool)) (v s : State), p < 4 → pcieUp s p = true → l ≠ [] →
    l.length ≤ 512 → w = (decide (l.length = 4) && decide (a % 4 = 0)) → part = some (oget s 0x5105 (p + 1)) → v = setFlaws fl s →
    ((inboundTo s p bar a l.length w = some .refused ∨ inboundTo s p bar a l.length w = none) →
      exec (.pcieInboundWrite p bar a l fl) s = .next (setFlaws [] s)) ∧
    (∀ r, inboundTo s p bar a l.length w = some (.regs r) → rangeWaits s (pcieReq p) (partOf s (pcieReq p)) false r l.length = false →
      exec (.pcieInboundWrite p bar a l fl) s = .next (setFlaws [] (regBytes r l v))) ∧
    (∀ r, (inboundTo s p bar a l.length w = some (.regs r) ∨ inboundTo s p bar a l.length w = some (.mem r)) →
      rangeWaits s (pcieReq p) (partOf s (pcieReq p)) false r l.length = true →
      exec (.pcieInboundWrite p bar a l fl) s = .next (setFlaws [] (nacked (pcieReq p) (partOf s (pcieReq p)) false r l.length v))) ∧
    (∀ pa u, (inboundTo s p bar a l.length w = some (.mem pa) ∨
        (inboundTo s p bar a l.length w = some (.hbm pa) ∧ barError s part true pa l.length = none)) →
      rangeWaits s (pcieReq p) (partOf s (pcieReq p)) false pa l.length = false → memPut (pcieReq p) part (peHint s p) pa l v = (none, u) →
      exec (.pcieInboundWrite p bar a l fl) s = .next (setFlaws [] u)) ∧
    (∀ pa e u, inboundTo s p bar a l.length w = some (.mem pa) → rangeWaits s (pcieReq p) (partOf s (pcieReq p)) false pa l.length = false →
      memPut (pcieReq p) part (peHint s p) pa l v = (some e, u) → (pcieAt u p).discards + 1 < 2 ^ 32 →
      exec (.pcieInboundWrite p bar a l fl) s =
        .next (setFlaws [] (pciePut u p { pcieAt u p with discards := (pcieAt u p).discards + 1 }))) ∧
    (∀ pa e u, inboundTo s p bar a l.length w = some (.hbm pa) → barError s part true pa l.length = some e → u = memErr e.1 e.2 (pcieReq p) v →
      (pcieAt s p).discards + 1 < 2 ^ 32 →
      exec (.pcieInboundWrite p bar a l fl) s =
        .next (setFlaws [] (pciePut u p { pcieAt u p with discards := (pcieAt u p).discards + 1 })))) ∧
  (∀ (op : CfgOp) (s : State), s.boot.modeSel = true → pcieUp s 0 = true → s.boot.phase ≠ .running → s.boot.phase ≠ .held →
    exec (.pcieConfigRequest op) s = .next { s with out := .pcieConfig true 0 :: s.out }) ∧
  (∀ (reg k m : Nat) (v : W32) (t s : State), s.boot.modeSel = true → pcieUp s 0 = true → (s.boot.phase = .running ∨ s.boot.phase = .held) →
    t = pciePut s 0 { pcieAt s 0 with barLog := k } → m = cfgMask s reg →
    (m = 0 → exec (.pcieConfigRequest (.write reg v)) s = .next { s with out := .pcieConfig false 0 :: s.out }) ∧
    (m ≠ 0 → reg ≠ 1 → exec (.pcieConfigRequest (.write reg v)) s = .next { pciePut s 0 { pcieAt s 0 with
      cfg := tset 0 (pcieAt s 0).cfg reg (v &&& BitVec.ofNat 32 m) } with out := .pcieConfig false 0 :: s.out }) ∧
    (exec (.pcieConfigRequest (.write 1 v)) s = .next (emit (.pcieConfig false 0) (releaseMsix (pciePut s 0 { pcieAt s 0 with
      cfg := tset 0 (pcieAt s 0).cfg 1 (v &&& 0x546) })))) ∧
    exec (.pcieConfigRequest (.read 4)) s = .next { s with
      out := .pcieConfig false ((tget 0 (pcieAt s 0).cfg 4 &&& BitVec.ofNat 32 (cfgMask s 4)) ||| 4) :: s.out } ∧
    exec (.pcieConfigRequest .bar4Read) s = .next { s with out := .pcieConfig false (BitVec.ofNat 32 (256 * (10 + (pcieAt s 0).barLog))) :: s.out } ∧
    exec (.pcieConfigRequest .msixRead) s = .next { s with out := .pcieConfig false (BitVec.ofNat 32
      ((b2n (pcieAt s 0).msixEn * 2 ^ 15 + b2n (pcieAt s 0).msixMask * 2 ^ 14 + 2047) * 65536)) :: s.out } ∧
    (∀ e f, exec (.pcieConfigRequest (.msixWrite e f)) s =
      .next (emit (.pcieConfig false 0) (releaseMsix (pciePut s 0 { pcieAt s 0 with msixEn := e, msixMask := f })))) ∧
    exec (.pcieConfigRequest .devCtlRead) s = .next { s with out := .pcieConfig false (pcieAt s 0).devCtl :: s.out } ∧
    (v.getLsbD 15 = false → exec (.pcieConfigRequest (.devCtlWrite v)) s = .next { pciePut s 0 { pcieAt s 0 with devCtl := v &&& 0x7FFF } with
      out := .pcieConfig false 0 :: s.out }) ∧
    (v.getLsbD 15 = true → exec (.pcieConfigRequest (.devCtlWrite v)) s =
      .next (emit (.pcieConfig false 0) (endpointResetEffect (pciePut s 0 { pcieAt s 0 with devCtl := v &&& 0x7FFF })))) ∧
    (∀ i, (i = 1 ∨ i = 2 ∨ i = 4) → exec (.pcieConfigRequest (.aerRead i)) s = .next { s with
        out := .pcieConfig false (tget (aerDefault i) (pcieAt s 0).aer i) :: s.out } ∧
      exec (.pcieConfigRequest (.aerWrite i v)) s = .next { pciePut s 0 { pcieAt s 0 with aer := tset (aerDefault i) (pcieAt s 0).aer i v } with
        out := .pcieConfig false 0 :: s.out }) ∧
    exec (.pcieConfigRequest (.read 0)) s = .next { s with out := .pcieConfig false 0x00E91F3E :: s.out } ∧
    (k < 12 → exec (.pcieConfigRequest (.bar4Size k)) s = .next { t with out := .pcieConfig false 0 :: s.out }) ∧
    (k = 12 → exec (.pcieConfigRequest (.bar4Size k)) s = .next { regPut t (peReg 0 0x10) 0 with out := .pcieConfig false 0 :: s.out }) ∧
    (12 < k → exec (.pcieConfigRequest (.bar4Size k)) s = .next { s with out := .pcieConfig false 0 :: s.out })) ∧
  (∀ (op : CfgOp) (s : State), (s.boot.modeSel && pcieUp s 0) = false → exec (.pcieConfigRequest op) s = .next s) ∧
  (∀ (p tag : Nat) (l : List Byte) (x : W64) (r : PRead) (t u s : State), p < 4 →
    (pcieAt s p).reads.find? (fun r => decide (r.tag = tag)) = some r → x = loadedValue r.rd r.size l →
    t = pciePut s p { pcieAt s p with reads := (pcieAt s p).reads.filter fun y => decide (y.tag ≠ r.tag) } →
    u = corePut t r.ac { coreAt s r.ac with waits := none } →
    (r.dma = false → l.length = r.size →
      exec (.pcieCompletion p tag true l) s = .next (emit (.readData r.pa x) (corePut u r.ac (landLoad r.rd l (coreAt u r.ac))))) ∧
    (r.dma = false → exec (.pcieCompletion p tag false l) s = .next (acTrap r.ac r.pa false false (memErr 5 r.pa (acReq r.ac) u))) ∧
    (r.dma = true → l.length = r.size → exec (.pcieCompletion p tag true l) s = .next (noteAnswer r.ac r.rd ⟨r.pa, 0, l⟩ t)) ∧
    (r.dma = true → exec (.pcieCompletion p tag false l) s = .next (noteAnswer r.ac r.rd ⟨r.pa, 5, []⟩ t))) ∧
  (∀ (p tag : Nat) (ok : Bool) (l : List Byte) (s : State), p < 4 → (∀ r ∈ (pcieAt s p).reads, r.tag ≠ tag) →
    exec (.pcieCompletion p tag ok l) s = .next s) ∧
  (∀ (p : Nat) (s : State), p < 4 → pciePresent s p = true →
    exec (.epFlushRead p) s = .next { s with out := .readData (peReg p 0x18) 0 :: s.out } ∧
    exec (.peDiscardsRead p) s = .next { pciePut s p { pcieAt s p with discards := 0 } with
      out := .readData (peReg p 0x20) (BitVec.ofNat 64 (pcieAt s p).discards) :: s.out } ∧
    (∀ b, exec (.pcieAerPmeMessage p b) s = .next (scRaise (8 + p) 0 s))) ∧
  (∀ (p : Nat) (b : Bool) (s : State), p < 4 → pciePresent s p = false →
    exec (.epFlushRead p) s = .next s ∧ exec (.peDiscardsRead p) s = .next s ∧ exec (.pcieAerPmeMessage p b) s = .next s) ∧
  (∀ s : State, (s.boot.modeSel && pciePresent s 0 && !(inReset s)) = false → exec .endpointReset s = .next s) ∧
  (∀ s : State, s.boot.modeSel = true → pciePresent s 0 = true → inReset s = false → (∀ e ∈ s.ctxs, (ctxAt s e.1).state ≠ 1) →
    ∃ t, exec .endpointReset s = .next t ∧ t.sc.pba = [] ∧ (∀ v, v < 2048 → msixMasked t v = true) ∧ t.mem = s.mem ∧ t.ctxs = s.ctxs ∧
      (∀ a, a ≠ peReg 0 0x10 → (a < winBase 14 + 0x10A000000 ∨ winBase 14 + 0x10A008000 ≤ a) → regGet t a = regGet s a)) ∧
  (∀ (c : Nat) (x : Ctx) (t s : State), s.boot.modeSel = true → pciePresent s 0 = true → inReset s = false → s.ctxs = [(c, x)] → x.state = 1 →
    t = teardownStart c s → exec .endpointReset s = .next (msixReset (regPut (pciePut t 0 (configReset (pcieAt t 0))) (peReg 0 0x10) 0))) ∧
  (∀ c : Pcie, configReset c = { c with barLog := 0, cfg := [], msixEn := false, msixMask := false, devCtl := 0x2810, aer := [] }) ∧
  (∀ (p r w : Nat) (s : State), p < 4 → pciePresent s p = true → inReset s = false → rateOk r w = true → r ≠ 0 → p ∉ s.boot.perst →
    exec (.pcieLinkChange p r w) s = .next (scRaise (8 + p) 0 (pciePut s p { pcieAt s p with rate := r, width := w }))) ∧
  (∀ (p : Nat) (s : State), p < 4 → pciePresent s p = true → inReset s = false → (pcieAt s p).reads = [] →
    twf {} s.pcie = true → twf {} s.sc.src = true →
    ∃ t, exec (.pcieLinkChange p 0 0) s = .next t ∧ t.cores = s.cores ∧ t.regs = s.regs ∧ (srcAt t (8 + p)).pend = true ∧
      (∀ i, i < 4 → (srcAt t (24 + 4 * p + i)).level = false) ∧
      pcieAt t p = { pcieAt s p with rate := 0, width := 0, pins := [false, false, false, false] } ∧ (∀ k, k ≠ p → pcieAt t k = pcieAt s k)) ∧
  (∀ (p r w : Nat) (s : State), p < 4 → (pciePresent s p = false ∨ inReset s = true ∨ rateOk r w = false) →
    exec (.pcieLinkChange p r w) s = .next s) ∧
  (∀ (p i : Nat) (s : State), p < 4 → i < 4 → rootPort s p = true → pcieUp s p = true →
    exec (.intxAssert p i) s = .next (scInput (24 + 4 * p + i) true (pciePut s p { pcieAt s p with pins := lset (pcieAt s p).pins i true })) ∧
    exec (.intxDeassert p i) s = .next (scInput (24 + 4 * p + i) false (pciePut s p { pcieAt s p with pins := lset (pcieAt s p).pins i false }))) ∧
  (∀ (p i : Nat) (s : State), p < 4 → i < 4 → (rootPort s p && pcieUp s p) = false →
    exec (.intxAssert p i) s = .next s ∧ exec (.intxDeassert p i) s = .next s)

/-! Registers -/

/-- R12, R189, R223, R228, R357, R385, R391, R401: a 64-bit write of a register does what its unit's own command does; a plain register keeps the bits
that hold a field; a write that is not aligned changes nothing, and one to no target is logged (R258; its requester is the model's, log 113). Says that
registerWrite completes. -/
def Obligations.RegisterWritesReachTheirUnits : Prop :=
  (∀ (pa w o : Nat) (v : W64) (s : State), target s pa = .mmio w o → pa % 8 ≠ 0 → exec (.registerWrite pa v) s = .next s) ∧
  (∀ (pa : Nat) (v : W64) (s : State), (∀ w o, target s pa ≠ .mmio w o) → target s pa ≠ .absent → exec (.registerWrite pa v) s = .next s) ∧
  (∀ (pa : Nat) (v : W64) (s : State), target s pa = .absent →
    exec (.registerWrite pa v) s = .next (memErr 1 pa (noUnit (match winOf pa with | some (w, _) => w | none => 14)) s)) ∧
  (∀ (v : W64) (s : State), diePresent s 14 = true →
    (∀ c q, c < 16384 → q < 4 → exec (.registerWrite (winBase 14 + 0x100000000 + 0x1000 * c + 8 * q) v) s = exec (.doorbell c q v) s) ∧
    (∀ c i, c < 16384 → i < 8 → exec (.registerWrite (winBase 14 + 0x100000340 + 0x1000 * c + 8 * i) v) s = exec (.ewinWrite c (8 * i) v) s) ∧
    (∀ c q, c < 16384 → q < 4 → bit 1 v = true →
      exec (.registerWrite (winBase 14 + 0x100000118 + 0x1000 * c + 0x20 * q) v) s = exec (.queueSkip c q) s) ∧
    (∀ c q, c < 16384 → q < 4 → bit 1 v = false → bit 0 v = true →
      exec (.registerWrite (winBase 14 + 0x100000118 + 0x1000 * c + 0x20 * q) v) s = exec (.queueResume c q) s) ∧
    (∀ b, b < 8192 → v.toNat < 2 ^ 32 → exec (.registerWrite (winBase 14 + 0x104000008 + 64 * b) v) s = exec (.batonOpWrite b (v.truncate 32)) s) ∧
    (∀ b, b < 8192 → exec (.registerWrite (winBase 14 + 0x1040B0000 + 64 * b) v) s = exec (.batonBind b v) s ∧
      exec (.registerWrite (winBase 14 + 0x1040B0008 + 64 * b) v) s = exec (.batonValueWrite b (v.truncate 32)) s ∧
      exec (.registerWrite (winBase 14 + 0x1040B0010 + 64 * b) v) s = exec (.batonEvtcondWrite b v) s) ∧
    (∀ g, g < 1024 → exec (.registerWrite (winBase 14 + 0x104080000 + 64 * g) v) s = exec (.relayGroupBind g v) s) ∧
    (∀ g i, g < 1024 → 1 ≤ i → i < 8 → exec (.registerWrite (winBase 14 + 0x104080000 + 64 * g + 8 * i) v) s =
      exec (.relayGroupEntryWrite g (8 * i) v) s) ∧
    (∀ k, k < 64 → exec (.registerWrite (winBase 14 + 0x104090000 + 64 * k) v) s = exec (.sqBind k v) s ∧
      exec (.registerWrite (winBase 14 + 0x104090028 + 64 * k) v) s = exec (.sqKeyWrite k false v) s ∧
      exec (.registerWrite (winBase 14 + 0x104090030 + 64 * k) v) s = exec (.sqKeyWrite k true v) s) ∧
    exec (.registerWrite (winBase 14 + 0x1040A0000) v) s = exec (.ctxBaseWrite v) s ∧
    (s.cmdBusy = true → exec (.registerWrite (winBase 14 + 0x1040A0008) v) s = .next s) ∧
    (s.cmdBusy = false → (fld 17 16 v = 1 → exec (.registerWrite (winBase 14 + 0x1040A0008) v) s = .next (contextEnableEffect (fld 13 0 v) s)) ∧
      (fld 17 16 v = 2 → exec (.registerWrite (winBase 14 + 0x1040A0008) v) s = exec (.contextTeardown (fld 13 0 v)) s) ∧
      (fld 17 16 v = 0 ∨ fld 17 16 v = 3 → exec (.registerWrite (winBase 14 + 0x1040A0008) v) s = exec (.ctxCmdReserved v) s)) ∧
    exec (.registerWrite (winBase 14 + 0x105000008) v) s = exec (.prqBaseWrite v) s ∧
    exec (.registerWrite (winBase 14 + 0x105000018) v) s = exec (.prqHeadWrite (v.truncate 32)) s ∧
    (bit 32 v = false → exec (.registerWrite (winBase 14 + 0x105000028) v) s = exec (.pageResponseRetry (fld 31 0 v) []) s) ∧
    (bit 32 v = true → exec (.registerWrite (winBase 14 + 0x105000028) v) s = exec (.pageResponseInvalid (fld 31 0 v)) s) ∧
    (∀ p ∈ ([(0, .invAll), (1, .invVmid), (2, .invAsid), (3, .invRange)] : List (W64 × Instr)),
      exec (.registerWrite (winBase 14 + 0x105000050) p.1) s = exec p.2 s) ∧
    (4 ≤ v.toNat → exec (.registerWrite (winBase 14 + 0x105000050) v) s = exec (.invCmdReserved v) s) ∧
    (∀ n, n < 256 → exec (.registerWrite (winBase 14 + 0x106000000 + 0x1000 * n) v) s = exec (.rqDoorbell n v) s ∧
      exec (.registerWrite (winBase 14 + 0x106100000 + 32 * n) v) s = exec (.rqCfgWrite n v) s) ∧
    exec (.registerWrite (scReg 0) v) s = exec (.scPendSet v) s ∧ exec (.registerWrite (scReg 8) v) s = exec (.scPendClr v) s ∧
    (∀ n w, n < 8192 → exec (.registerWrite (scReg (0x20000 + 16 * n)) v) s = exec (.scSrcCfgWrite n v w) s) ∧
    exec (.registerWrite (scReg 0x1000) v) s = .next (regPut s (scReg 0x1000) (maskWrite 0xFFFFFFFFFF01F 0 v)) ∧
    exec (.registerWrite (scReg 0x1010) v) s = .next (regPut s (scReg 0x1010) (maskWrite 0xFFFFFFFF 0 v)) ∧
    exec (.registerWrite (scReg 0x1018) v) s = .next { s with sc := { s.sc with
      ovf := s.sc.ovf && !(bit 1 v), cfgErr := s.sc.cfgErr && !(bit 2 v), werr := s.sc.werr && !(bit 3 v) } } ∧
    (∀ k, k < 2048 → bit 32 v = false → exec (.registerWrite (msixCtl k) v) s = .next (if k ∈ s.sc.pba then
        { regPut s (msixCtl k) v with sc := { s.sc with pba := s.sc.pba.filter fun j => decide (j ≠ k) }, out := .msix k :: s.out }
      else regPut s (msixCtl k) v)) ∧
    (∀ k, k < 2048 → bit 32 v = true → (v ≠ 0x100000000 ∨ k ∉ s.sc.pba ∨ aget s.regs (msixCtl k) = none) →
      exec (.registerWrite (msixCtl k) v) s = .next (regPut s (msixCtl k) v)) ∧
    (∀ c, c < 2 → exec (.registerWrite (winBase 14 + 0x108102000 + 0x4000 * c) v) s = exec (.mailboxDoor c v) s)) ∧
  (∀ (m : Nat) (v : W64) (s : State), m < 6 → mdPresent s m = true →
    exec (.registerWrite (mdReg m 0x100) v) s = .next (regPut s (mdReg m 0x100) (maskWrite 0xFFFFFFFFFFF80 0 v)) ∧
    exec (.registerWrite (mdReg m 0x108) v) s = .next (regPut s (mdReg m 0x108) (maskWrite 0xFFFFFFFF80 0 v)) ∧
    exec (.registerWrite (mdReg m 0x200) v) s = .next (regPut s (mdReg m 0x200) (maskWrite 0xFFFF 0 v)) ∧
    exec (.registerWrite (mdReg m 0x1C8) v) s = exec (.retCmd m v) s ∧ exec (.registerWrite (mdReg m 0x1D0) v) s = exec (.retGo m v) s ∧
    (∀ p ∈ ([(1, .maintClean), (2, .maintInvalidate), (3, .maintCleanInvalidate), (4, .maintZero)] : List (Nat × (Nat → Bool → Instr))),
      fld 2 0 v = p.1 → exec (.registerWrite (mdReg m 0x110) v) s = exec (p.2 m (bit 3 v)) s) ∧
    (fld 2 0 v = 0 ∨ 4 < fld 2 0 v → exec (.registerWrite (mdReg m 0x110) v) s = exec (.maintCmdReserved (.md m) v) s)) ∧
  (∀ (h : Nat) (v : W64) (s : State), h < 128 → acPresent s h = true →
    exec (.registerWrite (winBase (12 + h / 64) + 0x102000000 + 8 * (h % 64)) v) s = .next
      (corePut (regPut s (winBase (12 + h / 64) + 0x102000000 + 8 * (h % 64)) v) h { coreAt s h with timer := lset (coreAt s h).timer 0 false }))

/-! The Signal Concentrator -/

/-- R389 to R401: an event makes its source pending with its detail and time, or is counted as unrouted; the clear address ends service, and a level
source whose input is still asserted pends again; a valid entry is stored, an invalid one noted; the lowest pending source is delivered, fast sources
first, to its interrupt file, its vector or its core; an event for a core whose PACER.FEVEC is 0 stays pending (R49); a delivery that is logged writes a
record or notes the overflow or the error. Says that these commands complete: scEvent, scPendSet, scPendClr, scSrcCfgWrite, gpirqChange, normalDelivery,
fastDelivery, evqWriteError, scUnroutedRead, scFastDroppedRead. -/
def Obligations.SourcesPendAndAreDelivered : Prop :=
  (∀ (n : Nat) (d : W32) (s : State), 1 ≤ n → n ≤ 8191 →
    exec (.scEvent n d) s = .next (srcPut s n { srcAt s n with pend := true, detail := d, time := s.tb.now })) ∧
  (∀ (n : Nat) (d : W32) (s : State), (n = 0 ∨ 8191 < n) → s.sc.unrouted + 1 < 2 ^ 32 →
    exec (.scEvent n d) s = .next { s with sc := { s.sc with unrouted := s.sc.unrouted + 1 } }) ∧
  (∀ (v : W64) (s : State), 1 ≤ v.toNat → v.toNat < 8192 →
    exec (.scPendSet v) s = .next (srcPut s v.toNat { srcAt s v.toNat with pend := true, detail := 0, time := s.tb.now })) ∧
  (∀ s : State, exec (.scPendSet 0) s = exec (.scEvent 0 0) s) ∧
  (∀ (v : W64) (s : State), 8192 ≤ v.toNat → exec (.scPendSet v) s = .next s ∧ exec (.scPendClr v) s = .next s) ∧
  (∀ (v : W64) (x : Src) (s : State), v.toNat < 8192 → x = srcAt s v.toNat → (v.toNat < 16 ∨ 40 ≤ v.toNat) →
    exec (.scPendClr v) s = .next (srcPut s v.toNat { x with pend := false })) ∧
  (∀ (v : W64) (x : Src) (s : State), 16 ≤ v.toNat → v.toNat < 40 → x = srcAt s v.toNat →
    (x.level = false → twf {} s.sc.src = true → exec (.scPendClr v) s = .next (srcPut s v.toNat { x with pend := false, insvc := false })) ∧
    (x.level = true → ∃ t, exec (.scPendClr v) s = .next t ∧ srcAt t v.toNat = { x with pend := true, insvc := false, detail := 0, time := s.tb.now } ∧
      (∀ k, k ≠ v.toNat → srcAt t k = srcAt s k) ∧ t.mem = s.mem ∧ t.tcs = s.tcs ∧ t.cores = s.cores)) ∧
  (∀ (n : Nat) (x : Src) (s : State), n < 8 → x = srcAt s (16 + n) → twf {} s.sc.src = true →
    (exec (.gpirqChange n false) s = .next (srcPut s (16 + n) { x with level := false })) ∧
    (x.insvc = true → exec (.gpirqChange n true) s = .next (srcPut s (16 + n) { x with level := true })) ∧
    (x.insvc = false → ∃ t, exec (.gpirqChange n true) s = .next t ∧
      srcAt t (16 + n) = { x with level := true, pend := true, detail := 0, time := s.tb.now } ∧
      (∀ k, k ≠ 16 + n → srcAt t k = srcAt s k) ∧ t.mem = s.mem ∧ t.cores = s.cores)) ∧
  (∀ (n : Nat) (v w : W64) (s : State), n < 8192 → (srcCfgOk s v = true →
      exec (.scSrcCfgWrite n v w) s = .next (srcPut s n { srcAt s n with cfg := v &&& 0x3FFF07FFF7FF003D })) ∧
    (srcCfgOk s v = false → exec (.scSrcCfgWrite n v w) s = .next { s with sc := { s.sc with cfgErr := true } })) ∧
  (∀ (f : Bool) (n : Nat) (s : State), twf {} s.sc.src = true → nextSource s f = some n →
    deliverable s f (n, srcAt s n) = true ∧ (∀ m, m < n → deliverable s f (m, srcAt s m) = false)) ∧
  (∀ (n k : Nat) (x : Src) (it : Item) (s : State), twf {} s.sc.src = true → x = srcAt s n → x.pend = true → cfgFast x.cfg = true →
    (tcAt s (cfgTgt x.cfg)).item = some k → itemAt s k = some it → it.ctx = cfgCtx x.cfg → (tcAt s (cfgTgt x.cfg)).fevec = 0 →
    deliverable s true (n, x) = false ∧
    (evqBase s = 0 → (∃ t, exec .fastDelivery s = .next t ∧ srcAt t n = x) ∧ ∃ t, exec .normalDelivery s = .next t ∧ srcAt t n = x)) ∧
  (∀ s : State, nextSource s true = none → nextSource s false = none → exec .normalDelivery s = .next s ∧ exec .fastDelivery s = .next s) ∧
  (∀ s : State, nextSource s true ≠ none → exec .normalDelivery s = .next s) ∧
  (∀ (n : Nat) (x : Src) (u s : State), twf {} s.sc.src = true → nextSource s true = none → nextSource s false = some n → x = srcAt s n → cfgLog n x.cfg = false →
    u = srcPut s n { x with pend := false, insvc := x.insvc || srcLevel n } →
    (cfgKind x.cfg = 0 → exec .normalDelivery s = .next (emit (.imsic (cfgTgt x.cfg) (cfgFile x.cfg) (cfgIdent x.cfg))
      (eipSet (cfgTgt x.cfg) (cfgFile x.cfg) (cfgIdent x.cfg) u))) ∧
    (cfgKind x.cfg = 1 → msixMasked s (cfgTgt x.cfg) = false →
      exec .normalDelivery s = .next { u with out := .msix (cfgTgt x.cfg) :: s.out }) ∧
    (cfgKind x.cfg = 1 → msixMasked s (cfgTgt x.cfg) = true →
      exec .normalDelivery s = .next { u with sc := { u.sc with pba := insNat (cfgTgt x.cfg) s.sc.pba } })) ∧
  (∀ (n : Nat) (x : Src) (c : TCore) (u s : State), twf {} s.sc.src = true → nextSource s true = some n → x = srcAt s n → cfgLog n x.cfg = false → c = tcAt s (cfgTgt x.cfg) →
    u = srcPut s n { x with pend := false, insvc := x.insvc || srcLevel n } →
    (∀ k it, c.item = some k → itemAt s k = some it → it.ctx = cfgCtx x.cfg →
      exec .fastDelivery s = .next (tcPut u (cfgTgt x.cfg) { c with pend := c.pend ++ [n] })) ∧
    (c.item = none → s.sc.fastDropped + 1 < 2 ^ 32 →
      exec .fastDelivery s = .next { u with sc := { u.sc with fastDropped := s.sc.fastDropped + 1 } }) ∧
    (∀ k it, c.item = some k → itemAt s k = some it → it.ctx ≠ cfgCtx x.cfg → s.sc.fastDropped + 1 < 2 ^ 32 →
      exec .fastDelivery s = .next { u with sc := { u.sc with fastDropped := s.sc.fastDropped + 1 } })) ∧
  (∀ (n : Nat) (x : Src) (u s : State), twf {} s.sc.src = true → nextSource s true = none → nextSource s false = some n → x = srcAt s n → writesRecord s n = true →
    memWrite scReq none (evqAddr s) (evqRecord s n x) s = (none, u) →
    exec .normalDelivery s = .next (sendNormal x.cfg (taken n { u with sc := { u.sc with evqTail := u.sc.evqTail + 1 } }))) ∧
  (∀ (n : Nat) (x : Src) (s : State), twf {} s.sc.src = true → nextSource s true = none → nextSource s false = some n → x = srcAt s n → cfgLog n x.cfg = true →
    (evqBase s = 0 → exec .normalDelivery s = .next (sendNormal x.cfg (taken n s))) ∧
    (evqBase s ≠ 0 → evqFull s = true → exec .normalDelivery s = .next (sendNormal x.cfg (taken n { s with sc := { s.sc with ovf := true } })))) ∧
  (∀ (n c : Nat) (s : State), twf {} s.sc.src = true → nextDelivery s = some n → writesRecord s n = true → 1 ≤ c → c ≤ 6 →
    ∃ t, exec (.evqWriteError c) s = .next t ∧ t.sc.werr = true ∧ t.sc.evqTail = s.sc.evqTail ∧ t.mem = s.mem ∧ t.coh = s.coh ∧
      (srcAt t n).pend = false) ∧
  (∀ (c : Nat) (s : State), nextDelivery s = none → exec (.evqWriteError c) s = .next s) ∧
  (∀ s : State, exec .scUnroutedRead s = .next { s with
      sc := { s.sc with unrouted := 0 }
      out := .readData (scReg 0x1020) (BitVec.ofNat 64 s.sc.unrouted) :: s.out } ∧
    exec .scFastDroppedRead s = .next { s with
      sc := { s.sc with fastDropped := 0 }
      out := .readData (scReg 0x1028) (BitVec.ofNat 64 s.sc.fastDropped) :: s.out })

/-! Power, thermal control, ageing -/

/-- R402 to R423, R510: the control step moves the level by R408 or sets it from the table, after the supply guard; the fast limiter engages above
2,900 W; a change of operating point completes; caps and modes are checked; the thermal step raises a hot die's level and lowers a cool one's after
ten steps; a unit at its critical limit enters package reset; slack below half raises the voltage or the level and asks for a re-plan. The division of
power among dies and the share of a lost rail are free, and a mean is over the readings there are (log 26); an AD's points are the model's (log 86).
Says that these commands complete: railPowerRead, regulatorTimeout, estimatorRescale, capControlStep, fastLimiterEngage, fastLimiterRelease, supplyGuardRelease,
opChangeComplete, powerCapWrite, powerModeWrite, thermalStep, thermalTrip, lapSlackCheck, replanCmd, replanTimer, replanComplete, poweredHour. -/
def Obligations.PowerIsCappedAndDiesProtected : Prop :=
  (∀ (l : List Nat) (r a d : Nat) (x y : List Int) (q : List (Nat × Nat × Nat)) (f : List (Nat × Int)) (s : State), powerOn s = false → r < 7 → d < 6 →
    exec (.railPowerRead l) s = .next s ∧ exec (.regulatorTimeout r) s = .next s ∧ exec .estimatorRescale s = .next s ∧
    exec .capControlStep s = .next s ∧ exec (.fastLimiterEngage l) s = .next s ∧ exec .fastLimiterRelease s = .next s ∧
    exec .supplyGuardRelease s = .next s ∧ exec (.opChangeComplete d) s = .next s ∧ exec (.thermalStep x y) s = .next s ∧
    exec (.lapSlackCheck d a) s = .next s ∧ exec (.replanCmd true) s = .next s ∧ exec .replanTimer s = .next s ∧
    exec (.replanComplete q f) s = .next s ∧ exec .poweredHour s = .next s) ∧
  (∀ (l : List Nat) (s : State), powerOn s = true → ∃ t, exec (.railPowerRead l) s = .next t ∧ t.pwr.rails = l.take 7 ∧
    t.pwr.hist.tail = s.pwr.hist.take 99999 ∧ t.pwr.level = s.pwr.level ∧ t.obj = s.obj ∧ t.mem = s.mem ∧
    (s.pwr.lostRails = [] → t = { s with pwr := { s.pwr with
      rails := l.take 7, hist := (((upto 0 7).map fun i => l.getD i 0).sum :: s.pwr.hist).take 100000 } })) ∧
  (∀ (r : Nat) (s : State), r < 7 → powerOn s = true →
    (r ∈ s.pwr.lostRails → exec (.regulatorTimeout r) s = .next s) ∧
    (r ∉ s.pwr.lostRails → exec (.regulatorTimeout r) s = .next (clarynEvent 0x4010 1 (oget s 0x4010 1) { s with pwr := { s.pwr with
      lostRails := insNat r s.pwr.lostRails } }))) ∧
  (∀ s : State, powerOn s = true → s.pwr.lostRails = [] → s.present % 65536 ≠ 0 →
    ∃ t, exec .estimatorRescale s = .next t ∧ t.pwr.est.sum = ((upto 0 7).map fun i => s.pwr.rails.getD i 0).sum ∧
      (∀ w, w < 16 → diePresent s w = false → t.pwr.est.getD w 0 = 0) ∧ t.pwr.rails = s.pwr.rails ∧ t.out = s.out ∧ t.mem = s.mem) ∧
  (∀ (ms : Nat) (s : State), meanPower s ms = ((s.pwr.hist.take (10 * ms)).sum, max 1 (min (10 * ms) s.pwr.hist.length))) ∧
  (∀ (d a m : Nat × Nat) (g : Nat) (s : State), powerOn s = true → oget s 0x4000 3 ≠ 1 →
    d = meanPower s 1 → a = meanPower s (oget s 0x4000 2) → m = meanPower s 5 →
    g = (if 2600000 * m.2 < m.1 ∨ s.pwr.fastOn = true ∨ s.pwr.guardAdd ≠ 0 then 0 else min 10 (s.pwr.sinceGuard + 1)) →
    ∃ t, exec .capControlStep s = .next t ∧ t.pwr.sinceGuard = g ∧ t.pwr.guardOn = decide (2600000 * m.2 < m.1) ∧
      t.pwr.guardAdd = (if 2600000 * m.2 < m.1 then min 22 (s.pwr.guardAdd + 2) else s.pwr.guardAdd) ∧
      t.pwr.level = (if projAtLeast d a (oget s 0x4000 2) (oget s 0x4000 1) 100 then (if s.pwr.level < 22 then s.pwr.level + 1 else s.pwr.level)
        else if projAtLeast d a (oget s 0x4000 2) (oget s 0x4000 1) 98 = false ∧ 10 ≤ s.pwr.sinceUp + 1 ∧ 10 ≤ g then s.pwr.level - 1
        else s.pwr.level) ∧
      t.pwr.point = s.pwr.point ∧ t.pwr.thermal = s.pwr.thermal ∧ t.mem = s.mem ∧ t.tcs = s.tcs) ∧
  (∀ s : State, powerOn s = true → oget s 0x4000 3 = 1 →
    ∃ t, exec .capControlStep s = .next t ∧ t.pwr.level = (2600 - oget s 0x4000 1 + 199) / 200 ∧
      t.pwr.point = s.pwr.point ∧ t.mem = s.mem ∧ t.tcs = s.tcs) ∧
  (∀ (l e : List Nat) (s : State), powerOn s = true → e = ((upto 0 16).map fun w => if diePresent s w then l.getD w 0 else 0) →
    ∃ t, exec (.fastLimiterEngage l) s = .next t ∧ t.pwr.est = e ∧ t.pwr.fastOn = (s.pwr.fastOn || decide (2900000 < e.sum)) ∧
      t.pwr.level = s.pwr.level ∧ t.pwr.guardAdd = s.pwr.guardAdd ∧ t.mem = s.mem ∧ t.tcs = s.tcs ∧
      (s.pwr.fastOn = false → 2900000 < e.sum → t.pwr.sinceGuard = 0 ∧ (oget s 0x4010 6 + 1 < 2 ^ 32 → oget t 0x4010 6 = oget s 0x4010 6 + 1)) ∧
      ((s.pwr.fastOn = true ∨ e.sum ≤ 2900000) → t.pwr.sinceGuard = s.pwr.sinceGuard ∧ oget t 0x4010 6 = oget s 0x4010 6)) ∧
  (∀ s : State, powerOn s = true → s.pwr.fastOn = true →
    ∃ t, exec .fastLimiterRelease s = .next t ∧ t.pwr.fastOn = false ∧ t.pwr.level = s.pwr.level ∧ t.mem = s.mem) ∧
  (∀ s : State, s.pwr.fastOn = false → exec .fastLimiterRelease s = .next s) ∧
  (∀ s : State, powerOn s = true → s.pwr.guardOn = false → s.pwr.guardAdd ≠ 0 →
    ∃ t, exec .supplyGuardRelease s = .next t ∧ t.pwr.guardAdd = s.pwr.guardAdd - 1 ∧ t.pwr.sinceGuard = 0 ∧ t.pwr.level = s.pwr.level ∧ t.mem = s.mem) ∧
  (∀ s : State, (s.pwr.guardOn = true ∨ s.pwr.guardAdd = 0) → exec .supplyGuardRelease s = .next s) ∧
  (∀ (d k : Nat) (s : State), d < 6 → powerOn s = true → tget 0 s.pwr.target d = k + 1 →
    ∃ t, exec (.opChangeComplete d) s = .next t ∧ t.pwr.point = tset 0 s.pwr.point d k ∧ t.pwr.level = s.pwr.level ∧ t.tcs = s.tcs ∧ t.mem = s.mem) ∧
  (∀ (d : Nat) (s : State), d < 6 → tget 0 s.pwr.target d = 0 → exec (.opChangeComplete d) s = .next s) ∧
  (∀ (v : Nat) (s : State), exec (.powerCapWrite v) s = .next (if v < 700 ∨ 2600 < v ∨ (oget s 0x4000 3 = 1 ∧ v < 1200) then s else oset s 0x4000 1 v)) ∧
  (∀ (v : Nat) (s : State), exec (.powerModeWrite v) s = .next (if 1 < v ∨ (v = 1 ∧ oget s 0x4000 1 < 1200) then s else oset s 0x4000 3 v)) ∧
  (∀ (x y : List Int) (u s : State), powerOn s = true → twf 0 s.pwr.thermal = true → twf 0 s.pwr.thermAge = true →
    u = { s with pwr := { s.pwr with dieTemps := x.take 16, hbmTemps := y.take 24 } } →
    ∃ t, exec (.thermalStep x y) s = .next t ∧ t.pwr.level = s.pwr.level ∧ t.pwr.point = s.pwr.point ∧ t.mem = s.mem ∧ t.tcs = s.tcs ∧
      (∀ d, d < 6 → cdPresent s d = false → tget 0 t.pwr.thermal d = tget 0 s.pwr.thermal d) ∧
      (∀ d l a, d < 6 → cdPresent s d = true → l = tget 0 s.pwr.thermal d → a = min 10 (tget 0 s.pwr.thermAge d + 1) →
        (hotCd u d 0 = true → tget 0 t.pwr.thermal d = (if l < 22 then l + 1 else l)) ∧
        (hotCd u d 299 = true → hotCd u d 0 = false → tget 0 t.pwr.thermal d = l) ∧
        (hotCd u d 299 = false → tget 0 t.pwr.thermal d = (if 10 ≤ a ∧ 0 < l then l - 1 else l)))) ∧
  (∀ (k : Nat) (c : Int) (s : State), k < 40 → tripUnit s k = true → (if k < 16 then 11000 else 9500) ≤ c →
    (inReset s = false ∨ s.boot.phase = .goingDown ∨ s.boot.phase = .failed) → exec (.thermalTrip k c) s =
      .next (record 0x0402 k (i32 c) 0 (packageReset 5 (emit .thermTrip { s with boot := { s.boot with thermTrip := true } })))) ∧
  (∀ (k : Nat) (c : Int) (s : State), k < 40 → (tripUnit s k = false ∨ c < (if k < 16 then 11000 else 9500) ∨
    (inReset s = true ∧ s.boot.phase ≠ .goingDown ∧ s.boot.phase ≠ .failed)) → exec (.thermalTrip k c) s = .next s) ∧
  (∀ (w m : Nat) (s : State), w < 16 → oget s 0x4200 5 ≤ 2 * m → exec (.lapSlackCheck w m) s = .next s) ∧
  (∀ (w m v : Nat) (s : State), w < 6 → powerOn s = true → diePresent s w = true → 2 * m < oget s 0x4200 5 →
    v = voltAt s w (tget 0 s.pwr.point w) + tget 0 s.pwr.boost w →
    ∃ t, exec (.lapSlackCheck w m) s = .next t ∧ t.pwr.replan = true ∧ t.pwr.wantPlan = (s.pwr.replan || s.pwr.wantPlan) ∧
      t.pwr.level = s.pwr.level ∧ t.mem = s.mem ∧
      (v < 800 → t.pwr.boost = tset 0 s.pwr.boost w (tget 0 s.pwr.boost w + min 10 (800 - v)) ∧ t.pwr.lap = s.pwr.lap) ∧
      (800 ≤ v → t.pwr.boost = s.pwr.boost ∧ t.pwr.lap = tset 0 s.pwr.lap w (min 22 (levelOf s w + 1)))) ∧
  (∀ (w m : Nat) (s : State), (w = 12 ∨ w = 13) → powerOn s = true → diePresent s w = true → 2 * m < oget s 0x4200 5 →
    ∃ t, exec (.lapSlackCheck w m) s = .next t ∧ t.pwr.replan = true ∧ t.pwr.level = s.pwr.level ∧ t.mem = s.mem ∧
      ((t.pwr.boost = tset 0 s.pwr.boost w (tget 0 s.pwr.boost w + 10) ∧ t.pwr.lap = s.pwr.lap) ∨
       (t.pwr.boost = s.pwr.boost ∧ t.pwr.lap = tset 0 s.pwr.lap w 1))) ∧
  (∀ (w m : Nat) (s : State), w < 16 → (diePresent s w = false ∨ 5 < w ∧ w ≠ 12 ∧ w ≠ 13) → exec (.lapSlackCheck w m) s = .next s) ∧
  (∀ (b : Bool) (s : State), (b = false ∨ s.pwr.replan = true) → exec (.replanCmd b) s = .next s) ∧
  (∀ (b : Bool) (s : State), objectsOpen s = false → exec (.replanCmd b) s = .next s) ∧
  (∀ s : State, powerOn s = true → s.pwr.replan = false →
    (objectsOpen s = true → exec (.replanCmd true) s = .next (oset { s with pwr := { s.pwr with replan := true } } 0x4200 3 1)) ∧
    (s.flash.replanHours + 1000 ≤ s.flash.hours → exec .replanTimer s = .next (oset { s with pwr := { s.pwr with replan := true } } 0x4200 3 1)) ∧
    (s.flash.hours < s.flash.replanHours + 1000 → exec .replanTimer s = .next s)) ∧
  (∀ (q : List (Nat × Nat × Nat)) (f : List (Nat × Int)) (s : State), powerOn s = true → s.pwr.replan = true →
    ∃ t, exec (.replanComplete q f) s = .next t ∧ t.pwr.replan = s.pwr.wantPlan ∧ t.pwr.wantPlan = false ∧ t.pwr.lap = [] ∧ t.pwr.boost = [] ∧
      t.flash.replanHours = s.flash.hours ∧ t.flash.volts = t.pwr.volts ∧ t.mem = s.mem) ∧
  (∀ (w p r : Nat) (s : State), powerOn s = true → s.pwr.replan = true → (w < 6 ∧ p < 8 ∨ (w = 12 ∨ w = 13) ∧ p < 6) → diePresent s w = true →
    ∃ t, exec (.replanComplete [(w, p, r)] []) s = .next t ∧ t.pwr.volts = tset 0 s.pwr.volts (16 * w + p)
      (if vMax w < (r + oget s 0x4200 5 + 4) / 5 * 5 then 1 else (r + oget s 0x4200 5 + 4) / 5 * 5 + 1)) ∧
  (∀ (q : List (Nat × Nat × Nat)) (f : List (Nat × Int)) (s : State), s.pwr.replan = false → exec (.replanComplete q f) s = .next s) ∧
  (∀ s : State, powerOn s = true → oget s 0x4200 1 + 1 < 2 ^ 32 → exec .poweredHour s = .next { oset s 0x4200 1 (oget s 0x4200 1 + 1) with
    flash := { s.flash with hours := oget s 0x4200 1 + 1, volts := s.pwr.volts } })

/-! Claryn -/

/-- R426 to R439: each service answers a request with the object's value, its row, the next object or a status, and keeps what R438 says; a write applies
the value or answers why not; a segment goes on with its session; a retry is answered as before; a message served later waits for those before it. Says that these
commands complete: read, write, readSeg, writeSeg, describe, next, abort, serviceUnknown, segmentSessionTimeout. -/
def Obligations.ClarynServicesAnswerRequests : Prop :=
  (∀ (r : Req) (v l : List Byte) (o k n : Nat) (d : Bool) (s : State), viaOk r.via = true → serving s = false →
    exec (.read r) s = .next s ∧ exec (.write r v) s = .next s ∧ exec (.readSeg r o) s = .next s ∧ exec (.writeSeg r o k l) s = .next s ∧
    exec (.describe r) s = .next s ∧ exec (.next r) s = .next s ∧ exec (.abort r) s = .next s ∧ exec (.serviceUnknown r n d) s = .next s) ∧
  (∀ (r : Req) (m : Msg) (w : Row) (t s : State), m = rowMsg r 1 → Heard s t r.via m → objGate t m.index m.sub = .ok w →
    (w.acc = 3 → exec (.read r) s = .next (answeredWith r.via m (failWith t r.via m 2) t t)) ∧
    (w.acc ≠ 3 → 56 < (objRead t w m.sub).length → exec (.read r) s = .next (answeredWith r.via m (failWith t r.via m 5) t t)) ∧
    (w.acc ≠ 3 → (objRead t w m.sub).length ≤ 56 →
      exec (.read r) s = .next (answeredWith r.via m ⟨0, m.index, m.sub, 0, 0, objRead t w m.sub⟩ t t))) ∧
  (∀ (r : Req), ∀ p ∈ ([(1, .read r), (5, .describe r), (7, .abort r)] : List (Nat × Instr)), ∀ (m : Msg) (c : Nat) (t s : State), m = rowMsg r p.1 →
    Heard s t r.via m → objGate t m.index m.sub = .error c → exec p.2 s = .next (answeredWith r.via m (failWith t r.via m c) t t)) ∧
  (∀ (i k : Nat) (t : State), (findRow i k = none → objGate t i k = .error 1) ∧
    (∀ w, findRow i k = some w → unitThere t w.unit (k - w.sub) = false → objGate t i k = .error 1) ∧
    (∀ w, findRow i k = some w → unitThere t w.unit (k - w.sub) = true → t.boot.phase = .held → servedHeld i = false → objGate t i k = .error 8) ∧
    (∀ w, findRow i k = some w → unitThere t w.unit (k - w.sub) = true → (t.boot.phase ≠ .held ∨ servedHeld i = true) → objGate t i k = .ok w)) ∧
  (∀ (r : Req) (v : List Byte) (m : Msg) (c : Nat) (g : State → State) (t u s : State), m = { rowMsg r 2 with len := v.length, data := v } →
    v.length ≤ 56 → Heard s t r.via m → objWrite m.index m.sub v t = (c, u, g) →
    exec (.write r v) s = .next (g (answeredWith r.via m (failWith t r.via m c) t u))) ∧
  (∀ (r : Req) (v : List Byte) (m : Msg) (t s : State), m = { rowMsg r 2 with len := v.length, data := v, ok := false } → 56 < v.length →
    Heard s t r.via m → exec (.write r v) s = .next (answeredWith r.via m (failWith t r.via m 9) t t)) ∧
  (∀ (i k : Nat) (l : List Byte) (w : Row) (t : State), objGate t i k = .ok w →
    ((w.acc = 0 ∨ w.acc = 1) → objWrite i k l t = (3, t, id)) ∧ (w.acc = 4 → objWrite i k l t = (4, t, id)) ∧
    (1 < w.acc → w.acc ≠ 4 → valueStatus w k l ≠ 0 → objWrite i k l t = (valueStatus w k l, t, id)) ∧
    (1 < w.acc → w.acc ≠ 4 → valueStatus w k l = 0 →
      i ∉ [0x1106, 0x1F00, 0x4000, 0x4010, 0x4200, 0x5010, 0x5020, 0x5030, 0x5060, 0x6000, 0x6001, 0x6002, 0x6003, 0x6010] →
      objWrite i k l t = (0, if 8 ≤ w.ty then octSet t i k l else oset t i k (leNat l), id))) ∧
  (∀ (r : Req) (m : Msg) (w : Row) (l : List Byte) (n : Nat) (t s : State), m = rowMsg r 3 → Heard s t r.via m → objGate t m.index m.sub = .ok w →
    w.acc ≠ 3 → sessOf t r.via = none → t.cla.sess.length < 32 → l = objRead t w m.sub → n = min l.length (segSize r.via) →
    ∃ u, exec (.readSeg r 0) s = .next (answeredWith r.via m ⟨0, m.index, m.sub, n, l.length, l.take n⟩ t u) ∧
      sessOf u r.via = (if l.length ≤ n then none else some ⟨r.via, objKey m.index m.sub, false, l.length, n, l⟩) ∧
      u.obj = t.obj ∧ u.oct = t.oct ∧ u.mem = s.mem) ∧
  (∀ (r : Req) (o n : Nat) (m : Msg) (w : Row) (e : Sess) (t s : State), m = { rowMsg r 3 with off := o } → Heard s t r.via m →
    objGate t m.index m.sub = .ok w → o ≠ 0 → sessOf t r.via = some e → e.key = objKey m.index m.sub → e.write = false →
    n = min (e.total - o) (segSize r.via) →
    (o ≠ e.nextOff → exec (.readSeg r o) s = .next (answeredWith r.via m (failWith t r.via m 10) t t)) ∧
    (o = e.nextOff → exec (.readSeg r o) s = .next (answeredWith r.via m ⟨0, m.index, m.sub, o + n, e.total, (e.data.drop o).take n⟩ t
      (if e.total ≤ o + n then dropSess r.via t else putSess { e with nextOff := o + n } t)))) ∧
  (∀ (r : Req) (o k n : Nat) (d : List Byte) (m : Msg) (w : Row) (e : Sess) (t s : State), m = { rowMsg r 4 with off := o, total := k, data := d } →
    Heard s t r.via m → objGate t m.index m.sub = .ok w → o ≠ 0 → sessOf t r.via = some e → e.key = objKey m.index m.sub → e.write = true →
    o = e.nextOff → n = min (e.total - o) (segSize r.via) → d.length = n →
    (o + n < e.total → exec (.writeSeg r o k d) s = .next (answeredWith r.via m ⟨0, m.index, m.sub, o + n, e.total, []⟩ t
      (putSess { e with nextOff := o + n, data := e.data ++ d } t))) ∧
    (∀ c u g, e.total ≤ o + n → objWrite m.index m.sub (e.data ++ d) (dropSess r.via t) = (c, u, g) →
      exec (.writeSeg r o k d) s = .next (g (answeredWith r.via m ⟨c, m.index, m.sub, o + n, e.total, []⟩
        t u)))) ∧
  (∀ (r : Req) (k n : Nat) (d : List Byte) (m : Msg) (w : Row) (t s : State), m = { rowMsg r 4 with off := 0, total := k, data := d } →
    Heard s t r.via m → objGate t m.index m.sub = .ok w → k ≤ w.len → (w.ty < 8 → k = w.len) → sessOf t r.via = none → t.cla.sess.length < 32 →
    n = min k (segSize r.via) → d.length = n → n < k →
    ∃ u, exec (.writeSeg r 0 k d) s = .next (answeredWith r.via m ⟨0, m.index, m.sub, n, k, []⟩ t u) ∧
      sessOf u r.via = some ⟨r.via, objKey m.index m.sub, true, k, n, d⟩ ∧ u.obj = t.obj ∧ u.oct = t.oct ∧ u.mem = s.mem) ∧
  (∀ (r : Req) (k : Nat) (d : List Byte) (m : Msg) (w : Row) (t s : State), m = { rowMsg r 4 with off := 0, total := k, data := d } →
    Heard s t r.via m → objGate t m.index m.sub = .ok w → (w.len < k ∨ (w.ty < 8 ∧ k ≠ w.len)) →
    exec (.writeSeg r 0 k d) s = .next (answeredWith r.via m (failWith t r.via m 5) t t)) ∧
  (∀ (r : Req) (m : Msg) (w : Row) (t s : State), m = rowMsg r 5 → Heard s t r.via m → objGate t m.index m.sub = .ok w →
    exec (.describe r) s = .next (answeredWith r.via m ⟨0, m.index, m.sub, 0, 0, describeBytes t w m.sub⟩ t t)) ∧
  (∀ (w : Row) (k : Nat) (t : State), (describeBytes t w k).length = 56) ∧
  (∀ (r : Req) (m : Msg) (t s : State), m = rowMsg r 6 → Heard s t r.via m →
    (∀ o, nextObject t m.index m.sub = some o → exec (.next r) s = .next (answeredWith r.via m ⟨0, o.1, o.2, 0, 0, []⟩ t t)) ∧
    (nextObject t m.index m.sub = none → exec (.next r) s = .next (answeredWith r.via m (failWith t r.via m 1) t t))) ∧
  (∀ (i k a b : Nat) (t : State), nextObject t i k = some (a, b) → objKey i k < objKey a b ∧
    ∃ w ∈ dictRows, w.index = a ∧ w.sub ≤ b ∧ b < w.sub + w.count ∧ unitThere t w.unit (b - w.sub) = true) ∧
  (∀ (r : Req) (m : Msg) (w : Row) (t s : State), m = rowMsg r 7 → Heard s t r.via m → objGate t m.index m.sub = .ok w →
    exec (.abort r) s = .next (answeredWith r.via m (failWith t r.via m 0) t
      (if (sessOf t r.via).any (fun e => decide (e.key = objKey m.index m.sub)) then discardSess r.via t else t))) ∧
  (∀ (r : Req) (n : Nat) (d : Bool) (m : Msg) (t s : State), m = { rowMsg r (n % 128) with dir := d } → Heard s t r.via m →
    (d = true ∨ n % 128 = 0 ∨ 7 < n % 128) →
    exec (.serviceUnknown r n d) s = .next (answeredWith r.via m (failWith t r.via m 9) t t)) ∧
  (∀ (r : Req) (n : Nat) (s : State), viaOk r.via = true → 1 ≤ n → n ≤ 7 → exec (.serviceUnknown r n false) s = .next s) ∧
  (∀ (r : Req) (m : Msg) (k : Kept) (x : Bool × State) (t s : State), m = rowMsg r 1 → serving s = true → s.cla.waiting = [] → viaOk r.via = true →
    viaOpen s r.via = true → viaBarred s r.via = false → x = ageBit (bumpObj 0x1105 2 64 1 s) → t = x.2 →
    keptFor t r.via m x.1 = some k → viaCan r.via = false →
    exec (.read r) s = .next (emit k.resp (keep { k with frame := keptAt t } t))) ∧
  (∀ (m : Msg) (via : Via) (k : Kept) (o : Bool) (s : State), keptFor s via m o = some k → s.tb.on = true → k.frame.isSome = true →
    ∃ f, k.frame = some f ∧ frameNow s ≤ f + framesIn s 2) ∧
  (∀ (r : Req) (s : State), serving s = true → viaOk r.via = true →
    (viaOpen s r.via = false → exec (.read r) s = .next s) ∧
    (viaOpen s r.via = true → viaBarred s r.via = true → exec (.read r) s = .next (bumpObj 0x1105 1 32 1 s))) ∧
  (∀ (t : State) (via : Via) (m : Msg) (c : Nat) (e : Sess),
    (isSeg m.svc = false → failWith t via m c = ⟨c, m.index, m.sub, 0, 0, []⟩) ∧
    (sessOf t via = none → failWith t via m c = ⟨c, m.index, m.sub, 0, 0, []⟩) ∧
    (sessOf t via = some e → isSeg m.svc = true → e.key = objKey m.index m.sub → e.write = decide (m.svc = 4) →
      failWith t via m c = ⟨c, m.index, m.sub, e.nextOff, e.total, []⟩)) ∧
  (∀ (r : Req) (m : Msg) (e : Via × List Byte) (t s : State), m = rowMsg r 1 → serving s = true → viaOk r.via = true → s.cla.waiting = [e] →
    viaOpen s r.via = true → viaBarred s r.via = false →
    t = { s with cla := { s.cla with waiting := [] } } →
    exec (.read r) s = .next (if sameMsg r.via m e then serveMsg e.1 (parseMsg e.2) t else serveMsg r.via m (serveMsg e.1 (parseMsg e.2) t))) ∧
  (∀ (v : Via) (s : State), (serving s = true → exec (.segmentSessionTimeout v) s = .next { s with cla := { s.cla with
      sess := s.cla.sess.filter fun e => decide (e.via ≠ v) } }) ∧
    (serving s = false → exec (.segmentSessionTimeout v) s = .next s))

/-- R432, R440 to R450: a frame, a datagram or a doorbell that fits waits for service, one that does not is counted or leaves no trace; ARP, ICMP and DHCP
are answered; heartbeats go out; values are stored in the bank not in use; a reset or the release of a hold enters package reset; errors on CAN FD
move its state. The DHCP kinds are those of RFC 2131 and the error counts those of ISO 11898-1 (log 27, log 28). Says that these commands complete:
canFrame, udpDatagram, mailboxDoor, arpRequest, icmpEcho, dhcpMessage, dhcpRetry, dhcpLeaseExpiry, ethLinkChange, heartbeat, storeCmd, storeDefaults,
storeComplete, resetCmd, holdRelease, canErrorDetected, canBusOffRecovery. -/
def Obligations.ClarynTransportsStoresAndResets : Prop :=
  (∀ (i : Nat) (fd x : Bool) (l : List Byte) (s : State), (serving s = false ∨ fd = false ∨ x = true ∨ s.boot.canNode = 0 ∨ oget s 0x1100 3 = 2) →
    exec (.canFrame i fd x l) s = .next s) ∧
  (∀ (i n : Nat) (l : List Byte) (t s : State), serving s = true → n = s.boot.canNode.toNat → n ≠ 0 → oget s 0x1100 3 ≠ 2 →
    t = canSettle { s with cla := { s.cla with rec_ := if 127 < s.cla.rec_ then 127 else s.cla.rec_ - 1 } } →
    (i = 0x280 + n → 8 ≤ l.length → s.cla.waiting.length < 64 → exec (.canFrame i true false l) s = .next { t with cla := { t.cla with
      waiting := t.cla.waiting ++ [(.can (leAt l 2 1), l.take 64)] } }) ∧
    ((i ≠ 0x280 + n ∨ l.length < 8) → i ≠ 0x100 + n → i ≠ 0x200 + n → i ≠ 0x300 + n → exec (.canFrame i true false l) s = .next t) ∧
    ((i = 0x100 + n ∨ i = 0x200 + n ∨ i = 0x300 + n) → oget t 0x1100 3 ≠ 3 →
      exec (.canFrame i true false l) s = .next (clarynEvent 0x1100 3 3 (oset t 0x1100 3 3)))) ∧
  (∀ (a p : Nat) (l : List Byte) (s : State), (serving s = false ∨ oget s 0x1101 6 = 0) → exec (.udpDatagram a p l) s = .next s) ∧
  (∀ (a p : Nat) (l : List Byte) (s : State), serving s = true → oget s 0x1101 6 ≠ 0 →
    (l.take 4 = [0xE9, 0xC1, 1, 0] → 12 ≤ l.length → l.length ≤ 1044 → sourceAllowed s a = true → s.cla.waiting.length < 64 →
      exec (.udpDatagram a p l) s = .next { s with cla := { s.cla with waiting := s.cla.waiting ++ [(.udp a p, l.drop 4)] } }) ∧
    ((l.take 4 ≠ [0xE9, 0xC1, 1, 0] ∨ l.length < 12 ∨ 1044 < l.length ∨ sourceAllowed s a = false) → oget s 0x1105 1 + 1 < 2 ^ 32 →
      exec (.udpDatagram a p l) s = .next (oset s 0x1105 1 (oget s 0x1105 1 + 1)))) ∧
  (∀ (c : Nat) (v : W64) (b : Mbox) (s : State), c < 2 → b = mboxAt s c →
    ((s.boot.claryn && !(inReset s)) = false → exec (.mailboxDoor c v) s = .next s) ∧
    (s.boot.claryn = true → inReset s = false → (b.busy = true ∨ fld 12 0 v < 8 ∨ 4096 < fld 12 0 v) →
      exec (.mailboxDoor c v) s = .next (mboxPut c { b with ovr := true } s)) ∧
    (∀ t, s.boot.claryn = true → inReset s = false → b.busy = false → 8 ≤ fld 12 0 v → fld 12 0 v ≤ 4096 →
      t = mboxPut c { b with busy := true, done := false } s →
      exec (.mailboxDoor c v) s = .next { t with cla := { t.cla with waiting := t.cla.waiting ++ [(.mailbox c, mbReqBytes s c (fld 12 0 v))] } })) ∧
  (∀ (a b : Nat) (l : List Byte) (s : State), (serving s = true → oget s 0x1101 6 = a → a ≠ 0 →
      exec (.arpRequest a b) s = .next { s with out := .arpReply b :: s.out } ∧
      exec (.icmpEcho a b l) s = .next { s with out := .icmpReply b l :: s.out }) ∧
    ((serving s = false ∨ oget s 0x1101 6 = 0 ∨ oget s 0x1101 6 ≠ a) → exec (.arpRequest a b) s = .next s ∧ exec (.icmpEcho a b l) s = .next s)) ∧
  (∀ (k a n : Nat) (s : State), (serving s && s.cla.dhcp) = false → exec (.dhcpMessage k a n) s = .next s ∧ exec .dhcpRetry s = .next s) ∧
  (∀ (k a n : Nat) (s : State), serving s = true → s.cla.dhcp = true →
    (k = 2 → s.cla.lease = false →
      exec (.dhcpMessage k a n) s = .next { s with cla := { s.cla with offered := a }, out := .dhcpRequest :: s.out }) ∧
    (k = 5 → s.cla.offered ≠ 0 →
      exec (.dhcpMessage k a n) s = .next (oset { s with cla := { s.cla with lease := true } } 0x1101 6 (a % 2 ^ 32))) ∧
    (k = 6 → ∃ t, exec (.dhcpMessage k a n) s = .next t ∧ t.out = .dhcpDiscover :: s.out ∧
      t.cla = { s.cla with lease := false, offered := 0 } ∧ t.obj = (oset s 0x1101 6 0).obj) ∧
    (s.cla.lease = false → exec .dhcpRetry s = .next { s with out := .dhcpDiscover :: s.out }) ∧
    (s.cla.lease = true → exec .dhcpRetry s = .next s)) ∧
  (∀ s : State, serving s = true → s.cla.lease = true →
    exec (.dhcpLeaseExpiry false) s = .next { s with out := .dhcpRequest :: s.out } ∧
    exec (.dhcpLeaseExpiry true) s = .next (oset { s with cla := { s.cla with lease := false, offered := 0 } } 0x1101 6 0)) ∧
  (∀ (b : Bool) (s : State), (serving s && s.cla.lease) = false → exec (.dhcpLeaseExpiry b) s = .next s) ∧
  (∀ (v : Nat) (s : State), exec (.ethLinkChange v) s = .next (if serving s = true ∧ v < 3 then oset s 0x1101 7 v else s)) ∧
  (∀ s : State, serving s = false → exec .heartbeat s = .next s ∧ exec .storeCmd s = .next s ∧ exec .storeDefaults s = .next s ∧
    (∀ b, exec (.storeComplete b) s = .next s) ∧ (∀ v, exec (.resetCmd v) s = .next s) ∧ (∀ b, exec (.holdRelease b) s = .next s) ∧
    (∀ b, exec (.canErrorDetected b) s = .next s) ∧ exec .canBusOffRecovery s = .next s) ∧
  (∀ s : State, serving s = true →
    (s.boot.canNode = 0 → oget s 0x1101 6 = 0 →
      exec .heartbeat s = .next { s with cla := { s.cla with hbSeq := (s.cla.hbSeq + 1) % 2 ^ 32 } }) ∧
    (s.boot.canNode ≠ 0 → oget s 0x1100 3 < 2 → oget s 0x1101 6 = 0 →
      ∃ t, exec .heartbeat s = .next t ∧ t.out = .heartbeat 0 (now s) s.chips.chipId (runState s) 0 s.flash.incarnation s.cla.hbSeq s.tb.state (hbFlags s)
        (wireOf s 0 0x300 (ownMsg 0x20 0 0 (heartbeatValue s (runState s) 0 s.cla.hbSeq))) :: s.out ∧
        t.cla.hbSeq = (s.cla.hbSeq + 1) % 2 ^ 32 ∧ t.boot = s.boot ∧ t.mem = s.mem)) ∧
  (∀ s : State, serving s = true → oget s 0x1106 2 = 1 → exec .storeCmd s = .next s ∧ exec .storeDefaults s = .next s) ∧
  (∀ s : State, serving s = true → oget s 0x1106 2 ≠ 1 →
    exec .storeCmd s = .next { oset s 0x1106 2 1 with cla := { s.cla with storing := 1, storeNums := storeNums s, storeOcts := storeOcts s } } ∧
    exec .storeDefaults s = .next { oset s 0x1106 2 1 with cla := { s.cla with storing := 2, storeNums := [], storeOcts := [] } }) ∧
  (∀ (b : Bool) (s : State), serving s = true → s.cla.storing = 0 → exec (.storeComplete b) s = .next s) ∧
  (∀ (k b : CfgBank) (s : State), serving s = true → s.cla.storing ≠ 0 → cfgBank s = some k → b = ⟨k.seq + 1, true, s.cla.storeNums, s.cla.storeOcts⟩ →
    ∃ t, exec (.storeComplete true) s = .next t ∧ t.cla.storing = 0 ∧
      t.flash = (if k = s.flash.cfg0 then { s.flash with cfg1 := b } else { s.flash with cfg0 := b }) ∧ oget t 0x1106 2 = 2 ∧ t.mem = s.mem) ∧
  (∀ s : State, serving s = true → s.cla.storing ≠ 0 → cfgBank s = none → ∃ t, exec (.storeComplete true) s = .next t ∧ t.cla.storing = 0 ∧
    t.flash = { s.flash with cfg0 := ⟨1, true, s.cla.storeNums, s.cla.storeOcts⟩ } ∧ oget t 0x1106 2 = 2 ∧ t.mem = s.mem) ∧
  (∀ s : State, serving s = true → s.cla.storing ≠ 0 → ∃ t, exec (.storeComplete false) s = .next t ∧ t.cla.storing = 0 ∧ oget t 0x1106 2 = 3 ∧
    cfgBank t = cfgBank s ∧ t.mem = s.mem) ∧
  (∀ (v : Nat) (s : State), serving s = true → exec (.resetCmd v) s = .next (if v = 0xE9 then record 0x0401 0 1 4 (packageReset 2 s) else s)) ∧
  (∀ s : State, exec (.holdRelease false) s = .next s) ∧
  (∀ s : State, s.boot.phase ≠ .held → exec (.holdRelease true) s = .next s) ∧
  (∀ s : State, serving s = true → s.boot.phase = .held → exec (.holdRelease true) s = .next (record 0x0401 0 2 4 (packageReset 2 (oset { s with
    flash := { s.flash with storms := [] }, faults := { s.faults with stormsKept := [], stormHold := false } } 0x7002 6 0)))) ∧
  (∀ (b : Bool) (s : State), (s.boot.canNode = 0 ∨ 2 ≤ oget s 0x1100 3) → exec (.canErrorDetected b) s = .next s) ∧
  (∀ s : State, serving s = true → s.boot.canNode ≠ 0 → oget s 0x1100 3 < 2 →
    (s.cla.tec + 8 ≤ 255 → exec (.canErrorDetected true) s = .next (canSettle { s with cla := { s.cla with tec := s.cla.tec + 8 } })) ∧
    (s.cla.tec ≤ 255 → exec (.canErrorDetected false) s = .next (canSettle { s with cla := { s.cla with rec_ := min 255 (s.cla.rec_ + 1) } })) ∧
    (255 < s.cla.tec + 8 → ∃ t, exec (.canErrorDetected true) s = .next t ∧ oget t 0x1100 3 = 2 ∧ t.mem = s.mem)) ∧
  (∀ s : State, serving s = true → (oget s 0x1100 3 = 2 → exec .canBusOffRecovery s = .next (oset { s with cla := { s.cla with tec := 0, rec_ := 0 } } 0x1100 3 0)) ∧
    (oget s 0x1100 3 ≠ 2 → exec .canBusOffRecovery s = .next s))

/-! The security controller -/

/-- R461 to R477: an update is checked when it is commanded and lands in the other slot; a commit is judged in the table's order and its sixteenth, eighth
or fourth failure in a row raises the alarm; a report is made of a nonce of 32 bytes; a key enters its slot whole when its tag holds; the alarm, the
watchdogs and the debugger act as their rules say. Whether flash could be written is an operand; the identity key and the random numbers of its signatures are constants without a value (log 29).
Says that these commands complete: fwUpdateCmd, fwUpdateComplete, protCommit, attNonce, keyLoad, debugChallengeRead, debugUnlock, glitchDetected,
watchdogExpiry, controllerCheckFailure, debugPortAccess. -/
def Obligations.SecurityControllerActs : Prop :=
  (∀ (v : Nat) (a b : Bool) (l o d k : List Byte) (s : State), secOn s = false →
    exec (.fwUpdateCmd v) s = .next s ∧ exec (.fwUpdateComplete a) s = .next s ∧ exec (.protCommit a b) s = .next s ∧ exec (.attNonce l) s = .next s ∧
    exec (.keyLoad l) s = .next s ∧ exec .debugChallengeRead s = .next s ∧ exec (.debugUnlock v o d k) s = .next s) ∧
  (∀ (v : Nat) (b c : Bool) (l : List Byte) (s : State), objectsOpen s = false →
    exec (.fwUpdateCmd v) s = .next s ∧ exec (.protCommit b c) s = .next s ∧ exec (.attNonce l) s = .next s ∧ exec (.keyLoad l) s = .next s) ∧
  (∀ (v : Nat) (s : State), (v ≠ 1 ∨ oget s 0x5030 4 = 1) → exec (.fwUpdateCmd v) s = .next s) ∧
  (∀ (f : FwSlot) (s : State), secOn s = true → objectsOpen s = true → oget s 0x5030 4 ≠ 1 →
    (stageOk s (oget s 0x5030 1) (oget s 0x5030 2) = true → f = cutImage (memBytes s (oget s 0x5030 1) (oget s 0x5030 2)) →
      exec (.fwUpdateCmd 1) s = .next { oset s 0x5030 4 1 with sec := { s.sec with staged := some f, stagedCode := imageCode s f } }) ∧
    (stageOk s (oget s 0x5030 1) (oget s 0x5030 2) = false →
      exec (.fwUpdateCmd 1) s = .next { oset s 0x5030 4 1 with sec := { s.sec with staged := none, stagedCode := 0x12 } })) ∧
  (∀ (b : Bool) (s : State), oget s 0x5030 4 ≠ 1 → exec (.fwUpdateComplete b) s = .next s) ∧
  (∀ (b : Bool) (u s : State), secOn s = true → oget s 0x5030 4 = 1 → u = { s with sec := { s.sec with staged := none, stagedCode := 0 } } →
    (s.sec.staged = none → exec (.fwUpdateComplete b) s = .next (oset u 0x5030 4 0x12)) ∧
    (∀ f, s.sec.staged = some f → s.sec.stagedCode ≠ 0 → exec (.fwUpdateComplete b) s = .next (oset u 0x5030 4 s.sec.stagedCode)) ∧
    (∀ f, s.sec.staged = some f → s.sec.stagedCode = 0 → exec (.fwUpdateComplete true) s = .next { oset u 0x5030 4 2 with
      flash := if s.boot.slotBooted = 0 then { s.flash with slotB := { f with state := 1 } } else { s.flash with slotA := { f with state := 1 } } }) ∧
    (∀ f, s.sec.staged = some f → s.sec.stagedCode = 0 → ∃ t, exec (.fwUpdateComplete false) s = .next t ∧ oget t 0x5030 4 = 0x13 ∧
      (if s.boot.slotBooted = 0 then t.flash.slotA = s.flash.slotA ∧ (t.flash.slotB.state = 0 ∨ t.flash.slotB.state = 4)
       else t.flash.slotB = s.flash.slotB ∧ (t.flash.slotA.state = 0 ∨ t.flash.slotA.state = 4)))) ∧
  (∀ (f : FwSlot) (s : State), imageCode s f = (if imgSound s.fuse.fwKeyDigest f = false then 0x10 else if imgRollback f < oget s 0x5002 3 then 0x11 else 0)) ∧
  (∀ (b : Bool) (s : State), exec (.protCommit false b) s = .next s) ∧
  (∀ (b : Bool) (c : Nat) (s : State), secOn s = true → objectsOpen s = true → c = commitCode b s → c ≠ 0 → c ≠ 0x16 → c ≠ 0x17 →
    exec (.protCommit true b) s = .next (oset s 0x5010 5 c)) ∧
  (∀ (b : Bool) (c : Nat) (s : State), secOn s = true → objectsOpen s = true → c = commitCode b s → (c = 0x16 ∨ c = 0x17) →
    (s.sec.badSigs ≠ 7 → exec (.protCommit true b) s = .next { oset s 0x5010 5 c with sec := { s.sec with badSigs := s.sec.badSigs + 1 } }) ∧
    (s.sec.badSigs = 7 → exec (.protCommit true b) s = .next (alarm 2 c false { oset s 0x5010 5 c with sec := { s.sec with badSigs := 0 } }))) ∧
  (∀ s : State, secOn s = true → objectsOpen s = true → commitCode true s = 0 → ∃ t, exec (.protCommit true true) s = .next t ∧ t.fuse.counter = s.fuse.counter + 1 ∧
    oget t 0x5000 2 = s.fuse.counter + 1 ∧ t.sec.badSigs = 0 ∧ t.mem = s.mem ∧
    ((t.flash.sealed0.seq = s.fuse.counter + 1 ∧ sealOk t t.flash.sealed0 = true) ∨ (t.flash.sealed1.seq = s.fuse.counter + 1 ∧ sealOk t t.flash.sealed1 = true)) ∧
    (leAt s.sec.change 0x1C 4 / 2 ≠ 1 → oget t 0x5000 1 = 1)) ∧
  (∀ (b : Bool) (s : State), changeParse s.sec.change = none → commitCode b s = 0x10) ∧
  (∀ (b : Bool) (l : List (Nat × Nat × List Byte)) (s : State), changeParse s.sec.change = some l →
    (slice s.sec.change 8 16 ≠ s.fuse.serial → commitCode b s = 0x11) ∧
    (slice s.sec.change 8 16 = s.fuse.serial → leAt s.sec.change 0x18 4 ≠ oget s 0x5000 2 → commitCode b s = 0x12)) ∧
  (∀ (l : List Byte) (s : State), (l.length ≠ 32 ∨ s.boot.attest = false ∨ idPrivate s = none) → exec (.attNonce l) s = .next s) ∧
  (∀ (l b : List Byte) (d : Nat) (s : State), secOn s = true → objectsOpen s = true → l.length = 32 → s.boot.attest = true → idPrivate s = some d →
    b = reportBody l s → exec (.attNonce l) s = .next { octSet s 0x5020 3 (b ++ identitySign d s.fresh b) with fresh := s.fresh + 1 }) ∧
  (∀ (l : List Byte) (d n : Nat) (s : State), l.length = 32 → (reportBody l s).length = 160 ∧ (identitySign d n l).length = 64) ∧
  (∀ (l : List Byte) (s : State), (l.length ≠ 48 ∨ allZero (slice l 1 3) = false ∨ 63 < leAt l 0 1 ∨ s.sec.odk = none) →
    exec (.keyLoad l) s = .next s) ∧
  (∀ (l : List Byte) (k : BitVec 128) (p : Option (List Byte)) (s : State), secOn s = true → objectsOpen s = true → l.length = 48 → allZero (slice l 1 3) = true →
    leAt l 0 1 ≤ 63 → s.sec.odk = some k →
    p = gcmOpen k (slice l 4 12) (s.fuse.serial ++ leBytes 1 (leAt l 0 1)) (slice l 16 16) (slice l 32 16) →
    (∀ x, p = some x → ∃ t, exec (.keyLoad l) s = .next t ∧ (slotAt t (leAt l 0 1)).keyHi = BitVec.ofNat 64 (beNat (slice x 0 8)) ∧
      (slotAt t (leAt l 0 1)).keyLo = BitVec.ofNat 64 (beNat (slice x 8 8)) ∧ t.sec = { s.sec with badTags := 0 } ∧
      (∀ n, n ≠ leAt l 0 1 → slotAt t n = slotAt s n) ∧ t.mem = s.mem ∧ t.obj = s.obj) ∧
    (p = none → s.sec.badTags ≠ 15 → exec (.keyLoad l) s = .next { s with sec := { s.sec with badTags := s.sec.badTags + 1 } }) ∧
    (p = none → s.sec.badTags = 15 → exec (.keyLoad l) s = .next (alarm 7 (leAt l 0 1) false { s with sec := { s.sec with badTags := 0 } }))) ∧
  (∀ (c : List Byte) (s : State), secOn s = true → c = (Config.challenge s.fresh ++ List.replicate 32 0).take 32 →
    exec .debugChallengeRead s = .next { s with fresh := s.fresh + 1, sec := { s.sec with challenge := c }, out := .challenge c :: s.out }) ∧
  (∀ (v : Nat) (o d k : List Byte) (s : State), secOn s = true →
    (unlockOk v o d k s = true → v < 2 → exec (.debugUnlock v o d k) s = .next (clarynEvent 0x5050 1 (max s.sec.debug v) { s with
      sec := { s.sec with badUnlocks := 0, debug := max s.sec.debug v } })) ∧
    (unlockOk v o d k s = true → 2 ≤ v → ∃ t, exec (.debugUnlock v o d k) s = .next t ∧ t.sec.debug = max s.sec.debug v ∧ t.sec.odk = none ∧
      t.sec.badUnlocks = 0 ∧ (∀ e ∈ t.slots, e.2.keyLo = 0 ∧ e.2.keyHi = 0) ∧ t.mem = s.mem) ∧
    (unlockOk v o d k s = false → s.sec.badUnlocks ≠ 3 →
      exec (.debugUnlock v o d k) s = .next { s with sec := { s.sec with badUnlocks := s.sec.badUnlocks + 1 } }) ∧
    (unlockOk v o d k s = false → s.sec.badUnlocks = 3 →
      exec (.debugUnlock v o d k) s = .next (alarm 3 v false { s with sec := { s.sec with badUnlocks := 0 } }))) ∧
  (∀ (v : Nat) (o d k : List Byte) (s : State), (oget s 0x5002 2 < v ∨ s.sec.challenge = []) → unlockOk v o d k s = false) ∧
  (∀ (d c : Nat) (t s : State), inReset s = false → oget s 0x5030 4 ≠ 1 → (oget s 0x5002 1).testBit 0 = true → t = alarm c d false s →
    t.boot.phase = .goingDown ∧ t.faults.resetReason = 4 ∧ t.flash.fsCount = (s.flash.fsCount + 1) % 2 ^ 32 ∧
      ((oget s 0x5002 1).testBit 1 = true → t.sec.odk = none ∧ ∀ x ∈ t.slots, x.2.keyLo = 0 ∧ x.2.keyHi = 0) ∧
      ((oget s 0x5002 1).testBit 2 = true → t.fuse.idErased = true)) ∧
  (∀ (n k : Nat) (s : State), inReset s = true → s.boot.phase ≠ .goingDown → exec (.glitchDetected n) s = .next s ∧
    exec (.watchdogExpiry true) s = .next s ∧ exec (.controllerCheckFailure true k) s = .next s) ∧
  (∀ (n k : Nat) (s : State), s.boot.phase = .goingDown → (k = 1 ∨ k = 2) → exec (.glitchDetected n) s = .next (logFault 0x0403 4 n 0 s) ∧
    exec (.watchdogExpiry true) s = .next (logFault 0x0403 6 3 0 s) ∧ exec (.controllerCheckFailure true k) s = .next (logFault 0x0403 6 k 0 s) ∧
    (s.boot.claryn = true → exec (.watchdogExpiry false) s = .next (logFault 0x0307 0 3 0 s) ∧
      exec (.controllerCheckFailure false k) s = .next (logFault 0x0307 0 k 0 s))) ∧
  (∀ (k : Nat) (s : State), s.boot.claryn = false → exec (.watchdogExpiry false) s = .next s ∧ exec (.controllerCheckFailure false k) s = .next s) ∧
  (∀ (n k : Nat) (s : State), inReset s = false → exec (.glitchDetected n) s = .next (alarm 4 n (!s.boot.claryn) s) ∧
    exec (.watchdogExpiry true) s = .next (alarm 6 3 false s) ∧
    exec (.watchdogExpiry false) s = .next (if s.boot.claryn then fatal 0x0307 0 3 s else s) ∧
    ((k = 1 ∨ k = 2) → exec (.controllerCheckFailure true k) s = .next (alarm 6 k false s) ∧
      exec (.controllerCheckFailure false k) s = .next (if s.boot.claryn then fatal 0x0307 0 k s else s))) ∧
  (∀ (b : Bool) (k : Nat) (s : State), k ≠ 1 → k ≠ 2 → exec (.controllerCheckFailure b k) s = .next s) ∧
  (∀ (op : DebugOp) (s : State), okDebug op = true → op ≠ .readIdcode → (inReset s = true ∨ s.sec.debug < debugLevel op) →
    exec (.debugPortAccess op) s = .next s) ∧
  (∀ s : State, (s.boot.phase = .off → exec (.debugPortAccess .readIdcode) s = .next s) ∧
    (s.boot.phase ≠ .off → exec (.debugPortAccess .readIdcode) s = .next { s with out := .debugData (Config.idCode.zeroExtend 64) :: s.out })) ∧
  (∀ (v : W32) (s : State), inReset s = false → 1 ≤ s.sec.debug →
    (v.getLsbD 0 = false → ∃ t, exec (.debugPortAccess (.writeDm 0x10 v)) s = .next t ∧ t.sec = { s.sec with dm := {} } ∧ t.cores = s.cores) ∧
    (s.sec.dm.active = true → exec (.debugPortAccess (.writeDm 0x04 v)) s = .next { s with sec := { s.sec with dm := { s.sec.dm with data0 := v } } }) ∧
    exec (.debugPortAccess (.readDm 0x04)) s = .next { s with out := .debugData (BitVec.ofNat 64 s.sec.dm.data0.toNat) :: s.out }) ∧
  (∀ (n : Nat) (r : BitVec 5) (v : W64) (s : State), n < 128 → coreReached s n = false → exec (.debugPortAccess (.haltCore n)) s = .next s ∧
    exec (.debugPortAccess (.resumeCore n)) s = .next s ∧ exec (.debugPortAccess (.readCoreReg n r)) s = .next s ∧
    exec (.debugPortAccess (.writeCoreReg n r v)) s = .next s) ∧
  (∀ (n : Nat) (r : BitVec 5) (v : W64) (s : State), n < 128 → inReset s = false → 1 ≤ s.sec.debug → acPresent s n = true → (coreAt s n).on = true →
    ((coreAt s n).halted = false → exec (.debugPortAccess (.haltCore n)) s = .next (corePut s n { coreAt s n with
      halted := true, dcsr := dcsrCause 3 (coreAt s n).dcsr })) ∧
    ((coreAt s n).halted = true → exec (.debugPortAccess (.haltCore n)) s = .next s) ∧
    exec (.debugPortAccess (.resumeCore n)) s = .next (corePut s n { coreAt s n with halted := false }) ∧
    ((coreAt s n).halted = true → exec (.debugPortAccess (.readCoreReg n r)) s = .next { s with
      out := .debugData (tget 0 (coreAt s n).x r.toNat) :: s.out }) ∧
    ((coreAt s n).halted = true → r ≠ 0 → exec (.debugPortAccess (.writeCoreReg n r v)) s = .next (corePut s n { coreAt s n with
      x := tset 0 (coreAt s n).x r.toNat v })) ∧
    ((coreAt s n).halted = true → exec (.debugPortAccess (.writeCoreReg n 0 v)) s = .next s)) ∧
  (∀ (n a tag : Nat) (q : BitVec 4) (b : Byte) (v : W64) (c : TCore) (s : State), n < 192 → a < 0x400000 → inReset s = false → 2 ≤ s.sec.debug →
    c = tcAt s n → c.halted = true →
    exec (.debugPortAccess (.resumePacer n)) s = .next (tcPut s n { c with halted := false }) ∧
    exec (.debugPortAccess (.readTile n a)) s = .next { s with out := .debugData ((tget 0 c.tile a).zeroExtend 64) :: s.out } ∧
    exec (.debugPortAccess (.writeTile n a b)) s = .next (tcPut s n { c with tile := tset 0 c.tile a b }) ∧
    exec (.debugPortAccess (.readRegion n q)) s = .next { s with out := .debugData (tget 0 c.q q.toNat) :: s.out } ∧
    exec (.debugPortAccess (.writeRegion n q v)) s = .next (tcPut s n { c with q := tset 0 c.q q.toNat v }) ∧
    exec (.debugPortAccess (.clearScoreboard n tag)) s = .next (tcPut s n { c with sb := c.sb.filter fun o => decide (o.tag ≠ tag) }) ∧
    exec (.debugPortAccess (.readScoreboard n)) s = .next { s with out := ((c.sb.flatMap opWords).map fun w => .debugData w).reverse ++ s.out }) ∧
  (∀ (n tag : Nat) (rd wr : List (Nat × Nat)) (b : Bool) (s : State), n < 192 → inReset s = false → 2 ≤ s.sec.debug → (tcAt s n).halted = true →
    ∃ t, exec (.debugPortAccess (.writeScoreboard n tag rd wr b)) s = .next t ∧
    (∀ o ∈ (tcAt t n).sb, o.tag = tag → o.reads = rd ∧ o.writes = wr ∧ o.readDone = b) ∧
    (∀ o, o.tag ≠ tag → (o ∈ (tcAt t n).sb ↔ o ∈ (tcAt s n).sb)) ∧ (tcAt t n).sb.length = (tcAt s n).sb.length) ∧
  (∀ (a : Nat) (b : Byte) (s : State), exec (.debugPortAccess (.readController true (0x50000 + a))) s = .next s ∧
    exec (.debugPortAccess (.writeController true (0x50000 + a) b)) s = .next s ∧
    (a < 0x10000 → exec (.debugPortAccess (.writeController true a b)) s = .next s)) ∧
  (∀ (a : Nat) (sc : Bool) (b : Byte) (s : State), inReset s = false → 3 ≤ s.sec.debug → (sc = true → a < 0x50000) →
    exec (.debugPortAccess (.haltController true)) s = .next { s with sec := { s.sec with haltSec := true } } ∧
    exec (.debugPortAccess (.haltController false)) s = .next { s with sec := { s.sec with haltClaryn := true } } ∧
    exec (.debugPortAccess (.resumeController true)) s = .next { s with sec := { s.sec with haltSec := false } } ∧
    exec (.debugPortAccess (.resumeController false)) s = .next { s with sec := { s.sec with haltClaryn := false } } ∧
    ((sc = true → 0x10000 ≤ a) → exec (.debugPortAccess (.writeController sc a b)) s = .next { s with sec := { s.sec with ctrlMem := aput s.sec.ctrlMem (2 * a + (if sc then 1 else 0)) b } }) ∧
    (∀ x, aget s.sec.ctrlMem (2 * a + (if sc then 1 else 0)) = some x →
      exec (.debugPortAccess (.readController sc a)) s = .next { s with out := .debugData (x.zeroExtend 64) :: s.out }) ∧
    (aget s.sec.ctrlMem (2 * a + (if sc then 1 else 0)) = none → exec (.debugPortAccess (.readController sc a)) s = .next { s with
      out := .debugData ((Config.controllerByte sc a).zeroExtend 64) :: s.out }))

/-! The whole machine -/

/-- R10, R302, R312, R320: a coherent store changes exactly its bytes for every reader. A write by a unit without a cache, to a line that no agent
holds, reads back, and where it drives no other line out of the home slice nothing else changes; a core reads back what it stored whether its group holds
the line or takes it, and where its group owns the line nothing else changes. Each is said of one line: an access of several is cut (R256). -/
def Obligations.StoresChangeExactlyTheirBytes : Prop :=
  (∀ (who : Requester) (part : Option Nat) (a : Nat) (l : List Byte) (s : State), who.kind ≠ 2 → l ≠ [] → a % 128 + l.length ≤ 128 →
    hbmThere s a = true → rangeError s part true a l.length = none → Memory.wf s.mem.hbm = true → s.mem.flaws = [] → NoCopies s (lineOf a) →
    lineShut s (lineOf a) = false → lineCrossed s (unitOf who) false (lineOf a) = false →
    ∃ t, memWrite who part a l s = (none, t) ∧ (∀ i, i < l.length → memByte t (a + i) = l.getD i 0) ∧
      (∀ x, lineOf x = lineOf a → (x < a ∨ a + l.length ≤ x) → memByte t x = memByte s x) ∧
      (SliceRoom s part (lineOf a) → ∀ x, (x < a ∨ a + l.length ≤ x) → memByte t x = memByte s x) ∧
      t.tcs = s.tcs ∧ t.cores = s.cores ∧ t.items = s.items ∧ t.batons = s.batons ∧ t.slots = s.slots) ∧
  (∀ (n : Nat) (h : BitVec 256) (d : List Byte) (s : State), n < 24 → d ≠ [] → d.length = hLen h → hOff h % 128 + d.length ≤ 128 →
    offsetError s (portPart s n) true (hOff h) (hLen h) = none → arrives s n h 2 = true → packetWaits s n h = false → h.getLsbD 144 = false → Memory.wf s.mem.hbm = true →
    NoCopies s (lineOf (hOff h)) →
    ∃ t, exec (.winWr n h d []) s = .next t ∧ (∀ i, i < d.length → memByte t (hOff h + i) = d.getD i 0) ∧
      (SliceRoom s (portPart s n) (lineOf (hOff h)) → ∀ x, (x < hOff h ∨ hOff h + d.length ≤ x) → memByte t x = memByte s x)) ∧
  (∀ (ac a ln : Nat) (l : List Byte) (y : ALine) (s : State), ac < 128 → ln = lineOf a → l ≠ [] → a % 128 + l.length ≤ 128 → hbmThere s a = true →
    lineAt s (groupAgent ac) ln = some y → (y.st = .m ∨ y.st = .e ∨ (lineShut s ln = false ∧ lineCrossed s (groupAgent ac) false ln = false)) →
    (∀ i, i < l.length → memByte (acPuts ac a l s) (a + i) = l.getD i 0) ∧
    ((y.st = .m ∨ y.st = .e) → (∀ e ∈ s.coh.lines, e.2.1 = ln → e.2.2.st ≠ .s → e.1 = groupAgent ac) →
      ∀ x, (x < a ∨ a + l.length ≤ x) → memByte (acPuts ac a l s) x = memByte s x)) ∧
  (∀ (ac a ln : Nat) (l : List Byte) (s : State), ac < 128 → ln = lineOf a → l ≠ [] → a % 128 + l.length ≤ 128 → hbmThere s a = true →
    s.mem.flaws = [] → NoCopies s ln → lineShut s ln = false → lineCrossed s (groupAgent ac) false ln = false → (homeLine s ln).2 = false → (dirWay s ln).isSome = true → canFill s (groupAgent ac) ln 0xFFFF = true →
    (∀ i, i < l.length → memByte (acPuts ac a l s) (a + i) = l.getD i 0) ∧
    (∀ x, lineOf x = ln → (x < a ∨ a + l.length ≤ x) → memByte (acPuts ac a l s) x = memByte s x)) ∧
  (∀ (ac pa size k ln : Nat) (z : Bool) (rs2 : BitVec 5) (y : ALine) (fl : List (Nat × Bool)) (s : State), ac < 128 →
    acRuns s ac (.store rs2 pa size) = true → target s pa = .hbm k → rangeError s (acPart s ac) true pa size = none → ln = lineOf pa → pa % 128 + size ≤ 128 → lineAt s (groupAgent ac) ln = some y →
    ∃ t, exec (.acInstruction ac z (.store rs2 pa size) fl) s = .next t ∧
      (∀ i, i < size → memByte t (pa + i) = (leBytes size (coreX (coreAt s ac) rs2.toNat).toNat).getD i 0) ∧
      ((y.st = .m ∨ y.st = .e) → (∀ e ∈ s.coh.lines, e.2.1 = ln → e.2.2.st ≠ .s → e.1 = groupAgent ac) →
        ∀ x, (x < pa ∨ pa + size ≤ x) → memByte t x = memByte s x))

/-- A step takes the command at the front of the queue and runs it on the state with the queue's rest. On an empty queue frame time ticks and Claryn
serves what waits (DESIGN CHOICE, log 6); with neither there is nothing to do. The table gives no row bits, so no word spells a command. -/
def Obligations.StepRunsTheCommandInFront : Prop :=
  (∀ (c : Instr) (l : List Instr) (s : State), s.pending = c :: l → step s = exec c { s with pending := l }) ∧
  (∀ s : State, s.pending = [] → step s = .next (serveAll (tick s))) ∧
  (∀ s : State, s.pending = [] → s.tb.on = false → s.cla.waiting = [] → step s = .next s) ∧
  (∀ (n w : Nat) (s : State), decodeTableWord n w = none ∧ s.withFetchWord n w = s)

/-- R8: a command whose units exist completes, from every state; one that names a unit outside its range faults; none is refused. -/
def Obligations.WellFormedCommandsComplete : Prop :=
  ∀ (c : Instr) (s : State), (c.wf = true → ∃ t, exec c s = .next t) ∧ (c.wf = false → exec c s = .fault .noSuchUnit) ∧
    (∀ r, exec c s ≠ .refused r)

/-- R294, R295 and the tables of the registers and objects: what reset leaves where the spec gives it. Values it does not give are the model's (log 1
to log 3) and not stated here. -/
def Obligations.ResetLeavesTheTablesValues : Prop :=
  State.reset.memWf = true ∧ State.reset.pending = [] ∧ State.reset.boot.phase = .off ∧
  (∀ m p, m < 6 → p < 17 → regGet State.reset (mdReg m (8 * p)) = 0xFFFF) ∧
  (∀ m, m < 6 → regGet State.reset (mdReg m 0x88) = 0x41 ∧ regGet State.reset (mdReg m 0x100) = 0 ∧ regGet State.reset (mdReg m 0x108) = 0 ∧
    regGet State.reset (mdReg m 0x200) = 0 ∧ regGet State.reset (mdReg m 0x1D8) = 0 ∧ mdRead m 0x118 State.reset = 0 ∧ mdRead m 0x180 State.reset = 0 ∧
    mdRead m 0x188 State.reset = 0 ∧ mdRead m 0x1C0 State.reset = 0 ∧ mdRead m 0x208 State.reset = 0 ∧ mdRead m 0x300 State.reset = 0 ∧
    mdRead m 0x308 State.reset = 0 ∧ mdRead m 0x310 State.reset = 0) ∧
  (∀ c, c < 24 → regGet State.reset (clReg c 0) = 0xFFFFFFFFFFFFFFFF ∧ regGet State.reset (clReg c 8) = 0x1000001) ∧
  (∀ p, p < 4 → peRead p 0 State.reset = 0 ∧ peRead p 8 State.reset = 0 ∧ peRead p 0x10 State.reset = 0 ∧ peRead p 0x20 State.reset = 0) ∧
  (∀ b, (batonAt State.reset b).value = 0 ∧ (batonAt State.reset b).ctl = 0 ∧ (batonAt State.reset b).cond = 0) ∧
  (∀ c o, ctxPageRead c o State.reset = 0) ∧ (∀ o, subRead o State.reset = 0) ∧ (∀ o, stuRead o State.reset = 0) ∧
  (∀ n o, rqRead n o State.reset = 0 ∧ rqcRead n o State.reset = 0) ∧
  (∀ n, (srcAt State.reset n).cfg = 0 ∧ (srcAt State.reset n).pend = false ∧ (srcAt State.reset n).level = false ∧
    (srcAt State.reset n).insvc = false) ∧
  scStat State.reset = 0 ∧ State.reset.sc.evqTail = 0 ∧ regGet State.reset (scReg 0x1000) = 0 ∧ regGet State.reset (scReg 0x1010) = 0 ∧
  (∀ g w, groupWord (groupAt State.reset g) w = 0) ∧
  (∀ n, (slotAt State.reset n).pos = 0 ∧ (slotAt State.reset n).gen = 0 ∧ (slotAt State.reset n).sampler = 0 ∧ (slotAt State.reset n).keyLo = 0 ∧
    (slotAt State.reset n).keyHi = 0) ∧
  (∀ t q, tget 0 (tcAt State.reset t).q q = 0) ∧ (∀ t, (tcAt State.reset t).fevec = 0 ∧ (tcAt State.reset t).cycle = 0 ∧ (tcAt State.reset t).instret = 0) ∧
  oget State.reset 0x4000 1 = 2400 ∧ oget State.reset 0x4000 2 = 4000 ∧ oget State.reset 0x4000 3 = 0 ∧ oget State.reset 0x4000 4 = 20 ∧
  oget State.reset 0x4000 5 = 3200 ∧ oget State.reset 0x4200 5 = 15 ∧ oget State.reset 0x2300 1 = 8 ∧ oget State.reset 0x2300 2 = 32 ∧
  oget State.reset 0x6010 7 = 5000 ∧ oget State.reset 0x6010 8 = 65535

/-- R266: every step keeps the byte memories in their canonical form: rising addresses, and no byte of zero listed. -/
def Obligations.EveryStepKeepsTheMemoryForm : Prop :=
  ∀ s t : State, s.memWf = true → step s = .next t → t.memWf = true

/-- Every command keeps each field of the state outside its footprint, the queue, the part and what is fused at manufacture; what the E9 has sent stays
sent, and burned fuses stay burned (R466, R474). -/
def Obligations.CommandsKeepToTheirFootprint : Prop :=
  ∀ (c : Instr) (s t : State), exec c s = .next t →
    (∀ f, f ∉ writes c → Unchanged f s t) ∧ t.pending = s.pending ∧ s.fresh ≤ t.fresh ∧ s.out <:+ t.out ∧
    t.fuse.part = s.fuse.part ∧ t.fuse.serial = s.fuse.serial ∧ t.fuse.mac = s.fuse.mac ∧ t.fuse.stepping = s.fuse.stepping ∧
    t.fuse.fwKeyDigest = s.fuse.fwKeyDigest ∧ t.fuse.debugKeyDigest = s.fuse.debugKeyDigest ∧
    s.fuse.counter ≤ t.fuse.counter ∧ (s.fuse.idErased = true → t.fuse.idErased = true)
end

