-- ==== Sys2Proof/Laws/Tab.lean ====
section
/-! SUPPORT. Tables: reading after a write, and the canonical form that every write keeps. -/

-- one theorem after the other: a thread for each of hundreds of small theorems takes more memory than the check allows
set_option Elab.async false

namespace Sys2Proof.Machine

open Sys2Proof

/-- A write leaves every other entry alone. -/
theorem tget_tset_ne {α : Type} [DecidableEq α] (d v : α) (i j : Nat) (n : j ≠ i) : ∀ t : Tab α, tget d (tset d t i v) j = tget d t j
  | [] => by
    unfold tset
    split
    · rfl
    · simp [tget, Ne.symm n]
  | (k, w) :: r => by
    unfold tset
    split
    · split
      · rfl
      · simp [tget, Ne.symm n]
    · split
      · rename_i e
        subst e
        split <;> simp [tget, Ne.symm n]
      · simp [tget, tget_tset_ne d v i j n r]

/-- A value other than the default is read back. -/
theorem tget_tset_self {α : Type} [DecidableEq α] (d v : α) (i : Nat) (n : v ≠ d) : ∀ t : Tab α, tget d (tset d t i v) i = v
  | [] => by simp [tset, tget, n]
  | (k, w) :: r => by
    unfold tset
    split
    · simp [tget]
    · split
      · simp [tget]
      · rename_i h1 h2
        simp [tget, tget_tset_self d v i n r, Ne.symm h2]

theorem tget_above {α : Type} [DecidableEq α] (d : α) (i : Nat) : ∀ (t : Tab α) (lo : Nat), i < lo → twfFrom d lo t = true → tget d t i = d
  | [], _, _, _ => rfl
  | (k, v) :: r, lo, hi, h => by
    simp only [twfFrom, Bool.and_eq_true, decide_eq_true_eq] at h
    have : k ≠ i := by omega
    simp [tget, this, tget_above d i r (k + 1) (by omega) h.2]

theorem tget_tset_from {α : Type} [DecidableEq α] (d v : α) (i : Nat) :
    ∀ (t : Tab α) (lo : Nat), twfFrom d lo t = true → tget d (tset d t i v) i = v
  | [], _, _ => by
    unfold tset
    split <;> simp_all [tget]
  | (k, w) :: r, lo, h => by
    simp only [twfFrom, Bool.and_eq_true, decide_eq_true_eq] at h
    unfold tset
    split
    · split
      · rename_i h1 h2
        have : k ≠ i := by omega
        simp [tget, this, h2, tget_above d i r (k + 1) (by omega) h.2]
      · simp [tget]
    · split
      · split
        · rename_i h1 h2 h3
          rw [h3, h2]
          exact tget_above d k r (k + 1) (by omega) h.2
        · simp [tget]
      · rename_i h1 h2
        simp [tget, Ne.symm h2, tget_tset_from d v i r (k + 1) h.2]

/-- In a table in canonical form every value is read back. -/
theorem tget_tset_wf {α : Type} [DecidableEq α] (d v : α) (t : Tab α) (i : Nat) (h : twf d t = true) : tget d (tset d t i v) i = v :=
  tget_tset_from d v i t 0 h

theorem twfFrom_mono {α : Type} [DecidableEq α] (d : α) : ∀ (t : Tab α) (a b : Nat), a ≤ b → twfFrom d b t = true → twfFrom d a t = true
  | [], _, _, _, _ => rfl
  | (k, v) :: r, a, b, hab, h => by
    simp only [twfFrom, Bool.and_eq_true, decide_eq_true_eq] at h ⊢
    exact ⟨⟨Nat.le_trans hab h.1.1, h.1.2⟩, h.2⟩

theorem twfFrom_tset {α : Type} [DecidableEq α] (d : α) (i : Nat) (v : α) :
    ∀ (t : Tab α) (lo : Nat), lo ≤ i → twfFrom d lo t = true → twfFrom d lo (tset d t i v) = true
  | [], lo, hlo, _ => by
    unfold tset
    split
    · rfl
    · simp_all [twfFrom]
  | (k, w) :: r, lo, hlo, h => by
    simp only [twfFrom, Bool.and_eq_true, decide_eq_true_eq] at h
    unfold tset
    split
    · split
      · simp [twfFrom, h]
      · simp only [twfFrom, Bool.and_eq_true, decide_eq_true_eq]
        exact ⟨⟨hlo, by assumption⟩, ⟨by omega, h.1.2⟩, h.2⟩
    · split
      · split
        · exact twfFrom_mono d r lo (k + 1) (by omega) h.2
        · simp only [twfFrom, Bool.and_eq_true, decide_eq_true_eq]
          rename_i h1 h2 h3
          subst h2
          exact ⟨⟨hlo, h3⟩, h.2⟩
      · simp only [twfFrom, Bool.and_eq_true, decide_eq_true_eq]
        exact ⟨h.1, twfFrom_tset d i v r (k + 1) (by omega) h.2⟩

theorem twf_nil {α : Type} [DecidableEq α] (d : α) : twf d ([] : Tab α) = true := rfl

/-- A write keeps the canonical form. -/
theorem twf_tset {α : Type} [DecidableEq α] (d v : α) (t : Tab α) (i : Nat) (h : twf d t = true) : twf d (tset d t i v) = true :=
  twfFrom_tset d i v t 0 (Nat.zero_le _) h

theorem twfFrom_filter {α : Type} [DecidableEq α] (d : α) (p : Nat × α → Bool) :
    ∀ (t : Tab α) (lo : Nat), twfFrom d lo t = true → twfFrom d lo (t.filter p) = true
  | [], _, h => h
  | (k, v) :: r, lo, h => by
    simp only [twfFrom, Bool.and_eq_true, decide_eq_true_eq] at h
    unfold List.filter
    split
    · simp only [twfFrom, Bool.and_eq_true, decide_eq_true_eq]
      exact ⟨h.1, twfFrom_filter d p r (k + 1) h.2⟩
    · exact twfFrom_mono d _ lo (k + 1) (by omega) (twfFrom_filter d p r (k + 1) h.2)

/-- Dropping entries keeps the canonical form. -/
theorem twf_filter {α : Type} [DecidableEq α] (d : α) (p : Nat × α → Bool) (t : Tab α) (h : twf d t = true) : twf d (t.filter p) = true :=
  twfFrom_filter d p t 0 h

/-- Writing bytes keeps a memory's canonical form. -/
theorem twf_tputs (l : List Byte) : ∀ (t : Tab Byte) (a : Nat), twf 0 t = true → twf 0 (tputs t a l) = true := by
  induction l with
  | nil => intro t a h; exact h
  | cons b r ih => intro t a h; exact ih _ _ (twf_tset _ _ _ _ h)

theorem twf_foldl {α β : Type} [DecidableEq β] {d : β} (g : Tab β → α → Tab β) (hg : ∀ t x, twf d t = true → twf d (g t x) = true) :
    ∀ (l : List α) (t : Tab β), twf d t = true → twf d (l.foldl g t) = true
  | [], _, h => h
  | x :: r, t, h => twf_foldl g hg r _ (hg t x h)

/-- Writing bytes leaves every byte outside them alone. -/
theorem tget_tputs_outside (l : List Byte) : ∀ (t : Tab Byte) (a j : Nat), (j < a ∨ a + l.length ≤ j) → tget 0 (tputs t a l) j = tget 0 t j := by
  induction l with
  | nil => intro t a j _; rfl
  | cons b r ih =>
    intro t a j h
    simp only [List.length_cons] at h
    rw [tputs, ih _ _ _ (by omega), tget_tset_ne _ _ _ _ (by omega)]

/-- Bytes written are read back. -/
theorem tget_tputs_inside (l : List Byte) : ∀ (t : Tab Byte) (a k : Nat) (h : k < l.length), twf 0 t = true →
    tget 0 (tputs t a l) (a + k) = l[k] := by
  induction l with
  | nil => intro t a k h; simp at h
  | cons b r ih =>
    intro t a k h w
    cases k with
    | zero => simp only [Nat.add_zero]; rw [tputs, tget_tputs_outside _ _ _ _ (by omega), tget_tset_wf _ _ _ _ w]; rfl
    | succ k =>
      have := ih (tset 0 t a b) (a + 1) k (by simpa using h) (twf_tset _ _ _ _ w)
      rw [tputs, show a + (k + 1) = a + 1 + k by omega, this]
      rfl

end Sys2Proof.Machine
end

