-- ==== Sys2Proof/Laws/Did.lean ====
section
/-! SUPPORT. What an operation can do, said once for each operation: the fields of the state it may write (a set W of them, field i of State
as bit i), and what every operation keeps whatever it writes: the queue, the part, the count of free values as a lower bound, what has been
sent, the canonical form of both byte memories. -/

-- one theorem after the other: a thread for each of hundreds of small theorems takes more memory than the check allows
set_option Elab.async false

namespace Sys2Proof.Machine

open Sys2Proof

/-- From s to t only fields of the set W change, and what every operation keeps is kept. -/
structure Did (W : Nat) (s t : State) : Prop where
  pending : t.pending = s.pending
  part : t.fuse.part = s.fuse.part
  counts : s.fresh ≤ t.fresh
  sent : s.out <:+ t.out
  hbm : Memory.wf s.mem.hbm = true → Memory.wf t.mem.hbm = true
  app : Memory.wf s.flash.app = true → Memory.wf t.flash.app = true
  fresh : W.testBit 1 = false → t.fresh = s.fresh
  out : W.testBit 2 = false → t.out = s.out
  boot : W.testBit 3 = false → t.boot = s.boot
  fuse : W.testBit 4 = false → t.fuse = s.fuse
  flash : W.testBit 5 = false → t.flash = s.flash
  faults : W.testBit 6 = false → t.faults = s.faults
  present : W.testBit 7 = false → t.present = s.present
  links : W.testBit 8 = false → t.links = s.links
  alt : W.testBit 9 = false → t.alt = s.alt
  pendAlt : W.testBit 10 = false → t.pendAlt = s.pendAlt
  obj : W.testBit 11 = false → t.obj = s.obj
  oct : W.testBit 12 = false → t.oct = s.oct
  regs : W.testBit 13 = false → t.regs = s.regs
  tcs : W.testBit 14 = false → t.tcs = s.tcs
  items : W.testBit 15 = false → t.items = s.items
  nextAcc : W.testBit 16 = false → t.nextAcc = s.nextAcc
  rr : W.testBit 17 = false → t.rr = s.rr
  ctxs : W.testBit 18 = false → t.ctxs = s.ctxs
  queues : W.testBit 19 = false → t.queues = s.queues
  cmdStat : W.testBit 20 = false → t.cmdStat = s.cmdStat
  cmdBusy : W.testBit 21 = false → t.cmdBusy = s.cmdBusy
  bindErr : W.testBit 22 = false → t.bindErr = s.bindErr
  ctxBase : W.testBit 23 = false → t.ctxBase = s.ctxBase
  batons : W.testBit 24 = false → t.batons = s.batons
  groups : W.testBit 25 = false → t.groups = s.groups
  slots : W.testBit 26 = false → t.slots = s.slots
  tb : W.testBit 27 = false → t.tb = s.tb
  ecl : W.testBit 28 = false → t.ecl = s.ecl
  stu : W.testBit 29 = false → t.stu = s.stu
  mem : W.testBit 30 = false → t.mem = s.mem
  mds : W.testBit 31 = false → t.mds = s.mds
  l2maint : W.testBit 32 = false → t.l2maint = s.l2maint
  coh : W.testBit 33 = false → t.coh = s.coh
  ports : W.testBit 34 = false → t.ports = s.ports
  chips : W.testBit 35 = false → t.chips = s.chips
  rqs : W.testBit 36 = false → t.rqs = s.rqs
  cores : W.testBit 37 = false → t.cores = s.cores
  mtime : W.testBit 38 = false → t.mtime = s.mtime
  pcie : W.testBit 39 = false → t.pcie = s.pcie
  sc : W.testBit 40 = false → t.sc = s.sc
  pwr : W.testBit 41 = false → t.pwr = s.pwr
  cla : W.testBit 42 = false → t.cla = s.cla
  sec : W.testBit 43 = false → t.sec = s.sec
  routes : W.testBit 44 = false → t.routes = s.routes

theorem Did.refl {W : Nat} (s : State) : Did W s s where
  pending := rfl
  part := rfl
  counts := Nat.le_refl _
  sent := List.suffix_refl _
  hbm := id
  app := id
  fresh := fun _ => rfl
  out := fun _ => rfl
  boot := fun _ => rfl
  fuse := fun _ => rfl
  flash := fun _ => rfl
  faults := fun _ => rfl
  present := fun _ => rfl
  links := fun _ => rfl
  alt := fun _ => rfl
  pendAlt := fun _ => rfl
  obj := fun _ => rfl
  oct := fun _ => rfl
  regs := fun _ => rfl
  tcs := fun _ => rfl
  items := fun _ => rfl
  nextAcc := fun _ => rfl
  rr := fun _ => rfl
  ctxs := fun _ => rfl
  queues := fun _ => rfl
  cmdStat := fun _ => rfl
  cmdBusy := fun _ => rfl
  bindErr := fun _ => rfl
  ctxBase := fun _ => rfl
  batons := fun _ => rfl
  groups := fun _ => rfl
  slots := fun _ => rfl
  tb := fun _ => rfl
  ecl := fun _ => rfl
  stu := fun _ => rfl
  mem := fun _ => rfl
  mds := fun _ => rfl
  l2maint := fun _ => rfl
  coh := fun _ => rfl
  ports := fun _ => rfl
  chips := fun _ => rfl
  rqs := fun _ => rfl
  cores := fun _ => rfl
  mtime := fun _ => rfl
  pcie := fun _ => rfl
  sc := fun _ => rfl
  pwr := fun _ => rfl
  cla := fun _ => rfl
  sec := fun _ => rfl
  routes := fun _ => rfl

theorem Did.trans {W : Nat} {s t u : State} (a : Did W s t) (b : Did W t u) : Did W s u where
  pending := b.pending.trans a.pending
  part := b.part.trans a.part
  counts := Nat.le_trans a.counts b.counts
  sent := a.sent.trans b.sent
  hbm := fun h => b.hbm (a.hbm h)
  app := fun h => b.app (a.app h)
  fresh := fun e => (b.fresh e).trans (a.fresh e)
  out := fun e => (b.out e).trans (a.out e)
  boot := fun e => (b.boot e).trans (a.boot e)
  fuse := fun e => (b.fuse e).trans (a.fuse e)
  flash := fun e => (b.flash e).trans (a.flash e)
  faults := fun e => (b.faults e).trans (a.faults e)
  present := fun e => (b.present e).trans (a.present e)
  links := fun e => (b.links e).trans (a.links e)
  alt := fun e => (b.alt e).trans (a.alt e)
  pendAlt := fun e => (b.pendAlt e).trans (a.pendAlt e)
  obj := fun e => (b.obj e).trans (a.obj e)
  oct := fun e => (b.oct e).trans (a.oct e)
  regs := fun e => (b.regs e).trans (a.regs e)
  tcs := fun e => (b.tcs e).trans (a.tcs e)
  items := fun e => (b.items e).trans (a.items e)
  nextAcc := fun e => (b.nextAcc e).trans (a.nextAcc e)
  rr := fun e => (b.rr e).trans (a.rr e)
  ctxs := fun e => (b.ctxs e).trans (a.ctxs e)
  queues := fun e => (b.queues e).trans (a.queues e)
  cmdStat := fun e => (b.cmdStat e).trans (a.cmdStat e)
  cmdBusy := fun e => (b.cmdBusy e).trans (a.cmdBusy e)
  bindErr := fun e => (b.bindErr e).trans (a.bindErr e)
  ctxBase := fun e => (b.ctxBase e).trans (a.ctxBase e)
  batons := fun e => (b.batons e).trans (a.batons e)
  groups := fun e => (b.groups e).trans (a.groups e)
  slots := fun e => (b.slots e).trans (a.slots e)
  tb := fun e => (b.tb e).trans (a.tb e)
  ecl := fun e => (b.ecl e).trans (a.ecl e)
  stu := fun e => (b.stu e).trans (a.stu e)
  mem := fun e => (b.mem e).trans (a.mem e)
  mds := fun e => (b.mds e).trans (a.mds e)
  l2maint := fun e => (b.l2maint e).trans (a.l2maint e)
  coh := fun e => (b.coh e).trans (a.coh e)
  ports := fun e => (b.ports e).trans (a.ports e)
  chips := fun e => (b.chips e).trans (a.chips e)
  rqs := fun e => (b.rqs e).trans (a.rqs e)
  cores := fun e => (b.cores e).trans (a.cores e)
  mtime := fun e => (b.mtime e).trans (a.mtime e)
  pcie := fun e => (b.pcie e).trans (a.pcie e)
  sc := fun e => (b.sc e).trans (a.sc e)
  pwr := fun e => (b.pwr e).trans (a.pwr e)
  cla := fun e => (b.cla e).trans (a.cla e)
  sec := fun e => (b.sec e).trans (a.sec e)
  routes := fun e => (b.routes e).trans (a.routes e)

/-- Every field of State but field i. -/
abbrev but (i : Nat) : Nat := 0x1FFFFFFFFFFF ^^^ 2 ^ i

theorem Did.of_eq {W : Nat} {s t u : State} (e : t = u) (h : Did W s t) : Did W s u := e ▸ h

/-- A set within a set within W lies in W. -/
theorem within {W F G : Nat} (h : W &&& F = F) (e : F &&& G = G) : W &&& G = G := by
  rw [← e, ← Nat.and_assoc, h]

/-- A field of a set within W is in W. -/
theorem off {W F i : Nat} {p : Prop} (h : W &&& F = F) (e : F.testBit i = true) (n : W.testBit i = false) : p := by
  have := congrArg (fun v => v.testBit i) h
  simp [e, n] at this

/-- A record update changes only fields of W. -/
theorem did_mk {W : Nat} {s u : State} {fresh' : Nat} {out' : List Emit} {boot' : Boot} {fuse' : Fuse} {flash' : Flash} {faults' : Faults} {present' : Nat} {links' : Tab Link} {alt' : Tab (List Nat)} {pendAlt' : List Nat} {obj' : Tab Nat} {oct' : Tab (List Byte)} {regs' : Tab W64} {tcs' : Tab TCore} {items' : Tab Item} {nextAcc' : Nat} {rr' : Nat} {ctxs' : Tab Ctx} {queues' : Tab Queue} {cmdStat' : Nat} {cmdBusy' : Bool} {bindErr' : Bool} {ctxBase' : W64} {batons' : Tab Baton} {groups' : Tab Group} {slots' : Tab Slot} {tb' : TimeBase} {ecl' : Option Eclipse} {stu' : Stu} {mem' : Mem} {mds' : Tab Md} {l2maint' : Tab Maint} {coh' : Coh} {ports' : Tab Port} {chips' : Chips} {rqs' : Tab RQueue} {cores' : Tab Core} {mtime' : W64} {pcie' : Tab Pcie} {sc' : SigCon} {pwr' : Power} {cla' : Claryn} {sec' : Security} {routes' : Tab (List Nat)}
    (h : Did W s u)
    (kcounts : u.fresh ≤ fresh' := by first | exact Nat.le_refl _ | exact Nat.le_succ _)
    (ksent : u.out <:+ out' := by first | exact List.suffix_refl _ | exact List.suffix_cons _ _)
    (kpart : fuse'.part = u.fuse.part := by rfl)
    (khbm : Memory.wf u.mem.hbm = true → Memory.wf mem'.hbm = true := by exact id)
    (kapp : Memory.wf u.flash.app = true → Memory.wf flash'.app = true := by exact id)
    (kfresh : W.testBit 1 = false → fresh' = u.fresh := by first | exact fun _ => rfl | (apply off; assumption; rfl))
    (kout : W.testBit 2 = false → out' = u.out := by first | exact fun _ => rfl | (apply off; assumption; rfl))
    (kboot : W.testBit 3 = false → boot' = u.boot := by first | exact fun _ => rfl | (apply off; assumption; rfl))
    (kfuse : W.testBit 4 = false → fuse' = u.fuse := by first | exact fun _ => rfl | (apply off; assumption; rfl))
    (kflash : W.testBit 5 = false → flash' = u.flash := by first | exact fun _ => rfl | (apply off; assumption; rfl))
    (kfaults : W.testBit 6 = false → faults' = u.faults := by first | exact fun _ => rfl | (apply off; assumption; rfl))
    (kpresent : W.testBit 7 = false → present' = u.present := by first | exact fun _ => rfl | (apply off; assumption; rfl))
    (klinks : W.testBit 8 = false → links' = u.links := by first | exact fun _ => rfl | (apply off; assumption; rfl))
    (kalt : W.testBit 9 = false → alt' = u.alt := by first | exact fun _ => rfl | (apply off; assumption; rfl))
    (kpendAlt : W.testBit 10 = false → pendAlt' = u.pendAlt := by first | exact fun _ => rfl | (apply off; assumption; rfl))
    (kobj : W.testBit 11 = false → obj' = u.obj := by first | exact fun _ => rfl | (apply off; assumption; rfl))
    (koct : W.testBit 12 = false → oct' = u.oct := by first | exact fun _ => rfl | (apply off; assumption; rfl))
    (kregs : W.testBit 13 = false → regs' = u.regs := by first | exact fun _ => rfl | (apply off; assumption; rfl))
    (ktcs : W.testBit 14 = false → tcs' = u.tcs := by first | exact fun _ => rfl | (apply off; assumption; rfl))
    (kitems : W.testBit 15 = false → items' = u.items := by first | exact fun _ => rfl | (apply off; assumption; rfl))
    (knextAcc : W.testBit 16 = false → nextAcc' = u.nextAcc := by first | exact fun _ => rfl | (apply off; assumption; rfl))
    (krr : W.testBit 17 = false → rr' = u.rr := by first | exact fun _ => rfl | (apply off; assumption; rfl))
    (kctxs : W.testBit 18 = false → ctxs' = u.ctxs := by first | exact fun _ => rfl | (apply off; assumption; rfl))
    (kqueues : W.testBit 19 = false → queues' = u.queues := by first | exact fun _ => rfl | (apply off; assumption; rfl))
    (kcmdStat : W.testBit 20 = false → cmdStat' = u.cmdStat := by first | exact fun _ => rfl | (apply off; assumption; rfl))
    (kcmdBusy : W.testBit 21 = false → cmdBusy' = u.cmdBusy := by first | exact fun _ => rfl | (apply off; assumption; rfl))
    (kbindErr : W.testBit 22 = false → bindErr' = u.bindErr := by first | exact fun _ => rfl | (apply off; assumption; rfl))
    (kctxBase : W.testBit 23 = false → ctxBase' = u.ctxBase := by first | exact fun _ => rfl | (apply off; assumption; rfl))
    (kbatons : W.testBit 24 = false → batons' = u.batons := by first | exact fun _ => rfl | (apply off; assumption; rfl))
    (kgroups : W.testBit 25 = false → groups' = u.groups := by first | exact fun _ => rfl | (apply off; assumption; rfl))
    (kslots : W.testBit 26 = false → slots' = u.slots := by first | exact fun _ => rfl | (apply off; assumption; rfl))
    (ktb : W.testBit 27 = false → tb' = u.tb := by first | exact fun _ => rfl | (apply off; assumption; rfl))
    (kecl : W.testBit 28 = false → ecl' = u.ecl := by first | exact fun _ => rfl | (apply off; assumption; rfl))
    (kstu : W.testBit 29 = false → stu' = u.stu := by first | exact fun _ => rfl | (apply off; assumption; rfl))
    (kmem : W.testBit 30 = false → mem' = u.mem := by first | exact fun _ => rfl | (apply off; assumption; rfl))
    (kmds : W.testBit 31 = false → mds' = u.mds := by first | exact fun _ => rfl | (apply off; assumption; rfl))
    (kl2maint : W.testBit 32 = false → l2maint' = u.l2maint := by first | exact fun _ => rfl | (apply off; assumption; rfl))
    (kcoh : W.testBit 33 = false → coh' = u.coh := by first | exact fun _ => rfl | (apply off; assumption; rfl))
    (kports : W.testBit 34 = false → ports' = u.ports := by first | exact fun _ => rfl | (apply off; assumption; rfl))
    (kchips : W.testBit 35 = false → chips' = u.chips := by first | exact fun _ => rfl | (apply off; assumption; rfl))
    (krqs : W.testBit 36 = false → rqs' = u.rqs := by first | exact fun _ => rfl | (apply off; assumption; rfl))
    (kcores : W.testBit 37 = false → cores' = u.cores := by first | exact fun _ => rfl | (apply off; assumption; rfl))
    (kmtime : W.testBit 38 = false → mtime' = u.mtime := by first | exact fun _ => rfl | (apply off; assumption; rfl))
    (kpcie : W.testBit 39 = false → pcie' = u.pcie := by first | exact fun _ => rfl | (apply off; assumption; rfl))
    (ksc : W.testBit 40 = false → sc' = u.sc := by first | exact fun _ => rfl | (apply off; assumption; rfl))
    (kpwr : W.testBit 41 = false → pwr' = u.pwr := by first | exact fun _ => rfl | (apply off; assumption; rfl))
    (kcla : W.testBit 42 = false → cla' = u.cla := by first | exact fun _ => rfl | (apply off; assumption; rfl))
    (ksec : W.testBit 43 = false → sec' = u.sec := by first | exact fun _ => rfl | (apply off; assumption; rfl))
    (kroutes : W.testBit 44 = false → routes' = u.routes := by first | exact fun _ => rfl | (apply off; assumption; rfl))
    : Did W s ⟨u.pending, fresh', out', boot', fuse', flash', faults', present', links', alt', pendAlt', obj', oct', regs', tcs', items', nextAcc', rr', ctxs', queues', cmdStat', cmdBusy', bindErr', ctxBase', batons', groups', slots', tb', ecl', stu', mem', mds', l2maint', coh', ports', chips', rqs', cores', mtime', pcie', sc', pwr', cla', sec', routes'⟩ :=
  h.trans {
    pending := rfl, part := kpart, counts := kcounts, sent := ksent, hbm := khbm, app := kapp,
    fresh := kfresh, out := kout, boot := kboot, fuse := kfuse, flash := kflash, faults := kfaults, present := kpresent, links := klinks, alt := kalt, pendAlt := kpendAlt, obj := kobj, oct := koct, regs := kregs, tcs := ktcs, items := kitems, nextAcc := knextAcc, rr := krr, ctxs := kctxs, queues := kqueues, cmdStat := kcmdStat, cmdBusy := kcmdBusy, bindErr := kbindErr, ctxBase := kctxBase, batons := kbatons, groups := kgroups, slots := kslots, tb := ktb, ecl := kecl, stu := kstu, mem := kmem, mds := kmds, l2maint := kl2maint, coh := kcoh, ports := kports, chips := kchips, rqs := krqs, cores := kcores, mtime := kmtime, pcie := kpcie, sc := ksc, pwr := kpwr, cla := kcla, sec := ksec, routes := kroutes }

theorem did_foldl {α : Type} {W : Nat} {s u : State} {l : List α} {g : State → α → State} (hg : ∀ v x, Did W s v → Did W s (g v x))
    (h : Did W s u) : Did W s (l.foldl g u) := by
  induction l generalizing u with
  | nil => exact h
  | cons x r ih => exact ih (hg u x h)

theorem did_foldr {α : Type} {W : Nat} {s u : State} {l : List α} {g : α → State → State} (hg : ∀ v x, Did W s v → Did W s (g x v))
    (h : Did W s u) : Did W s (l.foldr g u) := by
  induction l with
  | nil => exact h
  | cons x r ih => exact hg _ x ih

/-- One of two states, each of which does so. -/
theorem did_ite {W : Nat} {s a b : State} {c : Prop} [Decidable c] (ha : Did W s a) (hb : Did W s b) : Did W s (if c then a else b) := by
  split
  · exact ha
  · exact hb

theorem onlyIf_did {W : Nat} {s a b : State} {c : Bool} (ha : Did W s a) (hb : Did W s b) : Did W s (onlyIf c a b) := did_ite ha hb

/-- The same where the state is a part of what is answered. -/
theorem did_ite_of {α : Type} (p : α → State) {W : Nat} {s : State} {a b : α} {c : Prop} [Decidable c] (ha : Did W s (p a)) (hb : Did W s (p b)) :
    Did W s (p (if c then a else b)) := by
  split
  · exact ha
  · exact hb

/-- A fold whose accumulator holds the state. -/
theorem did_fold {α β : Type} (p : β → State) {W : Nat} {s : State} {l : List α} {g : β → α → β}
    (hg : ∀ v x, Did W s (p v) → Did W s (p (g v x))) {u : β} (h : Did W s (p u)) : Did W s (p (l.foldl g u)) := by
  induction l generalizing u with
  | nil => exact h
  | cons x r ih => exact ih (hg u x h)

/-- What a command can do, if it completes. -/
def ODid (W : Nat) (s : State) : Host.Outcome State Fault Refusal → Prop
  | .next t => Did W s t
  | _ => True

theorem ODid.next {W : Nat} {s t : State} {o : Host.Outcome State Fault Refusal} (h : ODid W s o) (e : o = .next t) : Did W s t := by
  subst e
  exact h

theorem odid_ite {W : Nat} {s : State} {a b : Host.Outcome State Fault Refusal} {c : Prop} [Decidable c] (ha : ODid W s a) (hb : ODid W s b) :
    ODid W s (if c then a else b) := by
  split
  · exact ha
  · exact hb

theorem onUnit_odid {W : Nat} {s t : State} {ok : Bool} (h : Did W s t) : ODid W s (onUnit ok t) := by
  unfold onUnit
  exact odid_ite h trivial

theorem next_odid {W : Nat} {s t : State} (h : Did W s t) : ODid W s (.next t) := h
theorem fault_odid {W : Nat} {s : State} {f : Fault} : ODid W s (.fault f) := trivial

theorem some_ite {α : Type} {c : Prop} [Decidable c] {a r : α} {b : Option α} (h : (if c then some a else b) = some r) : a = r ∨ b = some r := by
  split at h
  · exact .inl (Option.some.inj h)
  · exact .inr h

/-- What an instruction of the Pacer can do, if it goes on. -/
def RDid (W : Nat) (s : State) : PacerRes → Prop
  | .next t => Did W s t
  | .jump t _ => Did W s t
  | .stall => True
  | .fault _ => True

theorem rdid_ite {W : Nat} {s : State} {a b : PacerRes} {c : Prop} [Decidable c] (ha : RDid W s a) (hb : RDid W s b) :
    RDid W s (if c then a else b) := by
  split
  · exact ha
  · exact hb

theorem PacerRes.next_did {W : Nat} {s t : State} (h : Did W s t) : RDid W s (.next t) := h
theorem PacerRes.jump_did {W : Nat} {s t : State} {pc : W64} (h : Did W s t) : RDid W s (.jump t pc) := h
theorem PacerRes.stall_did {W : Nat} {s : State} : RDid W s .stall := trivial
theorem PacerRes.fault_did {W : Nat} {s : State} {k : Nat} : RDid W s (.fault k) := trivial

theorem checked_did {W : Nat} {s : State} {c : List (Nat × Bool)} {r : PacerRes} (h : RDid W s r) : RDid W s (checked c r) := by
  unfold checked
  split
  · trivial
  · exact h

/-- What is taken off the network passes the test. -/
theorem firstFree_pass {p : CohMsg → Bool} : ∀ {l seen : List CohMsg} {m : CohMsg} {r : List CohMsg},
    firstFree p seen l = some (m, r) → p m = true
  | [], _, _, _, h => by cases h
  | x :: l, seen, m, r, h => by
    unfold firstFree at h
    split at h
    · next hx =>
      split at h
      · cases h
        exact hx
      · cases h
    · exact firstFree_pass h

theorem hear_pass {p : CohMsg → Bool} {s t : State} {m : CohMsg} (h : hear p s = some (m, t)) : p m = true := by
  unfold hear at h
  split at h
  · next e =>
    split at h
    · cases h
    · cases h
      exact firstFree_pass e
  · cases h

end Sys2Proof.Machine
end

