-- ==== Sys2Proof/Laws/DidBase.lean ====
section
/-! SUPPORT. What each operation of these units can do, one lemma for each: tables, Ops, the memory system's lines and caches, home agents, health of links and channels, issue. -/

-- one theorem after the other: a thread for each of hundreds of small theorems takes more memory than the check allows
set_option Elab.async false

set_option linter.all false

namespace Sys2Proof.Machine

open Sys2Proof

/-! Ops -/

theorem emit_did {W : Nat} {s : State} {a1 : Emit} {u : State}
    (hW : W &&& 0x4 = 0x4) (h : Did W s u) : Did W s (emit a1 u) := by
  unfold emit
  exact did_mk h

/-! Dict -/

theorem octSet_did {W : Nat} {s : State} {u : State} {a2 : Nat} {a3 : Nat} {a4 : List Byte}
    (hW : W &&& 0x1000 = 0x1000) (h : Did W s u) : Did W s (octSet u a2 a3 a4) := by
  unfold octSet
  exact did_mk h

theorem oset_did {W : Nat} {s : State} {u : State} {a2 : Nat} {a3 : Nat} {a4 : Nat}
    (hW : W &&& 0x800 = 0x800) (h : Did W s u) : Did W s (oset u a2 a3 a4) := by
  unfold oset
  exact did_mk h

/-! Ops -/

theorem drawFree_did {W : Nat} {s : State} {u : State}
    (hW : W &&& 0x2 = 0x2) (h : Did W s u) : Did W s (drawFree u).2 := by
  unfold drawFree
  exact did_mk h

theorem bumpObj_did {W : Nat} {s : State} {a1 : Nat} {a2 : Nat} {a3 : Nat} {a4 : Nat} {u : State}
    (hW : W &&& 0x802 = 0x802) (h : Did W s u) : Did W s (bumpObj a1 a2 a3 a4 u) := by
  unfold bumpObj
  extract_lets z1
  clear_value z1
  refine did_ite (oset_did (within hW rfl) h) ?_
  split
  · rename_i e2 e3 e4 e5
    refine oset_did (within hW rfl) ?_
    have k6 : Did W s e4 := Did.of_eq (congrArg (fun x : (_ × _) => x.2) e5) (drawFree_did (within hW rfl) h)
    exact k6

/-! Memory -/

theorem memErr_did {W : Nat} {s : State} {a1 : Nat} {a2 : Nat} {a3 : Requester} {u : State}
    (hW : W &&& 0x1806 = 0x1806) (h : Did W s u) : Did W s (memErr a1 a2 a3 u) := by
  unfold memErr
  exact emit_did (within hW rfl) (octSet_did (within hW rfl) (bumpObj_did (within hW rfl) h))

/-! Caches -/

theorem cohMod_did {W : Nat} {s : State} {u : State} {a2 : Coh → Coh}
    (hW : W &&& 0x200000000 = 0x200000000) (h : Did W s u) : Did W s (cohMod u a2) := by
  unfold cohMod
  exact did_mk h

theorem say_did {W : Nat} {s : State} {a1 : CohMsg} {u : State}
    (hW : W &&& 0x200000000 = 0x200000000) (h : Did W s u) : Did W s (say a1 u) := by
  unfold say
  exact cohMod_did (within hW rfl) h

theorem linePut_did {W : Nat} {s : State} {a1 : Nat} {a2 : Nat} {a3 : ALine} {u : State}
    (hW : W &&& 0x200000000 = 0x200000000) (h : Did W s u) : Did W s (linePut a1 a2 a3 u) := by
  unfold linePut
  exact cohMod_did (within hW rfl) h

theorem lineDrop_did {W : Nat} {s : State} {a1 : Nat} {a2 : Nat} {u : State}
    (hW : W &&& 0x200000000 = 0x200000000) (h : Did W s u) : Did W s (lineDrop a1 a2 u) := by
  unfold lineDrop
  exact cohMod_did (within hW rfl) h

theorem nearInv_did {W : Nat} {s : State} {a1 : Nat} {a2 : Nat} {u : State}
    (hW : W &&& 0x200000000 = 0x200000000) (h : Did W s u) : Did W s (nearInv a1 a2 u) := by
  unfold nearInv
  refine did_ite ?_ h
  extract_lets z1
  have hz1 : Did W s z1 := by
    refine did_foldl ?_ h
    intro x2 x3 h4
    exact lineDrop_did (within hW rfl) h4
  clear_value z1
  exact cohMod_did (within hW rfl) hz1

theorem entPut_did {W : Nat} {s : State} {a1 : Nat} {a2 : DirEnt} {u : State}
    (hW : W &&& 0x200000000 = 0x200000000) (h : Did W s u) : Did W s (entPut a1 a2 u) := by
  unfold entPut
  exact cohMod_did (within hW rfl) h

theorem entDel_did {W : Nat} {s : State} {a1 : Nat} {u : State}
    (hW : W &&& 0x200000000 = 0x200000000) (h : Did W s u) : Did W s (entDel a1 u) := by
  unfold entDel
  exact cohMod_did (within hW rfl) h

theorem llcTouch_did {W : Nat} {s : State} {a1 : Nat} {a2 : Nat} {a3 : Nat} {u : State}
    (hW : W &&& 0x40000000 = 0x40000000) (h : Did W s u) : Did W s (llcTouch a1 a2 a3 u) := by
  unfold llcTouch
  exact did_mk h

/-! Ops -/

theorem mdPut_did {W : Nat} {s : State} {u : State} {a2 : Nat} {a3 : Md}
    (hW : W &&& 0x80000000 = 0x80000000) (h : Did W s u) : Did W s (mdPut u a2 a3) := by
  unfold mdPut
  exact did_mk h

/-! Hbm -/

theorem meter_did {W : Nat} {s : State} {a1 : Option Nat} {a2 : Nat} {u : State}
    (hW : W &&& 0x80000802 = 0x80000802) (h : Did W s u) : Did W s (meter a1 a2 u) := by
  unfold meter
  split
  · exact h
  · exact bumpObj_did (within hW rfl) (mdPut_did (within hW rfl) h)

theorem setPoison_did {W : Nat} {s : State} {a1 : Nat} {a2 : Bool} {u : State}
    (hW : W &&& 0x40000000 = 0x40000000) (h : Did W s u) : Did W s (setPoison a1 a2 u) := by
  unfold setPoison
  exact did_mk h

theorem putHbm_did {W : Nat} {s : State} {a1 : Nat} {a2 : LineData} {u : State}
    (hW : W &&& 0x40000000 = 0x40000000) (h : Did W s u) : Did W s (putHbm a1 a2 u) := by
  unfold putHbm
  generalize lineBytes128 a2 = l
  exact did_mk h (khbm := fun hh => twf_tputs l _ _ hh) (kmem := off hW rfl)

/-! Ops -/

theorem srcPut_did {W : Nat} {s : State} {u : State} {a2 : Nat} {a3 : Src}
    (hW : W &&& 0x10000000000 = 0x10000000000) (h : Did W s u) : Did W s (srcPut u a2 a3) := by
  unfold srcPut
  exact did_mk h

theorem scRaise_did {W : Nat} {s : State} {a1 : Nat} {a2 : W32} {u : State}
    (hW : W &&& 0x10000000002 = 0x10000000002) (h : Did W s u) : Did W s (scRaise a1 a2 u) := by
  unfold scRaise
  refine did_ite (did_ite (did_mk h) ?_) (srcPut_did (within hW rfl) h)
  split
  · rename_i e1 e2 e3 e4
    refine did_mk ?_
    have k5 : Did W s e3 := Did.of_eq (congrArg (fun x : (_ × _) => x.2) e4) (drawFree_did (within hW rfl) h)
    exact k5

/-! Health -/

theorem pageRecord_did {W : Nat} {s : State} {a1 : Nat} {a2 : Nat} {a3 : Nat} {u : State}
    (hW : W &&& 0x10080000002 = 0x10080000002) (h : Did W s u) : Did W s (pageRecord a1 a2 a3 u) := by
  unfold pageRecord
  extract_lets z1
  clear_value z1
  exact did_ite (mdPut_did (within hW rfl) h) (did_ite (scRaise_did (within hW rfl) (mdPut_did (within hW rfl) h)) (mdPut_did (within hW rfl) h))

/-! Hbm -/

theorem recordPage_did {W : Nat} {s : State} {a1 : Nat} {a2 : Nat} {u : State}
    (hW : W &&& 0x10080000002 = 0x10080000002) (h : Did W s u) : Did W s (recordPage a1 a2 u) := by
  unfold recordPage
  exact pageRecord_did (within hW rfl) h

theorem hbmLine_did {W : Nat} {s : State} {a1 : Nat} {a2 : LineData} {a3 : Bool} {a4 : Option Nat} {u : State}
    (hW : W &&& 0x100c0000802 = 0x100c0000802) (h : Did W s u) : Did W s (hbmLine a1 a2 a3 a4 u) := by
  unfold hbmLine
  extract_lets z1
  have hz1 : Did W s z1 := meter_did (within hW rfl) (setPoison_did (within hW rfl) (putHbm_did (within hW rfl) h))
  clear_value z1
  exact did_ite (recordPage_did (within hW rfl) hz1) hz1

/-! Caches -/

theorem llcDrop_did {W : Nat} {s : State} {a1 : Nat} {u : State}
    (hW : W &&& 0x40000000 = 0x40000000) (h : Did W s u) : Did W s (llcDrop a1 u) := by
  unfold llcDrop
  exact did_mk h

theorem llcEvict_did {W : Nat} {s : State} {a1 : Nat} {u : State}
    (hW : W &&& 0x100c0000802 = 0x100c0000802) (h : Did W s u) : Did W s (llcEvict a1 u) := by
  unfold llcEvict
  split
  · exact h
  · exact did_ite (hbmLine_did (within hW rfl) (llcDrop_did (within hW rfl) h)) (llcDrop_did (within hW rfl) h)

theorem sliceEvict_did {W : Nat} {s : State} {a1 : Nat} {a2 : Nat} {u : State}
    (hW : W &&& 0x102c0000802 = 0x102c0000802) (h : Did W s u) : Did W s (sliceEvict a1 a2 u) := by
  unfold sliceEvict
  exact did_ite (llcEvict_did (within hW rfl) h) (nearInv_did (within hW rfl) (lineDrop_did (within hW rfl) h))

theorem sliceWay_did {W : Nat} {s : State} {a1 : Nat} {a2 : Nat} {a3 : Nat} {u : State}
    (hW : W &&& 0x102c0000802 = 0x102c0000802) (h : Did W s u) : Did W s (sliceWay a1 a2 a3 u).2 := by
  unfold sliceWay
  extract_lets z1
  split
  · exact h
  · split
    · exact sliceEvict_did (within hW rfl) h
    · exact h

theorem llcFill_did {W : Nat} {s : State} {a1 : Nat} {a2 : Nat} {a3 : LlcLine} {u : State}
    (hW : W &&& 0x102c0000802 = 0x102c0000802) (h : Did W s u) : Did W s (llcFill a1 a2 a3 u) := by
  unfold llcFill
  extract_lets z1 z2
  clear_value z1
  split
  · exact llcTouch_did (within hW rfl) (did_mk h)
  · split
    · rename_i e8 e9 e10
      have k11 : Did W s e9 := Did.of_eq (congrArg (fun x : (_ × _) => x.2) e10) (sliceWay_did (within hW rfl) h)
      exact k11
    · rename_i e12 e13 e14 e15
      refine llcTouch_did (within hW rfl) (did_mk ?_)
      have k16 : Did W s e14 := Did.of_eq (congrArg (fun x : (_ × _) => x.2) e15) (sliceWay_did (within hW rfl) h)
      exact k16

theorem toHome_did {W : Nat} {s : State} {a1 : Nat} {a2 : LineData} {a3 : Bool} {a4 : Option Nat} {u : State}
    (hW : W &&& 0x102c0000802 = 0x102c0000802) (h : Did W s u) : Did W s (toHome a1 a2 a3 a4 u) := by
  unfold toHome
  split
  · exact llcFill_did (within hW rfl) h
  · extract_lets z6
    clear_value z6
    exact did_ite (hbmLine_did (within hW rfl) h) (llcFill_did (within hW rfl) h)

theorem applyVac_did {W : Nat} {s : State} {a1 : Nat} {a2 : Vac} {u : State}
    (hW : W &&& 0x102c0000802 = 0x102c0000802) (h : Did W s u) : Did W s (applyVac a1 a2 u) := by
  unfold applyVac
  extract_lets z1 z2
  have hz1 : Did W s z1 := did_ite (toHome_did (within hW rfl) h) h
  clear_value z1
  have hz2 : Did W s z2 := by
    subst z2
    split
    · exact h
    · exact did_ite (did_ite (entDel_did (within hW rfl) hz1) (entPut_did (within hW rfl) hz1)) h
  clear_value z2
  exact say_did (within hW rfl) hz2

/-! Ops -/

theorem tcPut_did {W : Nat} {s : State} {u : State} {a2 : Nat} {a3 : TCore}
    (hW : W &&& 0x4000 = 0x4000) (h : Did W s u) : Did W s (tcPut u a2 a3) := by
  unfold tcPut
  exact did_mk h

theorem itemPut_did {W : Nat} {s : State} {u : State} {a2 : Nat} {a3 : Item}
    (hW : W &&& 0x8000 = 0x8000) (h : Did W s u) : Did W s (itemPut u a2 a3) := by
  unfold itemPut
  exact did_mk h

/-! Issue -/

theorem pacerFault_did {W : Nat} {s : State} {a1 : Nat} {a2 : Nat} {u : State}
    (hW : W &&& 0xc000 = 0xc000) (h : Did W s u) : Did W s (pacerFault a1 a2 u) := by
  unfold pacerFault
  extract_lets z1 z2
  clear_value z1
  have hz2 : Did W s z2 := tcPut_did (within hW rfl) h
  clear_value z2
  split
  · exact hz2
  · split
    · exact hz2
    · exact itemPut_did (within hW rfl) hz2

/-! Ops -/

theorem corePut_did {W : Nat} {s : State} {u : State} {a2 : Nat} {a3 : Core}
    (hW : W &&& 0x2000000000 = 0x2000000000) (h : Did W s u) : Did W s (corePut u a2 a3) := by
  unfold corePut
  exact did_mk h

theorem takeTrap_did {W : Nat} {s : State} {a1 : Nat} {a2 : Nat} {a3 : W64} {u : State}
    (hW : W &&& 0x2000000000 = 0x2000000000) (h : Did W s u) : Did W s (takeTrap a1 a2 a3 u) := by
  unfold takeTrap
  exact corePut_did (within hW rfl) h

theorem acTrap_did {W : Nat} {s : State} {a1 : Nat} {a2 : Nat} {a3 : Bool} {a4 : Bool} {u : State}
    (hW : W &&& 0x2000000006 = 0x2000000006) (h : Did W s u) : Did W s (acTrap a1 a2 a3 a4 u) := by
  unfold acTrap
  extract_lets z1
  have hz1 : Did W s z1.2 := drawFree_did (within hW rfl) h
  clear_value z1
  exact emit_did (within hW rfl) (takeTrap_did (within hW rfl) hz1)

/-! Hbm -/

theorem copyRuns_did {W : Nat} {s : State} {a1 : Nat} {u : State}
    (hW : W &&& 0x80000002 = 0x80000002) (h : Did W s u) : Did W s (copyRuns a1 u) := by
  unfold copyRuns
  refine did_ite h ?_
  extract_lets z1 z2
  have hz1 : Did W s z1.2 := drawFree_did (within hW rfl) h
  clear_value z1
  clear_value z2
  exact mdPut_did (within hW rfl) hz1

theorem readCorrected_did {W : Nat} {s : State} {a1 : Nat} {u : State}
    (hW : W &&& 0x10080000802 = 0x10080000802) (h : Did W s u) : Did W s (readCorrected a1 u) := by
  unfold readCorrected
  extract_lets z1 z2 z3 z4 z5 z6 z7
  have hz1 : Did W s z1 := copyRuns_did (within hW rfl) h
  clear_value z1
  clear_value z2
  have hz3 : Did W s z3 := bumpObj_did (within hW rfl) hz1
  clear_value z3
  clear_value z4
  have hz7 : Did W s z7 := mdPut_did (within hW rfl) hz3
  clear_value z7
  exact did_ite (recordPage_did (within hW rfl) hz7) hz7

/-! Memory -/

theorem mapCopies_did {W : Nat} {s : State} {a1 : Nat} {a2 : LineData → LineData} {a3 : Bool → Bool} {u : State}
    (hW : W &&& 0x240000000 = 0x240000000) (h : Did W s u) : Did W s (mapCopies a1 a2 a3 u) := by
  unfold mapCopies
  exact did_mk h

/-! Ops -/

theorem logFault_did {W : Nat} {s : State} {a1 : Nat} {a2 : Nat} {a3 : Nat} {a4 : Nat} {u : State}
    (hW : W &&& 0x40 = 0x40) (h : Did W s u) : Did W s (logFault a1 a2 a3 a4 u) := by
  unfold logFault
  extract_lets z1 z2
  clear_value z1
  clear_value z2
  exact did_mk h

theorem canSettle_did {W : Nat} {s : State} {u : State}
    (hW : W &&& 0x800 = 0x800) (h : Did W s u) : Did W s (canSettle u) := by
  unfold canSettle
  exact did_ite (oset_did (within hW rfl) h) h

theorem canSent_did {W : Nat} {s : State} {u : State}
    (hW : W &&& 0x40000000800 = 0x40000000800) (h : Did W s u) : Did W s (canSent u) := by
  unfold canSent
  exact canSettle_did (within hW rfl) (did_mk h)

theorem emitTo_did {W : Nat} {s : State} {a1 : Nat} {a2 : Emit} {u : State}
    (hW : W &&& 0x40000000804 = 0x40000000804) (h : Did W s u) : Did W s (emitTo a1 a2 u) := by
  unfold emitTo
  exact did_ite (canSent_did (within hW rfl) (emit_did (within hW rfl) h)) (emit_did (within hW rfl) h)

theorem sendEvent_did {W : Nat} {s : State} {u : State} {a2 : EvtMsg}
    (hW : W &&& 0x40000000804 = 0x40000000804) (h : Did W s u) : Did W s (sendEvent u a2) := by
  unfold sendEvent
  refine did_foldl ?_ h
  intro x1 x2 h3
  exact emitTo_did (within hW rfl) h3

theorem sendEvents_did {W : Nat} {s : State} {u : State}
    (hW : W &&& 0x40000000804 = 0x40000000804) (h : Did W s u) : Did W s (sendEvents u) := by
  unfold sendEvents
  extract_lets z1 z2
  clear_value z1
  clear_value z2
  refine did_foldl ?_ (did_mk h)
  intro x3 x4 h5
  exact sendEvent_did (within hW rfl) h5

theorem queueEvent_did {W : Nat} {s : State} {a1 : Nat} {a2 : Nat} {a3 : Nat} {a4 : Nat} {u : State}
    (hW : W &&& 0x40000000804 = 0x40000000804) (h : Did W s u) : Did W s (queueEvent a1 a2 a3 a4 u) := by
  unfold queueEvent
  extract_lets z1 z2 z3 z4 z5
  clear_value z1
  have hz2 : Did W s z2 := sendEvents_did (within hW rfl) h
  clear_value z2
  clear_value z3
  clear_value z4
  clear_value z5
  exact did_ite (sendEvent_did (within hW rfl) h) (did_mk hz2)

theorem clarynEvent_did {W : Nat} {s : State} {a1 : Nat} {a2 : Nat} {a3 : Nat} {u : State}
    (hW : W &&& 0x50000000806 = 0x50000000806) (h : Did W s u) : Did W s (clarynEvent a1 a2 a3 u) := by
  unfold clarynEvent
  extract_lets z1 z2 z3 z4
  have hz1 : Did W s z1 := scRaise_did (within hW rfl) h
  clear_value z1
  clear_value z2
  clear_value z3
  have hz4 : Did W s z4 := did_mk hz1
  clear_value z4
  exact did_ite (queueEvent_did (within hW rfl) hz4) hz4

theorem announceFault_did {W : Nat} {s : State} {u : State}
    (hW : W &&& 0x50000000806 = 0x50000000806) (h : Did W s u) : Did W s (announceFault u) := by
  unfold announceFault
  exact clarynEvent_did (within hW rfl) h

theorem sendHeartbeat_did {W : Nat} {s : State} {a1 : Nat} {a2 : Nat} {u : State}
    (hW : W &&& 0x40000000804 = 0x40000000804) (h : Did W s u) : Did W s (sendHeartbeat a1 a2 u) := by
  unfold sendHeartbeat
  extract_lets z1 z2
  clear_value z1
  clear_value z2
  refine did_foldl ?_ (did_mk h)
  intro x3 x4 h5
  exact emitTo_did (within hW rfl) h5

theorem packageReset_did {W : Nat} {s : State} {a1 : Nat} {u : State}
    (hW : W &&& 0x4000000086e = 0x4000000086e) (h : Did W s u) : Did W s (packageReset a1 u) := by
  unfold packageReset
  refine did_ite (did_ite (did_mk h) h) ?_
  extract_lets z1 z2 z3 z4 z5
  clear_value z1
  have hz2 : Did W s z2 := by
    refine did_foldl ?_ h
    intro x6 x7 h8
    exact emit_did (within hW rfl) h8
  clear_value z2
  have hz3 : Did W s z3 := did_ite (sendHeartbeat_did (within hW rfl) hz2) hz2
  clear_value z3
  clear_value z4
  have hz5 : Did W s z5 := by
    refine did_foldl ?_ hz3
    intro x9 x10 h11
    exact emit_did (within hW rfl) h11
  clear_value z5
  split
  · rename_i e12 e13 e14 e15
    extract_lets z16 z17 z18 z19
    clear_value z16
    clear_value z17
    clear_value z19
    refine did_mk ?_ (kapp := ?app)
    · have k20 : Did W s e14 := by
        refine Did.of_eq (congrArg (fun x : (_ × _) => x.2) e15) ?_
        refine did_ite_of (fun x : (_ × _) => x.2) ?_ ?_
        · exact drawFree_did (within hW rfl) hz5
        · exact hz5
      exact k20
    · (split <;> first | rfl | exact id | exact fun _ => twf_nil _ | (intro hh; exact twf_tputs _ _ _ hh) | (intro hh; exact twf_tset _ _ _ _ hh) | (intro hh; exact twf_filter _ _ _ hh))

theorem fatal_did {W : Nat} {s : State} {a1 : Nat} {a2 : Nat} {a3 : Nat} {u : State}
    (hW : W &&& 0x5000000086e = 0x5000000086e) (h : Did W s u) : Did W s (fatal a1 a2 a3 u) := by
  unfold fatal
  refine did_ite (logFault_did (within hW rfl) h) ?_
  extract_lets z1
  clear_value z1
  exact announceFault_did (within hW rfl) (packageReset_did (within hW rfl) (logFault_did (within hW rfl) h))

theorem afterFault_did {W : Nat} {s : State} {a1 : Nat} {a2 : Nat} {a3 : Bool} {u : State}
    (hW : W &&& 0x5000000086e = 0x5000000086e) (h : Did W s u) : Did W s (afterFault a1 a2 a3 u) := by
  unfold afterFault
  extract_lets z1 z2
  clear_value z1
  have hz2 : Did W s z2 := did_ite (fatal_did (within hW rfl) h) h
  clear_value z2
  exact did_ite (fatal_did (within hW rfl) hz2) hz2

theorem countInWindows_did {W : Nat} {s : State} {u : State}
    (hW : W &&& 0x40 = 0x40) (h : Did W s u) : Did W s (countInWindows u) := by
  unfold countInWindows
  exact did_mk h

theorem fault1_did {W : Nat} {s : State} {a1 : Nat} {a2 : Nat} {a3 : Nat} {a4 : List (Nat × Nat)} {u : State}
    (hW : W &&& 0x5000000086e = 0x5000000086e) (h : Did W s u) : Did W s (fault1 a1 a2 a3 a4 u) := by
  unfold fault1
  refine did_ite (logFault_did (within hW rfl) h) ?_
  extract_lets z1 z2 z3 z4
  clear_value z1
  clear_value z2
  clear_value z3
  have hz4 : Did W s z4 := bumpObj_did (within hW rfl) (logFault_did (within hW rfl) h)
  clear_value z4
  exact afterFault_did (within hW rfl) (countInWindows_did (within hW rfl) (scRaise_did (within hW rfl) hz4))

theorem deferRepair_did {W : Nat} {s : State} {a1 : Nat} {a2 : Nat} {a3 : Bool} {a4 : Nat} {u : State}
    (hW : W &&& 0x40 = 0x40) (h : Did W s u) : Did W s (deferRepair a1 a2 a3 a4 u) := by
  unfold deferRepair
  exact did_mk h

/-! Hbm -/

theorem readUncorrectable_did {W : Nat} {s : State} {a1 : Nat} {u : State}
    (hW : W &&& 0x502c000086e = 0x502c000086e) (h : Did W s u) : Did W s (readUncorrectable a1 u) := by
  unfold readUncorrectable
  extract_lets z1 z2 z3 z4 z5 z6
  have hz1 : Did W s z1 := copyRuns_did (within hW rfl) h
  clear_value z1
  clear_value z2
  clear_value z3
  have hz4 : Did W s z4 := setPoison_did (within hW rfl) (mapCopies_did (within hW rfl) (bumpObj_did (within hW rfl) hz1))
  clear_value z4
  clear_value z5
  have hz6 : Did W s z6 := fault1_did (within hW rfl) hz4
  clear_value z6
  exact did_ite hz6 (did_ite (deferRepair_did (within hW rfl) hz6) (recordPage_did (within hW rfl) hz6))

theorem hbmRead_did {W : Nat} {s : State} {a1 : Option Nat} {a2 : Nat} {u : State}
    (hW : W &&& 0x502c000086e = 0x502c000086e) (h : Did W s u) : Did W s (hbmRead a1 a2 u).2 := by
  unfold hbmRead
  extract_lets z1
  have hz1 : Did W s z1 := meter_did (within hW rfl) h
  clear_value z1
  refine did_ite_of (fun x : (_ × _) => x.2) ?_ ?_
  · exact hz1
  · split
    · exact readCorrected_did (within hW rfl) hz1
    · exact readUncorrectable_did (within hW rfl) hz1
    · exact hz1

/-! Caches -/

theorem llcPrefetch_did {W : Nat} {s : State} {a1 : Option Nat} {a2 : Nat} {u : State}
    (hW : W &&& 0x502c000186e = 0x502c000186e) (h : Did W s u) : Did W s (llcPrefetch a1 a2 u) := by
  unfold llcPrefetch
  extract_lets z1 z2 z3 z4
  clear_value z1
  clear_value z2
  have hz3 : Did W s z3.2 := hbmRead_did (within hW rfl) h
  clear_value z3
  have hz4 : Did W s z4 := by
    subst z4
    split
    · exact memErr_did (within hW rfl) hz3
    · exact hz3
  clear_value z4
  exact did_ite h (llcFill_did (within hW rfl) hz4)

theorem noteMiss_did {W : Nat} {s : State} {a1 : Nat} {a2 : Option Nat} {a3 : Nat} {u : State}
    (hW : W &&& 0x502c000186e = 0x502c000186e) (h : Did W s u) : Did W s (noteMiss a1 a2 a3 u) := by
  unfold noteMiss
  extract_lets z1 z2 z3 z4 z5 z6 z7
  clear_value z1
  clear_value z2
  clear_value z3
  clear_value z4
  clear_value z5
  have hz6 : Did W s z6 := mdPut_did (within hW rfl) h
  clear_value z6
  clear_value z7
  refine did_ite h (did_ite hz6 (did_foldl ?_ hz6))
  intro x8 x9 h10
  exact llcPrefetch_did (within hW rfl) h10

theorem homeRead_did {W : Nat} {s : State} {a1 : Nat} {a2 : Option Nat} {a3 : Bool} {a4 : Nat} {u : State}
    (hW : W &&& 0x502c000186e = 0x502c000186e) (h : Did W s u) : Did W s (homeRead a1 a2 a3 a4 u).2.2 := by
  unfold homeRead
  split
  · exact llcTouch_did (within hW rfl) h
  · extract_lets z6 z7 z8
    have hz6 : Did W s z6.2 := hbmRead_did (within hW rfl) h
    clear_value z6
    clear_value z7
    clear_value z8
    exact noteMiss_did (within hW rfl) (llcFill_did (within hW rfl) hz6)

/-! Home -/

theorem mergeHome_did {W : Nat} {s : State} {a1 : Option Nat} {a2 : Nat} {a3 : LineData} {a4 : LineData} {u : State}
    (hW : W &&& 0x502c000086e = 0x502c000086e) (h : Did W s u) : Did W s (mergeHome a1 a2 a3 a4 u).2 := by
  unfold mergeHome
  extract_lets z1 z2
  clear_value z1
  have hz2 : Did W s z2.2 := hbmRead_did (within hW rfl) h
  clear_value z2
  split
  · exact toHome_did (within hW rfl) h
  · refine did_ite_of (fun x : (_ × _) => x.2) ?_ ?_
    · exact toHome_did (within hW rfl) h
    · refine did_ite_of (fun x : (_ × _) => x.2) ?_ ?_
      · exact hz2
      · exact toHome_did (within hW rfl) hz2

/-! Caches -/

theorem dirTouch_did {W : Nat} {s : State} {a1 : Nat} {a2 : Nat} {u : State}
    (hW : W &&& 0x200000000 = 0x200000000) (h : Did W s u) : Did W s (dirTouch a1 a2 u) := by
  unfold dirTouch
  exact cohMod_did (within hW rfl) h

theorem entUse_did {W : Nat} {s : State} {a1 : Nat} {a2 : DirEnt} {u : State}
    (hW : W &&& 0x200000000 = 0x200000000) (h : Did W s u) : Did W s (entUse a1 a2 u) := by
  unfold entUse
  split
  · exact dirTouch_did (within hW rfl) (entPut_did (within hW rfl) h)
  · extract_lets z6
    clear_value z6
    exact dirTouch_did (within hW rfl) (entPut_did (within hW rfl) h)

theorem wbDrop_did {W : Nat} {s : State} {a1 : Nat} {a2 : Nat} {u : State}
    (hW : W &&& 0x200000000 = 0x200000000) (h : Did W s u) : Did W s (wbDrop a1 a2 u) := by
  unfold wbDrop
  exact cohMod_did (within hW rfl) h

theorem l2Touch_did {W : Nat} {s : State} {a1 : Nat} {a2 : Nat} {a3 : Nat} {u : State}
    (hW : W &&& 0x240000000 = 0x240000000) (h : Did W s u) : Did W s (l2Touch a1 a2 a3 u) := by
  unfold l2Touch
  exact did_ite (llcTouch_did (within hW rfl) h) (cohMod_did (within hW rfl) h)

theorem hear_did {W : Nat} {s u v : State} {a1 : CohMsg → Bool} {m : CohMsg}
    (hW : W &&& 0x200000000 = 0x200000000) (h : Did W s u) (e : hear a1 u = some (m, v)) : Did W s v := by
  unfold hear at e
  split at e
  · split at e
    · cases e
    · cases e
      exact cohMod_did (within hW rfl) h
  · cases e

theorem vacArrive_did {W : Nat} {s : State} {a1 : Nat} {a2 : Vac} {u : State}
    (hW : W &&& 0x102c0000802 = 0x102c0000802) (h : Did W s u) : Did W s (vacArrive a1 a2 u) := by
  unfold vacArrive
  split
  · exact did_ite (applyVac_did (within hW rfl) h) (entPut_did (within hW rfl) h)
  · exact applyVac_did (within hW rfl) h

theorem vacHear_did {W : Nat} {s : State} {a1 : Nat} {a2 : Nat} {u : State}
    (hW : W &&& 0x102c0000802 = 0x102c0000802) (h : Did W s u) : Did W s (vacHear a1 a2 u) := by
  unfold vacHear
  split
  · rename_i e1 e2 e3 e4 e5
    refine vacArrive_did (within hW rfl) ?_
    have k6 : Did W s e4 := hear_did (within hW rfl) h e5
    exact k6
  · exact h

theorem vacate_did {W : Nat} {s : State} {a1 : Nat} {a2 : Nat} {a3 : ALine} {u : State}
    (hW : W &&& 0x102c0000802 = 0x102c0000802) (h : Did W s u) : Did W s (vacate a1 a2 a3 u) := by
  unfold vacate
  extract_lets z1 z2
  clear_value z1
  have hz2 : Did W s z2 := cohMod_did (within hW rfl) (lineDrop_did (within hW rfl) h)
  clear_value z2
  exact vacHear_did (within hW rfl) (say_did (within hW rfl) hz2)

theorem agentEvict_did {W : Nat} {s : State} {a1 : Nat} {a2 : Nat} {a3 : ALine} {u : State}
    (hW : W &&& 0x102c0000802 = 0x102c0000802) (h : Did W s u) : Did W s (agentEvict a1 a2 a3 u) := by
  unfold agentEvict
  exact did_ite (lineDrop_did (within hW rfl) h) (vacate_did (within hW rfl) h)

theorem agentWay_did {W : Nat} {s : State} {a1 : Nat} {a2 : Nat} {a3 : Nat} {u : State}
    (hW : W &&& 0x102c0000802 = 0x102c0000802) (h : Did W s u) : Did W s (agentWay a1 a2 a3 u).2 := by
  unfold agentWay
  refine did_ite_of (fun x : (_ × _) => x.2) ?_ ?_
  · exact sliceWay_did (within hW rfl) h
  · extract_lets z1 z2 z3
    clear_value z2
    clear_value z3
    split
    · exact h
    · split
      · exact agentEvict_did (within hW rfl) h
      · exact h

theorem agentFill_did {W : Nat} {s : State} {a1 : Nat} {a2 : Nat} {a3 : Nat} {a4 : ALine} {u : State}
    (hW : W &&& 0x102c0000802 = 0x102c0000802) (h : Did W s u) : Did W s (agentFill a1 a2 a3 a4 u).2 := by
  unfold agentFill
  split
  · exact l2Touch_did (within hW rfl) (linePut_did (within hW rfl) h)
  · split
    · rename_i e6 e7 e8
      have k9 : Did W s e7 := Did.of_eq (congrArg (fun x : (_ × _) => x.2) e8) (agentWay_did (within hW rfl) h)
      exact k9
    · rename_i e10 e11 e12 e13
      refine l2Touch_did (within hW rfl) (linePut_did (within hW rfl) ?_)
      have k14 : Did W s e12 := Did.of_eq (congrArg (fun x : (_ × _) => x.2) e13) (agentWay_did (within hW rfl) h)
      exact k14

/-! Home -/

theorem invCopy_did {W : Nat} {s : State} {a1 : Nat} {a2 : Nat} {u : State}
    (hW : W &&& 0x102c0000802 = 0x102c0000802) (h : Did W s u) : Did W s (invCopy a1 a2 u) := by
  unfold invCopy
  extract_lets z1
  have hz1 : Did W s z1 := nearInv_did (within hW rfl) (lineDrop_did (within hW rfl) h)
  clear_value z1
  split
  · exact did_ite (toHome_did (within hW rfl) hz1) hz1
  · exact hz1

theorem invAll_did {W : Nat} {s : State} {a1 : Nat} {a2 : List Nat} {u : State}
    (hW : W &&& 0x102c0000802 = 0x102c0000802) (h : Did W s u) : Did W s (invAll a1 a2 u) := by
  unfold invAll
  refine did_foldl ?_ h
  intro x1 x2 h3
  exact invCopy_did (within hW rfl) h3

theorem entClose_did {W : Nat} {s : State} {a1 : Nat} {a2 : DirEnt} {u : State}
    (hW : W &&& 0x200000000 = 0x200000000) (h : Did W s u) : Did W s (entClose a1 a2 u) := by
  unfold entClose
  exact did_ite (entDel_did (within hW rfl) h) (entUse_did (within hW rfl) h)

theorem pushNow_did {W : Nat} {s : State} {a1 : Nat} {a2 : Option Nat} {a3 : Nat} {u : State}
    (hW : W &&& 0x102c0000802 = 0x102c0000802) (h : Did W s u) : Did W s (pushNow a1 a2 a3 u) := by
  unfold pushNow
  extract_lets z1 z2 z3
  clear_value z1
  have hz2 : Did W s z2.2 := agentFill_did (within hW rfl) h
  clear_value z2
  clear_value z3
  exact did_ite (bumpObj_did (within hW rfl) h) (entClose_did (within hW rfl) hz2)

theorem putNow_did {W : Nat} {s : State} {a1 : Option Nat} {a2 : Nat} {a3 : Nat} {a4 : Nat} {a5 : LineData} {a6 : LineData} {u : State}
    (hW : W &&& 0x502c000086e = 0x502c000086e) (h : Did W s u) : Did W s (putNow a1 a2 a3 a4 a5 a6 u).2 := by
  unfold putNow
  extract_lets z1 z2 z3
  clear_value z1
  clear_value z2
  have hz3 : Did W s z3.2 := mergeHome_did (within hW rfl) (entDel_did (within hW rfl) (invAll_did (within hW rfl) h))
  clear_value z3
  split
  · exact hz3
  · split
    · exact pushNow_did (within hW rfl) hz3
    · exact hz3

/-! Hbm -/

theorem hbmMerge_did {W : Nat} {s : State} {a1 : Option Nat} {a2 : Nat} {a3 : LineData} {a4 : LineData} {u : State}
    (hW : W &&& 0x502c000086e = 0x502c000086e) (h : Did W s u) : Did W s (hbmMerge a1 a2 a3 a4 u).2 := by
  unfold hbmMerge
  extract_lets z1 z2
  have hz2 : Did W s z2.2 := hbmRead_did (within hW rfl) h
  clear_value z2
  refine did_ite_of (fun x : (_ × _) => x.2) ?_ ?_
  · subst z1
    exact setPoison_did (within hW rfl) (putHbm_did (within hW rfl) (meter_did (within hW rfl) h))
  · refine did_ite_of (fun x : (_ × _) => x.2) ?_ ?_
    · exact hz2
    · subst z1
      exact setPoison_did (within hW rfl) (putHbm_did (within hW rfl) (meter_did (within hW rfl) hz2))

/-! Home -/

theorem promoteNow_did {W : Nat} {s : State} {a1 : Nat} {a2 : Nat} {a3 : ALine} {u : State}
    (hW : W &&& 0x102c0000802 = 0x102c0000802) (h : Did W s u) : Did W s (promoteNow a1 a2 a3 u) := by
  unfold promoteNow
  extract_lets z1 z2
  clear_value z1
  have hz2 : Did W s z2 := invAll_did (within hW rfl) h
  clear_value z2
  exact linePut_did (within hW rfl) (entClose_did (within hW rfl) hz2)

theorem makeRoom_did {W : Nat} {s : State} {a1 : Nat} {u : State}
    (hW : W &&& 0x102c0000802 = 0x102c0000802) (h : Did W s u) : Did W s (makeRoom a1 u) := by
  unfold makeRoom
  refine did_ite h ?_
  split
  · exact h
  · exact bumpObj_did (within hW rfl) (entDel_did (within hW rfl) (invAll_did (within hW rfl) h))

theorem getmNow_did {W : Nat} {s : State} {a1 : Nat} {a2 : Option Nat} {a3 : Nat} {u : State}
    (hW : W &&& 0x502c000186e = 0x502c000186e) (h : Did W s u) : Did W s (getmNow a1 a2 a3 u).2 := by
  unfold getmNow
  extract_lets z1 z2 z3 z4 z5 z6
  have hz1 : Did W s z1 := makeRoom_did (within hW rfl) h
  clear_value z1
  clear_value z2
  clear_value z3
  have hz4 : Did W s z4 := invAll_did (within hW rfl) (lineDrop_did (within hW rfl) hz1)
  clear_value z4
  have hz5 : Did W s z5 := invAll_did (within hW rfl) hz1
  clear_value z5
  have hz6 : Did W s z6.2.2 := homeRead_did (within hW rfl) hz5
  clear_value z6
  split
  · exact agentFill_did (within hW rfl) (entClose_did (within hW rfl) hz4)
  · exact agentFill_did (within hW rfl) (entClose_did (within hW rfl) hz6)

theorem groupOwn_did {W : Nat} {s : State} {a1 : Nat} {a2 : Option Nat} {a3 : Nat} {u : State}
    (hW : W &&& 0x502c000186e = 0x502c000186e) (h : Did W s u) : Did W s (groupOwn a1 a2 a3 u).2 := by
  unfold groupOwn
  split
  · exact l2Touch_did (within hW rfl) (did_ite h (promoteNow_did (within hW rfl) h))
  · exact getmNow_did (within hW rfl) h

theorem groupWrite'_did {W : Nat} {s : State} {a1 : Nat} {a2 : Option Nat} {a3 : Nat} {a4 : LineData} {a5 : LineData} {u : State}
    (hW : W &&& 0x502c000186e = 0x502c000186e) (h : Did W s u) : Did W s (groupWrite' a1 a2 a3 a4 a5 u).2 := by
  unfold groupWrite'
  extract_lets z1 z2
  clear_value z1
  have hz2 : Did W s z2.2 := groupOwn_did (within hW rfl) h
  clear_value z2
  refine did_ite_of (fun x : (_ × _) => x.2) ?_ ?_
  · exact putNow_did (within hW rfl) h
  · split
    · exact hz2
    · refine did_ite_of (fun x : (_ × _) => x.2) ?_ ?_
      · exact hz2
      · exact linePut_did (within hW rfl) hz2

/-! Memory -/

theorem pendSet_did {W : Nat} {s : State} {a1 : List Pend} {u : State}
    (hW : W &&& 0x800000000 = 0x800000000) (h : Did W s u) : Did W s (pendSet a1 u) := by
  unfold pendSet
  exact did_mk h

theorem emitWord_did {W : Nat} {s : State} {a1 : Nat} {a2 : Codeword} {u : State}
    (hW : W &&& 0x4 = 0x4) (h : Did W s u) : Did W s (emitWord a1 a2 u) := by
  unfold emitWord
  extract_lets z1
  clear_value z1
  exact did_ite h (emit_did (within hW rfl) h)

/-! Ops -/

theorem portPut_did {W : Nat} {s : State} {u : State} {a2 : Nat} {a3 : Port}
    (hW : W &&& 0x400000000 = 0x400000000) (h : Did W s u) : Did W s (portPut u a2 a3) := by
  unfold portPut
  exact did_mk h

/-! Memory -/

theorem sendWord_did {W : Nat} {s : State} {a1 : Nat} {a2 : Codeword} {u : State}
    (hW : W &&& 0x400000004 = 0x400000004) (h : Did W s u) : Did W s (sendWord a1 a2 u) := by
  unfold sendWord
  extract_lets z1
  clear_value z1
  exact emitWord_did (within hW rfl) (portPut_did (within hW rfl) h)

theorem sendStream_did {W : Nat} {s : State} {a1 : Nat} {a2 : List Byte} {u : State}
    (hW : W &&& 0x400000004 = 0x400000004) (h : Did W s u) : Did W s (sendStream a1 a2 u) := by
  unfold sendStream
  extract_lets z1
  clear_value z1
  refine did_foldl ?_ h
  intro x2 x3 h4
  exact sendWord_did (within hW rfl) h4

theorem sendItems_did {W : Nat} {s : State} {a1 : Nat} {a2 : List TxItem} {a3 : List Byte} {u : State}
    (hW : W &&& 0x400000004 = 0x400000004) (h : Did W s u) : Did W s (sendItems a1 a2 a3 u) := by
  induction a2 generalizing a3 u with
  | nil => exact sendStream_did (within hW rfl) h
  | cons x r ih =>
    cases x with
    | marker k => exact ih (sendWord_did (within hW rfl) (sendWord_did (within hW rfl) (sendStream_did (within hW rfl) h)))
    | packet q l => exact ih (portPut_did (within hW rfl) h)

theorem flushPort_did {W : Nat} {s : State} {a1 : Nat} {u : State}
    (hW : W &&& 0x400000004 = 0x400000004) (h : Did W s u) : Did W s (flushPort a1 u) := by
  unfold flushPort
  extract_lets z1 z2 z3
  clear_value z1
  clear_value z2
  clear_value z3
  exact sendItems_did (within hW rfl) (portPut_did (within hW rfl) h)

theorem pushItem_did {W : Nat} {s : State} {a1 : Nat} {a2 : TxItem} {u : State}
    (hW : W &&& 0x400000004 = 0x400000004) (h : Did W s u) : Did W s (pushItem a1 a2 u) := by
  unfold pushItem
  extract_lets z1
  clear_value z1
  exact flushPort_did (within hW rfl) (portPut_did (within hW rfl) h)

theorem pushPacket_did {W : Nat} {s : State} {a1 : Nat} {a2 : BitVec 256} {a3 : List Byte} {u : State}
    (hW : W &&& 0x400000004 = 0x400000004) (h : Did W s u) : Did W s (pushPacket a1 a2 a3 u) := by
  unfold pushPacket
  exact pushItem_did (within hW rfl) h

theorem request_did {W : Nat} {s : State} {a1 : Pend} {a2 : Nat → BitVec 256} {a3 : List Byte} {u : State}
    (hW : W &&& 0xc00000004 = 0xc00000004) (h : Did W s u) : Did W s (request a1 a2 a3 u).2 := by
  unfold request
  extract_lets z1 z2 z3 z4
  clear_value z1
  clear_value z2
  have hz3 : Did W s z3 := did_mk h
  clear_value z3
  have hz4 : Did W s z4 := pendSet_did (within hW rfl) hz3
  clear_value z4
  split
  · exact hz4
  · refine did_ite_of (fun x : (_ × _) => x.2) ?_ ?_
    · exact hz4
    · exact pushPacket_did (within hW rfl) (pendSet_did (within hW rfl) hz3)

/-! Ops -/

theorem slotPut_did {W : Nat} {s : State} {u : State} {a2 : Nat} {a3 : Slot}
    (hW : W &&& 0x4000000 = 0x4000000) (h : Did W s u) : Did W s (slotPut u a2 a3) := by
  unfold slotPut
  exact did_mk h

theorem queuePut_did {W : Nat} {s : State} {u : State} {a2 : Nat} {a3 : Queue}
    (hW : W &&& 0x80000 = 0x80000) (h : Did W s u) : Did W s (queuePut u a2 a3) := by
  unfold queuePut
  exact did_mk h

theorem ctxPut_did {W : Nat} {s : State} {u : State} {a2 : Nat} {a3 : Ctx}
    (hW : W &&& 0x40000 = 0x40000) (h : Did W s u) : Did W s (ctxPut u a2 a3) := by
  unfold ctxPut
  exact did_mk h

theorem batonPut_did {W : Nat} {s : State} {u : State} {a2 : Nat} {a3 : Baton}
    (hW : W &&& 0x1000000 = 0x1000000) (h : Did W s u) : Did W s (batonPut u a2 a3) := by
  unfold batonPut
  exact did_mk h

theorem tcMod_did {W : Nat} {s : State} {u : State} {a2 : Nat} {a3 : TCore → TCore}
    (hW : W &&& 0x4000 = 0x4000) (h : Did W s u) : Did W s (tcMod u a2 a3) := by
  unfold tcMod
  exact tcPut_did (within hW rfl) h

/-! Issue -/

theorem retire_did {W : Nat} {s : State} {a1 : Nat} {a2 : W64} {u : State}
    (hW : W &&& 0x4000 = 0x4000) (h : Did W s u) : Did W s (retire a1 a2 u) := by
  unfold retire
  exact tcMod_did (within hW rfl) h

/-! Memory -/

theorem sendOn_did {W : Nat} {s : State} {a1 : Option Nat} {a2 : BitVec 256} {a3 : List Byte} {u : State}
    (hW : W &&& 0x400000004 = 0x400000004) (h : Did W s u) : Did W s (sendOn a1 a2 a3 u) := by
  unfold sendOn
  split
  · exact pushPacket_did (within hW rfl) h
  · exact h

/-! Ops -/

theorem groupPut_did {W : Nat} {s : State} {u : State} {a2 : Nat} {a3 : Group}
    (hW : W &&& 0x2000000 = 0x2000000) (h : Did W s u) : Did W s (groupPut u a2 a3) := by
  unfold groupPut
  exact did_mk h

/-! Issue -/

theorem enter_did {W : Nat} {s : State} {a1 : Nat} {a2 : Op} {u : State}
    (hW : W &&& 0x4000 = 0x4000) (h : Did W s u) : Did W s (enter a1 a2 u) := by
  unfold enter
  exact tcMod_did (within hW rfl) h

theorem issue_did {W : Nat} {s : State} {a1 : Nat} {a2 : Op} {u : State}
    (hW : W &&& 0x4000 = 0x4000) (h : Did W s u) : RDid W s (issue a1 a2 u) := by
  unfold issue
  refine rdid_ite ?_ ?_
  · refine PacerRes.next_did ?_
    exact enter_did (within hW rfl) h
  · exact PacerRes.stall_did

/-! Home -/

theorem lookNow_did {W : Nat} {s : State} {a1 : Nat} {a2 : Option Nat} {a3 : Nat} {u : State}
    (hW : W &&& 0x502c000186e = 0x502c000186e) (h : Did W s u) : Did W s (lookNow a1 a2 a3 u).2.2 := by
  unfold lookNow
  split
  · exact h
  · exact homeRead_did (within hW rfl) h

theorem casNow_did {W : Nat} {s : State} {a1 : Option Nat} {a2 : Nat} {a3 : Nat} {a4 : W64} {a5 : W64} {u : State}
    (hW : W &&& 0x502c000186e = 0x502c000186e) (h : Did W s u) : Did W s (casNow a1 a2 a3 a4 a5 u).2.2 := by
  unfold casNow
  extract_lets z1 z2 z3 z4
  clear_value z1
  have hz2 : Did W s z2 := entDel_did (within hW rfl) (invAll_did (within hW rfl) h)
  clear_value z2
  have hz3 : Did W s z3.2.2 := homeRead_did (within hW rfl) hz2
  clear_value z3
  clear_value z4
  refine did_ite_of (fun x : (_ × (_ × _)) => x.2.2) ?_ ?_
  · exact hz3
  · refine did_ite_of (fun x : (_ × (_ × _)) => x.2.2) ?_ ?_
    · exact toHome_did (within hW rfl) hz3
    · exact hz3

/-! Ops -/

theorem rqPut_did {W : Nat} {s : State} {u : State} {a2 : Nat} {a3 : RQueue}
    (hW : W &&& 0x1000000000 = 0x1000000000) (h : Did W s u) : Did W s (rqPut u a2 a3) := by
  unfold rqPut
  exact did_mk h

theorem pciePut_did {W : Nat} {s : State} {u : State} {a2 : Nat} {a3 : Pcie}
    (hW : W &&& 0x8000000000 = 0x8000000000) (h : Did W s u) : Did W s (pciePut u a2 a3) := by
  unfold pciePut
  exact did_mk h

theorem record_did {W : Nat} {s : State} {a1 : Nat} {a2 : Nat} {a3 : Nat} {a4 : Nat} {u : State}
    (hW : W &&& 0x50000000846 = 0x50000000846) (h : Did W s u) : Did W s (record a1 a2 a3 a4 u) := by
  unfold record
  exact announceFault_did (within hW rfl) (logFault_did (within hW rfl) h)

theorem fault2_did {W : Nat} {s : State} {a1 : Nat} {a2 : Nat} {a3 : Nat} {a4 : List (Nat × Nat)} {u : State}
    (hW : W &&& 0x5000000086e = 0x5000000086e) (h : Did W s u) : Did W s (fault2 a1 a2 a3 a4 u) := by
  unfold fault2
  refine did_ite (logFault_did (within hW rfl) h) ?_
  extract_lets z1 z2 z3 z4 z5 z6
  clear_value z1
  clear_value z2
  have hz3 : Did W s z3 := bumpObj_did (within hW rfl) (logFault_did (within hW rfl) h)
  clear_value z3
  have hz4 : Did W s z4 := countInWindows_did (within hW rfl) hz3
  clear_value z4
  clear_value z5
  have hz6 : Did W s z6 := did_ite hz4 (did_mk hz4)
  clear_value z6
  exact afterFault_did (within hW rfl) hz6

/-! Health -/

theorem startMigration_did {W : Nat} {s : State} {a1 : Nat} {u : State}
    (hW : W &&& 0x5008000086e = 0x5008000086e) (h : Did W s u) : Did W s (startMigration a1 u) := by
  unfold startMigration
  extract_lets z1
  clear_value z1
  split
  · exact h
  · exact did_ite h (fault2_did (within hW rfl) (mdPut_did (within hW rfl) h))

theorem addCandidate_did {W : Nat} {s : State} {a1 : Nat} {a2 : Nat} {u : State}
    (hW : W &&& 0x5008000086e = 0x5008000086e) (h : Did W s u) : Did W s (addCandidate a1 a2 u) := by
  unfold addCandidate
  extract_lets z1 z2
  clear_value z1
  have hz2 : Did W s z2 := mdPut_did (within hW rfl) h
  clear_value z2
  exact did_ite h (did_ite (mdPut_did (within hW rfl) h) (did_ite (startMigration_did (within hW rfl) hz2) hz2))

/-! Ops -/

theorem linkPut_did {W : Nat} {s : State} {u : State} {a2 : Nat} {a3 : Link}
    (hW : W &&& 0x100 = 0x100) (h : Did W s u) : Did W s (linkPut u a2 a3) := by
  unfold linkPut
  exact did_mk h

/-! Health -/

theorem linkSwitch_did {W : Nat} {s : State} {a1 : Nat} {a2 : Bool} {a3 : Nat} {u : State}
    (hW : W &&& 0x100 = 0x100) (h : Did W s u) : Did W s (linkSwitch a1 a2 a3 u) := by
  unfold linkSwitch
  extract_lets z1
  clear_value z1
  split
  · exact linkPut_did (within hW rfl) h
  · exact linkPut_did (within hW rfl) h

theorem portSwitch_did {W : Nat} {s : State} {a1 : Nat} {a2 : Bool} {a3 : Nat} {u : State}
    (hW : W &&& 0x400000000 = 0x400000000) (h : Did W s u) : Did W s (portSwitch a1 a2 a3 u) := by
  unfold portSwitch
  extract_lets z1
  clear_value z1
  split
  · exact portPut_did (within hW rfl) h
  · exact portPut_did (within hW rfl) h

/-! Memory -/

theorem emitSideband_did {W : Nat} {s : State} {a1 : Nat} {a2 : Nat} {a3 : Nat} {u : State}
    (hW : W &&& 0x4 = 0x4) (h : Did W s u) : Did W s (emitSideband a1 a2 a3 u) := by
  unfold emitSideband
  exact emitWord_did (within hW rfl) h

/-! Ops -/

theorem scLevel_did {W : Nat} {s : State} {a1 : Nat} {u : State}
    (hW : W &&& 0x10000000000 = 0x10000000000) (h : Did W s u) : Did W s (scLevel a1 u) := by
  unfold scLevel
  extract_lets z1
  clear_value z1
  exact did_ite (srcPut_did (within hW rfl) h) h

/-! Issue -/

theorem pacerRun_did {W : Nat} {s : State} {a1 : Nat} {a2 : Instr} {a3 : Nat} {a4 : Item → State → PacerRes} {u : State}
    (hW : W &&& 0xc000 = 0xc000) (g4 : ∀ x1 x2, Did W s x2 → RDid W s (a4 x1 x2)) (h : Did W s u) : Did W s (pacerRun a1 a2 a3 a4 u) := by
  unfold pacerRun
  dsimp only
  repeat' (first | exact h | split)
  · exact pacerFault_did (within hW rfl) h
  · rename_i it _ _ _ _ _ t e
    have := g4 it u h
    rw [e] at this
    exact retire_did (within hW rfl) this
  · rename_i it _ _ _ _ _ t pc e
    have := g4 it u h
    rw [e] at this
    exact retire_did (within hW rfl) this
  · exact tcPut_did (within hW rfl) h
  · exact pacerFault_did (within hW rfl) h

/-! Home -/

theorem getsNow_did {W : Nat} {s : State} {a1 : Nat} {a2 : Option Nat} {a3 : Bool} {a4 : Nat} {a5 : Nat} {u : State}
    (hW : W &&& 0x502c000186e = 0x502c000186e) (h : Did W s u) : Did W s (getsNow a1 a2 a3 a4 a5 u).2.2 := by
  unfold getsNow
  extract_lets z1 z2 z3 z4 z5
  have hz1 : Did W s z1 := makeRoom_did (within hW rfl) h
  clear_value z1
  clear_value z2
  clear_value z3
  have hz4 : Did W s z4.2.2 := homeRead_did (within hW rfl) hz1
  clear_value z4
  have hz5 : Did W s z5 := entClose_did (within hW rfl) hz4
  clear_value z5
  split
  · extract_lets z9 z10
    have hz9 : Did W s z9 := linePut_did (within hW rfl) hz1
    clear_value z9
    have hz10 : Did W s z10 := entClose_did (within hW rfl) hz9
    clear_value z10
    exact agentFill_did (within hW rfl) hz10
  · exact agentFill_did (within hW rfl) hz5

theorem clusterRead_did {W : Nat} {s : State} {a1 : Nat} {a2 : Option Nat} {a3 : Nat} {a4 : Nat} {u : State}
    (hW : W &&& 0x502c000186e = 0x502c000186e) (h : Did W s u) : Did W s (clusterRead a1 a2 a3 a4 u).2.2 := by
  unfold clusterRead
  split
  · exact l2Touch_did (within hW rfl) h
  · split
    · extract_lets z9
      have hz9 : Did W s z9.2 := agentFill_did (within hW rfl) (l2Touch_did (within hW rfl) h)
      clear_value z9
      exact did_ite (cohMod_did (within hW rfl) hz9) hz9
    · exact getsNow_did (within hW rfl) h

theorem groupRead_did {W : Nat} {s : State} {a1 : Nat} {a2 : Option Nat} {a3 : Nat} {u : State}
    (hW : W &&& 0x502c000186e = 0x502c000186e) (h : Did W s u) : Did W s (groupRead a1 a2 a3 u).2.2 := by
  unfold groupRead
  split
  · exact l2Touch_did (within hW rfl) h
  · refine did_ite_of (fun x : (_ × (_ × _)) => x.2.2) ?_ ?_
    · exact getsNow_did (within hW rfl) h
    · exact lookNow_did (within hW rfl) h

/-! Memory -/

theorem freeBytes_did {W : Nat} {s : State} {a1 : Nat} {u : State}
    (hW : W &&& 0x2 = 0x2) (h : Did W s u) : Did W s (freeBytes a1 u).2 := by
  induction a1 generalizing u with
  | zero  =>
    unfold freeBytes
    dsimp only
    exact h
  | succ r1 r2 =>
    unfold freeBytes
    dsimp only
    exact r2 (drawFree_did (within hW rfl) h)

theorem freeRoom_did {W : Nat} {s : State} {a1 : Nat} {u : State}
    (hW : W &&& 0x400000004 = 0x400000004) (h : Did W s u) : Did W s (freeRoom a1 u) := by
  unfold freeRoom
  refine did_foldl ?_ h
  intro x1 x2 h3
  exact flushPort_did (within hW rfl) (portPut_did (within hW rfl) h3)

theorem sendHeld_did {W : Nat} {s : State} {a1 : List Nat} {u : State}
    (hW : W &&& 0xc00000004 = 0xc00000004) (h : Did W s u) : Did W s (sendHeld a1 u) := by
  induction a1 generalizing u with
  | nil  =>
    unfold sendHeld
    exact h
  | cons r1 r2 r3 =>
    unfold sendHeld
    split
    · exact r3 h
    · split
      · exact r3 h
      · split
        · exact r3 h
        · exact did_ite (r3 h) (r3 (pushPacket_did (within hW rfl) (pendSet_did (within hW rfl) h)))

theorem dropPend_did {W : Nat} {s : State} {a1 : Nat} {u : State}
    (hW : W &&& 0xc00000004 = 0xc00000004) (h : Did W s u) : Did W s (dropPend a1 u) := by
  unfold dropPend
  extract_lets z1
  have hz1 : Did W s z1 := freeRoom_did (within hW rfl) (pendSet_did (within hW rfl) h)
  clear_value z1
  exact sendHeld_did (within hW rfl) hz1

/-! Health -/

theorem regPut_did {W : Nat} {s : State} {u : State} {a2 : Nat} {a3 : W64}
    (hW : W &&& 0x2000 = 0x2000) (h : Did W s u) : Did W s (regPut u a2 a3) := by
  unfold regPut
  exact did_mk h

theorem linkReplace_did {W : Nat} {s : State} {a1 : Nat} {a2 : Bool} {a3 : Nat} {a4 : Bool} {u : State}
    (hW : W &&& 0x140 = 0x140) (h : Did W s u) : Did W s (linkReplace a1 a2 a3 a4 u) := by
  unfold linkReplace
  extract_lets z1
  clear_value z1
  refine did_ite (did_ite (deferRepair_did (within hW rfl) h) (linkSwitch_did (within hW rfl) h)) ?_
  split
  · exact did_ite (linkPut_did (within hW rfl) h) h
  · exact h

theorem linkFail_did {W : Nat} {s : State} {a1 : Nat} {u : State}
    (hW : W &&& 0x50000000d6e = 0x50000000d6e) (h : Did W s u) : Did W s (linkFail a1 u) := by
  unfold linkFail
  extract_lets z1 z2 z3 z4 z5 z6
  clear_value z1
  clear_value z2
  have hz3 : Did W s z3 := linkPut_did (within hW rfl) h
  clear_value z3
  clear_value z4
  have hz5 : Did W s z5 := fault2_did (within hW rfl) hz3
  clear_value z5
  have hz6 : Did W s z6 := did_mk hz5
  clear_value z6
  refine did_foldl ?_ hz6
  intro x7 x8 h9
  exact fatal_did (within hW rfl) h9

theorem linkHalf_did {W : Nat} {s : State} {a1 : Nat} {u : State}
    (hW : W &&& 0x5000000096e = 0x5000000096e) (h : Did W s u) : Did W s (linkHalf a1 u) := by
  unfold linkHalf
  extract_lets z1
  clear_value z1
  exact fault2_did (within hW rfl) (linkPut_did (within hW rfl) h)

theorem linkLaneFail_did {W : Nat} {s : State} {a1 : Nat} {a2 : Bool} {a3 : Nat} {u : State}
    (hW : W &&& 0x50000000d6e = 0x50000000d6e) (h : Did W s u) : Did W s (linkLaneFail a1 a2 a3 u) := by
  unfold linkLaneFail
  extract_lets z1 z2 z3 z4 z5 z6
  clear_value z1
  clear_value z2
  clear_value z3
  have hz4 : Did W s z4 := linkPut_did (within hW rfl) h
  clear_value z4
  clear_value z5
  have hz6 : Did W s z6 := fault1_did (within hW rfl) hz4
  clear_value z6
  exact did_ite h (did_ite (fault1_did (within hW rfl) hz4) (did_ite (linkFail_did (within hW rfl) hz4) (did_ite (linkHalf_did (within hW rfl) hz4) (did_ite hz6 (linkReplace_did (within hW rfl) hz6)))))

theorem repair_did {W : Nat} {s : State} {a1 : Deferred} {u : State}
    (hW : W &&& 0x5048000096e = 0x5048000096e) (h : Did W s u) : Did W s (repair a1 u) := by
  unfold repair
  exact did_ite (linkSwitch_did (within hW rfl) h) (did_ite (portSwitch_did (within hW rfl) h) (did_ite (pageRecord_did (within hW rfl) h) (addCandidate_did (within hW rfl) h)))

theorem closeWindow_did {W : Nat} {s : State} {a1 : Nat} {a2 : Nat} {u : State}
    (hW : W &&& 0x5048000096e = 0x5048000096e) (h : Did W s u) : Did W s (closeWindow a1 a2 u) := by
  unfold closeWindow
  extract_lets z1 z2 z3
  clear_value z1
  clear_value z2
  have hz3 : Did W s z3 := did_mk h
  clear_value z3
  refine did_foldl ?_ hz3
  intro x4 x5 h6
  exact repair_did (within hW rfl) h6

theorem portFail_did {W : Nat} {s : State} {a1 : Nat} {u : State}
    (hW : W &&& 0x5040000086e = 0x5040000086e) (h : Did W s u) : Did W s (portFail a1 u) := by
  unfold portFail
  extract_lets z1 z2
  clear_value z1
  clear_value z2
  exact scRaise_did (within hW rfl) (fault2_did (within hW rfl) (portPut_did (within hW rfl) h))

theorem portHalf_did {W : Nat} {s : State} {a1 : Nat} {u : State}
    (hW : W &&& 0x5040000086e = 0x5040000086e) (h : Did W s u) : Did W s (portHalf a1 u) := by
  unfold portHalf
  extract_lets z1
  clear_value z1
  exact fault2_did (within hW rfl) (portPut_did (within hW rfl) h)

theorem portReplace_did {W : Nat} {s : State} {a1 : Nat} {a2 : Bool} {a3 : Nat} {a4 : Bool} {u : State}
    (hW : W &&& 0x400000040 = 0x400000040) (h : Did W s u) : Did W s (portReplace a1 a2 a3 a4 u) := by
  unfold portReplace
  extract_lets z1
  clear_value z1
  refine did_ite (did_ite (deferRepair_did (within hW rfl) h) (portSwitch_did (within hW rfl) h)) ?_
  split
  · exact did_ite (portPut_did (within hW rfl) h) h
  · exact h

theorem portLaneFail_did {W : Nat} {s : State} {a1 : Nat} {a2 : Bool} {a3 : Nat} {u : State}
    (hW : W &&& 0x5040000086e = 0x5040000086e) (h : Did W s u) : Did W s (portLaneFail a1 a2 a3 u) := by
  unfold portLaneFail
  extract_lets z1 z2 z3 z4 z5 z6
  clear_value z1
  clear_value z2
  clear_value z3
  have hz4 : Did W s z4 := portPut_did (within hW rfl) h
  clear_value z4
  clear_value z5
  have hz6 : Did W s z6 := fault1_did (within hW rfl) hz4
  clear_value z6
  exact did_ite h (did_ite (fault1_did (within hW rfl) hz4) (did_ite (portFail_did (within hW rfl) hz4) (did_ite (portHalf_did (within hW rfl) hz4) (did_ite hz6 (portReplace_did (within hW rfl) hz6)))))

theorem laneFail_did {W : Nat} {s : State} {a1 : LaneUnit} {a2 : Bool} {a3 : Nat} {u : State}
    (hW : W &&& 0x50480000d6e = 0x50480000d6e) (h : Did W s u) : Did W s (laneFail a1 a2 a3 u) := by
  unfold laneFail
  split
  · exact linkLaneFail_did (within hW rfl) h
  · exact closeWindow_did (within hW rfl) (portLaneFail_did (within hW rfl) h)

/-! Hbm -/

theorem setFlaws_did {W : Nat} {s : State} {a1 : List (Nat × Bool)} {u : State}
    (hW : W &&& 0x40000000 = 0x40000000) (h : Did W s u) : Did W s (setFlaws a1 u) := by
  unfold setFlaws
  exact did_mk h

theorem withFlaws_did {W : Nat} {s : State} {a1 : List (Nat × Bool)} {a2 : State → State} {u : State}
    (hW : W &&& 0x40000000 = 0x40000000) (g2 : ∀ x1, Did W s x1 → Did W s (a2 x1)) (h : Did W s u) : Did W s (withFlaws a1 a2 u) := by
  unfold withFlaws
  exact setFlaws_did (within hW rfl) (g2 _ (setFlaws_did (within hW rfl) h))

/-! Ops -/

theorem osetBit_did {W : Nat} {s : State} {a1 : Nat} {a2 : Nat} {a3 : Nat} {a4 : Bool} {u : State}
    (hW : W &&& 0x800 = 0x800) (h : Did W s u) : Did W s (osetBit a1 a2 a3 a4 u) := by
  unfold osetBit
  extract_lets z1
  clear_value z1
  exact oset_did (within hW rfl) h

/-! Hbm -/

theorem execPartBwWindow_did {W : Nat} {s : State} {a1 : Nat} {u : State}
    (hW : W &&& 0x80000000 = 0x80000000) (h : Did W s u) : ODid W s (execPartBwWindow a1 u) := by
  unfold execPartBwWindow
  refine onUnit_odid ?_
  exact mdPut_did (within hW rfl) h

end Sys2Proof.Machine
end

