-- ==== Sys2Proof/Laws/DidCoherence.lean ====
section
/-! SUPPORT. What each operation of these units can do, one lemma for each: the coherence protocol and the accesses of units. -/

-- one theorem after the other: a thread for each of hundreds of small theorems takes more memory than the check allows
set_option Elab.async false

set_option linter.all false

namespace Sys2Proof.Machine

open Sys2Proof

/-! Protocol -/

theorem ackNone_did {W : Nat} {s : State} {a1 : Nat} {a2 : Nat} {u : State}
    (hW : W &&& 0x200000000 = 0x200000000) (h : Did W s u) : Did W s (ackNone a1 a2 u) := by
  unfold ackNone
  exact say_did (within hW rfl) h

theorem wbClean_did {W : Nat} {s : State} {a1 : Nat} {a2 : Nat} {u : State}
    (hW : W &&& 0x200000000 = 0x200000000) (h : Did W s u) : Did W s (wbClean a1 a2 u) := by
  unfold wbClean
  exact cohMod_did (within hW rfl) h

theorem fwdsAt_did {W : Nat} {s : State} {a1 : Nat} {a2 : Nat} {a3 : Nat} {u : State}
    (hW : W &&& 0x200000000 = 0x200000000) (h : Did W s u) : Did W s (fwdsAt a1 a2 a3 u) := by
  unfold fwdsAt
  split
  · refine did_ite (ackNone_did (within hW rfl) h) ?_
    extract_lets z4
    clear_value z4
    exact say_did (within hW rfl) (say_did (within hW rfl) (linePut_did (within hW rfl) h))
  · split
    · exact did_ite (say_did (within hW rfl) (say_did (within hW rfl) (wbClean_did (within hW rfl) h))) (ackNone_did (within hW rfl) h)
    · exact ackNone_did (within hW rfl) h

theorem fwdmAt_did {W : Nat} {s : State} {a1 : Nat} {a2 : Nat} {a3 : Nat} {u : State}
    (hW : W &&& 0x200000000 = 0x200000000) (h : Did W s u) : Did W s (fwdmAt a1 a2 a3 u) := by
  unfold fwdmAt
  split
  · refine did_ite (ackNone_did (within hW rfl) (lineDrop_did (within hW rfl) h)) ?_
    extract_lets z4
    clear_value z4
    exact say_did (within hW rfl) (say_did (within hW rfl) (lineDrop_did (within hW rfl) h))
  · split
    · exact did_ite (say_did (within hW rfl) (say_did (within hW rfl) (wbClean_did (within hW rfl) h))) (ackNone_did (within hW rfl) h)
    · exact ackNone_did (within hW rfl) h

theorem invAt_did {W : Nat} {s : State} {a1 : Nat} {a2 : Nat} {a3 : Bool} {u : State}
    (hW : W &&& 0x200000000 = 0x200000000) (h : Did W s u) : Did W s (invAt a1 a2 a3 u) := by
  unfold invAt
  split
  · extract_lets z4
    have hz4 : Did W s z4 := nearInv_did (within hW rfl) (lineDrop_did (within hW rfl) h)
    clear_value z4
    exact did_ite (say_did (within hW rfl) hz4) (ackNone_did (within hW rfl) hz4)
  · split
    · exact did_ite (say_did (within hW rfl) (wbClean_did (within hW rfl) h)) (say_did (within hW rfl) (wbClean_did (within hW rfl) h))
    · exact ackNone_did (within hW rfl) (nearInv_did (within hW rfl) h)

theorem wbAnswer_did {W : Nat} {s : State} {a1 : Nat} {a2 : Nat} {u : State}
    (hW : W &&& 0x200000000 = 0x200000000) (h : Did W s u) : Did W s (wbAnswer a1 a2 u) := by
  unfold wbAnswer
  split
  · exact did_ite (say_did (within hW rfl) (wbClean_did (within hW rfl) h)) (ackNone_did (within hW rfl) h)
  · exact ackNone_did (within hW rfl) h

theorem peekAt_did {W : Nat} {s : State} {a1 : Nat} {a2 : Nat} {u : State}
    (hW : W &&& 0x200000000 = 0x200000000) (h : Did W s u) : Did W s (peekAt a1 a2 u) := by
  unfold peekAt
  split
  · exact say_did (within hW rfl) h
  · exact wbAnswer_did (within hW rfl) h

theorem flushdAt_did {W : Nat} {s : State} {a1 : Nat} {a2 : Nat} {u : State}
    (hW : W &&& 0x200000000 = 0x200000000) (h : Did W s u) : Did W s (flushdAt a1 a2 u) := by
  unfold flushdAt
  split
  · refine did_ite ?_ (say_did (within hW rfl) h)
    extract_lets z4
    clear_value z4
    exact say_did (within hW rfl) (linePut_did (within hW rfl) h)
  · exact wbAnswer_did (within hW rfl) h

theorem closeEnt_did {W : Nat} {s : State} {a1 : Nat} {a2 : DirEnt} {u : State}
    (hW : W &&& 0x102c0000802 = 0x102c0000802) (h : Did W s u) : Did W s (closeEnt a1 a2 u) := by
  unfold closeEnt
  extract_lets z1 z2
  clear_value z1
  have hz2 : Did W s z2 := did_ite (entDel_did (within hW rfl) h) (entPut_did (within hW rfl) h)
  clear_value z2
  refine did_foldl ?_ hz2
  intro x3 x4 h5
  exact applyVac_did (within hW rfl) h5

theorem llcClean_did {W : Nat} {s : State} {a1 : Nat} {u : State}
    (hW : W &&& 0x100c0000802 = 0x100c0000802) (h : Did W s u) : Did W s (llcClean a1 u) := by
  unfold llcClean
  split
  · exact h
  · refine did_ite ?_ h
    extract_lets z6 z7
    have hz6 : Did W s z6 := hbmLine_did (within hW rfl) h
    clear_value z6
    exact did_mk hz6

theorem zeroLine_did {W : Nat} {s : State} {a1 : Nat} {u : State}
    (hW : W &&& 0x40000000 = 0x40000000) (h : Did W s u) : Did W s (zeroLine a1 u) := by
  unfold zeroLine
  generalize List.replicate 128 (0 : Byte) = l
  exact did_mk h (khbm := fun hh => twf_tputs l _ _ hh) (kmem := off hW rfl)

theorem maintHome_did {W : Nat} {s : State} {a1 : Nat} {a2 : Nat} {u : State}
    (hW : W &&& 0x100c0000802 = 0x100c0000802) (h : Did W s u) : Did W s (maintHome a1 a2 u) := by
  unfold maintHome
  split
  · exact llcClean_did (within hW rfl) h
  · exact llcDrop_did (within hW rfl) h
  · exact llcEvict_did (within hW rfl) h
  · exact zeroLine_did (within hW rfl) (llcDrop_did (within hW rfl) h)

theorem advanceTask_did {W : Nat} {s : State} {a1 : Nat} {u : State}
    (hW : W &&& 0x102c0000802 = 0x102c0000802) (h : Did W s u) : Did W s (advanceTask a1 u).1 := by
  unfold advanceTask
  split
  · exact h
  · refine did_ite_of (fun x : (_ × _) => x.1) ?_ ?_
    · exact h
    · refine did_ite_of (fun x : (_ × _) => x.1) ?_ ?_
      · extract_lets z6
        clear_value z6
        exact closeEnt_did (within hW rfl) (maintHome_did (within hW rfl) h)
      · refine did_ite_of (fun x : (_ × _) => x.1) ?_ ?_
        · exact bumpObj_did (within hW rfl) (closeEnt_did (within hW rfl) h)
        · exact closeEnt_did (within hW rfl) h

theorem mdMaintPut_did {W : Nat} {s : State} {a1 : Nat} {a2 : Maint} {u : State}
    (hW : W &&& 0x80000000 = 0x80000000) (h : Did W s u) : Did W s (mdMaintPut a1 a2 u) := by
  unfold mdMaintPut
  exact mdPut_did (within hW rfl) h

theorem openMaint_did {W : Nat} {s : State} {a1 : Nat} {u : State}
    (hW : W &&& 0x102c0000802 = 0x102c0000802) (h : Did W s u) : Did W s (openMaint a1 u).1 := by
  unfold openMaint
  extract_lets z1 z2 z3
  clear_value z1
  clear_value z2
  have hz3 : Did W s z3 := mdMaintPut_did (within hW rfl) h
  clear_value z3
  split
  · exact maintHome_did (within hW rfl) hz3
  · extract_lets z9 z10
    clear_value z9
    have hz10 : Did W s z10 := entPut_did (within hW rfl) hz3
    clear_value z10
    refine did_ite_of (fun x : (_ × _) => x.1) ?_ ?_
    · exact hz10
    · refine did_foldl ?_ hz10
      intro x11 x12 h13
      exact say_did (within hW rfl) h13

theorem afterTask_did {W : Nat} {s : State} {a1 : Nat} {u : State}
    (hW : W &&& 0x102c0000802 = 0x102c0000802) (h : Did W s u) : Did W s (afterTask a1 u).1 := by
  unfold afterTask
  refine did_ite_of (fun x : (_ × _) => x.1) ?_ ?_
  · exact openMaint_did (within hW rfl) h
  · split
    · dsimp only
      exact cohMod_did (within hW rfl) h
    · exact h

theorem escalate_did {W : Nat} {s : State} {a1 : CohReq} {u : State}
    (hW : W &&& 0x200000000 = 0x200000000) (h : Did W s u) : Did W s (escalate a1 u) := by
  unfold escalate
  exact cohMod_did (within hW rfl) h

theorem nackCount_did {W : Nat} {s : State} {a1 : Nat} {a2 : Nat} {u : State}
    (hW : W &&& 0x802 = 0x802) (h : Did W s u) : Did W s (nackCount a1 a2 u) := by
  unfold nackCount
  extract_lets z1
  have hz1 : Did W s z1 := bumpObj_did (within hW rfl) h
  clear_value z1
  exact did_ite (bumpObj_did (within hW rfl) hz1) hz1

theorem nackIt_did {W : Nat} {s : State} {a1 : CohReq} {a2 : Nat} {u : State}
    (hW : W &&& 0x200000802 = 0x200000802) (h : Did W s u) : Did W s (nackIt a1 a2 u) := by
  unfold nackIt
  exact nackCount_did (within hW rfl) (say_did (within hW rfl) h)

theorem victimTask_did {W : Nat} {s : State} {a1 : CohReq} {u : State}
    (hW : W &&& 0x200000802 = 0x200000802) (h : Did W s u) : Did W s (victimTask a1 u).1 := by
  unfold victimTask
  split
  · exact did_ite (escalate_did (within hW rfl) h) (nackIt_did (within hW rfl) h)
  · extract_lets z7 z8
    clear_value z7
    have hz8 : Did W s z8 := entPut_did (within hW rfl) h
    clear_value z8
    refine did_ite_of (fun x : (_ × _) => x.1) ?_ ?_
    · exact hz8
    · refine did_foldl ?_ hz8
      intro x9 x10 h11
      exact say_did (within hW rfl) h11

theorem sendHome_did {W : Nat} {s : State} {a1 : CohReq} {a2 : Option Moesi} {u : State}
    (hW : W &&& 0x200000000 = 0x200000000) (h : Did W s u) : Did W s (sendHome a1 a2 u) := by
  unfold sendHome
  extract_lets z1
  clear_value z1
  exact say_did (within hW rfl) h

theorem memFault_did {W : Nat} {s : State} {a1 : Nat} {u : State}
    (hW : W &&& 0xc000 = 0xc000) (h : Did W s u) : Did W s (memFault a1 u) := by
  unfold memFault
  extract_lets z1
  clear_value z1
  exact did_ite (pacerFault_did (within hW rfl) h) h

theorem errorTo_did {W : Nat} {s : State} {a1 : Nat} {a2 : Nat} {a3 : Requester} {a4 : Bool} {a5 : Bool} {u : State}
    (hW : W &&& 0x1200000d806 = 0x1200000d806) (h : Did W s u) : Did W s (errorTo a1 a2 a3 a4 a5 u) := by
  unfold errorTo
  extract_lets z1
  have hz1 : Did W s z1 := memErr_did (within hW rfl) h
  clear_value z1
  refine did_ite (memFault_did (within hW rfl) hz1) (did_ite (did_ite (acTrap_did (within hW rfl) hz1) ?_) hz1)
  split
  · exact scRaise_did (within hW rfl) hz1
  · exact did_ite (scRaise_did (within hW rfl) hz1) hz1
  · exact hz1

theorem closeReq_did {W : Nat} {s : State} {a1 : Nat} {a2 : Nat} {u : State}
    (hW : W &&& 0x200000000 = 0x200000000) (h : Did W s u) : Did W s (closeReq a1 a2 u) := by
  unfold closeReq
  exact cohMod_did (within hW rfl) h

theorem performWrite_did {W : Nat} {s : State} {a1 : CohReq} {u : State}
    (hW : W &&& 0x522c000d86e = 0x522c000d86e) (h : Did W s u) : Did W s (performWrite a1 u).2 := by
  unfold performWrite
  extract_lets z1 z2 z3 z4 z5
  have hz2 : Did W s z2.2.2 := homeRead_did (within hW rfl) h
  clear_value z2
  clear_value z3
  have hz4 : Did W s z4 := did_ite (toHome_did (within hW rfl) hz2) hz2
  clear_value z4
  have hz5 : Did W s z5.2 := mergeHome_did (within hW rfl) h
  clear_value z5
  refine did_ite_of (fun x : (_ × _) => x.2) ?_ ?_
  · split
    · subst z1
      exact errorTo_did (within hW rfl) (closeReq_did (within hW rfl) hz2)
    · exact say_did (within hW rfl) hz4
  · split
    · subst z1
      exact errorTo_did (within hW rfl) (closeReq_did (within hW rfl) hz5)
    · exact say_did (within hW rfl) hz5

theorem sendPush_did {W : Nat} {s : State} {a1 : Nat} {a2 : Nat} {u : State}
    (hW : W &&& 0x200000000 = 0x200000000) (h : Did W s u) : Did W s (sendPush a1 a2 u) := by
  unfold sendPush
  extract_lets z1
  clear_value z1
  exact say_did (within hW rfl) h

theorem openPush_did {W : Nat} {s : State} {a1 : Nat} {a2 : Nat} {a3 : DirEnt} {u : State}
    (hW : W &&& 0x200000000 = 0x200000000) (h : Did W s u) : Did W s (openPush a1 a2 a3 u) := by
  unfold openPush
  extract_lets z1
  clear_value z1
  exact did_ite (sendPush_did (within hW rfl) (entPut_did (within hW rfl) h)) (entPut_did (within hW rfl) h)

theorem performReq_did {W : Nat} {s : State} {a1 : Nat} {a2 : DirEnt} {a3 : CohReq} {u : State}
    (hW : W &&& 0x522c000d86e = 0x522c000d86e) (h : Did W s u) : Did W s (performReq a1 a2 a3 u) := by
  unfold performReq
  split
  · refine did_ite (entPut_did (within hW rfl) h) ?_
    extract_lets z3
    clear_value z3
    exact sendHome_did (within hW rfl) (entPut_did (within hW rfl) h)
  · exact did_ite (entPut_did (within hW rfl) h) (sendHome_did (within hW rfl) (entPut_did (within hW rfl) h))
  · exact did_ite (entPut_did (within hW rfl) h) (did_ite (say_did (within hW rfl) (entPut_did (within hW rfl) h)) (sendHome_did (within hW rfl) (entPut_did (within hW rfl) h)))
  · exact did_ite h (sendHome_did (within hW rfl) h)
  · extract_lets z15
    have hz15 : Did W s z15.2 := performWrite_did (within hW rfl) h
    clear_value z15
    split
    · exact openPush_did (within hW rfl) hz15
    · exact entPut_did (within hW rfl) hz15

theorem openTask_did {W : Nat} {s : State} {a1 : CohReq} {a2 : DirEnt} {a3 : Bool} {u : State}
    (hW : W &&& 0x522c000d86e = 0x522c000d86e) (h : Did W s u) : Did W s (openTask a1 a2 a3 u).1 := by
  unfold openTask
  extract_lets z1 z2 z3
  clear_value z2
  have hz3 : Did W s z3 := entUse_did (within hW rfl) h
  clear_value z3
  refine did_ite_of (fun x : (_ × _) => x.1) ?_ ?_
  · exact sendHome_did (within hW rfl) h
  · refine did_ite_of (fun x : (_ × _) => x.1) ?_ ?_
    · exact performReq_did (within hW rfl) hz3
    · refine did_foldl ?_ hz3
      intro x4 x5 h6
      exact say_did (within hW rfl) h6

theorem serveTask_did {W : Nat} {s : State} {a1 : CohReq} {u : State}
    (hW : W &&& 0x522c000d86e = 0x522c000d86e) (h : Did W s u) : Did W s (serveTask a1 u).1 := by
  unfold serveTask
  extract_lets z1 z2 z3
  clear_value z1
  clear_value z2
  clear_value z3
  refine did_ite_of (fun x : (_ × _) => x.1) ?_ ?_
  · exact victimTask_did (within hW rfl) h
  · refine did_ite_of (fun x : (_ × _) => x.1) ?_ ?_
    · exact sendHome_did (within hW rfl) h
    · refine did_ite_of (fun x : (_ × _) => x.1) ?_ ?_
      · exact performWrite_did (within hW rfl) h
      · exact openTask_did (within hW rfl) h

theorem runTask_did {W : Nat} {s : State} {a1 : Task} {u : State}
    (hW : W &&& 0x522c000d86e = 0x522c000d86e) (h : Did W s u) : Did W s (runTask a1 u).1 := by
  unfold runTask
  split
  · exact advanceTask_did (within hW rfl) h
  · exact afterTask_did (within hW rfl) h
  · exact serveTask_did (within hW rfl) h

theorem runTasks_did {W : Nat} {s : State} {a1 : Nat} {a2 : List Task} {u : State}
    (hW : W &&& 0x522c000d86e = 0x522c000d86e) (h : Did W s u) : Did W s (runTasks a1 a2 u) := by
  induction a1 generalizing a2 u with
  | zero => exact h
  | succ n ih =>
    cases a2 with
    | nil => exact h
    | cons t r => exact ih (runTask_did (within hW rfl) h)

theorem settleLine_did {W : Nat} {s : State} {a1 : Task} {u : State}
    (hW : W &&& 0x522c000d86e = 0x522c000d86e) (h : Did W s u) : Did W s (settleLine a1 u) := by
  unfold settleLine
  exact runTasks_did (within hW rfl) h

theorem answered_did {W : Nat} {s : State} {a1 : Nat} {a2 : DirEnt} {a3 : Nat} {a4 : Option Moesi} {a5 : Bool} {u : State}
    (hW : W &&& 0x522c000d86e = 0x522c000d86e) (h : Did W s u) : Did W s (answered a1 a2 a3 a4 a5 u) := by
  unfold answered
  extract_lets z1 z2 z3
  clear_value z1
  clear_value z2
  have hz3 : Did W s z3 := entPut_did (within hW rfl) h
  clear_value z3
  refine did_ite hz3 ?_
  split
  · exact settleLine_did (within hW rfl) hz3
  · exact settleLine_did (within hW rfl) hz3
  · exact settleLine_did (within hW rfl) (performReq_did (within hW rfl) hz3)
  · exact settleLine_did (within hW rfl) hz3

theorem snackHome_did {W : Nat} {s : State} {a1 : Nat} {a2 : Nat} {a3 : Option Moesi} {a4 : Bool} {u : State}
    (hW : W &&& 0x522c000d86e = 0x522c000d86e) (h : Did W s u) : Did W s (snackHome a1 a2 a3 a4 u) := by
  unfold snackHome
  split
  · exact did_ite (answered_did (within hW rfl) h) h
  · exact h

theorem sndataHome_did {W : Nat} {s : State} {a1 : Nat} {a2 : DirEnt} {a3 : Bool} {a4 : Bool} {a5 : Bool} {a6 : LineData} {a7 : Option Nat} {u : State}
    (hW : W &&& 0x102c0000802 = 0x102c0000802) (h : Did W s u) : Did W s (sndataHome a1 a2 a3 a4 a5 a6 a7 u).1 := by
  unfold sndataHome
  split
  · extract_lets z6
    have hz6 : Did W s z6 := did_ite (toHome_did (within hW rfl) h) h
    clear_value z6
    refine did_ite_of (fun x : (_ × _) => x.1) ?_ ?_
    · exact say_did (within hW rfl) hz6
    · exact hz6
  · refine did_ite_of (fun x : (_ × _) => x.1) ?_ ?_
    · exact toHome_did (within hW rfl) h
    · exact h

theorem sndataAt_did {W : Nat} {s : State} {a1 : Nat} {a2 : Nat} {a3 : Option Moesi} {a4 : Bool} {a5 : Bool} {a6 : Bool} {a7 : Bool} {a8 : LineData} {a9 : Option Nat} {u : State}
    (hW : W &&& 0x522c000d86e = 0x522c000d86e) (h : Did W s u) : Did W s (sndataAt a1 a2 a3 a4 a5 a6 a7 a8 a9 u) := by
  unfold sndataAt
  split
  · refine did_ite ?_ h
    extract_lets z4 z5
    have hz4 : Did W s z4.1 := sndataHome_did (within hW rfl) h
    clear_value z4
    clear_value z5
    exact answered_did (within hW rfl) hz4
  · exact h

theorem grantAt_did {W : Nat} {s : State} {a1 : Nat} {a2 : Nat} {a3 : Option Moesi} {a4 : W64} {u : State}
    (hW : W &&& 0x200000004 = 0x200000004) (h : Did W s u) : Did W s (grantAt a1 a2 a3 a4 u) := by
  unfold grantAt
  extract_lets z1
  have hz1 : Did W s z1 := closeReq_did (within hW rfl) h
  clear_value z1
  split
  · refine say_did (within hW rfl) ?_
    split
    · exact linePut_did (within hW rfl) hz1
    · exact hz1
  · exact emit_did (within hW rfl) hz1

theorem ackAt_did {W : Nat} {s : State} {a1 : Nat} {a2 : Nat} {u : State}
    (hW : W &&& 0x522c000d86e = 0x522c000d86e) (h : Did W s u) : Did W s (ackAt a1 a2 u) := by
  unfold ackAt
  split
  · exact h
  · extract_lets z6
    have hz6 : Did W s z6 := entPut_did (within hW rfl) h
    clear_value z6
    exact settleLine_did (within hW rfl) hz6

theorem nackAt_did {W : Nat} {s : State} {a1 : CohReq} {u : State}
    (hW : W &&& 0x200000000 = 0x200000000) (h : Did W s u) : Did W s (nackAt a1 u) := by
  unfold nackAt
  exact cohMod_did (within hW rfl) h

theorem nextPush_did {W : Nat} {s : State} {a1 : Nat} {a2 : Nat} {u : State}
    (hW : W &&& 0x200000000 = 0x200000000) (h : Did W s u) : Did W s (nextPush a1 a2 u) := by
  unfold nextPush
  split
  · exact sendPush_did (within hW rfl) (entPut_did (within hW rfl) h)
  · exact h

theorem placeackAt_did {W : Nat} {s : State} {a1 : Nat} {a2 : Nat} {a3 : Bool} {u : State}
    (hW : W &&& 0x522c000d86e = 0x522c000d86e) (h : Did W s u) : Did W s (placeackAt a1 a2 a3 u) := by
  unfold placeackAt
  extract_lets z1 z2
  have hz1 : Did W s z1 := bumpObj_did (within hW rfl) h
  clear_value z1
  have hz2 : Did W s z2 := by
    refine did_ite h ?_
    split
    · exact entPut_did (within hW rfl) hz1
    · exact hz1
  clear_value z2
  exact nextPush_did (within hW rfl) (ackAt_did (within hW rfl) hz2)

theorem failReq_did {W : Nat} {s : State} {a1 : Nat} {a2 : CohReq} {u : State}
    (hW : W &&& 0x1200000d806 = 0x1200000d806) (h : Did W s u) : Did W s (failReq a1 a2 u) := by
  unfold failReq
  exact did_ite (memErr_did (within hW rfl) h) (errorTo_did (within hW rfl) h)

theorem failOpen_did {W : Nat} {s : State} {a1 : Nat} {a2 : Nat} {a3 : Nat} {a4 : Option CohReq} {u : State}
    (hW : W &&& 0x1200000d806 = 0x1200000d806) (h : Did W s u) : Did W s (failOpen a1 a2 a3 a4 u) := by
  unfold failOpen
  split
  · exact failReq_did (within hW rfl) h
  · exact memErr_did (within hW rfl) h

theorem receiveLine_did {W : Nat} {s : State} {a1 : Nat} {a2 : Nat} {a3 : Option Moesi} {a4 : Option Nat} {a5 : Bool} {a6 : LineData} {u : State}
    (hW : W &&& 0x122c000d806 = 0x122c000d806) (h : Did W s u) : Did W s (receiveLine a1 a2 a3 a4 a5 a6 u) := by
  unfold receiveLine
  extract_lets z1 z2 z3 z4 z5
  clear_value z1
  clear_value z2
  clear_value z3
  have hz4 : Did W s z4 := closeReq_did (within hW rfl) h
  clear_value z4
  have hz5 : Did W s z5 := by
    subst z5
    split
    · exact emit_did (within hW rfl) hz4
    · exact say_did (within hW rfl) (agentFill_did (within hW rfl) hz4)
  clear_value z5
  split
  · exact failOpen_did (within hW rfl) hz5
  · exact hz5

theorem homefillAt_did {W : Nat} {s : State} {a1 : Nat} {a2 : Nat} {a3 : Option Moesi} {a4 : Bool} {a5 : Bool} {a6 : LineData} {u : State}
    (hW : W &&& 0x522c000d86e = 0x522c000d86e) (h : Did W s u) : Did W s (homefillAt a1 a2 a3 a4 a5 a6 u) := by
  unfold homefillAt
  refine settleLine_did (within hW rfl) (did_ite ?_ (receiveLine_did (within hW rfl) h))
  extract_lets z1
  have hz1 : Did W s z1.2.2 := homeRead_did (within hW rfl) h
  clear_value z1
  exact receiveLine_did (within hW rfl) hz1

theorem placedataAt_did {W : Nat} {s : State} {a1 : Nat} {a2 : Nat} {a3 : Bool} {a4 : LineData} {u : State}
    (hW : W &&& 0x102c0000802 = 0x102c0000802) (h : Did W s u) : Did W s (placedataAt a1 a2 a3 a4 u) := by
  unfold placedataAt
  extract_lets z1
  clear_value z1
  exact did_ite (say_did (within hW rfl) h) (say_did (within hW rfl) (agentFill_did (within hW rfl) h))

theorem deliverMsg_did {W : Nat} {s : State} {a1 : CohMsg} {u : State}
    (hW : W &&& 0x522c000d86e = 0x522c000d86e) (h : Did W s u) : Did W s (deliverMsg a1 u) := by
  unfold deliverMsg
  split
  · exact fwdsAt_did (within hW rfl) h
  · exact fwdmAt_did (within hW rfl) h
  · exact invAt_did (within hW rfl) h
  · exact peekAt_did (within hW rfl) h
  · exact flushdAt_did (within hW rfl) h
  · exact snackHome_did (within hW rfl) h
  · exact sndataAt_did (within hW rfl) h
  · exact grantAt_did (within hW rfl) h
  · exact ackAt_did (within hW rfl) h
  · exact nackAt_did (within hW rfl) h
  · exact wbDrop_did (within hW rfl) h
  · exact placeackAt_did (within hW rfl) h
  · exact homefillAt_did (within hW rfl) h
  · exact receiveLine_did (within hW rfl) h
  · exact placedataAt_did (within hW rfl) h
  · exact vacArrive_did (within hW rfl) h

/-! Access -/

theorem drainLine_did {W : Nat} {s : State} {a1 : Nat} {a2 : Bool} {a3 : Nat} {a4 : Nat} {u : State}
    (hW : W &&& 0x522c000d86e = 0x522c000d86e) (h : Did W s u) : Did W s (drainLine a1 a2 a3 a4 u) := by
  induction a4 generalizing u with
  | zero  =>
    unfold drainLine
    exact h
  | succ r1 r2 =>
    unfold drainLine
    refine did_ite ?_ h
    split
    · exact r2 (deliverMsg_did (within hW rfl) (cohMod_did (within hW rfl) h))
    · exact h

theorem settled_did {W : Nat} {s : State} {a1 : Requester} {a2 : Bool} {a3 : Nat} {u : State}
    (hW : W &&& 0x522c000d86e = 0x522c000d86e) (h : Did W s u) : Did W s (settled a1 a2 a3 u) := by
  unfold settled
  exact drainLine_did (within hW rfl) (did_ite (nackCount_did (within hW rfl) h) h)

theorem putHome_of {W : Nat} {s u : State} {a1 : Requester} {a2 : Nat} {f : State → Option Nat × State}
    (hW : W &&& 0x522c000d86e = 0x522c000d86e) (g : ∀ t, Did W s t → Did W s (f t).2) (h : Did W s u) : Did W s (putHome a1 a2 f u).2 := by
  unfold putHome
  have ht := settled_did (a1 := a1) (a2 := false) (a3 := a2) hW h
  exact did_ite_of (fun x : Option Nat × State => x.2) ht (g _ ht)

theorem putLine_did {W : Nat} {s : State} {a1 : Requester} {a2 : Option Nat} {a3 : Nat} {a4 a5 : LineData} {u : State}
    (hW : W &&& 0x522c000d86e = 0x522c000d86e) (h : Did W s u) : Did W s (putLine a1 a2 a3 a4 a5 u).2 :=
  putHome_of (within hW rfl) (fun _ ht => putNow_did (within hW rfl) ht) h

theorem lineWrite_did {W : Nat} {s : State} {a1 : Requester} {a2 : Option Nat} {a3 : Nat × Nat} {a4 : Nat} {a5 a6 : LineData} {u : State}
    (hW : W &&& 0x522c000d86e = 0x522c000d86e) (h : Did W s u) : Did W s (lineWrite a1 a2 a3 a4 a5 a6 u).2 := by
  unfold lineWrite
  extract_lets f
  have g : ∀ t, Did W s t → Did W s (f t).2 := fun t ht =>
    did_ite_of (fun x : Option Nat × State => x.2) (groupWrite'_did (within hW rfl) ht) (putNow_did (within hW rfl) ht)
  exact did_ite_of (fun x : Option Nat × State => x.2) (g u h) (putHome_of (within hW rfl) g h)

theorem localWrite_did {W : Nat} {s : State} {a1 : Requester} {a2 : Option Nat} {a3 : Nat × Nat} {a4 : Bool} {a5 : Nat} {a6 : Nat} {a7 : LineData} {a8 : LineData} {u : State}
    (hW : W &&& 0x522c000d86e = 0x522c000d86e) (h : Did W s u) : Did W s (localWrite a1 a2 a3 a4 a5 a6 a7 a8 u).2 := by
  unfold localWrite
  refine did_ite_of (fun x : (_ × _) => x.2) ?_ ?_
  · exact putLine_did (within hW rfl) h
  · refine did_ite_of (fun x : (_ × _) => x.2) ?_ ?_
    · exact hbmMerge_did (within hW rfl) h
    · exact lineWrite_did (within hW rfl) h

theorem tellWindow_did {W : Nat} {s : State} {a1 : Pend} {a2 : Bool} {a3 : List Byte} {u : State}
    (hW : W &&& 0xc00000004 = 0xc00000004) (h : Did W s u) : Did W s (tellWindow a1 a2 a3 u) := by
  unfold tellWindow
  exact request_did (within hW rfl) h

theorem postHost_did {W : Nat} {s : State} {a1 : Requester} {a2 : Nat} {a3 : Nat} {a4 : List Byte} {u : State}
    (hW : W &&& 0x1806 = 0x1806) (h : Did W s u) : Did W s (postHost a1 a2 a3 a4 u) := by
  unfold postHost
  exact did_ite (emit_did (within hW rfl) h) (did_ite (memErr_did (within hW rfl) h) h)

theorem writeInLine_did {W : Nat} {s : State} {a1 : Requester} {a2 : Option Nat} {a3 : Nat × Nat} {a4 : Nat} {a5 : List Byte} {u : State}
    (hW : W &&& 0x52ec000d86e = 0x52ec000d86e) (h : Did W s u) : Did W s (writeInLine a1 a2 a3 a4 a5 u).2 := by
  unfold writeInLine
  split
  · exact localWrite_did (within hW rfl) h
  · split
    · exact tellWindow_did (within hW rfl) h
    · exact postHost_did (within hW rfl) h
    · exact h

theorem logged_did {W : Nat} {s : State} {a1 : Requester} {a2 : Nat} {a3 : Option Nat × State}
    (hW : W &&& 0x1806 = 0x1806) (h : Did W s a3.2) : Did W s (logged a1 a2 a3) := by
  unfold logged
  split
  · exact memErr_did (within hW rfl) h
  · exact h

theorem writeLines_did {W : Nat} {s : State} {a1 : Requester} {a2 : Option Nat} {a3 : Nat × Nat} {a4 : List (Nat × List Byte)} {u : State}
    (hW : W &&& 0x52ec000d86e = 0x52ec000d86e) (h : Did W s u) : Did W s (writeLines a1 a2 a3 a4 u).2 := by
  induction a4 generalizing u with
  | nil  =>
    unfold writeLines
    dsimp only
    exact h
  | cons r1 r2 r3 =>
    unfold writeLines
    dsimp only
    exact r3 (logged_did (within hW rfl) (writeInLine_did (within hW rfl) h))

theorem memPut_did {W : Nat} {s : State} {a1 : Requester} {a2 : Option Nat} {a3 : Nat × Nat} {a4 : Nat} {a5 : List Byte} {u : State}
    (hW : W &&& 0x52ec000d86e = 0x52ec000d86e) (h : Did W s u) : Did W s (memPut a1 a2 a3 a4 a5 u).2 := by
  unfold memPut
  split
  · exact memErr_did (within hW rfl) h
  · exact writeLines_did (within hW rfl) h

theorem memWrite_did {W : Nat} {s : State} {a1 : Requester} {a2 : Option Nat} {a3 : Nat} {a4 : List Byte} {u : State}
    (hW : W &&& 0x52ec000d86e = 0x52ec000d86e) (h : Did W s u) : Did W s (memWrite a1 a2 a3 a4 u).2 := by
  unfold memWrite
  exact memPut_did (within hW rfl) h

/-! Protocol -/

theorem heard_of {W : Nat} {s u : State} {p : CohMsg → Bool} (hW : W &&& 0x200000000 = 0x200000000)
    (g : ∀ m t, p m = true → Did W s t → Did W s (deliverMsg m t)) (h : Did W s u) : Did W s (heard p u) := by
  unfold heard
  split
  · rename_i m t e
    exact g m t (hear_pass e) (hear_did hW h e)
  · exact h

theorem heard_did {W : Nat} {s u : State} {a1 : CohMsg → Bool}
    (hW : W &&& 0x522c000d86e = 0x522c000d86e) (h : Did W s u) : Did W s (heard a1 u) :=
  heard_of (within hW rfl) (fun _ _ _ ht => deliverMsg_did (within hW rfl) ht) h

theorem invEffect_did {W : Nat} {s : State} {a1 a2 : Nat} {u : State}
    (hW : W &&& 0x200000000 = 0x200000000) (h : Did W s u) : Did W s (invEffect a1 a2 u) := by
  refine heard_of (within hW rfl) (fun m t hp ht => ?_) h
  cases m <;> first | cases hp | exact invAt_did (within hW rfl) ht

/-! Access -/

theorem atHome_of {W : Nat} {s u : State} {α : Type} {a1 : Requester} {a2 : Bool} {a3 : Nat} {a4 : α} {f : State → Option Nat × α × State}
    (hW : W &&& 0x522c000d86e = 0x522c000d86e) (g : ∀ t, Did W s t → Did W s (f t).2.2) (h : Did W s u) : Did W s (atHome a1 a2 a3 a4 f u).2.2 := by
  unfold atHome
  have ht := settled_did (a1 := a1) (a2 := a2) (a3 := a3) hW h
  exact did_ite_of (fun x : Option Nat × α × State => x.2.2) ht (g _ ht)

theorem lookLine_did {W : Nat} {s : State} {a1 : Requester} {a2 : Option Nat} {a3 : Nat} {u : State}
    (hW : W &&& 0x522c000d86e = 0x522c000d86e) (h : Did W s u) : Did W s (lookLine a1 a2 a3 u).2.2 :=
  atHome_of (within hW rfl) (fun _ ht => lookNow_did (within hW rfl) ht) h

/-! Coherence -/

theorem l2Line.settleVac_did {W : Nat} {s : State} {a1 : Nat} {a2 : Nat} {a3 : ALine} {u : State}
    (hW : W &&& 0x102c0000802 = 0x102c0000802) (h : Did W s u) : Did W s (l2Line.settleVac a1 a2 a3 u) := by
  unfold l2Line.settleVac
  extract_lets z1
  have hz1 : Did W s z1 := did_ite (toHome_did (within hW rfl) h) h
  clear_value z1
  split
  · exact did_ite (entDel_did (within hW rfl) hz1) (entPut_did (within hW rfl) hz1)
  · exact hz1

theorem l2Line_did {W : Nat} {s : State} {a1 : Nat} {a2 : Nat} {a3 : Nat} {a4 : ALine} {u : State}
    (hW : W &&& 0x102c0000802 = 0x102c0000802) (h : Did W s u) : Did W s (l2Line a1 a2 a3 a4 u) := by
  unfold l2Line
  refine did_ite (did_ite ?_ h) ?_
  · extract_lets z1
    have hz1 : Did W s z1 := toHome_did (within hW rfl) (linePut_did (within hW rfl) h)
    clear_value z1
    split
    · exact did_ite (entPut_did (within hW rfl) hz1) hz1
    · exact hz1
  · extract_lets z7
    have hz7 : Did W s z7 := nearInv_did (within hW rfl) (lineDrop_did (within hW rfl) h)
    clear_value z7
    exact did_ite hz7 (l2Line.settleVac_did (within hW rfl) hz7)

/-! Protocol -/

theorem flushdEffect_did {W : Nat} {s : State} {a1 a2 : Nat} {u : State}
    (hW : W &&& 0x200000000 = 0x200000000) (h : Did W s u) : Did W s (flushdEffect a1 a2 u) := by
  refine heard_of (within hW rfl) (fun m t hp ht => ?_) h
  cases m <;> first | cases hp | exact flushdAt_did (within hW rfl) ht

theorem vacEffect_did {W : Nat} {s : State} {a1 : Nat} {a2 : Nat} {a3 : Bool} {u : State}
    (hW : W &&& 0x102c0000802 = 0x102c0000802) (h : Did W s u) : Did W s (vacEffect a1 a2 a3 u) := by
  unfold vacEffect
  extract_lets z1
  clear_value z1
  refine did_ite (vacHear_did (within hW rfl) h) ?_
  split
  · exact did_ite (vacate_did (within hW rfl) h) h
  · exact h

theorem execVacclean_did {W : Nat} {s : State} {a1 : Nat} {a2 : Nat} {u : State}
    (hW : W &&& 0x102c0000802 = 0x102c0000802) (h : Did W s u) : ODid W s (execVacclean a1 a2 u) := by
  unfold execVacclean
  refine onUnit_odid ?_
  exact vacEffect_did (within hW rfl) h

/-! Access -/

theorem lineRead_did {W : Nat} {s : State} {a1 : Requester} {a2 : Option Nat} {a3 a4 : Nat} {u : State}
    (hW : W &&& 0x522c000d86e = 0x522c000d86e) (h : Did W s u) : Did W s (lineRead a1 a2 a3 a4 u).2.2 := by
  unfold lineRead
  extract_lets f
  have g : ∀ t, Did W s t → Did W s (f t).2.2 := fun t ht =>
    did_ite_of (fun x : Option Nat × (LineData × Bool) × State => x.2.2) (clusterRead_did (within hW rfl) ht)
      (did_ite_of (fun x : Option Nat × (LineData × Bool) × State => x.2.2) (groupRead_did (within hW rfl) ht) (lookNow_did (within hW rfl) ht))
  exact did_ite_of (fun x : Option Nat × (LineData × Bool) × State => x.2.2) (g u h) (atHome_of (within hW rfl) g h)

theorem spanRead_did {W : Nat} {s : State} {a1 : Requester} {a2 : Option Nat} {a3 : Nat} {a4 : Nat} {a5 : Nat} {u : State}
    (hW : W &&& 0x522c000d86e = 0x522c000d86e) (h : Did W s u) : Did W s (spanRead a1 a2 a3 a4 a5 u).2.2 := by
  unfold spanRead
  extract_lets z1
  have hz1 : Did W s z1.2.2 := lineRead_did (within hW rfl) h
  clear_value z1
  exact hz1

theorem localRead_did {W : Nat} {s : State} {a1 : Requester} {a2 : Option Nat} {a3 : Nat} {a4 : Bool} {a5 : Nat} {a6 : Nat} {a7 : Nat} {u : State}
    (hW : W &&& 0x522c000d86e = 0x522c000d86e) (h : Did W s u) : Did W s (localRead a1 a2 a3 a4 a5 a6 a7 u).2.2 := by
  unfold localRead
  refine did_ite_of (fun x : (_ × (_ × _)) => x.2.2) ?_ ?_
  · extract_lets z1
    have hz1 : Did W s z1.2.2 := lookLine_did (within hW rfl) h
    clear_value z1
    exact hz1
  · refine did_ite_of (fun x : (_ × (_ × _)) => x.2.2) ?_ ?_
    · extract_lets z2
      have hz2 : Did W s z2.2 := hbmRead_did (within hW rfl) h
      clear_value z2
      exact hz2
    · exact spanRead_did (within hW rfl) h

theorem farAnswer_did {W : Nat} {s : State} {a1 : Nat} {u : State}
    (hW : W &&& 0x2 = 0x2) (h : Did W s u) : Did W s (farAnswer a1 u).2.2 := by
  unfold farAnswer
  extract_lets z1 z2
  have hz1 : Did W s z1.2 := drawFree_did (within hW rfl) h
  clear_value z1
  have hz2 : Did W s z2.2 := freeBytes_did (within hW rfl) hz1
  clear_value z2
  refine did_ite_of (fun x : (_ × (_ × _)) => x.2.2) ?_ ?_
  · exact hz1
  · exact hz2

theorem askWindow_did {W : Nat} {s : State} {a1 : Pend} {u : State}
    (hW : W &&& 0xc00000004 = 0xc00000004) (h : Did W s u) : Did W s (askWindow a1 u) := by
  unfold askWindow
  exact request_did (within hW rfl) h

theorem readInLine_did {W : Nat} {s : State} {a1 : Requester} {a2 : Option Nat} {a3 : Nat} {a4 : Nat} {u : State}
    (hW : W &&& 0x52ec000d86e = 0x52ec000d86e) (h : Did W s u) : Did W s (readInLine a1 a2 a3 a4 u).2.2 := by
  unfold readInLine
  split
  · exact localRead_did (within hW rfl) h
  · split
    · exact farAnswer_did (within hW rfl) (askWindow_did (within hW rfl) h)
    · exact farAnswer_did (within hW rfl) (emit_did (within hW rfl) h)
    · extract_lets z16
      have hz16 : Did W s z16.2 := freeBytes_did (within hW rfl) h
      clear_value z16
      exact hz16

theorem pieceRead_did {W : Nat} {s : State} {a1 : Requester} {a2 : Option Nat} {a3 : Nat} {a4 : Bool} {a5 : Nat} {a6 : Nat} {u : State}
    (hW : W &&& 0x52ec000d86e = 0x52ec000d86e) (h : Did W s u) : Did W s (pieceRead a1 a2 a3 a4 a5 a6 u).2.2 := by
  unfold pieceRead
  split
  · exact h
  · split
    · exact localRead_did (within hW rfl) h
    · exact readInLine_did (within hW rfl) h

theorem pageRead_did {W : Nat} {s : State} {a1 : Requester} {a2 : Option Nat} {a3 : Nat} {a4 : Bool} {a5 : List (Nat × Nat)} {u : State}
    (hW : W &&& 0x52ec000d86e = 0x52ec000d86e) (h : Did W s u) : Did W s (pageRead a1 a2 a3 a4 a5 u).2 := by
  induction a5 generalizing u with
  | nil  =>
    unfold pageRead
    dsimp only
    exact h
  | cons r1 r2 r3 =>
    unfold pageRead
    dsimp only
    split
    · exact pieceRead_did (within hW rfl) h
    · exact r3 (pieceRead_did (within hW rfl) h)

theorem spanWrite_did {W : Nat} {s : State} {a1 : Requester} {a2 : Option Nat} {a3 : Nat × Nat} {a4 : Nat} {a5 : Bool} {a6 : List Byte} {u : State}
    (hW : W &&& 0x522c000d86e = 0x522c000d86e) (h : Did W s u) : Did W s (spanWrite a1 a2 a3 a4 a5 a6 u).2 := by
  unfold spanWrite
  exact lineWrite_did (within hW rfl) h

theorem askHost_did {W : Nat} {s : State} {a1 : Nat} {a2 : PRead} {u : State}
    (hW : W &&& 0x8000000004 = 0x8000000004) (h : Did W s u) : Did W s (askHost a1 a2 u) := by
  unfold askHost
  extract_lets z1
  clear_value z1
  exact emit_did (within hW rfl) (pciePut_did (within hW rfl) h)

theorem readLines_did {W : Nat} {s : State} {a1 : Requester} {a2 : Option Nat} {a3 : List (Nat × Nat)} {u : State}
    (hW : W &&& 0x52ec000d86e = 0x52ec000d86e) (h : Did W s u) : Did W s (readLines a1 a2 a3 u).2 := by
  induction a3 generalizing u with
  | nil  =>
    unfold readLines
    dsimp only
    exact h
  | cons r1 r2 r3 =>
    unfold readLines
    dsimp only
    split
    · exact readInLine_did (within hW rfl) h
    · exact r3 (readInLine_did (within hW rfl) h)

/-! Protocol -/

theorem arrive_did {W : Nat} {s : State} {a1 : CohReq} {u : State}
    (hW : W &&& 0x522c000d86e = 0x522c000d86e) (h : Did W s u) : Did W s (arrive a1 u) := by
  unfold arrive
  extract_lets z1 z2
  clear_value z1
  have hz2 : Did W s z2 := bumpObj_did (within hW rfl) h
  clear_value z2
  refine did_ite (closeReq_did (within hW rfl) h) (did_ite (did_ite (cohMod_did (within hW rfl) h) (did_ite (escalate_did (within hW rfl) hz2) (settleLine_did (within hW rfl) hz2))) ?_)
  split
  · exact nackIt_did (within hW rfl) h
  · exact settleLine_did (within hW rfl) h

/-! Access -/

theorem nackedLine_did {W : Nat} {s : State} {a1 : Requester} {a2 : Option Nat} {a3 : Bool} {a4 : Nat} {u : State}
    (hW : W &&& 0x802 = 0x802) (h : Did W s u) : Did W s (nackedLine a1 a2 a3 a4 u) := by
  unfold nackedLine
  split
  · exact nackCount_did (within hW rfl) h
  · exact h

theorem nacked_did {W : Nat} {s : State} {a1 : Requester} {a2 : Option Nat} {a3 : Bool} {a4 : Nat} {a5 : Nat} {u : State}
    (hW : W &&& 0x802 = 0x802) (h : Did W s u) : Did W s (nacked a1 a2 a3 a4 a5 u) := by
  unfold nacked
  split
  · exact h
  · split
    · exact h
    · exact nackedLine_did (within hW rfl) h

theorem whenFree_did {W : Nat} {s : State} {a1 : Requester} {a2 : Option Nat} {a3 : Bool} {a4 : Nat} {a5 : Nat} {u : State} {u1 : State}
    (hW : W &&& 0x802 = 0x802) (h : Did W s u) (h1 : Did W s u1) : Did W s (whenFree a1 a2 a3 a4 a5 u u1) := by
  unfold whenFree
  exact did_ite (nacked_did (within hW rfl) h1) h

/-! Coherence -/

theorem zeroRange_did {W : Nat} {s : State} {a1 : Nat} {a2 : Nat} {a3 : List Nat} {u : State}
    (hW : W &&& 0x40000000 = 0x40000000) (h : Did W s u) : Did W s (zeroRange a1 a2 a3 u) := by
  unfold zeroRange
  extract_lets z1 z2
  clear_value z1
  refine did_mk h (khbm := ?hbm) (kmem := off hW rfl)
  (intro hh; exact twf_filter _ _ _ hh)

theorem maintLine_did {W : Nat} {s : State} {a1 : Nat} {u : State}
    (hW : W &&& 0x522c000d86e = 0x522c000d86e) (h : Did W s u) : Did W s (maintLine a1 u) := by
  unfold maintLine
  exact did_ite h (runTasks_did (within hW rfl) (openMaint_did (within hW rfl) h))

theorem mdCommand_did {W : Nat} {s : State} {a1 : Nat} {a2 : Nat} {a3 : Bool} {u : State}
    (hW : W &&& 0x522c000d86e = 0x522c000d86e) (h : Did W s u) : Did W s (mdCommand a1 a2 a3 u) := by
  unfold mdCommand
  extract_lets z1 z2 z3 z4 z5 z6
  clear_value z1
  clear_value z2
  clear_value z3
  clear_value z4
  have hz5 : Did W s z5 := mdMaintPut_did (within hW rfl) h
  clear_value z5
  have hz6 : Did W s z6 := did_ite (zeroRange_did (within hW rfl) hz5) hz5
  clear_value z6
  refine did_ite (mdMaintPut_did (within hW rfl) h) (did_ite (did_ite (scRaise_did (within hW rfl) h) h) (did_ite (mdMaintPut_did (within hW rfl) h) (did_foldl ?_ hz6)))
  intro x7 x8 h9
  exact maintLine_did (within hW rfl) h9

theorem l2Put_did {W : Nat} {s : State} {a1 : MaintUnit} {a2 : Maint} {u : State}
    (hW : W &&& 0x100000000 = 0x100000000) (h : Did W s u) : Did W s (l2Put a1 a2 u) := by
  unfold l2Put
  exact did_mk h

theorem maintErr_did {W : Nat} {s : State} {a1 : MaintUnit} {u : State}
    (hW : W &&& 0x180000000 = 0x180000000) (h : Did W s u) : Did W s (maintErr a1 u) := by
  unfold maintErr
  split
  · exact mdMaintPut_did (within hW rfl) h
  · exact l2Put_did (within hW rfl) h

theorem l2Event_did {W : Nat} {s : State} {u : State}
    (hW : W &&& 0x10000000002 = 0x10000000002) (h : Did W s u) : Did W s (l2Event u) := by
  unfold l2Event
  extract_lets z1
  have hz1 : Did W s z1.2 := drawFree_did (within hW rfl) h
  clear_value z1
  exact scRaise_did (within hW rfl) hz1

theorem l2Command_did {W : Nat} {s : State} {a1 : MaintUnit} {a2 : Nat} {a3 : Bool} {u : State}
    (hW : W &&& 0x10100000002 = 0x10100000002) (h : Did W s u) : Did W s (l2Command a1 a2 a3 u) := by
  unfold l2Command
  extract_lets z1 z2 z3
  clear_value z1
  clear_value z2
  clear_value z3
  exact did_ite h (did_ite (l2Put_did (within hW rfl) h) (did_ite (did_ite (l2Event_did (within hW rfl) h) h) (l2Put_did (within hW rfl) h)))

theorem maintCtrl_did {W : Nat} {s : State} {a1 : MaintUnit} {a2 : W64} {u : State}
    (hW : W &&& 0x523c000d86e = 0x523c000d86e) (h : Did W s u) : Did W s (maintCtrl a1 a2 u) := by
  unfold maintCtrl
  extract_lets z1
  clear_value z1
  split
  · exact did_ite (mdCommand_did (within hW rfl) h) (maintErr_did (within hW rfl) h)
  · exact did_ite (l2Command_did (within hW rfl) h) (maintErr_did (within hW rfl) h)

/-! Access -/

theorem memRead_did {W : Nat} {s : State} {a1 : Requester} {a2 : Option Nat} {a3 : Nat} {a4 : Nat} {u : State}
    (hW : W &&& 0x52ec000d86e = 0x52ec000d86e) (h : Did W s u) : Did W s (memRead a1 a2 a3 a4 u).2 := by
  unfold memRead
  split
  · exact memErr_did (within hW rfl) h
  · split
    · rename_i e6 e7 e8 e9
      refine memErr_did (within hW rfl) ?_
      have k10 : Did W s e8 := Did.of_eq (congrArg (fun x : (_ × _) => x.2) e9) (readLines_did (within hW rfl) h)
      exact k10
    · rename_i e11 e12 e13 e14
      have k15 : Did W s e13 := Did.of_eq (congrArg (fun x : (_ × _) => x.2) e14) (readLines_did (within hW rfl) h)
      exact k15

/-! Protocol -/

theorem sndataEffect_did {W : Nat} {s : State} {a1 a2 : Nat} {u : State}
    (hW : W &&& 0x522c000d86e = 0x522c000d86e) (h : Did W s u) : Did W s (sndataEffect a1 a2 u) := by
  refine heard_of (within hW rfl) (fun m t hp ht => ?_) h
  cases m <;> first | cases hp | exact sndataAt_did (within hW rfl) ht

theorem grantEffect_did {W : Nat} {s : State} {a1 a2 : Nat} {u : State}
    (hW : W &&& 0x200000004 = 0x200000004) (h : Did W s u) : Did W s (grantEffect a1 a2 u) := by
  refine heard_of (within hW rfl) (fun m t hp ht => ?_) h
  cases m <;> first | cases hp | exact grantAt_did (within hW rfl) ht

theorem ownerfillEffect_did {W : Nat} {s : State} {a1 a2 : Nat} {u : State}
    (hW : W &&& 0x122c000d806 = 0x122c000d806) (h : Did W s u) : Did W s (ownerfillEffect a1 a2 u) := by
  refine heard_of (within hW rfl) (fun m t hp ht => ?_) h
  cases m with
  | ownerfill x1 x2 x3 x4 x5 x6 =>
    have := receiveLine_did (a1 := x2) (a2 := x3) (a3 := some x4) (a4 := errOf x5) (a5 := x5) (a6 := x6) (within hW rfl) ht
    exact this
  | _ => cases hp

/-! Access -/

theorem ncRead_did {W : Nat} {s : State} {a1 : Option Nat} {a2 : Nat} {a3 : Nat} {u : State}
    (hW : W &&& 0x502c000086e = 0x502c000086e) (h : Did W s u) : Did W s (ncRead a1 a2 a3 u).2.2 := by
  unfold ncRead
  extract_lets z1
  have hz1 : Did W s z1.2 := hbmRead_did (within hW rfl) h
  clear_value z1
  exact hz1

/-! Coherence -/

theorem maintDone_did {W : Nat} {s : State} {a1 : MaintUnit} {u : State}
    (hW : W &&& 0x103c0000802 = 0x103c0000802) (h : Did W s u) : Did W s (maintDone a1 u) := by
  unfold maintDone
  split
  · extract_lets z3 z4
    clear_value z3
    have hz4 : Did W s z4 := mdMaintPut_did (within hW rfl) h
    clear_value z4
    exact did_ite (did_ite (scRaise_did (within hW rfl) hz4) hz4) h
  · extract_lets z7 z8 z9
    clear_value z7
    have hz8 : Did W s z8 := by
      refine did_foldl ?_ h
      intro x10 x11 h12
      exact l2Line_did (within hW rfl) h12
    clear_value z8
    have hz9 : Did W s z9 := l2Put_did (within hW rfl) hz8
    clear_value z9
    exact did_ite (did_ite (l2Event_did (within hW rfl) hz9) hz9) h

/-! Protocol -/

theorem keepWay_did {W : Nat} {s : State} {a1 : CohReq} {u : State}
    (hW : W &&& 0x102c0000802 = 0x102c0000802) (h : Did W s u) : Did W s (keepWay a1 u) := by
  unfold keepWay
  exact did_ite (agentWay_did (within hW rfl) h) h

theorem sendReq_did {W : Nat} {s : State} {a1 : Bool} {a2 : Bool} {a3 : CohReq} {u : State}
    (hW : W &&& 0x522c000d86e = 0x522c000d86e) (h : Did W s u) : Did W s (sendReq a1 a2 a3 u) := by
  unfold sendReq
  refine did_ite h ?_
  split
  · exact failReq_did (within hW rfl) h
  · extract_lets z6
    have hz6 : Did W s z6 := keepWay_did (within hW rfl) (did_ite (bumpObj_did (within hW rfl) h) h)
    clear_value z6
    exact arrive_did (within hW rfl) (cohMod_did (within hW rfl) hz6)

theorem putplaceEffect_did {W : Nat} {s : State} {a1 : Nat} {a2 : Requester} {a3 : Nat} {a4 : BitVec 256} {a5 : LineData} {a6 : Nat} {a7 : Nat} {a8 : Bool} {a9 : Bool} {u : State}
    (hW : W &&& 0x522c000d86e = 0x522c000d86e) (h : Did W s u) : Did W s (putplaceEffect a1 a2 a3 a4 a5 a6 a7 a8 a9 u) := by
  unfold putplaceEffect
  exact sendReq_did (within hW rfl) h

theorem cohRetryEffect_did {W : Nat} {s : State} {a1 : Nat} {a2 : Nat} {u : State}
    (hW : W &&& 0x522c000d86e = 0x522c000d86e) (h : Did W s u) : Did W s (cohRetryEffect a1 a2 u) := by
  unfold cohRetryEffect
  split
  · exact did_ite h (arrive_did (within hW rfl) (cohMod_did (within hW rfl) h))
  · exact h

theorem execCohRetry_did {W : Nat} {s : State} {a1 : Nat} {a2 : Nat} {a3 : List (Nat × Bool)} {u : State}
    (hW : W &&& 0x522c000d86e = 0x522c000d86e) (h : Did W s u) : ODid W s (execCohRetry a1 a2 a3 u) := by
  unfold execCohRetry
  refine onUnit_odid ?_
  refine withFlaws_did (within hW rfl) ?_ h
  intro x1 h2
  exact cohRetryEffect_did (within hW rfl) h2

theorem fwdmEffect_did {W : Nat} {s : State} {a1 a2 : Nat} {u : State}
    (hW : W &&& 0x200000000 = 0x200000000) (h : Did W s u) : Did W s (fwdmEffect a1 a2 u) := by
  refine heard_of (within hW rfl) (fun m t hp ht => ?_) h
  cases m <;> first | cases hp | exact fwdmAt_did (within hW rfl) ht

theorem getsEffect_did {W : Nat} {s : State} {a1 : Nat} {a2 : Requester} {a3 : Nat} {a4 : Nat} {a5 : Bool} {a6 : Bool} {u : State}
    (hW : W &&& 0x522c000d86e = 0x522c000d86e) (h : Did W s u) : Did W s (getsEffect a1 a2 a3 a4 a5 a6 u) := by
  unfold getsEffect
  extract_lets z1 z2 z3 z4
  clear_value z1
  clear_value z2
  clear_value z3
  clear_value z4
  exact did_ite (clusterRead_did (within hW rfl) h) (sendReq_did (within hW rfl) h)

theorem execGets_did {W : Nat} {s : State} {a1 : Nat} {a2 : Requester} {a3 : Nat} {a4 : Nat} {a5 : Bool} {a6 : Bool} {u : State}
    (hW : W &&& 0x522c000d86e = 0x522c000d86e) (h : Did W s u) : ODid W s (execGets a1 a2 a3 a4 a5 a6 u) := by
  unfold execGets
  refine onUnit_odid ?_
  exact getsEffect_did (within hW rfl) h

/-! Coherence -/

theorem execSnoopTimeout_did {W : Nat} {s : State} {a1 : Nat} {a2 : Nat} {u : State}
    (hW : W &&& 0x5000000086e = 0x5000000086e) (h : Did W s u) : ODid W s (execSnoopTimeout a1 a2 u) := by
  unfold execSnoopTimeout
  refine onUnit_odid ?_
  exact onlyIf_did (fatal_did (within hW rfl) h) h

/-! Protocol -/

theorem grantackEffect_did {W : Nat} {s : State} {a1 a2 : Nat} {u : State}
    (hW : W &&& 0x522c000d86e = 0x522c000d86e) (h : Did W s u) : Did W s (grantackEffect a1 a2 u) := by
  refine heard_of (within hW rfl) (fun m t hp ht => ?_) h
  cases m <;> first | cases hp | exact ackAt_did (within hW rfl) ht

theorem execGrantack_did {W : Nat} {s : State} {a1 : Nat} {a2 : Nat} {a3 : List (Nat × Bool)} {u : State}
    (hW : W &&& 0x522c000d86e = 0x522c000d86e) (h : Did W s u) : ODid W s (execGrantack a1 a2 a3 u) := by
  unfold execGrantack
  refine onUnit_odid ?_
  refine withFlaws_did (within hW rfl) ?_ h
  intro x1 h2
  exact grantackEffect_did (within hW rfl) h2

theorem execFlushd_did {W : Nat} {s : State} {a1 : Nat} {a2 : Nat} {u : State}
    (hW : W &&& 0x200000000 = 0x200000000) (h : Did W s u) : ODid W s (execFlushd a1 a2 u) := by
  unfold execFlushd
  refine onUnit_odid ?_
  exact flushdEffect_did (within hW rfl) h

theorem vacackEffect_did {W : Nat} {s : State} {a1 a2 : Nat} {u : State}
    (hW : W &&& 0x200000000 = 0x200000000) (h : Did W s u) : Did W s (vacackEffect a1 a2 u) := by
  refine heard_of (within hW rfl) (fun m t hp ht => ?_) h
  cases m <;> first | cases hp | exact wbDrop_did (within hW rfl) ht

theorem peekEffect_did {W : Nat} {s : State} {a1 a2 : Nat} {u : State}
    (hW : W &&& 0x200000000 = 0x200000000) (h : Did W s u) : Did W s (peekEffect a1 a2 u) := by
  refine heard_of (within hW rfl) (fun m t hp ht => ?_) h
  cases m <;> first | cases hp | exact peekAt_did (within hW rfl) ht

/-! Coherence -/

theorem execMaintComplete_did {W : Nat} {s : State} {a1 : MaintUnit} {u : State}
    (hW : W &&& 0x103c0000802 = 0x103c0000802) (h : Did W s u) : ODid W s (execMaintComplete a1 u) := by
  unfold execMaintComplete
  refine onUnit_odid ?_
  exact maintDone_did (within hW rfl) h

/-! Protocol -/

theorem execPeek_did {W : Nat} {s : State} {a1 : Nat} {a2 : Nat} {u : State}
    (hW : W &&& 0x200000000 = 0x200000000) (h : Did W s u) : ODid W s (execPeek a1 a2 u) := by
  unfold execPeek
  refine onUnit_odid ?_
  exact peekEffect_did (within hW rfl) h

theorem promoteEffect_did {W : Nat} {s : State} {a1 : Nat} {a2 : Requester} {a3 : Nat} {a4 : Bool} {a5 : Bool} {u : State}
    (hW : W &&& 0x522c000d86e = 0x522c000d86e) (h : Did W s u) : Did W s (promoteEffect a1 a2 a3 a4 a5 u) := by
  unfold promoteEffect
  extract_lets z1 z2
  clear_value z1
  clear_value z2
  exact sendReq_did (within hW rfl) h

theorem execPromote_did {W : Nat} {s : State} {a1 : Nat} {a2 : Requester} {a3 : Nat} {a4 : Bool} {a5 : Bool} {u : State}
    (hW : W &&& 0x522c000d86e = 0x522c000d86e) (h : Did W s u) : ODid W s (execPromote a1 a2 a3 a4 a5 u) := by
  unfold execPromote
  refine onUnit_odid ?_
  exact promoteEffect_did (within hW rfl) h

theorem lookEffect_did {W : Nat} {s : State} {a1 : Nat} {a2 : Requester} {a3 : Nat} {a4 : Bool} {a5 : Bool} {u : State}
    (hW : W &&& 0x522c000d86e = 0x522c000d86e) (h : Did W s u) : Did W s (lookEffect a1 a2 a3 a4 a5 u) := by
  unfold lookEffect
  exact sendReq_did (within hW rfl) h

theorem execLook_did {W : Nat} {s : State} {a1 : Nat} {a2 : Requester} {a3 : Nat} {a4 : Bool} {a5 : Bool} {u : State}
    (hW : W &&& 0x522c000d86e = 0x522c000d86e) (h : Did W s u) : ODid W s (execLook a1 a2 a3 a4 a5 u) := by
  unfold execLook
  refine onUnit_odid ?_
  exact lookEffect_did (within hW rfl) h

theorem execGrant_did {W : Nat} {s : State} {a1 : Nat} {a2 : Nat} {u : State}
    (hW : W &&& 0x200000004 = 0x200000004) (h : Did W s u) : ODid W s (execGrant a1 a2 u) := by
  unfold execGrant
  refine onUnit_odid ?_
  exact grantEffect_did (within hW rfl) h

theorem placedataEffect_did {W : Nat} {s : State} {a1 a2 : Nat} {u : State}
    (hW : W &&& 0x102c0000802 = 0x102c0000802) (h : Did W s u) : Did W s (placedataEffect a1 a2 u) := by
  refine heard_of (within hW rfl) (fun m t hp ht => ?_) h
  cases m <;> first | cases hp | exact placedataAt_did (within hW rfl) ht

theorem placeackEffect_did {W : Nat} {s : State} {a1 a2 : Nat} {u : State}
    (hW : W &&& 0x522c000d86e = 0x522c000d86e) (h : Did W s u) : Did W s (placeackEffect a1 a2 u) := by
  refine heard_of (within hW rfl) (fun m t hp ht => ?_) h
  cases m <;> first | cases hp | exact placeackAt_did (within hW rfl) ht

theorem execPlaceack_did {W : Nat} {s : State} {a1 : Nat} {a2 : Nat} {a3 : List (Nat × Bool)} {u : State}
    (hW : W &&& 0x522c000d86e = 0x522c000d86e) (h : Did W s u) : ODid W s (execPlaceack a1 a2 a3 u) := by
  unfold execPlaceack
  refine onUnit_odid ?_
  refine withFlaws_did (within hW rfl) ?_ h
  intro x1 h2
  exact placeackEffect_did (within hW rfl) h2

theorem cashomeEffect_did {W : Nat} {s : State} {a1 : Requester} {a2 : Nat} {a3 : W64} {a4 : W64} {a5 : Bool} {a6 : Bool} {u : State}
    (hW : W &&& 0x522c000d86e = 0x522c000d86e) (h : Did W s u) : Did W s (cashomeEffect a1 a2 a3 a4 a5 a6 u) := by
  unfold cashomeEffect
  exact sendReq_did (within hW rfl) h

theorem execCashome_did {W : Nat} {s : State} {a1 : Requester} {a2 : Nat} {a3 : W64} {a4 : W64} {a5 : Bool} {a6 : Bool} {a7 : List (Nat × Bool)} {u : State}
    (hW : W &&& 0x522c000d86e = 0x522c000d86e) (h : Did W s u) : ODid W s (execCashome a1 a2 a3 a4 a5 a6 a7 u) := by
  unfold execCashome
  refine onUnit_odid ?_
  refine withFlaws_did (within hW rfl) ?_ h
  intro x1 h2
  exact cashomeEffect_did (within hW rfl) h2

theorem getmEffect_did {W : Nat} {s : State} {a1 : Nat} {a2 : Requester} {a3 : Nat} {a4 : Bool} {a5 : Bool} {u : State}
    (hW : W &&& 0x522c000d86e = 0x522c000d86e) (h : Did W s u) : Did W s (getmEffect a1 a2 a3 a4 a5 u) := by
  unfold getmEffect
  extract_lets z1 z2
  clear_value z1
  clear_value z2
  exact sendReq_did (within hW rfl) h

theorem execGetm_did {W : Nat} {s : State} {a1 : Nat} {a2 : Requester} {a3 : Nat} {a4 : Bool} {a5 : Bool} {u : State}
    (hW : W &&& 0x522c000d86e = 0x522c000d86e) (h : Did W s u) : ODid W s (execGetm a1 a2 a3 a4 a5 u) := by
  unfold execGetm
  refine onUnit_odid ?_
  exact getmEffect_did (within hW rfl) h

theorem execOwnerfill_did {W : Nat} {s : State} {a1 : Nat} {a2 : Nat} {u : State}
    (hW : W &&& 0x122c000d806 = 0x122c000d806) (h : Did W s u) : ODid W s (execOwnerfill a1 a2 u) := by
  unfold execOwnerfill
  refine onUnit_odid ?_
  exact ownerfillEffect_did (within hW rfl) h

theorem fwdsEffect_did {W : Nat} {s : State} {a1 a2 : Nat} {u : State}
    (hW : W &&& 0x200000000 = 0x200000000) (h : Did W s u) : Did W s (fwdsEffect a1 a2 u) := by
  refine heard_of (within hW rfl) (fun m t hp ht => ?_) h
  cases m <;> first | cases hp | exact fwdsAt_did (within hW rfl) ht

theorem dropFill_did {W : Nat} {s : State} {a1 : Nat} {a2 : Nat} {u : State}
    (hW : W &&& 0x522c000d86e = 0x522c000d86e) (h : Did W s u) : Did W s (dropFill a1 a2 u) := by
  unfold dropFill
  exact settleLine_did (within hW rfl) (ackAt_did (within hW rfl) (closeReq_did (within hW rfl) h))

theorem homefillEffect_did {W : Nat} {s : State} {a1 : Nat} {a2 : Nat} {a3 : Bool} {a4 : Bool} {u : State}
    (hW : W &&& 0x522c000d86e = 0x522c000d86e) (h : Did W s u) : Did W s (homefillEffect a1 a2 a3 a4 u) := by
  unfold homefillEffect
  extract_lets z1
  clear_value z1
  refine did_ite (did_ite ?_ h) (withFlaws_did (within hW rfl) ?_ h)
  · split
    · rename_i e2 e3 e4 e5
      refine dropFill_did (within hW rfl) ?_
      have k6 : Did W s e4 := hear_did (within hW rfl) h e5
      exact k6
    · exact h
  · intro x9 h10
    exact heard_did (within hW rfl) h10

theorem execHomefill_did {W : Nat} {s : State} {a1 : Nat} {a2 : Nat} {a3 : Bool} {a4 : Bool} {u : State}
    (hW : W &&& 0x522c000d86e = 0x522c000d86e) (h : Did W s u) : ODid W s (execHomefill a1 a2 a3 a4 u) := by
  unfold execHomefill
  refine onUnit_odid ?_
  exact homefillEffect_did (within hW rfl) h

theorem execSndata_did {W : Nat} {s : State} {a1 : Nat} {a2 : Nat} {a3 : List (Nat × Bool)} {u : State}
    (hW : W &&& 0x522c000d86e = 0x522c000d86e) (h : Did W s u) : ODid W s (execSndata a1 a2 a3 u) := by
  unfold execSndata
  refine onUnit_odid ?_
  refine withFlaws_did (within hW rfl) ?_ h
  intro x1 h2
  exact sndataEffect_did (within hW rfl) h2

/-! Access -/

theorem ncWrite_did {W : Nat} {s : State} {a1 : Option Nat} {a2 : Nat} {a3 : Bool} {a4 : List Byte} {u : State}
    (hW : W &&& 0x502c000086e = 0x502c000086e) (h : Did W s u) : Did W s (ncWrite a1 a2 a3 a4 u).2 := by
  unfold ncWrite
  exact hbmMerge_did (within hW rfl) h

/-! Protocol -/

theorem execPutplace_did {W : Nat} {s : State} {a1 : Nat} {a2 : Requester} {a3 : Nat} {a4 : BitVec 256} {a5 : LineData} {a6 : Nat} {a7 : Nat} {a8 : Bool} {a9 : Bool} {a10 : List (Nat × Bool)} {u : State}
    (hW : W &&& 0x522c000d86e = 0x522c000d86e) (h : Did W s u) : ODid W s (execPutplace a1 a2 a3 a4 a5 a6 a7 a8 a9 a10 u) := by
  unfold execPutplace
  refine onUnit_odid ?_
  refine withFlaws_did (within hW rfl) ?_ h
  intro x1 h2
  exact putplaceEffect_did (within hW rfl) h2

theorem execFwds_did {W : Nat} {s : State} {a1 : Nat} {a2 : Nat} {u : State}
    (hW : W &&& 0x200000000 = 0x200000000) (h : Did W s u) : ODid W s (execFwds a1 a2 u) := by
  unfold execFwds
  refine onUnit_odid ?_
  exact fwdsEffect_did (within hW rfl) h

theorem execFwdm_did {W : Nat} {s : State} {a1 : Nat} {a2 : Nat} {u : State}
    (hW : W &&& 0x200000000 = 0x200000000) (h : Did W s u) : ODid W s (execFwdm a1 a2 u) := by
  unfold execFwdm
  refine onUnit_odid ?_
  exact fwdmEffect_did (within hW rfl) h

theorem execInv_did {W : Nat} {s : State} {a1 : Nat} {a2 : Nat} {u : State}
    (hW : W &&& 0x200000000 = 0x200000000) (h : Did W s u) : ODid W s (execInv a1 a2 u) := by
  unfold execInv
  refine onUnit_odid ?_
  exact invEffect_did (within hW rfl) h

theorem snackEffect_did {W : Nat} {s : State} {a1 a2 : Nat} {u : State}
    (hW : W &&& 0x522c000d86e = 0x522c000d86e) (h : Did W s u) : Did W s (snackEffect a1 a2 u) := by
  refine heard_of (within hW rfl) (fun m t hp ht => ?_) h
  cases m <;> first | cases hp | exact snackHome_did (within hW rfl) ht

theorem execSnack_did {W : Nat} {s : State} {a1 : Nat} {a2 : Nat} {a3 : List (Nat × Bool)} {u : State}
    (hW : W &&& 0x522c000d86e = 0x522c000d86e) (h : Did W s u) : ODid W s (execSnack a1 a2 a3 u) := by
  unfold execSnack
  refine onUnit_odid ?_
  refine withFlaws_did (within hW rfl) ?_ h
  intro x1 h2
  exact snackEffect_did (within hW rfl) h2

theorem nackEffect_did {W : Nat} {s : State} {a1 a2 : Nat} {u : State}
    (hW : W &&& 0x200000000 = 0x200000000) (h : Did W s u) : Did W s (nackEffect a1 a2 u) := by
  refine heard_of (within hW rfl) (fun m t hp ht => ?_) h
  cases m <;> first | cases hp | exact nackAt_did (within hW rfl) ht

theorem execNack_did {W : Nat} {s : State} {a1 : Nat} {a2 : Nat} {u : State}
    (hW : W &&& 0x200000000 = 0x200000000) (h : Did W s u) : ODid W s (execNack a1 a2 u) := by
  unfold execNack
  refine onUnit_odid ?_
  exact nackEffect_did (within hW rfl) h

theorem execVacack_did {W : Nat} {s : State} {a1 : Nat} {a2 : Nat} {u : State}
    (hW : W &&& 0x200000000 = 0x200000000) (h : Did W s u) : ODid W s (execVacack a1 a2 u) := by
  unfold execVacack
  refine onUnit_odid ?_
  exact vacackEffect_did (within hW rfl) h

theorem execPlacedata_did {W : Nat} {s : State} {a1 : Nat} {a2 : Nat} {u : State}
    (hW : W &&& 0x102c0000802 = 0x102c0000802) (h : Did W s u) : ODid W s (execPlacedata a1 a2 u) := by
  unfold execPlacedata
  refine onUnit_odid ?_
  exact placedataEffect_did (within hW rfl) h

theorem execVacdata_did {W : Nat} {s : State} {a1 : Nat} {a2 : Nat} {u : State}
    (hW : W &&& 0x102c0000802 = 0x102c0000802) (h : Did W s u) : ODid W s (execVacdata a1 a2 u) := by
  unfold execVacdata
  refine onUnit_odid ?_
  exact vacEffect_did (within hW rfl) h

end Sys2Proof.Machine
end

