-- ==== Sys2Proof/Laws/DidWork.lean ====
section
/-! SUPPORT. What each operation of these units can do, one lemma for each: translation, release of items, Batons, Relay groups and the STU. -/

-- one theorem after the other: a thread for each of hundreds of small theorems takes more memory than the check allows
set_option Elab.async false

set_option linter.all false

namespace Sys2Proof.Machine

open Sys2Proof

/-! Translate -/

theorem stuMod_did {W : Nat} {s : State} {u : State} {a2 : Stu → Stu}
    (hW : W &&& 0x20000000 = 0x20000000) (h : Did W s u) : Did W s (stuMod u a2) := by
  unfold stuMod
  exact did_mk h

theorem setReq_did {W : Nat} {s : State} {a1 : Nat} {a2 : PReq → PReq} {u : State}
    (hW : W &&& 0x20000000 = 0x20000000) (h : Did W s u) : Did W s (setReq a1 a2 u) := by
  unfold setReq
  exact stuMod_did (within hW rfl) h

theorem postReq_did {W : Nat} {s : State} {a1 : PReq} {u : State}
    (hW : W &&& 0x52ee000d86e = 0x52ee000d86e) (h : Did W s u) : Did W s (postReq a1 u) := by
  unfold postReq
  refine did_ite h ?_
  extract_lets z1 z2
  clear_value z1
  have hz2 : Did W s z2.2 := memWrite_did (within hW rfl) h
  clear_value z2
  split
  · exact scRaise_did (within hW rfl) (stuMod_did (within hW rfl) hz2)
  · exact scRaise_did (within hW rfl) (bumpObj_did (within hW rfl) (setReq_did (within hW rfl) (stuMod_did (within hW rfl) hz2)))

theorem flushReqs_did {W : Nat} {s : State} {u : State}
    (hW : W &&& 0x52ee000d86e = 0x52ee000d86e) (h : Did W s u) : Did W s (flushReqs u) := by
  unfold flushReqs
  extract_lets z1
  clear_value z1
  refine did_ite h (did_foldl ?_ (stuMod_did (within hW rfl) h))
  intro x2 x3 h4
  exact postReq_did (within hW rfl) h4

theorem requestPage_did {W : Nat} {s : State} {a1 : Nat} {a2 : Nat} {a3 : Nat} {a4 : Nat} {a5 : Bool} {a6 : Bool} {a7 : Nat} {u : State}
    (hW : W &&& 0x52ee000d86e = 0x52ee000d86e) (h : Did W s u) : Did W s (requestPage a1 a2 a3 a4 a5 a6 a7 u) := by
  unfold requestPage
  exact did_ite h (flushReqs_did (within hW rfl) (stuMod_did (within hW rfl) h))

/-! Release -/

theorem addSums_did {W : Nat} {s : State} {a1 : Item} {u : State}
    (hW : W &&& 0x4000000 = 0x4000000) (h : Did W s u) : Did W s (addSums a1 u) := by
  unfold addSums
  refine did_foldl ?_ h
  intro x1 x2 h3
  exact slotPut_did (within hW rfl) h3

theorem markReleased_did {W : Nat} {s : State} {a1 : Nat} {a2 : Nat} {a3 : W32} {u : State}
    (hW : W &&& 0x80000 = 0x80000) (h : Did W s u) : Did W s (markReleased a1 a2 a3 u) := by
  unfold markReleased
  extract_lets z1 z2
  clear_value z1
  clear_value z2
  exact queuePut_did (within hW rfl) h

/-! BatonUnit -/

theorem ctxEvent_did {W : Nat} {s : State} {a1 : Nat} {a2 : Nat} {a3 : Nat} {a4 : W32} {u : State}
    (hW : W &&& 0x10000000002 = 0x10000000002) (h : Did W s u) : Did W s (ctxEvent a1 a2 a3 a4 u) := by
  unfold ctxEvent
  exact scRaise_did (within hW rfl) h

/-! Release -/

theorem parkQueue_did {W : Nat} {s : State} {a1 : Nat} {a2 : Nat} {a3 : Nat} {a4 : W32} {u : State}
    (hW : W &&& 0x10000080002 = 0x10000080002) (h : Did W s u) : Did W s (parkQueue a1 a2 a3 a4 u) := by
  unfold parkQueue
  extract_lets z1
  clear_value z1
  exact ctxEvent_did (within hW rfl) (did_ite (queuePut_did (within hW rfl) h) h)

theorem dropFast_did {W : Nat} {s : State} {a1 : Nat} {u : State}
    (hW : W &&& 0x10000000002 = 0x10000000002) (h : Did W s u) : Did W s (dropFast a1 u) := by
  unfold dropFast
  refine did_ite (did_mk h) ?_
  split
  · rename_i e1 e2 e3 e4
    refine did_mk ?_
    have k5 : Did W s e3 := Did.of_eq (congrArg (fun x : (_ × _) => x.2) e4) (drawFree_did (within hW rfl) h)
    exact k5

theorem freeCore_did {W : Nat} {s : State} {a1 : Nat} {u : State}
    (hW : W &&& 0x10000004002 = 0x10000004002) (h : Did W s u) : Did W s (freeCore a1 u) := by
  unfold freeCore
  extract_lets z1 z2 z3 z4
  clear_value z1
  clear_value z2
  have hz3 : Did W s z3 := by
    refine did_foldl ?_ h
    intro x5 x6 h7
    exact srcPut_did (within hW rfl) h7
  clear_value z3
  have hz4 : Did W s z4 := did_ite hz3 (dropFast_did (within hW rfl) hz3)
  clear_value z4
  exact tcPut_did (within hW rfl) hz4

/-! Translate -/

theorem retireReqs_did {W : Nat} {s : State} {u : State}
    (hW : W &&& 0x20000000 = 0x20000000) (h : Did W s u) : Did W s (retireReqs u) := by
  unfold retireReqs
  exact stuMod_did (within hW rfl) h

/-! Release -/

theorem markCompleted_did {W : Nat} {s : State} {a1 : Nat} {a2 : Nat} {a3 : W32} {u : State}
    (hW : W &&& 0x80000 = 0x80000) (h : Did W s u) : Did W s (markCompleted a1 a2 a3 u) := by
  unfold markCompleted
  extract_lets z1 z2
  clear_value z1
  clear_value z2
  exact queuePut_did (within hW rfl) h

theorem countMiss_did {W : Nat} {s : State} {a1 : Item} {u : State}
    (hW : W &&& 0x40802 = 0x40802) (h : Did W s u) : Did W s (countMiss a1 u) := by
  unfold countMiss
  extract_lets z1 z2
  have hz1 : Did W s z1 := did_ite (bumpObj_did (within hW rfl) h) h
  clear_value z1
  clear_value z2
  exact ctxPut_did (within hW rfl) hz1

/-! BatonUnit -/

theorem wakeCore_did {W : Nat} {s : State} {a1 : Nat} {a2 : W32} {a3 : Nat} {u : State}
    (hW : W &&& 0x4000 = 0x4000) (h : Did W s u) : Did W s (wakeCore a1 a2 a3 u) := by
  unfold wakeCore
  extract_lets z1
  clear_value z1
  split
  · exact did_ite (retire_did (within hW rfl) (tcPut_did (within hW rfl) h)) h
  · exact h

theorem batonStore_did {W : Nat} {s : State} {a1 : Nat} {a2 : W32} {a3 : Bool} {u : State}
    (hW : W &&& 0x10001004002 = 0x10001004002) (h : Did W s u) : Did W s (batonStore a1 a2 a3 u) := by
  unfold batonStore
  extract_lets z1 z2 z3 z4
  clear_value z1
  have hz2 : Did W s z2 := batonPut_did (within hW rfl) h
  clear_value z2
  clear_value z3
  have hz4 : Did W s z4 := did_ite (scRaise_did (within hW rfl) hz2) hz2
  clear_value z4
  refine did_foldl ?_ hz4
  intro x5 x6 h7
  exact wakeCore_did (within hW rfl) h7

theorem batonOp_did {W : Nat} {s : State} {a1 : Nat} {a2 : W32} {u : State}
    (hW : W &&& 0x10001004002 = 0x10001004002) (h : Did W s u) : Did W s (batonOp a1 a2 u) := by
  unfold batonOp
  exact did_ite (batonStore_did (within hW rfl) h) h

/-! Release -/

theorem doPost_did {W : Nat} {s : State} {a1 : Item} {a2 : Nat} {a3 : Nat} {u : State}
    (hW : W &&& 0x10001004002 = 0x10001004002) (h : Did W s u) : Did W s (doPost a1 a2 a3 u) := by
  unfold doPost
  extract_lets z1
  clear_value z1
  exact did_ite (batonOp_did (within hW rfl) h) h

theorem complete_did {W : Nat} {s : State} {a1 : Nat} {a2 : Nat} {u : State}
    (hW : W &&& 0x52ee50cd86e = 0x52ee50cd86e) (h : Did W s u) : Did W s (complete a1 a2 u) := by
  unfold complete
  split
  · exact h
  · extract_lets z6 z7 z8 z9 z10 z11 z12 z13 z14 z15 z16 z17 z18
    clear_value z6
    clear_value z7
    clear_value z8
    have hz9 : Did W s z9 := addSums_did (within hW rfl) (did_ite (markReleased_did (within hW rfl) h) h)
    clear_value z9
    have hz10 : Did W s z10.2 := memWrite_did (within hW rfl) hz9
    clear_value z10
    have hz11 : Did W s z11 := did_ite (parkQueue_did (within hW rfl) hz10) hz10
    clear_value z11
    have hz12 : Did W s z12 := by
      refine did_foldl ?_ hz11
      intro x19 x20 h21
      exact freeCore_did (within hW rfl) h21
    clear_value z12
    have hz13 : Did W s z13 := did_mk hz12
    clear_value z13
    have hz14 : Did W s z14 := retireReqs_did (within hW rfl) (markCompleted_did (within hW rfl) hz13)
    clear_value z14
    have hz15 : Did W s z15 := did_ite (countMiss_did (within hW rfl) hz14) hz14
    clear_value z15
    have hz16 : Did W s z16 := doPost_did (within hW rfl) (doPost_did (within hW rfl) hz15)
    clear_value z16
    have hz17 : Did W s z17 := did_ite (ctxEvent_did (within hW rfl) hz16) hz16
    clear_value z17
    have hz18 : Did W s z18 := did_ite (ctxEvent_did (within hW rfl) hz17) hz17
    clear_value z18
    exact did_ite (ctxEvent_did (within hW rfl) hz18) hz18

/-! Groups -/

theorem spreadAbort_did {W : Nat} {s : State} {a1 : Nat} {a2 : Group} {u : State}
    (hW : W &&& 0x400000004 = 0x400000004) (h : Did W s u) : Did W s (spreadAbort a1 a2 u) := by
  unfold spreadAbort
  refine did_ite h (did_foldl ?_ h)
  intro x1 x2 h3
  exact sendOn_did (within hW rfl) h3

theorem dropOp_did {W : Nat} {s : State} {a1 : Nat} {a2 : Nat} {u : State}
    (hW : W &&& 0x4000 = 0x4000) (h : Did W s u) : Did W s (dropOp a1 a2 u) := by
  unfold dropOp
  exact tcMod_did (within hW rfl) h

/-! BatonUnit -/

theorem stopItem_did {W : Nat} {s : State} {a1 : Nat} {a2 : Nat} {u : State}
    (hW : W &&& 0xc000 = 0xc000) (h : Did W s u) : Did W s (stopItem a1 a2 u) := by
  unfold stopItem
  split
  · exact h
  · extract_lets z6
    have hz6 : Did W s z6 := itemPut_did (within hW rfl) h
    clear_value z6
    refine did_foldl ?_ hz6
    intro x7 x8 h9
    exact tcMod_did (within hW rfl) h9

/-! Groups -/

theorem endRounds_did {W : Nat} {s : State} {a1 : Nat} {a2 : Nat} {u : State}
    (hW : W &&& 0x200c000 = 0x200c000) (h : Did W s u) : Did W s (endRounds a1 a2 u) := by
  unfold endRounds
  extract_lets z1 z2 z3 z4 z5
  clear_value z1
  clear_value z2
  clear_value z3
  have hz4 : Did W s z4 := groupPut_did (within hW rfl) h
  clear_value z4
  have hz5 : Did W s z5 := by
    refine did_foldl ?_ hz4
    intro x6 x7 h8
    exact dropOp_did (within hW rfl) h8
  clear_value z5
  refine did_foldl ?_ hz5
  intro x9 x10 h11
  exact stopItem_did (within hW rfl) h11

theorem relayAbort_did {W : Nat} {s : State} {a1 : Nat} {a2 : Nat} {u : State}
    (hW : W &&& 0x40200c004 = 0x40200c004) (h : Did W s u) : Did W s (relayAbort a1 a2 u) := by
  unfold relayAbort
  extract_lets z1
  clear_value z1
  exact did_ite h (spreadAbort_did (within hW rfl) (endRounds_did (within hW rfl) h))

theorem abortOf_did {W : Nat} {s : State} {a1 : Nat} {a2 : Nat} {u : State}
    (hW : W &&& 0x40200c004 = 0x40200c004) (h : Did W s u) : Did W s (abortOf a1 a2 u) := by
  unfold abortOf
  refine did_foldl ?_ h
  intro x1 x2 h3
  exact did_ite (relayAbort_did (within hW rfl) h3) h3

theorem endItem_did {W : Nat} {s : State} {a1 : Nat} {a2 : Nat} {a3 : Nat} {u : State}
    (hW : W &&& 0x40200c004 = 0x40200c004) (h : Did W s u) : Did W s (endItem a1 a2 a3 u) := by
  unfold endItem
  exact abortOf_did (within hW rfl) (stopItem_did (within hW rfl) h)

/-! Stu -/

theorem transFault_did {W : Nat} {s : State} {a1 : Nat} {a2 : Nat} {u : State}
    (hW : W &&& 0x40200c004 = 0x40200c004) (h : Did W s u) : Did W s (transFault a1 a2 u) := by
  unfold transFault
  split
  · exact h
  · exact endItem_did (within hW rfl) (itemPut_did (within hW rfl) h)

theorem invalidItem_did {W : Nat} {s : State} {a1 : Nat} {a2 : Nat} {a3 : Nat} {u : State}
    (hW : W &&& 0x52ee70cd86e = 0x52ee70cd86e) (h : Did W s u) : Did W s (invalidItem a1 a2 a3 u) := by
  unfold invalidItem
  split
  · exact h
  · refine did_ite h (did_ite (did_ite (complete_did (within hW rfl) h) h) (did_ite ?_ h))
    split
    · exact transFault_did (within hW rfl) h
    · exact h

theorem invalidAll_did {W : Nat} {s : State} {a1 : Nat} {a2 : Nat} {u : State}
    (hW : W &&& 0x52ee70cd86e = 0x52ee70cd86e) (h : Did W s u) : Did W s (invalidAll a1 a2 u) := by
  unfold invalidAll
  refine did_foldl ?_ h
  intro x1 x2 h3
  exact invalidItem_did (within hW rfl) h3

theorem askAgain_did {W : Nat} {s : State} {a1 : Nat} {a2 : Nat} {u : State}
    (hW : W &&& 0x52ee70cd86e = 0x52ee70cd86e) (h : Did W s u) : Did W s (askAgain a1 a2 u) := by
  unfold askAgain
  split
  · exact h
  · extract_lets z7
    clear_value z7
    exact did_ite (requestPage_did (within hW rfl) h) (invalidAll_did (within hW rfl) h)

/-! Translate -/

theorem walkReady_did {W : Nat} {s : State} {a1 : Nat} {a2 : Nat} {a3 : Nat} {a4 : Nat} {u : State}
    (hW : W &&& 0x522c000d86e = 0x522c000d86e) (h : Did W s u) : Did W s (walkReady a1 a2 a3 a4 u) := by
  induction a4 generalizing u with
  | zero  =>
    unfold walkReady
    exact h
  | succ r1 r2 =>
    unfold walkReady
    split
    · exact r2 (settled_did (within hW rfl) h)
    · exact h

theorem walkNote_did {W : Nat} {s : State} {a1 : Nat} {a2 : WalkNote} {u : State}
    (hW : W &&& 0x522c000d86e = 0x522c000d86e) (h : Did W s u) : Did W s (walkNote a1 a2 u) := by
  unfold walkNote
  cases a2 with
  | read a => exact lookLine_did (within hW rfl) h
  | set pa old new =>
    dsimp only
    split
    · exact h
    · exact atHome_of (within hW rfl) (fun _ ht => casNow_did (within hW rfl) ht) h
  | non _ _ _ _ => exact h

theorem walkNotes_did {W : Nat} {s : State} {a1 : Nat} {a2 : List WalkNote} {u : State}
    (hW : W &&& 0x522c000d86e = 0x522c000d86e) (h : Did W s u) : Did W s (walkNotes a1 a2 u) := by
  unfold walkNotes
  refine did_foldl ?_ h
  intro x1 x2 h3
  exact walkNote_did (within hW rfl) h3

theorem keepWalk_did {W : Nat} {s : State} {a1 : Nat} {a2 : List WalkNote} {u : State}
    (hW : W &&& 0x20000000 = 0x20000000) (h : Did W s u) : Did W s (keepWalk a1 a2 u) := by
  unfold keepWalk
  refine did_foldl ?_ h
  intro x1 x2 h3
  split
  · exact stuMod_did (within hW rfl) h3
  · exact h3

theorem walkPage_did {W : Nat} {s : State} {a1 : Nat} {a2 : Option Nat} {a3 : Nat} {a4 : Nat} {u : State}
    (hW : W &&& 0x522e000d86e = 0x522e000d86e) (h : Did W s u) : Did W s (walkPage a1 a2 a3 a4 u).2 := by
  unfold walkPage
  extract_lets z1 z2 z3 z4
  have hz1 : Did W s z1 := walkReady_did (within hW rfl) h
  clear_value z1
  clear_value z2
  have hz3 : Did W s z3 := did_ite hz1 (bumpObj_did (within hW rfl) hz1)
  clear_value z3
  have hz4 : Did W s z4 := keepWalk_did (within hW rfl) (walkNotes_did (within hW rfl) hz3)
  clear_value z4
  split
  · exact memErr_did (within hW rfl) (walkNotes_did (within hW rfl) hz3)
  · exact walkNotes_did (within hW rfl) hz3
  · extract_lets z20
    clear_value z20
    refine did_ite_of (fun x : (_ × _) => x.2) ?_ ?_
    · exact walkNotes_did (within hW rfl) hz3
    · refine did_ite hz4 ?_
      split
      · exact stuMod_did (within hW rfl) hz4
      · exact hz4

theorem resolvePage_did {W : Nat} {s : State} {a1 : Nat} {a2 : Option Nat} {a3 : Nat} {a4 : Nat} {u : State}
    (hW : W &&& 0x522e000d86e = 0x522e000d86e) (h : Did W s u) : Did W s (resolvePage a1 a2 a3 a4 u).2 := by
  unfold resolvePage
  split
  · refine did_ite_of (fun x : (_ × _) => x.2) ?_ ?_
    · exact walkPage_did (within hW rfl) h
    · refine did_ite_of (fun x : (_ × _) => x.2) ?_ ?_
      · exact h
      · exact h
  · exact walkPage_did (within hW rfl) h

theorem pagePhys_did {W : Nat} {s : State} {a1 : Nat} {a2 : Option Nat} {a3 : Nat} {a4 : Nat} {u : State}
    (hW : W &&& 0x522e000d86e = 0x522e000d86e) (h : Did W s u) : Did W s (pagePhys a1 a2 a3 a4 u).2 := by
  unfold pagePhys
  split
  · rename_i e1 e2 e3 e4 e5
    have k6 : Did W s e4 := Did.of_eq (congrArg (fun x : (_ × _) => x.2) e5) (resolvePage_did (within hW rfl) h)
    exact k6
  · rename_i e7 e8 e9 e10 e11
    have k12 : Did W s e9 := Did.of_eq (congrArg (fun x : (_ × _) => x.2) e11) (resolvePage_did (within hW rfl) h)
    exact k12

theorem installTlb_did {W : Nat} {s : State} {a1 : Nat} {a2 : Bool} {a3 : Bool} {a4 : Tlb} {u : State}
    (hW : W &&& 0x20000000 = 0x20000000) (h : Did W s u) : Did W s (installTlb a1 a2 a3 a4 u) := by
  unfold installTlb
  exact stuMod_did (within hW rfl) h

theorem engPage_did {W : Nat} {s : State} {a1 : Nat} {a2 : Bool} {a3 : Nat} {a4 : Option Nat} {a5 : Nat} {a6 : Nat} {u : State}
    (hW : W &&& 0x522e000d86e = 0x522e000d86e) (h : Did W s u) : Did W s (engPage a1 a2 a3 a4 a5 a6 u).2 := by
  unfold engPage
  extract_lets z1
  clear_value z1
  refine did_ite_of (fun x : (_ × _) => x.2) ?_ ?_
  · exact pagePhys_did (within hW rfl) h
  · split
    · exact h
    · split
      · exact installTlb_did (within hW rfl) h
      · split
        · rename_i e12 e13 e14
          have k15 : Did W s e13 := Did.of_eq (congrArg (fun x : (_ × _) => x.2) e14) (pagePhys_did (within hW rfl) h)
          exact k15
        · rename_i e16 e17 e18 e19
          split
          · refine installTlb_did (within hW rfl) ?_
            have k23 : Did W s e18 := Did.of_eq (congrArg (fun x : (_ × _) => x.2) e19) (pagePhys_did (within hW rfl) h)
            exact k23
          · have k26 : Did W s e18 := Did.of_eq (congrArg (fun x : (_ × _) => x.2) e19) (pagePhys_did (within hW rfl) h)
            exact k26

/-! Groups -/

theorem sendRelay_did {W : Nat} {s : State} {a1 : Nat} {a2 : Nat} {a3 : Nat} {a4 : Nat} {a5 : Nat} {a6 : List Byte} {u : State}
    (hW : W &&& 0x400000004 = 0x400000004) (h : Did W s u) : Did W s (sendRelay a1 a2 a3 a4 a5 a6 u) := by
  unfold sendRelay
  exact sendOn_did (within hW rfl) h

/-! Release -/

theorem releaseItem_did {W : Nat} {s : State} {a1 : Nat} {u : State}
    (hW : W &&& 0x52ee50cd86e = 0x52ee50cd86e) (h : Did W s u) : Did W s (releaseItem a1 u) := by
  unfold releaseItem
  split
  · exact h
  · refine did_ite (complete_did (within hW rfl) (itemPut_did (within hW rfl) (markReleased_did (within hW rfl) h))) ?_
    split
    · exact h
    · exact itemPut_did (within hW rfl) (markReleased_did (within hW rfl) h)

theorem settle_did {W : Nat} {s : State} {a1 : Nat} {u : State}
    (hW : W &&& 0x52ee50cd86e = 0x52ee50cd86e) (h : Did W s u) : Did W s (settle a1 u) := by
  induction a1 generalizing u with
  | zero  =>
    unfold settle
    exact h
  | succ r1 r2 =>
    unfold settle
    split
    · exact h
    · exact r2 (releaseItem_did (within hW rfl) h)

theorem settleAll_did {W : Nat} {s : State} {u : State}
    (hW : W &&& 0x52ee50cd86e = 0x52ee50cd86e) (h : Did W s u) : Did W s (settleAll u) := by
  unfold settleAll
  exact settle_did (within hW rfl) h

theorem signalBaton_did {W : Nat} {s : State} {a1 : Nat} {a2 : W32} {u : State}
    (hW : W &&& 0x52ee50cd86e = 0x52ee50cd86e) (h : Did W s u) : Did W s (signalBaton a1 a2 u) := by
  unfold signalBaton
  exact settleAll_did (within hW rfl) (batonOp_did (within hW rfl) h)

/-! Stu -/

theorem invDoneEffect_did {W : Nat} {s : State} {a1 : Nat} {u : State}
    (hW : W &&& 0x52ee50cd86e = 0x52ee50cd86e) (h : Did W s u) : Did W s (invDoneEffect a1 u) := by
  unfold invDoneEffect
  refine did_ite ?_ h
  extract_lets z1 z2 z3 z4
  have hz1 : Did W s z1 := stuMod_did (within hW rfl) h
  clear_value z1
  have hz2 : Did W s z2 := bumpObj_did (within hW rfl) hz1
  clear_value z2
  have hz3 : Did W s z3 := did_ite (oset_did (within hW rfl) hz2) hz2
  clear_value z3
  clear_value z4
  exact scRaise_did (within hW rfl) (did_ite (signalBaton_did (within hW rfl) hz3) hz3)

/-! Groups -/

theorem noteAnswer_did {W : Nat} {s : State} {a1 : Nat} {a2 : Nat} {a3 : Answer} {u : State}
    (hW : W &&& 0x4000 = 0x4000) (h : Did W s u) : Did W s (noteAnswer a1 a2 a3 u) := by
  unfold noteAnswer
  exact tcMod_did (within hW rfl) h

/-! Stu -/

theorem respond_did {W : Nat} {s : State} {a1 : Nat} {a2 : PReq → State → State} {u : State}
    (hW : W &&& 0x52ee50cd86e = 0x52ee50cd86e) (g2 : ∀ x1 x2, Did W s x2 → Did W s (a2 x1 x2)) (h : Did W s u) : Did W s (respond a1 a2 u) := by
  unfold respond
  split
  · exact did_ite (stuMod_did (within hW rfl) h) h
  · exact settleAll_did (within hW rfl) (retireReqs_did (within hW rfl) (g2 _ _ (stuMod_did (within hW rfl) h)))

theorem invalidEffect_did {W : Nat} {s : State} {a1 : Nat} {u : State}
    (hW : W &&& 0x52ee70cd86e = 0x52ee70cd86e) (h : Did W s u) : Did W s (invalidEffect a1 u) := by
  unfold invalidEffect
  refine respond_did (within hW rfl) ?_ h
  intro x1 x2 h3
  exact invalidAll_did (within hW rfl) h3

theorem prqBaseSet_did {W : Nat} {s : State} {a1 : W64} {u : State}
    (hW : W &&& 0x20000000 = 0x20000000) (h : Did W s u) : Did W s (prqBaseSet a1 u) := by
  unfold prqBaseSet
  exact did_ite h (stuMod_did (within hW rfl) h)

theorem prqHeadSet_did {W : Nat} {s : State} {a1 : W32} {u : State}
    (hW : W &&& 0x52ee000d86e = 0x52ee000d86e) (h : Did W s u) : Did W s (prqHeadSet a1 u) := by
  unfold prqHeadSet
  exact flushReqs_did (within hW rfl) (stuMod_did (within hW rfl) h)

theorem resolveAll_did {W : Nat} {s : State} {a1 : Nat} {a2 : Nat} {a3 : List (Nat × Nat)} {u : State}
    (hW : W &&& 0x522e000d86e = 0x522e000d86e) (h : Did W s u) : Did W s (resolveAll a1 a2 a3 u).2.2 := by
  induction a3 generalizing u with
  | nil  =>
    unfold resolveAll
    dsimp only
    exact h
  | cons r1 r2 r3 =>
    unfold resolveAll
    dsimp only
    split
    · exact resolvePage_did (within hW rfl) h
    · exact r3 (resolvePage_did (within hW rfl) h)
    · exact r3 (resolvePage_did (within hW rfl) h)

/-! Release -/

theorem refuse_did {W : Nat} {s : State} {a1 : Nat} {a2 : Nat} {u : State}
    (hW : W &&& 0x52ee50cd86e = 0x52ee50cd86e) (h : Did W s u) : Did W s (refuse a1 a2 u) := by
  unfold refuse
  split
  · exact h
  · extract_lets z6 z7
    have hz6 : Did W s z6 := itemPut_did (within hW rfl) h
    clear_value z6
    clear_value z7
    exact complete_did (within hW rfl) (ctxPut_did (within hW rfl) hz6)

theorem atHardLimit_did {W : Nat} {s : State} {a1 : Nat} {u : State}
    (hW : W &&& 0x52ee70cd86e = 0x52ee70cd86e) (h : Did W s u) : Did W s (atHardLimit a1 u) := by
  unfold atHardLimit
  split
  · exact h
  · split
    · exact complete_did (within hW rfl) h
    · exact did_ite h (did_ite (endItem_did (within hW rfl) h) (endItem_did (within hW rfl) h))
    · exact complete_did (within hW rfl) h

theorem atDeadline_did {W : Nat} {s : State} {a1 : Nat} {u : State}
    (hW : W &&& 0x52ee70cd86e = 0x52ee70cd86e) (h : Did W s u) : Did W s (atDeadline a1 u) := by
  unfold atDeadline
  split
  · exact h
  · split
    · exact complete_did (within hW rfl) h
    · exact did_ite h (did_ite (endItem_did (within hW rfl) h) (did_ite (endItem_did (within hW rfl) h) h))
    · exact did_ite (complete_did (within hW rfl) h) h

theorem itemTime_did {W : Nat} {s : State} {u : State} {a2 : Nat}
    (hW : W &&& 0x52ee70cd86e = 0x52ee70cd86e) (h : Did W s u) : Did W s (itemTime u a2) := by
  unfold itemTime
  split
  · exact h
  · exact did_ite h (did_ite (atHardLimit_did (within hW rfl) h) (did_ite h (atDeadline_did (within hW rfl) (itemPut_did (within hW rfl) h))))

/-! Stu -/

theorem requestBatch_did {W : Nat} {s : State} {a1 : Nat} {u : State}
    (hW : W &&& 0x52ee50cd86e = 0x52ee50cd86e) (h : Did W s u) : Did W s (requestBatch a1 u) := by
  unfold requestBatch
  split
  · exact h
  · refine did_ite h (did_ite (complete_did (within hW rfl) h) ?_)
    extract_lets z6
    clear_value z6
    refine did_foldl ?_ (itemPut_did (within hW rfl) h)
    intro x7 x8 h9
    extract_lets z10
    clear_value z10
    exact requestPage_did (within hW rfl) h9

theorem afterWalk_did {W : Nat} {s : State} {a1 : Nat} {a2 : List (Nat × Nat)} {a3 : Bool} {u : State}
    (hW : W &&& 0x52ee70cd86e = 0x52ee70cd86e) (h : Did W s u) : Did W s (afterWalk a1 a2 a3 u) := by
  unfold afterWalk
  split
  · exact h
  · exact did_ite (refuse_did (within hW rfl) h) (did_ite (itemTime_did (within hW rfl) (itemPut_did (within hW rfl) h)) (itemTime_did (within hW rfl) (requestBatch_did (within hW rfl) (itemPut_did (within hW rfl) h))))

theorem releaseHeld_did {W : Nat} {s : State} {a1 : Nat} {a2 : Nat} {a3 : Nat} {a4 : Nat} {a5 : Item} {a6 : List (Nat × W64)} {u : State}
    (hW : W &&& 0x522e000d86e = 0x522e000d86e) (h : Did W s u) : Did W s (releaseHeld a1 a2 a3 a4 a5 a6 u).2 := by
  induction a6 generalizing u with
  | nil  =>
    unfold releaseHeld
    dsimp only
    exact h
  | cons r1 r2 r3 =>
    unfold releaseHeld
    dsimp only
    refine did_ite_of (fun x : (_ × _) => x.2) ?_ ?_
    · exact r3 h
    · split
      · exact resolvePage_did (within hW rfl) h
      · exact r3 (resolvePage_did (within hW rfl) h)
      · exact r3 (resolvePage_did (within hW rfl) h)

theorem retryCore_did {W : Nat} {s : State} {a1 : Nat} {a2 : Nat} {a3 : Nat} {a4 : Nat} {u : State}
    (hW : W &&& 0x526e200d86e = 0x526e200d86e) (h : Did W s u) : Did W s (retryCore a1 a2 a3 a4 u) := by
  unfold retryCore
  split
  · exact h
  · extract_lets z6
    have hz6 : Did W s z6.2 := releaseHeld_did (within hW rfl) h
    clear_value z6
    split
    · exact transFault_did (within hW rfl) hz6
    · exact tcMod_did (within hW rfl) hz6

theorem retryItem_did {W : Nat} {s : State} {a1 : Nat} {a2 : Nat} {a3 : Nat} {u : State}
    (hW : W &&& 0x52ee70cd86e = 0x52ee70cd86e) (h : Did W s u) : Did W s (retryItem a1 a2 a3 u) := by
  unfold retryItem
  split
  · exact h
  · refine did_ite h (did_ite ?_ (did_ite (did_foldl ?_ h) h))
    · extract_lets z6 z7 z8
      have hz6 : Did W s z6.2.2 := resolveAll_did (within hW rfl) h
      clear_value z6
      clear_value z8
      exact did_ite (refuse_did (within hW rfl) hz6) (did_ite (itemPut_did (within hW rfl) hz6) (did_ite (afterWalk_did (within hW rfl) (itemPut_did (within hW rfl) hz6)) (requestBatch_did (within hW rfl) (itemPut_did (within hW rfl) hz6))))
    · intro x9 x10 h11
      exact retryCore_did (within hW rfl) h11

theorem retryEffect_did {W : Nat} {s : State} {a1 : Nat} {u : State}
    (hW : W &&& 0x52ee70cd86e = 0x52ee70cd86e) (h : Did W s u) : Did W s (retryEffect a1 u) := by
  unfold retryEffect
  refine respond_did (within hW rfl) ?_ h
  intro x1 x2 h3
  refine askAgain_did (within hW rfl) (did_foldl ?_ h3)
  intro x4 x5 h6
  exact retryItem_did (within hW rfl) h6

theorem werrClear_did {W : Nat} {s : State} {u : State}
    (hW : W &&& 0x52ee000d86e = 0x52ee000d86e) (h : Did W s u) : Did W s (werrClear u) := by
  unfold werrClear
  exact flushReqs_did (within hW rfl) (stuMod_did (within hW rfl) h)

theorem invAppend_did {W : Nat} {s : State} {a1 : Nat} {u : State}
    (hW : W &&& 0x20000000 = 0x20000000) (h : Did W s u) : Did W s (invAppend a1 u) := by
  unfold invAppend
  exact stuMod_did (within hW rfl) h

theorem invCmdSet_did {W : Nat} {s : State} {a1 : W64} {u : State}
    (hW : W &&& 0x20000000 = 0x20000000) (h : Did W s u) : Did W s (invCmdSet a1 u) := by
  unfold invCmdSet
  exact did_ite (invAppend_did (within hW rfl) h) (stuMod_did (within hW rfl) h)

/-! Groups -/

theorem listLog_did {W : Nat} {s : State} {a1 : Group} {u : State}
    (hW : W &&& 0x1806 = 0x1806) (h : Did W s u) : Did W s (listLog a1 u) := by
  unfold listLog
  refine did_ite h ?_
  split
  · exact memErr_did (within hW rfl) h
  · exact h

theorem groupWrite_did {W : Nat} {s : State} {a1 : Nat} {a2 : Nat} {a3 : W64} {a4 : Bool} {u : State}
    (hW : W &&& 0x40240d806 = 0x40240d806) (h : Did W s u) : Did W s (groupWrite a1 a2 a3 a4 u) := by
  unfold groupWrite
  extract_lets z1 z2 z3 z4 z5
  clear_value z1
  clear_value z2
  clear_value z3
  have hz4 : Did W s z4 := did_ite (relayAbort_did (within hW rfl) h) h
  clear_value z4
  clear_value z5
  exact did_ite h (did_ite (did_mk h) (did_ite (did_ite (listLog_did (within hW rfl) (groupPut_did (within hW rfl) h)) (groupPut_did (within hW rfl) h)) (did_ite h (groupPut_did (within hW rfl) hz4))))

theorem groupAborted_did {W : Nat} {s : State} {a1 : Nat} {u : State}
    (hW : W &&& 0x40200c004 = 0x40200c004) (h : Did W s u) : Did W s (groupAborted a1 u) := by
  unfold groupAborted
  extract_lets z1
  clear_value z1
  exact did_ite h (spreadAbort_did (within hW rfl) (endRounds_did (within hW rfl) h))

/-! Stu -/

theorem execPrqHeadWrite_did {W : Nat} {s : State} {a1 : W32} {u : State}
    (hW : W &&& 0x52ee000d86e = 0x52ee000d86e) (h : Did W s u) : ODid W s (execPrqHeadWrite a1 u) := by
  unfold execPrqHeadWrite
  refine next_odid ?_
  exact prqHeadSet_did (within hW rfl) h

/-! Release -/

theorem timePasses_did {W : Nat} {s : State} {u : State}
    (hW : W &&& 0x52ee70cd86e = 0x52ee70cd86e) (h : Did W s u) : Did W s (timePasses u) := by
  unfold timePasses
  refine settleAll_did (within hW rfl) (did_foldl ?_ h)
  intro x1 x2 h3
  exact itemTime_did (within hW rfl) h3

/-! Translate -/

theorem whenWalks_did {W : Nat} {s : State} {a1 : Nat} {a2 : List (Nat × Nat)} {u : State} {u1 : State}
    (hW : W &&& 0x802 = 0x802) (h : Did W s u) (h1 : Did W s u1) : Did W s (whenWalks a1 a2 u u1) := by
  unfold whenWalks
  split
  · exact nackedLine_did (within hW rfl) h1
  · exact h

/-! Stu -/

theorem transferMissEffect_did {W : Nat} {s : State} {a1 : Nat} {a2 : Nat} {a3 : Bool} {a4 : W64} {u : State}
    (hW : W &&& 0x52ee70cd86e = 0x52ee70cd86e) (h : Did W s u) : Did W s (transferMissEffect a1 a2 a3 a4 u) := by
  unfold transferMissEffect
  extract_lets z1 z2
  clear_value z1
  clear_value z2
  split
  · exact h
  · split
    · exact h
    · extract_lets z13 z14 z15 z16
      clear_value z13
      clear_value z14
      have hz15 : Did W s z15.2 := resolvePage_did (within hW rfl) h
      clear_value z15
      have hz16 : Did W s z16 := tcMod_did (within hW rfl) hz15
      clear_value z16
      refine did_ite h (whenWalks_did (within hW rfl) ?_ h)
      split
      · exact hz15
      · exact settleAll_did (within hW rfl) (transFault_did (within hW rfl) hz15)
      · exact did_ite (did_ite hz15 (dropOp_did (within hW rfl) hz15)) (did_ite (requestPage_did (within hW rfl) hz16) (settleAll_did (within hW rfl) (transFault_did (within hW rfl) hz16)))

theorem dropCode_did {W : Nat} {s : State} {a1 : InvCmd} {a2 : Nat} {u : State}
    (hW : W &&& 0x4000 = 0x4000) (h : Did W s u) : Did W s (dropCode a1 a2 u) := by
  unfold dropCode
  split
  · exact h
  · split
    · exact h
    · extract_lets z11
      clear_value z11
      exact did_ite h (tcMod_did (within hW rfl) h)

theorem clusterAckEffect_did {W : Nat} {s : State} {a1 : Nat} {u : State}
    (hW : W &&& 0x20000000 = 0x20000000) (h : Did W s u) : Did W s (clusterAckEffect a1 u) := by
  unfold clusterAckEffect
  exact did_ite (stuMod_did (within hW rfl) h) h

theorem execClusterInvAck_did {W : Nat} {s : State} {a1 : Nat} {u : State}
    (hW : W &&& 0x20000000 = 0x20000000) (h : Did W s u) : ODid W s (execClusterInvAck a1 u) := by
  unfold execClusterInvAck
  refine onUnit_odid ?_
  exact clusterAckEffect_did (within hW rfl) h

/-! Translate -/

theorem engPages_did {W : Nat} {s : State} {a1 : Nat} {a2 : Bool} {a3 : Nat} {a4 : Option Nat} {a5 : Nat} {a6 : List Nat} {u : State}
    (hW : W &&& 0x522e000d86e = 0x522e000d86e) (h : Did W s u) : Did W s (engPages a1 a2 a3 a4 a5 a6 u).2 := by
  induction a6 generalizing u with
  | nil  =>
    unfold engPages
    dsimp only
    exact h
  | cons r1 r2 r3 =>
    unfold engPages
    dsimp only
    split
    · rename_i e4 e5 e6
      have k7 : Did W s e5 := Did.of_eq (congrArg (fun x : (_ × _) => x.2) e6) (engPage_did (within hW rfl) h)
      exact k7
    · rename_i e8 e9 e10 e11
      refine r3 ?_
      have k12 : Did W s e10 := Did.of_eq (congrArg (fun x : (_ × _) => x.2) e11) (engPage_did (within hW rfl) h)
      exact k12

/-! Stu -/

theorem unpost_did {W : Nat} {s : State} {a1 : List Nat} {u : State}
    (hW : W &&& 0x20000800 = 0x20000800) (h : Did W s u) : Did W s (unpost a1 u) := by
  unfold unpost
  extract_lets z1
  have hz1 : Did W s z1 := stuMod_did (within hW rfl) h
  clear_value z1
  exact oset_did (within hW rfl) hz1

theorem engineAckEffect_did {W : Nat} {s : State} {a1 : Nat} {u : State}
    (hW : W &&& 0x20000000 = 0x20000000) (h : Did W s u) : Did W s (engineAckEffect a1 u) := by
  unfold engineAckEffect
  exact did_ite (stuMod_did (within hW rfl) h) h

theorem execEngineInvAck_did {W : Nat} {s : State} {a1 : Nat} {u : State}
    (hW : W &&& 0x20000000 = 0x20000000) (h : Did W s u) : ODid W s (execEngineInvAck a1 u) := by
  unfold execEngineInvAck
  refine onUnit_odid ?_
  exact engineAckEffect_did (within hW rfl) h

theorem execPrqBaseWrite_did {W : Nat} {s : State} {a1 : W64} {u : State}
    (hW : W &&& 0x20000000 = 0x20000000) (h : Did W s u) : ODid W s (execPrqBaseWrite a1 u) := by
  unfold execPrqBaseWrite
  refine next_odid ?_
  exact prqBaseSet_did (within hW rfl) h

theorem execInvAsid_did {W : Nat} {s : State} {u : State}
    (hW : W &&& 0x20000000 = 0x20000000) (h : Did W s u) : ODid W s (execInvAsid u) := by
  unfold execInvAsid
  refine next_odid ?_
  exact invAppend_did (within hW rfl) h

theorem execInvalidationComplete_did {W : Nat} {s : State} {a1 : Nat} {u : State}
    (hW : W &&& 0x52ee50cd86e = 0x52ee50cd86e) (h : Did W s u) : ODid W s (execInvalidationComplete a1 u) := by
  unfold execInvalidationComplete
  refine next_odid ?_
  exact invDoneEffect_did (within hW rfl) h

theorem invStartEffect_did {W : Nat} {s : State} {u : State}
    (hW : W &&& 0x20000000 = 0x20000000) (h : Did W s u) : Did W s (invStartEffect u) := by
  unfold invStartEffect
  split
  · exact h
  · exact did_ite h (stuMod_did (within hW rfl) h)

theorem execInvalidationStart_did {W : Nat} {s : State} {u : State}
    (hW : W &&& 0x20000000 = 0x20000000) (h : Did W s u) : ODid W s (execInvalidationStart u) := by
  unfold execInvalidationStart
  refine next_odid ?_
  exact invStartEffect_did (within hW rfl) h

theorem execPrqWerrClear_did {W : Nat} {s : State} {u : State}
    (hW : W &&& 0x52ee000d86e = 0x52ee000d86e) (h : Did W s u) : ODid W s (execPrqWerrClear u) := by
  unfold execPrqWerrClear
  refine next_odid ?_
  exact werrClear_did (within hW rfl) h

/-! Release -/

theorem takeCore_did {W : Nat} {s : State} {a1 : Nat} {u : State}
    (hW : W &&& 0x1000000c002 = 0x1000000c002) (h : Did W s u) : Did W s (takeCore a1 u) := by
  unfold takeCore
  split
  · exact h
  · split
    · exact freeCore_did (within hW rfl) h
    · exact freeCore_did (within hW rfl) (itemPut_did (within hW rfl) h)

/-! Stu -/

theorem execInvVmid_did {W : Nat} {s : State} {u : State}
    (hW : W &&& 0x20000000 = 0x20000000) (h : Did W s u) : ODid W s (execInvVmid u) := by
  unfold execInvVmid
  refine next_odid ?_
  exact invAppend_did (within hW rfl) h

theorem execInvRange_did {W : Nat} {s : State} {u : State}
    (hW : W &&& 0x20000000 = 0x20000000) (h : Did W s u) : ODid W s (execInvRange u) := by
  unfold execInvRange
  refine next_odid ?_
  exact invAppend_did (within hW rfl) h

theorem execTransferTranslationMiss_did {W : Nat} {s : State} {a1 : Nat} {a2 : Nat} {a3 : Bool} {a4 : W64} {a5 : List (Nat × Bool)} {u : State}
    (hW : W &&& 0x52ee70cd86e = 0x52ee70cd86e) (h : Did W s u) : ODid W s (execTransferTranslationMiss a1 a2 a3 a4 a5 u) := by
  unfold execTransferTranslationMiss
  refine onUnit_odid ?_
  refine withFlaws_did (within hW rfl) ?_ h
  intro x1 h2
  exact transferMissEffect_did (within hW rfl) h2

theorem prqErrorEffect_did {W : Nat} {s : State} {a1 : Nat} {u : State}
    (hW : W &&& 0x10020001806 = 0x10020001806) (h : Did W s u) : Did W s (prqErrorEffect a1 u) := by
  unfold prqErrorEffect
  extract_lets z1 z2 z3
  clear_value z1
  have hz2 : Did W s z2.2 := drawFree_did (within hW rfl) h
  clear_value z2
  have hz3 : Did W s z3 := unpost_did (within hW rfl) hz2
  clear_value z3
  exact did_ite (scRaise_did (within hW rfl) (stuMod_did (within hW rfl) (memErr_did (within hW rfl) hz3))) h

theorem execPrqWriteError_did {W : Nat} {s : State} {a1 : Nat} {u : State}
    (hW : W &&& 0x10020001806 = 0x10020001806) (h : Did W s u) : ODid W s (execPrqWriteError a1 u) := by
  unfold execPrqWriteError
  refine next_odid ?_
  exact prqErrorEffect_did (within hW rfl) h

theorem execPageResponseRetry_did {W : Nat} {s : State} {a1 : Nat} {a2 : List (Nat × Bool)} {u : State}
    (hW : W &&& 0x52ee70cd86e = 0x52ee70cd86e) (h : Did W s u) : ODid W s (execPageResponseRetry a1 a2 u) := by
  unfold execPageResponseRetry
  refine next_odid ?_
  refine withFlaws_did (within hW rfl) ?_ h
  intro x1 h2
  exact retryEffect_did (within hW rfl) h2

theorem execPageResponseInvalid_did {W : Nat} {s : State} {a1 : Nat} {u : State}
    (hW : W &&& 0x52ee70cd86e = 0x52ee70cd86e) (h : Did W s u) : ODid W s (execPageResponseInvalid a1 u) := by
  unfold execPageResponseInvalid
  refine next_odid ?_
  exact invalidEffect_did (within hW rfl) h

theorem execInvCmdReserved_did {W : Nat} {s : State} {a1 : W64} {u : State}
    (hW : W &&& 0x20000000 = 0x20000000) (h : Did W s u) : ODid W s (execInvCmdReserved a1 u) := by
  unfold execInvCmdReserved
  refine next_odid ?_
  exact onlyIf_did (invCmdSet_did (within hW rfl) h) h

theorem clusterInvEffect_did {W : Nat} {s : State} {a1 : Nat} {u : State}
    (hW : W &&& 0x20004000 = 0x20004000) (h : Did W s u) : Did W s (clusterInvEffect a1 u) := by
  unfold clusterInvEffect
  split
  · exact h
  · refine did_ite ?_ h
    extract_lets z7
    have hz7 : Did W s z7 := stuMod_did (within hW rfl) h
    clear_value z7
    refine did_foldl ?_ hz7
    intro x8 x9 h10
    exact dropCode_did (within hW rfl) h10

theorem execClusterInvalidate_did {W : Nat} {s : State} {a1 : Nat} {u : State}
    (hW : W &&& 0x20004000 = 0x20004000) (h : Did W s u) : ODid W s (execClusterInvalidate a1 u) := by
  unfold execClusterInvalidate
  refine onUnit_odid ?_
  exact clusterInvEffect_did (within hW rfl) h

theorem execInvAll_did {W : Nat} {s : State} {u : State}
    (hW : W &&& 0x20000000 = 0x20000000) (h : Did W s u) : ODid W s (execInvAll u) := by
  unfold execInvAll
  refine next_odid ?_
  exact invAppend_did (within hW rfl) h

end Sys2Proof.Machine
end

