-- ==== Sys2Proof/Laws/DidEngines.lean ====
section
/-! SUPPORT. What each operation of these units can do, one lemma for each: the vector and DMA engines. -/

-- one theorem after the other: a thread for each of hundreds of small theorems takes more memory than the check allows
set_option Elab.async false

set_option linter.all false

namespace Sys2Proof.Machine

open Sys2Proof

/-! Vector -/

theorem issueUnary_did {W : Nat} {s : State} {a1 : EngOp} {a2 : Bool} {a3 : Nat → Nat → Bool} {a4 : Region → Region → Bool} {a5 : W64 → Bool} {a6 : Bool} {a7 : Nat} {a8 : Nat} {a9 : Nat} {a10 : Nat} {u : State}
    (hW : W &&& 0x4000 = 0x4000) (h : Did W s u) : RDid W s (issueUnary a1 a2 a3 a4 a5 a6 a7 a8 a9 a10 u) := by
  unfold issueUnary
  extract_lets z1 z2 z3 z4 z5 z6 z7
  clear_value z1
  clear_value z2
  clear_value z3
  clear_value z4
  clear_value z5
  clear_value z6
  clear_value z7
  refine checked_did ?_
  exact issue_did (within hW rfl) h

theorem issueVtrn_did {W : Nat} {s : State} {a1 : Nat} {a2 : Nat} {a3 : Nat} {a4 : Nat} {a5 : Nat} {a6 : Nat} {u : State}
    (hW : W &&& 0x4000 = 0x4000) (h : Did W s u) : RDid W s (issueVtrn a1 a2 a3 a4 a5 a6 u) := by
  unfold issueVtrn
  exact issueUnary_did (within hW rfl) h

/-! Dma -/

theorem enterDrly_did {W : Nat} {s : State} {a1 : Nat} {a2 : Nat} {a3 : Nat} {a4 : Nat} {a5 : Op} {u : State}
    (hW : W &&& 0x2004000 = 0x2004000) (h : Did W s u) : Did W s (enterDrly a1 a2 a3 a4 a5 u) := by
  unfold enterDrly
  extract_lets z1 z2 z3 z4 z5 z6 z7
  have hz1 : Did W s z1 := enter_did (within hW rfl) h
  clear_value z1
  clear_value z2
  clear_value z3
  clear_value z4
  clear_value z5
  clear_value z6
  clear_value z7
  exact did_ite (dropOp_did (within hW rfl) hz1) (tcMod_did (within hW rfl) (groupPut_did (within hW rfl) hz1))

theorem aheadPages_did {W : Nat} {s : State} {a1 : Nat} {a2 : Nat} {a3 : Option Nat} {a4 : Nat} {a5 : List Nat} {u : State}
    (hW : W &&& 0x522e000d86e = 0x522e000d86e) (h : Did W s u) : Did W s (aheadPages a1 a2 a3 a4 a5 u).2 := by
  induction a5 generalizing u with
  | nil  =>
    unfold aheadPages
    dsimp only
    exact h
  | cons r1 r2 r3 =>
    unfold aheadPages
    dsimp only
    exact r3 (engPage_did (within hW rfl) h)

theorem fetchAhead_did {W : Nat} {s : State} {a1 : Requester} {a2 : Nat} {a3 : Nat} {a4 : Nat} {u : State}
    (hW : W &&& 0x502c000186e = 0x502c000186e) (h : Did W s u) : Did W s (fetchAhead a1 a2 a3 a4 u) := by
  unfold fetchAhead
  extract_lets z1 z2 z3 z4
  clear_value z1
  clear_value z2
  clear_value z3
  have hz4 : Did W s z4.2.2 := clusterRead_did (within hW rfl) h
  clear_value z4
  refine did_ite h ?_
  split
  · exact memErr_did (within hW rfl) hz4
  · exact hz4

theorem fetchLines_did {W : Nat} {s : State} {a1 : Requester} {a2 : Nat} {a3 : Nat} {a4 : List (Nat × Nat × Bool)} {a5 : List (Nat × Nat)} {u : State}
    (hW : W &&& 0x502c000186e = 0x502c000186e) (h : Did W s u) : Did W s (fetchLines a1 a2 a3 a4 a5 u) := by
  unfold fetchLines
  refine did_foldl ?_ h
  intro x1 x2 h3
  exact fetchAhead_did (within hW rfl) h3

theorem dpfEffect_did {W : Nat} {s : State} {a1 : Nat} {a2 : Nat} {a3 : Item} {a4 : Op} {a5 : OpSlot} {u : State}
    (hW : W &&& 0x522e000d86e = 0x522e000d86e) (h : Did W s u) : Did W s (dpfEffect a1 a2 a3 a4 a5 u) := by
  unfold dpfEffect
  extract_lets z1 z2
  have hz2 : Did W s z2.2 := aheadPages_did (within hW rfl) h
  clear_value z2
  exact fetchLines_did (within hW rfl) hz2

theorem askPiece_did {W : Nat} {s : State} {a1 : Xfer} {a2 : Op} {a3 : Nat} {a4 : Piece} {a5 : Bool} {a6 : List Byte} {u : State}
    (hW : W &&& 0x8c00004004 = 0x8c00004004) (h : Did W s u) : Did W s (askPiece a1 a2 a3 a4 a5 a6 u) := by
  unfold askPiece
  split
  · extract_lets z5
    clear_value z5
    exact did_ite (askWindow_did (within hW rfl) h) (tellWindow_did (within hW rfl) h)
  · exact did_ite (noteAnswer_did (within hW rfl) h) (askHost_did (within hW rfl) h)
  · exact h

theorem sendRuns_did {W : Nat} {s : State} {a1 : Xfer} {a2 : Op} {a3 : Piece × Bits} {u : State}
    (hW : W &&& 0x8c00004004 = 0x8c00004004) (h : Did W s u) : Did W s (sendRuns a1 a2 a3 u) := by
  unfold sendRuns
  refine did_ite h (did_foldl ?_ h)
  intro x1 x2 h3
  exact askPiece_did (within hW rfl) h3

theorem writePiece_did {W : Nat} {s : State} {a1 : Xfer} {a2 : Piece} {a3 : Bits} {u : State}
    (hW : W &&& 0x522c000d86e = 0x522c000d86e) (h : Did W s u) : Did W s (writePiece a1 a2 a3 u).2 := by
  unfold writePiece
  split
  · exact h
  · split
    · exact h
    · split
      · extract_lets z14 z15
        clear_value z14
        clear_value z15
        exact localWrite_did (within hW rfl) h
      · split
        · refine did_foldl ?_ h
          intro x21 x22 h23
          exact postHost_did (within hW rfl) h23
        · exact h

theorem writePieces_did {W : Nat} {s : State} {a1 : Xfer} {a2 : List Piece} {a3 : Nat} {a4 : Bits} {u : State}
    (hW : W &&& 0x522c000d86e = 0x522c000d86e) (h : Did W s u) : Did W s (writePieces a1 a2 a3 a4 u).2 := by
  induction a2 generalizing a3 a4 u with
  | nil  =>
    unfold writePieces
    dsimp only
    exact h
  | cons r1 r2 r3 =>
    unfold writePieces
    dsimp only
    split
    · refine r3 (memErr_did (within hW rfl) (did_ite_of (fun x : (_ × _) => x.2) ?_ ?_))
      · exact h
      · exact writePiece_did (within hW rfl) h
    · refine r3 (did_ite_of (fun x : (_ × _) => x.2) ?_ ?_)
      · exact h
      · exact writePiece_did (within hW rfl) h

theorem issueDma_did {W : Nat} {s : State} {a1 : EngOp} {a2 : Nat} {a3 : Nat} {a4 : Nat} {a5 : Nat} {a6 : Nat} {a7 : Nat} {a8 : Item} {u : State}
    (hW : W &&& 0x4000 = 0x4000) (h : Did W s u) : RDid W s (issueDma a1 a2 a3 a4 a5 a6 a7 a8 u) := by
  unfold issueDma
  extract_lets z1 z2 z3 z4 z5 z6 z7
  clear_value z1
  clear_value z2
  clear_value z3
  clear_value z4
  clear_value z5
  clear_value z6
  clear_value z7
  refine checked_did ?_
  exact issue_did (within hW rfl) h

theorem dmaRun_did {W : Nat} {s : State} {a1 : EngOp} {a2 : Nat} {a3 : Instr} {a4 : BitVec 2} {a5 : BitVec 5} {a6 : BitVec 4} {a7 : BitVec 4} {a8 : BitVec 4} {u : State}
    (hW : W &&& 0xc000 = 0xc000) (h : Did W s u) : ODid W s (dmaRun a1 a2 a3 a4 a5 a6 a7 a8 u) := by
  unfold dmaRun
  refine onUnit_odid ?_
  refine pacerRun_did (within hW rfl) ?_ h
  intro x1 x2 h3
  exact issueDma_did (within hW rfl) h3

theorem execDvout_did {W : Nat} {s : State} {a1 : Nat} {a2 : BitVec 2} {a3 : BitVec 5} {a4 : BitVec 4} {a5 : BitVec 4} {a6 : BitVec 4} {u : State}
    (hW : W &&& 0xc000 = 0xc000) (h : Did W s u) : ODid W s (execDvout a1 a2 a3 a4 a5 a6 u) := by
  unfold execDvout
  exact dmaRun_did (within hW rfl) h

theorem xferNacked_did {W : Nat} {s : State} {a1 : Xfer} {a2 : Op} {a3 : OpSlot} {u : State}
    (hW : W &&& 0x802 = 0x802) (h : Did W s u) : Did W s (xferNacked a1 a2 a3 u) := by
  unfold xferNacked
  split
  · exact h
  · refine did_ite h ?_
    split
    · exact nackedLine_did (within hW rfl) h
    · exact h

/-! Vector -/

theorem vecRun_did {W : Nat} {s : State} {a1 : Nat} {a2 : Instr} {a3 : Item → State → PacerRes} {u : State}
    (hW : W &&& 0xc000 = 0xc000) (g3 : ∀ x1 x2, Did W s x2 → RDid W s (a3 x1 x2)) (h : Did W s u) : ODid W s (vecRun a1 a2 a3 u) := by
  unfold vecRun
  refine onUnit_odid ?_
  refine pacerRun_did (within hW rfl) ?_ h
  intro x1 x2 h3
  refine g3 _ _ ?_
  exact h3

theorem issueVexpd_did {W : Nat} {s : State} {a1 : Nat} {a2 : Nat} {a3 : Nat} {a4 : Nat} {a5 : Nat} {a6 : Nat} {u : State}
    (hW : W &&& 0x4000 = 0x4000) (h : Did W s u) : RDid W s (issueVexpd a1 a2 a3 a4 a5 a6 u) := by
  unfold issueVexpd
  exact issueUnary_did (within hW rfl) h

theorem execVexpd_did {W : Nat} {s : State} {a1 : Nat} {a2 : BitVec 2} {a3 : BitVec 5} {a4 : BitVec 4} {a5 : BitVec 4} {a6 : BitVec 4} {u : State}
    (hW : W &&& 0xc000 = 0xc000) (h : Did W s u) : ODid W s (execVexpd a1 a2 a3 a4 a5 a6 u) := by
  unfold execVexpd
  refine vecRun_did (within hW rfl) ?_ h
  intro x1 x2 h3
  exact issueVexpd_did (within hW rfl) h3

theorem issueVcvt_did {W : Nat} {s : State} {a1 : Nat} {a2 : Nat} {a3 : Nat} {a4 : Nat} {a5 : Nat} {a6 : Nat} {u : State}
    (hW : W &&& 0x4000 = 0x4000) (h : Did W s u) : RDid W s (issueVcvt a1 a2 a3 a4 a5 a6 u) := by
  unfold issueVcvt
  exact issueUnary_did (within hW rfl) h

/-! Dma -/

theorem writeRuns_did {W : Nat} {s : State} {a1 : Xfer} {a2 : List (Nat × Nat × Bits)} {u : State}
    (hW : W &&& 0x522c000d86e = 0x522c000d86e) (h : Did W s u) : Did W s (writeRuns a1 a2 u).2.2 := by
  induction a2 generalizing u with
  | nil  =>
    unfold writeRuns
    dsimp only
    exact h
  | cons r1 r2 r3 =>
    unfold writeRuns
    dsimp only
    exact r3 (writePieces_did (within hW rfl) h)

/-! Vector -/

theorem issueVrand_did {W : Nat} {s : State} {a1 : Nat} {a2 : Nat} {a3 : Nat} {a4 : Nat} {a5 : Nat} {a6 : Nat} {a7 : Item} {u : State}
    (hW : W &&& 0xc000 = 0xc000) (h : Did W s u) : RDid W s (issueVrand a1 a2 a3 a4 a5 a6 a7 u) := by
  unfold issueVrand
  extract_lets z1 z2 z3 z4 z5 z6 z7 z8
  clear_value z1
  clear_value z2
  clear_value z3
  clear_value z4
  clear_value z5
  clear_value z6
  clear_value z7
  clear_value z8
  refine checked_did ?_
  refine rdid_ite ?_ ?_
  · refine PacerRes.next_did ?_
    refine enter_did (within hW rfl) ?_
    split
    · exact itemPut_did (within hW rfl) h
    · exact h
  · exact PacerRes.stall_did

theorem execVrand_did {W : Nat} {s : State} {a1 : Nat} {a2 : BitVec 2} {a3 : BitVec 5} {a4 : BitVec 4} {a5 : BitVec 4} {a6 : BitVec 4} {u : State}
    (hW : W &&& 0xc000 = 0xc000) (h : Did W s u) : ODid W s (execVrand a1 a2 a3 a4 a5 a6 u) := by
  unfold execVrand
  refine vecRun_did (within hW rfl) ?_ h
  intro x1 x2 h3
  exact issueVrand_did (within hW rfl) h3

/-! Dma -/

theorem issueDrly_did {W : Nat} {s : State} {a1 : Nat} {a2 : Nat} {a3 : Nat} {a4 : Nat} {a5 : Nat} {a6 : Nat} {a7 : Item} {u : State}
    (hW : W &&& 0x2004000 = 0x2004000) (h : Did W s u) : RDid W s (issueDrly a1 a2 a3 a4 a5 a6 a7 u) := by
  unfold issueDrly
  extract_lets z1 z2 z3 z4 z5 z6 z7 z8 z9 z10
  clear_value z1
  clear_value z2
  clear_value z3
  clear_value z4
  clear_value z5
  clear_value z6
  clear_value z7
  clear_value z8
  clear_value z9
  clear_value z10
  refine checked_did ?_
  refine rdid_ite ?_ ?_
  · refine PacerRes.next_did ?_
    exact enterDrly_did (within hW rfl) h
  · exact PacerRes.stall_did

theorem execDrly_did {W : Nat} {s : State} {a1 : Nat} {a2 : BitVec 2} {a3 : BitVec 5} {a4 : BitVec 4} {a5 : BitVec 4} {a6 : BitVec 4} {u : State}
    (hW : W &&& 0x200c000 = 0x200c000) (h : Did W s u) : ODid W s (execDrly a1 a2 a3 a4 a5 a6 u) := by
  unfold execDrly
  refine onUnit_odid ?_
  refine pacerRun_did (within hW rfl) ?_ h
  intro x1 x2 h3
  exact issueDrly_did (within hW rfl) h3

theorem readPiece_did {W : Nat} {s : State} {a1 : Xfer} {a2 : Piece} {u : State}
    (hW : W &&& 0x522c000d86e = 0x522c000d86e) (h : Did W s u) : Did W s (readPiece a1 a2 u).2.2 := by
  unfold readPiece
  split
  · exact h
  · split
    · exact h
    · split
      · exact localRead_did (within hW rfl) h
      · extract_lets z16
        have hz16 : Did W s z16.2 := freeBytes_did (within hW rfl) h
        clear_value z16
        exact hz16

/-! Vector -/

theorem issueBinary_did {W : Nat} {s : State} {a1 : EngOp} {a2 : Nat} {a3 : Nat} {a4 : Nat} {a5 : Nat} {a6 : Nat} {a7 : Nat} {u : State}
    (hW : W &&& 0x4000 = 0x4000) (h : Did W s u) : RDid W s (issueBinary a1 a2 a3 a4 a5 a6 a7 u) := by
  unfold issueBinary
  extract_lets z1 z2 z3 z4 z5 z6 z7 z8 z9 z10
  clear_value z1
  clear_value z2
  clear_value z3
  clear_value z4
  clear_value z5
  clear_value z6
  clear_value z7
  clear_value z8
  clear_value z9
  clear_value z10
  refine checked_did ?_
  exact issue_did (within hW rfl) h

theorem execVcle_did {W : Nat} {s : State} {a1 : Nat} {a2 : BitVec 2} {a3 : BitVec 5} {a4 : BitVec 4} {a5 : BitVec 4} {a6 : BitVec 4} {u : State}
    (hW : W &&& 0xc000 = 0xc000) (h : Did W s u) : ODid W s (execVcle a1 a2 a3 a4 a5 a6 u) := by
  unfold execVcle
  refine vecRun_did (within hW rfl) ?_ h
  intro x1 x2 h3
  exact issueBinary_did (within hW rfl) h3

theorem issueVscan_did {W : Nat} {s : State} {a1 : Nat} {a2 : Nat} {a3 : Nat} {a4 : Nat} {a5 : Nat} {a6 : Nat} {u : State}
    (hW : W &&& 0x4000 = 0x4000) (h : Did W s u) : RDid W s (issueVscan a1 a2 a3 a4 a5 a6 u) := by
  unfold issueVscan
  exact issueUnary_did (within hW rfl) h

theorem execVscan_did {W : Nat} {s : State} {a1 : Nat} {a2 : BitVec 2} {a3 : BitVec 5} {a4 : BitVec 4} {a5 : BitVec 4} {a6 : BitVec 4} {u : State}
    (hW : W &&& 0xc000 = 0xc000) (h : Did W s u) : ODid W s (execVscan a1 a2 a3 a4 a5 a6 u) := by
  unfold execVscan
  refine vecRun_did (within hW rfl) ?_ h
  intro x1 x2 h3
  exact issueVscan_did (within hW rfl) h3

/-! Dma -/

theorem opMod_did {W : Nat} {s : State} {a1 : Nat} {a2 : Nat} {a3 : Op → Op} {u : State}
    (hW : W &&& 0x4000 = 0x4000) (h : Did W s u) : Did W s (opMod a1 a2 a3 u) := by
  unfold opMod
  exact tcMod_did (within hW rfl) h

/-! Vector -/

theorem execVmax_did {W : Nat} {s : State} {a1 : Nat} {a2 : BitVec 2} {a3 : BitVec 5} {a4 : BitVec 4} {a5 : BitVec 4} {a6 : BitVec 4} {u : State}
    (hW : W &&& 0xc000 = 0xc000) (h : Did W s u) : ODid W s (execVmax a1 a2 a3 a4 a5 a6 u) := by
  unfold execVmax
  refine vecRun_did (within hW rfl) ?_ h
  intro x1 x2 h3
  exact issueBinary_did (within hW rfl) h3

/-! Dma -/

theorem readPieces_did {W : Nat} {s : State} {a1 : Xfer} {a2 : List Piece} {u : State}
    (hW : W &&& 0x522c000d86e = 0x522c000d86e) (h : Did W s u) : Did W s (readPieces a1 a2 u).2.2 := by
  induction a2 generalizing u with
  | nil  =>
    unfold readPieces
    dsimp only
    exact h
  | cons r1 r2 r3 =>
    unfold readPieces
    dsimp only
    split
    · exact r3 (freeBytes_did (within hW rfl) (memErr_did (within hW rfl) (readPiece_did (within hW rfl) h)))
    · exact r3 (readPiece_did (within hW rfl) h)

theorem loadRows_did {W : Nat} {s : State} {a1 : Xfer} {a2 : OpSlot} {a3 : Nat} {a4 : Origin} {a5 : Region} {a6 : List Nat} {u : State}
    (hW : W &&& 0x522c000d86e = 0x522c000d86e) (h : Did W s u) : Did W s (loadRows a1 a2 a3 a4 a5 a6 u).2.2.2 := by
  induction a6 generalizing u with
  | nil  =>
    unfold loadRows
    dsimp only
    exact h
  | cons r1 r2 r3 =>
    unfold loadRows
    dsimp only
    split
    · exact r3 h
    · refine did_ite_of (fun x : (_ × (_ × (_ × _))) => x.2.2.2) ?_ ?_
      · exact r3 h
      · exact r3 (readPieces_did (within hW rfl) h)

theorem execDst_did {W : Nat} {s : State} {a1 : Nat} {a2 : BitVec 2} {a3 : BitVec 5} {a4 : BitVec 4} {a5 : BitVec 4} {a6 : BitVec 4} {u : State}
    (hW : W &&& 0xc000 = 0xc000) (h : Did W s u) : ODid W s (execDst a1 a2 a3 a4 a5 a6 u) := by
  unfold execDst
  exact dmaRun_did (within hW rfl) h

theorem streamStart_did {W : Nat} {s : State} {a1 : Nat} {a2 : Nat} {a3 : Item} {a4 : Op} {u : State}
    (hW : W &&& 0x522e000d86e = 0x522e000d86e) (h : Did W s u) : Did W s (streamStart a1 a2 a3 a4 u) := by
  unfold streamStart
  split
  · exact h
  · extract_lets z6 z7 z8 z9 z10 z11 z12 z13 z14
    clear_value z6
    clear_value z7
    clear_value z8
    have hz9 : Did W s z9 := tcMod_did (within hW rfl) h
    clear_value z9
    have hz12 : Did W s z12.2 := aheadPages_did (within hW rfl) hz9
    clear_value z12
    have hz13 : Did W s z13 := cohMod_did (within hW rfl) hz12
    clear_value z13
    clear_value z14
    exact did_ite hz9 (did_ite (fetchLines_did (within hW rfl) hz13) hz13)

theorem askReads_did {W : Nat} {s : State} {a1 : Xfer} {a2 : Op} {a3 : List Piece} {u : State}
    (hW : W &&& 0x8c00004004 = 0x8c00004004) (h : Did W s u) : Did W s (askReads a1 a2 a3 u) := by
  unfold askReads
  refine did_foldl ?_ h
  intro x1 x2 h3
  exact askPiece_did (within hW rfl) h3

theorem askWrites_did {W : Nat} {s : State} {a1 : Xfer} {a2 : Op} {a3 : OpSlot} {u : State}
    (hW : W &&& 0x8c00004004 = 0x8c00004004) (h : Did W s u) : Did W s (askWrites a1 a2 a3 u) := by
  unfold askWrites
  extract_lets z1 z2
  have hz2 : Did W s z2 := opMod_did (within hW rfl) h
  clear_value z2
  refine did_foldl ?_ hz2
  intro x3 x4 h5
  exact sendRuns_did (within hW rfl) h5

theorem askRemote_did {W : Nat} {s : State} {a1 : Xfer} {a2 : Op} {a3 : OpSlot} {u : State}
    (hW : W &&& 0x8c00004004 = 0x8c00004004) (h : Did W s u) : Did W s (askRemote a1 a2 a3 u) := by
  unfold askRemote
  refine did_ite h ?_
  extract_lets z1 z2
  have hz1 : Did W s z1 := opMod_did (within hW rfl) h
  clear_value z1
  exact did_ite (askReads_did (within hW rfl) hz1) (did_ite (askWrites_did (within hW rfl) h) (askReads_did (within hW rfl) hz1))

/-! Vector -/

theorem issueVred_did {W : Nat} {s : State} {a1 : Nat} {a2 : Nat} {a3 : Nat} {a4 : Nat} {a5 : Nat} {a6 : Nat} {u : State}
    (hW : W &&& 0x4000 = 0x4000) (h : Did W s u) : RDid W s (issueVred a1 a2 a3 a4 a5 a6 u) := by
  unfold issueVred
  exact issueUnary_did (within hW rfl) h

theorem execVred_did {W : Nat} {s : State} {a1 : Nat} {a2 : BitVec 2} {a3 : BitVec 5} {a4 : BitVec 4} {a5 : BitVec 4} {a6 : BitVec 4} {u : State}
    (hW : W &&& 0xc000 = 0xc000) (h : Did W s u) : ODid W s (execVred a1 a2 a3 a4 a5 a6 u) := by
  unfold execVred
  refine vecRun_did (within hW rfl) ?_ h
  intro x1 x2 h3
  exact issueVred_did (within hW rfl) h3

theorem issueVmov_did {W : Nat} {s : State} {a1 : Nat} {a2 : Nat} {a3 : Nat} {a4 : Nat} {a5 : Nat} {a6 : Nat} {u : State}
    (hW : W &&& 0x4000 = 0x4000) (h : Did W s u) : RDid W s (issueVmov a1 a2 a3 a4 a5 a6 u) := by
  unfold issueVmov
  extract_lets z1 z2 z3 z4 z5 z6
  clear_value z1
  clear_value z2
  clear_value z3
  clear_value z4
  clear_value z5
  clear_value z6
  refine checked_did ?_
  exact issue_did (within hW rfl) h

theorem execVmov_did {W : Nat} {s : State} {a1 : Nat} {a2 : BitVec 2} {a3 : BitVec 5} {a4 : BitVec 4} {a5 : BitVec 4} {a6 : BitVec 4} {u : State}
    (hW : W &&& 0xc000 = 0xc000) (h : Did W s u) : ODid W s (execVmov a1 a2 a3 a4 a5 a6 u) := by
  unfold execVmov
  refine vecRun_did (within hW rfl) ?_ h
  intro x1 x2 h3
  exact issueVmov_did (within hW rfl) h3

/-! Dma -/

theorem codePage_did {W : Nat} {s : State} {a1 : Nat} {a2 : Nat} {a3 : Item} {a4 : Nat × Nat} {u : State}
    (hW : W &&& 0x52ee000d86e = 0x52ee000d86e) (h : Did W s u) : Did W s (codePage a1 a2 a3 a4 u).2 := by
  unfold codePage
  extract_lets z1 z2
  clear_value z2
  split
  · rename_i e3 e4 e5
    subst z1
    dsimp only
    refine tcMod_did (within hW rfl) ?_
    have k6 : Did W s e4 := Did.of_eq (congrArg (fun x : (_ × _) => x.2) e5) (engPage_did (within hW rfl) h)
    exact k6
  · rename_i e7 e8 e9 e10 e11
    extract_lets z12
    have hz12 : Did W s z12.2 := by
      refine pageRead_did (within hW rfl) ?_
      have k13 : Did W s e10 := Did.of_eq (congrArg (fun x : (_ × _) => x.2) e11) (engPage_did (within hW rfl) h)
      exact k13
    clear_value z12
    split
    · subst z1
      dsimp only
      exact tcMod_did (within hW rfl) hz12
    · dsimp only
      exact tcMod_did (within hW rfl) hz12

/-! Vector -/

theorem execVadd_did {W : Nat} {s : State} {a1 : Nat} {a2 : BitVec 2} {a3 : BitVec 5} {a4 : BitVec 4} {a5 : BitVec 4} {a6 : BitVec 4} {u : State}
    (hW : W &&& 0xc000 = 0xc000) (h : Did W s u) : ODid W s (execVadd a1 a2 a3 a4 a5 a6 u) := by
  unfold execVadd
  refine vecRun_did (within hW rfl) ?_ h
  intro x1 x2 h3
  exact issueBinary_did (within hW rfl) h3

theorem execVsub_did {W : Nat} {s : State} {a1 : Nat} {a2 : BitVec 2} {a3 : BitVec 5} {a4 : BitVec 4} {a5 : BitVec 4} {a6 : BitVec 4} {u : State}
    (hW : W &&& 0xc000 = 0xc000) (h : Did W s u) : ODid W s (execVsub a1 a2 a3 a4 a5 a6 u) := by
  unfold execVsub
  refine vecRun_did (within hW rfl) ?_ h
  intro x1 x2 h3
  exact issueBinary_did (within hW rfl) h3

theorem execVmul_did {W : Nat} {s : State} {a1 : Nat} {a2 : BitVec 2} {a3 : BitVec 5} {a4 : BitVec 4} {a5 : BitVec 4} {a6 : BitVec 4} {u : State}
    (hW : W &&& 0xc000 = 0xc000) (h : Did W s u) : ODid W s (execVmul a1 a2 a3 a4 a5 a6 u) := by
  unfold execVmul
  refine vecRun_did (within hW rfl) ?_ h
  intro x1 x2 h3
  exact issueBinary_did (within hW rfl) h3

theorem execVfma_did {W : Nat} {s : State} {a1 : Nat} {a2 : BitVec 2} {a3 : BitVec 5} {a4 : BitVec 4} {a5 : BitVec 4} {a6 : BitVec 4} {u : State}
    (hW : W &&& 0xc000 = 0xc000) (h : Did W s u) : ODid W s (execVfma a1 a2 a3 a4 a5 a6 u) := by
  unfold execVfma
  refine vecRun_did (within hW rfl) ?_ h
  intro x1 x2 h3
  exact issueBinary_did (within hW rfl) h3

theorem execVmin_did {W : Nat} {s : State} {a1 : Nat} {a2 : BitVec 2} {a3 : BitVec 5} {a4 : BitVec 4} {a5 : BitVec 4} {a6 : BitVec 4} {u : State}
    (hW : W &&& 0xc000 = 0xc000) (h : Did W s u) : ODid W s (execVmin a1 a2 a3 a4 a5 a6 u) := by
  unfold execVmin
  refine vecRun_did (within hW rfl) ?_ h
  intro x1 x2 h3
  exact issueBinary_did (within hW rfl) h3

theorem execVcvt_did {W : Nat} {s : State} {a1 : Nat} {a2 : BitVec 2} {a3 : BitVec 5} {a4 : BitVec 4} {a5 : BitVec 4} {a6 : BitVec 4} {u : State}
    (hW : W &&& 0xc000 = 0xc000) (h : Did W s u) : ODid W s (execVcvt a1 a2 a3 a4 a5 a6 u) := by
  unfold execVcvt
  refine vecRun_did (within hW rfl) ?_ h
  intro x1 x2 h3
  exact issueVcvt_did (within hW rfl) h3

theorem execVceq_did {W : Nat} {s : State} {a1 : Nat} {a2 : BitVec 2} {a3 : BitVec 5} {a4 : BitVec 4} {a5 : BitVec 4} {a6 : BitVec 4} {u : State}
    (hW : W &&& 0xc000 = 0xc000) (h : Did W s u) : ODid W s (execVceq a1 a2 a3 a4 a5 a6 u) := by
  unfold execVceq
  refine vecRun_did (within hW rfl) ?_ h
  intro x1 x2 h3
  exact issueBinary_did (within hW rfl) h3

theorem execVclt_did {W : Nat} {s : State} {a1 : Nat} {a2 : BitVec 2} {a3 : BitVec 5} {a4 : BitVec 4} {a5 : BitVec 4} {a6 : BitVec 4} {u : State}
    (hW : W &&& 0xc000 = 0xc000) (h : Did W s u) : ODid W s (execVclt a1 a2 a3 a4 a5 a6 u) := by
  unfold execVclt
  refine vecRun_did (within hW rfl) ?_ h
  intro x1 x2 h3
  exact issueBinary_did (within hW rfl) h3

theorem execVfun_did {W : Nat} {s : State} {a1 : Nat} {a2 : BitVec 2} {a3 : BitVec 5} {a4 : BitVec 4} {a5 : BitVec 4} {a6 : BitVec 4} {u : State}
    (hW : W &&& 0xc000 = 0xc000) (h : Did W s u) : ODid W s (execVfun a1 a2 a3 a4 a5 a6 u) := by
  unfold execVfun
  refine vecRun_did (within hW rfl) ?_ h
  intro x1 x2 h3
  exact issueBinary_did (within hW rfl) h3

theorem issueVtopk_did {W : Nat} {s : State} {a1 : Nat} {a2 : Nat} {a3 : Nat} {a4 : Nat} {a5 : Nat} {a6 : Nat} {u : State}
    (hW : W &&& 0x4000 = 0x4000) (h : Did W s u) : RDid W s (issueVtopk a1 a2 a3 a4 a5 a6 u) := by
  unfold issueVtopk
  extract_lets z1 z2 z3 z4 z5 z6 z7 z8 z9 z10
  clear_value z1
  clear_value z2
  clear_value z3
  clear_value z4
  clear_value z5
  clear_value z6
  clear_value z7
  clear_value z8
  clear_value z9
  clear_value z10
  refine checked_did ?_
  exact issue_did (within hW rfl) h

theorem execVtopk_did {W : Nat} {s : State} {a1 : Nat} {a2 : BitVec 2} {a3 : BitVec 5} {a4 : BitVec 4} {a5 : BitVec 4} {a6 : BitVec 4} {u : State}
    (hW : W &&& 0xc000 = 0xc000) (h : Did W s u) : ODid W s (execVtopk a1 a2 a3 a4 a5 a6 u) := by
  unfold execVtopk
  refine vecRun_did (within hW rfl) ?_ h
  intro x1 x2 h3
  exact issueVtopk_did (within hW rfl) h3

theorem issueVcmprs_did {W : Nat} {s : State} {a1 : Nat} {a2 : Nat} {a3 : Nat} {a4 : Nat} {a5 : Nat} {a6 : Nat} {u : State}
    (hW : W &&& 0x4000 = 0x4000) (h : Did W s u) : RDid W s (issueVcmprs a1 a2 a3 a4 a5 a6 u) := by
  unfold issueVcmprs
  extract_lets z1 z2 z3 z4 z5 z6 z7 z8
  clear_value z1
  clear_value z2
  clear_value z3
  clear_value z4
  clear_value z5
  clear_value z6
  clear_value z7
  clear_value z8
  refine checked_did ?_
  exact issue_did (within hW rfl) h

theorem execVcmprs_did {W : Nat} {s : State} {a1 : Nat} {a2 : BitVec 2} {a3 : BitVec 5} {a4 : BitVec 4} {a5 : BitVec 4} {a6 : BitVec 4} {u : State}
    (hW : W &&& 0xc000 = 0xc000) (h : Did W s u) : ODid W s (execVcmprs a1 a2 a3 a4 a5 a6 u) := by
  unfold execVcmprs
  refine vecRun_did (within hW rfl) ?_ h
  intro x1 x2 h3
  exact issueVcmprs_did (within hW rfl) h3

theorem execVtrn_did {W : Nat} {s : State} {a1 : Nat} {a2 : BitVec 2} {a3 : BitVec 5} {a4 : BitVec 4} {a5 : BitVec 4} {a6 : BitVec 4} {u : State}
    (hW : W &&& 0xc000 = 0xc000) (h : Did W s u) : ODid W s (execVtrn a1 a2 a3 a4 a5 a6 u) := by
  unfold execVtrn
  refine vecRun_did (within hW rfl) ?_ h
  intro x1 x2 h3
  exact issueVtrn_did (within hW rfl) h3

/-! Dma -/

theorem execDld_did {W : Nat} {s : State} {a1 : Nat} {a2 : BitVec 2} {a3 : BitVec 5} {a4 : BitVec 4} {a5 : BitVec 4} {a6 : BitVec 4} {u : State}
    (hW : W &&& 0xc000 = 0xc000) (h : Did W s u) : ODid W s (execDld a1 a2 a3 a4 a5 a6 u) := by
  unfold execDld
  exact dmaRun_did (within hW rfl) h

theorem execDvin_did {W : Nat} {s : State} {a1 : Nat} {a2 : BitVec 2} {a3 : BitVec 5} {a4 : BitVec 4} {a5 : BitVec 4} {a6 : BitVec 4} {u : State}
    (hW : W &&& 0xc000 = 0xc000) (h : Did W s u) : ODid W s (execDvin a1 a2 a3 a4 a5 a6 u) := by
  unfold execDvin
  exact dmaRun_did (within hW rfl) h

theorem execDpf_did {W : Nat} {s : State} {a1 : Nat} {a2 : BitVec 2} {a3 : BitVec 5} {a4 : BitVec 4} {a5 : BitVec 4} {a6 : BitVec 4} {u : State}
    (hW : W &&& 0xc000 = 0xc000) (h : Did W s u) : ODid W s (execDpf a1 a2 a3 a4 a5 a6 u) := by
  unfold execDpf
  exact dmaRun_did (within hW rfl) h

theorem unpackRows_did {W : Nat} {s : State} {a1 : Xfer} {a2 : OpSlot} {a3 : Nat} {a4 : Origin} {a5 : Region} {a6 : Region} {a7 : List Nat} {u : State}
    (hW : W &&& 0x522c000d86e = 0x522c000d86e) (h : Did W s u) : Did W s (unpackRows a1 a2 a3 a4 a5 a6 a7 u).2.2.2 := by
  induction a7 generalizing u with
  | nil  =>
    unfold unpackRows
    dsimp only
    exact h
  | cons r1 r2 r3 =>
    unfold unpackRows
    dsimp only
    refine r3 ?_
    split
    · exact h
    · exact readPieces_did (within hW rfl) h

theorem dmaMove_did {W : Nat} {s : State} {a1 : Xfer} {a2 : Op} {a3 : OpSlot} {u : State}
    (hW : W &&& 0x522c000d86e = 0x522c000d86e) (h : Did W s u) : Did W s (dmaMove a1 a2 a3 u).2.2 := by
  unfold dmaMove
  extract_lets z1 z2 z3 z4 z5
  clear_value z1
  clear_value z2
  clear_value z3
  have hz4 : Did W s z4.2.2.2 := loadRows_did (within hW rfl) h
  clear_value z4
  have hz5 : Did W s z5.2.2.2 := unpackRows_did (within hW rfl) h
  clear_value z5
  split
  · dsimp only
    exact tcMod_did (within hW rfl) hz4
  · dsimp only
    exact tcMod_did (within hW rfl) hz5
  · exact writeRuns_did (within hW rfl) h
  · exact writeRuns_did (within hW rfl) h
  · exact h

theorem fetchCode_did {W : Nat} {s : State} {a1 : Nat} {a2 : Nat} {a3 : Item} {u : State}
    (hW : W &&& 0x52ee000d86e = 0x52ee000d86e) (h : Did W s u) : Did W s (fetchCode a1 a2 a3 u) := by
  unfold fetchCode
  refine did_foldl ?_ (tcMod_did (within hW rfl) h)
  intro x1 x2 h3
  extract_lets z4
  have hz4 : Did W s z4.2 := codePage_did (within hW rfl) h3
  clear_value z4
  split
  · exact memErr_did (within hW rfl) hz4
  · exact hz4

end Sys2Proof.Machine
end

