-- ==== Sys2Proof/Laws/DidPower.lean ====
section
/-! SUPPORT. What each operation of these units can do, one lemma for each: power, the start, the Relay. -/

-- one theorem after the other: a thread for each of hundreds of small theorems takes more memory than the check allows
set_option Elab.async false

set_option linter.all false

namespace Sys2Proof.Machine

open Sys2Proof

/-! Power -/

theorem packagePower_did {W : Nat} {s : State} {u : State}
    (hW : W &&& 0x2 = 0x2) (h : Did W s u) : Did W s (packagePower u).2 := by
  unfold packagePower
  refine did_fold (fun x : (_ × _) => x.2) ?_ ?_
  · intro x1 x2 h3
    refine did_ite_of (fun x : (_ × _) => x.2) ?_ ?_
    · split
      · rename_i e4 e5 e6 e7
        have k8 : Did W s e6 := Did.of_eq (congrArg (fun x : (_ × _) => x.2) e7) (drawFree_did (within hW rfl) h3)
        exact k8
    · exact h3
  · exact h

/-! Start -/

theorem bootCopyCompleteEffect_did {W : Nat} {s : State} {a1 : Nat} {u : State}
    (hW : W &&& 0x4204000086c = 0x4204000086c) (h : Did W s u) : Did W s (bootCopyCompleteEffect a1 u) := by
  unfold bootCopyCompleteEffect
  refine did_ite h ?_
  extract_lets z1 z2 z3 z4 z5 z6 z7 z8
  clear_value z1
  clear_value z4
  clear_value z6
  have hz8 : Did W s z8 := by
    refine did_mk h (khbm := ?hbm) (kmem := off hW rfl)
    (intro hh; refine twf_foldl _ (fun m x hx => ?_) _ _ hh; first | (split; exact twf_tset _ _ _ _ hx; exact hx) | exact twf_tset _ _ _ _ hx | exact twf_tputs _ _ _ hx)
  clear_value z8
  exact sendHeartbeat_did (within hW rfl) (oset_did (within hW rfl) hz8)

/-! Relay -/

theorem setRound_did {W : Nat} {s : State} {a1 : Nat} {a2 : Nat} {a3 : Nat} {u : State}
    (hW : W &&& 0x4000 = 0x4000) (h : Did W s u) : Did W s (setRound a1 a2 a3 u) := by
  unfold setRound
  exact tcMod_did (within hW rfl) h

theorem sendDown_did {W : Nat} {s : State} {a1 : Nat} {a2 : Group} {a3 : Nat} {a4 : List Nat} {u : State}
    (hW : W &&& 0x400000004 = 0x400000004) (h : Did W s u) : Did W s (sendDown a1 a2 a3 a4 u) := by
  unfold sendDown
  refine did_ite h ?_
  extract_lets z1 z2 z3
  clear_value z1
  clear_value z2
  have hz3 : Did W s z3 := by
    refine did_ite (did_foldl ?_ h) h
    intro x4 x5 h6
    exact sendOn_did (within hW rfl) h6
  clear_value z3
  refine did_foldl ?_ hz3
  intro x7 x8 h9
  refine did_foldl ?_ h9
  intro x10 x11 h12
  exact sendRelay_did (within hW rfl) h12

/-! Power -/

theorem thermalTripEffect_did {W : Nat} {s : State} {a1 : Nat} {a2 : Int} {u : State}
    (hW : W &&& 0x5000000086e = 0x5000000086e) (h : Did W s u) : Did W s (thermalTripEffect a1 a2 u) := by
  unfold thermalTripEffect
  exact did_ite (record_did (within hW rfl) (packageReset_did (within hW rfl) (emit_did (within hW rfl) (did_mk h)))) h

theorem execThermalTrip_did {W : Nat} {s : State} {a1 : Nat} {a2 : Int} {u : State}
    (hW : W &&& 0x5000000086e = 0x5000000086e) (h : Did W s u) : ODid W s (execThermalTrip a1 a2 u) := by
  unfold execThermalTrip
  refine onUnit_odid ?_
  exact thermalTripEffect_did (within hW rfl) h

/-! Start -/

theorem applyConfig_did {W : Nat} {s : State} {u : State}
    (hW : W &&& 0x50000001806 = 0x50000001806) (h : Did W s u) : Did W s (applyConfig u) := by
  unfold applyConfig
  split
  · extract_lets z4
    have hz4 : Did W s z4 := by
      refine did_foldl ?_ h
      intro x5 x6 h7
      exact oset_did (within hW rfl) h7
    clear_value z4
    refine oset_did (within hW rfl) (did_foldl ?_ hz4)
    intro x8 x9 h10
    exact octSet_did (within hW rfl) h10
  · exact clarynEvent_did (within hW rfl) h

theorem strapDefaults_did {W : Nat} {s : State} {u : State}
    (hW : W &&& 0x800 = 0x800) (h : Did W s u) : Did W s (strapDefaults u) := by
  unfold strapDefaults
  extract_lets z1 z2 z3
  clear_value z1
  have hz2 : Did W s z2 := oset_did (within hW rfl) (oset_did (within hW rfl) h)
  clear_value z2
  have hz3 : Did W s z3 := by
    refine did_foldl ?_ hz2
    intro x4 x5 h6
    exact oset_did (within hW rfl) (oset_did (within hW rfl) h6)
  clear_value z3
  exact oset_did (within hW rfl) (oset_did (within hW rfl) hz3)

theorem clarynStart_did {W : Nat} {s : State} {u : State}
    (hW : W &&& 0x7080800186e = 0x7080800186e) (h : Did W s u) : Did W s (clarynStart u) := by
  unfold clarynStart
  extract_lets z1 z2 z3 z4 z5 z6 z7 z8 z9 z10 z11 z12 z13 z14 z15 z16 z17
  clear_value z1
  have hz2 : Did W s z2 := did_mk h
  clear_value z2
  have hz3 : Did W s z3 := applyConfig_did (within hW rfl) (strapDefaults_did (within hW rfl) hz2)
  clear_value z3
  clear_value z4
  clear_value z5
  clear_value z7
  clear_value z8
  clear_value z9
  clear_value z10
  have hz11 : Did W s z11 := did_mk hz3
  clear_value z11
  have hz12 : Did W s z12 := oset_did (within hW rfl) hz11
  clear_value z12
  have hz13 : Did W s z13 := oset_did (within hW rfl) (oset_did (within hW rfl) hz12)
  clear_value z13
  have hz14 : Did W s z14 := oset_did (within hW rfl) hz13
  clear_value z14
  clear_value z15
  have hz16 : Did W s z16 := oset_did (within hW rfl) (did_mk hz14)
  clear_value z16
  have hz17 : Did W s z17 := did_ite hz16 (clarynEvent_did (within hW rfl) hz16)
  clear_value z17
  exact sendHeartbeat_did (within hW rfl) hz17

theorem secureBoot_did {W : Nat} {s : State} {u : State}
    (hW : W &&& 0x7080800186e = 0x7080800186e) (h : Did W s u) : Did W s (secureBoot u) := by
  unfold secureBoot
  extract_lets z1 z2 z3 z4
  clear_value z1
  have hz3 : Did W s z3 := did_mk h
  clear_value z3
  clear_value z4
  split
  · exact hz3
  · extract_lets z10 z11
    clear_value z10
    have hz11 : Did W s z11 := did_mk hz3
    clear_value z11
    exact clarynStart_did (within hW rfl) (oset_did (within hW rfl) (oset_did (within hW rfl) hz11))

/-! Power -/

theorem railFollow_did {W : Nat} {s : State} {a1 : Nat} {u : State}
    (hW : W &&& 0x4 = 0x4) (h : Did W s u) : Did W s (railFollow a1 u) := by
  unfold railFollow
  exact did_ite h (emit_did (within hW rfl) h)

theorem pwrMod_did {W : Nat} {s : State} {a1 : Power → Power} {u : State}
    (hW : W &&& 0x20000000000 = 0x20000000000) (h : Did W s u) : Did W s (pwrMod a1 u) := by
  unfold pwrMod
  exact did_mk h

theorem retarget_did {W : Nat} {s : State} {a1 : Nat} {u : State}
    (hW : W &&& 0x20000000804 = 0x20000000804) (h : Did W s u) : Did W s (retarget a1 u) := by
  unfold retarget
  extract_lets z1
  clear_value z1
  exact did_ite h (did_ite (oset_did (within hW rfl) h) (railFollow_did (within hW rfl) (pwrMod_did (within hW rfl) h)))

theorem powerCapSet_did {W : Nat} {s : State} {a1 : Nat} {u : State}
    (hW : W &&& 0x800 = 0x800) (h : Did W s u) : Did W s (powerCapSet a1 u).2 := by
  unfold powerCapSet
  refine did_ite_of (fun x : (_ × _) => x.2) ?_ ?_
  · exact h
  · refine did_ite_of (fun x : (_ × _) => x.2) ?_ ?_
    · exact h
    · exact oset_did (within hW rfl) h

theorem powerModeSet_did {W : Nat} {s : State} {a1 : Nat} {u : State}
    (hW : W &&& 0x800 = 0x800) (h : Did W s u) : Did W s (powerModeSet a1 u).2 := by
  unfold powerModeSet
  refine did_ite_of (fun x : (_ × _) => x.2) ?_ ?_
  · exact h
  · refine did_ite_of (fun x : (_ × _) => x.2) ?_ ?_
    · exact h
    · exact oset_did (within hW rfl) h

theorem fixedLapsedSet_did {W : Nat} {s : State} {a1 : Nat} {u : State}
    (hW : W &&& 0x800 = 0x800) (h : Did W s u) : Did W s (fixedLapsedSet a1 u).2 := by
  unfold fixedLapsedSet
  refine did_ite_of (fun x : (_ × _) => x.2) ?_ ?_
  · exact oset_did (within hW rfl) h
  · exact h

theorem replanStart_did {W : Nat} {s : State} {u : State}
    (hW : W &&& 0x20000000800 = 0x20000000800) (h : Did W s u) : Did W s (replanStart u) := by
  unfold replanStart
  exact oset_did (within hW rfl) (pwrMod_did (within hW rfl) h)

theorem replanCmdSet_did {W : Nat} {s : State} {a1 : Bool} {u : State}
    (hW : W &&& 0x20000000800 = 0x20000000800) (h : Did W s u) : Did W s (replanCmdSet a1 u) := by
  unfold replanCmdSet
  exact did_ite (replanStart_did (within hW rfl) h) h

/-! Relay -/

theorem slotWrite_did {W : Nat} {s : State} {a1 : Nat} {a2 : Nat} {a3 : W64} {a4 : Bool} {u : State}
    (hW : W &&& 0x4400000 = 0x4400000) (h : Did W s u) : Did W s (slotWrite a1 a2 a3 a4 u) := by
  unfold slotWrite
  extract_lets z1 z2
  clear_value z1
  clear_value z2
  split
  · exact did_ite h (did_ite (did_mk h) (slotPut_did (within hW rfl) h))
  · exact slotPut_did (within hW rfl) h
  · exact slotPut_did (within hW rfl) h
  · exact slotPut_did (within hW rfl) h
  · exact slotPut_did (within hW rfl) h
  · exact slotPut_did (within hW rfl) h
  · exact slotPut_did (within hW rfl) h
  · exact h

theorem gatherCheck_did {W : Nat} {s : State} {a1 : Nat} {a2 : Nat} {u : State}
    (hW : W &&& 0x402000004 = 0x402000004) (h : Did W s u) : Did W s (gatherCheck a1 a2 u) := by
  unfold gatherCheck
  extract_lets z1 z2 z3 z4
  clear_value z1
  clear_value z2
  clear_value z3
  split
  · exact h
  · refine did_ite h ?_
    extract_lets z10
    refine did_ite (did_ite h ?_) (did_ite ?_ h)
    · subst z10
      exact sendRelay_did (within hW rfl) (groupPut_did (within hW rfl) h)
    · subst z10
      exact sendRelay_did (within hW rfl) (groupPut_did (within hW rfl) h)

theorem relayCombineEffect_did {W : Nat} {s : State} {a1 : Nat} {a2 : Nat} {a3 : Nat} {a4 : Nat} {u : State}
    (hW : W &&& 0x402000004 = 0x402000004) (h : Did W s u) : Did W s (relayCombineEffect a1 a2 a3 a4 u) := by
  unfold relayCombineEffect
  extract_lets z1
  clear_value z1
  split
  · exact h
  · refine did_ite h ?_
    split
    · exact h
    · extract_lets z12
      have hz12 : Did W s z12 := groupPut_did (within hW rfl) h
      clear_value z12
      refine gatherCheck_did (within hW rfl) ?_
      split
      · refine did_foldl ?_ hz12
        intro x16 x17 h18
        exact sendRelay_did (within hW rfl) h18
      · exact hz12

theorem execRelayNodeCombine_did {W : Nat} {s : State} {a1 : Nat} {a2 : Nat} {a3 : Nat} {a4 : Nat} {u : State}
    (hW : W &&& 0x402000004 = 0x402000004) (h : Did W s u) : ODid W s (execRelayNodeCombine a1 a2 a3 a4 u) := by
  unfold execRelayNodeCombine
  refine onUnit_odid ?_
  exact relayCombineEffect_did (within hW rfl) h

theorem dropWaiting_did {W : Nat} {s : State} {a1 : Nat} {a2 : Nat} {a3 : Nat} {a4 : Nat} {u : State}
    (hW : W &&& 0x2000000 = 0x2000000) (h : Did W s u) : Did W s (dropWaiting a1 a2 a3 a4 u) := by
  unfold dropWaiting
  extract_lets z1
  clear_value z1
  split
  · exact h
  · exact groupPut_did (within hW rfl) h

/-! Power -/

theorem thermalCd_did {W : Nat} {s : State} {a1 : Nat} {u : State}
    (hW : W &&& 0x20000000802 = 0x20000000802) (h : Did W s u) : Did W s (thermalCd a1 u) := by
  unfold thermalCd
  extract_lets z1 z2 z3
  clear_value z1
  clear_value z2
  refine did_ite (did_ite (bumpObj_did (within hW rfl) ?_) ?_) (did_ite ?_ ?_)
  · subst z3
    exact pwrMod_did (within hW rfl) h
  · subst z3
    exact pwrMod_did (within hW rfl) h
  · subst z3
    exact pwrMod_did (within hW rfl) h
  · subst z3
    exact pwrMod_did (within hW rfl) h

theorem thermalAd_did {W : Nat} {s : State} {a1 : Nat} {u : State}
    (hW : W &&& 0x20000000000 = 0x20000000000) (h : Did W s u) : Did W s (thermalAd a1 u) := by
  unfold thermalAd
  extract_lets z1 z2 z3 z4 z5 z6
  clear_value z1
  clear_value z2
  clear_value z3
  clear_value z4
  clear_value z6
  refine did_ite ?_ (did_ite ?_ ?_)
  · subst z5
    exact pwrMod_did (within hW rfl) h
  · subst z5
    exact pwrMod_did (within hW rfl) h
  · subst z5
    exact pwrMod_did (within hW rfl) h

theorem publishTops_did {W : Nat} {s : State} {u : State}
    (hW : W &&& 0x800 = 0x800) (h : Did W s u) : Did W s (publishTops u) := by
  unfold publishTops
  extract_lets z1
  have hz1 : Did W s z1 := by
    refine did_foldl ?_ h
    intro x2 x3 h4
    exact oset_did (within hW rfl) h4
  clear_value z1
  refine did_foldl ?_ hz1
  intro x5 x6 h7
  exact oset_did (within hW rfl) h7

theorem lapse_did {W : Nat} {s : State} {u : State}
    (hW : W &&& 0x50000000806 = 0x50000000806) (h : Did W s u) : Did W s (lapse u) := by
  unfold lapse
  exact did_ite (clarynEvent_did (within hW rfl) (oset_did (within hW rfl) h)) h

theorem levelsMoved_did {W : Nat} {s : State} {u : State}
    (hW : W &&& 0x70000000806 = 0x70000000806) (h : Did W s u) : Did W s (levelsMoved u) := by
  unfold levelsMoved
  extract_lets z1 z2
  have hz1 : Did W s z1 := by
    refine did_foldl ?_ h
    intro x3 x4 h5
    exact retarget_did (within hW rfl) h5
  clear_value z1
  have hz2 : Did W s z2 := oset_did (within hW rfl) hz1
  clear_value z2
  exact did_ite (lapse_did (within hW rfl) hz2) hz2

theorem thermalStepEffect_did {W : Nat} {s : State} {a1 : List Int} {a2 : List Int} {u : State}
    (hW : W &&& 0x70000000806 = 0x70000000806) (h : Did W s u) : Did W s (thermalStepEffect a1 a2 u) := by
  unfold thermalStepEffect
  refine did_ite h ?_
  extract_lets z1 z2 z3 z4 z5 z6 z7
  clear_value z1
  have hz2 : Did W s z2 := pwrMod_did (within hW rfl) h
  clear_value z2
  have hz3 : Did W s z3 := by
    refine did_foldl ?_ hz2
    intro x8 x9 h10
    exact oset_did (within hW rfl) h10
  clear_value z3
  have hz4 : Did W s z4 := by
    refine did_foldl ?_ hz3
    intro x11 x12 h13
    exact oset_did (within hW rfl) h13
  clear_value z4
  have hz5 : Did W s z5 := by
    refine did_foldl ?_ hz4
    intro x14 x15 h16
    exact thermalCd_did (within hW rfl) h16
  clear_value z5
  have hz6 : Did W s z6 := by
    refine did_foldl ?_ hz5
    intro x17 x18 h19
    exact thermalAd_did (within hW rfl) h19
  clear_value z6
  have hz7 : Did W s z7 := railFollow_did (within hW rfl) (publishTops_did (within hW rfl) hz6)
  clear_value z7
  exact levelsMoved_did (within hW rfl) (did_ite (clarynEvent_did (within hW rfl) hz7) hz7)

theorem replanWant_did {W : Nat} {s : State} {u : State}
    (hW : W &&& 0x20000000800 = 0x20000000800) (h : Did W s u) : Did W s (replanWant u) := by
  unfold replanWant
  exact did_ite (pwrMod_did (within hW rfl) h) (replanStart_did (within hW rfl) h)

theorem lapEffect_did {W : Nat} {s : State} {a1 : Nat} {a2 : Nat} {u : State}
    (hW : W &&& 0x70000000806 = 0x70000000806) (h : Did W s u) : Did W s (lapEffect a1 a2 u) := by
  unfold lapEffect
  refine did_ite h ?_
  extract_lets z1 z2 z3 z4
  clear_value z1
  have hz2 : Did W s z2 := did_ite (pwrMod_did (within hW rfl) h) (pwrMod_did (within hW rfl) h)
  clear_value z2
  have hz3 : Did W s z3 := replanWant_did (within hW rfl) (railFollow_did (within hW rfl) hz2)
  clear_value z3
  have hz4 : Did W s z4 := levelsMoved_did (within hW rfl) hz3
  clear_value z4
  exact clarynEvent_did (within hW rfl) hz4

/-! Start -/

theorem execDieBrownout_did {W : Nat} {s : State} {a1 : Nat} {u : State}
    (hW : W &&& 0x8 = 0x8) (h : Did W s u) : ODid W s (execDieBrownout a1 u) := by
  unfold execDieBrownout
  refine onUnit_odid ?_
  exact onlyIf_did (did_mk h) h

/-! Relay -/

theorem takeEarliest_did {W : Nat} {s : State} {a1 : Nat} {a2 : Nat} {a3 : Nat} {a4 : Nat} {a5 : Nat} {u : State}
    (hW : W &&& 0x2004000 = 0x2004000) (h : Did W s u) : Did W s (takeEarliest a1 a2 a3 a4 a5 u) := by
  unfold takeEarliest
  extract_lets z1 z2 z3
  clear_value z1
  clear_value z2
  clear_value z3
  split
  · exact h
  · split
    · exact h
    · refine did_ite h ?_
      extract_lets z14 z15 z16
      clear_value z14
      clear_value z15
      clear_value z16
      exact setRound_did (within hW rfl) (setRound_did (within hW rfl) (groupPut_did (within hW rfl) h))

theorem acceptNow_did {W : Nat} {s : State} {a1 : Nat} {a2 : Nat} {u : State}
    (hW : W &&& 0x2004000 = 0x2004000) (h : Did W s u) : Did W s (acceptNow a1 a2 u) := by
  unfold acceptNow
  extract_lets z1
  clear_value z1
  split
  · exact h
  · extract_lets z7 z8 z9 z10
    clear_value z7
    clear_value z8
    clear_value z9
    clear_value z10
    split
    · exact h
    · refine did_ite h ?_
      extract_lets z16 z17
      have hz16 : Did W s z16 := groupPut_did (within hW rfl) h
      clear_value z16
      have hz17 : Did W s z17 := tcPut_did (within hW rfl) hz16
      clear_value z17
      exact did_ite (dropWaiting_did (within hW rfl) (dropOp_did (within hW rfl) hz17)) hz17

theorem relayAcceptEffect_did {W : Nat} {s : State} {a1 : Nat} {a2 : Nat} {u : State}
    (hW : W &&& 0x2004000 = 0x2004000) (h : Did W s u) : Did W s (relayAcceptEffect a1 a2 u) := by
  unfold relayAcceptEffect
  split
  · exact h
  · refine did_ite h ?_
    extract_lets z6 z7
    have hz6 : Did W s z6 := takeEarliest_did (within hW rfl) h
    clear_value z6
    have hz7 : Did W s z7 := acceptNow_did (within hW rfl) hz6
    clear_value z7
    exact did_ite h hz7

theorem execRelayContributionAccept_did {W : Nat} {s : State} {a1 : Nat} {a2 : Nat} {u : State}
    (hW : W &&& 0x2004000 = 0x2004000) (h : Did W s u) : ODid W s (execRelayContributionAccept a1 a2 u) := by
  unfold execRelayContributionAccept
  refine onUnit_odid ?_
  exact relayAcceptEffect_did (within hW rfl) h

theorem execKeyChkUpdate_did {W : Nat} {s : State} {a1 : Nat} {u : State}
    (hW : W &&& 0x4000000 = 0x4000000) (h : Did W s u) : ODid W s (execKeyChkUpdate a1 u) := by
  unfold execKeyChkUpdate
  refine onUnit_odid ?_
  exact slotPut_did (within hW rfl) h

/-! Power -/

theorem shares_did {W : Nat} {s : State} {a1 : List Nat} {a2 : Nat} {u : State}
    (hW : W &&& 0x2 = 0x2) (h : Did W s u) : Did W s (shares a1 a2 u).2 := by
  induction a1 generalizing a2 u with
  | nil => exact h
  | cons w r ih =>
    cases r with
    | nil => exact h
    | cons w' r => exact ih (drawFree_did (within hW rfl) h)

theorem watts_did {W : Nat} {s : State} {a1 : Nat} {a2 : Nat} {u : State}
    (hW : W &&& 0x2 = 0x2) (h : Did W s u) : Did W s (watts a1 a2 u).2 := by
  unfold watts
  refine did_ite_of (fun x : (_ × _) => x.2) ?_ ?_
  · exact h
  · split
    · rename_i e1 e2 e3 e4
      have k5 : Did W s e3 := Did.of_eq (congrArg (fun x : (_ × _) => x.2) e4) (drawFree_did (within hW rfl) h)
      exact k5

theorem setWatts_did {W : Nat} {s : State} {a1 : Nat} {a2 : Nat} {a3 : Nat} {a4 : Nat} {a5 : Nat} {u : State}
    (hW : W &&& 0x802 = 0x802) (h : Did W s u) : Did W s (setWatts a1 a2 a3 a4 a5 u) := by
  unfold setWatts
  extract_lets z1
  have hz1 : Did W s z1.2 := watts_did (within hW rfl) h
  clear_value z1
  exact oset_did (within hW rfl) hz1

theorem publishEst_did {W : Nat} {s : State} {a1 : List (Nat × Nat)} {u : State}
    (hW : W &&& 0x802 = 0x802) (h : Did W s u) : Did W s (publishEst a1 u) := by
  unfold publishEst
  refine did_foldl ?_ h
  intro x1 x2 h3
  exact setWatts_did (within hW rfl) h3

theorem estimatorRescaleEffect_did {W : Nat} {s : State} {u : State}
    (hW : W &&& 0x20000000802 = 0x20000000802) (h : Did W s u) : Did W s (estimatorRescaleEffect u) := by
  unfold estimatorRescaleEffect
  refine did_ite h ?_
  extract_lets z1
  have hz1 : Did W s z1.2 := packagePower_did (within hW rfl) h
  clear_value z1
  split
  · rename_i e2 e3 e4 e5
    extract_lets z6
    have hz6 : Did W s z6 := by
      refine pwrMod_did (within hW rfl) ?_
      have k7 : Did W s e4 := Did.of_eq (congrArg (fun x : (_ × _) => x.2) e5) (shares_did (within hW rfl) hz1)
      exact k7
    clear_value z6
    exact publishEst_did (within hW rfl) hz6

theorem execLapSlackCheck_did {W : Nat} {s : State} {a1 : Nat} {a2 : Nat} {u : State}
    (hW : W &&& 0x70000000806 = 0x70000000806) (h : Did W s u) : ODid W s (execLapSlackCheck a1 a2 u) := by
  unfold execLapSlackCheck
  refine onUnit_odid ?_
  exact lapEffect_did (within hW rfl) h

theorem poweredHourEffect_did {W : Nat} {s : State} {u : State}
    (hW : W &&& 0x822 = 0x822) (h : Did W s u) : Did W s (poweredHourEffect u) := by
  unfold poweredHourEffect
  refine did_ite ?_ h
  extract_lets z1 z2
  have hz1 : Did W s z1 := bumpObj_did (within hW rfl) h
  clear_value z1
  exact did_mk hz1

theorem execPoweredHour_did {W : Nat} {s : State} {u : State}
    (hW : W &&& 0x822 = 0x822) (h : Did W s u) : ODid W s (execPoweredHour u) := by
  unfold execPoweredHour
  refine next_odid ?_
  exact poweredHourEffect_did (within hW rfl) h

/-! Relay -/

theorem gatherArrives_did {W : Nat} {s : State} {a1 : Nat} {a2 : Nat} {a3 : Nat} {u : State}
    (hW : W &&& 0x402000004 = 0x402000004) (h : Did W s u) : Did W s (gatherArrives a1 a2 a3 u) := by
  unfold gatherArrives
  extract_lets z1 z2 z3 z4
  clear_value z1
  clear_value z2
  refine did_ite ?_ (gatherCheck_did (within hW rfl) ?_)
  · subst z3
    exact groupPut_did (within hW rfl) h
  · subst z3
    exact groupPut_did (within hW rfl) h

/-! Power -/

theorem estimatesRead_did {W : Nat} {s : State} {a1 : List Nat} {u : State}
    (hW : W &&& 0x20000000802 = 0x20000000802) (h : Did W s u) : Did W s (estimatesRead a1 u) := by
  unfold estimatesRead
  extract_lets z1
  clear_value z1
  exact publishEst_did (within hW rfl) (pwrMod_did (within hW rfl) h)

theorem fastEngageEffect_did {W : Nat} {s : State} {a1 : List Nat} {u : State}
    (hW : W &&& 0x70000000806 = 0x70000000806) (h : Did W s u) : Did W s (fastEngageEffect a1 u) := by
  unfold fastEngageEffect
  refine did_ite ?_ h
  extract_lets z1
  have hz1 : Did W s z1 := estimatesRead_did (within hW rfl) h
  exact did_ite (levelsMoved_did (within hW rfl) (lapse_did (within hW rfl) (bumpObj_did (within hW rfl) (pwrMod_did (within hW rfl) hz1)))) hz1

theorem execFastLimiterEngage_did {W : Nat} {s : State} {a1 : List Nat} {u : State}
    (hW : W &&& 0x70000000806 = 0x70000000806) (h : Did W s u) : ODid W s (execFastLimiterEngage a1 u) := by
  unfold execFastLimiterEngage
  refine next_odid ?_
  exact fastEngageEffect_did (within hW rfl) h

/-! Start -/

theorem execBootCopyComplete_did {W : Nat} {s : State} {a1 : Nat} {u : State}
    (hW : W &&& 0x4204000086c = 0x4204000086c) (h : Did W s u) : ODid W s (execBootCopyComplete a1 u) := by
  unfold execBootCopyComplete
  refine next_odid ?_
  exact bootCopyCompleteEffect_did (within hW rfl) h

theorem hbmZeroCompleteEffect_did {W : Nat} {s : State} {u : State}
    (hW : W &&& 0x6c000000c = 0x6c000000c) (h : Did W s u) : Did W s (hbmZeroCompleteEffect u) := by
  unfold hbmZeroCompleteEffect
  refine did_ite h ?_
  extract_lets z1 z2 z3 z4 z5
  have hz1 : Did W s z1 := by
    refine did_mk h (khbm := ?hbm) (kmem := off hW rfl)
    (exact fun _ => twf_nil _)
  clear_value z1
  have hz2 : Did W s z2 := by
    refine did_foldl ?_ hz1
    intro x6 x7 h8
    exact did_ite (mdPut_did (within hW rfl) h8) h8
  clear_value z2
  have hz3 : Did W s z3 := by
    refine did_foldl ?_ hz2
    intro x9 x10 h11
    exact did_ite h11 (portPut_did (within hW rfl) h11)
  clear_value z3
  have hz4 : Did W s z4 := by
    refine did_foldl ?_ hz3
    intro x12 x13 h14
    exact did_ite (emit_did (within hW rfl) h14) h14
  clear_value z4
  clear_value z5
  exact did_mk hz4

theorem execHbmZeroComplete_did {W : Nat} {s : State} {u : State}
    (hW : W &&& 0x6c000000c = 0x6c000000c) (h : Did W s u) : ODid W s (execHbmZeroComplete u) := by
  unfold execHbmZeroComplete
  refine next_odid ?_
  exact hbmZeroCompleteEffect_did (within hW rfl) h

/-! Power -/

theorem supplyGuard_did {W : Nat} {s : State} {a1 : Nat × Nat} {u : State}
    (hW : W &&& 0x70000000806 = 0x70000000806) (h : Did W s u) : Did W s (supplyGuard a1 u) := by
  unfold supplyGuard
  refine did_ite ?_ (pwrMod_did (within hW rfl) h)
  extract_lets z1
  have hz1 : Did W s z1 := did_ite h (lapse_did (within hW rfl) (bumpObj_did (within hW rfl) h))
  clear_value z1
  exact pwrMod_did (within hW rfl) hz1

theorem planPoint_did {W : Nat} {s : State} {a1 : Nat} {u : State} {a3 : Nat × Nat × Nat}
    (hW : W &&& 0x20000000000 = 0x20000000000) (h : Did W s u) : Did W s (planPoint a1 u a3) := by
  unfold planPoint
  extract_lets z1
  clear_value z1
  exact pwrMod_did (within hW rfl) h

theorem marginHours_did {W : Nat} {s : State} {a1 : List (Nat × Int)} {a2 : Nat} {u : State}
    (hW : W &&& 0x2 = 0x2) (h : Did W s u) : Did W s (marginHours a1 a2 u).2 := by
  unfold marginHours
  extract_lets z1 z2 z3 z4 z5 z6 z7 z8 z9
  clear_value z1
  clear_value z2
  clear_value z3
  clear_value z4
  clear_value z5
  clear_value z6
  clear_value z7
  clear_value z8
  clear_value z9
  refine did_ite_of (fun x : (_ × _) => x.2) ?_ ?_
  · exact h
  · split
    · rename_i e10 e11 e12 e13
      refine did_ite_of (fun x : (_ × _) => x.2) ?_ ?_
      · have k14 : Did W s e12 := Did.of_eq (congrArg (fun x : (_ × _) => x.2) e13) (drawFree_did (within hW rfl) h)
        exact k14
      · refine did_ite_of (fun x : (_ × _) => x.2) ?_ ?_
        · exact h
        · have k15 : Did W s e12 := Did.of_eq (congrArg (fun x : (_ × _) => x.2) e13) (drawFree_did (within hW rfl) h)
          exact k15

theorem marginsOf_did {W : Nat} {s : State} {a1 : Nat} {a2 : Int} {u : State}
    (hW : W &&& 0x822 = 0x822) (h : Did W s u) : Did W s (marginsOf a1 a2 u) := by
  unfold marginsOf
  extract_lets z1 z2 z3 z4 z5 z6 z7
  clear_value z1
  have hz6 : Did W s z6 := oset_did (within hW rfl) (did_mk h)
  clear_value z6
  have hz7 : Did W s z7.2 := marginHours_did (within hW rfl) hz6
  clear_value z7
  exact did_ite (oset_did (within hW rfl) hz7) hz6

theorem fixedMargin_did {W : Nat} {s : State} {u : State} {a2 : Nat × Int}
    (hW : W &&& 0x50000000826 = 0x50000000826) (h : Did W s u) : Did W s (fixedMargin u a2) := by
  unfold fixedMargin
  extract_lets z1 z2 z3
  clear_value z1
  clear_value z2
  have hz3 : Did W s z3 := marginsOf_did (within hW rfl) h
  clear_value z3
  exact did_ite (clarynEvent_did (within hW rfl) hz3) hz3

theorem retop_did {W : Nat} {s : State} {a1 : Tab Nat} {u : State} {a3 : Nat}
    (hW : W &&& 0x70000000806 = 0x70000000806) (h : Did W s u) : Did W s (retop a1 u a3) := by
  unfold retop
  extract_lets z1 z2
  clear_value z1
  have hz2 : Did W s z2 := pwrMod_did (within hW rfl) h
  clear_value z2
  exact did_ite (clarynEvent_did (within hW rfl) hz2) hz2

theorem replanCompleteEffect_did {W : Nat} {s : State} {a1 : List (Nat × Nat × Nat)} {a2 : List (Nat × Int)} {u : State}
    (hW : W &&& 0x70000000826 = 0x70000000826) (h : Did W s u) : Did W s (replanCompleteEffect a1 a2 u) := by
  unfold replanCompleteEffect
  refine did_ite h ?_
  extract_lets z1 z2 z3 z4 z5 z6 z7 z8 z9 z10 z11 z12 z13
  clear_value z1
  clear_value z2
  clear_value z3
  have hz5 : Did W s z5 := by
    refine did_foldl ?_ h
    intro x14 x15 h16
    exact planPoint_did (within hW rfl) h16
  clear_value z5
  have hz7 : Did W s z7 := did_mk hz5
  clear_value z7
  have hz8 : Did W s z8 := oset_did (within hW rfl) hz7
  clear_value z8
  have hz9 : Did W s z9 := by
    refine did_foldl ?_ hz8
    intro x17 x18 h19
    split
    · exact marginsOf_did (within hW rfl) h19
    · exact h19
  clear_value z9
  have hz10 : Did W s z10 := by
    refine did_foldl ?_ hz9
    intro x25 x26 h27
    exact fixedMargin_did (within hW rfl) h27
  clear_value z10
  have hz11 : Did W s z11 := pwrMod_did (within hW rfl) hz10
  clear_value z11
  have hz12 : Did W s z12 := by
    refine publishTops_did (within hW rfl) (did_foldl ?_ hz11)
    intro x28 x29 h30
    exact retop_did (within hW rfl) h30
  clear_value z12
  have hz13 : Did W s z13 := levelsMoved_did (within hW rfl) (railFollow_did (within hW rfl) (oset_did (within hW rfl) hz12))
  clear_value z13
  exact did_ite (replanStart_did (within hW rfl) (pwrMod_did (within hW rfl) hz13)) hz13

/-! Start -/

theorem pwrGoodAssertEffect_did {W : Nat} {s : State} {a1 : Bool} {u : State}
    (hW : W &&& 0x8 = 0x8) (h : Did W s u) : Did W s (pwrGoodAssertEffect a1 u) := by
  unfold pwrGoodAssertEffect
  exact did_ite (did_mk h) h

theorem execPwrGoodAssert_did {W : Nat} {s : State} {a1 : Bool} {u : State}
    (hW : W &&& 0x8 = 0x8) (h : Did W s u) : ODid W s (execPwrGoodAssert a1 u) := by
  unfold execPwrGoodAssert
  refine next_odid ?_
  exact pwrGoodAssertEffect_did (within hW rfl) h

/-! Power -/

theorem regulatorTimeoutEffect_did {W : Nat} {s : State} {a1 : Nat} {u : State}
    (hW : W &&& 0x70000000806 = 0x70000000806) (h : Did W s u) : Did W s (regulatorTimeoutEffect a1 u) := by
  unfold regulatorTimeoutEffect
  exact did_ite (clarynEvent_did (within hW rfl) (pwrMod_did (within hW rfl) h)) h

/-! Start -/

theorem sendProbes_did {W : Nat} {s : State} {a1 : Nat} {u : State}
    (hW : W &&& 0xc = 0xc) (h : Did W s u) : Did W s (sendProbes a1 u) := by
  unfold sendProbes
  extract_lets z1 z2 z3 z4
  clear_value z1
  clear_value z2
  clear_value z3
  clear_value z4
  exact emit_did (within hW rfl) (emit_did (within hW rfl) (did_mk h))

theorem linkTrainingEffect_did {W : Nat} {s : State} {a1 : Nat} {a2 : List Nat} {a3 : List Nat} {u : State}
    (hW : W &&& 0x10c = 0x10c) (h : Did W s u) : Did W s (linkTrainingEffect a1 a2 a3 u) := by
  unfold linkTrainingEffect
  extract_lets z1 z2 z3 z4 z5
  clear_value z1
  clear_value z2
  clear_value z3
  clear_value z4
  have hz5 : Did W s z5 := linkPut_did (within hW rfl) h
  clear_value z5
  refine did_ite h ?_
  split
  · exact did_ite (did_mk h) (sendProbes_did (within hW rfl) (did_mk h))
  · exact did_ite hz5 (sendProbes_did (within hW rfl) hz5)

/-! Power -/

theorem setLevel_did {W : Nat} {s : State} {a1 : Nat} {u : State}
    (hW : W &&& 0x70000000806 = 0x70000000806) (h : Did W s u) : Did W s (setLevel a1 u) := by
  unfold setLevel
  extract_lets z1 z2
  clear_value z1
  have hz2 : Did W s z2 := oset_did (within hW rfl) (pwrMod_did (within hW rfl) h)
  clear_value z2
  exact did_ite (clarynEvent_did (within hW rfl) (oset_did (within hW rfl) hz2)) hz2

theorem capStep_did {W : Nat} {s : State} {a1 : Nat × Nat} {a2 : Nat × Nat} {u : State}
    (hW : W &&& 0x70000000806 = 0x70000000806) (h : Did W s u) : Did W s (capStep a1 a2 u) := by
  unfold capStep
  extract_lets z1 z2
  clear_value z1
  clear_value z2
  exact did_ite (did_ite (setLevel_did (within hW rfl) h) (did_ite (clarynEvent_did (within hW rfl) (oset_did (within hW rfl) h)) h)) (did_ite (setLevel_did (within hW rfl) (pwrMod_did (within hW rfl) h)) h)

theorem capControlEffect_did {W : Nat} {s : State} {u : State}
    (hW : W &&& 0x70000000806 = 0x70000000806) (h : Did W s u) : Did W s (capControlEffect u) := by
  unfold capControlEffect
  refine did_ite h ?_
  extract_lets z1 z2 z3 z4 z5
  clear_value z1
  clear_value z2
  have hz3 : Did W s z3 := pwrMod_did (within hW rfl) h
  clear_value z3
  have hz4 : Did W s z4 := setWatts_did (within hW rfl) (setWatts_did (within hW rfl) hz3)
  clear_value z4
  have hz5 : Did W s z5 := supplyGuard_did (within hW rfl) hz4
  clear_value z5
  exact levelsMoved_did (within hW rfl) (did_ite (setLevel_did (within hW rfl) hz5) (capStep_did (within hW rfl) hz5))

theorem execCapControlStep_did {W : Nat} {s : State} {u : State}
    (hW : W &&& 0x70000000806 = 0x70000000806) (h : Did W s u) : ODid W s (execCapControlStep u) := by
  unfold execCapControlStep
  refine next_odid ?_
  exact capControlEffect_did (within hW rfl) h

/-! Relay -/

theorem execRelayGroupBind_did {W : Nat} {s : State} {a1 : Nat} {a2 : W64} {u : State}
    (hW : W &&& 0x40240d806 = 0x40240d806) (h : Did W s u) : ODid W s (execRelayGroupBind a1 a2 u) := by
  unfold execRelayGroupBind
  refine onUnit_odid ?_
  exact groupWrite_did (within hW rfl) h

theorem relayRoundEffect_did {W : Nat} {s : State} {a1 : Nat} {u : State}
    (hW : W &&& 0x52ee70cd86e = 0x52ee70cd86e) (h : Did W s u) : Did W s (relayRoundEffect a1 u) := by
  unfold relayRoundEffect
  extract_lets z1
  clear_value z1
  split
  · exact h
  · split
    · exact h
    · refine did_ite h ?_
      extract_lets z12 z13 z14
      clear_value z12
      have hz13 : Did W s z13 := sendDown_did (within hW rfl) h
      clear_value z13
      have hz14 : Did W s z14 := groupPut_did (within hW rfl) hz13
      clear_value z14
      exact did_ite (signalBaton_did (within hW rfl) hz14) hz14

theorem execRelayRoundComplete_did {W : Nat} {s : State} {a1 : Nat} {u : State}
    (hW : W &&& 0x52ee70cd86e = 0x52ee70cd86e) (h : Did W s u) : ODid W s (execRelayRoundComplete a1 u) := by
  unfold execRelayRoundComplete
  refine onUnit_odid ?_
  exact relayRoundEffect_did (within hW rfl) h

/-! Power -/

theorem execPowerCapWrite_did {W : Nat} {s : State} {a1 : Nat} {u : State}
    (hW : W &&& 0x800 = 0x800) (h : Did W s u) : ODid W s (execPowerCapWrite a1 u) := by
  unfold execPowerCapWrite
  refine next_odid ?_
  exact onlyIf_did (powerCapSet_did (within hW rfl) h) h

theorem execPowerModeWrite_did {W : Nat} {s : State} {a1 : Nat} {u : State}
    (hW : W &&& 0x800 = 0x800) (h : Did W s u) : ODid W s (execPowerModeWrite a1 u) := by
  unfold execPowerModeWrite
  refine next_odid ?_
  exact onlyIf_did (powerModeSet_did (within hW rfl) h) h

theorem execThermalStep_did {W : Nat} {s : State} {a1 : List Int} {a2 : List Int} {u : State}
    (hW : W &&& 0x70000000806 = 0x70000000806) (h : Did W s u) : ODid W s (execThermalStep a1 a2 u) := by
  unfold execThermalStep
  refine next_odid ?_
  exact thermalStepEffect_did (within hW rfl) h

/-! Start -/

theorem judgeLink_did {W : Nat} {s : State} {a1 : Nat} {a2 : List (Nat × Nat)} {u : State} {a4 : Nat}
    (hW : W &&& 0x50000000946 = 0x50000000946) (h : Did W s u) : Did W s (judgeLink a1 a2 u a4) := by
  unfold judgeLink
  extract_lets z1 z2 z3 z4 z5 z6
  clear_value z1
  clear_value z2
  clear_value z3
  clear_value z4
  have hz5 : Did W s z5 := linkPut_did (within hW rfl) h
  clear_value z5
  clear_value z6
  exact did_ite (record_did (within hW rfl) hz5) (did_ite (record_did (within hW rfl) hz5) hz5)

theorem execFatalLineAssert_did {W : Nat} {s : State} {a1 : Nat} {a2 : Nat} {a3 : Nat} {u : State}
    (hW : W &&& 0x5000000086e = 0x5000000086e) (h : Did W s u) : ODid W s (execFatalLineAssert a1 a2 a3 u) := by
  unfold execFatalLineAssert
  refine next_odid ?_
  exact onlyIf_did (fatal_did (within hW rfl) h) h

theorem enterHeld_did {W : Nat} {s : State} {a1 : Nat} {u : State}
    (hW : W &&& 0x5000000084e = 0x5000000084e) (h : Did W s u) : Did W s (enterHeld a1 u) := by
  unfold enterHeld
  extract_lets z1 z2 z3
  have hz1 : Did W s z1 := record_did (within hW rfl) h
  clear_value z1
  clear_value z2
  clear_value z3
  exact did_mk hz1

/-! Power -/

theorem execEstimatorRescale_did {W : Nat} {s : State} {u : State}
    (hW : W &&& 0x20000000802 = 0x20000000802) (h : Did W s u) : ODid W s (execEstimatorRescale u) := by
  unfold execEstimatorRescale
  refine next_odid ?_
  exact estimatorRescaleEffect_did (within hW rfl) h

theorem opChangeEffect_did {W : Nat} {s : State} {a1 : Nat} {u : State}
    (hW : W &&& 0x20000000804 = 0x20000000804) (h : Did W s u) : Did W s (opChangeEffect a1 u) := by
  unfold opChangeEffect
  split
  · exact h
  · extract_lets z6 z7
    clear_value z6
    have hz7 : Did W s z7 := railFollow_did (within hW rfl) (pwrMod_did (within hW rfl) h)
    clear_value z7
    exact retarget_did (within hW rfl) (did_ite hz7 (oset_did (within hW rfl) hz7))

/-! Start -/

theorem execSelfTestComplete_did {W : Nat} {s : State} {a1 : Nat} {a2 : Bool} {u : State}
    (hW : W &&& 0x8 = 0x8) (h : Did W s u) : ODid W s (execSelfTestComplete a1 a2 u) := by
  unfold execSelfTestComplete
  refine onUnit_odid ?_
  exact onlyIf_did (did_mk h) h

theorem execLinkTrainingComplete_did {W : Nat} {s : State} {a1 : Nat} {a2 : List Nat} {a3 : List Nat} {u : State}
    (hW : W &&& 0x10c = 0x10c) (h : Did W s u) : ODid W s (execLinkTrainingComplete a1 a2 a3 u) := by
  unfold execLinkTrainingComplete
  refine onUnit_odid ?_
  exact linkTrainingEffect_did (within hW rfl) h

theorem applyPlan_did {W : Nat} {s : State} {u : State}
    (hW : W &&& 0x20000000800 = 0x20000000800) (h : Did W s u) : Did W s (applyPlan u) := by
  unfold applyPlan
  extract_lets z1 z2
  clear_value z1
  have hz2 : Did W s z2 := did_mk h
  clear_value z2
  refine did_foldl ?_ hz2
  intro x3 x4 h5
  refine did_ite ?_ h5
  extract_lets z6 z7
  clear_value z6
  have hz7 : Did W s z7 := oset_did (within hW rfl) (did_mk h5)
  clear_value z7
  exact oset_did (within hW rfl) hz7

theorem startPower_did {W : Nat} {s : State} {u : State}
    (hW : W &&& 0x3000800080e = 0x3000800080e) (h : Did W s u) : Did W s (startPower u) := by
  unfold startPower
  extract_lets z1 z2 z3 z4 z5 z6
  clear_value z1
  clear_value z2
  have hz3 : Did W s z3 := did_mk h
  clear_value z3
  clear_value z4
  have hz5 : Did W s z5 := did_ite (scRaise_did (within hW rfl) (did_mk hz3)) hz3
  clear_value z5
  have hz6 : Did W s z6 := applyPlan_did (within hW rfl) hz5
  clear_value z6
  exact emit_did (within hW rfl) hz6

theorem execFatalReportTimeout_did {W : Nat} {s : State} {a1 : Nat} {a2 : Nat} {a3 : Nat} {a4 : Nat} {u : State}
    (hW : W &&& 0x5000000086e = 0x5000000086e) (h : Did W s u) : ODid W s (execFatalReportTimeout a1 a2 a3 a4 u) := by
  unfold execFatalReportTimeout
  refine onUnit_odid ?_
  exact onlyIf_did (fatal_did (within hW rfl) h) h

theorem execResetHoldEnd_did {W : Nat} {s : State} {a1 : Bool} {u : State}
    (hW : W &&& 0x8 = 0x8) (h : Did W s u) : ODid W s (execResetHoldEnd a1 u) := by
  unfold execResetHoldEnd
  refine next_odid ?_
  exact onlyIf_did (did_mk h) h

/-! Relay -/

theorem execRelayGroupStart_did {W : Nat} {s : State} {a1 : Nat} {a2 : W64} {u : State}
    (hW : W &&& 0x40240d806 = 0x40240d806) (h : Did W s u) : ODid W s (execRelayGroupStart a1 a2 u) := by
  unfold execRelayGroupStart
  refine onUnit_odid ?_
  exact onlyIf_did (groupWrite_did (within hW rfl) h) h

theorem execRelayGroupEntryWrite_did {W : Nat} {s : State} {a1 : Nat} {a2 : Nat} {a3 : W64} {u : State}
    (hW : W &&& 0x40240d806 = 0x40240d806) (h : Did W s u) : ODid W s (execRelayGroupEntryWrite a1 a2 a3 u) := by
  unfold execRelayGroupEntryWrite
  refine onUnit_odid ?_
  exact onlyIf_did (groupWrite_did (within hW rfl) h) h

theorem relayDeliverEffect_did {W : Nat} {s : State} {a1 : Nat} {a2 : Nat} {u : State}
    (hW : W &&& 0x2004000 = 0x2004000) (h : Did W s u) : Did W s (relayDeliverEffect a1 a2 u) := by
  unfold relayDeliverEffect
  extract_lets z1
  clear_value z1
  split
  · exact h
  · extract_lets z7 z8 z9
    clear_value z7
    clear_value z8
    clear_value z9
    split
    · exact h
    · split
      · exact h
      · refine did_ite h ?_
        extract_lets z20
        have hz20 : Did W s z20 := did_ite (tcPut_did (within hW rfl) h) h
        clear_value z20
        exact dropWaiting_did (within hW rfl) (dropOp_did (within hW rfl) hz20)

theorem execRelayResultDeliver_did {W : Nat} {s : State} {a1 : Nat} {a2 : Nat} {u : State}
    (hW : W &&& 0x2004000 = 0x2004000) (h : Did W s u) : ODid W s (execRelayResultDeliver a1 a2 u) := by
  unfold execRelayResultDeliver
  refine onUnit_odid ?_
  exact relayDeliverEffect_did (within hW rfl) h

theorem execSqKeyWrite_did {W : Nat} {s : State} {a1 : Nat} {a2 : Bool} {a3 : W64} {u : State}
    (hW : W &&& 0x4400000 = 0x4400000) (h : Did W s u) : ODid W s (execSqKeyWrite a1 a2 a3 u) := by
  unfold execSqKeyWrite
  refine onUnit_odid ?_
  exact slotWrite_did (within hW rfl) h

theorem execSqBind_did {W : Nat} {s : State} {a1 : Nat} {a2 : W64} {u : State}
    (hW : W &&& 0x4400000 = 0x4400000) (h : Did W s u) : ODid W s (execSqBind a1 a2 u) := by
  unfold execSqBind
  refine onUnit_odid ?_
  exact slotWrite_did (within hW rfl) h

/-! Power -/

theorem railReadEffect_did {W : Nat} {s : State} {a1 : List Nat} {u : State}
    (hW : W &&& 0x20000000002 = 0x20000000002) (h : Did W s u) : Did W s (railReadEffect a1 u) := by
  unfold railReadEffect
  refine did_ite ?_ h
  extract_lets z1
  have hz1 : Did W s z1.2 := packagePower_did (within hW rfl) (pwrMod_did (within hW rfl) h)
  clear_value z1
  exact pwrMod_did (within hW rfl) hz1

theorem execRailPowerRead_did {W : Nat} {s : State} {a1 : List Nat} {u : State}
    (hW : W &&& 0x20000000002 = 0x20000000002) (h : Did W s u) : ODid W s (execRailPowerRead a1 u) := by
  unfold execRailPowerRead
  refine next_odid ?_
  exact railReadEffect_did (within hW rfl) h

theorem execOpChangeComplete_did {W : Nat} {s : State} {a1 : Nat} {u : State}
    (hW : W &&& 0x20000000804 = 0x20000000804) (h : Did W s u) : ODid W s (execOpChangeComplete a1 u) := by
  unfold execOpChangeComplete
  refine onUnit_odid ?_
  exact onlyIf_did (opChangeEffect_did (within hW rfl) h) h

theorem execReplanCmd_did {W : Nat} {s : State} {a1 : Bool} {u : State}
    (hW : W &&& 0x20000000800 = 0x20000000800) (h : Did W s u) : ODid W s (execReplanCmd a1 u) := by
  unfold execReplanCmd
  refine next_odid ?_
  exact onlyIf_did (replanCmdSet_did (within hW rfl) h) h

theorem execRegulatorTimeout_did {W : Nat} {s : State} {a1 : Nat} {u : State}
    (hW : W &&& 0x70000000806 = 0x70000000806) (h : Did W s u) : ODid W s (execRegulatorTimeout a1 u) := by
  unfold execRegulatorTimeout
  refine onUnit_odid ?_
  exact regulatorTimeoutEffect_did (within hW rfl) h

theorem execReplanComplete_did {W : Nat} {s : State} {a1 : List (Nat × Nat × Nat)} {a2 : List (Nat × Int)} {u : State}
    (hW : W &&& 0x70000000826 = 0x70000000826) (h : Did W s u) : ODid W s (execReplanComplete a1 a2 u) := by
  unfold execReplanComplete
  refine next_odid ?_
  exact replanCompleteEffect_did (within hW rfl) h

/-! Start -/

theorem execStartThermalClear_did {W : Nat} {s : State} {u : State}
    (hW : W &&& 0x8 = 0x8) (h : Did W s u) : ODid W s (execStartThermalClear u) := by
  unfold execStartThermalClear
  refine next_odid ?_
  exact onlyIf_did (did_mk h) h

theorem execDiscoveryRequest_did {W : Nat} {s : State} {u : State}
    (hW : W &&& 0xc = 0xc) (h : Did W s u) : ODid W s (execDiscoveryRequest u) := by
  unfold execDiscoveryRequest
  refine next_odid ?_
  exact onlyIf_did (emit_did (within hW rfl) (did_mk h)) h

theorem execStartFailTimeout_did {W : Nat} {s : State} {u : State}
    (hW : W &&& 0x8 = 0x8) (h : Did W s u) : ODid W s (execStartFailTimeout u) := by
  unfold execStartFailTimeout
  refine next_odid ?_
  exact onlyIf_did (did_mk h) h

/-! Power -/

theorem execFastLimiterRelease_did {W : Nat} {s : State} {u : State}
    (hW : W &&& 0x70000000806 = 0x70000000806) (h : Did W s u) : ODid W s (execFastLimiterRelease u) := by
  unfold execFastLimiterRelease
  refine next_odid ?_
  exact onlyIf_did (levelsMoved_did (within hW rfl) (pwrMod_did (within hW rfl) h)) h

theorem execSupplyGuardRelease_did {W : Nat} {s : State} {u : State}
    (hW : W &&& 0x70000000806 = 0x70000000806) (h : Did W s u) : ODid W s (execSupplyGuardRelease u) := by
  unfold execSupplyGuardRelease
  refine next_odid ?_
  exact onlyIf_did (levelsMoved_did (within hW rfl) (pwrMod_did (within hW rfl) h)) h

theorem execReplanTimer_did {W : Nat} {s : State} {u : State}
    (hW : W &&& 0x20000000800 = 0x20000000800) (h : Did W s u) : ODid W s (execReplanTimer u) := by
  unfold execReplanTimer
  refine next_odid ?_
  exact onlyIf_did (replanStart_did (within hW rfl) h) h

end Sys2Proof.Machine
end

