-- ==== Sys2Proof/Laws/DidClaryn.lean ====
section
/-! SUPPORT. What each operation of these units can do, one lemma for each: Claryn, remote commands, submission, the Eclipse, PCIe. -/

-- one theorem after the other: a thread for each of hundreds of small theorems takes more memory than the check allows
set_option Elab.async false

set_option linter.all false

namespace Sys2Proof.Machine

open Sys2Proof

/-! Claryn -/

theorem claMod_did {W : Nat} {s : State} {a1 : Claryn → Claryn} {u : State}
    (hW : W &&& 0x40000000000 = 0x40000000000) (h : Did W s u) : Did W s (claMod a1 u) := by
  unfold claMod
  exact did_mk h

theorem dropSess_did {W : Nat} {s : State} {a1 : Via} {u : State}
    (hW : W &&& 0x40000000000 = 0x40000000000) (h : Did W s u) : Did W s (dropSess a1 u) := by
  unfold dropSess
  exact claMod_did (within hW rfl) h

/-! Remote -/

theorem setMark_did {W : Nat} {s : State} {a1 : Nat} {a2 : Nat} {u : State}
    (hW : W &&& 0x800000000 = 0x800000000) (h : Did W s u) : Did W s (setMark a1 a2 u) := by
  unfold setMark
  extract_lets z1 z2
  clear_value z1
  clear_value z2
  exact did_mk h

theorem rqDisable_did {W : Nat} {s : State} {a1 : Nat} {u : State}
    (hW : W &&& 0x1000000000 = 0x1000000000) (h : Did W s u) : Did W s (rqDisable a1 u) := by
  unfold rqDisable
  refine did_foldl ?_ h
  intro x1 x2 h3
  exact rqPut_did (within hW rfl) h3

/-! Submit -/

theorem teardownDoneEffect_did {W : Nat} {s : State} {a1 : Nat} {u : State}
    (hW : W &&& 0x1000340000 = 0x1000340000) (h : Did W s u) : Did W s (teardownDoneEffect a1 u) := by
  unfold teardownDoneEffect
  refine did_ite ?_ h
  extract_lets z1 z2
  clear_value z1
  have hz2 : Did W s z2 := rqDisable_did (within hW rfl) (ctxPut_did (within hW rfl) h)
  clear_value z2
  exact did_ite hz2 (did_mk hz2)

/-! Eclipse -/

theorem eclMarkerEffect_did {W : Nat} {s : State} {a1 : Bool} {a2 : Nat} {a3 : W32} {u : State}
    (hW : W &&& 0x10000000 = 0x10000000) (h : Did W s u) : Did W s (eclMarkerEffect a1 a2 a3 u) := by
  unfold eclMarkerEffect
  split
  · exact h
  · exact did_ite (did_mk h) h

/-! Pcie -/

theorem execEpFlushRead_did {W : Nat} {s : State} {a1 : Nat} {u : State}
    (hW : W &&& 0x4 = 0x4) (h : Did W s u) : ODid W s (execEpFlushRead a1 u) := by
  unfold execEpFlushRead
  refine onUnit_odid ?_
  exact onlyIf_did (emit_did (within hW rfl) h) h

/-! Matrix -/

theorem issueMrd_did {W : Nat} {s : State} {a1 : Nat} {a2 : Nat} {a3 : Nat} {a4 : Nat} {a5 : Nat} {a6 : Nat} {u : State}
    (hW : W &&& 0x4000 = 0x4000) (h : Did W s u) : RDid W s (issueMrd a1 a2 a3 a4 a5 a6 u) := by
  unfold issueMrd
  extract_lets z1 z2 z3 z4 z5 z6 z7 z8 z9 z10 z11
  clear_value z1
  clear_value z2
  clear_value z3
  clear_value z4
  clear_value z5
  clear_value z6
  clear_value z7
  clear_value z8
  clear_value z9
  clear_value z10
  clear_value z11
  refine checked_did ?_
  exact issue_did (within hW rfl) h

/-! Claryn -/

theorem execSegmentSessionTimeout_did {W : Nat} {s : State} {a1 : Via} {u : State}
    (hW : W &&& 0x40000000000 = 0x40000000000) (h : Did W s u) : ODid W s (execSegmentSessionTimeout a1 u) := by
  unfold execSegmentSessionTimeout
  refine next_odid ?_
  exact onlyIf_did (dropSess_did (within hW rfl) h) h

theorem ageBit_did {W : Nat} {s : State} {u : State}
    (hW : W &&& 0x2 = 0x2) (h : Did W s u) : Did W s (ageBit u).2 := by
  unfold ageBit
  refine did_ite_of (fun x : (_ × _) => x.2) ?_ ?_
  · exact h
  · extract_lets z1
    have hz1 : Did W s z1.2 := drawFree_did (within hW rfl) h
    clear_value z1
    exact hz1

theorem sendVia_did {W : Nat} {s : State} {a1 : Via} {a2 : Emit} {u : State}
    (hW : W &&& 0x40000000804 = 0x40000000804) (h : Did W s u) : Did W s (sendVia a1 a2 u) := by
  unfold sendVia
  refine did_ite h ?_
  split
  · exact did_ite (canSent_did (within hW rfl) (emit_did (within hW rfl) h)) h
  · exact did_ite h (emit_did (within hW rfl) h)
  · exact h

theorem keep_did {W : Nat} {s : State} {a1 : Kept} {u : State}
    (hW : W &&& 0x40000000002 = 0x40000000002) (h : Did W s u) : Did W s (keep a1 u) := by
  unfold keep
  extract_lets z1
  clear_value z1
  refine did_ite (claMod_did (within hW rfl) h) ?_
  split
  · rename_i e2 e3 e4 e5
    refine claMod_did (within hW rfl) ?_
    have k6 : Did W s e4 := Did.of_eq (congrArg (fun x : (_ × _) => x.2) e5) (drawFree_did (within hW rfl) h)
    exact k6

theorem discardSess_did {W : Nat} {s : State} {a1 : Via} {u : State}
    (hW : W &&& 0x40000000000 = 0x40000000000) (h : Did W s u) : Did W s (discardSess a1 u) := by
  unfold discardSess
  split
  · extract_lets z4
    have hz4 : Did W s z4 := dropSess_did (within hW rfl) h
    clear_value z4
    exact did_ite (claMod_did (within hW rfl) hz4) hz4
  · exact h

theorem putSess_did {W : Nat} {s : State} {a1 : Sess} {u : State}
    (hW : W &&& 0x40000000000 = 0x40000000000) (h : Did W s u) : Did W s (putSess a1 u) := by
  unfold putSess
  exact claMod_did (within hW rfl) h

theorem openSess_did {W : Nat} {s : State} {a1 : Via} {a2 : Msg} {a3 : Row} {u : State}
    (hW : W &&& 0x40000000000 = 0x40000000000) (h : Did W s u) : Did W s (openSess a1 a2 a3 u).2 := by
  unfold openSess
  extract_lets z1 z2 z3 z4
  clear_value z1
  clear_value z2
  have hz3 : Did W s z3 := claMod_did (within hW rfl) (discardSess_did (within hW rfl) h)
  clear_value z3
  clear_value z4
  refine did_ite_of (fun x : (_ × _) => x.2) ?_ ?_
  · exact h
  · refine did_ite_of (fun x : (_ × _) => x.2) ?_ ?_
    · exact h
    · exact putSess_did (within hW rfl) hz3

theorem mboxPut_did {W : Nat} {s : State} {a1 : Nat} {a2 : Mbox} {u : State}
    (hW : W &&& 0x40000000000 = 0x40000000000) (h : Did W s u) : Did W s (mboxPut a1 a2 u) := by
  unfold mboxPut
  exact claMod_did (within hW rfl) h

theorem mailReply_did {W : Nat} {s : State} {a1 : Nat} {a2 : List Byte} {u : State}
    (hW : W &&& 0x50000000002 = 0x50000000002) (h : Did W s u) : Did W s (mailReply a1 a2 u) := by
  unfold mailReply
  extract_lets z1 z2 z3
  clear_value z1
  have hz2 : Did W s z2 := mboxPut_did (within hW rfl) h
  clear_value z2
  clear_value z3
  exact did_ite hz2 (scRaise_did (within hW rfl) hz2)

theorem sendReply_did {W : Nat} {s : State} {a1 : Via} {a2 : Msg} {a3 : Reply} {u : State}
    (hW : W &&& 0x50000000806 = 0x50000000806) (h : Did W s u) : Did W s (sendReply a1 a2 a3 u) := by
  unfold sendReply
  split
  · exact did_ite h (mailReply_did (within hW rfl) h)
  · exact sendVia_did (within hW rfl) h

/-! Remote -/

theorem rqMod_did {W : Nat} {s : State} {a1 : Nat} {a2 : W32} {a3 : RCmd → RCmd} {u : State}
    (hW : W &&& 0x1000000000 = 0x1000000000) (h : Did W s u) : Did W s (rqMod a1 a2 a3 u) := by
  unfold rqMod
  extract_lets z1
  clear_value z1
  exact rqPut_did (within hW rfl) h

theorem rqNote_did {W : Nat} {s : State} {a1 : Nat} {a2 : W32} {a3 : Nat} {a4 : Nat} {u : State}
    (hW : W &&& 0x1000000000 = 0x1000000000) (h : Did W s u) : Did W s (rqNote a1 a2 a3 a4 u) := by
  unfold rqNote
  exact rqMod_did (within hW rfl) h

/-! Eclipse -/

theorem shadowBaton_did {W : Nat} {s : State} {a1 : Nat} {a2 : Nat} {a3 : W32} {u : State}
    (hW : W &&& 0x10000000 = 0x10000000) (h : Did W s u) : Did W s (shadowBaton a1 a2 a3 u) := by
  unfold shadowBaton
  split
  · exact h
  · exact did_ite (did_mk h) h

/-! Remote -/

theorem settlePacket_did {W : Nat} {s : State} {a1 : Pend} {u : State}
    (hW : W &&& 0x1c00000004 = 0x1c00000004) (h : Did W s u) : Did W s (settlePacket a1 u) := by
  unfold settlePacket
  exact rqMod_did (within hW rfl) (dropPend_did (within hW rfl) h)

/-! Claryn -/

theorem arriveMsg_did {W : Nat} {s : State} {a1 : Via} {a2 : List Byte} {u : State}
    (hW : W &&& 0x40000000802 = 0x40000000802) (h : Did W s u) : Did W s (arriveMsg a1 a2 u) := by
  unfold arriveMsg
  extract_lets z1
  refine did_ite (claMod_did (within hW rfl) h) ?_
  split
  · exact did_ite (claMod_did (within hW rfl) h) h
  · exact bumpObj_did (within hW rfl) h
  · exact claMod_did (within hW rfl) h

theorem udpEffect_did {W : Nat} {s : State} {a1 : Nat} {a2 : Nat} {a3 : List Byte} {u : State}
    (hW : W &&& 0x40000000802 = 0x40000000802) (h : Did W s u) : Did W s (udpEffect a1 a2 a3 u) := by
  unfold udpEffect
  exact did_ite h (did_ite (bumpObj_did (within hW rfl) h) (arriveMsg_did (within hW rfl) h))

theorem execUdpDatagram_did {W : Nat} {s : State} {a1 : Nat} {a2 : Nat} {a3 : List Byte} {u : State}
    (hW : W &&& 0x40000000802 = 0x40000000802) (h : Did W s u) : ODid W s (execUdpDatagram a1 a2 a3 u) := by
  unfold execUdpDatagram
  refine next_odid ?_
  exact udpEffect_did (within hW rfl) h

/-! Submit -/

theorem clearGroup_did {W : Nat} {s : State} {a1 : Nat} {u : State}
    (hW : W &&& 0x40200c004 = 0x40200c004) (h : Did W s u) : Did W s (clearGroup a1 u) := by
  unfold clearGroup
  extract_lets z1 z2
  have hz1 : Did W s z1 := relayAbort_did (within hW rfl) h
  clear_value z1
  clear_value z2
  exact groupPut_did (within hW rfl) hz1

theorem teardownItem_did {W : Nat} {s : State} {a1 : Nat} {a2 : Nat} {u : State}
    (hW : W &&& 0x52ee50cd86e = 0x52ee50cd86e) (h : Did W s u) : Did W s (teardownItem a1 a2 u) := by
  unfold teardownItem
  split
  · exact h
  · exact did_ite h (did_ite (stopItem_did (within hW rfl) h) (complete_did (within hW rfl) h))

/-! Remote -/

theorem parkRq_did {W : Nat} {s : State} {a1 : Nat} {a2 : Nat} {a3 : W32} {u : State}
    (hW : W &&& 0x11000000002 = 0x11000000002) (h : Did W s u) : Did W s (parkRq a1 a2 a3 u) := by
  unfold parkRq
  extract_lets z1
  clear_value z1
  exact scRaise_did (within hW rfl) (did_ite (rqPut_did (within hW rfl) h) h)

theorem rqFinish_did {W : Nat} {s : State} {a1 : Nat} {a2 : W32} {u : State}
    (hW : W &&& 0x53ee50cd86e = 0x53ee50cd86e) (h : Did W s u) : Did W s (rqFinish a1 a2 u) := by
  unfold rqFinish
  split
  · exact h
  · extract_lets z6 z7 z8 z9 z10 z11
    clear_value z6
    have hz7 : Did W s z7.2 := memWrite_did (within hW rfl) h
    clear_value z7
    have hz8 : Did W s z8 := did_ite (parkRq_did (within hW rfl) hz7) hz7
    clear_value z8
    clear_value z9
    clear_value z10
    have hz11 : Did W s z11 := rqPut_did (within hW rfl) hz8
    clear_value z11
    exact did_ite (signalBaton_did (within hW rfl) hz11) hz11

theorem rqEndAll_did {W : Nat} {s : State} {a1 : Nat} {a2 : Nat} {a3 : Nat} {a4 : RCmd → Bool} {u : State}
    (hW : W &&& 0x53ee50cd86e = 0x53ee50cd86e) (h : Did W s u) : Did W s (rqEndAll a1 a2 a3 a4 u) := by
  unfold rqEndAll
  refine did_foldl ?_ h
  intro x1 x2 h3
  extract_lets z4
  have hz4 : Did W s z4 := did_ite h3 (rqNote_did (within hW rfl) h3)
  clear_value z4
  split
  · exact did_ite (rqFinish_did (within hW rfl) hz4) hz4
  · exact hz4

theorem rqTakeUnread_did {W : Nat} {s : State} {a1 : Nat} {u : State}
    (hW : W &&& 0x1000000000 = 0x1000000000) (h : Did W s u) : Did W s (rqTakeUnread a1 u) := by
  unfold rqTakeUnread
  extract_lets z1
  clear_value z1
  exact rqPut_did (within hW rfl) h

theorem rqTeardown_did {W : Nat} {s : State} {a1 : Nat} {u : State}
    (hW : W &&& 0x53ee50cd86e = 0x53ee50cd86e) (h : Did W s u) : Did W s (rqTeardown a1 u) := by
  unfold rqTeardown
  refine did_foldl ?_ h
  intro x1 x2 h3
  exact rqEndAll_did (within hW rfl) (rqTakeUnread_did (within hW rfl) h3)

/-! Submit -/

theorem teardownStart_did {W : Nat} {s : State} {a1 : Nat} {u : State}
    (hW : W &&& 0x53ee70cd86e = 0x53ee70cd86e) (h : Did W s u) : Did W s (teardownStart a1 u) := by
  unfold teardownStart
  extract_lets z1 z2 z3 z4
  clear_value z1
  have hz2 : Did W s z2 := ctxPut_did (within hW rfl) h
  clear_value z2
  have hz3 : Did W s z3 := by
    refine did_foldl ?_ hz2
    intro x5 x6 h7
    exact did_ite (clearGroup_did (within hW rfl) h7) h7
  clear_value z3
  have hz4 : Did W s z4 := by
    refine did_foldl ?_ hz3
    intro x8 x9 h10
    exact teardownItem_did (within hW rfl) h10
  clear_value z4
  exact settleAll_did (within hW rfl) (retireReqs_did (within hW rfl) (rqTeardown_did (within hW rfl) hz4))

/-! Pcie -/

theorem discardIn_did {W : Nat} {s : State} {a1 : Nat} {u : State}
    (hW : W &&& 0x8000000002 = 0x8000000002) (h : Did W s u) : Did W s (discardIn a1 u) := by
  unfold discardIn
  extract_lets z1 z2 z3
  clear_value z1
  have hz2 : Did W s z2.2 := drawFree_did (within hW rfl) h
  clear_value z2
  clear_value z3
  exact did_ite (pciePut_did (within hW rfl) h) (pciePut_did (within hW rfl) hz2)

theorem writeOr_did {W : Nat} {s : State} {a1 : Nat} {a2 : Nat} {a3 : List Byte} {u : State}
    (hW : W &&& 0x5aec000d86e = 0x5aec000d86e) (h : Did W s u) : Did W s (writeOr a1 a2 a3 u) := by
  unfold writeOr
  extract_lets z1
  have hz1 : Did W s z1.2 := memPut_did (within hW rfl) h
  clear_value z1
  split
  · exact discardIn_did (within hW rfl) hz1
  · exact hz1

/-! Remote -/

theorem transferAnswer_did {W : Nat} {s : State} {a1 : Pend} {a2 : Nat} {a3 : List Byte} {u : State}
    (hW : W &&& 0xc00004004 = 0xc00004004) (h : Did W s u) : Did W s (transferAnswer a1 a2 a3 u) := by
  unfold transferAnswer
  exact noteAnswer_did (within hW rfl) (dropPend_did (within hW rfl) h)

theorem failWindow_did {W : Nat} {s : State} {a1 : Pend} {a2 : Nat} {u : State}
    (hW : W &&& 0x2c00005806 = 0x2c00005806) (h : Did W s u) : Did W s (failWindow a1 a2 u) := by
  unfold failWindow
  refine did_ite (transferAnswer_did (within hW rfl) h) (did_ite (memErr_did (within hW rfl) (dropPend_did (within hW rfl) h)) (did_ite (dropPend_did (within hW rfl) h) ?_))
  extract_lets z1 z2 z3
  have hz1 : Did W s z1 := memErr_did (within hW rfl) (dropPend_did (within hW rfl) h)
  clear_value z1
  clear_value z2
  have hz3 : Did W s z3 := corePut_did (within hW rfl) hz1
  clear_value z3
  exact did_ite (acTrap_did (within hW rfl) hz3) hz3

/-! Pcie -/

theorem pcieMod_did {W : Nat} {s : State} {a1 : Pcie → Pcie} {u : State}
    (hW : W &&& 0x8000000000 = 0x8000000000) (h : Did W s u) : Did W s (pcieMod a1 u) := by
  unfold pcieMod
  exact pciePut_did (within hW rfl) h

/-! Remote -/

theorem forwardPacket_did {W : Nat} {s : State} {a1 : BitVec 256} {a2 : List Byte} {u : State}
    (hW : W &&& 0x400000004 = 0x400000004) (h : Did W s u) : Did W s (forwardPacket a1 a2 u) := by
  unfold forwardPacket
  extract_lets z1 z2
  clear_value z1
  clear_value z2
  exact did_ite h (did_ite (sendOn_did (within hW rfl) h) (did_ite (sendOn_did (within hW rfl) h) h))

theorem unreachTag_did {W : Nat} {s : State} {a1 : Nat} {u : State}
    (hW : W &&& 0x3c00005806 = 0x3c00005806) (h : Did W s u) : Did W s (unreachTag a1 u) := by
  unfold unreachTag
  split
  · exact h
  · exact did_ite (rqNote_did (within hW rfl) (settlePacket_did (within hW rfl) h)) (failWindow_did (within hW rfl) h)

theorem unrouted_did {W : Nat} {s : State} {u : State}
    (hW : W &&& 0x3c00005806 = 0x3c00005806) (h : Did W s u) : Did W s (unrouted u) := by
  unfold unrouted
  refine did_foldl ?_ h
  intro x1 x2 h3
  exact unreachTag_did (within hW rfl) h3

theorem dropFrom_did {W : Nat} {s : State} {a1 : Nat} {a2 : Nat} {u : State}
    (hW : W &&& 0x400000000 = 0x400000000) (h : Did W s u) : Did W s (dropFrom a1 a2 u) := by
  unfold dropFrom
  extract_lets z1 z2
  clear_value z1
  clear_value z2
  exact did_ite h (portPut_did (within hW rfl) h)

theorem chipGone.endCommands_did {W : Nat} {s : State} {a1 : Nat} {a2 : Nat} {a3 : Nat} {u : State}
    (hW : W &&& 0x53ee50cd86e = 0x53ee50cd86e) (h : Did W s u) : Did W s (chipGone.endCommands a1 a2 a3 u) := by
  unfold chipGone.endCommands
  extract_lets z1
  have hz1 : Did W s z1 := by
    refine did_foldl ?_ h
    intro x2 x3 h4
    exact settlePacket_did (within hW rfl) h4
  clear_value z1
  exact rqEndAll_did (within hW rfl) hz1

theorem chipGone_did {W : Nat} {s : State} {a1 : Nat} {a2 : Nat} {u : State}
    (hW : W &&& 0x53ee70cd86e = 0x53ee70cd86e) (h : Did W s u) : Did W s (chipGone a1 a2 u) := by
  unfold chipGone
  refine did_ite h ?_
  extract_lets z1 z2 z3 z4 z5 z6
  have hz1 : Did W s z1 := by
    refine did_foldl ?_ h
    intro x7 x8 h9
    exact dropFrom_did (within hW rfl) h9
  clear_value z1
  have hz2 : Did W s z2 := by
    refine did_foldl ?_ hz1
    intro x10 x11 h12
    exact chipGone.endCommands_did (within hW rfl) h12
  clear_value z2
  have hz3 : Did W s z3 := by
    refine did_foldl ?_ hz2
    intro x13 x14 h15
    exact failWindow_did (within hW rfl) h15
  clear_value z3
  have hz4 : Did W s z4 := by
    refine did_foldl ?_ hz3
    intro x16 x17 h18
    exact did_ite (relayAbort_did (within hW rfl) h18) h18
  clear_value z4
  clear_value z5
  have hz6 : Did W s z6 := did_mk hz4
  clear_value z6
  exact scRaise_did (within hW rfl) (bumpObj_did (within hW rfl) (setMark_did (within hW rfl) hz6))

theorem loseChip_did {W : Nat} {s : State} {a1 : Nat} {a2 : Nat} {u : State}
    (hW : W &&& 0x53ee70cd86e = 0x53ee70cd86e) (h : Did W s u) : Did W s (loseChip a1 a2 u) := by
  unfold loseChip
  exact unrouted_did (within hW rfl) (settleAll_did (within hW rfl) (retireReqs_did (within hW rfl) (chipGone_did (within hW rfl) h)))

theorem planesJudge_did {W : Nat} {s : State} {u : State}
    (hW : W &&& 0x53ee70cd86e = 0x53ee70cd86e) (h : Did W s u) : Did W s (planesJudge u) := by
  unfold planesJudge
  extract_lets z1
  clear_value z1
  refine did_ite h (did_foldl ?_ h)
  intro x2 x3 h4
  exact loseChip_did (within hW rfl) h4

theorem onPort_did {W : Nat} {s : State} {a1 : Nat} {a2 : Nat} {u : State}
    (hW : W &&& 0x800000000 = 0x800000000) (h : Did W s u) : Did W s (onPort a1 a2 u) := by
  unfold onPort
  exact pendSet_did (within hW rfl) h

theorem resendOne_did {W : Nat} {s : State} {a1 : BitVec 256} {a2 : List Byte} {u : State}
    (hW : W &&& 0x3c00005806 = 0x3c00005806) (h : Did W s u) : Did W s (resendOne a1 a2 u) := by
  unfold resendOne
  extract_lets z1
  clear_value z1
  refine did_ite (forwardPacket_did (within hW rfl) h) (did_ite (sendOn_did (within hW rfl) h) ?_)
  split
  · exact pushPacket_did (within hW rfl) (did_ite (onPort_did (within hW rfl) h) h)
  · exact did_ite (unreachTag_did (within hW rfl) h) h

theorem resendPorts_did {W : Nat} {s : State} {u : State}
    (hW : W &&& 0x3c00005806 = 0x3c00005806) (h : Did W s u) : Did W s (resendPorts u) := by
  unfold resendPorts
  refine did_foldl ?_ h
  intro x1 x2 h3
  extract_lets z4
  clear_value z4
  refine did_ite h3 (did_foldl ?_ (portPut_did (within hW rfl) h3))
  intro x5 x6 h7
  exact resendOne_did (within hW rfl) h7

/-! Submit -/

theorem doorbellEffect_did {W : Nat} {s : State} {a1 : Nat} {a2 : Nat} {a3 : W64} {u : State}
    (hW : W &&& 0x10000080002 = 0x10000080002) (h : Did W s u) : Did W s (doorbellEffect a1 a2 a3 u) := by
  unfold doorbellEffect
  refine did_ite h ?_
  extract_lets z1
  clear_value z1
  exact did_ite (queuePut_did (within hW rfl) h) (parkQueue_did (within hW rfl) h)

theorem queueResumeEffect_did {W : Nat} {s : State} {a1 : Nat} {a2 : Nat} {u : State}
    (hW : W &&& 0x80000 = 0x80000) (h : Did W s u) : Did W s (queueResumeEffect a1 a2 u) := by
  unfold queueResumeEffect
  extract_lets z1
  clear_value z1
  exact did_ite (queuePut_did (within hW rfl) h) h

theorem enqueueItem_did {W : Nat} {s : State} {a1 : Nat} {a2 : Nat} {a3 : Item} {u : State}
    (hW : W &&& 0x98000 = 0x98000) (h : Did W s u) : Did W s (enqueueItem a1 a2 a3 u) := by
  unfold enqueueItem
  extract_lets z1 z2 z3
  clear_value z1
  have hz2 : Did W s z2 := queuePut_did (within hW rfl) h
  clear_value z2
  have hz3 : Did W s z3 := itemPut_did (within hW rfl) hz2
  clear_value z3
  exact did_mk hz3

theorem queueSkipEffect_did {W : Nat} {s : State} {a1 : Nat} {a2 : Nat} {u : State}
    (hW : W &&& 0x52ee50dd86e = 0x52ee50dd86e) (h : Did W s u) : Did W s (queueSkipEffect a1 a2 u) := by
  unfold queueSkipEffect
  extract_lets z1 z2
  clear_value z1
  have hz2 : Did W s z2 := queueResumeEffect_did (within hW rfl) h
  clear_value z2
  exact did_ite (did_ite (queueResumeEffect_did (within hW rfl) h) (settleAll_did (within hW rfl) (refuse_did (within hW rfl) (enqueueItem_did (within hW rfl) hz2)))) h

theorem ctxBaseSet_did {W : Nat} {s : State} {a1 : W64} {u : State}
    (hW : W &&& 0x800000 = 0x800000) (h : Did W s u) : Did W s (ctxBaseSet a1 u) := by
  unfold ctxBaseSet
  exact did_ite (did_mk h) h

theorem ctxResult_did {W : Nat} {s : State} {a1 : Nat} {u : State}
    (hW : W &&& 0x100000 = 0x100000) (h : Did W s u) : Did W s (ctxResult a1 u) := by
  unfold ctxResult
  exact did_mk h

theorem contextEnableEffect_did {W : Nat} {s : State} {a1 : Nat} {u : State}
    (hW : W &&& 0x52ec01cd86e = 0x52ec01cd86e) (h : Did W s u) : Did W s (contextEnableEffect a1 u) := by
  unfold contextEnableEffect
  refine did_ite h (did_ite (ctxResult_did (within hW rfl) h) ?_)
  extract_lets z1 z2
  have hz1 : Did W s z1.2 := memRead_did (within hW rfl) h
  clear_value z1
  clear_value z2
  split
  · exact ctxResult_did (within hW rfl) hz1
  · extract_lets z9 z10
    clear_value z9
    have hz10 : Did W s z10 := ctxPut_did (within hW rfl) hz1
    clear_value z10
    refine did_ite (ctxResult_did (within hW rfl) hz1) (did_ite (ctxResult_did (within hW rfl) hz1) (ctxResult_did (within hW rfl) (did_foldl ?_ hz10)))
    intro x11 x12 h13
    exact queuePut_did (within hW rfl) h13

theorem contextTeardownEffect_did {W : Nat} {s : State} {a1 : Nat} {u : State}
    (hW : W &&& 0x53ee73cd86e = 0x53ee73cd86e) (h : Did W s u) : Did W s (contextTeardownEffect a1 u) := by
  unfold contextTeardownEffect
  exact did_ite h (did_ite (ctxResult_did (within hW rfl) h) (teardownStart_did (within hW rfl) (did_mk h)))

/-! Claryn -/

theorem mailboxDoorEffect_did {W : Nat} {s : State} {a1 : Nat} {a2 : W64} {u : State}
    (hW : W &&& 0x40000000802 = 0x40000000802) (h : Did W s u) : Did W s (mailboxDoorEffect a1 a2 u) := by
  unfold mailboxDoorEffect
  refine did_ite h ?_
  extract_lets z1 z2
  clear_value z1
  clear_value z2
  exact did_ite (mboxPut_did (within hW rfl) h) (arriveMsg_did (within hW rfl) (mboxPut_did (within hW rfl) h))

/-! Eclipse -/

theorem shadowGroup_did {W : Nat} {s : State} {a1 : Nat} {a2 : Nat} {u : State} {u1 : State}
    (hW : W &&& 0x10000000 = 0x10000000) (h : Did W s u) (h1 : Did W s u1) : Did W s (shadowGroup a1 a2 u u1) := by
  unfold shadowGroup
  extract_lets z1
  clear_value z1
  refine did_ite h1 ?_
  split
  · exact h1
  · exact did_ite (did_mk h1) h1

/-! Submit -/

theorem readVirt_did {W : Nat} {s : State} {a1 : Nat} {a2 : Option Nat} {a3 : List (Nat × Nat)} {u : State}
    (hW : W &&& 0x52ee000d86e = 0x52ee000d86e) (h : Did W s u) : Did W s (readVirt a1 a2 a3 u).2 := by
  induction a3 generalizing u with
  | nil  =>
    unfold readVirt
    dsimp only
    exact h
  | cons r1 r2 r3 =>
    unfold readVirt
    dsimp only
    split
    · rename_i e4 e5 e6
      have k7 : Did W s e5 := Did.of_eq (congrArg (fun x : (_ × _) => x.2) e6) (pagePhys_did (within hW rfl) h)
      exact k7
    · rename_i e8 e9 e10 e11 e12
      split
      · refine memErr_did (within hW rfl) (pageRead_did (within hW rfl) ?_)
        have k16 : Did W s e11 := Did.of_eq (congrArg (fun x : (_ × _) => x.2) e12) (pagePhys_did (within hW rfl) h)
        exact k16
      · split
        · refine r3 (pageRead_did (within hW rfl) ?_)
          have k23 : Did W s e11 := Did.of_eq (congrArg (fun x : (_ × _) => x.2) e12) (pagePhys_did (within hW rfl) h)
          exact k23
        · refine r3 (pageRead_did (within hW rfl) ?_)
          have k26 : Did W s e11 := Did.of_eq (congrArg (fun x : (_ × _) => x.2) e12) (pagePhys_did (within hW rfl) h)
          exact k26

theorem readOpnds_did {W : Nat} {s : State} {a1 : Item} {a2 : Option Nat} {u : State}
    (hW : W &&& 0x52ee000d86e = 0x52ee000d86e) (h : Did W s u) : Did W s (readOpnds a1 a2 u).2 := by
  unfold readOpnds
  extract_lets z1 z2
  clear_value z1
  have hz2 : Did W s z2.2 := readVirt_did (within hW rfl) h
  clear_value z2
  refine did_ite_of (fun x : (_ × _) => x.2) ?_ ?_
  · exact h
  · split
    · exact hz2
    · exact hz2
    · exact hz2

/-! Remote -/

theorem resendFailed_did {W : Nat} {s : State} {u : State} {u1 : State}
    (hW : W &&& 0x53ee70cd86e = 0x53ee70cd86e) (h : Did W s u) (h1 : Did W s u1) : Did W s (resendFailed u u1) := by
  unfold resendFailed
  extract_lets z1
  have hz1 : Did W s z1 := unrouted_did (within hW rfl) (resendPorts_did (within hW rfl) h1)
  clear_value z1
  exact did_ite hz1 (planesJudge_did (within hW rfl) hz1)

/-! Submit -/

theorem afterAccept_did {W : Nat} {s : State} {a1 : Nat} {u : State}
    (hW : W &&& 0x52ee70cd86e = 0x52ee70cd86e) (h : Did W s u) : Did W s (afterAccept a1 u) := by
  unfold afterAccept
  exact settleAll_did (within hW rfl) (itemTime_did (within hW rfl) h)

theorem acceptDesc_did {W : Nat} {s : State} {a1 : Nat} {a2 : Nat} {a3 : List W64} {u : State}
    (hW : W &&& 0x52ee70dd86e = 0x52ee70dd86e) (h : Did W s u) : Did W s (acceptDesc a1 a2 a3 u) := by
  unfold acceptDesc
  extract_lets z1 z2 z3 z4
  clear_value z1
  clear_value z2
  have hz3 : Did W s z3.2 := readOpnds_did (within hW rfl) h
  clear_value z3
  clear_value z4
  split
  · exact parkQueue_did (within hW rfl) hz3
  · extract_lets z10 z11
    clear_value z10
    have hz11 : Did W s z11 := enqueueItem_did (within hW rfl) hz3
    clear_value z11
    split
    · exact settleAll_did (within hW rfl) (refuse_did (within hW rfl) hz11)
    · exact afterAccept_did (within hW rfl) hz11

theorem serveQueue_did {W : Nat} {s : State} {a1 : Nat} {a2 : Nat} {u : State}
    (hW : W &&& 0x52ee70dd86e = 0x52ee70dd86e) (h : Did W s u) : Did W s (serveQueue a1 a2 u) := by
  unfold serveQueue
  extract_lets z1 z2
  clear_value z1
  have hz2 : Did W s z2.2 := memRead_did (within hW rfl) h
  clear_value z2
  refine whenFree_did (within hW rfl) ?_ h
  split
  · exact parkQueue_did (within hW rfl) hz2
  · extract_lets z9
    clear_value z9
    exact did_ite (acceptDesc_did (within hW rfl) hz2) (did_ite (queuePut_did (within hW rfl) hz2) (parkQueue_did (within hW rfl) hz2))

theorem execContextTeardown_did {W : Nat} {s : State} {a1 : Nat} {u : State}
    (hW : W &&& 0x53ee73cd86e = 0x53ee73cd86e) (h : Did W s u) : ODid W s (execContextTeardown a1 u) := by
  unfold execContextTeardown
  refine onUnit_odid ?_
  exact contextTeardownEffect_did (within hW rfl) h

/-! Matrix -/

theorem issueMlda_did {W : Nat} {s : State} {a1 : Nat} {a2 : Nat} {a3 : Nat} {a4 : Nat} {a5 : Nat} {a6 : Nat} {u : State}
    (hW : W &&& 0x4000 = 0x4000) (h : Did W s u) : RDid W s (issueMlda a1 a2 a3 a4 a5 a6 u) := by
  unfold issueMlda
  extract_lets z1 z2 z3 z4
  clear_value z1
  clear_value z2
  clear_value z3
  clear_value z4
  refine checked_did ?_
  refine rdid_ite ?_ ?_
  · refine PacerRes.next_did ?_
    exact enter_did (within hW rfl) (tcMod_did (within hW rfl) h)
  · exact PacerRes.stall_did

/-! Submit -/

theorem execCtxBaseWrite_did {W : Nat} {s : State} {a1 : W64} {u : State}
    (hW : W &&& 0x800000 = 0x800000) (h : Did W s u) : ODid W s (execCtxBaseWrite a1 u) := by
  unfold execCtxBaseWrite
  refine next_odid ?_
  exact ctxBaseSet_did (within hW rfl) h

/-! Pcie -/

theorem aerWord_did {W : Nat} {s : State} {a1 : Nat} {u : State}
    (hW : W &&& 0x2 = 0x2) (h : Did W s u) : Did W s (aerWord a1 u).2 := by
  unfold aerWord
  refine did_ite_of (fun x : (_ × _) => x.2) ?_ ?_
  · extract_lets z1
    have hz1 : Did W s z1.2 := drawFree_did (within hW rfl) h
    clear_value z1
    exact hz1
  · exact h

theorem inboundFree_did {W : Nat} {s : State} {a1 : Nat} {a2 : Bool} {a3 : Nat} {a4 : Nat} {u : State} {u1 : State}
    (hW : W &&& 0x802 = 0x802) (h : Did W s u) (h1 : Did W s u1) : Did W s (inboundFree a1 a2 a3 a4 u u1) := by
  unfold inboundFree
  exact whenFree_did (within hW rfl) h h1

theorem answerRead_did {W : Nat} {s : State} {a1 : Nat} {a2 : Except (Nat × Nat) (List Byte) × State}
    (hW : W &&& 0x4 = 0x4) (h : Did W s a2.2) : Did W s (answerRead a1 a2) := by
  unfold answerRead
  split
  · exact emit_did (within hW rfl) h
  · exact emit_did (within hW rfl) h

theorem memAnswer_did {W : Nat} {s : State} {a1 : Nat} {a2 : Nat} {a3 : Nat} {u : State}
    (hW : W &&& 0x52ec000d86e = 0x52ec000d86e) (h : Did W s u) : Did W s (memAnswer a1 a2 a3 u) := by
  unfold memAnswer
  exact inboundFree_did (within hW rfl) (answerRead_did (within hW rfl) (memRead_did (within hW rfl) h)) h

/-! Claryn -/

theorem execArpRequest_did {W : Nat} {s : State} {a1 : Nat} {a2 : Nat} {u : State}
    (hW : W &&& 0x4 = 0x4) (h : Did W s u) : ODid W s (execArpRequest a1 a2 u) := by
  unfold execArpRequest
  refine next_odid ?_
  exact onlyIf_did (emit_did (within hW rfl) h) h

/-! Matrix -/

theorem issueMmul_did {W : Nat} {s : State} {a1 : Nat} {a2 : Nat} {a3 : Nat} {a4 : Nat} {a5 : Nat} {a6 : Nat} {u : State}
    (hW : W &&& 0x4000 = 0x4000) (h : Did W s u) : RDid W s (issueMmul a1 a2 a3 a4 a5 a6 u) := by
  unfold issueMmul
  extract_lets z1 z2 z3 z4 z5 z6 z7
  clear_value z1
  clear_value z2
  clear_value z3
  clear_value z4
  clear_value z5
  clear_value z6
  clear_value z7
  refine checked_did ?_
  refine rdid_ite ?_ ?_
  · refine PacerRes.next_did ?_
    exact enter_did (within hW rfl) (did_ite (tcMod_did (within hW rfl) h) h)
  · exact PacerRes.stall_did

theorem execMmul_did {W : Nat} {s : State} {a1 : Nat} {a2 : BitVec 2} {a3 : BitVec 5} {a4 : BitVec 4} {a5 : BitVec 4} {a6 : BitVec 4} {u : State}
    (hW : W &&& 0xc000 = 0xc000) (h : Did W s u) : ODid W s (execMmul a1 a2 a3 a4 a5 a6 u) := by
  unfold execMmul
  refine onUnit_odid ?_
  refine pacerRun_did (within hW rfl) ?_ h
  intro x1 x2 h3
  exact issueMmul_did (within hW rfl) h3

theorem issueMldw_did {W : Nat} {s : State} {a1 : Nat} {a2 : Nat} {a3 : Nat} {a4 : Nat} {a5 : Nat} {a6 : Nat} {u : State}
    (hW : W &&& 0x4000 = 0x4000) (h : Did W s u) : RDid W s (issueMldw a1 a2 a3 a4 a5 a6 u) := by
  unfold issueMldw
  extract_lets z1 z2 z3 z4 z5 z6
  clear_value z1
  clear_value z2
  clear_value z3
  clear_value z4
  have hz5 : Did W s z5 := tcMod_did (within hW rfl) h
  clear_value z5
  clear_value z6
  refine checked_did ?_
  refine rdid_ite ?_ ?_
  · refine PacerRes.next_did ?_
    exact enter_did (within hW rfl) hz5
  · exact PacerRes.stall_did

theorem execMldw_did {W : Nat} {s : State} {a1 : Nat} {a2 : BitVec 2} {a3 : BitVec 5} {a4 : BitVec 4} {a5 : BitVec 4} {a6 : BitVec 4} {u : State}
    (hW : W &&& 0xc000 = 0xc000) (h : Did W s u) : ODid W s (execMldw a1 a2 a3 a4 a5 a6 u) := by
  unfold execMldw
  refine onUnit_odid ?_
  refine pacerRun_did (within hW rfl) ?_ h
  intro x1 x2 h3
  exact issueMldw_did (within hW rfl) h3

theorem execMrd_did {W : Nat} {s : State} {a1 : Nat} {a2 : BitVec 2} {a3 : BitVec 5} {a4 : BitVec 4} {a5 : BitVec 4} {a6 : BitVec 4} {u : State}
    (hW : W &&& 0xc000 = 0xc000) (h : Did W s u) : ODid W s (execMrd a1 a2 a3 a4 a5 a6 u) := by
  unfold execMrd
  refine onUnit_odid ?_
  refine pacerRun_did (within hW rfl) ?_ h
  intro x1 x2 h3
  exact issueMrd_did (within hW rfl) h3

theorem execMlda_did {W : Nat} {s : State} {a1 : Nat} {a2 : BitVec 2} {a3 : BitVec 5} {a4 : BitVec 4} {a5 : BitVec 4} {a6 : BitVec 4} {u : State}
    (hW : W &&& 0xc000 = 0xc000) (h : Did W s u) : ODid W s (execMlda a1 a2 a3 a4 a5 a6 u) := by
  unfold execMlda
  refine onUnit_odid ?_
  refine pacerRun_did (within hW rfl) ?_ h
  intro x1 x2 h3
  exact issueMlda_did (within hW rfl) h3

theorem issueMzero_did {W : Nat} {s : State} {a1 : Nat} {a2 : Nat} {a3 : Nat} {a4 : Nat} {a5 : Nat} {a6 : Nat} {u : State}
    (hW : W &&& 0x4000 = 0x4000) (h : Did W s u) : RDid W s (issueMzero a1 a2 a3 a4 a5 a6 u) := by
  unfold issueMzero
  extract_lets z1
  clear_value z1
  refine checked_did ?_
  refine rdid_ite ?_ ?_
  · refine PacerRes.next_did ?_
    exact enter_did (within hW rfl) (tcMod_did (within hW rfl) h)
  · exact PacerRes.stall_did

theorem execMzero_did {W : Nat} {s : State} {a1 : Nat} {a2 : BitVec 2} {a3 : BitVec 5} {a4 : BitVec 4} {a5 : BitVec 4} {a6 : BitVec 4} {u : State}
    (hW : W &&& 0xc000 = 0xc000) (h : Did W s u) : ODid W s (execMzero a1 a2 a3 a4 a5 a6 u) := by
  unfold execMzero
  refine onUnit_odid ?_
  refine pacerRun_did (within hW rfl) ?_ h
  intro x1 x2 h3
  exact issueMzero_did (within hW rfl) h3

/-! Pcie -/

theorem submitTimeout_did {W : Nat} {s : State} {a1 : Option Nat} {a2 : Nat} {u : State}
    (hW : W &&& 0x11000081806 = 0x11000081806) (h : Did W s u) : Did W s (submitTimeout a1 a2 u) := by
  unfold submitTimeout
  extract_lets z1
  have hz1 : Did W s z1 := memErr_did (within hW rfl) h
  clear_value z1
  split
  · exact parkQueue_did (within hW rfl) hz1
  · split
    · exact parkQueue_did (within hW rfl) hz1
    · exact parkRq_did (within hW rfl) hz1
    · exact hz1

theorem execPcieAerPmeMessage_did {W : Nat} {s : State} {a1 : Nat} {a2 : Bool} {u : State}
    (hW : W &&& 0x10000000002 = 0x10000000002) (h : Did W s u) : ODid W s (execPcieAerPmeMessage a1 a2 u) := by
  unfold execPcieAerPmeMessage
  refine onUnit_odid ?_
  exact onlyIf_did (scRaise_did (within hW rfl) h) h

theorem configWord_did {W : Nat} {s : State} {a1 : Nat} {u : State}
    (hW : W &&& 0x2 = 0x2) (h : Did W s u) : Did W s (configWord a1 u).2 := by
  unfold configWord
  extract_lets z1 z2
  clear_value z1
  have hz2 : Did W s z2.2 := drawFree_did (within hW rfl) h
  clear_value z2
  refine did_ite_of (fun x : (_ × _) => x.2) ?_ ?_
  · exact h
  · refine did_ite_of (fun x : (_ × _) => x.2) ?_ ?_
    · exact hz2
    · refine did_ite_of (fun x : (_ × _) => x.2) ?_ ?_
      · exact hz2
      · refine did_ite_of (fun x : (_ × _) => x.2) ?_ ?_
        · exact h
        · refine did_ite_of (fun x : (_ × _) => x.2) ?_ ?_
          · exact h
          · refine did_ite_of (fun x : (_ × _) => x.2) ?_ ?_
            · exact h
            · refine did_ite_of (fun x : (_ × _) => x.2) ?_ ?_
              · exact hz2
              · exact hz2

theorem bar4SizeSet_did {W : Nat} {s : State} {a1 : Nat} {u : State}
    (hW : W &&& 0x8000002000 = 0x8000002000) (h : Did W s u) : Did W s (bar4SizeSet a1 u) := by
  unfold bar4SizeSet
  refine did_ite ?_ h
  extract_lets z1 z2
  clear_value z1
  have hz2 : Did W s z2 := pciePut_did (within hW rfl) h
  clear_value z2
  exact did_ite (regPut_did (within hW rfl) hz2) hz2

theorem aerSet_did {W : Nat} {s : State} {a1 : Nat} {a2 : W32} {u : State}
    (hW : W &&& 0x8000000000 = 0x8000000000) (h : Did W s u) : Did W s (aerSet a1 a2 u) := by
  unfold aerSet
  exact did_ite (pcieMod_did (within hW rfl) h) h

/-! Claryn -/

theorem canErrorEffect_did {W : Nat} {s : State} {a1 : Bool} {u : State}
    (hW : W &&& 0x40000000802 = 0x40000000802) (h : Did W s u) : Did W s (canErrorEffect a1 u) := by
  unfold canErrorEffect
  refine did_ite h ?_
  extract_lets z1
  have hz1 : Did W s z1 := claMod_did (within hW rfl) h
  clear_value z1
  exact did_ite (bumpObj_did (within hW rfl) (oset_did (within hW rfl) hz1)) (canSettle_did (within hW rfl) hz1)

/-! Pcie -/

theorem walkTimeout_did {W : Nat} {s : State} {a1 : Option Nat} {a2 : Nat} {u : State}
    (hW : W &&& 0x52ee70cd86e = 0x52ee70cd86e) (h : Did W s u) : Did W s (walkTimeout a1 a2 u) := by
  unfold walkTimeout
  extract_lets z1
  have hz1 : Did W s z1 := memErr_did (within hW rfl) h
  clear_value z1
  split
  · exact hz1
  · split
    · exact hz1
    · exact did_ite (settleAll_did (within hW rfl) (refuse_did (within hW rfl) hz1)) (did_ite (transFault_did (within hW rfl) hz1) hz1)

/-! Submit -/

theorem descriptorReadEffect_did {W : Nat} {s : State} {a1 : Nat} {a2 : Nat} {u : State}
    (hW : W &&& 0x52ee70fd86e = 0x52ee70fd86e) (h : Did W s u) : Did W s (descriptorReadEffect a1 a2 u) := by
  unfold descriptorReadEffect
  exact did_ite (serveQueue_did (within hW rfl) (did_mk h)) h

theorem execDescriptorRead_did {W : Nat} {s : State} {a1 : Nat} {a2 : Nat} {a3 : List (Nat × Bool)} {u : State}
    (hW : W &&& 0x52ee70fd86e = 0x52ee70fd86e) (h : Did W s u) : ODid W s (execDescriptorRead a1 a2 a3 u) := by
  unfold execDescriptorRead
  refine onUnit_odid ?_
  refine withFlaws_did (within hW rfl) ?_ h
  intro x1 h2
  exact descriptorReadEffect_did (within hW rfl) h2

theorem execDoorbell_did {W : Nat} {s : State} {a1 : Nat} {a2 : Nat} {a3 : W64} {u : State}
    (hW : W &&& 0x10000080002 = 0x10000080002) (h : Did W s u) : ODid W s (execDoorbell a1 a2 a3 u) := by
  unfold execDoorbell
  refine onUnit_odid ?_
  exact doorbellEffect_did (within hW rfl) h

/-! Claryn -/

theorem execCanErrorDetected_did {W : Nat} {s : State} {a1 : Bool} {u : State}
    (hW : W &&& 0x40000000802 = 0x40000000802) (h : Did W s u) : ODid W s (execCanErrorDetected a1 u) := by
  unfold execCanErrorDetected
  refine next_odid ?_
  exact canErrorEffect_did (within hW rfl) h

theorem execMailboxDoor_did {W : Nat} {s : State} {a1 : Nat} {a2 : W64} {u : State}
    (hW : W &&& 0x40000000802 = 0x40000000802) (h : Did W s u) : ODid W s (execMailboxDoor a1 a2 u) := by
  unfold execMailboxDoor
  refine onUnit_odid ?_
  exact mailboxDoorEffect_did (within hW rfl) h

theorem execEthLinkChange_did {W : Nat} {s : State} {a1 : Nat} {u : State}
    (hW : W &&& 0x800 = 0x800) (h : Did W s u) : ODid W s (execEthLinkChange a1 u) := by
  unfold execEthLinkChange
  refine next_odid ?_
  exact onlyIf_did (oset_did (within hW rfl) h) h

/-! Submit -/

theorem execQueueResume_did {W : Nat} {s : State} {a1 : Nat} {a2 : Nat} {u : State}
    (hW : W &&& 0x80000 = 0x80000) (h : Did W s u) : ODid W s (execQueueResume a1 a2 u) := by
  unfold execQueueResume
  refine onUnit_odid ?_
  exact queueResumeEffect_did (within hW rfl) h

/-! Claryn -/

theorem dhcpEffect_did {W : Nat} {s : State} {a1 : Nat} {a2 : Nat} {u : State}
    (hW : W &&& 0x40000000804 = 0x40000000804) (h : Did W s u) : Did W s (dhcpEffect a1 a2 u) := by
  unfold dhcpEffect
  exact did_ite h (did_ite (did_ite h (emit_did (within hW rfl) (claMod_did (within hW rfl) h))) (did_ite (did_ite h (oset_did (within hW rfl) (claMod_did (within hW rfl) h))) (did_ite (emit_did (within hW rfl) (oset_did (within hW rfl) (claMod_did (within hW rfl) h))) h)))

/-! Submit -/

theorem execContextTeardownDone_did {W : Nat} {s : State} {a1 : Nat} {u : State}
    (hW : W &&& 0x1000340000 = 0x1000340000) (h : Did W s u) : ODid W s (execContextTeardownDone a1 u) := by
  unfold execContextTeardownDone
  refine onUnit_odid ?_
  exact teardownDoneEffect_did (within hW rfl) h

/-! Claryn -/

theorem execDhcpLeaseExpiry_did {W : Nat} {s : State} {a1 : Bool} {u : State}
    (hW : W &&& 0x40000000804 = 0x40000000804) (h : Did W s u) : ODid W s (execDhcpLeaseExpiry a1 u) := by
  unfold execDhcpLeaseExpiry
  refine next_odid ?_
  exact onlyIf_did (did_ite (oset_did (within hW rfl) (claMod_did (within hW rfl) h)) (emit_did (within hW rfl) h)) h

/-! Submit -/

theorem execCtxCmdReserved_did {W : Nat} {s : State} {a1 : W64} {u : State}
    (hW : W &&& 0x100000 = 0x100000) (h : Did W s u) : ODid W s (execCtxCmdReserved a1 u) := by
  unfold execCtxCmdReserved
  refine next_odid ?_
  exact onlyIf_did (ctxResult_did (within hW rfl) h) h

/-! Eclipse -/

theorem execEclipseMarker_did {W : Nat} {s : State} {a1 : Bool} {a2 : Nat} {a3 : W32} {u : State}
    (hW : W &&& 0x10000000 = 0x10000000) (h : Did W s u) : ODid W s (execEclipseMarker a1 a2 a3 u) := by
  unfold execEclipseMarker
  refine onUnit_odid ?_
  exact eclMarkerEffect_did (within hW rfl) h

/-! Submit -/

theorem execContextEnable_did {W : Nat} {s : State} {a1 : Nat} {a2 : List (Nat × Bool)} {u : State}
    (hW : W &&& 0x52ec01cd86e = 0x52ec01cd86e) (h : Did W s u) : ODid W s (execContextEnable a1 a2 u) := by
  unfold execContextEnable
  refine onUnit_odid ?_
  refine withFlaws_did (within hW rfl) ?_ h
  intro x1 h2
  exact contextEnableEffect_did (within hW rfl) h2

theorem descriptorRereadEffect_did {W : Nat} {s : State} {a1 : Nat} {a2 : Nat} {u : State}
    (hW : W &&& 0x52ee70dd86e = 0x52ee70dd86e) (h : Did W s u) : Did W s (descriptorRereadEffect a1 a2 u) := by
  unfold descriptorRereadEffect
  exact did_ite (serveQueue_did (within hW rfl) h) h

theorem execDescriptorReread_did {W : Nat} {s : State} {a1 : Nat} {a2 : Nat} {a3 : List (Nat × Bool)} {u : State}
    (hW : W &&& 0x52ee70dd86e = 0x52ee70dd86e) (h : Did W s u) : ODid W s (execDescriptorReread a1 a2 a3 u) := by
  unfold execDescriptorReread
  refine onUnit_odid ?_
  refine withFlaws_did (within hW rfl) ?_ h
  intro x1 h2
  exact descriptorRereadEffect_did (within hW rfl) h2

theorem execQueueSkip_did {W : Nat} {s : State} {a1 : Nat} {a2 : Nat} {u : State}
    (hW : W &&& 0x52ee50dd86e = 0x52ee50dd86e) (h : Did W s u) : ODid W s (execQueueSkip a1 a2 u) := by
  unfold execQueueSkip
  refine onUnit_odid ?_
  exact queueSkipEffect_did (within hW rfl) h

theorem itemEndEffect_did {W : Nat} {s : State} {a1 : Nat} {u : State}
    (hW : W &&& 0x52ee70cd86e = 0x52ee70cd86e) (h : Did W s u) : Did W s (itemEndEffect a1 u) := by
  unfold itemEndEffect
  split
  · exact h
  · refine did_ite ?_ h
    extract_lets z6 z7
    clear_value z6
    have hz7 : Did W s z7 := itemPut_did (within hW rfl) h
    clear_value z7
    exact settleAll_did (within hW rfl) (complete_did (within hW rfl) (did_ite (abortOf_did (within hW rfl) hz7) hz7))

theorem execItemEnd_did {W : Nat} {s : State} {a1 : Nat} {a2 : List (Nat × Bool)} {u : State}
    (hW : W &&& 0x52ee70cd86e = 0x52ee70cd86e) (h : Did W s u) : ODid W s (execItemEnd a1 a2 u) := by
  unfold execItemEnd
  refine next_odid ?_
  refine withFlaws_did (within hW rfl) ?_ h
  intro x1 h2
  exact itemEndEffect_did (within hW rfl) h2

/-! Stu -/

theorem pageWalkEffect_did {W : Nat} {s : State} {a1 : Nat} {u : State}
    (hW : W &&& 0x52ee70cd86e = 0x52ee70cd86e) (h : Did W s u) : Did W s (pageWalkEffect a1 u) := by
  unfold pageWalkEffect
  split
  · exact h
  · refine did_ite h (whenWalks_did (within hW rfl) ?_ h)
    extract_lets z6
    have hz6 : Did W s z6.2 := by
      refine did_ite_of (fun x : (_ × _) => x.2) ?_ ?_
      · exact readOpnds_did (within hW rfl) h
      · exact h
    clear_value z6
    split
    · exact parkQueue_did (within hW rfl) hz6
    · extract_lets z12 z13 z14
      clear_value z12
      have hz13 : Did W s z13 := itemPut_did (within hW rfl) hz6
      clear_value z13
      have hz14 : Did W s z14.2.2 := resolveAll_did (within hW rfl) hz13
      clear_value z14
      split
      · exact settleAll_did (within hW rfl) (refuse_did (within hW rfl) hz13)
      · exact settleAll_did (within hW rfl) (retireReqs_did (within hW rfl) (afterWalk_did (within hW rfl) hz14))

theorem execPageWalkComplete_did {W : Nat} {s : State} {a1 : Nat} {a2 : List (Nat × Bool)} {u : State}
    (hW : W &&& 0x52ee70cd86e = 0x52ee70cd86e) (h : Did W s u) : ODid W s (execPageWalkComplete a1 a2 u) := by
  unfold execPageWalkComplete
  refine next_odid ?_
  refine withFlaws_did (within hW rfl) ?_ h
  intro x1 h2
  exact pageWalkEffect_did (within hW rfl) h2

/-! Claryn -/

theorem canFrameEffect_did {W : Nat} {s : State} {a1 : Nat} {a2 : Bool} {a3 : Bool} {a4 : List Byte} {u : State}
    (hW : W &&& 0x50000000806 = 0x50000000806) (h : Did W s u) : Did W s (canFrameEffect a1 a2 a3 a4 u) := by
  unfold canFrameEffect
  extract_lets z1 z2
  clear_value z1
  have hz2 : Did W s z2 := canSettle_did (within hW rfl) (claMod_did (within hW rfl) h)
  clear_value z2
  exact did_ite h (did_ite (did_ite hz2 (clarynEvent_did (within hW rfl) (oset_did (within hW rfl) hz2))) (did_ite (arriveMsg_did (within hW rfl) hz2) hz2))

theorem execCanFrame_did {W : Nat} {s : State} {a1 : Nat} {a2 : Bool} {a3 : Bool} {a4 : List Byte} {u : State}
    (hW : W &&& 0x50000000806 = 0x50000000806) (h : Did W s u) : ODid W s (execCanFrame a1 a2 a3 a4 u) := by
  unfold execCanFrame
  refine next_odid ?_
  exact canFrameEffect_did (within hW rfl) h

theorem execIcmpEcho_did {W : Nat} {s : State} {a1 : Nat} {a2 : Nat} {a3 : List Byte} {u : State}
    (hW : W &&& 0x4 = 0x4) (h : Did W s u) : ODid W s (execIcmpEcho a1 a2 a3 u) := by
  unfold execIcmpEcho
  refine next_odid ?_
  exact onlyIf_did (emit_did (within hW rfl) h) h

theorem execDhcpMessage_did {W : Nat} {s : State} {a1 : Nat} {a2 : Nat} {a3 : Nat} {u : State}
    (hW : W &&& 0x40000000804 = 0x40000000804) (h : Did W s u) : ODid W s (execDhcpMessage a1 a2 a3 u) := by
  unfold execDhcpMessage
  refine next_odid ?_
  exact dhcpEffect_did (within hW rfl) h

theorem execDhcpRetry_did {W : Nat} {s : State} {u : State}
    (hW : W &&& 0x4 = 0x4) (h : Did W s u) : ODid W s (execDhcpRetry u) := by
  unfold execDhcpRetry
  refine next_odid ?_
  exact onlyIf_did (emit_did (within hW rfl) h) h

theorem execHeartbeat_did {W : Nat} {s : State} {u : State}
    (hW : W &&& 0x40000000804 = 0x40000000804) (h : Did W s u) : ODid W s (execHeartbeat u) := by
  unfold execHeartbeat
  refine next_odid ?_
  exact onlyIf_did (sendHeartbeat_did (within hW rfl) h) h

theorem execCanBusOffRecovery_did {W : Nat} {s : State} {u : State}
    (hW : W &&& 0x40000000800 = 0x40000000800) (h : Did W s u) : ODid W s (execCanBusOffRecovery u) := by
  unfold execCanBusOffRecovery
  refine next_odid ?_
  exact onlyIf_did (oset_did (within hW rfl) (claMod_did (within hW rfl) h)) h

end Sys2Proof.Machine
end

