-- ==== Sys2Proof/Laws/DidPlatform.lean ====
section
/-! SUPPORT. What each operation of these units can do, one lemma for each: registers, memory maintenance, links, sealed values, ports, the Signal Concentrator. -/

-- one theorem after the other: a thread for each of hundreds of small theorems takes more memory than the check allows
set_option Elab.async false

set_option linter.all false

namespace Sys2Proof.Machine

open Sys2Proof

/-! Regs -/

theorem discardsRead_did {W : Nat} {s : State} {a1 : Nat} {u : State}
    (hW : W &&& 0x8000000000 = 0x8000000000) (h : Did W s u) : Did W s (discardsRead a1 u).2 := by
  unfold discardsRead
  exact pciePut_did (within hW rfl) h

/-! MemorySys -/

theorem becomeCandidate_did {W : Nat} {s : State} {a1 : Nat} {a2 : Nat} {a3 : Nat} {u : State}
    (hW : W &&& 0x5008000086e = 0x5008000086e) (h : Did W s u) : Did W s (becomeCandidate a1 a2 a3 u) := by
  unfold becomeCandidate
  refine did_ite h ?_
  extract_lets z1 z2
  clear_value z1
  have hz2 : Did W s z2 := fault1_did (within hW rfl) h
  clear_value z2
  exact did_ite hz2 (did_ite (deferRepair_did (within hW rfl) hz2) (addCandidate_did (within hW rfl) hz2))

theorem retCmdEffect_did {W : Nat} {s : State} {a1 : Nat} {a2 : W64} {u : State}
    (hW : W &&& 0x5008000086e = 0x5008000086e) (h : Did W s u) : Did W s (retCmdEffect a1 a2 u) := by
  unfold retCmdEffect
  exact becomeCandidate_did (within hW rfl) h

/-! Links -/

theorem spareTrainedEffect_did {W : Nat} {s : State} {a1 : LaneUnit} {u : State}
    (hW : W &&& 0x400000100 = 0x400000100) (h : Did W s u) : Did W s (spareTrainedEffect a1 u) := by
  unfold spareTrainedEffect
  split
  · extract_lets z3
    clear_value z3
    split
    · exact h
    · extract_lets z11 z12
      clear_value z11
      have hz12 : Did W s z12 := linkPut_did (within hW rfl) h
      clear_value z12
      split
      · exact hz12
      · exact linkSwitch_did (within hW rfl) hz12
  · extract_lets z21
    clear_value z21
    split
    · exact h
    · extract_lets z29 z30
      clear_value z29
      have hz30 : Did W s z30 := portPut_did (within hW rfl) h
      clear_value z30
      split
      · exact hz30
      · exact portSwitch_did (within hW rfl) hz30

theorem execSpareTrained_did {W : Nat} {s : State} {a1 : LaneUnit} {u : State}
    (hW : W &&& 0x400000100 = 0x400000100) (h : Did W s u) : ODid W s (execSpareTrained a1 u) := by
  unfold execSpareTrained
  refine onUnit_odid ?_
  exact spareTrainedEffect_did (within hW rfl) h

/-! Secure -/

theorem deriveKeys_did {W : Nat} {s : State} {u : State}
    (hW : W &&& 0x80000000000 = 0x80000000000) (h : Did W s u) : Did W s (deriveKeys u) := by
  unfold deriveKeys
  exact did_mk h

theorem protDefaults_did {W : Nat} {s : State} {u : State}
    (hW : W &&& 0x1800 = 0x1800) (h : Did W s u) : Did W s (protDefaults u) := by
  unfold protDefaults
  exact did_mk h

theorem applyBank_did {W : Nat} {s : State} {a1 : SealedBank} {u : State}
    (hW : W &&& 0x1800 = 0x1800) (h : Did W s u) : Did W s (applyBank a1 u) := by
  unfold applyBank
  extract_lets z1
  have hz1 : Did W s z1 := by
    refine did_foldl ?_ (protDefaults_did (within hW rfl) h)
    intro x2 x3 h4
    exact oset_did (within hW rfl) h4
  clear_value z1
  refine did_foldl ?_ hz1
  intro x5 x6 h7
  exact octSet_did (within hW rfl) h7

theorem protPublish_did {W : Nat} {s : State} {u : State}
    (hW : W &&& 0x1800 = 0x1800) (h : Did W s u) : Did W s (protPublish u) := by
  unfold protPublish
  extract_lets z1
  have hz1 : Did W s z1 := oset_did (within hW rfl) (oset_did (within hW rfl) h)
  clear_value z1
  exact octSet_did (within hW rfl) (oset_did (within hW rfl) hz1)

theorem setOtherSlot_did {W : Nat} {s : State} {a1 : FwSlot → FwSlot} {u : State}
    (hW : W &&& 0x20 = 0x20) (h : Did W s u) : Did W s (setOtherSlot a1 u) := by
  unfold setOtherSlot
  refine did_mk h (kapp := ?app)
  (split <;> first | rfl | exact id | exact fun _ => twf_nil _ | (intro hh; exact twf_tputs _ _ _ hh) | (intro hh; exact twf_tset _ _ _ _ hh) | (intro hh; exact twf_filter _ _ _ hh))

theorem abandonUpdate_did {W : Nat} {s : State} {u : State}
    (hW : W &&& 0x80000000822 = 0x80000000822) (h : Did W s u) : Did W s (abandonUpdate u) := by
  unfold abandonUpdate
  refine did_ite ?_ h
  split
  · rename_i e1 e2 e3 e4
    refine setOtherSlot_did (within hW rfl) ?_
    extract_lets z5 z6
    have hz5 : Did W s z5 := by
      refine oset_did (within hW rfl) ?_
      have k7 : Did W s e3 := Did.of_eq (congrArg (fun x : (_ × _) => x.2) e4) (drawFree_did (within hW rfl) h)
      exact k7
    clear_value z5
    clear_value z6
    exact did_mk hz5

theorem zeroKeys_did {W : Nat} {s : State} {u : State}
    (hW : W &&& 0x80004000000 = 0x80004000000) (h : Did W s u) : Did W s (zeroKeys u) := by
  unfold zeroKeys
  exact did_mk h

theorem sealCommit_did {W : Nat} {s u : State}
    (hW : W &&& 0x1830 = 0x1830) (h : Did W s u) : Did W s (sealCommit u) := by
  unfold sealCommit
  extract_lets z1 z0 z2 z3 z4
  have hz : z3.app = u.flash.app := by
    show (if _ then _ else _ : Flash).app = _
    split <;> rfl
  clear_value z3
  exact protPublish_did (within hW rfl) (did_mk h (kapp := fun k => hz.symm ▸ k))

theorem eraseUser_did {W : Nat} {s : State} {u : State}
    (hW : W &&& 0x80004001830 = 0x80004001830) (h : Did W s u) : Did W s (eraseUser u) := by
  unfold eraseUser
  extract_lets z1 z2
  have hz1 : Did W s z1 := zeroKeys_did (within hW rfl) h
  clear_value z1
  exact did_ite hz1 (did_ite (sealCommit_did (within hW rfl) (octSet_did (within hW rfl) hz1)) (did_mk hz1))

theorem eraseIdentity_did {W : Nat} {s : State} {u : State}
    (hW : W &&& 0x80000000018 = 0x80000000018) (h : Did W s u) : Did W s (eraseIdentity u) := by
  unfold eraseIdentity
  exact did_mk h

theorem alarm_did {W : Nat} {s : State} {a1 : Nat} {a2 : Nat} {a3 : Bool} {u : State}
    (hW : W &&& 0xd000400187e = 0xd000400187e) (h : Did W s u) : Did W s (alarm a1 a2 a3 u) := by
  unfold alarm
  extract_lets z1 z2 z3 z4 z5 z6 z7 z8 z9
  clear_value z1
  clear_value z2
  clear_value z3
  have hz4 : Did W s z4 := record_did (within hW rfl) (abandonUpdate_did (within hW rfl) h)
  clear_value z4
  have hz6 : Did W s z6 := did_mk hz4
  clear_value z6
  have hz7 : Did W s z7 := scRaise_did (within hW rfl) hz6
  clear_value z7
  have hz8 : Did W s z8 := did_ite (eraseUser_did (within hW rfl) hz7) hz7
  clear_value z8
  have hz9 : Did W s z9 := did_ite (eraseIdentity_did (within hW rfl) hz8) hz8
  clear_value z9
  exact did_ite (packageReset_did (within hW rfl) hz9) hz9

theorem loadOdk_did {W : Nat} {s : State} {u : State}
    (hW : W &&& 0x80000000000 = 0x80000000000) (h : Did W s u) : Did W s (loadOdk u) := by
  unfold loadOdk
  extract_lets z1 z2
  clear_value z1
  clear_value z2
  exact did_mk h

theorem readSealed_did {W : Nat} {s : State} {a1 : Option Nat} {u : State}
    (hW : W &&& 0xd000400187e = 0xd000400187e) (h : Did W s u) : Did W s (readSealed a1 u) := by
  unfold readSealed
  extract_lets z1 z2 z3 z4 z5 z6 z7 z8
  have hz2 : Did W s z2 := deriveKeys_did (within hW rfl) (did_ite (did_mk h) h)
  clear_value z2
  have hz3 : Did W s z3 := by
    refine did_ite (oset_did (within hW rfl) (protDefaults_did (within hW rfl) hz2)) ?_
    split
    · exact oset_did (within hW rfl) (applyBank_did (within hW rfl) hz2)
    · exact oset_did (within hW rfl) (protDefaults_did (within hW rfl) hz2)
  clear_value z3
  have hz4 : Did W s z4 := protPublish_did (within hW rfl) hz3
  clear_value z4
  clear_value z5
  clear_value z6
  have hz7 : Did W s z7 := by
    subst z7
    split
    · exact alarm_did (within hW rfl) hz4
    · exact hz4
  clear_value z7
  have hz8 : Did W s z8 := did_ite (alarm_did (within hW rfl) hz7) hz7
  clear_value z8
  exact did_ite hz8 (loadOdk_did (within hW rfl) hz8)

/-! Start -/

theorem packageResetReleaseEffect_did {W : Nat} {s : State} {a1 : Bool} {a2 : BitVec 3} {a3 : BitVec 7} {a4 : Option Nat} {a5 : Bool} {u : State}
    (hW : W &&& 0xf080c00187e = 0xf080c00187e) (h : Did W s u) : Did W s (packageResetReleaseEffect a1 a2 a3 a4 a5 u) := by
  unfold packageResetReleaseEffect
  refine did_ite h ?_
  extract_lets z1 z2
  clear_value z1
  have hz2 : Did W s z2 := did_mk h
  clear_value z2
  exact did_ite (secureBoot_did (within hW rfl) (readSealed_did (within hW rfl) hz2)) hz2

theorem execPackageResetRelease_did {W : Nat} {s : State} {a1 : Bool} {a2 : BitVec 3} {a3 : BitVec 7} {a4 : Option Nat} {a5 : Bool} {u : State}
    (hW : W &&& 0xf080c00187e = 0xf080c00187e) (h : Did W s u) : ODid W s (execPackageResetRelease a1 a2 a3 a4 a5 u) := by
  unfold execPackageResetRelease
  refine next_odid ?_
  exact packageResetReleaseEffect_did (within hW rfl) h

/-! MemorySys -/

theorem onDie_did {W : Nat} {s : State} {a1 : Nat} {a2 : Nat} {u : State} {u1 : State}
    (hW : W &&& 0x1806 = 0x1806) (h : Did W s u) (h1 : Did W s u1) : Did W s (onDie a1 a2 u u1) := by
  unfold onDie
  exact did_ite h (memErr_did (within hW rfl) h1)

theorem pgretPopEffect_did {W : Nat} {s : State} {a1 : Nat} {u : State}
    (hW : W &&& 0x80000004 = 0x80000004) (h : Did W s u) : Did W s (pgretPopEffect a1 u) := by
  unfold pgretPopEffect
  extract_lets z1
  clear_value z1
  split
  · exact emit_did (within hW rfl) h
  · exact emit_did (within hW rfl) (mdPut_did (within hW rfl) h)

theorem execPgretPop_did {W : Nat} {s : State} {a1 : Nat} {u : State}
    (hW : W &&& 0x80001806 = 0x80001806) (h : Did W s u) : ODid W s (execPgretPop a1 u) := by
  unfold execPgretPop
  refine onUnit_odid ?_
  exact onDie_did (within hW rfl) (pgretPopEffect_did (within hW rfl) h) h

/-! Ports -/

theorem uncorrectableEffect_did {W : Nat} {s : State} {a1 : Nat} {u : State}
    (hW : W &&& 0x400000004 = 0x400000004) (h : Did W s u) : Did W s (uncorrectableEffect a1 u) := by
  unfold uncorrectableEffect
  extract_lets z1
  clear_value z1
  exact did_ite (emitSideband_did (within hW rfl) (portPut_did (within hW rfl) h)) h

/-! Signals -/

theorem scPendClrEffect_did {W : Nat} {s : State} {a1 : W64} {u : State}
    (hW : W &&& 0x10000000000 = 0x10000000000) (h : Did W s u) : Did W s (scPendClrEffect a1 u) := by
  unfold scPendClrEffect
  extract_lets z1 z2 z3
  clear_value z1
  clear_value z2
  have hz3 : Did W s z3 := srcPut_did (within hW rfl) h
  clear_value z3
  exact did_ite (did_ite (scLevel_did (within hW rfl) hz3) hz3) h

theorem execScPendClr_did {W : Nat} {s : State} {a1 : W64} {u : State}
    (hW : W &&& 0x10000000000 = 0x10000000000) (h : Did W s u) : ODid W s (execScPendClr a1 u) := by
  unfold execScPendClr
  refine next_odid ?_
  exact scPendClrEffect_did (within hW rfl) h

theorem scMod_did {W : Nat} {s : State} {u : State} {a2 : SigCon → SigCon}
    (hW : W &&& 0x10000000000 = 0x10000000000) (h : Did W s u) : Did W s (scMod u a2) := by
  unfold scMod
  exact did_mk h

theorem releaseMsix_did {W : Nat} {s : State} {u : State}
    (hW : W &&& 0x10000000004 = 0x10000000004) (h : Did W s u) : Did W s (releaseMsix u) := by
  unfold releaseMsix
  refine did_ite h (did_foldl ?_ (scMod_did (within hW rfl) h))
  intro x1 x2 h3
  exact emit_did (within hW rfl) h3

theorem msixCtlSet_did {W : Nat} {s : State} {a1 : Nat} {a2 : W64} {u : State}
    (hW : W &&& 0x10000002004 = 0x10000002004) (h : Did W s u) : Did W s (msixCtlSet a1 a2 u) := by
  unfold msixCtlSet
  exact releaseMsix_did (within hW rfl) (regPut_did (within hW rfl) h)

/-! Links -/

theorem execHeartbeatFlitSend_did {W : Nat} {s : State} {a1 : Nat} {a2 : Bool} {u : State}
    (hW : W &&& 0xc = 0xc) (h : Did W s u) : ODid W s (execHeartbeatFlitSend a1 a2 u) := by
  unfold execHeartbeatFlitSend
  refine onUnit_odid ?_
  exact onlyIf_did (emit_did (within hW rfl) (did_mk h)) h

/-! Pcie -/

theorem configSet_did {W : Nat} {s : State} {a1 : Nat} {a2 : W32} {u : State}
    (hW : W &&& 0x18000000004 = 0x18000000004) (h : Did W s u) : Did W s (configSet a1 a2 u) := by
  unfold configSet
  extract_lets z1 z2
  clear_value z1
  have hz2 : Did W s z2 := did_ite h (pcieMod_did (within hW rfl) h)
  clear_value z2
  exact did_ite (releaseMsix_did (within hW rfl) hz2) hz2

/-! Ports -/

theorem chipReturn_did {W : Nat} {s : State} {a1 : Nat} {u : State}
    (hW : W &&& 0x10800000002 = 0x10800000002) (h : Did W s u) : Did W s (chipReturn a1 u) := by
  unfold chipReturn
  exact did_ite h (did_ite (scRaise_did (within hW rfl) (setMark_did (within hW rfl) h)) (setMark_did (within hW rfl) h))

theorem setPlane_did {W : Nat} {s : State} {a1 : Nat} {a2 : Nat} {a3 : Bool} {u : State}
    (hW : W &&& 0x800000000 = 0x800000000) (h : Did W s u) : Did W s (setPlane a1 a2 a3 u) := by
  unfold setPlane
  exact did_mk h

theorem chipEvtEffect_did {W : Nat} {s : State} {a1 : Nat} {a2 : Nat} {u : State}
    (hW : W &&& 0x53ee70cd86e = 0x53ee70cd86e) (h : Did W s u) : Did W s (chipEvtEffect a1 a2 u) := by
  unfold chipEvtEffect
  extract_lets z1 z2 z3
  clear_value z1
  clear_value z2
  have hz3 : Did W s z3 := setPlane_did (within hW rfl) h
  clear_value z3
  exact did_ite h (did_ite (chipReturn_did (within hW rfl) (setPlane_did (within hW rfl) h)) (did_ite (loseChip_did (within hW rfl) hz3) (planesJudge_did (within hW rfl) (unrouted_did (within hW rfl) (resendPorts_did (within hW rfl) hz3)))))

theorem execSbChipEvt_did {W : Nat} {s : State} {a1 : Nat} {a2 : Nat} {u : State}
    (hW : W &&& 0x53ee70cd86e = 0x53ee70cd86e) (h : Did W s u) : ODid W s (execSbChipEvt a1 a2 u) := by
  unfold execSbChipEvt
  refine onUnit_odid ?_
  exact chipEvtEffect_did (within hW rfl) h

/-! Regs -/

theorem stuWrite_did {W : Nat} {s : State} {a1 : Nat} {a2 : W64} {u : State}
    (hW : W &&& 0x52ee70cd86e = 0x52ee70cd86e) (h : Did W s u) : Did W s (stuWrite a1 a2 u) := by
  unfold stuWrite
  split
  · exact flushReqs_did (within hW rfl) (stuMod_did (within hW rfl) h)
  · exact prqBaseSet_did (within hW rfl) h
  · exact prqHeadSet_did (within hW rfl) h
  · exact stuMod_did (within hW rfl) h
  · exact did_ite (invalidEffect_did (within hW rfl) h) (retryEffect_did (within hW rfl) h)
  · extract_lets z7
    have hz7 : Did W s z7 := stuMod_did (within hW rfl) h
    clear_value z7
    exact did_ite (werrClear_did (within hW rfl) hz7) hz7
  · exact stuMod_did (within hW rfl) h
  · exact stuMod_did (within hW rfl) h
  · exact invCmdSet_did (within hW rfl) h
  · exact stuMod_did (within hW rfl) h
  · exact h

/-! Pcie -/

theorem execPeDiscardsRead_did {W : Nat} {s : State} {a1 : Nat} {u : State}
    (hW : W &&& 0x8000000004 = 0x8000000004) (h : Did W s u) : ODid W s (execPeDiscardsRead a1 u) := by
  unfold execPeDiscardsRead
  refine onUnit_odid ?_
  exact onlyIf_did (emit_did (within hW rfl) (discardsRead_did (within hW rfl) h)) h

/-! Ports -/

theorem sbAckEffect_did {W : Nat} {s : State} {a1 : Nat} {a2 : Nat} {u : State}
    (hW : W &&& 0x400000004 = 0x400000004) (h : Did W s u) : Did W s (sbAckEffect a1 a2 u) := by
  unfold sbAckEffect
  extract_lets z1
  clear_value z1
  exact did_ite (flushPort_did (within hW rfl) (portPut_did (within hW rfl) h)) h

theorem execSbAck_did {W : Nat} {s : State} {a1 : Nat} {a2 : Nat} {u : State}
    (hW : W &&& 0x400000004 = 0x400000004) (h : Did W s u) : ODid W s (execSbAck a1 a2 u) := by
  unfold execSbAck
  refine onUnit_odid ?_
  exact sbAckEffect_did (within hW rfl) h

/-! Signals -/

theorem eipSet_did {W : Nat} {s : State} {a1 : Nat} {a2 : Nat} {a3 : Nat} {u : State}
    (hW : W &&& 0x2000000000 = 0x2000000000) (h : Did W s u) : Did W s (eipSet a1 a2 a3 u) := by
  unfold eipSet
  refine did_ite ?_ h
  extract_lets z1
  clear_value z1
  exact corePut_did (within hW rfl) h

/-! Regs -/

theorem ecamWrite_did {W : Nat} {s : State} {a1 : Nat} {a2 : Nat} {a3 : List Byte} {u : State}
    (hW : W &&& 0x4 = 0x4) (h : Did W s u) : Did W s (ecamWrite a1 a2 a3 u) := by
  unfold ecamWrite
  exact emit_did (within hW rfl) h

theorem plainSet_did {W : Nat} {s : State} {a1 : Nat} {a2 : Nat} {a3 : W64} {u : State}
    (hW : W &&& 0x2000 = 0x2000) (h : Did W s u) : Did W s (plainSet a1 a2 a3 u) := by
  unfold plainSet
  exact did_ite h (regPut_did (within hW rfl) h)

theorem l2Write_did {W : Nat} {s : State} {a1 : MaintUnit} {a2 : Nat} {a3 : W64} {u : State}
    (hW : W &&& 0x523c000f86e = 0x523c000f86e) (h : Did W s u) : Did W s (l2Write a1 a2 a3 u) := by
  unfold l2Write
  split
  · exact maintCtrl_did (within hW rfl) h
  · exact l2Put_did (within hW rfl) h
  · exact plainSet_did (within hW rfl) h

theorem retAutoSet_did {W : Nat} {s : State} {a1 : Nat} {a2 : W64} {u : State}
    (hW : W &&& 0x5008000286e = 0x5008000286e) (h : Did W s u) : Did W s (retAutoSet a1 a2 u) := by
  unfold retAutoSet
  extract_lets z1
  have hz1 : Did W s z1 := plainSet_did (within hW rfl) h
  clear_value z1
  exact did_ite (startMigration_did (within hW rfl) hz1) hz1

theorem mdWrite_did {W : Nat} {s : State} {a1 : Nat} {a2 : Nat} {a3 : W64} {u : State}
    (hW : W &&& 0x523c000f86e = 0x523c000f86e) (h : Did W s u) : Did W s (mdWrite a1 a2 a3 u) := by
  unfold mdWrite
  split
  · exact maintCtrl_did (within hW rfl) h
  · exact mdMaintPut_did (within hW rfl) h
  · exact mdPut_did (within hW rfl) h
  · exact retCmdEffect_did (within hW rfl) h
  · exact did_ite (startMigration_did (within hW rfl) h) h
  · exact retAutoSet_did (within hW rfl) h
  · exact plainSet_did (within hW rfl) h

theorem adWrite_did {W : Nat} {s : State} {a1 : Nat} {a2 : Nat} {a3 : W64} {u : State}
    (hW : W &&& 0x563c000f86e = 0x563c000f86e) (h : Did W s u) : Did W s (adWrite a1 a2 a3 u) := by
  unfold adWrite
  refine did_ite (l2Write_did (within hW rfl) h) (did_ite (did_mk h) (did_ite ?_ h))
  extract_lets z1 z2 z3
  clear_value z1
  have hz2 : Did W s z2 := regPut_did (within hW rfl) h
  clear_value z2
  clear_value z3
  exact corePut_did (within hW rfl) hz2

theorem batonPageWrite_did {W : Nat} {s : State} {a1 : Nat} {a2 : W64} {u : State}
    (hW : W &&& 0x52ee50cd86e = 0x52ee50cd86e) (h : Did W s u) : Did W s (batonPageWrite a1 a2 u) := by
  unfold batonPageWrite
  exact did_ite (signalBaton_did (within hW rfl) h) h

theorem subWrite_did {W : Nat} {s : State} {a1 : Nat} {a2 : W64} {u : State}
    (hW : W &&& 0x53ee7fcd86e = 0x53ee7fcd86e) (h : Did W s u) : Did W s (subWrite a1 a2 u) := by
  unfold subWrite
  split
  · exact ctxBaseSet_did (within hW rfl) h
  · exact did_ite h (did_ite (contextEnableEffect_did (within hW rfl) h) (did_ite (contextTeardownEffect_did (within hW rfl) h) (ctxResult_did (within hW rfl) h)))
  · exact did_mk h
  · exact h

/-! Signals -/

theorem srcCfgSet_did {W : Nat} {s : State} {a1 : Nat} {a2 : W64} {u : State}
    (hW : W &&& 0x10000000000 = 0x10000000000) (h : Did W s u) : Did W s (srcCfgSet a1 a2 u) := by
  unfold srcCfgSet
  exact did_ite (srcPut_did (within hW rfl) h) (scMod_did (within hW rfl) h)

theorem scPendSetEffect_did {W : Nat} {s : State} {a1 : W64} {u : State}
    (hW : W &&& 0x10000000002 = 0x10000000002) (h : Did W s u) : Did W s (scPendSetEffect a1 u) := by
  unfold scPendSetEffect
  exact did_ite (scRaise_did (within hW rfl) h) h

theorem scStatSet_did {W : Nat} {s : State} {a1 : W64} {u : State}
    (hW : W &&& 0x10000000000 = 0x10000000000) (h : Did W s u) : Did W s (scStatSet a1 u) := by
  unfold scStatSet
  exact scMod_did (within hW rfl) h

/-! Regs -/

theorem scWrite_did {W : Nat} {s : State} {a1 : Nat} {a2 : W64} {u : State}
    (hW : W &&& 0x10000002002 = 0x10000002002) (h : Did W s u) : Did W s (scWrite a1 a2 u) := by
  unfold scWrite
  refine did_ite (did_ite (srcCfgSet_did (within hW rfl) h) h) ?_
  split
  · exact scPendSetEffect_did (within hW rfl) h
  · exact scPendClrEffect_did (within hW rfl) h
  · exact plainSet_did (within hW rfl) h
  · exact plainSet_did (within hW rfl) h
  · exact scStatSet_did (within hW rfl) h
  · exact h

theorem mailWrite_did {W : Nat} {s : State} {a1 : Nat} {a2 : Nat} {a3 : W64} {u : State}
    (hW : W &&& 0x40000002802 = 0x40000002802) (h : Did W s u) : Did W s (mailWrite a1 a2 a3 u) := by
  unfold mailWrite
  exact did_ite (regPut_did (within hW rfl) h) (did_ite (mailboxDoorEffect_did (within hW rfl) h) (did_ite (mboxPut_did (within hW rfl) h) (did_ite (plainSet_did (within hW rfl) h) h)))

theorem peWrite_did {W : Nat} {s : State} {a1 : Nat} {a2 : Nat} {a3 : W64} {u : State}
    (hW : W &&& 0x2000 = 0x2000) (h : Did W s u) : Did W s (peWrite a1 a2 a3 u) := by
  unfold peWrite
  split
  · exact plainSet_did (within hW rfl) h
  · exact did_ite (plainSet_did (within hW rfl) h) h
  · exact h

theorem xdWrite_did {W : Nat} {s : State} {a1 : Nat} {a2 : Nat} {a3 : W64} {u : State}
    (hW : W &&& 0x2000 = 0x2000) (h : Did W s u) : Did W s (xdWrite a1 a2 a3 u) := by
  unfold xdWrite
  exact did_ite (peWrite_did (within hW rfl) h) h

theorem mtimeNow_did {W : Nat} {s : State} {u : State}
    (hW : W &&& 0x4000000002 = 0x4000000002) (h : Did W s u) : Did W s (mtimeNow u).2 := by
  unfold mtimeNow
  split
  · rename_i e1 e2 e3 e4
    extract_lets z5
    clear_value z5
    refine did_mk ?_
    have k6 : Did W s e3 := Did.of_eq (congrArg (fun x : (_ × _) => x.2) e4) (drawFree_did (within hW rfl) h)
    exact k6

theorem adRead_did {W : Nat} {s : State} {a1 : Nat} {a2 : Nat} {u : State}
    (hW : W &&& 0x4000000002 = 0x4000000002) (h : Did W s u) : Did W s (adRead a1 a2 u).2 := by
  unfold adRead
  refine did_ite_of (fun x : (_ × _) => x.2) ?_ ?_
  · exact h
  · refine did_ite_of (fun x : (_ × _) => x.2) ?_ ?_
    · exact mtimeNow_did (within hW rfl) h
    · refine did_ite_of (fun x : (_ × _) => x.2) ?_ ?_
      · exact h
      · exact h

/-! Signals -/

theorem unroutedRead_did {W : Nat} {s : State} {u : State}
    (hW : W &&& 0x10000000000 = 0x10000000000) (h : Did W s u) : Did W s (unroutedRead u).2 := by
  unfold unroutedRead
  dsimp only
  exact scMod_did (within hW rfl) h

theorem fastDroppedRead_did {W : Nat} {s : State} {u : State}
    (hW : W &&& 0x10000000000 = 0x10000000000) (h : Did W s u) : Did W s (fastDroppedRead u).2 := by
  unfold fastDroppedRead
  dsimp only
  exact scMod_did (within hW rfl) h

/-! Regs -/

theorem xdRead_did {W : Nat} {s : State} {a1 : Nat} {a2 : Nat} {u : State}
    (hW : W &&& 0x8000000000 = 0x8000000000) (h : Did W s u) : Did W s (xdRead a1 a2 u).2 := by
  unfold xdRead
  refine did_ite_of (fun x : (_ × _) => x.2) ?_ ?_
  · extract_lets z1
    clear_value z1
    refine did_ite_of (fun x : (_ × _) => x.2) ?_ ?_
    · exact discardsRead_did (within hW rfl) h
    · exact h
  · exact h

theorem xd0Read_did {W : Nat} {s : State} {a1 : Nat} {u : State}
    (hW : W &&& 0x18000000000 = 0x18000000000) (h : Did W s u) : Did W s (xd0Read a1 u).2 := by
  unfold xd0Read
  refine did_ite_of (fun x : (_ × _) => x.2) ?_ ?_
  · exact h
  · refine did_ite_of (fun x : (_ × _) => x.2) ?_ ?_
    · exact h
    · refine did_ite_of (fun x : (_ × _) => x.2) ?_ ?_
      · exact h
      · refine did_ite_of (fun x : (_ × _) => x.2) ?_ ?_
        · exact h
        · refine did_ite_of (fun x : (_ × _) => x.2) ?_ ?_
          · exact h
          · refine did_ite_of (fun x : (_ × _) => x.2) ?_ ?_
            · exact h
            · refine did_ite_of (fun x : (_ × _) => x.2) ?_ ?_
              · exact h
              · refine did_ite_of (fun x : (_ × _) => x.2) ?_ ?_
                · exact h
                · refine did_ite_of (fun x : (_ × _) => x.2) ?_ ?_
                  · exact h
                  · refine did_ite_of (fun x : (_ × _) => x.2) ?_ ?_
                    · exact h
                    · refine did_ite_of (fun x : (_ × _) => x.2) ?_ ?_
                      · exact h
                      · refine did_ite_of (fun x : (_ × _) => x.2) ?_ ?_
                        · exact unroutedRead_did (within hW rfl) h
                        · refine did_ite_of (fun x : (_ × _) => x.2) ?_ ?_
                          · exact fastDroppedRead_did (within hW rfl) h
                          · refine did_ite_of (fun x : (_ × _) => x.2) ?_ ?_
                            · exact h
                            · refine did_ite_of (fun x : (_ × _) => x.2) ?_ ?_
                              · exact h
                              · refine did_ite_of (fun x : (_ × _) => x.2) ?_ ?_
                                · exact h
                                · refine did_ite_of (fun x : (_ × _) => x.2) ?_ ?_
                                  · exact h
                                  · exact xdRead_did (within hW rfl) h

theorem regRead_did {W : Nat} {s : State} {a1 : Nat} {u : State}
    (hW : W &&& 0x1c080000002 = 0x1c080000002) (h : Did W s u) : Did W s (regRead a1 u).2 := by
  unfold regRead
  split
  · exact h
  · refine did_ite_of (fun x : (_ × _) => x.2) ?_ ?_
    · exact h
    · refine did_ite_of (fun x : (_ × _) => x.2) ?_ ?_
      · refine did_ite_of (fun x : (_ × _) => x.2) ?_ ?_
        · refine did_ite_of (fun x : (_ × _) => x.2) ?_ ?_
          · exact mdPut_did (within hW rfl) h
          · exact h
        · exact h
      · refine did_ite_of (fun x : (_ × _) => x.2) ?_ ?_
        · exact adRead_did (within hW rfl) h
        · refine did_ite_of (fun x : (_ × _) => x.2) ?_ ?_
          · exact xd0Read_did (within hW rfl) h
          · exact xdRead_did (within hW rfl) h

theorem ecamRead_did {W : Nat} {s : State} {a1 : Nat} {a2 : Nat} {a3 : Nat} {u : State}
    (hW : W &&& 0x6 = 0x6) (h : Did W s u) : Did W s (ecamRead a1 a2 a3 u).2 := by
  unfold ecamRead
  extract_lets z1
  have hz1 : Did W s z1.2 := drawFree_did (within hW rfl) h
  clear_value z1
  exact emit_did (within hW rfl) hz1

theorem regLoad_did {W : Nat} {s : State} {a1 : Nat} {a2 : Nat} {a3 : Nat} {u : State}
    (hW : W &&& 0x1c080000006 = 0x1c080000006) (h : Did W s u) : Did W s (regLoad a1 a2 a3 u).2 := by
  induction a1 generalizing a2 a3 u with
  | zero  =>
    unfold regLoad
    dsimp only
    exact h
  | succ r1 r2 =>
    unfold regLoad
    dsimp only
    refine did_ite_of (fun x : (_ × _) => x.2) ?_ ?_
    · exact h
    · refine r2 ?_
      split
      · exact ecamRead_did (within hW rfl) h
      · exact regRead_did (within hW rfl) h

/-! Ports -/

theorem portMod_did {W : Nat} {s : State} {a1 : Nat} {a2 : Port → Port} {u : State}
    (hW : W &&& 0x400000000 = 0x400000000) (h : Did W s u) : Did W s (portMod a1 a2 u) := by
  unfold portMod
  exact portPut_did (within hW rfl) h

/-! Signals -/

theorem sendFast_did {W : Nat} {s : State} {a1 : Nat} {a2 : W64} {u : State}
    (hW : W &&& 0x10000004002 = 0x10000004002) (h : Did W s u) : Did W s (sendFast a1 a2 u) := by
  unfold sendFast
  exact did_ite (tcMod_did (within hW rfl) h) (dropFast_did (within hW rfl) h)

theorem scInput_did {W : Nat} {s : State} {a1 : Nat} {a2 : Bool} {u : State}
    (hW : W &&& 0x10000000000 = 0x10000000000) (h : Did W s u) : Did W s (scInput a1 a2 u) := by
  unfold scInput
  exact scLevel_did (within hW rfl) (srcPut_did (within hW rfl) h)

/-! Pcie -/

theorem intxEffect_did {W : Nat} {s : State} {a1 : Nat} {a2 : Nat} {a3 : Bool} {u : State}
    (hW : W &&& 0x18000000000 = 0x18000000000) (h : Did W s u) : Did W s (intxEffect a1 a2 a3 u) := by
  unfold intxEffect
  exact did_ite (scInput_did (within hW rfl) (pciePut_did (within hW rfl) h)) h

/-! Ports -/

theorem sbNakEffect_did {W : Nat} {s : State} {a1 : Nat} {a2 : Nat} {u : State}
    (hW : W &&& 0x400000806 = 0x400000806) (h : Did W s u) : Did W s (sbNakEffect a1 a2 u) := by
  unfold sbNakEffect
  extract_lets z1 z2
  clear_value z1
  clear_value z2
  refine did_ite (flushPort_did (within hW rfl) (did_foldl ?_ (bumpObj_did (within hW rfl) (portPut_did (within hW rfl) h)))) h
  intro x3 x4 h5
  exact emitWord_did (within hW rfl) h5

theorem sbCreditEffect_did {W : Nat} {s : State} {a1 : Nat} {a2 : Nat} {u : State}
    (hW : W &&& 0x400000004 = 0x400000004) (h : Did W s u) : Did W s (sbCreditEffect a1 a2 u) := by
  unfold sbCreditEffect
  extract_lets z1 z2 z3
  clear_value z1
  clear_value z2
  clear_value z3
  exact did_ite (flushPort_did (within hW rfl) (portPut_did (within hW rfl) h)) h

theorem seenVia_did {W : Nat} {s : State} {u : State}
    (hW : W &&& 0x800000000 = 0x800000000) (h : Did W s u) : Did W s (seenVia u) := by
  unfold seenVia
  refine did_foldl ?_ h
  intro x1 x2 h3
  exact did_ite (setMark_did (within hW rfl) h3) h3

theorem peerIncarnation_did {W : Nat} {s : State} {a1 : Nat} {u : State}
    (hW : W &&& 0x10800000002 = 0x10800000002) (h : Did W s u) : Did W s (peerIncarnation a1 u) := by
  unfold peerIncarnation
  extract_lets z1 z2 z3 z4 z5
  clear_value z1
  clear_value z2
  clear_value z3
  clear_value z4
  have hz5 : Did W s z5 := did_mk h
  clear_value z5
  exact did_ite h (did_ite h (chipReturn_did (within hW rfl) hz5))

theorem portOut_did {W : Nat} {s : State} {a1 : Nat} {a2 : Nat} {u : State}
    (hW : W &&& 0x53ee70cd86e = 0x53ee70cd86e) (h : Did W s u) : Did W s (portOut a1 a2 u) := by
  unfold portOut
  exact resendFailed_did (within hW rfl) h (scRaise_did (within hW rfl) (portMod_did (within hW rfl) h))

theorem judgeState_did {W : Nat} {s : State} {a1 : Nat} {u : State}
    (hW : W &&& 0x53ee70cd86e = 0x53ee70cd86e) (h : Did W s u) : Did W s (judgeState a1 u) := by
  unfold judgeState
  extract_lets z1 z2
  clear_value z1
  have hz2 : Did W s z2 := scRaise_did (within hW rfl) (portMod_did (within hW rfl) h)
  clear_value z2
  exact did_ite (did_ite (did_ite h (did_ite (chipReturn_did (within hW rfl) hz2) hz2)) (did_ite h (portOut_did (within hW rfl) h))) h

theorem sbStateEffect_did {W : Nat} {s : State} {a1 : Nat} {a2 : Nat} {u : State}
    (hW : W &&& 0x53ee70cd86e = 0x53ee70cd86e) (h : Did W s u) : Did W s (sbStateEffect a1 a2 u) := by
  unfold sbStateEffect
  extract_lets z1 z2 z3 z4
  clear_value z1
  clear_value z2
  clear_value z3
  have hz4 : Did W s z4 := portPut_did (within hW rfl) h
  clear_value z4
  exact did_ite h (unrouted_did (within hW rfl) (seenVia_did (within hW rfl) (peerIncarnation_did (within hW rfl) (judgeState_did (within hW rfl) hz4))))

theorem goingDownEffect_did {W : Nat} {s : State} {a1 : Nat} {a2 : Nat} {u : State}
    (hW : W &&& 0x53ee70cd96e = 0x53ee70cd96e) (h : Did W s u) : Did W s (goingDownEffect a1 a2 u) := by
  unfold goingDownEffect
  extract_lets z1
  clear_value z1
  refine did_ite h ?_
  split
  · exact h
  · extract_lets z7
    clear_value z7
    refine loseChip_did (within hW rfl) (did_foldl ?_ h)
    intro x8 x9 h10
    exact closeWindow_did (within hW rfl) (portOut_did (within hW rfl) h10)

/-! Signals -/

theorem taken_did {W : Nat} {s : State} {a1 : Nat} {u : State}
    (hW : W &&& 0x10000000000 = 0x10000000000) (h : Did W s u) : Did W s (taken a1 u) := by
  unfold taken
  exact srcPut_did (within hW rfl) h

theorem evqWrite_did {W : Nat} {s : State} {a1 : Nat} {a2 : Option Nat} {u : State}
    (hW : W &&& 0x52ec000d86e = 0x52ec000d86e) (h : Did W s u) : Did W s (evqWrite a1 a2 u) := by
  unfold evqWrite
  refine did_ite h (did_ite (scMod_did (within hW rfl) h) ?_)
  split
  · exact scMod_did (within hW rfl) (memErr_did (within hW rfl) h)
  · extract_lets z4
    have hz4 : Did W s z4.2 := memWrite_did (within hW rfl) h
    clear_value z4
    split
    · exact scMod_did (within hW rfl) hz4
    · exact scMod_did (within hW rfl) hz4

theorem sendMsix_did {W : Nat} {s : State} {a1 : Nat} {u : State}
    (hW : W &&& 0x10000000006 = 0x10000000006) (h : Did W s u) : Did W s (sendMsix a1 u) := by
  unfold sendMsix
  extract_lets c hold d
  have hh : Did W s hold := scMod_did (within hW rfl) h
  have hd : Did W s d.2 := drawFree_did (within hW rfl) h
  refine did_ite (did_ite ?_ hd) (did_ite hh (emit_did (within hW rfl) h))
  exact did_mk hh (kcounts := Nat.le_succ _)

theorem sendNormal_did {W : Nat} {s : State} {a1 : W64} {u : State}
    (hW : W &&& 0x12000000006 = 0x12000000006) (h : Did W s u) : Did W s (sendNormal a1 u) := by
  unfold sendNormal
  exact did_ite (sendMsix_did (within hW rfl) h) (emit_did (within hW rfl) (eipSet_did (within hW rfl) h))

theorem deliver_did {W : Nat} {s : State} {a1 : Nat} {a2 : Option Nat} {u : State}
    (hW : W &&& 0x52ec000d86e = 0x52ec000d86e) (h : Did W s u) : Did W s (deliver a1 a2 u) := by
  unfold deliver
  extract_lets z1 z2
  clear_value z1
  have hz2 : Did W s z2 := taken_did (within hW rfl) (evqWrite_did (within hW rfl) h)
  clear_value z2
  exact did_ite (sendFast_did (within hW rfl) hz2) (sendNormal_did (within hW rfl) hz2)

theorem fastDeliveryEffect_did {W : Nat} {s : State} {u : State}
    (hW : W &&& 0x52ec000d86e = 0x52ec000d86e) (h : Did W s u) : Did W s (fastDeliveryEffect u) := by
  unfold fastDeliveryEffect
  split
  · exact deliver_did (within hW rfl) h
  · exact h

/-! Links -/

theorem heartbeatCollectionEffect_did {W : Nat} {s : State} {u : State}
    (hW : W &&& 0x50000000d6e = 0x50000000d6e) (h : Did W s u) : Did W s (heartbeatCollectionEffect u) := by
  unfold heartbeatCollectionEffect
  extract_lets z1 z2 z3 z4
  clear_value z1
  clear_value z2
  clear_value z3
  have hz4 : Did W s z4 := did_mk h
  clear_value z4
  refine did_ite (did_foldl ?_ hz4) (did_foldl ?_ hz4)
  · intro x5 x6 h7
    exact fatal_did (within hW rfl) h7
  · intro x8 x9 h10
    exact did_ite (linkFail_did (within hW rfl) h10) h10

/-! Ports -/

theorem heartbeatPortEffect_did {W : Nat} {s : State} {a1 : Nat} {u : State}
    (hW : W &&& 0x53ee70cd96e = 0x53ee70cd96e) (h : Did W s u) : Did W s (heartbeatPortEffect a1 u) := by
  unfold heartbeatPortEffect
  extract_lets z1 z2 z3
  clear_value z1
  have hz2 : Did W s z2 := portOut_did (within hW rfl) (portPut_did (within hW rfl) h)
  clear_value z2
  have hz3 : Did W s z3 := did_ite (closeWindow_did (within hW rfl) hz2) hz2
  clear_value z3
  exact did_ite h (did_ite (loseChip_did (within hW rfl) hz3) hz3)

theorem execPortHeartbeatLoss_did {W : Nat} {s : State} {a1 : Nat} {u : State}
    (hW : W &&& 0x53ee70cd96e = 0x53ee70cd96e) (h : Did W s u) : ODid W s (execPortHeartbeatLoss a1 u) := by
  unfold execPortHeartbeatLoss
  refine onUnit_odid ?_
  exact heartbeatPortEffect_did (within hW rfl) h

/-! Links -/

theorem putRoutes_did {W : Nat} {s : State} {u : State}
    (hW : W &&& 0x100000000200 = 0x100000000200) (h : Did W s u) : Did W s (putRoutes u) := by
  unfold putRoutes
  extract_lets z1
  exact did_mk h

/-! Coherence -/

theorem mdMaintRun_did {W : Nat} {s : State} {a1 : Nat} {a2 : Nat} {a3 : Bool} {u : State}
    (hW : W &&& 0x522c000d86e = 0x522c000d86e) (h : Did W s u) : ODid W s (mdMaintRun a1 a2 a3 u) := by
  unfold mdMaintRun
  refine onUnit_odid ?_
  exact onDie_did (within hW rfl) (mdCommand_did (within hW rfl) h) h

theorem execMaintCleanInvalidate_did {W : Nat} {s : State} {a1 : Nat} {a2 : Bool} {u : State}
    (hW : W &&& 0x522c000d86e = 0x522c000d86e) (h : Did W s u) : ODid W s (execMaintCleanInvalidate a1 a2 u) := by
  unfold execMaintCleanInvalidate
  exact mdMaintRun_did (within hW rfl) h

/-! Ports -/

theorem execAckSend_did {W : Nat} {s : State} {a1 : Nat} {u : State}
    (hW : W &&& 0x4 = 0x4) (h : Did W s u) : ODid W s (execAckSend a1 u) := by
  unfold execAckSend
  refine onUnit_odid ?_
  exact onlyIf_did (emitSideband_did (within hW rfl) h) h

theorem forgetPlane_did {W : Nat} {s : State} {a1 : Nat} {u : State}
    (hW : W &&& 0x800000000 = 0x800000000) (h : Did W s u) : Did W s (forgetPlane a1 u) := by
  unfold forgetPlane
  exact did_mk h

theorem trainAttemptEffect_did {W : Nat} {s : State} {a1 : Nat} {u : State}
    (hW : W &&& 0x10c00000002 = 0x10c00000002) (h : Did W s u) : Did W s (trainAttemptEffect a1 u) := by
  unfold trainAttemptEffect
  extract_lets z1 z2 z3 z4
  clear_value z1
  clear_value z2
  have hz3 : Did W s z3 := did_ite (forgetPlane_did (within hW rfl) h) h
  clear_value z3
  clear_value z4
  exact did_ite (scRaise_did (within hW rfl) (portPut_did (within hW rfl) hz3)) h

theorem execPortTrainAttempt_did {W : Nat} {s : State} {a1 : Nat} {u : State}
    (hW : W &&& 0x10c00000002 = 0x10c00000002) (h : Did W s u) : ODid W s (execPortTrainAttempt a1 u) := by
  unfold execPortTrainAttempt
  refine onUnit_odid ?_
  exact trainAttemptEffect_did (within hW rfl) h

/-! Links -/

theorem execFlitCrcError_did {W : Nat} {s : State} {a1 : Nat} {u : State}
    (hW : W &&& 0x806 = 0x806) (h : Did W s u) : ODid W s (execFlitCrcError a1 u) := by
  unfold execFlitCrcError
  refine onUnit_odid ?_
  exact onlyIf_did (emit_did (within hW rfl) (bumpObj_did (within hW rfl) h)) h

/-! Pcie -/

theorem inboundReadEffect_did {W : Nat} {s : State} {a1 : Nat} {a2 : Nat} {a3 : Nat} {a4 : Nat} {u : State}
    (hW : W &&& 0x5eec000d86e = 0x5eec000d86e) (h : Did W s u) : Did W s (inboundReadEffect a1 a2 a3 a4 u) := by
  unfold inboundReadEffect
  refine did_ite h ?_
  split
  · exact h
  · exact emit_did (within hW rfl) h
  · refine inboundFree_did (within hW rfl) ?_ h
    extract_lets z8
    have hz8 : Did W s z8.2 := regLoad_did (within hW rfl) h
    clear_value z8
    exact emit_did (within hW rfl) hz8
  · split
    · exact emit_did (within hW rfl) (memErr_did (within hW rfl) h)
    · exact memAnswer_did (within hW rfl) h
  · exact memAnswer_did (within hW rfl) h

/-! Signals -/

theorem execFastDelivery_did {W : Nat} {s : State} {u : State}
    (hW : W &&& 0x52ec000d86e = 0x52ec000d86e) (h : Did W s u) : ODid W s (execFastDelivery u) := by
  unfold execFastDelivery
  refine next_odid ?_
  exact fastDeliveryEffect_did (within hW rfl) h

/-! Start -/

theorem discard_did {W : Nat} {s u : State} {a1 : Phase}
    (hW : W &&& 0x1ffffffffffe = 0x1ffffffffffe) (h : Did W s u) : Did W s (discard a1 u) := by
  have h' := abandonUpdate_did (within hW rfl) h
  unfold discard
  extract_lets z
  have hz : Did W s z := h'
  clear_value z
  exact did_mk hz (khbm := fun _ => rfl)

theorem execGoingDownEnd_did {W : Nat} {s : State} {u : State}
    (hW : W &&& 0x1ffffffffffe = 0x1ffffffffffe) (h : Did W s u) : ODid W s (execGoingDownEnd u) := by
  unfold execGoingDownEnd
  refine next_odid ?_
  exact onlyIf_did (discard_did (within hW rfl) h) h

theorem pwrGoodDeassertEffect_did {W : Nat} {s : State} {u : State}
    (hW : W &&& 0x1ffffffffffe = 0x1ffffffffffe) (h : Did W s u) : Did W s (pwrGoodDeassertEffect u) := by
  unfold pwrGoodDeassertEffect
  extract_lets z1
  have hz1 : Did W s z1 := discard_did (within hW rfl) h
  clear_value z1
  exact did_mk hz1

theorem execPwrGoodDeassert_did {W : Nat} {s : State} {u : State}
    (hW : W &&& 0x1ffffffffffe = 0x1ffffffffffe) (h : Did W s u) : ODid W s (execPwrGoodDeassert u) := by
  unfold execPwrGoodDeassert
  refine next_odid ?_
  exact pwrGoodDeassertEffect_did (within hW rfl) h

/-! Links -/

theorem setUnitSide_did {W : Nat} {s : State} {u : State} {a2 : LaneUnit} {a3 : Bool} {a4 : Side}
    (hW : W &&& 0x400000100 = 0x400000100) (h : Did W s u) : Did W s (setUnitSide u a2 a3 a4) := by
  unfold setUnitSide
  split
  · exact linkPut_did (within hW rfl) h
  · exact portPut_did (within hW rfl) h

theorem eyeLane_did {W : Nat} {s : State} {a1 : LaneUnit} {a2 : Nat} {u : State} {a4 : Bool × Nat × Nat}
    (hW : W &&& 0x50480000d6e = 0x50480000d6e) (h : Did W s u) : Did W s (eyeLane a1 a2 u a4) := by
  unfold eyeLane
  extract_lets z1 z2 z3
  clear_value z1
  clear_value z2
  have hz3 : Did W s z3 := setUnitSide_did (within hW rfl) h
  clear_value z3
  exact did_ite h (did_ite (laneFail_did (within hW rfl) hz3) hz3)

theorem eyeScanEffect_did {W : Nat} {s : State} {a1 : LaneUnit} {a2 : List (Bool × Nat × Nat)} {u : State}
    (hW : W &&& 0x50480000d6e = 0x50480000d6e) (h : Did W s u) : Did W s (eyeScanEffect a1 a2 u) := by
  unfold eyeScanEffect
  refine did_ite h ?_
  extract_lets z1 z2 z3 z4
  have hz3 : Did W s z3 := by
    subst z3
    split
    · exact did_ite h (oset_did (within hW rfl) h)
    · exact h
  clear_value z3
  clear_value z4
  refine did_foldl ?_ hz3
  intro x9 x10 h11
  exact eyeLane_did (within hW rfl) h11

/-! Ports -/

theorem portTrainedEffect_did {W : Nat} {s : State} {a1 : Nat} {a2 : List Nat} {a3 : List Nat} {u : State}
    (hW : W &&& 0x400000000 = 0x400000000) (h : Did W s u) : Did W s (portTrainedEffect a1 a2 a3 u) := by
  unfold portTrainedEffect
  extract_lets z1 z2 z3
  clear_value z1
  clear_value z2
  clear_value z3
  exact did_ite h (did_ite (portPut_did (within hW rfl) h) (portPut_did (within hW rfl) h))

/-! MemorySys -/

theorem migrationEffect_did {W : Nat} {s : State} {a1 : Nat} {u : State}
    (hW : W &&& 0x5048000096e = 0x5048000096e) (h : Did W s u) : Did W s (migrationEffect a1 u) := by
  unfold migrationEffect
  extract_lets z1
  clear_value z1
  split
  · exact h
  · extract_lets z7 z8 z9 z10 z11
    clear_value z7
    have hz8 : Did W s z8 := mdPut_did (within hW rfl) h
    clear_value z8
    have hz10 : Did W s z10 := did_mk hz8
    clear_value z10
    have hz11 : Did W s z11 := clarynEvent_did (within hW rfl) hz10
    clear_value z11
    exact startMigration_did (within hW rfl) (closeWindow_did (within hW rfl) hz11)

theorem execMigrationComplete_did {W : Nat} {s : State} {a1 : Nat} {u : State}
    (hW : W &&& 0x5048000096e = 0x5048000096e) (h : Did W s u) : ODid W s (execMigrationComplete a1 u) := by
  unfold execMigrationComplete
  refine onUnit_odid ?_
  exact onlyIf_did (migrationEffect_did (within hW rfl) h) h

/-! Signals -/

theorem execImsicSeteipnum_did {W : Nat} {s : State} {a1 : Nat} {a2 : Nat} {a3 : W32} {u : State}
    (hW : W &&& 0x2000000000 = 0x2000000000) (h : Did W s u) : ODid W s (execImsicSeteipnum a1 a2 a3 u) := by
  unfold execImsicSeteipnum
  refine onUnit_odid ?_
  exact onlyIf_did (eipSet_did (within hW rfl) h) h

/-! Coherence -/

theorem toEngine_did {W : Nat} {s : State} {a1 : MaintUnit} {u : State} {u1 : State}
    (hW : W &&& 0x1806 = 0x1806) (h : Did W s u) (h1 : Did W s u1) : Did W s (toEngine a1 u u1) := by
  unfold toEngine
  exact onDie_did (within hW rfl) h h1

theorem execL2MaintCleanInvalidate_did {W : Nat} {s : State} {a1 : MaintUnit} {a2 : Bool} {u : State}
    (hW : W &&& 0x10100001806 = 0x10100001806) (h : Did W s u) : ODid W s (execL2MaintCleanInvalidate a1 a2 u) := by
  unfold execL2MaintCleanInvalidate
  refine onUnit_odid ?_
  exact toEngine_did (within hW rfl) (l2Command_did (within hW rfl) h) h

/-! Pcie -/

theorem msixSet_did {W : Nat} {s : State} {a1 : Bool} {a2 : Bool} {u : State}
    (hW : W &&& 0x18000000004 = 0x18000000004) (h : Did W s u) : Did W s (msixSet a1 a2 u) := by
  unfold msixSet
  exact releaseMsix_did (within hW rfl) (pcieMod_did (within hW rfl) h)

theorem msixReset_did {W : Nat} {s : State} {u : State}
    (hW : W &&& 0x10000002000 = 0x10000002000) (h : Did W s u) : Did W s (msixReset u) := by
  unfold msixReset
  exact scMod_did (within hW rfl) (did_mk h)

theorem endpointResetEffect_did {W : Nat} {s : State} {u : State}
    (hW : W &&& 0x5bee70cf86e = 0x5bee70cf86e) (h : Did W s u) : Did W s (endpointResetEffect u) := by
  unfold endpointResetEffect
  extract_lets z1
  have hz1 : Did W s z1 := by
    refine did_foldl ?_ h
    intro x2 x3 h4
    exact did_ite (teardownStart_did (within hW rfl) h4) h4
  clear_value z1
  exact msixReset_did (within hW rfl) (regPut_did (within hW rfl) (pcieMod_did (within hW rfl) hz1))

theorem configEffect_did {W : Nat} {s : State} {a1 : CfgOp} {u : State}
    (hW : W &&& 0x5bee70cf86e = 0x5bee70cf86e) (h : Did W s u) : Did W s (configEffect a1 u) := by
  unfold configEffect
  refine did_ite h (did_ite (emit_did (within hW rfl) h) ?_)
  split
  · extract_lets z3
    have hz3 : Did W s z3.2 := configWord_did (within hW rfl) h
    clear_value z3
    exact emit_did (within hW rfl) hz3
  · exact emit_did (within hW rfl) (configSet_did (within hW rfl) h)
  · exact emit_did (within hW rfl) (bar4SizeSet_did (within hW rfl) h)
  · exact emit_did (within hW rfl) h
  · exact emit_did (within hW rfl) h
  · exact emit_did (within hW rfl) (msixSet_did (within hW rfl) h)
  · exact emit_did (within hW rfl) h
  · extract_lets z17
    have hz17 : Did W s z17 := pcieMod_did (within hW rfl) h
    clear_value z17
    exact emit_did (within hW rfl) (did_ite (endpointResetEffect_did (within hW rfl) hz17) hz17)
  · extract_lets z20
    have hz20 : Did W s z20.2 := aerWord_did (within hW rfl) h
    clear_value z20
    exact emit_did (within hW rfl) hz20
  · exact emit_did (within hW rfl) (aerSet_did (within hW rfl) h)

/-! Links -/

theorem replayHeld_did {W : Nat} {s : State} {a1 : Nat} {a2 : Nat} {u : State}
    (hW : W &&& 0x806 = 0x806) (h : Did W s u) : Did W s (replayHeld a1 a2 u) := by
  unfold replayHeld
  exact did_ite h (emit_did (within hW rfl) (bumpObj_did (within hW rfl) h))

theorem execLaneBitLockLost_did {W : Nat} {s : State} {a1 : LaneUnit} {a2 : Bool} {a3 : Nat} {u : State}
    (hW : W &&& 0x53ee70cdd6e = 0x53ee70cdd6e) (h : Did W s u) : ODid W s (execLaneBitLockLost a1 a2 a3 u) := by
  unfold execLaneBitLockLost
  refine onUnit_odid ?_
  exact resendFailed_did (within hW rfl) h (laneFail_did (within hW rfl) h)

/-! Ports -/

theorem execSbNak_did {W : Nat} {s : State} {a1 : Nat} {a2 : Nat} {u : State}
    (hW : W &&& 0x400000806 = 0x400000806) (h : Did W s u) : ODid W s (execSbNak a1 a2 u) := by
  unfold execSbNak
  refine onUnit_odid ?_
  exact sbNakEffect_did (within hW rfl) h

/-! Pcie -/

theorem execIntxAssert_did {W : Nat} {s : State} {a1 : Nat} {a2 : Nat} {u : State}
    (hW : W &&& 0x18000000000 = 0x18000000000) (h : Did W s u) : ODid W s (execIntxAssert a1 a2 u) := by
  unfold execIntxAssert
  refine onUnit_odid ?_
  exact intxEffect_did (within hW rfl) h

/-! Signals -/

theorem evqErrorEffect_did {W : Nat} {s : State} {a1 : Nat} {u : State}
    (hW : W &&& 0x52ec000d86e = 0x52ec000d86e) (h : Did W s u) : Did W s (evqErrorEffect a1 u) := by
  unfold evqErrorEffect
  split
  · exact did_ite (deliver_did (within hW rfl) h) h
  · exact h

/-! Ports -/

theorem creditSendEffect_did {W : Nat} {s : State} {a1 : Nat} {a2 : Nat} {u : State}
    (hW : W &&& 0x400000004 = 0x400000004) (h : Did W s u) : Did W s (creditSendEffect a1 a2 u) := by
  unfold creditSendEffect
  extract_lets z1
  clear_value z1
  exact did_ite (emitSideband_did (within hW rfl) (portPut_did (within hW rfl) h)) h

theorem execCreditSend_did {W : Nat} {s : State} {a1 : Nat} {a2 : Nat} {u : State}
    (hW : W &&& 0x400000004 = 0x400000004) (h : Did W s u) : ODid W s (execCreditSend a1 a2 u) := by
  unfold execCreditSend
  refine onUnit_odid ?_
  exact creditSendEffect_did (within hW rfl) h

theorem execSbIdle_did {W : Nat} {s : State} {a1 : Nat} {u : State}
    (hW : W &&& 0x0 = 0x0) (h : Did W s u) : ODid W s (execSbIdle a1 u) := by
  unfold execSbIdle
  refine onUnit_odid ?_
  exact h

/-! Signals -/

theorem normalDeliveryEffect_did {W : Nat} {s : State} {u : State}
    (hW : W &&& 0x52ec000d86e = 0x52ec000d86e) (h : Did W s u) : Did W s (normalDeliveryEffect u) := by
  unfold normalDeliveryEffect
  split
  · exact deliver_did (within hW rfl) h
  · exact h

theorem execNormalDelivery_did {W : Nat} {s : State} {u : State}
    (hW : W &&& 0x52ec000d86e = 0x52ec000d86e) (h : Did W s u) : ODid W s (execNormalDelivery u) := by
  unfold execNormalDelivery
  refine next_odid ?_
  exact normalDeliveryEffect_did (within hW rfl) h

/-! Coherence -/

theorem execMaintCmdReserved_did {W : Nat} {s : State} {a1 : MaintUnit} {a2 : W64} {u : State}
    (hW : W &&& 0x180001806 = 0x180001806) (h : Did W s u) : ODid W s (execMaintCmdReserved a1 a2 u) := by
  unfold execMaintCmdReserved
  refine onUnit_odid ?_
  exact toEngine_did (within hW rfl) (onlyIf_did (maintErr_did (within hW rfl) h) h) h

/-! Ports -/

theorem execSbGoingDown_did {W : Nat} {s : State} {a1 : Nat} {a2 : Nat} {u : State}
    (hW : W &&& 0x53ee70cd96e = 0x53ee70cd96e) (h : Did W s u) : ODid W s (execSbGoingDown a1 a2 u) := by
  unfold execSbGoingDown
  refine onUnit_odid ?_
  exact goingDownEffect_did (within hW rfl) h

/-! Start -/

theorem discover_did {W : Nat} {s : State} {u : State}
    (hW : W &&& 0x150000000bc6 = 0x150000000bc6) (h : Did W s u) : Did W s (discover u) := by
  unfold discover
  extract_lets z1 z2 z3 z4
  clear_value z2
  have hz3 : Did W s z3 := did_mk h
  clear_value z3
  have hz4 : Did W s z4 := by
    refine did_foldl ?_ hz3
    intro x5 x6 h7
    exact did_ite (record_did (within hW rfl) h7) h7
  clear_value z4
  refine putRoutes_did (within hW rfl) (did_foldl ?_ hz4)
  intro x8 x9 h10
  exact judgeLink_did (within hW rfl) h10

/-! Links -/

theorem routeInstallEffect_did {W : Nat} {s : State} {a1 : Nat} {u : State}
    (hW : W &&& 0x150480000f6e = 0x150480000f6e) (h : Did W s u) : Did W s (routeInstallEffect a1 u) := by
  unfold routeInstallEffect
  refine did_ite h ?_
  extract_lets z1 z2
  clear_value z1
  have hz2 : Did W s z2 := replayHeld_did (within hW rfl) (linkPut_did (within hW rfl) h)
  clear_value z2
  exact closeWindow_did (within hW rfl) (putRoutes_did (within hW rfl) (did_mk hz2))

theorem execRouteInstallDone_did {W : Nat} {s : State} {a1 : Nat} {u : State}
    (hW : W &&& 0x150480000f6e = 0x150480000f6e) (h : Did W s u) : ODid W s (execRouteInstallDone a1 u) := by
  unfold execRouteInstallDone
  refine onUnit_odid ?_
  exact routeInstallEffect_did (within hW rfl) h

theorem execHeartbeatCollectionEnd_did {W : Nat} {s : State} {u : State}
    (hW : W &&& 0x50000000d6e = 0x50000000d6e) (h : Did W s u) : ODid W s (execHeartbeatCollectionEnd u) := by
  unfold execHeartbeatCollectionEnd
  refine next_odid ?_
  exact heartbeatCollectionEffect_did (within hW rfl) h

theorem linkRetrainEffect_did {W : Nat} {s : State} {a1 : LaneUnit} {u : State}
    (hW : W &&& 0x5048000096e = 0x5048000096e) (h : Did W s u) : Did W s (linkRetrainEffect a1 u) := by
  unfold linkRetrainEffect
  split
  · extract_lets z3 z4
    clear_value z3
    have hz4 : Did W s z4 := replayHeld_did (within hW rfl) (linkPut_did (within hW rfl) h)
    clear_value z4
    exact did_ite h (closeWindow_did (within hW rfl) (clarynEvent_did (within hW rfl) hz4))
  · extract_lets z7 z8
    clear_value z7
    have hz8 : Did W s z8 := scRaise_did (within hW rfl) (portPut_did (within hW rfl) h)
    clear_value z8
    exact did_ite h (flushPort_did (within hW rfl) (closeWindow_did (within hW rfl) (clarynEvent_did (within hW rfl) hz8)))

theorem execLinkRetrainDone_did {W : Nat} {s : State} {a1 : LaneUnit} {u : State}
    (hW : W &&& 0x5048000096e = 0x5048000096e) (h : Did W s u) : ODid W s (execLinkRetrainDone a1 u) := by
  unfold execLinkRetrainDone
  refine onUnit_odid ?_
  exact linkRetrainEffect_did (within hW rfl) h

/-! Signals -/

theorem execScSrcCfgWrite_did {W : Nat} {s : State} {a1 : Nat} {a2 : W64} {a3 : W64} {u : State}
    (hW : W &&& 0x10000000000 = 0x10000000000) (h : Did W s u) : ODid W s (execScSrcCfgWrite a1 a2 a3 u) := by
  unfold execScSrcCfgWrite
  refine onUnit_odid ?_
  exact srcCfgSet_did (within hW rfl) h

/-! Start -/

theorem discoveryCompleteEffect_did {W : Nat} {s : State} {a1 : Nat} {u : State}
    (hW : W &&& 0x170008000bce = 0x170008000bce) (h : Did W s u) : Did W s (discoveryCompleteEffect a1 u) := by
  unfold discoveryCompleteEffect
  refine did_ite h ?_
  extract_lets z1
  have hz1 : Did W s z1 := oset_did (within hW rfl) (discover_did (within hW rfl) h)
  clear_value z1
  exact did_ite (enterHeld_did (within hW rfl) hz1) (did_ite (enterHeld_did (within hW rfl) hz1) (startPower_did (within hW rfl) hz1))

theorem execDiscoveryComplete_did {W : Nat} {s : State} {a1 : Nat} {u : State}
    (hW : W &&& 0x170008000bce = 0x170008000bce) (h : Did W s u) : ODid W s (execDiscoveryComplete a1 u) := by
  unfold execDiscoveryComplete
  refine next_odid ?_
  exact discoveryCompleteEffect_did (within hW rfl) h

/-! Links -/

theorem bondErrorEffect_did {W : Nat} {s : State} {a1 : Nat} {a2 : Bool} {u : State}
    (hW : W &&& 0x5000000086e = 0x5000000086e) (h : Did W s u) : Did W s (bondErrorEffect a1 a2 u) := by
  unfold bondErrorEffect
  exact did_ite h (did_ite (bumpObj_did (within hW rfl) h) (fatal_did (within hW rfl) h))

theorem execBondErrorDetected_did {W : Nat} {s : State} {a1 : Nat} {a2 : Bool} {u : State}
    (hW : W &&& 0x5000000086e = 0x5000000086e) (h : Did W s u) : ODid W s (execBondErrorDetected a1 a2 u) := by
  unfold execBondErrorDetected
  refine onUnit_odid ?_
  exact bondErrorEffect_did (within hW rfl) h

theorem heartbeatLossEffect_did {W : Nat} {s : State} {a1 : Nat} {a2 : Bool} {u : State}
    (hW : W &&& 0x5000000086e = 0x5000000086e) (h : Did W s u) : Did W s (heartbeatLossEffect a1 a2 u) := by
  unfold heartbeatLossEffect
  refine did_ite h ?_
  split
  · exact fatal_did (within hW rfl) h
  · exact did_mk h

theorem execHeartbeatLoss_did {W : Nat} {s : State} {a1 : Nat} {a2 : Bool} {u : State}
    (hW : W &&& 0x5000000086e = 0x5000000086e) (h : Did W s u) : ODid W s (execHeartbeatLoss a1 a2 u) := by
  unfold execHeartbeatLoss
  refine onUnit_odid ?_
  exact heartbeatLossEffect_did (within hW rfl) h

theorem execCheckFlitSend_did {W : Nat} {s : State} {a1 : Nat} {a2 : Bool} {u : State}
    (hW : W &&& 0x4 = 0x4) (h : Did W s u) : ODid W s (execCheckFlitSend a1 a2 u) := by
  unfold execCheckFlitSend
  refine onUnit_odid ?_
  exact onlyIf_did (emit_did (within hW rfl) h) h

theorem checkFlitEffect_did {W : Nat} {s : State} {a1 : Nat} {a2 : Bool} {a3 : Nat} {a4 : Nat} {a5 : Bool} {u : State}
    (hW : W &&& 0x50480000d6e = 0x50480000d6e) (h : Did W s u) : Did W s (checkFlitEffect a1 a2 a3 a4 a5 u) := by
  unfold checkFlitEffect
  refine did_ite h ?_
  extract_lets z1 z2 z3 z4 z5 z6 z7
  clear_value z1
  clear_value z2
  clear_value z3
  clear_value z4
  clear_value z5
  clear_value z6
  have hz7 : Did W s z7 := linkPut_did (within hW rfl) h
  clear_value z7
  exact did_ite (laneFail_did (within hW rfl) hz7) hz7

theorem execCheckFlitReceived_did {W : Nat} {s : State} {a1 : Nat} {a2 : Bool} {a3 : Nat} {a4 : Nat} {a5 : Bool} {u : State}
    (hW : W &&& 0x50480000d6e = 0x50480000d6e) (h : Did W s u) : ODid W s (execCheckFlitReceived a1 a2 a3 a4 a5 u) := by
  unfold execCheckFlitReceived
  refine onUnit_odid ?_
  exact checkFlitEffect_did (within hW rfl) h

theorem execEyeMarginScan_did {W : Nat} {s : State} {a1 : LaneUnit} {a2 : List (Bool × Nat × Nat)} {u : State}
    (hW : W &&& 0x53ee70cdd6e = 0x53ee70cdd6e) (h : Did W s u) : ODid W s (execEyeMarginScan a1 a2 u) := by
  unfold execEyeMarginScan
  refine onUnit_odid ?_
  exact resendFailed_did (within hW rfl) h (eyeScanEffect_did (within hW rfl) h)

/-! MemorySys -/

theorem scrubEffect_did {W : Nat} {s : State} {a1 : Nat} {a2 : Bool} {a3 : Bool} {u : State}
    (hW : W &&& 0x502c000186e = 0x502c000186e) (h : Did W s u) : Did W s (scrubEffect a1 a2 a3 u) := by
  unfold scrubEffect
  refine did_ite h ?_
  extract_lets z1
  have hz1 : Did W s z1 := did_ite (readCorrected_did (within hW rfl) h) h
  clear_value z1
  exact did_ite (memErr_did (within hW rfl) (readUncorrectable_did (within hW rfl) hz1)) hz1

theorem execScrubStep_did {W : Nat} {s : State} {a1 : Nat} {a2 : Bool} {a3 : Bool} {u : State}
    (hW : W &&& 0x502c000186e = 0x502c000186e) (h : Did W s u) : ODid W s (execScrubStep a1 a2 a3 u) := by
  unfold execScrubStep
  refine next_odid ?_
  exact scrubEffect_did (within hW rfl) h

theorem candidateEffect_did {W : Nat} {s : State} {a1 : Nat} {u : State}
    (hW : W &&& 0x5008000086e = 0x5008000086e) (h : Did W s u) : Did W s (candidateEffect a1 u) := by
  unfold candidateEffect
  extract_lets z1 z2 z3
  clear_value z1
  clear_value z2
  exact did_ite (becomeCandidate_did (within hW rfl) h) h

theorem execChannelCandidate_did {W : Nat} {s : State} {a1 : Nat} {u : State}
    (hW : W &&& 0x5008000086e = 0x5008000086e) (h : Did W s u) : ODid W s (execChannelCandidate a1 u) := by
  unfold execChannelCandidate
  refine onUnit_odid ?_
  exact candidateEffect_did (within hW rfl) h

theorem execRetCmd_did {W : Nat} {s : State} {a1 : Nat} {a2 : W64} {u : State}
    (hW : W &&& 0x5008000186e = 0x5008000186e) (h : Did W s u) : ODid W s (execRetCmd a1 a2 u) := by
  unfold execRetCmd
  refine onUnit_odid ?_
  exact onDie_did (within hW rfl) (retCmdEffect_did (within hW rfl) h) h

theorem execRetGo_did {W : Nat} {s : State} {a1 : Nat} {a2 : W64} {u : State}
    (hW : W &&& 0x5008000186e = 0x5008000186e) (h : Did W s u) : ODid W s (execRetGo a1 a2 u) := by
  unfold execRetGo
  refine onUnit_odid ?_
  exact onDie_did (within hW rfl) (onlyIf_did (startMigration_did (within hW rfl) h) h) h

/-! Coherence -/

theorem execMaintClean_did {W : Nat} {s : State} {a1 : Nat} {a2 : Bool} {u : State}
    (hW : W &&& 0x522c000d86e = 0x522c000d86e) (h : Did W s u) : ODid W s (execMaintClean a1 a2 u) := by
  unfold execMaintClean
  exact mdMaintRun_did (within hW rfl) h

theorem execMaintInvalidate_did {W : Nat} {s : State} {a1 : Nat} {a2 : Bool} {u : State}
    (hW : W &&& 0x522c000d86e = 0x522c000d86e) (h : Did W s u) : ODid W s (execMaintInvalidate a1 a2 u) := by
  unfold execMaintInvalidate
  exact mdMaintRun_did (within hW rfl) h

theorem execMaintZero_did {W : Nat} {s : State} {a1 : Nat} {a2 : Bool} {u : State}
    (hW : W &&& 0x522c000d86e = 0x522c000d86e) (h : Did W s u) : ODid W s (execMaintZero a1 a2 u) := by
  unfold execMaintZero
  exact mdMaintRun_did (within hW rfl) h

theorem execL2MaintClean_did {W : Nat} {s : State} {a1 : MaintUnit} {a2 : Bool} {u : State}
    (hW : W &&& 0x10100001806 = 0x10100001806) (h : Did W s u) : ODid W s (execL2MaintClean a1 a2 u) := by
  unfold execL2MaintClean
  refine onUnit_odid ?_
  exact toEngine_did (within hW rfl) (l2Command_did (within hW rfl) h) h

/-! MemorySys -/

theorem ncEffect_did {W : Nat} {s : State} {a1 : Requester} {a2 : Bool} {a3 : Nat} {a4 : Nat} {a5 : W64} {u : State}
    (hW : W &&& 0x522c000d86e = 0x522c000d86e) (h : Did W s u) : Did W s (ncEffect a1 a2 a3 a4 a5 u) := by
  unfold ncEffect
  extract_lets z1 z2 z3
  clear_value z1
  have hz2 : Did W s z2.2 := ncWrite_did (within hW rfl) h
  clear_value z2
  have hz3 : Did W s z3.2.2 := ncRead_did (within hW rfl) h
  clear_value z3
  refine did_ite h ?_
  split
  · exact errorTo_did (within hW rfl) h
  · split
    · refine did_ite h (did_ite ?_ ?_)
      · split
        · exact errorTo_did (within hW rfl) hz2
        · exact hz2
      · split
        · exact errorTo_did (within hW rfl) hz3
        · exact emit_did (within hW rfl) hz3
    · exact h

theorem execNcAccess_did {W : Nat} {s : State} {a1 : Requester} {a2 : Bool} {a3 : Nat} {a4 : Nat} {a5 : W64} {a6 : List (Nat × Bool)} {u : State}
    (hW : W &&& 0x522c000d86e = 0x522c000d86e) (h : Did W s u) : ODid W s (execNcAccess a1 a2 a3 a4 a5 a6 u) := by
  unfold execNcAccess
  refine onUnit_odid ?_
  refine withFlaws_did (within hW rfl) ?_ h
  intro x1 h2
  exact ncEffect_did (within hW rfl) h2

/-! Ports -/

theorem execCodewordUncorrectable_did {W : Nat} {s : State} {a1 : Nat} {u : State}
    (hW : W &&& 0x400000004 = 0x400000004) (h : Did W s u) : ODid W s (execCodewordUncorrectable a1 u) := by
  unfold execCodewordUncorrectable
  refine onUnit_odid ?_
  exact uncorrectableEffect_did (within hW rfl) h

theorem execSbCredit_did {W : Nat} {s : State} {a1 : Nat} {a2 : Nat} {u : State}
    (hW : W &&& 0x400000004 = 0x400000004) (h : Did W s u) : ODid W s (execSbCredit a1 a2 u) := by
  unfold execSbCredit
  refine onUnit_odid ?_
  exact sbCreditEffect_did (within hW rfl) h

theorem execStateSend_did {W : Nat} {s : State} {a1 : Nat} {a2 : Nat} {u : State}
    (hW : W &&& 0x4 = 0x4) (h : Did W s u) : ODid W s (execStateSend a1 a2 u) := by
  unfold execStateSend
  refine onUnit_odid ?_
  exact onlyIf_did (emitSideband_did (within hW rfl) h) h

/-! Pcie -/

theorem execPcieInboundRead_did {W : Nat} {s : State} {a1 : Nat} {a2 : Nat} {a3 : Nat} {a4 : Nat} {a5 : List (Nat × Bool)} {u : State}
    (hW : W &&& 0x5eec000d86e = 0x5eec000d86e) (h : Did W s u) : ODid W s (execPcieInboundRead a1 a2 a3 a4 a5 u) := by
  unfold execPcieInboundRead
  refine onUnit_odid ?_
  refine withFlaws_did (within hW rfl) ?_ h
  intro x1 h2
  exact inboundReadEffect_did (within hW rfl) h2

theorem execPcieConfigRequest_did {W : Nat} {s : State} {a1 : CfgOp} {u : State}
    (hW : W &&& 0x5bee70cf86e = 0x5bee70cf86e) (h : Did W s u) : ODid W s (execPcieConfigRequest a1 u) := by
  unfold execPcieConfigRequest
  refine next_odid ?_
  exact configEffect_did (within hW rfl) h

theorem execIntxDeassert_did {W : Nat} {s : State} {a1 : Nat} {a2 : Nat} {u : State}
    (hW : W &&& 0x18000000000 = 0x18000000000) (h : Did W s u) : ODid W s (execIntxDeassert a1 a2 u) := by
  unfold execIntxDeassert
  refine onUnit_odid ?_
  exact intxEffect_did (within hW rfl) h

/-! Signals -/

theorem execGpirqChange_did {W : Nat} {s : State} {a1 : Nat} {a2 : Bool} {u : State}
    (hW : W &&& 0x10000000000 = 0x10000000000) (h : Did W s u) : ODid W s (execGpirqChange a1 a2 u) := by
  unfold execGpirqChange
  refine onUnit_odid ?_
  exact scInput_did (within hW rfl) h

theorem execScEvent_did {W : Nat} {s : State} {a1 : Nat} {a2 : W32} {u : State}
    (hW : W &&& 0x10000000002 = 0x10000000002) (h : Did W s u) : ODid W s (execScEvent a1 a2 u) := by
  unfold execScEvent
  refine next_odid ?_
  exact scRaise_did (within hW rfl) h

theorem execScPendSet_did {W : Nat} {s : State} {a1 : W64} {u : State}
    (hW : W &&& 0x10000000002 = 0x10000000002) (h : Did W s u) : ODid W s (execScPendSet a1 u) := by
  unfold execScPendSet
  refine next_odid ?_
  exact scPendSetEffect_did (within hW rfl) h

theorem execEvqWriteError_did {W : Nat} {s : State} {a1 : Nat} {u : State}
    (hW : W &&& 0x52ec000d86e = 0x52ec000d86e) (h : Did W s u) : ODid W s (execEvqWriteError a1 u) := by
  unfold execEvqWriteError
  refine next_odid ?_
  exact evqErrorEffect_did (within hW rfl) h

/-! Ports -/

theorem execPortTrainingComplete_did {W : Nat} {s : State} {a1 : Nat} {a2 : List Nat} {a3 : List Nat} {u : State}
    (hW : W &&& 0x400000000 = 0x400000000) (h : Did W s u) : ODid W s (execPortTrainingComplete a1 a2 a3 u) := by
  unfold execPortTrainingComplete
  refine onUnit_odid ?_
  exact portTrainedEffect_did (within hW rfl) h

/-! Pcie -/

theorem execEndpointReset_did {W : Nat} {s : State} {u : State}
    (hW : W &&& 0x5bee70cf86e = 0x5bee70cf86e) (h : Did W s u) : ODid W s (execEndpointReset u) := by
  unfold execEndpointReset
  refine next_odid ?_
  exact onlyIf_did (endpointResetEffect_did (within hW rfl) h) h

/-! Signals -/

theorem execScUnroutedRead_did {W : Nat} {s : State} {u : State}
    (hW : W &&& 0x10000000004 = 0x10000000004) (h : Did W s u) : ODid W s (execScUnroutedRead u) := by
  unfold execScUnroutedRead
  refine next_odid ?_
  exact emit_did (within hW rfl) (unroutedRead_did (within hW rfl) h)

theorem execScFastDroppedRead_did {W : Nat} {s : State} {u : State}
    (hW : W &&& 0x10000000004 = 0x10000000004) (h : Did W s u) : ODid W s (execScFastDroppedRead u) := by
  unfold execScFastDroppedRead
  refine next_odid ?_
  exact emit_did (within hW rfl) (fastDroppedRead_did (within hW rfl) h)

end Sys2Proof.Machine
end

