-- ==== Sys2Proof/Laws/DidPacer.lean ====
section
/-! SUPPORT. What each operation of these units can do, one lemma for each: the Pacer, application cores, the engines' start and completion. -/

-- one theorem after the other: a thread for each of hundreds of small theorems takes more memory than the check allows
set_option Elab.async false

set_option linter.all false

namespace Sys2Proof.Machine

open Sys2Proof

/-! Pacer -/

theorem execEcall_did {W : Nat} {s : State} {a1 : Nat} {u : State}
    (hW : W &&& 0xc000 = 0xc000) (h : Did W s u) : ODid W s (execEcall a1 u) := by
  unfold execEcall
  refine onUnit_odid ?_
  refine pacerRun_did (within hW rfl) ?_ h
  intro x1 x2 h3
  exact PacerRes.fault_did

/-! Cores -/

theorem acMod_did {W : Nat} {s : State} {a1 : Nat} {a2 : Core → Core} {u : State}
    (hW : W &&& 0x2000000000 = 0x2000000000) (h : Did W s u) : Did W s (acMod a1 a2 u) := by
  unfold acMod
  exact corePut_did (within hW rfl) h

/-! Pcie -/

theorem endRead_did {W : Nat} {s : State} {a1 : Nat} {a2 : PRead} {a3 : Except Nat (List Byte)} {u : State}
    (hW : W &&& 0x1a00000d806 = 0x1a00000d806) (h : Did W s u) : Did W s (endRead a1 a2 a3 u) := by
  unfold endRead
  extract_lets z1 z2 z3
  clear_value z1
  have hz2 : Did W s z2 := pciePut_did (within hW rfl) h
  clear_value z2
  have hz3 : Did W s z3 := acMod_did (within hW rfl) hz2
  clear_value z3
  refine did_ite ?_ ?_
  · split
    · exact noteAnswer_did (within hW rfl) hz2
    · exact noteAnswer_did (within hW rfl) hz2
  · split
    · exact errorTo_did (within hW rfl) hz3
    · extract_lets z12
      clear_value z12
      exact emit_did (within hW rfl) (corePut_did (within hW rfl) hz3)

theorem completionEffect_did {W : Nat} {s : State} {a1 : Nat} {a2 : Nat} {a3 : Bool} {a4 : List Byte} {u : State}
    (hW : W &&& 0x1a00000d806 = 0x1a00000d806) (h : Did W s u) : Did W s (completionEffect a1 a2 a3 a4 u) := by
  unfold completionEffect
  split
  · exact did_ite (endRead_did (within hW rfl) h) (did_ite (endRead_did (within hW rfl) h) h)
  · exact h

/-! Cores -/

theorem acCount_did {W : Nat} {s : State} {a1 : Nat} {a2 : Nat} {u : State}
    (hW : W &&& 0x2000000002 = 0x2000000002) (h : Did W s u) : Did W s (acCount a1 a2 u).2 := by
  unfold acCount
  extract_lets z1 z2 z3
  clear_value z1
  have hz2 : Did W s z2.2 := drawFree_did (within hW rfl) h
  clear_value z2
  clear_value z3
  refine did_ite_of (fun x : (_ × _) => x.2) ?_ ?_
  · exact h
  · dsimp only
    exact acMod_did (within hW rfl) hz2

/-! Pacer -/

theorem onCustom_did {W : Nat} {s : State} {a1 : Nat} {a2 : Instr} {a3 : Item → State → PacerRes} {u : State}
    (hW : W &&& 0xc000 = 0xc000) (g3 : ∀ x1 x2, Did W s x2 → RDid W s (a3 x1 x2)) (h : Did W s u) : ODid W s (onCustom a1 a2 a3 u) := by
  unfold onCustom
  refine onUnit_odid ?_
  refine pacerRun_did (within hW rfl) ?_ h
  intro x1 x2 h3
  refine g3 _ _ ?_
  exact h3

theorem execPfence_did {W : Nat} {s : State} {a1 : Nat} {a2 : BitVec 5} {a3 : BitVec 5} {a4 : BitVec 5} {u : State}
    (hW : W &&& 0xc000 = 0xc000) (h : Did W s u) : ODid W s (execPfence a1 a2 a3 a4 u) := by
  unfold execPfence
  refine onCustom_did (within hW rfl) ?_ h
  intro x1 x2 h3
  refine checked_did ?_
  extract_lets z4
  clear_value z4
  refine rdid_ite ?_ ?_
  · exact PacerRes.stall_did
  · refine PacerRes.next_did ?_
    exact h3

/-! Cores -/

theorem fetchLine_did {W : Nat} {s : State} {a1 : Nat} {a2 : Nat} {u : State}
    (hW : W &&& 0x52ec000d86e = 0x52ec000d86e) (h : Did W s u) : Did W s (fetchLine a1 a2 u).2 := by
  unfold fetchLine
  extract_lets z1 z2
  have hz2 : Did W s z2.2 := drawFree_did (within hW rfl) h
  clear_value z2
  split
  · subst z1
    dsimp only
    split
    · rename_i e5 e6 e7 e8
      have k9 : Did W s e7 := Did.of_eq (congrArg (fun x : (_ × _) => x.2) e8) (readLines_did (within hW rfl) h)
      exact k9
    · rename_i e10 e11 e12 e13
      dsimp only
      refine acMod_did (within hW rfl) ?_
      have k14 : Did W s e12 := Did.of_eq (congrArg (fun x : (_ × _) => x.2) e13) (readLines_did (within hW rfl) h)
      exact k14
  · refine did_ite_of (fun x : (_ × _) => x.2) ?_ ?_
    · exact hz2
    · subst z1
      dsimp only
      split
      · rename_i e18 e19 e20 e21
        have k22 : Did W s e20 := Did.of_eq (congrArg (fun x : (_ × _) => x.2) e21) (readLines_did (within hW rfl) hz2)
        exact k22
      · rename_i e23 e24 e25 e26
        dsimp only
        refine acMod_did (within hW rfl) ?_
        have k27 : Did W s e25 := Did.of_eq (congrArg (fun x : (_ × _) => x.2) e26) (readLines_did (within hW rfl) hz2)
        exact k27

theorem fetchBytes_did {W : Nat} {s : State} {a1 : Nat} {a2 : List (Nat × Nat)} {u : State}
    (hW : W &&& 0x52ec000d86e = 0x52ec000d86e) (h : Did W s u) : Did W s (fetchBytes a1 a2 u).2 := by
  induction a2 generalizing u with
  | nil  =>
    unfold fetchBytes
    dsimp only
    exact h
  | cons r1 r2 r3 =>
    unfold fetchBytes
    dsimp only
    split
    · rename_i e4 e5 e6 e7
      have k8 : Did W s e6 := Did.of_eq (congrArg (fun x : (_ × _) => x.2) e7) (fetchLine_did (within hW rfl) h)
      exact k8
    · rename_i e9 e10 e11 e12
      refine r3 ?_
      have k13 : Did W s e11 := Did.of_eq (congrArg (fun x : (_ × _) => x.2) e12) (fetchLine_did (within hW rfl) h)
      exact k13

theorem acFetch_did {W : Nat} {s : State} {a1 : Nat} {a2 : Nat} {u : State}
    (hW : W &&& 0x52ec000d86e = 0x52ec000d86e) (h : Did W s u) : Did W s (acFetch a1 a2 u) := by
  unfold acFetch
  refine did_ite (acTrap_did (within hW rfl) h) ?_
  split
  · exact errorTo_did (within hW rfl) h
  · refine did_ite (acTrap_did (within hW rfl) h) ?_
    split
    · rename_i e6 e7 e8 e9
      refine errorTo_did (within hW rfl) ?_
      have k10 : Did W s e8 := Did.of_eq (congrArg (fun x : (_ × _) => x.2) e9) (fetchBytes_did (within hW rfl) h)
      exact k10
    · rename_i e11 e12 e13 e14
      refine emit_did (within hW rfl) ?_
      have k15 : Did W s e13 := Did.of_eq (congrArg (fun x : (_ × _) => x.2) e14) (fetchBytes_did (within hW rfl) h)
      exact k15

theorem atomicRead_did {W : Nat} {s : State} {a1 : Nat} {a2 : Nat} {a3 : Nat} {a4 : Nat} {u : State}
    (hW : W &&& 0x522c000d86e = 0x522c000d86e) (h : Did W s u) : Did W s (atomicRead a1 a2 a3 a4 u).2.2 := by
  unfold atomicRead
  extract_lets z1
  have hz1 : Did W s z1.2 := by
    refine did_ite_of (fun x : (_ × _) => x.2) ?_ ?_
    · exact h
    · exact groupOwn_did (within hW rfl) h
  clear_value z1
  split
  · exact hz1
  · exact spanRead_did (within hW rfl) hz1

theorem dropResv_did {W : Nat} {s : State} {a1 : Nat} {a2 : Nat} {u : State}
    (hW : W &&& 0x200000000 = 0x200000000) (h : Did W s u) : Did W s (dropResv a1 a2 u) := by
  unfold dropResv
  exact cohMod_did (within hW rfl) h

theorem acPuts_did {W : Nat} {s : State} {a1 : Nat} {a2 : Nat} {a3 : List Byte} {u : State}
    (hW : W &&& 0x52ec000d86e = 0x52ec000d86e) (h : Did W s u) : Did W s (acPuts a1 a2 a3 u) := by
  unfold acPuts
  extract_lets z1
  have hz1 : Did W s z1 := by
    refine did_foldl ?_ h
    intro x2 x3 h4
    exact dropResv_did (within hW rfl) h4
  clear_value z1
  split
  · rename_i e5 e6 e7 e8
    refine errorTo_did (within hW rfl) ?_
    have k9 : Did W s e7 := Did.of_eq (congrArg (fun x : (_ × _) => x.2) e8) (writeLines_did (within hW rfl) hz1)
    exact k9
  · rename_i e10 e11 e12
    have k13 : Did W s e11 := Did.of_eq (congrArg (fun x : (_ × _) => x.2) e12) (writeLines_did (within hW rfl) hz1)
    exact k13

theorem acSet_did {W : Nat} {s : State} {a1 : Nat} {a2 : Nat} {a3 : W64} {u : State}
    (hW : W &&& 0x2000000000 = 0x2000000000) (h : Did W s u) : Did W s (acSet a1 a2 a3 u) := by
  unfold acSet
  exact acMod_did (within hW rfl) h

theorem acFree_did {W : Nat} {s : State} {a1 : Nat} {a2 : Nat} {u : State}
    (hW : W &&& 0x2000000002 = 0x2000000002) (h : Did W s u) : Did W s (acFree a1 a2 u) := by
  unfold acFree
  extract_lets z1 z2
  have hz1 : Did W s z1.2 := drawFree_did (within hW rfl) h
  clear_value z1
  have hz2 : Did W s z2.2 := drawFree_did (within hW rfl) hz1
  clear_value z2
  exact acMod_did (within hW rfl) hz2

theorem atomicStore_did {W : Nat} {s : State} {a1 : Nat} {a2 : Nat} {a3 : Nat} {a4 : Nat} {a5 : Nat} {a6 : Nat} {a7 : List Byte} {u : State}
    (hW : W &&& 0x52ec000d86e = 0x52ec000d86e) (h : Did W s u) : Did W s (atomicStore a1 a2 a3 a4 a5 a6 a7 u) := by
  unfold atomicStore
  extract_lets z1 z2 z3 z4 z5 z6 z7 z8
  clear_value z1
  clear_value z2
  have hz3 : Did W s z3 := acMod_did (within hW rfl) h
  clear_value z3
  have hz4 : Did W s z4.2 := drawFree_did (within hW rfl) h
  clear_value z4
  clear_value z5
  have hz6 : Did W s z6 := acMod_did (within hW rfl) hz4
  clear_value z6
  have hz7 : Did W s z7 := cohMod_did (within hW rfl) hz6
  clear_value z7
  have hz8 : Did W s z8 := acMod_did (within hW rfl) h
  clear_value z8
  refine did_ite (cohMod_did (within hW rfl) hz3) (did_ite (did_ite (acPuts_did (within hW rfl) hz7) hz7) (did_ite (did_ite (acPuts_did (within hW rfl) hz8) hz8) ?_))
  split
  · exact acPuts_did (within hW rfl) (acSet_did (within hW rfl) h)
  · exact acFree_did (within hW rfl) h

theorem acAtomic_did {W : Nat} {s : State} {a1 : Nat} {a2 : Nat} {a3 : Nat} {a4 : Nat} {a5 : Nat} {a6 : Nat} {u : State}
    (hW : W &&& 0x52ec000d86e = 0x52ec000d86e) (h : Did W s u) : Did W s (acAtomic a1 a2 a3 a4 a5 a6 u) := by
  unfold acAtomic
  extract_lets z1
  clear_value z1
  refine did_ite (acTrap_did (within hW rfl) h) (did_ite (acTrap_did (within hW rfl) h) ?_)
  split
  · exact errorTo_did (within hW rfl) h
  · refine did_ite (acTrap_did (within hW rfl) h) ?_
    split
    · rename_i e7 e8 e9 e10 e11
      refine acTrap_did (within hW rfl) (memErr_did (within hW rfl) ?_)
      have k12 : Did W s e10 := Did.of_eq (congrArg (fun x : (_ × (_ × _)) => x.2.2) e11) (atomicRead_did (within hW rfl) h)
      exact k12
    · rename_i e13 e14 e15 e16
      refine atomicStore_did (within hW rfl) ?_
      have k17 : Did W s e15 := Did.of_eq (congrArg (fun x : (_ × (_ × _)) => x.2.2) e16) (atomicRead_did (within hW rfl) h)
      exact k17

theorem acWhenFree_did {W : Nat} {s : State} {a1 : Nat} {a2 : AcOp} {u : State} {u1 : State}
    (hW : W &&& 0x802 = 0x802) (h : Did W s u) (h1 : Did W s u1) : Did W s (acWhenFree a1 a2 u u1) := by
  unfold acWhenFree
  split
  · exact whenFree_did (within hW rfl) h h1
  · exact h

theorem acStepped_did {W : Nat} {s : State} {a1 : Nat} {u : State}
    (hW : W &&& 0x2000000000 = 0x2000000000) (h : Did W s u) : Did W s (acStepped a1 u) := by
  unfold acStepped
  exact did_ite (acMod_did (within hW rfl) h) h

theorem acNext_did {W : Nat} {s : State} {a1 : Nat} {a2 : Nat} {u : State}
    (hW : W &&& 0x2000000000 = 0x2000000000) (h : Did W s u) : Did W s (acNext a1 a2 u) := by
  unfold acNext
  exact acMod_did (within hW rfl) h

theorem acCsr_did {W : Nat} {s : State} {a1 : Nat} {a2 : Nat} {u : State}
    (hW : W &&& 0x6000000002 = 0x6000000002) (h : Did W s u) : Did W s (acCsr a1 a2 u).2 := by
  unfold acCsr
  refine did_ite_of (fun x : (_ × _) => x.2) ?_ ?_
  · extract_lets z1
    have hz1 : Did W s z1.2 := mtimeNow_did (within hW rfl) h
    clear_value z1
    exact hz1
  · refine did_ite_of (fun x : (_ × _) => x.2) ?_ ?_
    · exact h
    · refine did_ite_of (fun x : (_ × _) => x.2) ?_ ?_
      · exact h
      · refine did_ite_of (fun x : (_ × _) => x.2) ?_ ?_
        · exact h
        · refine did_ite_of (fun x : (_ × _) => x.2) ?_ ?_
          · exact h
          · refine did_ite_of (fun x : (_ × _) => x.2) ?_ ?_
            · exact h
            · refine did_ite_of (fun x : (_ × _) => x.2) ?_ ?_
              · exact acCount_did (within hW rfl) h
              · refine did_ite_of (fun x : (_ × _) => x.2) ?_ ?_
                · exact acCount_did (within hW rfl) h
                · split
                  · exact h
                  · exact drawFree_did (within hW rfl) h

theorem acCsrDo_did {W : Nat} {s : State} {a1 : Nat} {a2 : Nat} {a3 : Nat} {a4 : Option (W64 → W64)} {u : State}
    (hW : W &&& 0x6000000002 = 0x6000000002) (h : Did W s u) : Did W s (acCsrDo a1 a2 a3 a4 u) := by
  unfold acCsrDo
  extract_lets z1 z2 z3 z4 z5
  clear_value z1
  have hz2 : Did W s z2.2 := drawFree_did (within hW rfl) h
  clear_value z2
  clear_value z3
  have hz4 : Did W s z4.2 := acCsr_did (within hW rfl) h
  clear_value z4
  have hz5 : Did W s z5.2 := by
    refine did_ite_of (fun x : (_ × _) => x.2) ?_ ?_
    · exact hz4
    · exact drawFree_did (within hW rfl) hz4
  clear_value z5
  split
  · exact takeTrap_did (within hW rfl) hz2
  · split
    · exact acSet_did (within hW rfl) hz4
    · exact acSet_did (within hW rfl) (acMod_did (within hW rfl) hz5)

theorem acInteger_did {W : Nat} {s : State} {a1 : Nat} {a2 : Nat} {u : State}
    (hW : W &&& 0x2000000002 = 0x2000000002) (h : Did W s u) : Did W s (acInteger a1 a2 u) := by
  unfold acInteger
  extract_lets z1 z2
  clear_value z1
  have hz2 : Did W s z2.2 := drawFree_did (within hW rfl) h
  clear_value z2
  split
  · exact acMod_did (within hW rfl) h
  · exact takeTrap_did (within hW rfl) (acMod_did (within hW rfl) hz2)
  · exact acFree_did (within hW rfl) h

theorem acVset_did {W : Nat} {s : State} {a1 : Nat} {a2 : Nat} {a3 : Nat} {a4 : Bool} {a5 : Nat} {u : State}
    (hW : W &&& 0x2000000002 = 0x2000000002) (h : Did W s u) : Did W s (acVset a1 a2 a3 a4 a5 u) := by
  unfold acVset
  extract_lets z1 z2 z3
  clear_value z1
  clear_value z2
  have hz3 : Did W s z3.2 := drawFree_did (within hW rfl) h
  clear_value z3
  exact acMod_did (within hW rfl) hz3

theorem acBreak_did {W : Nat} {s : State} {a1 : Nat} {u : State}
    (hW : W &&& 0x2000000002 = 0x2000000002) (h : Did W s u) : Did W s (acBreak a1 u) := by
  unfold acBreak
  extract_lets z1 z2 z3
  clear_value z1
  clear_value z2
  have hz3 : Did W s z3.2 := drawFree_did (within hW rfl) h
  clear_value z3
  exact did_ite (acMod_did (within hW rfl) h) (takeTrap_did (within hW rfl) hz3)

theorem acFloat_did {W : Nat} {s : State} {a1 : Nat} {a2 : Nat} {u : State}
    (hW : W &&& 0x2000000002 = 0x2000000002) (h : Did W s u) : Did W s (acFloat a1 a2 u) := by
  unfold acFloat
  extract_lets z1
  have hz1 : Did W s z1.2 := drawFree_did (within hW rfl) h
  clear_value z1
  exact acMod_did (within hW rfl) hz1

theorem acVector_did {W : Nat} {s : State} {a1 : Nat} {a2 : Nat} {u : State}
    (hW : W &&& 0x2000000002 = 0x2000000002) (h : Did W s u) : Did W s (acVector a1 a2 u) := by
  unfold acVector
  extract_lets z1 z2 z3 z4
  have hz1 : Did W s z1.2 := drawFree_did (within hW rfl) h
  clear_value z1
  have hz2 : Did W s z2.2 := drawFree_did (within hW rfl) hz1
  clear_value z2
  have hz3 : Did W s z3.2 := drawFree_did (within hW rfl) hz2
  clear_value z3
  have hz4 : Did W s z4.2 := drawFree_did (within hW rfl) hz3
  clear_value z4
  exact acMod_did (within hW rfl) hz4

/-! Pacer -/

theorem setX_did {W : Nat} {s : State} {a1 : Nat} {a2 : Nat} {a3 : W64} {u : State}
    (hW : W &&& 0x4000 = 0x4000) (h : Did W s u) : RDid W s (setX a1 a2 a3 u) := by
  unfold setX
  refine PacerRes.next_did ?_
  exact tcMod_did (within hW rfl) h

theorem execPrdop_did {W : Nat} {s : State} {a1 : Nat} {a2 : BitVec 5} {a3 : BitVec 5} {a4 : BitVec 5} {u : State}
    (hW : W &&& 0xc000 = 0xc000) (h : Did W s u) : ODid W s (execPrdop a1 a2 a3 a4 u) := by
  unfold execPrdop
  refine onCustom_did (within hW rfl) ?_ h
  intro x1 x2 h3
  extract_lets z4 z5
  clear_value z4
  clear_value z5
  refine checked_did ?_
  split
  · exact setX_did (within hW rfl) h3
  · exact PacerRes.fault_did

/-! Cores -/

theorem dropCopies_did {W : Nat} {s : State} {a1 : Nat} {u : State}
    (hW : W &&& 0x200000000 = 0x200000000) (h : Did W s u) : Did W s (dropCopies a1 u) := by
  unfold dropCopies
  exact entDel_did (within hW rfl) (cohMod_did (within hW rfl) h)

/-! Engine -/

theorem dmaErrorEffect_did {W : Nat} {s : State} {a1 : Nat} {a2 : Nat} {a3 : Nat} {u : State}
    (hW : W &&& 0xd806 = 0xd806) (h : Did W s u) : Did W s (dmaErrorEffect a1 a2 a3 u) := by
  unfold dmaErrorEffect
  extract_lets z1
  clear_value z1
  exact did_ite h (memFault_did (within hW rfl) (memErr_did (within hW rfl) h))

/-! Pcie -/

theorem transferTimeout_did {W : Nat} {s : State} {a1 : Nat} {a2 : Nat} {u : State}
    (hW : W &&& 0x1ac0000d806 = 0x1ac0000d806) (h : Did W s u) : Did W s (transferTimeout a1 a2 u) := by
  unfold transferTimeout
  split
  · split
    · exact endRead_did (within hW rfl) h
    · exact h
  · split
    · exact failWindow_did (within hW rfl) h
    · exact dmaErrorEffect_did (within hW rfl) h

theorem execPcieCompletion_did {W : Nat} {s : State} {a1 : Nat} {a2 : Nat} {a3 : Bool} {a4 : List Byte} {u : State}
    (hW : W &&& 0x1a00000d806 = 0x1a00000d806) (h : Did W s u) : ODid W s (execPcieCompletion a1 a2 a3 a4 u) := by
  unfold execPcieCompletion
  refine onUnit_odid ?_
  exact completionEffect_did (within hW rfl) h

/-! Debug -/

theorem onHalted_did {W : Nat} {s : State} {a1 : Nat} {a2 : TCore → State} {u : State}
    (hW : W &&& 0x0 = 0x0) (g2 : ∀ x1, Did W s (a2 x1)) (h : Did W s u) : Did W s (onHalted a1 a2 u) := by
  unfold onHalted
  exact did_ite (g2 _) h

/-! Pacer -/

theorem csrRead_did {W : Nat} {s u v : State} {a1 a2 : Nat} {a3 : Item} {x : W64}
    (hW : W &&& 0x4002 = 0x4002) (h : Did W s u) (e : csrRead a1 a2 a3 u = some (x, v)) : Did W s v := by
  unfold csrRead at e
  extract_lets c d at e
  have hd : Did W s d.2 := drawFree_did (within hW rfl) h
  clear_value c d
  obtain e | e := some_ite e
  · cases e
    exact tcPut_did (within hW rfl) hd
  iterate 10
    obtain e | e := some_ite e
    · cases e
      exact h
  cases e

theorem csrWrite_did {W : Nat} {s u v : State} {a1 a2 : Nat} {a3 : W64}
    (hW : W &&& 0x4000 = 0x4000) (h : Did W s u) (e : csrWrite a1 a2 a3 u = some v) : Did W s v := by
  unfold csrWrite at e
  extract_lets at e
  repeat' (first | (cases e; exact tcMod_did (within hW rfl) h) | (cases e; done) | split at e)

theorem csrBody_did {W : Nat} {s : State} {a1 : Nat} {a2 : Nat} {a3 : Nat} {a4 : Nat} {a5 : Nat} {a6 : Item} {u : State}
    (hW : W &&& 0x4002 = 0x4002) (h : Did W s u) : RDid W s (csrBody a1 a2 a3 a4 a5 a6 u) := by
  unfold csrBody
  extract_lets z1 z2
  clear_value z1
  clear_value z2
  refine rdid_ite ?_ ?_
  · exact PacerRes.fault_did
  · split
    · exact PacerRes.fault_did
    · rename_i e5 e6 e7 e8
      refine rdid_ite ?_ ?_
      · refine setX_did (within hW rfl) ?_
        have k9 : Did W s e7 := csrRead_did (within hW rfl) h e8
        exact k9
      · split
        · exact PacerRes.fault_did
        · rename_i e12 e13 e14
          refine setX_did (within hW rfl) ?_
          have k15 : Did W s e13 := by
            refine csrWrite_did (within hW rfl) ?_ e14
            have k16 : Did W s e7 := csrRead_did (within hW rfl) h e8
            exact k16
          exact k15

theorem execPacerCsrAccess_did {W : Nat} {s : State} {a1 : Nat} {a2 : BitVec 3} {a3 : BitVec 12} {a4 : BitVec 5} {a5 : BitVec 5} {u : State}
    (hW : W &&& 0xc002 = 0xc002) (h : Did W s u) : ODid W s (execPacerCsrAccess a1 a2 a3 a4 a5 u) := by
  unfold execPacerCsrAccess
  refine onUnit_odid ?_
  refine pacerRun_did (within hW rfl) ?_ h
  intro x1 x2 h3
  exact csrBody_did (within hW rfl) h3

theorem execPsqadv_did {W : Nat} {s : State} {a1 : Nat} {a2 : BitVec 5} {a3 : BitVec 5} {a4 : BitVec 5} {u : State}
    (hW : W &&& 0xc000 = 0xc000) (h : Did W s u) : ODid W s (execPsqadv a1 a2 a3 a4 u) := by
  unfold execPsqadv
  refine onCustom_did (within hW rfl) ?_ h
  intro x1 x2 h3
  extract_lets z4 z5 z6 z7
  clear_value z4
  clear_value z5
  clear_value z6
  clear_value z7
  refine checked_did ?_
  refine PacerRes.next_did ?_
  split
  · exact itemPut_did (within hW rfl) h3
  · exact h3

/-! Debug -/

theorem onCore_did {W : Nat} {s : State} {a1 : Nat} {a2 : Core → State} {u : State}
    (hW : W &&& 0x0 = 0x0) (g2 : ∀ x1, Did W s (a2 x1)) (h : Did W s u) : Did W s (onCore a1 a2 u) := by
  unfold onCore
  exact did_ite (g2 _) h

theorem coreResume_did {W : Nat} {s : State} {a1 : Nat} {u : State}
    (hW : W &&& 0x2000000000 = 0x2000000000) (h : Did W s u) : Did W s (coreResume a1 u) := by
  unfold coreResume
  refine onCore_did (within hW rfl) ?_ h
  intro x1
  exact corePut_did (within hW rfl) h

/-! Engine -/

theorem leave_did {W : Nat} {s : State} {a1 : Nat} {a2 : Op} {u : State}
    (hW : W &&& 0x4000 = 0x4000) (h : Did W s u) : Did W s (leave a1 a2 u) := by
  unfold leave
  exact dropOp_did (within hW rfl) (tcMod_did (within hW rfl) h)

theorem completeMatrix_did {W : Nat} {s : State} {a1 : Nat} {a2 : Op} {u : State}
    (hW : W &&& 0x4000 = 0x4000) (h : Did W s u) : Did W s (completeMatrix a1 a2 u) := by
  unfold completeMatrix
  extract_lets z1
  clear_value z1
  exact did_ite (did_ite (leave_did (within hW rfl) (tcPut_did (within hW rfl) h)) h) (leave_did (within hW rfl) h)

/-! Pacer -/

theorem bankUse_did {W : Nat} {s : State} {a1 : Nat} {a2 : Nat} {a3 : Nat} {u : State}
    (hW : W &&& 0x4000 = 0x4000) (h : Did W s u) : Did W s (bankUse a1 a2 a3 u) := by
  unfold bankUse
  exact did_ite (tcMod_did (within hW rfl) h) h

theorem execPacerStore_did {W : Nat} {s : State} {a1 : Nat} {a2 : Bool} {a3 : BitVec 3} {a4 : BitVec 5} {a5 : BitVec 5} {a6 : BitVec 12} {u : State}
    (hW : W &&& 0xc000 = 0xc000) (h : Did W s u) : ODid W s (execPacerStore a1 a2 a3 a4 a5 a6 u) := by
  unfold execPacerStore
  refine onUnit_odid ?_
  refine pacerRun_did (within hW rfl) ?_ h
  intro x1 x2 h3
  extract_lets z4 z5 z6
  clear_value z4
  clear_value z5
  clear_value z6
  refine checked_did ?_
  refine rdid_ite ?_ ?_
  · exact PacerRes.stall_did
  · refine PacerRes.next_did ?_
    exact tcMod_did (within hW rfl) (bankUse_did (within hW rfl) h3)

theorem execPwait_did {W : Nat} {s : State} {a1 : Nat} {a2 : BitVec 5} {a3 : BitVec 5} {a4 : BitVec 5} {u : State}
    (hW : W &&& 0xc000 = 0xc000) (h : Did W s u) : ODid W s (execPwait a1 a2 a3 a4 u) := by
  unfold execPwait
  refine onCustom_did (within hW rfl) ?_ h
  intro x1 x2 h3
  refine checked_did ?_
  refine rdid_ite ?_ ?_
  · exact PacerRes.stall_did
  · refine PacerRes.next_did ?_
    exact h3

/-! Debug -/

theorem dmMod_did {W : Nat} {s : State} {a1 : Dm → Dm} {u : State}
    (hW : W &&& 0x80000000000 = 0x80000000000) (h : Did W s u) : Did W s (dmMod a1 u) := by
  unfold dmMod
  exact did_mk h

theorem coreHalt_did {W : Nat} {s : State} {a1 : Nat} {u : State}
    (hW : W &&& 0x2000000000 = 0x2000000000) (h : Did W s u) : Did W s (coreHalt a1 u) := by
  unfold coreHalt
  refine onCore_did (within hW rfl) ?_ h
  intro x1
  exact did_ite h (corePut_did (within hW rfl) h)

theorem dmControl_did {W : Nat} {s : State} {a1 : Nat} {u : State}
    (hW : W &&& 0x82000000000 = 0x82000000000) (h : Did W s u) : Did W s (dmControl a1 u) := by
  unfold dmControl
  refine did_ite (dmMod_did (within hW rfl) h) ?_
  extract_lets z1 z2
  clear_value z1
  have hz2 : Did W s z2 := dmMod_did (within hW rfl) h
  clear_value z2
  exact did_ite (coreHalt_did (within hW rfl) hz2) (did_ite (coreResume_did (within hW rfl) (dmMod_did (within hW rfl) hz2)) hz2)

/-! Engine -/

theorem startDma_did {W : Nat} {s : State} {a1 : Nat} {a2 : Op} {u : State}
    (hW : W &&& 0x5aee000d86e = 0x5aee000d86e) (h : Did W s u) : Did W s (startDma a1 a2 u) := by
  unfold startDma
  split
  · exact h
  · split
    · exact h
    · extract_lets z11 z12
      clear_value z11
      have hz12 : Did W s z12 := streamStart_did (within hW rfl) h
      clear_value z12
      refine did_ite h ?_
      split
      · exact hz12
      · rename_i e16 e17 e18 e19
        extract_lets z20
        clear_value z20
        refine did_ite ?_ (askRemote_did (within hW rfl) ?_)
        · have k21 : Did W s e18 := Did.of_eq (congrArg (fun x : (_ × _) => x.2) e19) (engPages_did (within hW rfl) hz12)
          exact k21
        · have k22 : Did W s e18 := Did.of_eq (congrArg (fun x : (_ × _) => x.2) e19) (engPages_did (within hW rfl) hz12)
          exact k22

theorem operationStartEffect_did {W : Nat} {s : State} {a1 : Nat} {a2 : Nat} {u : State}
    (hW : W &&& 0x5aee000d86e = 0x5aee000d86e) (h : Did W s u) : Did W s (operationStartEffect a1 a2 u) := by
  unfold operationStartEffect
  extract_lets z1
  clear_value z1
  split
  · exact h
  · refine did_ite ?_ h
    extract_lets z7
    have hz7 : Did W s z7 := tcPut_did (within hW rfl) h
    clear_value z7
    split
    · exact startDma_did (within hW rfl) hz7
    · exact hz7

/-! Cores -/

theorem fenceIEffect_did {W : Nat} {s : State} {a1 : Nat} {u : State}
    (hW : W &&& 0x2000000000 = 0x2000000000) (h : Did W s u) : Did W s (fenceIEffect a1 u) := by
  unfold fenceIEffect
  exact acMod_did (within hW rfl) (acNext_did (within hW rfl) h)

/-! Engine -/

theorem completeSignal_did {W : Nat} {s : State} {a1 : Nat} {a2 : Op} {u : State}
    (hW : W &&& 0x52ee50cd86e = 0x52ee50cd86e) (h : Did W s u) : Did W s (completeSignal a1 a2 u) := by
  unfold completeSignal
  exact did_ite h (signalBaton_did (within hW rfl) (dropOp_did (within hW rfl) h))

theorem refetchPage_did {W : Nat} {s : State} {a1 : Nat} {a2 : Nat} {a3 : Item} {a4 : Nat} {u : State}
    (hW : W &&& 0x52ee000d86e = 0x52ee000d86e) (h : Did W s u) : Did W s (refetchPage a1 a2 a3 a4 u) := by
  unfold refetchPage
  split
  · exact h
  · split
    · rename_i e6 e7 e8
      have k9 : Did W s e7 := Did.of_eq (congrArg (fun x : (_ × _) => x.2) e8) (codePage_did (within hW rfl) h)
      exact k9
    · rename_i e10 e11 e12 e13
      refine memFault_did (within hW rfl) (memErr_did (within hW rfl) ?_)
      have k14 : Did W s e12 := Did.of_eq (congrArg (fun x : (_ × _) => x.2) e13) (codePage_did (within hW rfl) h)
      exact k14

/-! Stu -/

theorem tlbFillEffect_did {W : Nat} {s : State} {a1 : Nat} {a2 : Bool} {a3 : W64} {u : State}
    (hW : W &&& 0x52ee000d86e = 0x52ee000d86e) (h : Did W s u) : Did W s (tlbFillEffect a1 a2 a3 u) := by
  unfold tlbFillEffect
  split
  · exact h
  · split
    · exact h
    · extract_lets z11 z12 z13 z14
      clear_value z11
      clear_value z12
      clear_value z13
      clear_value z14
      exact whenWalks_did (within hW rfl) (did_ite (did_ite (refetchPage_did (within hW rfl) h) (engPage_did (within hW rfl) h)) (engPage_did (within hW rfl) h)) h

/-! Cores -/

theorem cleanCopies_did {W : Nat} {s : State} {a1 : Nat} {u : State}
    (hW : W &&& 0x200000000 = 0x200000000) (h : Did W s u) : Did W s (cleanCopies a1 u) := by
  unfold cleanCopies
  extract_lets z1
  have hz1 : Did W s z1 := cohMod_did (within hW rfl) h
  clear_value z1
  split
  · exact did_ite (entPut_did (within hW rfl) hz1) hz1
  · exact hz1

theorem flushOwner_did {W : Nat} {s : State} {a1 : Nat} {u : State}
    (hW : W &&& 0x102c0000802 = 0x102c0000802) (h : Did W s u) : Did W s (flushOwner a1 u) := by
  unfold flushOwner
  split
  · exact toHome_did (within hW rfl) h
  · exact h

theorem lineOp_did {W : Nat} {s : State} {a1 : Nat} {a2 : Nat} {u : State}
    (hW : W &&& 0x102c0000802 = 0x102c0000802) (h : Did W s u) : Did W s (lineOp a1 a2 u) := by
  unfold lineOp
  exact did_ite (llcClean_did (within hW rfl) (cleanCopies_did (within hW rfl) (flushOwner_did (within hW rfl) h))) (did_ite (maintHome_did (within hW rfl) (dropCopies_did (within hW rfl) h)) (maintHome_did (within hW rfl) (dropCopies_did (within hW rfl) (flushOwner_did (within hW rfl) h))))

theorem cboEffect_did {W : Nat} {s : State} {a1 : Nat} {a2 : Nat} {a3 : Nat} {u : State}
    (hW : W &&& 0x122c000d806 = 0x122c000d806) (h : Did W s u) : Did W s (cboEffect a1 a2 a3 u) := by
  unfold cboEffect
  extract_lets z1
  clear_value z1
  split
  · exact errorTo_did (within hW rfl) (acNext_did (within hW rfl) h)
  · exact did_ite (acNext_did (within hW rfl) h) (acNext_did (within hW rfl) (lineOp_did (within hW rfl) h))

theorem execCboInval_did {W : Nat} {s : State} {a1 : Nat} {a2 : Nat} {u : State}
    (hW : W &&& 0x122c000d806 = 0x122c000d806) (h : Did W s u) : ODid W s (execCboInval a1 a2 u) := by
  unfold execCboInval
  refine onUnit_odid ?_
  exact onlyIf_did (acStepped_did (within hW rfl) (cboEffect_did (within hW rfl) h)) h

/-! Pacer -/

theorem execPsetq_did {W : Nat} {s : State} {a1 : Nat} {a2 : BitVec 5} {a3 : BitVec 5} {a4 : BitVec 5} {u : State}
    (hW : W &&& 0xc000 = 0xc000) (h : Did W s u) : ODid W s (execPsetq a1 a2 a3 a4 u) := by
  unfold execPsetq
  refine onCustom_did (within hW rfl) ?_ h
  intro x1 x2 h3
  refine checked_did ?_
  refine PacerRes.next_did ?_
  exact tcMod_did (within hW rfl) h3

theorem execPgetq_did {W : Nat} {s : State} {a1 : Nat} {a2 : BitVec 5} {a3 : BitVec 5} {a4 : BitVec 5} {u : State}
    (hW : W &&& 0xc000 = 0xc000) (h : Did W s u) : ODid W s (execPgetq a1 a2 a3 a4 u) := by
  unfold execPgetq
  refine onCustom_did (within hW rfl) ?_ h
  intro x1 x2 h3
  refine checked_did ?_
  exact setX_did (within hW rfl) h3

theorem execPqadd_did {W : Nat} {s : State} {a1 : Nat} {a2 : BitVec 5} {a3 : BitVec 5} {a4 : BitVec 5} {u : State}
    (hW : W &&& 0xc000 = 0xc000) (h : Did W s u) : ODid W s (execPqadd a1 a2 a3 a4 u) := by
  unfold execPqadd
  refine onCustom_did (within hW rfl) ?_ h
  intro x1 x2 h3
  refine checked_did ?_
  refine PacerRes.next_did ?_
  exact tcMod_did (within hW rfl) h3

theorem execPtag_did {W : Nat} {s : State} {a1 : Nat} {a2 : BitVec 5} {a3 : BitVec 5} {a4 : BitVec 5} {u : State}
    (hW : W &&& 0xc000 = 0xc000) (h : Did W s u) : ODid W s (execPtag a1 a2 a3 a4 u) := by
  unfold execPtag
  refine onCustom_did (within hW rfl) ?_ h
  intro x1 x2 h3
  refine checked_did ?_
  exact setX_did (within hW rfl) h3

theorem execPstat_did {W : Nat} {s : State} {a1 : Nat} {a2 : BitVec 5} {a3 : BitVec 5} {a4 : BitVec 5} {u : State}
    (hW : W &&& 0xc000 = 0xc000) (h : Did W s u) : ODid W s (execPstat a1 a2 a3 a4 u) := by
  unfold execPstat
  refine onCustom_did (within hW rfl) ?_ h
  intro x1 x2 h3
  refine checked_did ?_
  exact setX_did (within hW rfl) h3

theorem finishPart_did {W : Nat} {s : State} {a1 : Nat} {a2 : Nat} {u : State}
    (hW : W &&& 0xc000 = 0xc000) (h : Did W s u) : Did W s (finishPart a1 a2 u) := by
  unfold finishPart
  extract_lets z1 z2
  clear_value z1
  have hz2 : Did W s z2 := tcPut_did (within hW rfl) h
  clear_value z2
  split
  · exact hz2
  · split
    · exact hz2
    · exact itemPut_did (within hW rfl) hz2

theorem execPdone_did {W : Nat} {s : State} {a1 : Nat} {a2 : BitVec 5} {a3 : BitVec 5} {a4 : BitVec 5} {u : State}
    (hW : W &&& 0xc000 = 0xc000) (h : Did W s u) : ODid W s (execPdone a1 a2 a3 a4 u) := by
  unfold execPdone
  refine onCustom_did (within hW rfl) ?_ h
  intro x1 x2 h3
  refine checked_did ?_
  refine rdid_ite ?_ ?_
  · refine PacerRes.next_did ?_
    exact finishPart_did (within hW rfl) h3
  · exact PacerRes.stall_did

theorem execPperf_did {W : Nat} {s : State} {a1 : Nat} {a2 : BitVec 5} {a3 : BitVec 5} {a4 : BitVec 5} {u : State}
    (hW : W &&& 0xc002 = 0xc002) (h : Did W s u) : ODid W s (execPperf a1 a2 a3 a4 u) := by
  unfold execPperf
  refine onCustom_did (within hW rfl) ?_ h
  intro x1 x2 h3
  extract_lets z4 z5 z6
  clear_value z4
  clear_value z5
  have hz6 : Did W s z6.2 := drawFree_did (within hW rfl) h3
  clear_value z6
  refine checked_did ?_
  refine rdid_ite ?_ ?_
  · exact setX_did (within hW rfl) hz6
  · refine rdid_ite ?_ ?_
    · exact setX_did (within hW rfl) h3
    · exact setX_did (within hW rfl) h3

theorem execPbsig_did {W : Nat} {s : State} {a1 : Nat} {a2 : BitVec 5} {a3 : BitVec 5} {a4 : BitVec 5} {u : State}
    (hW : W &&& 0xc000 = 0xc000) (h : Did W s u) : ODid W s (execPbsig a1 a2 a3 a4 u) := by
  unfold execPbsig
  refine onCustom_did (within hW rfl) ?_ h
  intro x1 x2 h3
  extract_lets z4 z5 z6
  clear_value z4
  clear_value z5
  clear_value z6
  refine checked_did ?_
  exact issue_did (within hW rfl) h3

theorem execPbwait_did {W : Nat} {s : State} {a1 : Nat} {a2 : BitVec 5} {a3 : BitVec 5} {a4 : BitVec 5} {u : State}
    (hW : W &&& 0xc000 = 0xc000) (h : Did W s u) : ODid W s (execPbwait a1 a2 a3 a4 u) := by
  unfold execPbwait
  refine onCustom_did (within hW rfl) ?_ h
  intro x1 x2 h3
  extract_lets z4 z5 z6
  clear_value z4
  clear_value z5
  clear_value z6
  refine checked_did ?_
  refine rdid_ite ?_ ?_
  · exact setX_did (within hW rfl) h3
  · exact PacerRes.stall_did

theorem execPsqrd_did {W : Nat} {s : State} {a1 : Nat} {a2 : BitVec 5} {a3 : BitVec 5} {a4 : BitVec 5} {u : State}
    (hW : W &&& 0xc000 = 0xc000) (h : Did W s u) : ODid W s (execPsqrd a1 a2 a3 a4 u) := by
  unfold execPsqrd
  refine onCustom_did (within hW rfl) ?_ h
  intro x1 x2 h3
  extract_lets z4 z5 z6 z7
  clear_value z4
  clear_value z5
  clear_value z6
  have hz7 : Did W s z7 := by
    subst z7
    split
    · exact itemPut_did (within hW rfl) h3
    · exact h3
  clear_value z7
  refine checked_did ?_
  exact setX_did (within hW rfl) hz7

theorem execPfret_did {W : Nat} {s : State} {a1 : Nat} {a2 : BitVec 5} {a3 : BitVec 5} {a4 : BitVec 5} {u : State}
    (hW : W &&& 0xc000 = 0xc000) (h : Did W s u) : ODid W s (execPfret a1 a2 a3 a4 u) := by
  unfold execPfret
  refine onCustom_did (within hW rfl) ?_ h
  intro x1 x2 h3
  refine checked_did ?_
  refine PacerRes.jump_did ?_
  exact tcMod_did (within hW rfl) h3

theorem execPacerLoad_did {W : Nat} {s : State} {a1 : Nat} {a2 : Bool} {a3 : BitVec 3} {a4 : BitVec 5} {a5 : BitVec 5} {a6 : BitVec 12} {u : State}
    (hW : W &&& 0xc000 = 0xc000) (h : Did W s u) : ODid W s (execPacerLoad a1 a2 a3 a4 a5 a6 u) := by
  unfold execPacerLoad
  refine onUnit_odid ?_
  refine pacerRun_did (within hW rfl) ?_ h
  intro x1 x2 h3
  extract_lets z4 z5 z6
  clear_value z4
  clear_value z5
  clear_value z6
  refine checked_did ?_
  refine rdid_ite ?_ ?_
  · exact PacerRes.stall_did
  · exact setX_did (within hW rfl) (bankUse_did (within hW rfl) h3)

theorem pacerAtomicBody_did {W : Nat} {s : State} {a1 : Nat} {a2 : Nat} {a3 : Nat} {a4 : Nat} {a5 : Nat} {a6 : Nat} {u : State}
    (hW : W &&& 0x4000 = 0x4000) (h : Did W s u) : RDid W s (pacerAtomicBody a1 a2 a3 a4 a5 a6 u) := by
  unfold pacerAtomicBody
  extract_lets z1 z2 z3 z4 z5 z6 z7 z8
  clear_value z1
  clear_value z2
  clear_value z3
  clear_value z4
  clear_value z5
  clear_value z6
  clear_value z7
  clear_value z8
  refine checked_did ?_
  refine rdid_ite ?_ ?_
  · exact PacerRes.stall_did
  · refine rdid_ite ?_ ?_
    · refine PacerRes.next_did ?_
      exact tcPut_did (within hW rfl) h
    · refine rdid_ite ?_ ?_
      · refine rdid_ite ?_ ?_
        · refine PacerRes.next_did ?_
          exact tcPut_did (within hW rfl) h
        · refine PacerRes.next_did ?_
          exact tcPut_did (within hW rfl) h
      · split
        · refine PacerRes.next_did ?_
          exact tcPut_did (within hW rfl) h
        · exact PacerRes.fault_did

theorem execPacerAtomic_did {W : Nat} {s : State} {a1 : Nat} {a2 : BitVec 5} {a3 : BitVec 3} {a4 : BitVec 5} {a5 : BitVec 5} {a6 : BitVec 5} {u : State}
    (hW : W &&& 0xc000 = 0xc000) (h : Did W s u) : ODid W s (execPacerAtomic a1 a2 a3 a4 a5 a6 u) := by
  unfold execPacerAtomic
  refine onUnit_odid ?_
  refine pacerRun_did (within hW rfl) ?_ h
  intro x1 x2 h3
  exact pacerAtomicBody_did (within hW rfl) h3

theorem execEbreak_did {W : Nat} {s : State} {a1 : Nat} {a2 : Bool} {u : State}
    (hW : W &&& 0xc000 = 0xc000) (h : Did W s u) : ODid W s (execEbreak a1 a2 u) := by
  unfold execEbreak
  refine onUnit_odid ?_
  refine pacerRun_did (within hW rfl) ?_ h
  intro x1 x2 h3
  refine rdid_ite ?_ ?_
  · exact PacerRes.fault_did
  · refine PacerRes.next_did ?_
    exact tcMod_did (within hW rfl) h3

/-! Cores -/

theorem cboZeroEffect_did {W : Nat} {s : State} {a1 : Nat} {a2 : Nat} {u : State}
    (hW : W &&& 0x52ec000d86e = 0x52ec000d86e) (h : Did W s u) : Did W s (cboZeroEffect a1 a2 u) := by
  unfold cboZeroEffect
  extract_lets z1 z2
  clear_value z1
  have hz2 : Did W s z2 := acNext_did (within hW rfl) h
  clear_value z2
  split
  · exact errorTo_did (within hW rfl) hz2
  · exact did_ite (acPuts_did (within hW rfl) hz2) (acTrap_did (within hW rfl) hz2)

/-! Engine -/

theorem execOperationStart_did {W : Nat} {s : State} {a1 : Nat} {a2 : Nat} {a3 : List (Nat × Bool)} {u : State}
    (hW : W &&& 0x5aee000d86e = 0x5aee000d86e) (h : Did W s u) : ODid W s (execOperationStart a1 a2 a3 u) := by
  unfold execOperationStart
  refine onUnit_odid ?_
  refine withFlaws_did (within hW rfl) ?_ h
  intro x1 h2
  exact operationStartEffect_did (within hW rfl) h2

/-! Debug -/

theorem dmError_did {W : Nat} {s : State} {a1 : Nat} {u : State}
    (hW : W &&& 0x80000000000 = 0x80000000000) (h : Did W s u) : Did W s (dmError a1 u) := by
  unfold dmError
  exact dmMod_did (within hW rfl) h

theorem dmRegWrite_did {W : Nat} {s u v : State} {a1 a2 : Nat} {a3 : W64}
    (hW : W &&& 0x2000000002 = 0x2000000002) (h : Did W s u) (e : dmRegWrite a1 a2 a3 u = some v) : Did W s v := by
  unfold dmRegWrite at e
  have hd : Did W s (if csrExact a2 then ((0 : W64), u) else drawFree u).2 :=
    did_ite_of (fun x : W64 × State => x.2) h (drawFree_did (within hW rfl) h)
  split at e
  · cases e; exact acMod_did (within hW rfl) h
  split at e
  · cases e; exact acMod_did (within hW rfl) h
  split at e
  · split at e
    · cases e
    · cases e; exact acMod_did (within hW rfl) hd
  split at e
  · cases e; exact acMod_did (within hW rfl) h
  split at e
  · cases e; exact acMod_did (within hW rfl) h
  cases e

theorem dmRegRead_did {W : Nat} {s u v : State} {a1 a2 : Nat} {x : W64}
    (hW : W &&& 0x6000000002 = 0x6000000002) (h : Did W s u) (e : dmRegRead a1 a2 u = some (x, v)) : Did W s v := by
  unfold dmRegRead at e
  have hd : Did W s (acCsr a1 a2 u).2 := acCsr_did (within hW rfl) h
  dsimp only at e
  obtain e | e := some_ite e
  · cases e; exact h
  obtain e | e := some_ite e
  · cases e; exact h
  obtain e | e := some_ite e
  · rw [e] at hd; exact hd
  obtain e | e := some_ite e
  · obtain rfl : u = v := congrArg Prod.snd e; exact h
  obtain e | e := some_ite e
  · obtain rfl : u = v := congrArg Prod.snd e; exact h
  cases e

theorem dmAccess_did {W : Nat} {s : State} {a1 : Nat} {u : State}
    (hW : W &&& 0x86000000002 = 0x86000000002) (h : Did W s u) : Did W s (dmAccess a1 u) := by
  unfold dmAccess
  extract_lets z1 z2
  clear_value z1
  clear_value z2
  refine did_ite (dmError_did (within hW rfl) h) (did_ite (dmError_did (within hW rfl) h) (did_ite h (did_ite (did_ite (dmError_did (within hW rfl) h) ?_) (did_ite (dmError_did (within hW rfl) h) ?_))))
  · split
    · rename_i e3 e4 e5
      have k6 : Did W s e4 := dmRegWrite_did (within hW rfl) h e5
      exact k6
    · exact dmError_did (within hW rfl) h
  · split
    · rename_i e9 e10 e11 e12
      refine dmMod_did (within hW rfl) ?_
      have k13 : Did W s e11 := dmRegRead_did (within hW rfl) h e12
      exact k13
    · exact dmError_did (within hW rfl) h

theorem dmWrite_did {W : Nat} {s : State} {a1 : Nat} {a2 : W32} {u : State}
    (hW : W &&& 0x86000000002 = 0x86000000002) (h : Did W s u) : Did W s (dmWrite a1 a2 u) := by
  unfold dmWrite
  refine did_ite (dmControl_did (within hW rfl) h) (did_ite h ?_)
  split
  · exact dmMod_did (within hW rfl) h
  · exact dmMod_did (within hW rfl) h
  · exact dmMod_did (within hW rfl) h
  · exact did_ite (dmAccess_did (within hW rfl) h) h
  · exact h

/-! Engine -/

theorem completeDma_did {W : Nat} {s : State} {a1 : Nat} {a2 : Op} {u : State}
    (hW : W &&& 0x5aee000d86e = 0x5aee000d86e) (h : Did W s u) : Did W s (completeDma a1 a2 u) := by
  unfold completeDma
  split
  · exact h
  · split
    · exact h
    · extract_lets z11
      clear_value z11
      refine did_ite (dropOp_did (within hW rfl) (dpfEffect_did (within hW rfl) h)) ?_
      split
      · exact h
      · rename_i e15 e16 e17 e18
        extract_lets z19 z20 z21
        clear_value z19
        have hz20 : Did W s z20.2.2 := by
          refine dmaMove_did (within hW rfl) ?_
          have k22 : Did W s e17 := by
            refine Did.of_eq (congrArg (fun x : (_ × _) => x.2) e18) ?_
            refine did_ite_of (fun x : (_ × _) => x.2) ?_ ?_
            · exact h
            · exact engPages_did (within hW rfl) h
          exact k22
        clear_value z20
        have hz21 : Did W s z21 := dropOp_did (within hW rfl) (tcMod_did (within hW rfl) hz20)
        clear_value z21
        refine did_ite (xferNacked_did (within hW rfl) h) (did_ite (did_ite h (askRemote_did (within hW rfl) ?_)) (did_ite h (did_ite (did_ite h (askWrites_did (within hW rfl) ?_)) (did_ite (memFault_did (within hW rfl) hz21) hz21))))
        · have k23 : Did W s e17 := by
            refine Did.of_eq (congrArg (fun x : (_ × _) => x.2) e18) ?_
            refine did_ite_of (fun x : (_ × _) => x.2) ?_ ?_
            · exact h
            · exact engPages_did (within hW rfl) h
          exact k23
        · have k24 : Did W s e17 := by
            refine Did.of_eq (congrArg (fun x : (_ × _) => x.2) e18) ?_
            refine did_ite_of (fun x : (_ × _) => x.2) ?_ ?_
            · exact h
            · exact engPages_did (within hW rfl) h
          exact k24

theorem execDmaErrorResponse_did {W : Nat} {s : State} {a1 : Nat} {a2 : Bool} {a3 : Nat} {a4 : Nat} {u : State}
    (hW : W &&& 0xd806 = 0xd806) (h : Did W s u) : ODid W s (execDmaErrorResponse a1 a2 a3 a4 u) := by
  unfold execDmaErrorResponse
  refine onUnit_odid ?_
  exact dmaErrorEffect_did (within hW rfl) h

/-! Pcie -/

theorem coreTimeout_did {W : Nat} {s : State} {a1 : Nat} {a2 : Nat} {u : State}
    (hW : W &&& 0x1ac0000d806 = 0x1ac0000d806) (h : Did W s u) : Did W s (coreTimeout a1 a2 u) := by
  unfold coreTimeout
  split
  · exact failWindow_did (within hW rfl) h
  · refine did_foldl ?_ (did_ite (errorTo_did (within hW rfl) h) h)
    intro x6 x7 h8
    split
    · exact endRead_did (within hW rfl) h8
    · exact h8

theorem timeoutEffect_did {W : Nat} {s : State} {a1 : Requester} {a2 : Nat} {u : State}
    (hW : W &&& 0x5bee70cd86e = 0x5bee70cd86e) (h : Did W s u) : Did W s (timeoutEffect a1 a2 u) := by
  unfold timeoutEffect
  split
  · exact transferTimeout_did (within hW rfl) h
  · exact coreTimeout_did (within hW rfl) h
  · exact did_ite (emit_did (within hW rfl) (memErr_did (within hW rfl) h)) h
  · exact submitTimeout_did (within hW rfl) h
  · exact walkTimeout_did (within hW rfl) h
  · exact evqErrorEffect_did (within hW rfl) h
  · exact memErr_did (within hW rfl) h

/-! Engine -/

theorem operationCompleteEffect_did {W : Nat} {s : State} {a1 : Nat} {a2 : Nat} {u : State}
    (hW : W &&& 0x5aee50cd86e = 0x5aee50cd86e) (h : Did W s u) : Did W s (operationCompleteEffect a1 a2 u) := by
  unfold operationCompleteEffect
  extract_lets z1
  clear_value z1
  split
  · exact h
  · refine did_ite h ?_
    split
    · exact leave_did (within hW rfl) h
    · exact did_ite (completeSignal_did (within hW rfl) h) (completeDma_did (within hW rfl) h)
    · exact completeMatrix_did (within hW rfl) h

theorem execOperationComplete_did {W : Nat} {s : State} {a1 : Nat} {a2 : Nat} {a3 : List (Nat × Bool)} {u : State}
    (hW : W &&& 0x5aee50cd86e = 0x5aee50cd86e) (h : Did W s u) : ODid W s (execOperationComplete a1 a2 a3 u) := by
  unfold execOperationComplete
  refine onUnit_odid ?_
  refine withFlaws_did (within hW rfl) ?_ h
  intro x1 h2
  exact operationCompleteEffect_did (within hW rfl) h2

/-! Pcie -/

theorem execTransactionTimeout_did {W : Nat} {s : State} {a1 : Requester} {a2 : Nat} {u : State}
    (hW : W &&& 0x5bee70cd86e = 0x5bee70cd86e) (h : Did W s u) : ODid W s (execTransactionTimeout a1 a2 u) := by
  unfold execTransactionTimeout
  refine onUnit_odid ?_
  exact timeoutEffect_did (within hW rfl) h

/-! Cores -/

theorem execFenceI_did {W : Nat} {s : State} {a1 : Nat} {u : State}
    (hW : W &&& 0x2000000000 = 0x2000000000) (h : Did W s u) : ODid W s (execFenceI a1 u) := by
  unfold execFenceI
  refine onUnit_odid ?_
  exact onlyIf_did (acStepped_did (within hW rfl) (fenceIEffect_did (within hW rfl) h)) h

/-! Engine -/

theorem execBankStarvationPromote_did {W : Nat} {s : State} {a1 : Nat} {a2 : Nat} {u : State}
    (hW : W &&& 0x4000 = 0x4000) (h : Did W s u) : ODid W s (execBankStarvationPromote a1 a2 u) := by
  unfold execBankStarvationPromote
  refine onUnit_odid ?_
  exact onlyIf_did (tcMod_did (within hW rfl) h) h

theorem fastEventEffect_did {W : Nat} {s : State} {a1 : Nat} {u : State}
    (hW : W &&& 0x4000 = 0x4000) (h : Did W s u) : Did W s (fastEventEffect a1 u) := by
  unfold fastEventEffect
  extract_lets z1 z2
  clear_value z1
  clear_value z2
  split
  · exact h
  · exact did_ite (tcPut_did (within hW rfl) h) h

theorem execFastEventEntry_did {W : Nat} {s : State} {a1 : Nat} {u : State}
    (hW : W &&& 0x4000 = 0x4000) (h : Did W s u) : ODid W s (execFastEventEntry a1 u) := by
  unfold execFastEventEntry
  refine onUnit_odid ?_
  exact fastEventEffect_did (within hW rfl) h

/-! Stu -/

theorem execTlbFill_did {W : Nat} {s : State} {a1 : Nat} {a2 : Bool} {a3 : W64} {a4 : List (Nat × Bool)} {u : State}
    (hW : W &&& 0x52ee000d86e = 0x52ee000d86e) (h : Did W s u) : ODid W s (execTlbFill a1 a2 a3 a4 u) := by
  unfold execTlbFill
  refine onUnit_odid ?_
  refine withFlaws_did (within hW rfl) ?_ h
  intro x1 h2
  exact tlbFillEffect_did (within hW rfl) h2

/-! Cores -/

theorem execCboClean_did {W : Nat} {s : State} {a1 : Nat} {a2 : Nat} {u : State}
    (hW : W &&& 0x122c000d806 = 0x122c000d806) (h : Did W s u) : ODid W s (execCboClean a1 a2 u) := by
  unfold execCboClean
  refine onUnit_odid ?_
  exact onlyIf_did (acStepped_did (within hW rfl) (cboEffect_did (within hW rfl) h)) h

theorem execCboFlush_did {W : Nat} {s : State} {a1 : Nat} {a2 : Nat} {u : State}
    (hW : W &&& 0x122c000d806 = 0x122c000d806) (h : Did W s u) : ODid W s (execCboFlush a1 a2 u) := by
  unfold execCboFlush
  refine onUnit_odid ?_
  exact onlyIf_did (acStepped_did (within hW rfl) (cboEffect_did (within hW rfl) h)) h

theorem execCboZero_did {W : Nat} {s : State} {a1 : Nat} {a2 : Nat} {u : State}
    (hW : W &&& 0x52ec000d86e = 0x52ec000d86e) (h : Did W s u) : ODid W s (execCboZero a1 a2 u) := by
  unfold execCboZero
  refine onUnit_odid ?_
  exact onlyIf_did (whenFree_did (within hW rfl) (acStepped_did (within hW rfl) (cboZeroEffect_did (within hW rfl) h)) h) h

theorem mtimerEffect_did {W : Nat} {s : State} {a1 : Nat} {a2 : Bool} {u : State}
    (hW : W &&& 0x6000000006 = 0x6000000006) (h : Did W s u) : Did W s (mtimerEffect a1 a2 u) := by
  unfold mtimerEffect
  extract_lets z1 z2
  have hz1 : Did W s z1 := mtimeNow_did (within hW rfl) h
  clear_value z1
  have hz2 : Did W s z2 := did_mk hz1
  clear_value z2
  exact emit_did (within hW rfl) (acMod_did (within hW rfl) hz2)

theorem execMtimerInterrupt_did {W : Nat} {s : State} {a1 : Nat} {a2 : Bool} {u : State}
    (hW : W &&& 0x6000000006 = 0x6000000006) (h : Did W s u) : ODid W s (execMtimerInterrupt a1 a2 u) := by
  unfold execMtimerInterrupt
  refine onUnit_odid ?_
  exact onlyIf_did (mtimerEffect_did (within hW rfl) h) h

/-! Pcie -/

theorem linkDown_did {W : Nat} {s : State} {a1 : Nat} {u : State}
    (hW : W &&& 0x1a00000d806 = 0x1a00000d806) (h : Did W s u) : Did W s (linkDown a1 u) := by
  unfold linkDown
  extract_lets z1 z2 z3
  have hz1 : Did W s z1 := by
    refine did_foldl ?_ h
    intro x4 x5 h6
    exact endRead_did (within hW rfl) h6
  clear_value z1
  clear_value z2
  have hz3 : Did W s z3 := pciePut_did (within hW rfl) hz1
  clear_value z3
  refine did_foldl ?_ hz3
  intro x7 x8 h9
  exact scInput_did (within hW rfl) h9

theorem linkChangeEffect_did {W : Nat} {s : State} {a1 : Nat} {a2 : Nat} {a3 : Nat} {u : State}
    (hW : W &&& 0x1a00000d806 = 0x1a00000d806) (h : Did W s u) : Did W s (linkChangeEffect a1 a2 a3 u) := by
  unfold linkChangeEffect
  refine did_ite h ?_
  extract_lets z1 z2
  clear_value z1
  have hz2 : Did W s z2 := scRaise_did (within hW rfl) (pciePut_did (within hW rfl) h)
  clear_value z2
  exact did_ite (linkDown_did (within hW rfl) hz2) hz2

theorem execPcieLinkChange_did {W : Nat} {s : State} {a1 : Nat} {a2 : Nat} {a3 : Nat} {u : State}
    (hW : W &&& 0x1a00000d806 = 0x1a00000d806) (h : Did W s u) : ODid W s (execPcieLinkChange a1 a2 a3 u) := by
  unfold execPcieLinkChange
  refine onUnit_odid ?_
  exact linkChangeEffect_did (within hW rfl) h

end Sys2Proof.Machine
end

