-- ==== Sys2Proof/Laws/DidControl.lean ====
section
/-! SUPPORT. What each operation of these units can do, one lemma for each: dictionary objects, security, the time base. -/

-- one theorem after the other: a thread for each of hundreds of small theorems takes more memory than the check allows
set_option Elab.async false

set_option linter.all false

namespace Sys2Proof.Machine

open Sys2Proof

/-! Objects -/

theorem storeSet_did {W : Nat} {s : State} {a1 : Nat} {u : State}
    (hW : W &&& 0x40000000800 = 0x40000000800) (h : Did W s u) : Did W s (storeSet a1 u).2 := by
  unfold storeSet
  refine did_ite_of (fun x : (_ × _) => x.2) ?_ ?_
  · exact h
  · refine did_ite_of (fun x : (_ × _) => x.2) ?_ ?_
    · exact h
    · extract_lets z1 z2
      have hz1 : Did W s z1 := oset_did (within hW rfl) h
      clear_value z1
      clear_value z2
      exact did_mk hz1

theorem resetSet_didf {W : Nat} {s u : State} {a1 : Nat} (hW : W &&& 0x5000000086e = 0x5000000086e) (h : Did W s u) :
    Did W s ((resetSet a1).2 u) := by
  unfold resetSet
  split
  · exact h
  · dsimp only
    exact record_did (within hW rfl) (packageReset_did (within hW rfl) h)

theorem holdSet_didf {W : Nat} {s u v : State} {a1 : Nat} (hW : W &&& 0x5000000086e = 0x5000000086e) (h : Did W s v) :
    Did W s ((holdSet a1 u).2 v) := by
  unfold holdSet
  split
  · exact h
  · split
    · exact h
    · dsimp only
      exact record_did (within hW rfl) (packageReset_did (within hW rfl) (oset_did (within hW rfl) (did_mk h)))

/-! Security -/

theorem secMod_did {W : Nat} {s : State} {a1 : Security → Security} {u : State}
    (hW : W &&& 0x80000000000 = 0x80000000000) (h : Did W s u) : Did W s (secMod a1 u) := by
  unfold secMod
  exact did_mk h

theorem applyEntries_did {W : Nat} {s : State} {a1 : List (Nat × Nat × List Byte)} {u : State}
    (hW : W &&& 0x1800 = 0x1800) (h : Did W s u) : Did W s (applyEntries a1 u) := by
  unfold applyEntries
  refine did_foldl ?_ h
  intro x1 x2 h3
  split
  · exact did_ite (octSet_did (within hW rfl) h3) (oset_did (within hW rfl) h3)
  · exact h3

theorem commitApply_did {W : Nat} {s : State} {u : State}
    (hW : W &&& 0x80000001830 = 0x80000001830) (h : Did W s u) : Did W s (commitApply u) := by
  unfold commitApply
  extract_lets z1 z2 z3 z4 z5 z6 z7
  clear_value z1
  clear_value z3
  have hz4 : Did W s z4 := did_ite (protDefaults_did (within hW rfl) h) (applyEntries_did (within hW rfl) h)
  clear_value z4
  have hz6 : Did W s z6 := did_ite hz4 (did_mk hz4)
  clear_value z6
  have hz7 : Did W s z7 := loadOdk_did (within hW rfl) (sealCommit_did (within hW rfl) hz6)
  clear_value z7
  exact secMod_did (within hW rfl) (oset_did (within hW rfl) hz7)

theorem protCommitSet_did {W : Nat} {s : State} {a1 : Bool} {a2 : Bool} {u : State}
    (hW : W &&& 0xd000400187e = 0xd000400187e) (h : Did W s u) : Did W s (protCommitSet a1 a2 u) := by
  unfold protCommitSet
  refine did_ite h ?_
  extract_lets z1 z2 z3 z4 z5
  clear_value z1
  have hz2 : Did W s z2 := commitApply_did (within hW rfl) h
  clear_value z2
  have hz3 : Did W s z3 := oset_did (within hW rfl) h
  clear_value z3
  clear_value z4
  have hz5 : Did W s z5 := secMod_did (within hW rfl) hz3
  clear_value z5
  exact did_ite (clarynEvent_did (within hW rfl) (oset_did (within hW rfl) hz2)) (did_ite (did_ite (alarm_did (within hW rfl) hz5) hz5) hz3)

theorem attNonceSet_did {W : Nat} {s : State} {a1 : List Byte} {u : State}
    (hW : W &&& 0x1002 = 0x1002) (h : Did W s u) : Did W s (attNonceSet a1 u).2 := by
  unfold attNonceSet
  refine did_ite_of (fun x : (_ × _) => x.2) ?_ ?_
  · exact h
  · refine did_ite_of (fun x : (_ × _) => x.2) ?_ ?_
    · exact h
    · split
      · exact h
      · extract_lets z6
        clear_value z6
        exact octSet_did (within hW rfl) (did_mk h)

theorem fwUpdateSet_did {W : Nat} {s : State} {a1 : Nat} {u : State}
    (hW : W &&& 0x80000000800 = 0x80000000800) (h : Did W s u) : Did W s (fwUpdateSet a1 u).2 := by
  unfold fwUpdateSet
  refine did_ite_of (fun x : (_ × _) => x.2) ?_ ?_
  · exact h
  · refine did_ite_of (fun x : (_ × _) => x.2) ?_ ?_
    · exact h
    · extract_lets z1 z2 z3 z4
      clear_value z1
      clear_value z2
      have hz3 : Did W s z3 := oset_did (within hW rfl) h
      clear_value z3
      clear_value z4
      refine did_ite_of (fun x : (_ × _) => x.2) ?_ ?_
      · dsimp only
        exact secMod_did (within hW rfl) hz3
      · dsimp only
        exact secMod_did (within hW rfl) hz3

theorem keyLoadSet_did {W : Nat} {s : State} {a1 : List Byte} {u : State}
    (hW : W &&& 0xd000440187e = 0xd000440187e) (h : Did W s u) : Did W s (keyLoadSet a1 u).2 := by
  unfold keyLoadSet
  extract_lets z1 z2 z3
  clear_value z1
  clear_value z2
  have hz3 : Did W s z3 := secMod_did (within hW rfl) h
  clear_value z3
  refine did_ite_of (fun x : (_ × _) => x.2) ?_ ?_
  · exact h
  · refine did_ite_of (fun x : (_ × _) => x.2) ?_ ?_
    · exact h
    · refine did_ite_of (fun x : (_ × _) => x.2) ?_ ?_
      · exact h
      · split
        · exact h
        · split
          · extract_lets z12 z13
            clear_value z12
            clear_value z13
            dsimp only
            exact secMod_did (within hW rfl) (slotWrite_did (within hW rfl) (slotWrite_did (within hW rfl) h))
          · exact did_ite (alarm_did (within hW rfl) hz3) hz3

/-! TimeBase -/

theorem tbMod_did {W : Nat} {s : State} {a1 : TimeBase → TimeBase} {u : State}
    (hW : W &&& 0x8000000 = 0x8000000) (h : Did W s u) : Did W s (tbMod a1 u) := by
  unfold tbMod
  exact did_mk h

theorem tbGo_did {W : Nat} {s : State} {a1 : Nat} {u : State}
    (hW : W &&& 0x52eed0cd86e = 0x52eed0cd86e) (h : Did W s u) : Did W s (tbGo a1 u) := by
  unfold tbGo
  exact did_ite h (settleAll_did (within hW rfl) (scRaise_did (within hW rfl) (tbMod_did (within hW rfl) h)))

theorem tbLost_did {W : Nat} {s : State} {u : State}
    (hW : W &&& 0x52eed0cd86e = 0x52eed0cd86e) (h : Did W s u) : Did W s (tbLost u) := by
  unfold tbLost
  extract_lets z1
  have hz1 : Did W s z1 := tbMod_did (within hW rfl) h
  clear_value z1
  exact did_ite (tbGo_did (within hW rfl) hz1) (did_ite (tbGo_did (within hW rfl) hz1) hz1)

theorem tbRecheck_did {W : Nat} {s : State} {u : State}
    (hW : W &&& 0x52eed0cd86e = 0x52eed0cd86e) (h : Did W s u) : Did W s (tbRecheck u) := by
  unfold tbRecheck
  exact did_ite (tbLost_did (within hW rfl) h) h

theorem tbSourceSet_did {W : Nat} {s : State} {a1 : Nat} {u : State}
    (hW : W &&& 0x52eed0cd86e = 0x52eed0cd86e) (h : Did W s u) : Did W s (tbSourceSet a1 u).2 := by
  unfold tbSourceSet
  refine did_ite_of (fun x : (_ × _) => x.2) ?_ ?_
  · exact h
  · extract_lets z1
    have hz1 : Did W s z1 := oset_did (within hW rfl) h
    clear_value z1
    exact did_ite hz1 (did_ite (tbGo_did (within hW rfl) (tbMod_did (within hW rfl) hz1)) (tbRecheck_did (within hW rfl) hz1))

theorem rasterSet_did {W : Nat} {s : State} {a1 : Nat} {a2 : Nat} {u : State}
    (hW : W &&& 0x8000800 = 0x8000800) (h : Did W s u) : Did W s (rasterSet a1 a2 u).2 := by
  unfold rasterSet
  refine did_ite_of (fun x : (_ × _) => x.2) ?_ ?_
  · refine did_ite_of (fun x : (_ × _) => x.2) ?_ ?_
    · exact h
    · dsimp only
      exact tbMod_did (within hW rfl) h
  · extract_lets z1
    clear_value z1
    refine did_ite_of (fun x : (_ × _) => x.2) ?_ ?_
    · exact h
    · refine did_ite_of (fun x : (_ × _) => x.2) ?_ ?_
      · exact h
      · exact oset_did (within hW rfl) (tbMod_did (within hW rfl) h)

theorem tbAcceptSet_did {W : Nat} {s : State} {a1 : Bool} {u : State}
    (hW : W &&& 0x8000000 = 0x8000000) (h : Did W s u) : Did W s (tbAcceptSet a1 u).2 := by
  unfold tbAcceptSet
  refine did_ite_of (fun x : (_ × _) => x.2) ?_ ?_
  · exact h
  · refine did_ite_of (fun x : (_ × _) => x.2) ?_ ?_
    · dsimp only
      exact tbMod_did (within hW rfl) h
    · exact h

theorem ptpDomainSet_did {W : Nat} {s : State} {a1 : Nat} {u : State}
    (hW : W &&& 0x52eed0cd86e = 0x52eed0cd86e) (h : Did W s u) : Did W s (ptpDomainSet a1 u) := by
  unfold ptpDomainSet
  exact did_ite h (tbRecheck_did (within hW rfl) (oset_did (within hW rfl) (tbMod_did (within hW rfl) h)))

/-! Shadow -/

theorem eclStatus_did {W : Nat} {s : State} {a1 : Nat} {u : State}
    (hW : W &&& 0x800 = 0x800) (h : Did W s u) : Did W s (eclStatus a1 u) := by
  unfold eclStatus
  exact oset_did (within hW rfl) h

/-! Eclipse -/

theorem eclArmSet_did {W : Nat} {s : State} {a1 : Bool} {u : State}
    (hW : W &&& 0x10010000802 = 0x10010000802) (h : Did W s u) : Did W s (eclArmSet a1 u) := by
  unfold eclArmSet
  refine did_ite h (did_ite (scRaise_did (within hW rfl) (eclStatus_did (within hW rfl) h)) ?_)
  extract_lets z1
  clear_value z1
  exact eclStatus_did (within hW rfl) (did_mk h)

/-! Objects -/

theorem objEffect_did {W : Nat} {s : State} {a1 : Nat} {a2 : Nat} {a3 : List Byte} {u : State}
    (hW : W &&& 0xf2efd4cd87e = 0xf2efd4cd87e) (h : Did W s u) : Did W s (objEffect a1 a2 a3 u).2.1 := by
  unfold objEffect
  extract_lets z1 z2
  clear_value z1
  refine did_ite_of (fun x : (_ × (_ × _)) => x.2.1) ?_ ?_
  · subst z2
    exact storeSet_did (within hW rfl) h
  · refine did_ite_of (fun x : (_ × (_ × _)) => x.2.1) ?_ ?_
    · exact h
    · refine did_ite_of (fun x : (_ × (_ × _)) => x.2.1) ?_ ?_
      · exact h
      · refine did_ite_of (fun x : (_ × (_ × _)) => x.2.1) ?_ ?_
        · subst z2
          exact powerCapSet_did (within hW rfl) h
        · refine did_ite_of (fun x : (_ × (_ × _)) => x.2.1) ?_ ?_
          · subst z2
            exact powerModeSet_did (within hW rfl) h
          · refine did_ite_of (fun x : (_ × (_ × _)) => x.2.1) ?_ ?_
            · subst z2
              exact railFollow_did (within hW rfl) (oset_did (within hW rfl) h)
            · refine did_ite_of (fun x : (_ × (_ × _)) => x.2.1) ?_ ?_
              · subst z2
                exact fixedLapsedSet_did (within hW rfl) h
              · refine did_ite_of (fun x : (_ × (_ × _)) => x.2.1) ?_ ?_
                · subst z2
                  exact replanCmdSet_did (within hW rfl) h
                · refine did_ite_of (fun x : (_ × (_ × _)) => x.2.1) ?_ ?_
                  · subst z2
                    dsimp only
                    exact secMod_did (within hW rfl) h
                  · refine did_ite_of (fun x : (_ × (_ × _)) => x.2.1) ?_ ?_
                    · subst z2
                      dsimp only
                      exact secMod_did (within hW rfl) h
                    · refine did_ite_of (fun x : (_ × (_ × _)) => x.2.1) ?_ ?_
                      · subst z2
                        dsimp only
                        exact secMod_did (within hW rfl) h
                      · refine did_ite_of (fun x : (_ × (_ × _)) => x.2.1) ?_ ?_
                        · split
                          · rename_i e3 e4 e5 e6
                            subst z2
                            refine protCommitSet_did (within hW rfl) ?_
                            have k7 : Did W s e5 := Did.of_eq (congrArg (fun x : (_ × _) => x.2) e6) (drawFree_did (within hW rfl) h)
                            exact k7
                        · refine did_ite_of (fun x : (_ × (_ × _)) => x.2.1) ?_ ?_
                          · subst z2
                            exact attNonceSet_did (within hW rfl) h
                          · refine did_ite_of (fun x : (_ × (_ × _)) => x.2.1) ?_ ?_
                            · subst z2
                              exact fwUpdateSet_did (within hW rfl) h
                            · refine did_ite_of (fun x : (_ × (_ × _)) => x.2.1) ?_ ?_
                              · subst z2
                                exact keyLoadSet_did (within hW rfl) h
                              · refine did_ite_of (fun x : (_ × (_ × _)) => x.2.1) ?_ ?_
                                · subst z2
                                  exact tbSourceSet_did (within hW rfl) h
                                · refine did_ite_of (fun x : (_ × (_ × _)) => x.2.1) ?_ ?_
                                  · subst z2
                                    exact rasterSet_did (within hW rfl) h
                                  · refine did_ite_of (fun x : (_ × (_ × _)) => x.2.1) ?_ ?_
                                    · subst z2
                                      exact tbAcceptSet_did (within hW rfl) h
                                    · refine did_ite_of (fun x : (_ × (_ × _)) => x.2.1) ?_ ?_
                                      · subst z2
                                        exact ptpDomainSet_did (within hW rfl) h
                                      · refine did_ite_of (fun x : (_ × (_ × _)) => x.2.1) ?_ ?_
                                        · subst z2
                                          exact eclArmSet_did (within hW rfl) h
                                        · split
                                          · subst z2
                                            exact did_ite (octSet_did (within hW rfl) h) (oset_did (within hW rfl) h)
                                          · subst z2
                                            exact h

theorem objEffect_didf {W : Nat} {s u v : State} {a1 a2 : Nat} {a3 : List Byte} (hW : W &&& 0x5000000086e = 0x5000000086e) (h : Did W s v) :
    Did W s ((objEffect a1 a2 a3 u).2.2 v) := by
  unfold objEffect
  extract_lets z1 z2
  refine did_ite_of (fun x : Nat × State × (State → State) => x.2.2 v) h ?_
  refine did_ite_of (fun x : Nat × State × (State → State) => x.2.2 v) (resetSet_didf (within hW rfl) h) ?_
  refine did_ite_of (fun x : Nat × State × (State → State) => x.2.2 v) (holdSet_didf (within hW rfl) h) ?_
  repeat refine did_ite_of (fun x : Nat × State × (State → State) => x.2.2 v) h ?_
  split <;> exact h

theorem objWrite_did {W : Nat} {s : State} {a1 : Nat} {a2 : Nat} {a3 : List Byte} {u : State}
    (hW : W &&& 0xf2efd4cd87e = 0xf2efd4cd87e) (h : Did W s u) : Did W s (objWrite a1 a2 a3 u).2.1 := by
  unfold objWrite
  split
  · exact h
  · refine did_ite_of (fun x : (_ × (_ × _)) => x.2.1) ?_ ?_
    · exact h
    · refine did_ite_of (fun x : (_ × (_ × _)) => x.2.1) ?_ ?_
      · exact h
      · extract_lets z7
        clear_value z7
        refine did_ite_of (fun x : (_ × (_ × _)) => x.2.1) ?_ ?_
        · exact objEffect_did (within hW rfl) h
        · exact h

theorem objWrite_didf {W : Nat} {s u v : State} {a1 a2 : Nat} {a3 : List Byte} (hW : W &&& 0x5000000086e = 0x5000000086e) (h : Did W s v) :
    Did W s ((objWrite a1 a2 a3 u).2.2 v) := by
  unfold objWrite
  dsimp only
  repeat' (first | exact h | exact objEffect_didf (within hW rfl) h | split)

/-! Claryn -/

theorem segment_did {W : Nat} {s : State} {a1 : Via} {a2 : Msg} {u : State}
    (hW : W &&& 0xf2efd4cd87e = 0xf2efd4cd87e) (h : Did W s u) : Did W s (segment a1 a2 u).2.1 := by
  unfold segment
  extract_lets z1 z2
  clear_value z1
  clear_value z2
  split
  · refine did_ite_of (fun x : (_ × (_ × _)) => x.2.1) ?_ ?_
    · dsimp only
      exact claMod_did (within hW rfl) h
    · exact h
  · refine did_ite_of (fun x : (_ × (_ × _)) => x.2.1) ?_ ?_
    · refine did_ite_of (fun x : (_ × (_ × _)) => x.2.1) ?_ ?_
      · dsimp only
        exact claMod_did (within hW rfl) h
      · exact h
    · extract_lets z8 z9 z10 z11
      clear_value z8
      have hz9 : Did W s z9 := did_ite (dropSess_did (within hW rfl) h) (putSess_did (within hW rfl) h)
      clear_value z9
      clear_value z10
      have hz11 : Did W s z11.2.1 := objWrite_did (within hW rfl) (dropSess_did (within hW rfl) h)
      clear_value z11
      refine did_ite_of (fun x : (_ × (_ × _)) => x.2.1) ?_ ?_
      · exact h
      · refine did_ite_of (fun x : (_ × (_ × _)) => x.2.1) ?_ ?_
        · exact hz9
        · refine did_ite_of (fun x : (_ × (_ × _)) => x.2.1) ?_ ?_
          · exact h
          · refine did_ite_of (fun x : (_ × (_ × _)) => x.2.1) ?_ ?_
            · exact putSess_did (within hW rfl) h
            · exact hz11

theorem segment_didf {W : Nat} {s u v : State} {a1 : Via} {a2 : Msg} (hW : W &&& 0x5000000086e = 0x5000000086e) (h : Did W s v) :
    Did W s ((segment a1 a2 u).2.2 v) := by
  unfold segment
  dsimp only
  repeat' (first | exact h | exact objWrite_didf (within hW rfl) h | split)

theorem respondTo_did {W : Nat} {s : State} {a1 : Via} {a2 : Msg} {u : State}
    (hW : W &&& 0xf2efd4cd87e = 0xf2efd4cd87e) (h : Did W s u) : Did W s (respondTo a1 a2 u).2.1 := by
  unfold respondTo
  refine did_ite_of (fun x : (_ × (_ × _)) => x.2.1) ?_ ?_
  · exact h
  · refine did_ite_of (fun x : (_ × (_ × _)) => x.2.1) ?_ ?_
    · exact h
    · refine did_ite_of (fun x : (_ × (_ × _)) => x.2.1) ?_ ?_
      · split
        · exact h
        · exact h
      · split
        · exact h
        · refine did_ite_of (fun x : (_ × (_ × _)) => x.2.1) ?_ ?_
          · refine did_ite_of (fun x : (_ × (_ × _)) => x.2.1) ?_ ?_
            · exact h
            · extract_lets z12
              clear_value z12
              refine did_ite_of (fun x : (_ × (_ × _)) => x.2.1) ?_ ?_
              · exact h
              · exact h
          · refine did_ite_of (fun x : (_ × (_ × _)) => x.2.1) ?_ ?_
            · extract_lets z13
              have hz13 : Did W s z13.2.1 := objWrite_did (within hW rfl) h
              clear_value z13
              exact hz13
            · refine did_ite_of (fun x : (_ × (_ × _)) => x.2.1) ?_ ?_
              · exact h
              · refine did_ite_of (fun x : (_ × (_ × _)) => x.2.1) ?_ ?_
                · split
                  · exact did_ite (discardSess_did (within hW rfl) h) h
                  · exact h
                · refine did_ite_of (fun x : (_ × (_ × _)) => x.2.1) ?_ ?_
                  · extract_lets z19
                    have hz19 : Did W s z19.2 := openSess_did (within hW rfl) h
                    clear_value z19
                    refine did_ite_of (fun x : (_ × (_ × _)) => x.2.1) ?_ ?_
                    · exact segment_did (within hW rfl) hz19
                    · exact h
                  · exact segment_did (within hW rfl) h

theorem respondTo_didf {W : Nat} {s u v : State} {a1 : Via} {a2 : Msg} (hW : W &&& 0x5000000086e = 0x5000000086e) (h : Did W s v) :
    Did W s ((respondTo a1 a2 u).2.2 v) := by
  unfold respondTo
  dsimp only
  repeat' (first | exact h | exact objWrite_didf (within hW rfl) h | exact segment_didf (within hW rfl) h | split)

theorem serveMsg_did {W : Nat} {s : State} {a1 : Via} {a2 : Msg} {u : State}
    (hW : W &&& 0xf2efd4cd87e = 0xf2efd4cd87e) (h : Did W s u) : Did W s (serveMsg a1 a2 u) := by
  unfold serveMsg
  refine did_ite h ?_
  extract_lets x t r e
  have ht : Did W s t := ageBit_did (within hW rfl) (bumpObj_did (within hW rfl) h)
  have hr : Did W s r.2.1 := respondTo_did (within hW rfl) ht
  have he : Did W s e := did_ite hr (keep_did (within hW rfl) hr)
  split
  · exact sendVia_did (within hW rfl) (keep_did (within hW rfl) ht)
  · exact respondTo_didf (within hW rfl) (sendReply_did (within hW rfl) he)

theorem serveFirst_did {W : Nat} {s : State} {a1 : Nat} {u : State}
    (hW : W &&& 0xf2efd4cd87e = 0xf2efd4cd87e) (h : Did W s u) : Did W s (serveFirst a1 u) := by
  induction a1 generalizing u with
  | zero  =>
    unfold serveFirst
    exact h
  | succ r1 r2 =>
    unfold serveFirst
    split
    · exact h
    · exact r2 (serveMsg_did (within hW rfl) (claMod_did (within hW rfl) h))

theorem serveAll_did {W : Nat} {s : State} {u : State}
    (hW : W &&& 0xf2efd4cd87e = 0xf2efd4cd87e) (h : Did W s u) : Did W s (serveAll u) := by
  unfold serveAll
  exact did_ite (serveFirst_did (within hW rfl) h) h

theorem serveRow_did {W : Nat} {s : State} {a1 : Via} {a2 : Msg} {u : State}
    (hW : W &&& 0xf2efd4cd87e = 0xf2efd4cd87e) (h : Did W s u) : Did W s (serveRow a1 a2 u) := by
  unfold serveRow
  refine did_ite h (did_ite (bumpObj_did (within hW rfl) h) ?_)
  split
  · exact serveFirst_did (within hW rfl) h
  · exact serveMsg_did (within hW rfl) (serveAll_did (within hW rfl) h)

/-! Security -/

theorem debugChallengeEffect_did {W : Nat} {s : State} {u : State}
    (hW : W &&& 0x80000000006 = 0x80000000006) (h : Did W s u) : Did W s (debugChallengeEffect u) := by
  unfold debugChallengeEffect
  extract_lets z1
  clear_value z1
  exact emit_did (within hW rfl) (secMod_did (within hW rfl) (did_mk h))

theorem execDebugChallengeRead_did {W : Nat} {s : State} {u : State}
    (hW : W &&& 0x80000000006 = 0x80000000006) (h : Did W s u) : ODid W s (execDebugChallengeRead u) := by
  unfold execDebugChallengeRead
  refine next_odid ?_
  exact onlyIf_did (debugChallengeEffect_did (within hW rfl) h) h

/-! Claryn -/

theorem execDescribe_did {W : Nat} {s : State} {a1 : Req} {u : State}
    (hW : W &&& 0xf2efd4cd87e = 0xf2efd4cd87e) (h : Did W s u) : ODid W s (execDescribe a1 u) := by
  unfold execDescribe
  refine onUnit_odid ?_
  exact serveRow_did (within hW rfl) h

/-! TimeBase -/

theorem execPtpSyncTimeout_did {W : Nat} {s : State} {u : State}
    (hW : W &&& 0x52eed0cd86e = 0x52eed0cd86e) (h : Did W s u) : ODid W s (execPtpSyncTimeout u) := by
  unfold execPtpSyncTimeout
  refine next_odid ?_
  exact onlyIf_did (tbRecheck_did (within hW rfl) (tbMod_did (within hW rfl) h)) h

/-! Objects -/

theorem storeCompleteEffect_did {W : Nat} {s : State} {a1 : Bool} {u : State}
    (hW : W &&& 0x40000000820 = 0x40000000820) (h : Did W s u) : Did W s (storeCompleteEffect a1 u) := by
  unfold storeCompleteEffect
  refine did_ite h ?_
  extract_lets z1 z2 z3 z4 z5 z6
  clear_value z1
  clear_value z2
  clear_value z3
  clear_value z5
  have hz6 : Did W s z6 := by
    refine did_mk h (kapp := ?app)
    (split <;> first | rfl | exact id | exact fun _ => twf_nil _ | (intro hh; exact twf_tputs _ _ _ hh) | (intro hh; exact twf_tset _ _ _ _ hh) | (intro hh; exact twf_filter _ _ _ hh))
  clear_value z6
  exact did_ite (oset_did (within hW rfl) (oset_did (within hW rfl) hz6)) (oset_did (within hW rfl) hz6)

/-! Claryn -/

theorem execStoreComplete_did {W : Nat} {s : State} {a1 : Bool} {u : State}
    (hW : W &&& 0x40000000820 = 0x40000000820) (h : Did W s u) : ODid W s (execStoreComplete a1 u) := by
  unfold execStoreComplete
  refine next_odid ?_
  exact onlyIf_did (storeCompleteEffect_did (within hW rfl) h) h

theorem execAbort_did {W : Nat} {s : State} {a1 : Req} {u : State}
    (hW : W &&& 0xf2efd4cd87e = 0xf2efd4cd87e) (h : Did W s u) : ODid W s (execAbort a1 u) := by
  unfold execAbort
  refine onUnit_odid ?_
  exact serveRow_did (within hW rfl) h

theorem execNext_did {W : Nat} {s : State} {a1 : Req} {u : State}
    (hW : W &&& 0xf2efd4cd87e = 0xf2efd4cd87e) (h : Did W s u) : ODid W s (execNext a1 u) := by
  unfold execNext
  refine onUnit_odid ?_
  exact serveRow_did (within hW rfl) h

/-! TimeBase -/

theorem setPhase_did {W : Nat} {s : State} {a1 : Int} {u : State}
    (hW : W &&& 0x8000800 = 0x8000800) (h : Did W s u) : Did W s (setPhase a1 u) := by
  unfold setPhase
  exact oset_did (within hW rfl) (tbMod_did (within hW rfl) h)

/-! Shadow -/

theorem sendMarkers_did {W : Nat} {s : State} {a1 : Nat} {u : State}
    (hW : W &&& 0x400000004 = 0x400000004) (h : Did W s u) : Did W s (sendMarkers a1 u) := by
  unfold sendMarkers
  extract_lets z1
  have hz1 : Did W s z1 := by
    refine did_foldl ?_ h
    intro x2 x3 h4
    exact emit_did (within hW rfl) (emit_did (within hW rfl) h4)
  clear_value z1
  refine did_foldl ?_ hz1
  intro x5 x6 h7
  exact pushItem_did (within hW rfl) h7

theorem eclCapture_did {W : Nat} {s : State} {u : State}
    (hW : W &&& 0x410000804 = 0x410000804) (h : Did W s u) : Did W s (eclCapture u) := by
  unfold eclCapture
  split
  · exact h
  · exact did_ite h (eclStatus_did (within hW rfl) (sendMarkers_did (within hW rfl) (did_mk h)))

/-! TimeBase -/

theorem setNow_did {W : Nat} {s : State} {a1 : W64} {u : State}
    (hW : W &&& 0x52eff0cd86e = 0x52eff0cd86e) (h : Did W s u) : Did W s (setNow a1 u) := by
  unfold setNow
  exact timePasses_did (within hW rfl) (tbMod_did (within hW rfl) (did_ite (eclCapture_did (within hW rfl) h) h))

theorem applyRaster_did {W : Nat} {s : State} {u : State}
    (hW : W &&& 0x8000000 = 0x8000000) (h : Did W s u) : Did W s (applyRaster u) := by
  unfold applyRaster
  exact tbMod_did (within hW rfl) h

theorem tbStep_did {W : Nat} {s : State} {a1 : W64} {u : State}
    (hW : W &&& 0x52eff0cd86e = 0x52eff0cd86e) (h : Did W s u) : Did W s (tbStep a1 u) := by
  unfold tbStep
  exact tbMod_did (within hW rfl) (setNow_did (within hW rfl) (bumpObj_did (within hW rfl) (applyRaster_did (within hW rfl) h)))

theorem onReference_did {W : Nat} {s : State} {a1 : Nat} {a2 : W64} {a3 : Bool} {u : State}
    (hW : W &&& 0x52eff0cd86e = 0x52eff0cd86e) (h : Did W s u) : Did W s (onReference a1 a2 a3 u) := by
  unfold onReference
  refine did_ite h ?_
  extract_lets z1 z2 z3
  clear_value z1
  have hz2 : Did W s z2 := setPhase_did (within hW rfl) (tbMod_did (within hW rfl) h)
  clear_value z2
  clear_value z3
  split
  · exact did_ite (tbGo_did (within hW rfl) (tbStep_did (within hW rfl) hz2)) hz2
  · exact did_ite (tbMod_did (within hW rfl) hz2) (tbGo_did (within hW rfl) (tbGo_did (within hW rfl) hz2))
  · exact did_ite (tbGo_did (within hW rfl) (tbMod_did (within hW rfl) hz2)) (tbGo_did (within hW rfl) hz2)
  · exact did_ite (tbGo_did (within hW rfl) (tbMod_did (within hW rfl) hz2)) (tbGo_did (within hW rfl) hz2)
  · exact hz2

theorem atLock_did {W : Nat} {s : State} {u : State}
    (hW : W &&& 0x52eff0cd86e = 0x52eff0cd86e) (h : Did W s u) : Did W s (atLock u) := by
  unfold atLock
  split
  · exact tbGo_did (within hW rfl) (tbStep_did (within hW rfl) h)
  · exact h

theorem atBoundary_did {W : Nat} {s : State} {u : State}
    (hW : W &&& 0x52eff0cd86e = 0x52eff0cd86e) (h : Did W s u) : Did W s (atBoundary u) := by
  unfold atBoundary
  extract_lets z1 z2
  have hz1 : Did W s z1 := applyRaster_did (within hW rfl) h
  clear_value z1
  have hz2 : Did W s z2 := setNow_did (within hW rfl) hz1
  clear_value z2
  exact did_ite (tbGo_did (within hW rfl) (tbStep_did (within hW rfl) hz2)) hz2

theorem runTo_did {W : Nat} {s : State} {a1 : Nat} {a2 : W64} {u : State}
    (hW : W &&& 0x52eff0cd86e = 0x52eff0cd86e) (h : Did W s u) : Did W s (runTo a1 a2 u) := by
  induction a1 generalizing a2 u with
  | zero  =>
    unfold runTo
    exact setNow_did (within hW rfl) h
  | succ r1 r2 =>
    unfold runTo
    dsimp only
    exact did_ite h (did_ite (r2 (atLock_did (within hW rfl) h)) (did_ite (did_ite (r2 (atBoundary_did (within hW rfl) h)) (atBoundary_did (within hW rfl) h)) (setNow_did (within hW rfl) h)))

theorem moveTo_did {W : Nat} {s : State} {a1 : W64} {u : State}
    (hW : W &&& 0x52eff0cd86e = 0x52eff0cd86e) (h : Did W s u) : Did W s (moveTo a1 u) := by
  unfold moveTo
  exact did_ite h (runTo_did (within hW rfl) (did_ite (runTo_did (within hW rfl) h) h))

theorem execRasterWrite_did {W : Nat} {s : State} {a1 : Nat} {a2 : Nat} {u : State}
    (hW : W &&& 0x8000800 = 0x8000800) (h : Did W s u) : ODid W s (execRasterWrite a1 a2 u) := by
  unfold execRasterWrite
  refine next_odid ?_
  exact onlyIf_did (rasterSet_did (within hW rfl) h) h

theorem execTbHoldoverExpiry_did {W : Nat} {s : State} {u : State}
    (hW : W &&& 0x52eed0cd86e = 0x52eed0cd86e) (h : Did W s u) : ODid W s (execTbHoldoverExpiry u) := by
  unfold execTbHoldoverExpiry
  refine next_odid ?_
  exact onlyIf_did (tbGo_did (within hW rfl) h) h

/-! Claryn -/

theorem execResetCmd_did {W : Nat} {s : State} {a1 : Nat} {u : State}
    (hW : W &&& 0x5000000086e = 0x5000000086e) (h : Did W s u) : ODid W s (execResetCmd a1 u) := by
  unfold execResetCmd
  refine next_odid ?_
  exact onlyIf_did (resetSet_didf (within hW rfl) h) h

/-! Eclipse -/

theorem eclFinish_did {W : Nat} {s : State} {a1 : Eclipse} {a2 : Nat} {a3 : Nat} {u : State}
    (hW : W &&& 0x52ed000d86e = 0x52ed000d86e) (h : Did W s u) : Did W s (eclFinish a1 a2 a3 u) := by
  unfold eclFinish
  extract_lets z1
  have hz1 : Did W s z1 := memWrite_did (within hW rfl) h
  clear_value z1
  exact scRaise_did (within hW rfl) (eclStatus_did (within hW rfl) (did_mk hz1))

theorem eclCompleteEffect_did {W : Nat} {s : State} {a1 : Nat} {u : State}
    (hW : W &&& 0x52ef50cd86e = 0x52ef50cd86e) (h : Did W s u) : Did W s (eclCompleteEffect a1 u) := by
  unfold eclCompleteEffect
  split
  · exact h
  · refine did_ite ?_ h
    extract_lets z6
    have hz6 : Did W s z6 := eclFinish_did (within hW rfl) h
    clear_value z6
    exact did_ite hz6 (signalBaton_did (within hW rfl) hz6)

/-! TimeBase -/

theorem fsyncEdgeEffect_did {W : Nat} {s : State} {a1 : Nat} {u : State}
    (hW : W &&& 0x52eff0cd86e = 0x52eff0cd86e) (h : Did W s u) : Did W s (fsyncEdgeEffect a1 u) := by
  unfold fsyncEdgeEffect
  refine did_ite h ?_
  extract_lets z1 z2 z3 z4
  clear_value z1
  clear_value z2
  have hz3 : Did W s z3 := tbMod_did (within hW rfl) h
  clear_value z3
  have hz4 : Did W s z4 := did_ite (tbRecheck_did (within hW rfl) (tbMod_did (within hW rfl) hz3)) (did_ite (tbMod_did (within hW rfl) hz3) hz3)
  clear_value z4
  exact did_ite (onReference_did (within hW rfl) hz4) hz4

/-! Security -/

theorem alarmed_did {W : Nat} {s : State} {a1 : Nat} {a2 : Nat} {a3 : Bool} {u : State}
    (hW : W &&& 0xd000400187e = 0xd000400187e) (h : Did W s u) : Did W s (alarmed a1 a2 a3 u) := by
  unfold alarmed
  exact did_ite (logFault_did (within hW rfl) h) (did_ite h (alarm_did (within hW rfl) h))

theorem controllerFailure_did {W : Nat} {s : State} {a1 : Bool} {a2 : Nat} {u : State}
    (hW : W &&& 0xd000400187e = 0xd000400187e) (h : Did W s u) : Did W s (controllerFailure a1 a2 u) := by
  unfold controllerFailure
  exact did_ite (alarmed_did (within hW rfl) h) (did_ite (fatal_did (within hW rfl) h) h)

theorem execControllerCheckFailure_did {W : Nat} {s : State} {a1 : Bool} {a2 : Nat} {u : State}
    (hW : W &&& 0xd000400187e = 0xd000400187e) (h : Did W s u) : ODid W s (execControllerCheckFailure a1 a2 u) := by
  unfold execControllerCheckFailure
  refine next_odid ?_
  exact onlyIf_did (controllerFailure_did (within hW rfl) h) h

/-! Eclipse -/

theorem eclCaptureEffect_did {W : Nat} {s : State} {u : State}
    (hW : W &&& 0x52eff0cd86e = 0x52eff0cd86e) (h : Did W s u) : Did W s (eclCaptureEffect u) := by
  unfold eclCaptureEffect
  split
  · exact h
  · refine did_ite h ?_
    extract_lets z6
    have hz6 : Did W s z6 := moveTo_did (within hW rfl) h
    clear_value z6
    exact did_ite hz6 (eclCapture_did (within hW rfl) hz6)

theorem execEclipseCapture_did {W : Nat} {s : State} {u : State}
    (hW : W &&& 0x52eff0cd86e = 0x52eff0cd86e) (h : Did W s u) : ODid W s (execEclipseCapture u) := by
  unfold execEclipseCapture
  refine next_odid ?_
  exact eclCaptureEffect_did (within hW rfl) h

theorem eclDrainEffect_did {W : Nat} {s : State} {u : State}
    (hW : W &&& 0x52ed000d86e = 0x52ed000d86e) (h : Did W s u) : Did W s (eclDrainEffect u) := by
  unfold eclDrainEffect
  split
  · exact h
  · exact did_ite (eclFinish_did (within hW rfl) h) h

theorem execEclipseDrainTimeout_did {W : Nat} {s : State} {u : State}
    (hW : W &&& 0x52ed000d86e = 0x52ed000d86e) (h : Did W s u) : ODid W s (execEclipseDrainTimeout u) := by
  unfold execEclipseDrainTimeout
  refine next_odid ?_
  exact eclDrainEffect_did (within hW rfl) h

/-! TimeBase -/

theorem ptpOffset_did {W : Nat} {s : State} {a1 : Nat} {a2 : Nat} {u : State}
    (hW : W &&& 0x52eff0cd86e = 0x52eff0cd86e) (h : Did W s u) : Did W s (ptpOffset a1 a2 u) := by
  unfold ptpOffset
  extract_lets z1 z2 z3 z4
  clear_value z1
  clear_value z2
  have hz3 : Did W s z3 := oset_did (within hW rfl) (tbMod_did (within hW rfl) h)
  clear_value z3
  have hz4 : Did W s z4 := did_ite (tbMod_did (within hW rfl) hz3) hz3
  clear_value z4
  split
  · exact tbRecheck_did (within hW rfl) (tbMod_did (within hW rfl) hz3)
  · exact did_ite (onReference_did (within hW rfl) hz4) hz4

/-! Security -/

theorem execAttNonce_did {W : Nat} {s : State} {a1 : List Byte} {u : State}
    (hW : W &&& 0x1002 = 0x1002) (h : Did W s u) : ODid W s (execAttNonce a1 u) := by
  unfold execAttNonce
  refine next_odid ?_
  exact onlyIf_did (attNonceSet_did (within hW rfl) h) h

/-! Claryn -/

theorem execWrite_did {W : Nat} {s : State} {a1 : Req} {a2 : List Byte} {u : State}
    (hW : W &&& 0xf2efd4cd87e = 0xf2efd4cd87e) (h : Did W s u) : ODid W s (execWrite a1 a2 u) := by
  unfold execWrite
  refine onUnit_odid ?_
  exact serveRow_did (within hW rfl) h

/-! TimeBase -/

theorem tick_did {W : Nat} {s : State} {u : State}
    (hW : W &&& 0x52eff0cd86e = 0x52eff0cd86e) (h : Did W s u) : Did W s (tick u) := by
  unfold tick
  exact did_ite h (did_ite (atLock_did (within hW rfl) h) (did_ite (setNow_did (within hW rfl) h) (did_ite (setNow_did (within hW rfl) h) (atBoundary_did (within hW rfl) h))))

/-! Security -/

theorem execGlitchDetected_did {W : Nat} {s : State} {a1 : Nat} {u : State}
    (hW : W &&& 0xd000400187e = 0xd000400187e) (h : Did W s u) : ODid W s (execGlitchDetected a1 u) := by
  unfold execGlitchDetected
  refine next_odid ?_
  exact alarmed_did (within hW rfl) h

/-! TimeBase -/

theorem execTbStepAccept_did {W : Nat} {s : State} {a1 : Bool} {u : State}
    (hW : W &&& 0x8000000 = 0x8000000) (h : Did W s u) : ODid W s (execTbStepAccept a1 u) := by
  unfold execTbStepAccept
  refine next_odid ?_
  exact onlyIf_did (tbAcceptSet_did (within hW rfl) h) h

/-! Claryn -/

theorem execReadSeg_did {W : Nat} {s : State} {a1 : Req} {a2 : Nat} {u : State}
    (hW : W &&& 0xf2efd4cd87e = 0xf2efd4cd87e) (h : Did W s u) : ODid W s (execReadSeg a1 a2 u) := by
  unfold execReadSeg
  refine onUnit_odid ?_
  exact serveRow_did (within hW rfl) h

/-! Security -/

theorem execWatchdogExpiry_did {W : Nat} {s : State} {a1 : Bool} {u : State}
    (hW : W &&& 0xd000400187e = 0xd000400187e) (h : Did W s u) : ODid W s (execWatchdogExpiry a1 u) := by
  unfold execWatchdogExpiry
  refine next_odid ?_
  exact controllerFailure_did (within hW rfl) h

/-! Debug -/

theorem debugEffect_did {W : Nat} {s : State} {a1 : DebugOp} {u : State}
    (hW : W &&& 0x86000004006 = 0x86000004006) (h : Did W s u) : Did W s (debugEffect a1 u) := by
  unfold debugEffect
  split
  · exact emit_did (within hW rfl) h
  · exact emit_did (within hW rfl) h
  · exact dmWrite_did (within hW rfl) h
  · exact coreHalt_did (within hW rfl) h
  · exact coreResume_did (within hW rfl) h
  · refine onCore_did (within hW rfl) ?_ h
    intro x14
    exact did_ite (emit_did (within hW rfl) h) h
  · refine onCore_did (within hW rfl) ?_ h
    intro x19
    exact did_ite (corePut_did (within hW rfl) h) h
  · refine onHalted_did (within hW rfl) ?_ h
    intro x22
    exact tcPut_did (within hW rfl) h
  · refine onHalted_did (within hW rfl) ?_ h
    intro x26
    exact emit_did (within hW rfl) h
  · refine onHalted_did (within hW rfl) ?_ h
    intro x31
    exact tcPut_did (within hW rfl) h
  · refine onHalted_did (within hW rfl) ?_ h
    intro x35
    exact emit_did (within hW rfl) h
  · refine onHalted_did (within hW rfl) ?_ h
    intro x40
    exact tcPut_did (within hW rfl) h
  · refine onHalted_did (within hW rfl) ?_ h
    intro x43
    refine did_foldl ?_ h
    intro x44 x45 h46
    refine did_foldl ?_ h46
    intro x47 x48 h49
    exact emit_did (within hW rfl) h49
  · refine onHalted_did (within hW rfl) ?_ h
    intro x56
    exact tcPut_did (within hW rfl) h
  · refine onHalted_did (within hW rfl) ?_ h
    intro x60
    exact tcPut_did (within hW rfl) h
  · exact secMod_did (within hW rfl) h
  · exact secMod_did (within hW rfl) h
  · refine did_ite h ?_
    extract_lets z68
    clear_value z68
    exact emit_did (within hW rfl) h
  · exact did_ite (secMod_did (within hW rfl) h) h

theorem execDebugPortAccess_did {W : Nat} {s : State} {a1 : DebugOp} {u : State}
    (hW : W &&& 0x86000004006 = 0x86000004006) (h : Did W s u) : ODid W s (execDebugPortAccess a1 u) := by
  unfold execDebugPortAccess
  refine onUnit_odid ?_
  exact onlyIf_did (debugEffect_did (within hW rfl) h) h

/-! Security -/

theorem fwUpdateCompleteEffect_did {W : Nat} {s : State} {a1 : Bool} {u : State}
    (hW : W &&& 0x80000000822 = 0x80000000822) (h : Did W s u) : Did W s (fwUpdateCompleteEffect a1 u) := by
  unfold fwUpdateCompleteEffect
  refine did_ite h ?_
  extract_lets z1
  have hz1 : Did W s z1 := secMod_did (within hW rfl) h
  clear_value z1
  split
  · exact oset_did (within hW rfl) hz1
  · exact did_ite (oset_did (within hW rfl) hz1) (did_ite (setOtherSlot_did (within hW rfl) (oset_did (within hW rfl) hz1)) (oset_did (within hW rfl) (abandonUpdate_did (within hW rfl) h)))

theorem execFwUpdateComplete_did {W : Nat} {s : State} {a1 : Bool} {u : State}
    (hW : W &&& 0x80000000822 = 0x80000000822) (h : Did W s u) : ODid W s (execFwUpdateComplete a1 u) := by
  unfold execFwUpdateComplete
  refine next_odid ?_
  exact fwUpdateCompleteEffect_did (within hW rfl) h

/-! TimeBase -/

theorem ptpAnnounceEffect_did {W : Nat} {s : State} {a1 : Nat} {a2 : W64} {a3 : Nat} {u : State}
    (hW : W &&& 0x52eed0cd86e = 0x52eed0cd86e) (h : Did W s u) : Did W s (ptpAnnounceEffect a1 a2 a3 u) := by
  unfold ptpAnnounceEffect
  exact did_ite h (did_ite (tbMod_did (within hW rfl) h) (did_ite h (tbRecheck_did (within hW rfl) (octSet_did (within hW rfl) (tbMod_did (within hW rfl) h)))))

theorem execPtpAnnounceReceive_did {W : Nat} {s : State} {a1 : Nat} {a2 : W64} {a3 : Nat} {u : State}
    (hW : W &&& 0x52eed0cd86e = 0x52eed0cd86e) (h : Did W s u) : ODid W s (execPtpAnnounceReceive a1 a2 a3 u) := by
  unfold execPtpAnnounceReceive
  refine next_odid ?_
  exact ptpAnnounceEffect_did (within hW rfl) h

theorem execTbSourceWrite_did {W : Nat} {s : State} {a1 : Nat} {u : State}
    (hW : W &&& 0x52eed0cd86e = 0x52eed0cd86e) (h : Did W s u) : ODid W s (execTbSourceWrite a1 u) := by
  unfold execTbSourceWrite
  refine next_odid ?_
  exact onlyIf_did (tbSourceSet_did (within hW rfl) h) h

/-! Security -/

theorem execKeyLoad_did {W : Nat} {s : State} {a1 : List Byte} {u : State}
    (hW : W &&& 0xd000440187e = 0xd000440187e) (h : Did W s u) : ODid W s (execKeyLoad a1 u) := by
  unfold execKeyLoad
  refine next_odid ?_
  exact onlyIf_did (keyLoadSet_did (within hW rfl) h) h

/-! TimeBase -/

theorem ptpSyncEffect_did {W : Nat} {s : State} {a1 : Nat} {a2 : W64} {a3 : Bool} {a4 : Nat} {a5 : Nat} {u : State}
    (hW : W &&& 0x52eff0cd86e = 0x52eff0cd86e) (h : Did W s u) : Did W s (ptpSyncEffect a1 a2 a3 a4 a5 u) := by
  unfold ptpSyncEffect
  exact did_ite h (did_ite (tbMod_did (within hW rfl) h) (ptpOffset_did (within hW rfl) h))

theorem ptpFollowUpEffect_did {W : Nat} {s : State} {a1 : Nat} {a2 : W64} {a3 : Nat} {u : State}
    (hW : W &&& 0x52eff0cd86e = 0x52eff0cd86e) (h : Did W s u) : Did W s (ptpFollowUpEffect a1 a2 a3 u) := by
  unfold ptpFollowUpEffect
  split
  · exact did_ite (ptpOffset_did (within hW rfl) h) h
  · exact h

/-! Claryn -/

theorem execWriteSeg_did {W : Nat} {s : State} {a1 : Req} {a2 : Nat} {a3 : Nat} {a4 : List Byte} {u : State}
    (hW : W &&& 0xf2efd4cd87e = 0xf2efd4cd87e) (h : Did W s u) : ODid W s (execWriteSeg a1 a2 a3 a4 u) := by
  unfold execWriteSeg
  refine onUnit_odid ?_
  exact serveRow_did (within hW rfl) h

/-! TimeBase -/

theorem execPtpSyncReceive_did {W : Nat} {s : State} {a1 : Nat} {a2 : W64} {a3 : Bool} {a4 : Nat} {a5 : Nat} {u : State}
    (hW : W &&& 0x52eff0cd86e = 0x52eff0cd86e) (h : Did W s u) : ODid W s (execPtpSyncReceive a1 a2 a3 a4 a5 u) := by
  unfold execPtpSyncReceive
  refine next_odid ?_
  exact ptpSyncEffect_did (within hW rfl) h

theorem frameBoundaryEffect_did {W : Nat} {s : State} {u : State}
    (hW : W &&& 0x52eff0cd86e = 0x52eff0cd86e) (h : Did W s u) : Did W s (frameBoundaryEffect u) := by
  unfold frameBoundaryEffect
  exact did_ite h (did_ite (atLock_did (within hW rfl) h) (atBoundary_did (within hW rfl) (did_ite (runTo_did (within hW rfl) h) h)))

theorem execFrameBoundary_did {W : Nat} {s : State} {u : State}
    (hW : W &&& 0x52eff0cd86e = 0x52eff0cd86e) (h : Did W s u) : ODid W s (execFrameBoundary u) := by
  unfold execFrameBoundary
  refine next_odid ?_
  exact frameBoundaryEffect_did (within hW rfl) h

theorem execFsyncEdge_did {W : Nat} {s : State} {a1 : Nat} {u : State}
    (hW : W &&& 0x52eff0cd86e = 0x52eff0cd86e) (h : Did W s u) : ODid W s (execFsyncEdge a1 u) := by
  unfold execFsyncEdge
  refine next_odid ?_
  exact fsyncEdgeEffect_did (within hW rfl) h

theorem execPtpFollowUpReceive_did {W : Nat} {s : State} {a1 : Nat} {a2 : W64} {a3 : Nat} {u : State}
    (hW : W &&& 0x52eff0cd86e = 0x52eff0cd86e) (h : Did W s u) : ODid W s (execPtpFollowUpReceive a1 a2 a3 u) := by
  unfold execPtpFollowUpReceive
  refine next_odid ?_
  exact ptpFollowUpEffect_did (within hW rfl) h

theorem execPtpDelayReqSend_did {W : Nat} {s : State} {a1 : Nat} {u : State}
    (hW : W &&& 0x8000004 = 0x8000004) (h : Did W s u) : ODid W s (execPtpDelayReqSend a1 u) := by
  unfold execPtpDelayReqSend
  refine next_odid ?_
  exact onlyIf_did (emit_did (within hW rfl) (tbMod_did (within hW rfl) h)) h

theorem ptpDelayEffect_did {W : Nat} {s : State} {a1 : Nat} {a2 : W64} {a3 : Nat} {u : State}
    (hW : W &&& 0x8000000 = 0x8000000) (h : Did W s u) : Did W s (ptpDelayEffect a1 a2 a3 u) := by
  unfold ptpDelayEffect
  split
  · exact did_ite (tbMod_did (within hW rfl) h) h
  · exact h

theorem execPtpDelayRespReceive_did {W : Nat} {s : State} {a1 : Nat} {a2 : W64} {a3 : Nat} {u : State}
    (hW : W &&& 0x8000000 = 0x8000000) (h : Did W s u) : ODid W s (execPtpDelayRespReceive a1 a2 a3 u) := by
  unfold execPtpDelayRespReceive
  refine next_odid ?_
  exact ptpDelayEffect_did (within hW rfl) h

/-! Eclipse -/

theorem execEclArm_did {W : Nat} {s : State} {a1 : Bool} {u : State}
    (hW : W &&& 0x10010000802 = 0x10010000802) (h : Did W s u) : ODid W s (execEclArm a1 u) := by
  unfold execEclArm
  refine next_odid ?_
  exact onlyIf_did (eclArmSet_did (within hW rfl) h) h

theorem execEclipseComplete_did {W : Nat} {s : State} {a1 : Nat} {u : State}
    (hW : W &&& 0x52ef50cd86e = 0x52ef50cd86e) (h : Did W s u) : ODid W s (execEclipseComplete a1 u) := by
  unfold execEclipseComplete
  refine next_odid ?_
  exact eclCompleteEffect_did (within hW rfl) h

/-! Claryn -/

theorem execRead_did {W : Nat} {s : State} {a1 : Req} {u : State}
    (hW : W &&& 0xf2efd4cd87e = 0xf2efd4cd87e) (h : Did W s u) : ODid W s (execRead a1 u) := by
  unfold execRead
  refine onUnit_odid ?_
  exact serveRow_did (within hW rfl) h

theorem execServiceUnknown_did {W : Nat} {s : State} {a1 : Req} {a2 : Nat} {a3 : Bool} {u : State}
    (hW : W &&& 0xf2efd4cd87e = 0xf2efd4cd87e) (h : Did W s u) : ODid W s (execServiceUnknown a1 a2 a3 u) := by
  unfold execServiceUnknown
  refine onUnit_odid ?_
  exact onlyIf_did (serveRow_did (within hW rfl) h) h

theorem execHoldRelease_did {W : Nat} {s : State} {a1 : Bool} {u : State}
    (hW : W &&& 0x5000000086e = 0x5000000086e) (h : Did W s u) : ODid W s (execHoldRelease a1 u) := by
  unfold execHoldRelease
  refine next_odid ?_
  exact onlyIf_did (holdSet_didf (within hW rfl) h) h

/-! Security -/

theorem execFwUpdateCmd_did {W : Nat} {s : State} {a1 : Nat} {u : State}
    (hW : W &&& 0x80000000800 = 0x80000000800) (h : Did W s u) : ODid W s (execFwUpdateCmd a1 u) := by
  unfold execFwUpdateCmd
  refine next_odid ?_
  exact onlyIf_did (fwUpdateSet_did (within hW rfl) h) h

theorem execProtCommit_did {W : Nat} {s : State} {a1 : Bool} {a2 : Bool} {u : State}
    (hW : W &&& 0xd000400187e = 0xd000400187e) (h : Did W s u) : ODid W s (execProtCommit a1 a2 u) := by
  unfold execProtCommit
  refine next_odid ?_
  exact onlyIf_did (protCommitSet_did (within hW rfl) h) h

theorem debugUnlockEffect_did {W : Nat} {s : State} {a1 : Nat} {a2 : List Byte} {a3 : List Byte} {a4 : List Byte} {u : State}
    (hW : W &&& 0xd000400187e = 0xd000400187e) (h : Did W s u) : Did W s (debugUnlockEffect a1 a2 a3 a4 u) := by
  unfold debugUnlockEffect
  refine did_ite ?_ ?_
  · extract_lets z1 z2
    have hz1 : Did W s z1 := did_ite (zeroKeys_did (within hW rfl) h) h
    clear_value z1
    have hz2 : Did W s z2 := secMod_did (within hW rfl) hz1
    clear_value z2
    exact clarynEvent_did (within hW rfl) hz2
  · extract_lets z3 z4
    clear_value z3
    have hz4 : Did W s z4 := secMod_did (within hW rfl) h
    clear_value z4
    exact did_ite (alarm_did (within hW rfl) hz4) hz4

theorem execDebugUnlock_did {W : Nat} {s : State} {a1 : Nat} {a2 : List Byte} {a3 : List Byte} {a4 : List Byte} {u : State}
    (hW : W &&& 0xd000400187e = 0xd000400187e) (h : Did W s u) : ODid W s (execDebugUnlock a1 a2 a3 a4 u) := by
  unfold execDebugUnlock
  refine next_odid ?_
  exact onlyIf_did (debugUnlockEffect_did (within hW rfl) h) h

/-! TimeBase -/

theorem execFsyncTimeout_did {W : Nat} {s : State} {u : State}
    (hW : W &&& 0x52eed0cd86e = 0x52eed0cd86e) (h : Did W s u) : ODid W s (execFsyncTimeout u) := by
  unfold execFsyncTimeout
  refine next_odid ?_
  exact onlyIf_did (tbRecheck_did (within hW rfl) (tbMod_did (within hW rfl) h)) h

theorem execTbAcqTimeout_did {W : Nat} {s : State} {u : State}
    (hW : W &&& 0x52eed0cd86e = 0x52eed0cd86e) (h : Did W s u) : ODid W s (execTbAcqTimeout u) := by
  unfold execTbAcqTimeout
  refine next_odid ?_
  exact onlyIf_did (tbGo_did (within hW rfl) h) h

/-! Claryn -/

theorem execStoreCmd_did {W : Nat} {s : State} {u : State}
    (hW : W &&& 0x40000000800 = 0x40000000800) (h : Did W s u) : ODid W s (execStoreCmd u) := by
  unfold execStoreCmd
  refine next_odid ?_
  exact onlyIf_did (storeSet_did (within hW rfl) h) h

theorem execStoreDefaults_did {W : Nat} {s : State} {u : State}
    (hW : W &&& 0x40000000800 = 0x40000000800) (h : Did W s u) : ODid W s (execStoreDefaults u) := by
  unfold execStoreDefaults
  refine next_odid ?_
  exact onlyIf_did (storeSet_did (within hW rfl) h) h

end Sys2Proof.Machine
end

