-- ==== Sys2Proof/Laws/DidChips.lean ====
section
/-! SUPPORT. What each operation of these units can do, one lemma for each: chip links, the Baton unit, codewords, the Starter, words of the custom opcodes. -/

-- one theorem after the other: a thread for each of hundreds of small theorems takes more memory than the check allows
set_option Elab.async false

set_option linter.all false

namespace Sys2Proof.Machine

open Sys2Proof

/-! ChipLinks -/

theorem rcLocalPieces_did {W : Nat} {s : State} {a1 : Nat} {a2 : Nat} {a3 : List (Nat × Nat)} {u : State}
    (hW : W &&& 0x522e000d86e = 0x522e000d86e) (h : Did W s u) : Did W s (rcLocalPieces a1 a2 a3 u).2 := by
  induction a3 generalizing u with
  | nil  =>
    unfold rcLocalPieces
    dsimp only
    exact h
  | cons r1 r2 r3 =>
    unfold rcLocalPieces
    dsimp only
    split
    · rename_i e4 e5 e6
      have k7 : Did W s e5 := Did.of_eq (congrArg (fun x : (_ × _) => x.2) e6) (pagePhys_did (within hW rfl) h)
      exact k7
    · rename_i e8 e9 e10 e11
      refine r3 ?_
      have k12 : Did W s e10 := Did.of_eq (congrArg (fun x : (_ × _) => x.2) e11) (pagePhys_did (within hW rfl) h)
      exact k12

theorem serveRead_did {W : Nat} {s : State} {a1 : Requester} {a2 : Option Nat} {a3 : Nat} {a4 : Nat} {u : State}
    (hW : W &&& 0x52ec000d86e = 0x52ec000d86e) (h : Did W s u) : Did W s (serveRead a1 a2 a3 a4 u).2.2 := by
  unfold serveRead
  split
  · exact memErr_did (within hW rfl) h
  · split
    · rename_i e6 e7 e8 e9
      refine memErr_did (within hW rfl) ?_
      have k10 : Did W s e8 := Did.of_eq (congrArg (fun x : (_ × _) => x.2) e9) (pageRead_did (within hW rfl) h)
      exact k10
    · rename_i e11 e12 e13 e14
      dsimp only
      have k15 : Did W s e13 := Did.of_eq (congrArg (fun x : (_ × _) => x.2) e14) (pageRead_did (within hW rfl) h)
      exact k15

theorem writeLocal_did {W : Nat} {s : State} {a1 : Requester} {a2 : Option Nat} {a3 : Nat × Nat} {a4 : Bool} {a5 : List (Nat × List Byte)} {u : State}
    (hW : W &&& 0x52ec000d86e = 0x52ec000d86e) (h : Did W s u) : Did W s (writeLocal a1 a2 a3 a4 a5 u).2 := by
  induction a5 generalizing u with
  | nil  =>
    unfold writeLocal
    dsimp only
    exact h
  | cons r1 r2 r3 =>
    unfold writeLocal
    dsimp only
    refine r3 (logged_did (within hW rfl) ?_)
    split
    · exact localWrite_did (within hW rfl) h
    · exact writeInLine_did (within hW rfl) h

theorem writeAll_did {W : Nat} {s : State} {a1 : Requester} {a2 : Option Nat} {a3 : Nat × Nat} {a4 : List (Nat × Nat × Bool)} {a5 : List Byte} {u : State}
    (hW : W &&& 0x52ec000d86e = 0x52ec000d86e) (h : Did W s u) : Did W s (writeAll a1 a2 a3 a4 a5 u).2 := by
  induction a4 generalizing a5 u with
  | nil  =>
    unfold writeAll
    dsimp only
    exact h
  | cons r1 r2 r3 =>
    unfold writeAll
    dsimp only
    split
    · split
      · exact memErr_did (within hW rfl) h
      · exact writeLocal_did (within hW rfl) h
    · refine r3 ?_
      split
      · exact memErr_did (within hW rfl) h
      · exact writeLocal_did (within hW rfl) h

theorem readAll_did {W : Nat} {s : State} {a1 : Requester} {a2 : Option Nat} {a3 : List (Nat × Nat × Bool)} {u : State}
    (hW : W &&& 0x52ec000d86e = 0x52ec000d86e) (h : Did W s u) : Did W s (readAll a1 a2 a3 u).2 := by
  induction a3 generalizing u with
  | nil  =>
    unfold readAll
    dsimp only
    exact h
  | cons r1 r2 r3 =>
    unfold readAll
    dsimp only
    split
    · rename_i e4 e5 e6 e7
      refine memErr_did (within hW rfl) ?_
      have k8 : Did W s e6 := Did.of_eq (congrArg (fun x : (_ × _) => x.2) e7) (pageRead_did (within hW rfl) h)
      exact k8
    · rename_i e9 e10 e11 e12
      refine r3 ?_
      have k13 : Did W s e11 := Did.of_eq (congrArg (fun x : (_ × _) => x.2) e12) (pageRead_did (within hW rfl) h)
      exact k13

theorem servePieces_did {W : Nat} {s : State} {a1 : Requester} {a2 : Option Nat} {a3 : Nat × Nat} {a4 : Bool} {a5 : List (Nat × List Byte)} {u : State}
    (hW : W &&& 0x522c000d86e = 0x522c000d86e) (h : Did W s u) : Did W s (servePieces a1 a2 a3 a4 a5 u).2 := by
  induction a5 generalizing u with
  | nil  =>
    unfold servePieces
    dsimp only
    exact h
  | cons r1 r2 r3 =>
    unfold servePieces
    dsimp only
    exact r3 (logged_did (within hW rfl) (spanWrite_did (within hW rfl) h))

theorem serveWrite_did {W : Nat} {s : State} {a1 : Requester} {a2 : Option Nat} {a3 : Nat × Nat} {a4 : Nat} {a5 : Bool} {a6 : List Byte} {u : State}
    (hW : W &&& 0x522c000d86e = 0x522c000d86e) (h : Did W s u) : Did W s (serveWrite a1 a2 a3 a4 a5 a6 u).2 := by
  unfold serveWrite
  split
  · exact memErr_did (within hW rfl) h
  · split
    · rename_i e6 e7 e8 e9
      have k10 : Did W s e8 := Did.of_eq (congrArg (fun x : (_ × _) => x.2) e9) (servePieces_did (within hW rfl) h)
      exact k10
    · rename_i e11 e12 e13
      have k14 : Did W s e12 := Did.of_eq (congrArg (fun x : (_ × _) => x.2) e13) (servePieces_did (within hW rfl) h)
      exact k14

theorem remotePost_did {W : Nat} {s : State} {a1 : Option Nat} {a2 : Nat} {a3 : W32} {u : State}
    (hW : W &&& 0x52ef50cd86e = 0x52ef50cd86e) (h : Did W s u) : Did W s (remotePost a1 a2 a3 u).2 := by
  unfold remotePost
  extract_lets z1
  clear_value z1
  refine did_ite_of (fun x : (_ × _) => x.2) ?_ ?_
  · refine signalBaton_did (within hW rfl) ?_
    split
    · exact shadowBaton_did (within hW rfl) h
    · exact h
  · exact h

theorem selfPiece_did {W : Nat} {s : State} {a1 : Nat} {a2 : W32} {a3 : RCmd} {a4 : Nat} {a5 : List (Nat × Nat × Bool)} {u : State}
    (hW : W &&& 0x53ef50cd86e = 0x53ef50cd86e) (h : Did W s u) : Did W s (selfPiece a1 a2 a3 a4 a5 u) := by
  unfold selfPiece
  extract_lets z1 z2 z3
  clear_value z1
  clear_value z2
  have hz3 : Did W s z3.2.2 := serveRead_did (within hW rfl) h
  clear_value z3
  refine did_ite (did_ite (rqNote_did (within hW rfl) hz3) ?_) ?_
  · split
    · rename_i e4 e5 e6 e7
      refine rqNote_did (within hW rfl) ?_
      have k8 : Did W s e6 := Did.of_eq (congrArg (fun x : (_ × _) => x.2) e7) (writeAll_did (within hW rfl) hz3)
      exact k8
    · rename_i e9 e10 e11
      have k12 : Did W s e10 := Did.of_eq (congrArg (fun x : (_ × _) => x.2) e11) (writeAll_did (within hW rfl) hz3)
      exact k12
  · split
    · rename_i e13 e14 e15 e16
      refine rqNote_did (within hW rfl) ?_
      have k17 : Did W s e15 := Did.of_eq (congrArg (fun x : (_ × _) => x.2) e16) (readAll_did (within hW rfl) h)
      exact k17
    · rename_i e18 e19 e20 e21
      extract_lets z22 z23
      have hz22 : Did W s z22.2 := by
        refine serveWrite_did (within hW rfl) ?_
        have k24 : Did W s e20 := Did.of_eq (congrArg (fun x : (_ × _) => x.2) e21) (readAll_did (within hW rfl) h)
        exact k24
      clear_value z22
      have hz23 : Did W s z23.2 := remotePost_did (within hW rfl) hz22
      clear_value z23
      exact did_ite (rqNote_did (within hW rfl) hz22) (did_ite (did_ite hz23 (rqNote_did (within hW rfl) hz23)) hz22)

theorem sendPiece_did {W : Nat} {s : State} {a1 : Nat} {a2 : W32} {a3 : RCmd} {u : State}
    (hW : W &&& 0x53ef50cd86e = 0x53ef50cd86e) (h : Did W s u) : Did W s (sendPiece a1 a2 a3 u) := by
  unfold sendPiece
  extract_lets z1 z2 z3 z4
  clear_value z1
  clear_value z2
  clear_value z3
  clear_value z4
  split
  · rename_i e5 e6 e7
    refine rqNote_did (within hW rfl) ?_
    have k8 : Did W s e6 := Did.of_eq (congrArg (fun x : (_ × _) => x.2) e7) (rcLocalPieces_did (within hW rfl) h)
    exact k8
  · rename_i e9 e10 e11 e12
    refine did_ite (rqMod_did (within hW rfl) (selfPiece_did (within hW rfl) ?_)) ?_
    · have k13 : Did W s e11 := Did.of_eq (congrArg (fun x : (_ × _) => x.2) e12) (rcLocalPieces_did (within hW rfl) h)
      exact k13
    · split
      · refine rqNote_did (within hW rfl) ?_
        have k16 : Did W s e11 := Did.of_eq (congrArg (fun x : (_ × _) => x.2) e12) (rcLocalPieces_did (within hW rfl) h)
        exact k16
      · extract_lets z20
        have hz20 : Did W s z20.2 := by
          refine did_ite_of (fun x : (_ × _) => x.2) ?_ ?_
          · have k21 : Did W s e11 := Did.of_eq (congrArg (fun x : (_ × _) => x.2) e12) (rcLocalPieces_did (within hW rfl) h)
            exact k21
          · refine readAll_did (within hW rfl) ?_
            have k22 : Did W s e11 := Did.of_eq (congrArg (fun x : (_ × _) => x.2) e12) (rcLocalPieces_did (within hW rfl) h)
            exact k22
        clear_value z20
        split
        · exact rqNote_did (within hW rfl) hz20
        · extract_lets z29
          have hz29 : Did W s z29.2 := request_did (within hW rfl) hz20
          clear_value z29
          exact rqMod_did (within hW rfl) hz29

theorem pump_did {W : Nat} {s : State} {a1 : Nat} {a2 : Nat} {a3 : W32} {u : State}
    (hW : W &&& 0x53ef50cd86e = 0x53ef50cd86e) (h : Did W s u) : Did W s (pump a1 a2 a3 u) := by
  induction a1 generalizing a2 a3 u with
  | zero  =>
    unfold pump
    exact h
  | succ r1 r2 =>
    unfold pump
    split
    · exact h
    · exact did_ite h (did_ite h (r2 (sendPiece_did (within hW rfl) h)))

theorem pumpCmd_did {W : Nat} {s : State} {a1 : Nat} {a2 : W32} {u : State}
    (hW : W &&& 0x53ef50cd86e = 0x53ef50cd86e) (h : Did W s u) : Did W s (pumpCmd a1 a2 u) := by
  unfold pumpCmd
  split
  · exact h
  · exact pump_did (within hW rfl) h

theorem putAckEffect_did {W : Nat} {s : State} {a1 : Nat} {a2 : BitVec 256} {u : State}
    (hW : W &&& 0x53ef50cd86e = 0x53ef50cd86e) (h : Did W s u) : Did W s (putAckEffect a1 a2 u) := by
  unfold putAckEffect
  refine did_ite h ?_
  split
  · exact h
  · refine did_ite h ?_
    extract_lets z6
    have hz6 : Did W s z6 := did_ite (rqNote_did (within hW rfl) h) h
    clear_value z6
    exact pumpCmd_did (within hW rfl) (settlePacket_did (within hW rfl) hz6)

theorem winCplEffect_did {W : Nat} {s : State} {a1 : Nat} {a2 : BitVec 256} {a3 : List Byte} {u : State}
    (hW : W &&& 0x2c00005806 = 0x2c00005806) (h : Did W s u) : Did W s (winCplEffect a1 a2 a3 u) := by
  unfold winCplEffect
  refine did_ite h ?_
  split
  · exact h
  · refine did_ite h (did_ite (failWindow_did (within hW rfl) h) (did_ite (dropPend_did (within hW rfl) h) (did_ite (transferAnswer_did (within hW rfl) h) ?_)))
    extract_lets z6 z7 z8
    have hz6 : Did W s z6 := dropPend_did (within hW rfl) h
    clear_value z6
    clear_value z7
    clear_value z8
    exact did_ite (emit_did (within hW rfl) (corePut_did (within hW rfl) hz6)) (corePut_did (within hW rfl) hz6)

theorem execWinCpl_did {W : Nat} {s : State} {a1 : Nat} {a2 : BitVec 256} {a3 : List Byte} {u : State}
    (hW : W &&& 0x2c00005806 = 0x2c00005806) (h : Did W s u) : ODid W s (execWinCpl a1 a2 a3 u) := by
  unfold execWinCpl
  refine onUnit_odid ?_
  exact winCplEffect_did (within hW rfl) h

theorem unreachableEffect_did {W : Nat} {s : State} {a1 : Nat} {a2 : BitVec 256} {u : State}
    (hW : W &&& 0x3c00005806 = 0x3c00005806) (h : Did W s u) : Did W s (unreachableEffect a1 a2 u) := by
  unfold unreachableEffect
  exact did_ite h (did_ite (did_ite (forwardPacket_did (within hW rfl) h) h) (did_ite (unreachTag_did (within hW rfl) h) h))

theorem execUnreachable_did {W : Nat} {s : State} {a1 : Nat} {a2 : BitVec 256} {u : State}
    (hW : W &&& 0x3c00005806 = 0x3c00005806) (h : Did W s u) : ODid W s (execUnreachable a1 a2 u) := by
  unfold execUnreachable
  refine onUnit_odid ?_
  exact unreachableEffect_did (within hW rfl) h

theorem windowAccess_did {W : Nat} {s : State} {a1 : Nat} {a2 : Bool} {a3 : Nat} {a4 : Nat} {a5 : Nat} {a6 : W64} {u : State}
    (hW : W &&& 0x52ec000d86e = 0x52ec000d86e) (h : Did W s u) : Did W s (windowAccess a1 a2 a3 a4 a5 a6 u) := by
  unfold windowAccess
  extract_lets z1 z2
  clear_value z1
  clear_value z2
  split
  · split
    · exact errorTo_did (within hW rfl) h
    · refine did_ite (did_ite ?_ ?_) ?_
      · split
        · rename_i e12 e13 e14 e15
          refine errorTo_did (within hW rfl) ?_
          have k16 : Did W s e14 := Did.of_eq (congrArg (fun x : (_ × _) => x.2) e15) (putLine_did (within hW rfl) h)
          exact k16
        · rename_i e17 e18 e19
          have k20 : Did W s e18 := Did.of_eq (congrArg (fun x : (_ × _) => x.2) e19) (putLine_did (within hW rfl) h)
          exact k20
      · extract_lets z21 z22
        have hz21 : Did W s z21.2.2 := lookLine_did (within hW rfl) h
        clear_value z21
        clear_value z22
        split
        · exact errorTo_did (within hW rfl) hz21
        · exact emit_did (within hW rfl) (corePut_did (within hW rfl) hz21)
      · extract_lets z28 z29 z30
        clear_value z28
        have hz29 : Did W s z29.2 := by
          refine did_ite_of (fun x : (_ × _) => x.2) ?_ ?_
          · exact request_did (within hW rfl) h
          · exact request_did (within hW rfl) h
        clear_value z29
        clear_value z30
        exact corePut_did (within hW rfl) hz29
  · exact errorTo_did (within hW rfl) h

theorem execBoardWindowAccess_did {W : Nat} {s : State} {a1 : Nat} {a2 : Bool} {a3 : Nat} {a4 : Nat} {a5 : W64} {a6 : List (Nat × Bool)} {u : State}
    (hW : W &&& 0x52ec000d86e = 0x52ec000d86e) (h : Did W s u) : ODid W s (execBoardWindowAccess a1 a2 a3 a4 a5 a6 u) := by
  unfold execBoardWindowAccess
  refine onUnit_odid ?_
  refine onlyIf_did (whenFree_did (within hW rfl) (withFlaws_did (within hW rfl) ?_ h) h) h
  intro x1 h2
  exact windowAccess_did (within hW rfl) h2

/-! Batons -/

theorem ewinSet_did {W : Nat} {s : State} {a1 : Nat} {a2 : Nat} {a3 : W64} {u : State}
    (hW : W &&& 0x40640d806 = 0x40640d806) (h : Did W s u) : Did W s (ewinSet a1 a2 a3 u) := by
  unfold ewinSet
  exact did_ite (did_ite (slotWrite_did (within hW rfl) h) h) (did_ite (groupWrite_did (within hW rfl) h) h)

/-! Regs -/

theorem ctxPageWrite_did {W : Nat} {s : State} {a1 : Bool} {a2 : Nat} {a3 : Nat} {a4 : W64} {u : State}
    (hW : W &&& 0x52ee74dd86e = 0x52ee74dd86e) (h : Did W s u) : Did W s (ctxPageWrite a1 a2 a3 a4 u) := by
  unfold ctxPageWrite
  exact did_ite (did_ite (doorbellEffect_did (within hW rfl) h) h) (did_ite (ctxPut_did (within hW rfl) h) (did_ite (ewinSet_did (within hW rfl) h) (did_ite (did_ite (queueSkipEffect_did (within hW rfl) h) (did_ite (queueResumeEffect_did (within hW rfl) h) h)) h)))

/-! Batons -/

theorem batonCtlSet_did {W : Nat} {s : State} {a1 : Nat} {a2 : W64} {u : State}
    (hW : W &&& 0x1400000 = 0x1400000) (h : Did W s u) : Did W s (batonCtlSet a1 a2 u) := by
  unfold batonCtlSet
  extract_lets z1 z2
  clear_value z1
  clear_value z2
  exact did_ite (did_mk h) (batonPut_did (within hW rfl) h)

theorem batonValueSet_did {W : Nat} {s : State} {a1 : Nat} {a2 : W32} {u : State}
    (hW : W &&& 0x52ee50cd86e = 0x52ee50cd86e) (h : Did W s u) : Did W s (batonValueSet a1 a2 u) := by
  unfold batonValueSet
  exact settleAll_did (within hW rfl) (batonStore_did (within hW rfl) h)

theorem batonCondSet_did {W : Nat} {s : State} {a1 : Nat} {a2 : W64} {u : State}
    (hW : W &&& 0x1000000 = 0x1000000) (h : Did W s u) : Did W s (batonCondSet a1 a2 u) := by
  unfold batonCondSet
  exact batonPut_did (within hW rfl) h

/-! Regs -/

theorem batonCtlWrite_did {W : Nat} {s : State} {a1 : Nat} {a2 : W64} {u : State}
    (hW : W &&& 0x52ee54cd86e = 0x52ee54cd86e) (h : Did W s u) : Did W s (batonCtlWrite a1 a2 u) := by
  unfold batonCtlWrite
  exact did_ite (batonCtlSet_did (within hW rfl) h) (did_ite (batonValueSet_did (within hW rfl) h) (did_ite (batonCondSet_did (within hW rfl) h) h))

/-! ChipLinks -/

theorem rqDoorbellEffect_did {W : Nat} {s : State} {a1 : Nat} {a2 : W64} {u : State}
    (hW : W &&& 0x11000000002 = 0x11000000002) (h : Did W s u) : Did W s (rqDoorbellEffect a1 a2 u) := by
  unfold rqDoorbellEffect
  extract_lets z1 z2
  clear_value z1
  clear_value z2
  exact did_ite h (did_ite (rqPut_did (within hW rfl) h) (parkRq_did (within hW rfl) h))

theorem rqResumeEffect_did {W : Nat} {s : State} {a1 : Nat} {u : State}
    (hW : W &&& 0x1000000000 = 0x1000000000) (h : Did W s u) : Did W s (rqResumeEffect a1 u) := by
  unfold rqResumeEffect
  extract_lets z1
  clear_value z1
  exact did_ite (rqPut_did (within hW rfl) h) h

theorem rqSkipEffect_did {W : Nat} {s : State} {a1 : Nat} {u : State}
    (hW : W &&& 0x53ee50cd86e = 0x53ee50cd86e) (h : Did W s u) : Did W s (rqSkipEffect a1 u) := by
  unfold rqSkipEffect
  extract_lets z1 z2 z3
  clear_value z1
  have hz2 : Did W s z2 := rqResumeEffect_did (within hW rfl) h
  clear_value z2
  clear_value z3
  exact did_ite (did_ite hz2 (rqFinish_did (within hW rfl) (rqPut_did (within hW rfl) hz2))) h

/-! Regs -/

theorem rqWrite_did {W : Nat} {s : State} {a1 : Bool} {a2 : Nat} {a3 : Nat} {a4 : W64} {u : State}
    (hW : W &&& 0x53ee50cd86e = 0x53ee50cd86e) (h : Did W s u) : Did W s (rqWrite a1 a2 a3 a4 u) := by
  unfold rqWrite
  split
  · exact did_ite (rqDoorbellEffect_did (within hW rfl) h) h
  · exact did_ite (rqSkipEffect_did (within hW rfl) h) (did_ite (rqResumeEffect_did (within hW rfl) h) h)
  · exact h

/-! ChipLinks -/

theorem rqCfgSet_did {W : Nat} {s : State} {a1 : Nat} {a2 : W64} {u : State}
    (hW : W &&& 0x1000000000 = 0x1000000000) (h : Did W s u) : Did W s (rqCfgSet a1 a2 u) := by
  unfold rqCfgSet
  extract_lets z1 z2
  clear_value z1
  clear_value z2
  exact did_ite (did_ite (did_ite (rqPut_did (within hW rfl) h) h) (rqPut_did (within hW rfl) h)) (did_ite (rqPut_did (within hW rfl) h) (rqPut_did (within hW rfl) h))

/-! Regs -/

theorem rqcWrite_did {W : Nat} {s : State} {a1 : Nat} {a2 : Nat} {a3 : W64} {u : State}
    (hW : W &&& 0x1000000000 = 0x1000000000) (h : Did W s u) : Did W s (rqcWrite a1 a2 a3 u) := by
  unfold rqcWrite
  split
  · exact rqCfgSet_did (within hW rfl) h
  · exact rqPut_did (within hW rfl) h
  · exact rqPut_did (within hW rfl) h
  · exact h

theorem xd0Write_did {W : Nat} {s : State} {a1 : Bool} {a2 : Nat} {a3 : W64} {u : State}
    (hW : W &&& 0x53ee7fdf86e = 0x53ee7fdf86e) (h : Did W s u) : Did W s (xd0Write a1 a2 a3 u) := by
  unfold xd0Write
  exact did_ite h (did_ite (ctxPageWrite_did (within hW rfl) h) (did_ite (batonPageWrite_did (within hW rfl) h) (did_ite (groupWrite_did (within hW rfl) h) (did_ite (slotWrite_did (within hW rfl) h) (did_ite (subWrite_did (within hW rfl) h) (did_ite (batonCtlWrite_did (within hW rfl) h) (did_ite (stuWrite_did (within hW rfl) h) (did_ite (rqWrite_did (within hW rfl) h) (did_ite (rqcWrite_did (within hW rfl) h) (did_ite (scWrite_did (within hW rfl) h) (did_ite (mailWrite_did (within hW rfl) h) (did_ite (did_ite (msixCtlSet_did (within hW rfl) h) (regPut_did (within hW rfl) h)) (xdWrite_did (within hW rfl) h)))))))))))))

theorem regWrite_did {W : Nat} {s : State} {a1 : Bool} {a2 : Nat} {a3 : W64} {u : State}
    (hW : W &&& 0x57fe7fdf86e = 0x57fe7fdf86e) (h : Did W s u) : Did W s (regWrite a1 a2 a3 u) := by
  unfold regWrite
  split
  · exact h
  · exact did_ite (did_ite (l2Write_did (within hW rfl) h) h) (did_ite (did_ite (mdWrite_did (within hW rfl) h) h) (did_ite (adWrite_did (within hW rfl) h) (did_ite (xd0Write_did (within hW rfl) h) (xdWrite_did (within hW rfl) h))))

theorem regPiece_did {W : Nat} {s : State} {a1 : Bool} {a2 : Nat} {a3 : List Byte} {u : State}
    (hW : W &&& 0x57fe7fdf86e = 0x57fe7fdf86e) (h : Did W s u) : Did W s (regPiece a1 a2 a3 u) := by
  unfold regPiece
  extract_lets z1
  clear_value z1
  split
  · exact did_ite (emit_did (within hW rfl) (eipSet_did (within hW rfl) h)) h
  · exact ecamWrite_did (within hW rfl) h
  · exact did_ite h (did_ite (regWrite_did (within hW rfl) h) (regWrite_did (within hW rfl) h))

theorem regBytes_did {W : Nat} {s : State} {a1 : Nat} {a2 : List Byte} {u : State}
    (hW : W &&& 0x57fe7fdf86e = 0x57fe7fdf86e) (h : Did W s u) : Did W s (regBytes a1 a2 u) := by
  unfold regBytes
  refine did_foldl ?_ h
  intro x1 x2 h3
  exact regPiece_did (within hW rfl) h3

/-! ChipLinks -/

theorem rqCompleteEffect_did {W : Nat} {s : State} {a1 : Nat} {u : State}
    (hW : W &&& 0x53ee50cd86e = 0x53ee50cd86e) (h : Did W s u) : Did W s (rqCompleteEffect a1 u) := by
  unfold rqCompleteEffect
  split
  · exact h
  · exact rqFinish_did (within hW rfl) h

theorem execRqCommandComplete_did {W : Nat} {s : State} {a1 : Nat} {u : State}
    (hW : W &&& 0x53ee50cd86e = 0x53ee50cd86e) (h : Did W s u) : ODid W s (execRqCommandComplete a1 u) := by
  unfold execRqCommandComplete
  refine onUnit_odid ?_
  exact rqCompleteEffect_did (within hW rfl) h

/-! Cores -/

theorem acLoad_did {W : Nat} {s : State} {a1 : Nat} {a2 : Nat} {a3 : Nat} {a4 : Nat} {u : State}
    (hW : W &&& 0x5eec000d86e = 0x5eec000d86e) (h : Did W s u) : Did W s (acLoad a1 a2 a3 a4 u) := by
  unfold acLoad
  refine did_ite (did_ite (windowAccess_did (within hW rfl) h) (acTrap_did (within hW rfl) h)) ?_
  split
  · exact errorTo_did (within hW rfl) h
  · split
    · extract_lets z10
      have hz10 : Did W s z10.2 := regLoad_did (within hW rfl) h
      clear_value z10
      exact emit_did (within hW rfl) (acMod_did (within hW rfl) hz10)
    · exact askHost_did (within hW rfl) (acMod_did (within hW rfl) h)
    · split
      · rename_i e17 e18 e19 e20
        refine errorTo_did (within hW rfl) ?_
        have k21 : Did W s e19 := Did.of_eq (congrArg (fun x : (_ × _) => x.2) e20) (readLines_did (within hW rfl) h)
        exact k21
      · rename_i e22 e23 e24 e25
        refine emit_did (within hW rfl) (acMod_did (within hW rfl) ?_)
        have k26 : Did W s e24 := Did.of_eq (congrArg (fun x : (_ × _) => x.2) e25) (readLines_did (within hW rfl) h)
        exact k26

theorem acStore_did {W : Nat} {s : State} {a1 : Nat} {a2 : Nat} {a3 : List Byte} {u : State}
    (hW : W &&& 0x57fe7fdf86e = 0x57fe7fdf86e) (h : Did W s u) : Did W s (acStore a1 a2 a3 u) := by
  unfold acStore
  refine did_ite (did_ite (windowAccess_did (within hW rfl) h) (acTrap_did (within hW rfl) h)) ?_
  split
  · exact errorTo_did (within hW rfl) h
  · split
    · exact regBytes_did (within hW rfl) h
    · exact postHost_did (within hW rfl) h
    · exact acPuts_did (within hW rfl) h

theorem acEffect_did {W : Nat} {s : State} {a1 : Nat} {a2 : Bool} {a3 : AcOp} {u : State}
    (hW : W &&& 0x5ffe7fdf86e = 0x5ffe7fdf86e) (h : Did W s u) : Did W s (acEffect a1 a2 a3 u) := by
  unfold acEffect
  extract_lets z1 z2 z3
  have hz1 : Did W s z1 := acNext_did (within hW rfl) h
  clear_value z1
  clear_value z2
  have hz3 : Did W s z3.2 := drawFree_did (within hW rfl) hz1
  clear_value z3
  split
  · exact acLoad_did (within hW rfl) hz1
  · exact acStore_did (within hW rfl) hz1
  · exact acLoad_did (within hW rfl) hz1
  · exact acStore_did (within hW rfl) hz1
  · exact acLoad_did (within hW rfl) hz1
  · exact acStore_did (within hW rfl) hz1
  · exact acAtomic_did (within hW rfl) hz1
  · exact acFetch_did (within hW rfl) (acMod_did (within hW rfl) h)
  · exact acCsrDo_did (within hW rfl) hz1
  · exact acCsrDo_did (within hW rfl) hz1
  · exact acCsrDo_did (within hW rfl) hz1
  · exact acInteger_did (within hW rfl) h
  · exact hz1
  · exact acMod_did (within hW rfl) h
  · exact acMod_did (within hW rfl) hz1
  · exact acVset_did (within hW rfl) hz1
  · exact takeTrap_did (within hW rfl) hz1
  · exact acBreak_did (within hW rfl) hz1
  · exact did_ite (acMod_did (within hW rfl) hz1) (takeTrap_did (within hW rfl) hz3)
  · split
    · exact takeTrap_did (within hW rfl) hz3
    · exact acMod_did (within hW rfl) hz1
  · exact acFloat_did (within hW rfl) hz1
  · exact acVector_did (within hW rfl) hz1
  · exact acFree_did (within hW rfl) h

theorem acGuarded_did {W : Nat} {s : State} {a1 : Nat} {a2 : Bool} {a3 : AcOp} {u : State}
    (hW : W &&& 0x5ffe7fdf86e = 0x5ffe7fdf86e) (h : Did W s u) : Did W s (acGuarded a1 a2 a3 u) := by
  unfold acGuarded
  extract_lets z1 z2
  have hz1 : Did W s z1 := acMod_did (within hW rfl) h
  clear_value z1
  have hz2 : Did W s z2.2 := drawFree_did (within hW rfl) hz1
  clear_value z2
  refine did_ite (takeTrap_did (within hW rfl) hz2) ?_
  split
  · exact did_ite (acEffect_did (within hW rfl) (acMod_did (within hW rfl) h)) (acTrap_did (within hW rfl) hz1)
  · exact acEffect_did (within hW rfl) (acMod_did (within hW rfl) h)

theorem execAcInstruction_did {W : Nat} {s : State} {a1 : Nat} {a2 : Bool} {a3 : AcOp} {a4 : List (Nat × Bool)} {u : State}
    (hW : W &&& 0x5ffe7fdf86e = 0x5ffe7fdf86e) (h : Did W s u) : ODid W s (execAcInstruction a1 a2 a3 a4 u) := by
  unfold execAcInstruction
  refine onUnit_odid ?_
  refine onlyIf_did (acWhenFree_did (within hW rfl) (withFlaws_did (within hW rfl) ?_ h) h) h
  intro x1 h2
  exact acStepped_did (within hW rfl) (acGuarded_did (within hW rfl) h2)

/-! ChipLinks -/

theorem packetNacked_did {W : Nat} {s : State} {a1 : Nat} {a2 : BitVec 256} {u : State}
    (hW : W &&& 0x802 = 0x802) (h : Did W s u) : Did W s (packetNacked a1 a2 u) := by
  unfold packetNacked
  exact nacked_did (within hW rfl) h

theorem answer_did {W : Nat} {s : State} {a1 : BitVec 256} {a2 : Nat} {a3 : Nat} {a4 : List Byte} {u : State}
    (hW : W &&& 0x400000004 = 0x400000004) (h : Did W s u) : Did W s (answer a1 a2 a3 a4 u) := by
  unfold answer
  exact sendOn_did (within hW rfl) h

theorem winRdEffect_did {W : Nat} {s : State} {a1 : Nat} {a2 : BitVec 256} {u : State}
    (hW : W &&& 0x52ec000d86e = 0x52ec000d86e) (h : Did W s u) : Did W s (winRdEffect a1 a2 u) := by
  unfold winRdEffect
  refine did_ite h (did_ite (packetNacked_did (within hW rfl) h) ?_)
  extract_lets z1
  have hz1 : Did W s z1.2.2 := serveRead_did (within hW rfl) h
  clear_value z1
  exact answer_did (within hW rfl) hz1

theorem winWrEffect_did {W : Nat} {s : State} {a1 : Nat} {a2 : BitVec 256} {a3 : List Byte} {u : State}
    (hW : W &&& 0x526c000d86e = 0x526c000d86e) (h : Did W s u) : Did W s (winWrEffect a1 a2 a3 u) := by
  unfold winWrEffect
  refine did_ite h (did_ite (packetNacked_did (within hW rfl) h) ?_)
  extract_lets z1
  have hz1 : Did W s z1.2 := serveWrite_did (within hW rfl) h
  clear_value z1
  exact answer_did (within hW rfl) hz1

theorem putEffect_did {W : Nat} {s : State} {a1 : Nat} {a2 : BitVec 256} {a3 : List Byte} {u : State}
    (hW : W &&& 0x52ef50cd86e = 0x52ef50cd86e) (h : Did W s u) : Did W s (putEffect a1 a2 a3 u) := by
  unfold putEffect
  refine did_ite h (did_ite (packetNacked_did (within hW rfl) h) ?_)
  extract_lets z1 z2
  have hz1 : Did W s z1.2 := serveWrite_did (within hW rfl) h
  clear_value z1
  have hz2 : Did W s z2.2 := remotePost_did (within hW rfl) hz1
  clear_value z2
  exact did_ite (answer_did (within hW rfl) hz2) (answer_did (within hW rfl) hz1)

theorem getEffect_did {W : Nat} {s : State} {a1 : Nat} {a2 : BitVec 256} {u : State}
    (hW : W &&& 0x52ec000d86e = 0x52ec000d86e) (h : Did W s u) : Did W s (getEffect a1 a2 u) := by
  unfold getEffect
  refine did_ite h (did_ite (packetNacked_did (within hW rfl) h) ?_)
  extract_lets z1
  have hz1 : Did W s z1.2.2 := serveRead_did (within hW rfl) h
  clear_value z1
  exact answer_did (within hW rfl) hz1

theorem getDataEffect_did {W : Nat} {s : State} {a1 : Nat} {a2 : BitVec 256} {a3 : List Byte} {u : State}
    (hW : W &&& 0x53ef50cd86e = 0x53ef50cd86e) (h : Did W s u) : Did W s (getDataEffect a1 a2 a3 u) := by
  unfold getDataEffect
  refine did_ite h ?_
  split
  · exact h
  · refine did_ite h ?_
    extract_lets z6 z7 z8
    clear_value z6
    clear_value z7
    have hz8 : Did W s z8 := by
      refine did_ite (rqNote_did (within hW rfl) h) ?_
      split
      · rename_i e9 e10 e11
        refine rqNote_did (within hW rfl) ?_
        have k12 : Did W s e10 := Did.of_eq (congrArg (fun x : (_ × _) => x.2) e11) (rcLocalPieces_did (within hW rfl) h)
        exact k12
      · rename_i e13 e14 e15 e16
        split
        · rename_i e17 e18 e19 e20
          refine rqNote_did (within hW rfl) ?_
          have k21 : Did W s e19 := by
            refine Did.of_eq (congrArg (fun x : (_ × _) => x.2) e20) ?_
            refine writeAll_did (within hW rfl) ?_
            have k22 : Did W s e15 := Did.of_eq (congrArg (fun x : (_ × _) => x.2) e16) (rcLocalPieces_did (within hW rfl) h)
            exact k22
          exact k21
        · rename_i e23 e24 e25
          have k26 : Did W s e24 := by
            refine Did.of_eq (congrArg (fun x : (_ × _) => x.2) e25) ?_
            refine writeAll_did (within hW rfl) ?_
            have k27 : Did W s e15 := Did.of_eq (congrArg (fun x : (_ × _) => x.2) e16) (rcLocalPieces_did (within hW rfl) h)
            exact k27
          exact k26
    clear_value z8
    exact pumpCmd_did (within hW rfl) (settlePacket_did (within hW rfl) hz8)

theorem relayRefuse_did {W : Nat} {s : State} {a1 : Nat} {a2 : Nat} {u : State}
    (hW : W &&& 0x40200c004 = 0x40200c004) (h : Did W s u) : Did W s (relayRefuse a1 a2 u) := by
  unfold relayRefuse
  extract_lets z1 z2
  clear_value z1
  have hz2 : Did W s z2 := did_ite (spreadAbort_did (within hW rfl) (endRounds_did (within hW rfl) h)) h
  clear_value z2
  exact did_ite hz2 (sendOn_did (within hW rfl) hz2)

theorem nodeArrives_did {W : Nat} {s u v : State} {a1 a2 a3 a4 : Nat} {a5 : List Byte}
    (hW : W &&& 0x2000000 = 0x2000000) (h : Did W s u) (e : nodeArrives a1 a2 a3 a4 a5 u = some v) : Did W s v := by
  unfold nodeArrives at e
  extract_lets at e
  split at e
  · cases e
  · cases e
    exact groupPut_did (within hW rfl) h

theorem relayUpEffect_did {W : Nat} {s : State} {a1 : Nat} {a2 : BitVec 256} {a3 : List Byte} {u : State}
    (hW : W &&& 0x41200c004 = 0x41200c004) (h : Did W s u) : Did W s (relayUpEffect a1 a2 a3 u) := by
  unfold relayUpEffect
  refine did_ite h ?_
  extract_lets z1 z2
  clear_value z1
  clear_value z2
  refine shadowGroup_did (within hW rfl) h (did_ite (relayRefuse_did (within hW rfl) h) (did_ite h (did_ite (did_ite (gatherArrives_did (within hW rfl) h) (relayRefuse_did (within hW rfl) h)) ?_)))
  split
  · rename_i e3 e4 e5
    have k6 : Did W s e4 := nodeArrives_did (within hW rfl) h e5
    exact k6
  · exact relayRefuse_did (within hW rfl) h

theorem relayDownEffect_did {W : Nat} {s : State} {a1 : Nat} {a2 : BitVec 256} {a3 : List Byte} {u : State}
    (hW : W &&& 0x41200c004 = 0x41200c004) (h : Did W s u) : Did W s (relayDownEffect a1 a2 a3 u) := by
  unfold relayDownEffect
  refine did_ite h ?_
  extract_lets z1 z2
  clear_value z1
  clear_value z2
  refine shadowGroup_did (within hW rfl) h (did_ite (groupAborted_did (within hW rfl) h) (did_ite (relayRefuse_did (within hW rfl) h) (did_ite h ?_)))
  split
  · exact relayRefuse_did (within hW rfl) h
  · rename_i e5 e6 e7
    refine did_ite (did_foldl ?_ ?_) ?_
    · intro x8 x9 h10
      exact sendRelay_did (within hW rfl) h10
    · have k11 : Did W s e6 := nodeArrives_did (within hW rfl) h e7
      exact k11
    · have k12 : Did W s e6 := nodeArrives_did (within hW rfl) h e7
      exact k12

/-! Codewords -/

theorem deliverPacket_did {W : Nat} {s : State} {a1 : Nat} {a2 : BitVec 256} {a3 : List Byte} {u : State}
    (hW : W &&& 0x53ef70cd86e = 0x53ef70cd86e) (h : Did W s u) : Did W s (deliverPacket a1 a2 a3 u) := by
  unfold deliverPacket
  refine did_ite (forwardPacket_did (within hW rfl) h) ?_
  split
  · exact winRdEffect_did (within hW rfl) h
  · exact winWrEffect_did (within hW rfl) h
  · exact winCplEffect_did (within hW rfl) h
  · exact putEffect_did (within hW rfl) h
  · exact putAckEffect_did (within hW rfl) h
  · exact getEffect_did (within hW rfl) h
  · exact getDataEffect_did (within hW rfl) h
  · exact settleAll_did (within hW rfl) (relayUpEffect_did (within hW rfl) h)
  · exact settleAll_did (within hW rfl) (relayDownEffect_did (within hW rfl) h)
  · exact unreachableEffect_did (within hW rfl) h
  · exact h

theorem takePackets_did {W : Nat} {s : State} {a1 : Nat} {a2 : Nat} {a3 : Bool} {u : State}
    (hW : W &&& 0x53ef70cd86e = 0x53ef70cd86e) (h : Did W s u) : Did W s (takePackets a1 a2 a3 u).2 := by
  induction a1 generalizing a2 a3 u with
  | zero  =>
    unfold takePackets
    dsimp only
    exact h
  | succ r1 r2 =>
    unfold takePackets
    dsimp only
    refine did_ite_of (fun x : (_ × _) => x.2) ?_ ?_
    · exact h
    · refine did_ite_of (fun x : (_ × _) => x.2) ?_ ?_
      · exact r2 (portPut_did (within hW rfl) h)
      · split
        · exact h
        · refine did_ite_of (fun x : (_ × _) => x.2) ?_ ?_
          · exact r2 (portMod_did (within hW rfl) (did_ite h (packetNacked_did (within hW rfl) h)))
          · exact r2 (deliverPacket_did (within hW rfl) (portPut_did (within hW rfl) h))

/-! ChipLinks -/

theorem rqStartEffect_did {W : Nat} {s : State} {a1 : Nat} {u : State}
    (hW : W &&& 0x53ef50cd86e = 0x53ef50cd86e) (h : Did W s u) : Did W s (rqStartEffect a1 u) := by
  unfold rqStartEffect
  refine did_ite h ?_
  split
  · exact pumpCmd_did (within hW rfl) h
  · split
    · exact h
    · exact pumpCmd_did (within hW rfl) (rqMod_did (within hW rfl) h)

theorem rcPageReason_did {W : Nat} {s : State} {a1 : Nat} {a2 : Nat} {a3 : List (Nat × Nat)} {u : State}
    (hW : W &&& 0x522e000d86e = 0x522e000d86e) (h : Did W s u) : Did W s (rcPageReason a1 a2 a3 u).2 := by
  induction a3 generalizing u with
  | nil  =>
    unfold rcPageReason
    dsimp only
    exact h
  | cons r1 r2 r3 =>
    unfold rcPageReason
    split
    · rename_i e4 e5 e6 e7 e8
      refine r3 ?_
      have k9 : Did W s e7 := Did.of_eq (congrArg (fun x : (_ × _) => x.2) e8) (resolvePage_did (within hW rfl) h)
      exact k9
    · rename_i e10 e11 e12 e13 e14
      have k15 : Did W s e13 := Did.of_eq (congrArg (fun x : (_ × _) => x.2) e14) (resolvePage_did (within hW rfl) h)
      exact k15
    · rename_i e16 e17 e18
      split
      · have k26 : Did W s e17 := Did.of_eq (congrArg (fun x : (_ × _) => x.2) e18) (resolvePage_did (within hW rfl) h)
        exact k26
      · have k29 : Did W s e17 := Did.of_eq (congrArg (fun x : (_ × _) => x.2) e18) (resolvePage_did (within hW rfl) h)
        exact k29

theorem rcReason_did {W : Nat} {s : State} {a1 : Nat} {a2 : RCmd} {u : State}
    (hW : W &&& 0x522e000d86e = 0x522e000d86e) (h : Did W s u) : Did W s (rcReason a1 a2 u).2 := by
  unfold rcReason
  extract_lets z1 z2 z3
  clear_value z1
  clear_value z2
  have hz3 : Did W s z3.2 := by
    refine did_ite_of (fun x : (_ × _) => x.2) ?_ ?_
    · exact rcPageReason_did (within hW rfl) h
    · exact h
  clear_value z3
  refine did_ite_of (fun x : (_ × _) => x.2) ?_ ?_
  · exact h
  · refine did_ite_of (fun x : (_ × _) => x.2) ?_ ?_
    · exact h
    · refine did_ite_of (fun x : (_ × _) => x.2) ?_ ?_
      · exact hz3
      · refine did_ite_of (fun x : (_ × _) => x.2) ?_ ?_
        · exact hz3
        · exact hz3

theorem acceptCmd_did {W : Nat} {s : State} {a1 : Nat} {a2 : List W64} {u : State}
    (hW : W &&& 0x53ee50cd86e = 0x53ee50cd86e) (h : Did W s u) : Did W s (acceptCmd a1 a2 u) := by
  unfold acceptCmd
  extract_lets z1 z2 z3 z4 z5
  clear_value z1
  clear_value z2
  clear_value z3
  have hz4 : Did W s z4 := rqPut_did (within hW rfl) h
  clear_value z4
  have hz5 : Did W s z5.2 := rcReason_did (within hW rfl) hz4
  clear_value z5
  exact did_ite (rqFinish_did (within hW rfl) (rqNote_did (within hW rfl) hz5)) (did_ite (rqFinish_did (within hW rfl) (rqNote_did (within hW rfl) hz5)) hz5)

/-! Starter -/

theorem hardLimitEffect_did {W : Nat} {s : State} {a1 : Nat} {u : State}
    (hW : W &&& 0x52eff0cd86e = 0x52eff0cd86e) (h : Did W s u) : Did W s (hardLimitEffect a1 u) := by
  unfold hardLimitEffect
  split
  · exact h
  · exact did_ite (settleAll_did (within hW rfl) (itemTime_did (within hW rfl) (moveTo_did (within hW rfl) h))) h

theorem execReportHardLimit_did {W : Nat} {s : State} {a1 : Nat} {u : State}
    (hW : W &&& 0x52eff0cd86e = 0x52eff0cd86e) (h : Did W s u) : ODid W s (execReportHardLimit a1 u) := by
  unfold execReportHardLimit
  refine next_odid ?_
  exact hardLimitEffect_did (within hW rfl) h

/-! Codewords -/

theorem sidebandEffect_did {W : Nat} {s : State} {a1 : Nat} {a2 : Codeword} {u : State}
    (hW : W &&& 0x53ef70cd96e = 0x53ef70cd96e) (h : Did W s u) : Did W s (sidebandEffect a1 a2 u) := by
  unfold sidebandEffect
  extract_lets z1 z2
  clear_value z1
  have hz2 : Did W s z2 := did_ite (portMod_did (within hW rfl) h) h
  clear_value z2
  split
  · exact sbAckEffect_did (within hW rfl) hz2
  · exact sbNakEffect_did (within hW rfl) hz2
  · exact sbCreditEffect_did (within hW rfl) hz2
  · exact sbStateEffect_did (within hW rfl) hz2
  · exact goingDownEffect_did (within hW rfl) hz2
  · split
    · exact did_ite (eclMarkerEffect_did (within hW rfl) hz2) hz2
    · exact hz2
  · exact chipEvtEffect_did (within hW rfl) hz2
  · exact hz2

/-! Batons -/

theorem execBatonValueWrite_did {W : Nat} {s : State} {a1 : Nat} {a2 : W32} {u : State}
    (hW : W &&& 0x52ee50cd86e = 0x52ee50cd86e) (h : Did W s u) : ODid W s (execBatonValueWrite a1 a2 u) := by
  unfold execBatonValueWrite
  refine onUnit_odid ?_
  exact batonValueSet_did (within hW rfl) h

/-! ChipLinks -/

theorem execRqCommandStart_did {W : Nat} {s : State} {a1 : Nat} {a2 : List (Nat × Bool)} {u : State}
    (hW : W &&& 0x53ef50cd86e = 0x53ef50cd86e) (h : Did W s u) : ODid W s (execRqCommandStart a1 a2 u) := by
  unfold execRqCommandStart
  refine onUnit_odid ?_
  refine withFlaws_did (within hW rfl) ?_ h
  intro x1 h2
  exact rqStartEffect_did (within hW rfl) h2

theorem rqReadEffect_did {W : Nat} {s : State} {a1 : Nat} {u : State}
    (hW : W &&& 0x53ee50cd86e = 0x53ee50cd86e) (h : Did W s u) : Did W s (rqReadEffect a1 u) := by
  unfold rqReadEffect
  extract_lets z1 z2
  clear_value z1
  have hz2 : Did W s z2.2 := memRead_did (within hW rfl) h
  clear_value z2
  refine did_ite h (whenFree_did (within hW rfl) ?_ h)
  split
  · exact parkRq_did (within hW rfl) hz2
  · extract_lets z9
    clear_value z9
    exact did_ite (acceptCmd_did (within hW rfl) hz2) (did_ite (rqPut_did (within hW rfl) hz2) (parkRq_did (within hW rfl) hz2))

theorem execRqCommandRead_did {W : Nat} {s : State} {a1 : Nat} {a2 : List (Nat × Bool)} {u : State}
    (hW : W &&& 0x53ee50cd86e = 0x53ee50cd86e) (h : Did W s u) : ODid W s (execRqCommandRead a1 a2 u) := by
  unfold execRqCommandRead
  refine onUnit_odid ?_
  refine withFlaws_did (within hW rfl) ?_ h
  intro x1 h2
  exact rqReadEffect_did (within hW rfl) h2

theorem execGetData_did {W : Nat} {s : State} {a1 : Nat} {a2 : BitVec 256} {a3 : List Byte} {a4 : List (Nat × Bool)} {u : State}
    (hW : W &&& 0x53ef50cd86e = 0x53ef50cd86e) (h : Did W s u) : ODid W s (execGetData a1 a2 a3 a4 u) := by
  unfold execGetData
  refine onUnit_odid ?_
  refine withFlaws_did (within hW rfl) ?_ h
  intro x1 h2
  exact getDataEffect_did (within hW rfl) h2

/-! Starter -/

theorem countSlip_did {W : Nat} {s : State} {a1 : Nat} {a2 : Nat} {u : State}
    (hW : W &&& 0x802 = 0x802) (h : Did W s u) : Did W s (countSlip a1 a2 u) := by
  unfold countSlip
  extract_lets z1
  have hz1 : Did W s z1 := did_ite (bumpObj_did (within hW rfl) h) h
  clear_value z1
  exact did_ite (oset_did (within hW rfl) hz1) hz1

/-! Custom -/

theorem runDecoded_did {W : Nat} {s : State} {a1 : Instr} {u : State}
    (hW : W &&& 0x200c002 = 0x200c002) (h : Did W s u) : ODid W s (runDecoded a1 u) := by
  unfold runDecoded
  split
  · exact execPsetq_did (within hW rfl) h
  · exact execPgetq_did (within hW rfl) h
  · exact execPqadd_did (within hW rfl) h
  · exact execPtag_did (within hW rfl) h
  · exact execPwait_did (within hW rfl) h
  · exact execPfence_did (within hW rfl) h
  · exact execPstat_did (within hW rfl) h
  · exact execPrdop_did (within hW rfl) h
  · exact execPdone_did (within hW rfl) h
  · exact execPperf_did (within hW rfl) h
  · exact execPbsig_did (within hW rfl) h
  · exact execPbwait_did (within hW rfl) h
  · exact execPsqrd_did (within hW rfl) h
  · exact execPsqadv_did (within hW rfl) h
  · exact execPfret_did (within hW rfl) h
  · exact execPacerLoad_did (within hW rfl) h
  · exact execPacerStore_did (within hW rfl) h
  · exact execPacerAtomic_did (within hW rfl) h
  · exact execPacerCsrAccess_did (within hW rfl) h
  · exact execEcall_did (within hW rfl) h
  · exact execEbreak_did (within hW rfl) h
  · exact execMldw_did (within hW rfl) h
  · exact execMmul_did (within hW rfl) h
  · exact execMrd_did (within hW rfl) h
  · exact execMlda_did (within hW rfl) h
  · exact execMzero_did (within hW rfl) h
  · exact execVadd_did (within hW rfl) h
  · exact execVsub_did (within hW rfl) h
  · exact execVmul_did (within hW rfl) h
  · exact execVfma_did (within hW rfl) h
  · exact execVmin_did (within hW rfl) h
  · exact execVmax_did (within hW rfl) h
  · exact execVmov_did (within hW rfl) h
  · exact execVcvt_did (within hW rfl) h
  · exact execVceq_did (within hW rfl) h
  · exact execVclt_did (within hW rfl) h
  · exact execVcle_did (within hW rfl) h
  · exact execVfun_did (within hW rfl) h
  · exact execVred_did (within hW rfl) h
  · exact execVscan_did (within hW rfl) h
  · exact execVtopk_did (within hW rfl) h
  · exact execVcmprs_did (within hW rfl) h
  · exact execVexpd_did (within hW rfl) h
  · exact execVrand_did (within hW rfl) h
  · exact execVtrn_did (within hW rfl) h
  · exact execDld_did (within hW rfl) h
  · exact execDst_did (within hW rfl) h
  · exact execDvin_did (within hW rfl) h
  · exact execDvout_did (within hW rfl) h
  · exact execDpf_did (within hW rfl) h
  · exact execDrly_did (within hW rfl) h
  · refine next_odid ?_
    exact h

/-! Codewords -/

theorem takeStream_did {W : Nat} {s : State} {a1 : Nat} {u : State}
    (hW : W &&& 0x53ef70cd86e = 0x53ef70cd86e) (h : Did W s u) : Did W s (takeStream a1 u) := by
  unfold takeStream
  refine did_ite ?_ h
  extract_lets z1
  have hz1 : Did W s z1.2 := takePackets_did (within hW rfl) h
  clear_value z1
  exact did_ite (portMod_did (within hW rfl) hz1) hz1

theorem execSbState_did {W : Nat} {s : State} {a1 : Nat} {a2 : Nat} {u : State}
    (hW : W &&& 0x53ef70cd86e = 0x53ef70cd86e) (h : Did W s u) : ODid W s (execSbState a1 a2 u) := by
  unfold execSbState
  refine onUnit_odid ?_
  exact takeStream_did (within hW rfl) (sbStateEffect_did (within hW rfl) h)

/-! ChipLinks -/

theorem execPutAck_did {W : Nat} {s : State} {a1 : Nat} {a2 : BitVec 256} {u : State}
    (hW : W &&& 0x53ef50cd86e = 0x53ef50cd86e) (h : Did W s u) : ODid W s (execPutAck a1 a2 u) := by
  unfold execPutAck
  refine onUnit_odid ?_
  exact putAckEffect_did (within hW rfl) h

theorem execRelayUp_did {W : Nat} {s : State} {a1 : Nat} {a2 : BitVec 256} {a3 : List Byte} {u : State}
    (hW : W &&& 0x52ef70cd86e = 0x52ef70cd86e) (h : Did W s u) : ODid W s (execRelayUp a1 a2 a3 u) := by
  unfold execRelayUp
  refine onUnit_odid ?_
  exact settleAll_did (within hW rfl) (relayUpEffect_did (within hW rfl) h)

theorem execRqSkip_did {W : Nat} {s : State} {a1 : Nat} {u : State}
    (hW : W &&& 0x53ee50cd86e = 0x53ee50cd86e) (h : Did W s u) : ODid W s (execRqSkip a1 u) := by
  unfold execRqSkip
  refine onUnit_odid ?_
  exact rqSkipEffect_did (within hW rfl) h

/-! Codewords -/

theorem laneSymbols_did {W : Nat} {s : State} {a1 : Nat} {a2 : Nat} {a3 : Nat} {u : State}
    (hW : W &&& 0x50480000d6e = 0x50480000d6e) (h : Did W s u) : Did W s (laneSymbols a1 a2 a3 u) := by
  unfold laneSymbols
  extract_lets z1 z2 z3 z4
  clear_value z1
  clear_value z2
  clear_value z3
  have hz4 : Did W s z4 := portPut_did (within hW rfl) h
  clear_value z4
  exact did_ite (laneFail_did (within hW rfl) hz4) hz4

theorem addLanes_did {W : Nat} {s : State} {a1 : Nat} {a2 : List Nat} {u : State}
    (hW : W &&& 0x50480000d6e = 0x50480000d6e) (h : Did W s u) : Did W s (addLanes a1 a2 u) := by
  unfold addLanes
  extract_lets z1
  clear_value z1
  refine did_foldl ?_ h
  intro x2 x3 h4
  extract_lets z5
  clear_value z5
  exact did_ite h4 (laneSymbols_did (within hW rfl) h4)

/-! Batons -/

theorem execBatonBind_did {W : Nat} {s : State} {a1 : Nat} {a2 : W64} {u : State}
    (hW : W &&& 0x1400000 = 0x1400000) (h : Did W s u) : ODid W s (execBatonBind a1 a2 u) := by
  unfold execBatonBind
  refine onUnit_odid ?_
  exact batonCtlSet_did (within hW rfl) h

/-! Starter -/

theorem releaseTimeEffect_did {W : Nat} {s : State} {a1 : Nat} {a2 : Nat} {u : State}
    (hW : W &&& 0x52eff0cd86e = 0x52eff0cd86e) (h : Did W s u) : Did W s (releaseTimeEffect a1 a2 u) := by
  unfold releaseTimeEffect
  split
  · exact h
  · split
    · exact h
    · exact settleAll_did (within hW rfl) (moveTo_did (within hW rfl) h)

/-! Pcie -/

theorem inboundWriteEffect_did {W : Nat} {s : State} {a1 : Nat} {a2 : Nat} {a3 : Nat} {a4 : List Byte} {u : State}
    (hW : W &&& 0x5ffe7fdf86e = 0x5ffe7fdf86e) (h : Did W s u) : Did W s (inboundWriteEffect a1 a2 a3 a4 u) := by
  unfold inboundWriteEffect
  refine did_ite h ?_
  split
  · exact h
  · exact h
  · exact inboundFree_did (within hW rfl) (regBytes_did (within hW rfl) h) h
  · split
    · exact discardIn_did (within hW rfl) (memErr_did (within hW rfl) h)
    · exact inboundFree_did (within hW rfl) (writeOr_did (within hW rfl) h) h
  · exact inboundFree_did (within hW rfl) (writeOr_did (within hW rfl) h) h

theorem execPcieInboundWrite_did {W : Nat} {s : State} {a1 : Nat} {a2 : Nat} {a3 : Nat} {a4 : List Byte} {a5 : List (Nat × Bool)} {u : State}
    (hW : W &&& 0x5ffe7fdf86e = 0x5ffe7fdf86e) (h : Did W s u) : ODid W s (execPcieInboundWrite a1 a2 a3 a4 a5 u) := by
  unfold execPcieInboundWrite
  refine onUnit_odid ?_
  refine withFlaws_did (within hW rfl) ?_ h
  intro x1 h2
  exact inboundWriteEffect_did (within hW rfl) h2

/-! Starter -/

theorem readParam_did {W : Nat} {s : State} {a1 : Nat} {a2 : Item} {u : State}
    (hW : W &&& 0x52ee000d86e = 0x52ee000d86e) (h : Did W s u) : Did W s (readParam a1 a2 u).2 := by
  unfold readParam
  refine did_ite_of (fun x : (_ × _) => x.2) ?_ ?_
  · exact h
  · exact readVirt_did (within hW rfl) h

theorem enterCores_did {W : Nat} {s : State} {a1 : Nat} {a2 : Item} {a3 : List Byte} {a4 : Nat} {a5 : List Nat} {u : State}
    (hW : W &&& 0x52ee000d86e = 0x52ee000d86e) (h : Did W s u) : Did W s (enterCores a1 a2 a3 a4 a5 u) := by
  induction a5 generalizing a4 u with
  | nil  =>
    unfold enterCores
    exact h
  | cons r1 r2 r3 =>
    unfold enterCores
    exact r3 (fetchCode_did (within hW rfl) (tcPut_did (within hW rfl) h))

theorem startItem_did {W : Nat} {s : State} {a1 : Nat} {a2 : Item} {a3 : List Byte} {u : State}
    (hW : W &&& 0x52ee000d86e = 0x52ee000d86e) (h : Did W s u) : Did W s (startItem a1 a2 a3 u) := by
  unfold startItem
  extract_lets z1 z2 z3 z4 z5
  have hz1 : Did W s z1 := did_ite (oset_did (within hW rfl) h) h
  clear_value z1
  clear_value z2
  clear_value z3
  have hz4 : Did W s z4 := by
    refine did_foldl ?_ hz1
    intro x6 x7 h8
    exact takeCore_did (within hW rfl) h8
  clear_value z4
  clear_value z5
  exact countSlip_did (within hW rfl) (enterCores_did (within hW rfl) (itemPut_did (within hW rfl) hz4))

theorem execReleaseTimeReached_did {W : Nat} {s : State} {a1 : Nat} {a2 : Nat} {u : State}
    (hW : W &&& 0x52eff0cd86e = 0x52eff0cd86e) (h : Did W s u) : ODid W s (execReleaseTimeReached a1 a2 u) := by
  unfold execReleaseTimeReached
  refine onUnit_odid ?_
  exact releaseTimeEffect_did (within hW rfl) h

/-! Batons -/

theorem execBatonOperation_did {W : Nat} {s : State} {a1 : Nat} {a2 : W32} {u : State}
    (hW : W &&& 0x52ee50cd86e = 0x52ee50cd86e) (h : Did W s u) : ODid W s (execBatonOperation a1 a2 u) := by
  unfold execBatonOperation
  refine onUnit_odid ?_
  exact signalBaton_did (within hW rfl) h

/-! Starter -/

theorem starterStartEffect_did {W : Nat} {s : State} {a1 : Nat} {u : State}
    (hW : W &&& 0x52ee008d86e = 0x52ee008d86e) (h : Did W s u) : Did W s (starterStartEffect a1 u) := by
  unfold starterStartEffect
  split
  · exact h
  · refine did_ite h ?_
    extract_lets z7
    have hz7 : Did W s z7.2 := readParam_did (within hW rfl) h
    clear_value z7
    split
    · exact hz7
    · exact parkQueue_did (within hW rfl) hz7
    · exact startItem_did (within hW rfl) hz7

theorem execStarterStart_did {W : Nat} {s : State} {a1 : Nat} {a2 : List (Nat × Bool)} {u : State}
    (hW : W &&& 0x52ee008d86e = 0x52ee008d86e) (h : Did W s u) : ODid W s (execStarterStart a1 a2 u) := by
  unfold execStarterStart
  refine onUnit_odid ?_
  refine withFlaws_did (within hW rfl) ?_ h
  intro x1 h2
  exact starterStartEffect_did (within hW rfl) h2

/-! ChipLinks -/

theorem execWinWr_did {W : Nat} {s : State} {a1 : Nat} {a2 : BitVec 256} {a3 : List Byte} {a4 : List (Nat × Bool)} {u : State}
    (hW : W &&& 0x526c000d86e = 0x526c000d86e) (h : Did W s u) : ODid W s (execWinWr a1 a2 a3 a4 u) := by
  unfold execWinWr
  refine onUnit_odid ?_
  refine withFlaws_did (within hW rfl) ?_ h
  intro x1 h2
  exact winWrEffect_did (within hW rfl) h2

theorem execRqCfgWrite_did {W : Nat} {s : State} {a1 : Nat} {a2 : W64} {u : State}
    (hW : W &&& 0x1000000000 = 0x1000000000) (h : Did W s u) : ODid W s (execRqCfgWrite a1 a2 u) := by
  unfold execRqCfgWrite
  refine onUnit_odid ?_
  exact rqCfgSet_did (within hW rfl) h

/-! Starter -/

theorem rampEffect_did {W : Nat} {s : State} {a1 : Nat} {u : State}
    (hW : W &&& 0x800 = 0x800) (h : Did W s u) : Did W s (rampEffect a1 u) := by
  unfold rampEffect
  exact did_ite (oset_did (within hW rfl) h) h

theorem execAllowanceRampStep_did {W : Nat} {s : State} {a1 : Nat} {u : State}
    (hW : W &&& 0x800 = 0x800) (h : Did W s u) : ODid W s (execAllowanceRampStep a1 u) := by
  unfold execAllowanceRampStep
  refine onUnit_odid ?_
  exact rampEffect_did (within hW rfl) h

/-! ChipLinks -/

theorem execRqResume_did {W : Nat} {s : State} {a1 : Nat} {u : State}
    (hW : W &&& 0x1000000000 = 0x1000000000) (h : Did W s u) : ODid W s (execRqResume a1 u) := by
  unfold execRqResume
  refine onUnit_odid ?_
  exact rqResumeEffect_did (within hW rfl) h

theorem execPut_did {W : Nat} {s : State} {a1 : Nat} {a2 : BitVec 256} {a3 : List Byte} {a4 : List (Nat × Bool)} {u : State}
    (hW : W &&& 0x52ef50cd86e = 0x52ef50cd86e) (h : Did W s u) : ODid W s (execPut a1 a2 a3 a4 u) := by
  unfold execPut
  refine onUnit_odid ?_
  refine withFlaws_did (within hW rfl) ?_ h
  intro x1 h2
  exact putEffect_did (within hW rfl) h2

/-! Codewords -/

theorem wordEffect_did {W : Nat} {s : State} {a1 : Nat} {a2 : Nat} {a3 : Codeword} {u : State}
    (hW : W &&& 0x53ef70cd96e = 0x53ef70cd96e) (h : Did W s u) : Did W s (wordEffect a1 a2 a3 u) := by
  unfold wordEffect
  refine did_ite (takeStream_did (within hW rfl) (sidebandEffect_did (within hW rfl) h)) ?_
  extract_lets z1 z2
  clear_value z1
  have hz2 : Did W s z2 := portPut_did (within hW rfl) h
  clear_value z2
  exact did_ite h (takeStream_did (within hW rfl) (sidebandEffect_did (within hW rfl) (takeStream_did (within hW rfl) hz2)))

theorem codewordEffect_did {W : Nat} {s : State} {a1 : Nat} {a2 : List (List Nat)} {a3 : Nat} {a4 : Bool} {u : State}
    (hW : W &&& 0x53ef70cdd6e = 0x53ef70cdd6e) (h : Did W s u) : Did W s (codewordEffect a1 a2 a3 a4 u) := by
  unfold codewordEffect
  refine did_ite h ?_
  split
  · exact uncorrectableEffect_did (within hW rfl) h
  · extract_lets z7 z8
    have hz7 : Did W s z7 := bumpObj_did (within hW rfl) h
    clear_value z7
    have hz8 : Did W s z8 := did_ite (portMod_did (within hW rfl) hz7) hz7
    clear_value z8
    exact wordEffect_did (within hW rfl) (resendFailed_did (within hW rfl) h (addLanes_did (within hW rfl) hz8))

theorem execCodewordReceive_did {W : Nat} {s : State} {a1 : Nat} {a2 : List (List Nat)} {a3 : Nat} {a4 : Bool} {a5 : List (Nat × Bool)} {u : State}
    (hW : W &&& 0x53ef70cdd6e = 0x53ef70cdd6e) (h : Did W s u) : ODid W s (execCodewordReceive a1 a2 a3 a4 a5 u) := by
  unfold execCodewordReceive
  refine onUnit_odid ?_
  refine withFlaws_did (within hW rfl) ?_ h
  intro x1 h2
  exact codewordEffect_did (within hW rfl) h2

/-! Batons -/

theorem execEwinWrite_did {W : Nat} {s : State} {a1 : Nat} {a2 : Nat} {a3 : W64} {u : State}
    (hW : W &&& 0x40640d806 = 0x40640d806) (h : Did W s u) : ODid W s (execEwinWrite a1 a2 a3 u) := by
  unfold execEwinWrite
  refine onUnit_odid ?_
  exact onlyIf_did (ewinSet_did (within hW rfl) h) h

/-! Custom -/

theorem execPacerScalarOp_did {W : Nat} {s : State} {a1 : Nat} {a2 : BitVec 32} {u : State}
    (hW : W &&& 0x200c002 = 0x200c002) (h : Did W s u) : ODid W s (execPacerScalarOp a1 a2 u) := by
  unfold execPacerScalarOp
  extract_lets z1 z2
  clear_value z1
  split
  · split
    · exact runDecoded_did (within hW rfl) h
    · subst z2
      refine onUnit_odid ?_
      refine pacerRun_did (within hW rfl) ?_ h
      intro x10 x11 h12
      split
      · refine PacerRes.jump_did ?_
        exact tcMod_did (within hW rfl) h12
      · exact PacerRes.fault_did
  · subst z2
    refine onUnit_odid ?_
    refine pacerRun_did (within hW rfl) ?_ h
    intro x22 x23 h24
    split
    · refine PacerRes.jump_did ?_
      exact tcMod_did (within hW rfl) h24
    · exact PacerRes.fault_did

/-! Starter -/

theorem deadlineEffect_did {W : Nat} {s : State} {a1 : Nat} {u : State}
    (hW : W &&& 0x52eff0cd86e = 0x52eff0cd86e) (h : Did W s u) : Did W s (deadlineEffect a1 u) := by
  unfold deadlineEffect
  split
  · exact h
  · exact did_ite (settleAll_did (within hW rfl) (itemTime_did (within hW rfl) (moveTo_did (within hW rfl) h))) h

theorem execDeadlineReached_did {W : Nat} {s : State} {a1 : Nat} {u : State}
    (hW : W &&& 0x52eff0cd86e = 0x52eff0cd86e) (h : Did W s u) : ODid W s (execDeadlineReached a1 u) := by
  unfold execDeadlineReached
  refine next_odid ?_
  exact deadlineEffect_did (within hW rfl) h

theorem recomputeEffect_did {W : Nat} {s : State} {a1 : Nat} {u : State}
    (hW : W &&& 0x800 = 0x800) (h : Did W s u) : Did W s (recomputeEffect a1 u) := by
  unfold recomputeEffect
  exact did_ite (oset_did (within hW rfl) h) (did_ite h (oset_did (within hW rfl) h))

theorem execAllowanceRecompute_did {W : Nat} {s : State} {a1 : Nat} {u : State}
    (hW : W &&& 0x800 = 0x800) (h : Did W s u) : ODid W s (execAllowanceRecompute a1 u) := by
  unfold execAllowanceRecompute
  refine onUnit_odid ?_
  exact recomputeEffect_did (within hW rfl) h

/-! Batons -/

theorem execBatonOpWrite_did {W : Nat} {s : State} {a1 : Nat} {a2 : W32} {u : State}
    (hW : W &&& 0x52ee50cd86e = 0x52ee50cd86e) (h : Did W s u) : ODid W s (execBatonOpWrite a1 a2 u) := by
  unfold execBatonOpWrite
  refine onUnit_odid ?_
  exact signalBaton_did (within hW rfl) h

theorem execBatonEvtcondWrite_did {W : Nat} {s : State} {a1 : Nat} {a2 : W64} {u : State}
    (hW : W &&& 0x1000000 = 0x1000000) (h : Did W s u) : ODid W s (execBatonEvtcondWrite a1 a2 u) := by
  unfold execBatonEvtcondWrite
  refine onUnit_odid ?_
  exact batonCondSet_did (within hW rfl) h

/-! ChipLinks -/

theorem execWinRd_did {W : Nat} {s : State} {a1 : Nat} {a2 : BitVec 256} {a3 : List (Nat × Bool)} {u : State}
    (hW : W &&& 0x52ec000d86e = 0x52ec000d86e) (h : Did W s u) : ODid W s (execWinRd a1 a2 a3 u) := by
  unfold execWinRd
  refine onUnit_odid ?_
  refine withFlaws_did (within hW rfl) ?_ h
  intro x1 h2
  exact winRdEffect_did (within hW rfl) h2

theorem execGet_did {W : Nat} {s : State} {a1 : Nat} {a2 : BitVec 256} {a3 : List (Nat × Bool)} {u : State}
    (hW : W &&& 0x52ec000d86e = 0x52ec000d86e) (h : Did W s u) : ODid W s (execGet a1 a2 a3 u) := by
  unfold execGet
  refine onUnit_odid ?_
  refine withFlaws_did (within hW rfl) ?_ h
  intro x1 h2
  exact getEffect_did (within hW rfl) h2

theorem execRelayDown_did {W : Nat} {s : State} {a1 : Nat} {a2 : BitVec 256} {a3 : List Byte} {u : State}
    (hW : W &&& 0x52ef70cd86e = 0x52ef70cd86e) (h : Did W s u) : ODid W s (execRelayDown a1 a2 a3 u) := by
  unfold execRelayDown
  refine onUnit_odid ?_
  exact settleAll_did (within hW rfl) (relayDownEffect_did (within hW rfl) h)

theorem execRqDoorbell_did {W : Nat} {s : State} {a1 : Nat} {a2 : W64} {u : State}
    (hW : W &&& 0x11000000002 = 0x11000000002) (h : Did W s u) : ODid W s (execRqDoorbell a1 a2 u) := by
  unfold execRqDoorbell
  refine onUnit_odid ?_
  exact rqDoorbellEffect_did (within hW rfl) h

/-! Regs -/

theorem execRegisterWrite_did {W : Nat} {s : State} {a1 : Nat} {a2 : W64} {u : State}
    (hW : W &&& 0x57fe7fdf86e = 0x57fe7fdf86e) (h : Did W s u) : ODid W s (execRegisterWrite a1 a2 u) := by
  unfold execRegisterWrite
  refine next_odid ?_
  split
  · exact did_ite (regPiece_did (within hW rfl) h) h
  · exact memErr_did (within hW rfl) h
  · exact h

end Sys2Proof.Machine
end

