-- ==== Sys2Proof/Laws/State.lean ====
section
/-! SUPPORT. Each named update of the state: what it leaves in every field. No later proof unfolds a record update. -/

-- one theorem after the other: a thread for each of hundreds of small theorems takes more memory than the check allows
set_option Elab.async false

namespace Sys2Proof.Machine

open Sys2Proof

@[simp] theorem onUnit_true (t : State) : onUnit true t = .next t := rfl
@[simp] theorem onUnit_false (t : State) : onUnit false t = .fault .noSuchUnit := rfl
@[simp] theorem onlyIf_true (t s : State) : onlyIf true t s = t := rfl
@[simp] theorem onlyIf_false (t s : State) : onlyIf false t s = s := rfl

/-- A counter below its width counts. -/
theorem bumpObj_below (i j w n : Nat) (s : State) (h : oget s i j + n < 2 ^ w) : bumpObj i j w n s = oset s i j (oget s i j + n) := by
  simp [bumpObj, h]

@[simp] theorem drawFree_fst (s : State) : (drawFree s).1 = Config.free s.fresh := rfl
@[simp] theorem drawFree_snd (s : State) : (drawFree s).2 = { s with fresh := s.fresh + 1 } := rfl

@[simp] theorem emit_pending (s : State) (e : Emit) : (emit e s).pending = s.pending := rfl
@[simp] theorem emit_fresh (s : State) (e : Emit) : (emit e s).fresh = s.fresh := rfl
@[simp] theorem emit_out (s : State) (e : Emit) : (emit e s).out = e :: s.out := rfl
@[simp] theorem emit_boot (s : State) (e : Emit) : (emit e s).boot = s.boot := rfl
@[simp] theorem emit_fuse (s : State) (e : Emit) : (emit e s).fuse = s.fuse := rfl
@[simp] theorem emit_flash (s : State) (e : Emit) : (emit e s).flash = s.flash := rfl
@[simp] theorem emit_faults (s : State) (e : Emit) : (emit e s).faults = s.faults := rfl
@[simp] theorem emit_present (s : State) (e : Emit) : (emit e s).present = s.present := rfl
@[simp] theorem emit_links (s : State) (e : Emit) : (emit e s).links = s.links := rfl
@[simp] theorem emit_alt (s : State) (e : Emit) : (emit e s).alt = s.alt := rfl
@[simp] theorem emit_pendAlt (s : State) (e : Emit) : (emit e s).pendAlt = s.pendAlt := rfl
@[simp] theorem emit_obj (s : State) (e : Emit) : (emit e s).obj = s.obj := rfl
@[simp] theorem emit_oct (s : State) (e : Emit) : (emit e s).oct = s.oct := rfl
@[simp] theorem emit_regs (s : State) (e : Emit) : (emit e s).regs = s.regs := rfl
@[simp] theorem emit_tcs (s : State) (e : Emit) : (emit e s).tcs = s.tcs := rfl
@[simp] theorem emit_items (s : State) (e : Emit) : (emit e s).items = s.items := rfl
@[simp] theorem emit_nextAcc (s : State) (e : Emit) : (emit e s).nextAcc = s.nextAcc := rfl
@[simp] theorem emit_rr (s : State) (e : Emit) : (emit e s).rr = s.rr := rfl
@[simp] theorem emit_ctxs (s : State) (e : Emit) : (emit e s).ctxs = s.ctxs := rfl
@[simp] theorem emit_queues (s : State) (e : Emit) : (emit e s).queues = s.queues := rfl
@[simp] theorem emit_cmdStat (s : State) (e : Emit) : (emit e s).cmdStat = s.cmdStat := rfl
@[simp] theorem emit_cmdBusy (s : State) (e : Emit) : (emit e s).cmdBusy = s.cmdBusy := rfl
@[simp] theorem emit_bindErr (s : State) (e : Emit) : (emit e s).bindErr = s.bindErr := rfl
@[simp] theorem emit_ctxBase (s : State) (e : Emit) : (emit e s).ctxBase = s.ctxBase := rfl
@[simp] theorem emit_batons (s : State) (e : Emit) : (emit e s).batons = s.batons := rfl
@[simp] theorem emit_groups (s : State) (e : Emit) : (emit e s).groups = s.groups := rfl
@[simp] theorem emit_slots (s : State) (e : Emit) : (emit e s).slots = s.slots := rfl
@[simp] theorem emit_tb (s : State) (e : Emit) : (emit e s).tb = s.tb := rfl
@[simp] theorem emit_ecl (s : State) (e : Emit) : (emit e s).ecl = s.ecl := rfl
@[simp] theorem emit_stu (s : State) (e : Emit) : (emit e s).stu = s.stu := rfl
@[simp] theorem emit_mem (s : State) (e : Emit) : (emit e s).mem = s.mem := rfl
@[simp] theorem emit_mds (s : State) (e : Emit) : (emit e s).mds = s.mds := rfl
@[simp] theorem emit_l2maint (s : State) (e : Emit) : (emit e s).l2maint = s.l2maint := rfl
@[simp] theorem emit_coh (s : State) (e : Emit) : (emit e s).coh = s.coh := rfl
@[simp] theorem emit_ports (s : State) (e : Emit) : (emit e s).ports = s.ports := rfl
@[simp] theorem emit_chips (s : State) (e : Emit) : (emit e s).chips = s.chips := rfl
@[simp] theorem emit_rqs (s : State) (e : Emit) : (emit e s).rqs = s.rqs := rfl
@[simp] theorem emit_cores (s : State) (e : Emit) : (emit e s).cores = s.cores := rfl
@[simp] theorem emit_mtime (s : State) (e : Emit) : (emit e s).mtime = s.mtime := rfl
@[simp] theorem emit_pcie (s : State) (e : Emit) : (emit e s).pcie = s.pcie := rfl
@[simp] theorem emit_sc (s : State) (e : Emit) : (emit e s).sc = s.sc := rfl
@[simp] theorem emit_pwr (s : State) (e : Emit) : (emit e s).pwr = s.pwr := rfl
@[simp] theorem emit_cla (s : State) (e : Emit) : (emit e s).cla = s.cla := rfl
@[simp] theorem emit_sec (s : State) (e : Emit) : (emit e s).sec = s.sec := rfl
@[simp] theorem emit_routes (s : State) (e : Emit) : (emit e s).routes = s.routes := rfl

@[simp] theorem oset_pending (s : State) (i j v : Nat) : (oset s i j v).pending = s.pending := rfl
@[simp] theorem oset_fresh (s : State) (i j v : Nat) : (oset s i j v).fresh = s.fresh := rfl
@[simp] theorem oset_out (s : State) (i j v : Nat) : (oset s i j v).out = s.out := rfl
@[simp] theorem oset_boot (s : State) (i j v : Nat) : (oset s i j v).boot = s.boot := rfl
@[simp] theorem oset_fuse (s : State) (i j v : Nat) : (oset s i j v).fuse = s.fuse := rfl
@[simp] theorem oset_flash (s : State) (i j v : Nat) : (oset s i j v).flash = s.flash := rfl
@[simp] theorem oset_faults (s : State) (i j v : Nat) : (oset s i j v).faults = s.faults := rfl
@[simp] theorem oset_present (s : State) (i j v : Nat) : (oset s i j v).present = s.present := rfl
@[simp] theorem oset_links (s : State) (i j v : Nat) : (oset s i j v).links = s.links := rfl
@[simp] theorem oset_alt (s : State) (i j v : Nat) : (oset s i j v).alt = s.alt := rfl
@[simp] theorem oset_pendAlt (s : State) (i j v : Nat) : (oset s i j v).pendAlt = s.pendAlt := rfl
@[simp] theorem oset_obj (s : State) (i j v : Nat) : (oset s i j v).obj = tset (objDefault i j) s.obj (objKey i j) v := rfl
@[simp] theorem oset_oct (s : State) (i j v : Nat) : (oset s i j v).oct = s.oct := rfl
@[simp] theorem oset_regs (s : State) (i j v : Nat) : (oset s i j v).regs = s.regs := rfl
@[simp] theorem oset_tcs (s : State) (i j v : Nat) : (oset s i j v).tcs = s.tcs := rfl
@[simp] theorem oset_items (s : State) (i j v : Nat) : (oset s i j v).items = s.items := rfl
@[simp] theorem oset_nextAcc (s : State) (i j v : Nat) : (oset s i j v).nextAcc = s.nextAcc := rfl
@[simp] theorem oset_rr (s : State) (i j v : Nat) : (oset s i j v).rr = s.rr := rfl
@[simp] theorem oset_ctxs (s : State) (i j v : Nat) : (oset s i j v).ctxs = s.ctxs := rfl
@[simp] theorem oset_queues (s : State) (i j v : Nat) : (oset s i j v).queues = s.queues := rfl
@[simp] theorem oset_cmdStat (s : State) (i j v : Nat) : (oset s i j v).cmdStat = s.cmdStat := rfl
@[simp] theorem oset_cmdBusy (s : State) (i j v : Nat) : (oset s i j v).cmdBusy = s.cmdBusy := rfl
@[simp] theorem oset_bindErr (s : State) (i j v : Nat) : (oset s i j v).bindErr = s.bindErr := rfl
@[simp] theorem oset_ctxBase (s : State) (i j v : Nat) : (oset s i j v).ctxBase = s.ctxBase := rfl
@[simp] theorem oset_batons (s : State) (i j v : Nat) : (oset s i j v).batons = s.batons := rfl
@[simp] theorem oset_groups (s : State) (i j v : Nat) : (oset s i j v).groups = s.groups := rfl
@[simp] theorem oset_slots (s : State) (i j v : Nat) : (oset s i j v).slots = s.slots := rfl
@[simp] theorem oset_tb (s : State) (i j v : Nat) : (oset s i j v).tb = s.tb := rfl
@[simp] theorem oset_ecl (s : State) (i j v : Nat) : (oset s i j v).ecl = s.ecl := rfl
@[simp] theorem oset_stu (s : State) (i j v : Nat) : (oset s i j v).stu = s.stu := rfl
@[simp] theorem oset_mem (s : State) (i j v : Nat) : (oset s i j v).mem = s.mem := rfl
@[simp] theorem oset_mds (s : State) (i j v : Nat) : (oset s i j v).mds = s.mds := rfl
@[simp] theorem oset_l2maint (s : State) (i j v : Nat) : (oset s i j v).l2maint = s.l2maint := rfl
@[simp] theorem oset_coh (s : State) (i j v : Nat) : (oset s i j v).coh = s.coh := rfl
@[simp] theorem oset_ports (s : State) (i j v : Nat) : (oset s i j v).ports = s.ports := rfl
@[simp] theorem oset_chips (s : State) (i j v : Nat) : (oset s i j v).chips = s.chips := rfl
@[simp] theorem oset_rqs (s : State) (i j v : Nat) : (oset s i j v).rqs = s.rqs := rfl
@[simp] theorem oset_cores (s : State) (i j v : Nat) : (oset s i j v).cores = s.cores := rfl
@[simp] theorem oset_mtime (s : State) (i j v : Nat) : (oset s i j v).mtime = s.mtime := rfl
@[simp] theorem oset_pcie (s : State) (i j v : Nat) : (oset s i j v).pcie = s.pcie := rfl
@[simp] theorem oset_sc (s : State) (i j v : Nat) : (oset s i j v).sc = s.sc := rfl
@[simp] theorem oset_pwr (s : State) (i j v : Nat) : (oset s i j v).pwr = s.pwr := rfl
@[simp] theorem oset_cla (s : State) (i j v : Nat) : (oset s i j v).cla = s.cla := rfl
@[simp] theorem oset_sec (s : State) (i j v : Nat) : (oset s i j v).sec = s.sec := rfl
@[simp] theorem oset_routes (s : State) (i j v : Nat) : (oset s i j v).routes = s.routes := rfl

@[simp] theorem octSet_pending (s : State) (i j : Nat) (v : List Byte) : (octSet s i j v).pending = s.pending := rfl
@[simp] theorem octSet_fresh (s : State) (i j : Nat) (v : List Byte) : (octSet s i j v).fresh = s.fresh := rfl
@[simp] theorem octSet_out (s : State) (i j : Nat) (v : List Byte) : (octSet s i j v).out = s.out := rfl
@[simp] theorem octSet_boot (s : State) (i j : Nat) (v : List Byte) : (octSet s i j v).boot = s.boot := rfl
@[simp] theorem octSet_fuse (s : State) (i j : Nat) (v : List Byte) : (octSet s i j v).fuse = s.fuse := rfl
@[simp] theorem octSet_flash (s : State) (i j : Nat) (v : List Byte) : (octSet s i j v).flash = s.flash := rfl
@[simp] theorem octSet_faults (s : State) (i j : Nat) (v : List Byte) : (octSet s i j v).faults = s.faults := rfl
@[simp] theorem octSet_present (s : State) (i j : Nat) (v : List Byte) : (octSet s i j v).present = s.present := rfl
@[simp] theorem octSet_links (s : State) (i j : Nat) (v : List Byte) : (octSet s i j v).links = s.links := rfl
@[simp] theorem octSet_alt (s : State) (i j : Nat) (v : List Byte) : (octSet s i j v).alt = s.alt := rfl
@[simp] theorem octSet_pendAlt (s : State) (i j : Nat) (v : List Byte) : (octSet s i j v).pendAlt = s.pendAlt := rfl
@[simp] theorem octSet_obj (s : State) (i j : Nat) (v : List Byte) : (octSet s i j v).obj = s.obj := rfl
@[simp] theorem octSet_oct (s : State) (i j : Nat) (v : List Byte) : (octSet s i j v).oct = tset [] s.oct (objKey i j) v := rfl
@[simp] theorem octSet_regs (s : State) (i j : Nat) (v : List Byte) : (octSet s i j v).regs = s.regs := rfl
@[simp] theorem octSet_tcs (s : State) (i j : Nat) (v : List Byte) : (octSet s i j v).tcs = s.tcs := rfl
@[simp] theorem octSet_items (s : State) (i j : Nat) (v : List Byte) : (octSet s i j v).items = s.items := rfl
@[simp] theorem octSet_nextAcc (s : State) (i j : Nat) (v : List Byte) : (octSet s i j v).nextAcc = s.nextAcc := rfl
@[simp] theorem octSet_rr (s : State) (i j : Nat) (v : List Byte) : (octSet s i j v).rr = s.rr := rfl
@[simp] theorem octSet_ctxs (s : State) (i j : Nat) (v : List Byte) : (octSet s i j v).ctxs = s.ctxs := rfl
@[simp] theorem octSet_queues (s : State) (i j : Nat) (v : List Byte) : (octSet s i j v).queues = s.queues := rfl
@[simp] theorem octSet_cmdStat (s : State) (i j : Nat) (v : List Byte) : (octSet s i j v).cmdStat = s.cmdStat := rfl
@[simp] theorem octSet_cmdBusy (s : State) (i j : Nat) (v : List Byte) : (octSet s i j v).cmdBusy = s.cmdBusy := rfl
@[simp] theorem octSet_bindErr (s : State) (i j : Nat) (v : List Byte) : (octSet s i j v).bindErr = s.bindErr := rfl
@[simp] theorem octSet_ctxBase (s : State) (i j : Nat) (v : List Byte) : (octSet s i j v).ctxBase = s.ctxBase := rfl
@[simp] theorem octSet_batons (s : State) (i j : Nat) (v : List Byte) : (octSet s i j v).batons = s.batons := rfl
@[simp] theorem octSet_groups (s : State) (i j : Nat) (v : List Byte) : (octSet s i j v).groups = s.groups := rfl
@[simp] theorem octSet_slots (s : State) (i j : Nat) (v : List Byte) : (octSet s i j v).slots = s.slots := rfl
@[simp] theorem octSet_tb (s : State) (i j : Nat) (v : List Byte) : (octSet s i j v).tb = s.tb := rfl
@[simp] theorem octSet_ecl (s : State) (i j : Nat) (v : List Byte) : (octSet s i j v).ecl = s.ecl := rfl
@[simp] theorem octSet_stu (s : State) (i j : Nat) (v : List Byte) : (octSet s i j v).stu = s.stu := rfl
@[simp] theorem octSet_mem (s : State) (i j : Nat) (v : List Byte) : (octSet s i j v).mem = s.mem := rfl
@[simp] theorem octSet_mds (s : State) (i j : Nat) (v : List Byte) : (octSet s i j v).mds = s.mds := rfl
@[simp] theorem octSet_l2maint (s : State) (i j : Nat) (v : List Byte) : (octSet s i j v).l2maint = s.l2maint := rfl
@[simp] theorem octSet_coh (s : State) (i j : Nat) (v : List Byte) : (octSet s i j v).coh = s.coh := rfl
@[simp] theorem octSet_ports (s : State) (i j : Nat) (v : List Byte) : (octSet s i j v).ports = s.ports := rfl
@[simp] theorem octSet_chips (s : State) (i j : Nat) (v : List Byte) : (octSet s i j v).chips = s.chips := rfl
@[simp] theorem octSet_rqs (s : State) (i j : Nat) (v : List Byte) : (octSet s i j v).rqs = s.rqs := rfl
@[simp] theorem octSet_cores (s : State) (i j : Nat) (v : List Byte) : (octSet s i j v).cores = s.cores := rfl
@[simp] theorem octSet_mtime (s : State) (i j : Nat) (v : List Byte) : (octSet s i j v).mtime = s.mtime := rfl
@[simp] theorem octSet_pcie (s : State) (i j : Nat) (v : List Byte) : (octSet s i j v).pcie = s.pcie := rfl
@[simp] theorem octSet_sc (s : State) (i j : Nat) (v : List Byte) : (octSet s i j v).sc = s.sc := rfl
@[simp] theorem octSet_pwr (s : State) (i j : Nat) (v : List Byte) : (octSet s i j v).pwr = s.pwr := rfl
@[simp] theorem octSet_cla (s : State) (i j : Nat) (v : List Byte) : (octSet s i j v).cla = s.cla := rfl
@[simp] theorem octSet_sec (s : State) (i j : Nat) (v : List Byte) : (octSet s i j v).sec = s.sec := rfl
@[simp] theorem octSet_routes (s : State) (i j : Nat) (v : List Byte) : (octSet s i j v).routes = s.routes := rfl

@[simp] theorem regPut_pending (s : State) (a : Nat) (v : W64) : (regPut s a v).pending = s.pending := rfl
@[simp] theorem regPut_fresh (s : State) (a : Nat) (v : W64) : (regPut s a v).fresh = s.fresh := rfl
@[simp] theorem regPut_out (s : State) (a : Nat) (v : W64) : (regPut s a v).out = s.out := rfl
@[simp] theorem regPut_boot (s : State) (a : Nat) (v : W64) : (regPut s a v).boot = s.boot := rfl
@[simp] theorem regPut_fuse (s : State) (a : Nat) (v : W64) : (regPut s a v).fuse = s.fuse := rfl
@[simp] theorem regPut_flash (s : State) (a : Nat) (v : W64) : (regPut s a v).flash = s.flash := rfl
@[simp] theorem regPut_faults (s : State) (a : Nat) (v : W64) : (regPut s a v).faults = s.faults := rfl
@[simp] theorem regPut_present (s : State) (a : Nat) (v : W64) : (regPut s a v).present = s.present := rfl
@[simp] theorem regPut_links (s : State) (a : Nat) (v : W64) : (regPut s a v).links = s.links := rfl
@[simp] theorem regPut_alt (s : State) (a : Nat) (v : W64) : (regPut s a v).alt = s.alt := rfl
@[simp] theorem regPut_pendAlt (s : State) (a : Nat) (v : W64) : (regPut s a v).pendAlt = s.pendAlt := rfl
@[simp] theorem regPut_obj (s : State) (a : Nat) (v : W64) : (regPut s a v).obj = s.obj := rfl
@[simp] theorem regPut_oct (s : State) (a : Nat) (v : W64) : (regPut s a v).oct = s.oct := rfl
@[simp] theorem regPut_regs (s : State) (a : Nat) (v : W64) : (regPut s a v).regs = tset (regReset a) s.regs a v := rfl
@[simp] theorem regPut_tcs (s : State) (a : Nat) (v : W64) : (regPut s a v).tcs = s.tcs := rfl
@[simp] theorem regPut_items (s : State) (a : Nat) (v : W64) : (regPut s a v).items = s.items := rfl
@[simp] theorem regPut_nextAcc (s : State) (a : Nat) (v : W64) : (regPut s a v).nextAcc = s.nextAcc := rfl
@[simp] theorem regPut_rr (s : State) (a : Nat) (v : W64) : (regPut s a v).rr = s.rr := rfl
@[simp] theorem regPut_ctxs (s : State) (a : Nat) (v : W64) : (regPut s a v).ctxs = s.ctxs := rfl
@[simp] theorem regPut_queues (s : State) (a : Nat) (v : W64) : (regPut s a v).queues = s.queues := rfl
@[simp] theorem regPut_cmdStat (s : State) (a : Nat) (v : W64) : (regPut s a v).cmdStat = s.cmdStat := rfl
@[simp] theorem regPut_cmdBusy (s : State) (a : Nat) (v : W64) : (regPut s a v).cmdBusy = s.cmdBusy := rfl
@[simp] theorem regPut_bindErr (s : State) (a : Nat) (v : W64) : (regPut s a v).bindErr = s.bindErr := rfl
@[simp] theorem regPut_ctxBase (s : State) (a : Nat) (v : W64) : (regPut s a v).ctxBase = s.ctxBase := rfl
@[simp] theorem regPut_batons (s : State) (a : Nat) (v : W64) : (regPut s a v).batons = s.batons := rfl
@[simp] theorem regPut_groups (s : State) (a : Nat) (v : W64) : (regPut s a v).groups = s.groups := rfl
@[simp] theorem regPut_slots (s : State) (a : Nat) (v : W64) : (regPut s a v).slots = s.slots := rfl
@[simp] theorem regPut_tb (s : State) (a : Nat) (v : W64) : (regPut s a v).tb = s.tb := rfl
@[simp] theorem regPut_ecl (s : State) (a : Nat) (v : W64) : (regPut s a v).ecl = s.ecl := rfl
@[simp] theorem regPut_stu (s : State) (a : Nat) (v : W64) : (regPut s a v).stu = s.stu := rfl
@[simp] theorem regPut_mem (s : State) (a : Nat) (v : W64) : (regPut s a v).mem = s.mem := rfl
@[simp] theorem regPut_mds (s : State) (a : Nat) (v : W64) : (regPut s a v).mds = s.mds := rfl
@[simp] theorem regPut_l2maint (s : State) (a : Nat) (v : W64) : (regPut s a v).l2maint = s.l2maint := rfl
@[simp] theorem regPut_coh (s : State) (a : Nat) (v : W64) : (regPut s a v).coh = s.coh := rfl
@[simp] theorem regPut_ports (s : State) (a : Nat) (v : W64) : (regPut s a v).ports = s.ports := rfl
@[simp] theorem regPut_chips (s : State) (a : Nat) (v : W64) : (regPut s a v).chips = s.chips := rfl
@[simp] theorem regPut_rqs (s : State) (a : Nat) (v : W64) : (regPut s a v).rqs = s.rqs := rfl
@[simp] theorem regPut_cores (s : State) (a : Nat) (v : W64) : (regPut s a v).cores = s.cores := rfl
@[simp] theorem regPut_mtime (s : State) (a : Nat) (v : W64) : (regPut s a v).mtime = s.mtime := rfl
@[simp] theorem regPut_pcie (s : State) (a : Nat) (v : W64) : (regPut s a v).pcie = s.pcie := rfl
@[simp] theorem regPut_sc (s : State) (a : Nat) (v : W64) : (regPut s a v).sc = s.sc := rfl
@[simp] theorem regPut_pwr (s : State) (a : Nat) (v : W64) : (regPut s a v).pwr = s.pwr := rfl
@[simp] theorem regPut_cla (s : State) (a : Nat) (v : W64) : (regPut s a v).cla = s.cla := rfl
@[simp] theorem regPut_sec (s : State) (a : Nat) (v : W64) : (regPut s a v).sec = s.sec := rfl
@[simp] theorem regPut_routes (s : State) (a : Nat) (v : W64) : (regPut s a v).routes = s.routes := rfl

@[simp] theorem tcPut_pending (s : State) (n : Nat) (c : TCore) : (tcPut s n c).pending = s.pending := rfl
@[simp] theorem tcPut_fresh (s : State) (n : Nat) (c : TCore) : (tcPut s n c).fresh = s.fresh := rfl
@[simp] theorem tcPut_out (s : State) (n : Nat) (c : TCore) : (tcPut s n c).out = s.out := rfl
@[simp] theorem tcPut_boot (s : State) (n : Nat) (c : TCore) : (tcPut s n c).boot = s.boot := rfl
@[simp] theorem tcPut_fuse (s : State) (n : Nat) (c : TCore) : (tcPut s n c).fuse = s.fuse := rfl
@[simp] theorem tcPut_flash (s : State) (n : Nat) (c : TCore) : (tcPut s n c).flash = s.flash := rfl
@[simp] theorem tcPut_faults (s : State) (n : Nat) (c : TCore) : (tcPut s n c).faults = s.faults := rfl
@[simp] theorem tcPut_present (s : State) (n : Nat) (c : TCore) : (tcPut s n c).present = s.present := rfl
@[simp] theorem tcPut_links (s : State) (n : Nat) (c : TCore) : (tcPut s n c).links = s.links := rfl
@[simp] theorem tcPut_alt (s : State) (n : Nat) (c : TCore) : (tcPut s n c).alt = s.alt := rfl
@[simp] theorem tcPut_pendAlt (s : State) (n : Nat) (c : TCore) : (tcPut s n c).pendAlt = s.pendAlt := rfl
@[simp] theorem tcPut_obj (s : State) (n : Nat) (c : TCore) : (tcPut s n c).obj = s.obj := rfl
@[simp] theorem tcPut_oct (s : State) (n : Nat) (c : TCore) : (tcPut s n c).oct = s.oct := rfl
@[simp] theorem tcPut_regs (s : State) (n : Nat) (c : TCore) : (tcPut s n c).regs = s.regs := rfl
@[simp] theorem tcPut_tcs (s : State) (n : Nat) (c : TCore) : (tcPut s n c).tcs = tset {} s.tcs n c := rfl
@[simp] theorem tcPut_items (s : State) (n : Nat) (c : TCore) : (tcPut s n c).items = s.items := rfl
@[simp] theorem tcPut_nextAcc (s : State) (n : Nat) (c : TCore) : (tcPut s n c).nextAcc = s.nextAcc := rfl
@[simp] theorem tcPut_rr (s : State) (n : Nat) (c : TCore) : (tcPut s n c).rr = s.rr := rfl
@[simp] theorem tcPut_ctxs (s : State) (n : Nat) (c : TCore) : (tcPut s n c).ctxs = s.ctxs := rfl
@[simp] theorem tcPut_queues (s : State) (n : Nat) (c : TCore) : (tcPut s n c).queues = s.queues := rfl
@[simp] theorem tcPut_cmdStat (s : State) (n : Nat) (c : TCore) : (tcPut s n c).cmdStat = s.cmdStat := rfl
@[simp] theorem tcPut_cmdBusy (s : State) (n : Nat) (c : TCore) : (tcPut s n c).cmdBusy = s.cmdBusy := rfl
@[simp] theorem tcPut_bindErr (s : State) (n : Nat) (c : TCore) : (tcPut s n c).bindErr = s.bindErr := rfl
@[simp] theorem tcPut_ctxBase (s : State) (n : Nat) (c : TCore) : (tcPut s n c).ctxBase = s.ctxBase := rfl
@[simp] theorem tcPut_batons (s : State) (n : Nat) (c : TCore) : (tcPut s n c).batons = s.batons := rfl
@[simp] theorem tcPut_groups (s : State) (n : Nat) (c : TCore) : (tcPut s n c).groups = s.groups := rfl
@[simp] theorem tcPut_slots (s : State) (n : Nat) (c : TCore) : (tcPut s n c).slots = s.slots := rfl
@[simp] theorem tcPut_tb (s : State) (n : Nat) (c : TCore) : (tcPut s n c).tb = s.tb := rfl
@[simp] theorem tcPut_ecl (s : State) (n : Nat) (c : TCore) : (tcPut s n c).ecl = s.ecl := rfl
@[simp] theorem tcPut_stu (s : State) (n : Nat) (c : TCore) : (tcPut s n c).stu = s.stu := rfl
@[simp] theorem tcPut_mem (s : State) (n : Nat) (c : TCore) : (tcPut s n c).mem = s.mem := rfl
@[simp] theorem tcPut_mds (s : State) (n : Nat) (c : TCore) : (tcPut s n c).mds = s.mds := rfl
@[simp] theorem tcPut_l2maint (s : State) (n : Nat) (c : TCore) : (tcPut s n c).l2maint = s.l2maint := rfl
@[simp] theorem tcPut_coh (s : State) (n : Nat) (c : TCore) : (tcPut s n c).coh = s.coh := rfl
@[simp] theorem tcPut_ports (s : State) (n : Nat) (c : TCore) : (tcPut s n c).ports = s.ports := rfl
@[simp] theorem tcPut_chips (s : State) (n : Nat) (c : TCore) : (tcPut s n c).chips = s.chips := rfl
@[simp] theorem tcPut_rqs (s : State) (n : Nat) (c : TCore) : (tcPut s n c).rqs = s.rqs := rfl
@[simp] theorem tcPut_cores (s : State) (n : Nat) (c : TCore) : (tcPut s n c).cores = s.cores := rfl
@[simp] theorem tcPut_mtime (s : State) (n : Nat) (c : TCore) : (tcPut s n c).mtime = s.mtime := rfl
@[simp] theorem tcPut_pcie (s : State) (n : Nat) (c : TCore) : (tcPut s n c).pcie = s.pcie := rfl
@[simp] theorem tcPut_sc (s : State) (n : Nat) (c : TCore) : (tcPut s n c).sc = s.sc := rfl
@[simp] theorem tcPut_pwr (s : State) (n : Nat) (c : TCore) : (tcPut s n c).pwr = s.pwr := rfl
@[simp] theorem tcPut_cla (s : State) (n : Nat) (c : TCore) : (tcPut s n c).cla = s.cla := rfl
@[simp] theorem tcPut_sec (s : State) (n : Nat) (c : TCore) : (tcPut s n c).sec = s.sec := rfl
@[simp] theorem tcPut_routes (s : State) (n : Nat) (c : TCore) : (tcPut s n c).routes = s.routes := rfl

@[simp] theorem tcMod_pending (s : State) (n : Nat) (f : TCore → TCore) : (tcMod s n f).pending = s.pending := rfl
@[simp] theorem tcMod_fresh (s : State) (n : Nat) (f : TCore → TCore) : (tcMod s n f).fresh = s.fresh := rfl
@[simp] theorem tcMod_out (s : State) (n : Nat) (f : TCore → TCore) : (tcMod s n f).out = s.out := rfl
@[simp] theorem tcMod_boot (s : State) (n : Nat) (f : TCore → TCore) : (tcMod s n f).boot = s.boot := rfl
@[simp] theorem tcMod_fuse (s : State) (n : Nat) (f : TCore → TCore) : (tcMod s n f).fuse = s.fuse := rfl
@[simp] theorem tcMod_flash (s : State) (n : Nat) (f : TCore → TCore) : (tcMod s n f).flash = s.flash := rfl
@[simp] theorem tcMod_faults (s : State) (n : Nat) (f : TCore → TCore) : (tcMod s n f).faults = s.faults := rfl
@[simp] theorem tcMod_present (s : State) (n : Nat) (f : TCore → TCore) : (tcMod s n f).present = s.present := rfl
@[simp] theorem tcMod_links (s : State) (n : Nat) (f : TCore → TCore) : (tcMod s n f).links = s.links := rfl
@[simp] theorem tcMod_alt (s : State) (n : Nat) (f : TCore → TCore) : (tcMod s n f).alt = s.alt := rfl
@[simp] theorem tcMod_pendAlt (s : State) (n : Nat) (f : TCore → TCore) : (tcMod s n f).pendAlt = s.pendAlt := rfl
@[simp] theorem tcMod_obj (s : State) (n : Nat) (f : TCore → TCore) : (tcMod s n f).obj = s.obj := rfl
@[simp] theorem tcMod_oct (s : State) (n : Nat) (f : TCore → TCore) : (tcMod s n f).oct = s.oct := rfl
@[simp] theorem tcMod_regs (s : State) (n : Nat) (f : TCore → TCore) : (tcMod s n f).regs = s.regs := rfl
@[simp] theorem tcMod_tcs (s : State) (n : Nat) (f : TCore → TCore) : (tcMod s n f).tcs = tset {} s.tcs n (f (tcAt s n)) := rfl
@[simp] theorem tcMod_items (s : State) (n : Nat) (f : TCore → TCore) : (tcMod s n f).items = s.items := rfl
@[simp] theorem tcMod_nextAcc (s : State) (n : Nat) (f : TCore → TCore) : (tcMod s n f).nextAcc = s.nextAcc := rfl
@[simp] theorem tcMod_rr (s : State) (n : Nat) (f : TCore → TCore) : (tcMod s n f).rr = s.rr := rfl
@[simp] theorem tcMod_ctxs (s : State) (n : Nat) (f : TCore → TCore) : (tcMod s n f).ctxs = s.ctxs := rfl
@[simp] theorem tcMod_queues (s : State) (n : Nat) (f : TCore → TCore) : (tcMod s n f).queues = s.queues := rfl
@[simp] theorem tcMod_cmdStat (s : State) (n : Nat) (f : TCore → TCore) : (tcMod s n f).cmdStat = s.cmdStat := rfl
@[simp] theorem tcMod_cmdBusy (s : State) (n : Nat) (f : TCore → TCore) : (tcMod s n f).cmdBusy = s.cmdBusy := rfl
@[simp] theorem tcMod_bindErr (s : State) (n : Nat) (f : TCore → TCore) : (tcMod s n f).bindErr = s.bindErr := rfl
@[simp] theorem tcMod_ctxBase (s : State) (n : Nat) (f : TCore → TCore) : (tcMod s n f).ctxBase = s.ctxBase := rfl
@[simp] theorem tcMod_batons (s : State) (n : Nat) (f : TCore → TCore) : (tcMod s n f).batons = s.batons := rfl
@[simp] theorem tcMod_groups (s : State) (n : Nat) (f : TCore → TCore) : (tcMod s n f).groups = s.groups := rfl
@[simp] theorem tcMod_slots (s : State) (n : Nat) (f : TCore → TCore) : (tcMod s n f).slots = s.slots := rfl
@[simp] theorem tcMod_tb (s : State) (n : Nat) (f : TCore → TCore) : (tcMod s n f).tb = s.tb := rfl
@[simp] theorem tcMod_ecl (s : State) (n : Nat) (f : TCore → TCore) : (tcMod s n f).ecl = s.ecl := rfl
@[simp] theorem tcMod_stu (s : State) (n : Nat) (f : TCore → TCore) : (tcMod s n f).stu = s.stu := rfl
@[simp] theorem tcMod_mem (s : State) (n : Nat) (f : TCore → TCore) : (tcMod s n f).mem = s.mem := rfl
@[simp] theorem tcMod_mds (s : State) (n : Nat) (f : TCore → TCore) : (tcMod s n f).mds = s.mds := rfl
@[simp] theorem tcMod_l2maint (s : State) (n : Nat) (f : TCore → TCore) : (tcMod s n f).l2maint = s.l2maint := rfl
@[simp] theorem tcMod_coh (s : State) (n : Nat) (f : TCore → TCore) : (tcMod s n f).coh = s.coh := rfl
@[simp] theorem tcMod_ports (s : State) (n : Nat) (f : TCore → TCore) : (tcMod s n f).ports = s.ports := rfl
@[simp] theorem tcMod_chips (s : State) (n : Nat) (f : TCore → TCore) : (tcMod s n f).chips = s.chips := rfl
@[simp] theorem tcMod_rqs (s : State) (n : Nat) (f : TCore → TCore) : (tcMod s n f).rqs = s.rqs := rfl
@[simp] theorem tcMod_cores (s : State) (n : Nat) (f : TCore → TCore) : (tcMod s n f).cores = s.cores := rfl
@[simp] theorem tcMod_mtime (s : State) (n : Nat) (f : TCore → TCore) : (tcMod s n f).mtime = s.mtime := rfl
@[simp] theorem tcMod_pcie (s : State) (n : Nat) (f : TCore → TCore) : (tcMod s n f).pcie = s.pcie := rfl
@[simp] theorem tcMod_sc (s : State) (n : Nat) (f : TCore → TCore) : (tcMod s n f).sc = s.sc := rfl
@[simp] theorem tcMod_pwr (s : State) (n : Nat) (f : TCore → TCore) : (tcMod s n f).pwr = s.pwr := rfl
@[simp] theorem tcMod_cla (s : State) (n : Nat) (f : TCore → TCore) : (tcMod s n f).cla = s.cla := rfl
@[simp] theorem tcMod_sec (s : State) (n : Nat) (f : TCore → TCore) : (tcMod s n f).sec = s.sec := rfl
@[simp] theorem tcMod_routes (s : State) (n : Nat) (f : TCore → TCore) : (tcMod s n f).routes = s.routes := rfl

@[simp] theorem linkPut_pending (s : State) (n : Nat) (c : Link) : (linkPut s n c).pending = s.pending := rfl
@[simp] theorem linkPut_fresh (s : State) (n : Nat) (c : Link) : (linkPut s n c).fresh = s.fresh := rfl
@[simp] theorem linkPut_out (s : State) (n : Nat) (c : Link) : (linkPut s n c).out = s.out := rfl
@[simp] theorem linkPut_boot (s : State) (n : Nat) (c : Link) : (linkPut s n c).boot = s.boot := rfl
@[simp] theorem linkPut_fuse (s : State) (n : Nat) (c : Link) : (linkPut s n c).fuse = s.fuse := rfl
@[simp] theorem linkPut_flash (s : State) (n : Nat) (c : Link) : (linkPut s n c).flash = s.flash := rfl
@[simp] theorem linkPut_faults (s : State) (n : Nat) (c : Link) : (linkPut s n c).faults = s.faults := rfl
@[simp] theorem linkPut_present (s : State) (n : Nat) (c : Link) : (linkPut s n c).present = s.present := rfl
@[simp] theorem linkPut_links (s : State) (n : Nat) (c : Link) : (linkPut s n c).links = tset {} s.links n c := rfl
@[simp] theorem linkPut_alt (s : State) (n : Nat) (c : Link) : (linkPut s n c).alt = s.alt := rfl
@[simp] theorem linkPut_pendAlt (s : State) (n : Nat) (c : Link) : (linkPut s n c).pendAlt = s.pendAlt := rfl
@[simp] theorem linkPut_obj (s : State) (n : Nat) (c : Link) : (linkPut s n c).obj = s.obj := rfl
@[simp] theorem linkPut_oct (s : State) (n : Nat) (c : Link) : (linkPut s n c).oct = s.oct := rfl
@[simp] theorem linkPut_regs (s : State) (n : Nat) (c : Link) : (linkPut s n c).regs = s.regs := rfl
@[simp] theorem linkPut_tcs (s : State) (n : Nat) (c : Link) : (linkPut s n c).tcs = s.tcs := rfl
@[simp] theorem linkPut_items (s : State) (n : Nat) (c : Link) : (linkPut s n c).items = s.items := rfl
@[simp] theorem linkPut_nextAcc (s : State) (n : Nat) (c : Link) : (linkPut s n c).nextAcc = s.nextAcc := rfl
@[simp] theorem linkPut_rr (s : State) (n : Nat) (c : Link) : (linkPut s n c).rr = s.rr := rfl
@[simp] theorem linkPut_ctxs (s : State) (n : Nat) (c : Link) : (linkPut s n c).ctxs = s.ctxs := rfl
@[simp] theorem linkPut_queues (s : State) (n : Nat) (c : Link) : (linkPut s n c).queues = s.queues := rfl
@[simp] theorem linkPut_cmdStat (s : State) (n : Nat) (c : Link) : (linkPut s n c).cmdStat = s.cmdStat := rfl
@[simp] theorem linkPut_cmdBusy (s : State) (n : Nat) (c : Link) : (linkPut s n c).cmdBusy = s.cmdBusy := rfl
@[simp] theorem linkPut_bindErr (s : State) (n : Nat) (c : Link) : (linkPut s n c).bindErr = s.bindErr := rfl
@[simp] theorem linkPut_ctxBase (s : State) (n : Nat) (c : Link) : (linkPut s n c).ctxBase = s.ctxBase := rfl
@[simp] theorem linkPut_batons (s : State) (n : Nat) (c : Link) : (linkPut s n c).batons = s.batons := rfl
@[simp] theorem linkPut_groups (s : State) (n : Nat) (c : Link) : (linkPut s n c).groups = s.groups := rfl
@[simp] theorem linkPut_slots (s : State) (n : Nat) (c : Link) : (linkPut s n c).slots = s.slots := rfl
@[simp] theorem linkPut_tb (s : State) (n : Nat) (c : Link) : (linkPut s n c).tb = s.tb := rfl
@[simp] theorem linkPut_ecl (s : State) (n : Nat) (c : Link) : (linkPut s n c).ecl = s.ecl := rfl
@[simp] theorem linkPut_stu (s : State) (n : Nat) (c : Link) : (linkPut s n c).stu = s.stu := rfl
@[simp] theorem linkPut_mem (s : State) (n : Nat) (c : Link) : (linkPut s n c).mem = s.mem := rfl
@[simp] theorem linkPut_mds (s : State) (n : Nat) (c : Link) : (linkPut s n c).mds = s.mds := rfl
@[simp] theorem linkPut_l2maint (s : State) (n : Nat) (c : Link) : (linkPut s n c).l2maint = s.l2maint := rfl
@[simp] theorem linkPut_coh (s : State) (n : Nat) (c : Link) : (linkPut s n c).coh = s.coh := rfl
@[simp] theorem linkPut_ports (s : State) (n : Nat) (c : Link) : (linkPut s n c).ports = s.ports := rfl
@[simp] theorem linkPut_chips (s : State) (n : Nat) (c : Link) : (linkPut s n c).chips = s.chips := rfl
@[simp] theorem linkPut_rqs (s : State) (n : Nat) (c : Link) : (linkPut s n c).rqs = s.rqs := rfl
@[simp] theorem linkPut_cores (s : State) (n : Nat) (c : Link) : (linkPut s n c).cores = s.cores := rfl
@[simp] theorem linkPut_mtime (s : State) (n : Nat) (c : Link) : (linkPut s n c).mtime = s.mtime := rfl
@[simp] theorem linkPut_pcie (s : State) (n : Nat) (c : Link) : (linkPut s n c).pcie = s.pcie := rfl
@[simp] theorem linkPut_sc (s : State) (n : Nat) (c : Link) : (linkPut s n c).sc = s.sc := rfl
@[simp] theorem linkPut_pwr (s : State) (n : Nat) (c : Link) : (linkPut s n c).pwr = s.pwr := rfl
@[simp] theorem linkPut_cla (s : State) (n : Nat) (c : Link) : (linkPut s n c).cla = s.cla := rfl
@[simp] theorem linkPut_sec (s : State) (n : Nat) (c : Link) : (linkPut s n c).sec = s.sec := rfl
@[simp] theorem linkPut_routes (s : State) (n : Nat) (c : Link) : (linkPut s n c).routes = s.routes := rfl

@[simp] theorem portPut_pending (s : State) (n : Nat) (c : Port) : (portPut s n c).pending = s.pending := rfl
@[simp] theorem portPut_fresh (s : State) (n : Nat) (c : Port) : (portPut s n c).fresh = s.fresh := rfl
@[simp] theorem portPut_out (s : State) (n : Nat) (c : Port) : (portPut s n c).out = s.out := rfl
@[simp] theorem portPut_boot (s : State) (n : Nat) (c : Port) : (portPut s n c).boot = s.boot := rfl
@[simp] theorem portPut_fuse (s : State) (n : Nat) (c : Port) : (portPut s n c).fuse = s.fuse := rfl
@[simp] theorem portPut_flash (s : State) (n : Nat) (c : Port) : (portPut s n c).flash = s.flash := rfl
@[simp] theorem portPut_faults (s : State) (n : Nat) (c : Port) : (portPut s n c).faults = s.faults := rfl
@[simp] theorem portPut_present (s : State) (n : Nat) (c : Port) : (portPut s n c).present = s.present := rfl
@[simp] theorem portPut_links (s : State) (n : Nat) (c : Port) : (portPut s n c).links = s.links := rfl
@[simp] theorem portPut_alt (s : State) (n : Nat) (c : Port) : (portPut s n c).alt = s.alt := rfl
@[simp] theorem portPut_pendAlt (s : State) (n : Nat) (c : Port) : (portPut s n c).pendAlt = s.pendAlt := rfl
@[simp] theorem portPut_obj (s : State) (n : Nat) (c : Port) : (portPut s n c).obj = s.obj := rfl
@[simp] theorem portPut_oct (s : State) (n : Nat) (c : Port) : (portPut s n c).oct = s.oct := rfl
@[simp] theorem portPut_regs (s : State) (n : Nat) (c : Port) : (portPut s n c).regs = s.regs := rfl
@[simp] theorem portPut_tcs (s : State) (n : Nat) (c : Port) : (portPut s n c).tcs = s.tcs := rfl
@[simp] theorem portPut_items (s : State) (n : Nat) (c : Port) : (portPut s n c).items = s.items := rfl
@[simp] theorem portPut_nextAcc (s : State) (n : Nat) (c : Port) : (portPut s n c).nextAcc = s.nextAcc := rfl
@[simp] theorem portPut_rr (s : State) (n : Nat) (c : Port) : (portPut s n c).rr = s.rr := rfl
@[simp] theorem portPut_ctxs (s : State) (n : Nat) (c : Port) : (portPut s n c).ctxs = s.ctxs := rfl
@[simp] theorem portPut_queues (s : State) (n : Nat) (c : Port) : (portPut s n c).queues = s.queues := rfl
@[simp] theorem portPut_cmdStat (s : State) (n : Nat) (c : Port) : (portPut s n c).cmdStat = s.cmdStat := rfl
@[simp] theorem portPut_cmdBusy (s : State) (n : Nat) (c : Port) : (portPut s n c).cmdBusy = s.cmdBusy := rfl
@[simp] theorem portPut_bindErr (s : State) (n : Nat) (c : Port) : (portPut s n c).bindErr = s.bindErr := rfl
@[simp] theorem portPut_ctxBase (s : State) (n : Nat) (c : Port) : (portPut s n c).ctxBase = s.ctxBase := rfl
@[simp] theorem portPut_batons (s : State) (n : Nat) (c : Port) : (portPut s n c).batons = s.batons := rfl
@[simp] theorem portPut_groups (s : State) (n : Nat) (c : Port) : (portPut s n c).groups = s.groups := rfl
@[simp] theorem portPut_slots (s : State) (n : Nat) (c : Port) : (portPut s n c).slots = s.slots := rfl
@[simp] theorem portPut_tb (s : State) (n : Nat) (c : Port) : (portPut s n c).tb = s.tb := rfl
@[simp] theorem portPut_ecl (s : State) (n : Nat) (c : Port) : (portPut s n c).ecl = s.ecl := rfl
@[simp] theorem portPut_stu (s : State) (n : Nat) (c : Port) : (portPut s n c).stu = s.stu := rfl
@[simp] theorem portPut_mem (s : State) (n : Nat) (c : Port) : (portPut s n c).mem = s.mem := rfl
@[simp] theorem portPut_mds (s : State) (n : Nat) (c : Port) : (portPut s n c).mds = s.mds := rfl
@[simp] theorem portPut_l2maint (s : State) (n : Nat) (c : Port) : (portPut s n c).l2maint = s.l2maint := rfl
@[simp] theorem portPut_coh (s : State) (n : Nat) (c : Port) : (portPut s n c).coh = s.coh := rfl
@[simp] theorem portPut_ports (s : State) (n : Nat) (c : Port) : (portPut s n c).ports = tset {} s.ports n c := rfl
@[simp] theorem portPut_chips (s : State) (n : Nat) (c : Port) : (portPut s n c).chips = s.chips := rfl
@[simp] theorem portPut_rqs (s : State) (n : Nat) (c : Port) : (portPut s n c).rqs = s.rqs := rfl
@[simp] theorem portPut_cores (s : State) (n : Nat) (c : Port) : (portPut s n c).cores = s.cores := rfl
@[simp] theorem portPut_mtime (s : State) (n : Nat) (c : Port) : (portPut s n c).mtime = s.mtime := rfl
@[simp] theorem portPut_pcie (s : State) (n : Nat) (c : Port) : (portPut s n c).pcie = s.pcie := rfl
@[simp] theorem portPut_sc (s : State) (n : Nat) (c : Port) : (portPut s n c).sc = s.sc := rfl
@[simp] theorem portPut_pwr (s : State) (n : Nat) (c : Port) : (portPut s n c).pwr = s.pwr := rfl
@[simp] theorem portPut_cla (s : State) (n : Nat) (c : Port) : (portPut s n c).cla = s.cla := rfl
@[simp] theorem portPut_sec (s : State) (n : Nat) (c : Port) : (portPut s n c).sec = s.sec := rfl
@[simp] theorem portPut_routes (s : State) (n : Nat) (c : Port) : (portPut s n c).routes = s.routes := rfl

@[simp] theorem itemPut_pending (s : State) (n : Nat) (c : Item) : (itemPut s n c).pending = s.pending := rfl
@[simp] theorem itemPut_fresh (s : State) (n : Nat) (c : Item) : (itemPut s n c).fresh = s.fresh := rfl
@[simp] theorem itemPut_out (s : State) (n : Nat) (c : Item) : (itemPut s n c).out = s.out := rfl
@[simp] theorem itemPut_boot (s : State) (n : Nat) (c : Item) : (itemPut s n c).boot = s.boot := rfl
@[simp] theorem itemPut_fuse (s : State) (n : Nat) (c : Item) : (itemPut s n c).fuse = s.fuse := rfl
@[simp] theorem itemPut_flash (s : State) (n : Nat) (c : Item) : (itemPut s n c).flash = s.flash := rfl
@[simp] theorem itemPut_faults (s : State) (n : Nat) (c : Item) : (itemPut s n c).faults = s.faults := rfl
@[simp] theorem itemPut_present (s : State) (n : Nat) (c : Item) : (itemPut s n c).present = s.present := rfl
@[simp] theorem itemPut_links (s : State) (n : Nat) (c : Item) : (itemPut s n c).links = s.links := rfl
@[simp] theorem itemPut_alt (s : State) (n : Nat) (c : Item) : (itemPut s n c).alt = s.alt := rfl
@[simp] theorem itemPut_pendAlt (s : State) (n : Nat) (c : Item) : (itemPut s n c).pendAlt = s.pendAlt := rfl
@[simp] theorem itemPut_obj (s : State) (n : Nat) (c : Item) : (itemPut s n c).obj = s.obj := rfl
@[simp] theorem itemPut_oct (s : State) (n : Nat) (c : Item) : (itemPut s n c).oct = s.oct := rfl
@[simp] theorem itemPut_regs (s : State) (n : Nat) (c : Item) : (itemPut s n c).regs = s.regs := rfl
@[simp] theorem itemPut_tcs (s : State) (n : Nat) (c : Item) : (itemPut s n c).tcs = s.tcs := rfl
@[simp] theorem itemPut_items (s : State) (n : Nat) (c : Item) : (itemPut s n c).items = aput s.items n c := rfl
@[simp] theorem itemPut_nextAcc (s : State) (n : Nat) (c : Item) : (itemPut s n c).nextAcc = s.nextAcc := rfl
@[simp] theorem itemPut_rr (s : State) (n : Nat) (c : Item) : (itemPut s n c).rr = s.rr := rfl
@[simp] theorem itemPut_ctxs (s : State) (n : Nat) (c : Item) : (itemPut s n c).ctxs = s.ctxs := rfl
@[simp] theorem itemPut_queues (s : State) (n : Nat) (c : Item) : (itemPut s n c).queues = s.queues := rfl
@[simp] theorem itemPut_cmdStat (s : State) (n : Nat) (c : Item) : (itemPut s n c).cmdStat = s.cmdStat := rfl
@[simp] theorem itemPut_cmdBusy (s : State) (n : Nat) (c : Item) : (itemPut s n c).cmdBusy = s.cmdBusy := rfl
@[simp] theorem itemPut_bindErr (s : State) (n : Nat) (c : Item) : (itemPut s n c).bindErr = s.bindErr := rfl
@[simp] theorem itemPut_ctxBase (s : State) (n : Nat) (c : Item) : (itemPut s n c).ctxBase = s.ctxBase := rfl
@[simp] theorem itemPut_batons (s : State) (n : Nat) (c : Item) : (itemPut s n c).batons = s.batons := rfl
@[simp] theorem itemPut_groups (s : State) (n : Nat) (c : Item) : (itemPut s n c).groups = s.groups := rfl
@[simp] theorem itemPut_slots (s : State) (n : Nat) (c : Item) : (itemPut s n c).slots = s.slots := rfl
@[simp] theorem itemPut_tb (s : State) (n : Nat) (c : Item) : (itemPut s n c).tb = s.tb := rfl
@[simp] theorem itemPut_ecl (s : State) (n : Nat) (c : Item) : (itemPut s n c).ecl = s.ecl := rfl
@[simp] theorem itemPut_stu (s : State) (n : Nat) (c : Item) : (itemPut s n c).stu = s.stu := rfl
@[simp] theorem itemPut_mem (s : State) (n : Nat) (c : Item) : (itemPut s n c).mem = s.mem := rfl
@[simp] theorem itemPut_mds (s : State) (n : Nat) (c : Item) : (itemPut s n c).mds = s.mds := rfl
@[simp] theorem itemPut_l2maint (s : State) (n : Nat) (c : Item) : (itemPut s n c).l2maint = s.l2maint := rfl
@[simp] theorem itemPut_coh (s : State) (n : Nat) (c : Item) : (itemPut s n c).coh = s.coh := rfl
@[simp] theorem itemPut_ports (s : State) (n : Nat) (c : Item) : (itemPut s n c).ports = s.ports := rfl
@[simp] theorem itemPut_chips (s : State) (n : Nat) (c : Item) : (itemPut s n c).chips = s.chips := rfl
@[simp] theorem itemPut_rqs (s : State) (n : Nat) (c : Item) : (itemPut s n c).rqs = s.rqs := rfl
@[simp] theorem itemPut_cores (s : State) (n : Nat) (c : Item) : (itemPut s n c).cores = s.cores := rfl
@[simp] theorem itemPut_mtime (s : State) (n : Nat) (c : Item) : (itemPut s n c).mtime = s.mtime := rfl
@[simp] theorem itemPut_pcie (s : State) (n : Nat) (c : Item) : (itemPut s n c).pcie = s.pcie := rfl
@[simp] theorem itemPut_sc (s : State) (n : Nat) (c : Item) : (itemPut s n c).sc = s.sc := rfl
@[simp] theorem itemPut_pwr (s : State) (n : Nat) (c : Item) : (itemPut s n c).pwr = s.pwr := rfl
@[simp] theorem itemPut_cla (s : State) (n : Nat) (c : Item) : (itemPut s n c).cla = s.cla := rfl
@[simp] theorem itemPut_sec (s : State) (n : Nat) (c : Item) : (itemPut s n c).sec = s.sec := rfl
@[simp] theorem itemPut_routes (s : State) (n : Nat) (c : Item) : (itemPut s n c).routes = s.routes := rfl

@[simp] theorem ctxPut_pending (s : State) (n : Nat) (c : Ctx) : (ctxPut s n c).pending = s.pending := rfl
@[simp] theorem ctxPut_fresh (s : State) (n : Nat) (c : Ctx) : (ctxPut s n c).fresh = s.fresh := rfl
@[simp] theorem ctxPut_out (s : State) (n : Nat) (c : Ctx) : (ctxPut s n c).out = s.out := rfl
@[simp] theorem ctxPut_boot (s : State) (n : Nat) (c : Ctx) : (ctxPut s n c).boot = s.boot := rfl
@[simp] theorem ctxPut_fuse (s : State) (n : Nat) (c : Ctx) : (ctxPut s n c).fuse = s.fuse := rfl
@[simp] theorem ctxPut_flash (s : State) (n : Nat) (c : Ctx) : (ctxPut s n c).flash = s.flash := rfl
@[simp] theorem ctxPut_faults (s : State) (n : Nat) (c : Ctx) : (ctxPut s n c).faults = s.faults := rfl
@[simp] theorem ctxPut_present (s : State) (n : Nat) (c : Ctx) : (ctxPut s n c).present = s.present := rfl
@[simp] theorem ctxPut_links (s : State) (n : Nat) (c : Ctx) : (ctxPut s n c).links = s.links := rfl
@[simp] theorem ctxPut_alt (s : State) (n : Nat) (c : Ctx) : (ctxPut s n c).alt = s.alt := rfl
@[simp] theorem ctxPut_pendAlt (s : State) (n : Nat) (c : Ctx) : (ctxPut s n c).pendAlt = s.pendAlt := rfl
@[simp] theorem ctxPut_obj (s : State) (n : Nat) (c : Ctx) : (ctxPut s n c).obj = s.obj := rfl
@[simp] theorem ctxPut_oct (s : State) (n : Nat) (c : Ctx) : (ctxPut s n c).oct = s.oct := rfl
@[simp] theorem ctxPut_regs (s : State) (n : Nat) (c : Ctx) : (ctxPut s n c).regs = s.regs := rfl
@[simp] theorem ctxPut_tcs (s : State) (n : Nat) (c : Ctx) : (ctxPut s n c).tcs = s.tcs := rfl
@[simp] theorem ctxPut_items (s : State) (n : Nat) (c : Ctx) : (ctxPut s n c).items = s.items := rfl
@[simp] theorem ctxPut_nextAcc (s : State) (n : Nat) (c : Ctx) : (ctxPut s n c).nextAcc = s.nextAcc := rfl
@[simp] theorem ctxPut_rr (s : State) (n : Nat) (c : Ctx) : (ctxPut s n c).rr = s.rr := rfl
@[simp] theorem ctxPut_ctxs (s : State) (n : Nat) (c : Ctx) : (ctxPut s n c).ctxs = tset {} s.ctxs n c := rfl
@[simp] theorem ctxPut_queues (s : State) (n : Nat) (c : Ctx) : (ctxPut s n c).queues = s.queues := rfl
@[simp] theorem ctxPut_cmdStat (s : State) (n : Nat) (c : Ctx) : (ctxPut s n c).cmdStat = s.cmdStat := rfl
@[simp] theorem ctxPut_cmdBusy (s : State) (n : Nat) (c : Ctx) : (ctxPut s n c).cmdBusy = s.cmdBusy := rfl
@[simp] theorem ctxPut_bindErr (s : State) (n : Nat) (c : Ctx) : (ctxPut s n c).bindErr = s.bindErr := rfl
@[simp] theorem ctxPut_ctxBase (s : State) (n : Nat) (c : Ctx) : (ctxPut s n c).ctxBase = s.ctxBase := rfl
@[simp] theorem ctxPut_batons (s : State) (n : Nat) (c : Ctx) : (ctxPut s n c).batons = s.batons := rfl
@[simp] theorem ctxPut_groups (s : State) (n : Nat) (c : Ctx) : (ctxPut s n c).groups = s.groups := rfl
@[simp] theorem ctxPut_slots (s : State) (n : Nat) (c : Ctx) : (ctxPut s n c).slots = s.slots := rfl
@[simp] theorem ctxPut_tb (s : State) (n : Nat) (c : Ctx) : (ctxPut s n c).tb = s.tb := rfl
@[simp] theorem ctxPut_ecl (s : State) (n : Nat) (c : Ctx) : (ctxPut s n c).ecl = s.ecl := rfl
@[simp] theorem ctxPut_stu (s : State) (n : Nat) (c : Ctx) : (ctxPut s n c).stu = s.stu := rfl
@[simp] theorem ctxPut_mem (s : State) (n : Nat) (c : Ctx) : (ctxPut s n c).mem = s.mem := rfl
@[simp] theorem ctxPut_mds (s : State) (n : Nat) (c : Ctx) : (ctxPut s n c).mds = s.mds := rfl
@[simp] theorem ctxPut_l2maint (s : State) (n : Nat) (c : Ctx) : (ctxPut s n c).l2maint = s.l2maint := rfl
@[simp] theorem ctxPut_coh (s : State) (n : Nat) (c : Ctx) : (ctxPut s n c).coh = s.coh := rfl
@[simp] theorem ctxPut_ports (s : State) (n : Nat) (c : Ctx) : (ctxPut s n c).ports = s.ports := rfl
@[simp] theorem ctxPut_chips (s : State) (n : Nat) (c : Ctx) : (ctxPut s n c).chips = s.chips := rfl
@[simp] theorem ctxPut_rqs (s : State) (n : Nat) (c : Ctx) : (ctxPut s n c).rqs = s.rqs := rfl
@[simp] theorem ctxPut_cores (s : State) (n : Nat) (c : Ctx) : (ctxPut s n c).cores = s.cores := rfl
@[simp] theorem ctxPut_mtime (s : State) (n : Nat) (c : Ctx) : (ctxPut s n c).mtime = s.mtime := rfl
@[simp] theorem ctxPut_pcie (s : State) (n : Nat) (c : Ctx) : (ctxPut s n c).pcie = s.pcie := rfl
@[simp] theorem ctxPut_sc (s : State) (n : Nat) (c : Ctx) : (ctxPut s n c).sc = s.sc := rfl
@[simp] theorem ctxPut_pwr (s : State) (n : Nat) (c : Ctx) : (ctxPut s n c).pwr = s.pwr := rfl
@[simp] theorem ctxPut_cla (s : State) (n : Nat) (c : Ctx) : (ctxPut s n c).cla = s.cla := rfl
@[simp] theorem ctxPut_sec (s : State) (n : Nat) (c : Ctx) : (ctxPut s n c).sec = s.sec := rfl
@[simp] theorem ctxPut_routes (s : State) (n : Nat) (c : Ctx) : (ctxPut s n c).routes = s.routes := rfl

@[simp] theorem queuePut_pending (s : State) (n : Nat) (c : Queue) : (queuePut s n c).pending = s.pending := rfl
@[simp] theorem queuePut_fresh (s : State) (n : Nat) (c : Queue) : (queuePut s n c).fresh = s.fresh := rfl
@[simp] theorem queuePut_out (s : State) (n : Nat) (c : Queue) : (queuePut s n c).out = s.out := rfl
@[simp] theorem queuePut_boot (s : State) (n : Nat) (c : Queue) : (queuePut s n c).boot = s.boot := rfl
@[simp] theorem queuePut_fuse (s : State) (n : Nat) (c : Queue) : (queuePut s n c).fuse = s.fuse := rfl
@[simp] theorem queuePut_flash (s : State) (n : Nat) (c : Queue) : (queuePut s n c).flash = s.flash := rfl
@[simp] theorem queuePut_faults (s : State) (n : Nat) (c : Queue) : (queuePut s n c).faults = s.faults := rfl
@[simp] theorem queuePut_present (s : State) (n : Nat) (c : Queue) : (queuePut s n c).present = s.present := rfl
@[simp] theorem queuePut_links (s : State) (n : Nat) (c : Queue) : (queuePut s n c).links = s.links := rfl
@[simp] theorem queuePut_alt (s : State) (n : Nat) (c : Queue) : (queuePut s n c).alt = s.alt := rfl
@[simp] theorem queuePut_pendAlt (s : State) (n : Nat) (c : Queue) : (queuePut s n c).pendAlt = s.pendAlt := rfl
@[simp] theorem queuePut_obj (s : State) (n : Nat) (c : Queue) : (queuePut s n c).obj = s.obj := rfl
@[simp] theorem queuePut_oct (s : State) (n : Nat) (c : Queue) : (queuePut s n c).oct = s.oct := rfl
@[simp] theorem queuePut_regs (s : State) (n : Nat) (c : Queue) : (queuePut s n c).regs = s.regs := rfl
@[simp] theorem queuePut_tcs (s : State) (n : Nat) (c : Queue) : (queuePut s n c).tcs = s.tcs := rfl
@[simp] theorem queuePut_items (s : State) (n : Nat) (c : Queue) : (queuePut s n c).items = s.items := rfl
@[simp] theorem queuePut_nextAcc (s : State) (n : Nat) (c : Queue) : (queuePut s n c).nextAcc = s.nextAcc := rfl
@[simp] theorem queuePut_rr (s : State) (n : Nat) (c : Queue) : (queuePut s n c).rr = s.rr := rfl
@[simp] theorem queuePut_ctxs (s : State) (n : Nat) (c : Queue) : (queuePut s n c).ctxs = s.ctxs := rfl
@[simp] theorem queuePut_queues (s : State) (n : Nat) (c : Queue) : (queuePut s n c).queues = tset {} s.queues n c := rfl
@[simp] theorem queuePut_cmdStat (s : State) (n : Nat) (c : Queue) : (queuePut s n c).cmdStat = s.cmdStat := rfl
@[simp] theorem queuePut_cmdBusy (s : State) (n : Nat) (c : Queue) : (queuePut s n c).cmdBusy = s.cmdBusy := rfl
@[simp] theorem queuePut_bindErr (s : State) (n : Nat) (c : Queue) : (queuePut s n c).bindErr = s.bindErr := rfl
@[simp] theorem queuePut_ctxBase (s : State) (n : Nat) (c : Queue) : (queuePut s n c).ctxBase = s.ctxBase := rfl
@[simp] theorem queuePut_batons (s : State) (n : Nat) (c : Queue) : (queuePut s n c).batons = s.batons := rfl
@[simp] theorem queuePut_groups (s : State) (n : Nat) (c : Queue) : (queuePut s n c).groups = s.groups := rfl
@[simp] theorem queuePut_slots (s : State) (n : Nat) (c : Queue) : (queuePut s n c).slots = s.slots := rfl
@[simp] theorem queuePut_tb (s : State) (n : Nat) (c : Queue) : (queuePut s n c).tb = s.tb := rfl
@[simp] theorem queuePut_ecl (s : State) (n : Nat) (c : Queue) : (queuePut s n c).ecl = s.ecl := rfl
@[simp] theorem queuePut_stu (s : State) (n : Nat) (c : Queue) : (queuePut s n c).stu = s.stu := rfl
@[simp] theorem queuePut_mem (s : State) (n : Nat) (c : Queue) : (queuePut s n c).mem = s.mem := rfl
@[simp] theorem queuePut_mds (s : State) (n : Nat) (c : Queue) : (queuePut s n c).mds = s.mds := rfl
@[simp] theorem queuePut_l2maint (s : State) (n : Nat) (c : Queue) : (queuePut s n c).l2maint = s.l2maint := rfl
@[simp] theorem queuePut_coh (s : State) (n : Nat) (c : Queue) : (queuePut s n c).coh = s.coh := rfl
@[simp] theorem queuePut_ports (s : State) (n : Nat) (c : Queue) : (queuePut s n c).ports = s.ports := rfl
@[simp] theorem queuePut_chips (s : State) (n : Nat) (c : Queue) : (queuePut s n c).chips = s.chips := rfl
@[simp] theorem queuePut_rqs (s : State) (n : Nat) (c : Queue) : (queuePut s n c).rqs = s.rqs := rfl
@[simp] theorem queuePut_cores (s : State) (n : Nat) (c : Queue) : (queuePut s n c).cores = s.cores := rfl
@[simp] theorem queuePut_mtime (s : State) (n : Nat) (c : Queue) : (queuePut s n c).mtime = s.mtime := rfl
@[simp] theorem queuePut_pcie (s : State) (n : Nat) (c : Queue) : (queuePut s n c).pcie = s.pcie := rfl
@[simp] theorem queuePut_sc (s : State) (n : Nat) (c : Queue) : (queuePut s n c).sc = s.sc := rfl
@[simp] theorem queuePut_pwr (s : State) (n : Nat) (c : Queue) : (queuePut s n c).pwr = s.pwr := rfl
@[simp] theorem queuePut_cla (s : State) (n : Nat) (c : Queue) : (queuePut s n c).cla = s.cla := rfl
@[simp] theorem queuePut_sec (s : State) (n : Nat) (c : Queue) : (queuePut s n c).sec = s.sec := rfl
@[simp] theorem queuePut_routes (s : State) (n : Nat) (c : Queue) : (queuePut s n c).routes = s.routes := rfl

@[simp] theorem batonPut_pending (s : State) (n : Nat) (c : Baton) : (batonPut s n c).pending = s.pending := rfl
@[simp] theorem batonPut_fresh (s : State) (n : Nat) (c : Baton) : (batonPut s n c).fresh = s.fresh := rfl
@[simp] theorem batonPut_out (s : State) (n : Nat) (c : Baton) : (batonPut s n c).out = s.out := rfl
@[simp] theorem batonPut_boot (s : State) (n : Nat) (c : Baton) : (batonPut s n c).boot = s.boot := rfl
@[simp] theorem batonPut_fuse (s : State) (n : Nat) (c : Baton) : (batonPut s n c).fuse = s.fuse := rfl
@[simp] theorem batonPut_flash (s : State) (n : Nat) (c : Baton) : (batonPut s n c).flash = s.flash := rfl
@[simp] theorem batonPut_faults (s : State) (n : Nat) (c : Baton) : (batonPut s n c).faults = s.faults := rfl
@[simp] theorem batonPut_present (s : State) (n : Nat) (c : Baton) : (batonPut s n c).present = s.present := rfl
@[simp] theorem batonPut_links (s : State) (n : Nat) (c : Baton) : (batonPut s n c).links = s.links := rfl
@[simp] theorem batonPut_alt (s : State) (n : Nat) (c : Baton) : (batonPut s n c).alt = s.alt := rfl
@[simp] theorem batonPut_pendAlt (s : State) (n : Nat) (c : Baton) : (batonPut s n c).pendAlt = s.pendAlt := rfl
@[simp] theorem batonPut_obj (s : State) (n : Nat) (c : Baton) : (batonPut s n c).obj = s.obj := rfl
@[simp] theorem batonPut_oct (s : State) (n : Nat) (c : Baton) : (batonPut s n c).oct = s.oct := rfl
@[simp] theorem batonPut_regs (s : State) (n : Nat) (c : Baton) : (batonPut s n c).regs = s.regs := rfl
@[simp] theorem batonPut_tcs (s : State) (n : Nat) (c : Baton) : (batonPut s n c).tcs = s.tcs := rfl
@[simp] theorem batonPut_items (s : State) (n : Nat) (c : Baton) : (batonPut s n c).items = s.items := rfl
@[simp] theorem batonPut_nextAcc (s : State) (n : Nat) (c : Baton) : (batonPut s n c).nextAcc = s.nextAcc := rfl
@[simp] theorem batonPut_rr (s : State) (n : Nat) (c : Baton) : (batonPut s n c).rr = s.rr := rfl
@[simp] theorem batonPut_ctxs (s : State) (n : Nat) (c : Baton) : (batonPut s n c).ctxs = s.ctxs := rfl
@[simp] theorem batonPut_queues (s : State) (n : Nat) (c : Baton) : (batonPut s n c).queues = s.queues := rfl
@[simp] theorem batonPut_cmdStat (s : State) (n : Nat) (c : Baton) : (batonPut s n c).cmdStat = s.cmdStat := rfl
@[simp] theorem batonPut_cmdBusy (s : State) (n : Nat) (c : Baton) : (batonPut s n c).cmdBusy = s.cmdBusy := rfl
@[simp] theorem batonPut_bindErr (s : State) (n : Nat) (c : Baton) : (batonPut s n c).bindErr = s.bindErr := rfl
@[simp] theorem batonPut_ctxBase (s : State) (n : Nat) (c : Baton) : (batonPut s n c).ctxBase = s.ctxBase := rfl
@[simp] theorem batonPut_batons (s : State) (n : Nat) (c : Baton) : (batonPut s n c).batons = tset {} s.batons n c := rfl
@[simp] theorem batonPut_groups (s : State) (n : Nat) (c : Baton) : (batonPut s n c).groups = s.groups := rfl
@[simp] theorem batonPut_slots (s : State) (n : Nat) (c : Baton) : (batonPut s n c).slots = s.slots := rfl
@[simp] theorem batonPut_tb (s : State) (n : Nat) (c : Baton) : (batonPut s n c).tb = s.tb := rfl
@[simp] theorem batonPut_ecl (s : State) (n : Nat) (c : Baton) : (batonPut s n c).ecl = s.ecl := rfl
@[simp] theorem batonPut_stu (s : State) (n : Nat) (c : Baton) : (batonPut s n c).stu = s.stu := rfl
@[simp] theorem batonPut_mem (s : State) (n : Nat) (c : Baton) : (batonPut s n c).mem = s.mem := rfl
@[simp] theorem batonPut_mds (s : State) (n : Nat) (c : Baton) : (batonPut s n c).mds = s.mds := rfl
@[simp] theorem batonPut_l2maint (s : State) (n : Nat) (c : Baton) : (batonPut s n c).l2maint = s.l2maint := rfl
@[simp] theorem batonPut_coh (s : State) (n : Nat) (c : Baton) : (batonPut s n c).coh = s.coh := rfl
@[simp] theorem batonPut_ports (s : State) (n : Nat) (c : Baton) : (batonPut s n c).ports = s.ports := rfl
@[simp] theorem batonPut_chips (s : State) (n : Nat) (c : Baton) : (batonPut s n c).chips = s.chips := rfl
@[simp] theorem batonPut_rqs (s : State) (n : Nat) (c : Baton) : (batonPut s n c).rqs = s.rqs := rfl
@[simp] theorem batonPut_cores (s : State) (n : Nat) (c : Baton) : (batonPut s n c).cores = s.cores := rfl
@[simp] theorem batonPut_mtime (s : State) (n : Nat) (c : Baton) : (batonPut s n c).mtime = s.mtime := rfl
@[simp] theorem batonPut_pcie (s : State) (n : Nat) (c : Baton) : (batonPut s n c).pcie = s.pcie := rfl
@[simp] theorem batonPut_sc (s : State) (n : Nat) (c : Baton) : (batonPut s n c).sc = s.sc := rfl
@[simp] theorem batonPut_pwr (s : State) (n : Nat) (c : Baton) : (batonPut s n c).pwr = s.pwr := rfl
@[simp] theorem batonPut_cla (s : State) (n : Nat) (c : Baton) : (batonPut s n c).cla = s.cla := rfl
@[simp] theorem batonPut_sec (s : State) (n : Nat) (c : Baton) : (batonPut s n c).sec = s.sec := rfl
@[simp] theorem batonPut_routes (s : State) (n : Nat) (c : Baton) : (batonPut s n c).routes = s.routes := rfl

@[simp] theorem groupPut_pending (s : State) (n : Nat) (c : Group) : (groupPut s n c).pending = s.pending := rfl
@[simp] theorem groupPut_fresh (s : State) (n : Nat) (c : Group) : (groupPut s n c).fresh = s.fresh := rfl
@[simp] theorem groupPut_out (s : State) (n : Nat) (c : Group) : (groupPut s n c).out = s.out := rfl
@[simp] theorem groupPut_boot (s : State) (n : Nat) (c : Group) : (groupPut s n c).boot = s.boot := rfl
@[simp] theorem groupPut_fuse (s : State) (n : Nat) (c : Group) : (groupPut s n c).fuse = s.fuse := rfl
@[simp] theorem groupPut_flash (s : State) (n : Nat) (c : Group) : (groupPut s n c).flash = s.flash := rfl
@[simp] theorem groupPut_faults (s : State) (n : Nat) (c : Group) : (groupPut s n c).faults = s.faults := rfl
@[simp] theorem groupPut_present (s : State) (n : Nat) (c : Group) : (groupPut s n c).present = s.present := rfl
@[simp] theorem groupPut_links (s : State) (n : Nat) (c : Group) : (groupPut s n c).links = s.links := rfl
@[simp] theorem groupPut_alt (s : State) (n : Nat) (c : Group) : (groupPut s n c).alt = s.alt := rfl
@[simp] theorem groupPut_pendAlt (s : State) (n : Nat) (c : Group) : (groupPut s n c).pendAlt = s.pendAlt := rfl
@[simp] theorem groupPut_obj (s : State) (n : Nat) (c : Group) : (groupPut s n c).obj = s.obj := rfl
@[simp] theorem groupPut_oct (s : State) (n : Nat) (c : Group) : (groupPut s n c).oct = s.oct := rfl
@[simp] theorem groupPut_regs (s : State) (n : Nat) (c : Group) : (groupPut s n c).regs = s.regs := rfl
@[simp] theorem groupPut_tcs (s : State) (n : Nat) (c : Group) : (groupPut s n c).tcs = s.tcs := rfl
@[simp] theorem groupPut_items (s : State) (n : Nat) (c : Group) : (groupPut s n c).items = s.items := rfl
@[simp] theorem groupPut_nextAcc (s : State) (n : Nat) (c : Group) : (groupPut s n c).nextAcc = s.nextAcc := rfl
@[simp] theorem groupPut_rr (s : State) (n : Nat) (c : Group) : (groupPut s n c).rr = s.rr := rfl
@[simp] theorem groupPut_ctxs (s : State) (n : Nat) (c : Group) : (groupPut s n c).ctxs = s.ctxs := rfl
@[simp] theorem groupPut_queues (s : State) (n : Nat) (c : Group) : (groupPut s n c).queues = s.queues := rfl
@[simp] theorem groupPut_cmdStat (s : State) (n : Nat) (c : Group) : (groupPut s n c).cmdStat = s.cmdStat := rfl
@[simp] theorem groupPut_cmdBusy (s : State) (n : Nat) (c : Group) : (groupPut s n c).cmdBusy = s.cmdBusy := rfl
@[simp] theorem groupPut_bindErr (s : State) (n : Nat) (c : Group) : (groupPut s n c).bindErr = s.bindErr := rfl
@[simp] theorem groupPut_ctxBase (s : State) (n : Nat) (c : Group) : (groupPut s n c).ctxBase = s.ctxBase := rfl
@[simp] theorem groupPut_batons (s : State) (n : Nat) (c : Group) : (groupPut s n c).batons = s.batons := rfl
@[simp] theorem groupPut_groups (s : State) (n : Nat) (c : Group) : (groupPut s n c).groups = tset {} s.groups n c := rfl
@[simp] theorem groupPut_slots (s : State) (n : Nat) (c : Group) : (groupPut s n c).slots = s.slots := rfl
@[simp] theorem groupPut_tb (s : State) (n : Nat) (c : Group) : (groupPut s n c).tb = s.tb := rfl
@[simp] theorem groupPut_ecl (s : State) (n : Nat) (c : Group) : (groupPut s n c).ecl = s.ecl := rfl
@[simp] theorem groupPut_stu (s : State) (n : Nat) (c : Group) : (groupPut s n c).stu = s.stu := rfl
@[simp] theorem groupPut_mem (s : State) (n : Nat) (c : Group) : (groupPut s n c).mem = s.mem := rfl
@[simp] theorem groupPut_mds (s : State) (n : Nat) (c : Group) : (groupPut s n c).mds = s.mds := rfl
@[simp] theorem groupPut_l2maint (s : State) (n : Nat) (c : Group) : (groupPut s n c).l2maint = s.l2maint := rfl
@[simp] theorem groupPut_coh (s : State) (n : Nat) (c : Group) : (groupPut s n c).coh = s.coh := rfl
@[simp] theorem groupPut_ports (s : State) (n : Nat) (c : Group) : (groupPut s n c).ports = s.ports := rfl
@[simp] theorem groupPut_chips (s : State) (n : Nat) (c : Group) : (groupPut s n c).chips = s.chips := rfl
@[simp] theorem groupPut_rqs (s : State) (n : Nat) (c : Group) : (groupPut s n c).rqs = s.rqs := rfl
@[simp] theorem groupPut_cores (s : State) (n : Nat) (c : Group) : (groupPut s n c).cores = s.cores := rfl
@[simp] theorem groupPut_mtime (s : State) (n : Nat) (c : Group) : (groupPut s n c).mtime = s.mtime := rfl
@[simp] theorem groupPut_pcie (s : State) (n : Nat) (c : Group) : (groupPut s n c).pcie = s.pcie := rfl
@[simp] theorem groupPut_sc (s : State) (n : Nat) (c : Group) : (groupPut s n c).sc = s.sc := rfl
@[simp] theorem groupPut_pwr (s : State) (n : Nat) (c : Group) : (groupPut s n c).pwr = s.pwr := rfl
@[simp] theorem groupPut_cla (s : State) (n : Nat) (c : Group) : (groupPut s n c).cla = s.cla := rfl
@[simp] theorem groupPut_sec (s : State) (n : Nat) (c : Group) : (groupPut s n c).sec = s.sec := rfl
@[simp] theorem groupPut_routes (s : State) (n : Nat) (c : Group) : (groupPut s n c).routes = s.routes := rfl

@[simp] theorem slotPut_pending (s : State) (n : Nat) (c : Slot) : (slotPut s n c).pending = s.pending := rfl
@[simp] theorem slotPut_fresh (s : State) (n : Nat) (c : Slot) : (slotPut s n c).fresh = s.fresh := rfl
@[simp] theorem slotPut_out (s : State) (n : Nat) (c : Slot) : (slotPut s n c).out = s.out := rfl
@[simp] theorem slotPut_boot (s : State) (n : Nat) (c : Slot) : (slotPut s n c).boot = s.boot := rfl
@[simp] theorem slotPut_fuse (s : State) (n : Nat) (c : Slot) : (slotPut s n c).fuse = s.fuse := rfl
@[simp] theorem slotPut_flash (s : State) (n : Nat) (c : Slot) : (slotPut s n c).flash = s.flash := rfl
@[simp] theorem slotPut_faults (s : State) (n : Nat) (c : Slot) : (slotPut s n c).faults = s.faults := rfl
@[simp] theorem slotPut_present (s : State) (n : Nat) (c : Slot) : (slotPut s n c).present = s.present := rfl
@[simp] theorem slotPut_links (s : State) (n : Nat) (c : Slot) : (slotPut s n c).links = s.links := rfl
@[simp] theorem slotPut_alt (s : State) (n : Nat) (c : Slot) : (slotPut s n c).alt = s.alt := rfl
@[simp] theorem slotPut_pendAlt (s : State) (n : Nat) (c : Slot) : (slotPut s n c).pendAlt = s.pendAlt := rfl
@[simp] theorem slotPut_obj (s : State) (n : Nat) (c : Slot) : (slotPut s n c).obj = s.obj := rfl
@[simp] theorem slotPut_oct (s : State) (n : Nat) (c : Slot) : (slotPut s n c).oct = s.oct := rfl
@[simp] theorem slotPut_regs (s : State) (n : Nat) (c : Slot) : (slotPut s n c).regs = s.regs := rfl
@[simp] theorem slotPut_tcs (s : State) (n : Nat) (c : Slot) : (slotPut s n c).tcs = s.tcs := rfl
@[simp] theorem slotPut_items (s : State) (n : Nat) (c : Slot) : (slotPut s n c).items = s.items := rfl
@[simp] theorem slotPut_nextAcc (s : State) (n : Nat) (c : Slot) : (slotPut s n c).nextAcc = s.nextAcc := rfl
@[simp] theorem slotPut_rr (s : State) (n : Nat) (c : Slot) : (slotPut s n c).rr = s.rr := rfl
@[simp] theorem slotPut_ctxs (s : State) (n : Nat) (c : Slot) : (slotPut s n c).ctxs = s.ctxs := rfl
@[simp] theorem slotPut_queues (s : State) (n : Nat) (c : Slot) : (slotPut s n c).queues = s.queues := rfl
@[simp] theorem slotPut_cmdStat (s : State) (n : Nat) (c : Slot) : (slotPut s n c).cmdStat = s.cmdStat := rfl
@[simp] theorem slotPut_cmdBusy (s : State) (n : Nat) (c : Slot) : (slotPut s n c).cmdBusy = s.cmdBusy := rfl
@[simp] theorem slotPut_bindErr (s : State) (n : Nat) (c : Slot) : (slotPut s n c).bindErr = s.bindErr := rfl
@[simp] theorem slotPut_ctxBase (s : State) (n : Nat) (c : Slot) : (slotPut s n c).ctxBase = s.ctxBase := rfl
@[simp] theorem slotPut_batons (s : State) (n : Nat) (c : Slot) : (slotPut s n c).batons = s.batons := rfl
@[simp] theorem slotPut_groups (s : State) (n : Nat) (c : Slot) : (slotPut s n c).groups = s.groups := rfl
@[simp] theorem slotPut_slots (s : State) (n : Nat) (c : Slot) : (slotPut s n c).slots = tset {} s.slots n c := rfl
@[simp] theorem slotPut_tb (s : State) (n : Nat) (c : Slot) : (slotPut s n c).tb = s.tb := rfl
@[simp] theorem slotPut_ecl (s : State) (n : Nat) (c : Slot) : (slotPut s n c).ecl = s.ecl := rfl
@[simp] theorem slotPut_stu (s : State) (n : Nat) (c : Slot) : (slotPut s n c).stu = s.stu := rfl
@[simp] theorem slotPut_mem (s : State) (n : Nat) (c : Slot) : (slotPut s n c).mem = s.mem := rfl
@[simp] theorem slotPut_mds (s : State) (n : Nat) (c : Slot) : (slotPut s n c).mds = s.mds := rfl
@[simp] theorem slotPut_l2maint (s : State) (n : Nat) (c : Slot) : (slotPut s n c).l2maint = s.l2maint := rfl
@[simp] theorem slotPut_coh (s : State) (n : Nat) (c : Slot) : (slotPut s n c).coh = s.coh := rfl
@[simp] theorem slotPut_ports (s : State) (n : Nat) (c : Slot) : (slotPut s n c).ports = s.ports := rfl
@[simp] theorem slotPut_chips (s : State) (n : Nat) (c : Slot) : (slotPut s n c).chips = s.chips := rfl
@[simp] theorem slotPut_rqs (s : State) (n : Nat) (c : Slot) : (slotPut s n c).rqs = s.rqs := rfl
@[simp] theorem slotPut_cores (s : State) (n : Nat) (c : Slot) : (slotPut s n c).cores = s.cores := rfl
@[simp] theorem slotPut_mtime (s : State) (n : Nat) (c : Slot) : (slotPut s n c).mtime = s.mtime := rfl
@[simp] theorem slotPut_pcie (s : State) (n : Nat) (c : Slot) : (slotPut s n c).pcie = s.pcie := rfl
@[simp] theorem slotPut_sc (s : State) (n : Nat) (c : Slot) : (slotPut s n c).sc = s.sc := rfl
@[simp] theorem slotPut_pwr (s : State) (n : Nat) (c : Slot) : (slotPut s n c).pwr = s.pwr := rfl
@[simp] theorem slotPut_cla (s : State) (n : Nat) (c : Slot) : (slotPut s n c).cla = s.cla := rfl
@[simp] theorem slotPut_sec (s : State) (n : Nat) (c : Slot) : (slotPut s n c).sec = s.sec := rfl
@[simp] theorem slotPut_routes (s : State) (n : Nat) (c : Slot) : (slotPut s n c).routes = s.routes := rfl

@[simp] theorem mdPut_pending (s : State) (n : Nat) (c : Md) : (mdPut s n c).pending = s.pending := rfl
@[simp] theorem mdPut_fresh (s : State) (n : Nat) (c : Md) : (mdPut s n c).fresh = s.fresh := rfl
@[simp] theorem mdPut_out (s : State) (n : Nat) (c : Md) : (mdPut s n c).out = s.out := rfl
@[simp] theorem mdPut_boot (s : State) (n : Nat) (c : Md) : (mdPut s n c).boot = s.boot := rfl
@[simp] theorem mdPut_fuse (s : State) (n : Nat) (c : Md) : (mdPut s n c).fuse = s.fuse := rfl
@[simp] theorem mdPut_flash (s : State) (n : Nat) (c : Md) : (mdPut s n c).flash = s.flash := rfl
@[simp] theorem mdPut_faults (s : State) (n : Nat) (c : Md) : (mdPut s n c).faults = s.faults := rfl
@[simp] theorem mdPut_present (s : State) (n : Nat) (c : Md) : (mdPut s n c).present = s.present := rfl
@[simp] theorem mdPut_links (s : State) (n : Nat) (c : Md) : (mdPut s n c).links = s.links := rfl
@[simp] theorem mdPut_alt (s : State) (n : Nat) (c : Md) : (mdPut s n c).alt = s.alt := rfl
@[simp] theorem mdPut_pendAlt (s : State) (n : Nat) (c : Md) : (mdPut s n c).pendAlt = s.pendAlt := rfl
@[simp] theorem mdPut_obj (s : State) (n : Nat) (c : Md) : (mdPut s n c).obj = s.obj := rfl
@[simp] theorem mdPut_oct (s : State) (n : Nat) (c : Md) : (mdPut s n c).oct = s.oct := rfl
@[simp] theorem mdPut_regs (s : State) (n : Nat) (c : Md) : (mdPut s n c).regs = s.regs := rfl
@[simp] theorem mdPut_tcs (s : State) (n : Nat) (c : Md) : (mdPut s n c).tcs = s.tcs := rfl
@[simp] theorem mdPut_items (s : State) (n : Nat) (c : Md) : (mdPut s n c).items = s.items := rfl
@[simp] theorem mdPut_nextAcc (s : State) (n : Nat) (c : Md) : (mdPut s n c).nextAcc = s.nextAcc := rfl
@[simp] theorem mdPut_rr (s : State) (n : Nat) (c : Md) : (mdPut s n c).rr = s.rr := rfl
@[simp] theorem mdPut_ctxs (s : State) (n : Nat) (c : Md) : (mdPut s n c).ctxs = s.ctxs := rfl
@[simp] theorem mdPut_queues (s : State) (n : Nat) (c : Md) : (mdPut s n c).queues = s.queues := rfl
@[simp] theorem mdPut_cmdStat (s : State) (n : Nat) (c : Md) : (mdPut s n c).cmdStat = s.cmdStat := rfl
@[simp] theorem mdPut_cmdBusy (s : State) (n : Nat) (c : Md) : (mdPut s n c).cmdBusy = s.cmdBusy := rfl
@[simp] theorem mdPut_bindErr (s : State) (n : Nat) (c : Md) : (mdPut s n c).bindErr = s.bindErr := rfl
@[simp] theorem mdPut_ctxBase (s : State) (n : Nat) (c : Md) : (mdPut s n c).ctxBase = s.ctxBase := rfl
@[simp] theorem mdPut_batons (s : State) (n : Nat) (c : Md) : (mdPut s n c).batons = s.batons := rfl
@[simp] theorem mdPut_groups (s : State) (n : Nat) (c : Md) : (mdPut s n c).groups = s.groups := rfl
@[simp] theorem mdPut_slots (s : State) (n : Nat) (c : Md) : (mdPut s n c).slots = s.slots := rfl
@[simp] theorem mdPut_tb (s : State) (n : Nat) (c : Md) : (mdPut s n c).tb = s.tb := rfl
@[simp] theorem mdPut_ecl (s : State) (n : Nat) (c : Md) : (mdPut s n c).ecl = s.ecl := rfl
@[simp] theorem mdPut_stu (s : State) (n : Nat) (c : Md) : (mdPut s n c).stu = s.stu := rfl
@[simp] theorem mdPut_mem (s : State) (n : Nat) (c : Md) : (mdPut s n c).mem = s.mem := rfl
@[simp] theorem mdPut_mds (s : State) (n : Nat) (c : Md) : (mdPut s n c).mds = tset {} s.mds n c := rfl
@[simp] theorem mdPut_l2maint (s : State) (n : Nat) (c : Md) : (mdPut s n c).l2maint = s.l2maint := rfl
@[simp] theorem mdPut_coh (s : State) (n : Nat) (c : Md) : (mdPut s n c).coh = s.coh := rfl
@[simp] theorem mdPut_ports (s : State) (n : Nat) (c : Md) : (mdPut s n c).ports = s.ports := rfl
@[simp] theorem mdPut_chips (s : State) (n : Nat) (c : Md) : (mdPut s n c).chips = s.chips := rfl
@[simp] theorem mdPut_rqs (s : State) (n : Nat) (c : Md) : (mdPut s n c).rqs = s.rqs := rfl
@[simp] theorem mdPut_cores (s : State) (n : Nat) (c : Md) : (mdPut s n c).cores = s.cores := rfl
@[simp] theorem mdPut_mtime (s : State) (n : Nat) (c : Md) : (mdPut s n c).mtime = s.mtime := rfl
@[simp] theorem mdPut_pcie (s : State) (n : Nat) (c : Md) : (mdPut s n c).pcie = s.pcie := rfl
@[simp] theorem mdPut_sc (s : State) (n : Nat) (c : Md) : (mdPut s n c).sc = s.sc := rfl
@[simp] theorem mdPut_pwr (s : State) (n : Nat) (c : Md) : (mdPut s n c).pwr = s.pwr := rfl
@[simp] theorem mdPut_cla (s : State) (n : Nat) (c : Md) : (mdPut s n c).cla = s.cla := rfl
@[simp] theorem mdPut_sec (s : State) (n : Nat) (c : Md) : (mdPut s n c).sec = s.sec := rfl
@[simp] theorem mdPut_routes (s : State) (n : Nat) (c : Md) : (mdPut s n c).routes = s.routes := rfl

@[simp] theorem rqPut_pending (s : State) (n : Nat) (c : RQueue) : (rqPut s n c).pending = s.pending := rfl
@[simp] theorem rqPut_fresh (s : State) (n : Nat) (c : RQueue) : (rqPut s n c).fresh = s.fresh := rfl
@[simp] theorem rqPut_out (s : State) (n : Nat) (c : RQueue) : (rqPut s n c).out = s.out := rfl
@[simp] theorem rqPut_boot (s : State) (n : Nat) (c : RQueue) : (rqPut s n c).boot = s.boot := rfl
@[simp] theorem rqPut_fuse (s : State) (n : Nat) (c : RQueue) : (rqPut s n c).fuse = s.fuse := rfl
@[simp] theorem rqPut_flash (s : State) (n : Nat) (c : RQueue) : (rqPut s n c).flash = s.flash := rfl
@[simp] theorem rqPut_faults (s : State) (n : Nat) (c : RQueue) : (rqPut s n c).faults = s.faults := rfl
@[simp] theorem rqPut_present (s : State) (n : Nat) (c : RQueue) : (rqPut s n c).present = s.present := rfl
@[simp] theorem rqPut_links (s : State) (n : Nat) (c : RQueue) : (rqPut s n c).links = s.links := rfl
@[simp] theorem rqPut_alt (s : State) (n : Nat) (c : RQueue) : (rqPut s n c).alt = s.alt := rfl
@[simp] theorem rqPut_pendAlt (s : State) (n : Nat) (c : RQueue) : (rqPut s n c).pendAlt = s.pendAlt := rfl
@[simp] theorem rqPut_obj (s : State) (n : Nat) (c : RQueue) : (rqPut s n c).obj = s.obj := rfl
@[simp] theorem rqPut_oct (s : State) (n : Nat) (c : RQueue) : (rqPut s n c).oct = s.oct := rfl
@[simp] theorem rqPut_regs (s : State) (n : Nat) (c : RQueue) : (rqPut s n c).regs = s.regs := rfl
@[simp] theorem rqPut_tcs (s : State) (n : Nat) (c : RQueue) : (rqPut s n c).tcs = s.tcs := rfl
@[simp] theorem rqPut_items (s : State) (n : Nat) (c : RQueue) : (rqPut s n c).items = s.items := rfl
@[simp] theorem rqPut_nextAcc (s : State) (n : Nat) (c : RQueue) : (rqPut s n c).nextAcc = s.nextAcc := rfl
@[simp] theorem rqPut_rr (s : State) (n : Nat) (c : RQueue) : (rqPut s n c).rr = s.rr := rfl
@[simp] theorem rqPut_ctxs (s : State) (n : Nat) (c : RQueue) : (rqPut s n c).ctxs = s.ctxs := rfl
@[simp] theorem rqPut_queues (s : State) (n : Nat) (c : RQueue) : (rqPut s n c).queues = s.queues := rfl
@[simp] theorem rqPut_cmdStat (s : State) (n : Nat) (c : RQueue) : (rqPut s n c).cmdStat = s.cmdStat := rfl
@[simp] theorem rqPut_cmdBusy (s : State) (n : Nat) (c : RQueue) : (rqPut s n c).cmdBusy = s.cmdBusy := rfl
@[simp] theorem rqPut_bindErr (s : State) (n : Nat) (c : RQueue) : (rqPut s n c).bindErr = s.bindErr := rfl
@[simp] theorem rqPut_ctxBase (s : State) (n : Nat) (c : RQueue) : (rqPut s n c).ctxBase = s.ctxBase := rfl
@[simp] theorem rqPut_batons (s : State) (n : Nat) (c : RQueue) : (rqPut s n c).batons = s.batons := rfl
@[simp] theorem rqPut_groups (s : State) (n : Nat) (c : RQueue) : (rqPut s n c).groups = s.groups := rfl
@[simp] theorem rqPut_slots (s : State) (n : Nat) (c : RQueue) : (rqPut s n c).slots = s.slots := rfl
@[simp] theorem rqPut_tb (s : State) (n : Nat) (c : RQueue) : (rqPut s n c).tb = s.tb := rfl
@[simp] theorem rqPut_ecl (s : State) (n : Nat) (c : RQueue) : (rqPut s n c).ecl = s.ecl := rfl
@[simp] theorem rqPut_stu (s : State) (n : Nat) (c : RQueue) : (rqPut s n c).stu = s.stu := rfl
@[simp] theorem rqPut_mem (s : State) (n : Nat) (c : RQueue) : (rqPut s n c).mem = s.mem := rfl
@[simp] theorem rqPut_mds (s : State) (n : Nat) (c : RQueue) : (rqPut s n c).mds = s.mds := rfl
@[simp] theorem rqPut_l2maint (s : State) (n : Nat) (c : RQueue) : (rqPut s n c).l2maint = s.l2maint := rfl
@[simp] theorem rqPut_coh (s : State) (n : Nat) (c : RQueue) : (rqPut s n c).coh = s.coh := rfl
@[simp] theorem rqPut_ports (s : State) (n : Nat) (c : RQueue) : (rqPut s n c).ports = s.ports := rfl
@[simp] theorem rqPut_chips (s : State) (n : Nat) (c : RQueue) : (rqPut s n c).chips = s.chips := rfl
@[simp] theorem rqPut_rqs (s : State) (n : Nat) (c : RQueue) : (rqPut s n c).rqs = tset {} s.rqs n c := rfl
@[simp] theorem rqPut_cores (s : State) (n : Nat) (c : RQueue) : (rqPut s n c).cores = s.cores := rfl
@[simp] theorem rqPut_mtime (s : State) (n : Nat) (c : RQueue) : (rqPut s n c).mtime = s.mtime := rfl
@[simp] theorem rqPut_pcie (s : State) (n : Nat) (c : RQueue) : (rqPut s n c).pcie = s.pcie := rfl
@[simp] theorem rqPut_sc (s : State) (n : Nat) (c : RQueue) : (rqPut s n c).sc = s.sc := rfl
@[simp] theorem rqPut_pwr (s : State) (n : Nat) (c : RQueue) : (rqPut s n c).pwr = s.pwr := rfl
@[simp] theorem rqPut_cla (s : State) (n : Nat) (c : RQueue) : (rqPut s n c).cla = s.cla := rfl
@[simp] theorem rqPut_sec (s : State) (n : Nat) (c : RQueue) : (rqPut s n c).sec = s.sec := rfl
@[simp] theorem rqPut_routes (s : State) (n : Nat) (c : RQueue) : (rqPut s n c).routes = s.routes := rfl

@[simp] theorem corePut_pending (s : State) (n : Nat) (c : Core) : (corePut s n c).pending = s.pending := rfl
@[simp] theorem corePut_fresh (s : State) (n : Nat) (c : Core) : (corePut s n c).fresh = s.fresh := rfl
@[simp] theorem corePut_out (s : State) (n : Nat) (c : Core) : (corePut s n c).out = s.out := rfl
@[simp] theorem corePut_boot (s : State) (n : Nat) (c : Core) : (corePut s n c).boot = s.boot := rfl
@[simp] theorem corePut_fuse (s : State) (n : Nat) (c : Core) : (corePut s n c).fuse = s.fuse := rfl
@[simp] theorem corePut_flash (s : State) (n : Nat) (c : Core) : (corePut s n c).flash = s.flash := rfl
@[simp] theorem corePut_faults (s : State) (n : Nat) (c : Core) : (corePut s n c).faults = s.faults := rfl
@[simp] theorem corePut_present (s : State) (n : Nat) (c : Core) : (corePut s n c).present = s.present := rfl
@[simp] theorem corePut_links (s : State) (n : Nat) (c : Core) : (corePut s n c).links = s.links := rfl
@[simp] theorem corePut_alt (s : State) (n : Nat) (c : Core) : (corePut s n c).alt = s.alt := rfl
@[simp] theorem corePut_pendAlt (s : State) (n : Nat) (c : Core) : (corePut s n c).pendAlt = s.pendAlt := rfl
@[simp] theorem corePut_obj (s : State) (n : Nat) (c : Core) : (corePut s n c).obj = s.obj := rfl
@[simp] theorem corePut_oct (s : State) (n : Nat) (c : Core) : (corePut s n c).oct = s.oct := rfl
@[simp] theorem corePut_regs (s : State) (n : Nat) (c : Core) : (corePut s n c).regs = s.regs := rfl
@[simp] theorem corePut_tcs (s : State) (n : Nat) (c : Core) : (corePut s n c).tcs = s.tcs := rfl
@[simp] theorem corePut_items (s : State) (n : Nat) (c : Core) : (corePut s n c).items = s.items := rfl
@[simp] theorem corePut_nextAcc (s : State) (n : Nat) (c : Core) : (corePut s n c).nextAcc = s.nextAcc := rfl
@[simp] theorem corePut_rr (s : State) (n : Nat) (c : Core) : (corePut s n c).rr = s.rr := rfl
@[simp] theorem corePut_ctxs (s : State) (n : Nat) (c : Core) : (corePut s n c).ctxs = s.ctxs := rfl
@[simp] theorem corePut_queues (s : State) (n : Nat) (c : Core) : (corePut s n c).queues = s.queues := rfl
@[simp] theorem corePut_cmdStat (s : State) (n : Nat) (c : Core) : (corePut s n c).cmdStat = s.cmdStat := rfl
@[simp] theorem corePut_cmdBusy (s : State) (n : Nat) (c : Core) : (corePut s n c).cmdBusy = s.cmdBusy := rfl
@[simp] theorem corePut_bindErr (s : State) (n : Nat) (c : Core) : (corePut s n c).bindErr = s.bindErr := rfl
@[simp] theorem corePut_ctxBase (s : State) (n : Nat) (c : Core) : (corePut s n c).ctxBase = s.ctxBase := rfl
@[simp] theorem corePut_batons (s : State) (n : Nat) (c : Core) : (corePut s n c).batons = s.batons := rfl
@[simp] theorem corePut_groups (s : State) (n : Nat) (c : Core) : (corePut s n c).groups = s.groups := rfl
@[simp] theorem corePut_slots (s : State) (n : Nat) (c : Core) : (corePut s n c).slots = s.slots := rfl
@[simp] theorem corePut_tb (s : State) (n : Nat) (c : Core) : (corePut s n c).tb = s.tb := rfl
@[simp] theorem corePut_ecl (s : State) (n : Nat) (c : Core) : (corePut s n c).ecl = s.ecl := rfl
@[simp] theorem corePut_stu (s : State) (n : Nat) (c : Core) : (corePut s n c).stu = s.stu := rfl
@[simp] theorem corePut_mem (s : State) (n : Nat) (c : Core) : (corePut s n c).mem = s.mem := rfl
@[simp] theorem corePut_mds (s : State) (n : Nat) (c : Core) : (corePut s n c).mds = s.mds := rfl
@[simp] theorem corePut_l2maint (s : State) (n : Nat) (c : Core) : (corePut s n c).l2maint = s.l2maint := rfl
@[simp] theorem corePut_coh (s : State) (n : Nat) (c : Core) : (corePut s n c).coh = s.coh := rfl
@[simp] theorem corePut_ports (s : State) (n : Nat) (c : Core) : (corePut s n c).ports = s.ports := rfl
@[simp] theorem corePut_chips (s : State) (n : Nat) (c : Core) : (corePut s n c).chips = s.chips := rfl
@[simp] theorem corePut_rqs (s : State) (n : Nat) (c : Core) : (corePut s n c).rqs = s.rqs := rfl
@[simp] theorem corePut_cores (s : State) (n : Nat) (c : Core) : (corePut s n c).cores = tset {} s.cores n c := rfl
@[simp] theorem corePut_mtime (s : State) (n : Nat) (c : Core) : (corePut s n c).mtime = s.mtime := rfl
@[simp] theorem corePut_pcie (s : State) (n : Nat) (c : Core) : (corePut s n c).pcie = s.pcie := rfl
@[simp] theorem corePut_sc (s : State) (n : Nat) (c : Core) : (corePut s n c).sc = s.sc := rfl
@[simp] theorem corePut_pwr (s : State) (n : Nat) (c : Core) : (corePut s n c).pwr = s.pwr := rfl
@[simp] theorem corePut_cla (s : State) (n : Nat) (c : Core) : (corePut s n c).cla = s.cla := rfl
@[simp] theorem corePut_sec (s : State) (n : Nat) (c : Core) : (corePut s n c).sec = s.sec := rfl
@[simp] theorem corePut_routes (s : State) (n : Nat) (c : Core) : (corePut s n c).routes = s.routes := rfl

@[simp] theorem pciePut_pending (s : State) (n : Nat) (c : Pcie) : (pciePut s n c).pending = s.pending := rfl
@[simp] theorem pciePut_fresh (s : State) (n : Nat) (c : Pcie) : (pciePut s n c).fresh = s.fresh := rfl
@[simp] theorem pciePut_out (s : State) (n : Nat) (c : Pcie) : (pciePut s n c).out = s.out := rfl
@[simp] theorem pciePut_boot (s : State) (n : Nat) (c : Pcie) : (pciePut s n c).boot = s.boot := rfl
@[simp] theorem pciePut_fuse (s : State) (n : Nat) (c : Pcie) : (pciePut s n c).fuse = s.fuse := rfl
@[simp] theorem pciePut_flash (s : State) (n : Nat) (c : Pcie) : (pciePut s n c).flash = s.flash := rfl
@[simp] theorem pciePut_faults (s : State) (n : Nat) (c : Pcie) : (pciePut s n c).faults = s.faults := rfl
@[simp] theorem pciePut_present (s : State) (n : Nat) (c : Pcie) : (pciePut s n c).present = s.present := rfl
@[simp] theorem pciePut_links (s : State) (n : Nat) (c : Pcie) : (pciePut s n c).links = s.links := rfl
@[simp] theorem pciePut_alt (s : State) (n : Nat) (c : Pcie) : (pciePut s n c).alt = s.alt := rfl
@[simp] theorem pciePut_pendAlt (s : State) (n : Nat) (c : Pcie) : (pciePut s n c).pendAlt = s.pendAlt := rfl
@[simp] theorem pciePut_obj (s : State) (n : Nat) (c : Pcie) : (pciePut s n c).obj = s.obj := rfl
@[simp] theorem pciePut_oct (s : State) (n : Nat) (c : Pcie) : (pciePut s n c).oct = s.oct := rfl
@[simp] theorem pciePut_regs (s : State) (n : Nat) (c : Pcie) : (pciePut s n c).regs = s.regs := rfl
@[simp] theorem pciePut_tcs (s : State) (n : Nat) (c : Pcie) : (pciePut s n c).tcs = s.tcs := rfl
@[simp] theorem pciePut_items (s : State) (n : Nat) (c : Pcie) : (pciePut s n c).items = s.items := rfl
@[simp] theorem pciePut_nextAcc (s : State) (n : Nat) (c : Pcie) : (pciePut s n c).nextAcc = s.nextAcc := rfl
@[simp] theorem pciePut_rr (s : State) (n : Nat) (c : Pcie) : (pciePut s n c).rr = s.rr := rfl
@[simp] theorem pciePut_ctxs (s : State) (n : Nat) (c : Pcie) : (pciePut s n c).ctxs = s.ctxs := rfl
@[simp] theorem pciePut_queues (s : State) (n : Nat) (c : Pcie) : (pciePut s n c).queues = s.queues := rfl
@[simp] theorem pciePut_cmdStat (s : State) (n : Nat) (c : Pcie) : (pciePut s n c).cmdStat = s.cmdStat := rfl
@[simp] theorem pciePut_cmdBusy (s : State) (n : Nat) (c : Pcie) : (pciePut s n c).cmdBusy = s.cmdBusy := rfl
@[simp] theorem pciePut_bindErr (s : State) (n : Nat) (c : Pcie) : (pciePut s n c).bindErr = s.bindErr := rfl
@[simp] theorem pciePut_ctxBase (s : State) (n : Nat) (c : Pcie) : (pciePut s n c).ctxBase = s.ctxBase := rfl
@[simp] theorem pciePut_batons (s : State) (n : Nat) (c : Pcie) : (pciePut s n c).batons = s.batons := rfl
@[simp] theorem pciePut_groups (s : State) (n : Nat) (c : Pcie) : (pciePut s n c).groups = s.groups := rfl
@[simp] theorem pciePut_slots (s : State) (n : Nat) (c : Pcie) : (pciePut s n c).slots = s.slots := rfl
@[simp] theorem pciePut_tb (s : State) (n : Nat) (c : Pcie) : (pciePut s n c).tb = s.tb := rfl
@[simp] theorem pciePut_ecl (s : State) (n : Nat) (c : Pcie) : (pciePut s n c).ecl = s.ecl := rfl
@[simp] theorem pciePut_stu (s : State) (n : Nat) (c : Pcie) : (pciePut s n c).stu = s.stu := rfl
@[simp] theorem pciePut_mem (s : State) (n : Nat) (c : Pcie) : (pciePut s n c).mem = s.mem := rfl
@[simp] theorem pciePut_mds (s : State) (n : Nat) (c : Pcie) : (pciePut s n c).mds = s.mds := rfl
@[simp] theorem pciePut_l2maint (s : State) (n : Nat) (c : Pcie) : (pciePut s n c).l2maint = s.l2maint := rfl
@[simp] theorem pciePut_coh (s : State) (n : Nat) (c : Pcie) : (pciePut s n c).coh = s.coh := rfl
@[simp] theorem pciePut_ports (s : State) (n : Nat) (c : Pcie) : (pciePut s n c).ports = s.ports := rfl
@[simp] theorem pciePut_chips (s : State) (n : Nat) (c : Pcie) : (pciePut s n c).chips = s.chips := rfl
@[simp] theorem pciePut_rqs (s : State) (n : Nat) (c : Pcie) : (pciePut s n c).rqs = s.rqs := rfl
@[simp] theorem pciePut_cores (s : State) (n : Nat) (c : Pcie) : (pciePut s n c).cores = s.cores := rfl
@[simp] theorem pciePut_mtime (s : State) (n : Nat) (c : Pcie) : (pciePut s n c).mtime = s.mtime := rfl
@[simp] theorem pciePut_pcie (s : State) (n : Nat) (c : Pcie) : (pciePut s n c).pcie = tset {} s.pcie n c := rfl
@[simp] theorem pciePut_sc (s : State) (n : Nat) (c : Pcie) : (pciePut s n c).sc = s.sc := rfl
@[simp] theorem pciePut_pwr (s : State) (n : Nat) (c : Pcie) : (pciePut s n c).pwr = s.pwr := rfl
@[simp] theorem pciePut_cla (s : State) (n : Nat) (c : Pcie) : (pciePut s n c).cla = s.cla := rfl
@[simp] theorem pciePut_sec (s : State) (n : Nat) (c : Pcie) : (pciePut s n c).sec = s.sec := rfl
@[simp] theorem pciePut_routes (s : State) (n : Nat) (c : Pcie) : (pciePut s n c).routes = s.routes := rfl

@[simp] theorem srcPut_pending (s : State) (n : Nat) (c : Src) : (srcPut s n c).pending = s.pending := rfl
@[simp] theorem srcPut_fresh (s : State) (n : Nat) (c : Src) : (srcPut s n c).fresh = s.fresh := rfl
@[simp] theorem srcPut_out (s : State) (n : Nat) (c : Src) : (srcPut s n c).out = s.out := rfl
@[simp] theorem srcPut_boot (s : State) (n : Nat) (c : Src) : (srcPut s n c).boot = s.boot := rfl
@[simp] theorem srcPut_fuse (s : State) (n : Nat) (c : Src) : (srcPut s n c).fuse = s.fuse := rfl
@[simp] theorem srcPut_flash (s : State) (n : Nat) (c : Src) : (srcPut s n c).flash = s.flash := rfl
@[simp] theorem srcPut_faults (s : State) (n : Nat) (c : Src) : (srcPut s n c).faults = s.faults := rfl
@[simp] theorem srcPut_present (s : State) (n : Nat) (c : Src) : (srcPut s n c).present = s.present := rfl
@[simp] theorem srcPut_links (s : State) (n : Nat) (c : Src) : (srcPut s n c).links = s.links := rfl
@[simp] theorem srcPut_alt (s : State) (n : Nat) (c : Src) : (srcPut s n c).alt = s.alt := rfl
@[simp] theorem srcPut_pendAlt (s : State) (n : Nat) (c : Src) : (srcPut s n c).pendAlt = s.pendAlt := rfl
@[simp] theorem srcPut_obj (s : State) (n : Nat) (c : Src) : (srcPut s n c).obj = s.obj := rfl
@[simp] theorem srcPut_oct (s : State) (n : Nat) (c : Src) : (srcPut s n c).oct = s.oct := rfl
@[simp] theorem srcPut_regs (s : State) (n : Nat) (c : Src) : (srcPut s n c).regs = s.regs := rfl
@[simp] theorem srcPut_tcs (s : State) (n : Nat) (c : Src) : (srcPut s n c).tcs = s.tcs := rfl
@[simp] theorem srcPut_items (s : State) (n : Nat) (c : Src) : (srcPut s n c).items = s.items := rfl
@[simp] theorem srcPut_nextAcc (s : State) (n : Nat) (c : Src) : (srcPut s n c).nextAcc = s.nextAcc := rfl
@[simp] theorem srcPut_rr (s : State) (n : Nat) (c : Src) : (srcPut s n c).rr = s.rr := rfl
@[simp] theorem srcPut_ctxs (s : State) (n : Nat) (c : Src) : (srcPut s n c).ctxs = s.ctxs := rfl
@[simp] theorem srcPut_queues (s : State) (n : Nat) (c : Src) : (srcPut s n c).queues = s.queues := rfl
@[simp] theorem srcPut_cmdStat (s : State) (n : Nat) (c : Src) : (srcPut s n c).cmdStat = s.cmdStat := rfl
@[simp] theorem srcPut_cmdBusy (s : State) (n : Nat) (c : Src) : (srcPut s n c).cmdBusy = s.cmdBusy := rfl
@[simp] theorem srcPut_bindErr (s : State) (n : Nat) (c : Src) : (srcPut s n c).bindErr = s.bindErr := rfl
@[simp] theorem srcPut_ctxBase (s : State) (n : Nat) (c : Src) : (srcPut s n c).ctxBase = s.ctxBase := rfl
@[simp] theorem srcPut_batons (s : State) (n : Nat) (c : Src) : (srcPut s n c).batons = s.batons := rfl
@[simp] theorem srcPut_groups (s : State) (n : Nat) (c : Src) : (srcPut s n c).groups = s.groups := rfl
@[simp] theorem srcPut_slots (s : State) (n : Nat) (c : Src) : (srcPut s n c).slots = s.slots := rfl
@[simp] theorem srcPut_tb (s : State) (n : Nat) (c : Src) : (srcPut s n c).tb = s.tb := rfl
@[simp] theorem srcPut_ecl (s : State) (n : Nat) (c : Src) : (srcPut s n c).ecl = s.ecl := rfl
@[simp] theorem srcPut_stu (s : State) (n : Nat) (c : Src) : (srcPut s n c).stu = s.stu := rfl
@[simp] theorem srcPut_mem (s : State) (n : Nat) (c : Src) : (srcPut s n c).mem = s.mem := rfl
@[simp] theorem srcPut_mds (s : State) (n : Nat) (c : Src) : (srcPut s n c).mds = s.mds := rfl
@[simp] theorem srcPut_l2maint (s : State) (n : Nat) (c : Src) : (srcPut s n c).l2maint = s.l2maint := rfl
@[simp] theorem srcPut_coh (s : State) (n : Nat) (c : Src) : (srcPut s n c).coh = s.coh := rfl
@[simp] theorem srcPut_ports (s : State) (n : Nat) (c : Src) : (srcPut s n c).ports = s.ports := rfl
@[simp] theorem srcPut_chips (s : State) (n : Nat) (c : Src) : (srcPut s n c).chips = s.chips := rfl
@[simp] theorem srcPut_rqs (s : State) (n : Nat) (c : Src) : (srcPut s n c).rqs = s.rqs := rfl
@[simp] theorem srcPut_cores (s : State) (n : Nat) (c : Src) : (srcPut s n c).cores = s.cores := rfl
@[simp] theorem srcPut_mtime (s : State) (n : Nat) (c : Src) : (srcPut s n c).mtime = s.mtime := rfl
@[simp] theorem srcPut_pcie (s : State) (n : Nat) (c : Src) : (srcPut s n c).pcie = s.pcie := rfl
@[simp] theorem srcPut_sc (s : State) (n : Nat) (c : Src) : (srcPut s n c).sc = { s.sc with src := tset {} s.sc.src n c } := rfl
@[simp] theorem srcPut_pwr (s : State) (n : Nat) (c : Src) : (srcPut s n c).pwr = s.pwr := rfl
@[simp] theorem srcPut_cla (s : State) (n : Nat) (c : Src) : (srcPut s n c).cla = s.cla := rfl
@[simp] theorem srcPut_sec (s : State) (n : Nat) (c : Src) : (srcPut s n c).sec = s.sec := rfl
@[simp] theorem srcPut_routes (s : State) (n : Nat) (c : Src) : (srcPut s n c).routes = s.routes := rfl

@[simp] theorem scMod_pending (s : State) (f : SigCon → SigCon) : (scMod s f).pending = s.pending := rfl
@[simp] theorem scMod_fresh (s : State) (f : SigCon → SigCon) : (scMod s f).fresh = s.fresh := rfl
@[simp] theorem scMod_out (s : State) (f : SigCon → SigCon) : (scMod s f).out = s.out := rfl
@[simp] theorem scMod_boot (s : State) (f : SigCon → SigCon) : (scMod s f).boot = s.boot := rfl
@[simp] theorem scMod_fuse (s : State) (f : SigCon → SigCon) : (scMod s f).fuse = s.fuse := rfl
@[simp] theorem scMod_flash (s : State) (f : SigCon → SigCon) : (scMod s f).flash = s.flash := rfl
@[simp] theorem scMod_faults (s : State) (f : SigCon → SigCon) : (scMod s f).faults = s.faults := rfl
@[simp] theorem scMod_present (s : State) (f : SigCon → SigCon) : (scMod s f).present = s.present := rfl
@[simp] theorem scMod_links (s : State) (f : SigCon → SigCon) : (scMod s f).links = s.links := rfl
@[simp] theorem scMod_alt (s : State) (f : SigCon → SigCon) : (scMod s f).alt = s.alt := rfl
@[simp] theorem scMod_pendAlt (s : State) (f : SigCon → SigCon) : (scMod s f).pendAlt = s.pendAlt := rfl
@[simp] theorem scMod_obj (s : State) (f : SigCon → SigCon) : (scMod s f).obj = s.obj := rfl
@[simp] theorem scMod_oct (s : State) (f : SigCon → SigCon) : (scMod s f).oct = s.oct := rfl
@[simp] theorem scMod_regs (s : State) (f : SigCon → SigCon) : (scMod s f).regs = s.regs := rfl
@[simp] theorem scMod_tcs (s : State) (f : SigCon → SigCon) : (scMod s f).tcs = s.tcs := rfl
@[simp] theorem scMod_items (s : State) (f : SigCon → SigCon) : (scMod s f).items = s.items := rfl
@[simp] theorem scMod_nextAcc (s : State) (f : SigCon → SigCon) : (scMod s f).nextAcc = s.nextAcc := rfl
@[simp] theorem scMod_rr (s : State) (f : SigCon → SigCon) : (scMod s f).rr = s.rr := rfl
@[simp] theorem scMod_ctxs (s : State) (f : SigCon → SigCon) : (scMod s f).ctxs = s.ctxs := rfl
@[simp] theorem scMod_queues (s : State) (f : SigCon → SigCon) : (scMod s f).queues = s.queues := rfl
@[simp] theorem scMod_cmdStat (s : State) (f : SigCon → SigCon) : (scMod s f).cmdStat = s.cmdStat := rfl
@[simp] theorem scMod_cmdBusy (s : State) (f : SigCon → SigCon) : (scMod s f).cmdBusy = s.cmdBusy := rfl
@[simp] theorem scMod_bindErr (s : State) (f : SigCon → SigCon) : (scMod s f).bindErr = s.bindErr := rfl
@[simp] theorem scMod_ctxBase (s : State) (f : SigCon → SigCon) : (scMod s f).ctxBase = s.ctxBase := rfl
@[simp] theorem scMod_batons (s : State) (f : SigCon → SigCon) : (scMod s f).batons = s.batons := rfl
@[simp] theorem scMod_groups (s : State) (f : SigCon → SigCon) : (scMod s f).groups = s.groups := rfl
@[simp] theorem scMod_slots (s : State) (f : SigCon → SigCon) : (scMod s f).slots = s.slots := rfl
@[simp] theorem scMod_tb (s : State) (f : SigCon → SigCon) : (scMod s f).tb = s.tb := rfl
@[simp] theorem scMod_ecl (s : State) (f : SigCon → SigCon) : (scMod s f).ecl = s.ecl := rfl
@[simp] theorem scMod_stu (s : State) (f : SigCon → SigCon) : (scMod s f).stu = s.stu := rfl
@[simp] theorem scMod_mem (s : State) (f : SigCon → SigCon) : (scMod s f).mem = s.mem := rfl
@[simp] theorem scMod_mds (s : State) (f : SigCon → SigCon) : (scMod s f).mds = s.mds := rfl
@[simp] theorem scMod_l2maint (s : State) (f : SigCon → SigCon) : (scMod s f).l2maint = s.l2maint := rfl
@[simp] theorem scMod_coh (s : State) (f : SigCon → SigCon) : (scMod s f).coh = s.coh := rfl
@[simp] theorem scMod_ports (s : State) (f : SigCon → SigCon) : (scMod s f).ports = s.ports := rfl
@[simp] theorem scMod_chips (s : State) (f : SigCon → SigCon) : (scMod s f).chips = s.chips := rfl
@[simp] theorem scMod_rqs (s : State) (f : SigCon → SigCon) : (scMod s f).rqs = s.rqs := rfl
@[simp] theorem scMod_cores (s : State) (f : SigCon → SigCon) : (scMod s f).cores = s.cores := rfl
@[simp] theorem scMod_mtime (s : State) (f : SigCon → SigCon) : (scMod s f).mtime = s.mtime := rfl
@[simp] theorem scMod_pcie (s : State) (f : SigCon → SigCon) : (scMod s f).pcie = s.pcie := rfl
@[simp] theorem scMod_sc (s : State) (f : SigCon → SigCon) : (scMod s f).sc = f s.sc := rfl
@[simp] theorem scMod_pwr (s : State) (f : SigCon → SigCon) : (scMod s f).pwr = s.pwr := rfl
@[simp] theorem scMod_cla (s : State) (f : SigCon → SigCon) : (scMod s f).cla = s.cla := rfl
@[simp] theorem scMod_sec (s : State) (f : SigCon → SigCon) : (scMod s f).sec = s.sec := rfl
@[simp] theorem scMod_routes (s : State) (f : SigCon → SigCon) : (scMod s f).routes = s.routes := rfl

@[simp] theorem stuMod_pending (s : State) (f : Stu → Stu) : (stuMod s f).pending = s.pending := rfl
@[simp] theorem stuMod_fresh (s : State) (f : Stu → Stu) : (stuMod s f).fresh = s.fresh := rfl
@[simp] theorem stuMod_out (s : State) (f : Stu → Stu) : (stuMod s f).out = s.out := rfl
@[simp] theorem stuMod_boot (s : State) (f : Stu → Stu) : (stuMod s f).boot = s.boot := rfl
@[simp] theorem stuMod_fuse (s : State) (f : Stu → Stu) : (stuMod s f).fuse = s.fuse := rfl
@[simp] theorem stuMod_flash (s : State) (f : Stu → Stu) : (stuMod s f).flash = s.flash := rfl
@[simp] theorem stuMod_faults (s : State) (f : Stu → Stu) : (stuMod s f).faults = s.faults := rfl
@[simp] theorem stuMod_present (s : State) (f : Stu → Stu) : (stuMod s f).present = s.present := rfl
@[simp] theorem stuMod_links (s : State) (f : Stu → Stu) : (stuMod s f).links = s.links := rfl
@[simp] theorem stuMod_alt (s : State) (f : Stu → Stu) : (stuMod s f).alt = s.alt := rfl
@[simp] theorem stuMod_pendAlt (s : State) (f : Stu → Stu) : (stuMod s f).pendAlt = s.pendAlt := rfl
@[simp] theorem stuMod_obj (s : State) (f : Stu → Stu) : (stuMod s f).obj = s.obj := rfl
@[simp] theorem stuMod_oct (s : State) (f : Stu → Stu) : (stuMod s f).oct = s.oct := rfl
@[simp] theorem stuMod_regs (s : State) (f : Stu → Stu) : (stuMod s f).regs = s.regs := rfl
@[simp] theorem stuMod_tcs (s : State) (f : Stu → Stu) : (stuMod s f).tcs = s.tcs := rfl
@[simp] theorem stuMod_items (s : State) (f : Stu → Stu) : (stuMod s f).items = s.items := rfl
@[simp] theorem stuMod_nextAcc (s : State) (f : Stu → Stu) : (stuMod s f).nextAcc = s.nextAcc := rfl
@[simp] theorem stuMod_rr (s : State) (f : Stu → Stu) : (stuMod s f).rr = s.rr := rfl
@[simp] theorem stuMod_ctxs (s : State) (f : Stu → Stu) : (stuMod s f).ctxs = s.ctxs := rfl
@[simp] theorem stuMod_queues (s : State) (f : Stu → Stu) : (stuMod s f).queues = s.queues := rfl
@[simp] theorem stuMod_cmdStat (s : State) (f : Stu → Stu) : (stuMod s f).cmdStat = s.cmdStat := rfl
@[simp] theorem stuMod_cmdBusy (s : State) (f : Stu → Stu) : (stuMod s f).cmdBusy = s.cmdBusy := rfl
@[simp] theorem stuMod_bindErr (s : State) (f : Stu → Stu) : (stuMod s f).bindErr = s.bindErr := rfl
@[simp] theorem stuMod_ctxBase (s : State) (f : Stu → Stu) : (stuMod s f).ctxBase = s.ctxBase := rfl
@[simp] theorem stuMod_batons (s : State) (f : Stu → Stu) : (stuMod s f).batons = s.batons := rfl
@[simp] theorem stuMod_groups (s : State) (f : Stu → Stu) : (stuMod s f).groups = s.groups := rfl
@[simp] theorem stuMod_slots (s : State) (f : Stu → Stu) : (stuMod s f).slots = s.slots := rfl
@[simp] theorem stuMod_tb (s : State) (f : Stu → Stu) : (stuMod s f).tb = s.tb := rfl
@[simp] theorem stuMod_ecl (s : State) (f : Stu → Stu) : (stuMod s f).ecl = s.ecl := rfl
@[simp] theorem stuMod_stu (s : State) (f : Stu → Stu) : (stuMod s f).stu = f s.stu := rfl
@[simp] theorem stuMod_mem (s : State) (f : Stu → Stu) : (stuMod s f).mem = s.mem := rfl
@[simp] theorem stuMod_mds (s : State) (f : Stu → Stu) : (stuMod s f).mds = s.mds := rfl
@[simp] theorem stuMod_l2maint (s : State) (f : Stu → Stu) : (stuMod s f).l2maint = s.l2maint := rfl
@[simp] theorem stuMod_coh (s : State) (f : Stu → Stu) : (stuMod s f).coh = s.coh := rfl
@[simp] theorem stuMod_ports (s : State) (f : Stu → Stu) : (stuMod s f).ports = s.ports := rfl
@[simp] theorem stuMod_chips (s : State) (f : Stu → Stu) : (stuMod s f).chips = s.chips := rfl
@[simp] theorem stuMod_rqs (s : State) (f : Stu → Stu) : (stuMod s f).rqs = s.rqs := rfl
@[simp] theorem stuMod_cores (s : State) (f : Stu → Stu) : (stuMod s f).cores = s.cores := rfl
@[simp] theorem stuMod_mtime (s : State) (f : Stu → Stu) : (stuMod s f).mtime = s.mtime := rfl
@[simp] theorem stuMod_pcie (s : State) (f : Stu → Stu) : (stuMod s f).pcie = s.pcie := rfl
@[simp] theorem stuMod_sc (s : State) (f : Stu → Stu) : (stuMod s f).sc = s.sc := rfl
@[simp] theorem stuMod_pwr (s : State) (f : Stu → Stu) : (stuMod s f).pwr = s.pwr := rfl
@[simp] theorem stuMod_cla (s : State) (f : Stu → Stu) : (stuMod s f).cla = s.cla := rfl
@[simp] theorem stuMod_sec (s : State) (f : Stu → Stu) : (stuMod s f).sec = s.sec := rfl
@[simp] theorem stuMod_routes (s : State) (f : Stu → Stu) : (stuMod s f).routes = s.routes := rfl

@[simp] theorem cohMod_pending (s : State) (f : Coh → Coh) : (cohMod s f).pending = s.pending := rfl
@[simp] theorem cohMod_fresh (s : State) (f : Coh → Coh) : (cohMod s f).fresh = s.fresh := rfl
@[simp] theorem cohMod_out (s : State) (f : Coh → Coh) : (cohMod s f).out = s.out := rfl
@[simp] theorem cohMod_boot (s : State) (f : Coh → Coh) : (cohMod s f).boot = s.boot := rfl
@[simp] theorem cohMod_fuse (s : State) (f : Coh → Coh) : (cohMod s f).fuse = s.fuse := rfl
@[simp] theorem cohMod_flash (s : State) (f : Coh → Coh) : (cohMod s f).flash = s.flash := rfl
@[simp] theorem cohMod_faults (s : State) (f : Coh → Coh) : (cohMod s f).faults = s.faults := rfl
@[simp] theorem cohMod_present (s : State) (f : Coh → Coh) : (cohMod s f).present = s.present := rfl
@[simp] theorem cohMod_links (s : State) (f : Coh → Coh) : (cohMod s f).links = s.links := rfl
@[simp] theorem cohMod_alt (s : State) (f : Coh → Coh) : (cohMod s f).alt = s.alt := rfl
@[simp] theorem cohMod_pendAlt (s : State) (f : Coh → Coh) : (cohMod s f).pendAlt = s.pendAlt := rfl
@[simp] theorem cohMod_obj (s : State) (f : Coh → Coh) : (cohMod s f).obj = s.obj := rfl
@[simp] theorem cohMod_oct (s : State) (f : Coh → Coh) : (cohMod s f).oct = s.oct := rfl
@[simp] theorem cohMod_regs (s : State) (f : Coh → Coh) : (cohMod s f).regs = s.regs := rfl
@[simp] theorem cohMod_tcs (s : State) (f : Coh → Coh) : (cohMod s f).tcs = s.tcs := rfl
@[simp] theorem cohMod_items (s : State) (f : Coh → Coh) : (cohMod s f).items = s.items := rfl
@[simp] theorem cohMod_nextAcc (s : State) (f : Coh → Coh) : (cohMod s f).nextAcc = s.nextAcc := rfl
@[simp] theorem cohMod_rr (s : State) (f : Coh → Coh) : (cohMod s f).rr = s.rr := rfl
@[simp] theorem cohMod_ctxs (s : State) (f : Coh → Coh) : (cohMod s f).ctxs = s.ctxs := rfl
@[simp] theorem cohMod_queues (s : State) (f : Coh → Coh) : (cohMod s f).queues = s.queues := rfl
@[simp] theorem cohMod_cmdStat (s : State) (f : Coh → Coh) : (cohMod s f).cmdStat = s.cmdStat := rfl
@[simp] theorem cohMod_cmdBusy (s : State) (f : Coh → Coh) : (cohMod s f).cmdBusy = s.cmdBusy := rfl
@[simp] theorem cohMod_bindErr (s : State) (f : Coh → Coh) : (cohMod s f).bindErr = s.bindErr := rfl
@[simp] theorem cohMod_ctxBase (s : State) (f : Coh → Coh) : (cohMod s f).ctxBase = s.ctxBase := rfl
@[simp] theorem cohMod_batons (s : State) (f : Coh → Coh) : (cohMod s f).batons = s.batons := rfl
@[simp] theorem cohMod_groups (s : State) (f : Coh → Coh) : (cohMod s f).groups = s.groups := rfl
@[simp] theorem cohMod_slots (s : State) (f : Coh → Coh) : (cohMod s f).slots = s.slots := rfl
@[simp] theorem cohMod_tb (s : State) (f : Coh → Coh) : (cohMod s f).tb = s.tb := rfl
@[simp] theorem cohMod_ecl (s : State) (f : Coh → Coh) : (cohMod s f).ecl = s.ecl := rfl
@[simp] theorem cohMod_stu (s : State) (f : Coh → Coh) : (cohMod s f).stu = s.stu := rfl
@[simp] theorem cohMod_mem (s : State) (f : Coh → Coh) : (cohMod s f).mem = s.mem := rfl
@[simp] theorem cohMod_mds (s : State) (f : Coh → Coh) : (cohMod s f).mds = s.mds := rfl
@[simp] theorem cohMod_l2maint (s : State) (f : Coh → Coh) : (cohMod s f).l2maint = s.l2maint := rfl
@[simp] theorem cohMod_coh (s : State) (f : Coh → Coh) : (cohMod s f).coh = f s.coh := rfl
@[simp] theorem cohMod_ports (s : State) (f : Coh → Coh) : (cohMod s f).ports = s.ports := rfl
@[simp] theorem cohMod_chips (s : State) (f : Coh → Coh) : (cohMod s f).chips = s.chips := rfl
@[simp] theorem cohMod_rqs (s : State) (f : Coh → Coh) : (cohMod s f).rqs = s.rqs := rfl
@[simp] theorem cohMod_cores (s : State) (f : Coh → Coh) : (cohMod s f).cores = s.cores := rfl
@[simp] theorem cohMod_mtime (s : State) (f : Coh → Coh) : (cohMod s f).mtime = s.mtime := rfl
@[simp] theorem cohMod_pcie (s : State) (f : Coh → Coh) : (cohMod s f).pcie = s.pcie := rfl
@[simp] theorem cohMod_sc (s : State) (f : Coh → Coh) : (cohMod s f).sc = s.sc := rfl
@[simp] theorem cohMod_pwr (s : State) (f : Coh → Coh) : (cohMod s f).pwr = s.pwr := rfl
@[simp] theorem cohMod_cla (s : State) (f : Coh → Coh) : (cohMod s f).cla = s.cla := rfl
@[simp] theorem cohMod_sec (s : State) (f : Coh → Coh) : (cohMod s f).sec = s.sec := rfl
@[simp] theorem cohMod_routes (s : State) (f : Coh → Coh) : (cohMod s f).routes = s.routes := rfl

@[simp] theorem tbMod_pending (s : State) (f : TimeBase → TimeBase) : (tbMod f s).pending = s.pending := rfl
@[simp] theorem tbMod_fresh (s : State) (f : TimeBase → TimeBase) : (tbMod f s).fresh = s.fresh := rfl
@[simp] theorem tbMod_out (s : State) (f : TimeBase → TimeBase) : (tbMod f s).out = s.out := rfl
@[simp] theorem tbMod_boot (s : State) (f : TimeBase → TimeBase) : (tbMod f s).boot = s.boot := rfl
@[simp] theorem tbMod_fuse (s : State) (f : TimeBase → TimeBase) : (tbMod f s).fuse = s.fuse := rfl
@[simp] theorem tbMod_flash (s : State) (f : TimeBase → TimeBase) : (tbMod f s).flash = s.flash := rfl
@[simp] theorem tbMod_faults (s : State) (f : TimeBase → TimeBase) : (tbMod f s).faults = s.faults := rfl
@[simp] theorem tbMod_present (s : State) (f : TimeBase → TimeBase) : (tbMod f s).present = s.present := rfl
@[simp] theorem tbMod_links (s : State) (f : TimeBase → TimeBase) : (tbMod f s).links = s.links := rfl
@[simp] theorem tbMod_alt (s : State) (f : TimeBase → TimeBase) : (tbMod f s).alt = s.alt := rfl
@[simp] theorem tbMod_pendAlt (s : State) (f : TimeBase → TimeBase) : (tbMod f s).pendAlt = s.pendAlt := rfl
@[simp] theorem tbMod_obj (s : State) (f : TimeBase → TimeBase) : (tbMod f s).obj = s.obj := rfl
@[simp] theorem tbMod_oct (s : State) (f : TimeBase → TimeBase) : (tbMod f s).oct = s.oct := rfl
@[simp] theorem tbMod_regs (s : State) (f : TimeBase → TimeBase) : (tbMod f s).regs = s.regs := rfl
@[simp] theorem tbMod_tcs (s : State) (f : TimeBase → TimeBase) : (tbMod f s).tcs = s.tcs := rfl
@[simp] theorem tbMod_items (s : State) (f : TimeBase → TimeBase) : (tbMod f s).items = s.items := rfl
@[simp] theorem tbMod_nextAcc (s : State) (f : TimeBase → TimeBase) : (tbMod f s).nextAcc = s.nextAcc := rfl
@[simp] theorem tbMod_rr (s : State) (f : TimeBase → TimeBase) : (tbMod f s).rr = s.rr := rfl
@[simp] theorem tbMod_ctxs (s : State) (f : TimeBase → TimeBase) : (tbMod f s).ctxs = s.ctxs := rfl
@[simp] theorem tbMod_queues (s : State) (f : TimeBase → TimeBase) : (tbMod f s).queues = s.queues := rfl
@[simp] theorem tbMod_cmdStat (s : State) (f : TimeBase → TimeBase) : (tbMod f s).cmdStat = s.cmdStat := rfl
@[simp] theorem tbMod_cmdBusy (s : State) (f : TimeBase → TimeBase) : (tbMod f s).cmdBusy = s.cmdBusy := rfl
@[simp] theorem tbMod_bindErr (s : State) (f : TimeBase → TimeBase) : (tbMod f s).bindErr = s.bindErr := rfl
@[simp] theorem tbMod_ctxBase (s : State) (f : TimeBase → TimeBase) : (tbMod f s).ctxBase = s.ctxBase := rfl
@[simp] theorem tbMod_batons (s : State) (f : TimeBase → TimeBase) : (tbMod f s).batons = s.batons := rfl
@[simp] theorem tbMod_groups (s : State) (f : TimeBase → TimeBase) : (tbMod f s).groups = s.groups := rfl
@[simp] theorem tbMod_slots (s : State) (f : TimeBase → TimeBase) : (tbMod f s).slots = s.slots := rfl
@[simp] theorem tbMod_tb (s : State) (f : TimeBase → TimeBase) : (tbMod f s).tb = f s.tb := rfl
@[simp] theorem tbMod_ecl (s : State) (f : TimeBase → TimeBase) : (tbMod f s).ecl = s.ecl := rfl
@[simp] theorem tbMod_stu (s : State) (f : TimeBase → TimeBase) : (tbMod f s).stu = s.stu := rfl
@[simp] theorem tbMod_mem (s : State) (f : TimeBase → TimeBase) : (tbMod f s).mem = s.mem := rfl
@[simp] theorem tbMod_mds (s : State) (f : TimeBase → TimeBase) : (tbMod f s).mds = s.mds := rfl
@[simp] theorem tbMod_l2maint (s : State) (f : TimeBase → TimeBase) : (tbMod f s).l2maint = s.l2maint := rfl
@[simp] theorem tbMod_coh (s : State) (f : TimeBase → TimeBase) : (tbMod f s).coh = s.coh := rfl
@[simp] theorem tbMod_ports (s : State) (f : TimeBase → TimeBase) : (tbMod f s).ports = s.ports := rfl
@[simp] theorem tbMod_chips (s : State) (f : TimeBase → TimeBase) : (tbMod f s).chips = s.chips := rfl
@[simp] theorem tbMod_rqs (s : State) (f : TimeBase → TimeBase) : (tbMod f s).rqs = s.rqs := rfl
@[simp] theorem tbMod_cores (s : State) (f : TimeBase → TimeBase) : (tbMod f s).cores = s.cores := rfl
@[simp] theorem tbMod_mtime (s : State) (f : TimeBase → TimeBase) : (tbMod f s).mtime = s.mtime := rfl
@[simp] theorem tbMod_pcie (s : State) (f : TimeBase → TimeBase) : (tbMod f s).pcie = s.pcie := rfl
@[simp] theorem tbMod_sc (s : State) (f : TimeBase → TimeBase) : (tbMod f s).sc = s.sc := rfl
@[simp] theorem tbMod_pwr (s : State) (f : TimeBase → TimeBase) : (tbMod f s).pwr = s.pwr := rfl
@[simp] theorem tbMod_cla (s : State) (f : TimeBase → TimeBase) : (tbMod f s).cla = s.cla := rfl
@[simp] theorem tbMod_sec (s : State) (f : TimeBase → TimeBase) : (tbMod f s).sec = s.sec := rfl
@[simp] theorem tbMod_routes (s : State) (f : TimeBase → TimeBase) : (tbMod f s).routes = s.routes := rfl

@[simp] theorem pwrMod_pending (s : State) (f : Power → Power) : (pwrMod f s).pending = s.pending := rfl
@[simp] theorem pwrMod_fresh (s : State) (f : Power → Power) : (pwrMod f s).fresh = s.fresh := rfl
@[simp] theorem pwrMod_out (s : State) (f : Power → Power) : (pwrMod f s).out = s.out := rfl
@[simp] theorem pwrMod_boot (s : State) (f : Power → Power) : (pwrMod f s).boot = s.boot := rfl
@[simp] theorem pwrMod_fuse (s : State) (f : Power → Power) : (pwrMod f s).fuse = s.fuse := rfl
@[simp] theorem pwrMod_flash (s : State) (f : Power → Power) : (pwrMod f s).flash = s.flash := rfl
@[simp] theorem pwrMod_faults (s : State) (f : Power → Power) : (pwrMod f s).faults = s.faults := rfl
@[simp] theorem pwrMod_present (s : State) (f : Power → Power) : (pwrMod f s).present = s.present := rfl
@[simp] theorem pwrMod_links (s : State) (f : Power → Power) : (pwrMod f s).links = s.links := rfl
@[simp] theorem pwrMod_alt (s : State) (f : Power → Power) : (pwrMod f s).alt = s.alt := rfl
@[simp] theorem pwrMod_pendAlt (s : State) (f : Power → Power) : (pwrMod f s).pendAlt = s.pendAlt := rfl
@[simp] theorem pwrMod_obj (s : State) (f : Power → Power) : (pwrMod f s).obj = s.obj := rfl
@[simp] theorem pwrMod_oct (s : State) (f : Power → Power) : (pwrMod f s).oct = s.oct := rfl
@[simp] theorem pwrMod_regs (s : State) (f : Power → Power) : (pwrMod f s).regs = s.regs := rfl
@[simp] theorem pwrMod_tcs (s : State) (f : Power → Power) : (pwrMod f s).tcs = s.tcs := rfl
@[simp] theorem pwrMod_items (s : State) (f : Power → Power) : (pwrMod f s).items = s.items := rfl
@[simp] theorem pwrMod_nextAcc (s : State) (f : Power → Power) : (pwrMod f s).nextAcc = s.nextAcc := rfl
@[simp] theorem pwrMod_rr (s : State) (f : Power → Power) : (pwrMod f s).rr = s.rr := rfl
@[simp] theorem pwrMod_ctxs (s : State) (f : Power → Power) : (pwrMod f s).ctxs = s.ctxs := rfl
@[simp] theorem pwrMod_queues (s : State) (f : Power → Power) : (pwrMod f s).queues = s.queues := rfl
@[simp] theorem pwrMod_cmdStat (s : State) (f : Power → Power) : (pwrMod f s).cmdStat = s.cmdStat := rfl
@[simp] theorem pwrMod_cmdBusy (s : State) (f : Power → Power) : (pwrMod f s).cmdBusy = s.cmdBusy := rfl
@[simp] theorem pwrMod_bindErr (s : State) (f : Power → Power) : (pwrMod f s).bindErr = s.bindErr := rfl
@[simp] theorem pwrMod_ctxBase (s : State) (f : Power → Power) : (pwrMod f s).ctxBase = s.ctxBase := rfl
@[simp] theorem pwrMod_batons (s : State) (f : Power → Power) : (pwrMod f s).batons = s.batons := rfl
@[simp] theorem pwrMod_groups (s : State) (f : Power → Power) : (pwrMod f s).groups = s.groups := rfl
@[simp] theorem pwrMod_slots (s : State) (f : Power → Power) : (pwrMod f s).slots = s.slots := rfl
@[simp] theorem pwrMod_tb (s : State) (f : Power → Power) : (pwrMod f s).tb = s.tb := rfl
@[simp] theorem pwrMod_ecl (s : State) (f : Power → Power) : (pwrMod f s).ecl = s.ecl := rfl
@[simp] theorem pwrMod_stu (s : State) (f : Power → Power) : (pwrMod f s).stu = s.stu := rfl
@[simp] theorem pwrMod_mem (s : State) (f : Power → Power) : (pwrMod f s).mem = s.mem := rfl
@[simp] theorem pwrMod_mds (s : State) (f : Power → Power) : (pwrMod f s).mds = s.mds := rfl
@[simp] theorem pwrMod_l2maint (s : State) (f : Power → Power) : (pwrMod f s).l2maint = s.l2maint := rfl
@[simp] theorem pwrMod_coh (s : State) (f : Power → Power) : (pwrMod f s).coh = s.coh := rfl
@[simp] theorem pwrMod_ports (s : State) (f : Power → Power) : (pwrMod f s).ports = s.ports := rfl
@[simp] theorem pwrMod_chips (s : State) (f : Power → Power) : (pwrMod f s).chips = s.chips := rfl
@[simp] theorem pwrMod_rqs (s : State) (f : Power → Power) : (pwrMod f s).rqs = s.rqs := rfl
@[simp] theorem pwrMod_cores (s : State) (f : Power → Power) : (pwrMod f s).cores = s.cores := rfl
@[simp] theorem pwrMod_mtime (s : State) (f : Power → Power) : (pwrMod f s).mtime = s.mtime := rfl
@[simp] theorem pwrMod_pcie (s : State) (f : Power → Power) : (pwrMod f s).pcie = s.pcie := rfl
@[simp] theorem pwrMod_sc (s : State) (f : Power → Power) : (pwrMod f s).sc = s.sc := rfl
@[simp] theorem pwrMod_pwr (s : State) (f : Power → Power) : (pwrMod f s).pwr = f s.pwr := rfl
@[simp] theorem pwrMod_cla (s : State) (f : Power → Power) : (pwrMod f s).cla = s.cla := rfl
@[simp] theorem pwrMod_sec (s : State) (f : Power → Power) : (pwrMod f s).sec = s.sec := rfl
@[simp] theorem pwrMod_routes (s : State) (f : Power → Power) : (pwrMod f s).routes = s.routes := rfl

@[simp] theorem secMod_pending (s : State) (f : Security → Security) : (secMod f s).pending = s.pending := rfl
@[simp] theorem secMod_fresh (s : State) (f : Security → Security) : (secMod f s).fresh = s.fresh := rfl
@[simp] theorem secMod_out (s : State) (f : Security → Security) : (secMod f s).out = s.out := rfl
@[simp] theorem secMod_boot (s : State) (f : Security → Security) : (secMod f s).boot = s.boot := rfl
@[simp] theorem secMod_fuse (s : State) (f : Security → Security) : (secMod f s).fuse = s.fuse := rfl
@[simp] theorem secMod_flash (s : State) (f : Security → Security) : (secMod f s).flash = s.flash := rfl
@[simp] theorem secMod_faults (s : State) (f : Security → Security) : (secMod f s).faults = s.faults := rfl
@[simp] theorem secMod_present (s : State) (f : Security → Security) : (secMod f s).present = s.present := rfl
@[simp] theorem secMod_links (s : State) (f : Security → Security) : (secMod f s).links = s.links := rfl
@[simp] theorem secMod_alt (s : State) (f : Security → Security) : (secMod f s).alt = s.alt := rfl
@[simp] theorem secMod_pendAlt (s : State) (f : Security → Security) : (secMod f s).pendAlt = s.pendAlt := rfl
@[simp] theorem secMod_obj (s : State) (f : Security → Security) : (secMod f s).obj = s.obj := rfl
@[simp] theorem secMod_oct (s : State) (f : Security → Security) : (secMod f s).oct = s.oct := rfl
@[simp] theorem secMod_regs (s : State) (f : Security → Security) : (secMod f s).regs = s.regs := rfl
@[simp] theorem secMod_tcs (s : State) (f : Security → Security) : (secMod f s).tcs = s.tcs := rfl
@[simp] theorem secMod_items (s : State) (f : Security → Security) : (secMod f s).items = s.items := rfl
@[simp] theorem secMod_nextAcc (s : State) (f : Security → Security) : (secMod f s).nextAcc = s.nextAcc := rfl
@[simp] theorem secMod_rr (s : State) (f : Security → Security) : (secMod f s).rr = s.rr := rfl
@[simp] theorem secMod_ctxs (s : State) (f : Security → Security) : (secMod f s).ctxs = s.ctxs := rfl
@[simp] theorem secMod_queues (s : State) (f : Security → Security) : (secMod f s).queues = s.queues := rfl
@[simp] theorem secMod_cmdStat (s : State) (f : Security → Security) : (secMod f s).cmdStat = s.cmdStat := rfl
@[simp] theorem secMod_cmdBusy (s : State) (f : Security → Security) : (secMod f s).cmdBusy = s.cmdBusy := rfl
@[simp] theorem secMod_bindErr (s : State) (f : Security → Security) : (secMod f s).bindErr = s.bindErr := rfl
@[simp] theorem secMod_ctxBase (s : State) (f : Security → Security) : (secMod f s).ctxBase = s.ctxBase := rfl
@[simp] theorem secMod_batons (s : State) (f : Security → Security) : (secMod f s).batons = s.batons := rfl
@[simp] theorem secMod_groups (s : State) (f : Security → Security) : (secMod f s).groups = s.groups := rfl
@[simp] theorem secMod_slots (s : State) (f : Security → Security) : (secMod f s).slots = s.slots := rfl
@[simp] theorem secMod_tb (s : State) (f : Security → Security) : (secMod f s).tb = s.tb := rfl
@[simp] theorem secMod_ecl (s : State) (f : Security → Security) : (secMod f s).ecl = s.ecl := rfl
@[simp] theorem secMod_stu (s : State) (f : Security → Security) : (secMod f s).stu = s.stu := rfl
@[simp] theorem secMod_mem (s : State) (f : Security → Security) : (secMod f s).mem = s.mem := rfl
@[simp] theorem secMod_mds (s : State) (f : Security → Security) : (secMod f s).mds = s.mds := rfl
@[simp] theorem secMod_l2maint (s : State) (f : Security → Security) : (secMod f s).l2maint = s.l2maint := rfl
@[simp] theorem secMod_coh (s : State) (f : Security → Security) : (secMod f s).coh = s.coh := rfl
@[simp] theorem secMod_ports (s : State) (f : Security → Security) : (secMod f s).ports = s.ports := rfl
@[simp] theorem secMod_chips (s : State) (f : Security → Security) : (secMod f s).chips = s.chips := rfl
@[simp] theorem secMod_rqs (s : State) (f : Security → Security) : (secMod f s).rqs = s.rqs := rfl
@[simp] theorem secMod_cores (s : State) (f : Security → Security) : (secMod f s).cores = s.cores := rfl
@[simp] theorem secMod_mtime (s : State) (f : Security → Security) : (secMod f s).mtime = s.mtime := rfl
@[simp] theorem secMod_pcie (s : State) (f : Security → Security) : (secMod f s).pcie = s.pcie := rfl
@[simp] theorem secMod_sc (s : State) (f : Security → Security) : (secMod f s).sc = s.sc := rfl
@[simp] theorem secMod_pwr (s : State) (f : Security → Security) : (secMod f s).pwr = s.pwr := rfl
@[simp] theorem secMod_cla (s : State) (f : Security → Security) : (secMod f s).cla = s.cla := rfl
@[simp] theorem secMod_sec (s : State) (f : Security → Security) : (secMod f s).sec = f s.sec := rfl
@[simp] theorem secMod_routes (s : State) (f : Security → Security) : (secMod f s).routes = s.routes := rfl

@[simp] theorem claMod_pending (s : State) (f : Claryn → Claryn) : (claMod f s).pending = s.pending := rfl
@[simp] theorem claMod_fresh (s : State) (f : Claryn → Claryn) : (claMod f s).fresh = s.fresh := rfl
@[simp] theorem claMod_out (s : State) (f : Claryn → Claryn) : (claMod f s).out = s.out := rfl
@[simp] theorem claMod_boot (s : State) (f : Claryn → Claryn) : (claMod f s).boot = s.boot := rfl
@[simp] theorem claMod_fuse (s : State) (f : Claryn → Claryn) : (claMod f s).fuse = s.fuse := rfl
@[simp] theorem claMod_flash (s : State) (f : Claryn → Claryn) : (claMod f s).flash = s.flash := rfl
@[simp] theorem claMod_faults (s : State) (f : Claryn → Claryn) : (claMod f s).faults = s.faults := rfl
@[simp] theorem claMod_present (s : State) (f : Claryn → Claryn) : (claMod f s).present = s.present := rfl
@[simp] theorem claMod_links (s : State) (f : Claryn → Claryn) : (claMod f s).links = s.links := rfl
@[simp] theorem claMod_alt (s : State) (f : Claryn → Claryn) : (claMod f s).alt = s.alt := rfl
@[simp] theorem claMod_pendAlt (s : State) (f : Claryn → Claryn) : (claMod f s).pendAlt = s.pendAlt := rfl
@[simp] theorem claMod_obj (s : State) (f : Claryn → Claryn) : (claMod f s).obj = s.obj := rfl
@[simp] theorem claMod_oct (s : State) (f : Claryn → Claryn) : (claMod f s).oct = s.oct := rfl
@[simp] theorem claMod_regs (s : State) (f : Claryn → Claryn) : (claMod f s).regs = s.regs := rfl
@[simp] theorem claMod_tcs (s : State) (f : Claryn → Claryn) : (claMod f s).tcs = s.tcs := rfl
@[simp] theorem claMod_items (s : State) (f : Claryn → Claryn) : (claMod f s).items = s.items := rfl
@[simp] theorem claMod_nextAcc (s : State) (f : Claryn → Claryn) : (claMod f s).nextAcc = s.nextAcc := rfl
@[simp] theorem claMod_rr (s : State) (f : Claryn → Claryn) : (claMod f s).rr = s.rr := rfl
@[simp] theorem claMod_ctxs (s : State) (f : Claryn → Claryn) : (claMod f s).ctxs = s.ctxs := rfl
@[simp] theorem claMod_queues (s : State) (f : Claryn → Claryn) : (claMod f s).queues = s.queues := rfl
@[simp] theorem claMod_cmdStat (s : State) (f : Claryn → Claryn) : (claMod f s).cmdStat = s.cmdStat := rfl
@[simp] theorem claMod_cmdBusy (s : State) (f : Claryn → Claryn) : (claMod f s).cmdBusy = s.cmdBusy := rfl
@[simp] theorem claMod_bindErr (s : State) (f : Claryn → Claryn) : (claMod f s).bindErr = s.bindErr := rfl
@[simp] theorem claMod_ctxBase (s : State) (f : Claryn → Claryn) : (claMod f s).ctxBase = s.ctxBase := rfl
@[simp] theorem claMod_batons (s : State) (f : Claryn → Claryn) : (claMod f s).batons = s.batons := rfl
@[simp] theorem claMod_groups (s : State) (f : Claryn → Claryn) : (claMod f s).groups = s.groups := rfl
@[simp] theorem claMod_slots (s : State) (f : Claryn → Claryn) : (claMod f s).slots = s.slots := rfl
@[simp] theorem claMod_tb (s : State) (f : Claryn → Claryn) : (claMod f s).tb = s.tb := rfl
@[simp] theorem claMod_ecl (s : State) (f : Claryn → Claryn) : (claMod f s).ecl = s.ecl := rfl
@[simp] theorem claMod_stu (s : State) (f : Claryn → Claryn) : (claMod f s).stu = s.stu := rfl
@[simp] theorem claMod_mem (s : State) (f : Claryn → Claryn) : (claMod f s).mem = s.mem := rfl
@[simp] theorem claMod_mds (s : State) (f : Claryn → Claryn) : (claMod f s).mds = s.mds := rfl
@[simp] theorem claMod_l2maint (s : State) (f : Claryn → Claryn) : (claMod f s).l2maint = s.l2maint := rfl
@[simp] theorem claMod_coh (s : State) (f : Claryn → Claryn) : (claMod f s).coh = s.coh := rfl
@[simp] theorem claMod_ports (s : State) (f : Claryn → Claryn) : (claMod f s).ports = s.ports := rfl
@[simp] theorem claMod_chips (s : State) (f : Claryn → Claryn) : (claMod f s).chips = s.chips := rfl
@[simp] theorem claMod_rqs (s : State) (f : Claryn → Claryn) : (claMod f s).rqs = s.rqs := rfl
@[simp] theorem claMod_cores (s : State) (f : Claryn → Claryn) : (claMod f s).cores = s.cores := rfl
@[simp] theorem claMod_mtime (s : State) (f : Claryn → Claryn) : (claMod f s).mtime = s.mtime := rfl
@[simp] theorem claMod_pcie (s : State) (f : Claryn → Claryn) : (claMod f s).pcie = s.pcie := rfl
@[simp] theorem claMod_sc (s : State) (f : Claryn → Claryn) : (claMod f s).sc = s.sc := rfl
@[simp] theorem claMod_pwr (s : State) (f : Claryn → Claryn) : (claMod f s).pwr = s.pwr := rfl
@[simp] theorem claMod_cla (s : State) (f : Claryn → Claryn) : (claMod f s).cla = f s.cla := rfl
@[simp] theorem claMod_sec (s : State) (f : Claryn → Claryn) : (claMod f s).sec = s.sec := rfl
@[simp] theorem claMod_routes (s : State) (f : Claryn → Claryn) : (claMod f s).routes = s.routes := rfl

@[simp] theorem pendSet_pending (s : State) (l : List Pend) : (pendSet l s).pending = s.pending := rfl
@[simp] theorem pendSet_fresh (s : State) (l : List Pend) : (pendSet l s).fresh = s.fresh := rfl
@[simp] theorem pendSet_out (s : State) (l : List Pend) : (pendSet l s).out = s.out := rfl
@[simp] theorem pendSet_boot (s : State) (l : List Pend) : (pendSet l s).boot = s.boot := rfl
@[simp] theorem pendSet_fuse (s : State) (l : List Pend) : (pendSet l s).fuse = s.fuse := rfl
@[simp] theorem pendSet_flash (s : State) (l : List Pend) : (pendSet l s).flash = s.flash := rfl
@[simp] theorem pendSet_faults (s : State) (l : List Pend) : (pendSet l s).faults = s.faults := rfl
@[simp] theorem pendSet_present (s : State) (l : List Pend) : (pendSet l s).present = s.present := rfl
@[simp] theorem pendSet_links (s : State) (l : List Pend) : (pendSet l s).links = s.links := rfl
@[simp] theorem pendSet_alt (s : State) (l : List Pend) : (pendSet l s).alt = s.alt := rfl
@[simp] theorem pendSet_pendAlt (s : State) (l : List Pend) : (pendSet l s).pendAlt = s.pendAlt := rfl
@[simp] theorem pendSet_obj (s : State) (l : List Pend) : (pendSet l s).obj = s.obj := rfl
@[simp] theorem pendSet_oct (s : State) (l : List Pend) : (pendSet l s).oct = s.oct := rfl
@[simp] theorem pendSet_regs (s : State) (l : List Pend) : (pendSet l s).regs = s.regs := rfl
@[simp] theorem pendSet_tcs (s : State) (l : List Pend) : (pendSet l s).tcs = s.tcs := rfl
@[simp] theorem pendSet_items (s : State) (l : List Pend) : (pendSet l s).items = s.items := rfl
@[simp] theorem pendSet_nextAcc (s : State) (l : List Pend) : (pendSet l s).nextAcc = s.nextAcc := rfl
@[simp] theorem pendSet_rr (s : State) (l : List Pend) : (pendSet l s).rr = s.rr := rfl
@[simp] theorem pendSet_ctxs (s : State) (l : List Pend) : (pendSet l s).ctxs = s.ctxs := rfl
@[simp] theorem pendSet_queues (s : State) (l : List Pend) : (pendSet l s).queues = s.queues := rfl
@[simp] theorem pendSet_cmdStat (s : State) (l : List Pend) : (pendSet l s).cmdStat = s.cmdStat := rfl
@[simp] theorem pendSet_cmdBusy (s : State) (l : List Pend) : (pendSet l s).cmdBusy = s.cmdBusy := rfl
@[simp] theorem pendSet_bindErr (s : State) (l : List Pend) : (pendSet l s).bindErr = s.bindErr := rfl
@[simp] theorem pendSet_ctxBase (s : State) (l : List Pend) : (pendSet l s).ctxBase = s.ctxBase := rfl
@[simp] theorem pendSet_batons (s : State) (l : List Pend) : (pendSet l s).batons = s.batons := rfl
@[simp] theorem pendSet_groups (s : State) (l : List Pend) : (pendSet l s).groups = s.groups := rfl
@[simp] theorem pendSet_slots (s : State) (l : List Pend) : (pendSet l s).slots = s.slots := rfl
@[simp] theorem pendSet_tb (s : State) (l : List Pend) : (pendSet l s).tb = s.tb := rfl
@[simp] theorem pendSet_ecl (s : State) (l : List Pend) : (pendSet l s).ecl = s.ecl := rfl
@[simp] theorem pendSet_stu (s : State) (l : List Pend) : (pendSet l s).stu = s.stu := rfl
@[simp] theorem pendSet_mem (s : State) (l : List Pend) : (pendSet l s).mem = s.mem := rfl
@[simp] theorem pendSet_mds (s : State) (l : List Pend) : (pendSet l s).mds = s.mds := rfl
@[simp] theorem pendSet_l2maint (s : State) (l : List Pend) : (pendSet l s).l2maint = s.l2maint := rfl
@[simp] theorem pendSet_coh (s : State) (l : List Pend) : (pendSet l s).coh = s.coh := rfl
@[simp] theorem pendSet_ports (s : State) (l : List Pend) : (pendSet l s).ports = s.ports := rfl
@[simp] theorem pendSet_chips (s : State) (l : List Pend) : (pendSet l s).chips = { s.chips with pend := l } := rfl
@[simp] theorem pendSet_rqs (s : State) (l : List Pend) : (pendSet l s).rqs = s.rqs := rfl
@[simp] theorem pendSet_cores (s : State) (l : List Pend) : (pendSet l s).cores = s.cores := rfl
@[simp] theorem pendSet_mtime (s : State) (l : List Pend) : (pendSet l s).mtime = s.mtime := rfl
@[simp] theorem pendSet_pcie (s : State) (l : List Pend) : (pendSet l s).pcie = s.pcie := rfl
@[simp] theorem pendSet_sc (s : State) (l : List Pend) : (pendSet l s).sc = s.sc := rfl
@[simp] theorem pendSet_pwr (s : State) (l : List Pend) : (pendSet l s).pwr = s.pwr := rfl
@[simp] theorem pendSet_cla (s : State) (l : List Pend) : (pendSet l s).cla = s.cla := rfl
@[simp] theorem pendSet_sec (s : State) (l : List Pend) : (pendSet l s).sec = s.sec := rfl
@[simp] theorem pendSet_routes (s : State) (l : List Pend) : (pendSet l s).routes = s.routes := rfl

@[simp] theorem l2Put_pending (s : State) (u : MaintUnit) (m : Maint) : (l2Put u m s).pending = s.pending := rfl
@[simp] theorem l2Put_fresh (s : State) (u : MaintUnit) (m : Maint) : (l2Put u m s).fresh = s.fresh := rfl
@[simp] theorem l2Put_out (s : State) (u : MaintUnit) (m : Maint) : (l2Put u m s).out = s.out := rfl
@[simp] theorem l2Put_boot (s : State) (u : MaintUnit) (m : Maint) : (l2Put u m s).boot = s.boot := rfl
@[simp] theorem l2Put_fuse (s : State) (u : MaintUnit) (m : Maint) : (l2Put u m s).fuse = s.fuse := rfl
@[simp] theorem l2Put_flash (s : State) (u : MaintUnit) (m : Maint) : (l2Put u m s).flash = s.flash := rfl
@[simp] theorem l2Put_faults (s : State) (u : MaintUnit) (m : Maint) : (l2Put u m s).faults = s.faults := rfl
@[simp] theorem l2Put_present (s : State) (u : MaintUnit) (m : Maint) : (l2Put u m s).present = s.present := rfl
@[simp] theorem l2Put_links (s : State) (u : MaintUnit) (m : Maint) : (l2Put u m s).links = s.links := rfl
@[simp] theorem l2Put_alt (s : State) (u : MaintUnit) (m : Maint) : (l2Put u m s).alt = s.alt := rfl
@[simp] theorem l2Put_pendAlt (s : State) (u : MaintUnit) (m : Maint) : (l2Put u m s).pendAlt = s.pendAlt := rfl
@[simp] theorem l2Put_obj (s : State) (u : MaintUnit) (m : Maint) : (l2Put u m s).obj = s.obj := rfl
@[simp] theorem l2Put_oct (s : State) (u : MaintUnit) (m : Maint) : (l2Put u m s).oct = s.oct := rfl
@[simp] theorem l2Put_regs (s : State) (u : MaintUnit) (m : Maint) : (l2Put u m s).regs = s.regs := rfl
@[simp] theorem l2Put_tcs (s : State) (u : MaintUnit) (m : Maint) : (l2Put u m s).tcs = s.tcs := rfl
@[simp] theorem l2Put_items (s : State) (u : MaintUnit) (m : Maint) : (l2Put u m s).items = s.items := rfl
@[simp] theorem l2Put_nextAcc (s : State) (u : MaintUnit) (m : Maint) : (l2Put u m s).nextAcc = s.nextAcc := rfl
@[simp] theorem l2Put_rr (s : State) (u : MaintUnit) (m : Maint) : (l2Put u m s).rr = s.rr := rfl
@[simp] theorem l2Put_ctxs (s : State) (u : MaintUnit) (m : Maint) : (l2Put u m s).ctxs = s.ctxs := rfl
@[simp] theorem l2Put_queues (s : State) (u : MaintUnit) (m : Maint) : (l2Put u m s).queues = s.queues := rfl
@[simp] theorem l2Put_cmdStat (s : State) (u : MaintUnit) (m : Maint) : (l2Put u m s).cmdStat = s.cmdStat := rfl
@[simp] theorem l2Put_cmdBusy (s : State) (u : MaintUnit) (m : Maint) : (l2Put u m s).cmdBusy = s.cmdBusy := rfl
@[simp] theorem l2Put_bindErr (s : State) (u : MaintUnit) (m : Maint) : (l2Put u m s).bindErr = s.bindErr := rfl
@[simp] theorem l2Put_ctxBase (s : State) (u : MaintUnit) (m : Maint) : (l2Put u m s).ctxBase = s.ctxBase := rfl
@[simp] theorem l2Put_batons (s : State) (u : MaintUnit) (m : Maint) : (l2Put u m s).batons = s.batons := rfl
@[simp] theorem l2Put_groups (s : State) (u : MaintUnit) (m : Maint) : (l2Put u m s).groups = s.groups := rfl
@[simp] theorem l2Put_slots (s : State) (u : MaintUnit) (m : Maint) : (l2Put u m s).slots = s.slots := rfl
@[simp] theorem l2Put_tb (s : State) (u : MaintUnit) (m : Maint) : (l2Put u m s).tb = s.tb := rfl
@[simp] theorem l2Put_ecl (s : State) (u : MaintUnit) (m : Maint) : (l2Put u m s).ecl = s.ecl := rfl
@[simp] theorem l2Put_stu (s : State) (u : MaintUnit) (m : Maint) : (l2Put u m s).stu = s.stu := rfl
@[simp] theorem l2Put_mem (s : State) (u : MaintUnit) (m : Maint) : (l2Put u m s).mem = s.mem := rfl
@[simp] theorem l2Put_mds (s : State) (u : MaintUnit) (m : Maint) : (l2Put u m s).mds = s.mds := rfl
@[simp] theorem l2Put_l2maint (s : State) (u : MaintUnit) (m : Maint) : (l2Put u m s).l2maint = tset {} s.l2maint (l2Key u) m := rfl
@[simp] theorem l2Put_coh (s : State) (u : MaintUnit) (m : Maint) : (l2Put u m s).coh = s.coh := rfl
@[simp] theorem l2Put_ports (s : State) (u : MaintUnit) (m : Maint) : (l2Put u m s).ports = s.ports := rfl
@[simp] theorem l2Put_chips (s : State) (u : MaintUnit) (m : Maint) : (l2Put u m s).chips = s.chips := rfl
@[simp] theorem l2Put_rqs (s : State) (u : MaintUnit) (m : Maint) : (l2Put u m s).rqs = s.rqs := rfl
@[simp] theorem l2Put_cores (s : State) (u : MaintUnit) (m : Maint) : (l2Put u m s).cores = s.cores := rfl
@[simp] theorem l2Put_mtime (s : State) (u : MaintUnit) (m : Maint) : (l2Put u m s).mtime = s.mtime := rfl
@[simp] theorem l2Put_pcie (s : State) (u : MaintUnit) (m : Maint) : (l2Put u m s).pcie = s.pcie := rfl
@[simp] theorem l2Put_sc (s : State) (u : MaintUnit) (m : Maint) : (l2Put u m s).sc = s.sc := rfl
@[simp] theorem l2Put_pwr (s : State) (u : MaintUnit) (m : Maint) : (l2Put u m s).pwr = s.pwr := rfl
@[simp] theorem l2Put_cla (s : State) (u : MaintUnit) (m : Maint) : (l2Put u m s).cla = s.cla := rfl
@[simp] theorem l2Put_sec (s : State) (u : MaintUnit) (m : Maint) : (l2Put u m s).sec = s.sec := rfl
@[simp] theorem l2Put_routes (s : State) (u : MaintUnit) (m : Maint) : (l2Put u m s).routes = s.routes := rfl

@[simp] theorem acMod_pending (s : State) (n : Nat) (f : Core → Core) : (acMod n f s).pending = s.pending := rfl
@[simp] theorem acMod_fresh (s : State) (n : Nat) (f : Core → Core) : (acMod n f s).fresh = s.fresh := rfl
@[simp] theorem acMod_out (s : State) (n : Nat) (f : Core → Core) : (acMod n f s).out = s.out := rfl
@[simp] theorem acMod_boot (s : State) (n : Nat) (f : Core → Core) : (acMod n f s).boot = s.boot := rfl
@[simp] theorem acMod_fuse (s : State) (n : Nat) (f : Core → Core) : (acMod n f s).fuse = s.fuse := rfl
@[simp] theorem acMod_flash (s : State) (n : Nat) (f : Core → Core) : (acMod n f s).flash = s.flash := rfl
@[simp] theorem acMod_faults (s : State) (n : Nat) (f : Core → Core) : (acMod n f s).faults = s.faults := rfl
@[simp] theorem acMod_present (s : State) (n : Nat) (f : Core → Core) : (acMod n f s).present = s.present := rfl
@[simp] theorem acMod_links (s : State) (n : Nat) (f : Core → Core) : (acMod n f s).links = s.links := rfl
@[simp] theorem acMod_alt (s : State) (n : Nat) (f : Core → Core) : (acMod n f s).alt = s.alt := rfl
@[simp] theorem acMod_pendAlt (s : State) (n : Nat) (f : Core → Core) : (acMod n f s).pendAlt = s.pendAlt := rfl
@[simp] theorem acMod_obj (s : State) (n : Nat) (f : Core → Core) : (acMod n f s).obj = s.obj := rfl
@[simp] theorem acMod_oct (s : State) (n : Nat) (f : Core → Core) : (acMod n f s).oct = s.oct := rfl
@[simp] theorem acMod_regs (s : State) (n : Nat) (f : Core → Core) : (acMod n f s).regs = s.regs := rfl
@[simp] theorem acMod_tcs (s : State) (n : Nat) (f : Core → Core) : (acMod n f s).tcs = s.tcs := rfl
@[simp] theorem acMod_items (s : State) (n : Nat) (f : Core → Core) : (acMod n f s).items = s.items := rfl
@[simp] theorem acMod_nextAcc (s : State) (n : Nat) (f : Core → Core) : (acMod n f s).nextAcc = s.nextAcc := rfl
@[simp] theorem acMod_rr (s : State) (n : Nat) (f : Core → Core) : (acMod n f s).rr = s.rr := rfl
@[simp] theorem acMod_ctxs (s : State) (n : Nat) (f : Core → Core) : (acMod n f s).ctxs = s.ctxs := rfl
@[simp] theorem acMod_queues (s : State) (n : Nat) (f : Core → Core) : (acMod n f s).queues = s.queues := rfl
@[simp] theorem acMod_cmdStat (s : State) (n : Nat) (f : Core → Core) : (acMod n f s).cmdStat = s.cmdStat := rfl
@[simp] theorem acMod_cmdBusy (s : State) (n : Nat) (f : Core → Core) : (acMod n f s).cmdBusy = s.cmdBusy := rfl
@[simp] theorem acMod_bindErr (s : State) (n : Nat) (f : Core → Core) : (acMod n f s).bindErr = s.bindErr := rfl
@[simp] theorem acMod_ctxBase (s : State) (n : Nat) (f : Core → Core) : (acMod n f s).ctxBase = s.ctxBase := rfl
@[simp] theorem acMod_batons (s : State) (n : Nat) (f : Core → Core) : (acMod n f s).batons = s.batons := rfl
@[simp] theorem acMod_groups (s : State) (n : Nat) (f : Core → Core) : (acMod n f s).groups = s.groups := rfl
@[simp] theorem acMod_slots (s : State) (n : Nat) (f : Core → Core) : (acMod n f s).slots = s.slots := rfl
@[simp] theorem acMod_tb (s : State) (n : Nat) (f : Core → Core) : (acMod n f s).tb = s.tb := rfl
@[simp] theorem acMod_ecl (s : State) (n : Nat) (f : Core → Core) : (acMod n f s).ecl = s.ecl := rfl
@[simp] theorem acMod_stu (s : State) (n : Nat) (f : Core → Core) : (acMod n f s).stu = s.stu := rfl
@[simp] theorem acMod_mem (s : State) (n : Nat) (f : Core → Core) : (acMod n f s).mem = s.mem := rfl
@[simp] theorem acMod_mds (s : State) (n : Nat) (f : Core → Core) : (acMod n f s).mds = s.mds := rfl
@[simp] theorem acMod_l2maint (s : State) (n : Nat) (f : Core → Core) : (acMod n f s).l2maint = s.l2maint := rfl
@[simp] theorem acMod_coh (s : State) (n : Nat) (f : Core → Core) : (acMod n f s).coh = s.coh := rfl
@[simp] theorem acMod_ports (s : State) (n : Nat) (f : Core → Core) : (acMod n f s).ports = s.ports := rfl
@[simp] theorem acMod_chips (s : State) (n : Nat) (f : Core → Core) : (acMod n f s).chips = s.chips := rfl
@[simp] theorem acMod_rqs (s : State) (n : Nat) (f : Core → Core) : (acMod n f s).rqs = s.rqs := rfl
@[simp] theorem acMod_cores (s : State) (n : Nat) (f : Core → Core) : (acMod n f s).cores = tset {} s.cores n (f (coreAt s n)) := rfl
@[simp] theorem acMod_mtime (s : State) (n : Nat) (f : Core → Core) : (acMod n f s).mtime = s.mtime := rfl
@[simp] theorem acMod_pcie (s : State) (n : Nat) (f : Core → Core) : (acMod n f s).pcie = s.pcie := rfl
@[simp] theorem acMod_sc (s : State) (n : Nat) (f : Core → Core) : (acMod n f s).sc = s.sc := rfl
@[simp] theorem acMod_pwr (s : State) (n : Nat) (f : Core → Core) : (acMod n f s).pwr = s.pwr := rfl
@[simp] theorem acMod_cla (s : State) (n : Nat) (f : Core → Core) : (acMod n f s).cla = s.cla := rfl
@[simp] theorem acMod_sec (s : State) (n : Nat) (f : Core → Core) : (acMod n f s).sec = s.sec := rfl
@[simp] theorem acMod_routes (s : State) (n : Nat) (f : Core → Core) : (acMod n f s).routes = s.routes := rfl

@[simp] theorem portMod_pending (s : State) (n : Nat) (f : Port → Port) : (portMod n f s).pending = s.pending := rfl
@[simp] theorem portMod_fresh (s : State) (n : Nat) (f : Port → Port) : (portMod n f s).fresh = s.fresh := rfl
@[simp] theorem portMod_out (s : State) (n : Nat) (f : Port → Port) : (portMod n f s).out = s.out := rfl
@[simp] theorem portMod_boot (s : State) (n : Nat) (f : Port → Port) : (portMod n f s).boot = s.boot := rfl
@[simp] theorem portMod_fuse (s : State) (n : Nat) (f : Port → Port) : (portMod n f s).fuse = s.fuse := rfl
@[simp] theorem portMod_flash (s : State) (n : Nat) (f : Port → Port) : (portMod n f s).flash = s.flash := rfl
@[simp] theorem portMod_faults (s : State) (n : Nat) (f : Port → Port) : (portMod n f s).faults = s.faults := rfl
@[simp] theorem portMod_present (s : State) (n : Nat) (f : Port → Port) : (portMod n f s).present = s.present := rfl
@[simp] theorem portMod_links (s : State) (n : Nat) (f : Port → Port) : (portMod n f s).links = s.links := rfl
@[simp] theorem portMod_alt (s : State) (n : Nat) (f : Port → Port) : (portMod n f s).alt = s.alt := rfl
@[simp] theorem portMod_pendAlt (s : State) (n : Nat) (f : Port → Port) : (portMod n f s).pendAlt = s.pendAlt := rfl
@[simp] theorem portMod_obj (s : State) (n : Nat) (f : Port → Port) : (portMod n f s).obj = s.obj := rfl
@[simp] theorem portMod_oct (s : State) (n : Nat) (f : Port → Port) : (portMod n f s).oct = s.oct := rfl
@[simp] theorem portMod_regs (s : State) (n : Nat) (f : Port → Port) : (portMod n f s).regs = s.regs := rfl
@[simp] theorem portMod_tcs (s : State) (n : Nat) (f : Port → Port) : (portMod n f s).tcs = s.tcs := rfl
@[simp] theorem portMod_items (s : State) (n : Nat) (f : Port → Port) : (portMod n f s).items = s.items := rfl
@[simp] theorem portMod_nextAcc (s : State) (n : Nat) (f : Port → Port) : (portMod n f s).nextAcc = s.nextAcc := rfl
@[simp] theorem portMod_rr (s : State) (n : Nat) (f : Port → Port) : (portMod n f s).rr = s.rr := rfl
@[simp] theorem portMod_ctxs (s : State) (n : Nat) (f : Port → Port) : (portMod n f s).ctxs = s.ctxs := rfl
@[simp] theorem portMod_queues (s : State) (n : Nat) (f : Port → Port) : (portMod n f s).queues = s.queues := rfl
@[simp] theorem portMod_cmdStat (s : State) (n : Nat) (f : Port → Port) : (portMod n f s).cmdStat = s.cmdStat := rfl
@[simp] theorem portMod_cmdBusy (s : State) (n : Nat) (f : Port → Port) : (portMod n f s).cmdBusy = s.cmdBusy := rfl
@[simp] theorem portMod_bindErr (s : State) (n : Nat) (f : Port → Port) : (portMod n f s).bindErr = s.bindErr := rfl
@[simp] theorem portMod_ctxBase (s : State) (n : Nat) (f : Port → Port) : (portMod n f s).ctxBase = s.ctxBase := rfl
@[simp] theorem portMod_batons (s : State) (n : Nat) (f : Port → Port) : (portMod n f s).batons = s.batons := rfl
@[simp] theorem portMod_groups (s : State) (n : Nat) (f : Port → Port) : (portMod n f s).groups = s.groups := rfl
@[simp] theorem portMod_slots (s : State) (n : Nat) (f : Port → Port) : (portMod n f s).slots = s.slots := rfl
@[simp] theorem portMod_tb (s : State) (n : Nat) (f : Port → Port) : (portMod n f s).tb = s.tb := rfl
@[simp] theorem portMod_ecl (s : State) (n : Nat) (f : Port → Port) : (portMod n f s).ecl = s.ecl := rfl
@[simp] theorem portMod_stu (s : State) (n : Nat) (f : Port → Port) : (portMod n f s).stu = s.stu := rfl
@[simp] theorem portMod_mem (s : State) (n : Nat) (f : Port → Port) : (portMod n f s).mem = s.mem := rfl
@[simp] theorem portMod_mds (s : State) (n : Nat) (f : Port → Port) : (portMod n f s).mds = s.mds := rfl
@[simp] theorem portMod_l2maint (s : State) (n : Nat) (f : Port → Port) : (portMod n f s).l2maint = s.l2maint := rfl
@[simp] theorem portMod_coh (s : State) (n : Nat) (f : Port → Port) : (portMod n f s).coh = s.coh := rfl
@[simp] theorem portMod_ports (s : State) (n : Nat) (f : Port → Port) : (portMod n f s).ports = tset {} s.ports n (f (portAt s n)) := rfl
@[simp] theorem portMod_chips (s : State) (n : Nat) (f : Port → Port) : (portMod n f s).chips = s.chips := rfl
@[simp] theorem portMod_rqs (s : State) (n : Nat) (f : Port → Port) : (portMod n f s).rqs = s.rqs := rfl
@[simp] theorem portMod_cores (s : State) (n : Nat) (f : Port → Port) : (portMod n f s).cores = s.cores := rfl
@[simp] theorem portMod_mtime (s : State) (n : Nat) (f : Port → Port) : (portMod n f s).mtime = s.mtime := rfl
@[simp] theorem portMod_pcie (s : State) (n : Nat) (f : Port → Port) : (portMod n f s).pcie = s.pcie := rfl
@[simp] theorem portMod_sc (s : State) (n : Nat) (f : Port → Port) : (portMod n f s).sc = s.sc := rfl
@[simp] theorem portMod_pwr (s : State) (n : Nat) (f : Port → Port) : (portMod n f s).pwr = s.pwr := rfl
@[simp] theorem portMod_cla (s : State) (n : Nat) (f : Port → Port) : (portMod n f s).cla = s.cla := rfl
@[simp] theorem portMod_sec (s : State) (n : Nat) (f : Port → Port) : (portMod n f s).sec = s.sec := rfl
@[simp] theorem portMod_routes (s : State) (n : Nat) (f : Port → Port) : (portMod n f s).routes = s.routes := rfl

@[simp] theorem setFlaws_pending (s : State) (l : List (Nat × Bool)) : (setFlaws l s).pending = s.pending := rfl
@[simp] theorem setFlaws_fresh (s : State) (l : List (Nat × Bool)) : (setFlaws l s).fresh = s.fresh := rfl
@[simp] theorem setFlaws_out (s : State) (l : List (Nat × Bool)) : (setFlaws l s).out = s.out := rfl
@[simp] theorem setFlaws_boot (s : State) (l : List (Nat × Bool)) : (setFlaws l s).boot = s.boot := rfl
@[simp] theorem setFlaws_fuse (s : State) (l : List (Nat × Bool)) : (setFlaws l s).fuse = s.fuse := rfl
@[simp] theorem setFlaws_flash (s : State) (l : List (Nat × Bool)) : (setFlaws l s).flash = s.flash := rfl
@[simp] theorem setFlaws_faults (s : State) (l : List (Nat × Bool)) : (setFlaws l s).faults = s.faults := rfl
@[simp] theorem setFlaws_present (s : State) (l : List (Nat × Bool)) : (setFlaws l s).present = s.present := rfl
@[simp] theorem setFlaws_links (s : State) (l : List (Nat × Bool)) : (setFlaws l s).links = s.links := rfl
@[simp] theorem setFlaws_alt (s : State) (l : List (Nat × Bool)) : (setFlaws l s).alt = s.alt := rfl
@[simp] theorem setFlaws_pendAlt (s : State) (l : List (Nat × Bool)) : (setFlaws l s).pendAlt = s.pendAlt := rfl
@[simp] theorem setFlaws_obj (s : State) (l : List (Nat × Bool)) : (setFlaws l s).obj = s.obj := rfl
@[simp] theorem setFlaws_oct (s : State) (l : List (Nat × Bool)) : (setFlaws l s).oct = s.oct := rfl
@[simp] theorem setFlaws_regs (s : State) (l : List (Nat × Bool)) : (setFlaws l s).regs = s.regs := rfl
@[simp] theorem setFlaws_tcs (s : State) (l : List (Nat × Bool)) : (setFlaws l s).tcs = s.tcs := rfl
@[simp] theorem setFlaws_items (s : State) (l : List (Nat × Bool)) : (setFlaws l s).items = s.items := rfl
@[simp] theorem setFlaws_nextAcc (s : State) (l : List (Nat × Bool)) : (setFlaws l s).nextAcc = s.nextAcc := rfl
@[simp] theorem setFlaws_rr (s : State) (l : List (Nat × Bool)) : (setFlaws l s).rr = s.rr := rfl
@[simp] theorem setFlaws_ctxs (s : State) (l : List (Nat × Bool)) : (setFlaws l s).ctxs = s.ctxs := rfl
@[simp] theorem setFlaws_queues (s : State) (l : List (Nat × Bool)) : (setFlaws l s).queues = s.queues := rfl
@[simp] theorem setFlaws_cmdStat (s : State) (l : List (Nat × Bool)) : (setFlaws l s).cmdStat = s.cmdStat := rfl
@[simp] theorem setFlaws_cmdBusy (s : State) (l : List (Nat × Bool)) : (setFlaws l s).cmdBusy = s.cmdBusy := rfl
@[simp] theorem setFlaws_bindErr (s : State) (l : List (Nat × Bool)) : (setFlaws l s).bindErr = s.bindErr := rfl
@[simp] theorem setFlaws_ctxBase (s : State) (l : List (Nat × Bool)) : (setFlaws l s).ctxBase = s.ctxBase := rfl
@[simp] theorem setFlaws_batons (s : State) (l : List (Nat × Bool)) : (setFlaws l s).batons = s.batons := rfl
@[simp] theorem setFlaws_groups (s : State) (l : List (Nat × Bool)) : (setFlaws l s).groups = s.groups := rfl
@[simp] theorem setFlaws_slots (s : State) (l : List (Nat × Bool)) : (setFlaws l s).slots = s.slots := rfl
@[simp] theorem setFlaws_tb (s : State) (l : List (Nat × Bool)) : (setFlaws l s).tb = s.tb := rfl
@[simp] theorem setFlaws_ecl (s : State) (l : List (Nat × Bool)) : (setFlaws l s).ecl = s.ecl := rfl
@[simp] theorem setFlaws_stu (s : State) (l : List (Nat × Bool)) : (setFlaws l s).stu = s.stu := rfl
@[simp] theorem setFlaws_mem (s : State) (l : List (Nat × Bool)) : (setFlaws l s).mem = { s.mem with flaws := l } := rfl
@[simp] theorem setFlaws_mds (s : State) (l : List (Nat × Bool)) : (setFlaws l s).mds = s.mds := rfl
@[simp] theorem setFlaws_l2maint (s : State) (l : List (Nat × Bool)) : (setFlaws l s).l2maint = s.l2maint := rfl
@[simp] theorem setFlaws_coh (s : State) (l : List (Nat × Bool)) : (setFlaws l s).coh = s.coh := rfl
@[simp] theorem setFlaws_ports (s : State) (l : List (Nat × Bool)) : (setFlaws l s).ports = s.ports := rfl
@[simp] theorem setFlaws_chips (s : State) (l : List (Nat × Bool)) : (setFlaws l s).chips = s.chips := rfl
@[simp] theorem setFlaws_rqs (s : State) (l : List (Nat × Bool)) : (setFlaws l s).rqs = s.rqs := rfl
@[simp] theorem setFlaws_cores (s : State) (l : List (Nat × Bool)) : (setFlaws l s).cores = s.cores := rfl
@[simp] theorem setFlaws_mtime (s : State) (l : List (Nat × Bool)) : (setFlaws l s).mtime = s.mtime := rfl
@[simp] theorem setFlaws_pcie (s : State) (l : List (Nat × Bool)) : (setFlaws l s).pcie = s.pcie := rfl
@[simp] theorem setFlaws_sc (s : State) (l : List (Nat × Bool)) : (setFlaws l s).sc = s.sc := rfl
@[simp] theorem setFlaws_pwr (s : State) (l : List (Nat × Bool)) : (setFlaws l s).pwr = s.pwr := rfl
@[simp] theorem setFlaws_cla (s : State) (l : List (Nat × Bool)) : (setFlaws l s).cla = s.cla := rfl
@[simp] theorem setFlaws_sec (s : State) (l : List (Nat × Bool)) : (setFlaws l s).sec = s.sec := rfl
@[simp] theorem setFlaws_routes (s : State) (l : List (Nat × Bool)) : (setFlaws l s).routes = s.routes := rfl


@[simp] theorem dmMod_pending (s : State) (f : Dm → Dm) : (dmMod f s).pending = s.pending := rfl
@[simp] theorem dmMod_fresh (s : State) (f : Dm → Dm) : (dmMod f s).fresh = s.fresh := rfl
@[simp] theorem dmMod_out (s : State) (f : Dm → Dm) : (dmMod f s).out = s.out := rfl
@[simp] theorem dmMod_boot (s : State) (f : Dm → Dm) : (dmMod f s).boot = s.boot := rfl
@[simp] theorem dmMod_fuse (s : State) (f : Dm → Dm) : (dmMod f s).fuse = s.fuse := rfl
@[simp] theorem dmMod_flash (s : State) (f : Dm → Dm) : (dmMod f s).flash = s.flash := rfl
@[simp] theorem dmMod_faults (s : State) (f : Dm → Dm) : (dmMod f s).faults = s.faults := rfl
@[simp] theorem dmMod_present (s : State) (f : Dm → Dm) : (dmMod f s).present = s.present := rfl
@[simp] theorem dmMod_links (s : State) (f : Dm → Dm) : (dmMod f s).links = s.links := rfl
@[simp] theorem dmMod_alt (s : State) (f : Dm → Dm) : (dmMod f s).alt = s.alt := rfl
@[simp] theorem dmMod_pendAlt (s : State) (f : Dm → Dm) : (dmMod f s).pendAlt = s.pendAlt := rfl
@[simp] theorem dmMod_obj (s : State) (f : Dm → Dm) : (dmMod f s).obj = s.obj := rfl
@[simp] theorem dmMod_oct (s : State) (f : Dm → Dm) : (dmMod f s).oct = s.oct := rfl
@[simp] theorem dmMod_regs (s : State) (f : Dm → Dm) : (dmMod f s).regs = s.regs := rfl
@[simp] theorem dmMod_tcs (s : State) (f : Dm → Dm) : (dmMod f s).tcs = s.tcs := rfl
@[simp] theorem dmMod_items (s : State) (f : Dm → Dm) : (dmMod f s).items = s.items := rfl
@[simp] theorem dmMod_nextAcc (s : State) (f : Dm → Dm) : (dmMod f s).nextAcc = s.nextAcc := rfl
@[simp] theorem dmMod_rr (s : State) (f : Dm → Dm) : (dmMod f s).rr = s.rr := rfl
@[simp] theorem dmMod_ctxs (s : State) (f : Dm → Dm) : (dmMod f s).ctxs = s.ctxs := rfl
@[simp] theorem dmMod_queues (s : State) (f : Dm → Dm) : (dmMod f s).queues = s.queues := rfl
@[simp] theorem dmMod_cmdStat (s : State) (f : Dm → Dm) : (dmMod f s).cmdStat = s.cmdStat := rfl
@[simp] theorem dmMod_cmdBusy (s : State) (f : Dm → Dm) : (dmMod f s).cmdBusy = s.cmdBusy := rfl
@[simp] theorem dmMod_bindErr (s : State) (f : Dm → Dm) : (dmMod f s).bindErr = s.bindErr := rfl
@[simp] theorem dmMod_ctxBase (s : State) (f : Dm → Dm) : (dmMod f s).ctxBase = s.ctxBase := rfl
@[simp] theorem dmMod_batons (s : State) (f : Dm → Dm) : (dmMod f s).batons = s.batons := rfl
@[simp] theorem dmMod_groups (s : State) (f : Dm → Dm) : (dmMod f s).groups = s.groups := rfl
@[simp] theorem dmMod_slots (s : State) (f : Dm → Dm) : (dmMod f s).slots = s.slots := rfl
@[simp] theorem dmMod_tb (s : State) (f : Dm → Dm) : (dmMod f s).tb = s.tb := rfl
@[simp] theorem dmMod_ecl (s : State) (f : Dm → Dm) : (dmMod f s).ecl = s.ecl := rfl
@[simp] theorem dmMod_stu (s : State) (f : Dm → Dm) : (dmMod f s).stu = s.stu := rfl
@[simp] theorem dmMod_mem (s : State) (f : Dm → Dm) : (dmMod f s).mem = s.mem := rfl
@[simp] theorem dmMod_mds (s : State) (f : Dm → Dm) : (dmMod f s).mds = s.mds := rfl
@[simp] theorem dmMod_l2maint (s : State) (f : Dm → Dm) : (dmMod f s).l2maint = s.l2maint := rfl
@[simp] theorem dmMod_coh (s : State) (f : Dm → Dm) : (dmMod f s).coh = s.coh := rfl
@[simp] theorem dmMod_ports (s : State) (f : Dm → Dm) : (dmMod f s).ports = s.ports := rfl
@[simp] theorem dmMod_chips (s : State) (f : Dm → Dm) : (dmMod f s).chips = s.chips := rfl
@[simp] theorem dmMod_rqs (s : State) (f : Dm → Dm) : (dmMod f s).rqs = s.rqs := rfl
@[simp] theorem dmMod_cores (s : State) (f : Dm → Dm) : (dmMod f s).cores = s.cores := rfl
@[simp] theorem dmMod_mtime (s : State) (f : Dm → Dm) : (dmMod f s).mtime = s.mtime := rfl
@[simp] theorem dmMod_pcie (s : State) (f : Dm → Dm) : (dmMod f s).pcie = s.pcie := rfl
@[simp] theorem dmMod_sc (s : State) (f : Dm → Dm) : (dmMod f s).sc = s.sc := rfl
@[simp] theorem dmMod_pwr (s : State) (f : Dm → Dm) : (dmMod f s).pwr = s.pwr := rfl
@[simp] theorem dmMod_cla (s : State) (f : Dm → Dm) : (dmMod f s).cla = s.cla := rfl
@[simp] theorem dmMod_sec (s : State) (f : Dm → Dm) : (dmMod f s).sec = { s.sec with dm := f s.sec.dm } := rfl
@[simp] theorem dmMod_routes (s : State) (f : Dm → Dm) : (dmMod f s).routes = s.routes := rfl

/-- A unit written is read back, and every other one stands. -/
theorem tcAt_put (s : State) (n : Nat) (c : TCore) (h : c ≠ {}) : tcAt (tcPut s n c) n = c := tget_tset_self _ _ _ h _
theorem tcAt_put_wf (s : State) (n : Nat) (c : TCore) (h : twf {} s.tcs = true) : tcAt (tcPut s n c) n = c := tget_tset_wf _ _ _ _ h
theorem tcAt_put_ne (s : State) (n m : Nat) (c : TCore) (h : m ≠ n) : tcAt (tcPut s n c) m = tcAt s m := tget_tset_ne _ _ _ _ h _

/-- A unit written is read back, and every other one stands. -/
theorem linkAt_put (s : State) (n : Nat) (c : Link) (h : c ≠ {}) : linkAt (linkPut s n c) n = c := tget_tset_self _ _ _ h _
theorem linkAt_put_wf (s : State) (n : Nat) (c : Link) (h : twf {} s.links = true) : linkAt (linkPut s n c) n = c := tget_tset_wf _ _ _ _ h
theorem linkAt_put_ne (s : State) (n m : Nat) (c : Link) (h : m ≠ n) : linkAt (linkPut s n c) m = linkAt s m := tget_tset_ne _ _ _ _ h _

/-- A unit written is read back, and every other one stands. -/
theorem portAt_put (s : State) (n : Nat) (c : Port) (h : c ≠ {}) : portAt (portPut s n c) n = c := tget_tset_self _ _ _ h _
theorem portAt_put_wf (s : State) (n : Nat) (c : Port) (h : twf {} s.ports = true) : portAt (portPut s n c) n = c := tget_tset_wf _ _ _ _ h
theorem portAt_put_ne (s : State) (n m : Nat) (c : Port) (h : m ≠ n) : portAt (portPut s n c) m = portAt s m := tget_tset_ne _ _ _ _ h _

/-- A unit written is read back, and every other one stands. -/
theorem ctxAt_put (s : State) (n : Nat) (c : Ctx) (h : c ≠ {}) : ctxAt (ctxPut s n c) n = c := tget_tset_self _ _ _ h _
theorem ctxAt_put_wf (s : State) (n : Nat) (c : Ctx) (h : twf {} s.ctxs = true) : ctxAt (ctxPut s n c) n = c := tget_tset_wf _ _ _ _ h
theorem ctxAt_put_ne (s : State) (n m : Nat) (c : Ctx) (h : m ≠ n) : ctxAt (ctxPut s n c) m = ctxAt s m := tget_tset_ne _ _ _ _ h _

/-- A unit written is read back, and every other one stands. -/
theorem queueAt_put (s : State) (n : Nat) (c : Queue) (h : c ≠ {}) : queueAt (queuePut s n c) n = c := tget_tset_self _ _ _ h _
theorem queueAt_put_wf (s : State) (n : Nat) (c : Queue) (h : twf {} s.queues = true) : queueAt (queuePut s n c) n = c := tget_tset_wf _ _ _ _ h
theorem queueAt_put_ne (s : State) (n m : Nat) (c : Queue) (h : m ≠ n) : queueAt (queuePut s n c) m = queueAt s m := tget_tset_ne _ _ _ _ h _

/-- A unit written is read back, and every other one stands. -/
theorem batonAt_put (s : State) (n : Nat) (c : Baton) (h : c ≠ {}) : batonAt (batonPut s n c) n = c := tget_tset_self _ _ _ h _
theorem batonAt_put_wf (s : State) (n : Nat) (c : Baton) (h : twf {} s.batons = true) : batonAt (batonPut s n c) n = c := tget_tset_wf _ _ _ _ h
theorem batonAt_put_ne (s : State) (n m : Nat) (c : Baton) (h : m ≠ n) : batonAt (batonPut s n c) m = batonAt s m := tget_tset_ne _ _ _ _ h _

/-- A unit written is read back, and every other one stands. -/
theorem groupAt_put (s : State) (n : Nat) (c : Group) (h : c ≠ {}) : groupAt (groupPut s n c) n = c := tget_tset_self _ _ _ h _
theorem groupAt_put_wf (s : State) (n : Nat) (c : Group) (h : twf {} s.groups = true) : groupAt (groupPut s n c) n = c := tget_tset_wf _ _ _ _ h
theorem groupAt_put_ne (s : State) (n m : Nat) (c : Group) (h : m ≠ n) : groupAt (groupPut s n c) m = groupAt s m := tget_tset_ne _ _ _ _ h _

/-- A unit written is read back, and every other one stands. -/
theorem slotAt_put (s : State) (n : Nat) (c : Slot) (h : c ≠ {}) : slotAt (slotPut s n c) n = c := tget_tset_self _ _ _ h _
theorem slotAt_put_wf (s : State) (n : Nat) (c : Slot) (h : twf {} s.slots = true) : slotAt (slotPut s n c) n = c := tget_tset_wf _ _ _ _ h
theorem slotAt_put_ne (s : State) (n m : Nat) (c : Slot) (h : m ≠ n) : slotAt (slotPut s n c) m = slotAt s m := tget_tset_ne _ _ _ _ h _

/-- A unit written is read back, and every other one stands. -/
theorem mdAt_put (s : State) (n : Nat) (c : Md) (h : c ≠ {}) : mdAt (mdPut s n c) n = c := tget_tset_self _ _ _ h _
theorem mdAt_put_wf (s : State) (n : Nat) (c : Md) (h : twf {} s.mds = true) : mdAt (mdPut s n c) n = c := tget_tset_wf _ _ _ _ h
theorem mdAt_put_ne (s : State) (n m : Nat) (c : Md) (h : m ≠ n) : mdAt (mdPut s n c) m = mdAt s m := tget_tset_ne _ _ _ _ h _

/-- A unit written is read back, and every other one stands. -/
theorem rqAt_put (s : State) (n : Nat) (c : RQueue) (h : c ≠ {}) : rqAt (rqPut s n c) n = c := tget_tset_self _ _ _ h _
theorem rqAt_put_wf (s : State) (n : Nat) (c : RQueue) (h : twf {} s.rqs = true) : rqAt (rqPut s n c) n = c := tget_tset_wf _ _ _ _ h
theorem rqAt_put_ne (s : State) (n m : Nat) (c : RQueue) (h : m ≠ n) : rqAt (rqPut s n c) m = rqAt s m := tget_tset_ne _ _ _ _ h _

/-- A unit written is read back, and every other one stands. -/
theorem coreAt_put (s : State) (n : Nat) (c : Core) (h : c ≠ {}) : coreAt (corePut s n c) n = c := tget_tset_self _ _ _ h _
theorem coreAt_put_wf (s : State) (n : Nat) (c : Core) (h : twf {} s.cores = true) : coreAt (corePut s n c) n = c := tget_tset_wf _ _ _ _ h
theorem coreAt_put_ne (s : State) (n m : Nat) (c : Core) (h : m ≠ n) : coreAt (corePut s n c) m = coreAt s m := tget_tset_ne _ _ _ _ h _

/-- A unit written is read back, and every other one stands. -/
theorem pcieAt_put (s : State) (n : Nat) (c : Pcie) (h : c ≠ {}) : pcieAt (pciePut s n c) n = c := tget_tset_self _ _ _ h _
theorem pcieAt_put_wf (s : State) (n : Nat) (c : Pcie) (h : twf {} s.pcie = true) : pcieAt (pciePut s n c) n = c := tget_tset_wf _ _ _ _ h
theorem pcieAt_put_ne (s : State) (n m : Nat) (c : Pcie) (h : m ≠ n) : pcieAt (pciePut s n c) m = pcieAt s m := tget_tset_ne _ _ _ _ h _

theorem srcAt_put (s : State) (n : Nat) (c : Src) (h : c ≠ {}) : srcAt (srcPut s n c) n = c := tget_tset_self _ _ _ h _
theorem srcAt_put_wf (s : State) (n : Nat) (c : Src) (h : twf {} s.sc.src = true) : srcAt (srcPut s n c) n = c := tget_tset_wf _ _ _ _ h
theorem srcAt_put_ne (s : State) (n m : Nat) (c : Src) (h : m ≠ n) : srcAt (srcPut s n c) m = srcAt s m := tget_tset_ne _ _ _ _ h _

theorem itemAt_put (s : State) (n : Nat) (c : Item) : itemAt (itemPut s n c) n = some c := by simp [itemAt, aput, aget]
theorem aget_adel_ne {κ α : Type} [DecidableEq κ] (k j : κ) (h : j ≠ k) : ∀ l : List (κ × α), aget (adel l k) j = aget l j
  | [] => rfl
  | (i, v) :: r => by
    by_cases e : i = k
    · subst e
      simpa [adel, aget, Ne.symm h] using aget_adel_ne i j h r
    · by_cases f : i = j
      · subst f
        simp [adel, aget, e]
      · simpa [adel, aget, e, f] using aget_adel_ne k j h r
theorem itemAt_put_ne (s : State) (n m : Nat) (c : Item) (h : m ≠ n) : itemAt (itemPut s n c) m = itemAt s m := by
  simp [itemAt, aput, aget, Ne.symm h, aget_adel_ne n m h]

theorem mem_insNat (n : Nat) : ∀ l : List Nat, n ∈ insNat n l
  | [] => by simp [insNat]
  | k :: r => by
    unfold insNat
    split
    · simp
    · split
      · simp [*]
      · simp [mem_insNat n r]

theorem mem_upto : ∀ (n a j : Nat), j ∈ upto a n ↔ a ≤ j ∧ j < a + n
  | 0, a, j => by simp [upto]
  | n + 1, a, j => by
    simp only [upto, List.mem_cons, mem_upto n (a + 1)]
    omega

end Sys2Proof.Machine
end

