-- ==== Sys2Proof/Tests/Slice0.lean ====
section
/-! SUPPORT. Own tests: the WellFormed smoke tests, the worked examples of spec/, single steps; and for each clause of each
statement a state and operands that meet its hypotheses together (`witness_<statement>_<clause>`). -/

set_option Elab.async false
set_option linter.unusedVariables false
set_option maxRecDepth 20000

open Sys2Proof Sys2Proof.Machine

/-- An item of context 1 with a tensor slot, a video slot and an empty one, and 4096 bytes of kernel code at 0. -/
def witItem : Item :=
  { ctx := 1, q := 0, idx := 0, desc := [0x30000000000, 0, 0, 0, 0, 0x1000],
    opnds := [[0x10000, 0x400000004, 0x100000001, 32, 0, 0, 0x3008], [0x10000, 0x400000004, 0x100000001, 32, 0, 0, 0x3317], []],
    phase := .running }

/-- Core 0 runs the item. -/
def witState (c : TCore) : State := { tcs := [(0, { c with item := some 0 })], items := [(0, witItem)] }

/-- A region at byte 0. -/
def witReg (rows cols fmt pitch : Nat) : W64 :=
  BitVec.ofNat 64 (2 ^ 16 * (rows - 1) + 2 ^ 24 * (cols - 1) + 2 ^ 40 * pitch + 2 ^ 52 * fmt)


/-- The E9 runs with every die. -/
def witRun : State := { present := 0xFFFFFFFFFF, boot := { phase := .running, claryn := true, canNode := 16 } }

/-- The entry of context 1 in use: one queue of 16 entries. -/
def witEntry : List W64 := [0x1F00003F71, 0, 0, 0, 0x10004, 0x20000, 0, 0, 0, 0, 0, 0, 0, 0, 0, 0]

/-- Context 1 is enabled, and its queue holds two descriptors. -/
def witCtx : State :=
  { witRun with
    obj := [(objKey 0x5102 2, 0xFF), (objKey 0x5103 2, 0x3FFF0000)]
    ctxs := [(1, { state := 1, entry := witEntry })], queues := [(4, { tail := 3, accepted := 1 })], ctxBase := 0x40000 }

/-- A manager on CAN FD asks for CAN_NODE_ID. -/
def witReq : Req := { via := .can 1, tid := 1, index := 0x1100, sub := 1 }

/-- A signature of `witChange` under the key 1, computed from the standard outside Lean. -/
def witSig : List Byte :=
  beBytes 32 0x5FDA41236F422186C382B6CF14B0394B087D331508DF8A196E4483E7E4261B1B ++
  beBytes 32 0xD012DF6D485EEF3C9E3EA49875A7E359EDC545E09D56401E9C99B21547C24BB2

/-- A change that claims the E9 for an owner and a custodian whose public keys are the base point. -/
def witChange : List Byte :=
  leBytes 4 0x50524331 ++ leBytes 4 2 ++ List.replicate 16 0 ++ leBytes 8 0x100000000 ++
  ([1, 2] : List Nat).flatMap fun i => leBytes 4 (0x40005001 + 0x10000 * i) ++ beBytes 32 sm2gx ++ beBytes 32 sm2gy

/-- The identity private key wrapped under a key of zeros, its tag computed by the model (a witness, no vector of the standard). -/
def witKeyed : State :=
  { witRun with
    boot := { witRun.boot with attest := true }, sec := { idKek := List.replicate 16 0 }
    fuse := { idWrap := List.replicate 44 0 ++ blkBytes 0xD631D05D864D9FB2FD09FC811C5277F } }

/-- A start in which every die has passed, and every link and bond has trained on all its lanes. -/
def witFound : State :=
  (upto 0 23).foldl (fun s i => linkTrainingEffect i [] [] s)
    { boot := { phase := .starting, claryn := true, flooded := true, selfTest := (upto 0 16).map fun i => (i, 1) }
      fuse := { dieSerials := upto 1 16 } }

/-! Ill-formed commands, one for each check of WellFormed.lean -/

theorem test_wf_cd : (Instr.bondErrorDetected 6 true).wf = false := by decide
theorem test_wf_md : (Instr.pgretPop 6).wf = false := by decide
theorem test_wf_die : (Instr.selfTestComplete 16 true).wf = false := by decide
theorem test_wf_link : (Instr.flitCrcError 17).wf = false := by decide
theorem test_wf_link_or_bond : (Instr.linkTrainingComplete 23 [] []).wf = false := by decide
theorem test_wf_lane_link : (Instr.spareTrained (.link 17)).wf = false := by decide
theorem test_wf_lane_port : (Instr.spareTrained (.port 24)).wf = false := by decide
theorem test_wf_tensor_core : (Instr.ecall 192).wf = false := by decide
theorem test_wf_cluster : (Instr.clusterInvalidate 24).wf = false := by decide
theorem test_wf_application_core : (Instr.boardWindowAccess 128 false 0 8 0 []).wf = false := by decide
theorem test_wf_port : (Instr.sbIdle 24).wf = false := by decide
theorem test_wf_pcie : (Instr.pcieInboundRead 4 0 0 4 []).wf = false := by decide
theorem test_wf_context : (Instr.contextEnable 16384 []).wf = false := by decide
theorem test_wf_queue : (Instr.doorbell 0 4 0).wf = false := by decide
theorem test_wf_baton : (Instr.batonOperation 8192 0).wf = false := by decide
theorem test_wf_slot : (Instr.sqBind 64 0).wf = false := by decide
theorem test_wf_group : (Instr.relayGroupStart 1024 0).wf = false := by decide
theorem test_wf_remote_queue : (Instr.rqCommandStart 256 []).wf = false := by decide
theorem test_wf_l2_cluster : (Instr.l2MaintClean (.cluster 24) false).wf = false := by decide
theorem test_wf_l2_group : (Instr.l2MaintClean (.group 32) false).wf = false := by decide
theorem test_wf_requester : (Instr.transactionTimeout ⟨2, 128, none⟩ 0).wf = false := by decide
theorem test_wf_sender : (Instr.read { via := .can 128, tid := 0, index := 0, sub := 0 }).wf = false := by decide
theorem test_wf_debugger : (Instr.debugPortAccess (.readTile 0 0x400000)).wf = false := by decide
theorem test_wf_credit_class : (Instr.creditSend 0 3).wf = false := by decide
theorem test_wf_accepts_the_last_units :
    [Instr.ecall 191, .sbIdle 23, .contextEnable 16383 [], .batonOperation 8191 0, .linkTrainingComplete 22 [] []].all Instr.wf = true := by decide

/-! The numbers of the worked examples of 03_number_formats.md, 04_accumulation_and_sampling.md and 00_scope.md -/

theorem test_product_ties_to_even : product 8 0x3F800800 0x3F800800 = 0x3F801000 := by decide
theorem test_products_cancel : fadd 8 (product 8 0x3F800800 0x3F800800) (product 8 0xBF801000 0x3F800000) = 0 := by decide
theorem test_fused_keeps_the_rest : ffma 8 0x3F800800 0x3F800800 0xBF801000 = 0x33800000 := by decide
theorem test_bf16_product_is_exact : product 6 0x3F81 0x3F81 = 0x3F820200 := by decide
theorem test_sum_ties_to_even : fadd 8 0x4B800000 0x3F800000 = 0x4B800000 := by decide
theorem test_sum_below_is_exact : fadd 8 0x3F800000 0xCB800000 = 0xCB7FFFFF := by decide
theorem test_tile_of_an_address : tileOf 0x021340000000 = 4 := by decide

/-- R82, R99: a subnormal first element counts exactly in the sums, 2^-127 + 2^-127 = 2^-126, and reads 0 itself. -/
theorem test_scan_keeps_a_subnormal_first_element : scanRow none [0x00400000, 0x00400000] = [0, 0x00800000] := by decide
/-- R19: the path of its example, CD2, MD2, MD1, MD0, MD3. -/
theorem test_primary_path_of_the_example : primary 2 9 = [2, 8, 7, 6, 9] := by decide
/-- R328: the symbols an encoder adds make a codeword of which no syndrome tells an error. -/
theorem test_encoded_symbols_have_no_syndrome : syndromes (rsEncode [5, 9, 1023]) = List.replicate 30 0 := by decide +kernel

/-! The published vectors of SM3 and SM4 -/

theorem test_sm3_abc : beNat (sm3 [0x61, 0x62, 0x63]) = 0x66C7F0F462EEEDD9D1F2D46BDC10E4E24167C4875CF2F7A2297DA02B8F4BA8E0 := by
  decide +kernel
theorem test_sm4_block :
    sm4 0x0123456789ABCDEFFEDCBA9876543210 0x0123456789ABCDEFFEDCBA9876543210 = 0x681EDF34D206965E86B3E94F536E4246 := by decide +kernel

/-! Single steps -/

/-- The state an outcome holds. -/
def witNext : Host.Outcome State Fault Refusal → State
  | .next t => t
  | _ => {}

/-- R12: PSETQ drops the reserved bits of a region register. -/
theorem test_psetq_drops_reserved_bits :
    qReg (tcAt (witNext (exec (.psetq 0 2 1 0) (witState { x := [(1, 0xFFFFFFFFFFFFFFFF)] }))) 0) 2 = 0x3FFFFFFFFFFF7FFF := by decide
/-- R515: outside the data map and misaligned is cause 3. -/
theorem test_lowest_cause_is_reported :
    ((tcAt (witNext (exec (.pacerLoad 0 false 3 1 1 0) (witState { x := [(1, 0x2000001)] }))) 0).fault).map Prod.fst = some 3 := by decide
/-- R43: a byte load extends the sign. -/
theorem test_byte_load_extends_the_sign :
    xReg (tcAt (witNext (exec (.pacerLoad 0 false 0 1 0 0) (witState { tile := [(0, 0x80)] }))) 0) 1 = 0xFFFFFFFFFFFFFF80 := by decide
/-- R217: ADD wraps the value at 32 bits. -/
theorem test_baton_add_wraps :
    (batonAt (witNext (exec (.batonOperation 0 0x202) { witRun with batons := [(0, { ctl := 1, value := 0xFFFFFFFF })] })) 0).value = 1 := by decide
/-- R481: power-good on a cool package enters reset. -/
theorem test_power_good_enters_reset : (witNext (exec (.pwrGoodAssert false) State.reset)).boot.phase = .inReset := by decide
/-- R25, R485: a fatal fault is a class 3 code and takes the package down. -/
theorem test_fatal_fault_takes_the_package_down : (witNext (exec (.fatalLineAssert 0x0300 0 0) witRun)).boot.phase = .goingDown := by decide
theorem test_no_such_unit_faults : exec (.ecall 192) {} = .fault .noSuchUnit := rfl
theorem test_step_takes_the_front :
    (witNext (step { pending := [.pwrGoodAssert false, .goingDownEnd] })).pending = [.goingDownEnd] := by decide
theorem test_idle_step_ticks : (now (witNext (step { witRun with tb := { on := true } }))).toNat = 1 := by decide
theorem test_no_word_spells_a_command : decodeTableWord 32 0xFFFFFFFF = none := rfl
theorem test_reset_is_canonical : State.reset.memWf = true := by decide



/-! Witnesses of the statements' hypotheses -/

theorem witness_WellFormedCommandsComplete_0 :
    (∃ c : Instr, c.wf = true) ∧ ∃ c : Instr, c.wf = false :=
  ⟨⟨.ecall 0, by decide⟩, ⟨.ecall 192, by decide⟩⟩

theorem witness_PowerGoodStartsAndStopsTheE9_0 :
    ∃ (hot : Bool) (s : State), s.boot.phase = .off :=
  ⟨true, { boot := { claryn := true }, present := 1099511627775 }, by decide⟩

theorem witness_PowerGoodStartsAndStopsTheE9_1 :
    ∃ (hot : Bool) (s : State), s.boot.phase ≠ .off :=
  ⟨true, witRun, by decide⟩

theorem witness_PowerGoodStartsAndStopsTheE9_2 :
    ∃ (s : State), s.boot.phase = .thermalWait :=
  ⟨{ boot := { phase := .thermalWait, claryn := true }, present := 1099511627775 }, by decide⟩

theorem witness_PowerGoodStartsAndStopsTheE9_3 :
    ∃ (s : State), s.boot.phase ≠ .thermalWait :=
  ⟨witRun, by decide⟩

theorem witness_PackageResetDiscardsTheRun_0 :
    ∃ (s : State), s.boot.phase = .goingDown :=
  ⟨{ boot := { phase := .goingDown, claryn := true }, present := 1099511627775 }, by decide⟩

theorem witness_PackageResetDiscardsTheRun_1 :
    ∃ (s : State), s.boot.phase ≠ .goingDown :=
  ⟨witRun, by decide⟩

theorem witness_PackageResetDiscardsTheRun_2 :
    ∃ (hot : Bool) (s : State), s.boot.phase = .resetHold :=
  ⟨true, { boot := { phase := .resetHold, claryn := true }, present := 1099511627775 }, by decide⟩

theorem witness_PackageResetDiscardsTheRun_3 :
    ∃ (hot : Bool) (s : State), s.boot.phase ≠ .resetHold :=
  ⟨true, witRun, by decide⟩

theorem witness_StartSequenceReachesRunning_0 :
    ∃ (m : Bool) (b : BitVec 3) (c : BitVec 7) (row : Option Nat) (s : State), s.boot.phase = .inReset :=
  ⟨true, 5, 1, none, { boot := { phase := .inReset, claryn := true }, present := 1099511627775 }, by decide⟩

theorem witness_StartSequenceReachesRunning_1 :
    ∃ (m : Bool) (b : BitVec 3) (c : BitVec 7) (row : Option Nat) (s : State), s.boot.phase = .inReset :=
  ⟨true, 5, 1, none, { boot := { phase := .inReset, claryn := true }, present := 1099511627775 }, by decide⟩

theorem witness_StartSequenceReachesRunning_2 :
    ∃ (m : Bool) (b : BitVec 3) (c : BitVec 7) (row : Option Nat) (pass : Bool) (s : State), s.boot.phase ≠ .inReset :=
  ⟨false, 4, 7, none, true, witRun, by decide⟩

theorem witness_StartSequenceReachesRunning_3 :
    ∃ (die : Nat) (pass : Bool) (s : State), okDie die = true ∧ die ≠ 14 ∧ s.boot.phase = .starting ∧ dieFitted s.fuse.part die = true :=
  ⟨0, true, { boot := { phase := .starting, claryn := true }, fuse := { part := 2 }, present := 1099511627775 }, by decide, by decide, by decide, by decide⟩

theorem witness_StartSequenceReachesRunning_4 :
    ∃ (i : Nat) (fu fd : List Nat) (s : State), i < 17 ∧ s.boot.phase = .starting ∧ tget 0 s.boot.selfTest (linkEnds i).1 ≠ 0 ∧ tget 0 s.boot.selfTest (linkEnds i).2 ≠ 0 :=
  ⟨16, [3], [], { boot := { phase := .starting, claryn := true, selfTest := (upto 0 16).map fun i => (i, 1) } }, by first | decide | rfl | simp, by first | decide | rfl | simp, by first | decide | rfl | simp, by first | decide | rfl | simp⟩

theorem witness_StartSequenceReachesRunning_5 :
    ∃ (n : Nat) (s : State), n < 6 ∧ s.boot.phase = .starting ∧ tget 0 s.boot.selfTest n ≠ 0 ∧ tget 0 s.boot.selfTest (6 + n) ≠ 0 :=
  ⟨5, { boot := { phase := .starting, claryn := true, selfTest := (upto 0 16).map fun i => (i, 1) } }, by first | decide | rfl | simp, by first | decide | rfl | simp, by first | decide | rfl | simp, by first | decide | rfl | simp⟩

theorem witness_StartSequenceReachesRunning_6 :
    ∃ (s : State), s.boot.phase = .starting ∧ s.boot.claryn = true :=
  ⟨{ boot := { phase := .starting, claryn := true }, present := 1099511627775 }, by decide, by decide⟩

theorem witness_StartSequenceReachesRunning_7 :
    ∃ (micros : Nat) (s : State), s.boot.phase = .starting ∧ s.boot.claryn = true ∧ s.boot.flooded = true ∧ minimumMet (presentMask s) = false :=
  ⟨2, { boot := { phase := .starting, claryn := true, flooded := true }, present := 1099511627775 }, by decide, by decide, by decide, by decide⟩

theorem witness_StartSequenceReachesRunning_8 :
    ∃ (micros : Nat) (s : State), s.boot.phase = .starting ∧ s.boot.claryn = true ∧ s.boot.flooded = true ∧ minimumMet (presentMask s) = true ∧ stormRule s = true :=
  ⟨0, { witFound with flash := { storms := [10, 5] } }, by first | decide | rfl | simp, by first | decide | rfl | simp, by first | decide | rfl | simp, by decide +kernel, by decide +kernel⟩

theorem witness_StartSequenceReachesRunning_9 :
    ∃ (micros : Nat) (s : State), s.boot.phase = .starting ∧ s.boot.claryn = true ∧ s.boot.flooded = true ∧ minimumMet (presentMask s) = true ∧ stormRule s = false :=
  ⟨0, { witFound with flash := {} }, by first | decide | rfl | simp, by first | decide | rfl | simp, by first | decide | rfl | simp, by decide +kernel, by decide +kernel⟩

theorem witness_StartSequenceReachesRunning_10 :
    ∃ (micros : Nat) (s : State), (s.boot.phase ≠ .starting ∨ s.boot.claryn = false ∨ s.boot.flooded = false) :=
  ⟨2, { boot := { phase := .running }, present := 1099511627775 }, by decide⟩

theorem witness_StartSequenceReachesRunning_11 :
    ∃ (s : State), s.boot.phase = .discovered :=
  ⟨{ boot := { phase := .discovered, claryn := true }, present := 1099511627775 }, by decide⟩

theorem witness_StartSequenceReachesRunning_12 :
    ∃ (micros : Nat) (s : State), s.boot.phase = .zeroed :=
  ⟨0, { boot := { phase := .zeroed, claryn := true }, present := 1099511627775 }, by decide⟩

theorem witness_ClassThreeFaultEntersPackageReset_0 :
    ∃ (code unit detail : Nat) (s : State), faultClass code = 3 ∧ code ≠ 0x0309 ∧ inReset s = false :=
  ⟨809, 1, 2, witRun, by decide, by decide, by decide⟩

theorem witness_ClassThreeFaultEntersPackageReset_1 :
    ∃ (die code unit detail : Nat) (s : State), okDie die = true ∧ diePresent s die = true ∧ faultClass code = 3 :=
  ⟨0, 0x300, 0, 0, witRun, by decide, by decide, by decide⟩

theorem witness_ClassThreeFaultEntersPackageReset_2 :
    ∃ (die code unit detail : Nat) (s : State), okDie die = true ∧ diePresent s die = true ∧ faultClass code = 3 ∧ code ≠ 0x0309 ∧ inReset s = false :=
  ⟨0, 0x300, 0, 0, witRun, by decide, by decide, by decide, by first | decide | rfl | simp, by first | decide | rfl | simp⟩

theorem witness_ClassThreeFaultEntersPackageReset_3 :
    ∃ (code unit detail : Nat) (s : State), faultClass code = 3 ∧ inReset s = true :=
  ⟨0x300, 0, 0, {}, by decide, by decide⟩

theorem witness_ClassThreeFaultEntersPackageReset_4 :
    ∃ (die : Nat) (s : State), okDie die = true ∧ diePresent s die = true :=
  ⟨9, witRun, by decide, by decide⟩

theorem witness_LinkErrorsAreCountedOrFatal_0 :
    ∃ (cd : Nat) (s : State), cd < 6 ∧ cdPresent s cd = true ∧ oget s 0x3123 (cd + 1) + 1 < 2 ^ 64 :=
  ⟨1, witRun, by decide, by decide, by decide⟩

theorem witness_LinkErrorsAreCountedOrFatal_1 :
    ∃ (cd : Nat) (s : State), cd < 6 ∧ cdPresent s cd = true :=
  ⟨0, witRun, by decide, by decide⟩

theorem witness_LinkErrorsAreCountedOrFatal_2 :
    ∃ (i : Nat) (s : State), i < 17 ∧ linkUp s i = true ∧ oget s 0x3121 (i + 1) + 1 < 2 ^ 64 :=
  ⟨0, { witRun with links := [(0, { state := 2 })] }, by decide, by decide, by decide⟩

theorem witness_LinkErrorsAreCountedOrFatal_3 :
    ∃ (i : Nat) (up : Bool) (s : State), i < 17 ∧ linkUp s i = true ∧ (i, up) ∉ s.boot.lastBeat :=
  ⟨0, true, { witRun with links := [(0, { state := 2 })] }, by decide, by decide, by decide⟩

theorem witness_LinkErrorsAreCountedOrFatal_4 :
    ∃ (i : Nat) (up : Bool) (s : State), i < 17 ∧ linkUp s i = true ∧ (i, up) ∉ s.boot.losses :=
  ⟨0, true, { witRun with links := [(0, { state := 2 })] }, by decide, by decide, by decide⟩

theorem witness_LinkErrorsAreCountedOrFatal_5 :
    ∃ (n : Nat) (up : Bool) (s : State), n < 6 ∧ cdPresent s n = true :=
  ⟨0, true, witRun, by decide, by decide⟩

theorem witness_LinkErrorsAreCountedOrFatal_6 :
    ∃ (md agent : Nat) (s : State), md < 6 ∧ snoopOwed s md agent = true :=
  ⟨0, 6, { witRun with coh := { dir := [(2, { st := .tm, owner := 6, sharers := [0, 16400, 774], was := .ts, req := none, snoops := [6], acks := [], fwd := false, vac := [] }), (2, { st := .tm, owner := 6, sharers := [0, 16400, 774], was := .ts, req := none, snoops := [6], acks := [], fwd := false, vac := [] })] } }, by decide, by decide⟩

theorem witness_LinkErrorsAreCountedOrFatal_7 :
    ∃ (md agent : Nat) (s : State), md < 6 ∧ snoopOwed s md agent = true ∧ inReset s = false :=
  ⟨0, 6, { witRun with coh := { dir := [(2, { st := .tm, owner := 6, sharers := [0, 16400, 774], was := .ts, req := none, snoops := [6], acks := [], fwd := false, vac := [] }), (2, { st := .tm, owner := 6, sharers := [0, 16400, 774], was := .ts, req := none, snoops := [6], acks := [], fwd := false, vac := [] })] } }, by decide, by decide, by first | decide | rfl | simp⟩

theorem witness_LaneHealthIsMeasured_0 :
    ∃ (s : State), s.boot.losses = [] :=
  ⟨witRun, by decide⟩

theorem witness_LaneHealthIsMeasured_2 :
    ∃ (i : Nat) (up : Bool) (s : State), i < 17 ∧ linkUp s i = true ∧ (linkAt s i).held = false :=
  ⟨0, true, { witRun with links := [(0, { state := 2 })] }, by decide, by decide, by decide⟩

theorem witness_LaneHealthIsMeasured_3 :
    ∃ (i : Nat) (up : Bool) (lane errors : Nat) (s : State), i < 17 ∧ linkUp s i = true ∧ tget 0 (linkSide (linkAt s i) up).errs lane + errors ≤ (linkAt s i).limit :=
  ⟨0, true, 4, 1, { witRun with links := [(0, { state := 2, limit := 1 })] }, by decide, by decide, by decide⟩

theorem witness_LaneHealthIsMeasured_4 :
    ∃ (i : Nat) (up : Bool) (lane errors : Nat) (s : State), i < 17 ∧ linkUp s i = true ∧ errors ≤ oget s 0x2120 1 :=
  ⟨0, true, 4, 0, { witRun with links := [(0, { state := 3, up := chooseLanes 128 (trainedSide 136 []), down := chooseLanes 128 (trainedSide 136 []) })] }, by first | decide | rfl | simp, by decide +kernel, by first | decide | rfl | simp⟩

theorem witness_LaneHealthIsMeasured_5 :
    ∃ (i : Nat) (up : Bool) (lane m : Nat) (s : State), i < 17 ∧ linkUp s i = true ∧ NoneHeld s ∧ lane ∈ (linkSide (linkAt s i) up).lanes ∧ lane ∉ (linkSide (linkAt s i) up).bad ∧ oget s 0x2120 2 ≤ m :=
  ⟨0, true, 4, 1000, { witRun with links := [(0, { state := 3, up := chooseLanes 128 (trainedSide 136 []), down := chooseLanes 128 (trainedSide 136 []) })] }, by first | decide | rfl | simp, by decide +kernel, by unfold NoneHeld; decide, by decide +kernel, by decide +kernel, by first | decide | rfl | simp⟩

theorem witness_FailingLanesAreReplacedAndLinksRecover_0 :
    ∃ (i : Nat) (up : Bool) (lane sp : Nat) (r : List Nat) (s : State), i < 17 ∧ linkUp s i = true ∧ NoneHeld s ∧ lane ∈ (linkSide (linkAt s i) up).lanes ∧ lane ∉ (linkSide (linkAt s i) up).bad ∧ (linkSide (linkAt s i) up).spares = sp :: r ∧ sp ≠ lane ∧ s.faults.windows = [] ∧ inReset s = false ∧ (linkAt s i).replacing = none ∧ 64 ≤ leftLanes (linkAt s i) up lane ∧ linkWidth (linkAt s i) ≤ healthy (retireLane lane (linkSide (linkAt s i) up)) :=
  ⟨0, true, 4, 128, _, { witRun with links := [(0, { state := 3, up := chooseLanes 128 (trainedSide 136 []), down := chooseLanes 128 (trainedSide 136 []) })] }, by first | decide | rfl | simp, by first | decide | rfl | simp, by unfold NoneHeld; decide, by decide +kernel, by decide +kernel, rfl, by first | decide | rfl | simp, by first | decide | rfl | simp, by first | decide | rfl | simp, by first | decide | rfl | simp, by decide +kernel, by decide +kernel⟩

theorem witness_FailingLanesAreReplacedAndLinksRecover_1 :
    ∃ (i : Nat) (up : Bool) (lane : Nat) (s : State), i < 17 ∧ linkUp s i = true ∧ NoneHeld s ∧ hasLane (linkSide (linkAt s i) up) lane = true ∧ s.faults.windows = [] ∧ inReset s = false ∧ 64 ≤ leftLanes (linkAt s i) up lane ∧ healthy (retireLane lane (linkSide (linkAt s i) up)) < linkWidth (linkAt s i) :=
  ⟨0, true, 4, { witRun with links := [(0, { state := 3, up := chooseLanes 128 (trainedSide 136 [5, 6, 7, 8, 9, 10, 11, 12]), down := chooseLanes 128 (trainedSide 136 []) })] }, by first | decide | rfl | simp, by first | decide | rfl | simp, by unfold NoneHeld; decide, by decide +kernel, by first | decide | rfl | simp, by first | decide | rfl | simp, by decide +kernel, by decide +kernel⟩

theorem witness_FailingLanesAreReplacedAndLinksRecover_2 :
    ∃ (i : Nat) (up : Bool) (lane : Nat) (s : State), i < 17 ∧ linkUp s i = true ∧ NoneHeld s ∧ hasLane (linkSide (linkAt s i) up) lane = true ∧ s.faults.windows = [] ∧ inReset s = false ∧ leftLanes (linkAt s i) up lane < 64 :=
  ⟨0, false, 63, { witRun with links := [(0, { state := 2, up := trainedSide 64 [], down := trainedSide 64 [] })] }, by first | decide | rfl | simp, by first | decide | rfl | simp, by unfold NoneHeld; decide, by decide +kernel, by first | decide | rfl | simp, by first | decide | rfl | simp, by decide +kernel⟩

theorem witness_FailingLanesAreReplacedAndLinksRecover_3 :
    ∃ (i : Nat) (s : State) (up : Bool) (lane sp : Nat), i < 17 ∧ (linkAt s i).replacing = some (up, lane, sp) ∧ (linkAt s i).queue = [] :=
  ⟨0, { witRun with links := [(0, { state := 3, replacing := some (true, 5, 128), up := { lanes := [5], spares := [128] } })] }, true, 5, 128, by first | decide | rfl | simp, by first | decide | rfl | simp, by first | decide | rfl | simp⟩

theorem witness_FailingLanesAreReplacedAndLinksRecover_4 :
    ∃ (i : Nat) (s : State) (up : Bool) (lane sp k : Nat) (f : Bool × Nat) (r : List (Bool × Nat)), i < 17 ∧ (linkAt s i).replacing = some (up, lane, sp) ∧ (linkAt s i).queue = f :: r ∧ (linkSide (setLinkSide (linkAt s i) up (switchLane lane sp (linkSide (linkAt s i) up))) f.1).spares.head? = some k :=
  ⟨0, { witRun with links := [(0, { state := 3, replacing := some (true, 5, 128), queue := [(false, 6)], up := { lanes := [5], spares := [128] }, down := { lanes := [6], spares := [129] } })] }, true, 5, 128, 129, (false, 6), [], by first | decide | rfl | simp, by first | decide | rfl | simp, by first | decide | rfl | simp, by first | decide | rfl | simp⟩

theorem witness_FailingLanesAreReplacedAndLinksRecover_5 :
    ∃ (i : Nat) (s : State), i < 17 ∧ (linkAt s i).retraining = true ∧ s.faults.deferred = [] :=
  ⟨0, { witRun with links := [(0, { retraining := true })] }, by decide, by decide, by decide⟩

theorem witness_FailingLanesAreReplacedAndLinksRecover_6 :
    ∃ (i : Nat) (s : State), i < 17 ∧ i ∈ s.pendAlt ∧ (linkAt s i).state = 1 ∧ s.faults.deferred = [] :=
  ⟨0, { witRun with links := [(0, { state := 1 })], pendAlt := [0, 0] }, by decide, by decide, by decide, by decide⟩

theorem witness_TimedOutRequestIsReported_0 :
    ∃ (p pa : Nat) (item : Option Nat) (s : State), p < 4 ∧ pcieUp s p = true :=
  ⟨0, 4, none, { witRun with pcie := [(0, { rate := 1 })] }, by decide, by decide⟩

theorem witness_TimedOutRequestIsReported_1 :
    ∃ (p pa : Nat) (item : Option Nat) (s : State), p < 4 ∧ pcieUp s p = false :=
  ⟨3, 4, none, witRun, by first | decide | rfl | simp, by first | decide | rfl | simp⟩

theorem witness_TimedOutRequestIsReported_2 :
    ∃ (k n pa : Nat) (item : Option Nat) (s : State), (k = 4 ∧ n < 24 ∨ k = 8 ∧ n = 0 ∨ k = 9 ∧ n < 16) :=
  ⟨9, 15, 7, none, witRun, by first | decide | rfl | simp⟩

theorem witness_TimedOutRequestIsReported_3 :
    ∃ (tc pa n : Nat) (item : Option Nat) (s : State), tc < 192 ∧ (tcAt s tc).item = some n ∧ (tcAt s tc).stopped = false ∧ (tcAt s tc).done = none ∧ (∀ p, p < 4 → ∀ r ∈ (pcieAt s p).reads, ¬(r.dma = true ∧ r.ac = tc ∧ r.pa = pa)) ∧ (∀ q ∈ s.chips.pend, ¬(q.ac = tc ∧ q.pa = pa)) :=
  ⟨0, 4, 0, none, witState {}, by first | decide | rfl | simp, by first | decide | rfl | simp, by first | decide | rfl | simp, by first | decide | rfl | simp, by first | decide | rfl | simp, by first | decide | rfl | simp⟩

theorem witness_TimedOutRequestIsReported_4 :
    ∃ (tc pa : Nat) (item : Option Nat) (s : State), tc < 192 ∧ (tcAt s tc).item = none ∧ (∀ p, p < 4 → ∀ r ∈ (pcieAt s p).reads, ¬(r.dma = true ∧ r.ac = tc ∧ r.pa = pa)) ∧ (∀ q ∈ s.chips.pend, ¬(q.ac = tc ∧ q.pa = pa)) :=
  ⟨191, 4, none, witRun, by first | decide | rfl | simp, by first | decide | rfl | simp, by first | decide | rfl | simp, by first | decide | rfl | simp⟩

theorem witness_TimedOutRequestIsReported_5 :
    ∃ (ac pa x : Nat) (item : Option Nat) (s : State), ac < 128 ∧ acLive s ac = true ∧ localAddr s pa = some x ∧ (∀ p, p < 4 → ∀ r ∈ (pcieAt s p).reads, ¬(r.dma = false ∧ r.ac = ac ∧ r.pa = pa)) ∧ (∀ q ∈ s.chips.pend, ¬(q.ac = ac ∧ q.pa = pa)) :=
  ⟨0, 256, 256, none, { witRun with cores := [(0, { on := true })] }, by first | decide | rfl | simp, by first | decide | rfl | simp, by first | decide | rfl | simp, by first | decide | rfl | simp, by first | decide | rfl | simp⟩

theorem witness_TimedOutRequestIsReported_6 :
    ∃ (n pa : Nat) (it : Item) (s : State), itemAt s n = some it :=
  ⟨0, 7, _, { items := [(0, { witItem with phase := .walking })] }, by rfl⟩

theorem witness_TimedOutRequestIsReported_7 :
    ∃ (pa : Nat) (s : State), s.queues = [] ∧ s.rqs = [] :=
  ⟨4, { witRun with pcie := [(0, { rate := 1 })] }, by first | decide | rfl | simp, by first | decide | rfl | simp⟩

theorem witness_TimedOutRequestIsReported_9 :
    ∃ (pa : Nat) (item : Option Nat) (s : State), nextDelivery s = none :=
  ⟨7, none, witRun, by first | decide | rfl | simp⟩

theorem witness_TimedOutRequestIsReported_10 :
    ∃ (pa n : Nat) (item : Option Nat) (s : State), nextDelivery s = some n ∧ writesRecord s n = true :=
  ⟨4, 0, none, { witRun with regs := [(scReg 0x1000, 0x100000)], sc := { src := [(0, { cfg := 0x300000009, pend := true })] } }, by first | decide | rfl | simp, by first | decide | rfl | simp⟩

theorem witness_PacerMovesRegionsAndReadsItsItem_0 :
    ∃ (tc n : Nat) (it : Item) (rd rs1 : BitVec 5) (s : State), PacerReady s tc n it 4 (.psetq tc rd rs1 0) ∧ rd.toNat < 16 :=
  ⟨0, 0, witItem, 1, 1, witState {}, by unfold PacerReady; decide, by decide⟩

theorem witness_PacerMovesRegionsAndReadsItsItem_1 :
    ∃ (tc n : Nat) (it : Item) (rd rs1 : BitVec 5) (s : State), PacerReady s tc n it 4 (.pgetq tc rd rs1 0) ∧ rs1.toNat < 16 :=
  ⟨0, 0, witItem, 1, 1, witState {}, by unfold PacerReady; decide, by decide⟩

theorem witness_PacerMovesRegionsAndReadsItsItem_2 :
    ∃ (tc n : Nat) (it : Item) (rd rs1 : BitVec 5) (s : State), PacerReady s tc n it 4 (.pqadd tc rd rs1 0) ∧ rd.toNat < 16 :=
  ⟨0, 0, witItem, 1, 1, witState {}, by unfold PacerReady; decide, by decide⟩

theorem witness_PacerMovesRegionsAndReadsItsItem_3 :
    ∃ (tc n : Nat) (it : Item) (rd : BitVec 5) (s : State), PacerReady s tc n it 4 (.ptag tc rd 0 0) :=
  ⟨0, 0, witItem, 1, witState {}, by unfold PacerReady; decide⟩

theorem witness_PacerMovesRegionsAndReadsItsItem_4 :
    ∃ (tc n : Nat) (it : Item) (o : OpSlot) (rd rs1 : BitVec 5) (s : State), PacerReady s tc n it 4 (.prdop tc rd rs1 0) ∧ itemSlot it (fld 3 0 (xReg (tcAt s tc) rs1.toNat)) = some o ∧ fld 7 4 (xReg (tcAt s tc) rs1.toNat) = 0 ∧ fld 63 12 (xReg (tcAt s tc) rs1.toNat) = 0 :=
  ⟨0, 0, witItem, _, 1, 1, witState {}, by unfold PacerReady; decide, rfl, by decide, by decide⟩

theorem witness_PacerMovesRegionsAndReadsItsItem_5 :
    ∃ (tc n : Nat) (it : Item) (rd rs1 : BitVec 5) (s : State), PacerReady s tc n it 4 (.pperf tc rd rs1 0) ∧ (xReg (tcAt s tc) rs1.toNat).toNat < 4 :=
  ⟨0, 0, witItem, 1, 1, witState {}, by unfold PacerReady; decide, by decide⟩

theorem witness_PacerMovesRegionsAndReadsItsItem_6 :
    ∃ (tc n : Nat) (it : Item) (rd rs1 : BitVec 5) (s : State), PacerReady s tc n it 4 (.pperf tc rd rs1 0) ∧ ((xReg (tcAt s tc) rs1.toNat).toNat = 4 ∨ (xReg (tcAt s tc) rs1.toNat).toNat = 5) :=
  ⟨0, 0, witItem, 1, 1, witState { x := [(1, 4)] }, by unfold PacerReady; decide, by decide⟩

theorem witness_PacerMovesRegionsAndReadsItsItem_7 :
    ∃ (tc n : Nat) (it : Item) (rd rs1 : BitVec 5) (l : Latch × Item) (u s : State), PacerReady s tc n it 4 (.psqrd tc rd rs1 0) ∧ l = useLatch s it (fld 5 0 (xReg (tcAt s tc) rs1.toNat)) ∧ u = { s with items := aput s.items n l.2 } ∧ fld 7 6 (xReg (tcAt s tc) rs1.toNat) = 0 ∧ fld 63 12 (xReg (tcAt s tc) rs1.toNat) = 0 ∧ slotBound s (fld 5 0 (xReg (tcAt s tc) rs1.toNat)) it.ctx = true :=
  ⟨0, 0, witItem, 1, 1, _, _, { witState {} with slots := [(0, { ctl := 0x10001 })], batons := [(0, { ctl := 0x10001 })] }, by unfold PacerReady; decide, by first | decide | rfl | simp, by first | decide | rfl | simp, by decide, by decide, by decide⟩

theorem witness_PacerMovesRegionsAndReadsItsItem_8 :
    ∃ (tc n : Nat) (it jt : Item) (rs1 rs2 : BitVec 5) (s : State), PacerReady s tc n it 4 (.psqadv tc 0 rs1 rs2) ∧ jt = (useLatch s it (xReg (tcAt s tc) rs1.toNat).toNat).2 ∧ (xReg (tcAt s tc) rs1.toNat).toNat < 64 ∧ slotBound s (xReg (tcAt s tc) rs1.toNat).toNat it.ctx = true :=
  ⟨0, 0, witItem, _, 1, 1, { witState {} with slots := [(0, { ctl := 0x10001 })], batons := [(0, { ctl := 0x10001 })] }, by unfold PacerReady; decide, by first | decide | rfl | simp, by decide, by decide⟩

theorem witness_PacerMovesRegionsAndReadsItsItem_9 :
    ∃ (tc n : Nat) (it : Item) (rs1 : BitVec 5) (s : State), PacerReady s tc n it 4 (.pdone tc 0 rs1 0) ∧ (tcAt s tc).sb = [] :=
  ⟨0, 0, witItem, 1, witState {}, by unfold PacerReady; decide, by decide⟩

theorem witness_PacerMovesRegionsAndReadsItsItem_10 :
    ∃ (tc n : Nat) (it : Item) (rs1 : BitVec 5) (s : State), PacerReady s tc n it 4 (.pdone tc 0 rs1 0) ∧ (tcAt s tc).sb ≠ [] :=
  ⟨0, 0, witItem, 1, witState { sb := [plainOp .mzero 0 0] }, by unfold PacerReady; decide, by decide⟩

theorem witness_PacerWaitsAndSignalsBatons_0 :
    ∃ (tc n : Nat) (it : Item) (rs1 : BitVec 5) (s : State), PacerReady s tc n it 4 (.pwait tc 0 rs1 0) ∧ inFlight (tcAt s tc) (xReg (tcAt s tc) rs1.toNat) = false :=
  ⟨0, 0, witItem, 1, witState {}, by unfold PacerReady; decide, by decide⟩

theorem witness_PacerWaitsAndSignalsBatons_1 :
    ∃ (tc n : Nat) (it : Item) (rs1 : BitVec 5) (s : State), PacerReady s tc n it 4 (.pwait tc 0 rs1 0) ∧ inFlight (tcAt s tc) (xReg (tcAt s tc) rs1.toNat) = true :=
  ⟨0, 0, witItem, 1, witState { sb := [plainOp .mzero 0 0] }, by unfold PacerReady; decide, by decide⟩

theorem witness_PacerWaitsAndSignalsBatons_2 :
    ∃ (tc n : Nat) (it : Item) (rs2 : BitVec 5) (s : State), PacerReady s tc n it 4 (.pfence tc 0 0 rs2) ∧ rs2.toNat < 16 ∧ (∀ o ∈ (tcAt s tc).sb, (if rs2 = 0 then 15 else rs2.toNat).testBit (engQueue o.eng) = false) :=
  ⟨0, 0, witItem, 1, witState {}, by unfold PacerReady; decide, by decide, by first | decide | simp | (intros; simp_all)⟩

theorem witness_PacerWaitsAndSignalsBatons_3 :
    ∃ (tc n : Nat) (it : Item) (rs2 : BitVec 5) (s : State) (o : Op), PacerReady s tc n it 4 (.pfence tc 0 0 rs2) ∧ rs2.toNat < 16 ∧ o ∈ (tcAt s tc).sb ∧ (if rs2 = 0 then 15 else rs2.toNat).testBit (engQueue o.eng) = true :=
  ⟨0, 0, witItem, 0, witState { sb := [plainOp .mzero 0 0] }, plainOp .mzero 0 0, by unfold PacerReady; decide, by decide, by decide, by decide⟩

theorem witness_PacerWaitsAndSignalsBatons_4 :
    ∃ (tc n : Nat) (it : Item) (rd rs1 : BitVec 5) (s : State), PacerReady s tc n it 4 (.pstat tc rd rs1 0) :=
  ⟨0, 0, witItem, 1, 1, witState {}, by unfold PacerReady; decide⟩

theorem witness_PacerWaitsAndSignalsBatons_5 :
    ∃ (tc n : Nat) (it : Item) (rs1 rs2 : BitVec 5) (s : State), PacerReady s tc n it 4 (.pbsig tc 0 rs1 rs2) ∧ (xReg (tcAt s tc) rs1.toNat).toNat < 8192 ∧ fld 63 32 (xReg (tcAt s tc) rs2.toNat) = 0 ∧ batonWordOk ((xReg (tcAt s tc) rs2.toNat).truncate 32) = true ∧ batonBound s (xReg (tcAt s tc) rs1.toNat).toNat it.ctx = true ∧ roomFor (tcAt s tc) .pbsig = true :=
  ⟨0, 0, witItem, 1, 1, { witState {} with slots := [(0, { ctl := 0x10001 })], batons := [(0, { ctl := 0x10001 })] }, by unfold PacerReady; decide, by decide, by decide, by decide, by decide, by decide⟩

theorem witness_PacerWaitsAndSignalsBatons_6 :
    ∃ (tc n : Nat) (it : Item) (rd rs1 rs2 : BitVec 5) (s : State), PacerReady s tc n it 4 (.pbwait tc rd rs1 rs2) ∧ (xReg (tcAt s tc) rs1.toNat).toNat < 8192 ∧ condWordOk (xReg (tcAt s tc) rs2.toNat) = true ∧ batonBound s (xReg (tcAt s tc) rs1.toNat).toNat it.ctx = true ∧ condHolds (xReg (tcAt s tc) rs2.toNat) (batonAt s (xReg (tcAt s tc) rs1.toNat).toNat).value = true :=
  ⟨0, 0, witItem, 1, 1, 1, { witState {} with slots := [(0, { ctl := 0x10001 })], batons := [(0, { ctl := 0x10001 })] }, by unfold PacerReady; decide, by decide, by decide, by decide, by decide⟩

theorem witness_PacerWaitsAndSignalsBatons_7 :
    ∃ (tc n : Nat) (it : Item) (rd rs1 rs2 : BitVec 5) (s : State), PacerReady s tc n it 4 (.pbwait tc rd rs1 rs2) ∧ (xReg (tcAt s tc) rs1.toNat).toNat < 8192 ∧ condWordOk (xReg (tcAt s tc) rs2.toNat) = true ∧ batonBound s (xReg (tcAt s tc) rs1.toNat).toNat it.ctx = true ∧ condHolds (xReg (tcAt s tc) rs2.toNat) (batonAt s (xReg (tcAt s tc) rs1.toNat).toNat).value = false :=
  ⟨0, 0, witItem, 1, 1, 2, { witState { x := [(2, 0x100000000)] } with slots := [(0, { ctl := 0x10001 })], batons := [(0, { ctl := 0x10001 })] }, by unfold PacerReady; decide, by decide, by decide, by decide, by decide⟩

theorem witness_PacerAccessesTheLocalMap_0 :
    ∃ (tc n : Nat) (it : Item) (f3 : BitVec 3) (rd rs1 : BitVec 5) (imm : BitVec 12) (a : Nat) (s : State), PacerReady s tc n it 4 (.pacerLoad tc false f3 rd rs1 imm) ∧ f3 ≠ 7 ∧ a = (xReg (tcAt s tc) rs1.toNat + imm.signExtend 64).toNat ∧ (inTile a (2 ^ (f3.toNat % 4)) || inPram a (2 ^ (f3.toNat % 4)) || inParam a (2 ^ (f3.toNat % 4))) = true ∧ a % 2 ^ (f3.toNat % 4) = 0 ∧ accessWaits (tcAt s tc) a (2 ^ (f3.toNat % 4)) false = false :=
  ⟨0, 0, witItem, 0, 1, 1, 0, _, witState {}, by unfold PacerReady; decide, by decide, rfl, by decide, by decide, by decide⟩

theorem witness_PacerAccessesTheLocalMap_1 :
    ∃ (tc n : Nat) (it : Item) (f3 : BitVec 3) (rs1 rs2 : BitVec 5) (imm : BitVec 12) (a : Nat) (s : State), PacerReady s tc n it 4 (.pacerStore tc false f3 rs1 rs2 imm) ∧ f3.toNat < 4 ∧ a = (xReg (tcAt s tc) rs1.toNat + imm.signExtend 64).toNat ∧ inTile a (2 ^ f3.toNat) = true ∧ a % 2 ^ f3.toNat = 0 ∧ accessWaits (tcAt s tc) a (2 ^ f3.toNat) true = false :=
  ⟨0, 0, witItem, 3, 1, 1, 8, _, witState {}, by unfold PacerReady; decide, by decide, rfl, by decide, by decide, by decide⟩

theorem witness_PacerAccessesTheLocalMap_2 :
    ∃ (tc n : Nat) (it : Item) (rd rs1 rs2 : BitVec 5) (a : Nat) (s : State), PacerReady s tc n it 4 (.pacerAtomic tc 0 3 rd rs1 rs2) ∧ a = (xReg (tcAt s tc) rs1.toNat).toNat ∧ inTile a 8 = true ∧ a % 8 = 0 ∧ accessWaits (tcAt s tc) a 8 true = false :=
  ⟨0, 0, witItem, 1, 1, 1, _, witState {}, by unfold PacerReady; decide, rfl, by decide, by decide, by decide⟩

theorem witness_PacerAccessesTheLocalMap_3 :
    ∃ (tc n : Nat) (it : Item) (rd rs1 : BitVec 5) (imm : BitVec 12) (s : State), PacerReady s tc n it 4 (.pacerScalarOp tc (imm ++ rs1 ++ (0 : BitVec 3) ++ rd ++ (0x13 : BitVec 7))) :=
  ⟨0, 0, witItem, 1, 1, 5, witState {}, by unfold PacerReady; decide⟩

theorem witness_PacerAccessesTheLocalMap_6 :
    ∃ (tc n : Nat) (it : Item) (s : State), PacerReady s tc n it 4 (.pacerScalarOp tc 0x7F) :=
  ⟨0, 0, witItem, witState {}, ⟨by decide, rfl, rfl, by decide, .inl (by decide), by decide, by decide⟩⟩

theorem witness_PacerControlAndFaults_0 :
    ∃ (tc n : Nat) (it : Item) (rd : BitVec 5) (s : State), PacerReady s tc n it 4 (.pacerCsrAccess tc 2 0xC02 rd 0) :=
  ⟨0, 0, witItem, 1, witState {}, by unfold PacerReady; decide⟩

theorem witness_PacerControlAndFaults_1 :
    ∃ (tc n : Nat) (it : Item) (rs1 : BitVec 5) (s : State), PacerReady s tc n it 4 (.pacerCsrAccess tc 1 0x800 0 rs1) :=
  ⟨0, 0, witItem, 1, witState {}, by unfold PacerReady; decide⟩

theorem witness_PacerControlAndFaults_2 :
    ∃ (tc n : Nat) (it : Item) (s : State), PacerReady s tc n it 4 (.ebreak tc false) ∧ 2 ≤ s.sec.debug :=
  ⟨0, 0, witItem, { witState {} with sec := { debug := 2 } }, by unfold PacerReady; decide, by decide⟩

theorem witness_PacerControlAndFaults_3 :
    ∃ (tc n : Nat) (it : Item) (s : State), PacerReady s tc n it 4 (.ebreak tc false) ∧ s.sec.debug < 2 :=
  ⟨0, 0, witItem, witState {}, by unfold PacerReady; decide, by decide⟩

theorem witness_PacerControlAndFaults_4 :
    ∃ (tc n : Nat) (it : Item) (s : State), PacerReady s tc n it 4 (.ecall tc) :=
  ⟨0, 0, witItem, witState {}, by unfold PacerReady; decide⟩

theorem witness_PacerControlAndFaults_5 :
    ∃ (tc n : Nat) (it : Item) (s : State), PacerReady s tc n it 4 (.pfret tc 0 0 0) ∧ (tcAt s tc).inHandler = true :=
  ⟨0, 0, witItem, witState { inHandler := true }, by unfold PacerReady; decide, by decide⟩

theorem witness_PacerControlAndFaults_6 :
    ∃ (tc n : Nat) (it : Item) (rd rs1 rs2 : BitVec 5) (s : State), PacerReady s tc n it 4 (.psetq tc rd rs1 rs2) ∧ (rs2 ≠ 0 ∨ 16 ≤ rd.toNat) :=
  ⟨0, 0, witItem, 1, 1, 1, witState {}, by unfold PacerReady; decide, by decide⟩

theorem witness_MatrixOperationsAreIssued_0 :
    ∃ (tc n : Nat) (it : Item) (m : BitVec 2) (qa : BitVec 4) (c : TCore) (w : W64) (r : Region) (s : State), PacerReady s tc n it 4 (.mldw tc m 0 0 qa 0) ∧ c = tcAt s tc ∧ w = qReg c qa.toNat ∧ r = regionOf w ∧ roomFor c .mldw = true ∧ RegionOk w ∧ Unmasked w ∧ fmtArith r.fmt = true ∧ r.rows ≤ 128 ∧ r.cols ≤ 128 :=
  ⟨0, 0, witItem, 0, 1, _, _, _, witState { q := [(1, witReg 4 4 8 9)] }, by unfold PacerReady; decide, rfl, rfl, rfl, by decide, by unfold RegionOk; decide, by unfold Unmasked; decide, by decide, by decide, by decide⟩

theorem witness_MatrixOperationsAreIssued_1 :
    ∃ (tc n : Nat) (it : Item) (m : BitVec 2) (qa : BitVec 4) (c : TCore) (w : W64) (r : Region) (b : Nat × Nat × Nat) (s : State), PacerReady s tc n it 4 (.mmul tc m 0 0 qa 0) ∧ c = tcAt s tc ∧ w = qReg c qa.toNat ∧ r = regionOf w ∧ roomFor c .mmul = true ∧ RegionOk w ∧ Unmasked w ∧ b = (if m.toNat % 2 = 0 then c.w0Issue else c.w1Issue) ∧ r.fmt = b.2.2 ∧ r.cols = b.1 ∧ r.rows ≤ 128 ∧ (2 ≤ m.toNat ∨ c.accIntIssue = fmtIsInt r.fmt) :=
  ⟨0, 0, witItem, 0, 1, _, _, _, _, witState { q := [(1, witReg 4 128 8 9)] }, by unfold PacerReady; decide, rfl, rfl, rfl, by decide, by unfold RegionOk; decide, by unfold Unmasked; decide, rfl, by decide, by decide, by decide, by decide⟩

theorem witness_MatrixOperationsAreIssued_2 :
    ∃ (tc n : Nat) (it : Item) (xs : BitVec 5) (qb qa qd : BitVec 4) (c : TCore) (ctl a b d : W64) (s : State), PacerReady s tc n it 4 (.mrd tc 0 xs qb qa qd) ∧ c = tcAt s tc ∧ ctl = xReg c xs.toNat ∧ a = qReg c qa.toNat ∧ b = qReg c qb.toNat ∧ d = qReg c qd.toNat ∧ roomFor c .mrd = true ∧ fld 63 35 ctl = 0 ∧ RegionOk d ∧ Unmasked d ∧ (regionOf d).rows ≤ 128 ∧ (regionOf d).cols ≤ 128 ∧ mrdFmtOk c.accIntIssue (bit 33 ctl || bit 32 ctl) (regionOf d).fmt = true ∧ (bit 33 ctl = true → RegionOk a ∧ Unmasked a ∧ (regionOf a).fmt = 8 ∧ (regionOf a).rows = 1 ∧ (regionOf a).cols = (regionOf d).cols) ∧ (bit 34 ctl = true → RegionOk b ∧ Unmasked b ∧ ((regionOf b).fmt = 11 ∨ (regionOf b).fmt = 9) ∧ (regionOf b).rows = 1 ∧ (regionOf b).cols = 264) :=
  ⟨0, 0, witItem, 0, 0, 0, 1, _, _, _, _, _, witState { q := [(1, witReg 4 4 8 9)] }, by unfold PacerReady; decide, rfl, rfl, rfl, rfl, rfl, by decide, by decide, by unfold RegionOk; decide, by unfold Unmasked; decide, by decide, by decide, by decide, fun h => absurd h (by decide), fun h => absurd h (by decide)⟩

theorem witness_MatrixOperationsAreIssued_3 :
    ∃ (tc n : Nat) (it : Item) (qa : BitVec 4) (c : TCore) (w : W64) (r : Region) (s : State), PacerReady s tc n it 4 (.mlda tc 0 0 0 qa 0) ∧ c = tcAt s tc ∧ w = qReg c qa.toNat ∧ r = regionOf w ∧ roomFor c .mlda = true ∧ RegionOk w ∧ Unmasked w ∧ (r.fmt = 8 ∨ r.fmt = 9) ∧ r.rows ≤ 128 ∧ r.cols ≤ 128 :=
  ⟨0, 0, witItem, 1, _, _, _, witState { q := [(1, witReg 4 4 8 9)] }, by unfold PacerReady; decide, rfl, rfl, rfl, by decide, by unfold RegionOk; decide, by unfold Unmasked; decide, by decide, by decide, by decide⟩

theorem witness_MatrixOperationsAreIssued_4 :
    ∃ (tc n : Nat) (it : Item) (m : BitVec 2) (c : TCore) (s : State), PacerReady s tc n it 4 (.mzero tc m 0 0 0 0) ∧ c = tcAt s tc ∧ m.toNat ≤ 1 ∧ roomFor c .mzero = true :=
  ⟨0, 0, witItem, 1, _, witState {}, by unfold PacerReady; decide, rfl, by decide, by decide⟩

theorem witness_VectorOperationsAreIssued_0 :
    ∃ p ∈ ([(.vadd, .vadd), (.vsub, .vsub), (.vmul, .vmul), (.vfma, .vfma), (.vmin, .vmin), (.vmax, .vmax), (.vceq, .vceq), (.vclt, .vclt), (.vcle, .vcle), (.vfun, .vfun)] : List (EngOp × (Nat → BitVec 2 → BitVec 5 → BitVec 4 → BitVec 4 → BitVec 4 → Instr))), ∃ (tc n : Nat) (it : Item) (m : BitVec 2) (xs : BitVec 5) (qb qa qd : BitVec 4) (c : TCore) (ctl a b d : W64) (s : State), PacerReady s tc n it 4 (p.2 tc m xs qb qa qd) ∧ c = tcAt s tc ∧ ctl = xReg c xs.toNat ∧ a = qReg c qa.toNat ∧ b = qReg c qb.toNat ∧ d = qReg c qd.toNat ∧ roomFor c p.1 = true ∧ RegionOk a ∧ RegionOk d ∧ MaskOk c a ∧ MaskOk c d ∧ binFmtOk p.1 (regionOf a).fmt = true ∧ (regionOf d).fmt = (if isCompare p.1 then 12 else (regionOf a).fmt) ∧ (regionOf a).rows = (regionOf d).rows ∧ (regionOf a).cols = (regionOf d).cols ∧ (if m.toNat = 1 then qb = 0 else p.1 = .vfun ∨ xs = 0) ∧ (m.toNat ≠ 1 → RegionOk b ∧ MaskOk c b ∧ (regionOf b).fmt = (regionOf a).fmt ∧ secondShape m.toNat (regionOf a) (regionOf b) = true) ∧ (p.1 = .vfun → fld 3 0 ctl < 12 ∧ fld 31 4 ctl = 0 ∧ (m.toNat ≠ 1 → fld 63 32 ctl = 0)) :=
  ⟨_, List.mem_cons_self, 0, 0, witItem, 0, 0, 2, 1, 3, _, _, _, _, _, witState { q := [(1, witReg 4 4 8 9), (2, witReg 4 4 8 9), (3, witReg 4 4 8 9)] }, ⟨by decide, rfl, rfl, by decide, .inl (by decide), by decide, by decide⟩, rfl, rfl, rfl, rfl, rfl, by first | decide | rfl | simp, ⟨by decide, by decide⟩, ⟨by decide, by decide⟩, fun h => absurd h (by decide), fun h => absurd h (by decide), by first | decide | rfl | simp, rfl, rfl, rfl, .inr rfl, fun _ => ⟨⟨by decide, by decide⟩, fun h => absurd h (by decide), by decide, by decide⟩, fun h => absurd h (by decide)⟩

theorem witness_VectorOperationsAreIssued_1 :
    ∃ (tc n : Nat) (it : Item) (qa qd : BitVec 4) (c : TCore) (a d : W64) (s : State), PacerReady s tc n it 4 (.vmov tc 0 0 0 qa qd) ∧ c = tcAt s tc ∧ a = qReg c qa.toNat ∧ d = qReg c qd.toNat ∧ roomFor c .vmov = true ∧ RegionOk a ∧ RegionOk d ∧ MaskOk c a ∧ MaskOk c d ∧ (regionOf d).fmt ≠ 12 ∧ (regionOf a).fmt = (regionOf d).fmt ∧ (regionOf a).rows = (regionOf d).rows ∧ (regionOf a).cols = (regionOf d).cols :=
  ⟨0, 0, witItem, 1, 3, _, _, _, witState { q := [(1, witReg 4 4 8 9), (2, witReg 4 4 8 9), (3, witReg 4 4 8 9)] }, ⟨by decide, rfl, rfl, by decide, .inl (by decide), by decide, by decide⟩, rfl, rfl, rfl, by decide, by unfold RegionOk; decide, by unfold RegionOk; decide, fun h => absurd h (by decide), by unfold MaskOk RegionOk; decide, by decide, by decide, by decide, by decide⟩

theorem witness_VectorOperationsAreIssued_2 :
    ∃ (tc n : Nat) (it : Item) (xs : BitVec 5) (qd : BitVec 4) (c : TCore) (d : W64) (s : State), PacerReady s tc n it 4 (.vmov tc 1 xs 0 0 qd) ∧ c = tcAt s tc ∧ d = qReg c qd.toNat ∧ roomFor c .vmov = true ∧ RegionOk d ∧ MaskOk c d ∧ (regionOf d).fmt ≠ 12 :=
  ⟨0, 0, witItem, 0, 3, _, _, witState { q := [(1, witReg 4 4 8 9), (2, witReg 4 4 8 9), (3, witReg 4 4 8 9)] }, by unfold PacerReady; decide, rfl, rfl, by decide, by unfold RegionOk; decide, by unfold MaskOk RegionOk; decide, by decide⟩

theorem witness_VectorOperationsAreIssued_3 :
    ∃ p ∈ ([(.vcvt, .vcvt), (.vscan, .vscan), (.vexpd, .vexpd), (.vtrn, .vtrn), (.vred, .vred)] : List (EngOp × (Nat → BitVec 2 → BitVec 5 → BitVec 4 → BitVec 4 → BitVec 4 → Instr))), ∃ (tc n : Nat) (it : Item) (xs : BitVec 5) (qa qd : BitVec 4) (c : TCore) (wa wd : W64) (a d : Region) (s : State), PacerReady s tc n it 4 (p.2 tc 0 xs 0 qa qd) ∧ c = tcAt s tc ∧ wa = qReg c qa.toNat ∧ wd = qReg c qd.toNat ∧ a = regionOf wa ∧ d = regionOf wd ∧ roomFor c p.1 = true ∧ RegionOk wa ∧ RegionOk wd ∧ MaskOk c wa ∧ (match p.1 with | .vcvt => xs = 0 ∧ MaskOk c wd ∧ cvtFmt a.fmt = true ∧ cvtFmt d.fmt = true ∧ a.rows = d.rows ∧ a.cols = d.cols | .vscan => xs = 0 ∧ Unmasked wd ∧ isFmt3 a.fmt = true ∧ d.fmt = 8 ∧ a.rows = d.rows ∧ a.cols = d.cols | .vexpd => xs = 0 ∧ MaskOk c wd ∧ a.fmt ≠ 12 ∧ a.fmt = d.fmt ∧ a.rows = d.rows ∧ a.cols = d.cols | .vtrn => xs = 0 ∧ Unmasked wd ∧ a.fmt = d.fmt ∧ 8 ≤ fmtBits a.fmt ∧ a.rows ≤ 128 ∧ a.cols ≤ 128 ∧ d.rows = a.cols ∧ d.cols = a.rows | _ => Unmasked wd ∧ isFmt4 a.fmt = true ∧ (d.fmt = 8 ∨ (d.fmt = 9 ∧ a.fmt = 9)) ∧ d.rows = a.rows ∧ d.cols = 1 ∧ fld 63 2 (xReg c xs.toNat) = 0) :=
  ⟨_, List.mem_cons_self, 0, 0, witItem, 0, 1, 3, _, _, _, _, _, witState { q := [(1, witReg 4 4 8 9), (2, witReg 4 4 8 9), (3, witReg 4 4 8 9)] }, by unfold PacerReady; decide, rfl, rfl, rfl, rfl, rfl, by decide, by unfold RegionOk; decide, by unfold RegionOk; decide, fun h => absurd h (by decide), ⟨by decide, by unfold MaskOk RegionOk; decide, by decide, by decide, by decide, by decide⟩⟩

theorem witness_VectorOperationsAreIssued_4 :
    ∃ (tc n : Nat) (it : Item) (xs : BitVec 5) (qb qa qd : BitVec 4) (c : TCore) (ctl a b d : W64) (s : State), PacerReady s tc n it 4 (.vtopk tc 0 xs qb qa qd) ∧ c = tcAt s tc ∧ ctl = xReg c xs.toNat ∧ a = qReg c qa.toNat ∧ b = qReg c qb.toNat ∧ d = qReg c qd.toNat ∧ roomFor c .vtopk = true ∧ RegionOk a ∧ RegionOk b ∧ RegionOk d ∧ MaskOk c a ∧ Unmasked b ∧ Unmasked d ∧ isFmt4 (regionOf a).fmt = true ∧ (regionOf d).fmt = (regionOf a).fmt ∧ (regionOf b).fmt = 10 ∧ 1 ≤ ctl.toNat ∧ ctl.toNat ≤ 64 ∧ ctl.toNat ≤ (regionOf a).cols ∧ (regionOf d).rows = (regionOf a).rows ∧ (regionOf d).cols = ctl.toNat ∧ (regionOf b).rows = (regionOf d).rows ∧ (regionOf b).cols = (regionOf d).cols :=
  ⟨0, 0, witItem, 1, 2, 1, 3, _, _, _, _, _, witState { x := [(1, 2)], q := [(1, witReg 4 4 8 9), (2, witReg 4 2 10 9), (3, witReg 4 2 8 9)] }, by unfold PacerReady; decide, rfl, rfl, rfl, rfl, rfl, by decide, by unfold RegionOk; decide, by unfold RegionOk; decide, by unfold RegionOk; decide, fun h => absurd h (by decide), by unfold Unmasked; decide, by unfold Unmasked; decide, by decide, by decide, by decide, by decide, by decide, by decide, by decide, by decide, by decide, by decide⟩

theorem witness_VectorOperationsAreIssued_5 :
    ∃ (tc n : Nat) (it : Item) (qb qa qd : BitVec 4) (c : TCore) (a b d : W64) (s : State), PacerReady s tc n it 4 (.vcmprs tc 0 0 qb qa qd) ∧ c = tcAt s tc ∧ a = qReg c qa.toNat ∧ b = qReg c qb.toNat ∧ d = qReg c qd.toNat ∧ roomFor c .vcmprs = true ∧ RegionOk a ∧ RegionOk b ∧ RegionOk d ∧ (regionOf a).masken = true ∧ MaskOk c a ∧ Unmasked b ∧ Unmasked d ∧ (regionOf a).fmt ≠ 12 ∧ (regionOf d).fmt = (regionOf a).fmt ∧ (regionOf b).fmt = 11 ∧ (regionOf a).rows = (regionOf d).rows ∧ (regionOf a).cols = (regionOf d).cols ∧ (regionOf b).rows = (regionOf a).rows ∧ (regionOf b).cols = 1 :=
  ⟨0, 0, witItem, 2, 1, 3, _, _, _, _, witState { q := [(1, witReg 4 4 8 9 + 0x1400000000000000), (2, witReg 4 1 11 9), (3, witReg 4 4 8 9), (4, witReg 4 4 12 9)] }, by unfold PacerReady; decide, rfl, rfl, rfl, rfl, by decide, by unfold RegionOk; decide, by unfold RegionOk; decide, by unfold RegionOk; decide, by decide, by unfold MaskOk RegionOk; decide, by unfold Unmasked; decide, by unfold Unmasked; decide, by decide, by decide, by decide, by decide, by decide, by decide, by decide⟩

theorem witness_VectorOperationsAreIssued_6 :
    ∃ (tc n : Nat) (it : Item) (m : BitVec 2) (xs : BitVec 5) (qd : BitVec 4) (c : TCore) (ctl d : W64) (l : Latch × Item) (s : State), PacerReady s tc n it 4 (.vrand tc m xs 0 0 qd) ∧ c = tcAt s tc ∧ ctl = xReg c xs.toNat ∧ d = qReg c qd.toNat ∧ m ≠ 3 ∧ roomFor c .vrand = true ∧ RegionOk d ∧ MaskOk c d ∧ (if m = 0 then (regionOf d).fmt = 11 else isFmt3 (regionOf d).fmt = true) ∧ fld 7 6 ctl = 0 ∧ slotBound s (fld 5 0 ctl) it.ctx = true ∧ l = useLatch s it (fld 5 0 ctl) :=
  ⟨0, 0, witItem, 0, 0, 1, _, _, _, _, { witState { q := [(1, witReg 4 4 11 9)] } with slots := [(0, { ctl := 0x10001 })] }, by unfold PacerReady; decide, rfl, rfl, rfl, by decide, by decide, by unfold RegionOk; decide, by unfold MaskOk RegionOk; decide, by decide, by decide, by decide, rfl⟩

theorem witness_TransfersAreIssued_0 :
    ∃ p ∈ ([(.dld, .dld), (.dst, .dst), (.dpf, .dpf)] : List (EngOp × (Nat → BitVec 2 → BitVec 5 → BitVec 4 → BitVec 4 → BitVec 4 → Instr))), ∃ (tc n : Nat) (it : Item) (m : BitVec 2) (xs : BitVec 5) (qa qd slot q : BitVec 4) (c : TCore) (o : OpSlot) (c0 c1 w : W64) (s : State), PacerReady s tc n it 4 (p.2 tc m xs 0 qa qd) ∧ c = tcAt s tc ∧ xs.toNat % 2 = 0 ∧ c0 = xReg c xs.toNat ∧ c1 = (if xs = 0 then 0 else xReg c (xs.toNat + 1)) ∧ slot = (if p.1 = .dld then qa else qd) ∧ q = (if p.1 = .dld then qd else qa) ∧ itemSlot it slot.toNat = some o ∧ w = qReg c q.toNat ∧ roomFor c p.1 = true ∧ RegionOk w ∧ Unmasked w ∧ placeOk p.1 o (originOf c0 c1) (regionOf w).cols = true ∧ (p.1 ≠ .dpf → (regionOf w).fmt = o.fmt) ∧ (if p.1 = .dld then m ≠ 3 ∧ (m = 2 → blockInside o (originOf c0 c1) (regionOf w) = true) else m = 0) :=
  ⟨_, List.mem_cons_self, 0, 0, witItem, 0, 0, 0, 1, _, _, _, _, _, _, _, witState { q := [(1, witReg 4 4 8 9)] }, by unfold PacerReady; decide, rfl, by decide, rfl, rfl, rfl, rfl, rfl, rfl, by decide, by unfold RegionOk; decide, by unfold Unmasked; decide, by decide, by decide, by decide⟩

theorem witness_TransfersAreIssued_1 :
    ∃ p ∈ ([(.dvin, .dvin), (.dvout, .dvout)] : List (EngOp × (Nat → BitVec 2 → BitVec 5 → BitVec 4 → BitVec 4 → BitVec 4 → Instr))), ∃ (tc n : Nat) (it : Item) (m : BitVec 2) (xs : BitVec 5) (qa qd slot q : BitVec 4) (c : TCore) (o : OpSlot) (c0 c1 y u v : W64) (s : State), PacerReady s tc n it 4 (p.2 tc m xs 0 qa qd) ∧ c = tcAt s tc ∧ xs.toNat % 2 = 0 ∧ c0 = xReg c xs.toNat ∧ c1 = (if xs = 0 then 0 else xReg c (xs.toNat + 1)) ∧ slot = (if p.1 = .dvin then qa else qd) ∧ q = (if p.1 = .dvin then qd else qa) ∧ q.toNat ≤ 13 ∧ itemSlot it slot.toNat = some o ∧ y = qReg c q.toNat ∧ u = qReg c (q.toNat + 1) ∧ v = qReg c (q.toNat + 2) ∧ roomFor c p.1 = true ∧ RegionOk y ∧ RegionOk u ∧ RegionOk v ∧ Unmasked y ∧ Unmasked u ∧ Unmasked v ∧ planeFmtOk p.1 o [regionOf y, regionOf u, regionOf v] = true ∧ planesOk o [regionOf y, regionOf u, regionOf v] = true ∧ placeOk p.1 o (originOf c0 c1) (regionOf y).cols = true ∧ (if p.1 = .dvin then m ≠ 3 ∧ (m = 2 → blockInside o (originOf c0 c1) (regionOf y) = true) else m = 0) :=
  ⟨_, List.mem_cons_self, 0, 0, witItem, 0, 0, 1, 1, _, _, _, _, _, _, _, _, _, witState { q := [(1, witReg 4 4 7 9), (2, witReg 4 4 7 9), (3, witReg 4 4 7 9)] }, by unfold PacerReady; decide, rfl, by decide, rfl, rfl, rfl, rfl, by decide, rfl, rfl, rfl, rfl, by decide, ⟨by decide, by decide⟩, ⟨by decide, by decide⟩, ⟨by decide, by decide⟩, by first | decide | rfl | simp, by first | decide | rfl | simp, by first | decide | rfl | simp, by decide, by decide, by decide, by decide⟩

theorem witness_TransfersAreIssued_2 :
    ∃ (tc n : Nat) (it : Item) (xs : BitVec 5) (qa qd : BitVec 4) (c e : TCore) (h a d : W64) (g rank : Nat) (x : Group) (r : Round) (s : State), PacerReady s tc n it 4 (.drly tc 0 xs 0 qa qd) ∧ c = tcAt s tc ∧ h = xReg c xs.toNat ∧ a = qReg c qa.toNat ∧ d = qReg c qd.toNat ∧ g = fld 9 0 h ∧ rank = fld 35 16 h ∧ x = groupAt s g ∧ roomFor c .drly = true ∧ fld 15 10 h = 0 ∧ fld 63 36 h = 0 ∧ gValid x = true ∧ groupOf s g it.ctx = true ∧ gLo x ≤ rank ∧ rank ≤ gHi x ∧ gFmtOk x = true ∧ gState x ≠ 2 ∧ (gKind x = 4 → qd = 0) ∧ (if bringsData x rank then RegionOk a ∧ Unmasked a ∧ (regionOf a).fmt = gFmt x ∧ (regionOf a).rows * (regionOf a).cols = gE x else qa = 0) ∧ (getsResult x rank = true → RegionOk d ∧ Unmasked d ∧ (regionOf d).fmt = gFmt x ∧ (regionOf d).rows * (regionOf d).cols = gE x) ∧ r = (roundAt x (tget 0 x.counts rank)).getD (emptyRound (tget 0 x.counts rank)) ∧ e = entered { plainOp .drly 0 h with qa := a, qd := d, reads := if bringsData x rank then [granules a] else [], writes := if getsResult x rank then [granules d] else [] } c :=
  ⟨0, 0, witItem, 0, 1, 1, _, _, _, _, _, _, _, _, _, { witState { q := [(1, witReg 4 4 8 9)] } with groups := [(0, { gctl := 0x10881, gshape := 0x1000000001 })] }, ⟨by decide, rfl, rfl, by decide, .inl (by decide), by decide, by decide⟩, rfl, rfl, rfl, rfl, rfl, rfl, rfl, by first | decide | rfl | simp, by first | decide | rfl | simp, by first | decide | rfl | simp, by first | decide | rfl | simp, by first | decide | rfl | simp, by first | decide | rfl | simp, by first | decide | rfl | simp, by first | decide | rfl | simp, by first | decide | rfl | simp, fun h => absurd h (by decide), by unfold RegionOk Unmasked; decide, fun _ => by unfold RegionOk Unmasked; decide, rfl, rfl⟩

theorem witness_IssueWaitsForRoomAndFaults_0 :
    ∃ (tc n : Nat) (it : Item) (m : BitVec 2) (s : State), PacerReady s tc n it 4 (.mzero tc m 0 0 0 0) ∧ m.toNat ≤ 1 ∧ roomFor (tcAt s tc) .mzero = false :=
  ⟨0, 0, witItem, 0, witState { sb := List.replicate 32 (plainOp .mzero 0 0) }, by unfold PacerReady; decide, by decide, by decide⟩

theorem witness_IssueWaitsForRoomAndFaults_1 :
    ∃ (tc n : Nat) (it : Item) (m : BitVec 2) (xs : BitVec 5) (qb qa qd : BitVec 4) (s : State), PacerReady s tc n it 4 (.mzero tc m xs qb qa qd) ∧ (1 < m.toNat ∨ xs ≠ 0 ∨ qb ≠ 0 ∨ qa ≠ 0 ∨ qd ≠ 0) :=
  ⟨0, 0, witItem, 2, 0, 0, 0, 0, witState {}, by unfold PacerReady; decide, by decide⟩

theorem witness_IssueWaitsForRoomAndFaults_2 :
    ∃ (tc n : Nat) (it : Item) (m : BitVec 2) (qa : BitVec 4) (s : State), PacerReady s tc n it 4 (.mldw tc m 0 0 qa 0) ∧ fmtReserved (regionOf (qReg (tcAt s tc) qa.toNat)).fmt = true :=
  ⟨0, 0, witItem, 0, 1, witState { q := [(1, witReg 4 4 13 9)] }, by unfold PacerReady; decide, by decide⟩

theorem witness_IssueWaitsForRoomAndFaults_3 :
    ∃ (tc n : Nat) (it : Item) (m : BitVec 2) (qa : BitVec 4) (s : State), PacerReady s tc n it 4 (.mldw tc m 0 0 qa 0) ∧ fmtReserved (regionOf (qReg (tcAt s tc) qa.toNat)).fmt = false ∧ extentOk (regionOf (qReg (tcAt s tc) qa.toNat)) = false :=
  ⟨0, 0, witItem, 0, 1, witState { q := [(1, witReg 4 4 8 0)] }, by unfold PacerReady; decide, by decide, by decide⟩

theorem witness_IssueWaitsForRoomAndFaults_4 :
    ∃ (tc n : Nat) (it : Item) (qa qd : BitVec 4) (s : State), PacerReady s tc n it 4 (.vtrn tc 0 0 0 qa qd) ∧ RegionOk (qReg (tcAt s tc) qa.toNat) ∧ RegionOk (qReg (tcAt s tc) qd.toNat) ∧ (regionOf (qReg (tcAt s tc) qa.toNat)).fmt = (regionOf (qReg (tcAt s tc) qd.toNat)).fmt ∧ 8 ≤ fmtBits (regionOf (qReg (tcAt s tc) qa.toNat)).fmt ∧ (regionOf (qReg (tcAt s tc) qd.toNat)).rows ≠ (regionOf (qReg (tcAt s tc) qa.toNat)).cols :=
  ⟨0, 0, witItem, 1, 2, witState { q := [(1, witReg 4 4 8 9), (2, witReg 5 4 8 9)] }, by unfold PacerReady; decide, by unfold RegionOk; decide, by unfold RegionOk; decide, by decide, by decide, by decide⟩

theorem witness_MldaAndMzeroSetTheAccumulator_0 :
    ∃ (tc tag : Nat) (fl : List (Nat × Bool)) (c : TCore) (o : Op) (s : State), tc < 192 ∧ c = tcAt s tc ∧ c.sb.find? (fun p => decide (p.tag = tag)) = some o ∧ o.eng = .mlda ∧ canStart c o = true ∧ issuing s = true :=
  ⟨0, 0, [], _, _, witState { sb := [plainOp .mlda 0 0] }, by decide, rfl, by first | decide | rfl | simp, by decide, by decide, by first | decide | rfl | simp⟩

theorem witness_MldaAndMzeroSetTheAccumulator_1 :
    ∃ (tc tag : Nat) (fl : List (Nat × Bool)) (c : TCore) (o : Op) (r : Region) (src : Tab Byte) (s : State), tc < 192 ∧ c = tcAt s tc ∧ c.sb.find? (fun p => decide (p.tag = tag)) = some o ∧ o.eng = .mlda ∧ o.started = true ∧ o.performed = false ∧ (∀ p ∈ olderOps c o, isAccOp p.eng = false) ∧ r = regionOf o.qa ∧ r.cols ≤ 128 ∧ o.buf = regionElems src r :=
  ⟨0, 0, [], _, _, _, [], witState { sb := [{ plainOp .mlda 0 0 with started := true, buf := regionElems [] (regionOf 0) }] }, by decide, rfl, by first | decide | rfl | simp, by decide, by decide, by decide, by first | decide | simp | (intros; simp_all), rfl, by decide, by decide⟩

theorem witness_MldaAndMzeroSetTheAccumulator_2 :
    ∃ (tc tag : Nat) (fl : List (Nat × Bool)) (c : TCore) (o : Op) (s : State), tc < 192 ∧ c = tcAt s tc ∧ c.sb.find? (fun p => decide (p.tag = tag)) = some o ∧ o.eng = .mzero ∧ o.started = true ∧ o.performed = false ∧ (∀ p ∈ olderOps c o, isAccOp p.eng = false) :=
  ⟨0, 0, [], _, _, witState { sb := [{ plainOp .mzero 0 0 with started := true }] }, by decide, rfl, by first | decide | rfl | simp, by decide, by decide, by decide, by first | decide | simp | (intros; simp_all)⟩

theorem witness_MldaAndMzeroSetTheAccumulator_3 :
    ∃ (tc n : Nat) (it : Item) (m : BitVec 2) (c : TCore) (s : State), PacerReady s tc n it 4 (.mzero tc m 0 0 0 0) ∧ c = tcAt s tc ∧ m.toNat ≤ 1 ∧ roomFor c .mzero = true :=
  ⟨0, 0, witItem, 1, _, witState {}, by unfold PacerReady; decide, rfl, by decide, by decide⟩

theorem witness_MldaAndMzeroSetTheAccumulator_4 :
    ∃ (tc n : Nat) (it : Item) (m : BitVec 2) (s : State), PacerReady s tc n it 4 (.mzero tc m 0 0 0 0) ∧ 1 < m.toNat :=
  ⟨0, 0, witItem, 2, witState {}, by unfold PacerReady; decide, by decide⟩

theorem witness_MatrixOperationsTakeEffect_0 :
    ∃ (tc tag : Nat) (fl : List (Nat × Bool)) (c : TCore) (o : Op) (s : State), tc < 192 ∧ c = tcAt s tc ∧ c.sb.find? (fun p => decide (p.tag = tag)) = some o ∧ o.eng = .mldw ∧ canStart c o = true ∧ issuing s = true :=
  ⟨0, 0, [], _, _, witState { sb := [plainOp .mldw 0 0] }, by decide, rfl, by first | decide | rfl | simp, by decide, by decide, by first | decide | rfl | simp⟩

theorem witness_MatrixOperationsTakeEffect_1 :
    ∃ (tc tag : Nat) (fl : List (Nat × Bool)) (c : TCore) (o : Op) (s : State), tc < 192 ∧ c = tcAt s tc ∧ c.sb.find? (fun p => decide (p.tag = tag)) = some o ∧ (canStart c o = false ∨ issuing s = false) :=
  ⟨0, 0, [], _, _, witState { sb := [{ plainOp .mldw 0 0 with started := true }] }, by decide, rfl, by first | decide | rfl | simp, by first | decide | rfl | simp⟩

theorem witness_MatrixOperationsTakeEffect_2 :
    ∃ (tc tag : Nat) (fl : List (Nat × Bool)) (c : TCore) (o : Op) (s : State), tc < 192 ∧ c = tcAt s tc ∧ c.sb.find? (fun p => decide (p.tag = tag)) = some o ∧ o.eng = .mmul ∧ canStart c o = true ∧ issuing s = true :=
  ⟨0, 0, [], _, plainOp .mmul 0 0, witState { sb := [plainOp .mmul 0 0] }, by first | decide | rfl | simp, rfl, rfl, by first | decide | rfl | simp, by first | decide | rfl | simp, by first | decide | rfl | simp⟩

theorem witness_MatrixOperationsTakeEffect_3 :
    ∃ (tc tag : Nat) (fl : List (Nat × Bool)) (c : TCore) (o : Op) (s : State), tc < 192 ∧ c = tcAt s tc ∧ c.sb.find? (fun p => decide (p.tag = tag)) = some o ∧ o.eng = .mmul ∧ o.started = true ∧ o.performed = false ∧ (∀ p ∈ olderOps c o, isAccOp p.eng = false) :=
  ⟨0, 0, [], _, { plainOp .mmul 0 0 with started := true }, witState { sb := [{ plainOp .mmul 0 0 with started := true }] }, by first | decide | rfl | simp, rfl, rfl, by first | decide | rfl | simp, by first | decide | rfl | simp, by first | decide | rfl | simp, by decide⟩

theorem witness_MatrixOperationsTakeEffect_4 :
    ∃ (tc tag : Nat) (fl : List (Nat × Bool)) (c : TCore) (o : Op) (s : State), tc < 192 ∧ c = tcAt s tc ∧ c.sb.find? (fun p => decide (p.tag = tag)) = some o ∧ o.eng = .mrd ∧ o.started = true ∧ o.performed = false ∧ (∀ p ∈ olderOps c o, isAccOp p.eng = false) :=
  ⟨0, 0, [], _, _, witState { sb := [{ plainOp .mrd 0 0 with started := true }] }, by decide, rfl, by first | decide | rfl | simp, by decide, by decide, by decide, by first | decide | simp | (intros; simp_all)⟩

theorem witness_MatrixOperationsTakeEffect_5 :
    ∃ (tc tag : Nat) (fl : List (Nat × Bool)) (c : TCore) (o p : Op) (s : State), tc < 192 ∧ c = tcAt s tc ∧ c.sb.find? (fun p => decide (p.tag = tag)) = some o ∧ o.eng = .mmul ∧ p ∈ olderOps c o ∧ isAccOp p.eng = true ∧ p.started = false :=
  ⟨0, 1, [], _, _, plainOp .mzero 0 0, witState { sb := [plainOp .mzero 0 0, { plainOp .mmul 0 0 with tag := 1 }] }, by decide, rfl, by first | decide | rfl | simp, by decide, by decide, by decide, by decide⟩

theorem witness_VtrnWritesTheTranspose_0 :
    ∃ (tc tag : Nat) (fl : List (Nat × Bool)) (c : TCore) (o : Op) (a d : Region) (s : State), tc < 192 ∧ c = tcAt s tc ∧ c.sb.find? (fun p => decide (p.tag = tag)) = some o ∧ o.eng = .vtrn ∧ canStart c o = true ∧ issuing s = true ∧ a = regionOf o.qa ∧ d = regionOf o.qd ∧ extentOk d = true ∧ fmtReserved d.fmt = false ∧ a.fmt = d.fmt ∧ 8 ≤ fmtBits d.fmt ∧ d.rows = a.cols ∧ d.cols = a.rows :=
  ⟨0, 0, [], _, _, _, _, witState { sb := [{ plainOp .vtrn 0 0 with qa := witReg 4 2 8 9, qd := witReg 2 4 8 9 }] }, by decide, rfl, by first | decide | rfl | simp, by decide, by decide, by first | decide | rfl | simp, rfl, rfl, by decide, by decide, by decide, by decide, by decide, by decide⟩

theorem witness_VtrnWritesTheTranspose_1 :
    ∃ (tc tag : Nat) (fl : List (Nat × Bool)) (c : TCore) (o : Op) (s : State), tc < 192 ∧ c = tcAt s tc ∧ c.sb.find? (fun p => decide (p.tag = tag)) = some o ∧ engPath o.eng = 3 ∧ o.started = true :=
  ⟨0, 0, [], _, _, witState { sb := [{ plainOp .vadd 0 0 with started := true }] }, by decide, rfl, by first | decide | rfl | simp, by decide, by decide⟩

theorem witness_FlushedResultsAreNeverSubnormal_0 :
    ∃ (a b c : Nat), ∃ v ∈ [fadd 8 a b, fsub 8 a b, fmul 8 a b, ffma 8 a b c, product 6 a b, product 8 a b], bitsOf 30 23 v = 0 :=
  ⟨0, 0, 0, _, List.mem_cons_self, by decide⟩

theorem witness_FlushedResultsAreNeverSubnormal_1 :
    ∃ (a b c : Nat), ∃ v ∈ [fadd 6 a b, fsub 6 a b, fmul 6 a b, ffma 6 a b c], bitsOf 14 7 v = 0 :=
  ⟨0, 0, 0, _, List.mem_cons_self, by decide⟩

theorem witness_FlushedResultsAreNeverSubnormal_2 :
    ∃ (src a : Nat), src < 10 :=
  ⟨2, 0, by decide⟩

theorem witness_TransfersAndEventsReachTheCore_0 :
    ∃ (tc tag : Nat) (fl : List (Nat × Bool)) (c : TCore) (o p : Op) (s : State), tc < 192 ∧ c = tcAt s tc ∧ c.sb.find? (fun p => decide (p.tag = tag)) = some o ∧ engPath o.eng = 4 ∧ canStart c o = true ∧ issuing s = true ∧ p = { o with started := true, readDone := true, buf := dmaCapture o c } :=
  ⟨0, 0, [], _, plainOp .dst 0 0, _, witState { sb := [plainOp .dst 0 0] }, by first | decide | rfl | simp, rfl, rfl, by first | decide | rfl | simp, by first | decide | rfl | simp, by first | decide | rfl | simp, rfl⟩

theorem witness_TransfersAndEventsReachTheCore_1 :
    ∃ (tc tag n : Nat) (fl : List (Nat × Bool)) (it : Item) (c : TCore) (o : Op) (sl : OpSlot) (pages : List (Nat × Nat × Bool)) (x : Xfer) (y : Nat × Bool × State) (t u s : State), tc < 192 ∧ c = tcAt s tc ∧ c.item = some n ∧ itemAt s n = some it ∧ c.sb.find? (fun p => decide (p.tag = tag)) = some o ∧ (o.eng = .dld ∨ o.eng = .dst ∨ o.eng = .dvin ∨ o.eng = .dvout) ∧ o.started = true ∧ behindHeld c o = false ∧ itemSlot it o.slot = some sl ∧ engPages tc false it.ctx (some n) sl.access (pagesOf (dmaRanges o sl)) (setFlaws fl s) = (some pages, t) ∧ x = xferOf tc n it o sl pages t ∧ o.asked = false ∧ xferWaits t x o sl = false ∧ asksFar t x o sl = false ∧ awaits t tc tag = false ∧ y = dmaMove x o sl t ∧ u = dropOp tc tag (tcMod y.2.2 tc (perfAdd (if dmaReads o.eng then 2 else 3) y.1)) :=
  ⟨0, 0, 0, [], witItem, _, _, _, _, _, _, _, _, witState { sb := [{ plainOp .dld 0 0 with started := true, slot := 2 }] }, by decide, rfl, by decide, by decide, by first | decide | rfl | simp, by first | decide | rfl | simp, by decide, by first | decide | rfl | simp, rfl, by first | decide | rfl | simp, by first | decide | rfl | simp, by first | decide | rfl | simp, by first | decide | rfl | simp, by first | decide | rfl | simp, by first | decide | rfl | simp, by first | decide | rfl | simp, by first | decide | rfl | simp⟩

theorem witness_TransfersAndEventsReachTheCore_2 :
    ∃ (tc tag n : Nat) (fl : List (Nat × Bool)) (it : Item) (c : TCore) (o : Op) (sl : OpSlot) (s : State), tc < 192 ∧ c = tcAt s tc ∧ c.item = some n ∧ itemAt s n = some it ∧ c.sb.find? (fun p => decide (p.tag = tag)) = some o ∧ o.eng = .dpf ∧ o.started = true ∧ behindHeld c o = false ∧ itemSlot it o.slot = some sl :=
  ⟨0, 0, 0, [], witItem, _, { plainOp .dpf 0 0 with started := true }, _, witState { sb := [{ plainOp .dpf 0 0 with started := true }] }, by first | decide | rfl | simp, rfl, by first | decide | rfl | simp, by first | decide | rfl | simp, rfl, by first | decide | rfl | simp, by first | decide | rfl | simp, by first | decide | rfl | simp, rfl⟩

theorem witness_TransfersAndEventsReachTheCore_3 :
    ∃ (tc tag : Nat) (fl : List (Nat × Bool)) (c : TCore) (o : Op) (s : State), tc < 192 ∧ c = tcAt s tc ∧ c.sb.find? (fun p => decide (p.tag = tag)) = some o ∧ (o.started = false ∨ o.eng = .drly ∨ (behindHeld c o = true ∧ o.asked = false)) :=
  ⟨0, 1, [], _, _, witState { sb := [plainOp .dst 0 0, { plainOp .pbsig 0 0 with tag := 1 }] }, by decide, rfl, by first | decide | rfl | simp, by first | decide | rfl | simp⟩

theorem witness_TransfersAndEventsReachTheCore_4 :
    ∃ (tc tag : Nat) (fl : List (Nat × Bool)) (c : TCore) (o p : Op) (s : State), tc < 192 ∧ c = tcAt s tc ∧ c.sb.find? (fun p => decide (p.tag = tag)) = some o ∧ o.eng = .pbsig ∧ p ∈ olderOps c o ∧ (p.eng = .dst ∨ p.eng = .dvout ∨ p.eng = .drly) :=
  ⟨0, 1, [], _, _, plainOp .dst 0 0, witState { sb := [plainOp .dst 0 0, { plainOp .pbsig 0 0 with tag := 1 }] }, by decide, rfl, by first | decide | rfl | simp, by decide, by decide, by decide⟩

theorem witness_TransfersAndEventsReachTheCore_5 :
    ∃ (tc tag : Nat) (fl : List (Nat × Bool)) (c : TCore) (o : Op) (s : State), tc < 192 ∧ c = tcAt s tc ∧ c.sb.find? (fun p => decide (p.tag = tag)) = some o ∧ o.eng = .pbsig ∧ o.started = true ∧ behindHeld c o = false ∧ (∀ p ∈ olderOps c o, p.eng ≠ .dst ∧ p.eng ≠ .dvout ∧ p.eng ≠ .drly) :=
  ⟨0, 0, [], _, _, witState { sb := [{ plainOp .pbsig 0 0 with started := true }] }, by decide, rfl, by first | decide | rfl | simp, by decide, by decide, by first | decide | rfl | simp, by first | decide | simp | (intros; simp_all)⟩

theorem witness_TransfersAndEventsReachTheCore_6 :
    ∃ (tc r : Nat) (s : State), tc < 192 ∧ r < 6 ∧ tcPresent s tc = true :=
  ⟨6, 4, witRun, by decide, by decide, by decide⟩

theorem witness_TransfersAndEventsReachTheCore_7 :
    ∃ (tc n code pa : Nat) (it : Item) (fetch : Bool) (s : State), tc < 192 ∧ (tcAt s tc).item = some n ∧ itemAt s n = some it ∧ (tcAt s tc).stopped = false ∧ (tcAt s tc).done = none ∧ 1 ≤ code ∧ code ≤ 6 :=
  ⟨0, 0, 1, 0x100, witItem, false, witState {}, by decide, by decide, by decide, by decide, by decide, by decide, by decide⟩

theorem witness_TransfersAndEventsReachTheCore_8 :
    ∃ (tc src : Nat) (rest : List Nat) (c : TCore) (s : State), tc < 192 ∧ c = tcAt s tc ∧ c.pend = src :: rest ∧ pacerLive c = true ∧ c.fevec ≠ 0 ∧ c.inHandler = false ∧ c.stall = none :=
  ⟨0, 3, [], _, witState { pend := [3], fevec := 4 }, by decide, rfl, by decide, by decide, by decide, by decide, by decide⟩

theorem witness_RelayEntriesStartAndBind_0 :
    ∃ (g : Nat) (v : W64) (h : Group) (s : State), g < 1024 ∧ bit 0 v = true ∧ gValid (groupAt s g) = false ∧ h = groupAfter (groupAt s g) 0 v false ∧ gSound h = true ∧ groupReserved 0 v = false :=
  ⟨0, 0x81, _, { groups := [(0, { gctl := 0x10880, gshape := 0x1000000001 })] }, by decide, by decide, by decide, rfl, by decide, by decide⟩

theorem witness_RelayEntriesStartAndBind_1 :
    ∃ (g : Nat) (v : W64) (h : Group) (s : State), g < 1024 ∧ bit 0 v = true ∧ gValid (groupAt s g) = false ∧ h = groupAfter (groupAt s g) 0 v false ∧ (gSound h = false ∨ groupReserved 0 v = true) :=
  ⟨0, 1, _, witRun, by decide, by decide, by decide, rfl, by decide⟩

theorem witness_RelayEntriesStartAndBind_2 :
    ∃ (g w : Nat) (v : W64) (h : Group) (s : State), g < 1024 ∧ w < 6 ∧ h = groupAfter (groupAt s g) w v false ∧ gValid (groupAt s g) = true ∧ gSound h = true ∧ groupReserved w v = false ∧ (groupAt s g).rounds = [] :=
  ⟨64, 2, 0, _, { witRun with groups := [(64, { gctl := 0x10881, gshape := 0x1000000001 })] }, by first | decide | rfl | simp, by first | decide | rfl | simp, rfl, by first | decide | rfl | simp, by decide, by first | decide | rfl | simp, rfl⟩

theorem witness_RelayEntriesStartAndBind_3 :
    ∃ (g w : Nat) (v : W64) (h k : Group) (t s : State), g < 1024 ∧ w < 6 ∧ h = groupAfter (groupAt s g) w v false ∧ gValid (groupAt s g) = true ∧ gSound h = true ∧ groupReserved w v = false ∧ (groupAt s g).rounds ≠ [] ∧ t = relayAbort g 4 s ∧ k = groupAfter (groupAt t g) w v false :=
  ⟨64, 2, 0, _, _, _, { witRun with groups := [(64, { gctl := 0x10881, gshape := 0x1000000001, rounds := [emptyRound 0] })] }, by first | decide | rfl | simp, by first | decide | rfl | simp, rfl, by first | decide | rfl | simp, by decide, by first | decide | rfl | simp, by first | decide | rfl | simp, rfl, rfl⟩

theorem witness_RelayEntriesStartAndBind_4 :
    ∃ (g w : Nat) (v : W64) (h : Group) (s : State), g < 1024 ∧ w < 6 ∧ h = groupAfter (groupAt s g) w v false ∧ gValid (groupAt s g) = true ∧ (gSound h = false ∨ groupReserved w v = true) :=
  ⟨8, 4, 5, _, { witRun with groups := [(8, { gctl := 1 })] }, by decide, by decide, rfl, by decide, by decide⟩

theorem witness_RelayEntriesStartAndBind_5 :
    ∃ (g w : Nat) (v : W64) (h : Group) (s : State), g < 1024 ∧ 1 ≤ w ∧ w < 6 ∧ h = groupAfter (groupAt s g) w v false ∧ gValid (groupAt s g) = false ∧ (groupAt s g).rounds = [] ∧ h ≠ {} :=
  ⟨64, 2, 6, _, witRun, by decide, by decide, by decide, rfl, by decide, by decide, by decide⟩

theorem witness_RelayEntriesStartAndBind_6 :
    ∃ (g : Nat) (v : W64) (h : Group) (s : State), g < 1024 ∧ h = groupAfter (groupAt s g) 0 v true ∧ bindChanges (groupAt s g) h = true ∧ groupNamed s g = true :=
  ⟨0, 0x10800, _, { items := [(0, { witItem with desc := List.replicate 9 0 ++ [0x10000000000] })] }, by decide, rfl, by decide, by decide⟩

theorem witness_RelayEntriesStartAndBind_7 :
    ∃ (g : Nat) (v : W64) (h : Group) (s : State), g < 1024 ∧ h = groupAfter (groupAt s g) 0 v true ∧ groupNamed s g = false ∧ gValid (groupAt s g) = false ∧ gValid h = false ∧ (groupAt s g).rounds = [] ∧ h ≠ {} :=
  ⟨0, 8, _, witRun, by decide, rfl, by decide, by decide, by decide, by decide, by decide⟩

theorem witness_RelayRoundsFormTheirResult_0 :
    ∃ (tc tag n rank : Nat) (c : TCore) (o : Op) (g : Group) (r : Round) (s : State), tc < 192 ∧ c = tcAt s tc ∧ c.sb.find? (fun p => decide (p.tag = tag) && decide (p.eng = .drly)) = some o ∧ n = fld 9 0 o.ctl ∧ rank = fld 35 16 o.ctl ∧ g = groupAt s n ∧ roundAt g o.round = some r ∧ o.accepted = false ∧ canStart c { o with started := false } = true ∧ o.round ≤ g.ground + 1 ∧ doneAtAccept g rank = false ∧ (∀ x ∈ g.rounds, x.num ≠ o.round → ∀ w ∈ x.waiting, w.2.2 = rank → waitsAccept s w = false) :=
  ⟨0, 0, _, _, _, _, _, _, { witState { sb := [plainOp .drly 0 0] } with groups := [(0, { gctl := 0x10881, gshape := 0x100000001, rounds := [{ emptyRound 0 with parts := [(0, [1])] }] })] }, by decide, rfl, by first | decide | rfl | simp, rfl, rfl, rfl, rfl, by decide, by decide, by first | decide | rfl | simp, by decide, by first | decide | rfl | simp⟩

theorem witness_RelayRoundsFormTheirResult_1 :
    ∃ (g k l m : Nat) (x : Group) (r : Round) (v : List Nat) (s : State), g < 1024 ∧ x = groupAt s g ∧ roundAt x k = some r ∧ gValid x = true ∧ l ≤ treeLevels (gN x) ∧ nodeThere (gN x) l m = true ∧ computedHere s g x l m = true ∧ (∀ e ∈ r.nodes, ¬(e.1 = l ∧ e.2.1 = m)) ∧ formNode x r l m = some v ∧ climbsTo s g x l m = none ∧ (gKind x ≠ 4 ∨ gScope x ≠ 2) :=
  ⟨0, 0, 0, 0, _, _, _, { groups := [(0, { gctl := 0x10881, gshape := 0x100000001, rounds := [{ emptyRound 0 with parts := [(0, [1])] }] })] }, by decide, rfl, rfl, by decide, by decide, by first | decide | rfl | simp, by first | decide | rfl | simp, by first | decide | simp | (intros; simp_all), rfl, by first | decide | rfl | simp, by first | decide | rfl | simp⟩

theorem witness_RelayRoundsFormTheirResult_2 :
    ∃ (g : Group) (r : Round) (l m : Nat) (a b : List Nat), nodeThere (gN g) l (2 * m + 1) = true ∧ nodeValue r l (2 * m) = some a ∧ nodeValue r l (2 * m + 1) = some b :=
  ⟨{ gshape := 2 }, { emptyRound 0 with parts := [(0, [1]), (1, [2])] }, 0, 0, _, _, by decide, rfl, rfl⟩

theorem witness_RelayRoundsFormTheirResult_3 :
    ∃ (g : Group) (r : Round) (l m : Nat), nodeThere (gN g) l (2 * m + 1) = false :=
  ⟨{ gshape := 1 }, emptyRound 0, 0, 0, by decide⟩

theorem witness_RelayRoundsFormTheirResult_4 :
    ∃ (tc tag n rank : Nat) (c : TCore) (o : Op) (g : Group) (r : Round) (v : List Nat) (s : State), tc < 192 ∧ c = tcAt s tc ∧ c.sb.find? (fun p => decide (p.tag = tag) && decide (p.eng = .drly)) = some o ∧ n = fld 9 0 o.ctl ∧ rank = fld 35 16 o.ctl ∧ g = groupAt s n ∧ roundAt g o.round = some r ∧ rootValue g r = some v ∧ o.accepted = true ∧ o.round = g.ground :=
  ⟨0, 0, _, _, _, _, _, _, _, { witState { sb := [{ plainOp .drly 0 0 with accepted := true }] } with groups := [(0, { gctl := 0x10881, gshape := 0x100000001, rounds := [{ emptyRound 0 with nodes := [(0, 0, [1])] }] })] }, by decide, rfl, by first | decide | rfl | simp, rfl, rfl, rfl, rfl, rfl, by decide, by first | decide | rfl | simp⟩

theorem witness_RelayRoundsFormTheirResult_5 :
    ∃ (g : Nat) (x : Group) (r : Round) (v : List Nat) (s : State), g < 1024 ∧ x = groupAt s g ∧ roundAt x x.ground = some r ∧ issuing s = true ∧ rootValue x r = some v ∧ gValid x = true ∧ r.waiting = [] ∧ gScope x = 0 ∧ bit 13 x.gbaton = false :=
  ⟨0, _, _, _, { witState {} with groups := [(0, { gctl := 0x10881, gshape := 0x100000001, rounds := [{ emptyRound 0 with nodes := [(0, 0, [1])] }] })] }, by decide, rfl, by first | decide | rfl | simp, by first | decide | rfl | simp, rfl, by decide, by decide, by decide, by decide⟩

theorem witness_SequenceSlotsHoldKeysAndBindings_0 :
    ∃ (n : Nat) (v : W64) (s : State), n < 64 :=
  ⟨63, 1, {}, by decide⟩

theorem witness_SequenceSlotsHoldKeysAndBindings_1 :
    ∃ (n : Nat) (s : State), n < 64 :=
  ⟨63, {}, by decide⟩

theorem witness_SequenceSlotsHoldKeysAndBindings_2 :
    ∃ (n : Nat) (v : W64) (s : State), n < 64 ∧ slotNamed s n = false ∧ maskWrite 0x3FFF0001 (slotAt s n).ctl v ≠ (slotAt s n).ctl :=
  ⟨63, 63, witRun, by decide, by decide, by decide⟩

theorem witness_SequenceSlotsHoldKeysAndBindings_3 :
    ∃ (n : Nat) (v : W64) (s : State), n < 64 ∧ slotNamed s n = true ∧ maskWrite 0x3FFF0001 (slotAt s n).ctl v ≠ (slotAt s n).ctl :=
  ⟨0, 0x10001, { items := [(0, { witItem with desc := List.replicate 8 0 ++ [1] })] }, by decide, by decide, by decide⟩

theorem witness_TimeBaseFollowsItsSourceAndWrites_0 :
    ∃ (b : TimeBase) (s : State), s.tb.on = true ∧ b = { s.tb with raster := comingRaster s, pendRaster := none, now := nextFrame s.tb.now } ∧ lockDue s = none ∧ eclDue s (nextFrame s.tb.now) = false ∧ (s.tb.ref = 0 ∨ ¬(s.tb.state = 4 ∧ s.tb.accepted = true)) :=
  ⟨_, { witRun with tb := { on := true } }, by decide, rfl, by first | decide | rfl | simp, by first | decide | rfl | simp, by first | decide | rfl | simp⟩

theorem witness_TimeBaseFollowsItsSourceAndWrites_1 :
    ∃ (b : TimeBase) (u : State) (s : State), s.tb.on = true ∧ b = { s.tb with raster := comingRaster s, pendRaster := none, now := nextFrame s.tb.now } ∧ u = { s with tb := b } ∧ s.tb.ref ≠ 0 ∧ eclDue s (nextFrame s.tb.now) = false ∧ s.tb.state = 4 ∧ s.tb.accepted = true :=
  ⟨_, _, { tb := { on := true, state := 4, accepted := true, ref := 1 } }, by decide, rfl, rfl, by decide, by first | decide | rfl | simp, by first | decide | rfl | simp, by first | decide | rfl | simp⟩

theorem witness_TimeBaseFollowsItsSourceAndWrites_2 :
    ∃ (k : Nat) (w : W64) (s : State), s.tb.on = true ∧ s.tb.state = 0 ∧ lockDue s = some (k, w) ∧ k ≤ ticksOf s (nextFrame s.tb.now) :=
  ⟨1024, _, { witRun with tb := { on := true, state := 0, ref := 2, ptpValid := true, raster := (1, 1, 1, 0) } }, by first | decide | rfl | simp, by first | decide | rfl | simp, rfl, by first | decide | rfl | simp⟩

theorem witness_TimeBaseFollowsItsSourceAndWrites_3 :
    ∃ (s : State), s.tb.on = false :=
  ⟨{}, by decide⟩

theorem witness_TimeBaseFollowsItsSourceAndWrites_4 :
    ∃ (ns : Nat) (s : State), s.tb.on = true ∧ s.tb.fsSeen = false ∧ s.tb.fsValid = false :=
  ⟨0, { tb := { on := true } }, by decide, by decide, by decide⟩

theorem witness_TimeBaseFollowsItsSourceAndWrites_5 :
    ∃ (ns : Nat) (s : State), s.tb.on = true ∧ s.tb.fsSeen = true ∧ periodGood s ns = true ∧ 2 ≤ s.tb.fsGood ∧ s.tb.state = 0 ∧ oget s 0x6000 1 ≤ 1 :=
  ⟨41666667, { witRun with tb := { on := true, fsSeen := true, fsGood := 2 } }, by decide, by decide, by decide, by decide, by decide, by decide⟩

theorem witness_TimeBaseFollowsItsSourceAndWrites_6 :
    ∃ (ns : Nat) (s : State), s.tb.on = true ∧ s.tb.fsSeen = true ∧ periodGood s ns = false ∧ 2 ≤ s.tb.fsBad ∧ s.tb.state = 1 ∧ s.tb.ref = 1 ∧ oget s 0x6000 1 = 1 :=
  ⟨2, { obj := [(6291457, 1)], tb := { on := true, state := 1, ref := 1, fsBad := 2, fsSeen := true } }, by decide, by decide, by decide, by decide, by decide, by decide, by decide⟩

theorem witness_TimeBaseFollowsItsSourceAndWrites_7 :
    ∃ (s : State), s.tb.on = true ∧ s.tb.state = 1 ∧ s.tb.ref = 1 ∧ oget s 0x6000 1 = 1 :=
  ⟨{ obj := [(6291457, 1)], tb := { on := true, state := 1, ref := 1 } }, by decide, by decide, by decide, by decide⟩

theorem witness_TimeBaseFollowsItsSourceAndWrites_8 :
    ∃ (s : State), s.tb.on = true ∧ s.tb.ref = 0 :=
  ⟨{ tb := { on := true } }, by decide, by decide⟩

theorem witness_TimeBaseFollowsItsSourceAndWrites_9 :
    ∃ (b : TimeBase) (s : State), s.tb.on = true ∧ b = { s.tb with state := 3, accepted := false, slewing := false } :=
  ⟨_, { tb := { on := true } }, by decide, rfl⟩

theorem witness_TimeBaseFollowsItsSourceAndWrites_10 :
    ∃ (v sub : Nat) (b : Bool) (s : State), objectsOpen s = false :=
  ⟨1, 1, true, {}, by first | decide | rfl | simp⟩

theorem witness_TimeBaseFollowsItsSourceAndWrites_11 :
    ∃ (v : Nat) (s : State), objectsOpen s = true ∧ v ≤ 2 ∧ (s.tb.on = false ∨ s.tb.ref = 0) :=
  ⟨2, witRun, by first | decide | rfl | simp, by first | decide | rfl | simp, by first | decide | rfl | simp⟩

theorem witness_TimeBaseFollowsItsSourceAndWrites_12 :
    ∃ (v : Nat) (s : State), 3 < v :=
  ⟨25, {}, by decide⟩

theorem witness_TimeBaseFollowsItsSourceAndWrites_13 :
    ∃ (s : State), objectsOpen s = true ∧ s.tb.on = true ∧ s.tb.state = 4 :=
  ⟨{ witRun with tb := { on := true, state := 4 } }, by first | decide | rfl | simp, by first | decide | rfl | simp, by first | decide | rfl | simp⟩

theorem witness_TimeBaseFollowsItsSourceAndWrites_14 :
    ∃ (s : State), (s.tb.on = false ∨ s.tb.state ≠ 4) :=
  ⟨{}, by decide⟩

theorem witness_TimeBaseFollowsItsSourceAndWrites_15 :
    ∃ (sub v : Nat) (s : State), 1 ≤ sub ∧ sub ≤ 4 ∧ rasterOk (rasterWith (comingRaster s) sub v) = true ∧ s.items = [] ∧ s.tb.on = true ∧ objectsOpen s = true :=
  ⟨3, 4, { witRun with tb := { on := true } }, by first | decide | rfl | simp, by first | decide | rfl | simp, by first | decide | rfl | simp, by first | decide | rfl | simp, by first | decide | rfl | simp, by first | decide | rfl | simp⟩

theorem witness_TimeBaseFollowsItsSourceAndWrites_16 :
    ∃ (sub v : Nat) (s : State), 1 ≤ sub ∧ sub ≤ 4 ∧ (rasterOk (rasterWith (comingRaster s) sub v) = false ∨ s.items ≠ []) :=
  ⟨2, 0, {}, by decide, by decide, by decide⟩

theorem witness_TimeBaseFollowsItsSourceAndWrites_17 :
    ∃ (v : Nat) (s : State), objectsOpen s = true ∧ v < 2 ^ 40 :=
  ⟨5, witRun, by first | decide | rfl | simp, by first | decide | rfl | simp⟩

theorem witness_TimeBaseFollowsItsSourceAndWrites_18 :
    ∃ (d rank : Nat) (m : W64) (s : State), (s.tb.on = false ∨ d ≠ oget s 0x6003 1) :=
  ⟨1, 3, 1, {}, by decide⟩

theorem witness_TimeBaseFollowsItsSourceAndWrites_19 :
    ∃ (d rank : Nat) (m : W64) (s : State), s.tb.on = true ∧ d = oget s 0x6003 1 ∧ s.tb.ptpSeen = true ∧ s.tb.ptpMaster = m :=
  ⟨_, 1, _, { tb := { on := true, ptpSeen := true } }, by decide, rfl, by decide, rfl⟩

theorem witness_TimeBaseFollowsItsSourceAndWrites_20 :
    ∃ (d rank : Nat) (m : W64) (s : State), s.tb.on = true ∧ d = oget s 0x6003 1 ∧ (s.tb.ptpSeen = false ∨ (s.tb.ptpMaster ≠ m ∧ rank < s.tb.ptpRank)) ∧ (s.tb.ref = 0 ∨ (s.tb.ref = 1 ∧ s.tb.fsValid = true ∧ oget s 0x6000 1 ≤ 1)) :=
  ⟨_, 3, 2, { tb := { on := true } }, by decide, rfl, by decide, by decide⟩

theorem witness_TimeBaseFollowsItsSourceAndWrites_21 :
    ∃ (d o r : Nat) (m : W64) (s : State), s.tb.on = true ∧ d = oget s 0x6003 1 ∧ s.tb.ptpSeen = true ∧ s.tb.ptpMaster = m :=
  ⟨_, 1, 2, _, { tb := { on := true, ptpSeen := true } }, by decide, rfl, by decide, rfl⟩

theorem witness_TimeBaseFollowsItsSourceAndWrites_22 :
    ∃ (d o r : Nat) (m : W64) (off : Int) (b : TimeBase) (s : State), s.tb.on = true ∧ d = oget s 0x6003 1 ∧ s.tb.ptpSeen = true ∧ s.tb.ptpMaster = m ∧ s.tb.ptpValid = false ∧ s.tb.ptpGood < 15 ∧ off = (r : Int) - o - s.tb.ptpDelay ∧ (ptpFrame s ((o : Int) + s.tb.ptpDelay)).isSome = true ∧ b = { s.tb with ptpSyncPair := some (o, r), ptpReceipt := none, ptpGood := if off.natAbs ≤ 100 then s.tb.ptpGood + 1 else 0 } :=
  ⟨_, 1, 2, _, _, _, { tb := { on := true, ptpSeen := true, ptpGood := 14 } }, by decide, rfl, by decide, rfl, by decide, by decide, rfl, by first | decide | rfl | simp, rfl⟩

theorem witness_TimeBaseFollowsItsSourceAndWrites_23 :
    ∃ (d o r : Nat) (m : W64) (s : State), s.tb.on = true ∧ d = oget s 0x6003 1 ∧ s.tb.ptpSeen = true ∧ s.tb.ptpMaster = m ∧ s.tb.ptpGood = 15 ∧ ((r : Int) - o - s.tb.ptpDelay).natAbs ≤ 100 ∧ (ptpFrame s ((o : Int) + s.tb.ptpDelay)).isSome = true :=
  ⟨_, 4, 0, _, { tb := { on := true, ptpSeen := true, ptpGood := 15 } }, by decide, rfl, by decide, rfl, by decide, by decide, by first | decide | rfl | simp⟩

theorem witness_TimeBaseFollowsItsSourceAndWrites_24 :
    ∃ (d o r : Nat) (m : W64) (s : State), s.tb.on = true ∧ d = oget s 0x6003 1 ∧ s.tb.ptpSeen = true ∧ s.tb.ptpMaster = m ∧ (o : Int) + s.tb.ptpDelay < s.tb.raster.2.2.2 ∧ s.tb.ref = 2 ∧ s.tb.state = 1 ∧ oget s 0x6000 1 = 2 :=
  ⟨_, 5, 3, _, { witRun with obj := [(objKey 0x6000 1, 2)], tb := { on := true, state := 1, ref := 2, ptpSeen := true, ptpValid := true, ptpMaster := 7, raster := (0, 1, 1, 100) } }, by first | decide | rfl | simp, rfl, by first | decide | rfl | simp, rfl, by decide, by first | decide | rfl | simp, by first | decide | rfl | simp, by first | decide | rfl | simp⟩

theorem witness_TimeBaseFollowsItsSourceAndWrites_25 :
    ∃ (sent : Nat) (s : State), s.tb.on = true ∧ s.tb.ptpSeen = true :=
  ⟨7, { tb := { on := true, ptpSeen := true } }, by decide, by decide⟩

theorem witness_TimeBaseFollowsItsSourceAndWrites_26 :
    ∃ (d o r sent rcv : Nat) (m : W64) (s : State), s.tb.on = true ∧ d = oget s 0x6003 1 ∧ s.tb.ptpSeen = true ∧ s.tb.ptpMaster = m ∧ s.tb.ptpSent = some sent ∧ s.tb.ptpSyncPair = some (o, r) :=
  ⟨2, 2, 1, 0, 13, 0, { obj := [(6292225, 2)], tb := { on := true, ptpSeen := true, ptpSyncPair := (some (2, 1)), ptpSent := (some 0) } }, by decide, by decide, by decide, by decide, by decide, by decide⟩

theorem witness_TimeBaseFollowsItsSourceAndWrites_27 :
    ∃ (s : State), s.tb.on = true ∧ (s.tb.ref = 0 ∨ (s.tb.ref = 1 ∧ s.tb.fsValid = true ∧ oget s 0x6000 1 ≤ 1)) :=
  ⟨{ tb := { on := true } }, by decide, by decide⟩

theorem witness_TimeBaseFollowsItsSourceAndWrites_28 :
    ∃ (s : State), s.tb.on = true ∧ s.tb.ref = 2 ∧ s.tb.state = 1 ∧ oget s 0x6000 1 = 2 :=
  ⟨{ obj := [(6291457, 2)], tb := { on := true, state := 1, ref := 2 } }, by decide, by decide, by decide, by decide⟩

theorem witness_ReleaseAndDeadlineOfAnItem_0 :
    ∃ (c q n d : Nat) (it : Item) (u s : State), c < 16384 ∧ q < 4 ∧ s.items = [(n, it)] ∧ queueHead s c q = some n ∧ hasDeadline it = false ∧ s.tb.on = true ∧ (now s).toNat < (itRelease it).toNat ∧ fld 63 24 (itRelease it) = fld 63 24 (now s) ∧ lockDue s = none ∧ eclDue s (itRelease it) = false ∧ u = { s with tb := { s.tb with now := itRelease it } } ∧ isReady u n it = true ∧ itKind it = 0 ∧ bestDie u (itMask it) = some d :=
  ⟨1, 0, 0, _, _, _, { witCtx with items := [(0, { witItem with phase := .waiting, desc := [0x200000000, 0, 5, 0xFFFFFFFFFFFFFFFF] })], tb := { on := true, state := 1 } }, by decide, by decide, rfl, by decide, by decide, by decide, by decide, by decide, by first | decide | rfl | simp, by first | decide | rfl | simp, rfl, by decide, by decide, rfl⟩

theorem witness_ReleaseAndDeadlineOfAnItem_1 :
    ∃ (c q : Nat) (s : State), c < 16384 ∧ q < 4 ∧ queueHead s c q = none :=
  ⟨7, 0, {}, by decide, by decide, by decide⟩

theorem witness_ReleaseAndDeadlineOfAnItem_2 :
    ∃ (n : Nat) (it : Item) (s : State), itemAt s n = some it ∧ hasDeadline it = true ∧ (itDeadline it).toNat ≤ (now s).toNat ∧ itEndMode it = true ∧ it.phase = .running ∧ it.due = false ∧ allDone s it = false ∧ holdsTransfer s it = false :=
  ⟨3, { ctx := 3, q := 181, idx := 3, desc := [], opnds := [], phase := .running, die := 92, tcs := [3], tAccept := 18446744073709551615, tAssign := 11997360784624764431, tStart := 2, status := (some 4), detail := 1, faultTc := 3, faultPc := 3929387577660742034, latches := [], sums := [], kstat := [(0, 84), (16384, 1)], faults := [(64, (2, (2, 5)))], sat := 0, flush := 3, ended := [], slip := false, pages := [(1, 3), (4, 2)], batch := [4] }, { boot := { phase := .running, claryn := true }, present := 1099511627775, items := [(3, { ctx := 3, q := 181, idx := 3, desc := [], opnds := [], phase := .running, die := 92, tcs := [3], tAccept := 18446744073709551615, tAssign := 11997360784624764431, tStart := 2, status := (some 4), detail := 1, faultTc := 3, faultPc := 3929387577660742034, latches := [], sums := [], kstat := [(0, 84), (16384, 1)], faults := [(64, (2, (2, 5)))], sat := 0, flush := 3, ended := [], slip := false, pages := [(1, 3), (4, 2)], batch := [4] })] }, by decide, by decide, by decide, by decide, by decide, by first | decide | rfl | simp, by decide, by decide⟩

theorem witness_ReleaseAndDeadlineOfAnItem_3 :
    ∃ (n : Nat) (it : Item) (s : State), itemAt s n = some it ∧ hasDeadline it = true ∧ (itDeadline it).toNat ≤ (now s).toNat ∧ itEndMode it = true ∧ it.phase = .waiting :=
  ⟨64, { ctx := 3, q := 1, idx := 1073741824, desc := [4, 3], opnds := [[156]], phase := .waiting, die := 3 }, { witRun with items := [(64, { ctx := 3, q := 1, idx := 1073741824, desc := [4, 3], opnds := [[156]], phase := .waiting, die := 3 })] }, by decide, by decide, by decide, by decide, by decide⟩

theorem witness_ReleaseAndDeadlineOfAnItem_4 :
    ∃ (n : Nat) (it : Item) (s : State), itemAt s n = some it ∧ hasDeadline it = false :=
  ⟨0, { ctx := 2, q := 0, idx := 3562745035, desc := [6, 18, 18446744073709551615, 18446744073709551615, 18446744073709551615], opnds := [[], [8]], phase := .walking, die := 8 }, { witRun with items := [(0, { ctx := 2, q := 0, idx := 3562745035, desc := [6, 18, 18446744073709551615, 18446744073709551615, 18446744073709551615], opnds := [[], [8]], phase := .walking, die := 8 })] }, by decide, by decide⟩

theorem witness_ReleaseAndDeadlineOfAnItem_5 :
    ∃ (n : Nat) (it : Item) (s : State), itemAt s n = some it ∧ hasDeadline it = true ∧ frameAfter (itDeadline it) < 2 ^ 64 ∧ frameAfter (itDeadline it) ≤ (now s).toNat ∧ it.tAccept.toNat < frameAfter (itDeadline it) ∧ itEndMode it = false ∧ it.phase = .running ∧ allDone s it = false :=
  ⟨4, { ctx := 1, q := 64, idx := 155, desc := [1337145734829725022, 4, 2], opnds := [], phase := .running, die := 74, tcs := [3], tAccept := 0, tAssign := 2, tStart := 12507501457703611939, status := (some 3), detail := 2, faultTc := 1, faultPc := 7, latches := [], sums := [], kstat := [], faults := [(2, (0, (0, 18446744073709551615)))], sat := 213, flush := 64, ended := [3], slip := true, pages := [], batch := [48, 2, 94] }, { items := [(4, { ctx := 1, q := 64, idx := 155, desc := [1337145734829725022, 4, 2], opnds := [], phase := .running, die := 74, tcs := [3], tAccept := 0, tAssign := 2, tStart := 12507501457703611939, status := (some 3), detail := 2, faultTc := 1, faultPc := 7, latches := [], sums := [], kstat := [], faults := [(2, (0, (0, 18446744073709551615)))], sat := 213, flush := 64, ended := [3], slip := true, pages := [], batch := [48, 2, 94] })], tb := { now := 16777216 } }, by decide, by decide, by decide, by decide, by first | decide | rfl | simp, by decide, by decide, by decide⟩

theorem witness_ReleaseAndDeadlineOfAnItem_6 :
    ∃ (n : Nat) (s : State), itemAt s n = none :=
  ⟨7, {}, by decide⟩

theorem witness_StarterEntersCoresWithinTheAllowance_0 :
    ∃ (d : Nat) (fl : List (Nat × Bool)) (s : State), d < 6 ∧ firstOf s d = none :=
  ⟨5, [], {}, by decide, by decide⟩

theorem witness_StarterEntersCoresWithinTheAllowance_1 :
    ∃ (d n : Nat) (fl : List (Nat × Bool)) (it : Item) (s : State), d < 6 ∧ firstOf s d = some (n, it) ∧ (freeCores s d).length < itN it :=
  ⟨0, _, [], _, { items := [(0, { witItem with phase := .assigned, die := 0 })] }, by decide, rfl, by decide⟩

theorem witness_StarterEntersCoresWithinTheAllowance_2 :
    ∃ (d n : Nat) (fl : List (Nat × Bool)) (it : Item) (s : State), d < 6 ∧ firstOf s d = some (n, it) ∧ itN it ≤ (freeCores s d).length ∧ itParam it = 0 :=
  ⟨0, _, [], _, { witRun with items := [(0, { witItem with phase := .assigned, die := 0 })] }, by decide, rfl, by decide, by decide⟩

theorem witness_StarterEntersCoresWithinTheAllowance_3 :
    ∃ (n r count : Nat) (it : Item) (param : List Byte) (c : TCore), r < 2 ^ 64 ∧ 0 < count ∧ c = entryCore n r count it param :=
  ⟨1, 1, 2, { ctx := 19, q := 0, idx := 1887657728, desc := [], opnds := [], phase := .parked, die := 36 }, [], _, by decide, by decide, by first | decide | rfl | simp⟩

theorem witness_StarterEntersCoresWithinTheAllowance_4 :
    ∃ (d : Nat) (s : State), d < 6 ∧ 0 < runningOn s d ∧ gate s d < ceilingA s d :=
  ⟨0, { witRun with items := [(0, witItem)], tcs := (upto 0 32).map fun i => (i, { item := some 0 }) }, by decide, by decide, by decide⟩

theorem witness_StarterEntersCoresWithinTheAllowance_5 :
    ∃ (d : Nat) (s : State), d < 6 ∧ (runningOn s d = 0 ∨ ceilingA s d ≤ gate s d) :=
  ⟨1, {}, by decide, by decide⟩

theorem witness_StarterEntersCoresWithinTheAllowance_6 :
    ∃ (d : Nat) (s : State), d < 6 ∧ runningOn s d = 0 :=
  ⟨1, {}, by decide, by decide⟩

theorem witness_StarterEntersCoresWithinTheAllowance_7 :
    ∃ (d : Nat) (s : State), d < 6 ∧ 0 < runningOn s d ∧ gate s d < ceilingA s d :=
  ⟨0, { witRun with items := [(0, witItem)], tcs := (upto 0 32).map fun i => (i, { item := some 0 }) }, by decide, by decide, by decide⟩

theorem witness_StarterEntersCoresWithinTheAllowance_8 :
    ∃ (d : Nat) (s : State), d < 6 ∧ 0 < runningOn s d ∧ ceilingA s d ≤ gate s d :=
  ⟨0, { witRun with items := [(0, witItem)], tcs := [(0, { item := some 0 })] }, by decide, by decide, by decide⟩

theorem witness_EclipseCapturesAndCompletes_0 :
    ∃ (s : State), objectsOpen s = true ∧ eclTooLate s = false :=
  ⟨{ witRun with obj := [(objKey 0x6010 1, 0x100000000)] }, by first | decide | rfl | simp, by first | decide | rfl | simp⟩

theorem witness_EclipseCapturesAndCompletes_1 :
    ∃ (s : State), objectsOpen s = true ∧ eclTooLate s = true :=
  ⟨witRun, by first | decide | rfl | simp, by decide⟩

theorem witness_EclipseCapturesAndCompletes_3 :
    ∃ (b : Bool) (s : State), objectsOpen s = false :=
  ⟨true, {}, by first | decide | rfl | simp⟩

theorem witness_EclipseCapturesAndCompletes_4 :
    ∃ (e : Eclipse) (s : State), s.ecl = some e ∧ e.capturing = false ∧ e.time.toNat ≤ (now s).toNat :=
  ⟨_, { ecl := some { time := 0, ident := 1, buffer := 0x100000, portSet := 0, baton := 0xFFFF, batonOp := 0 } }, rfl, by decide, by decide⟩

theorem witness_EclipseCapturesAndCompletes_6 :
    ∃ (p : Bool) (n : Nat) (id : W32) (e : Eclipse) (s : State), (if p then n < 24 else n < 34) ∧ s.ecl = some e ∧ e.ident = id ∧ (p, n) ∉ e.seen :=
  ⟨false, 24, 140555835, { time := 11059343937853658811, ident := 140555835, buffer := 1, portSet := 9, baton := 34, batonOp := 0, capturing := false, seen := [], unlocked := false, batons := [], slots := [], groups := [], ctxs := [(3, { entry := [65536, 5, 0, 18446744073709551615, 0, 0, 0, 0, 0, 0, 0, 0, 0, 0, 0, 32768], misses := 195, refusals := 3, ewsel := 23 })], queues := [], tbState := [], starters := [] }, { witRun with obj := [(5308930, 255), (5309186, 1073676288)], ctxs := [(1, { state := 1, entry := [133144002417, 0, 0, 0, 65540, 131072, 0, 0, 0, 0, 0, 0, 0, 0, 0, 0] })], queues := [(4, { tail := 18, accepted := 16, released := 16, completed := 16, rereads := 2 })], ctxBase := 262144, ecl := (some { time := 11059343937853658811, ident := 140555835, buffer := 1, portSet := 9, baton := 34, batonOp := 0, capturing := false, seen := [], unlocked := false, batons := [], slots := [], groups := [], ctxs := [(3, { entry := [65536, 5, 0, 18446744073709551615, 0, 0, 0, 0, 0, 0, 0, 0, 0, 0, 0, 32768], misses := 195, refusals := 3, ewsel := 23 })], queues := [], tbState := [], starters := [] }) }, by decide, by decide, by decide, by decide⟩

theorem witness_EclipseCapturesAndCompletes_7 :
    ∃ (p : Bool) (n : Nat) (id : W32) (s : State), (if p then n < 24 else n < 34) ∧ (∀ e, s.ecl = some e → e.ident ≠ id ∨ (p, n) ∈ e.seen) :=
  ⟨true, 6, 64, witRun, by decide, by first | decide | simp | (intros; simp_all)⟩

theorem witness_EclipseCapturesAndCompletes_8 :
    ∃ (ns : Nat) (e : Eclipse) (s : State), s.ecl = some e ∧ e.capturing = true ∧ eclMissing s e = [] ∧ e.baton = 0xFFFF :=
  ⟨0, _, { ecl := some { time := 0, ident := 1, buffer := 0x100000, portSet := 0, baton := 0xFFFF, batonOp := 0, capturing := true } }, rfl, by decide, by decide, by decide⟩

theorem witness_EclipseCapturesAndCompletes_9 :
    ∃ (e : Eclipse) (s : State), s.ecl = some e ∧ e.capturing = true ∧ eclMissing s e ≠ [] :=
  ⟨_, { witRun with links := (upto 0 17).map fun i => (i, { state := 3 }), ecl := some { time := 0, ident := 1, buffer := 0x100000, portSet := 0, baton := 0xFFFF, batonOp := 0, capturing := true } }, rfl, by decide, by decide⟩

theorem witness_ContextsAreEnabledAndTornDown_0 :
    ∃ (c : Nat) (s : State), c < 16384 ∧ s.cmdBusy = true :=
  ⟨1, { cmdBusy := true }, by decide, by decide⟩

theorem witness_ContextsAreEnabledAndTornDown_1 :
    ∃ (c : Nat) (fl : List (Nat × Bool)) (s : State), c < 16384 ∧ s.cmdBusy = true :=
  ⟨1, [], { cmdBusy := true }, by decide, by decide⟩

theorem witness_ContextsAreEnabledAndTornDown_2 :
    ∃ (c : Nat) (fl : List (Nat × Bool)) (s : State), c < 16384 ∧ s.cmdBusy = false ∧ (ctxAt s c).state ≠ 0 :=
  ⟨0, [], { ctxs := [(0, { state := 1 })] }, by decide, by decide, by decide⟩

theorem witness_ContextsAreEnabledAndTornDown_3 :
    ∃ (c : Nat) (fl : List (Nat × Bool)) (l : List Byte) (u s : State), c < 16384 ∧ s.cmdBusy = false ∧ (ctxAt s c).state = 0 ∧ memRead (subReq none) none (s.ctxBase.toNat + 128 * c) 128 (setFlaws fl s) = (.ok l, u) ∧ entryOk u c (wordsOf l 16) = false :=
  ⟨0, [], _, _, witRun, by decide, by decide, by decide, by first | decide | rfl | simp, by decide⟩

theorem witness_ContextsAreEnabledAndTornDown_4 :
    ∃ (c : Nat) (fl : List (Nat × Bool)) (l : List Byte) (u s : State), c < 16384 ∧ s.cmdBusy = false ∧ (ctxAt s c).state = 0 ∧ memRead (subReq none) none (s.ctxBase.toNat + 128 * c) 128 (setFlaws fl s) = (.ok l, u) ∧ entryOk u c (wordsOf l 16) = true ∧ ringsOk u (wordsOf l 16) = false :=
  ⟨1, [], _, _, { witCtx with ctxs := [], mem := { hbm := tputs [] 0x40080 ((witEntry.take 4 ++ 0xFFFFFFFFFF004 :: witEntry.drop 5).flatMap fun w => leBytes 8 w.toNat) } }, by decide, by decide, by decide, by first | decide | rfl | simp, by decide, by decide⟩

theorem witness_ContextsAreEnabledAndTornDown_5 :
    ∃ (c : Nat) (fl : List (Nat × Bool)) (l : List Byte) (u s : State), c < 16384 ∧ s.cmdBusy = false ∧ (ctxAt s c).state = 0 ∧ memRead (subReq none) none (s.ctxBase.toNat + 128 * c) 128 (setFlaws fl s) = (.ok l, u) ∧ entryOk u c (wordsOf l 16) = true ∧ ringsOk u (wordsOf l 16) = true :=
  ⟨1, [], _, _, { witCtx with ctxs := [], mem := { hbm := tputs [] 0x40080 (witEntry.flatMap fun w => leBytes 8 w.toNat) } }, by decide, by decide, by decide, by first | decide | rfl | simp, by decide, by decide⟩

theorem witness_ContextsAreEnabledAndTornDown_6 :
    ∃ (c : Nat) (s : State), c < 16384 ∧ s.cmdBusy = false ∧ (ctxAt s c).state ≠ 1 :=
  ⟨1, { ctxs := [(1, { state := 2 })] }, by decide, by decide, by decide⟩

theorem witness_ContextsAreEnabledAndTornDown_7 :
    ∃ (c : Nat) (s : State), c < 16384 ∧ s.cmdBusy = false ∧ (ctxAt s c).state = 1 :=
  ⟨0, { ctxs := [(0, { state := 1 })] }, by decide, by decide, by decide⟩

theorem witness_ContextsAreEnabledAndTornDown_8 :
    ∃ (c : Nat) (u s : State), c < 16384 ∧ (ctxAt s c).state = 2 ∧ (∀ e ∈ s.items, e.2.ctx ≠ c) ∧ rqIdle s c = true ∧ u = rqDisable c (ctxPut s c { ctxAt s c with state := 0 }) :=
  ⟨1, _, { ctxs := [(1, { state := 2 })] }, by decide, by decide, by first | decide | simp | (intros; simp_all), by decide, rfl⟩

theorem witness_ContextsAreEnabledAndTornDown_9 :
    ∃ (v : W64) (s : State), s.cmdBusy = false ∧ (fld 17 16 v = 0 ∨ fld 17 16 v = 3) :=
  ⟨2, {}, by decide, by decide⟩

theorem witness_ContextsAreEnabledAndTornDown_10 :
    ∃ (v : W64) (s : State), (∀ e ∈ s.ctxs, e.2.state = 0) :=
  ⟨2, {}, by first | decide | simp | (intros; simp_all)⟩

theorem witness_ContextsAreEnabledAndTornDown_11 :
    ∃ (v : W64) (s : State) (e : Nat × Ctx), e ∈ s.ctxs ∧ e.2.state ≠ 0 :=
  ⟨5677589775462026022, { ctxs := [(3, { state := 1 }), (3, { state := 1 })] }, (3, { state := 1 }), by decide, by decide⟩

theorem witness_QueuesAreServedAndParked_0 :
    ∃ (c q : Nat) (v : W64) (s : State), c < 16384 ∧ q < 4 ∧ ctxEnabled s c = true ∧ hasQueue s c q = true ∧ doorbellValid s c q v = true :=
  ⟨1, 0, 4, witCtx, by decide, by decide, by decide, by decide, by decide⟩

theorem witness_QueuesAreServedAndParked_1 :
    ∃ (c q : Nat) (v : W64) (s : State), c < 16384 ∧ q < 4 ∧ ctxEnabled s c = true ∧ hasQueue s c q = true ∧ doorbellValid s c q v = false ∧ (queueAt s (4 * c + q)).status = 0 :=
  ⟨4, 0, 15, { ctxs := [(4, { state := 1, entry := [562949953421312] })] }, by decide, by decide, by decide, by decide, by decide, by decide⟩

theorem witness_QueuesAreServedAndParked_2 :
    ∃ (c q : Nat) (v : W64) (s : State), c < 16384 ∧ q < 4 ∧ (ctxEnabled s c = false ∨ hasQueue s c q = false) :=
  ⟨4, 3, 1, { ctxs := [(4, { state := 2 })] }, by decide, by decide, by decide⟩

theorem witness_QueuesAreServedAndParked_3 :
    ∃ (c q : Nat) (fl : List (Nat × Bool)) (x : Queue) (l : List Byte) (u s : State), c < 16384 ∧ q < 4 ∧ nextQueue s = some (4 * c + q) ∧ x = queueAt s (4 * c + q) ∧ rangeWaits (setFlaws fl { s with rr := 4 * c + q }) (subReq none) (some (ctxPart s c)) true (descAddr s c q x.accepted) 128 = false ∧ memRead (subReq none) (some (ctxPart s c)) (descAddr s c q x.accepted) 128 (setFlaws fl { s with rr := 4 * c + q }) = (.ok l, u) ∧ fld 15 0 (bytesWord l 0) = genOf s c q x.accepted :=
  ⟨1, 0, [], _, _, _, witCtx, by decide, by decide, by decide, rfl, by first | decide | rfl | simp, by first | decide | rfl | simp, by decide⟩

theorem witness_QueuesAreServedAndParked_4 :
    ∃ (c q : Nat) (fl : List (Nat × Bool)) (x : Queue) (l : List Byte) (u s : State), c < 16384 ∧ q < 4 ∧ nextQueue s = some (4 * c + q) ∧ x = queueAt s (4 * c + q) ∧ rangeWaits (setFlaws fl { s with rr := 4 * c + q }) (subReq none) (some (ctxPart s c)) true (descAddr s c q x.accepted) 128 = false ∧ memRead (subReq none) (some (ctxPart s c)) (descAddr s c q x.accepted) 128 (setFlaws fl { s with rr := 4 * c + q }) = (.ok l, u) ∧ fld 15 0 (bytesWord l 0) ≠ genOf s c q x.accepted ∧ x.rereads < 8 :=
  ⟨1, 0, [], _, _, _, { witCtx with mem := { hbm := [(0x10080, 1)] } }, by decide, by decide, by decide, rfl, by first | decide | rfl | simp, by first | decide | rfl | simp, by decide, by decide⟩

theorem witness_QueuesAreServedAndParked_5 :
    ∃ (c q : Nat) (fl : List (Nat × Bool)) (s : State), c < 16384 ∧ q < 4 ∧ nextQueue s ≠ some (4 * c + q) :=
  ⟨7, 0, [], {}, by decide, by decide, by decide⟩

theorem witness_QueuesAreServedAndParked_6 :
    ∃ (c q : Nat) (fl : List (Nat × Bool)) (x : Queue) (l : List Byte) (u s : State), c < 16384 ∧ q < 4 ∧ hasWork s c q = true ∧ x = queueAt s (4 * c + q) ∧ x.rereads ≠ 0 ∧ rangeWaits (setFlaws fl s) (subReq none) (some (ctxPart s c)) true (descAddr s c q x.accepted) 128 = false ∧ memRead (subReq none) (some (ctxPart s c)) (descAddr s c q x.accepted) 128 (setFlaws fl s) = (.ok l, u) ∧ fld 15 0 (bytesWord l 0) ≠ genOf s c q x.accepted :=
  ⟨1, 0, [], _, _, _, { witCtx with queues := [(4, { tail := 3, accepted := 1, rereads := 1 })], mem := { hbm := [(0x10080, 1)] } }, by decide, by decide, by decide, rfl, by decide, by first | decide | rfl | simp, by first | decide | rfl | simp, by decide⟩

theorem witness_QueuesAreServedAndParked_7 :
    ∃ (c q : Nat) (s : State), c < 16384 ∧ q < 4 ∧ ctxEnabled s c = true ∧ hasQueue s c q = true ∧ (queueAt s (4 * c + q)).status ≠ 0 :=
  ⟨3, 0, { ctxs := [(3, { state := 1, entry := [1] })], queues := [(12, { status := 1 })] }, by decide, by decide, by decide, by decide, by decide⟩

theorem witness_QueuesAreServedAndParked_8 :
    ∃ (c q : Nat) (s : State), c < 16384 ∧ q < 4 ∧ (queueAt s (4 * c + q)).status = 0 :=
  ⟨4, 0, {}, by decide, by decide, by decide⟩

theorem witness_QueuesAreServedAndParked_9 :
    ∃ (c q : Nat) (u s : State), c < 16384 ∧ q < 4 ∧ ctxEnabled s c = true ∧ hasQueue s c q = true ∧ (queueAt s (4 * c + q)).status ≠ 0 ∧ (queueAt s (4 * c + q)).accepted ≠ (queueAt s (4 * c + q)).tail ∧ u = queuePut s (4 * c + q) { queueAt s (4 * c + q) with status := 0, rereads := 0 } :=
  ⟨1, 0, _, { witCtx with queues := [(4, { tail := 3, accepted := 1, status := 2 })] }, by decide, by decide, by decide, by decide, by decide, by decide, rfl⟩

theorem witness_ItemsAreAcceptedAndEnd_1 :
    ∃ (c q k : Nat) (desc : List W64) (e : List (List W64)) (d it : Item) (u s : State), d = { ctx := c, q := q, idx := (queueAt s (4 * c + q)).accepted, desc := desc, opnds := [], phase := .walking, tAccept := now s } ∧ readOpnds d none s = (some (.ok e), u) ∧ it = { d with opnds := e, phase := if itKind d = 0 then .walking else .waiting } ∧ acceptReason (enqueueItem c q it u) it = some k :=
  ⟨3, 3, _, [4], [], _, _, _, {}, rfl, rfl, rfl, rfl⟩

theorem witness_ItemsAreAcceptedAndEnd_2 :
    ∃ (c q : Nat) (desc : List W64) (e : List (List W64)) (d it : Item) (u s : State), d = { ctx := c, q := q, idx := (queueAt s (4 * c + q)).accepted, desc := desc, opnds := [], phase := .walking, tAccept := now s } ∧ readOpnds d none s = (some (.ok e), u) ∧ it = { d with opnds := e, phase := if itKind d = 0 then .walking else .waiting } ∧ acceptReason (enqueueItem c q it u) it = none :=
  ⟨1, 0, [0x10000, 5, 0, 0xFFFFFFFFFFFFFFFF, 0, 0, 0, 0, 0, 0, 0, 0, 0, 0, 0, 0], _, _, _, _, witCtx, by first | decide | rfl | simp, by first | decide | rfl | simp, by first | decide | rfl | simp, by first | decide | rfl | simp⟩

theorem witness_ItemsAreAcceptedAndEnd_3 :
    ∃ (it : Item) (s : State), nSlots it = 0 :=
  ⟨{ ctx := 1, q := 1, idx := 1048576, desc := [], opnds := [], phase := .assigned, die := 4 }, { witRun with items := [(3, { ctx := 1, q := 1, idx := 1048576, desc := [], opnds := [], phase := .assigned, die := 4 })] }, by first | decide | rfl | simp⟩

theorem witness_ItemsAreAcceptedAndEnd_4 :
    ∃ (s : State) (it : Item), chkReserved it = true :=
  ⟨{}, { ctx := 1, q := 0, idx := 3503750593, desc := [18018137541331838477], opnds := [[], [], [], []], phase := .walking, die := 1 }, by decide⟩

theorem witness_ItemsAreAcceptedAndEnd_5 :
    ∃ (n : Nat) (fl : List (Nat × Bool)) (it : Item) (s : State), itemAt s n = some it ∧ it.phase = .running ∧ (∀ k ∈ it.tcs, coreEnded it (tcAt s k) = true) ∧ it.faults = [] :=
  ⟨0, [], { witItem with tcs := [], status := some 2 }, { items := [(0, { witItem with tcs := [], status := some 2 })] }, by first | decide | rfl | simp, by first | decide | rfl | simp, by first | decide | rfl | simp, by first | decide | rfl | simp⟩

theorem witness_ItemsAreAcceptedAndEnd_6 :
    ∃ (n : Nat) (fl : List (Nat × Bool)) (it : Item) (s : State), itemAt s n = some it ∧ it.phase = .running ∧ (∀ k ∈ it.tcs, coreEnded it (tcAt s k) = true) ∧ it.faults ≠ [] :=
  ⟨2, [], { ctx := 0, q := 3, idx := 190, desc := [], opnds := [], phase := .running, die := 1, faults := [(0, 0, 1, 0)] }, { items := [(2, { ctx := 0, q := 3, idx := 190, desc := [], opnds := [], phase := .running, die := 1, faults := [(0, 0, 1, 0)] })] }, by first | decide | rfl | simp, by first | decide | rfl | simp, by first | decide | rfl | simp, by first | decide | rfl | simp⟩

theorem witness_ItemsAreAcceptedAndEnd_7 :
    ∃ (n : Nat) (fl : List (Nat × Bool)) (it : Item) (s : State), itemAt s n = some it ∧ it.phase = .running ∧ (∀ k ∈ it.tcs, coreEnded it (tcAt s k) = true) :=
  ⟨2, [], { ctx := 0, q := 7, idx := 190, desc := [], opnds := [], phase := .running, die := 1 }, { items := [(2, { ctx := 0, q := 7, idx := 190, desc := [], opnds := [], phase := .running, die := 1 })] }, by decide, by decide, by first | decide | rfl | simp⟩

theorem witness_ItemsAreAcceptedAndEnd_8 :
    ∃ (n k : Nat) (fl : List (Nat × Bool)) (it : Item) (s : State), itemAt s n = some it ∧ k ∈ it.tcs ∧ coreEnded it (tcAt s k) = false :=
  ⟨10, 1, [], { ctx := 4, q := 8, idx := 1, desc := [], opnds := [[1]], phase := .assigned, die := 5, tcs := [1, 1, 3], tAccept := 5, tAssign := 18446744073709551615, tStart := 18446744073709551615, status := none, detail := 0, faultTc := 0, faultPc := 0, latches := [], sums := [(0, 1394745387), (4, 8)], kstat := [(0, 4)], faults := [(3, (16400, (4, 1)))], sat := 7, flush := 9, ended := [5, 3, 1], slip := true, pages := [], batch := [2] }, { boot := { phase := .running, claryn := true }, present := 1099511627775, items := [(10, { ctx := 4, q := 8, idx := 1, desc := [], opnds := [[1]], phase := .assigned, die := 5, tcs := [1, 1, 3], tAccept := 5, tAssign := 18446744073709551615, tStart := 18446744073709551615, status := none, detail := 0, faultTc := 0, faultPc := 0, latches := [], sums := [(0, 1394745387), (4, 8)], kstat := [(0, 4)], faults := [(3, (16400, (4, 1)))], sat := 7, flush := 9, ended := [5, 3, 1], slip := true, pages := [], batch := [2] })] }, by decide, by decide, by first | decide | rfl | simp⟩

theorem witness_ItemsAreAcceptedAndEnd_10 :
    ∃ (n : Nat) (it : Item) (st : Nat) (s : State), itemAt s n = some it :=
  ⟨3, { ctx := 1, q := 1, idx := 1048576, desc := [], opnds := [], phase := .assigned, die := 4 }, 5, { witRun with items := [(3, { ctx := 1, q := 1, idx := 1048576, desc := [], opnds := [], phase := .assigned, die := 4 })] }, by decide⟩

theorem witness_BatonsAndEntryWindowsTakeTheirWrites_1 :
    ∃ (b : Nat) (op : W32) (s : State), b < 8192 ∧ batonWordOk op = true ∧ bit 1 (batonAt s b).ctl = false ∧ s.tcs = [] ∧ s.items = [] :=
  ⟨3, 0, {}, by decide, by decide, by decide, by decide, by decide⟩

theorem witness_BatonsAndEntryWindowsTakeTheirWrites_2 :
    ∃ (b : Nat) (op : W32) (s : State), b < 8192 ∧ batonWordOk op = true :=
  ⟨0, 0, {}, by decide, by decide⟩

theorem witness_BatonsAndEntryWindowsTakeTheirWrites_3 :
    ∃ (b : Nat) (op : W32) (s : State), b < 8192 ∧ batonWordOk op = false ∧ firstReady s = none :=
  ⟨0, 32, {}, by decide, by decide, by decide⟩

theorem witness_BatonsAndEntryWindowsTakeTheirWrites_4 :
    ∃ (b : Nat) (v : W32) (s : State), b < 8192 :=
  ⟨1, 0, {}, by decide⟩

theorem witness_BatonsAndEntryWindowsTakeTheirWrites_5 :
    ∃ (b : Nat) (v : W32) (s : State), b < 8192 ∧ bit 1 (batonAt s b).ctl = true ∧ s.items = [] ∧ s.tcs = [] ∧ condHolds (batonAt s b).cond v = true ∧ condHolds (batonAt s b).cond (batonAt s b).value = false :=
  ⟨0, 1, { batons := [(0, { ctl := 2, cond := 1 })] }, by decide, by decide, by decide, by decide, by decide, by decide⟩

theorem witness_BatonsAndEntryWindowsTakeTheirWrites_6 :
    ∃ (b : Nat) (v : W64) (s : State), b < 8192 :=
  ⟨1, 0, {}, by decide⟩

theorem witness_BatonsAndEntryWindowsTakeTheirWrites_7 :
    ∃ (b : Nat) (v : W64) (s : State), b < 8192 ∧ batonNamed s b = false :=
  ⟨0, 0, {}, by decide, by decide⟩

theorem witness_BatonsAndEntryWindowsTakeTheirWrites_8 :
    ∃ (b : Nat) (v : W64) (s : State), b < 8192 ∧ batonNamed s b = true ∧ maskWrite 0x3FFF0003 (batonAt s b).ctl v &&& 0x3FFF0001 ≠ (batonAt s b).ctl &&& 0x3FFF0001 :=
  ⟨0, 1, { items := [(0, { witItem with desc := List.replicate 10 0 ++ [0x8000] })] }, by decide, by decide, by decide⟩

theorem witness_BatonsAndEntryWindowsTakeTheirWrites_9 :
    ∃ (c n : Nat) (v : W64) (s : State), c < 16384 ∧ ewIsSlot s c = true ∧ n = ewSel s c ∧ n < 64 ∧ slotBound s n c = true :=
  ⟨4, 0, 15, { ctxs := [(4, { ewsel := 65536 })], slots := [(0, { ctl := 262145 })] }, by decide, by decide, by decide, by decide, by decide⟩

theorem witness_BatonsAndEntryWindowsTakeTheirWrites_10 :
    ∃ (c off : Nat) (v : W64) (s : State), c < 16384 ∧ off < 64 ∧ off % 8 = 0 ∧ ewIsSlot s c = false ∧ groupOf s (ewSel s c) c = true ∧ ewSel s c < 1024 :=
  ⟨4, 0, 15, { ctxs := [(4, { ewsel := 1023 })], groups := [(0, { gctl := 264192 }), (1023, { gctl := 264192 })] }, by decide, by decide, by decide, by decide, by decide, by decide⟩

theorem witness_PagesResolveAtEnqueueAndWhileRunning_0 :
    ∃ (n : Nat) (fl : List (Nat × Bool)) (it : Item) (u s : State), itemAt s n = some it ∧ it.phase = .walking ∧ tableUnread it = false ∧ issuing s = true ∧ WalksGo (setFlaws fl s) it.ctx (itPages it) ∧ resolveAll it.ctx n (itPages it) (itemPut (setFlaws fl s) n it) = ([], false, u) ∧ itemAt u n = some it ∧ hasDeadline it = false :=
  ⟨0, [], _, _, { witCtx with items := [(0, { witItem with phase := .walking, desc := [0, 0, 0, 0xFFFFFFFFFFFFFFFF] })] }, rfl, by decide, by decide, by first | decide | rfl | simp, by unfold WalksGo; decide, by first | decide | rfl | simp, by decide, by decide⟩

theorem witness_PagesResolveAtEnqueueAndWhileRunning_1 :
    ∃ (n : Nat) (fl : List (Nat × Bool)) (it : Item) (m : List (Nat × Nat)) (u s : State), itemAt s n = some it ∧ it.phase = .walking ∧ tableUnread it = false ∧ issuing s = true ∧ WalksGo (setFlaws fl s) it.ctx (itPages it) ∧ resolveAll it.ctx n (itPages it) (itemPut (setFlaws fl s) n it) = (m, true, u) ∧ itemAt u n = some it :=
  ⟨0, [], _, _, _, { items := [(0, { witItem with phase := .walking })] }, rfl, by decide, by decide, by first | decide | rfl | simp, by unfold WalksGo; decide, by first | decide | rfl | simp, by decide⟩

theorem witness_PagesResolveAtEnqueueAndWhileRunning_2 :
    ∃ (n : Nat) (fl : List (Nat × Bool)) (it : Item) (p : Nat × Nat) (m : List (Nat × Nat)) (u s : State), itemAt s n = some it ∧ it.phase = .walking ∧ tableUnread it = false ∧ issuing s = true ∧ WalksGo (setFlaws fl s) it.ctx (itPages it) ∧ resolveAll it.ctx n (itPages it) (itemPut (setFlaws fl s) n it) = (p :: m, false, u) ∧ itemAt u n = some it :=
  ⟨0, [], _, _, _, _, { witCtx with ctxs := [(1, { state := 1, entry := [0x1F00003F71, 0xA000000000000040] })], items := [(0, { witItem with phase := .walking })] }, rfl, by decide, by decide, by first | decide | rfl | simp, by unfold WalksGo; decide, by first | decide | rfl | simp, by decide⟩

theorem witness_PagesResolveAtEnqueueAndWhileRunning_3 :
    ∃ (n : Nat) (fl : List (Nat × Bool)) (it : Item) (s : State), itemAt s n = some it ∧ (it.phase ≠ .walking ∨ issuing s = false) :=
  ⟨6, [], { ctx := 0, q := 0, idx := 0, desc := [], opnds := [[0]], phase := .parked, die := 0 }, { witRun with items := [(6, { ctx := 0, q := 0, idx := 0, desc := [], opnds := [[0]], phase := .parked, die := 0 })] }, by decide, by first | decide | rfl | simp⟩

theorem witness_PagesResolveAtEnqueueAndWhileRunning_4 :
    ∃ (s : State) (ctx vpn acc : Nat) (n : Option Nat), bare s ctx = true ∧ pageAllowed s (ctxPart s ctx) vpn = true :=
  ⟨witCtx, 1, 8, 2, some 3, by first | decide | rfl | simp, by first | decide | rfl | simp⟩

theorem witness_PagesResolveAtEnqueueAndWhileRunning_5 :
    ∃ (s : State) (ctx vpn acc : Nat) (n : Option Nat), bare s ctx = true ∧ pageAllowed s (ctxPart s ctx) vpn = false :=
  ⟨witCtx, 1, 2 ^ 36, 2, some 3, by first | decide | rfl | simp, by first | decide | rfl | simp⟩

theorem witness_PagesResolveAtEnqueueAndWhileRunning_6 :
    ∃ (tc n : Nat) (f : Bool) (va : W64) (fl : List (Nat × Bool)) (it : Item) (e : Tlb) (acc : Nat) (s : State), tc < 192 ∧ (tcAt s tc).item = some n ∧ itemAt s n = some it ∧ bare s it.ctx = false ∧ (f = true → va.toNat / 4096 ∉ (tcAt s tc).codeOut) ∧ acc = (if f then 4 else accessAt it va.toNat) ∧ tlbFind (microAt s (microKey tc f)) (vmidOf s it.ctx) (asidOf s it.ctx) (va.toNat / 4096) acc = none ∧ tlbFind (clusterAt s (tc / 8)) (vmidOf s it.ctx) (asidOf s it.ctx) (va.toNat / 4096) acc = some e :=
  ⟨0, 0, true, 0, [], _, _, _, { witCtx with ctxs := [(1, { state := 1, entry := [0x1F00003F71, 0xA000000000000040] })], items := [(0, witItem)], tcs := [(0, { item := some 0 })], stu := { cluster := [(0, [⟨0, 0, 0, 1, 16, false, 7, false⟩])] } }, by decide, by decide, rfl, by decide, by first | decide | rfl | simp, rfl, by decide, rfl⟩

theorem witness_PagesResolveAtEnqueueAndWhileRunning_7 :
    ∃ (tc n : Nat) (f : Bool) (va : W64) (fl : List (Nat × Bool)) (it : Item) (s : State), tc < 192 ∧ (tcAt s tc).item = some n ∧ itemAt s n = some it ∧ bare s it.ctx = true ∧ (f = true → va.toNat / 4096 ∉ (tcAt s tc).codeOut) :=
  ⟨191, 13, true, 18446744073709551615, [], { ctx := 192, q := 17, idx := 1326403703, desc := [1, 18446744073709551615], opnds := [], phase := .parked, die := 192 }, { witRun with tcs := [(191, { item := (some 13) })], items := [(13, { ctx := 192, q := 17, idx := 1326403703, desc := [1, 18446744073709551615], opnds := [], phase := .parked, die := 192 })] }, by decide, by decide, by decide, by decide, by first | decide | rfl | simp⟩

theorem witness_PagesResolveAtEnqueueAndWhileRunning_8 :
    ∃ (tc tag n : Nat) (f : Bool) (va : W64) (fl : List (Nat × Bool)) (it : Item) (acc st : Nat) (adb : Bool) (u s : State), tc < 192 ∧ (tcAt s tc).item = some n ∧ itemAt s n = some it ∧ it.phase = .running ∧ issuing s = true ∧ transferAt it (tcAt s tc) tag f va.toNat = true ∧ (tcAt s tc).stopped = false ∧ acc = (if f then 4 else heldAccess it (tcAt s tc) tag) ∧ tlbFind (microAt s (microKey tc f)) (vmidOf s it.ctx) (asidOf s it.ctx) (va.toNat / 4096) acc = none ∧ tlbFind (clusterAt s (tc / 8)) (vmidOf s it.ctx) (asidOf s it.ctx) (va.toNat / 4096) acc = none ∧ WalksGo (setFlaws fl s) it.ctx [(va.toNat / 4096, acc)] ∧ resolvePage it.ctx (some n) (va.toNat / 4096) acc (setFlaws fl s) = (.missing st adb, u) ∧ tcAt u tc = tcAt s tc ∧ bit 1 u.stu.cfg = true :=
  ⟨0, 0, 0, true, 0, [], _, _, _, _, _, { witCtx with ctxs := [(1, { state := 1, entry := [0x1F00003F71, 0xA000000000000040] })], items := [(0, witItem)], tcs := [(0, { item := some 0 })], stu := { cfg := 2 } }, by decide, by decide, rfl, by decide, by first | decide | rfl | simp, by decide, by decide, rfl, by first | decide | rfl | simp, by first | decide | rfl | simp, by unfold WalksGo; decide, by first | decide | rfl | simp, by decide, by decide⟩

theorem witness_PagesResolveAtEnqueueAndWhileRunning_9 :
    ∃ (tc tag n : Nat) (f : Bool) (va : W64) (fl : List (Nat × Bool)) (it : Item) (s : State), tc < 192 ∧ (tcAt s tc).item = some n ∧ itemAt s n = some it ∧ (tlbFind (microAt s (microKey tc f)) (vmidOf s it.ctx) (asidOf s it.ctx) (va.toNat / 4096) (if f then 4 else heldAccess it (tcAt s tc) tag)).isSome = true :=
  ⟨0, 0, 0, true, 0x2000, [], witItem, { witState {} with stu := { micro := [(1, [⟨0, 0, 2, 1, 9, false, 7, false⟩])] } }, by first | decide | rfl | simp, by first | decide | rfl | simp, by first | decide | rfl | simp, by first | decide | rfl | simp⟩

theorem witness_PageRequestsAreAnswered_0 :
    ∃ (tag : Nat) (fl : List (Nat × Bool)) (r : PReq) (u s : State), s.stu.reqs.find? (fun q => decide (q.tag = tag)) = some r ∧ u = { s with stu := { s.stu with reqs := s.stu.reqs.filter fun q => decide (q.tag ≠ tag) } } :=
  ⟨0, [], { tag := 0, ctx := 0, vpn := 0, acc := 2, stage := 2, run := false, adb := true, item := 1, written := true }, {}, { stu := { reqs := [{ tag := 0, ctx := 0, vpn := 0, acc := 2, stage := 2, run := false, adb := true, item := 1, written := true }, { tag := 0, ctx := 0, vpn := 0, acc := 2, stage := 2, run := false, adb := true, item := 1, written := true }] } }, by first | decide | rfl | simp, by first | decide | rfl | simp⟩

theorem witness_PageRequestsAreAnswered_1 :
    ∃ (tag : Nat) (fl : List (Nat × Bool)) (s : State), (∀ q ∈ s.stu.reqs, q.tag ≠ tag) ∧ s.stu.nextTag ≤ tag :=
  ⟨0, [], {}, by first | decide | simp | (intros; simp_all), by decide⟩

theorem witness_PageRequestsAreAnswered_2 :
    ∃ (tag : Nat) (fl : List (Nat × Bool)) (s : State), (∀ q ∈ s.stu.reqs, q.tag ≠ tag) ∧ tag < s.stu.nextTag :=
  ⟨7, [], { stu := { nextTag := 8 } }, by first | decide | simp | (intros; simp_all), by decide⟩

theorem witness_PageRequestsAreAnswered_3 :
    ∃ (v : W64) (s : State), bit 1 s.stu.cfg = false :=
  ⟨1, {}, by decide⟩

theorem witness_PageRequestsAreAnswered_4 :
    ∃ (v : W64) (s : State), bit 1 s.stu.cfg = true :=
  ⟨1, { stu := { cfg := 2 } }, by decide⟩

theorem witness_PageRequestsAreAnswered_5 :
    ∃ (v : W32) (s : State), (∀ q ∈ s.stu.reqs, q.written = true) :=
  ⟨2, {}, by first | decide | simp | (intros; simp_all)⟩

theorem witness_PageRequestsAreAnswered_7 :
    ∃ (code : Nat) (l : List Nat) (s : State), bit 1 s.stu.cfg = true ∧ s.stu.werr = false ∧ l = s.stu.posted ∧ l ≠ [] ∧ 1 ≤ code ∧ code ≤ 6 :=
  ⟨5, _, { stu := { cfg := 2, posted := [2], reqs := [{ tag := 2, ctx := 1, vpn := 6, acc := 3, stage := 1, run := false, adb := true, item := 2, written := true }] } }, by first | decide | rfl | simp, by first | decide | rfl | simp, rfl, by first | decide | rfl | simp, by first | decide | rfl | simp, by first | decide | rfl | simp⟩

theorem witness_PageRequestsAreAnswered_8 :
    ∃ (code : Nat) (s : State), (s.stu.werr = true ∨ s.stu.posted = [] ∨ code = 0 ∨ 6 < code) :=
  ⟨6, { stu := { werr := true } }, by first | decide | rfl | simp⟩

theorem witness_InvalidationsReachEveryCopy_0 :
    ∃ (s : State), s.stu.cmds.length < 16 ∧ ∃ p ∈ ([(0, .invAll), (1, .invVmid), (2, .invAsid), (3, .invRange)] : List (Nat × Instr)), True :=
  ⟨witRun, by first | decide | rfl | simp, (0, .invAll), List.mem_cons_self, trivial⟩

theorem witness_InvalidationsReachEveryCopy_1 :
    ∃ (s : State), 16 ≤ s.stu.cmds.length ∧ ∃ c ∈ ([.invAll, .invVmid, .invAsid, .invRange] : List Instr), True :=
  ⟨{ witRun with stu := { cmds := List.replicate 16 { kind := 0, arg0 := 0, arg1 := 0 } } }, by first | decide | rfl | simp, .invAll, List.mem_cons_self, trivial⟩

theorem witness_InvalidationsReachEveryCopy_2 :
    ∃ (v : W64) (s : State), 4 ≤ v.toNat :=
  ⟨4, {}, by decide⟩

theorem witness_InvalidationsReachEveryCopy_3 :
    ∃ (c : InvCmd) (r : List InvCmd) (s : State), s.stu.cmds = c :: r ∧ s.stu.active = false :=
  ⟨{ kind := 1, arg0 := 17, arg1 := 15198492400932656978 }, [], { stu := { cmds := [{ kind := 1, arg0 := 17, arg1 := 15198492400932656978 }] } }, by decide, by decide⟩

theorem witness_InvalidationsReachEveryCopy_4 :
    ∃ (s : State), (s.stu.cmds = [] ∨ s.stu.active = true) :=
  ⟨{}, by decide⟩

theorem witness_InvalidationsReachEveryCopy_5 :
    ∃ (cl : Nat) (c : InvCmd) (r : List InvCmd) (s : State), cl < 24 ∧ s.stu.cmds = c :: r ∧ s.stu.active = true ∧ cl ∈ s.stu.clusters :=
  ⟨2, { kind := 7, arg0 := 3, arg1 := 8 }, [], { stu := { cmds := [{ kind := 7, arg0 := 3, arg1 := 8 }], active := true, clusters := [2, 2] } }, by decide, by decide, by decide, by decide⟩

theorem witness_InvalidationsReachEveryCopy_6 :
    ∃ (tc : Nat) (s : State), tc < 192 ∧ s.stu.active = true ∧ tc ∈ s.stu.engines ∧ tc / 8 ∉ s.stu.clusters ∧ onOldPages s tc = false :=
  ⟨0, { stu := { active := true, engines := [0, 0] } }, by decide, by decide, by decide, by decide, by first | decide | rfl | simp⟩

theorem witness_InvalidationsReachEveryCopy_7 :
    ∃ (cl : Nat) (s : State), cl < 24 ∧ s.stu.active = true ∧ cl ∈ s.stu.ackOwed ∧ cl ∉ s.stu.clusters ∧ (∀ k ∈ s.stu.engines, k / 8 ≠ cl) :=
  ⟨1, { stu := { active := true, ackOwed := [1, 1] } }, by decide, by decide, by decide, by decide, by first | decide | simp | (intros; simp_all)⟩

theorem witness_InvalidationsReachEveryCopy_8 :
    ∃ (ns : Nat) (s : State), s.stu.active = true ∧ s.stu.clusters = [] ∧ s.stu.ackOwed = [] ∧ bit 15 s.stu.baton = false :=
  ⟨3, { stu := { active := true } }, by decide, by decide, by decide, by decide⟩

theorem witness_InvalidationsReachEveryCopy_9 :
    ∃ (ns : Nat) (s : State), (s.stu.active = false ∨ s.stu.clusters ≠ [] ∨ s.stu.ackOwed ≠ []) :=
  ⟨7, {}, by decide⟩

theorem witness_HbmErrorsAreRecorded_1 :
    ∃ (pa : Nat) (a b : Bool) (s : State), (hbmThere s pa = false ∨ lineOf pa ∈ s.mem.poison) :=
  ⟨0, true, true, {}, by decide⟩

theorem witness_HbmErrorsAreRecorded_2 :
    ∃ (pa n c : Nat) (m : Md) (pg ch : List (Nat × Nat)) (t u s : State), hbmThere s pa = true ∧ lineOf pa ∉ s.mem.poison ∧ n = tileOf pa ∧ (mdAt s n).migrating = none ∧ t = bumpObj 0x3401 (n + 1) 64 1 s ∧ m = mdAt t n ∧ c = (chanNow t pa).1 ∧ pg = noteError (frameNow t) (dayFrames t) (tget [] m.pageCe (pa / 4096)) ∧ ch = noteError (frameNow t) (hourFrames t) (tget [] m.chanCe c) ∧ u = mdPut t n { m with pageCe := tset [] m.pageCe (pa / 4096) pg, chanCe := tset [] m.chanCe c ch } :=
  ⟨1, _, _, _, _, _, _, _, { present := 64 }, by decide, by decide, rfl, by first | decide | rfl | simp, rfl, by first | decide | rfl | simp, rfl, by first | decide | rfl | simp, by first | decide | rfl | simp, by first | decide | rfl | simp⟩

theorem witness_HbmErrorsAreRecorded_3 :
    ∃ (pa kind : Nat) (m : Md) (s : State), m = mdAt s (tileOf pa) ∧ (∀ r ∈ m.pgret, r.1 ≠ pa / 4096) :=
  ⟨4096, 1, _, witRun, rfl, by decide⟩

theorem witness_HbmErrorsAreRecorded_4 :
    ∃ (pa : Nat) (s : State), hbmThere s pa = true ∧ lineOf pa ∉ s.mem.poison :=
  ⟨7, { present := 64 }, by decide, by decide⟩

theorem witness_HbmErrorsAreRecorded_5 :
    ∃ (md : Nat) (r : Nat × Nat × Nat) (l : List (Nat × Nat × Nat)) (s : State), md < 6 ∧ mdPresent s md = true ∧ (mdAt s md).pgret = r :: l :=
  ⟨5, (392, (2, 3)), [], { witRun with mds := [(5, { pgret := [(392, (2, 3))] })] }, by decide, by first | decide | rfl | simp, by decide⟩

theorem witness_HbmErrorsAreRecorded_6 :
    ∃ (md : Nat) (s : State), md < 6 ∧ mdPresent s md = true ∧ (mdAt s md).pgret = [] :=
  ⟨4, witRun, by decide, by first | decide | rfl | simp, by decide⟩

theorem witness_HbmErrorsAreRecorded_7 :
    ∃ (md : Nat) (s : State), md < 6 ∧ mdPresent s md = false :=
  ⟨4, { present := 1 }, by first | decide | rfl | simp, by first | decide | rfl | simp⟩

theorem witness_HbmErrorsAreRecorded_8 :
    ∃ (md : Nat) (s : State), md < 6 :=
  ⟨5, {}, by decide⟩

theorem witness_ChannelsAreRetired_0 :
    ∃ (ch : Nat) (s : State), ch < 768 ∧ (mdPresent s (ch / 128) = false ∨ errorCount ((tget [] (mdAt s (ch / 128)).chanCe (ch % 128)).filter fun e => decide (frameNow s ≤ e.1 + hourFrames s)) ≤ oget s 0x2200 2 ∨ newCandidate s (ch / 128) (ch % 128) = false) :=
  ⟨1, witRun, by decide, by first | decide | rfl | simp⟩

theorem witness_ChannelsAreRetired_1 :
    ∃ (ch : Nat) (u s : State), ch < 768 ∧ mdPresent s (ch / 128) = true ∧ oget s 0x2200 2 < errorCount ((tget [] (mdAt s (ch / 128)).chanCe (ch % 128)).filter fun e => decide (frameNow s ≤ e.1 + hourFrames s)) ∧ newCandidate s (ch / 128) (ch % 128) = true ∧ u = fault1 0x0104 (128 * (ch / 128) + ch % 128) 0 [(2, 128 * (ch / 128) + ch % 128)] s ∧ inReset u = false ∧ s.faults.windows = [] :=
  ⟨0, _, { witRun with obj := [(objKey 0x2200 2, 1)], mds := [(0, { chanCe := [(0, [(0, 2)])] })] }, by decide, by decide, by first | decide | rfl | simp, by decide, by first | decide | rfl | simp, by decide, by decide⟩

theorem witness_ChannelsAreRetired_2 :
    ∃ (md c : Nat) (v : W64) (u s : State), md < 6 ∧ mdPresent s md = true ∧ c = 32 * fld 1 0 v + fld 6 2 v ∧ newCandidate s md c = true ∧ u = fault1 0x0104 (128 * md + c) 1 [(2, 128 * md + c)] s ∧ inReset u = false :=
  ⟨2, _, 2, _, witRun, by decide, by first | decide | rfl | simp, rfl, by decide, rfl, by decide⟩

theorem witness_ChannelsAreRetired_3 :
    ∃ (md c : Nat) (v : W64) (s : State), md < 6 ∧ mdPresent s md = true ∧ c = 32 * fld 1 0 v + fld 6 2 v ∧ newCandidate s md c = false :=
  ⟨0, _, 0, { witRun with mds := [(0, { retired := [0] })] }, by decide, by first | decide | rfl | simp, rfl, by decide⟩

theorem witness_ChannelsAreRetired_4 :
    ∃ (md c : Nat) (s : State), newCandidate s md c = true ∧ (∀ r ∈ (mdAt s md).retired, r / 32 ≠ c / 32) ∧ (mdAt s md).migrating = none ∧ (mdAt s md).withdrawn = false ∧ bit 0 (regGet (mdPut s md { mdAt s md with cands := insNat c (mdAt s md).cands }) (mdReg md 0x1D8)) = false :=
  ⟨0, 2, {}, by decide, by first | decide | simp | (intros; simp_all), by decide, by decide, by first | decide | rfl | simp⟩

theorem witness_ChannelsAreRetired_5 :
    ∃ (md c r : Nat) (s : State), newCandidate s md c = true ∧ r ∈ (mdAt s md).retired ∧ r / 32 = c / 32 :=
  ⟨21, 2, 1, { mds := [(21, { retired := [1, 1] })] }, by decide, by decide, by decide⟩

theorem witness_ChannelsAreRetired_6 :
    ∃ (md c : Nat) (l : List Nat) (v : W64) (s : State), md < 6 ∧ mdPresent s md = true ∧ bit 0 v = true ∧ (mdAt s md).cands = c :: l ∧ (mdAt s md).migrating = none :=
  ⟨4, 6, [], 1, { witRun with mds := [(4, { cands := [6] })] }, by decide, by first | decide | rfl | simp, by decide, by decide, by decide⟩

theorem witness_ChannelsAreRetired_7 :
    ∃ (md : Nat) (v : W64) (s : State), md < 6 ∧ mdPresent s md = true ∧ (bit 0 v = false ∨ (mdAt s md).cands = [] ∨ (mdAt s md).migrating ≠ none) :=
  ⟨0, 0, witRun, by decide, by first | decide | rfl | simp, by decide⟩

theorem witness_ChannelsAreRetired_8 :
    ∃ (md : Nat) (v : W64) (s : State), md < 6 ∧ mdPresent s md = false :=
  ⟨4, 0, { present := 1 }, by first | decide | rfl | simp, by first | decide | rfl | simp⟩

theorem witness_ChannelsAreRetired_9 :
    ∃ (md : Nat) (s : State), md < 6 ∧ (mdPresent s md = false ∨ (mdAt s md).migrating = none) :=
  ⟨4, witRun, by decide, by first | decide | rfl | simp⟩

theorem witness_ChannelsAreRetired_10 :
    ∃ (md c : Nat) (s : State), md < 6 ∧ mdPresent s md = true ∧ (mdAt s md).migrating = some c ∧ (mdAt s md).cands = [] ∧ s.faults.deferred = [] :=
  ⟨3, 0, { witRun with mds := [(3, { migrating := (some 0) })] }, by decide, by first | decide | rfl | simp, by decide, by decide, by decide⟩

theorem witness_MaintenanceAndUncachedAccesses_0 :
    ∃ p ∈ ([(1, .maintClean), (2, .maintInvalidate), (3, .maintCleanInvalidate), (4, .maintZero)] : List (Nat × (Nat → Bool → Instr))), ∃ (md lo n : Nat) (evt : Bool) (m : Maint) (s : State), md < 6 ∧ mdPresent s md = true ∧ m = mdMaint s md ∧ lo = fld 51 7 (regGet s (mdReg md 0x100)) * 128 ∧ n = fld 39 7 (regGet s (mdReg md 0x108)) * 128 :=
  ⟨(1, .maintClean), List.mem_cons_self, 2, _, _, true, _, witRun, by first | decide | rfl | simp, by first | decide | rfl | simp, rfl, rfl, rfl⟩

theorem witness_MaintenanceAndUncachedAccesses_1 :
    ∃ p ∈ ([(1, .maintClean), (2, .maintInvalidate), (3, .maintCleanInvalidate)] : List (Nat × (Nat → Bool → Instr))), ∃ (md lo n ln : Nat) (evt : Bool) (m : Maint) (e : LlcLine) (u s : State), md < 6 ∧ mdPresent s md = true ∧ m = mdMaint s md ∧ lo = fld 51 7 (regGet s (mdReg md 0x100)) * 128 ∧ n = fld 39 7 (regGet s (mdReg md 0x108)) * 128 ∧ m.busy = false ∧ n ≠ 0 ∧ md * tileSize ≤ lo ∧ lo + n ≤ (md + 1) * tileSize ∧ heldLines s lo n = [ln] ∧ s.coh.dir = [] ∧ s.coh.net = [] ∧ s.coh.escal = [] ∧ lineHome ln = md ∧ aget s.mem.llc ln = some e ∧ e.dirty = true ∧ e.poison = false ∧ u = mdPut s md { mdAt s md with maint := { m with busy := true, op := p.1, evt := evt, base := lo, size := n, left := [] } } :=
  ⟨(1, .maintClean), List.mem_cons_self, 0, _, _, 2, true, _, _, _, { witRun with regs := [(mdReg 0 0x100, 256), (mdReg 0 0x108, 128)], mem := { llc := [(2, { data := 9, dirty := true, poison := false })] } }, by first | decide | rfl | simp, by first | decide | rfl | simp, rfl, rfl, rfl, by first | decide | rfl | simp, by first | decide | rfl | simp, by first | decide | rfl | simp, by first | decide | rfl | simp, by first | decide | rfl | simp, by first | decide | rfl | simp, by first | decide | rfl | simp, by first | decide | rfl | simp, by first | decide | rfl | simp, rfl, by first | decide | rfl | simp, by first | decide | rfl | simp, rfl⟩

theorem witness_MaintenanceAndUncachedAccesses_2 :
    ∃ p ∈ ([.maintClean, .maintInvalidate, .maintCleanInvalidate, .maintZero] : List (Nat → Bool → Instr)), ∃ (md : Nat) (evt : Bool) (s : State), md < 6 ∧ mdPresent s md = false :=
  ⟨.maintClean, List.mem_cons_self, 2, true, { present := 1 }, by first | decide | rfl | simp, by first | decide | rfl | simp⟩

theorem witness_MaintenanceAndUncachedAccesses_3 :
    ∃ (u : MaintUnit) (evt : Bool) (v : W64) (s : State), u.ok = true ∧ isL2 u = true ∧ diePresent s (maintWin u) = false :=
  ⟨.group 0, true, 0, {}, by first | decide | rfl | simp, by first | decide | rfl | simp, by first | decide | rfl | simp⟩

theorem witness_MaintenanceAndUncachedAccesses_4 :
    ∃ (u : MaintUnit) (evt : Bool) (m : Maint) (s : State), u.ok = true ∧ isL2 u = true ∧ diePresent s (maintWin u) = true ∧ m = l2At s u ∧ ∃ p ∈ ([(1, .l2MaintClean), (3, .l2MaintCleanInvalidate)] : List (Nat × (MaintUnit → Bool → Instr))), True :=
  ⟨.cluster 3, true, _, witRun, by first | decide | rfl | simp, by first | decide | rfl | simp, by first | decide | rfl | simp, rfl, (1, .l2MaintClean), List.mem_cons_self, trivial⟩

theorem witness_MaintenanceAndUncachedAccesses_5 :
    ∃ (md : Nat) (v : W64) (s : State), md < 6 ∧ mdPresent s md = false :=
  ⟨4, 0, { present := 1 }, by first | decide | rfl | simp, by first | decide | rfl | simp⟩

theorem witness_MaintenanceAndUncachedAccesses_6 :
    ∃ (md : Nat) (v : W64) (s : State), md < 6 ∧ mdPresent s md = true ∧ ((mdMaint s md).busy = true ∨ fld 2 0 v = 0 ∨ 4 < fld 2 0 v) :=
  ⟨2, 2, { witRun with mds := [(2, { maint := { busy := true } })] }, by decide, by first | decide | rfl | simp, by decide⟩

theorem witness_MaintenanceAndUncachedAccesses_7 :
    ∃ (u : MaintUnit) (v : W64) (s : State), u.ok = true ∧ isL2 u = true ∧ diePresent s (maintWin u) = true ∧ ((l2At s u).busy = true ∨ (fld 2 0 v ≠ 1 ∧ fld 2 0 v ≠ 3)) :=
  ⟨.group 0, 0, { witRun with l2maint := [(24, { busy := true })] }, by first | decide | rfl | simp, by first | decide | rfl | simp, by first | decide | rfl | simp, by first | decide | rfl | simp⟩

theorem witness_MaintenanceAndUncachedAccesses_8 :
    ∃ (md : Nat) (t s : State), md < 6 ∧ (mdMaint s md).busy = true ∧ (mdMaint s md).left = [] ∧ (∀ e ∈ s.coh.dir, lineHome e.1 = md → e.2.st ≠ .tm) ∧ t = mdPut s md { mdAt s md with maint := { mdMaint s md with busy := false } } :=
  ⟨4, _, { mds := [(4, { maint := { busy := true } })] }, by decide, by decide, by decide, by first | decide | simp | (intros; simp_all), by first | decide | rfl | simp⟩

theorem witness_MaintenanceAndUncachedAccesses_9 :
    ∃ (u : MaintUnit) (s : State), u.ok = true ∧ isL2 u = true ∧ (l2At s u).busy = true ∧ (l2At s u).evt = false ∧ s.coh.open_ = [] ∧ l2Lines s (l2Key u) (l2At s u).base (l2At s u).size = [] :=
  ⟨(.group 0), { l2maint := [(24, { busy := true })] }, by decide, by decide, by first | decide | rfl | simp, by first | decide | rfl | simp, by first | decide | rfl | simp, by first | decide | rfl | simp⟩

theorem witness_MaintenanceAndUncachedAccesses_10 :
    ∃ (who : Requester) (pa size n : Nat) (v : W64) (l : List Byte) (t s : State), okRequester who = true ∧ (size = 1 ∨ size = 2 ∨ size = 4 ∨ size = 8) ∧ pa % size = 0 ∧ target s pa = .hbm n ∧ reaches s (partOf s who) n = true ∧ lineOf pa ∉ s.mem.poison ∧ ncWaits s who (partOf s who) (lineOf pa) = false ∧ t = meter (partOf s who) n (setFlaws [] s) ∧ l = leBytes size v.toNat :=
  ⟨{ kind := 1, num := 191, item := (some 4) }, 6, 2, 0, 4, _, _, witRun, by decide, by decide, by decide, by decide, by decide, by decide, by first | decide | rfl | simp, by first | decide | rfl | simp, by first | decide | rfl | simp⟩

theorem witness_RequestsAreServedAtTheHome_0 :
    ∃ (u fill pa ln : Nat) (who : Requester) (st : Moesi) (r : CohReq) (e : DirEnt) (v s : State), okRequester who = true ∧ ln = lineOf pa ∧ agentPresent s u = true ∧ openReq s u ln = false ∧ lineAt s u ln = none ∧ fillRoom s u ln = true ∧ fill < 4 ∧ r = { mkReq s .gets u who pa false with fill := fill } ∧ requestGoes s r = true ∧ v = { keepWay r s with coh := { (keepWay r s).coh with open_ := (keepWay r s).coh.open_ ++ [r] } } ∧ v.coh.dir = [] ∧ dropsAtHome v r = false ∧ refuseCause v r.part ln = none ∧ e = { emptyEnt with st := .ts, req := some r, acks := [u], was := if st = .e then .de else .ds, owner := if st = .e then u else 0, sharers := if st = .e then [] else [u] } ∧ ((u < 24 ∧ nearSlice s u ln = none ∧ st = .s) ∨ (isGroup u = true ∧ st = .e)) ∧ v.coh.escal = [] :=
  ⟨3, 0, 256, _, ⟨1, 24, none⟩, .s, _, _, _, witRun, by first | decide | rfl | simp, rfl, by first | decide | rfl | simp, by first | decide | rfl | simp, by first | decide | rfl | simp, by first | decide | rfl | simp, by first | decide | rfl | simp, rfl, by first | decide | rfl | simp, by first | decide | rfl | simp, by first | decide | rfl | simp, by first | decide | rfl | simp, by first | decide | rfl | simp, rfl, .inl ⟨by decide, by decide, rfl⟩, by first | decide | rfl | simp⟩

theorem witness_RequestsAreServedAtTheHome_1 :
    ∃ (u fill pa ln : Nat) (who : Requester) (x : ALine) (t : Bool × State) (s : State), okRequester who = true ∧ ln = lineOf pa ∧ u < 24 ∧ unitOf who = u ∧ agentPresent s u = true ∧ openReq s u ln = false ∧ lineAt s u ln = none ∧ fill < 4 ∧ nearSlice s u ln = some x ∧ t = agentFill u ln (agentMask s u fill (partOf s who)) ⟨.s, x.data, x.poison, partOf s who, 0⟩ (l2Touch (56 + u / 4) ln x.way s) ∧ t.1 = true :=
  ⟨4, 0, 256, _, ⟨1, 32, none⟩, { st := .s, data := 9, poison := false }, _, { witRun with coh := { lines := [(57, 2, { st := .s, data := 9, poison := false })] }, regs := [(clReg 4 0, 0xFFFFFFFFFFFFFFFF)] }, by first | decide | rfl | simp, rfl, by first | decide | rfl | simp, by first | decide | rfl | simp, by first | decide | rfl | simp, by first | decide | rfl | simp, by first | decide | rfl | simp, by first | decide | rfl | simp, by first | decide | rfl | simp, rfl, by first | decide | rfl | simp⟩

theorem witness_RequestsAreServedAtTheHome_2 :
    ∃ (u pa ln : Nat) (who : Requester) (r : CohReq) (v s : State), okRequester who = true ∧ ln = lineOf pa ∧ isGroup u = true ∧ agentPresent s u = true ∧ openReq s u ln = false ∧ lineAt s u ln = none ∧ fillRoom s u ln = true ∧ r = mkReq s .getm u who pa false ∧ requestGoes s r = true ∧ v = { keepWay r s with coh := { (keepWay r s).coh with open_ := (keepWay r s).coh.open_ ++ [r] } } ∧ v.coh.dir = [] ∧ refuseCause v r.part ln = none ∧ v.coh.escal = [] :=
  ⟨25, 256, _, ⟨2, 4, none⟩, _, _, witRun, by first | decide | rfl | simp, rfl, by first | decide | rfl | simp, by first | decide | rfl | simp, by first | decide | rfl | simp, by first | decide | rfl | simp, by first | decide | rfl | simp, rfl, by first | decide | rfl | simp, rfl, by first | decide | rfl | simp, by first | decide | rfl | simp, by first | decide | rfl | simp⟩

theorem witness_RequestsAreServedAtTheHome_3 :
    ∃ (u pa ln : Nat) (who : Requester) (x : ALine) (r : CohReq) (d : DirEnt) (v s : State), okRequester who = true ∧ ln = lineOf pa ∧ isGroup u = true ∧ agentPresent s u = true ∧ openReq s u ln = false ∧ lineAt s u ln = some x ∧ (x.st = .s ∨ x.st = .o) ∧ s.coh.dir = [(ln, d)] ∧ d.st = .ds ∧ d.sharers = [u] ∧ r = mkReq s .promote u who pa false ∧ requestGoes s r = true ∧ v = { s with coh := { s.coh with open_ := s.coh.open_ ++ [r] } } ∧ refuseCause v r.part ln = none ∧ s.coh.escal = [] :=
  ⟨25, 256, _, ⟨2, 4, none⟩, { st := .s, data := 9, poison := false }, _, { emptyEnt with sharers := [25] }, _, { witRun with coh := { lines := [(25, 2, { st := .s, data := 9, poison := false })], dir := [(2, { emptyEnt with sharers := [25] })] } }, by first | decide | rfl | simp, rfl, by first | decide | rfl | simp, by first | decide | rfl | simp, by first | decide | rfl | simp, by first | decide | rfl | simp, by first | decide | rfl | simp, rfl, by first | decide | rfl | simp, by first | decide | rfl | simp, rfl, by first | decide | rfl | simp, rfl, by first | decide | rfl | simp, by first | decide | rfl | simp⟩

theorem witness_RequestsAreServedAtTheHome_4 :
    ∃ (u pa ln : Nat) (fixed : Bool) (who : Requester) (r : CohReq) (w v s : State), okRequester who = true ∧ u < 64 ∧ unitPresent s u = true ∧ ln = lineOf pa ∧ entAt s ln = none ∧ r = mkReq s .look u who pa false ∧ requestGoes s r = true ∧ w = (if fixed then bumpObj 0x3505 (lineHome ln + 1) 64 1 s else s) ∧ v = { w with coh := { w.coh with open_ := w.coh.open_ ++ [r] } } ∧ refuseCause v r.part ln = none :=
  ⟨62, 256, _, true, ⟨5, 0, none⟩, _, _, _, witRun, by first | decide | rfl | simp, by first | decide | rfl | simp, by first | decide | rfl | simp, rfl, by first | decide | rfl | simp, rfl, by first | decide | rfl | simp, rfl, rfl, by first | decide | rfl | simp⟩

theorem witness_RequestsAreServedAtTheHome_5 :
    ∃ (u pa hid ln : Nat) (who : Requester) (mask : BitVec 256) (d : LineData) (fl : List (Nat × Bool)) (r : CohReq) (v s : State), okRequester who = true ∧ u < 64 ∧ unitPresent s u = true ∧ mask ≠ 0 ∧ ln = lineOf pa ∧ entAt s ln = none ∧ r = { mkReq s .putplace u who pa false with mask := mask, data := d, hint := 0, hintId := hid } ∧ requestGoes s r = true ∧ v = { setFlaws fl s with coh := { s.coh with open_ := s.coh.open_ ++ [r] } } ∧ refuseCause v r.part ln = none :=
  ⟨62, 256, 3, _, ⟨5, 0, none⟩, 3, 5, [], _, _, witRun, by first | decide | rfl | simp, by first | decide | rfl | simp, by first | decide | rfl | simp, by first | decide | rfl | simp, rfl, by first | decide | rfl | simp, rfl, by first | decide | rfl | simp, rfl, by first | decide | rfl | simp⟩

theorem witness_RequestsAreServedAtTheHome_6 :
    ∃ (pa ln w : Nat) (who : Requester) (old new : W64) (fl : List (Nat × Bool)) (r : CohReq) (x : LlcLine) (v t s : State), okRequester who = true ∧ unitPresent s 62 = true ∧ pa % 8 = 0 ∧ ln = lineOf pa ∧ w = pa % 128 / 8 ∧ entAt s ln = none ∧ r = { mkReq s .cashome 62 who pa false with old := old, new := new, word := w } ∧ requestGoes s r = true ∧ v = { setFlaws fl s with coh := { s.coh with open_ := s.coh.open_ ++ [r] } } ∧ refuseCause v r.part ln = none ∧ aget s.mem.llc ln = some x ∧ x.poison = false ∧ t = llcTouch (lineHome ln) (lineSet ln) x.way v :=
  ⟨264, _, _, ⟨5, 0, none⟩, 1, 2, [], _, _, _, _, { witRun with mem := { llc := [(2, { data := 9, dirty := false, poison := false, way := 3 })] } }, by first | decide | rfl | simp, by first | decide | rfl | simp, by first | decide | rfl | simp, rfl, rfl, by first | decide | rfl | simp, rfl, by first | decide | rfl | simp, rfl, by first | decide | rfl | simp, rfl, by first | decide | rfl | simp, rfl⟩

theorem witness_RequestsAreServedAtTheHome_7 :
    ∃ (u pa c : Nat) (who : Requester) (r : CohReq) (s : State), okRequester who = true ∧ u < 64 ∧ unitPresent s u = true ∧ r = mkReq s .look u who pa false ∧ issuing s = true ∧ whoFits r = true ∧ issueRoom s who 1 = true ∧ coherentAddr s (128 * lineOf pa) = true ∧ pathHeld s (unitWin u) (homeWin (lineOf pa)) = false ∧ accessError s (partOf s who) false (128 * lineOf pa) = some c :=
  ⟨62, 2 ^ 39, 1, ⟨5, 0, none⟩, _, { witRun with present := 0xF07F }, by first | decide | rfl | simp, by first | decide | rfl | simp, by first | decide | rfl | simp, rfl, by first | decide | rfl | simp, by first | decide | rfl | simp, by first | decide | rfl | simp, by first | decide | rfl | simp, by first | decide | rfl | simp, by first | decide | rfl | simp⟩

theorem witness_RequestsAreServedAtTheHome_8 :
    ∃ (u pa c : Nat) (who : Requester) (r : CohReq) (v s : State), okRequester who = true ∧ u < 64 ∧ unitPresent s u = true ∧ r = mkReq s .look u who pa false ∧ requestGoes s r = true ∧ v = { s with coh := { s.coh with open_ := s.coh.open_ ++ [r] } } ∧ refuseCause v r.part r.line = some c :=
  ⟨62, 256, 1, ⟨5, 0, none⟩, _, _, { witRun with coh := { dir := [(2, { emptyEnt with st := .ts })] } }, by first | decide | rfl | simp, by first | decide | rfl | simp, by first | decide | rfl | simp, rfl, by first | decide | rfl | simp, rfl, by first | decide | rfl | simp⟩

theorem witness_RequestsAreServedAtTheHome_10 :
    ∃ (s : State) (ln : Nat) (e : DirEnt), entAt s ln = some e ∧ stable e.st = false :=
  ⟨{ witRun with coh := { dir := [(2, { emptyEnt with st := .ts })] } }, 2, _, rfl, by first | decide | rfl | simp⟩

theorem witness_RequestsAreServedAtTheHome_11 :
    ∃ (p q : List CohMsg) (u pa c : Nat) (r : CohReq) (t s : State), u < 64 ∧ Arrived s t (.nack r c) p q ∧ r.req = u ∧ r.line = lineOf pa ∧ (∀ x k, .nack x k ∈ p → x.req ≠ u ∨ x.line ≠ lineOf pa) :=
  ⟨[], [], 3, 256, 1, { kind := .gets, req := 3, line := 2 }, _, { witRun with coh := { open_ := [{ kind := .gets, req := 3, line := 2 }], net := [.nack { kind := .gets, req := 3, line := 2 } 1] } }, by first | decide | rfl | simp, ⟨rfl, by decide, by decide, rfl⟩, by first | decide | rfl | simp, by first | decide | rfl | simp, by simp⟩

theorem witness_RequestsAreServedAtTheHome_12 :
    ∃ (a b : List Retry) (u pa : Nat) (x : Retry) (fl : List (Nat × Bool)) (v s : State), u < 64 ∧ s.coh.retries = a ++ x :: b ∧ x.req.req = u ∧ x.req.line = lineOf pa ∧ (∀ y ∈ a, y.req.req ≠ u ∨ y.req.line ≠ lineOf pa) ∧ pathHeld s (unitWin u) (homeWin (lineOf pa)) = false ∧ writeWaits s x.req = false ∧ v = { setFlaws fl s with coh := { s.coh with retries := a ++ b } } :=
  ⟨[], [], 8, 63, { req := { kind := .look, req := 8, line := 0, mask := 2, data := 262, hint := 9, hintId := 127, old := 2858768154526458955, new := 0, word := 198, esc := true, nacks := 62 }, waits := true }, [], _, { witRun with coh := { retries := [{ req := { kind := .look, req := 8, line := 0, mask := 2, data := 262, hint := 9, hintId := 127, old := 2858768154526458955, new := 0, word := 198, esc := true, nacks := 62 }, waits := true }] } }, by first | decide | rfl | simp, by decide, by decide, by decide, by first | decide | simp | (intros; simp_all), by first | decide | rfl | simp, by first | decide | rfl | simp, by first | decide | rfl | simp⟩

theorem witness_AgentsAnswerSnoops_0 :
    ∃ (p q : List CohMsg) (a pa r : Nat) (x : ALine) (u s : State), a < 62 ∧ Arrived s u (.fwds a (lineOf pa) r) p q ∧ (∀ k, .fwds a (lineOf pa) k ∉ p) ∧ lineAt s a (lineOf pa) = some x ∧ x.st ≠ .s :=
  ⟨[], [(.peek 62 2)], 1, 62, 192, { st := .o, data := 62, poison := true }, { coh := { lines := [(1, (0, { st := .o, data := 62, poison := true })), (1, (0, { st := .o, data := 62, poison := true }))], net := [(.peek 62 2)] } }, { coh := { lines := [(1, (0, { st := .o, data := 62, poison := true })), (1, (0, { st := .o, data := 62, poison := true }))], net := [(.fwds 1 0 192), (.peek 62 2)] } }, by decide, ⟨rfl, by decide, by decide, rfl⟩, by first | decide | simp | (intros; simp_all), by decide, by decide⟩

theorem witness_AgentsAnswerSnoops_1 :
    ∃ (p q : List CohMsg) (a pa r : Nat) (x : ALine) (u s : State), a < 62 ∧ Arrived s u (.fwdm a (lineOf pa) r) p q ∧ (∀ k, .fwdm a (lineOf pa) k ∉ p) ∧ lineAt s a (lineOf pa) = some x ∧ x.st ≠ .s :=
  ⟨[], [(.peek 62 2)], 1, 62, 192, { st := .o, data := 62, poison := true }, { coh := { lines := [(1, (0, { st := .o, data := 62, poison := true })), (1, (0, { st := .o, data := 62, poison := true }))], net := [(.peek 62 2)] } }, { coh := { lines := [(1, (0, { st := .o, data := 62, poison := true })), (1, (0, { st := .o, data := 62, poison := true }))], net := [(.fwdm 1 0 192), (.peek 62 2)] } }, by decide, ⟨rfl, by decide, by decide, rfl⟩, by first | decide | simp | (intros; simp_all), by decide, by decide⟩

theorem witness_AgentsAnswerSnoops_2 :
    ∃ (p q : List CohMsg) (a pa : Nat) (discard : Bool) (x : ALine) (u s : State), a < 62 ∧ isSlice a = false ∧ Arrived s u (.inv a (lineOf pa) discard) p q ∧ (∀ k, .inv a (lineOf pa) k ∉ p) ∧ lineAt s a (lineOf pa) = some x :=
  ⟨[], [(.peek 62 2)], 1, 62, true, { st := .o, data := 62, poison := true }, { coh := { lines := [(1, (0, { st := .o, data := 62, poison := true })), (1, (0, { st := .o, data := 62, poison := true }))], net := [(.peek 62 2)] } }, { coh := { lines := [(1, (0, { st := .o, data := 62, poison := true })), (1, (0, { st := .o, data := 62, poison := true }))], net := [(.inv 1 0 true), (.peek 62 2)] } }, by decide, by decide, ⟨rfl, by decide, by decide, rfl⟩, by first | decide | simp | (intros; simp_all), by decide⟩

theorem witness_AgentsAnswerSnoops_3 :
    ∃ (p q : List CohMsg) (a pa : Nat) (discard : Bool) (x : ALine) (u s : State), a < 62 ∧ isSlice a = false ∧ Arrived s u (.inv a (lineOf pa) discard) p q ∧ (∀ k, .inv a (lineOf pa) k ∉ p) ∧ lineAt s a (lineOf pa) = none ∧ wbAt s a (lineOf pa) = some x ∧ vacSettled s a (lineOf pa) = false :=
  ⟨[], [.peek 62 2], 1, 62, true, { st := .o, data := 62, poison := true }, _, { coh := { wb := [(1, (0, { st := .o, data := 62, poison := true }))], net := [(.inv 1 0 true), (.peek 62 2)] } }, by first | decide | rfl | simp, by first | decide | rfl | simp, ⟨rfl, by decide, by decide, rfl⟩, by first | decide | rfl | simp, by first | decide | rfl | simp, by first | decide | rfl | simp, by first | decide | rfl | simp⟩

theorem witness_AgentsAnswerSnoops_4 :
    ∃ (p q : List CohMsg) (a pa : Nat) (x : ALine) (u s : State), a < 62 ∧ Arrived s u (.peek a (lineOf pa)) p q ∧ .peek a (lineOf pa) ∉ p ∧ lineAt s a (lineOf pa) = some x :=
  ⟨[], [(.peek 62 2)], 1, 62, { st := .s, data := 17, poison := false }, { coh := { lines := [(1, (0, { st := .s, data := 17, poison := false })), (1, (0, { st := .s, data := 17, poison := false }))], net := [(.peek 62 2)] } }, { coh := { lines := [(1, (0, { st := .s, data := 17, poison := false })), (1, (0, { st := .s, data := 17, poison := false }))], net := [(.peek 1 0), (.peek 62 2)] } }, by decide, ⟨rfl, by decide, by decide, rfl⟩, by decide, by decide⟩

theorem witness_AgentsAnswerSnoops_5 :
    ∃ (p q : List CohMsg) (a pa : Nat) (x : ALine) (u s : State), a < 62 ∧ Arrived s u (.flushd a (lineOf pa)) p q ∧ .flushd a (lineOf pa) ∉ p ∧ lineAt s a (lineOf pa) = some x :=
  ⟨[], [(.peek 62 2)], 1, 62, { st := .s, data := 17, poison := false }, { coh := { lines := [(1, (0, { st := .s, data := 17, poison := false })), (1, (0, { st := .s, data := 17, poison := false }))], net := [(.peek 62 2)] } }, { coh := { lines := [(1, (0, { st := .s, data := 17, poison := false })), (1, (0, { st := .s, data := 17, poison := false }))], net := [(.flushd 1 0), (.peek 62 2)] } }, by decide, ⟨rfl, by decide, by decide, rfl⟩, by decide, by decide⟩

theorem witness_AgentsAnswerSnoops_6 :
    ∃ (p q : List CohMsg) (a pa r : Nat) (u s : State), a < 62 ∧ isSlice a = false ∧ lineAt s a (lineOf pa) = none ∧ wbAt s a (lineOf pa) = none :=
  ⟨[], [], 1, 62, 58, witRun, witRun, by first | decide | rfl | simp, by first | decide | rfl | simp, by first | decide | rfl | simp, by first | decide | rfl | simp⟩

theorem witness_AgentsAnswerSnoops_7 :
    ∃ (a pa : Nat) (s : State), a < 62 ∧ s.coh.net = [] ∧ ∃ c ∈ ([.fwds a pa, .fwdm a pa, .inv a pa, .peek a pa, .flushd a pa] : List Instr), True :=
  ⟨4, 0, witRun, by first | decide | rfl | simp, by first | decide | rfl | simp, .fwds 4 0, List.mem_cons_self, trivial⟩

theorem witness_LinesAreAnsweredGrantedAndEvicted_0 :
    ∃ (p q : List CohMsg) (a pa : Nat) (kept : Option Moesi) (fwd d w : Bool) (fl : List (Nat × Bool)) (e x : DirEnt) (u s : State), a < 62 ∧ Arrived s u (.snack a (lineOf pa) kept fwd d w) p q ∧ (∀ k f y z, .snack a (lineOf pa) k f y z ∉ p) ∧ entAt s (lineOf pa) = some e ∧ a ∈ e.snoops ∧ x = { keptEnt e a kept with snoops := e.snoops.filter fun k => decide (k ≠ a), fwd := e.fwd || fwd } ∧ x.snoops ≠ [] :=
  ⟨[], [], 24, 0, none, false, false, false, [], _, _, _, { witRun with coh := { net := [.snack 24 0 none false false false], dir := [(0, { st := .tu, owner := 25, sharers := [], was := .de, req := some { kind := .gets, req := 30, line := 0 }, snoops := [24, 25], acks := [], fwd := false, vac := [] })] } }, by decide, ⟨rfl, by decide, by decide, rfl⟩, by first | decide | simp | (intros; simp_all), rfl, by decide, by first | decide | rfl | simp, by decide⟩

theorem witness_LinesAreAnsweredGrantedAndEvicted_1 :
    ∃ (p q : List CohMsg) (a pa : Nat) (kept : Option Moesi) (fwd d w : Bool) (fl : List (Nat × Bool)) (e x : DirEnt) (r : CohReq) (u s : State), a < 62 ∧ Arrived s u (.snack a (lineOf pa) kept fwd d w) p q ∧ (∀ k f y z, .snack a (lineOf pa) k f y z ∉ p) ∧ entAt s (lineOf pa) = some e ∧ e.snoops = [a] ∧ e.st = .tu ∧ e.req = some r ∧ x = { keptEnt e a kept with snoops := [], fwd := e.fwd || fwd } :=
  ⟨[], [], 24, 0, none, false, false, false, [], _, _, _, _, { witRun with coh := { net := [.snack 24 0 none false false false], dir := [(0, { st := .tu, owner := 25, sharers := [], was := .de, req := some { kind := .gets, req := 30, line := 0 }, snoops := [24], acks := [], fwd := false, vac := [] })] } }, by decide, ⟨rfl, by decide, by decide, rfl⟩, by first | decide | simp | (intros; simp_all), rfl, by decide, by decide, rfl, rfl⟩

theorem witness_LinesAreAnsweredGrantedAndEvicted_2 :
    ∃ (p q : List CohMsg) (a pa : Nat) (kept : Option Moesi) (fwd w poison : Bool) (d : LineData) (part : Option Nat) (fl : List (Nat × Bool)) (e x : DirEnt) (u s : State), a < 62 ∧ Arrived s u (.sndata a (lineOf pa) kept fwd true w poison d part) p q ∧ (∀ k f y z o v n, .sndata a (lineOf pa) k f y z o v n ∉ p) ∧ entAt s (lineOf pa) = some e ∧ a ∈ e.snoops ∧ e.st = .tu ∧ x = { keptEnt e a kept with snoops := e.snoops.filter fun k => decide (k ≠ a), fwd := e.fwd || fwd } ∧ x.snoops ≠ [] :=
  ⟨[], [], 3, 256, none, false, false, false, 7, none, [], { emptyEnt with st := .tu, sharers := [3, 4], snoops := [3, 4] }, _, _, { witRun with coh := { dir := [(2, { emptyEnt with st := .tu, sharers := [3, 4], snoops := [3, 4] })], net := [.sndata 3 2 none false true false false 7 none] } }, by first | decide | rfl | simp, ⟨rfl, by decide, by decide, rfl⟩, by first | decide | rfl | simp, by first | decide | rfl | simp, by first | decide | rfl | simp, by first | decide | rfl | simp, rfl, by first | decide | rfl | simp⟩

theorem witness_LinesAreAnsweredGrantedAndEvicted_3 :
    ∃ (p q : List CohMsg) (a pa : Nat) (e : DirEnt) (fl : List (Nat × Bool)) (u s : State), a < 62 ∧ Arrived s u (.grantack a (lineOf pa)) p q ∧ .grantack a (lineOf pa) ∉ p ∧ s.coh.dir = [(lineOf pa, e)] ∧ stable e.st = false ∧ e.st ≠ .tm ∧ e.st ≠ .te ∧ e.snoops = [] ∧ e.acks = [a] ∧ e.vac = [] ∧ NoneWaits s (lineOf pa) :=
  ⟨[], [], 24, 0, _, [], _, { witRun with coh := { net := [.grantack 24 0], dir := [(0, { st := .tu, owner := 25, sharers := [], was := .de, req := some { kind := .gets, req := 30, line := 0 }, snoops := [], acks := [24], fwd := false, vac := [] })] } }, by decide, ⟨rfl, by decide, by decide, rfl⟩, by decide, rfl, by decide, by decide, by decide, by decide, by decide, by decide, ⟨by decide, by decide⟩⟩

theorem witness_LinesAreAnsweredGrantedAndEvicted_4 :
    ∃ (p q : List CohMsg) (a pa : Nat) (e : DirEnt) (fl : List (Nat × Bool)) (u s : State), a < 62 ∧ Arrived s u (.placeack a (lineOf pa) true) p q ∧ (∀ k, .placeack a (lineOf pa) k ∉ p) ∧ s.coh.dir = [(lineOf pa, e)] ∧ stable e.st = false ∧ e.st ≠ .tm ∧ e.st ≠ .te ∧ e.snoops = [] ∧ e.acks = [a] ∧ e.vac = [] ∧ NoneWaits s (lineOf pa) :=
  ⟨[], [], 24, 0, _, [], _, { witRun with coh := { net := [.placeack 24 0 true], dir := [(0, { st := .tu, owner := 25, sharers := [], was := .de, req := some { kind := .gets, req := 30, line := 0 }, snoops := [], acks := [24], fwd := false, vac := [] })] } }, by decide, ⟨rfl, by decide, by decide, rfl⟩, by first | decide | simp | (intros; simp_all), rfl, by decide, by decide, by decide, by decide, by decide, by decide, ⟨by decide, by decide⟩⟩

theorem witness_LinesAreAnsweredGrantedAndEvicted_5 :
    ∃ (p q : List CohMsg) (a pa : Nat) (e : DirEnt) (fl : List (Nat × Bool)) (u s : State), a < 62 ∧ Arrived s u (.placeack a (lineOf pa) false) p q ∧ (∀ k, .placeack a (lineOf pa) k ∉ p) ∧ s.coh.dir = [(lineOf pa, e)] ∧ e.st = .tw ∧ e.was = .ds ∧ e.sharers = [a] ∧ e.snoops = [] ∧ e.acks = [a] ∧ e.vac = [] ∧ NoneWaits s (lineOf pa) :=
  ⟨[], [], 57, 256, { emptyEnt with st := .tw, sharers := [57], acks := [57] }, [], _, { witRun with coh := { dir := [(2, { emptyEnt with st := .tw, sharers := [57], acks := [57] })], net := [.placeack 57 2 false] } }, by first | decide | rfl | simp, ⟨rfl, by decide, by decide, rfl⟩, by first | decide | rfl | simp, by first | decide | rfl | simp, by first | decide | rfl | simp, by first | decide | rfl | simp, by first | decide | rfl | simp, by first | decide | rfl | simp, by first | decide | rfl | simp, by first | decide | rfl | simp, ⟨by decide, by decide⟩⟩

theorem witness_LinesAreAnsweredGrantedAndEvicted_6 :
    ∃ (p q : List CohMsg) (a pa : Nat) (x : ALine) (st : Moesi) (old : W64) (u v s : State), a < 62 ∧ Arrived s u (.grant a (lineOf pa) (some st) old) p q ∧ (∀ k o, .grant a (lineOf pa) k o ∉ p) ∧ v = closeReq a (lineOf pa) u ∧ lineAt s a (lineOf pa) = some x :=
  ⟨[], [], 24, 0, _, .m, 0, _, _, { witRun with coh := { net := [.grant 24 0 (some .m) 0], lines := [(24, 0, { st := .s, data := 1, poison := false })] } }, by decide, ⟨rfl, by decide, by decide, rfl⟩, by first | decide | simp | (intros; simp_all), by first | decide | rfl | simp, rfl⟩

theorem witness_LinesAreAnsweredGrantedAndEvicted_7 :
    ∃ (p q : List CohMsg) (a pa : Nat) (old : W64) (u v s : State), a < 64 ∧ Arrived s u (.grant a (lineOf pa) none old) p q ∧ (∀ k o, .grant a (lineOf pa) k o ∉ p) ∧ v = closeReq a (lineOf pa) u :=
  ⟨[], [], 24, 0, 7, _, _, { witRun with coh := { net := [.grant 24 0 none 7] } }, by first | decide | rfl | simp, ⟨rfl, by decide, by decide, rfl⟩, by first | decide | simp | (intros; simp_all), by first | decide | rfl | simp⟩

theorem witness_LinesAreAnsweredGrantedAndEvicted_8 :
    ∃ (p q : List CohMsg) (a b pa : Nat) (st : Moesi) (poison : Bool) (d : LineData) (part : Option Nat) (r : CohReq) (u v w s : State), a < 62 ∧ Arrived s u (.ownerfill b a (lineOf pa) st poison d) p q ∧ (∀ c k o v, .ownerfill c a (lineOf pa) k o v ∉ p) ∧ openOf s a (lineOf pa) = some r ∧ part = r.part ∧ v = closeReq a (lineOf pa) u ∧ w = say (.grantack a (lineOf pa)) (agentFill a (lineOf pa) (agentMask v a r.fill part) ⟨st, d, poison, part, 0⟩ v).2 :=
  ⟨[], [], 3, 4, 256, .s, false, 7, _, { kind := .gets, req := 3, line := 2 }, _, _, _, { witRun with coh := { open_ := [{ kind := .gets, req := 3, line := 2 }], net := [.ownerfill 4 3 2 .s false 7] } }, by first | decide | rfl | simp, ⟨rfl, by decide, by decide, rfl⟩, by first | decide | rfl | simp, by first | decide | rfl | simp, rfl, rfl, rfl⟩

theorem witness_LinesAreAnsweredGrantedAndEvicted_10 :
    ∃ (p q : List CohMsg) (a pa : Nat) (st : Moesi) (poison : Bool) (d : LineData) (part : Option Nat) (r : CohReq) (u v w s : State), a < 62 ∧ Arrived s u (.homefill a (lineOf pa) (some st) false poison d) p q ∧ (∀ k h o v, .homefill a (lineOf pa) k h o v ∉ p) ∧ (∀ k o v, .homefill a (lineOf pa) k true o v ∉ q) ∧ openOf s a (lineOf pa) = some r ∧ part = r.part ∧ v = closeReq a (lineOf pa) (setFlaws [] u) ∧ w = say (.grantack a (lineOf pa)) (agentFill a (lineOf pa) (agentMask v a r.fill part) ⟨st, d, poison, part, 0⟩ v).2 :=
  ⟨[], [], 3, 256, .s, false, 7, _, { kind := .gets, req := 3, line := 2 }, _, _, _, { witRun with coh := { open_ := [{ kind := .gets, req := 3, line := 2 }], net := [.homefill 3 2 (some .s) false false 7] } }, by first | decide | rfl | simp, ⟨rfl, by decide, by decide, rfl⟩, by first | decide | rfl | simp, by first | decide | rfl | simp, by first | decide | rfl | simp, rfl, by first | decide | rfl | simp, rfl⟩

theorem witness_LinesAreAnsweredGrantedAndEvicted_11 :
    ∃ (p q : List CohMsg) (a pa : Nat) (corrected : Bool) (st : Option Moesi) (d : LineData) (r : Option Nat × (LineData × Bool) × State) (u s : State), a < 64 ∧ Arrived s u (.homefill a (lineOf pa) st true false d) p q ∧ (∀ k h o v, .homefill a (lineOf pa) k h o v ∉ p) ∧ fillWaits s a (lineOf pa) = false ∧ r = homeRead a (openPart s a (lineOf pa)) (decide (openFill s a (lineOf pa) = 3)) (lineOf pa) (setFlaws (if corrected then [(lineOf pa, false)] else []) u) ∧ r.1 = none :=
  ⟨[], [], 3, 256, true, some .s, 7, _, _, { witRun with coh := { open_ := [{ kind := .gets, req := 3, line := 2 }], net := [.homefill 3 2 (some .s) true false 7] } }, by first | decide | rfl | simp, ⟨rfl, by decide, by decide, rfl⟩, by first | decide | rfl | simp, by first | decide | rfl | simp, by first | decide | rfl | simp, by first | decide | rfl | simp⟩

theorem witness_LinesAreAnsweredGrantedAndEvicted_12 :
    ∃ (p q : List CohMsg) (a pa : Nat) (d : LineData) (u v s : State), a < 64 ∧ Arrived s u (.homefill a (lineOf pa) none false false d) p q ∧ (∀ k h o v, .homefill a (lineOf pa) k h o v ∉ p) ∧ (∀ k o v, .homefill a (lineOf pa) k true o v ∉ q) ∧ NoneWaits s (lineOf pa) ∧ v = closeReq a (lineOf pa) (setFlaws [] u) :=
  ⟨[], [], 62, 256, 7, _, _, { witRun with coh := { open_ := [{ kind := .look, req := 62, line := 2 }], net := [.homefill 62 2 none false false 7] } }, by first | decide | rfl | simp, ⟨rfl, by decide, by decide, rfl⟩, by first | decide | rfl | simp, by first | decide | rfl | simp, ⟨by decide, by decide⟩, by first | decide | rfl | simp⟩

theorem witness_LinesAreAnsweredGrantedAndEvicted_13 :
    ∃ (p q : List CohMsg) (a pa : Nat) (d : LineData) (part : Option Nat) (u s : State), a < 62 ∧ Arrived s u (.placedata a (lineOf pa) false d) p q ∧ (∀ k v, .placedata a (lineOf pa) k v ∉ p) ∧ part = (entAt s (lineOf pa)).bind (fun e => e.req.bind fun r => r.part) :=
  ⟨[], [], 56, 0, 1, _, _, { witRun with coh := { net := [.placedata 56 0 false 1] } }, by decide, ⟨rfl, by decide, by decide, rfl⟩, by simp, by first | decide | rfl | simp⟩

theorem witness_LinesAreAnsweredGrantedAndEvicted_14 :
    ∃ (a pa : Nat) (x : ALine) (v s : State), isGroup a = true ∧ lineAt s a (lineOf pa) = some x ∧ vacRoom s a (lineOf pa) = true ∧ wbAt s a (lineOf pa) = none ∧ openReq s a (lineOf pa) = false ∧ pathHeld s (unitWin a) (homeWin (lineOf pa)) = false ∧ dirtySt x.st = true ∧ (∀ w, .vac (lineOf pa) w ∈ s.coh.net → w.agent ≠ a) ∧ v = { lineDrop a (lineOf pa) s with coh := { (lineDrop a (lineOf pa) s).coh with wb := (a, lineOf pa, x) :: s.coh.wb } } :=
  ⟨24, 0, _, _, { coh := { lines := [(24, 0, { st := .m, data := 1, poison := false })] } }, by first | decide | rfl | simp, rfl, by decide, by decide, by first | decide | rfl | simp, by first | decide | rfl | simp, by decide, by first | decide | rfl | simp, rfl⟩

theorem witness_LinesAreAnsweredGrantedAndEvicted_15 :
    ∃ (a pa : Nat) (x : ALine) (v s : State), isGroup a = true ∧ lineAt s a (lineOf pa) = some x ∧ vacRoom s a (lineOf pa) = true ∧ wbAt s a (lineOf pa) = none ∧ openReq s a (lineOf pa) = false ∧ pathHeld s (unitWin a) (homeWin (lineOf pa)) = false ∧ x.st = .e ∧ (∀ w, .vac (lineOf pa) w ∈ s.coh.net → w.agent ≠ a) ∧ v = { lineDrop a (lineOf pa) s with coh := { (lineDrop a (lineOf pa) s).coh with wb := (a, lineOf pa, { x with st := .s }) :: s.coh.wb } } :=
  ⟨24, 0, _, _, { coh := { lines := [(24, 0, { st := .e, data := 1, poison := false })] } }, by first | decide | rfl | simp, rfl, by decide, by decide, by first | decide | rfl | simp, by first | decide | rfl | simp, by decide, by first | decide | rfl | simp, rfl⟩

theorem witness_LinesAreAnsweredGrantedAndEvicted_16 :
    ∃ (p q : List CohMsg) (pa : Nat) (w : Vac) (u s : State), w.agent < 62 ∧ Arrived s u (.vac (lineOf pa) w) p q ∧ (∀ x, .vac (lineOf pa) x ∈ p → x.agent ≠ w.agent) :=
  ⟨[], [], 0, { agent := 24, full := true, data := 7, poison := false, part := none }, _, { witRun with coh := { net := [.vac 0 { agent := 24, full := true, data := 7, poison := false, part := none }] } }, by first | decide | rfl | simp, ⟨rfl, by decide, by decide, rfl⟩, by first | decide | rfl | simp⟩

theorem witness_LinesAreAnsweredGrantedAndEvicted_17 :
    ∃ (p q : List CohMsg) (a pa : Nat) (u s : State), a < 62 ∧ Arrived s u (.vacack a (lineOf pa)) p q ∧ .vacack a (lineOf pa) ∉ p :=
  ⟨[], [], 24, 0, _, { witRun with coh := { net := [.vacack 24 0] } }, by decide, ⟨rfl, by decide, by decide, rfl⟩, by decide⟩

theorem witness_LinesAreAnsweredGrantedAndEvicted_18 :
    ∃ (a pa : Nat) (s : State), a < 62 ∧ (∀ x, lineAt s a (lineOf pa) = some x → x.st = .s) ∧ (∀ w, .vac (lineOf pa) w ∈ s.coh.net → w.agent ≠ a) :=
  ⟨24, 0, {}, by first | decide | rfl | simp, (by intro x h; cases h), (by intro w h; cases h)⟩

theorem witness_CodewordsAndSidebandMessages_0 :
    ∃ (n num : Nat) (lanes : List (List Nat)) (w : Bool) (fl : List (Nat × Bool)) (s : State), n < 24 :=
  ⟨4, 0, List.replicate 16 (List.replicate 34 0), true, [], { ports := [(4, { state := 3, tx := trainedSide 16 [], rx := trainedSide 16 [] })] }, by first | decide | rfl | simp⟩

theorem witness_CodewordsAndSidebandMessages_1 :
    ∃ (n num : Nat) (lanes : List (List Nat)) (fl : List (Nat × Bool)) (word places : List Nat) (c : Codeword) (p : Port) (t v s : State), n < 24 ∧ hearing (portAt s n) = true ∧ behindMarker s n = false ∧ rsDecode (laneJoin lanes) = some (word, places) ∧ c = codewordOf word ∧ t = resendFailed (setFlaws fl s) (addLanes n places (bumpObj 0x3601 (n + 1) 64 places.length (setFlaws fl s))) ∧ p = portAt t n ∧ v = portPut t n { p with rxNum := (p.rxNum + 1) % 65536, nakOut := false, stream := p.stream ++ c.bytes } :=
  ⟨4, 0, List.replicate 16 (List.replicate 34 0), [], List.replicate 544 0, [], _, _, _, _, { ports := [(4, { state := 3, tx := trainedSide 16 [], rx := trainedSide 16 [] })] }, by first | decide | rfl | simp, by first | decide | rfl | simp, by first | decide | rfl | simp, by decide +kernel, rfl, by first | decide | rfl | simp, rfl, rfl⟩

theorem witness_CodewordsAndSidebandMessages_3 :
    ∃ (f n : Nat) (h : BitVec 256) (d r : List Byte) (p : Port) (s : State), p = portAt s n ∧ cutStream p.stream = some (h, d, r) ∧ 1 ≤ hType h ∧ hType h ≤ 10 ∧ (hdrClass h = 0 → packetWaits s n h = false) :=
  ⟨1, 4, 0x6000000, [], [], _, { ports := [(4, { state := 3, stream := [0, 0, 0, 6] ++ List.replicate 28 0, tx := trainedSide 16 [], rx := trainedSide 16 [] })] }, rfl, by decide, by first | decide | rfl | simp, by first | decide | rfl | simp, by first | decide | rfl | simp⟩

theorem witness_CodewordsAndSidebandMessages_4 :
    ∃ (n v : Nat) (s : State), n < 24 :=
  ⟨4, 9, witRun, by first | decide | rfl | simp⟩

theorem witness_CodewordsAndSidebandMessages_5 :
    ∃ (n : Nat) (s : State), n < 24 ∧ hearing (portAt s n) = true :=
  ⟨4, { ports := [(4, { state := 3, tx := trainedSide 16 [], rx := trainedSide 16 [] })] }, by first | decide | rfl | simp, by first | decide | rfl | simp⟩

theorem witness_CodewordsAndSidebandMessages_6 :
    ∃ (n : Nat) (s : State), n < 24 :=
  ⟨1, {}, by decide⟩

theorem witness_CodewordsAndSidebandMessages_7 :
    ∃ (n v k : Nat) (p q : Port) (s : State), n < 24 ∧ p = portAt s n ∧ hearing p = true ∧ ackFits p v = true ∧ p.queued = [] ∧ k = (v % 65536 + 1 + 65536 - p.acked) % 65536 ∧ q = { p with acked := (v + 1) % 65536, replay := p.replay.drop k, sent := p.sent.filter fun e => decide (k ≤ (e.1 + 65536 - p.acked) % 65536) } :=
  ⟨4, 2, _, _, _, { ports := [(4, { state := 3, txNum := 4, tx := trainedSide 16 [], rx := trainedSide 16 [] })] }, by first | decide | rfl | simp, rfl, by first | decide | rfl | simp, by first | decide | rfl | simp, by first | decide | rfl | simp, rfl, rfl⟩

theorem witness_CodewordsAndSidebandMessages_8 :
    ∃ (n v : Nat) (s : State), n < 24 ∧ (hearing (portAt s n) = false ∨ ackFits (portAt s n) v = false) :=
  ⟨4, 0, { ports := [(4, { state := 1 })] }, by decide, by decide⟩

theorem witness_CodewordsAndSidebandMessages_9 :
    ∃ (n c k : Nat) (p : Port) (s : State), n < 24 ∧ p = portAt s n ∧ hearing p = true ∧ c < 3 ∧ k < 2 ^ 14 :=
  ⟨4, 2, 9, _, { ports := [(4, { state := 3, tx := trainedSide 16 [], rx := trainedSide 16 [] })] }, by first | decide | rfl | simp, rfl, by first | decide | rfl | simp, by first | decide | rfl | simp, by first | decide | rfl | simp⟩

theorem witness_CodewordsAndSidebandMessages_10 :
    ∃ (n : Nat) (s : State), n < 24 ∧ hearing (portAt s n) = true :=
  ⟨4, { ports := [(4, { state := 3, tx := trainedSide 16 [], rx := trainedSide 16 [] })] }, by first | decide | rfl | simp, by first | decide | rfl | simp⟩

theorem witness_CodewordsAndSidebandMessages_11 :
    ∃ (n c : Nat) (p : Port) (s : State), n < 24 ∧ p = portAt s n ∧ c < 3 ∧ hearing p = true ∧ p.changed.getD c false = true :=
  ⟨4, 2, _, { ports := [(4, { state := 3, changed := [false, false, true], tx := trainedSide 16 [], rx := trainedSide 16 [] })] }, by first | decide | rfl | simp, rfl, by first | decide | rfl | simp, by first | decide | rfl | simp, by first | decide | rfl | simp⟩

theorem witness_CodewordsAndSidebandMessages_12 :
    ∃ (n i : Nat) (s : State), n < 24 ∧ i < 4 ∧ hearing (portAt s n) = true :=
  ⟨4, 3, { ports := [(4, { state := 3, tx := trainedSide 16 [], rx := trainedSide 16 [] })] }, by first | decide | rfl | simp, by first | decide | rfl | simp, by first | decide | rfl | simp⟩

theorem witness_PortsTrainServeAndFail_0 :
    ∃ (n : Nat) (t s : State), n < 24 ∧ portPresent s n = true ∧ s.chips.slotOk = true ∧ s.boot.phase = .running ∧ ((portAt s n).state = 1 ∨ (portAt s n).state = 5 ∨ (portAt s n).state = 6) ∧ t = (if (portAt s n).role = 2 ∧ (portAt s n).state ≠ 6 then forgetPlane (portAt s n).peerId s else s) :=
  ⟨1, _, { boot := { phase := .running }, present := 16384, ports := [(1, { state := 1 })] }, by decide, by decide, by decide, by decide, by decide, by first | decide | rfl | simp⟩

theorem witness_PortsTrainServeAndFail_1 :
    ∃ (n k : Nat) (fx fr : List Nat) (s : State), n < 24 ∧ (portAt s n).state = 2 ∧ (portAt s n).tx.lanes = [] ∧ k = min (healthy (trainedSide 9 fx)) (healthy (trainedSide 9 fr)) :=
  ⟨4, _, [2], [], { ports := [(4, { state := 2 })] }, by first | decide | rfl | simp, by first | decide | rfl | simp, by first | decide | rfl | simp, rfl⟩

theorem witness_PortsTrainServeAndFail_2 :
    ∃ (n i v : Nat) (p : Port) (s : State), n < 24 ∧ hearing (portAt s n) = true ∧ (portAt s n).role = 2 ∧ i = bitsOf 15 14 v ∧ p = { portAt s n with peer := lset (portAt s n).peer i (bitsOf 13 0 v), told := lset (portAt s n).told i (bitsOf 13 0 v), seen := lset (portAt s n).seen i true } :=
  ⟨4, _, 0x4005, _, { ports := [(4, { state := 3, role := 2, tx := trainedSide 16 [], rx := trainedSide 16 [] })] }, by first | decide | rfl | simp, by first | decide | rfl | simp, by first | decide | rfl | simp, rfl, by first | decide | rfl | simp⟩

theorem witness_PortsTrainServeAndFail_3 :
    ∃ (n b v : Nat) (p : Port) (s : State), n < 24 ∧ hearing (portAt s n) = true ∧ (portAt s n).role = 1 ∧ bitsOf 15 14 v = 1 ∧ p = { portAt s n with peer := lset (portAt s n).peer 1 (bitsOf 13 0 v), told := lset (portAt s n).told 1 (bitsOf 13 0 v), seen := lset (portAt s n).seen 1 true } ∧ p.seen.getD 0 false = true ∧ p.seen.getD 1 false = true ∧ p.seen.getD 2 false = false ∧ stateAgrees s p = true ∧ portInService p = false ∧ b = peerChip s p ∧ chipLost s b = false :=
  ⟨4, _, 0x4000, _, { witRun with ports := [(4, { state := 2, role := 1, peerId := 1, tx := trainedSide 16 [], rx := trainedSide 16 [], peer := [1, 0, 0, 0], seen := [true, false, false, false] })] }, by first | decide | rfl | simp, by first | decide | rfl | simp, by first | decide | rfl | simp, by first | decide | rfl | simp, by first | decide | rfl | simp, by first | decide | rfl | simp, by first | decide | rfl | simp, by first | decide | rfl | simp, by first | decide | rfl | simp, by first | decide | rfl | simp, rfl, by first | decide | rfl | simp⟩

theorem witness_PortsTrainServeAndFail_4 :
    ∃ (n : Nat) (p : Port) (s : State), n < 24 ∧ p = portAt s n ∧ portUp s n = true ∧ p.role = 2 ∧ p.retraining = false :=
  ⟨4, _, { witRun with ports := [(4, { state := 3, role := 2, tx := trainedSide 16 [], rx := trainedSide 16 [] })] }, by first | decide | rfl | simp, rfl, by first | decide | rfl | simp, by first | decide | rfl | simp, by first | decide | rfl | simp⟩

theorem witness_PortsTrainServeAndFail_7 :
    ∃ (n : Nat) (s : State), n < 24 ∧ portUp s n = false :=
  ⟨4, {}, by decide, by decide⟩

theorem witness_PortsTrainServeAndFail_8 :
    ∃ (n r b : Nat) (p : Port) (s : State), n < 24 ∧ p = portAt s n ∧ hearing p = true ∧ portSender s p = some b ∧ (∀ m < 24, (portAt s m).retraining = true → portSender s (portAt s m) ≠ some b) :=
  ⟨4, 3, _, _, { ports := [(4, { state := 3, role := 1, tx := trainedSide 16 [], rx := trainedSide 16 [] })] }, by first | decide | rfl | simp, rfl, by first | decide | rfl | simp, by first | decide | rfl | simp, by first | decide | rfl | simp⟩

theorem witness_PortsTrainServeAndFail_10 :
    ∃ (n r : Nat) (s : State), n < 24 ∧ (hearing (portAt s n) = false ∨ portSender s (portAt s n) = none) :=
  ⟨0, 1, { ports := [(0, { role := 2 })] }, by decide, by first | decide | rfl | simp⟩

theorem witness_PortsTrainServeAndFail_11 :
    ∃ (n v : Nat) (p : Port) (s : State), n < 24 ∧ p = portAt s n ∧ portUp s n = true ∧ p.role = 2 ∧ p.peerId ≤ 3 :=
  ⟨0, 0, _, { witRun with ports := [(0, { state := 3, role := 2, peerId := 1 })] }, by decide, rfl, by decide, by decide, by decide⟩

theorem witness_PortsTrainServeAndFail_12 :
    ∃ (b r : Nat) (s : State), b ≠ s.chips.chipId ∧ chipLost s b = false :=
  ⟨7, 2, { chips := { tab := [(7, 96)], chipId := 8 } }, by decide, by decide⟩

theorem witness_PortsTrainServeAndFail_13 :
    ∃ (b : Nat) (s : State), chipLost s b = true :=
  ⟨1, { chips := { tab := [(1, 64)] } }, by decide⟩

theorem witness_PacketsAreServedAndAnswered_0 :
    ∃ (n : Nat) (h : BitVec 256) (d : List Byte) (fl : List (Nat × Bool)) (s : State), n < 24 :=
  ⟨0, 0, [], [], witRun, by decide⟩

theorem witness_PacketsAreServedAndAnswered_1 :
    ∃ (n : Nat) (h : BitVec 256) (l : List Byte) (fl : List (Nat × Bool)) (t s : State), n < 24 ∧ offsetError s (portPart s n) false (hOff h) (hLen h) = none ∧ packetWaits s n h = false ∧ pageRead (portReq n) (portPart s n) 0 false (lineSpans (hOff h) (hLen h)) (setFlaws fl s) = (.ok l, t) :=
  ⟨0, 16777216, _, [], _, { witRun with ports := [(0, { state := 3 })] }, by decide, by first | decide | rfl | simp, by first | decide | rfl | simp, by first | decide | rfl | simp⟩

theorem witness_PacketsAreServedAndAnswered_2 :
    ∃ (n ln : Nat) (h : BitVec 256) (x : LlcLine) (fl : List (Nat × Bool)) (s : State), n < 24 ∧ ln = lineOf (hOff h) ∧ offsetError s (portPart s n) false (hOff h) (hLen h) = none ∧ 0 < hLen h ∧ hOff h % 128 + hLen h ≤ 128 ∧ entAt s ln = none ∧ packetWaits s n h = false ∧ aget s.mem.llc ln = some x ∧ x.poison = false ∧ arrives s n h 1 = true :=
  ⟨0, _, 0x1000000 + 8 <<< 32 + 256 <<< 64, _, [], { witRun with ports := [(0, { state := 3, tx := trainedSide 16 [], rx := trainedSide 16 [] })], mem := { llc := [(2, { data := 9, dirty := false, poison := false, way := 3 })] } }, by first | decide | rfl | simp, rfl, by first | decide | rfl | simp, by first | decide | rfl | simp, by first | decide | rfl | simp, by first | decide | rfl | simp, by first | decide | rfl | simp, rfl, by first | decide | rfl | simp, by first | decide | rfl | simp⟩

theorem witness_PacketsAreServedAndAnswered_3 :
    ∃ (n c pa : Nat) (h : BitVec 256) (fl : List (Nat × Bool)) (s : State), n < 24 ∧ offsetError s (portPart s n) false (hOff h) (hLen h) = some (c, pa) :=
  ⟨0, _, _, 115792089237316195423570985008687907853269984665640564039457584007912894754816, [], { witRun with ports := [(0, { state := 3 })] }, by decide, by first | decide | rfl | simp⟩

theorem witness_PacketsAreServedAndAnswered_4 :
    ∃ (n c : Nat) (h : BitVec 256) (d : List Byte) (fl : List (Nat × Bool)) (t s : State), n < 24 ∧ d.length = hLen h ∧ packetWaits s n h = false :=
  ⟨0, 1, 0x2000000 + 2 <<< 32, [1, 2], [], witRun, { witRun with ports := [(0, { state := 3, tx := trainedSide 16 [], rx := trainedSide 16 [] })] }, by first | decide | rfl | simp, by first | decide | rfl | simp, by first | decide | rfl | simp⟩

theorem witness_PacketsAreServedAndAnswered_5 :
    ∃ (n : Nat) (h : BitVec 256) (d : List Byte) (fl : List (Nat × Bool)) (s : State), n < 24 ∧ packetWaits s n h = true ∧ d.length = hLen h :=
  ⟨0, 0x202000000, [1, 2], [], { witRun with ports := [(0, { state := 3, tx := trainedSide 16 [], rx := trainedSide 16 [] })], mds := [(0, { maint := { busy := true, left := [0] } })] }, by first | decide | rfl | simp, by first | decide | rfl | simp, by first | decide | rfl | simp⟩

theorem witness_PacketsAreServedAndAnswered_6 :
    ∃ (who : Requester) (part : Option Nat) (hint : Nat × Nat) (off : Nat) (half : Bool) (l : List Byte) (t s : State), who.kind = 4 ∧ offsetError s part true off l.length = none ∧ l ≠ [] ∧ off % 128 + l.length ≤ 128 ∧ lineShut s (lineOf off) = false ∧ lineCrossed s (unitOf who) false (lineOf off) = false ∧ putNow part hint.1 hint.2 (lineOf off) (runMask (off % 128) half l) (runLine (off % 128) l) s = (none, t) :=
  ⟨⟨4, 0, none⟩, some 0, (0, 0), 256, false, [1, 2], _, { witRun with mem := { llc := [(2, { data := 9, dirty := false, poison := false, way := 3 })] } }, by first | decide | rfl | simp, by first | decide | rfl | simp, by first | decide | rfl | simp, by first | decide | rfl | simp, by first | decide | rfl | simp, by first | decide | rfl | simp, rfl⟩

theorem witness_PacketsAreServedAndAnswered_7 :
    ∃ (n : Nat) (h : BitVec 256) (d : List Byte) (p : Pend) (t s : State), n < 24 ∧ arrives s n h 3 = true ∧ pendOf s (hTag h) = some p ∧ hStatus h = 0 ∧ t = dropPend p.tag s :=
  ⟨0, 1645504557321206042154969182557350504982735865633579863398940672, [], { tag := 0, kind := 0, chip := 3, ac := 256, rd := 11, rq := 257, cmd := 3, va := 24, len := 1, pa := 3 }, _, { witRun with obj := [(5308930, 255), (5309186, 1073676288)], ctxs := [(1, { state := 1, entry := [133144002417, 0, 0, 0, 65540, 131072, 0, 0, 0, 0, 0, 0, 0, 0, 0, 0] })], queues := [(4, { tail := 3, accepted := 1 })], ctxBase := 262144, ports := [(0, { state := 3 })], chips := { pend := [{ tag := 0, kind := 0, chip := 3, ac := 256, rd := 11, rq := 257, cmd := 3, va := 24, len := 1, pa := 3 }, { tag := 0, kind := 0, chip := 3, ac := 256, rd := 11, rq := 257, cmd := 3, va := 24, len := 1, pa := 3 }] } }, by decide, by decide, by decide, by decide, by first | decide | rfl | simp⟩

theorem witness_PacketsAreServedAndAnswered_8 :
    ∃ (rd : Nat) (l : List Byte) (c : Core), rd < 64 :=
  ⟨33, [200], {}, by first | decide | rfl | simp⟩

theorem witness_PacketsAreServedAndAnswered_9 :
    ∃ (n : Nat) (h : BitVec 256) (p : Pend) (d : List Byte) (s : State), n < 24 ∧ arrives s n h 3 = true ∧ pendOf s (hTag h) = some p ∧ hStatus h ≠ 0 ∧ isRemote p = false :=
  ⟨0, 0x3000000 + 5 <<< 192, _, [], { witRun with ports := [(0, { state := 3, tx := trainedSide 16 [], rx := trainedSide 16 [] })], chips := { pend := [{ tag := 0, kind := 0, chip := 1, ac := 0, rd := 0, rq := 0, cmd := 0, va := 0x1000, len := 8, pa := 0 }] } }, by first | decide | rfl | simp, by first | decide | rfl | simp, rfl, by first | decide | rfl | simp, by first | decide | rfl | simp⟩

theorem witness_PacketsAreServedAndAnswered_10 :
    ∃ (n : Nat) (h : BitVec 256) (p : Pend) (s : State), n < 24 ∧ arrives s n h 5 = true ∧ pendOf s (hTag h) = some p ∧ p.kind = 2 :=
  ⟨0, 83886080, { tag := 0, kind := 2, chip := 0, ac := 5, rd := 45, rq := 4, cmd := 4, va := 25, len := 4, pa := 4 }, { witRun with obj := [(5308930, 255), (5309186, 1073676288)], ctxs := [(1, { state := 1, entry := [133144002417, 0, 0, 0, 65540, 131072, 0, 0, 0, 0, 0, 0, 0, 0, 0, 0] })], queues := [(4, { tail := 3, accepted := 1 })], ctxBase := 262144, ports := [(0, { state := 3 })], chips := { pend := [{ tag := 0, kind := 2, chip := 0, ac := 5, rd := 45, rq := 4, cmd := 4, va := 25, len := 4, pa := 4 }, { tag := 0, kind := 2, chip := 0, ac := 5, rd := 45, rq := 4, cmd := 4, va := 25, len := 4, pa := 4 }] } }, by decide, by decide, by decide, by decide⟩

theorem witness_PacketsAreServedAndAnswered_11 :
    ∃ (n ctx : Nat) (h : BitVec 256) (d : List Byte) (fl : List (Nat × Bool)) (p : Pend) (c : RCmd) (l : List (Nat × Nat × Bool)) (t u s : State), n < 24 ∧ arrives s n h 7 = true ∧ pendOf s (hTag h) = some p ∧ p.kind = 3 ∧ hStatus h = 0 ∧ rqCmd s p.rq p.cmd = some c ∧ ctx = rqCtx (rqAt s p.rq) ∧ rcLocalPieces ctx 2 (pageSpans p.va p.len) (setFlaws fl s) = (some l, t) ∧ writeAll (portReq n) (some (ctxPart t ctx)) (rcHint c) l d t = (none, u) :=
  ⟨0, _, 0x7000000, List.replicate 8 1, [], _, _, _, _, _, { witCtx with ports := [(0, { state := 3, tx := trainedSide 16 [], rx := trainedSide 16 [] })], chips := { pend := [{ tag := 0, kind := 3, chip := 1, ac := 0, rd := 0, rq := 0, cmd := 0, va := 0x1000, len := 8, pa := 0 }] }, rqs := [(0, { cfg := 0x10001, cmds := [{ idx := 0, words := [] }] })], mem := { llc := [(32, { data := 9, dirty := false, poison := false, way := 3 })] } }, by first | decide | rfl | simp, by first | decide | rfl | simp, rfl, by first | decide | rfl | simp, by first | decide | rfl | simp, rfl, rfl, rfl, rfl⟩

theorem witness_PacketsAreServedAndAnswered_12 :
    ∃ (n : Nat) (h : BitVec 256) (p : Pend) (s : State), n < 24 ∧ portUp s n = true ∧ behindMarker s n = false ∧ hType h = 10 ∧ hDest h = s.chips.chipId ∧ (hfield h 203 200 = 1 ∨ hfield h 203 200 = 2 ∨ hfield h 203 200 = 4 ∨ hfield h 203 200 = 6) ∧ pendOf s (hTag h) = some p :=
  ⟨6, 1606938044258990275541962092341162602522202993782793003073536, { tag := 0, kind := 202, chip := 2, ac := 256, rd := 7, rq := 255, cmd := 134217728, va := 203, len := 7, pa := 0 }, { witRun with ports := [(6, { state := 3 })], chips := { pend := [{ tag := 0, kind := 202, chip := 2, ac := 256, rd := 7, rq := 255, cmd := 134217728, va := 203, len := 7, pa := 0 }, { tag := 0, kind := 202, chip := 2, ac := 256, rd := 7, rq := 255, cmd := 134217728, va := 203, len := 7, pa := 0 }] } }, by decide, by decide, by first | decide | rfl | simp, by decide, by decide, by decide, by decide⟩

theorem witness_WindowAccessesAndRelayPackets_0 :
    ∃ (ac pa size : Nat) (w : Bool) (v : W64) (fl : List (Nat × Bool)) (s : State), ac < 128 :=
  ⟨127, 2, 1, true, 0, [], {}, by decide⟩

theorem witness_WindowAccessesAndRelayPackets_1 :
    ∃ (ac pa size off : Nat) (v : W64) (fl : List (Nat × Bool)) (l : List Byte) (part : Option Nat) (x : LlcLine) (u s : State), ac < 128 ∧ (acLive s ac && inWindow pa && sizeOk pa size) = true ∧ target s pa = .board (ownSlot s) off ∧ part = partOf s (acReq ac) ∧ l = leBytes size v.toNat :=
  ⟨0, 0x200000000100, 8, 256, 7, [], _, _, { data := 9, dirty := false, poison := false, way := 3 }, witRun, { witRun with cores := [(0, { on := true })], mem := { llc := [(2, { data := 9, dirty := false, poison := false, way := 3 })] } }, by first | decide | rfl | simp, by first | decide | rfl | simp, by first | decide | rfl | simp, rfl, rfl⟩

theorem witness_WindowAccessesAndRelayPackets_2 :
    ∃ (ac pa size off k : Nat) (v : W64) (fl : List (Nat × Bool)) (p : Pend) (q : Nat × State) (s : State), ac < 128 ∧ (acLive s ac && inWindow pa && sizeOk pa size) = true ∧ target s pa = .board k off ∧ k ≠ ownSlot s :=
  ⟨0, 0x240000000100, 8, 256, 1, 7, [], windowPend witRun 1 1 256 8 0x240000000100 0 0, (0, witRun), { witRun with cores := [(0, { on := true })] }, by first | decide | rfl | simp, by first | decide | rfl | simp, by first | decide | rfl | simp, by first | decide | rfl | simp⟩

theorem witness_WindowAccessesAndRelayPackets_3 :
    ∃ (p : Pend) (hdr : Nat → BitVec 256) (d : List Byte) (n tag : Nat) (t s : State), tag = freeTag s s.chips.pend.length s.chips.tag ∧ t = { s with chips := { s.chips with tag := (tag + 1) % 65536, pend := s.chips.pend ++ [{ p with tag := tag, port := n }] } } ∧ portFor s p.chip (offHash p.off) = some n ∧ clashes s.chips.pend p n = false :=
  ⟨{ tag := 0, kind := 0, chip := 1, ac := 0, rd := 0, rq := 0, cmd := 0, va := 0, len := 8, pa := 0 }, fun _ => 0, [], 0, _, _, { witRun with ports := [(0, { state := 3, role := 1, peerId := 1 })] }, rfl, rfl, by first | decide | rfl | simp, by first | decide | rfl | simp⟩

theorem witness_WindowAccessesAndRelayPackets_4 :
    ∃ (n : Nat) (h : BitVec 256) (d : List Byte) (g : Nat) (s : State), n < 24 ∧ g = hOff h % 1024 ∧ relayServes s g = false :=
  ⟨3, 134217728, [], _, { present := 16384, ports := [(3, { state := 3 })] }, by decide, rfl, by decide⟩

theorem witness_WindowAccessesAndRelayPackets_5 :
    ∃ (n src : Nat) (s : State), relayServes s n = true ∧ gState (groupAt s n) ≠ 2 :=
  ⟨3, 1, { groups := [(3, { gctl := 0x201 })] }, by first | decide | rfl | simp, by first | decide | rfl | simp⟩

theorem witness_WindowAccessesAndRelayPackets_6 :
    ∃ (n : Nat) (h : BitVec 256) (d : List Byte) (g : Nat) (s : State), n < 24 ∧ g = hOff h % 1024 ∧ arrives s n h 9 = true ∧ hStatus h = 5 :=
  ⟨0, 0x9000000 + 5 <<< 192, [], _, { witRun with ports := [(0, { state := 3, tx := trainedSide 16 [], rx := trainedSide 16 [] })] }, by first | decide | rfl | simp, rfl, by first | decide | rfl | simp, by first | decide | rfl | simp⟩

theorem witness_WindowAccessesAndRelayPackets_7 :
    ∃ (n : Nat) (h : BitVec 256) (d : List Byte) (g : Nat) (u s : State), n < 24 ∧ g = hOff h % 1024 ∧ relayServes s g = true ∧ gState (groupAt s g) ≠ 2 ∧ (groupAt s g).ground ≤ roundOf (groupAt s g) h :=
  ⟨1, 134217728, [], 0, {}, { witRun with groups := [(0, { gctl := 12884902401 })], ports := [(1, { state := 3 })] }, by decide, by decide, by decide, by decide, by first | decide | rfl | simp⟩

theorem witness_RemoteQueuesRunTheirCommands_0 :
    ∃ (n : Nat) (v : W64) (r : RQueue) (p : W32) (s : State), n < 256 ∧ r = rqAt s n ∧ p = v.truncate 32 ∧ rqLive s n = true ∧ fld 63 48 v = 0 ∧ fld 47 32 v = rqGen r (p - 1) ∧ (p - r.tail).toNat < 2 ^ 31 ∧ (p - r.done).toNat ≤ 2 ^ rqLog r :=
  ⟨3, 3, _, _, { ctxs := [(0, { state := 1 })], rqs := [(3, { cfg := 1 })] }, by decide, rfl, rfl, by decide, by decide, by decide, by decide, by decide⟩

theorem witness_RemoteQueuesRunTheirCommands_1 :
    ∃ (n : Nat) (v : W64) (s : State), n < 256 ∧ rqLive s n = true ∧ fld 63 48 v ≠ 0 :=
  ⟨2, 281474976710658, { ctxs := [(0, { state := 1 })], rqs := [(2, { cfg := 1 })] }, by decide, by decide, by decide⟩

theorem witness_RemoteQueuesRunTheirCommands_2 :
    ∃ (n : Nat) (v : W64) (fl : List (Nat × Bool)) (s : State), n < 256 ∧ rqLive s n = false :=
  ⟨1, 0, [], {}, by decide, by decide⟩

theorem witness_RemoteQueuesRunTheirCommands_3 :
    ∃ (n : Nat) (s : State), n < 256 ∧ rqLive s n = true ∧ (rqAt s n).status ≠ 0 ∧ (rqAt s n).status ≠ 4 :=
  ⟨0, { ctxs := [(0, { state := 1 })], rqs := [(0, { cfg := 1, status := 5 })] }, by decide, by decide, by decide, by decide⟩

theorem witness_RemoteQueuesRunTheirCommands_4 :
    ∃ (n : Nat) (r : RQueue) (s : State), n < 256 ∧ r = rqAt s n ∧ rqLive s n = true ∧ r.status ≠ 0 ∧ r.status ≠ 4 ∧ r.read ≠ r.tail :=
  ⟨2, { cfg := 31, ring := 128, evtSrc := 4, tail := 4096, read := 4294967295, done := 3, status := 5, parkedAt := 2935262124, rereads := 262 }, { ctxs := [(0, { state := 1 })], rqs := [(2, { cfg := 31, ring := 128, evtSrc := 4, tail := 4096, read := 4294967295, done := 3, status := 5, parkedAt := 2935262124, rereads := 262 })] }, by decide, by decide, by decide, by decide, by decide, by decide⟩

theorem witness_RemoteQueuesRunTheirCommands_5 :
    ∃ (n : Nat) (v c : W64) (s : State), n < 256 ∧ rqEn (rqAt s n) = false ∧ c = maskWrite 0xF3FFF0000 (rqAt s n).cfg v :=
  ⟨1, 2, _, {}, by decide, by decide, rfl⟩

theorem witness_RemoteQueuesRunTheirCommands_6 :
    ∃ (n : Nat) (r : RQueue) (l : List Byte) (fl : List (Nat × Bool)) (u s : State), n < 256 ∧ r = rqAt s n ∧ rqLive s n = true ∧ r.status = 0 ∧ r.read ≠ r.tail ∧ r.cmds.length < 64 ∧ issuing s = true ∧ rangeWaits s (subReq none) (some (ctxPart s (rqCtx r))) true (rqAddr r r.read) 64 = false ∧ memRead (subReq none) (some (ctxPart s (rqCtx r))) (rqAddr r r.read) 64 (setFlaws fl s) = (.ok l, u) :=
  ⟨56, { cfg := 17403196800305970651, ring := 11, evtSrc := 256, tail := 255, read := 4, done := 160, parkedAt := 1397510808, rereads := 8, cmds := (List.replicate 63 { idx := 0, words := [243], started := true, packets := [16384], status := 64, detail := 64, refused := true, sent := 0 }) }, _, [], _, { witRun with ctxs := [(9843, { state := 1 })], rqs := [(56, { cfg := 17403196800305970651, ring := 11, evtSrc := 256, tail := 255, read := 4, done := 160, parkedAt := 1397510808, rereads := 8, cmds := (List.replicate 63 { idx := 0, words := [243], started := true, packets := [16384], status := 64, detail := 64, refused := true, sent := 0 }) })] }, by decide, by decide, by decide, by decide, by decide, by decide, by first | decide | rfl | simp, by first | decide | rfl | simp, by first | decide | rfl | simp⟩

theorem witness_RemoteQueuesRunTheirCommands_7 :
    ∃ (n : Nat) (c : RCmd) (fl : List (Nat × Bool)) (s : State), n < 256 ∧ rqLive s n = true ∧ (∀ d ∈ (rqAt s n).cmds, ¬(d.started = true ∧ d.status = 0 ∧ d.sent < rcLen d ∧ d.packets = [])) ∧ nextStart (rqAt s n) = some c :=
  ⟨0, _, [], { witCtx with rqs := [(0, { cfg := 0x10001, cmds := [{ idx := 0, words := [] }] })] }, by decide, by decide, by first | decide | simp | (intros; simp_all), rfl⟩

theorem witness_RemoteQueuesRunTheirCommands_8 :
    ∃ (n : Nat) (c : RCmd) (s : State), n < 256 ∧ (rqAt s n).cmds.find? rqEnded = some c :=
  ⟨0, { idx := 4, words := [], started := true, packets := [], status := 257, detail := 257, refused := true, sent := 0 }, { rqs := [(0, { cmds := [{ idx := 4, words := [], started := true, packets := [], status := 257, detail := 257, refused := true, sent := 0 }, { idx := 4, words := [], started := true, packets := [], status := 257, detail := 257, refused := true, sent := 0 }] })] }, by decide, by decide⟩

theorem witness_RemoteQueuesRunTheirCommands_9 :
    ∃ (n : Nat) (s : State), n < 256 ∧ (∀ c ∈ (rqAt s n).cmds, rqEnded c = false) :=
  ⟨1, {}, by decide, by first | decide | simp | (intros; simp_all)⟩

theorem witness_ApplicationCoresRunAndAreInterrupted_0 :
    ∃ (ac : Nat) (z : Bool) (op : AcOp) (fl : List (Nat × Bool)) (r : Bool) (pa k : Nat) (s : State), ac < 128 :=
  ⟨127, true, .fence, [], true, 0, 8, witRun, by first | decide | rfl | simp⟩

theorem witness_ApplicationCoresRunAndAreInterrupted_1 :
    ∃ (ac : Nat) (z : Bool) (op : AcOp) (fl : List (Nat × Bool)) (s : State), ac < 128 ∧ acRuns s ac op = true :=
  ⟨127, true, .fence, [], { witRun with cores := [(127, { on := true })] }, by first | decide | rfl | simp, by first | decide | rfl | simp⟩

theorem witness_ApplicationCoresRunAndAreInterrupted_2 :
    ∃ (ac pa k n : Nat) (z : Bool) (op : AcOp) (fl : List (Nat × Bool)) (h s : State), ac < 128 ∧ acLive s ac = true ∧ acOpOk op = true ∧ acOpWaits s ac op = false ∧ h = corePut (setFlaws fl s) ac { coreAt s ac with insn := (coreAt s ac).pc } :=
  ⟨127, 0, 0, 0, true, .fence, [], _, { witRun with cores := [(127, { on := true })] }, by first | decide | rfl | simp, by first | decide | rfl | simp, by first | decide | rfl | simp, by first | decide | rfl | simp, rfl⟩

theorem witness_ApplicationCoresRunAndAreInterrupted_5 :
    ∃ (ac pa size k x : Nat) (z sg : Bool) (rd rs2 : BitVec 5) (l : List Byte) (v : W64) (n u s : State), target s pa = .hbm k ∧ pa < 6 * tileSize ∧ x = rd.toNat + (if sg then 32 else 0) ∧ n = acNext ac (if z then 2 else 4) s :=
  ⟨0, 256, 8, 0, _, false, true, 7, 3, [1], 5, _, witRun, { witRun with cores := [(0, { on := true })] }, by first | decide | rfl | simp, by first | decide | rfl | simp, rfl, by first | decide | rfl | simp⟩

theorem witness_ApplicationCoresRunAndAreInterrupted_6 :
    ∃ (ac pa size g ln : Nat) (who : Requester) (part : Option Nat) (x : ALine) (s : State), ac < 128 ∧ who = acReq ac ∧ g = groupAgent ac ∧ ln = lineOf pa ∧ 0 < size ∧ pa % 128 + size ≤ 128 ∧ hbmThere s pa = true ∧ lineAt s g ln = some x ∧ x.poison = false :=
  ⟨6, 0x140, 8, _, _, _, some 1, { st := .s, data := 9, poison := false }, { witRun with coh := { lines := [(25, 2, { st := .s, data := 9, poison := false })] } }, by first | decide | rfl | simp, rfl, rfl, rfl, by first | decide | rfl | simp, by first | decide | rfl | simp, by first | decide | rfl | simp, by first | decide | rfl | simp, by first | decide | rfl | simp⟩

theorem witness_ApplicationCoresRunAndAreInterrupted_7 :
    ∃ (ac pa g ln : Nat) (l : List Byte) (x : ALine) (m : LineData) (w t s : State), ac < 128 ∧ g = groupAgent ac ∧ ln = lineOf pa ∧ l ≠ [] ∧ pa % 128 + l.length ≤ 128 ∧ hbmThere s pa = true ∧ lineAt s g ln = some x ∧ (x.st = .m ∨ x.st = .e ∨ (lineShut s ln = false ∧ lineCrossed s g false ln = false)) ∧ m = runMask (pa % 128) false l ∧ t = dropResv ac ln s ∧ w = l2Touch g ln x.way (if x.st = .m ∨ x.st = .e then t else promoteNow g ln x t) :=
  ⟨6, 0x17E, _, _, [122, 7], { st := .s, data := 9, poison := false }, _, _, _, { witRun with coh := { lines := [(25, 2, { st := .s, data := 9, poison := false })] } }, by first | decide | rfl | simp, rfl, rfl, by first | decide | rfl | simp, by first | decide | rfl | simp, by first | decide | rfl | simp, by first | decide | rfl | simp, by first | decide | rfl | simp, rfl, rfl, rfl⟩

theorem witness_ApplicationCoresRunAndAreInterrupted_8 :
    ∃ (ac pa k : Nat) (z : Bool) (l : List Byte) (h u s : State), target s pa = .hbm k ∧ inWindow pa = false ∧ rangeError s (acPart s ac) false pa 4 = none ∧ h = corePut s ac { coreAt s ac with insn := (coreAt s ac).pc } ∧ fetchBytes ac (lineSpans pa 4) h = (.ok l, u) :=
  ⟨0, 256, 0, false, _, _, _, { witRun with cores := [(0, { on := true })], mem := { llc := [(2, { data := 9, dirty := false, poison := false, way := 3 })] } }, by first | decide | rfl | simp, by first | decide | rfl | simp, by first | decide | rfl | simp, by first | decide | rfl | simp, by first | decide | rfl | simp⟩

theorem witness_ApplicationCoresRunAndAreInterrupted_9 :
    ∃ (ac ln : Nat) (d : LineData) (l : List Byte) (u s : State), aget (coreAt s ac).icache ln = some d ∧ readLines (acReq ac) (acPart s ac) [(128 * ln, 128)] { s with fresh := s.fresh + 1 } = (.ok l, u) :=
  ⟨0, 2, 9, _, _, { witRun with cores := [(0, { on := true, icache := [(2, 9)] })], mem := { llc := [(2, { data := 9, dirty := false, poison := false, way := 3 })] } }, by first | decide | rfl | simp, rfl⟩

theorem witness_ApplicationCoresRunAndAreInterrupted_10 :
    ∃ (ac pa size k : Nat) (z sg : Bool) (rd rs2 : BitVec 5) (x : W64) (n s : State), (size = 1 ∨ size = 2 ∨ size = 4 ∨ size = 8) ∧ x = coreX (coreAt s ac) rs2.toNat ∧ k = rd.toNat + (if sg then 32 else 0) ∧ n = acNext ac (if z then 2 else 4) s :=
  ⟨0, 0, 8, _, false, false, 1, 1, _, _, { witRun with cores := [(0, { on := true })] }, by decide, rfl, by first | decide | rfl | simp, by first | decide | rfl | simp⟩

theorem witness_ApplicationCoresRunAndAreInterrupted_11 :
    ∃ (ac pa size : Nat) (z sg : Bool) (rd rs2 : BitVec 5) (e : Nat × Nat) (n s : State), (size = 1 ∨ size = 2 ∨ size = 4 ∨ size = 8) ∧ inWindow pa = false ∧ n = acNext ac (if z then 2 else 4) s :=
  ⟨0, 0, 8, false, false, 1, 1, (1, 5), _, { witRun with cores := [(0, { on := true })] }, by decide, by decide, by first | decide | rfl | simp⟩

theorem witness_ApplicationCoresRunAndAreInterrupted_12 :
    ∃ (ac pa size k ln : Nat) (z : Bool) (rd rs2 f5 : BitVec 5) (l : List Byte) (old : W64) (c : Core) (n u s : State), (size = 4 ∨ size = 8 ∨ (size = 16 ∧ f5 = 5)) ∧ pa % size = 0 ∧ target s pa = .hbm k ∧ inWindow pa = false ∧ rangeError s (acPart s ac) false pa size = none ∧ ln = lineOf pa ∧ n = acNext ac (if z then 2 else 4) s ∧ atomicRead ac f5.toNat pa size n = (none, l, u) ∧ c = coreAt u ac ∧ old = loadedValue 32 size l :=
  ⟨0, 0, 8, _, _, false, 1, 1, 2, _, _, _, _, _, { witRun with cores := [(0, { on := true })] }, by first | decide | rfl | simp, by decide, rfl, by first | decide | rfl | simp, by first | decide | rfl | simp, by first | decide | rfl | simp, by first | decide | rfl | simp, by first | decide | rfl | simp, by first | decide | rfl | simp, by first | decide | rfl | simp⟩

theorem witness_ApplicationCoresRunAndAreInterrupted_13 :
    ∃ (r size : Nat) (l : List Byte) (c : Core), size ≠ 16 :=
  ⟨1, 8, [1], {}, by first | decide | rfl | simp⟩

theorem witness_ApplicationCoresRunAndAreInterrupted_14 :
    ∃ (ac pa size : Nat) (z : Bool) (rd rs2 f5 : BitVec 5) (s : State), (size = 4 ∨ size = 8) ∧ (pa % size ≠ 0 ∨ inWindow pa = true) :=
  ⟨4, 18, 4, true, 2, 0, 4, { witRun with cores := [(4, { on := true })] }, by decide, by first | decide | rfl | simp⟩

theorem witness_ApplicationCoresRunAndAreInterrupted_15 :
    ∃ (ac r : Nat) (z : Bool) (word : BitVec 32) (v pc : W64) (c : Core) (s : State), c = coreAt s ac :=
  ⟨0, 1, false, 0x00500093, 5, 4, _, { witRun with cores := [(0, { on := true })] }, rfl⟩

theorem witness_ApplicationCoresRunAndAreInterrupted_16 :
    ∃ (ac : Nat) (z : Bool) (rd : BitVec 5) (c : Core) (n s : State), n = acNext ac (if z then 2 else 4) s ∧ c = coreAt n ac ∧ c.priv = 3 ∧ c.virt = false :=
  ⟨0, false, 1, _, _, { witRun with cores := [(0, { on := true })] }, rfl, rfl, by first | decide | rfl | simp, by first | decide | rfl | simp⟩

theorem witness_ApplicationCoresRunAndAreInterrupted_17 :
    ∃ (cause : Nat) (tval : W64) (c : Core), c.priv = 3 :=
  ⟨2, 0, {}, by first | decide | rfl | simp⟩

theorem witness_ApplicationCoresRunAndAreInterrupted_18 :
    ∃ (ac pa k : Nat) (s : State), ac < 128 ∧ acLive s ac = true ∧ target s (128 * lineOf pa) = .hbm k ∧ rangeError s (acPart s ac) true (128 * lineOf pa) 128 = none :=
  ⟨0, 64, 0, { witRun with cores := [(0, { on := true })] }, by decide, by decide, by decide, by first | decide | rfl | simp⟩

theorem witness_ApplicationCoresRunAndAreInterrupted_19 :
    ∃ (op ln : Nat) (t s : State), t = lineOp op ln s :=
  ⟨1, 2, _, witRun, rfl⟩

theorem witness_ApplicationCoresRunAndAreInterrupted_20 :
    ∃ (ac pa : Nat) (s : State), ac < 128 ∧ acLive s ac = false :=
  ⟨21, 2, { boot := { phase := .running, claryn := true }, present := 1099511623679 }, by decide, by decide⟩

theorem witness_ApplicationCoresRunAndAreInterrupted_21 :
    ∃ (ac : Nat) (s : State), ac < 128 ∧ acLive s ac = true :=
  ⟨0, { witRun with cores := [(0, { on := true })] }, by decide, by decide⟩

theorem witness_ApplicationCoresRunAndAreInterrupted_22 :
    ∃ (h f : Nat) (i : W32) (s : State), h < 128 ∧ f ≤ 8 ∧ acPresent s h = true ∧ 1 ≤ i.toNat ∧ i.toNat ≤ fileIdents f ∧ (f, i.toNat) ∉ (coreAt s h).eip :=
  ⟨31, 8, 255, witRun, by decide, by decide, by decide, by decide, by decide, by decide⟩

theorem witness_ApplicationCoresRunAndAreInterrupted_23 :
    ∃ (h f : Nat) (i : W32) (s : State), h < 128 ∧ f ≤ 8 ∧ (acPresent s h = false ∨ i = 0 ∨ fileIdents f < i.toNat) :=
  ⟨8, 2, 0, { boot := { phase := .running, claryn := true }, present := 1099511623679 }, by decide, by decide, by decide⟩

theorem witness_ApplicationCoresRunAndAreInterrupted_24 :
    ∃ (h : Nat) (s : State), h < 128 ∧ acPresent s h = true ∧ (coreAt s h).on = true :=
  ⟨0, { witRun with cores := [(0, { on := true })] }, by decide, by decide, by decide⟩

theorem witness_ApplicationCoresRunAndAreInterrupted_25 :
    ∃ (h : Nat) (b : Bool) (s : State), h < 128 ∧ (acPresent s h && (coreAt s h).on) = false :=
  ⟨0, true, { boot := { phase := .running, claryn := true }, present := 1099511623679 }, by decide, by decide⟩

theorem witness_PcieRequestsAreServed_0 :
    ∃ (p bar a n : Nat) (l : List Byte) (fl : List (Nat × Bool)) (s : State), p < 4 ∧ pcieUp s p = false :=
  ⟨0, 0, 0, 0, [], [], witRun, by decide, by decide⟩

theorem witness_PcieRequestsAreServed_1 :
    ∃ (p bar a n : Nat) (fl : List (Nat × Bool)) (v s : State), p < 4 ∧ pcieUp s p = true ∧ 0 < n ∧ n ≤ 4096 ∧ v = setFlaws fl s :=
  ⟨0, 1, 1, 15, [], _, { witRun with pcie := [(0, { rate := 1 })] }, by decide, by decide, by decide, by decide, by first | decide | rfl | simp⟩

theorem witness_PcieRequestsAreServed_2 :
    ∃ (bar a n : Nat) (w : Bool) (s : State), s.boot.modeSel = true ∧ s.boot.phase = .running :=
  ⟨0, 4, 0, true, { boot := { phase := .running, modeSel := true } }, by decide, by decide⟩

theorem witness_PcieRequestsAreServed_3 :
    ∃ (a n : Nat) (w : Bool) (s : State), s.boot.modeSel = true ∧ s.boot.phase = .held :=
  ⟨0, 2, true, { boot := { phase := .held, modeSel := true } }, by decide, by decide⟩

theorem witness_PcieRequestsAreServed_4 :
    ∃ (p bar a k n : Nat) (w : Bool) (s : State), (p ≠ 0 ∨ s.boot.modeSel = false) ∧ target s a = .hbm k :=
  ⟨0, 0, 0, 0, 1, true, witRun, by decide, by decide⟩

theorem witness_PcieRequestsAreServed_5 :
    ∃ (p bar a : Nat) (w : Bool) (l : List Byte) (part : Option Nat) (fl : List (Nat × Bool)) (v s : State), p < 4 ∧ pcieUp s p = true ∧ l ≠ [] ∧ l.length ≤ 512 ∧ w = (decide (l.length = 4) && decide (a % 4 = 0)) ∧ part = some (oget s 0x5105 (p + 1)) ∧ v = setFlaws fl s :=
  ⟨0, 6, 1, _, [11, 0, 0, 0, 0, 0, 0, 0, 0, 0, 0, 0, 0, 0, 0, 0, 0, 0, 0, 0, 0, 0, 0, 0, 0, 0, 0, 0, 0, 0, 0, 0, 0, 0, 0, 0, 0, 0, 0, 0, 0, 0, 0, 0, 0, 0, 0, 0, 0, 0, 0, 0, 0, 0, 0, 0, 0, 0, 0, 0, 0, 0, 0, 0, 0, 0, 0, 0, 0, 0, 0, 0, 0, 0, 0, 0, 0, 0, 0, 0, 0, 0, 0, 0, 0, 0, 0, 0, 0, 0, 0, 0, 0, 0, 0, 0, 0, 0, 0, 0, 0, 0, 0, 0, 0, 0, 0, 0, 0, 0, 0, 0, 0, 0, 0, 0, 0, 0, 0, 0, 0, 0, 0, 0, 0, 0, 0, 0, 0, 0, 0, 0, 0, 0, 0, 0, 0, 0, 0, 0, 0, 0, 0, 0, 0, 0, 0, 0, 0, 0, 0, 0, 0, 0, 0, 0, 0, 0, 0, 0, 0, 0, 0, 0, 0, 0, 0, 0, 0, 0, 0, 0, 0, 0, 0, 0, 0, 0, 0, 0, 0, 0, 0, 0, 0, 0, 0, 0, 0, 0, 0, 0, 0, 0, 0, 0, 0, 0, 0, 0, 0, 0, 0, 0, 0, 0, 0, 0, 0, 0, 0, 0, 0, 0, 0, 0, 0, 0, 0, 0, 0, 0, 0, 0, 0, 0, 0, 0, 0, 0, 0, 0, 0, 0, 0, 0, 0, 0, 0, 0, 0, 0, 0, 0, 0, 0, 0, 0, 0, 0, 0, 0, 0, 0, 0, 0, 0, 0, 0, 0, 0, 0, 0, 0, 0, 0, 0, 0, 0, 0, 0, 0, 0, 0, 0, 0, 0, 0, 0, 0, 0, 0, 0, 0, 0, 0, 0, 0, 0, 0, 0, 0, 0, 0, 0, 0, 0, 0, 0, 0, 0, 0, 0, 0, 0, 0, 0, 0, 0, 0, 0, 0, 0, 0, 0, 0, 0, 0, 0, 0, 0, 0, 0, 0, 0, 0, 0, 0, 0, 0, 0, 0, 0, 0, 0, 0, 0, 0, 0, 0, 0, 0, 0, 0, 0, 0, 0, 0, 0, 0, 0, 0, 0, 0, 0, 0, 0, 0, 0, 0, 0, 0, 0, 0, 0, 0, 0, 0, 0, 0, 0, 0, 0, 0, 0, 0, 0, 0, 0, 0, 0, 0, 0, 0, 0, 0, 0, 0, 0, 0, 0, 0, 0, 0, 0, 0, 0, 0, 0, 0, 0, 0, 0, 0, 0, 0, 0, 0, 0, 0, 0, 0, 0, 0, 0, 0, 0, 0, 0, 0, 0, 0, 0, 0, 0, 0, 0, 0, 0, 0, 0, 0, 0, 0, 0, 0, 0, 0, 0, 0, 0, 0, 0, 0, 0, 0, 0, 0, 0, 0, 0, 0, 0, 0, 0, 0, 0, 0, 0, 0, 0, 0, 0, 0, 0, 0, 0, 0, 0, 0, 0, 0, 0, 0, 0, 0, 0, 0, 0, 0, 0, 0, 0, 0, 0, 0, 0, 0, 0, 0, 0, 0, 0, 0, 0, 0, 0, 0, 0, 0, 0, 0, 0, 0, 0, 0, 0, 0, 0, 0, 0, 0], _, [], _, { witRun with pcie := [(0, { rate := 1 })] }, by decide, by decide, by decide, by decide, rfl, by first | decide | rfl | simp, by first | decide | rfl | simp⟩

theorem witness_PcieRequestsAreServed_6 :
    ∃ (op : CfgOp) (s : State), s.boot.modeSel = true ∧ pcieUp s 0 = true ∧ s.boot.phase ≠ .running ∧ s.boot.phase ≠ .held :=
  ⟨.read 4, { witRun with boot := { phase := .discovered, claryn := true, modeSel := true }, pcie := [(0, { rate := 5 })] }, by first | decide | rfl | simp, by first | decide | rfl | simp, by first | decide | rfl | simp, by first | decide | rfl | simp⟩

theorem witness_PcieRequestsAreServed_7 :
    ∃ (reg k m : Nat) (v : W32) (t s : State), s.boot.modeSel = true ∧ pcieUp s 0 = true ∧ (s.boot.phase = .running ∨ s.boot.phase = .held) ∧ t = pciePut s 0 { pcieAt s 0 with barLog := k } ∧ m = cfgMask s reg :=
  ⟨4, 3, _, 7, _, { witRun with boot := { phase := .running, claryn := true, modeSel := true }, pcie := [(0, { rate := 5 })] }, by first | decide | rfl | simp, by first | decide | rfl | simp, by first | decide | rfl | simp, rfl, by first | decide | rfl | simp⟩

theorem witness_PcieRequestsAreServed_8 :
    ∃ (op : CfgOp) (s : State), (s.boot.modeSel && pcieUp s 0) = false :=
  ⟨.read 4, witRun, by first | decide | rfl | simp⟩

theorem witness_PcieRequestsAreServed_9 :
    ∃ (p tag : Nat) (l : List Byte) (x : W64) (r : PRead) (t u s : State), p < 4 ∧ (pcieAt s p).reads.find? (fun r => decide (r.tag = tag)) = some r ∧ x = loadedValue r.rd r.size l ∧ t = pciePut s p { pcieAt s p with reads := (pcieAt s p).reads.filter fun y => decide (y.tag ≠ r.tag) } ∧ u = corePut t r.ac { coreAt s r.ac with waits := none } :=
  ⟨0, 6, [1, 2, 3, 4], _, ⟨6, 3, 9, 4, 0, false⟩, _, _, { witRun with pcie := [(0, { reads := [⟨6, 3, 9, 4, 0, false⟩] })] }, by first | decide | rfl | simp, by first | decide | rfl | simp, rfl, rfl, rfl⟩

theorem witness_PcieRequestsAreServed_10 :
    ∃ (p tag : Nat) (ok : Bool) (l : List Byte) (s : State), p < 4 ∧ (∀ r ∈ (pcieAt s p).reads, r.tag ≠ tag) :=
  ⟨0, 6, true, [], witRun, by first | decide | rfl | simp, by decide⟩

theorem witness_PcieRequestsAreServed_11 :
    ∃ (p : Nat) (s : State), p < 4 ∧ pciePresent s p = true :=
  ⟨3, { present := 32768 }, by decide, by decide⟩

theorem witness_PcieRequestsAreServed_12 :
    ∃ (p : Nat) (b : Bool) (s : State), p < 4 ∧ pciePresent s p = false :=
  ⟨0, true, { present := 1 }, by first | decide | rfl | simp, by first | decide | rfl | simp⟩

theorem witness_PcieRequestsAreServed_13 :
    ∃ (s : State), (s.boot.modeSel && pciePresent s 0 && !(inReset s)) = false :=
  ⟨{}, by decide⟩

theorem witness_PcieRequestsAreServed_14 :
    ∃ (s : State), s.boot.modeSel = true ∧ pciePresent s 0 = true ∧ inReset s = false ∧ (∀ e ∈ s.ctxs, (ctxAt s e.1).state ≠ 1) :=
  ⟨{ boot := { phase := .running, modeSel := true, claryn := true }, present := 1099511627775 }, by decide, by decide, by decide, by first | decide | simp | (intros; simp_all)⟩

theorem witness_PcieRequestsAreServed_15 :
    ∃ (c : Nat) (x : Ctx) (t s : State), s.boot.modeSel = true ∧ pciePresent s 0 = true ∧ inReset s = false ∧ s.ctxs = [(c, x)] ∧ x.state = 1 ∧ t = teardownStart c s :=
  ⟨258, { state := 1, refusals := 64 }, _, { boot := { phase := .running, modeSel := true, claryn := true }, present := 1099511627775, ctxs := [(258, { state := 1, refusals := 64 })] }, by decide, by decide, by decide, by decide, by decide, by first | decide | rfl | simp⟩

theorem witness_PcieRequestsAreServed_17 :
    ∃ (p r w : Nat) (s : State), p < 4 ∧ pciePresent s p = true ∧ inReset s = false ∧ rateOk r w = true ∧ r ≠ 0 ∧ p ∉ s.boot.perst :=
  ⟨0, 4, 8, witRun, by decide, by decide, by decide, by decide, by decide, by decide⟩

theorem witness_PcieRequestsAreServed_18 :
    ∃ (p : Nat) (s : State), p < 4 ∧ pciePresent s p = true ∧ inReset s = false ∧ (pcieAt s p).reads = [] ∧ twf {} s.pcie = true ∧ twf {} s.sc.src = true :=
  ⟨2, witRun, by decide, by decide, by decide, by decide, by decide, by decide⟩

theorem witness_PcieRequestsAreServed_19 :
    ∃ (p r w : Nat) (s : State), p < 4 ∧ (pciePresent s p = false ∨ inReset s = true ∨ rateOk r w = false) :=
  ⟨3, 4, 1, {}, by decide, by decide⟩

theorem witness_PcieRequestsAreServed_20 :
    ∃ (p i : Nat) (s : State), p < 4 ∧ i < 4 ∧ rootPort s p = true ∧ pcieUp s p = true :=
  ⟨2, 3, { witRun with pcie := [(2, { rate := 1 })] }, by decide, by decide, by decide, by decide⟩

theorem witness_PcieRequestsAreServed_21 :
    ∃ (p i : Nat) (s : State), p < 4 ∧ i < 4 ∧ (rootPort s p && pcieUp s p) = false :=
  ⟨3, 2, {}, by decide, by decide, by decide⟩

theorem witness_RegisterWritesReachTheirUnits_0 :
    ∃ (pa w o : Nat) (v : W64) (s : State), target s pa = .mmio w o ∧ pa % 8 ≠ 0 :=
  ⟨0x0F0800000004, 2, 4, 1, witRun, by first | decide | rfl | simp, by first | decide | rfl | simp⟩

theorem witness_RegisterWritesReachTheirUnits_1 :
    ∃ (pa : Nat) (v : W64) (s : State), (∀ w o, target s pa ≠ .mmio w o) ∧ target s pa ≠ .absent :=
  ⟨4096, 1, witRun, fun w o h => absurd h (by simp [target, show hbmThere witRun 4096 = true by decide, show (4096 : Nat) < 6 * tileSize by decide]), by first | decide | rfl | simp⟩

theorem witness_RegisterWritesReachTheirUnits_2 :
    ∃ (pa : Nat) (v : W64) (s : State), target s pa = .absent :=
  ⟨4096, 1, { present := 0x4000 }, by first | decide | rfl | simp⟩

theorem witness_RegisterWritesReachTheirUnits_3 :
    ∃ (v : W64) (s : State), diePresent s 14 = true :=
  ⟨3, witRun, by decide⟩

theorem witness_RegisterWritesReachTheirUnits_4 :
    ∃ (m : Nat) (v : W64) (s : State), m < 6 ∧ mdPresent s m = true :=
  ⟨0, 0, witRun, by decide, by decide⟩

theorem witness_RegisterWritesReachTheirUnits_5 :
    ∃ (h : Nat) (v : W64) (s : State), h < 128 ∧ acPresent s h = true :=
  ⟨0, 1, witRun, by decide, by decide⟩

theorem witness_SourcesPendAndAreDelivered_0 :
    ∃ (n : Nat) (d : W32) (s : State), 1 ≤ n ∧ n ≤ 8191 :=
  ⟨1, 0, {}, by decide, by decide⟩

theorem witness_SourcesPendAndAreDelivered_1 :
    ∃ (n : Nat) (d : W32) (s : State), (n = 0 ∨ 8191 < n) ∧ s.sc.unrouted + 1 < 2 ^ 32 :=
  ⟨0, 0, {}, by decide, by decide⟩

theorem witness_SourcesPendAndAreDelivered_2 :
    ∃ (v : W64) (s : State), 1 ≤ v.toNat ∧ v.toNat < 8192 :=
  ⟨8191, {}, by first | decide | rfl | simp, by decide⟩

theorem witness_SourcesPendAndAreDelivered_4 :
    ∃ (v : W64) (s : State), 8192 ≤ v.toNat :=
  ⟨8192, {}, by decide⟩

theorem witness_SourcesPendAndAreDelivered_5 :
    ∃ (v : W64) (x : Src) (s : State), v.toNat < 8192 ∧ x = srcAt s v.toNat ∧ (v.toNat < 16 ∨ 40 ≤ v.toNat) :=
  ⟨15, _, {}, by decide, rfl, by decide⟩

theorem witness_SourcesPendAndAreDelivered_6 :
    ∃ (v : W64) (x : Src) (s : State), 16 ≤ v.toNat ∧ v.toNat < 40 ∧ x = srcAt s v.toNat :=
  ⟨39, _, {}, by decide, by decide, rfl⟩

theorem witness_SourcesPendAndAreDelivered_7 :
    ∃ (n : Nat) (x : Src) (s : State), n < 8 ∧ x = srcAt s (16 + n) ∧ twf {} s.sc.src = true :=
  ⟨0, _, {}, by decide, rfl, by decide⟩

theorem witness_SourcesPendAndAreDelivered_8 :
    ∃ (n : Nat) (v w : W64) (s : State), n < 8192 :=
  ⟨3, 2147483687, 2305843009213693952, witRun, by decide⟩

theorem witness_SourcesPendAndAreDelivered_9 :
    ∃ (f : Bool) (n : Nat) (s : State), twf {} s.sc.src = true ∧ nextSource s f = some n :=
  ⟨false, 5, { witRun with sc := { src := [(5, { pend := true, cfg := 1 })] } }, by first | decide | rfl | simp, by first | decide | rfl | simp⟩

theorem witness_SourcesPendAndAreDelivered_10 :
    ∃ (n k : Nat) (x : Src) (it : Item) (s : State), twf {} s.sc.src = true ∧ x = srcAt s n ∧ x.pend = true ∧ cfgFast x.cfg = true ∧ (tcAt s (cfgTgt x.cfg)).item = some k ∧ itemAt s k = some it ∧ it.ctx = cfgCtx x.cfg ∧ (tcAt s (cfgTgt x.cfg)).fevec = 0 :=
  ⟨5, 0, _, witItem, { witState {} with sc := { src := [(5, { pend := true, cfg := 0x1000000000005 })] } }, by first | decide | rfl | simp, rfl, by first | decide | rfl | simp, by first | decide | rfl | simp, by first | decide | rfl | simp, by first | decide | rfl | simp, rfl, by first | decide | rfl | simp⟩

theorem witness_SourcesPendAndAreDelivered_11 :
    ∃ (s : State), nextSource s true = none ∧ nextSource s false = none :=
  ⟨{}, by decide, by decide⟩

theorem witness_SourcesPendAndAreDelivered_12 :
    ∃ (s : State), nextSource s true ≠ none :=
  ⟨{ sc := { src := [(1, { cfg := 7, pend := true }), (1, { cfg := 7, pend := true })] } }, by decide⟩

theorem witness_SourcesPendAndAreDelivered_13 :
    ∃ (n : Nat) (x : Src) (u s : State), twf {} s.sc.src = true ∧ nextSource s true = none ∧ nextSource s false = some n ∧ x = srcAt s n ∧ cfgLog n x.cfg = false ∧ u = srcPut s n { x with pend := false, insvc := x.insvc || srcLevel n } :=
  ⟨_, _, _, { witRun with sc := { src := [(5, { pend := true, cfg := 1 })] } }, by decide, by decide, rfl, rfl, by decide, rfl⟩

theorem witness_SourcesPendAndAreDelivered_14 :
    ∃ (n : Nat) (x : Src) (c : TCore) (u s : State), twf {} s.sc.src = true ∧ nextSource s true = some n ∧ x = srcAt s n ∧ cfgLog n x.cfg = false ∧ c = tcAt s (cfgTgt x.cfg) ∧ u = srcPut s n { x with pend := false, insvc := x.insvc || srcLevel n } :=
  ⟨_, _, _, _, { witRun with sc := { src := [(5, { pend := true, cfg := 5 })] } }, by decide, rfl, rfl, by decide, rfl, rfl⟩

theorem witness_SourcesPendAndAreDelivered_15 :
    ∃ (n : Nat) (x : Src) (u s : State), twf {} s.sc.src = true ∧ nextSource s true = none ∧ nextSource s false = some n ∧ x = srcAt s n ∧ writesRecord s n = true ∧ memWrite scReq none (evqAddr s) (evqRecord s n x) s = (none, u) :=
  ⟨_, _, _, { witRun with sc := { src := [(5, { pend := true, cfg := 9 })] }, regs := [(scReg 0x1000, 0x100000)] }, by decide, by decide, rfl, rfl, by decide, rfl⟩

theorem witness_SourcesPendAndAreDelivered_16 :
    ∃ (n : Nat) (x : Src) (s : State), twf {} s.sc.src = true ∧ nextSource s true = none ∧ nextSource s false = some n ∧ x = srcAt s n ∧ cfgLog n x.cfg = true :=
  ⟨_, _, { witRun with sc := { src := [(5, { pend := true, cfg := 9 })] } }, by decide, by decide, rfl, rfl, by decide⟩

theorem witness_SourcesPendAndAreDelivered_17 :
    ∃ (n c : Nat) (s : State), twf {} s.sc.src = true ∧ nextDelivery s = some n ∧ writesRecord s n = true ∧ 1 ≤ c ∧ c ≤ 6 :=
  ⟨_, 1, { witRun with sc := { src := [(5, { pend := true, cfg := 9 })] }, regs := [(scReg 0x1000, 0x100000)] }, by decide, rfl, by decide, by decide, by decide⟩

theorem witness_SourcesPendAndAreDelivered_18 :
    ∃ (c : Nat) (s : State), nextDelivery s = none :=
  ⟨0, {}, by decide⟩

theorem witness_PowerIsCappedAndDiesProtected_0 :
    ∃ (l : List Nat) (r a d : Nat) (x y : List Int) (q : List (Nat × Nat × Nat)) (f : List (Nat × Int)) (s : State), powerOn s = false ∧ r < 7 ∧ d < 6 :=
  ⟨[], 0, 0, 0, [], [], [], [], {}, by decide, by decide, by decide⟩

theorem witness_PowerIsCappedAndDiesProtected_1 :
    ∃ (l : List Nat) (s : State), powerOn s = true :=
  ⟨[], witRun, by decide⟩

theorem witness_PowerIsCappedAndDiesProtected_2 :
    ∃ (r : Nat) (s : State), r < 7 ∧ powerOn s = true :=
  ⟨2, { witRun with pwr := { lostRails := [2, 2] } }, by decide, by decide⟩

theorem witness_PowerIsCappedAndDiesProtected_3 :
    ∃ (s : State), powerOn s = true ∧ s.pwr.lostRails = [] ∧ s.present % 65536 ≠ 0 :=
  ⟨witRun, by decide, by decide, by decide⟩

theorem witness_PowerIsCappedAndDiesProtected_5 :
    ∃ (d a m : Nat × Nat) (g : Nat) (s : State), powerOn s = true ∧ oget s 0x4000 3 ≠ 1 ∧ d = meanPower s 1 ∧ a = meanPower s (oget s 0x4000 2) ∧ m = meanPower s 5 ∧ g = (if 2600000 * m.2 < m.1 ∨ s.pwr.fastOn = true ∨ s.pwr.guardAdd ≠ 0 then 0 else min 10 (s.pwr.sinceGuard + 1)) :=
  ⟨_, _, _, _, witRun, by first | decide | rfl | simp, by first | decide | rfl | simp, rfl, rfl, rfl, rfl⟩

theorem witness_PowerIsCappedAndDiesProtected_6 :
    ∃ (s : State), powerOn s = true ∧ oget s 0x4000 3 = 1 :=
  ⟨{ witRun with obj := [(objKey 0x4000 3, 1)] }, by first | decide | rfl | simp, by first | decide | rfl | simp⟩

theorem witness_PowerIsCappedAndDiesProtected_7 :
    ∃ (l e : List Nat) (s : State), powerOn s = true ∧ e = ((upto 0 16).map fun w => if diePresent s w then l.getD w 0 else 0) :=
  ⟨List.replicate 16 7, _, witRun, by first | decide | rfl | simp, rfl⟩

theorem witness_PowerIsCappedAndDiesProtected_8 :
    ∃ (s : State), powerOn s = true ∧ s.pwr.fastOn = true :=
  ⟨{ witRun with pwr := { fastOn := true } }, by decide, by decide⟩

theorem witness_PowerIsCappedAndDiesProtected_9 :
    ∃ (s : State), s.pwr.fastOn = false :=
  ⟨{}, by decide⟩

theorem witness_PowerIsCappedAndDiesProtected_10 :
    ∃ (s : State), powerOn s = true ∧ s.pwr.guardOn = false ∧ s.pwr.guardAdd ≠ 0 :=
  ⟨{ witRun with pwr := { guardAdd := 1 } }, by decide, by decide, by decide⟩

theorem witness_PowerIsCappedAndDiesProtected_11 :
    ∃ (s : State), (s.pwr.guardOn = true ∨ s.pwr.guardAdd = 0) :=
  ⟨{ pwr := { guardOn := true } }, by decide⟩

theorem witness_PowerIsCappedAndDiesProtected_12 :
    ∃ (d k : Nat) (s : State), d < 6 ∧ powerOn s = true ∧ tget 0 s.pwr.target d = k + 1 :=
  ⟨2, 3, { witRun with pwr := { target := [(2, 4)] } }, by decide, by decide, by decide⟩

theorem witness_PowerIsCappedAndDiesProtected_13 :
    ∃ (d : Nat) (s : State), d < 6 ∧ tget 0 s.pwr.target d = 0 :=
  ⟨0, {}, by decide, by decide⟩

theorem witness_PowerIsCappedAndDiesProtected_16 :
    ∃ (x y : List Int) (u s : State), powerOn s = true ∧ twf 0 s.pwr.thermal = true ∧ twf 0 s.pwr.thermAge = true ∧ u = { s with pwr := { s.pwr with dieTemps := x.take 16, hbmTemps := y.take 24 } } :=
  ⟨[], [], _, witRun, by decide, by decide, by decide, rfl⟩

theorem witness_PowerIsCappedAndDiesProtected_17 :
    ∃ (k : Nat) (c : Int) (s : State), k < 40 ∧ tripUnit s k = true ∧ (if k < 16 then 11000 else 9500) ≤ c ∧ (inReset s = false ∨ s.boot.phase = .goingDown ∨ s.boot.phase = .failed) :=
  ⟨4, 11000, witRun, by decide, by decide, by decide, by first | decide | rfl | simp⟩

theorem witness_PowerIsCappedAndDiesProtected_18 :
    ∃ (k : Nat) (c : Int) (s : State), k < 40 ∧ (tripUnit s k = false ∨ c < (if k < 16 then 11000 else 9500) ∨ (inReset s = true ∧ s.boot.phase ≠ .goingDown ∧ s.boot.phase ≠ .failed)) :=
  ⟨7, 0, {}, by decide, by first | decide | rfl | simp⟩

theorem witness_PowerIsCappedAndDiesProtected_19 :
    ∃ (w m : Nat) (s : State), w < 16 ∧ oget s 0x4200 5 ≤ 2 * m :=
  ⟨0, 2, { obj := [(4325381, 4)] }, by decide, by decide⟩

theorem witness_PowerIsCappedAndDiesProtected_20 :
    ∃ (w m v : Nat) (s : State), w < 6 ∧ powerOn s = true ∧ diePresent s w = true ∧ 2 * m < oget s 0x4200 5 ∧ v = voltAt s w (tget 0 s.pwr.point w) + tget 0 s.pwr.boost w :=
  ⟨0, 7, _, witRun, by decide, by decide, by decide, by decide, rfl⟩

theorem witness_PowerIsCappedAndDiesProtected_21 :
    ∃ (w m : Nat) (s : State), (w = 12 ∨ w = 13) ∧ powerOn s = true ∧ diePresent s w = true ∧ 2 * m < oget s 0x4200 5 :=
  ⟨12, 3, witRun, by first | decide | rfl | simp, by first | decide | rfl | simp, by first | decide | rfl | simp, by first | decide | rfl | simp⟩

theorem witness_PowerIsCappedAndDiesProtected_22 :
    ∃ (w m : Nat) (s : State), w < 16 ∧ (diePresent s w = false ∨ 5 < w ∧ w ≠ 12 ∧ w ≠ 13) :=
  ⟨0, 2, { obj := [(4325381, 4)] }, by decide, by first | decide | rfl | simp⟩

theorem witness_PowerIsCappedAndDiesProtected_23 :
    ∃ (b : Bool) (s : State), (b = false ∨ s.pwr.replan = true) :=
  ⟨true, { pwr := { replan := true } }, by decide⟩

theorem witness_PowerIsCappedAndDiesProtected_24 :
    ∃ (b : Bool) (s : State), objectsOpen s = false :=
  ⟨true, { pwr := { replan := true } }, by first | decide | rfl | simp⟩

theorem witness_PowerIsCappedAndDiesProtected_25 :
    ∃ (s : State), powerOn s = true ∧ s.pwr.replan = false :=
  ⟨witRun, by decide, by decide⟩

theorem witness_PowerIsCappedAndDiesProtected_26 :
    ∃ (q : List (Nat × Nat × Nat)) (f : List (Nat × Int)) (s : State), powerOn s = true ∧ s.pwr.replan = true :=
  ⟨[], [], { witRun with pwr := { replan := true } }, by decide, by decide⟩

theorem witness_PowerIsCappedAndDiesProtected_27 :
    ∃ (w p r : Nat) (s : State), powerOn s = true ∧ s.pwr.replan = true ∧ (w < 6 ∧ p < 8 ∨ (w = 12 ∨ w = 13) ∧ p < 6) ∧ diePresent s w = true :=
  ⟨2, 1, 3, { witRun with pwr := { replan := true } }, by decide, by decide, by decide, by decide⟩

theorem witness_PowerIsCappedAndDiesProtected_28 :
    ∃ (q : List (Nat × Nat × Nat)) (f : List (Nat × Int)) (s : State), s.pwr.replan = false :=
  ⟨[], [(6, 2)], {}, by decide⟩

theorem witness_PowerIsCappedAndDiesProtected_29 :
    ∃ (s : State), powerOn s = true ∧ oget s 0x4200 1 + 1 < 2 ^ 32 :=
  ⟨witRun, by decide, by decide⟩

theorem witness_ClarynServicesAnswerRequests_0 :
    ∃ (r : Req) (v l : List Byte) (o k n : Nat) (d : Bool) (s : State), viaOk r.via = true ∧ serving s = false :=
  ⟨witReq, [], [], 0, 0, 0, false, {}, by decide, by decide⟩

theorem witness_ClarynServicesAnswerRequests_1 :
    ∃ (r : Req) (m : Msg) (w : Row) (t s : State), m = rowMsg r 1 ∧ Heard s t r.via m ∧ objGate t m.index m.sub = .ok w :=
  ⟨witReq, _, _, _, witRun, rfl, ⟨by decide, rfl, by decide, by decide, by decide, rfl, by decide⟩, rfl⟩

theorem witness_ClarynServicesAnswerRequests_2 :
    ∃ (r : Req), ∃ p ∈ ([(1, .read r), (5, .describe r), (7, .abort r)] : List (Nat × Instr)), ∃ (m : Msg) (c : Nat) (t s : State), m = rowMsg r p.1 ∧ Heard s t r.via m ∧ objGate t m.index m.sub = .error c :=
  ⟨{ witReq with index := 0 }, _, List.mem_cons_self, _, _, _, witRun, rfl, ⟨by decide, rfl, by decide, by decide, by decide, rfl, by decide⟩, rfl⟩

theorem witness_ClarynServicesAnswerRequests_4 :
    ∃ (r : Req) (v : List Byte) (m : Msg) (c : Nat) (g : State → State) (t u s : State), m = { rowMsg r 2 with len := v.length, data := v } ∧ v.length ≤ 56 ∧ Heard s t r.via m ∧ objWrite m.index m.sub v t = (c, u, g) :=
  ⟨{ via := (.can 1), tid := 55, index := 1, sub := 3 }, List.replicate 56 0, _, _, _, _, _, witRun, rfl, by first | decide | rfl | simp, ⟨by decide, rfl, by decide, by decide, by decide, rfl, by decide⟩, rfl⟩

theorem witness_ClarynServicesAnswerRequests_5 :
    ∃ (r : Req) (v : List Byte) (m : Msg) (t s : State), m = { rowMsg r 2 with len := v.length, data := v, ok := false } ∧ 56 < v.length ∧ Heard s t r.via m :=
  ⟨{ via := (.can 55), tid := 8, index := 1, sub := 3 }, List.replicate 57 0, _, _, witRun, rfl, by first | decide | rfl | simp, ⟨by decide, rfl, by decide, by decide, by decide, rfl, by decide⟩⟩

theorem witness_ClarynServicesAnswerRequests_6 :
    ∃ (i k : Nat) (l : List Byte) (w : Row) (t : State), objGate t i k = .ok w :=
  ⟨0x1100, 1, [], _, witRun, rfl⟩

theorem witness_ClarynServicesAnswerRequests_7 :
    ∃ (r : Req) (m : Msg) (w : Row) (l : List Byte) (n : Nat) (t s : State), m = rowMsg r 3 ∧ Heard s t r.via m ∧ objGate t m.index m.sub = .ok w ∧ w.acc ≠ 3 ∧ sessOf t r.via = none ∧ t.cla.sess.length < 32 ∧ l = objRead t w m.sub ∧ n = min l.length (segSize r.via) :=
  ⟨witReq, _, _, _, _, _, witRun, rfl, ⟨by decide, rfl, by decide, by decide, by decide, rfl, by decide⟩, rfl, by decide, by decide, by decide, rfl, rfl⟩

theorem witness_ClarynServicesAnswerRequests_8 :
    ∃ (r : Req) (o n : Nat) (m : Msg) (w : Row) (e : Sess) (t s : State), m = { rowMsg r 3 with off := o } ∧ Heard s t r.via m ∧ objGate t m.index m.sub = .ok w ∧ o ≠ 0 ∧ sessOf t r.via = some e ∧ e.key = objKey m.index m.sub ∧ e.write = false ∧ n = min (e.total - o) (segSize r.via) :=
  ⟨witReq, 56, _, _, _, _, _, { witRun with cla := { sess := [{ via := .can 1, key := objKey 0x1100 1, write := false, total := 200, nextOff := 56, data := [] }] } }, rfl, ⟨by decide, rfl, by decide, by decide, by decide, rfl, by decide⟩, rfl, by decide, rfl, by decide, by decide, rfl⟩

theorem witness_ClarynServicesAnswerRequests_9 :
    ∃ (r : Req) (o k n : Nat) (d : List Byte) (m : Msg) (w : Row) (e : Sess) (t s : State), m = { rowMsg r 4 with off := o, total := k, data := d } ∧ Heard s t r.via m ∧ objGate t m.index m.sub = .ok w ∧ o ≠ 0 ∧ sessOf t r.via = some e ∧ e.key = objKey m.index m.sub ∧ e.write = true ∧ o = e.nextOff ∧ n = min (e.total - o) (segSize r.via) ∧ d.length = n :=
  ⟨witReq, 56, 0, _, List.replicate 48 0, _, _, _, _, { witRun with cla := { sess := [{ via := .can 1, key := objKey 0x1100 1, write := true, total := 200, nextOff := 56, data := [] }] } }, rfl, ⟨by decide, rfl, by decide, by decide, by decide, rfl, by decide⟩, rfl, by decide, rfl, by decide, by decide, by decide, rfl, by decide⟩

theorem witness_ClarynServicesAnswerRequests_10 :
    ∃ (r : Req) (k n : Nat) (d : List Byte) (m : Msg) (w : Row) (t s : State), m = { rowMsg r 4 with off := 0, total := k, data := d } ∧ Heard s t r.via m ∧ objGate t m.index m.sub = .ok w ∧ k ≤ w.len ∧ (w.ty < 8 → k = w.len) ∧ sessOf t r.via = none ∧ t.cla.sess.length < 32 ∧ n = min k (segSize r.via) ∧ d.length = n ∧ n < k :=
  ⟨{ witReq with index := 0x5010, sub := 2 }, 64, _, List.replicate 48 0, _, _, _, witRun, rfl, ⟨by decide, rfl, by decide, by decide, by decide, rfl, by decide⟩, rfl, by decide, by decide, by decide, by decide, rfl, by decide, by decide⟩

theorem witness_ClarynServicesAnswerRequests_11 :
    ∃ (r : Req) (k : Nat) (d : List Byte) (m : Msg) (w : Row) (t s : State), m = { rowMsg r 4 with off := 0, total := k, data := d } ∧ Heard s t r.via m ∧ objGate t m.index m.sub = .ok w ∧ (w.len < k ∨ (w.ty < 8 ∧ k ≠ w.len)) :=
  ⟨witReq, 200, [], _, _, _, witRun, rfl, ⟨by decide, rfl, by decide, by decide, by decide, rfl, by decide⟩, rfl, by decide⟩

theorem witness_ClarynServicesAnswerRequests_12 :
    ∃ (r : Req) (m : Msg) (w : Row) (t s : State), m = rowMsg r 5 ∧ Heard s t r.via m ∧ objGate t m.index m.sub = .ok w :=
  ⟨witReq, _, _, _, witRun, rfl, ⟨by decide, rfl, by decide, by decide, by decide, rfl, by decide⟩, rfl⟩

theorem witness_ClarynServicesAnswerRequests_14 :
    ∃ (r : Req) (m : Msg) (t s : State), m = rowMsg r 6 ∧ Heard s t r.via m :=
  ⟨{ via := (.can 6), tid := 1, index := 7, sub := 1 }, _, _, witRun, rfl, ⟨by decide, rfl, by decide, by decide, by decide, rfl, by decide⟩⟩

theorem witness_ClarynServicesAnswerRequests_15 :
    ∃ (i k a b : Nat) (t : State), nextObject t i k = some (a, b) :=
  ⟨6, 2, _, _, {}, rfl⟩

theorem witness_ClarynServicesAnswerRequests_16 :
    ∃ (r : Req) (m : Msg) (w : Row) (t s : State), m = rowMsg r 7 ∧ Heard s t r.via m ∧ objGate t m.index m.sub = .ok w :=
  ⟨witReq, _, _, _, witRun, rfl, ⟨by decide, rfl, by decide, by decide, by decide, rfl, by decide⟩, rfl⟩

theorem witness_ClarynServicesAnswerRequests_17 :
    ∃ (r : Req) (n : Nat) (d : Bool) (m : Msg) (t s : State), m = { rowMsg r (n % 128) with dir := d } ∧ Heard s t r.via m ∧ (d = true ∨ n % 128 = 0 ∨ 7 < n % 128) :=
  ⟨{ via := (.can 8), tid := 0, index := 9, sub := 1 }, 0, false, _, _, witRun, rfl, ⟨by decide, rfl, by decide, by decide, by decide, rfl, by decide⟩, by first | decide | rfl | simp⟩

theorem witness_ClarynServicesAnswerRequests_18 :
    ∃ (r : Req) (n : Nat) (s : State), viaOk r.via = true ∧ 1 ≤ n ∧ n ≤ 7 :=
  ⟨{ via := (.can 1), tid := 4, index := 1, sub := 0 }, 7, {}, by decide, by decide, by decide⟩

theorem witness_ClarynServicesAnswerRequests_19 :
    ∃ (r : Req) (m : Msg) (k : Kept) (x : Bool × State) (t s : State), m = rowMsg r 1 ∧ serving s = true ∧ s.cla.waiting = [] ∧ viaOk r.via = true ∧ viaOpen s r.via = true ∧ viaBarred s r.via = false ∧ x = ageBit (bumpObj 0x1105 2 64 1 s) ∧ t = x.2 ∧ keptFor t r.via m x.1 = some k ∧ viaCan r.via = false :=
  ⟨{ witReq with via := .udp 1 2 }, _, _, _, _, { witRun with tb := { on := true }, obj := [(objKey 0x1101 6, 9)], cla := { kept := [{ via := .udp 1 2, svc := 1, tid := 1, key := objKey 0x1100 1, off := 0, frame := some 0, resp := .discoveryFlood }] } }, rfl, by first | decide | rfl | simp, by first | decide | rfl | simp, by first | decide | rfl | simp, by first | decide | rfl | simp, by first | decide | rfl | simp, rfl, rfl, rfl, by first | decide | rfl | simp⟩

theorem witness_ClarynServicesAnswerRequests_20 :
    ∃ (m : Msg) (via : Via) (k : Kept) (o : Bool) (s : State), keptFor s via m o = some k ∧ s.tb.on = true ∧ k.frame.isSome = true :=
  ⟨rowMsg witReq 1, .udp 1 2, _, false, { witRun with tb := { on := true }, cla := { kept := [{ via := .udp 1 2, svc := 1, tid := 1, key := objKey 0x1100 1, off := 0, frame := some 0, resp := .discoveryFlood }] } }, rfl, by first | decide | rfl | simp, by first | decide | rfl | simp⟩

theorem witness_ClarynServicesAnswerRequests_21 :
    ∃ (r : Req) (s : State), serving s = true ∧ viaOk r.via = true :=
  ⟨witReq, witRun, by first | decide | rfl | simp, by first | decide | rfl | simp⟩

theorem witness_ClarynServicesAnswerRequests_23 :
    ∃ (r : Req) (m : Msg) (e : Via × List Byte) (t s : State), m = rowMsg r 1 ∧ serving s = true ∧ viaOk r.via = true ∧ s.cla.waiting = [e] ∧ viaOpen s r.via = true ∧ viaBarred s r.via = false ∧ t = { s with cla := { s.cla with waiting := [] } } :=
  ⟨{ via := (.can 4), tid := 1, index := 1, sub := 1 }, _, ((.can 0), []), _, { witRun with cla := { waiting := [((.can 0), [])] } }, rfl, by first | decide | rfl | simp, by first | decide | rfl | simp, by first | decide | rfl | simp, by first | decide | rfl | simp, by first | decide | rfl | simp, rfl⟩

theorem witness_ClarynTransportsStoresAndResets_0 :
    ∃ (i : Nat) (fd x : Bool) (l : List Byte) (s : State), (serving s = false ∨ fd = false ∨ x = true ∨ s.boot.canNode = 0 ∨ oget s 0x1100 3 = 2) :=
  ⟨1, true, true, [], {}, by decide⟩

theorem witness_ClarynTransportsStoresAndResets_1 :
    ∃ (i n : Nat) (l : List Byte) (t s : State), serving s = true ∧ n = s.boot.canNode.toNat ∧ n ≠ 0 ∧ oget s 0x1100 3 ≠ 2 ∧ t = canSettle { s with cla := { s.cla with rec_ := if 127 < s.cla.rec_ then 127 else s.cla.rec_ - 1 } } :=
  ⟨0, 1, (List.replicate 8 0), { boot := { phase := .running, canNode := 1, claryn := true }, present := 1099511627775, obj := [(1114115, 3)], cla := { waiting := (List.replicate 63 ((.can 0), [])) } }, { boot := { phase := .running, canNode := 1, claryn := true }, present := 1099511627775, obj := [(1114115, 3)], cla := { waiting := (List.replicate 63 ((.can 0), [])) } }, by decide, by decide, by decide, by decide, by decide⟩

theorem witness_ClarynTransportsStoresAndResets_2 :
    ∃ (a p : Nat) (l : List Byte) (s : State), (serving s = false ∨ oget s 0x1101 6 = 0) :=
  ⟨5, 0, [], {}, by decide⟩

theorem witness_ClarynTransportsStoresAndResets_3 :
    ∃ (a p : Nat) (l : List Byte) (s : State), serving s = true ∧ oget s 0x1101 6 ≠ 0 :=
  ⟨2, 1, (List.replicate 11 0), { witRun with obj := [(1114374, 1)] }, by decide, by decide⟩

theorem witness_ClarynTransportsStoresAndResets_4 :
    ∃ (c : Nat) (v : W64) (b : Mbox) (s : State), c < 2 ∧ b = mboxAt s c :=
  ⟨1, 1, _, {}, by decide, rfl⟩

theorem witness_ClarynTransportsStoresAndResets_6 :
    ∃ (k a n : Nat) (s : State), (serving s && s.cla.dhcp) = false :=
  ⟨7, 2, 8, {}, by decide⟩

theorem witness_ClarynTransportsStoresAndResets_7 :
    ∃ (k a n : Nat) (s : State), serving s = true ∧ s.cla.dhcp = true :=
  ⟨0, 0, 1, { witRun with cla := { dhcp := true } }, by decide, by decide⟩

theorem witness_ClarynTransportsStoresAndResets_8 :
    ∃ (s : State), serving s = true ∧ s.cla.lease = true :=
  ⟨{ witRun with cla := { lease := true } }, by decide, by decide⟩

theorem witness_ClarynTransportsStoresAndResets_9 :
    ∃ (b : Bool) (s : State), (serving s && s.cla.lease) = false :=
  ⟨true, {}, by decide⟩

theorem witness_ClarynTransportsStoresAndResets_11 :
    ∃ (s : State), serving s = false :=
  ⟨{}, by decide⟩

theorem witness_ClarynTransportsStoresAndResets_12 :
    ∃ (s : State), serving s = true :=
  ⟨{ witRun with obj := [(1114115, 2)] }, by decide⟩

theorem witness_ClarynTransportsStoresAndResets_13 :
    ∃ (s : State), serving s = true ∧ oget s 0x1106 2 = 1 :=
  ⟨{ witRun with obj := [(1115650, 1)] }, by decide, by decide⟩

theorem witness_ClarynTransportsStoresAndResets_14 :
    ∃ (s : State), serving s = true ∧ oget s 0x1106 2 ≠ 1 :=
  ⟨{ witRun with obj := [(1115650, 2)] }, by decide, by decide⟩

theorem witness_ClarynTransportsStoresAndResets_15 :
    ∃ (b : Bool) (s : State), serving s = true ∧ s.cla.storing = 0 :=
  ⟨true, witRun, by decide, by decide⟩

theorem witness_ClarynTransportsStoresAndResets_16 :
    ∃ (k b : CfgBank) (s : State), serving s = true ∧ s.cla.storing ≠ 0 ∧ cfgBank s = some k ∧ b = ⟨k.seq + 1, true, s.cla.storeNums, s.cla.storeOcts⟩ :=
  ⟨_, _, { witRun with cla := { storing := 1 }, flash := { cfg0 := { ok := true } } }, by decide, by decide, rfl, rfl⟩

theorem witness_ClarynTransportsStoresAndResets_17 :
    ∃ (s : State), serving s = true ∧ s.cla.storing ≠ 0 ∧ cfgBank s = none :=
  ⟨{ witRun with cla := { storing := 1 } }, by decide, by decide, by decide⟩

theorem witness_ClarynTransportsStoresAndResets_18 :
    ∃ (s : State), serving s = true ∧ s.cla.storing ≠ 0 :=
  ⟨{ witRun with cla := { storing := 1 } }, by decide, by decide⟩

theorem witness_ClarynTransportsStoresAndResets_19 :
    ∃ (v : Nat) (s : State), serving s = true :=
  ⟨0, witRun, by decide⟩

theorem witness_ClarynTransportsStoresAndResets_21 :
    ∃ (s : State), s.boot.phase ≠ .held :=
  ⟨{}, by decide⟩

theorem witness_ClarynTransportsStoresAndResets_22 :
    ∃ (s : State), serving s = true ∧ s.boot.phase = .held :=
  ⟨{ boot := { phase := .held, claryn := true } }, by decide, by decide⟩

theorem witness_ClarynTransportsStoresAndResets_23 :
    ∃ (b : Bool) (s : State), (s.boot.canNode = 0 ∨ 2 ≤ oget s 0x1100 3) :=
  ⟨true, {}, by decide⟩

theorem witness_ClarynTransportsStoresAndResets_24 :
    ∃ (s : State), serving s = true ∧ s.boot.canNode ≠ 0 ∧ oget s 0x1100 3 < 2 :=
  ⟨{ boot := { phase := .running, canNode := 1, claryn := true }, present := 1099511627775, obj := [(1114115, 1)] }, by decide, by decide, by decide⟩

theorem witness_ClarynTransportsStoresAndResets_25 :
    ∃ (s : State), serving s = true :=
  ⟨{ witRun with obj := [(1114115, 2)] }, by decide⟩

theorem witness_SecurityControllerActs_0 :
    ∃ (v : Nat) (a b : Bool) (l o d k : List Byte) (s : State), secOn s = false :=
  ⟨0, false, false, [], [], [], [], {}, by decide⟩

theorem witness_SecurityControllerActs_1 :
    ∃ (v : Nat) (b c : Bool) (l : List Byte) (s : State), objectsOpen s = false :=
  ⟨0, false, true, [], {}, by first | decide | rfl | simp⟩

theorem witness_SecurityControllerActs_2 :
    ∃ (v : Nat) (s : State), (v ≠ 1 ∨ oget s 0x5030 4 = 1) :=
  ⟨1, { witRun with obj := [(5255172, 1)] }, by decide⟩

theorem witness_SecurityControllerActs_3 :
    ∃ (f : FwSlot) (s : State), secOn s = true ∧ objectsOpen s = true ∧ oget s 0x5030 4 ≠ 1 :=
  ⟨{}, witRun, by decide, by first | decide | rfl | simp, by decide⟩

theorem witness_SecurityControllerActs_4 :
    ∃ (b : Bool) (s : State), oget s 0x5030 4 ≠ 1 :=
  ⟨true, { witRun with obj := [(5255172, 2)] }, by decide⟩

theorem witness_SecurityControllerActs_5 :
    ∃ (b : Bool) (u s : State), secOn s = true ∧ oget s 0x5030 4 = 1 ∧ u = { s with sec := { s.sec with staged := none, stagedCode := 0 } } :=
  ⟨true, _, { witRun with obj := [(5255172, 1)] }, by decide, by decide, rfl⟩

theorem witness_SecurityControllerActs_8 :
    ∃ (b : Bool) (c : Nat) (s : State), secOn s = true ∧ objectsOpen s = true ∧ c = commitCode b s ∧ c ≠ 0 ∧ c ≠ 0x16 ∧ c ≠ 0x17 :=
  ⟨true, _, witRun, by decide, by first | decide | rfl | simp, rfl, by decide, by decide, by decide⟩

theorem witness_SecurityControllerActs_9 :
    ∃ (b : Bool) (c : Nat) (s : State), secOn s = true ∧ objectsOpen s = true ∧ c = commitCode b s ∧ (c = 0x16 ∨ c = 0x17) :=
  ⟨true, _, { witRun with sec := { change := leBytes 4 0x50524331 ++ List.replicate 24 0 ++ leBytes 4 1 } }, by decide, by first | decide | rfl | simp, rfl, by decide⟩

theorem witness_SecurityControllerActs_10 :
    ∃ (s : State), secOn s = true ∧ objectsOpen s = true ∧ commitCode true s = 0 :=
  ⟨{ witRun with sec := { change := witChange, sigOwner := witSig, sigCust := witSig } }, by decide, by first | decide | rfl | simp, by decide +kernel⟩

theorem witness_SecurityControllerActs_11 :
    ∃ (b : Bool) (s : State), changeParse s.sec.change = none :=
  ⟨true, witRun, by decide⟩

theorem witness_SecurityControllerActs_12 :
    ∃ (b : Bool) (l : List (Nat × Nat × List Byte)) (s : State), changeParse s.sec.change = some l :=
  ⟨true, _, { witRun with sec := { change := leBytes 4 0x50524331 ++ List.replicate 24 0 ++ leBytes 4 1 } }, rfl⟩

theorem witness_SecurityControllerActs_13 :
    ∃ (l : List Byte) (s : State), (l.length ≠ 32 ∨ s.boot.attest = false ∨ idPrivate s = none) :=
  ⟨(List.replicate 33 4), witRun, by first | decide | rfl | simp⟩

theorem witness_SecurityControllerActs_14 :
    ∃ (l b : List Byte) (d : Nat) (s : State), secOn s = true ∧ objectsOpen s = true ∧ l.length = 32 ∧ s.boot.attest = true ∧ idPrivate s = some d ∧ b = reportBody l s :=
  ⟨List.replicate 32 4, _, (idPrivate witKeyed).getD 0, witKeyed, by first | decide | rfl | simp, by first | decide | rfl | simp, by first | decide | rfl | simp, by first | decide | rfl | simp, by decide +kernel, rfl⟩

theorem witness_SecurityControllerActs_15 :
    ∃ (l : List Byte) (d n : Nat) (s : State), l.length = 32 :=
  ⟨List.replicate 32 7, 3, 3, witRun, by first | decide | rfl | simp⟩

theorem witness_SecurityControllerActs_16 :
    ∃ (l : List Byte) (s : State), (l.length ≠ 48 ∨ allZero (slice l 1 3) = false ∨ 63 < leAt l 0 1 ∨ s.sec.odk = none) :=
  ⟨(List.replicate 49 4), witRun, by decide⟩

theorem witness_SecurityControllerActs_17 :
    ∃ (l : List Byte) (k : BitVec 128) (p : Option (List Byte)) (s : State), secOn s = true ∧ objectsOpen s = true ∧ l.length = 48 ∧ allZero (slice l 1 3) = true ∧ leAt l 0 1 ≤ 63 ∧ s.sec.odk = some k ∧ p = gcmOpen k (slice l 4 12) (s.fuse.serial ++ leBytes 1 (leAt l 0 1)) (slice l 16 16) (slice l 32 16) :=
  ⟨(List.replicate 48 0), 340282366920938463463374607431768211455, _, { witRun with obj := [(5308930, 255), (5309186, 1073676288)], ctxs := [(1, { state := 1, entry := [133144002417, 0, 0, 0, 65540, 131072, 0, 0, 0, 0, 0, 0, 0, 0, 0, 0] })], queues := [(4, { tail := 3, accepted := 1 })], ctxBase := 262144, sec := { badTags := 16, odk := (some 340282366920938463463374607431768211455) } }, by decide, by first | decide | rfl | simp, by decide, by decide, by decide, by decide, by first | decide | rfl | simp⟩

theorem witness_SecurityControllerActs_18 :
    ∃ (c : List Byte) (s : State), secOn s = true ∧ c = (Config.challenge s.fresh ++ List.replicate 32 0).take 32 :=
  ⟨_, witRun, by decide, rfl⟩

theorem witness_SecurityControllerActs_19 :
    ∃ (v : Nat) (o d k : List Byte) (s : State), secOn s = true :=
  ⟨2, [117], [3, 1], [], { witRun with sec := { badUnlocks := 4 } }, by decide⟩

theorem witness_SecurityControllerActs_20 :
    ∃ (v : Nat) (o d k : List Byte) (s : State), (oget s 0x5002 2 < v ∨ s.sec.challenge = []) :=
  ⟨21, [8], [1, 131], [3], { witRun with obj := [(5243394, 20)] }, by decide⟩

theorem witness_SecurityControllerActs_21 :
    ∃ (d c : Nat) (t s : State), inReset s = false ∧ oget s 0x5030 4 ≠ 1 ∧ (oget s 0x5002 1).testBit 0 = true ∧ t = alarm c d false s :=
  ⟨1, 2, _, { witRun with obj := [(5255172, 2)] }, by decide, by decide, by decide, rfl⟩

theorem witness_SecurityControllerActs_22 :
    ∃ (n k : Nat) (s : State), inReset s = true ∧ s.boot.phase ≠ .goingDown :=
  ⟨0, 1, {}, by first | decide | rfl | simp, by first | decide | rfl | simp⟩

theorem witness_SecurityControllerActs_23 :
    ∃ (n k : Nat) (s : State), s.boot.phase = .goingDown ∧ (k = 1 ∨ k = 2) :=
  ⟨0, 2, { boot := { phase := .goingDown } }, by first | decide | rfl | simp, by first | decide | rfl | simp⟩

theorem witness_SecurityControllerActs_24 :
    ∃ (k : Nat) (s : State), s.boot.claryn = false :=
  ⟨1, {}, by first | decide | rfl | simp⟩

theorem witness_SecurityControllerActs_25 :
    ∃ (n k : Nat) (s : State), inReset s = false :=
  ⟨0, 1, witRun, by decide⟩

theorem witness_SecurityControllerActs_26 :
    ∃ (b : Bool) (k : Nat) (s : State), k ≠ 1 ∧ k ≠ 2 :=
  ⟨true, 0, witRun, by decide, by decide⟩

theorem witness_SecurityControllerActs_27 :
    ∃ (op : DebugOp) (s : State), okDebug op = true ∧ op ≠ .readIdcode ∧ (inReset s = true ∨ s.sec.debug < debugLevel op) :=
  ⟨(.resumeCore 1), witRun, by decide, by first | decide | rfl | simp, by decide⟩

theorem witness_SecurityControllerActs_29 :
    ∃ (v : W32) (s : State), inReset s = false ∧ 1 ≤ s.sec.debug :=
  ⟨1, { witRun with sec := { debug := 1 } }, by first | decide | rfl | simp, by first | decide | rfl | simp⟩

theorem witness_SecurityControllerActs_30 :
    ∃ (n : Nat) (r : BitVec 5) (v : W64) (s : State), n < 128 ∧ coreReached s n = false :=
  ⟨127, 1, 0, { witRun with cores := [(0, { on := true })], sec := { debug := 3 } }, by first | decide | rfl | simp, by first | decide | rfl | simp⟩

theorem witness_SecurityControllerActs_31 :
    ∃ (n : Nat) (r : BitVec 5) (v : W64) (s : State), n < 128 ∧ inReset s = false ∧ 1 ≤ s.sec.debug ∧ acPresent s n = true ∧ (coreAt s n).on = true :=
  ⟨0, 1, 0, { witRun with cores := [(0, { on := true })], sec := { debug := 3 } }, by decide, by decide, by decide, by decide, by decide⟩

theorem witness_SecurityControllerActs_32 :
    ∃ (n a tag : Nat) (q : BitVec 4) (b : Byte) (v : W64) (c : TCore) (s : State), n < 192 ∧ a < 0x400000 ∧ inReset s = false ∧ 2 ≤ s.sec.debug ∧ c = tcAt s n ∧ c.halted = true :=
  ⟨0, 0, 0, 0, 0, 0, _, { witRun with tcs := [(0, { halted := true })], sec := { debug := 3 } }, by decide, by decide, by decide, by decide, rfl, by decide⟩

theorem witness_SecurityControllerActs_33 :
    ∃ (n tag : Nat) (rd wr : List (Nat × Nat)) (b : Bool) (s : State), n < 192 ∧ inReset s = false ∧ 2 ≤ s.sec.debug ∧ (tcAt s n).halted = true :=
  ⟨6, 1, [], [], true, { witRun with tcs := [(6, { halted := true })], sec := { debug := 2 } }, by first | decide | rfl | simp, by first | decide | rfl | simp, by first | decide | rfl | simp, by first | decide | rfl | simp⟩

theorem witness_SecurityControllerActs_35 :
    ∃ (a : Nat) (sc : Bool) (b : Byte) (s : State), inReset s = false ∧ 3 ≤ s.sec.debug ∧ (sc = true → a < 0x50000) :=
  ⟨0, false, 0, { witRun with sec := { debug := 3 } }, by decide, by decide, by first | decide | rfl | simp⟩

theorem witness_StoresChangeExactlyTheirBytes_0 :
    ∃ (who : Requester) (part : Option Nat) (a : Nat) (l : List Byte) (s : State), who.kind ≠ 2 ∧ l ≠ [] ∧ a % 128 + l.length ≤ 128 ∧ hbmThere s a = true ∧ rangeError s part true a l.length = none ∧ Memory.wf s.mem.hbm = true ∧ s.mem.flaws = [] ∧ NoCopies s (lineOf a) ∧ lineShut s (lineOf a) = false ∧ lineCrossed s (unitOf who) false (lineOf a) = false :=
  ⟨⟨5, 0, none⟩, none, 0x17E, [1, 2], witRun, by first | decide | rfl | simp, by first | decide | rfl | simp, by first | decide | rfl | simp, by first | decide | rfl | simp, by first | decide | rfl | simp, by first | decide | rfl | simp, by first | decide | rfl | simp, ⟨by decide, by decide, by decide, by decide, by decide⟩, by first | decide | rfl | simp, by first | decide | rfl | simp⟩

theorem witness_StoresChangeExactlyTheirBytes_1 :
    ∃ (n : Nat) (h : BitVec 256) (d : List Byte) (s : State), n < 24 ∧ d ≠ [] ∧ d.length = hLen h ∧ hOff h % 128 + d.length ≤ 128 ∧ offsetError s (portPart s n) true (hOff h) (hLen h) = none ∧ arrives s n h 2 = true ∧ packetWaits s n h = false ∧ h.getLsbD 144 = false ∧ Memory.wf s.mem.hbm = true ∧ NoCopies s (lineOf (hOff h)) :=
  ⟨0, 0x2000000 + 2 <<< 32 + 0x17E <<< 64, [1, 2], { witRun with ports := [(0, { state := 3, tx := trainedSide 16 [], rx := trainedSide 16 [] })] }, by first | decide | rfl | simp, by first | decide | rfl | simp, by first | decide | rfl | simp, by first | decide | rfl | simp, by first | decide | rfl | simp, by first | decide | rfl | simp, by first | decide | rfl | simp, by first | decide | rfl | simp, by first | decide | rfl | simp, ⟨by decide, by decide, by decide, by decide, by decide⟩⟩

theorem witness_StoresChangeExactlyTheirBytes_2 :
    ∃ (ac a ln : Nat) (l : List Byte) (y : ALine) (s : State), ac < 128 ∧ ln = lineOf a ∧ l ≠ [] ∧ a % 128 + l.length ≤ 128 ∧ hbmThere s a = true ∧ lineAt s (groupAgent ac) ln = some y ∧ (y.st = .m ∨ y.st = .e ∨ (lineShut s ln = false ∧ lineCrossed s (groupAgent ac) false ln = false)) :=
  ⟨6, 0x17E, _, [1, 2], { st := .m, data := 9, poison := false }, { witRun with coh := { lines := [(25, 2, { st := .m, data := 9, poison := false })] } }, by first | decide | rfl | simp, rfl, by first | decide | rfl | simp, by first | decide | rfl | simp, by first | decide | rfl | simp, by first | decide | rfl | simp, by first | decide | rfl | simp⟩

theorem witness_StoresChangeExactlyTheirBytes_3 :
    ∃ (ac a ln : Nat) (l : List Byte) (s : State), ac < 128 ∧ ln = lineOf a ∧ l ≠ [] ∧ a % 128 + l.length ≤ 128 ∧ hbmThere s a = true ∧ s.mem.flaws = [] ∧ NoCopies s ln ∧ lineShut s ln = false ∧ lineCrossed s (groupAgent ac) false ln = false ∧ (homeLine s ln).2 = false ∧ (dirWay s ln).isSome = true ∧ canFill s (groupAgent ac) ln 0xFFFF = true :=
  ⟨6, 0x17E, _, [1, 2], witRun, by first | decide | rfl | simp, rfl, by first | decide | rfl | simp, by first | decide | rfl | simp, by first | decide | rfl | simp, by first | decide | rfl | simp, ⟨by decide, by decide, by decide, by decide, by decide⟩, by first | decide | rfl | simp, by first | decide | rfl | simp, by first | decide | rfl | simp, by first | decide | rfl | simp, by first | decide | rfl | simp⟩

theorem witness_StoresChangeExactlyTheirBytes_4 :
    ∃ (ac pa size k ln : Nat) (z : Bool) (rs2 : BitVec 5) (y : ALine) (fl : List (Nat × Bool)) (s : State), ac < 128 ∧ acRuns s ac (.store rs2 pa size) = true ∧ target s pa = .hbm k ∧ rangeError s (acPart s ac) true pa size = none ∧ ln = lineOf pa ∧ pa % 128 + size ≤ 128 ∧ lineAt s (groupAgent ac) ln = some y :=
  ⟨6, 0x178, 8, 0, _, false, 3, { st := .m, data := 9, poison := false }, [], { witRun with cores := [(6, { on := true })], coh := { lines := [(25, 2, { st := .m, data := 9, poison := false })] } }, by first | decide | rfl | simp, by first | decide | rfl | simp, by first | decide | rfl | simp, by first | decide | rfl | simp, rfl, by first | decide | rfl | simp, by first | decide | rfl | simp⟩

theorem witness_StepRunsTheCommandInFront_0 :
    ∃ (c : Instr) (l : List Instr) (s : State), s.pending = c :: l :=
  ⟨.hbmZeroComplete, [], { pending := [.hbmZeroComplete] }, by decide⟩

theorem witness_StepRunsTheCommandInFront_1 :
    ∃ (s : State), s.pending = [] :=
  ⟨{}, by decide⟩

theorem witness_StepRunsTheCommandInFront_2 :
    ∃ (s : State), s.pending = [] ∧ s.tb.on = false ∧ s.cla.waiting = [] :=
  ⟨{}, by decide, by decide, by decide⟩

theorem witness_ResetLeavesTheTablesValues_3 :
    ∃ m p, m < 6 ∧ p < 17 :=
  ⟨3, 1, by decide, by decide⟩

theorem witness_ResetLeavesTheTablesValues_4 :
    ∃ m, m < 6 :=
  ⟨0, by decide⟩

theorem witness_ResetLeavesTheTablesValues_5 :
    ∃ c, c < 24 :=
  ⟨1, by decide⟩

theorem witness_ResetLeavesTheTablesValues_6 :
    ∃ p, p < 4 :=
  ⟨0, by decide⟩

theorem witness_EveryStepKeepsTheMemoryForm_0 :
    ∃ (s t : State), s.memWf = true ∧ step s = .next t :=
  ⟨{}, _, by decide, rfl⟩

theorem witness_CommandsKeepToTheirFootprint_0 :
    ∃ (c : Instr) (s t : State), exec c s = .next t :=
  ⟨.startThermalClear, {}, {}, rfl⟩
end

section
/-! SUPPORT. What the operations of a tensor core's engines share: a core written twice, an instruction at a Pacer that stands ready, the start
of an operation off the DMA path, its departure from the scoreboard, an accumulator operation with none before it. -/

namespace Sys2Proof.Machine

open Sys2Proof

/-! A core written twice -/

/-- The second of two writes of an entry stands alone; a default between them could uncover a later entry of the same key. -/
theorem tset_tset {α : Type} [DecidableEq α] (d v w : α) (i : Nat) (hv : v ≠ d) :
    ∀ t : Tab α, tset d (tset d t i v) i w = tset d t i w
  | [] => by simp [tset, hv]
  | (k, x) :: r => by
    by_cases hlt : i < k
    · simp [tset, hlt, hv]
    · by_cases heq : i = k
      · simp [tset, heq, hv]
      · simp [tset, hlt, heq, tset_tset d v w i hv r]

theorem tcPut_tcPut (s : State) (n : Nat) (c d : TCore) (h : c ≠ {}) : tcPut (tcPut s n c) n d = tcPut s n d := by
  simp only [tcPut, tset_tset _ _ _ _ h]

theorem tcMod_tcPut (s : State) (n : Nat) (c : TCore) (f : TCore → TCore) (h : c ≠ {}) :
    tcMod (tcPut s n c) n f = tcPut s n (f c) := by
  rw [tcMod, tcAt_put _ _ _ h, tcPut_tcPut _ _ _ _ h]

theorem ne_default_of_item {c : TCore} {n : Nat} (h : c.item = some n) : c ≠ {} := by
  rintro rfl
  cases h

theorem ne_default_of_sb {c : TCore} (h : c.sb ≠ []) : c ≠ {} := by
  rintro rfl
  exact h rfl

/-! An instruction at a Pacer that stands ready -/

section Pacer
variable {s t : State} {tc n len cause : Nat} {it : Item} {self : Instr} {body : Item → State → PacerRes}

theorem pacerRun_of_next (h : PacerReady s tc n it len self) (hb : body it s = .next t) :
    pacerRun tc self len body s = retire tc ((tcAt s tc).pc + BitVec.ofNat 64 len) t := by
  obtain ⟨-, hitem, hit, hlive, hstall, hcode, hheld, hiss⟩ := h
  have hst : (decide ((tcAt s tc).stall = none) || decide ((tcAt s tc).stall = some self)) = true := by simpa using hstall
  simp [pacerRun, hitem, hit, hlive, hst, hcode, hheld, hiss, hb]

theorem pacerRun_of_fault (h : PacerReady s tc n it len self) (hb : body it s = .fault cause) :
    pacerRun tc self len body s = pacerFault tc cause s := by
  obtain ⟨-, hitem, hit, hlive, hstall, hcode, hheld, hiss⟩ := h
  have hst : (decide ((tcAt s tc).stall = none) || decide ((tcAt s tc).stall = some self)) = true := by simpa using hstall
  simp [pacerRun, hitem, hit, hlive, hst, hcode, hheld, hiss, hb]

theorem enter_tcPut {c : TCore} (o : Op) (h : c ≠ {}) : enter tc o (tcPut s tc c) = tcPut s tc (entered o c) := tcMod_tcPut _ _ _ _ h

theorem retire_tcPut {c : TCore} (h : c ≠ {}) :
    retire tc (c.pc + BitVec.ofNat 64 len) (tcPut s tc c) = tcPut s tc (onward len c) := tcMod_tcPut _ _ _ _ h

end Pacer

/-! The start and the completion of an operation -/

section Engine
variable {s : State} {tc tag : Nat} {fl : List (Nat × Bool)} {o : Op}

/-- Off the DMA path a start is the work of `startOp` on the core that has made its request to the banks (R57). -/
theorem exec_operationStart_of_canStart (htc : tc < 192) (hf : (tcAt s tc).sb.find? (fun p => decide (p.tag = tag)) = some o)
    (hc : canStart (tcAt s tc) o = true) (hi : issuing s = true) (hp : engPath o.eng ≠ 4) :
    exec (.operationStart tc tag fl) s = .next (setFlaws [] (tcPut s tc (startOp o (startRequest o (tcAt s tc))))) := by
  have hrun : operationStartEffect tc tag (setFlaws fl s) = tcPut (setFlaws fl s) tc (startOp o (startRequest o (tcAt s tc))) := by
    simp only [operationStartEffect, show tcAt (setFlaws fl s) tc = tcAt s tc from rfl, show issuing (setFlaws fl s) = issuing s from rfl,
      hf, hc, hi, hp, Bool.and_self, ite_true, ite_false]
  show onUnit (okTc tc) (withFlaws fl (operationStartEffect tc tag) s) = _
  rw [withFlaws, hrun, okTc, decide_eq_true htc]
  rfl

/-- Performance counters and scoreboard stand apart. -/
theorem perfOf_with_sb (o : Op) (c : TCore) (l : List Op) : { perfOf o c with sb := l } = perfOf o { c with sb := l } := by
  unfold perfOf perfAdd
  split
  · rfl
  · split <;> rfl

theorem perfOf_sb (o : Op) (c : TCore) : (perfOf o c).sb = c.sb := by
  rw [← perfOf_with_sb o c c.sb]

/-- An operation that leaves counts its busy cycles (R67) and takes its entry out of the scoreboard (R58). -/
theorem leave_eq (h : (tcAt s tc).sb ≠ []) :
    leave tc o s = tcPut s tc (perfOf o { tcAt s tc with sb := (tcAt s tc).sb.filter fun p => decide (p.tag ≠ o.tag) }) := by
  have hne : perfOf o (tcAt s tc) ≠ {} := ne_default_of_sb (by rwa [perfOf_sb])
  have hmod : tcMod s tc (perfOf o) = tcPut s tc (perfOf o (tcAt s tc)) := rfl
  rw [leave, dropOp, hmod, tcMod_tcPut _ _ _ _ hne, perfOf_sb, perfOf_with_sb]

/-- The completion of a started vector operation is its departure. -/
theorem exec_operationComplete_of_vector (htc : tc < 192) (hf : (tcAt s tc).sb.find? (fun p => decide (p.tag = tag)) = some o)
    (hp : engPath o.eng = 3) (hst : o.started = true) :
    exec (.operationComplete tc tag fl) s = .next (setFlaws [] (tcPut s tc (perfOf o { tcAt s tc with
      sb := (tcAt s tc).sb.filter fun p => decide (p.tag ≠ tag) }))) := by
  have htag : o.tag = tag := by simpa using List.find?_some hf
  have hdrly : o.eng ≠ .drly := by
    intro h
    simp [h, engPath] at hp
  have hat : tcAt (setFlaws fl s) tc = tcAt s tc := rfl
  have hrun : operationCompleteEffect tc tag (setFlaws fl s) = leave tc o (setFlaws fl s) := by
    simp [operationCompleteEffect, hat, hf, hst, hdrly, hp, behindHeld]
  have hsb : (tcAt (setFlaws fl s) tc).sb ≠ [] := List.ne_nil_of_mem (List.mem_of_find?_eq_some hf)
  show onUnit (okTc tc) (withFlaws fl (operationCompleteEffect tc tag) s) = _
  rw [withFlaws, hrun, leave_eq hsb, okTc, decide_eq_true htc, htag]
  rfl

/-! Accumulator operations -/

theorem engPath_of_isAccOp {e : EngOp} (h : isAccOp e = true) : engPath e = 1 ∨ engPath e = 2 := by
  cases e <;> simp_all [isAccOp, engPath]

theorem performAcc_sb (o : Op) (c : TCore) : (performAcc o c).sb = c.sb := by
  unfold performAcc
  split <;> rfl

/-- Replacing an operation's entry does not outlast its departure. -/
theorem filter_setOp_sb (c : TCore) (p : Op) :
    ((setOp c p).sb.filter fun q => decide (q.tag ≠ p.tag)) = c.sb.filter fun q => decide (q.tag ≠ p.tag) := by
  simp only [setOp]
  induction c.sb with
  | nil => rfl
  | cons q l ih => by_cases h : q.tag = p.tag <;> simp_all

/-- An accumulator operation with none before it acts by itself (R71). -/
theorem completeMatrix_of_first (hf : (tcAt s tc).sb.find? (fun p => decide (p.tag = o.tag)) = some o) (ha : isAccOp o.eng = true)
    (hst : o.started = true) (hpf : o.performed = false) (hold : ∀ p ∈ olderOps (tcAt s tc) o, isAccOp p.eng = false) :
    completeMatrix tc o s = leave tc o (tcPut s tc (setOp (performAcc o (tcAt s tc)) { o with performed := true })) := by
  have hacc : accUpTo (tcAt s tc) o = [o] := by
    have hnone : (olderOps (tcAt s tc) o).filter (fun p => isAccOp p.eng) = [] := by simpa using hold
    simp [accUpTo, List.filter_append, hnone, ha]
  simp [completeMatrix, ha, hacc, hst, performOnce, hf, hpf]

theorem exec_operationComplete_of_accumulator (htc : tc < 192) (hf : (tcAt s tc).sb.find? (fun p => decide (p.tag = tag)) = some o)
    (ha : isAccOp o.eng = true) (hst : o.started = true) (hpf : o.performed = false)
    (hold : ∀ p ∈ olderOps (tcAt s tc) o, isAccOp p.eng = false) :
    exec (.operationComplete tc tag fl) s = .next (setFlaws [] (tcPut s tc (perfOf o { performAcc o (tcAt s tc) with
      sb := (tcAt s tc).sb.filter fun p => decide (p.tag ≠ tag) }))) := by
  obtain rfl : o.tag = tag := by simpa using List.find?_some hf
  have hdrly : o.eng ≠ .drly := by
    intro h
    simp [h, isAccOp] at ha
  have hat : tcAt (setFlaws fl s) tc = tcAt s tc := rfl
  have hsb : (setOp (performAcc o (tcAt s tc)) { o with performed := true }).sb ≠ [] := by
    simpa [setOp, performAcc_sb] using List.ne_nil_of_mem (List.mem_of_find?_eq_some hf)
  have hrun : operationCompleteEffect tc o.tag (setFlaws fl s) = completeMatrix tc o (setFlaws fl s) := by
    rcases engPath_of_isAccOp ha with hp | hp <;>
      simp [operationCompleteEffect, hat, hf, hst, hdrly, hp, behindHeld]
  have hleave : leave tc o (tcPut (setFlaws fl s) tc (setOp (performAcc o (tcAt s tc)) { o with performed := true })) =
      tcPut (setFlaws fl s) tc (perfOf o { performAcc o (tcAt s tc) with
        sb := (tcAt s tc).sb.filter fun p => decide (p.tag ≠ o.tag) }) := by
    have hput := tcAt_put (setFlaws fl s) tc _ (ne_default_of_sb hsb)
    rw [leave_eq (by rwa [hput]), hput, tcPut_tcPut _ _ _ _ (ne_default_of_sb hsb),
      filter_setOp_sb _ { o with performed := true }, performAcc_sb]
    rfl
  show onUnit (okTc tc) (withFlaws fl (operationCompleteEffect tc o.tag) s) = _
  rw [withFlaws, hrun, completeMatrix_of_first (s := setFlaws fl s) hf ha hst hpf hold, hat, hleave, okTc, decide_eq_true htc]
  rfl

end Engine

end Sys2Proof.Machine
end

section
/-! SUPPORT. Elements written one after the other: what a fold of writes leaves, the elements of a region, the bytes of an element. -/

namespace Sys2Proof.Machine

open Sys2Proof

/-- A fold of writes of which one sets what `rd` reads to `v`, and none takes it away again. -/
theorem foldl_reads {σ α β : Type} {w : σ → α → σ} {rd : σ → β} {v : β} {P : σ → Prop} {x : α} (hset : ∀ u, P u → rd (w u x) = v) :
    ∀ (l : List α) (u : σ), (∀ u, P u → ∀ y ∈ l, P (w u y)) → (∀ u, P u → ∀ y ∈ l, rd u = v → rd (w u y) = v) → P u →
      (x ∈ l ∨ rd u = v) → rd (l.foldl w u) = v
  | [], _, _, _, _, h => by simpa using h
  | y :: l, u, hP, hkeep, hu, h => by
    refine foldl_reads hset l (w u y) (fun u hu z hz => hP u hu z (List.mem_cons_of_mem _ hz))
      (fun u hu z hz => hkeep u hu z (List.mem_cons_of_mem _ hz)) (hP u hu y List.mem_cons_self) ?_
    rcases h with h | h
    · rcases List.mem_cons.1 h with rfl | h
      · exact .inr (hset u hu)
      · exact .inl h
    · exact .inr (hkeep u hu y List.mem_cons_self h)

theorem mem_places {rows cols i j : Nat} : (i, j) ∈ places rows cols ↔ i < rows ∧ j < cols := by
  simp [places, mem_upto]

/-! The accumulator MLDA loads (R74) -/

theorem accKey_inj {i j k l : Nat} (hj : j < 128) (hl : l < 128) : accKey i j = accKey k l ↔ i = k ∧ j = l := by
  simp only [accKey]
  omega

theorem foldl_zip_map {σ α β : Type} (f : α → β) (w : σ → α × β → σ) :
    ∀ (l : List α) (u : σ), (l.zip (l.map f)).foldl w u = l.foldl (fun u x => w u (x, f x)) u
  | [], _ => rfl
  | _ :: l, _ => foldl_zip_map f w l _

/-- MLDA's accumulator, element by element. -/
theorem accLoad_el (r : Region) (src : Tab Byte) :
    (accLoad r (regionElems src r)).el = (places r.rows r.cols).foldl
      (fun m e => tset 0 m (accKey e.1 e.2) (BitVec.ofNat 32 (elemGet src r e.1 e.2))) [] :=
  foldl_zip_map (fun e : Nat × Nat => elemGet src r e.1 e.2)
    (fun m e => tset 0 m (accKey e.1.1 e.1.2) (BitVec.ofNat 32 e.2)) (places r.rows r.cols) []

theorem accLoad_inside {r : Region} {src : Tab Byte} (hc : r.cols ≤ 128) {i j : Nat} (hi : i < r.rows) (hj : j < r.cols) :
    tget 0 (accLoad r (regionElems src r)).el (accKey i j) = BitVec.ofNat 32 (elemGet src r i j) := by
  rw [accLoad_el]
  refine foldl_reads (rd := fun m : Tab W32 => tget 0 m (accKey i j)) (x := (i, j)) (P := fun m => twf 0 m = true) (fun u hu => tget_tset_wf _ _ _ _ hu) _ _
    (fun u hu y _ => twf_tset _ _ _ _ hu) ?_ (twf_nil _) (.inl (mem_places.2 ⟨hi, hj⟩))
  rintro u hu ⟨k, l⟩ hy hr
  have hl : l < 128 := Nat.lt_of_lt_of_le (mem_places.1 hy).2 hc
  by_cases hkey : accKey i j = accKey k l
  · obtain ⟨rfl, rfl⟩ := (accKey_inj (by omega) hl).1 hkey
    exact tget_tset_wf _ _ _ _ hu
  · rw [tget_tset_ne _ _ _ _ hkey, hr]

theorem accLoad_outside {r : Region} {src : Tab Byte} (hc : r.cols ≤ 128) {i j : Nat} (hj : j < 128) (ho : r.rows ≤ i ∨ r.cols ≤ j) :
    tget 0 (accLoad r (regionElems src r)).el (accKey i j) = 0 := by
  rw [accLoad_el]
  refine List.foldlRecOn (motive := fun m => tget 0 m (accKey i j) = 0) _ _ rfl ?_
  rintro m hm ⟨k, l⟩ hy
  obtain ⟨hk, hl⟩ := mem_places.1 hy
  have hkey : accKey i j ≠ accKey k l := fun h => by
    have := (accKey_inj hj (Nat.lt_of_lt_of_le hl hc)).1 h
    omega
  rw [tget_tset_ne _ _ _ _ hkey, hm]

end Sys2Proof.Machine
end

section
/-! PROOFS. MLDA and MZERO (R57, R74). -/

namespace Sys2Proof.Machine

open Sys2Proof

/-- MZERO with a type and no other operand passes its check (R515), and sets the type after every issued operation (R70). -/
theorem issueMzero_of_room {tc m : Nat} {s : State} (hm : m ≤ 1) (hr : roomFor (tcAt s tc) .mzero = true) :
    issueMzero tc m 0 0 0 0 s = .next (enter tc (plainOp .mzero m 0) (tcMod s tc fun c => { c with accIntIssue := decide (m = 1) })) := by
  have hc : decide (1 < m) = false := by simpa using hm
  simp [issueMzero, checked, lowestCause, hc, hr]

theorem issueMzero_of_type {tc m : Nat} {s : State} (hm : 1 < m) : issueMzero tc m 0 0 0 0 s = .fault 1 := by
  simp [issueMzero, checked, lowestCause, hm]

/-- The issue of MZERO on a core that runs an item: its three writes of the core are one. -/
theorem retire_enter_mzero {tc n m : Nat} {s : State} (hitem : (tcAt s tc).item = some n) :
    retire tc ((tcAt s tc).pc + BitVec.ofNat 64 4)
      (enter tc (plainOp .mzero m 0) (tcMod s tc fun c => { c with accIntIssue := decide (m = 1) })) =
    tcPut s tc (onward 4 (entered (plainOp .mzero m 0) { tcAt s tc with accIntIssue := decide (m = 1) })) := by
  have htyped : { tcAt s tc with accIntIssue := decide (m = 1) } ≠ ({} : TCore) := ne_default_of_item hitem
  have hentered : entered (plainOp .mzero m 0) { tcAt s tc with accIntIssue := decide (m = 1) } ≠ {} := ne_default_of_item hitem
  show retire tc _ (enter tc _ (tcPut s tc { tcAt s tc with accIntIssue := decide (m = 1) })) = _
  rw [enter_tcPut _ htyped]
  exact retire_tcPut hentered

/-- Settles O17: a start off the DMA path is `startOp`, an accumulator operation with none before it completes alone, and MLDA's elements
have keys of their own. -/
theorem mldaAndMzeroSetTheAccumulator : Obligations.MldaAndMzeroSetTheAccumulator := by
  refine ⟨?mldaStart, ?mldaComplete, ?mzeroComplete, ?mzeroIssue, ?mzeroType⟩
  case mldaStart =>
    rintro tc tag fl _ o s htc rfl hf he hc hi
    rw [exec_operationStart_of_canStart htc hf hc hi (by simp [he, engPath])]
    simp [startOp, startRequest, bankOfOp, bankOf, startMatrix, engPath, bankRequest, he]
  case mldaComplete =>
    rintro tc tag fl _ o _ src s htc rfl hf he hst hpf hold rfl hcols hbuf
    refine ⟨accLoad (regionOf o.qa) (regionElems src (regionOf o.qa)), rfl, rfl, fun i j hi hj => accLoad_inside hcols hi hj,
      fun i j hj ho => accLoad_outside hcols hj ho, ?_⟩
    rw [exec_operationComplete_of_accumulator htc hf (by simp [he, isAccOp]) hst hpf hold]
    simp only [performAcc, he, hbuf]
  case mzeroComplete =>
    rintro tc tag fl _ o s htc rfl hf he hst hpf hold
    rw [exec_operationComplete_of_accumulator htc hf (by simp [he, isAccOp]) hst hpf hold]
    simp only [performAcc, he]
  case mzeroIssue =>
    rintro tc n it m _ s hrdy rfl hm hroom
    show onUnit (okTc tc) (pacerRun tc _ 4 (fun _ => issueMzero tc m.toNat 0 0 0 0) s) = _
    rw [pacerRun_of_next hrdy (issueMzero_of_room hm hroom), retire_enter_mzero hrdy.2.1, okTc, decide_eq_true hrdy.1, onUnit_true]
  case mzeroType =>
    rintro tc n it m s hrdy hm
    show onUnit (okTc tc) (pacerRun tc _ 4 (fun _ => issueMzero tc m.toNat 0 0 0 0) s) = _
    rw [pacerRun_of_fault hrdy (issueMzero_of_type hm), okTc, decide_eq_true hrdy.1, onUnit_true]

end Sys2Proof.Machine
end

section
/-! SUPPORT. The bytes of an element of a byte or more: where they lie in a region's footprint, and what a copied element leaves (R53). -/

namespace Sys2Proof.Machine

open Sys2Proof

theorem tbytes_length (t : Tab Byte) : ∀ n a, (tbytes t a n).length = n
  | 0, _ => rfl
  | n + 1, a => by simp [tbytes, tbytes_length t n]

theorem tbytes_congr {t u : Tab Byte} : ∀ n a, (∀ k, a ≤ k → k < a + n → tget 0 t k = tget 0 u k) → tbytes t a n = tbytes u a n
  | 0, _, _ => rfl
  | n + 1, a, h => by
    rw [tbytes, tbytes, h a (Nat.le_refl _) (by omega), tbytes_congr n (a + 1) fun k _ _ => h k (by omega) (by omega)]

/-- Bytes written to a memory in canonical form are read back. -/
theorem tbytes_tputs : ∀ (l : List Byte) (t : Tab Byte) (a : Nat), twf 0 t = true → tbytes (tputs t a l) a l.length = l
  | [], _, _, _ => rfl
  | b :: l, t, a, h => by
    have hw := twf_tset 0 b t a h
    rw [List.length_cons, tputs, tbytes, tbytes_tputs l _ _ hw, tget_tputs_outside _ _ _ _ (by omega), tget_tset_wf _ _ _ _ h]

theorem leBytes_leNat : ∀ l : List Byte, leBytes l.length (leNat l) = l
  | [] => rfl
  | b :: l => by
    have hb := b.isLt
    have hdiv : (b.toNat + 256 * leNat l) / 256 = leNat l := by omega
    have hlow : BitVec.ofNat 8 (b.toNat + 256 * leNat l) = b := BitVec.eq_of_toNat_eq (by simp; omega)
    rw [List.length_cons, leNat, leBytes, hdiv, hlow, leBytes_leNat l]

theorem fmtBits_eq_mul {f : Nat} (h : 8 ≤ fmtBits f) : fmtBits f = 8 * elemBytes f := by
  unfold elemBytes fmtBits at *
  split_ifs at * <;> omega

theorem putElems_map (r : Region) (f : Nat × Nat → Nat) :
    ∀ (es : List (Nat × Nat)) (t : Tab Byte), putElems r es (es.map f) t = es.foldl (fun u e => elemPut u r e.1 e.2 (f e)) t
  | [], _ => rfl
  | _ :: es, _ => putElems_map r f es _

section Region
variable {a d : Region} {t u : Tab Byte} {i j k l : Nat} (hw : 8 ≤ fmtBits d.fmt)
include hw

theorem elemGet_eq_leNat : elemGet t d i j = leNat (tbytes t (elemAddr d i j) (elemBytes d.fmt)) := by
  have hlen : fmtBits d.fmt / 8 = elemBytes d.fmt := by have := fmtBits_eq_mul hw; omega
  simp [elemGet, hlen, Nat.not_lt.2 hw]

/-- An element written with the code of one of the same format has that one's bytes. -/
theorem elemPut_elemGet (hf : a.fmt = d.fmt) :
    elemPut t d i j (elemGet u a k l) = tputs t (elemAddr d i j) (tbytes u (elemAddr a k l) (elemBytes d.fmt)) := by
  have hlen : fmtBits d.fmt / 8 = elemBytes d.fmt := by have := fmtBits_eq_mul hw; omega
  have hle := leBytes_leNat (tbytes u (elemAddr a k l) (elemBytes d.fmt))
  rw [tbytes_length] at hle
  rw [elemGet_eq_leNat (hf ▸ hw), hf]
  simp [elemPut, hlen, Nat.not_lt.2 hw, hle]

theorem elemAddr_eq : elemAddr d i j = d.base * 128 + i * d.pitch * 128 + j * elemBytes d.fmt := by
  have h : j * fmtBits d.fmt = 8 * (j * elemBytes d.fmt) := by rw [fmtBits_eq_mul hw, Nat.mul_left_comm]
  simp only [elemAddr, h]
  omega

theorem elem_within_row (hj : j < d.cols) : j * elemBytes d.fmt + elemBytes d.fmt ≤ rowSize d := by
  have hrow : d.cols * fmtBits d.fmt = 8 * (d.cols * elemBytes d.fmt) := by rw [fmtBits_eq_mul hw, Nat.mul_left_comm]
  have hcol : (j + 1) * elemBytes d.fmt ≤ d.cols * elemBytes d.fmt := Nat.mul_le_mul_right _ hj
  rw [Nat.succ_mul] at hcol
  simp only [rowSize, hrow]
  omega

theorem elem_within_footprint (hi : i < d.rows) (hj : j < d.cols) :
    footLo d ≤ elemAddr d i j ∧ elemAddr d i j + elemBytes d.fmt ≤ footHi d := by
  have hrow := elem_within_row hw hj
  have hbase : i * d.pitch ≤ (d.rows - 1) * d.pitch := Nat.mul_le_mul_right _ (by omega)
  simp only [elemAddr_eq hw, footLo, footHi]
  omega

/-- Rows do not run into each other. -/
theorem elem_before_next_row (he : extentOk d = true) (hik : i < k) (hk : k < d.rows) (hj : j < d.cols) :
    elemAddr d i j + elemBytes d.fmt ≤ elemAddr d k l := by
  have hrow := elem_within_row hw hj
  have hpitch : rowSize d ≤ d.pitch * 128 := by
    have : d.rows ≠ 1 := by omega
    simp only [extentOk, this, decide_false, Bool.false_or, Bool.and_eq_true, decide_eq_true_eq] at he
    exact he.1
  have hbase : (i + 1) * d.pitch ≤ k * d.pitch := Nat.mul_le_mul_right _ hik
  rw [Nat.succ_mul] at hbase
  simp only [elemAddr_eq hw]
  omega

theorem elem_before_next_col (hjl : j < l) : elemAddr d i j + elemBytes d.fmt ≤ elemAddr d i l := by
  have hcol : (j + 1) * elemBytes d.fmt ≤ l * elemBytes d.fmt := Nat.mul_le_mul_right _ hjl
  rw [Nat.succ_mul] at hcol
  simp only [elemAddr_eq hw]
  omega

theorem elems_apart (he : extentOk d = true) (hi : i < d.rows) (hj : j < d.cols) (hk : k < d.rows) (hl : l < d.cols)
    (hne : (i, j) ≠ (k, l)) : elemAddr d i j + elemBytes d.fmt ≤ elemAddr d k l ∨ elemAddr d k l + elemBytes d.fmt ≤ elemAddr d i j := by
  rcases Nat.lt_trichotomy i k with h | rfl | h
  · exact .inl (elem_before_next_row hw he h hk hj)
  · rcases Nat.lt_trichotomy j l with h | rfl | h
    · exact .inl (elem_before_next_col hw h)
    · exact absurd rfl hne
    · exact .inr (elem_before_next_col hw h)
  · exact .inr (elem_before_next_row hw he h hi hl)

/-- A copied element is read back. -/
theorem elemGet_elemPut_self (hf : a.fmt = d.fmt) (ht : twf 0 t = true) :
    elemGet (elemPut t d i j (elemGet u a k l)) d i j = elemGet u a k l := by
  have hback := tbytes_tputs (tbytes u (elemAddr a k l) (elemBytes d.fmt)) t (elemAddr d i j) ht
  rw [tbytes_length] at hback
  rw [elemPut_elemGet hw hf, elemGet_eq_leNat hw, hback, elemGet_eq_leNat (hf ▸ hw), hf]

/-- A copied element leaves every other element of its region. -/
theorem elemGet_elemPut_ne {m n : Nat} (hf : a.fmt = d.fmt) (he : extentOk d = true) (hi : i < d.rows) (hj : j < d.cols) (hm : m < d.rows)
    (hn : n < d.cols) (hne : (i, j) ≠ (m, n)) : elemGet (elemPut t d m n (elemGet u a k l)) d i j = elemGet t d i j := by
  have hapart := elems_apart hw he hi hj hm hn hne
  rw [elemPut_elemGet hw hf, elemGet_eq_leNat hw, elemGet_eq_leNat hw]
  refine congrArg leNat (tbytes_congr _ _ fun p hlo hhi => tget_tputs_outside _ _ _ _ ?_)
  rw [tbytes_length]
  omega

end Region

end Sys2Proof.Machine
end

section
/-! PROOFS. VTRN (R57, R86): its statement fails where tile memory lists a byte twice, and holds where it is in canonical form. -/

namespace Sys2Proof.Machine

open Sys2Proof

/-- Tile memory behind a VTRN of qa to qd. -/
def transposed (t : Tab Byte) (a d : Region) : Tab Byte := regionPut t d ((places d.rows d.cols).map fun e => elemGet t a e.2 e.1)

theorem transposed_eq_foldl (t : Tab Byte) (a d : Region) :
    transposed t a d = (places d.rows d.cols).foldl (fun u e => elemPut u d e.1 e.2 (elemGet t a e.2 e.1)) t :=
  putElems_map d (fun e => elemGet t a e.2 e.1) _ _

section Start
variable {s : State} {tc tag : Nat} {fl : List (Nat × Bool)} {o : Op}

/-- VTRN's start, whatever the form of tile memory. -/
theorem exec_operationStart_vtrn (htc : tc < 192) (hf : (tcAt s tc).sb.find? (fun p => decide (p.tag = tag)) = some o)
    (he : o.eng = .vtrn) (hc : canStart (tcAt s tc) o = true) (hi : issuing s = true) :
    exec (.operationStart tc tag fl) s = .next (setFlaws [] (tcPut s tc
      (setOp { bankRequest 3 (tcAt s tc) with tile := transposed (tcAt s tc).tile (regionOf o.qa) (regionOf o.qd) }
        { o with started := true, readDone := true }))) := by
  rw [exec_operationStart_of_canStart htc hf hc hi (by simp [he, engPath])]
  simp [startOp, startRequest, bankOfOp, bankOf, startVector, engPath, bankRequest, transposed, he]

end Start

/-! With tile memory in canonical form -/

section Canonical
variable {t : Tab Byte} {a d : Region} (hw : 8 ≤ fmtBits d.fmt) (hf : a.fmt = d.fmt)
include hw hf

/-- No byte outside qd's footprint is written. -/
theorem transposed_outside {k : Nat} (hk : k < footLo d ∨ footHi d ≤ k) : tget 0 (transposed t a d) k = tget 0 t k := by
  rw [transposed_eq_foldl]
  refine List.foldlRecOn (motive := fun u => tget 0 u k = tget 0 t k) _ _ rfl ?_
  rintro u hu ⟨i, j⟩ he
  obtain ⟨hi, hj⟩ := mem_places.1 he
  obtain ⟨hlo, hhi⟩ := elem_within_footprint hw hi hj
  dsimp only
  rw [elemPut_elemGet hw hf, tget_tputs_outside _ _ _ _ (by rw [tbytes_length]; omega), hu]

/-- Element (j, i) of qd is element (i, j) of qa as it was before the first write (log 151). -/
theorem elemGet_transposed (hx : extentOk d = true) (hwf : twf 0 t = true) {i j : Nat} (hi : i < d.cols) (hj : j < d.rows) :
    elemGet (transposed t a d) d j i = elemGet t a i j := by
  rw [transposed_eq_foldl]
  refine foldl_reads (rd := fun u => elemGet u d j i) (x := (j, i)) (P := fun u => twf 0 u = true) ?_ _ _ ?_ ?_ hwf
    (.inl (mem_places.2 ⟨hj, hi⟩))
  · exact fun u hu => elemGet_elemPut_self hw hf hu
  · rintro u hu ⟨k, l⟩ -
    rw [elemPut_elemGet hw hf]
    exact twf_tputs _ _ _ hu
  · rintro u hu ⟨k, l⟩ hy hr
    obtain ⟨hk, hl⟩ := mem_places.1 hy
    by_cases hsame : (j, i) = (k, l)
    · cases hsame
      exact elemGet_elemPut_self hw hf hu
    · rw [elemGet_elemPut_ne hw hf hx hj hi hk hl hsame, hr]

end Canonical

/-- What O19 says of VTRN's start, under the premise it lacks: tile memory in canonical form. Its other clause stands as it is
(`exec_operationComplete_of_vector`). -/
theorem exec_operationStart_vtrn_of_twf {tc tag : Nat} {fl : List (Nat × Bool)} {o : Op} {a d : Region} {s : State} (htc : tc < 192)
    (hfind : (tcAt s tc).sb.find? (fun p => decide (p.tag = tag)) = some o) (he : o.eng = .vtrn) (hc : canStart (tcAt s tc) o = true)
    (hi : issuing s = true) (ha : a = regionOf o.qa) (hd : d = regionOf o.qd) (hx : extentOk d = true) (hf : a.fmt = d.fmt)
    (hw : 8 ≤ fmtBits d.fmt) (hrows : d.rows = a.cols) (hcols : d.cols = a.rows) (hwf : twf 0 (tcAt s tc).tile = true) :
    ∃ t : Tab Byte,
      (∀ i j, i < a.rows → j < a.cols → elemGet t d j i = elemGet (tcAt s tc).tile a i j) ∧
      (∀ k, (k < footLo d ∨ footHi d ≤ k) → tget 0 t k = tget 0 (tcAt s tc).tile k) ∧
      exec (.operationStart tc tag fl) s = .next (setFlaws [] (tcPut s tc (setOp { bankRequest 3 (tcAt s tc) with tile := t } { o with
        started := true, readDone := true }))) := by
  refine ⟨transposed (tcAt s tc).tile a d, fun i j hi' hj => ?_, fun k hk => transposed_outside hw hf hk, ?_⟩
  · exact elemGet_transposed hw hf hx hwf (hcols ▸ hi') (hrows ▸ hj)
  · rw [exec_operationStart_vtrn htc hfind he hc hi, ha, hd]

/-! With a byte listed twice -/

/-- Cores that leave the same outcome are the same. -/
theorem core_eq_of_next {s : State} {n : Nat} {c d : TCore} (hc : c ≠ {}) (hd : d ≠ {})
    (h : (.next (setFlaws [] (tcPut s n c)) : Host.Outcome State Fault Refusal) = .next (setFlaws [] (tcPut s n d))) : c = d := by
  have hput := congrArg (fun u => tcAt u n) (Host.Outcome.next.inj h)
  exact (tcAt_put _ _ _ hc).symm.trans (hput.trans (tcAt_put _ _ _ hd))

/-- VTRN of the one INT8 element at byte 128, which is 0, to byte 0. -/
def zeroVtrn : Op := { plainOp .vtrn 0 0 with qa := 0x20010000000001, qd := 0x20010000000000 }

/-- Core 0's tile memory lists byte 0 twice: to write 0 there drops the first entry and uncovers the second. -/
def twiceListed : State := { tcs := [(0, { sb := [zeroVtrn], tile := [(0, 1), (0, 2)] })] }

/-- Refutes O19: no premise puts tile memory in canonical form. Where it lists a byte twice, the 0 that VTRN writes over it is read as the
entry behind. -/
theorem not_vtrnWritesTheTranspose : ¬ Obligations.VtrnWritesTheTranspose := by
  rintro ⟨hstart, -⟩
  have hfind : (tcAt twiceListed 0).sb.find? (fun p => decide (p.tag = 0)) = some zeroVtrn := rfl
  have hcan : canStart (tcAt twiceListed 0) zeroVtrn = true := rfl
  obtain ⟨t, helem, -, hexec⟩ := hstart 0 0 [] (tcAt twiceListed 0) zeroVtrn (regionOf zeroVtrn.qa) (regionOf zeroVtrn.qd) twiceListed
    (by decide) rfl hfind rfl hcan rfl rfl rfl (by decide) (by decide) (by decide) (by decide) (by decide) (by decide)
  rw [exec_operationStart_vtrn (by decide) hfind rfl hcan rfl] at hexec
  have htile : transposed (tcAt twiceListed 0).tile (regionOf zeroVtrn.qa) (regionOf zeroVtrn.qd) = t :=
    congrArg TCore.tile (core_eq_of_next (ne_default_of_sb (List.cons_ne_nil _ _)) (ne_default_of_sb (List.cons_ne_nil _ _)) hexec)
  have hzero : elemGet t (regionOf zeroVtrn.qd) 0 0 = elemGet (tcAt twiceListed 0).tile (regionOf zeroVtrn.qa) 0 0 :=
    helem 0 0 (by decide) (by decide)
  rw [← htile] at hzero
  exact absurd hzero (by decide)

end Sys2Proof.Machine
end

section
/-! SUPPORT. What a command can do at all, read off the footprint that Safety.lean lists for it. -/

set_option Elab.async false

namespace Sys2Proof.Machine

open Sys2Proof

/-- The place of a field in the sets of fields that `Did` speaks of. -/
def fieldBit : StateField → Nat
  | .fresh => 1 | .out => 2 | .boot => 3 | .fuse => 4 | .flash => 5 | .faults => 6 | .present => 7 | .links => 8 | .alt => 9 | .pendAlt => 10
  | .obj => 11 | .oct => 12 | .regs => 13 | .tcs => 14 | .items => 15 | .nextAcc => 16 | .rr => 17 | .ctxs => 18 | .queues => 19
  | .cmdStat => 20 | .cmdBusy => 21 | .bindErr => 22 | .ctxBase => 23 | .batons => 24 | .groups => 25 | .slots => 26 | .tb => 27 | .ecl => 28
  | .stu => 29 | .mem => 30 | .mds => 31 | .l2maint => 32 | .coh => 33 | .ports => 34 | .chips => 35 | .rqs => 36 | .cores => 37 | .mtime => 38
  | .pcie => 39 | .sc => 40 | .pwr => 41 | .cla => 42 | .sec => 43 | .routes => 44

/-- A list of fields as a set of places. -/
def fieldSet (l : List StateField) : Nat := l.foldr (fun f w => 2 ^ fieldBit f ||| w) 0

theorem fieldBit_inj {f g : StateField} (h : fieldBit f = fieldBit g) : f = g := by
  have hplace (f : StateField) : StateField.ofNat (fieldBit f - 1) = f := by cases f <;> rfl
  rw [← hplace f, h, hplace]

theorem testBit_fieldSet (f : StateField) : ∀ l : List StateField, (fieldSet l).testBit (fieldBit f) = decide (f ∈ l)
  | [] => by simp [fieldSet]
  | g :: l => by
    have ih := testBit_fieldSet f l
    rw [fieldSet] at ih ⊢
    rw [List.foldr_cons, Nat.testBit_or, ih, Nat.testBit_two_pow]
    by_cases h : f = g
    · simp [h]
    · have hb : fieldBit g ≠ fieldBit f := fun e => h (fieldBit_inj e).symm
      simp [h, hb]

/-- A command writes no field that its footprint does not list. -/
theorem exec_did (c : Instr) (s : State) : ODid (fieldSet (writes c)) s (exec c s) := by
  cases c <;> dsimp only [writes]
  case pwrGoodAssert => exact execPwrGoodAssert_did rfl (.refl s)
  case packageResetRelease => exact execPackageResetRelease_did rfl (.refl s)
  case selfTestComplete => exact execSelfTestComplete_did rfl (.refl s)
  case linkTrainingComplete => exact execLinkTrainingComplete_did rfl (.refl s)
  case discoveryComplete => exact execDiscoveryComplete_did rfl (.refl s)
  case bootCopyComplete => exact execBootCopyComplete_did rfl (.refl s)
  case fatalLineAssert => exact execFatalLineAssert_did rfl (.refl s)
  case fatalReportTimeout => exact execFatalReportTimeout_did rfl (.refl s)
  case resetHoldEnd => exact execResetHoldEnd_did rfl (.refl s)
  case dieBrownout => exact execDieBrownout_did rfl (.refl s)
  case bondErrorDetected => exact execBondErrorDetected_did rfl (.refl s)
  case flitCrcError => exact execFlitCrcError_did rfl (.refl s)
  case heartbeatFlitSend => exact execHeartbeatFlitSend_did rfl (.refl s)
  case heartbeatLoss => exact execHeartbeatLoss_did rfl (.refl s)
  case checkFlitSend => exact execCheckFlitSend_did rfl (.refl s)
  case checkFlitReceived => exact execCheckFlitReceived_did rfl (.refl s)
  case eyeMarginScan => exact execEyeMarginScan_did rfl (.refl s)
  case laneBitLockLost => exact execLaneBitLockLost_did rfl (.refl s)
  case spareTrained => exact execSpareTrained_did rfl (.refl s)
  case linkRetrainDone => exact execLinkRetrainDone_did rfl (.refl s)
  case routeInstallDone => exact execRouteInstallDone_did rfl (.refl s)
  case transactionTimeout => exact execTransactionTimeout_did rfl (.refl s)
  case snoopTimeout => exact execSnoopTimeout_did rfl (.refl s)
  case psetq => exact execPsetq_did rfl (.refl s)
  case pgetq => exact execPgetq_did rfl (.refl s)
  case pqadd => exact execPqadd_did rfl (.refl s)
  case ptag => exact execPtag_did rfl (.refl s)
  case pwait => exact execPwait_did rfl (.refl s)
  case pfence => exact execPfence_did rfl (.refl s)
  case pstat => exact execPstat_did rfl (.refl s)
  case prdop => exact execPrdop_did rfl (.refl s)
  case pdone => exact execPdone_did rfl (.refl s)
  case pperf => exact execPperf_did rfl (.refl s)
  case pbsig => exact execPbsig_did rfl (.refl s)
  case pbwait => exact execPbwait_did rfl (.refl s)
  case psqrd => exact execPsqrd_did rfl (.refl s)
  case psqadv => exact execPsqadv_did rfl (.refl s)
  case pfret => exact execPfret_did rfl (.refl s)
  case pacerLoad => exact execPacerLoad_did rfl (.refl s)
  case pacerStore => exact execPacerStore_did rfl (.refl s)
  case pacerAtomic => exact execPacerAtomic_did rfl (.refl s)
  case pacerScalarOp => exact execPacerScalarOp_did rfl (.refl s)
  case pacerCsrAccess => exact execPacerCsrAccess_did rfl (.refl s)
  case ecall => exact execEcall_did rfl (.refl s)
  case ebreak => exact execEbreak_did rfl (.refl s)
  case mldw => exact execMldw_did rfl (.refl s)
  case mmul => exact execMmul_did rfl (.refl s)
  case mrd => exact execMrd_did rfl (.refl s)
  case mlda => exact execMlda_did rfl (.refl s)
  case mzero => exact execMzero_did rfl (.refl s)
  case vadd => exact execVadd_did rfl (.refl s)
  case vsub => exact execVsub_did rfl (.refl s)
  case vmul => exact execVmul_did rfl (.refl s)
  case vfma => exact execVfma_did rfl (.refl s)
  case vmin => exact execVmin_did rfl (.refl s)
  case vmax => exact execVmax_did rfl (.refl s)
  case vmov => exact execVmov_did rfl (.refl s)
  case vcvt => exact execVcvt_did rfl (.refl s)
  case vceq => exact execVceq_did rfl (.refl s)
  case vclt => exact execVclt_did rfl (.refl s)
  case vcle => exact execVcle_did rfl (.refl s)
  case vfun => exact execVfun_did rfl (.refl s)
  case vred => exact execVred_did rfl (.refl s)
  case vscan => exact execVscan_did rfl (.refl s)
  case vtopk => exact execVtopk_did rfl (.refl s)
  case vcmprs => exact execVcmprs_did rfl (.refl s)
  case vexpd => exact execVexpd_did rfl (.refl s)
  case vrand => exact execVrand_did rfl (.refl s)
  case vtrn => exact execVtrn_did rfl (.refl s)
  case dld => exact execDld_did rfl (.refl s)
  case dst => exact execDst_did rfl (.refl s)
  case dvin => exact execDvin_did rfl (.refl s)
  case dvout => exact execDvout_did rfl (.refl s)
  case dpf => exact execDpf_did rfl (.refl s)
  case drly => exact execDrly_did rfl (.refl s)
  case operationStart => exact execOperationStart_did rfl (.refl s)
  case operationComplete => exact execOperationComplete_did rfl (.refl s)
  case bankStarvationPromote => exact execBankStarvationPromote_did rfl (.refl s)
  case dmaErrorResponse tc fetch => exact execDmaErrorResponse_did (a2 := fetch) rfl (.refl s)
  case fastEventEntry => exact execFastEventEntry_did rfl (.refl s)
  case relayGroupStart => exact execRelayGroupStart_did rfl (.refl s)
  case relayGroupEntryWrite => exact execRelayGroupEntryWrite_did rfl (.refl s)
  case relayGroupBind => exact execRelayGroupBind_did rfl (.refl s)
  case relayContributionAccept => exact execRelayContributionAccept_did rfl (.refl s)
  case relayNodeCombine => exact execRelayNodeCombine_did rfl (.refl s)
  case relayRoundComplete => exact execRelayRoundComplete_did rfl (.refl s)
  case relayResultDeliver => exact execRelayResultDeliver_did rfl (.refl s)
  case sqKeyWrite => exact execSqKeyWrite_did rfl (.refl s)
  case keyChkUpdate => exact execKeyChkUpdate_did rfl (.refl s)
  case sqBind => exact execSqBind_did rfl (.refl s)
  case fsyncEdge => exact execFsyncEdge_did rfl (.refl s)
  case ptpAnnounceReceive => exact execPtpAnnounceReceive_did rfl (.refl s)
  case ptpSyncReceive => exact execPtpSyncReceive_did rfl (.refl s)
  case ptpFollowUpReceive => exact execPtpFollowUpReceive_did rfl (.refl s)
  case ptpDelayReqSend => exact execPtpDelayReqSend_did rfl (.refl s)
  case ptpDelayRespReceive => exact execPtpDelayRespReceive_did rfl (.refl s)
  case tbSourceWrite => exact execTbSourceWrite_did rfl (.refl s)
  case tbStepAccept => exact execTbStepAccept_did rfl (.refl s)
  case rasterWrite => exact execRasterWrite_did rfl (.refl s)
  case releaseTimeReached => exact execReleaseTimeReached_did rfl (.refl s)
  case starterStart => exact execStarterStart_did rfl (.refl s)
  case deadlineReached => exact execDeadlineReached_did rfl (.refl s)
  case reportHardLimit => exact execReportHardLimit_did rfl (.refl s)
  case allowanceRampStep => exact execAllowanceRampStep_did rfl (.refl s)
  case allowanceRecompute => exact execAllowanceRecompute_did rfl (.refl s)
  case eclArm => exact execEclArm_did rfl (.refl s)
  case eclipseMarker => exact execEclipseMarker_did rfl (.refl s)
  case eclipseComplete => exact execEclipseComplete_did rfl (.refl s)
  case contextEnable => exact execContextEnable_did rfl (.refl s)
  case contextTeardown => exact execContextTeardown_did rfl (.refl s)
  case contextTeardownDone => exact execContextTeardownDone_did rfl (.refl s)
  case ctxCmdReserved => exact execCtxCmdReserved_did rfl (.refl s)
  case ctxBaseWrite => exact execCtxBaseWrite_did rfl (.refl s)
  case doorbell => exact execDoorbell_did rfl (.refl s)
  case descriptorRead => exact execDescriptorRead_did rfl (.refl s)
  case descriptorReread => exact execDescriptorReread_did rfl (.refl s)
  case queueResume => exact execQueueResume_did rfl (.refl s)
  case queueSkip => exact execQueueSkip_did rfl (.refl s)
  case itemEnd => exact execItemEnd_did rfl (.refl s)
  case batonOperation => exact execBatonOperation_did rfl (.refl s)
  case batonOpWrite => exact execBatonOpWrite_did rfl (.refl s)
  case batonValueWrite => exact execBatonValueWrite_did rfl (.refl s)
  case batonEvtcondWrite => exact execBatonEvtcondWrite_did rfl (.refl s)
  case batonBind => exact execBatonBind_did rfl (.refl s)
  case ewinWrite => exact execEwinWrite_did rfl (.refl s)
  case pageWalkComplete => exact execPageWalkComplete_did rfl (.refl s)
  case prqWriteError => exact execPrqWriteError_did rfl (.refl s)
  case prqHeadWrite => exact execPrqHeadWrite_did rfl (.refl s)
  case pageResponseRetry => exact execPageResponseRetry_did rfl (.refl s)
  case pageResponseInvalid => exact execPageResponseInvalid_did rfl (.refl s)
  case prqBaseWrite => exact execPrqBaseWrite_did rfl (.refl s)
  case tlbFill => exact execTlbFill_did rfl (.refl s)
  case transferTranslationMiss => exact execTransferTranslationMiss_did rfl (.refl s)
  case invCmdReserved => exact execInvCmdReserved_did rfl (.refl s)
  case clusterInvalidate => exact execClusterInvalidate_did rfl (.refl s)
  case engineInvAck => exact execEngineInvAck_did rfl (.refl s)
  case clusterInvAck => exact execClusterInvAck_did rfl (.refl s)
  case invalidationComplete => exact execInvalidationComplete_did rfl (.refl s)
  case scrubStep => exact execScrubStep_did rfl (.refl s)
  case pgretPop => exact execPgretPop_did rfl (.refl s)
  case channelCandidate => exact execChannelCandidate_did rfl (.refl s)
  case retCmd => exact execRetCmd_did rfl (.refl s)
  case retGo => exact execRetGo_did rfl (.refl s)
  case migrationComplete => exact execMigrationComplete_did rfl (.refl s)
  case partBwWindow => exact execPartBwWindow_did rfl (.refl s)
  case maintClean => exact execMaintClean_did rfl (.refl s)
  case maintInvalidate => exact execMaintInvalidate_did rfl (.refl s)
  case maintCleanInvalidate => exact execMaintCleanInvalidate_did rfl (.refl s)
  case maintZero => exact execMaintZero_did rfl (.refl s)
  case l2MaintClean => exact execL2MaintClean_did rfl (.refl s)
  case l2MaintCleanInvalidate => exact execL2MaintCleanInvalidate_did rfl (.refl s)
  case maintCmdReserved => exact execMaintCmdReserved_did rfl (.refl s)
  case maintComplete => exact execMaintComplete_did rfl (.refl s)
  case ncAccess => exact execNcAccess_did rfl (.refl s)
  case gets => exact execGets_did rfl (.refl s)
  case getm => exact execGetm_did rfl (.refl s)
  case promote => exact execPromote_did rfl (.refl s)
  case look => exact execLook_did rfl (.refl s)
  case putplace => exact execPutplace_did rfl (.refl s)
  case cashome => exact execCashome_did rfl (.refl s)
  case fwds => exact execFwds_did rfl (.refl s)
  case fwdm => exact execFwdm_did rfl (.refl s)
  case inv => exact execInv_did rfl (.refl s)
  case peek => exact execPeek_did rfl (.refl s)
  case flushd => exact execFlushd_did rfl (.refl s)
  case snack => exact execSnack_did rfl (.refl s)
  case sndata => exact execSndata_did rfl (.refl s)
  case grant => exact execGrant_did rfl (.refl s)
  case grantack => exact execGrantack_did rfl (.refl s)
  case nack => exact execNack_did rfl (.refl s)
  case cohRetry => exact execCohRetry_did rfl (.refl s)
  case vacack => exact execVacack_did rfl (.refl s)
  case placeack => exact execPlaceack_did rfl (.refl s)
  case homefill => exact execHomefill_did rfl (.refl s)
  case ownerfill => exact execOwnerfill_did rfl (.refl s)
  case placedata => exact execPlacedata_did rfl (.refl s)
  case vacdata => exact execVacdata_did rfl (.refl s)
  case vacclean => exact execVacclean_did rfl (.refl s)
  case codewordReceive => exact execCodewordReceive_did rfl (.refl s)
  case codewordUncorrectable => exact execCodewordUncorrectable_did rfl (.refl s)
  case sbIdle => exact execSbIdle_did rfl (.refl s)
  case sbAck => exact execSbAck_did rfl (.refl s)
  case sbNak => exact execSbNak_did rfl (.refl s)
  case sbCredit => exact execSbCredit_did rfl (.refl s)
  case sbState => exact execSbState_did rfl (.refl s)
  case sbGoingDown => exact execSbGoingDown_did rfl (.refl s)
  case sbChipEvt => exact execSbChipEvt_did rfl (.refl s)
  case ackSend => exact execAckSend_did rfl (.refl s)
  case creditSend => exact execCreditSend_did rfl (.refl s)
  case stateSend => exact execStateSend_did rfl (.refl s)
  case portHeartbeatLoss => exact execPortHeartbeatLoss_did rfl (.refl s)
  case portTrainAttempt => exact execPortTrainAttempt_did rfl (.refl s)
  case winRd => exact execWinRd_did rfl (.refl s)
  case winWr => exact execWinWr_did rfl (.refl s)
  case winCpl => exact execWinCpl_did rfl (.refl s)
  case put => exact execPut_did rfl (.refl s)
  case putAck => exact execPutAck_did rfl (.refl s)
  case get => exact execGet_did rfl (.refl s)
  case getData => exact execGetData_did rfl (.refl s)
  case relayUp => exact execRelayUp_did rfl (.refl s)
  case relayDown => exact execRelayDown_did rfl (.refl s)
  case unreachable => exact execUnreachable_did rfl (.refl s)
  case boardWindowAccess => exact execBoardWindowAccess_did rfl (.refl s)
  case rqDoorbell => exact execRqDoorbell_did rfl (.refl s)
  case rqResume => exact execRqResume_did rfl (.refl s)
  case rqSkip => exact execRqSkip_did rfl (.refl s)
  case rqCfgWrite => exact execRqCfgWrite_did rfl (.refl s)
  case rqCommandRead => exact execRqCommandRead_did rfl (.refl s)
  case rqCommandStart => exact execRqCommandStart_did rfl (.refl s)
  case rqCommandComplete => exact execRqCommandComplete_did rfl (.refl s)
  case acInstruction => exact execAcInstruction_did rfl (.refl s)
  case cboClean => exact execCboClean_did rfl (.refl s)
  case cboFlush => exact execCboFlush_did rfl (.refl s)
  case cboInval => exact execCboInval_did rfl (.refl s)
  case cboZero => exact execCboZero_did rfl (.refl s)
  case fenceI => exact execFenceI_did rfl (.refl s)
  case imsicSeteipnum => exact execImsicSeteipnum_did rfl (.refl s)
  case mtimerInterrupt => exact execMtimerInterrupt_did rfl (.refl s)
  case pcieInboundRead => exact execPcieInboundRead_did rfl (.refl s)
  case pcieInboundWrite => exact execPcieInboundWrite_did rfl (.refl s)
  case pcieConfigRequest => exact execPcieConfigRequest_did rfl (.refl s)
  case pcieCompletion => exact execPcieCompletion_did rfl (.refl s)
  case epFlushRead => exact execEpFlushRead_did rfl (.refl s)
  case peDiscardsRead => exact execPeDiscardsRead_did rfl (.refl s)
  case pcieLinkChange => exact execPcieLinkChange_did rfl (.refl s)
  case intxAssert => exact execIntxAssert_did rfl (.refl s)
  case intxDeassert => exact execIntxDeassert_did rfl (.refl s)
  case gpirqChange => exact execGpirqChange_did rfl (.refl s)
  case scEvent => exact execScEvent_did rfl (.refl s)
  case scPendSet => exact execScPendSet_did rfl (.refl s)
  case scPendClr => exact execScPendClr_did rfl (.refl s)
  case scSrcCfgWrite source value high => exact execScSrcCfgWrite_did (a3 := high) rfl (.refl s)
  case evqWriteError => exact execEvqWriteError_did rfl (.refl s)
  case railPowerRead => exact execRailPowerRead_did rfl (.refl s)
  case opChangeComplete => exact execOpChangeComplete_did rfl (.refl s)
  case thermalStep => exact execThermalStep_did rfl (.refl s)
  case replanCmd => exact execReplanCmd_did rfl (.refl s)
  case canFrame => exact execCanFrame_did rfl (.refl s)
  case udpDatagram => exact execUdpDatagram_did rfl (.refl s)
  case mailboxDoor => exact execMailboxDoor_did rfl (.refl s)
  case read => exact execRead_did rfl (.refl s)
  case write => exact execWrite_did rfl (.refl s)
  case registerWrite => exact execRegisterWrite_did rfl (.refl s)
  case portTrainingComplete => exact execPortTrainingComplete_did rfl (.refl s)
  case pcieAerPmeMessage p pme => exact execPcieAerPmeMessage_did (a2 := pme) rfl (.refl s)
  case regulatorTimeout => exact execRegulatorTimeout_did rfl (.refl s)
  case capControlStep => exact execCapControlStep_did rfl (.refl s)
  case fastLimiterEngage => exact execFastLimiterEngage_did rfl (.refl s)
  case thermalTrip => exact execThermalTrip_did rfl (.refl s)
  case lapSlackCheck => exact execLapSlackCheck_did rfl (.refl s)
  case replanComplete => exact execReplanComplete_did rfl (.refl s)
  case powerCapWrite => exact execPowerCapWrite_did rfl (.refl s)
  case powerModeWrite => exact execPowerModeWrite_did rfl (.refl s)
  case arpRequest => exact execArpRequest_did rfl (.refl s)
  case icmpEcho => exact execIcmpEcho_did rfl (.refl s)
  case dhcpMessage kind addr secs => exact execDhcpMessage_did (a3 := secs) rfl (.refl s)
  case readSeg => exact execReadSeg_did rfl (.refl s)
  case writeSeg => exact execWriteSeg_did rfl (.refl s)
  case describe => exact execDescribe_did rfl (.refl s)
  case next => exact execNext_did rfl (.refl s)
  case abort => exact execAbort_did rfl (.refl s)
  case serviceUnknown => exact execServiceUnknown_did rfl (.refl s)
  case segmentSessionTimeout => exact execSegmentSessionTimeout_did rfl (.refl s)
  case storeComplete => exact execStoreComplete_did rfl (.refl s)
  case resetCmd => exact execResetCmd_did rfl (.refl s)
  case holdRelease => exact execHoldRelease_did rfl (.refl s)
  case fwUpdateCmd => exact execFwUpdateCmd_did rfl (.refl s)
  case fwUpdateComplete => exact execFwUpdateComplete_did rfl (.refl s)
  case protCommit => exact execProtCommit_did rfl (.refl s)
  case attNonce => exact execAttNonce_did rfl (.refl s)
  case keyLoad => exact execKeyLoad_did rfl (.refl s)
  case debugUnlock => exact execDebugUnlock_did rfl (.refl s)
  case glitchDetected => exact execGlitchDetected_did rfl (.refl s)
  case controllerCheckFailure => exact execControllerCheckFailure_did rfl (.refl s)
  case watchdogExpiry => exact execWatchdogExpiry_did rfl (.refl s)
  case canErrorDetected => exact execCanErrorDetected_did rfl (.refl s)
  case ethLinkChange => exact execEthLinkChange_did rfl (.refl s)
  case dhcpLeaseExpiry => exact execDhcpLeaseExpiry_did rfl (.refl s)
  case debugPortAccess => exact execDebugPortAccess_did rfl (.refl s)
  case pwrGoodDeassert => exact execPwrGoodDeassert_did rfl (.refl s)
  case startThermalClear => exact execStartThermalClear_did rfl (.refl s)
  case discoveryRequest => exact execDiscoveryRequest_did rfl (.refl s)
  case hbmZeroComplete => exact execHbmZeroComplete_did rfl (.refl s)
  case startFailTimeout => exact execStartFailTimeout_did rfl (.refl s)
  case goingDownEnd => exact execGoingDownEnd_did rfl (.refl s)
  case heartbeatCollectionEnd => exact execHeartbeatCollectionEnd_did rfl (.refl s)
  case fsyncTimeout => exact execFsyncTimeout_did rfl (.refl s)
  case ptpSyncTimeout => exact execPtpSyncTimeout_did rfl (.refl s)
  case tbAcqTimeout => exact execTbAcqTimeout_did rfl (.refl s)
  case tbHoldoverExpiry => exact execTbHoldoverExpiry_did rfl (.refl s)
  case frameBoundary => exact execFrameBoundary_did rfl (.refl s)
  case eclipseCapture => exact execEclipseCapture_did rfl (.refl s)
  case eclipseDrainTimeout => exact execEclipseDrainTimeout_did rfl (.refl s)
  case prqWerrClear => exact execPrqWerrClear_did rfl (.refl s)
  case invAll => exact execInvAll_did rfl (.refl s)
  case invVmid => exact execInvVmid_did rfl (.refl s)
  case invAsid => exact execInvAsid_did rfl (.refl s)
  case invRange => exact execInvRange_did rfl (.refl s)
  case invalidationStart => exact execInvalidationStart_did rfl (.refl s)
  case endpointReset => exact execEndpointReset_did rfl (.refl s)
  case normalDelivery => exact execNormalDelivery_did rfl (.refl s)
  case fastDelivery => exact execFastDelivery_did rfl (.refl s)
  case scUnroutedRead => exact execScUnroutedRead_did rfl (.refl s)
  case scFastDroppedRead => exact execScFastDroppedRead_did rfl (.refl s)
  case estimatorRescale => exact execEstimatorRescale_did rfl (.refl s)
  case fastLimiterRelease => exact execFastLimiterRelease_did rfl (.refl s)
  case supplyGuardRelease => exact execSupplyGuardRelease_did rfl (.refl s)
  case replanTimer => exact execReplanTimer_did rfl (.refl s)
  case poweredHour => exact execPoweredHour_did rfl (.refl s)
  case dhcpRetry => exact execDhcpRetry_did rfl (.refl s)
  case heartbeat => exact execHeartbeat_did rfl (.refl s)
  case storeCmd => exact execStoreCmd_did rfl (.refl s)
  case storeDefaults => exact execStoreDefaults_did rfl (.refl s)
  case debugChallengeRead => exact execDebugChallengeRead_did rfl (.refl s)
  case canBusOffRecovery => exact execCanBusOffRecovery_did rfl (.refl s)

theorem Did.memWf {W : Nat} {s t : State} (h : Did W s t) (w : s.memWf = true) : t.memWf = true := by
  obtain ⟨hbm, app⟩ := Bool.and_eq_true_iff.1 w
  exact Bool.and_eq_true_iff.2 ⟨h.hbm hbm, h.app app⟩

/-- A step: the command in front on the state with the queue's rest, or, on an empty queue, a tick, the events that fall due, and service. -/
theorem step_cons {c : Instr} {l : List Instr} {s : State} (h : s.pending = c :: l) : step s = exec c { s with pending := l } := by
  rw [step, h]

theorem step_nil {s : State} (h : s.pending = []) : step s = .next (serveAll (sendEvents (tick s))) := by
  rw [step, h]

/-- Settles O59: what a command can do keeps the form of both memories, whatever fields it writes, and so does the idle step. -/
theorem everyStepKeepsTheMemoryForm : Obligations.EveryStepKeepsTheMemoryForm := by
  intro s t w h
  match hp : s.pending with
  | c :: l =>
    rw [step_cons hp] at h
    exact (ODid.next (exec_did c _) h).memWf w
  | [] =>
    rw [step_nil hp] at h
    cases h
    have htick : Did (2 ^ 45 - 1) s (tick s) := tick_did rfl (.refl s)
    exact (serveAll_did rfl (sendEvents_did rfl htick)).memWf w

end Sys2Proof.Machine
end

section
/-! SUPPORT. What is fused at manufacture, and that burned fuses stay burned (R466, R474): one lemma for each operation that can burn one.
An operation whose `Did` lemma leaves the fuses out keeps them whole. -/

set_option Elab.async false

namespace Sys2Proof.Machine

open Sys2Proof

/-- From s to t the identity of the part stays, the counter only rises, and an erased identity stays erased. -/
structure FuseKept (s t : State) : Prop where
  serial : t.fuse.serial = s.fuse.serial
  mac : t.fuse.mac = s.fuse.mac
  stepping : t.fuse.stepping = s.fuse.stepping
  fwKeyDigest : t.fuse.fwKeyDigest = s.fuse.fwKeyDigest
  debugKeyDigest : t.fuse.debugKeyDigest = s.fuse.debugKeyDigest
  counter : s.fuse.counter ≤ t.fuse.counter
  erased : s.fuse.idErased = true → t.fuse.idErased = true

theorem FuseKept.of_eq {s t : State} (h : t.fuse = s.fuse) : FuseKept s t := by
  constructor <;> simp [h]

theorem FuseKept.refl (s : State) : FuseKept s s := .of_eq rfl

theorem FuseKept.trans {s t u : State} (h : FuseKept s t) (k : FuseKept t u) : FuseKept s u where
  serial := k.serial.trans h.serial
  mac := k.mac.trans h.mac
  stepping := k.stepping.trans h.stepping
  fwKeyDigest := k.fwKeyDigest.trans h.fwKeyDigest
  debugKeyDigest := k.debugKeyDigest.trans h.debugKeyDigest
  counter := Nat.le_trans h.counter k.counter
  erased := fun e => k.erased (h.erased e)

/-- An operation that can do everything but burn a fuse. -/
theorem FuseKept.did {s t u : State} (h : FuseKept s t) (k : Did (but 4) t u) : FuseKept s u :=
  h.trans (.of_eq (k.fuse rfl))

theorem fuseKept_ite {s a b : State} {c : Prop} [Decidable c] (ha : FuseKept s a) (hb : FuseKept s b) : FuseKept s (if c then a else b) := by
  split
  · exact ha
  · exact hb

/-- The same where the state stands last in what is answered, or between the answer and what follows it. -/
theorem fuseKept_ite_last {α : Type} {s : State} {a b : α × State} {c : Prop} [Decidable c] (ha : FuseKept s a.2) (hb : FuseKept s b.2) :
    FuseKept s (if c then a else b).2 := by
  split
  · exact ha
  · exact hb

theorem fuseKept_ite_mid {α β : Type} {s : State} {a b : α × State × β} {c : Prop} [Decidable c] (ha : FuseKept s a.2.1)
    (hb : FuseKept s b.2.1) : FuseKept s (if c then a else b).2.1 := by
  split
  · exact ha
  · exact hb

theorem onlyIf_fuseKept {s a : State} {c : Bool} (ha : FuseKept s a) : FuseKept s (onlyIf c a s) := fuseKept_ite ha (.refl s)

/-! The operations that burn -/

section
variable {s u : State}

theorem sealCommit_fuseKept (h : FuseKept s u) : FuseKept s (sealCommit u) := by
  unfold sealCommit
  extract_lets q b oldFlash fl oldFuse
  refine .did (h.trans ?burn) (protPublish_did rfl (.refl _))
  exact ⟨rfl, rfl, rfl, rfl, rfl, Nat.le_succ _, id⟩

theorem eraseUser_fuseKept (h : FuseKept s u) : FuseKept s (eraseUser u) := by
  unfold eraseUser
  extract_lets t
  have ht : FuseKept s t := h.did (zeroKeys_did rfl (.refl _))
  exact fuseKept_ite ht (fuseKept_ite (sealCommit_fuseKept (ht.did (octSet_did rfl (.refl _)))) (ht.trans (.of_eq rfl)))

theorem eraseIdentity_fuseKept (h : FuseKept s u) : FuseKept s (eraseIdentity u) :=
  h.trans ⟨rfl, rfl, rfl, rfl, rfl, Nat.le_refl _, fun _ => rfl⟩

theorem alarm_fuseKept {code detail : Nat} {early : Bool} (h : FuseKept s u) : FuseKept s (alarm code detail early u) := by
  unfold alarm
  extract_lets policy reset acts t1 oldFlash t2 t3 t4 t5
  have h1 : FuseKept s t1 := h.did (record_did rfl (abandonUpdate_did rfl (.refl _)))
  have h2 : FuseKept s t2 := h1.trans (.of_eq rfl)
  have h3 : FuseKept s t3 := h2.did (scRaise_did rfl (.refl _))
  have h4 : FuseKept s t4 := fuseKept_ite (eraseUser_fuseKept h3) h3
  have h5 : FuseKept s t5 := fuseKept_ite (eraseIdentity_fuseKept h4) h4
  exact fuseKept_ite (h5.did (packageReset_did rfl (.refl _))) h5

theorem readSealed_fuseKept {row : Option Nat} (h : FuseKept s u) : FuseKept s (readSealed row u) := by
  unfold readSealed
  extract_lets oldFuse t v1 v2 erases lost v3 v4
  have ht : FuseKept s t := by
    refine .did (fuseKept_ite ?burn h) (deriveKeys_did rfl (.refl _))
    exact h.trans ⟨rfl, rfl, rfl, rfl, rfl, Nat.le_succ _, id⟩
  have hdef : ∀ v, Did (but 4) t (oset (protDefaults t) 0x5000 1 v) := fun v => oset_did rfl (protDefaults_did rfl (.refl _))
  have h1 : FuseKept s v1 := by
    refine fuseKept_ite (ht.did (hdef 0)) ?_
    split
    · exact ht.did (oset_did rfl (applyBank_did rfl (.refl _)))
    · exact ht.did (hdef 2)
  have h2 : FuseKept s v2 := h1.did (protPublish_did rfl (.refl _))
  have h3 : FuseKept s v3 := by
    cases row with
    | none => exact h2
    | some row => exact alarm_fuseKept h2
  have h4 : FuseKept s v4 := fuseKept_ite (alarm_fuseKept h3) h3
  exact fuseKept_ite h4 (h4.did (loadOdk_did rfl (.refl _)))

theorem packageResetReleaseEffect_fuseKept {m : Bool} {b : BitVec 3} {n : BitVec 7} {row : Option Nat} {pass : Bool} (h : FuseKept s u) :
    FuseKept s (packageResetReleaseEffect m b n row pass u) := by
  unfold packageResetReleaseEffect
  refine fuseKept_ite h ?_
  extract_lets oldBoot t
  have ht : FuseKept s t := h.trans (.of_eq rfl)
  exact fuseKept_ite ((readSealed_fuseKept ht).did (secureBoot_did rfl (.refl _))) ht

theorem discard_fuseKept {p : Phase} (h : FuseKept s u) : FuseKept s (discard p u) :=
  (h.did (abandonUpdate_did rfl (.refl _))).trans (.of_eq rfl)

theorem commitApply_fuseKept (h : FuseKept s u) : FuseKept s (commitApply u) := by
  unfold commitApply
  extract_lets r l release t1 oldFuse t2 t3
  have h1 : FuseKept s t1 := h.did (did_ite (protDefaults_did rfl (.refl _)) (applyEntries_did rfl (.refl _)))
  have h2 : FuseKept s t2 := fuseKept_ite h1 (h1.trans ⟨rfl, rfl, rfl, rfl, rfl, Nat.le_refl _, id⟩)
  have h3 : FuseKept s t3 := (sealCommit_fuseKept h2).did (loadOdk_did rfl (.refl _))
  exact h3.did (secMod_did rfl (oset_did rfl (.refl _)))

theorem protCommitSet_fuseKept {v bankOk : Bool} (h : FuseKept s u) : FuseKept s (protCommitSet v bankOk u) := by
  unfold protCommitSet
  refine fuseKept_ite h ?_
  extract_lets c t1 t2 n t3
  have h1 : FuseKept s t1 := commitApply_fuseKept h
  have h2 : FuseKept s t2 := h.did (oset_did rfl (.refl _))
  have h3 : FuseKept s t3 := h2.did (secMod_did rfl (.refl _))
  exact fuseKept_ite (h1.did (clarynEvent_did rfl (oset_did rfl (.refl _))))
    (fuseKept_ite (fuseKept_ite (alarm_fuseKept h3) h3) h2)

theorem keyLoadSet_fuseKept {l : List Byte} (h : FuseKept s u) : FuseKept s (keyLoadSet l u).2 := by
  unfold keyLoadSet
  extract_lets slot n t
  have ht : FuseKept s t := h.did (secMod_did rfl (.refl _))
  refine fuseKept_ite_last h (fuseKept_ite_last h (fuseKept_ite_last h ?_))
  split
  · exact h
  · split
    · extract_lets hi lo
      dsimp only
      exact h.did (secMod_did rfl (slotWrite_did rfl (slotWrite_did rfl (.refl _))))
    · exact fuseKept_ite (alarm_fuseKept ht) ht

theorem alarmed_fuseKept {code detail : Nat} {early : Bool} (h : FuseKept s u) : FuseKept s (alarmed code detail early u) :=
  fuseKept_ite (h.did (logFault_did rfl (.refl _))) (fuseKept_ite h (alarm_fuseKept h))

theorem controllerFailure_fuseKept {security : Bool} {kind : Nat} (h : FuseKept s u) : FuseKept s (controllerFailure security kind u) :=
  fuseKept_ite (alarmed_fuseKept h) (fuseKept_ite (h.did (fatal_did rfl (.refl _))) h)

theorem debugUnlockEffect_fuseKept {level : Nat} {o d k : List Byte} (h : FuseKept s u) : FuseKept s (debugUnlockEffect level o d k u) := by
  unfold debugUnlockEffect
  extract_lets t1 t2 n t3
  have h1 : FuseKept s t1 := h.did (did_ite (zeroKeys_did rfl (.refl _)) (.refl _))
  have h2 : FuseKept s t2 := h1.did (secMod_did rfl (.refl _))
  have h3 : FuseKept s t3 := h.did (secMod_did rfl (.refl _))
  exact fuseKept_ite (h2.did (clarynEvent_did rfl (.refl _))) (fuseKept_ite (alarm_fuseKept h3) h3)

/-! Claryn's services, which can write the objects that burn -/

theorem objEffect_fuseKept {i j : Nat} {l : List Byte} (h : FuseKept s u) : FuseKept s (objEffect i j l u).2.1 := by
  have hsec : ∀ f, FuseKept s (secMod f u) := fun f => h.did (secMod_did rfl (.refl _))
  unfold objEffect
  extract_lets v plain
  refine fuseKept_ite_mid (h.did (storeSet_did rfl (.refl _))) ?_
  refine fuseKept_ite_mid h (fuseKept_ite_mid h ?_)
  refine fuseKept_ite_mid (h.did (powerCapSet_did rfl (.refl _))) ?_
  refine fuseKept_ite_mid (h.did (powerModeSet_did rfl (.refl _))) ?_
  refine fuseKept_ite_mid (h.did (railFollow_did rfl (oset_did rfl (.refl _)))) ?_
  refine fuseKept_ite_mid (h.did (fixedLapsedSet_did rfl (.refl _))) ?_
  refine fuseKept_ite_mid (h.did (replanCmdSet_did rfl (.refl _))) ?_
  refine fuseKept_ite_mid (by dsimp only [plain]; exact hsec _) ?_
  refine fuseKept_ite_mid (by dsimp only [plain]; exact hsec _) ?_
  refine fuseKept_ite_mid (by dsimp only [plain]; exact hsec _) ?_
  refine fuseKept_ite_mid (protCommitSet_fuseKept (h.did (drawFree_did rfl (.refl _)))) ?_
  refine fuseKept_ite_mid (h.did (attNonceSet_did rfl (.refl _))) ?_
  refine fuseKept_ite_mid (h.did (fwUpdateSet_did rfl (.refl _))) ?_
  refine fuseKept_ite_mid (keyLoadSet_fuseKept h) ?_
  refine fuseKept_ite_mid (h.did (tbSourceSet_did rfl (.refl _))) ?_
  refine fuseKept_ite_mid (h.did (rasterSet_did rfl (.refl _))) ?_
  refine fuseKept_ite_mid (h.did (tbAcceptSet_did rfl (.refl _))) ?_
  refine fuseKept_ite_mid (h.did (ptpDomainSet_did rfl (.refl _))) ?_
  refine fuseKept_ite_mid (h.did (eclArmSet_did rfl (.refl _))) ?_
  split
  · exact h.did (did_ite (octSet_did rfl (.refl _)) (oset_did rfl (.refl _)))
  · exact h

theorem objWrite_fuseKept {i j : Nat} {l : List Byte} (h : FuseKept s u) : FuseKept s (objWrite i j l u).2.1 := by
  unfold objWrite
  split
  · exact h
  · exact fuseKept_ite_mid h (fuseKept_ite_mid h (fuseKept_ite_mid (objEffect_fuseKept h) h))

theorem segment_fuseKept {via : Via} {m : Msg} (h : FuseKept s u) : FuseKept s (segment via m u).2.1 := by
  have hcla : ∀ f, FuseKept s (claMod f u) := fun f => h.did (claMod_did rfl (.refl _))
  unfold segment
  extract_lets key dead
  split
  · exact fuseKept_ite_mid (by dsimp only; exact hcla _) h
  · refine fuseKept_ite_mid (fuseKept_ite_mid (by dsimp only; exact hcla _) h) ?_
    extract_lets n t all r
    refine fuseKept_ite_mid h (fuseKept_ite_mid ?read (fuseKept_ite_mid h (fuseKept_ite_mid ?part ?last)))
    case read => exact h.did (did_ite (dropSess_did rfl (.refl _)) (putSess_did rfl (.refl _)))
    case part => exact h.did (putSess_did rfl (.refl _))
    case last => exact objWrite_fuseKept (h.did (dropSess_did rfl (.refl _)))

theorem respondTo_fuseKept {via : Via} {m : Msg} (h : FuseKept s u) : FuseKept s (respondTo via m u).2.1 := by
  unfold respondTo
  refine fuseKept_ite_mid h (fuseKept_ite_mid h (fuseKept_ite_mid ?next ?object))
  case next => split <;> exact h
  case object =>
    split
    · exact h
    refine fuseKept_ite_mid ?read (fuseKept_ite_mid (objWrite_fuseKept h) (fuseKept_ite_mid h
      (fuseKept_ite_mid ?abort (fuseKept_ite_mid ?first (segment_fuseKept h)))))
    case read => exact fuseKept_ite_mid h (fuseKept_ite_mid h h)
    case abort =>
      split
      · exact fuseKept_ite (h.did (discardSess_did rfl (.refl _))) h
      · exact h
    case first => exact fuseKept_ite_mid (segment_fuseKept (h.did (openSess_did rfl (.refl _)))) h

theorem serveMsg_fuseKept {via : Via} {m : Msg} (h : FuseKept s u) : FuseKept s (serveMsg via m u) := by
  unfold serveMsg
  refine fuseKept_ite h ?_
  extract_lets x t r e
  have ht : FuseKept s t := h.did (ageBit_did rfl (bumpObj_did rfl (.refl _)))
  have hr : FuseKept s r.2.1 := respondTo_fuseKept ht
  have he : FuseKept s e := fuseKept_ite hr (hr.did (keep_did rfl (.refl _)))
  split
  · exact ht.did (sendVia_did rfl (keep_did rfl (.refl _)))
  · exact he.did (respondTo_didf rfl (sendReply_did rfl (.refl _)))

theorem serveFirst_fuseKept (n : Nat) (h : FuseKept s u) : FuseKept s (serveFirst n u) := by
  induction n generalizing u with
  | zero => exact h
  | succ n ih =>
    unfold serveFirst
    split
    · exact h
    · exact ih (serveMsg_fuseKept (h.did (claMod_did rfl (.refl _))))

theorem serveRow_fuseKept (via : Via) (m : Msg) (u : State) : FuseKept u (serveRow via m u) := by
  unfold serveRow
  refine fuseKept_ite (.refl u) (fuseKept_ite (.did (.refl u) (bumpObj_did rfl (.refl _))) ?_)
  split
  · exact serveFirst_fuseKept _ (.refl u)
  · exact serveMsg_fuseKept (fuseKept_ite (serveFirst_fuseKept _ (.refl u)) (.refl u))

end

/-! Commands -/

/-- What a command does to the fuses, if it completes. -/
def OFuse (s : State) (o : Host.Outcome State Fault Refusal) : Prop := ∀ t, o = .next t → FuseKept s t

theorem OFuse.next {s t : State} (h : FuseKept s t) : OFuse s (.next t) := by
  rintro _ ⟨⟩
  exact h

theorem OFuse.onUnit {s t : State} {ok : Bool} (h : FuseKept s t) : OFuse s (onUnit ok t) := by
  cases ok
  · rintro _ ⟨⟩
  · exact .next h

/-- A command whose footprint leaves the fuses out keeps them. -/
theorem OFuse.of_writes {c : Instr} (s : State) (h : StateField.fuse ∉ writes c) : OFuse s (exec c s) := fun _ e =>
  .of_eq ((ODid.next (exec_did c s) e).fuse ((testBit_fieldSet .fuse _).trans (by simpa using h)))

theorem exec_fuseKept (c : Instr) (s : State) : OFuse s (exec c s) := by
  by_cases hw : StateField.fuse ∈ writes c
  · cases c <;> simp only [writes, List.mem_cons, List.not_mem_nil, reduceCtorEq, or_false, or_true, or_self] at hw
    case packageResetRelease => exact .next (packageResetReleaseEffect_fuseKept (.refl s))
    case read | write | readSeg | writeSeg | describe | next | abort => exact .onUnit (serveRow_fuseKept _ _ s)
    case serviceUnknown => exact .onUnit (onlyIf_fuseKept (serveRow_fuseKept _ _ s))
    case protCommit => exact .next (onlyIf_fuseKept (protCommitSet_fuseKept (.refl s)))
    case debugUnlock => exact .next (onlyIf_fuseKept (debugUnlockEffect_fuseKept (.refl s)))
    case glitchDetected => exact .next (alarmed_fuseKept (.refl s))
    case controllerCheckFailure => exact .next (onlyIf_fuseKept (controllerFailure_fuseKept (.refl s)))
    case watchdogExpiry => exact .next (controllerFailure_fuseKept (.refl s))
    case keyLoad => exact .next (onlyIf_fuseKept (keyLoadSet_fuseKept (.refl s)))
    case pwrGoodDeassert => exact .next ((discard_fuseKept (p := .off) (.refl s)).trans (.of_eq rfl))
    case goingDownEnd => exact .next (onlyIf_fuseKept (discard_fuseKept (.refl s)))
  · exact .of_writes s hw

/-- A field whose place is not in the set is as it was. -/
theorem Did.unchanged {W : Nat} {s t : State} (h : Did W s t) : ∀ {f : StateField}, W.testBit (fieldBit f) = false → Unchanged f s t
  | .fresh, e => h.fresh e | .out, e => h.out e | .boot, e => h.boot e | .fuse, e => h.fuse e | .flash, e => h.flash e
  | .faults, e => h.faults e | .present, e => h.present e | .links, e => h.links e | .alt, e => h.alt e | .pendAlt, e => h.pendAlt e
  | .obj, e => h.obj e | .oct, e => h.oct e | .regs, e => h.regs e | .tcs, e => h.tcs e | .items, e => h.items e
  | .nextAcc, e => h.nextAcc e | .rr, e => h.rr e | .ctxs, e => h.ctxs e | .queues, e => h.queues e | .cmdStat, e => h.cmdStat e
  | .cmdBusy, e => h.cmdBusy e | .bindErr, e => h.bindErr e | .ctxBase, e => h.ctxBase e | .batons, e => h.batons e
  | .groups, e => h.groups e | .slots, e => h.slots e | .tb, e => h.tb e | .ecl, e => h.ecl e | .stu, e => h.stu e | .mem, e => h.mem e
  | .mds, e => h.mds e | .l2maint, e => h.l2maint e | .coh, e => h.coh e | .ports, e => h.ports e | .chips, e => h.chips e
  | .rqs, e => h.rqs e | .cores, e => h.cores e | .mtime, e => h.mtime e | .pcie, e => h.pcie e | .sc, e => h.sc e | .pwr, e => h.pwr e
  | .cla, e => h.cla e | .sec, e => h.sec e | .routes, e => h.routes e

/-- Settles O60: what a command can do (`exec_did`) says which fields it leaves, and the fuses are burned by few operations. -/
theorem commandsKeepToTheirFootprint : Obligations.CommandsKeepToTheirFootprint := by
  intro c s t e
  have hdid := ODid.next (exec_did c s) e
  have hfuse := exec_fuseKept c s t e
  exact ⟨fun f hf => hdid.unchanged ((testBit_fieldSet f _).trans (by simpa using hf)), hdid.pending, hdid.counts, hdid.sent, hdid.part,
    hfuse.serial, hfuse.mac, hfuse.stepping, hfuse.fwKeyDigest, hfuse.debugKeyDigest, hfuse.counter, hfuse.erased⟩

end Sys2Proof.Machine
end

section
/-! PROOFS. Every command completes on the units that exist and on no others (R8), and the step takes the command in front. -/

set_option Elab.async false

namespace Sys2Proof.Machine

open Sys2Proof

/-! Commands complete -/

/-- A word's instruction completes on the tensor core that fetched it, and on no other. -/
def RunsOn (tc : Nat) (i : Instr) : Prop := ∀ s : State, ∃ t, runDecoded i s = onUnit (okTc tc) t

theorem custom0_runsOn {tc w : Nat} {i : Instr} (h : custom0 tc w = some i) : RunsOn tc i := by
  unfold custom0 at h
  split at h <;> cases h <;> exact fun _ => ⟨_, rfl⟩

theorem custom1_runsOn {tc w : Nat} {i : Instr} (h : custom1 tc w = some i) : RunsOn tc i := by
  unfold custom1 at h
  split at h <;> cases h <;> exact fun _ => ⟨_, rfl⟩

theorem custom2_runsOn {tc w : Nat} {i : Instr} (h : custom2 tc w = some i) : RunsOn tc i := by
  unfold custom2 at h
  split at h <;> cases h <;> exact fun _ => ⟨_, rfl⟩

theorem custom3_runsOn {tc w : Nat} {i : Instr} (h : custom3 tc w = some i) : RunsOn tc i := by
  unfold custom3 at h
  split at h <;> cases h <;> exact fun _ => ⟨_, rfl⟩

theorem systemWord_runsOn {tc w : Nat} {i : Instr} (h : systemWord tc w = some i) : RunsOn tc i := by
  unfold systemWord at h
  split_ifs at h <;> cases h <;> exact fun _ => ⟨_, rfl⟩

theorem pacerShort_runsOn {tc w : Nat} {i : Instr} (h : pacerShort tc w = some i) : RunsOn tc i := by
  unfold pacerShort at h
  extract_lets at h
  split at h <;> cases h <;> exact fun _ => ⟨_, rfl⟩

theorem pacerLong_runsOn {tc w : Nat} {i : Instr} (h : pacerLong tc w = some i) : RunsOn tc i := by
  unfold pacerLong at h
  split at h
  · cases h
    exact fun _ => ⟨_, rfl⟩
  · cases h
    exact fun _ => ⟨_, rfl⟩
  · cases h
    exact fun _ => ⟨_, rfl⟩
  · exact systemWord_runsOn h
  · exact custom0_runsOn h
  · exact custom1_runsOn h
  · exact custom2_runsOn h
  · exact custom3_runsOn h
  · cases h

theorem pacerInstr_runsOn {tc w : Nat} {i : Instr} (h : pacerInstr tc w = some i) : RunsOn tc i := by
  unfold pacerInstr at h
  split at h
  · exact pacerLong_runsOn h
  · exact pacerShort_runsOn h

theorem execPacerScalarOp_eq_onUnit (tc : Nat) (w : BitVec 32) (s : State) : ∃ t, execPacerScalarOp tc w s = onUnit (okTc tc) t := by
  unfold execPacerScalarOp
  extract_lets res run
  split
  · split
    · next h => exact pacerInstr_runsOn h s
    · exact ⟨_, rfl⟩
  · exact ⟨_, rfl⟩

/-- A command completes exactly where every unit it names exists. -/
theorem exec_eq_onUnit (c : Instr) (s : State) : ∃ t, exec c s = onUnit c.wf t := by
  cases c
  case pacerScalarOp => exact execPacerScalarOp_eq_onUnit _ _ s
  all_goals exact ⟨_, rfl⟩

/-- Settles O57: a command is its effect on a unit that exists (`exec_eq_onUnit`), so its form alone says whether it completes. -/
theorem wellFormedCommandsComplete : Obligations.WellFormedCommandsComplete := by
  intro c s
  obtain ⟨t, ht⟩ := exec_eq_onUnit c s
  rw [ht]
  cases c.wf
  · exact ⟨nofun, fun _ => rfl, fun _ => nofun⟩
  · exact ⟨fun _ => ⟨t, rfl⟩, nofun, fun _ => nofun⟩

/-! The idle step -/

/-- Frame time stands at frame 1, and the message of an event of frame 0 has waited its 10 ms. -/
def eventDue : State := { tb := { now := 0x1000000 }, cla := { events := [⟨0x1100, 1, 0, 0, 0, 0⟩] } }

/-- Refutes O56: with an empty queue, frame time standing and no request waiting the step still sends the event messages whose 10 ms are
over (R446), so one that waits leaves the state. -/
theorem not_stepRunsTheCommandInFront : ¬ Obligations.StepRunsTheCommandInFront := by
  rintro ⟨-, -, hidle, -⟩
  have hstays := Host.Outcome.next.inj (hidle eventDue rfl rfl rfl)
  have hevents : (serveAll (sendEvents (tick eventDue))).cla.events = eventDue.cla.events := congrArg (fun t => t.cla.events) hstays
  exact absurd hevents (by decide)

end Sys2Proof.Machine
end

section
/-! PROOFS. The state before power (R294, R295). -/

set_option Elab.async false

namespace Sys2Proof.Machine

open Sys2Proof

/-- No slot and no group is bound before power, so an entry window reads 0 (R223). -/
theorem ewinRead_reset (c w : Nat) : ewinRead c w State.reset = 0 := by
  have hgroup : ∀ n, groupOf State.reset n c = false := fun n => by
    have hbound : gBound (groupAt State.reset n) = false := show gBound {} = false by decide
    rw [groupOf, hbound, Bool.false_and]
  have hslot : ∀ n, slotBound State.reset n c = false := fun n => by
    have hbound : bit 0 (slotAt State.reset n).ctl = false := show bit 0 ({} : Slot).ctl = false by decide
    rw [slotBound, hbound, Bool.false_and]
  simp [ewinRead, hgroup, hslot]

theorem ctxPageRead_reset (c o : Nat) : ctxPageRead c o State.reset = 0 := by
  have hqueue : ∀ q, hasQueue State.reset c q = false := fun q => rfl
  unfold ctxPageRead
  extract_lets x q k
  simp only [ewinRead_reset, hqueue, Bool.not_false, if_true]
  split_ifs <;> rfl

theorem subRead_reset (o : Nat) : subRead o State.reset = 0 := by
  unfold subRead
  split <;> rfl

theorem stuRead_reset (o : Nat) : stuRead o State.reset = 0 := by
  unfold stuRead
  extract_lets
  split <;> decide

theorem rqRead_reset (n o : Nat) : rqRead n o State.reset = 0 := by
  have hstatus : rqStatus State.reset (rqAt State.reset n) = 0 := show rqStatus State.reset {} = 0 by decide
  unfold rqRead
  extract_lets r
  split
  · rfl
  · rw [hstatus]
    rfl
  · rfl

theorem rqcRead_reset (n o : Nat) : rqcRead n o State.reset = 0 := by
  unfold rqcRead
  extract_lets
  split <;> rfl

theorem groupWord_reset (g w : Nat) : groupWord (groupAt State.reset g) w = 0 := by
  rcases w with _ | _ | _ | _ | _ | _ | _ | _ | w <;> rfl

/-- Settles O58: a unit without an entry holds the default of its table, and the plain registers and objects are finitely many. -/
theorem resetLeavesTheTablesValues : Obligations.ResetLeavesTheTablesValues := by
  have hcredit : ∀ m, m < 6 → ∀ p, p < 17 → regGet State.reset (mdReg m (8 * p)) = 0xFFFF := by decide
  exact ⟨rfl, rfl, rfl, fun m p hm hp => hcredit m hm p hp, by decide, by decide, by decide, fun _ => ⟨rfl, rfl, rfl⟩, ctxPageRead_reset,
    subRead_reset, stuRead_reset, fun n o => ⟨rqRead_reset n o, rqcRead_reset n o⟩, fun _ => ⟨rfl, rfl, rfl, rfl⟩, by decide, rfl, by decide,
    by decide, groupWord_reset, fun _ => ⟨rfl, rfl, rfl, rfl, rfl⟩, fun _ _ => rfl, fun _ => ⟨rfl, rfl, rfl⟩, by decide, by decide, by decide,
    by decide, by decide, by decide, by decide, by decide, by decide, by decide⟩

end Sys2Proof.Machine
end

section
/-! SUPPORT. What logging, announcing and package reset leave in the fields that the statements on power and faults speak of. -/

set_option Elab.async false

namespace Sys2Proof.Machine

open Sys2Proof

@[simp] theorem logFault_boot (code unit detail flags : Nat) (s : State) : (logFault code unit detail flags s).boot = s.boot := rfl
@[simp] theorem logFault_mem (code unit detail flags : Nat) (s : State) : (logFault code unit detail flags s).mem = s.mem := rfl
@[simp] theorem logFault_tcs (code unit detail flags : Nat) (s : State) : (logFault code unit detail flags s).tcs = s.tcs := rfl
@[simp] theorem logFault_coh (code unit detail flags : Nat) (s : State) : (logFault code unit detail flags s).coh = s.coh := rfl
@[simp] theorem logFault_flash (code unit detail flags : Nat) (s : State) : (logFault code unit detail flags s).flash = s.flash := rfl
@[simp] theorem logFault_present (code unit detail flags : Nat) (s : State) : (logFault code unit detail flags s).present = s.present := rfl
@[simp] theorem logFault_fuse (code unit detail flags : Nat) (s : State) : (logFault code unit detail flags s).fuse = s.fuse := rfl

@[simp] theorem inReset_logFault (code unit detail flags : Nat) (s : State) : inReset (logFault code unit detail flags s) = inReset s := rfl

/-- The newest record of the fault log. -/
theorem logFault_head (code unit detail flags : Nat) (s : State) :
    (logFault code unit detail flags s).faults.log.head?.map (fun e => (e.code, e.unit, e.detail, e.cls)) =
      some (code, unit, detail, faultClass code) := rfl

theorem announceFault_boot (s : State) : (announceFault s).boot = s.boot := (announceFault_did (W := but 3) rfl (.refl s)).boot rfl
theorem announceFault_faults (s : State) : (announceFault s).faults = s.faults := (announceFault_did (W := but 6) rfl (.refl s)).faults rfl

/-- What the entry to package reset leaves (R485): the phase, the line, the reason kept, and the log as it stood. -/
structure Entered (reason : Nat) (s t : State) : Prop where
  phase : t.boot.phase = .goingDown
  line : t.boot.fatalLine = true
  why : t.boot.reason = reason
  status : t.boot.status = 0
  resetReason : t.faults.resetReason = reason
  resetCount : t.faults.resetCount = (s.faults.resetCount + 1) % 2 ^ 32
  log : t.faults.log = s.faults.log

theorem Entered.runState_eq {r : Nat} {s t : State} (h : Entered r s t) : runState t = 3 := by rw [runState, h.phase]

theorem packageReset_entered {r : Nat} {s : State} (h : inReset s = false) : Entered r s (packageReset r s) := by
  unfold packageReset
  rw [h, Bool.false_and, if_neg Bool.false_ne_true]
  extract_lets ports going beat roots pins
  have hgoing : Did (but 6) s going := did_foldl (fun _ _ k => emit_did rfl k) (.refl s)
  have hbeat : Did (but 6) s beat := did_ite (sendHeartbeat_did rfl hgoing) hgoing
  have hpins : Did (but 6) s pins := did_foldl (fun _ _ k => emit_did rfl k) hbeat
  have hdraw : (if r = 3 then drawFree pins else (0, pins)).2.faults = s.faults := by
    split
    · exact hpins.faults rfl
    · exact hpins.faults rfl
  constructor
  case phase | line | why | status | resetReason => rfl
  case resetCount => exact congrArg (fun f => (f.resetCount + 1) % 2 ^ 32) hdraw
  case log => exact congrArg (fun f => f.log) hdraw

/-- A class-3 fault outside package reset: its record is the newest, and package reset is entered with its reason. -/
theorem fatal_entered {code : Nat} (unit detail : Nat) {s : State} (h : inReset s = false) (hc : code ≠ 0x0309) :
    Entered 1 (logFault code unit detail (4 + if s.faults.windows = [] then 0 else 2) s) (fatal code unit detail s) := by
  unfold fatal
  rw [h, if_neg Bool.false_ne_true, if_neg hc]
  extract_lets flags
  obtain ⟨hphase, hline, hreason, hstatus, hkept, hcount, hlog⟩ :=
    packageReset_entered (r := 1) (s := logFault code unit detail flags s) h
  constructor <;> simp only [announceFault_boot, announceFault_faults] <;> assumption

theorem fatal_head {code : Nat} (unit detail : Nat) {s : State} (h : inReset s = false) (hc : code ≠ 0x0309) :
    (fatal code unit detail s).faults.log.head?.map (fun e => (e.code, e.unit, e.detail, e.cls)) =
      some (code, unit, detail, faultClass code) := by
  rw [(fatal_entered unit detail h hc).log, logFault_head]

theorem fatal_inReset {code unit detail : Nat} {s : State} (h : inReset s = true) :
    fatal code unit detail s = logFault code unit detail 0 s := by
  rw [fatal, if_pos h]


/-- Outside package reset the memories and the cores are as they were. -/
theorem fatal_mem (code unit detail : Nat) (s : State) : (fatal code unit detail s).mem = s.mem :=
  (fatal_did (W := but 30) rfl (.refl s)).mem rfl
theorem fatal_tcs (code unit detail : Nat) (s : State) : (fatal code unit detail s).tcs = s.tcs :=
  (fatal_did (W := but 14) rfl (.refl s)).tcs rfl
theorem fatal_coh (code unit detail : Nat) (s : State) : (fatal code unit detail s).coh = s.coh :=
  (fatal_did (W := but 33) rfl (.refl s)).coh rfl

/-! An update cut short -/

theorem setOtherSlot_app (f : FwSlot → FwSlot) (s : State) : (setOtherSlot f s).flash.app = s.flash.app := by
  unfold setOtherSlot
  split <;> rfl

theorem setOtherSlot_hours (f : FwSlot → FwSlot) (s : State) : (setOtherSlot f s).flash.hours = s.flash.hours := by
  unfold setOtherSlot
  split <;> rfl

theorem abandonUpdate_app (s : State) : (abandonUpdate s).flash.app = s.flash.app := by
  unfold abandonUpdate
  split
  · exact setOtherSlot_app _ _
  · rfl

theorem abandonUpdate_hours (s : State) : (abandonUpdate s).flash.hours = s.flash.hours := by
  unfold abandonUpdate
  split
  · exact setOtherSlot_hours _ _
  · rfl

theorem abandonUpdate_out (s : State) : (abandonUpdate s).out = s.out := (abandonUpdate_did (W := but 2) rfl (.refl s)).out rfl
theorem abandonUpdate_pending (s : State) : (abandonUpdate s).pending = s.pending := (abandonUpdate_did (W := but 2) rfl (.refl s)).pending
theorem abandonUpdate_fuse (s : State) : (abandonUpdate s).fuse = s.fuse := (abandonUpdate_did (W := but 4) rfl (.refl s)).fuse rfl
theorem abandonUpdate_faults (s : State) : (abandonUpdate s).faults = s.faults := (abandonUpdate_did (W := but 6) rfl (.refl s)).faults rfl

/-! The statements -/

/-- Settles O1. -/
theorem powerGoodStartsAndStopsTheE9 : Obligations.PowerGoodStartsAndStopsTheE9 := by
  refine ⟨fun hot s h => ?_, fun hot s h => ?_, fun s h => ?_, fun s h => ?_, fun s => ⟨_, rfl, rfl, rfl, rfl, rfl, rfl, rfl, rfl, rfl, rfl,
    rfl, rfl, rfl, rfl, rfl, rfl, rfl, rfl, rfl, rfl, abandonUpdate_out s, abandonUpdate_pending s, abandonUpdate_fuse s, abandonUpdate_app s,
    abandonUpdate_hours s⟩⟩
  · exact congrArg Host.Outcome.next (if_pos h)
  · exact congrArg Host.Outcome.next (if_neg h)
  · exact congrArg Host.Outcome.next (if_pos (decide_eq_true h))
  · exact congrArg Host.Outcome.next (if_neg (by simpa using h))

/-- Settles O2. -/
theorem packageResetDiscardsTheRun : Obligations.PackageResetDiscardsTheRun := by
  refine ⟨fun s h => ⟨discard .resetHold s, congrArg Host.Outcome.next (if_pos (decide_eq_true h)), rfl, rfl, ?_⟩, fun s h => ?_,
    fun hot s h => ?_, fun hot s h => ?_⟩
  · have hf := abandonUpdate_faults s
    exact ⟨congrArg (fun f => f.log) hf, congrArg (fun f => f.resetCount) hf, congrArg (fun f => f.resetReason) hf, rfl, rfl, rfl, rfl, rfl, rfl, rfl, rfl, rfl,
      rfl, rfl, rfl, rfl, rfl, rfl, rfl, rfl, abandonUpdate_out s, abandonUpdate_pending s, abandonUpdate_fuse s, abandonUpdate_app s,
      abandonUpdate_hours s⟩
  · exact congrArg Host.Outcome.next (if_neg (by simpa using h))
  · exact congrArg Host.Outcome.next (if_pos (decide_eq_true h))
  · exact congrArg Host.Outcome.next (if_neg (by simpa using h))

theorem exec_fatalLineAssert {code : Nat} (unit detail : Nat) (s : State) (h : faultClass code = 3) :
    exec (.fatalLineAssert code unit detail) s = .next (fatal code unit detail s) := by
  show Host.Outcome.next (onlyIf (decide (faultClass code = 3)) _ s) = _
  rw [decide_eq_true h, onlyIf_true]

theorem exec_fatalReportTimeout {die code : Nat} (unit detail : Nat) {s : State} (hd : okDie die = true) (hp : diePresent s die = true)
    (h : faultClass code = 3) : exec (.fatalReportTimeout die code unit detail) s = .next (fatal code unit detail s) := by
  show onUnit (okDie die) (onlyIf (diePresent s die && decide (faultClass code = 3)) _ s) = _
  rw [hd, hp, decide_eq_true h, Bool.and_self, onlyIf_true, onUnit_true]

theorem exec_dieBrownout {die : Nat} {s : State} (hd : okDie die = true) (hp : diePresent s die = true) :
    exec (.dieBrownout die) s = .next { s with boot := { s.boot with
      silent := insNat die s.boot.silent, lastBeat := s.boot.lastBeat.filter fun b => !((linksOf die).contains b.1) } } := by
  show onUnit (okDie die) (onlyIf (diePresent s die) _ s) = _
  rw [hd, hp, onUnit_true, onlyIf_true]

/-- Settles O4: what `fatal` leaves (`fatal_entered`), for each way to report a fault of class 3. -/
theorem classThreeFaultEntersPackageReset : Obligations.ClassThreeFaultEntersPackageReset := by
  refine ⟨fun code unit detail s hc h9 hr => ⟨_, exec_fatalLineAssert unit detail s hc, ?_⟩,
    fun die code unit detail s hd hp hc => (exec_fatalReportTimeout unit detail hd hp hc).trans (exec_fatalLineAssert unit detail s hc).symm,
    fun die code unit detail s hd hp hc h9 hr => ⟨_, exec_fatalReportTimeout unit detail hd hp hc, ?_⟩,
    fun code unit detail s hc hr => ⟨_, exec_fatalLineAssert unit detail s hc, ?_⟩, fun die s hd hp => ⟨_, exec_dieBrownout hd hp, mem_insNat die _, rfl⟩⟩
  · have he := fatal_entered unit detail hr h9
    exact ⟨he.phase, he.line, he.why, he.resetReason, he.resetCount, he.status, he.runState_eq, hc ▸ fatal_head unit detail hr h9,
      fatal_mem .., fatal_tcs ..⟩
  · have he := fatal_entered unit detail hr h9
    exact ⟨he.phase, he.line, he.why, he.resetReason, he.runState_eq, hc ▸ fatal_head unit detail hr h9, fatal_mem .., fatal_tcs ..⟩
  · rw [fatal_inReset hr]
    exact ⟨by simp [logFault]; omega, rfl⟩

end Sys2Proof.Machine
end

section
/-! PROOFS. Faults of bonds and links (R25 to R33). -/

set_option Elab.async false

namespace Sys2Proof.Machine

open Sys2Proof

/-! Units that exist -/

theorem okLink_of_lt {i : Nat} (h : i < 17) : okLink i = true := decide_eq_true h
theorem okCd_of_lt {n : Nat} (h : n < 6) : okCd n = true := decide_eq_true h
theorem okMd_of_lt {n : Nat} (h : n < 6) : okMd n = true := decide_eq_true h

theorem okLinkOrBond_of_link {i : Nat} (h : i < 17) : okLinkOrBond i = true := decide_eq_true (by omega)
theorem okLinkOrBond_of_bond {n : Nat} (h : n < 6) : okLinkOrBond (17 + n) = true := decide_eq_true (by omega)

@[simp] theorem bondOf_bond {n : Nat} (h : n < 6) : bondOf (17 + n) = some n := by
  rw [bondOf, if_pos ⟨by omega, by omega⟩, Nat.add_sub_cancel_left]

theorem bondOf_link {i : Nat} (h : i < 17) : bondOf i = none := if_neg fun k => by omega

theorem carries_link {i : Nat} (h : i < 17) (s : State) : carries s i = linkUp s i := by rw [carries, bondOf_link h]
theorem carries_bond {n : Nat} (h : n < 6) (s : State) : carries s (17 + n) = cdPresent s n := by rw [carries, bondOf_bond h]

/-! Errors of a bond or a flit -/

theorem exec_bondErrorDetected {cd : Nat} {s : State} (b : Bool) (h : cd < 6) (hp : cdPresent s cd = true) :
    exec (.bondErrorDetected cd b) s = .next (if b then bumpObj 0x3123 (cd + 1) 64 1 s else fatal 0x0302 cd 0 s) := by
  show onUnit (okCd cd) (bondErrorEffect cd b s) = _
  rw [okCd_of_lt h, onUnit_true, bondErrorEffect, hp]
  rfl

theorem exec_heartbeatLoss_link {i : Nat} {up : Bool} {s : State} (h : i < 17) (hu : linkUp s i = true) (hn : (i, up) ∉ s.boot.losses) :
    exec (.heartbeatLoss i up) s = .next { s with boot := { s.boot with
      losses := (i, up) :: s.boot.losses, lastBeat := s.boot.lastBeat.filter fun b => decide (b ≠ (i, up)) } } := by
  show onUnit (okLinkOrBond i) (heartbeatLossEffect i up s) = _
  rw [okLinkOrBond_of_link h, onUnit_true, heartbeatLossEffect, carries_link h, hu, bondOf_link h]
  simp [hn]

theorem exec_heartbeatLoss_bond {n : Nat} {up : Bool} {s : State} (h : n < 6) (hp : cdPresent s n = true) :
    exec (.heartbeatLoss (17 + n) up) s = .next (fatal 0x0303 n 0 s) := by
  show onUnit (okLinkOrBond (17 + n)) (heartbeatLossEffect (17 + n) up s) = _
  rw [okLinkOrBond_of_bond h, onUnit_true, heartbeatLossEffect, carries_bond h, hp, bondOf_bond h]
  rfl

theorem exec_snoopTimeout {md agent : Nat} {s : State} (h : md < 6) (ho : snoopOwed s md agent = true) :
    exec (.snoopTimeout md agent) s = .next (fatal 0x0306 (6 + md) agent s) := by
  show onUnit (okMd md) (onlyIf (snoopOwed s md agent) _ s) = _
  rw [okMd_of_lt h, onUnit_true, ho, onlyIf_true]

/-- Settles O5: each error is counted (`bumpObj_below`) or is a fault of class 3 (`fatal_entered`). -/
theorem linkErrorsAreCountedOrFatal : Obligations.LinkErrorsAreCountedOrFatal := by
  refine ⟨fun cd s h hp hn => ?_, fun cd s h hp => ?_, fun i s h hu hn => ?_, fun i up s h hu hn => ?_,
    fun i up s h hu hn => ⟨_, exec_heartbeatLoss_link h hu hn, rfl, by simp, rfl⟩, fun n up s h hp => ?_, fun md agent s h ho => ?_,
    fun md agent s h ho hr => ⟨_, exec_snoopTimeout h ho, ?_⟩⟩
  · rw [exec_bondErrorDetected _ h hp, if_pos rfl, bumpObj_below _ _ _ _ _ hn]
  · rw [exec_bondErrorDetected _ h hp, exec_fatalLineAssert _ _ _ (by decide)]
    rfl
  · show onUnit (okLink i) (onlyIf (linkUp s i) _ s) = _
    rw [okLink_of_lt h, onUnit_true, hu, onlyIf_true, bumpObj_below _ _ _ _ _ hn]
    rfl
  · show onUnit (okLinkOrBond i) (onlyIf (carries s i) _ s) = _
    rw [okLinkOrBond_of_link h, onUnit_true, carries_link h, hu, onlyIf_true]
    simp [emit, hn]
  · rw [exec_heartbeatLoss_bond h hp, exec_fatalLineAssert _ _ _ (by decide)]
  · rw [exec_snoopTimeout h ho, exec_fatalLineAssert _ _ _ (by decide)]
  · have he := fatal_entered (code := 0x0306) (6 + md) agent hr (by decide)
    exact ⟨he.phase, he.line, he.why, fatal_head (6 + md) agent hr (by decide), fatal_coh .., fatal_mem ..⟩

/-! A request that has not left -/

/-- The first read of a link with one lane in use, while a read from a chip that no port leads to waits at its order. -/
def scanWithHeldRead : State :=
  { links := [(0, { state := 2, up := { lanes := [0] } })]
    chips := { pend := [⟨1, 7, 0, 0, 0, 0, 0, 0, 0, 0, 0, 0, some (0, []), ⟨9, 15, none⟩⟩] } }

theorem scan_ends_heldRead : (witNext (exec (.eyeMarginScan (.link 0) [(true, 0, 64)]) scanWithHeldRead)).chips.pend = [] := by decide +kernel

/-- Refutes O6: after a measurement, requests that have not left and have no route any more complete as unreachable (R340, `unrouted`). That no
port out of service holds packets (`NoneHeld`) says nothing of them, so the scan changes more than the link. -/
theorem not_laneHealthIsMeasured : ¬ Obligations.LaneHealthIsMeasured := by
  rintro ⟨-, -, -, -, -, hscan⟩
  have hstays := congrArg (fun o => (witNext o).chips.pend)
    (hscan 0 true 0 64 scanWithHeldRead (by decide) rfl (fun _ _ => Or.inr rfl) (by decide) (by decide) (by decide))
  exact absurd (scan_ends_heldRead.symm.trans hstays) (by decide)

/-- A link with 64 lanes and a spare in each direction; core 0 waits for another chip's answer to the request of its transfer 7, which no port
leads to. -/
def laneLossWithHeldRead : State :=
  { witRun with
    links := [(0, { state := 2, up := { lanes := upto 0 64, spares := [64] }, down := { lanes := upto 0 64, spares := [64] } })]
    tcs := [(0, { sb := [⟨7, .dld, 0, 0, 0, 0, 0, 0, 0, 0, 0, 0, 0, [], [], true, false, false, false, 0, [], true, false, [], []⟩] })]
    chips := { pend := [⟨1, 4, 0, 0, 7, 0, 0, 0, 0, 0, 0, 0, some (0, []), ⟨9, 15, none⟩⟩] } }

theorem laneLoss_answers_heldRead :
    (witNext (exec (.laneBitLockLost (.link 0) true 0) laneLossWithHeldRead)).tcs ≠ laneLossWithHeldRead.tcs := by decide +kernel

/-- Refutes O7: a lane's loss is followed by the same end of requests without a route as a measurement's, and the core that waits for one takes
its error. -/
theorem not_failingLanesAreReplacedAndLinksRecover : ¬ Obligations.FailingLanesAreReplacedAndLinksRecover := by
  rintro ⟨hlost, -⟩
  obtain ⟨t, ht, -, -, -, -, -, htcs⟩ := hlost 0 true 0 64 [] laneLossWithHeldRead (by decide) rfl (fun _ _ => Or.inr rfl) (by decide +kernel)
    (by decide) rfl (by decide) rfl rfl rfl (by decide +kernel) (by decide +kernel)
  exact laneLoss_answers_heldRead (by rw [ht]; exact htcs)

end Sys2Proof.Machine
end

section
/-! PROOFS. The start (R36, R37, R481). -/

set_option Elab.async false

namespace Sys2Proof.Machine

open Sys2Proof

/-- Both dies of link 0 have ended their self-tests, and Claryn's configuration holds a LANE_ERR_LIMIT other than the default. -/
def trainWithLimit : State :=
  { boot := { phase := .starting, selfTest := [((linkEnds 0).1, 1), ((linkEnds 0).2, 1)] }, obj := [(objKey 0x2120 1, 20)] }

/-- Refutes O3: a link that trains takes the LANE_ERR_LIMIT in force for its measurement window (R36); the statement names the link with the
default of 16. -/
theorem not_startSequenceReachesRunning : ¬ Obligations.StartSequenceReachesRunning := by
  rintro ⟨-, -, -, -, htrain, -⟩
  obtain ⟨t, ht, hlinks, -⟩ := htrain 0 [] [] trainWithLimit (by decide) rfl (by decide) (by decide)
  have hlimit : (linkAt (witNext (exec (.linkTrainingComplete 0 [] []) trainWithLimit)) 0).limit = 20 := by decide +kernel
  rw [ht] at hlimit
  have hstated := congrArg (fun l => (tget {} l 0).limit) hlinks
  exact absurd (hlimit.symm.trans hstated) (by decide +kernel)

end Sys2Proof.Machine
end

section
/-! PROOFS. Requests without a response (R35, R259 to R261, R518). -/

set_option Elab.async false

namespace Sys2Proof.Machine

open Sys2Proof

/-! The record of an error response -/

theorem memErr_frame (code pa : Nat) (who : Requester) (s : State) : Did 0x1806 s (memErr code pa who s) := memErr_did rfl (.refl s)

theorem memErr_out (code pa : Nat) (who : Requester) (s : State) : (memErr code pa who s).out = .memError code pa who :: s.out :=
  congrArg (List.cons _) ((bumpObj_did (W := but 2) rfl (.refl s)).out rfl)

theorem memErrRecord_ne_nil (s : State) (code pa : Nat) (who : Requester) : memErrRecord s code pa who ≠ [] := by
  unfold memErrRecord
  simp [leBytes]

theorem memErr_record (code pa : Nat) (who : Requester) (s : State) : octGet (memErr code pa who s) 0x7100 2 = memErrRecord s code pa who :=
  tget_tset_self _ _ _ (memErrRecord_ne_nil _ _ _ _) _

@[simp] theorem memErr_tcs (code pa : Nat) (who : Requester) (s : State) : (memErr code pa who s).tcs = s.tcs := (memErr_frame ..).tcs rfl
@[simp] theorem memErr_cores (code pa : Nat) (who : Requester) (s : State) : (memErr code pa who s).cores = s.cores := (memErr_frame ..).cores rfl
@[simp] theorem memErr_mem (code pa : Nat) (who : Requester) (s : State) : (memErr code pa who s).mem = s.mem := (memErr_frame ..).mem rfl
@[simp] theorem memErr_items (code pa : Nat) (who : Requester) (s : State) : (memErr code pa who s).items = s.items := (memErr_frame ..).items rfl

theorem tcAt_congr {s t : State} (h : t.tcs = s.tcs) (n : Nat) : tcAt t n = tcAt s n := by rw [tcAt, tcAt, h]
theorem coreAt_congr {s t : State} (h : t.cores = s.cores) (n : Nat) : coreAt t n = coreAt s n := by rw [coreAt, coreAt, h]
theorem itemAt_congr {s t : State} (h : t.items = s.items) (n : Nat) : itemAt t n = itemAt s n := by rw [itemAt, itemAt, h]

theorem octGet_congr {s t : State} (h : t.oct = s.oct) (i j : Nat) : octGet t i j = octGet s i j := by rw [octGet, octGet, h]

/-! A core that faults -/

/-- A tensor core after a fault: it stands at its instruction with the cause. -/
def faultedCore (cause : Nat) (c : TCore) : TCore := { c with stopped := true, fault := some (cause, c.pc), stall := none }

theorem faultedCore_ne (cause : Nat) (c : TCore) : faultedCore cause c ≠ {} := fun h => Bool.noConfusion (congrArg TCore.stopped h)

/-- A fault of a core writes the core and its item, and nothing else (R61). -/
theorem pacerFault_tcs (tc cause : Nat) (s : State) : (pacerFault tc cause s).tcs = (tcPut s tc (faultedCore cause (tcAt s tc))).tcs := by
  unfold pacerFault
  extract_lets c t
  split
  · rfl
  · split <;> rfl

theorem pacerFault_at (tc cause : Nat) (s : State) : tcAt (pacerFault tc cause s) tc = faultedCore cause (tcAt s tc) := by
  rw [tcAt_congr (pacerFault_tcs tc cause s), tcAt_put _ _ _ (faultedCore_ne _ _)]

theorem pacerFault_at_ne {k tc : Nat} (cause : Nat) (s : State) (h : k ≠ tc) : tcAt (pacerFault tc cause s) k = tcAt s k := by
  rw [tcAt_congr (pacerFault_tcs tc cause s), tcAt_put_ne _ _ _ _ h]

theorem pacerFault_frame (tc cause : Nat) (s : State) : Did 0xc000 s (pacerFault tc cause s) := pacerFault_did rfl (.refl s)

/-- A core that runs an item meets the error of its access (R61). -/
theorem memFault_of_running {tc : Nat} {s : State} (hi : (tcAt s tc).item.isSome = true) (hs : (tcAt s tc).stopped = false)
    (hd : (tcAt s tc).done = none) : memFault tc s = pacerFault tc 0xF s := by
  rw [memFault, hi, hs, hd]
  rfl

/-! An application core's access fault -/

theorem acTrap_out (ac pa : Nat) (f w : Bool) (s : State) : (acTrap ac pa f w s).out = .accessFault ac pa f w :: s.out := rfl

theorem acTrap_at_ne {k ac : Nat} (pa : Nat) (f w : Bool) (s : State) (h : k ≠ ac) : coreAt (acTrap ac pa f w s) k = coreAt s k :=
  tget_tset_ne _ _ _ _ h _

/-! What waits at the requester -/

theorem transferTimeout_of_none {tc pa : Nat} {s : State}
    (hr : ∀ p, p < 4 → ∀ r ∈ (pcieAt s p).reads, ¬(r.dma = true ∧ r.ac = tc ∧ r.pa = pa)) (hp : ∀ q ∈ s.chips.pend, ¬(q.ac = tc ∧ q.pa = pa)) :
    transferTimeout tc pa s = dmaErrorEffect tc 6 pa s := by
  have hreads : ((upto 0 4).find? fun p => (pcieAt s p).reads.any fun r => r.dma && decide (r.ac = tc) && decide (r.pa = pa)) = none := by
    simp only [List.find?_eq_none, mem_upto, List.any_eq_true, Bool.and_eq_true, decide_eq_true_eq, not_exists, not_and]
    exact fun p hp r hm hd hpa => hr p (by omega) r hm ⟨hd.1, hd.2, hpa⟩
  have hpend : (s.chips.pend.find? fun q => (decide (q.kind = 4) || decide (q.kind = 5)) && decide (q.ac = tc) && decide (q.pa = pa)) = none := by
    simp only [List.find?_eq_none, Bool.and_eq_true, decide_eq_true_eq, not_and]
    exact fun q hm hk hpa => hp q hm ⟨hk.2, hpa⟩
  rw [transferTimeout, hreads, hpend]

/-- No port holds a read that the core waits for. -/
theorem coreTimeout_of_none {ac pa : Nat} {s : State}
    (hr : ∀ p, p < 4 → ∀ r ∈ (pcieAt s p).reads, ¬(r.dma = false ∧ r.ac = ac ∧ r.pa = pa)) (hp : ∀ q ∈ s.chips.pend, ¬(q.ac = ac ∧ q.pa = pa))
    (hl : acLive s ac = true) (hx : (localAddr s pa).isSome = true) : coreTimeout ac pa s = errorTo 6 pa (acReq ac) false false s := by
  have hpend : (s.chips.pend.find? fun q => decide (q.kind < 2) && decide (q.ac = ac) && decide (q.pa = pa)) = none := by
    simp only [List.find?_eq_none, Bool.and_eq_true, decide_eq_true_eq, not_and]
    exact fun q hm hk hpa => hp q hm ⟨hk.2, hpa⟩
  have hpcie : (errorTo 6 pa (acReq ac) false false s).pcie = s.pcie := (errorTo_did (W := but 39) rfl (.refl s)).pcie rfl
  have hports : ∀ l : List Nat, (∀ p ∈ l, p < 4) →
      l.foldl (fun t p => match (pcieAt t p).reads.find? fun r => !r.dma && decide (r.ac = ac) && decide (r.pa = pa) with
        | some r => endRead p r (.error 6) t
        | none => t) (errorTo 6 pa (acReq ac) false false s) = errorTo 6 pa (acReq ac) false false s := by
    intro l
    induction l with
    | nil => exact fun _ => rfl
    | cons p l ih =>
      intro hl
      have hnone : ((pcieAt (errorTo 6 pa (acReq ac) false false s) p).reads.find? fun r =>
          !r.dma && decide (r.ac = ac) && decide (r.pa = pa)) = none := by
        simp only [pcieAt, hpcie, List.find?_eq_none, Bool.and_eq_true, decide_eq_true_eq, Bool.not_eq_true', not_and]
        exact fun r hm hd hpa => hr p (hl p List.mem_cons_self) r hm ⟨hd.1, hd.2, hpa⟩
      rw [List.foldl_cons, hnone]
      exact ih fun q hq => hl q (List.mem_cons_of_mem _ hq)
  rw [coreTimeout, hpend, hl, hx]
  exact hports _ fun p hp => by
    have := (mem_upto ..).1 hp
    omega

theorem exec_transactionTimeout {who : Requester} (pa : Nat) (s : State) (h : okRequester who = true) :
    exec (.transactionTimeout who pa) s = .next (timeoutEffect who pa s) := by
  show onUnit (okRequester who) _ = _
  rw [h, onUnit_true]

/-- Settles O8, one kind of requester after the other. -/
theorem timedOutRequestIsReported : Obligations.TimedOutRequestIsReported := by
  refine ⟨fun p pa item s hp hu => ⟨_, exec_transactionTimeout pa s (by simp [okRequester, okPcie, hp]), ?pcie⟩,
    fun p pa item s hp hu => ?pcieDown, fun k n pa item s h => ?other, fun tc pa n item s hc hi hs hd hr hp => ?transfer,
    fun tc pa item s hc hi hr hp => ?transferIdle, fun ac pa x item s hc hl hx hr hp => ?core, fun n pa it s hi => ⟨?submit, fun hph => ?walk⟩,
    fun pa s hq hrq => ?submitNone, fun pa s => ?walkNone, fun pa item s hn => ?eventNone, fun pa n item s hn hw => ?event⟩
  case pcie =>
    have he : timeoutEffect ⟨3, p, item⟩ pa s = emit (.pcieCompletion p 4 []) (memErr 6 pa ⟨3, p, item⟩ s) := if_pos hu
    rw [he]
    exact ⟨congrArg (List.cons _) (memErr_out ..), memErr_mem 6 pa ⟨3, p, item⟩ s, memErr_tcs 6 pa ⟨3, p, item⟩ s,
      memErr_cores 6 pa ⟨3, p, item⟩ s⟩
  case pcieDown =>
    rw [exec_transactionTimeout pa s (by simp [okRequester, okPcie, hp])]
    exact congrArg Host.Outcome.next (if_neg (by simp [hu]))
  case other =>
    refine ⟨memErr 6 pa ⟨k, n, item⟩ s, ?_, memErr_out .., memErr_record .., memErr_mem .., memErr_tcs .., memErr_cores .., memErr_items ..⟩
    rcases h with ⟨rfl, hn⟩ | ⟨rfl, rfl⟩ | ⟨rfl, hn⟩
    · exact exec_transactionTimeout pa s (by simp [okRequester, okPort, hn])
    · exact exec_transactionTimeout pa s rfl
    · exact exec_transactionTimeout pa s (by simp [okRequester, okDie, hn])
  case transfer =>
    have he : transferTimeout tc pa s = pacerFault tc 0xF (memErr 6 pa ⟨1, tc, some n⟩ s) := by
      rw [transferTimeout_of_none hr hp, dmaErrorEffect]
      simp only [hi]
      refine memFault_of_running ?_ ?_ ?_ <;> simp [tcAt_congr (memErr_tcs ..), hi, hs, hd]
    refine ⟨transferTimeout tc pa s, exec_transactionTimeout pa s (by simp [okRequester, okTc, hc]), ?_⟩
    rw [he]
    have hf := pacerFault_frame tc 0xF (memErr 6 pa ⟨1, tc, some n⟩ s)
    have hat := pacerFault_at tc 0xF (memErr 6 pa ⟨1, tc, some n⟩ s)
    rw [tcAt_congr (memErr_tcs ..)] at hat
    refine ⟨by rw [hat]; rfl, by rw [hat]; rfl, by rw [hf.out rfl, memErr_out], by rw [octGet_congr (hf.oct rfl), memErr_record],
      by rw [hf.mem rfl, memErr_mem], fun k hk => ?_⟩
    rw [pacerFault_at_ne _ _ hk, tcAt_congr (memErr_tcs ..)]
  case transferIdle =>
    rw [exec_transactionTimeout pa s (by simp [okRequester, okTc, hc])]
    refine congrArg Host.Outcome.next ?_
    show transferTimeout tc pa s = s
    rw [transferTimeout_of_none hr hp, dmaErrorEffect, hi]
    rfl
  case core =>
    have he : coreTimeout ac pa s = acTrap ac pa false false (memErr 6 pa ⟨2, ac, none⟩ s) := coreTimeout_of_none hr hp hl (by rw [hx]; rfl)
    refine ⟨coreTimeout ac pa s, exec_transactionTimeout pa s (by simp [okRequester, okAc, hc]), ?_⟩
    rw [he]
    refine ⟨by rw [acTrap_out, memErr_out], memErr_record .., memErr_mem 6 pa ⟨2, ac, none⟩ s, fun k hk => ?_⟩
    rw [acTrap_at_ne _ _ _ _ hk, coreAt_congr (memErr_cores ..)]
  case submit =>
    rw [exec_transactionTimeout pa s rfl]
    refine congrArg Host.Outcome.next ?_
    show submitTimeout (some n) pa s = _
    rw [submitTimeout, Option.bind_some, hi]
    rfl
  case walk =>
    rw [exec_transactionTimeout pa s rfl]
    refine congrArg Host.Outcome.next ?_
    have hi' : itemAt (memErr 6 pa (stuReq (some n)) s) n = some it := by rw [itemAt_congr (memErr_items ..), hi]
    show walkTimeout (some n) pa s = _
    rw [walkTimeout]
    simp only [hi', if_pos hph]
    rfl
  case submitNone =>
    rw [exec_transactionTimeout pa s rfl]
    refine congrArg Host.Outcome.next ?_
    have hring : ringReader s pa = none := by rw [ringReader, hq]; rfl
    have hremote : remoteReader s pa = none := by rw [remoteReader, hrq]; rfl
    show submitTimeout none pa s = _
    rw [submitTimeout, Option.bind_none, hring, hremote]
    rfl
  case walkNone => exact exec_transactionTimeout pa s rfl
  case eventNone =>
    rw [exec_transactionTimeout pa s rfl]
    refine congrArg Host.Outcome.next ?_
    show evqErrorEffect 6 s = s
    rw [evqErrorEffect, hn]
  case event =>
    rw [exec_transactionTimeout pa s rfl]
    refine congrArg Host.Outcome.next ?_
    show evqErrorEffect 6 s = _
    rw [evqErrorEffect, hn]
    simp [hw]

end Sys2Proof.Machine
end

section
/-! SUPPORT. An instruction at a Pacer that stands ready: what the command is, once it is known what the body of the instruction answers. -/

set_option Elab.async false

namespace Sys2Proof.Machine

open Sys2Proof

/-! Checks at issue (R515) -/

@[simp] theorem lowestCause_nil : lowestCause [] = none := rfl
@[simp] theorem lowestCause_false (k : Nat) (l : List (Nat × Bool)) : lowestCause ((k, false) :: l) = lowestCause l := rfl

theorem checked_of_none {l : List (Nat × Bool)} {r : PacerRes} (h : lowestCause l = none) : checked l r = r := by rw [checked, h]
theorem checked_of_some {l : List (Nat × Bool)} {r : PacerRes} {k : Nat} (h : lowestCause l = some k) : checked l r = .fault k := by rw [checked, h]

@[simp] theorem unused_zero : unused [0#5] = (1, false) := rfl
@[simp] theorem unused_zero_zero : unused [0#5, 0#5] = (1, false) := rfl
@[simp] theorem unused_zero_zero_zero : unused [0#5, 0#5, 0#5] = (1, false) := rfl
theorem qField_of_lt {f : BitVec 5} (h : f.toNat < 16) : qField f = (1, false) := by
  rw [qField, decide_eq_false (by omega)]

/-! Fields of a word -/

theorem bitsOf_low {hi v : Nat} (h : v < 2 ^ (hi + 1)) : bitsOf hi 0 v = v := Nat.mod_eq_of_lt h

theorem bitsOf_high {hi lo v : Nat} (h : v < 2 ^ lo) : bitsOf hi lo v = 0 := by
  rw [bitsOf, Nat.shiftRight_eq_div_pow, Nat.div_eq_of_lt h, Nat.zero_mod]

theorem fld_low {hi : Nat} {v : W64} (h : v.toNat < 2 ^ (hi + 1)) : fld hi 0 v = v.toNat := bitsOf_low h
theorem fld_high {hi lo : Nat} {v : W64} (h : v.toNat < 2 ^ lo) : fld hi lo v = 0 := bitsOf_high h

/-! Registers -/

@[simp] theorem xPut_item (c : TCore) (n : Nat) (v : W64) : (xPut c n v).item = c.item := by
  unfold xPut
  split <;> rfl
@[simp] theorem xPut_pc (c : TCore) (n : Nat) (v : W64) : (xPut c n v).pc = c.pc := by
  unfold xPut
  split <;> rfl

/-! What the body answers -/

section Ready

variable {s t : State} {tc n len k : Nat} {it : Item} {self : Instr} {body : Item → State → PacerRes} {c : TCore}

theorem PacerReady.item (h : PacerReady s tc n it len self) : (tcAt s tc).item = some n := h.2.1
theorem PacerReady.itemAt (h : PacerReady s tc n it len self) : itemAt s n = some it := h.2.2.1
theorem PacerReady.okTc (h : PacerReady s tc n it len self) : okTc tc = true := decide_eq_true h.1

theorem PacerReady.run (h : PacerReady s tc n it len self) :
    onUnit (Sys2Proof.okTc tc) (pacerRun tc self len body s) = .next (match body it s with
      | .next t => retire tc ((tcAt s tc).pc + BitVec.ofNat 64 len) t
      | .jump t pc => retire tc pc t
      | .stall => tcPut s tc { tcAt s tc with stall := some self }
      | .fault k => pacerFault tc k s) := by
  have hok := h.okTc
  obtain ⟨-, hitem, hit, hlive, hstall, hcode, hheld, hiss⟩ := h
  have hst : (decide ((tcAt s tc).stall = none) || decide ((tcAt s tc).stall = some self)) = true := by simpa using hstall
  rw [hok, onUnit_true]
  simp only [pacerRun, hitem, hit, hlive, hst, hcode, hheld, hiss, Bool.not_true, Bool.or_self, Bool.false_eq_true, if_false] <;> rfl

theorem runs_next (h : PacerReady s tc n it len self) (hb : body it s = .next t) :
    onUnit (okTc tc) (pacerRun tc self len body s) = .next (retire tc ((tcAt s tc).pc + BitVec.ofNat 64 len) t) := by
  rw [h.run, hb]

/-- An instruction that writes its core and nothing else. -/
theorem runs_put (h : PacerReady s tc n it len self) (hb : body it s = .next (tcPut s tc c)) (hc : c.item = (tcAt s tc).item)
    (hpc : c.pc = (tcAt s tc).pc) : onUnit (okTc tc) (pacerRun tc self len body s) = .next (tcPut s tc (onward len c)) := by
  rw [runs_next h hb, ← hpc, retire_tcPut (ne_default_of_item (hc.trans h.item))]

/-- An instruction that writes nothing. -/
theorem runs_self (h : PacerReady s tc n it len self) (hb : body it s = .next s) :
    onUnit (okTc tc) (pacerRun tc self len body s) = .next (tcPut s tc (onward len (tcAt s tc))) := runs_next h hb

/-- An instruction that writes a register. -/
theorem runs_setX {rd : Nat} {v : W64} (h : PacerReady s tc n it len self) (hb : body it s = setX tc rd v s) :
    onUnit (okTc tc) (pacerRun tc self len body s) = .next (tcPut s tc (onward len (xPut (tcAt s tc) rd v))) :=
  runs_put h hb (xPut_item ..) (xPut_pc ..)

theorem runs_stall (h : PacerReady s tc n it len self) (hb : body it s = .stall) :
    onUnit (okTc tc) (pacerRun tc self len body s) = .next (tcPut s tc { tcAt s tc with stall := some self }) := by
  rw [h.run, hb]

theorem runs_fault (h : PacerReady s tc n it len self) (hb : body it s = .fault k) :
    onUnit (okTc tc) (pacerRun tc self len body s) = .next (pacerFault tc k s) := by
  rw [h.run, hb]

theorem runs_jump {pc : W64} (h : PacerReady s tc n it len self) (hb : body it s = .jump (tcPut s tc c) pc) (hc : c.item = (tcAt s tc).item) :
    onUnit (okTc tc) (pacerRun tc self len body s) = .next (tcPut s tc { c with pc := pc, instret := c.instret + 1, stall := none }) := by
  rw [h.run, hb]
  exact congrArg Host.Outcome.next (tcMod_tcPut _ _ _ _ (ne_default_of_item (hc.trans h.item)))

/-- An instruction that writes its core beside other fields. -/
theorem runs_tcs (h : PacerReady s tc n it len self) (hb : body it s = .next t) (ht : t.tcs = tset {} s.tcs tc c)
    (hc : c.item = (tcAt s tc).item) (hpc : c.pc = (tcAt s tc).pc) :
    onUnit (okTc tc) (pacerRun tc self len body s) = .next { t with tcs := tset {} s.tcs tc (onward len c) } := by
  have hne : c ≠ {} := ne_default_of_item (hc.trans h.item)
  have hat : tcAt t tc = c := (tcAt_congr (s := tcPut s tc c) ht tc).trans (tcAt_put _ _ _ hne)
  rw [runs_next h hb, retire, tcMod, hat, tcPut, ht, tset_tset _ _ _ _ hne, ← hpc]
  rfl

end Ready

end Sys2Proof.Machine
end

section
/-! PROOFS. The Pacer's own instructions (R43 to R50, R65, R67). -/

set_option Elab.async false

namespace Sys2Proof.Machine

open Sys2Proof

theorem useLatch_ctx (s : State) (it : Item) (k : Nat) : (useLatch s it k).2.ctx = it.ctx := by
  unfold useLatch
  split <;> rfl

/-- The end of a core's part (R67, R215). -/
theorem finishPart_eq {s : State} {tc n : Nat} {it : Item} (k : Nat) (hc : (tcAt s tc).item = some n) (hi : itemAt s n = some it) :
    finishPart tc k s = { tcPut s tc { tcAt s tc with done := some k } with
      items := aput s.items n { it with kstat := it.kstat ++ [((tcAt s tc).rank, k)], ended := it.ended ++ [tc] } } := by
  unfold finishPart
  extract_lets c t
  split
  · next hn => exact absurd (hc.symm.trans hn) (by simp)
  · next m hm =>
    cases hc.symm.trans hm
    rw [show itemAt t n = some it from hi]
    rfl

/-- Settles O9: each body passes its checks and writes a register, its core, or its core and its item. -/
theorem pacerMovesRegionsAndReadsItsItem : Obligations.PacerMovesRegionsAndReadsItsItem := by
  refine ⟨fun tc n it rd rs1 s h hd => runs_put h ?psetq rfl rfl, fun tc n it rd rs1 s h hd => runs_setX h ?pgetq,
    fun tc n it rd rs1 s h hd => runs_put h ?pqadd rfl rfl, fun tc n it rd s h => runs_setX h ?ptag,
    fun tc n it o rd rs1 s h ho h4 h12 => runs_setX h ?prdop, fun tc n it rd rs1 s h hv => runs_setX h ?pperf,
    fun tc n it rd rs1 s h hv => ?pperfFree, fun tc n it rd rs1 l u s h hl hu h6 h12 hb => ?psqrd,
    fun tc n it jt rs1 rs2 s h hj hv hb => ?psqadv, fun tc n it rs1 s h hsb => ?pdone, fun tc n it rs1 s h hsb => runs_stall h ?pdoneWait⟩
  case psetq => exact checked_of_none (by simp [qField_of_lt hd])
  case pgetq => exact checked_of_none (by simp [qField_of_lt hd])
  case pqadd => exact checked_of_none (by simp [qField_of_lt hd])
  case ptag => exact checked_of_none rfl
  case prdop =>
    simp only [ho, h4, h12]
    exact checked_of_none rfl
  case pperf =>
    have hlow : fld 2 0 (xReg (tcAt s tc) rs1.toNat) = (xReg (tcAt s tc) rs1.toNat).toNat := fld_low (by omega)
    have hhigh : fld 63 3 (xReg (tcAt s tc) rs1.toNat) = 0 := fld_high (by omega)
    simp only [hlow, hhigh]
    rw [checked_of_none (by simp), if_neg (by omega), if_neg (by omega)]
  case pperfFree =>
    have hlow : fld 2 0 (xReg (tcAt s tc) rs1.toNat) = (xReg (tcAt s tc) rs1.toNat).toNat := fld_low (by omega)
    have hhigh : fld 63 3 (xReg (tcAt s tc) rs1.toNat) = 0 := fld_high (by omega)
    refine ⟨Config.free s.fresh, runs_tcs h (c := xPut (tcAt s tc) rd.toNat (Config.free s.fresh)) (t := { tcPut s tc _ with fresh := s.fresh + 1 })
      ?_ rfl (xPut_item ..) (xPut_pc ..)⟩
    simp only [hlow, hhigh]
    rw [checked_of_none (by simp), if_pos hv]
    rfl
  case psqrd =>
    subst hl hu
    refine runs_tcs h (t := tcPut { s with items := aput s.items n (useLatch s it (fld 5 0 (xReg (tcAt s tc) rs1.toNat))).2 } tc
      (xPut (tcAt s tc) rd.toNat _)) ?_ rfl (xPut_item ..) (xPut_pc ..)
    simp only [h6, h12, hb, h.item]
    rw [checked_of_none (by simp)]
    rfl
  case psqadv =>
    subst hj
    have hlow : fld 5 0 (xReg (tcAt s tc) rs1.toNat) = (xReg (tcAt s tc) rs1.toNat).toNat := fld_low (by omega)
    have hhigh : fld 63 6 (xReg (tcAt s tc) rs1.toNat) = 0 := fld_high (by omega)
    refine (runs_next h (t := itemPut s n { (useLatch s it (xReg (tcAt s tc) rs1.toNat).toNat).2 with
      sums := tset 0 (useLatch s it (xReg (tcAt s tc) rs1.toNat).toNat).2.sums (xReg (tcAt s tc) rs1.toNat).toNat
        (tget 0 (useLatch s it (xReg (tcAt s tc) rs1.toNat).toNat).2.sums (xReg (tcAt s tc) rs1.toNat).toNat +
          (xReg (tcAt s tc) rs2.toNat).truncate 32) }) ?_).trans rfl
    simp only [hlow, hhigh, useLatch_ctx, hb, h.item]
    exact checked_of_none rfl
  case pdone =>
    refine runs_tcs h (c := { tcAt s tc with done := some (fld 7 0 (xReg (tcAt s tc) rs1.toNat)) })
      (t := { tcPut s tc { tcAt s tc with done := some (fld 7 0 (xReg (tcAt s tc) rs1.toNat)) } with items := _ }) ?_ rfl rfl rfl
    rw [if_pos hsb, finishPart_eq _ h.item h.itemAt]
    exact checked_of_none rfl
  case pdoneWait =>
    rw [if_neg hsb]
    exact checked_of_none rfl

end Sys2Proof.Machine
end

section
/-! PROOFS. The Pacer waits, signals and takes faults (R48 to R51, R67, R218, R220). -/

set_option Elab.async false

namespace Sys2Proof.Machine

open Sys2Proof

/-! Issue -/

theorem issue_of_room {tc : Nat} {o : Op} {s : State} (h : roomFor (tcAt s tc) o.eng = true) :
    issue tc o s = .next (tcPut s tc (entered o (tcAt s tc))) := if_pos h

theorem ofNat_b2n (b : Bool) : BitVec.ofNat 64 (b2n b) = if b then 1 else 0 := by cases b <;> rfl

/-- Settles O10: what the wait asks decides between going on and standing. -/
theorem pacerWaitsAndSignalsBatons : Obligations.PacerWaitsAndSignalsBatons := by
  refine ⟨fun tc n it rs1 s h hf => runs_self h ?pwait, fun tc n it rs1 s h hf => runs_stall h ?pwaitStands,
    fun tc n it rs2 s h hr hf => runs_self h ?pfence, fun tc n it rs2 s o h hr ho hq => runs_stall h ?pfenceStands,
    fun tc n it rd rs1 s h => runs_setX h ?pstat,
    fun tc n it rs1 rs2 s h hb hw hok hbound hroom => runs_put (c := entered
      { plainOp .pbsig 0 (xReg (tcAt s tc) rs1.toNat) with ctl2 := xReg (tcAt s tc) rs2.toNat } (tcAt s tc)) h ?pbsig rfl rfl,
    fun tc n it rd rs1 rs2 s h hb hw hbound hv => runs_setX h ?pbwait,
    fun tc n it rd rs1 rs2 s h hb hw hbound hv => runs_stall h ?pbwaitStands⟩
  case pwait =>
    rw [if_neg (by rw [hf]; exact Bool.false_ne_true)]
    exact checked_of_none rfl
  case pwaitStands =>
    rw [if_pos hf]
    exact checked_of_none rfl
  case pfence =>
    have hany : ((tcAt s tc).sb.any fun o => (if rs2 = 0 then 15 else rs2.toNat).testBit (engQueue o.eng)) = false := by
      simpa using hf
    simp only [hany]
    exact checked_of_none (by simp [decide_eq_false (show ¬16 ≤ rs2.toNat by omega)])
  case pfenceStands =>
    have hany : ((tcAt s tc).sb.any fun o => (if rs2 = 0 then 15 else rs2.toNat).testBit (engQueue o.eng)) = true :=
      List.any_eq_true.2 ⟨o, ho, hq⟩
    simp only [hany]
    exact checked_of_none (by simp [decide_eq_false (show ¬16 ≤ rs2.toNat by omega)])
  case pstat =>
    rw [← ofNat_b2n]
    exact checked_of_none rfl
  case pbsig =>
    have hlow : fld 12 0 (xReg (tcAt s tc) rs1.toNat) = (xReg (tcAt s tc) rs1.toNat).toNat := fld_low (by omega)
    have hhigh : fld 63 13 (xReg (tcAt s tc) rs1.toNat) = 0 := fld_high (by omega)
    simp only [hlow, hhigh, hw, hok, hbound]
    exact (checked_of_none rfl).trans (issue_of_room hroom)
  case pbwait =>
    have hlow : fld 12 0 (xReg (tcAt s tc) rs1.toNat) = (xReg (tcAt s tc) rs1.toNat).toNat := fld_low (by omega)
    have hhigh : fld 63 13 (xReg (tcAt s tc) rs1.toNat) = 0 := fld_high (by omega)
    simp only [hlow, hhigh, hw, hbound, hv]
    exact checked_of_none rfl
  case pbwaitStands =>
    have hlow : fld 12 0 (xReg (tcAt s tc) rs1.toNat) = (xReg (tcAt s tc) rs1.toNat).toNat := fld_low (by omega)
    have hhigh : fld 63 13 (xReg (tcAt s tc) rs1.toNat) = 0 := fld_high (by omega)
    simp only [hlow, hhigh, hw, hbound, hv]
    exact checked_of_none rfl

/-! Faults -/

/-- A fault of a core that runs an item, told whole (R50, R215). -/
theorem pacerFault_eq {s : State} {tc n : Nat} {it : Item} (k : Nat) (hc : (tcAt s tc).item = some n) (hi : itemAt s n = some it) :
    pacerFault tc k s = { tcPut s tc (faultedCore k (tcAt s tc)) with
      items := aput s.items n { it with
        faults := it.faults ++ [((tcAt s tc).rank, tc, k, (tcAt s tc).pc)]
        status := match it.status with | none => some 2 | some k => some k } } := by
  unfold pacerFault
  extract_lets c t
  split
  · next hn => exact absurd (hc.symm.trans hn) (by simp)
  · next m hm =>
    cases hc.symm.trans hm
    rw [show itemAt t n = some it from hi]
    rfl

/-- Settles O12. -/
theorem pacerControlAndFaults : Obligations.PacerControlAndFaults := by
  refine ⟨fun tc n it rd s h => runs_setX h rfl, fun tc n it rs1 s h => runs_put h ?fevec rfl rfl,
    fun tc n it s h hd => runs_put h ?halt rfl rfl,
    fun tc n it s h hd => runs_fault h (if_pos hd), fun tc n it s h => (runs_fault h rfl).trans ?ecall,
    fun tc n it s h hin => runs_jump (c := { swapBanks (tcAt s tc) with inHandler := false }) h ?pfret rfl,
    fun tc n it rd rs1 rs2 s h hf => runs_fault h ?reserved⟩
  case fevec =>
    have hw := tcMod_tcPut s tc { tcAt s tc with fevec := xReg (tcAt s tc) rs1.toNat &&& BitVec.ofInt 64 (-2) }
      (fun c => xPut c 0 (tcAt s tc).fevec) (ne_default_of_item h.item)
    exact congrArg PacerRes.next hw
  case halt => exact if_neg (by omega)
  case ecall =>
    rw [pacerFault_eq _ h.item h.itemAt]
    rfl
  case pfret => exact checked_of_none (by simp [hin])
  case reserved =>
    refine checked_of_some ?_
    rcases hf with hf | hf
    · have hu : unused [rs2] = (1, true) := by simpa [unused] using hf
      simp only [hu, lowestCause, qField]
      cases decide (16 ≤ rd.toNat) <;> rfl
    · have hq : qField rd = (1, true) := by rw [qField, decide_eq_true hf]
      simp only [hq, lowestCause, unused]
      cases [rs2].any fun f => decide (f ≠ 0) <;> rfl

end Sys2Proof.Machine
end

section
/-! PROOFS. Scalar accesses to the local data map (R43 to R46, R57, R62), and words that the Pacer fetches (R64 to R66). -/

set_option Elab.async false

namespace Sys2Proof.Machine

open Sys2Proof

/-! The local data map -/

/-- An access that raises no cause: within the map and naturally aligned (R46, R515). -/
theorem accessCauses_ok {a n : Nat} {readOnly : Bool} (hin : (inTile a n || inPram a n || (readOnly && inParam a n)) = true) (hal : a % n = 0) :
    lowestCause (accessCauses a n readOnly) = none := by
  simp [accessCauses, hin, hal]

/-- The core as an access leaves it at the banks (R57). -/
def bankedCore (a n : Nat) (c : TCore) : TCore := if inTile a n then bankRequest 5 c else c

@[simp] theorem bankedCore_item (a n : Nat) (c : TCore) : (bankedCore a n c).item = c.item := by
  unfold bankedCore
  split <;> rfl
@[simp] theorem bankedCore_pc (a n : Nat) (c : TCore) : (bankedCore a n c).pc = c.pc := by
  unfold bankedCore
  split <;> rfl

/-- A further write of the core after its request to the banks. -/
theorem tcMod_bankUse {tc a n k : Nat} {s : State} (f : TCore → TCore) (h : (tcAt s tc).item = some k) :
    tcMod (bankUse tc a n s) tc f = tcPut s tc (f (bankedCore a n (tcAt s tc))) := by
  unfold bankUse bankedCore
  split
  · exact tcMod_tcPut _ _ _ _ (ne_default_of_item (c := bankRequest 5 (tcAt s tc)) h)
  · rfl

theorem localGet_bankRequest (k a n : Nat) (c : TCore) : localGet (bankRequest k c) a n = localGet c a n := rfl

theorem sxt_doubleword (v : Nat) : sxt (8 * 8) v = BitVec.ofNat 64 v := BitVec.signExtend_eq _

theorem localPut_tile {a n : Nat} (v : Nat) (c : TCore) (h : inTile a n = true) :
    localPut c a n v = { c with tile := tputs c.tile a (leBytes n v) } := if_pos h

/-! The fields of an encoded word (R64) -/

theorem toNat_append_add {m n : Nat} (x : BitVec m) (y : BitVec n) : (x ++ y).toNat = x.toNat * 2 ^ n + y.toNat := by
  rw [BitVec.toNat_append, Nat.shiftLeft_eq, ← Nat.shiftLeft_eq, Nat.shiftLeft_add_eq_or_of_lt y.isLt]

theorem addi_toNat (imm : BitVec 12) (rs1 rd : BitVec 5) :
    (imm ++ rs1 ++ (0 : BitVec 3) ++ rd ++ (0x13 : BitVec 7)).toNat = imm.toNat * 1048576 + rs1.toNat * 32768 + rd.toNat * 128 + 0x13 := by
  simp only [toNat_append_add, BitVec.ofNat_eq_ofNat, BitVec.toNat_ofNat]
  omega

theorem pstat_toNat (rs1 rd : BitVec 5) :
    ((3 : BitVec 7) ++ (0 : BitVec 5) ++ rs1 ++ (1 : BitVec 3) ++ rd ++ (0x0B : BitVec 7)).toNat =
      100663296 + rs1.toNat * 32768 + 4096 + rd.toNat * 128 + 0x0B := by
  simp only [toNat_append_add, BitVec.ofNat_eq_ofNat, BitVec.toNat_ofNat]
  omega

theorem vadd_toNat (m : BitVec 2) (xs : BitVec 5) (qb qa qd : BitVec 4) :
    ((0 : BitVec 6) ++ m ++ xs ++ qb ++ qa ++ qd ++ (0x5B : BitVec 7)).toNat =
      m.toNat * 16777216 + xs.toNat * 524288 + qb.toNat * 32768 + qa.toNat * 2048 + qd.toNat * 128 + 0x5B := by
  simp only [toNat_append_add, BitVec.ofNat_eq_ofNat, BitVec.toNat_ofNat]
  omega

theorem ofNat_of_toNat {n v : Nat} {x : BitVec n} (h : v = x.toNat) : BitVec.ofNat n v = x := by rw [h, BitVec.ofNat_toNat, BitVec.setWidth_eq]

/-- ADDI as the scalar unit reads it. -/
theorem rvScalar_addi (imm : BitVec 12) (rs1 rd : BitVec 5) (pc : W64) (x : Nat → W64) :
    rvScalar (imm ++ rs1 ++ (0 : BitVec 3) ++ rd ++ (0x13 : BitVec 7)).toNat pc x =
      .done rd.toNat (x rs1.toNat + imm.signExtend 64) (pc + BitVec.ofNat 64 4) := by
  have hi := imm.isLt
  have h1 := rs1.isLt
  have hd := rd.isLt
  rw [addi_toNat]
  generalize hw : imm.toNat * 1048576 + rs1.toNat * 32768 + rd.toNat * 128 + 0x13 = w
  have hlong : w % 4 = 3 := by omega
  have hop : bitsOf 6 0 w = 0x13 := by simp only [bitsOf, Nat.shiftRight_eq_div_pow]; omega
  have hrd : bitsOf 11 7 w = rd.toNat := by simp only [bitsOf, Nat.shiftRight_eq_div_pow]; omega
  have hf3 : bitsOf 14 12 w = 0 := by simp only [bitsOf, Nat.shiftRight_eq_div_pow]; omega
  have hrs : bitsOf 19 15 w = rs1.toNat := by simp only [bitsOf, Nat.shiftRight_eq_div_pow]; omega
  have himm : bitsOf 31 20 w = imm.toNat := by simp only [bitsOf, Nat.shiftRight_eq_div_pow]; omega
  have himmI : immI w = imm.signExtend 64 := by rw [immI, himm, sxt, BitVec.ofNat_toNat, BitVec.setWidth_eq]
  rw [rvScalar, if_pos hlong, rvWord, hop, hrd, hf3, hrs, himmI]
  rfl

theorem pacerInstr_pstat (tc : Nat) (rs1 rd : BitVec 5) :
    rvScalar ((3 : BitVec 7) ++ (0 : BitVec 5) ++ rs1 ++ (1 : BitVec 3) ++ rd ++ (0x0B : BitVec 7)).toNat = (fun _ _ => .other) ∧
    pacerInstr tc ((3 : BitVec 7) ++ (0 : BitVec 5) ++ rs1 ++ (1 : BitVec 3) ++ rd ++ (0x0B : BitVec 7)).toNat = some (.pstat tc rd rs1 0) := by
  have h1 := rs1.isLt
  have hd := rd.isLt
  rw [pstat_toNat]
  generalize hw : 100663296 + rs1.toNat * 32768 + 4096 + rd.toNat * 128 + 0x0B = w
  have hlong : w % 4 = 3 := by omega
  have hop : bitsOf 6 0 w = 0x0B := by simp only [bitsOf, Nat.shiftRight_eq_div_pow]; omega
  have hrd : rdOf w = rd := ofNat_of_toNat (by simp only [bitsOf, Nat.shiftRight_eq_div_pow]; omega)
  have hf3 : bitsOf 14 12 w = 1 := by simp only [bitsOf, Nat.shiftRight_eq_div_pow]; omega
  have hrs : rs1Of w = rs1 := ofNat_of_toNat (by simp only [bitsOf, Nat.shiftRight_eq_div_pow]; omega)
  have hrs2 : rs2Of w = 0 := ofNat_of_toNat (by simp only [bitsOf, Nat.shiftRight_eq_div_pow, BitVec.ofNat_eq_ofNat, BitVec.toNat_ofNat]; omega)
  have hf7 : bitsOf 31 25 w = 3 := by simp only [bitsOf, Nat.shiftRight_eq_div_pow]; omega
  constructor
  · funext pc x
    simp [rvScalar, rvWord, hlong, hop]
  · simp [pacerInstr, pacerLong, custom0, hlong, hop, hrd, hf3, hrs, hrs2, hf7]

theorem pacerInstr_vadd (tc : Nat) (m : BitVec 2) (xs : BitVec 5) (qb qa qd : BitVec 4) :
    rvScalar ((0 : BitVec 6) ++ m ++ xs ++ qb ++ qa ++ qd ++ (0x5B : BitVec 7)).toNat = (fun _ _ => .other) ∧
    pacerInstr tc ((0 : BitVec 6) ++ m ++ xs ++ qb ++ qa ++ qd ++ (0x5B : BitVec 7)).toNat = some (.vadd tc m xs qb qa qd) := by
  have hm := m.isLt
  have hx := xs.isLt
  have hb := qb.isLt
  have ha := qa.isLt
  have hd := qd.isLt
  rw [vadd_toNat]
  generalize hw : m.toNat * 16777216 + xs.toNat * 524288 + qb.toNat * 32768 + qa.toNat * 2048 + qd.toNat * 128 + 0x5B = w
  have hlong : w % 4 = 3 := by omega
  have hop : bitsOf 6 0 w = 0x5B := by simp only [bitsOf, Nat.shiftRight_eq_div_pow]; omega
  have hop6 : bitsOf 31 26 w = 0 := by simp only [bitsOf, Nat.shiftRight_eq_div_pow]; omega
  have h1 : opM w = m := ofNat_of_toNat (by simp only [bitsOf, Nat.shiftRight_eq_div_pow]; omega)
  have h2 : opXs w = xs := ofNat_of_toNat (by simp only [bitsOf, Nat.shiftRight_eq_div_pow]; omega)
  have h3 : opQb w = qb := ofNat_of_toNat (by simp only [bitsOf, Nat.shiftRight_eq_div_pow]; omega)
  have h4 : opQa w = qa := ofNat_of_toNat (by simp only [bitsOf, Nat.shiftRight_eq_div_pow]; omega)
  have h5 : opQd w = qd := ofNat_of_toNat (by simp only [bitsOf, Nat.shiftRight_eq_div_pow]; omega)
  constructor
  · funext pc x
    simp [rvScalar, rvWord, hlong, hop]
  · simp [pacerInstr, pacerLong, custom2, hlong, hop, hop6, h1, h2, h3, h4, h5]

/-- A word that another command holds runs as that command. -/
theorem execPacerScalarOp_other {tc : Nat} {w : BitVec 32} {i : Instr} (s : State) (hr : rvScalar w.toNat = fun _ _ => .other)
    (hi : pacerInstr tc w.toNat = some i) : exec (.pacerScalarOp tc w) s = runDecoded i s := by
  show execPacerScalarOp tc w s = _
  unfold execPacerScalarOp
  simp only [hr, hi]

/-- A word that the scalar unit performs or does not know runs at the Pacer. -/
theorem execPacerScalarOp_here {tc : Nat} {w : BitVec 32} (s : State) (hr : rvScalar w.toNat (tcAt s tc).pc (xReg (tcAt s tc)) ≠ .other) :
    exec (.pacerScalarOp tc w) s = onUnit (okTc tc) (pacerRun tc (.pacerScalarOp tc w) (rvLen w.toNat) (fun _ s =>
      match rvScalar w.toNat (tcAt s tc).pc (xReg (tcAt s tc)) with
      | .done rd v pc => .jump (tcMod s tc fun c => xPut c rd v) pc
      | _ => .fault 1) s) := by
  show execPacerScalarOp tc w s = _
  unfold execPacerScalarOp
  extract_lets res run
  split
  · next h => exact absurd h hr
  · rfl

/-- AMOADD.D on tile memory. -/
theorem pacerAtomicBody_amoadd {tc a rd rs1 rs2 : Nat} {s : State} (ha : a = (xReg (tcAt s tc) rs1).toNat) (hin : inTile a 8 = true)
    (hal : a % 8 = 0) (hw : accessWaits (tcAt s tc) a 8 true = false) :
    pacerAtomicBody tc 0 3 rd rs1 rs2 s = .next (tcPut s tc (xPut { bankRequest 5 (tcAt s tc) with
      tile := tputs (tcAt s tc).tile a (leBytes 8 (BitVec.ofNat 64 (localGet (tcAt s tc) a 8) + xReg (tcAt s tc) rs2).toNat) }
      rd (BitVec.ofNat 64 (localGet (tcAt s tc) a 8)))) := by
  subst ha
  unfold pacerAtomicBody
  extract_lets n a c old src
  have hc : c = bankRequest 5 (tcAt s tc) := if_pos hin
  have hn : n = 8 := rfl
  have hold : old = BitVec.ofNat 64 (localGet (tcAt s tc) a 8) := by
    show sxt (8 * n) (localGet c a n) = _
    rw [hn, hc, localGet_bankRequest, sxt_doubleword]
  have hsrc : src = xReg (tcAt s tc) rs2 := by
    rw [show xReg (tcAt s tc) rs2 = xReg (bankRequest 5 (tcAt s tc)) rs2 from rfl, ← hc]
  have hwait : accessWaits c a n true = false := by
    rw [hc]
    exact hw
  have hsum : amoValue 0 n old src = some (old + src) := rfl
  clear_value c old src
  subst hc hold hsrc
  refine (checked_of_none (accessCauses_ok (readOnly := false) (by simp [hin]) hal)).trans ?_
  refine (if_neg (by rw [hwait]; exact Bool.false_ne_true)).trans ?_
  refine (if_neg (by decide)).trans ((if_neg (by decide)).trans ?_)
  rw [hsum]
  dsimp only
  rw [localPut_tile _ _ (show inTile _ n = true from hin)]
  rfl

/-- Settles O11. -/
theorem pacerAccessesTheLocalMap : Obligations.PacerAccessesTheLocalMap := by
  refine ⟨fun tc n it f3 rd rs1 imm a s h hf ha hin hal hw => ?load, fun tc n it f3 rs1 rs2 imm a s h hf ha hin hal hw => ?store,
    fun tc n it rd rs1 rs2 a s h ha hin hal hw => ?atomic, fun tc n it rd rs1 imm s h => ?addi,
    fun tc rd rs1 s => execPacerScalarOp_other s (pacerInstr_pstat tc rs1 rd).1 (pacerInstr_pstat tc rs1 rd).2,
    fun tc m xs qb qa qd s => execPacerScalarOp_other s (pacerInstr_vadd tc m xs qb qa qd).1 (pacerInstr_vadd tc m xs qb qa qd).2,
    fun tc n it s h => ?undefined⟩
  case load =>
    refine runs_put (c := xPut (bankedCore a (2 ^ (f3.toNat % 4)) (tcAt s tc)) rd.toNat _) h ?_ (by simp) (by simp)
    simp only [← ha]
    rw [if_neg (by rw [hw]; exact Bool.false_ne_true)]
    refine (checked_of_none ?_).trans ?_
    · rw [decide_eq_false hf]
      exact accessCauses_ok (by simpa using hin) hal
    · exact congrArg PacerRes.next (tcMod_bankUse _ h.item)
  case store =>
    have hmod : f3.toNat % 4 = f3.toNat := Nat.mod_eq_of_lt hf
    have hbank : bankedCore a (2 ^ f3.toNat) (tcAt s tc) = bankRequest 5 (tcAt s tc) := if_pos hin
    refine runs_put h ?_ rfl rfl
    simp only [← ha, hmod]
    rw [if_neg (by rw [hw]; exact Bool.false_ne_true)]
    refine (checked_of_none ?_).trans ?_
    · rw [decide_eq_false (by omega)]
      exact accessCauses_ok (by simp [hin]) hal
    · rw [tcMod_bankUse _ h.item, hbank, localPut_tile _ _ hin]
      rfl
  case atomic =>
    exact runs_put h (pacerAtomicBody_amoadd ha hin hal hw) (xPut_item ..) (xPut_pc ..)
  case addi =>
    have hr := rvScalar_addi imm rs1 rd (tcAt s tc).pc (xReg (tcAt s tc))
    rw [execPacerScalarOp_here s (by rw [hr]; nofun)]
    have hlen : rvLen (imm ++ rs1 ++ (0 : BitVec 3) ++ rd ++ (0x13 : BitVec 7)).toNat = 4 := if_pos (by rw [addi_toNat]; omega)
    rw [hlen]
    refine (runs_jump (c := xPut (tcAt s tc) rd.toNat (xReg (tcAt s tc) rs1.toNat + imm.signExtend 64)) (pc := (tcAt s tc).pc + BitVec.ofNat 64 4) h ?_
      (xPut_item ..)).trans ?_
    · simp only [hr]
      rfl
    · rw [onward, xPut_pc]
  case undefined =>
    have hr : rvScalar (0x7F : BitVec 32).toNat (tcAt s tc).pc (xReg (tcAt s tc)) = .illegal := rfl
    rw [execPacerScalarOp_here s (by rw [hr]; nofun)]
    exact runs_fault h rfl

end Sys2Proof.Machine
end

section
/-! PROOFS. Two statements on issue that the model does not bear out (R55, R86, R132). -/

set_option Elab.async false

namespace Sys2Proof.Machine

open Sys2Proof

/-! The items of a round -/

/-- Core 0 stands ready to contribute to round 0 of a group, in which its item has already contributed as another rank. -/
def secondContribution : State :=
  { witState { q := [(1, witReg 4 4 8 9)] } with
    groups := [(0, { gctl := 0x10881, gshape := 0x1000000001, rounds := [{ emptyRound 0 with items := [0] }] })] }

theorem contribution_items :
    (groupAt (witNext (exec (.drly 0 0 0 0 1 1) secondContribution)) 0).rounds.map (fun r => r.items) = [[0, 0]] := by decide +kernel

/-- Refutes O15: a round lists its items in the order of the contributions, one entry for each; the statement lists each item once. -/
theorem not_transfersAreIssued : ¬ Obligations.TransfersAreIssued := by
  rintro ⟨-, -, hdrly⟩
  have hstated := hdrly 0 0 witItem 0 1 1 _ _ _ _ _ _ _ _ _ secondContribution ⟨by decide, rfl, rfl, by decide, .inl (by decide), by decide, by decide⟩
    rfl rfl rfl rfl rfl rfl rfl (by decide) (by decide) (by decide) (by decide) (by decide) (by decide) (by decide) (by decide) (by decide)
    (fun h => absurd h (by decide)) (by unfold RegionOk Unmasked; decide) (fun _ => by unfold RegionOk Unmasked; decide) rfl rfl
  have hitems := contribution_items
  rw [hstated] at hitems
  exact absurd hitems (by decide +kernel)

/-! The order of the causes -/

/-- VTRN from region 1, whose mask region 3 has a reserved format, to region 2, of another shape. -/
def transposeUnderBadMask : State :=
  witState { q := [(1, witReg 4 2 8 9 ||| 0x1300000000000000), (2, witReg 4 2 8 9), (3, 0xD0000000000000)] }

theorem transpose_faults_format :
    (tcAt (witNext (exec (.vtrn 0 0 0 0 1 2) transposeUnderBadMask)) 0).fault = some (6, (tcAt transposeUnderBadMask 0).pc) := by decide +kernel

/-- Refutes O16: VTRN's source may be masked, so a mask of a reserved format is cause 0x06 there, below the cause 0x07 of the shape (R55, R515);
the statement asks nothing of the mask. -/
theorem not_issueWaitsForRoomAndFaults : ¬ Obligations.IssueWaitsForRoomAndFaults := by
  rintro ⟨-, -, -, -, hshape⟩
  have hstated := hshape 0 0 witItem 1 2 transposeUnderBadMask (by unfold PacerReady; decide) (by unfold RegionOk; decide)
    (by unfold RegionOk; decide) (by decide) (by decide) (by decide)
  have hfault := transpose_faults_format
  rw [hstated] at hfault
  exact absurd hfault (by decide +kernel)

end Sys2Proof.Machine
end

section
/-! SUPPORT. Issue checks that hold (R53 to R55, R515), stated over the lists of causes that the issue of every operation is checked by. -/

set_option Elab.async false

namespace Sys2Proof.Machine

open Sys2Proof

/-- No cause of the list holds. -/
def Clear (l : List (Nat × Bool)) : Prop := ∀ e ∈ l, e.2 = false

@[simp] theorem clear_nil : Clear [] := nofun
@[simp] theorem clear_cons (e : Nat × Bool) (l : List (Nat × Bool)) : Clear (e :: l) ↔ e.2 = false ∧ Clear l := List.forall_mem_cons
@[simp] theorem clear_append (l m : List (Nat × Bool)) : Clear (l ++ m) ↔ Clear l ∧ Clear m := List.forall_mem_append

theorem Clear.lowestCause {l : List (Nat × Bool)} (h : Clear l) : lowestCause l = none := by
  induction l with
  | nil => rfl
  | cons e l ih =>
    obtain ⟨k, b⟩ := e
    obtain ⟨hb, hl⟩ := (clear_cons _ _).1 h
    cases hb
    exact ih hl

theorem checked_of_clear {l : List (Nat × Bool)} {r : PacerRes} (h : Clear l) : checked l r = r := checked_of_none h.lowestCause

@[simp] theorem clear_useCauses {w : W64} (h : RegionOk w) : Clear (useCauses (regionOf w)) := by
  obtain ⟨hf, he⟩ := h
  simp [useCauses, hf, he]

@[simp] theorem clear_maskCauses {c : TCore} {w : W64} (h : MaskOk c w) : Clear (maskCauses c (regionOf w)) := by
  unfold maskCauses
  split
  · next hm =>
    obtain ⟨hok, hfmt, hrows, hcols⟩ := h (by simpa using (Bool.and_eq_true_iff.1 hm).1)
    have hu := clear_useCauses hok
    rw [maskWord] at hok hfmt hrows hcols hu
    simp [hu, hfmt, hrows, hcols]
  · exact clear_nil

@[simp] theorem noMask_of_unmasked {w : W64} (h : Unmasked w) : (noMask (regionOf w)).2 = false := by
  rw [Unmasked] at h
  simp [noMask, h]

@[simp] theorem shapeCause_of_ok (rs : List Region) : (shapeCause rs true).2 = false := rfl

theorem sameShape_of_eq {a b : Region} (hr : a.rows = b.rows) (hc : a.cols = b.cols) : sameShape a b = true := by simp [sameShape, hr, hc]
theorem small_of_le {r : Region} (hr : r.rows ≤ 128) (hc : r.cols ≤ 128) : small r = true := by simp [small, hr, hc]

/-- An operation entered behind a write of its core. -/
theorem enter_tcMod {s : State} {tc n : Nat} (o : Op) (f : TCore → TCore) (h : (f (tcAt s tc)).item = some n) :
    enter tc o (tcMod s tc f) = tcPut s tc (entered o (f (tcAt s tc))) := enter_tcPut o (ne_default_of_item h)

end Sys2Proof.Machine
end

section
/-! PROOFS. Issue of the matrix operations (R58, R59, R69 to R74). -/

set_option Elab.async false

namespace Sys2Proof.Machine

open Sys2Proof

/-- Settles O13: the checks of each operation hold, and it enters behind the write of what later checks go by. -/
theorem matrixOperationsAreIssued : Obligations.MatrixOperationsAreIssued := by
  refine ⟨fun tc n it m qa c w r s h hc hw hr hroom hok hun hf hrows hcols => ?mldw,
    fun tc n it m qa c w r b s h hc hw hr hroom hok hun hb hf hcols hrows hacc => ?mmul,
    fun tc n it xs qb qa qd c ctl a b d s h hc hctl ha hb hd hroom hz hok hun hrows hcols hf hcol hhist => ?mrd,
    fun tc n it qa c w r s h hc hw hr hroom hok hun hf hrows hcols => ?mlda, fun tc n it m c s h hc hm hroom => ?mzero⟩
  case mldw =>
    subst hc hw hr
    refine runs_put h (c := entered _ { tcAt s tc with w0Issue := _, w1Issue := _ }) ?_ rfl rfl
    refine (checked_of_clear ?_).trans ((if_pos hroom).trans (congrArg PacerRes.next ?_))
    · simp [hok, hun, hf, small_of_le hrows hcols]
    · refine (enter_tcMod (n := n) _ _ ?_).trans ?_
      · dsimp only
        split <;> exact h.item
      · have hlt := m.isLt
        rcases (by omega : m.toNat = 0 ∨ m.toNat = 1 ∨ m.toNat = 2 ∨ m.toNat = 3) with hm | hm | hm | hm <;> simp [hm]
  case mmul =>
    subst hc hw hr hb
    refine runs_put h (c := entered _ { tcAt s tc with accIntIssue := _ }) ?_ rfl rfl
    refine (checked_of_clear ?_).trans ((if_pos hroom).trans (congrArg PacerRes.next ?_))
    · rcases hacc with hacc | hacc <;> simp [hok, hun, hf, hcols, hrows, hacc]
    · by_cases hm : 2 ≤ m.toNat
      · simp only [hm, decide_true, if_true]
        exact enter_tcMod _ (fun c => { c with accIntIssue := fmtIsInt (regionOf (qReg (tcAt s tc) qa.toNat)).fmt }) h.item
      · simp only [hm, decide_false, Bool.false_eq_true, if_false]
        rw [← hacc.resolve_left hm]
        rfl
  case mrd =>
    subst hc hctl ha hb hd
    refine runs_put h (c := entered _ (tcAt s tc)) ?_ rfl rfl
    refine (checked_of_clear ?_).trans (issue_of_room hroom)
    have hsecond : Clear (if bit 33 (xReg (tcAt s tc) xs.toNat) then useCauses (regionOf (qReg (tcAt s tc) qa.toNat)) ++
        [(6, decide ((regionOf (qReg (tcAt s tc) qa.toNat)).fmt ≠ 8)),
         shapeCause [regionOf (qReg (tcAt s tc) qa.toNat), regionOf (qReg (tcAt s tc) qd.toNat)]
           (decide ((regionOf (qReg (tcAt s tc) qa.toNat)).rows = 1) &&
             decide ((regionOf (qReg (tcAt s tc) qa.toNat)).cols = (regionOf (qReg (tcAt s tc) qd.toNat)).cols)),
         noMask (regionOf (qReg (tcAt s tc) qa.toNat))] else []) := by
      split
      · next hb =>
        obtain ⟨hok, hun, hf, hrows, hcols⟩ := hcol hb
        simp [hok, hun, hf, hrows, hcols]
      · exact clear_nil
    have hthird : Clear (if bit 34 (xReg (tcAt s tc) xs.toNat) then useCauses (regionOf (qReg (tcAt s tc) qb.toNat)) ++
        [(6, !(decide ((regionOf (qReg (tcAt s tc) qb.toNat)).fmt = 11) || decide ((regionOf (qReg (tcAt s tc) qb.toNat)).fmt = 9))),
         shapeCause [regionOf (qReg (tcAt s tc) qb.toNat)]
           (decide ((regionOf (qReg (tcAt s tc) qb.toNat)).rows = 1) && decide ((regionOf (qReg (tcAt s tc) qb.toNat)).cols = 264)),
         noMask (regionOf (qReg (tcAt s tc) qb.toNat))] else []) := by
      split
      · next hb =>
        obtain ⟨hok, hun, hf, hrows, hcols⟩ := hhist hb
        rcases hf with hf | hf <;> simp [hok, hun, hf, hrows, hcols]
      · exact clear_nil
    simp only [clear_append, hsecond, hthird]
    simp [hok, hun, hf, hz, small_of_le hrows hcols]
  case mlda =>
    subst hc hw hr
    refine runs_put h (c := entered _ { tcAt s tc with accIntIssue := _ }) ?_ rfl rfl
    refine (checked_of_clear ?_).trans ((if_pos hroom).trans (congrArg PacerRes.next ?_))
    · rcases hf with hf | hf <;> simp [hok, hun, hf, small_of_le hrows hcols]
    · exact enter_tcMod _ (fun c => { c with accIntIssue := decide ((regionOf (qReg (tcAt s tc) qa.toNat)).fmt = 9) }) h.item
  case mzero =>
    subst hc
    refine runs_put h (c := entered _ { tcAt s tc with accIntIssue := _ }) ?_ rfl rfl
    refine (issueMzero_of_room hm hroom).trans (congrArg PacerRes.next ?_)
    exact enter_tcMod _ (fun c => { c with accIntIssue := decide (m.toNat = 1) }) h.item

end Sys2Proof.Machine
end

section
/-! PROOFS. Issue of the vector operations (R55, R58 to R60, R76 to R86, R146): one lemma for each shape of checks. -/

set_option Elab.async false

namespace Sys2Proof.Machine

open Sys2Proof

section Forms

variable {s : State} {tc n : Nat} {it : Item} {self : Instr} {e : EngOp} {c : TCore}

/-- The operations of two operands (R76 to R80). -/
theorem binary_runs {m : BitVec 2} {xs : BitVec 5} {qb qa qd : BitVec 4} {ctl a b d : W64} (h : PacerReady s tc n it 4 self) (hc : c = tcAt s tc)
    (hctl : ctl = xReg c xs.toNat) (ha : a = qReg c qa.toNat) (hb : b = qReg c qb.toNat) (hd : d = qReg c qd.toNat) (hroom : roomFor c e = true)
    (hoka : RegionOk a) (hokd : RegionOk d) (hma : MaskOk c a) (hmd : MaskOk c d) (hfmt : binFmtOk e (regionOf a).fmt = true)
    (hfd : (regionOf d).fmt = (if isCompare e then 12 else (regionOf a).fmt)) (hrows : (regionOf a).rows = (regionOf d).rows)
    (hcols : (regionOf a).cols = (regionOf d).cols) (hfree : if m.toNat = 1 then qb = 0 else e = .vfun ∨ xs = 0)
    (hsecond : m.toNat ≠ 1 → RegionOk b ∧ MaskOk c b ∧ (regionOf b).fmt = (regionOf a).fmt ∧ secondShape m.toNat (regionOf a) (regionOf b) = true)
    (hfun : e = .vfun → fld 3 0 ctl < 12 ∧ fld 31 4 ctl = 0 ∧ (m.toNat ≠ 1 → fld 63 32 ctl = 0)) :
    vecRun tc self (fun _ => issueBinary e tc m.toNat xs.toNat qb.toNat qa.toNat qd.toNat) s =
      .next (tcPut s tc (onward 4 (entered { plainOp e m.toNat ctl with
        qa := a, qb := b, qd := d, maskD := maskWord c d
        reads := granules a :: granulesMasked c a ++ granulesMasked c d ++
          (if m.toNat = 1 then [] else granules b :: granulesMasked c b) ++ (if e = .vfma then [granules d] else [])
        writes := [granules d] } c))) := by
  subst hc hctl ha hb hd
  refine runs_put h (c := entered _ (tcAt s tc)) ?_ rfl rfl
  refine (checked_of_clear ?_).trans (issue_of_room hroom)
  have hsnd : Clear (if m.toNat = 1 then [] else useCauses (regionOf (qReg (tcAt s tc) qb.toNat)) ++ maskCauses (tcAt s tc) (regionOf (qReg (tcAt s tc) qb.toNat)) ++
      [(6, decide ((regionOf (qReg (tcAt s tc) qb.toNat)).fmt ≠ (regionOf (qReg (tcAt s tc) qa.toNat)).fmt)),
       shapeCause [regionOf (qReg (tcAt s tc) qa.toNat), regionOf (qReg (tcAt s tc) qb.toNat)]
         (secondShape m.toNat (regionOf (qReg (tcAt s tc) qa.toNat)) (regionOf (qReg (tcAt s tc) qb.toNat)))]) := by
    split
    · exact clear_nil
    · next hm =>
      obtain ⟨hok, hmb, hf, hshape⟩ := hsecond hm
      simp [hok, hmb, hf, hshape]
  have hone : (if m.toNat = 1 then decide (qb.toNat ≠ 0) else !(decide (e = .vfun)) && decide (xs.toNat ≠ 0)) = false := by
    split
    · next hm =>
      rw [if_pos hm] at hfree
      simp [hfree]
    · next hm =>
      rw [if_neg hm] at hfree
      rcases hfree with hv | hx
      · simp [hv]
      · simp [hx]
  have hpar : (decide (e = .vfun) && (decide (12 ≤ fld 3 0 (xReg (tcAt s tc) xs.toNat)) || decide (fld 31 4 (xReg (tcAt s tc) xs.toNat) ≠ 0) ||
      (decide (m.toNat ≠ 1) && decide (fld 63 32 (xReg (tcAt s tc) xs.toNat) ≠ 0)))) = false := by
    by_cases hv : e = .vfun
    · obtain ⟨hk, hz, hw⟩ := hfun hv
      by_cases hm : m.toNat = 1
      · simp [hz, hm, hk]
      · simp [hz, hw hm, hk]
    · simp [hv]
  simp only [clear_append, hsnd, clear_cons, clear_nil, hone, hpar]
  simp [hoka, hokd, hma, hmd, hfmt, hfd, sameShape_of_eq hrows hcols]

/-- The operations from qa to qd (R80, R82, R86). -/
theorem unary_runs {xs : BitVec 5} {qa qd : BitVec 4} {wa wd : W64} {k : Nat} {masked : Bool} {fmtOk : Nat → Nat → Bool}
    {shapeOk : Region → Region → Bool} {par : W64 → Bool} {bad : Bool} (h : PacerReady s tc n it 4 self) (hc : c = tcAt s tc)
    (hwa : wa = qReg c qa.toNat) (hwd : wd = qReg c qd.toNat) (hroom : roomFor c e = true) (hoka : RegionOk wa) (hokd : RegionOk wd)
    (hma : MaskOk c wa) (hmd : if masked then MaskOk c wd else Unmasked wd) (hfmt : fmtOk (regionOf wa).fmt (regionOf wd).fmt = true)
    (hshape : shapeOk (regionOf wa) (regionOf wd) = true) (hk : k = xs.toNat) (hpar : par (xReg c xs.toNat) = false) (hbad : bad = false) :
    vecRun tc self (fun _ => issueUnary e masked fmtOk shapeOk par bad tc k qa.toNat qd.toNat) s =
      .next (tcPut s tc (onward 4 (entered { plainOp e 0 (xReg c xs.toNat) with
        qa := wa, qd := wd, maskD := maskWord c wd
        reads := granules wa :: granulesMasked c wa ++ granulesMasked c wd
        writes := [granules wd] } c))) := by
  subst hc hwa hwd hk hbad
  refine runs_put h (c := entered _ (tcAt s tc)) ?_ rfl rfl
  refine (checked_of_clear ?_).trans (issue_of_room hroom)
  have hdest : Clear (if masked then maskCauses (tcAt s tc) (regionOf (qReg (tcAt s tc) qd.toNat)) else [noMask (regionOf (qReg (tcAt s tc) qd.toNat))]) := by
    cases masked
    · have hd : Unmasked (qReg (tcAt s tc) qd.toNat) := hmd
      simp [hd]
    · exact clear_maskCauses hmd
  simp only [clear_append, hdest]
  simp [hoka, hokd, hma, hfmt, hshape, hpar]

end Forms

/-- VMOV from a region (R76). -/
theorem vmov_runs {s : State} {tc n : Nat} {it : Item} {qa qd : BitVec 4} {c : TCore} {a d : W64}
    (h : PacerReady s tc n it 4 (.vmov tc 0 0 0 qa qd)) (hc : c = tcAt s tc) (ha : a = qReg c qa.toNat) (hd : d = qReg c qd.toNat)
    (hroom : roomFor c .vmov = true) (hoka : RegionOk a) (hokd : RegionOk d) (hma : MaskOk c a) (hmd : MaskOk c d) (hb : (regionOf d).fmt ≠ 12)
    (hfmt : (regionOf a).fmt = (regionOf d).fmt) (hrows : (regionOf a).rows = (regionOf d).rows) (hcols : (regionOf a).cols = (regionOf d).cols) :
    exec (.vmov tc 0 0 0 qa qd) s = .next (tcPut s tc (onward 4 (entered { plainOp .vmov 0 (xReg c 0) with
      qa := a, qd := d, maskD := maskWord c d
      reads := granules a :: granulesMasked c a ++ granulesMasked c d
      writes := [granules d] } c))) := by
  subst hc ha hd
  refine runs_put h (c := entered _ (tcAt s tc)) ?_ rfl rfl
  refine (checked_of_clear ?_).trans (issue_of_room hroom)
  simp [hoka, hokd, hma, hmd, hb, hfmt, sameShape_of_eq hrows hcols]

/-- Settles O14. -/
theorem vectorOperationsAreIssued : Obligations.VectorOperationsAreIssued := by
  refine ⟨?binary, fun tc n it qa qd c a d s => vmov_runs, fun tc n it xs qd c d s h hc hd hroom hok hmd hb => ?immediate, ?unary,
    fun tc n it xs qb qa qd c ctl a b d s h hc hctl ha hb hd hroom hoka hokb hokd hma hub hud hfa hfd hfb hk1 hk64 hkc hdr hdc hbr hbc => ?topk,
    fun tc n it qb qa qd c a b d s h hc ha hb hd hroom hoka hokb hokd hmask hma hub hud hfa hfd hfb hrows hcols hbr hbc => ?compress,
    fun tc n it m xs qd c ctl d l s h hc hctl hd hm hroom hok hmd hf hz hbound hl => ?rand⟩
  case binary =>
    intro p hp tc n it m xs qb qa qd c ctl a b d s h
    simp only [List.mem_cons, List.not_mem_nil, or_false] at hp
    rcases hp with rfl | rfl | rfl | rfl | rfl | rfl | rfl | rfl | rfl | rfl <;> exact binary_runs h
  case immediate =>
    subst hc hd
    refine runs_put h (c := entered _ (tcAt s tc)) ?_ rfl rfl
    refine (checked_of_clear ?_).trans (issue_of_room hroom)
    simp [hok, hmd, hb]
  case unary =>
    intro p hp tc n it xs qa qd c wa wd a d s h hc hwa hwd ha hd hroom hoka hokd hma hcond
    subst ha hd
    simp only [List.mem_cons, List.not_mem_nil, or_false] at hp
    rcases hp with rfl | rfl | rfl | rfl | rfl
    · obtain ⟨rfl, hmd, hfa, hfd, hrows, hcols⟩ := hcond
      exact unary_runs (xs := 0) h hc hwa hwd hroom hoka hokd hma hmd (by simp [hfa, hfd]) (sameShape_of_eq hrows hcols) rfl rfl rfl
    · obtain ⟨rfl, hmd, hfa, hfd, hrows, hcols⟩ := hcond
      exact unary_runs (xs := 0) h hc hwa hwd hroom hoka hokd hma hmd (by simp [hfa, hfd]) (sameShape_of_eq hrows hcols) rfl rfl rfl
    · obtain ⟨rfl, hmd, hfa, hfd, hrows, hcols⟩ := hcond
      exact unary_runs (xs := 0) h hc hwa hwd hroom hoka hokd hma hmd (by simp [hfd ▸ hfa, hfd]) (sameShape_of_eq hrows hcols) rfl rfl rfl
    · obtain ⟨rfl, hmd, hfa, hbits, har, hac, hrows, hcols⟩ := hcond
      exact unary_runs (xs := 0) h hc hwa hwd hroom hoka hokd hma hmd (by simp [← hfa, hbits]) (by simp [small_of_le har hac, hrows, hcols])
        rfl rfl rfl
    · obtain ⟨hmd, hfa, hfd, hrows, hcols, hpar⟩ := hcond
      exact unary_runs h hc hwa hwd hroom hoka hokd hma hmd (by rcases hfd with hfd | ⟨hfd, hfa9⟩; exacts [by simp [hfa, hfd], by simp [hfd, hfa9, isFmt4]]) (by simp [hrows, hcols])
        rfl (by simp [hpar]) rfl
  case topk =>
    subst hc hctl ha hb hd
    have hlow : fld 6 0 (xReg (tcAt s tc) xs.toNat) = (xReg (tcAt s tc) xs.toNat).toNat := fld_low (by omega)
    have hhigh : fld 63 7 (xReg (tcAt s tc) xs.toNat) = 0 := fld_high (by omega)
    refine runs_put h (c := entered _ (tcAt s tc)) ?_ rfl rfl
    refine (checked_of_clear ?_).trans (issue_of_room hroom)
    simp only [hlow, hhigh]
    simp [hoka, hokb, hokd, hma, hub, hud, hfa, hfd, hfb, hdr, hdc, sameShape_of_eq hbr hbc]
    omega
  case compress =>
    subst hc ha hb hd
    have hreads : granules (qReg (tcAt s tc) qa.toNat) :: granulesMasked (tcAt s tc) (qReg (tcAt s tc) qa.toNat) =
        [granules (qReg (tcAt s tc) qa.toNat), granules (maskWord (tcAt s tc) (qReg (tcAt s tc) qa.toNat))] :=
      congrArg (List.cons _) (if_pos hmask)
    rw [← hreads]
    refine runs_put h (c := entered _ (tcAt s tc)) ?_ rfl rfl
    refine (checked_of_clear ?_).trans (issue_of_room hroom)
    simp [hoka, hokb, hokd, hma, hub, hud, hfa, hfd, hfb, hmask, hbr, hbc, sameShape_of_eq hrows hcols]
  case rand =>
    subst hc hctl hd hl
    refine runs_tcs h (c := entered _ (tcAt s tc)) (t := { tcPut s tc (entered _ (tcAt s tc)) with items := _ }) ?_ rfl rfl rfl
    refine (checked_of_clear ?_).trans ((if_pos hroom).trans (congrArg PacerRes.next ?_))
    · have hm3 : m.toNat ≠ 3 := fun he => hm (BitVec.eq_of_toNat_eq he)
      have hfmt : (if m.toNat = 0 then decide ((regionOf (qReg (tcAt s tc) qd.toNat)).fmt ≠ 11) else !(isFmt3 (regionOf (qReg (tcAt s tc) qd.toNat)).fmt)) = false := by
        by_cases h0 : m = 0
        · subst h0
          rw [if_pos rfl] at hf
          simp [hf]
        · have h0' : m.toNat ≠ 0 := fun he => h0 (BitVec.eq_of_toNat_eq he)
          rw [if_neg h0] at hf
          rw [if_neg h0', hf]
          rfl
      simp only [clear_append, clear_cons, clear_nil, hfmt]
      simp [hm3, hok, hmd, hz, hbound]
    · simp only [h.item]
      rfl

end Sys2Proof.Machine
end

section
/-! PROOFS. The start and the completion of the matrix operations (R57, R69, R70, R73). -/
set_option Elab.async false

namespace Sys2Proof.Machine

open Sys2Proof

section
variable {s : State} {tc tag : Nat} {fl : List (Nat × Bool)} {o p : Op}

/-- What an operation waits for keeps it from starting. -/
theorem exec_operationStart_of_waits (htc : tc < 192) (hf : (tcAt s tc).sb.find? (fun p => decide (p.tag = tag)) = some o)
    (hw : canStart (tcAt s tc) o = false ∨ issuing s = false) :
    exec (.operationStart tc tag fl) s = .next (setFlaws [] s) := by
  have hno : (canStart (tcAt s tc) o && issuing s) = false := by rcases hw with h | h <;> simp [h]
  have hrun : operationStartEffect tc tag (setFlaws fl s) = setFlaws fl s := by
    simp only [operationStartEffect, show tcAt (setFlaws fl s) tc = tcAt s tc from rfl, show issuing (setFlaws fl s) = issuing s from rfl,
      hf, hno, Bool.false_eq_true, ite_false]
  show onUnit (okTc tc) (withFlaws fl (operationStartEffect tc tag) s) = _
  rw [withFlaws, hrun, okTc, decide_eq_true htc]
  rfl

/-- An accumulator operation waits for those before it to start (R71). -/
theorem exec_operationComplete_of_older (htc : tc < 192) (hf : (tcAt s tc).sb.find? (fun p => decide (p.tag = tag)) = some o)
    (ha : isAccOp o.eng = true) (hp : p ∈ olderOps (tcAt s tc) o) (hpa : isAccOp p.eng = true) (hps : p.started = false) :
    exec (.operationComplete tc tag fl) s = .next (setFlaws [] s) := by
  have hall : ((accUpTo (tcAt s tc) o).all fun q => q.started) = false := by
    refine List.all_eq_false.2 ⟨p, ?_, by simp [hps]⟩
    exact List.mem_filter.2 ⟨List.mem_append_left _ hp, hpa⟩
  have hmat : completeMatrix tc o (setFlaws fl s) = setFlaws fl s := by
    simp only [completeMatrix, show tcAt (setFlaws fl s) tc = tcAt s tc from rfl, ha, hall, Bool.false_eq_true, ite_false, ite_true]
  have hrun : operationCompleteEffect tc tag (setFlaws fl s) = setFlaws fl s := by
    simp only [operationCompleteEffect, show tcAt (setFlaws fl s) tc = tcAt s tc from rfl, hf]
    split
    · rfl
    · rcases engPath_of_isAccOp ha with he | he <;> simp only [he, hmat]
  show onUnit (okTc tc) (withFlaws fl (operationCompleteEffect tc tag) s) = _
  rw [withFlaws, hrun, okTc, decide_eq_true htc]
  rfl

end

/-- Settles O18: a start off the DMA path is `startOp`, and an accumulator operation completes alone or waits for those before it. -/
theorem matrixOperationsTakeEffect : Obligations.MatrixOperationsTakeEffect := by
  refine ⟨?mldwStart, ?waits, ?mmulStart, ?mmulComplete, ?mrdComplete, ?older⟩
  case mldwStart =>
    rintro tc tag fl _ o s htc rfl hf he hc hi
    rw [exec_operationStart_of_canStart htc hf hc hi (by simp [he, engPath])]
    simp [startOp, startRequest, bankOfOp, bankOf, startMatrix, engPath, bankRequest, he]
  case waits =>
    rintro tc tag fl _ o s htc rfl hf hw
    exact exec_operationStart_of_waits htc hf hw
  case mmulStart =>
    rintro tc tag fl _ o s htc rfl hf he hc hi
    rw [exec_operationStart_of_canStart htc hf hc hi (by simp [he, engPath])]
    simp [startOp, startRequest, bankOfOp, bankOf, startMatrix, engPath, bankRequest, he]
  case mmulComplete =>
    rintro tc tag fl _ o s htc rfl hf he hst hpf hold
    rw [exec_operationComplete_of_accumulator htc hf (by simp [he, isAccOp]) hst hpf hold]
    simp only [performAcc, he]
  case mrdComplete =>
    rintro tc tag fl _ o s htc rfl hf he hst hpf hold
    rw [exec_operationComplete_of_accumulator htc hf (by simp [he, isAccOp]) hst hpf hold]
    simp [performAcc, perfOf, engPath, he]
  case older =>
    rintro tc tag fl _ o p s htc rfl hf he hp hpa hps
    exact exec_operationComplete_of_older htc hf (by simp [he, isAccOp]) hp hpa hps

end Sys2Proof.Machine
end

section
/-! PROOFS. R106: a result in FP32 or BF16 whose exponent field is zero has a fraction of zero. -/
set_option Elab.async false

namespace Sys2Proof.Machine

open Sys2Proof

/-! Rounding to nearest -/

/-- A mantissa of `F` bits or more past its leading one rounds to no less than `2^F`. -/
theorem le_rne_log2 {m : Nat} (F : Nat) (hm : m ≠ 0) : 2 ^ F ≤ rne m (F - Nat.log2 m) := by
  have hlog : 2 ^ Nat.log2 m ≤ m := Nat.log2_self_le hm
  unfold rne
  split_ifs with hd
  · have hsh : ((F : Int) - Nat.log2 m).toNat = F - Nat.log2 m := by omega
    rw [hsh, Nat.shiftLeft_eq]
    calc 2 ^ F = 2 ^ Nat.log2 m * 2 ^ (F - Nat.log2 m) := by rw [← Nat.pow_add]; congr 1; omega
      _ ≤ m * 2 ^ (F - Nat.log2 m) := Nat.mul_le_mul_right _ hlog
  · have hsh : (-((F : Int) - Nat.log2 m)).toNat = Nat.log2 m - F := by omega
    have hq : 2 ^ F ≤ m >>> (Nat.log2 m - F) := by
      rw [Nat.shiftRight_eq_div_pow, Nat.le_div_iff_mul_le (Nat.two_pow_pos _), ← Nat.pow_add]
      exact le_of_eq_of_le (congrArg _ (by omega)) hlog
    simp only [hsh]
    split <;> omega

theorem rne_log2_le (m F : Nat) : rne m (F - Nat.log2 m) ≤ 2 ^ (F + 1) := by
  have hlt : m < 2 ^ (Nat.log2 m + 1) := Nat.lt_log2_self
  unfold rne
  split_ifs with hd
  · have hsh : ((F : Int) - Nat.log2 m).toNat = F - Nat.log2 m := by omega
    rw [hsh, Nat.shiftLeft_eq]
    calc m * 2 ^ (F - Nat.log2 m) ≤ 2 ^ (Nat.log2 m + 1) * 2 ^ (F - Nat.log2 m) := Nat.mul_le_mul_right _ hlt.le
      _ = 2 ^ (F + 1) := by rw [← Nat.pow_add]; congr 1; omega
  · have hsh : (-((F : Int) - Nat.log2 m)).toNat = Nat.log2 m - F := by omega
    have hq : m >>> (Nat.log2 m - F) < 2 ^ (F + 1) := by
      rw [Nat.shiftRight_eq_div_pow, Nat.div_lt_iff_lt_mul (Nat.two_pow_pos _), ← Nat.pow_add]
      exact lt_of_lt_of_eq hlt (congrArg _ (by omega))
    simp only [hsh]
    split <;> omega

/-- A mantissa that reaches `2^(F+1)` only by rounding up is `2^F` when one bit fewer is kept. -/
theorem rne_of_carry {m : Nat} (F : Nat) (h : 2 ^ (F + 1) ≤ rne m (F - Nat.log2 m)) :
    rne m (F - Nat.log2 m - 1) = 2 ^ F := by
  have hlt : m < 2 ^ (Nat.log2 m + 1) := Nat.lt_log2_self
  have hpos : (0 : Nat) < 2 ^ F := Nat.two_pow_pos F
  unfold rne at h
  split_ifs at h with hd
  · have hsh : ((F : Int) - Nat.log2 m).toNat = F - Nat.log2 m := by omega
    rw [hsh, Nat.shiftLeft_eq] at h
    have hup : m * 2 ^ (F - Nat.log2 m) < 2 ^ (Nat.log2 m + 1) * 2 ^ (F - Nat.log2 m) := Nat.mul_lt_mul_of_pos_right hlt (Nat.two_pow_pos _)
    rw [← Nat.pow_add, show Nat.log2 m + 1 + (F - Nat.log2 m) = F + 1 by omega] at hup
    omega
  · have hsh : (-((F : Int) - Nat.log2 m)).toNat = Nat.log2 m - F := by omega
    have hsh' : (-((F : Int) - Nat.log2 m - 1)).toNat = Nat.log2 m - F + 1 := by omega
    have hneg : ¬ 0 ≤ (F : Int) - Nat.log2 m - 1 := by omega
    have hk : 0 < Nat.log2 m - F := by omega
    have hpow : Nat.log2 m + 1 = F + 1 + (Nat.log2 m - F) := by omega
    simp only [hsh] at h
    rw [hpow, Nat.pow_add] at hlt
    simp only [rne, hneg, hsh', if_false, Nat.add_sub_cancel]
    generalize Nat.log2 m - F = k at *
    have hq : m >>> k < 2 ^ (F + 1) := by
      rw [Nat.shiftRight_eq_div_pow]
      exact Nat.div_lt_of_lt_mul (by rwa [Nat.mul_comm])
    have hhalf : 0 < 2 ^ (k - 1) := Nat.two_pow_pos _
    have hsplit : 2 ^ k = 2 * 2 ^ (k - 1) := by rw [← Nat.pow_succ']; congr 1; omega
    have hup : m >>> k = 2 ^ (F + 1) - 1 ∧ 2 ^ (k - 1) ≤ m % 2 ^ k := by split_ifs at h <;> omega
    obtain ⟨hqe, hr⟩ := hup
    have hq' : m >>> (k + 1) = 2 ^ F - 1 := by rw [Nat.shiftRight_succ, hqe]; rw [Nat.pow_succ]; omega
    have hr' : m % 2 ^ (k + 1) = 2 ^ k + m % 2 ^ k := by
      rw [Nat.pow_succ, Nat.mod_mul, ← Nat.shiftRight_eq_div_pow, hqe, Nat.pow_succ]
      have : (2 ^ F * 2 - 1) % 2 = 1 := by omega
      rw [this]; omega
    rw [hq', hr', if_pos (by left; omega)]
    omega

/-! FP32 and BF16 -/

/-- The two formats that R106 flushes. -/
def Flushed (f : Nat) : Prop := f = 6 ∨ f = 8

/-- No exponent field of zero over a fraction that is not. -/
def NotSubnormal (f r : Nat) : Prop := bitsOf (ffF f + 7) (ffF f) r = 0 → bitsOf (ffF f - 1) 0 r = 0

section
variable {f : Nat}

theorem Flushed.ffE (h : Flushed f) : ffE f = 8 := by rcases h with rfl | rfl <;> rfl

theorem Flushed.ffBias (h : Flushed f) : ffBias f = 127 := by rcases h with rfl | rfl <;> rfl

/-- What is not tiny has a code of at least the smallest normal one. -/
theorem le_rawMag {m : Nat} {e : Int} (h : Flushed f) (hm : m ≠ 0) (ht : isTiny f m e = false) : 2 ^ ffF f ≤ rawMag f m e := by
  have hq := le_rne_log2 (ffF f) hm
  have hsub : e - ((Nat.log2 m : Int) + e - ffF f) = ffF f - Nat.log2 m := by omega
  simp only [isTiny, hsub, Bool.and_eq_false_iff, decide_eq_false_iff_not, not_not, hm, false_or, not_lt] at ht
  simp only [rawMag, h.ffBias]
  generalize ffF f = F at *
  split_ifs with hlow
  · have hcarry : 2 ^ (F + 1) ≤ rne m (F - Nat.log2 m) := by
      have hne : rne m (F - Nat.log2 m) ≠ 0 := by have := Nat.two_pow_pos F; omega
      exact (Nat.le_log2 hne).1 (by omega)
    have htop : (Nat.log2 m : Int) + e = -127 := by
      have hlog : Nat.log2 (rne m (F - Nat.log2 m)) ≤ F + 1 := by
        rw [Nat.log2_eq_log_two]
        exact (Nat.log_mono_right (rne_log2_le m F)).trans_eq (Nat.log_pow (by decide) _)
      omega
    rw [show e - (1 - 127 - F) = F - Nat.log2 m - 1 by omega, rne_of_carry F hcarry, show (1 - 127 - (F : Int) + F + 127).toNat = 1 by omega]
    omega
  · rw [hsub]
    have hef : 1 ≤ ((Nat.log2 m : Int) + e - F + F + 127).toNat := by omega
    have := Nat.mul_le_mul_right (2 ^ F) hef
    omega

/-- A sign over a magnitude that is zero or no less than the smallest normal one. -/
theorem notSubnormal_of_magnitude {m : Nat} (h : Flushed f) (neg : Bool) (hm : m = 0 ∨ 2 ^ ffF f ≤ m ∧ m ≤ (2 ^ 8 - 1) * 2 ^ ffF f) :
    NotSubnormal f ((if neg then 2 ^ (ffE f + ffF f) else 0) + m) := by
  rcases h with rfl | rfl <;> cases neg <;> simp [NotSubnormal, bitsOf, ffF, ffE, Nat.shiftRight_eq_div_pow] at hm ⊢ <;> omega

theorem canonNaN_notSubnormal (h : Flushed f) : NotSubnormal f (canonNaN f) := by
  rcases h with rfl | rfl <;> exact fun hz => absurd hz (by decide)

theorem overflowCode_notSubnormal (h : Flushed f) (neg : Bool) : NotSubnormal f (overflowCode f neg) := by
  have hf4 : f ≠ 4 := by rcases h with rfl | rfl <;> decide
  rw [overflowCode, if_neg hf4, h.ffE]
  have hpos := Nat.two_pow_pos (ffF f)
  have hmag := notSubnormal_of_magnitude h neg (m := (2 ^ 8 - 1) * 2 ^ ffF f) (.inr ⟨by omega, Nat.le_refl _⟩)
  rwa [h.ffE] at hmag

/-- No result of a flushing rounding is subnormal. -/
theorem fround_notSubnormal (h : Flushed f) : ∀ v : Val, NotSubnormal f (fround f true v)
  | .nan => canonNaN_notSubnormal h
  | .inf neg => overflowCode_notSubnormal h neg
  | .fin neg m e => by
    have hflush : f = 6 ∨ f = 8 := h
    have hf4 : f ≠ 4 := by rcases h with rfl | rfl <;> decide
    have hzero := notSubnormal_of_magnitude h neg (m := 0) (.inl rfl)
    rw [Nat.add_zero] at hzero
    dsimp only [fround]
    by_cases hm : m = 0
    · rwa [if_pos hm]
    by_cases ht : isTiny f m e = true
    · rwa [if_neg hm, if_pos ⟨rfl, hflush, ht⟩]
    rw [if_neg hm, if_neg fun hc => ht hc.2.2]
    by_cases hover : overflows f m e = true
    · rw [if_pos hover]
      exact overflowCode_notSubnormal h neg
    · have hlow : 2 ^ ffF f ≤ rawMag f m e := le_rawMag h hm (by simpa using ht)
      have hhigh : rawMag f m e < (2 ^ 8 - 1) * 2 ^ ffF f := by simpa [overflows, hm, hf4, h.ffE] using hover
      rw [if_neg hover]
      exact notSubnormal_of_magnitude h neg (.inr ⟨hlow, hhigh.le⟩)

theorem convert_notSubnormal (h : Flushed f) (src a : Nat) : NotSubnormal f (convert src f a).code := by
  have hfloat : fmtIsFloat f = true := by rcases h with rfl | rfl <;> rfl
  unfold convert
  simp only [hfloat, if_true]
  split
  · split
    · exact canonNaN_notSubnormal h
    · exact overflowCode_notSubnormal h _
    · exact fround_notSubnormal h (.fin _ _ _)
  · exact fround_notSubnormal h (vofInt _)

end

/-- Settles O20: every one of these results is rounded with R106's flush, and what is not tiny rounds to a normal number. -/
theorem flushedResultsAreNeverSubnormal : Obligations.FlushedResultsAreNeverSubnormal := by
  have h6 : Flushed 6 := .inl rfl
  have h8 : Flushed 8 := .inr rfl
  refine ⟨fun a b c => ?single, fun a b c => ?brain, fun src a _ => ⟨convert_notSubnormal h8 src a, convert_notSubnormal h6 src a⟩⟩
  case single =>
    simp only [List.forall_mem_cons, List.not_mem_nil, false_implies, implies_true, and_true]
    exact ⟨fround_notSubnormal h8 _, fround_notSubnormal h8 _, fround_notSubnormal h8 _, fround_notSubnormal h8 _, fround_notSubnormal h8 _,
      fround_notSubnormal h8 _⟩
  case brain =>
    simp only [List.forall_mem_cons, List.not_mem_nil, false_implies, implies_true, and_true]
    exact ⟨fround_notSubnormal h6 _, fround_notSubnormal h6 _, fround_notSubnormal h6 _, fround_notSubnormal h6 _⟩

end Sys2Proof.Machine
end

section
/-! PROOFS. Transfers, signals and events of a tensor core (R49, R51, R57, R63, R67, R90, R219, R244). -/
set_option Elab.async false

namespace Sys2Proof.Machine

open Sys2Proof

section
variable {s t : State} {tc tag n : Nat} {fl : List (Nat × Bool)} {o p : Op} {it : Item} {sl : OpSlot}

/-- An operation's entry, replaced, is found by its tag. -/
theorem find_setOp {c : TCore} (hf : c.sb.find? (fun q => decide (q.tag = tag)) = some o) (hp : p.tag = o.tag) :
    (setOp c p).sb.find? (fun q => decide (q.tag = tag)) = some p := by
  obtain rfl : o.tag = tag := by simpa using List.find?_some hf
  simp only [setOp]
  revert hf
  induction c.sb with
  | nil => simp
  | cons q l ih =>
    by_cases hq : q.tag = o.tag
    · simp [hq, hp]
    · simpa [hq, hp] using ih

/-- A transfer's entry as its start leaves it (R90). -/
def startedDma (o : Op) (c : TCore) : Op := { o with started := true, readDone := true, buf := dmaCapture o c }

theorem dmaCapture_startRequest (o p : Op) (c : TCore) : dmaCapture o (startRequest p c) = dmaCapture o c := by
  unfold startRequest
  split <;> rfl

/-- On the DMA path a start keeps what the transfer reads of tile memory and makes its requests. -/
theorem exec_operationStart_of_dma (htc : tc < 192) (hf : (tcAt s tc).sb.find? (fun q => decide (q.tag = tag)) = some o)
    (hp : engPath o.eng = 4) (hc : canStart (tcAt s tc) o = true) (hi : issuing s = true) :
    exec (.operationStart tc tag fl) s = .next (setFlaws [] (startDma tc (startedDma o (tcAt s tc))
      (tcPut (setFlaws fl s) tc (setOp (startRequest o (tcAt s tc)) (startedDma o (tcAt s tc)))))) := by
  have hstart : startOp o (startRequest o (tcAt s tc)) = setOp (startRequest o (tcAt s tc)) (startedDma o (tcAt s tc)) := by
    simp only [startOp, hp, dmaCapture_startRequest]
    rfl
  have hreq : (startRequest o (tcAt s tc)).sb = (tcAt s tc).sb := by
    unfold startRequest
    split <;> rfl
  have hfind : (setOp (startRequest o (tcAt s tc)) (startedDma o (tcAt s tc))).sb.find? (fun q => decide (q.tag = tag)) =
      some (startedDma o (tcAt s tc)) :=
    find_setOp (o := o) (by rw [hreq, hf]) rfl
  have hne : setOp (startRequest o (tcAt s tc)) (startedDma o (tcAt s tc)) ≠ {} :=
    ne_default_of_sb (List.ne_nil_of_mem (List.mem_of_find?_eq_some hfind))
  have hrun : operationStartEffect tc tag (setFlaws fl s) = startDma tc (startedDma o (tcAt s tc))
      (tcPut (setFlaws fl s) tc (setOp (startRequest o (tcAt s tc)) (startedDma o (tcAt s tc)))) := by
    simp only [operationStartEffect, show tcAt (setFlaws fl s) tc = tcAt s tc from rfl, show issuing (setFlaws fl s) = issuing s from rfl,
      hf, hc, hi, hp, Bool.and_self, if_true, hstart, tcAt_put _ _ _ hne, hfind]
  show onUnit (okTc tc) (withFlaws fl (operationStartEffect tc tag) s) = _
  rw [withFlaws, hrun, okTc, decide_eq_true htc]
  rfl

/-- A prefetch and a signal ask for nothing as they start. -/
theorem startDma_of_handedOn (h : p.eng = .dpf ∨ p.eng = .pbsig) : startDma tc p t = t := by
  unfold startDma
  split
  · rfl
  · split
    · rfl
    · exact if_pos h

/-- The completion of an operation on the DMA path that has started and is not held back; one whose requests are out goes on all the same. -/
theorem exec_operationComplete_of_dma (htc : tc < 192) (hf : (tcAt s tc).sb.find? (fun q => decide (q.tag = tag)) = some o)
    (hp : engPath o.eng = 4) (hst : o.started = true) (hb : ¬(behindHeld (tcAt s tc) o = true ∧ o.asked = false)) :
    exec (.operationComplete tc tag fl) s = .next (setFlaws []
      (if o.eng = .pbsig then completeSignal tc o (setFlaws fl s) else completeDma tc o (setFlaws fl s))) := by
  have hdrly : o.eng ≠ .drly := by
    intro h
    simp [h, engPath] at hp
  have hrun : operationCompleteEffect tc tag (setFlaws fl s) =
      if o.eng = .pbsig then completeSignal tc o (setFlaws fl s) else completeDma tc o (setFlaws fl s) := by
    have hgo : (behindHeld (tcAt s tc) o && !o.asked) = false := by simpa using hb
    simp [operationCompleteEffect, show tcAt (setFlaws fl s) tc = tcAt s tc from rfl, hf, hst, hdrly, hp, hgo]
  show onUnit (okTc tc) (withFlaws fl (operationCompleteEffect tc tag) s) = _
  rw [withFlaws, hrun, okTc, decide_eq_true htc]
  rfl

/-- A completion that comes too early changes nothing. -/
theorem exec_operationComplete_of_waits (htc : tc < 192) (hf : (tcAt s tc).sb.find? (fun q => decide (q.tag = tag)) = some o)
    (hw : o.started = false ∨ o.eng = .drly ∨ (behindHeld (tcAt s tc) o = true ∧ o.asked = false)) :
    exec (.operationComplete tc tag fl) s = .next (setFlaws [] s) := by
  have hrun : operationCompleteEffect tc tag (setFlaws fl s) = setFlaws fl s := by
    simp only [operationCompleteEffect, show tcAt (setFlaws fl s) tc = tcAt s tc from rfl, hf]
    refine if_pos ?_
    rcases hw with h | h | ⟨h, ha⟩ <;> simp [*]
  show onUnit (okTc tc) (withFlaws fl (operationCompleteEffect tc tag) s) = _
  rw [withFlaws, hrun, okTc, decide_eq_true htc]
  rfl

/-- PBSIG waits for the core's earlier stores (R67, R219). -/
theorem completeSignal_of_older (hp : p ∈ olderOps (tcAt s tc) o) (he : p.eng = .dst ∨ p.eng = .dvout ∨ p.eng = .drly) :
    completeSignal tc o s = s := by
  refine if_pos (List.any_eq_true.2 ⟨p, hp, ?_⟩)
  rcases he with h | h | h <;> simp [h]

theorem completeSignal_of_none (h : ∀ p ∈ olderOps (tcAt s tc) o, p.eng ≠ .dst ∧ p.eng ≠ .dvout ∧ p.eng ≠ .drly) :
    completeSignal tc o s = signalBaton (fld 12 0 o.ctl) (o.ctl2.truncate 32) (dropOp tc o.tag s) := by
  refine if_neg ?_
  simp only [List.any_eq_true, not_exists, not_and]
  intro p hp
  obtain ⟨h1, h2, h3⟩ := h p hp
  simp [h1, h2, h3]

/-- A completion whose operation is on no other path than a transfer's own, with its item and its slot. -/
theorem completeDma_of_dpf (hi : (tcAt s tc).item = some n) (hit : itemAt s n = some it) (he : o.eng = .dpf)
    (hs : itemSlot it o.slot = some sl) : completeDma tc o s = dropOp tc o.tag (dpfEffect tc n it o sl s) := by
  simp only [completeDma, hi, hit, he, hs, if_true, Option.getD_some]

/-- A transfer that has nothing to wait for and nothing to ask of other chips moves its bytes. -/
theorem completeDma_of_moved {pages : List (Nat × Nat × Bool)} {x : Xfer} {y : Nat × Bool × State}
    (hi : (tcAt s tc).item = some n) (hit : itemAt s n = some it) (he : o.eng ≠ .dpf) (hs : itemSlot it o.slot = some sl)
    (hpg : engPages tc false it.ctx (some n) sl.access (pagesOf (dmaRanges o sl)) s = (some pages, t)) (hx : x = xferOf tc n it o sl pages t)
    (ha : o.asked = false) (hw : xferWaits t x o sl = false) (hfar : asksFar t x o sl = false) (hout : awaits t tc o.tag = false)
    (hy : y = dmaMove x o sl t) :
    completeDma tc o s =
      if y.2.1 then memFault tc (dropOp tc o.tag (tcMod y.2.2 tc (perfAdd (if dmaReads o.eng then 2 else 3) y.1)))
      else dropOp tc o.tag (tcMod y.2.2 tc (perfAdd (if dmaReads o.eng then 2 else 3) y.1)) := by
  subst hx hy
  simp only [completeDma, hi, hit, he, hs, ha, if_false, Option.getD_some, Bool.false_eq_true, dmaAccess, hpg, hw, hfar, hout, Bool.and_false,
    Bool.false_and]

end

/-- Settles O21: the operations of the DMA path, each by its equation, and the events that reach a core from outside it. -/
theorem transfersAndEventsReachTheCore : Obligations.TransfersAndEventsReachTheCore := by
  refine ⟨?start, ?moved, ?dpf, ?waits, ?signalWaits, ?signal, ?promote, ?errorResponse, ?fastEvent⟩
  case start =>
    rintro tc tag fl _ o _ s htc rfl hf hp hc hi rfl
    refine ⟨exec_operationStart_of_dma htc hf hp hc hi, fun he => ?_⟩
    have hreq : startRequest o (tcAt s tc) = tcAt s tc := by rcases he with h | h <;> simp [startRequest, bankOfOp, h]
    rw [exec_operationStart_of_dma htc hf hp hc hi, startDma_of_handedOn (p := startedDma o (tcAt s tc)) he, hreq]
    rfl
  case moved =>
    rintro tc tag n fl it _ o sl pages x y t u s htc rfl hi hit hf he hst hb hs hpg hx ha hw hfar hout hy rfl
    obtain rfl : o.tag = tag := by simpa using List.find?_some hf
    have hp : engPath o.eng = 4 := by rcases he with h | h | h | h <;> rw [h] <;> rfl
    have hdpf : o.eng ≠ .dpf := by rcases he with h | h | h | h <;> rw [h] <;> decide
    have hsig : o.eng ≠ .pbsig := by rcases he with h | h | h | h <;> rw [h] <;> decide
    rw [exec_operationComplete_of_dma htc hf hp hst (by simp [hb]), if_neg hsig,
      completeDma_of_moved (s := setFlaws fl s) hi hit hdpf hs hpg hx ha hw hfar hout hy]
  case dpf =>
    rintro tc tag n fl it _ o sl s htc rfl hi hit hf he hst hb hs
    obtain rfl : o.tag = tag := by simpa using List.find?_some hf
    rw [exec_operationComplete_of_dma htc hf (by rw [he]; rfl) hst (by simp [hb]), if_neg (by rw [he]; decide),
      completeDma_of_dpf (s := setFlaws fl s) hi hit he hs]
  case waits =>
    rintro tc tag fl _ o s htc rfl hf hw
    exact exec_operationComplete_of_waits htc hf hw
  case signalWaits =>
    rintro tc tag fl _ o p s htc rfl hf he hp hpe
    by_cases hw : o.started = false ∨ o.eng = .drly ∨ (behindHeld (tcAt s tc) o = true ∧ o.asked = false)
    · exact exec_operationComplete_of_waits htc hf hw
    · simp only [not_or, Bool.not_eq_false] at hw
      obtain ⟨hst, -, hb⟩ := hw
      rw [exec_operationComplete_of_dma htc hf (by rw [he]; rfl) hst hb, if_pos he, completeSignal_of_older (s := setFlaws fl s) hp hpe]
      rfl
  case signal =>
    rintro tc tag fl _ o s htc rfl hf he hst hb hold
    obtain rfl : o.tag = tag := by simpa using List.find?_some hf
    rw [exec_operationComplete_of_dma htc hf (by rw [he]; rfl) hst (by simp [hb]), if_pos he, completeSignal_of_none (s := setFlaws fl s) hold]
    rfl
  case promote =>
    rintro tc r s htc hr hpres
    show onUnit (okTc tc) (onlyIf (decide (r < 6) && tcPresent s tc) _ s) = _
    rw [okTc, decide_eq_true htc, decide_eq_true hr, hpres]
    rfl
  case errorResponse =>
    rintro tc n code pa it fetch s htc hi hit hs hd hlo hhi
    have hrun : dmaErrorEffect tc code pa s = memFault tc (memErr code pa ⟨1, tc, some n⟩ s) := by
      have h0 : code ≠ 0 := by omega
      have h6 : ¬ 6 < code := by omega
      simp [dmaErrorEffect, hi, h0, h6]
    show onUnit (okTc tc) (dmaErrorEffect tc code pa s) = _
    rw [hrun, okTc, decide_eq_true htc, onUnit_true]
    exact congrArg _ (memFault_of_running (by rw [tcAt_congr (memErr_tcs ..), hi]; rfl) (by rw [tcAt_congr (memErr_tcs ..), hs])
      (by rw [tcAt_congr (memErr_tcs ..), hd]))
  case fastEvent =>
    rintro tc src rest _ s htc rfl hpend hlive hfe hin hstall
    have hrun : fastEventEffect tc s = tcPut s tc { swapBanks (tcAt s tc) with
        pend := rest, fepc := (tcAt s tc).pc, festat := src, pc := (tcAt s tc).fevec, inHandler := true } := by
      have hgo : (pacerLive (tcAt s tc) && decide ((tcAt s tc).fevec ≠ 0) && !(tcAt s tc).inHandler && decide ((tcAt s tc).stall = none)) = true := by
        rw [hlive, decide_eq_true hfe, hin, decide_eq_true hstall]
        rfl
      simp only [fastEventEffect, hpend, hgo, if_true]
    show onUnit (okTc tc) (fastEventEffect tc s) = _
    rw [hrun, okTc, decide_eq_true htc, onUnit_true]

end Sys2Proof.Machine
end

section
/-! PROOFS. The entries of the Relay (R127 to R129, R140, R228): their statement leaves out what the start of a group does with a chip list
that cannot be read. -/
set_option Elab.async false

namespace Sys2Proof.Machine

open Sys2Proof

/-- Relay group 0: bound, of one rank, its chip list past the end of every memory. -/
def unreadableList : State := { groups := [(0, { gctl := 0x800, gshape := 1, gmap := 0xFFFFFFFFFFF80 })] }

/-- Refutes O22: a group of scope 1 whose chip list lies in no memory starts with the error of reading it logged (R128, log 147), which
the statement's first clause leaves out. -/
theorem not_relayEntriesStartAndBind : ¬ Obligations.RelayEntriesStartAndBind := by
  rintro ⟨hstart, -⟩
  have hexec := hstart 0 0x209 _ unreadableList (by decide) (by decide) (by decide) rfl (by decide +kernel) (by decide +kernel)
  have hout := congrArg (fun y => (witNext y).out) hexec
  exact absurd hout (by decide +kernel)

end Sys2Proof.Machine
end

section
/-! PROOFS. The rounds of the Relay (R132 to R139). -/
set_option Elab.async false

namespace Sys2Proof.Machine

open Sys2Proof

section
variable {s : State} {tc tag n k rank l m : Nat} {o : Op} {g : Group} {r : Round} {v : List Nat}

/-! Acceptance -/

/-- A contribution that no other of its rank has to go before takes its own round (R134). -/
theorem takeEarliest_of_own (h : ∀ x ∈ (groupAt s n).rounds, x.num ≠ k → ∀ w ∈ x.waiting, w.2.2 = rank → waitsAccept s w = false) :
    takeEarliest n rank tc tag k s = s := by
  unfold takeEarliest
  dsimp only
  split
  next => rfl
  next r hr =>
    split
    next => rfl
    next w hw =>
      refine if_pos (Classical.byContradiction fun hne => ?_)
      have hwait := List.find?_some hw
      rw [Bool.and_eq_true, decide_eq_true_eq] at hwait
      have hno := h r (List.mem_of_find?_eq_some hr) hne w (List.mem_of_find?_eq_some hw) hwait.1
      exact Bool.false_ne_true (hno.symm.trans hwait.2)

/-- A DRLY's entry once its contribution is accepted (R133). -/
def acceptedOp (o : Op) : Op := { o with started := true, readDone := true, accepted := true }

/-- The Relay's round with a rank's elements. -/
def contributed (g : Group) (c : TCore) (o : Op) (r : Round) : Round :=
  { r with parts := aput r.parts (fld 35 16 o.ctl) (if bringsData g (fld 35 16 o.ctl) then regionElems c.tile (regionOf o.qa) else []) }

theorem acceptNow_of_ready (hf : (tcAt s tc).sb.find? (fun p => decide (p.tag = tag) && decide (p.eng = .drly)) = some o)
    (hg : g = groupAt s (fld 9 0 o.ctl)) (hr : roundAt g o.round = some r) (ha : o.accepted = false)
    (hc : canStart (tcAt s tc) { o with started := false } = true) (hround : o.round ≤ g.ground + 1) (hd : doneAtAccept g (fld 35 16 o.ctl) = false) :
    acceptNow tc tag s =
      tcPut (groupPut s (fld 9 0 o.ctl) (roundPut g (contributed g (tcAt s tc) o r))) tc (setOp (tcAt s tc) (acceptedOp o)) := by
  subst hg
  have hgo : (o.accepted || !(canStart (tcAt s tc) { o with started := false }) || decide ((groupAt s (fld 9 0 o.ctl)).ground + 1 < o.round)) = false :=
    Bool.or_eq_false_iff.2 ⟨Bool.or_eq_false_iff.2 ⟨ha, by rw [hc]; rfl⟩, decide_eq_false (by omega)⟩
  simp only [acceptNow, hf, hr, hgo, hd, Bool.false_eq_true, if_false]
  rfl

/-- No entry of its tag is left that waits for acceptance. -/
theorem any_unaccepted_setOp (c : TCore) (htag : o.tag = tag) :
    ((setOp c (acceptedOp o)).sb.any fun p => decide (p.tag = tag) && !p.accepted) = false := by
  subst htag
  simp only [setOp, List.any_map, List.any_eq_false]
  intro p _
  by_cases hp : p.tag = o.tag <;> simp [hp, acceptedOp]

/-! Nodes -/

/-- Only a barrier across boards is gathered (R358). -/
theorem gatherCheck_of_ungathered (h : gKind (groupAt s n) ≠ 4 ∨ gScope (groupAt s n) ≠ 2) : gatherCheck n k s = s := by
  unfold gatherCheck
  dsimp only
  split
  · rfl
  · refine if_pos ?_
    rcases h with h | h <;> simp [h]

theorem roundPut_gctl (x : Group) (r : Round) : (roundPut x r).gctl = x.gctl := by
  unfold roundPut
  split <;> rfl

theorem ne_default_of_valid (h : gValid g = true) : g ≠ {} := by
  rintro rfl
  cases h

/-! Delivery -/

/-- A core whose DRLY has its result (R138). -/
def delivered (g : Group) (o : Op) (v : List Nat) (tag : Nat) (c : TCore) : TCore :=
  { c with
    tile := if getsResult g (fld 35 16 o.ctl) then regionPut c.tile (regionOf o.qd) v else c.tile
    sb := c.sb.filter fun p => decide (p.tag ≠ tag) }

theorem dropWaiting_of_round (hg : g = groupAt s n) (hr : roundAt g k = some r) :
    dropWaiting n k tc tag s =
      groupPut s n (roundPut g { r with waiting := r.waiting.filter fun w => !(decide (w.1 = tc) && decide (w.2.1 = tag)) }) := by
  subst hg
  simp only [dropWaiting, hr]

end

/-- Settles O23: each command of a round by its equation. -/
theorem relayRoundsFormTheirResult : Obligations.RelayRoundsFormTheirResult := by
  refine ⟨?accept, ?combine, fun g r l m a b hthere ha hb => ?both, fun g r l m hthere => ?alone, ?deliver, ?complete⟩
  case accept =>
    rintro tc tag _ _ _ o _ r s htc rfl hf rfl rfl rfl hr ha hc hround hd hown
    have htag : o.tag = tag := by
      have h := List.find?_some hf
      rw [Bool.and_eq_true, decide_eq_true_eq] at h
      exact h.1
    have hne : setOp (tcAt s tc) (acceptedOp o) ≠ {} :=
      ne_default_of_sb (by simpa [setOp] using List.ne_nil_of_mem (List.mem_of_find?_eq_some hf))
    have hrun : relayAcceptEffect tc tag s = tcPut (groupPut s (fld 9 0 o.ctl) (roundPut (groupAt s (fld 9 0 o.ctl))
        (contributed (groupAt s (fld 9 0 o.ctl)) (tcAt s tc) o r))) tc (setOp (tcAt s tc) (acceptedOp o)) := by
      simp only [relayAcceptEffect, hf, ha, takeEarliest_of_own hown, acceptNow_of_ready hf rfl hr ha hc hround hd, tcAt_put _ _ _ hne,
        any_unaccepted_setOp _ htag, Bool.false_eq_true, if_false]
    show onUnit (okTc tc) (relayAcceptEffect tc tag s) = _
    rw [hrun, okTc, decide_eq_true htc]
    rfl
  case combine =>
    rintro g k l m _ r v s hg rfl hr hv hl hthere hhere hnew hform hclimb hkind
    have hput : groupAt (groupPut s g (roundPut (groupAt s g) { r with nodes := r.nodes ++ [(l, m, v)] })) g =
        roundPut (groupAt s g) { r with nodes := r.nodes ++ [(l, m, v)] } :=
      groupAt_put _ _ _ (ne_default_of_valid (by rw [gValid, roundPut_gctl]; exact hv))
    have hnone : (r.nodes.any fun e => decide (e.1 = l) && decide (e.2.1 = m)) = false := by simpa using hnew
    have hrun : relayCombineEffect g k l m s = groupPut s g (roundPut (groupAt s g) { r with nodes := r.nodes ++ [(l, m, v)] }) := by
      simp only [relayCombineEffect, hr, hv, hthere, hhere, hnone, decide_eq_false (Nat.not_lt.2 hl), hform, hclimb, Bool.not_true, Bool.or_self,
        Bool.false_eq_true, if_false]
      refine gatherCheck_of_ungathered ?_
      rw [hput, gKind, gScope, roundPut_gctl]
      exact hkind
    show onUnit (okGroup g) (relayCombineEffect g k l m s) = _
    rw [hrun, okGroup, decide_eq_true hg]
    rfl
  case both => simp only [formNode, hthere, if_true, ha, hb, combineNodes]
  case alone => simp only [formNode, hthere, Bool.false_eq_true, if_false]
  case deliver =>
    rintro tc tag _ _ _ o _ r v s htc rfl hf rfl rfl rfl hr hroot ha hround
    have hne : { tcAt s tc with tile := regionPut (tcAt s tc).tile (regionOf o.qd) v } ≠ ({} : TCore) :=
      ne_default_of_sb (List.ne_nil_of_mem (List.mem_of_find?_eq_some hf))
    have hdrop : dropOp tc tag (if getsResult (groupAt s (fld 9 0 o.ctl)) (fld 35 16 o.ctl) then
        tcPut s tc { tcAt s tc with tile := regionPut (tcAt s tc).tile (regionOf o.qd) v } else s) =
        tcPut s tc (delivered (groupAt s (fld 9 0 o.ctl)) o v tag (tcAt s tc)) := by
      unfold delivered
      split
      · exact tcMod_tcPut _ _ _ _ hne
      · rfl
    have hrun : relayDeliverEffect tc tag s = dropWaiting (fld 9 0 o.ctl) o.round tc tag
        (tcPut s tc (delivered (groupAt s (fld 9 0 o.ctl)) o v tag (tcAt s tc))) := by
      simp only [relayDeliverEffect, hf, hr, hroot, ha, decide_eq_false (not_not.2 hround), Bool.not_true, Bool.or_self, Bool.false_eq_true, if_false,
        hdrop]
    show onUnit (okTc tc) (relayDeliverEffect tc tag s) = _
    rw [hrun, dropWaiting_of_round (s := tcPut s tc _) (g := groupAt s (fld 9 0 o.ctl)) rfl hr, okTc, decide_eq_true htc]
    rfl
  case complete =>
    rintro g _ r v s hg rfl hr hi hroot hv hwait hscope hbit
    have hrun : relayRoundEffect g s = groupPut s g (gSetState (if ((groupAt s g).rounds.filter fun y => decide (y.num ≠ r.num)) = [] then 0 else 1)
        { groupAt s g with rounds := (groupAt s g).rounds.filter fun y => decide (y.num ≠ r.num), ground := (groupAt s g).ground + 1 }) := by
      simp only [relayRoundEffect, hr, hroot, hv, hi, hwait, hbit, sendDown, hscope, true_or, if_true, ne_eq, not_true, decide_false, Bool.not_true, Bool.or_self,
        Bool.false_eq_true, if_false]
    show onUnit (okGroup g) (relayRoundEffect g s) = _
    rw [hrun, okGroup, decide_eq_true hg]
    rfl

end Sys2Proof.Machine
end

section
/-! PROOFS. The sequence slots (R150, R228). -/
set_option Elab.async false

namespace Sys2Proof.Machine

open Sys2Proof

/-- A write on a slot there is completes. -/
theorem onUnit_okSlot {n : Nat} (h : n < 64) (t : State) : onUnit (okSlot n) t = .next t := by
  rw [okSlot, decide_eq_true h, onUnit_true]

/-- Settles O24: each command of a slot by its equation. -/
theorem sequenceSlotsHoldKeysAndBindings : Obligations.SequenceSlotsHoldKeysAndBindings := by
  refine ⟨fun n v s hn => ⟨onUnit_okSlot hn _, onUnit_okSlot hn _⟩, fun n s hn => ⟨onUnit_okSlot hn _, rfl⟩, fun n v s hn hname hnew => ?bound,
    fun n v s hn hname hnew => ?named⟩
  case bound =>
    refine (onUnit_okSlot hn _).trans (congrArg _ ?_)
    simp [slotWrite, hname, hnew]
  case named =>
    refine (onUnit_okSlot hn _).trans (congrArg _ ?_)
    simp [slotWrite, hname, hnew]

end Sys2Proof.Machine
end

section
/-! SUPPORT. Objects that are written, and objects that are read. -/
set_option Elab.async false

namespace Sys2Proof.Machine

open Sys2Proof

theorem tget_eq_aget {α : Type} (d : α) (t : Tab α) (i : Nat) : tget d t i = (aget t i).getD d := by
  induction t with
  | nil => rfl
  | cons e r ih =>
    obtain ⟨k, v⟩ := e
    by_cases h : k = i <;> simp [tget, aget, h, ih]

theorem oget_eq_tget (s : State) (i j : Nat) : oget s i j = tget (objDefault i j) s.obj (objKey i j) := by
  rw [oget, tget_eq_aget]
  cases aget s.obj (objKey i j) <;> rfl

/-- A write of one object leaves the others; the default that it takes out of the table is its own. -/
theorem aget_tset_ne {α : Type} [DecidableEq α] (d v : α) (i j : Nat) (n : j ≠ i) (t : Tab α) : aget (tset d t i v) j = aget t j := by
  induction t with
  | nil => unfold tset; split <;> simp [aget, n.symm]
  | cons e r ih =>
    obtain ⟨k, w⟩ := e
    unfold tset
    split_ifs with h1 h2 h3 h4
    · rfl
    · simp [aget, n.symm]
    · subst h3; simp [aget, n.symm]
    · subst h3; simp [aget, n.symm]
    · by_cases hk : k = j <;> simp [aget, hk, ih]

theorem oget_oset_ne (s : State) {i j i' j' : Nat} (v : Nat) (h : objKey i' j' ≠ objKey i j) : oget (oset s i j v) i' j' = oget s i' j' := by
  have hkey : aget (oset s i j v).obj (objKey i' j') = aget s.obj (objKey i' j') := aget_tset_ne _ _ _ _ h _
  rw [oget, hkey]
  rfl

end Sys2Proof.Machine
end

section
/-! SUPPORT. What the operations of the time base leave in it: what follows a change of frame time or of state, items released and ended,
does not touch it. -/
set_option Elab.async false

namespace Sys2Proof.Machine

open Sys2Proof

theorem settleAll_tb (s : State) : (settleAll s).tb = s.tb := (settleAll_did (W := but 27) rfl (.refl s)).tb rfl
theorem timePasses_tb (s : State) : (timePasses s).tb = s.tb := (timePasses_did (W := but 27) rfl (.refl s)).tb rfl
theorem scRaise_tb (k : Nat) (d : W32) (s : State) : (scRaise k d s).tb = s.tb := (scRaise_did (W := but 27) rfl (.refl s)).tb rfl
theorem eclCapture_tb (s : State) : (eclCapture s).tb = s.tb := (eclCapture_did (W := but 27) rfl (.refl s)).tb rfl
theorem bumpObj_tb (i j w k : Nat) (s : State) : (bumpObj i j w k s).tb = s.tb := (bumpObj_did (W := but 27) rfl (.refl s)).tb rfl

/-- With no item held nothing comes due. -/
theorem timePasses_of_empty {s : State} (h : s.items = []) : timePasses s = s := by
  simp [timePasses, itemNums, h, settleAll, settle]

theorem setNow_tb (t : W64) (s : State) : (setNow t s).tb = { s.tb with now := t } := by
  rw [setNow, timePasses_tb]
  split
  · simp only [tbMod, eclCapture_tb]
  · rfl

/-- A transition of state, to one it does not stand in (R161). -/
def goneTo (st : Nat) (b : TimeBase) : TimeBase := { b with state := st, accepted := false, slewing := if st = 1 then b.slewing else false }

theorem tbGo_tb {st : Nat} {s : State} (h : s.tb.state ≠ st) : (tbGo st s).tb = goneTo st s.tb := by
  rw [tbGo, if_neg h, settleAll_tb, scRaise_tb]
  rfl

theorem tbStep_tb (t : W64) (s : State) :
    (tbStep t s).tb = { s.tb with err := 0, now := t, raster := comingRaster s, pendRaster := none } := by
  simp only [tbStep, tbMod, setNow_tb, bumpObj_tb, applyRaster]
  rfl

/-! Frame boundaries -/

theorem setNow_of_notDue {t : W64} {s : State} (h : eclDue s t = false) : setNow t s = timePasses (tbMod (fun b => { b with now := t }) s) := by
  rw [setNow, h]
  rfl

/-- The state once the raster and frame time `t` of a boundary stand, and what they make due is done. -/
def bounded (t : W64) (s : State) : State := timePasses { s with tb := { s.tb with raster := comingRaster s, pendRaster := none, now := t } }

theorem bounded_tb (t : W64) (s : State) : (bounded t s).tb = { s.tb with raster := comingRaster s, pendRaster := none, now := t } := timePasses_tb _

theorem setNow_applyRaster {s : State} {t : W64} (hecl : eclDue s t = false) : setNow t (applyRaster s) = bounded t s :=
  setNow_of_notDue (s := applyRaster s) hecl

/-- A boundary that no accepted step falls on. -/
theorem atBoundary_of_noStep {s : State} {t : W64} (ht : t = nextFrame s.tb.now) (hecl : eclDue s t = false)
    (hstep : s.tb.ref = 0 ∨ ¬(s.tb.state = 4 ∧ s.tb.accepted = true)) : atBoundary s = bounded t s := by
  have hno : (decide (s.tb.ref ≠ 0) && decide (s.tb.state = 4) && s.tb.accepted) = false := by
    rcases hstep with h | h
    · simp [h]
    · rw [Bool.and_assoc, Bool.and_eq_false_iff]
      exact .inr (by simpa using h)
  have hnow : nextFrame (applyRaster s).tb.now = t := ht.symm
  rw [atBoundary, hnow, setNow_applyRaster hecl]
  refine if_neg ?_
  rw [bounded_tb]
  exact ne_true_of_eq_false hno

/-- The boundary at which an accepted step is applied (R166). -/
theorem atBoundary_of_step {s : State} {t : W64} (ht : t = nextFrame s.tb.now) (hecl : eclDue s t = false) (href : s.tb.ref ≠ 0)
    (hst : s.tb.state = 4) (hacc : s.tb.accepted = true) :
    atBoundary s = tbGo 1 (tbStep (ofTicks (bounded t s) ((ticksOf (bounded t s) t : Int) + s.tb.err).toNat) (bounded t s)) := by
  have hyes : (decide (s.tb.ref ≠ 0) && decide (s.tb.state = 4) && s.tb.accepted) = true := by simp [href, hst, hacc]
  have hnow : nextFrame (applyRaster s).tb.now = t := ht.symm
  rw [atBoundary, hnow, setNow_applyRaster hecl]
  refine (if_pos ?_).trans ?_
  · rw [bounded_tb]
    exact hyes
  · simp only [bounded_tb]

theorem ticksOf_congr {s u : State} (h : s.tb = u.tb) (t : W64) : ticksOf s t = ticksOf u t := by simp only [ticksOf, rasterLines, h]

theorem ofTicks_congr {s u : State} (h : s.tb = u.tb) (k : Nat) : ofTicks s k = ofTicks u k := by simp only [ofTicks, rasterLines, h]

/-- A boundary at which no lock and no Eclipse comes due is that of the raster. -/
theorem frameBoundaryEffect_of_noLock {s : State} (hon : s.tb.on = true) (hlock : lockDue s = none)
    (hecl : eclDue s (nextFrame s.tb.now) = false) : frameBoundaryEffect s = atBoundary s := by
  have hby : lockBy s (ticksOf s (nextFrame s.tb.now)) = false := by rw [lockBy, hlock]
  simp only [frameBoundaryEffect, hon, hby, hecl, Bool.not_true, Bool.false_eq_true, if_false]

/-! References -/

/-- The reference in use is lost while the time base is locked to it: HOLDOVER (R161). -/
theorem tbRecheck_of_lost {s : State} (hlost : selectedRef s = 0) (href : s.tb.ref ≠ 0) (hst : s.tb.state = 1) :
    (tbRecheck s).tb = { s.tb with ref := 0, state := 2, accepted := false, slewing := false } := by
  have hgo : tbRecheck s = tbGo 2 (tbMod (fun b => { b with ref := 0 }) s) := by
    rw [tbRecheck, if_pos ⟨href, fun h => href (h.symm.trans hlost)⟩, tbLost]
    exact if_pos hst
  rw [hgo, tbGo_tb (by show s.tb.state ≠ 2; omega)]
  rfl

theorem tbRecheck_of_standing {s : State} (h : s.tb.ref = 0 ∨ selectedRef s = s.tb.ref) : tbRecheck s = s :=
  if_neg fun ⟨h0, h1⟩ => h.elim h0 h1

theorem selectedRef_of_fsync {s : State} (hv : s.tb.fsValid = true) (hsrc : oget s 0x6000 1 ≤ 1) : selectedRef s = 1 := by
  have h : oget s 0x6000 1 = 0 ∨ oget s 0x6000 1 = 1 := by omega
  unfold selectedRef
  rcases h with h | h <;> simp [h, hv]

theorem selectedRef_of_noFsync {s : State} (hv : s.tb.fsValid = false) (hsrc : oget s 0x6000 1 = 1) : selectedRef s = 0 := by
  simp [selectedRef, hsrc, hv]

theorem selectedRef_of_noPtp {s : State} (hv : s.tb.ptpValid = false) (hsrc : oget s 0x6000 1 = 2) : selectedRef s = 0 := by
  simp [selectedRef, hsrc, hv]

/-- Frame sync in use stands while it is valid and selected. -/
theorem standing_of_fsync {s t : State} (h : s.tb.ref = 0 ∨ (s.tb.ref = 1 ∧ s.tb.fsValid = true ∧ oget s 0x6000 1 ≤ 1))
    (href : t.tb.ref = s.tb.ref) (hv : t.tb.fsValid = s.tb.fsValid) (ho : oget t 0x6000 1 = oget s 0x6000 1) : tbRecheck t = t := by
  refine tbRecheck_of_standing ?_
  rw [href]
  rcases h with h | ⟨h1, h2, h3⟩
  · exact .inl h
  · exact .inr (by rw [h1]; exact selectedRef_of_fsync (by rw [hv, h2]) (by rw [ho]; exact h3))

/-- The first lock on frame sync, at its edge (R161). -/
theorem onReference_locks {ref : W64} {s : State} (hsel : selectedRef s = 1) (hst : s.tb.state = 0) :
    (onReference 1 ref true s).tb = { s.tb with
      ref := 1, err := 0, now := ref, raster := comingRaster s, pendRaster := none, state := 1, accepted := false } := by
  have hrun : onReference 1 ref true s = tbGo 1 (tbStep ref (setPhase ((ticksOf s ref : Int) - ticksOf s s.tb.now) (tbMod (fun b => { b with ref := 1 }) s))) := by
    simp only [onReference, hsel, ne_eq, not_true, if_false, setPhase, oset_tb, tbMod, hst, if_true]
  have hne : (tbStep ref (setPhase ((ticksOf s ref : Int) - ticksOf s s.tb.now) (tbMod (fun b => { b with ref := 1 }) s))).tb.state ≠ 1 := by
    rw [tbStep_tb]
    show s.tb.state ≠ 1
    omega
  rw [hrun, tbGo_tb hne, tbStep_tb]
  rfl

/-- What a Sync leaves of PTP (R165). -/
def SamePtp (b c : TimeBase) : Prop := c.ptpGood = b.ptpGood ∧ c.ptpValid = b.ptpValid ∧ c.ptpSyncPair = b.ptpSyncPair

theorem SamePtp.refl (b : TimeBase) : SamePtp b b := ⟨rfl, rfl, rfl⟩

theorem SamePtp.trans {a b c : TimeBase} (h : SamePtp a b) (k : SamePtp b c) : SamePtp a c := by
  obtain ⟨h1, h2, h3⟩ := h
  obtain ⟨k1, k2, k3⟩ := k
  exact ⟨k1.trans h1, k2.trans h2, k3.trans h3⟩

theorem tbGo_samePtp (st : Nat) (s : State) : SamePtp s.tb (tbGo st s).tb := by
  by_cases h : s.tb.state = st
  · rw [tbGo, if_pos h]
    exact .refl _
  · rw [tbGo_tb h]
    exact ⟨rfl, rfl, rfl⟩

theorem tbStep_samePtp (t : W64) (s : State) : SamePtp s.tb (tbStep t s).tb := by
  rw [tbStep_tb]
  exact ⟨rfl, rfl, rfl⟩

theorem onReference_samePtp (src : Nat) (ref : W64) (e : Bool) (s : State) : SamePtp s.tb (onReference src ref e s).tb := by
  have hslew : ∀ (f : TimeBase → Bool) (t : State), SamePtp t.tb (tbMod (fun b => { b with slewing := f b }) t).tb := fun _ _ => ⟨rfl, rfl, rfl⟩
  have hphase : ∀ d : Int, SamePtp s.tb (setPhase d (tbMod (fun b => { b with ref := src }) s)).tb := fun _ => ⟨rfl, rfl, rfl⟩
  unfold onReference
  split
  · exact .refl _
  dsimp only
  refine (hphase ((ticksOf s ref : Int) - ticksOf s s.tb.now)).trans ?_
  generalize setPhase _ _ = t
  split
  · split
    · exact (tbStep_samePtp _ _).trans (tbGo_samePtp _ _)
    · exact .refl _
  · split
    · exact hslew (fun _ => _) t
    · exact (tbGo_samePtp _ _).trans (tbGo_samePtp _ _)
  · split
    · exact (hslew (fun _ => _) t).trans (tbGo_samePtp _ _)
    · exact tbGo_samePtp _ _
  · split
    · exact (hslew (fun _ => _) t).trans (tbGo_samePtp _ _)
    · exact tbGo_samePtp _ _
  · exact .refl _

/-! Messages of PTP -/

theorem ptpFrom_of_mine {s : State} {d : Nat} {m : W64} (hon : s.tb.on = true) (hd : d = oget s 0x6003 1) (hseen : s.tb.ptpSeen = true)
    (hm : s.tb.ptpMaster = m) : ptpFrom s d m = true := by
  simp [ptpFrom, ptpMine, hon, ← hd, hseen, hm]

/-- The time base as a Sync of these instants leaves it before its offset is judged. -/
def synced (o r : Nat) (b : TimeBase) : TimeBase :=
  { b with
    ptpSyncPair := some (o, r), ptpReceipt := none
    ptpGood := if ((r : Int) - o - b.ptpDelay).natAbs ≤ 100 then min 16 (b.ptpGood + 1) else 0 }

/-- The state before its offset is judged. -/
def offsetNoted (o r : Nat) (s : State) : State := oset { s with tb := synced o r s.tb } 0x6003 4 (clampI32 ((r : Int) - o - s.tb.ptpDelay))

theorem ptpOffset_eq (o r : Nat) (s : State) :
    ptpOffset o r s = match ptpFrame s ((o : Int) + s.tb.ptpDelay) with
      | none => tbRecheck (tbMod (fun b => { b with ptpValid := false }) (offsetNoted o r s))
      | some f =>
        let t := if 16 ≤ (synced o r s.tb).ptpGood then tbMod (fun b => { b with ptpValid := true }) (offsetNoted o r s) else offsetNoted o r s
        if t.tb.ptpValid then onReference 2 f false t else t := by
  have hsync : tbMod (fun b => { b with
      ptpSyncPair := some (o, r), ptpReceipt := none
      ptpGood := if decide (((r : Int) - o - s.tb.ptpDelay).natAbs ≤ 100) then min 16 (b.ptpGood + 1) else 0 }) s = { s with tb := synced o r s.tb } := by
    simp [tbMod, synced]
  unfold ptpOffset
  dsimp only
  rw [hsync]
  rfl

end Sys2Proof.Machine
end

section
/-! PROOFS. The time base (R161 to R170). -/
set_option Elab.async false

namespace Sys2Proof.Machine

open Sys2Proof

section
variable {s : State} {ns : Nat}

/-- The time base as an edge of the frame sync leaves its counts (R164). -/
def edgeCounted (good : Bool) (b : TimeBase) : TimeBase :=
  { b with
    fsFrame := none, fsSeen := true
    fsGood := if b.fsSeen && good then min 3 (b.fsGood + 1) else 0
    fsBad := if b.fsSeen && !good then min 3 (b.fsBad + 1) else 0 }

theorem fsyncEdgeEffect_eq (hon : s.tb.on = true) :
    fsyncEdgeEffect ns s =
      let t := { s with tb := edgeCounted (periodGood s ns) s.tb }
      let t := if 3 ≤ t.tb.fsBad then tbRecheck (tbMod (fun b => { b with fsValid := false }) t)
        else if 3 ≤ t.tb.fsGood then tbMod (fun b => { b with fsValid := true }) t else t
      if t.tb.fsValid then onReference 1 (BitVec.ofNat 64 (edgeFrame s * 2 ^ 24)) true t else t := by
  simp only [fsyncEdgeEffect, hon, Bool.not_true, Bool.false_eq_true, if_false]
  rfl

theorem tbSourceSet_off {v : Nat} (hv : v ≤ 2) (h : s.tb.on = false ∨ s.tb.ref = 0) : (tbSourceSet v s).2 = oset s 0x6000 1 v := by
  have hrecheck : s.tb.ref = 0 → tbRecheck (oset s 0x6000 1 v) = oset s 0x6000 1 v := fun h => tbRecheck_of_standing (.inl h)
  have h3 : ¬ 3 < v := by omega
  have h3' : v ≠ 3 := by omega
  by_cases hon : s.tb.on = true
  · simp only [tbSourceSet, h3, h3', if_false, oset_tb, hon, Bool.not_true, Bool.false_eq_true]
    exact hrecheck (h.resolve_left (by simp [hon]))
  · simp only [tbSourceSet, h3, if_false, oset_tb, hon, Bool.not_false, if_true]

end

/-- Settles O25: each command by its equation; a transition's state is that of `goneTo`, and what it releases leaves the time base. -/
theorem timeBaseFollowsItsSourceAndWrites : Obligations.TimeBaseFollowsItsSourceAndWrites := by
  refine ⟨?boundary, ?stepAtBoundary, ?lockAtBoundary, ?boundaryOff, ?firstEdge, ?thirdGood, ?thirdBad, ?timeoutLost, ?timeoutIdle, ?toFreeRun, ?closed, ?source, ?sourceRange,
    ?accept, ?acceptNot, ?raster, ?rasterNot, ?frame, ?otherDomain, ?sameMaster, ?betterMaster, ?twoStep, ?sync, ?sixteenth, ?beforeEpoch,
    ?delayReq, ?delayResp, ?silentIdle, ?silentLost⟩
  case boundary =>
    rintro _ s hon rfl hlock hecl hstep
    have hrun := (frameBoundaryEffect_of_noLock hon hlock hecl).trans (atBoundary_of_noStep rfl hecl hstep)
    refine ⟨_, congrArg Host.Outcome.next hrun, timePasses_tb _, fun h => timePasses_of_empty h⟩
  case stepAtBoundary =>
    rintro _ u s hon rfl hu href hecl hst hacc
    have hlock : lockDue s = none := if_neg fun h => absurd (h.1.symm.trans hst) (by decide)
    have hrun := (frameBoundaryEffect_of_noLock hon hlock hecl).trans (atBoundary_of_step rfl hecl href hst hacc)
    have htb : (bounded (nextFrame s.tb.now) s).tb = u.tb := by rw [bounded_tb, hu]
    refine ⟨_, congrArg Host.Outcome.next hrun, ?_⟩
    rw [tbGo_tb, tbStep_tb, ticksOf_congr htb, ofTicks_congr htb, comingRaster, bounded_tb]
    · rfl
    · rw [tbStep_tb, bounded_tb]
      show s.tb.state ≠ 1
      omega
  case lockAtBoundary =>
    intro k w s hon hst hlock hk
    have hrun : frameBoundaryEffect s = tbGo 1 (tbStep w s) := by
      have hby : lockBy s (ticksOf s (nextFrame s.tb.now)) = true := by
        rw [lockBy, hlock]
        exact decide_eq_true hk
      simp only [frameBoundaryEffect, hon, hby, Bool.not_true, Bool.false_eq_true, if_false, if_true, atLock, hlock]
    refine ⟨_, congrArg Host.Outcome.next hrun, ?_⟩
    rw [tbGo_tb, tbStep_tb]
    · rfl
    · rw [tbStep_tb]
      show s.tb.state ≠ 1
      omega
  case boundaryOff =>
    intro s hoff
    show Host.Outcome.next (frameBoundaryEffect s) = _
    rw [frameBoundaryEffect, hoff]
    rfl
  case firstEdge =>
    intro ns s hon hseen hvalid
    refine congrArg Host.Outcome.next ?_
    rw [fsyncEdgeEffect_eq hon]
    simp [edgeCounted, hseen, hvalid]
  case thirdGood =>
    intro ns s hon hseen hgood h2 hst hsrc
    have hcount : edgeCounted (periodGood s ns) s.tb = { s.tb with fsFrame := none, fsGood := 3, fsBad := 0 } := by
      have h3 : min 3 (s.tb.fsGood + 1) = 3 := by omega
      simp [edgeCounted, hseen, hgood, h3]
    have hrun : fsyncEdgeEffect ns s = onReference 1 (BitVec.ofNat 64 (edgeFrame s * 2 ^ 24)) true
        { s with tb := { s.tb with fsFrame := none, fsGood := 3, fsBad := 0, fsValid := true } } := by
      rw [fsyncEdgeEffect_eq hon, hcount]
      rfl
    refine ⟨_, congrArg Host.Outcome.next hrun, ?_⟩
    exact onReference_locks (s := { s with tb := { s.tb with fsFrame := none, fsGood := 3, fsBad := 0, fsValid := true } })
      (selectedRef_of_fsync rfl hsrc) hst
  case thirdBad =>
    intro ns s hon hseen hbad h2 hst href hsrc
    have hcount : edgeCounted (periodGood s ns) s.tb = { s.tb with fsFrame := none, fsGood := 0, fsBad := 3 } := by
      have h3 : min 3 (s.tb.fsBad + 1) = 3 := by omega
      simp [edgeCounted, hseen, hbad, h3]
    have hlost := tbRecheck_of_lost (s := { s with tb := { s.tb with fsFrame := none, fsGood := 0, fsBad := 3, fsValid := false } })
      (selectedRef_of_noFsync rfl hsrc) (by show s.tb.ref ≠ 0; omega) hst
    have hrun : fsyncEdgeEffect ns s = tbRecheck { s with tb := { s.tb with fsFrame := none, fsGood := 0, fsBad := 3, fsValid := false } } := by
      rw [fsyncEdgeEffect_eq hon, hcount]
      refine if_neg ?_
      show ¬ (tbRecheck _).tb.fsValid = true
      rw [show tbMod (fun b => { b with fsValid := false }) _ = { s with tb := { s.tb with fsFrame := none, fsGood := 0, fsBad := 3, fsValid := false } }
        from rfl, hlost]
      exact Bool.false_ne_true
    exact ⟨_, congrArg Host.Outcome.next hrun, hlost⟩
  case timeoutLost =>
    intro s hon hst href hsrc
    refine ⟨_, congrArg Host.Outcome.next (by rw [hon, onlyIf_true]), ?_⟩
    exact tbRecheck_of_lost (s := { s with tb := { s.tb with fsValid := false, fsSeen := false, fsGood := 0, fsBad := 0 } })
      (selectedRef_of_noFsync rfl hsrc) (by show s.tb.ref ≠ 0; omega) hst
  case timeoutIdle =>
    intro s hon href
    refine congrArg Host.Outcome.next ?_
    rw [hon, onlyIf_true]
    exact tbRecheck_of_standing (.inl href)
  case toFreeRun =>
    rintro _ s hon rfl
    refine ⟨fun hst href => ⟨tbGo 3 s, congrArg Host.Outcome.next (by simp only [hon, hst, href, decide_true, Bool.and_self, onlyIf_true]), ?_⟩,
      fun hst => ⟨tbGo 3 s, congrArg Host.Outcome.next (by simp only [hon, hst, decide_true, Bool.and_self, onlyIf_true]), ?_⟩,
      fun hopen hst => ⟨tbGo 3 (tbMod (fun b => { b with ref := 0 }) (oset s 0x6000 1 3)), congrArg Host.Outcome.next ?_, ?_⟩,
      fun h => congrArg Host.Outcome.next ?_, fun h => congrArg Host.Outcome.next ?_⟩
    · rw [tbGo_tb (by omega)]
      rfl
    · rw [tbGo_tb (by omega)]
      rfl
    · rw [hopen, onlyIf_true]
      simp [tbSourceSet, hon]
    · rw [tbGo_tb (by exact hst)]
      rfl
    · rcases h with h | h <;> simp [h]
    · simp [h]
  case closed =>
    intro v sub b s hclosed
    refine ⟨congrArg Host.Outcome.next ?_, congrArg Host.Outcome.next ?_, congrArg Host.Outcome.next ?_⟩ <;> simp [hclosed]
  case source =>
    intro v s hopen hv h
    refine congrArg Host.Outcome.next ?_
    rw [hopen, onlyIf_true, tbSourceSet_off hv h]
  case sourceRange =>
    intro v s hv
    refine congrArg Host.Outcome.next ?_
    rw [tbSourceSet, if_pos hv]
    cases objectsOpen s <;> rfl
  case accept =>
    intro s hopen hon hst
    refine congrArg Host.Outcome.next ?_
    simp [hopen, tbAcceptSet, hon, hst, tbMod]
  case acceptNot =>
    intro s h
    have hset : (tbAcceptSet true s).2 = s := by rcases h with h | h <;> simp [tbAcceptSet, h]
    refine congrArg Host.Outcome.next ?_
    rw [hset]
    cases objectsOpen s <;> rfl
  case raster =>
    intro sub v s hlo hhi hok hitems hon hopen
    have hset : (rasterSet sub v s).2 =
        oset { s with tb := { s.tb with pendRaster := some (rasterWith (comingRaster s) sub v) } } 0x6001 sub v := by
      have h5 : sub ≠ 5 := by omega
      simp [rasterSet, h5, hok, hitems, tbMod, hon]
    refine congrArg Host.Outcome.next ?_
    rw [hopen, decide_eq_true hlo, decide_eq_true (by omega : sub ≤ 5), hset]
    rfl
  case rasterNot =>
    intro sub v s hlo hhi h
    have hset : (rasterSet sub v s).2 = s := by
      have h5 : sub ≠ 5 := by omega
      rcases h with h | h
      · simp [rasterSet, h5, h]
      · simp only [rasterSet, h5, if_false, h, ne_eq, not_false_iff, if_true]
        split <;> rfl
    refine congrArg Host.Outcome.next ?_
    rw [hset]
    cases objectsOpen s && decide (1 ≤ sub) && decide (sub ≤ 5) <;> rfl
  case frame =>
    intro v s hopen hv
    have hset : (rasterSet 5 v s).2 = { s with tb := { s.tb with fsFrame := some v } } := by
      rw [rasterSet, if_pos rfl, if_neg (Nat.not_le.2 hv)]
      rfl
    refine congrArg Host.Outcome.next ?_
    rw [hset, hopen]
    rfl
  case otherDomain =>
    intro d rank m s h
    refine congrArg Host.Outcome.next ?_
    have hno : ptpMine s d = false := by rcases h with h | h <;> simp [ptpMine, h]
    rw [ptpAnnounceEffect, hno]
    rfl
  case sameMaster =>
    rintro d rank m s hon hd hseen hm
    refine congrArg Host.Outcome.next ?_
    have hmine : ptpMine s d = true := by simp [ptpMine, hon, ← hd]
    simp [ptpAnnounceEffect, hmine, hseen, hm, tbMod]
  case betterMaster =>
    intro d rank m s hon hd hbetter href
    refine congrArg Host.Outcome.next ?_
    have hmine : ptpMine s d = true := by simp [ptpMine, hon, ← hd]
    have hnew : (s.tb.ptpSeen && decide (s.tb.ptpMaster = m)) = false ∧ (s.tb.ptpSeen && decide (s.tb.ptpRank ≤ rank)) = false := by
      rcases hbetter with h | ⟨h, hr⟩
      · simp [h]
      · simp [h, hr]
    obtain ⟨hother, hlower⟩ := hnew
    simp only [ptpAnnounceEffect, hmine, hother, hlower, Bool.not_true, Bool.false_eq_true, if_false]
    exact standing_of_fsync href rfl rfl rfl
  case twoStep =>
    intro d o r m s hon hd hseen hm
    refine congrArg Host.Outcome.next ?_
    rw [ptpSyncEffect, ptpFrom_of_mine hon hd hseen hm]
    rfl
  case sync =>
    rintro d o r m _ _ s hon hd hseen hm hvalid hcount rfl hframe rfl
    obtain ⟨f, hf⟩ := Option.isSome_iff_exists.1 hframe
    have hgood : (synced o r s.tb).ptpGood = if ((r : Int) - o - s.tb.ptpDelay).natAbs ≤ 100 then s.tb.ptpGood + 1 else 0 := by
      have hmin : min 16 (s.tb.ptpGood + 1) = s.tb.ptpGood + 1 := by omega
      simp only [synced, hmin]
    have h16 : ¬ 16 ≤ (synced o r s.tb).ptpGood := by
      rw [hgood]
      split <;> omega
    have hnoted : offsetNoted o r s = oset { s with tb := { s.tb with
        ptpSyncPair := some (o, r), ptpReceipt := none
        ptpGood := if ((r : Int) - o - s.tb.ptpDelay).natAbs ≤ 100 then s.tb.ptpGood + 1 else 0 } } 0x6003 4
        (clampI32 ((r : Int) - o - s.tb.ptpDelay)) := by
      have hmin : min 16 (s.tb.ptpGood + 1) = s.tb.ptpGood + 1 := by omega
      simp only [offsetNoted, synced, hmin]
    have hrun : ptpOffset o r s = offsetNoted o r s := by
      rw [ptpOffset_eq, hf]
      dsimp only
      rw [if_neg h16]
      exact if_neg (ne_true_of_eq_false hvalid)
    refine ⟨congrArg Host.Outcome.next ?_, congrArg Host.Outcome.next ?_⟩
    · rw [ptpSyncEffect, ptpFrom_of_mine hon hd hseen hm]
      exact hrun.trans hnoted
    · have hfrom : ptpFrom { s with tb := { s.tb with ptpReceipt := some r } } d m = true := ptpFrom_of_mine hon hd hseen hm
      simp only [ptpFollowUpEffect, hfrom, if_true]
      exact hrun.trans hnoted
  case sixteenth =>
    intro d o r m s hon hd hseen hm hcount hoff hframe
    obtain ⟨f, hf⟩ := Option.isSome_iff_exists.1 hframe
    have hgood : (synced o r s.tb).ptpGood = 16 := by simp [synced, hoff, hcount]
    have hrun : ptpOffset o r s = onReference 2 f false (tbMod (fun b => { b with ptpValid := true }) (offsetNoted o r s)) := by
      rw [ptpOffset_eq, hf]
      dsimp only
      rw [if_pos (Nat.le_of_eq hgood.symm)]
      rfl
    obtain ⟨h1, h2, h3⟩ := onReference_samePtp 2 f false (tbMod (fun b => { b with ptpValid := true }) (offsetNoted o r s))
    refine ⟨ptpOffset o r s, congrArg Host.Outcome.next ?_, ?_, ?_, ?_⟩
    · rw [ptpSyncEffect, ptpFrom_of_mine hon hd hseen hm]
      rfl
    · rw [hrun, h1]
      exact hgood
    · rw [hrun, h2]
      rfl
    · rw [hrun, h3]
      rfl
  case beforeEpoch =>
    intro d o r m s hon hd hseen hm hepoch href hst hsrc
    have hframe : ptpFrame s ((o : Int) + s.tb.ptpDelay) = none := if_pos (.inl hepoch)
    have hlost := tbRecheck_of_lost (s := tbMod (fun b => { b with ptpValid := false }) (offsetNoted o r s))
      (selectedRef_of_noPtp rfl ((oget_oset_ne _ _ (by decide)).trans hsrc)) (by show s.tb.ref ≠ 0; omega) hst
    refine ⟨tbRecheck (tbMod (fun b => { b with ptpValid := false }) (offsetNoted o r s)), congrArg Host.Outcome.next ?_,
      congrArg TimeBase.ptpValid hlost, congrArg TimeBase.ref hlost, congrArg TimeBase.state hlost⟩
    rw [ptpSyncEffect, ptpFrom_of_mine hon hd hseen hm, ptpOffset_eq, hframe]
    rfl
  case delayReq =>
    intro sent s hon hseen
    refine congrArg Host.Outcome.next ?_
    rw [hon, hseen]
    rfl
  case delayResp =>
    intro d o r sent rcv m s hon hd hseen hm hsent hpair
    refine congrArg Host.Outcome.next ?_
    simp only [ptpDelayEffect, hsent, hpair, ptpFrom_of_mine hon hd hseen hm, if_true, tbMod]
  case silentIdle =>
    intro s hon href
    refine congrArg Host.Outcome.next ?_
    rw [hon, onlyIf_true]
    exact standing_of_fsync href rfl rfl rfl
  case silentLost =>
    intro s hon href hst hsrc
    refine ⟨_, congrArg Host.Outcome.next (by rw [hon, onlyIf_true]), ?_⟩
    exact tbRecheck_of_lost (s := { s with tb := { s.tb with ptpValid := false, ptpGood := 0, ptpRank := 2 ^ 64 } })
      (selectedRef_of_noPtp rfl hsrc) (by show s.tb.ref ≠ 0; omega) hst

end Sys2Proof.Machine
end

section
/-! PROOFS. Release and deadline of an item (R172, R173, R180), and the start of one (R174), whose statement leaves out the device that is
going down. -/
set_option Elab.async false

namespace Sys2Proof.Machine

open Sys2Proof

section
variable {s : State} {t : W64} {n : Nat} {it : Item}

/-! Frame time that stands already, and frame time that runs within a frame -/

theorem moveTo_of_passed (h : t.toNat ≤ (now s).toNat) : moveTo t s = s := by
  have hecl : eclDue s t = false := by
    unfold eclDue
    split
    · simp
      omega
    · rfl
  have hrun : runTo 3 t s = s := if_pos h
  rw [moveTo, hecl]
  split
  · rfl
  · exact hrun

/-- Within the frame, and before any lock and Eclipse, frame time runs to `t` at once. -/
theorem moveTo_of_sameFrame (hon : s.tb.on = true) (hlt : (now s).toNat < t.toNat) (hframe : fld 63 24 t = fld 63 24 (now s))
    (hlock : lockDue s = none) (hecl : eclDue s t = false) : moveTo t s = timePasses { s with tb := { s.tb with now := t } } := by
  have hby : ∀ k, lockBy s k = false := fun k => by rw [lockBy, hlock]
  have hlate : ¬ t.toNat ≤ s.tb.now.toNat := Nat.not_le.2 hlt
  have hin : ¬ fld 63 24 s.tb.now < fld 63 24 t := by
    show ¬ fld 63 24 (now s) < fld 63 24 t
    omega
  have hrun : runTo 3 t s = setNow t s := by simp only [runTo, hlate, hby, hin, Bool.false_eq_true, if_false]
  rw [moveTo, hon, hecl]
  exact hrun.trans (setNow_of_notDue hecl)

/-! One item alone -/

theorem itemNums_singleton (h : s.items = [(n, it)]) : itemNums s = [n] := by simp [itemNums, h, insNat]

theorem itemAt_singleton (h : s.items = [(n, it)]) : itemAt s n = some it := by simp [itemAt, h, aget]

/-- Time means nothing to an item without a deadline (R171). -/
theorem itemTime_of_noDeadline (h : itemAt s n = some it) (hd : hasDeadline it = false) : itemTime s n = s := by
  simp only [itemTime, h, hd]
  rfl

theorem settleAll_of_notReady (h : s.items = [(n, it)]) (hr : isReady s n it = false) : settleAll s = s := by
  have hnone : firstReady s = none := by simp [firstReady, itemNums_singleton h, itemAt_singleton h, hr]
  simp only [settleAll, h, List.length_cons, List.length_nil, settle, hnone]

/-- The only item, ready and no signal item, is assigned (R173). -/
theorem settleAll_of_ready {d : Nat} (h : s.items = [(n, it)]) (hr : isReady s n it = true) (hk : itKind it = 0)
    (hd : bestDie s (itMask it) = some d) :
    settleAll s = itemPut (markReleased it.ctx it.q it.idx s) n { it with phase := .assigned, die := d, tAssign := now s } := by
  have hfirst : firstReady s = some n := by simp [firstReady, itemNums_singleton h, itemAt_singleton h, hr]
  simp [settleAll, h, settle, hfirst, releaseItem, itemAt_singleton h, hk, hd]

theorem isReady_of_assigned (h : it.phase = .assigned) : isReady s n it = false := by simp [isReady, h]

/-! Deadlines -/

theorem deadlineEffect_of_passed (h : itemAt s n = some it) (hd : hasDeadline it = true) (hp : (itDeadline it).toNat ≤ (now s).toNat) :
    deadlineEffect n s = settleAll (itemTime s n) := by
  simp only [deadlineEffect, h, hd, if_true, moveTo_of_passed hp]

/-- The deadline of an end-mode item that has not met it (R180). -/
theorem itemTime_of_endMode (h : itemAt s n = some it) (hd : hasDeadline it = true) (hp : (itDeadline it).toNat ≤ (now s).toNat)
    (hend : itEndMode it = true) (hdue : it.due = false ∨ it.phase ≠ .running) :
    itemTime s n = atDeadline n (itemPut s n { it with due := true }) := by
  have hno : (it.due && decide (it.phase = .running)) = false := by rcases hdue with h | h <;> simp [h]
  simp only [itemTime, h, hd, hend, hno, decide_eq_false (Nat.not_lt.2 hp), Bool.not_true, Bool.or_self, Bool.false_and, Bool.false_eq_true, if_false]

theorem atDeadline_of_running (h : itemAt s n = some it) (hph : it.phase = .running) (hdone : allDone s it = false)
    (hheld : holdsTransfer s it = false) (hend : itEndMode it = true) : atDeadline n s = endItem n 3 2 s := by
  simp only [atDeadline, h, hph, hdone, hheld, hend, Bool.false_eq_true, if_false, if_true]

theorem atDeadline_of_waiting (h : itemAt s n = some it) (hph : it.phase = .waiting) (hend : itEndMode it = true) :
    atDeadline n s = complete n 3 s := by
  simp only [atDeadline, h, hph, hend, if_true]

end

/-- Settles O26: frame time moves to the time named unless it has passed, and the item meets it there. -/
theorem releaseAndDeadlineOfAnItem : Obligations.ReleaseAndDeadlineOfAnItem := by
  refine ⟨?release, ?noHead, ?endRunning, ?endWaiting, ?noDeadline, ?hardLimit, ?noItem⟩
  case release =>
    intro c q n d it u s hc hq hitems hhead hno hon hlt hframe hlock hecl hu hready hkind hdie
    have huitems : u.items = [(n, it)] := by rw [hu, hitems]
    have hmove : moveTo (itRelease it) s = itemPut (markReleased it.ctx it.q it.idx u) n
        { it with phase := .assigned, die := d, tAssign := itRelease it } := by
      have hnow : now u = itRelease it := by rw [hu]; rfl
      have htime : timePasses u = settleAll u := by
        simp only [timePasses, itemNums_singleton huitems, List.foldl_cons, List.foldl_nil,
          itemTime_of_noDeadline (itemAt_singleton huitems) hno]
      rw [moveTo_of_sameFrame hon hlt hframe hlock hecl, ← hu, htime, settleAll_of_ready huitems hready hkind hdie, hnow]
    have hafter : (itemPut (markReleased it.ctx it.q it.idx u) n { it with phase := .assigned, die := d, tAssign := itRelease it }).items =
        [(n, { it with phase := .assigned, die := d, tAssign := itRelease it })] := by
      have hkeep : (markReleased it.ctx it.q it.idx u).items = [(n, it)] := huitems
      simp [itemPut, hkeep, aput, adel]
    have hrun : releaseTimeEffect c q s = itemPut (markReleased it.ctx it.q it.idx u) n
        { it with phase := .assigned, die := d, tAssign := itRelease it } := by
      simp only [releaseTimeEffect, hhead, itemAt_singleton hitems, hmove]
      exact settleAll_of_notReady hafter (isReady_of_assigned rfl)
    show onUnit (okCtx c && okQueue q) (releaseTimeEffect c q s) = _
    rw [hrun, okCtx, okQueue, decide_eq_true hc, decide_eq_true hq]
    rfl
  case noHead =>
    intro c q s hc hq hhead
    have hrun : releaseTimeEffect c q s = s := by simp only [releaseTimeEffect, hhead]
    show onUnit (okCtx c && okQueue q) (releaseTimeEffect c q s) = _
    rw [hrun, okCtx, okQueue, decide_eq_true hc, decide_eq_true hq]
    rfl
  case endRunning =>
    intro n it s hit hd hp hend hph hdue hdone hheld
    refine congrArg Host.Outcome.next ?_
    rw [deadlineEffect_of_passed hit hd hp, itemTime_of_endMode hit hd hp hend (.inl hdue)]
    exact congrArg settleAll (atDeadline_of_running (it := { it with due := true }) (itemAt_put _ _ _) hph hdone hheld hend)
  case endWaiting =>
    intro n it s hit hd hp hend hph
    refine congrArg Host.Outcome.next ?_
    rw [deadlineEffect_of_passed hit hd hp, itemTime_of_endMode hit hd hp hend (.inr (by rw [hph]; decide))]
    exact congrArg settleAll (atDeadline_of_waiting (it := { it with due := true }) (itemAt_put _ _ _) hph hend)
  case noDeadline =>
    intro n it s hit hd
    refine congrArg Host.Outcome.next ?_
    simp only [deadlineEffect, hit, hd]
    rfl
  case hardLimit =>
    intro n it s hit hd hlt hp hacc hend hph hdone
    refine congrArg Host.Outcome.next ?_
    have hto : (BitVec.ofNat 64 (frameAfter (itDeadline it))).toNat = frameAfter (itDeadline it) := by
      rw [BitVec.toNat_ofNat]
      exact Nat.mod_eq_of_lt hlt
    have hle : (itDeadline it).toNat ≤ (now s).toNat := by
      unfold frameAfter at hp
      omega
    have htime : itemTime s n = atHardLimit n s := by
      simp only [itemTime, hit, hd, hend, decide_eq_false (Nat.not_lt.2 hle), decide_eq_true hp, decide_eq_true hacc, Bool.not_true, Bool.or_self,
        Bool.not_false, Bool.and_self, Bool.false_eq_true, if_false, if_true]
    have hlimit : atHardLimit n s = if holdsTransfer s it then endItem n 5 6 s else endItem n 3 2 s := by
      simp only [atHardLimit, hit, hph, hdone, Bool.false_eq_true, if_false]
    simp only [hardLimitEffect, hit, hd, hend, Bool.not_false, Bool.and_self, if_true]
    rw [moveTo_of_passed (by rw [hto]; exact hp), htime, hlimit]
  case noItem =>
    intro n s hnone
    refine ⟨congrArg Host.Outcome.next ?_, congrArg Host.Outcome.next ?_⟩
    · simp only [deadlineEffect, hnone]
    · simp only [hardLimitEffect, hnone]

/-- An item assigned to die 0, whose cores are free, while the device goes down. -/
def goingDownAssigned : State :=
  { witRun with items := [(0, { witItem with phase := .assigned, die := 0 })], boot := { witRun.boot with phase := .goingDown } }

/-- Refutes O27: while the device goes down nothing starts (R485), and the statement's third clause has the assigned item run. -/
theorem not_starterEntersCoresWithinTheAllowance : ¬ Obligations.StarterEntersCoresWithinTheAllowance := by
  rintro ⟨-, -, hstart, -⟩
  obtain ⟨t, jt, hexec, hit, hphase, -⟩ := hstart 0 0 [] { witItem with phase := .assigned, die := 0 } goingDownAssigned (by decide) rfl
    (by decide) (by decide)
  have hstays : itemAt (witNext (exec (.starterStart 0 []) goingDownAssigned)) 0 = some { witItem with phase := .assigned, die := 0 } := by
    decide +kernel
  rw [hexec, witNext, hit] at hstays
  rw [Option.some.inj hstays] at hphase
  exact absurd hphase (by decide)

end Sys2Proof.Machine
end

section
/-! PROOFS. The Eclipse (R184 to R188). -/
set_option Elab.async false

namespace Sys2Proof.Machine

open Sys2Proof

section
variable {s : State} {e : Eclipse} {i j v : Nat}

/-- An object written with a value other than its default reads it back. -/
theorem oget_oset_self (h : v ≠ objDefault i j) : oget (oset s i j v) i j = v := by
  rw [oget_eq_tget]
  exact tget_tset_self _ _ _ h _

theorem onlyIf_objectsOpen_false (h : objectsOpen s = false) (t : State) : onlyIf (objectsOpen s) t s = s := by rw [h, onlyIf_false]

/-- The end of an Eclipse writes a record, and is noted (R185 step 5, R187). -/
theorem eclFinish_eq (e : Eclipse) (v ns : Nat) (s : State) : ∃ (pa : Nat) (l : List Byte),
    eclFinish e v ns s = scRaise 3 0 (eclStatus v { (memWrite ⟨8, 0, none⟩ none pa l s).2 with ecl := none }) := ⟨_, _, rfl⟩

theorem srcAt_scRaise (d : W32) (s : State) : (srcAt (scRaise 3 d s) 3).pend = true := by
  rw [scRaise, if_neg (by decide), srcAt_put _ _ _ fun h => absurd (congrArg Src.pend h : true = false) (by decide)]

/-- What it leaves. -/
theorem eclFinish_leaves (e : Eclipse) (ns : Nat) (s : State) (hv : v ≠ objDefault 0x6010 6) :
    (eclFinish e v ns s).ecl = none ∧ oget (eclFinish e v ns s) 0x6010 6 = v ∧ (srcAt (eclFinish e v ns s) 3).pend = true ∧
      (eclFinish e v ns s).tb = s.tb ∧ (eclFinish e v ns s).batons = s.batons ∧ (eclFinish e v ns s).groups = s.groups := by
  obtain ⟨pa, l, hrun⟩ := eclFinish_eq e v ns s
  have hdid := fun W hW => memWrite_did (W := W) (a1 := ⟨8, 0, none⟩) (a2 := none) (a3 := pa) (a4 := l) hW (.refl s)
  rw [hrun]
  exact ⟨rfl, oget_oset_self hv, srcAt_scRaise _ _, (hdid (but 27) rfl).tb rfl, (hdid (but 24) rfl).batons rfl, (hdid (but 25) rfl).groups rfl⟩

/-- At E the units copy what they hold, and the markers go (R185 step 2). -/
theorem eclCaptureEffect_of_passed (h : s.ecl = some e) (hc : e.capturing = false) (ht : e.time.toNat ≤ (now s).toNat) :
    eclCaptureEffect s = oset (sendMarkers e.ident.toNat { s with ecl := some (eclCopy e s) }) 0x6010 6 2 := by
  have hlate : ¬ s.tb.now.toNat < e.time.toNat := Nat.not_lt.2 ht
  simp only [eclCaptureEffect, h, hc, moveTo_of_passed ht, hlate, Bool.false_eq_true, if_false, eclCapture]
  rfl

end

/-- Settles O28: each command of an Eclipse by its equation. -/
theorem eclipseCapturesAndCompletes : Obligations.EclipseCapturesAndCompletes := by
  refine ⟨?armed, ?tooLate, ?notArmed, ?closed, ?captured, fun e s => ⟨rfl, rfl, rfl, rfl, rfl, rfl⟩, ?marker, ?otherMarker, ?complete, ?drained⟩
  case armed =>
    intro s hopen hin
    refine congrArg Host.Outcome.next ?_
    simp only [hopen, onlyIf_true, eclArmSet, hin, Bool.not_true, Bool.false_eq_true, if_false]
    rfl
  case tooLate =>
    intro s hopen hlate
    refine congrArg Host.Outcome.next ?_
    simp only [hopen, onlyIf_true, eclArmSet, hlate, Bool.not_true, Bool.false_eq_true, if_false, if_true]
    rfl
  case notArmed =>
    intro s
    refine congrArg Host.Outcome.next ?_
    cases objectsOpen s <;> rfl
  case closed => exact fun b s hclosed => congrArg Host.Outcome.next (onlyIf_objectsOpen_false hclosed _)
  case captured => exact fun e s h hc ht => congrArg Host.Outcome.next (eclCaptureEffect_of_passed h hc ht)
  case marker =>
    intro p n id e s hn he hid hnew
    have hunit : (if p then okPort n else decide (n < 34)) = true := by cases p <;> simpa [okPort] using hn
    have hseen : e.seen.contains (p, n) = false := by simpa using hnew
    have hrun : eclMarkerEffect p n id s = { s with ecl := some { e with seen := (p, n) :: e.seen } } := by
      simp only [eclMarkerEffect, he, hid, hseen, and_self, if_true]
    show onUnit _ (eclMarkerEffect p n id s) = _
    rw [hunit, hrun, onUnit_true]
  case otherMarker =>
    intro p n id s hn hother
    have hunit : (if p then okPort n else decide (n < 34)) = true := by cases p <;> simpa [okPort] using hn
    have hrun : eclMarkerEffect p n id s = s := by
      unfold eclMarkerEffect
      split
      next => rfl
      next e he =>
        refine if_neg fun ⟨hid, hseen⟩ => ?_
        rcases hother e he with h | h
        · exact h hid
        · simp [h] at hseen
    show onUnit _ (eclMarkerEffect p n id s) = _
    rw [hunit, hrun, onUnit_true]
  case complete =>
    intro ns e s he hc hmiss hb
    have hrun : eclCompleteEffect ns s = eclFinish e 3 ns s := by
      simp only [eclCompleteEffect, he, hc, hmiss, hb, decide_true, Bool.and_self, if_true]
    exact ⟨_, congrArg Host.Outcome.next hrun, eclFinish_leaves e ns s (by decide +kernel)⟩
  case drained =>
    intro e s he hc hmiss
    have hrun : eclDrainEffect s = eclFinish e 4 (1000 * oget s 0x6010 7) s := by
      simp only [eclDrainEffect, he, hc, decide_eq_true hmiss, Bool.and_self, if_true]
    exact ⟨_, congrArg Host.Outcome.next hrun, eclFinish_leaves e _ s (by decide +kernel)⟩

end Sys2Proof.Machine
end

section
/-! SUPPORT. The state of a context that is torn down outlasts the end of its items and commands: the completion of an item counts a miss
or a refusal, and nothing else of a context. -/
set_option Elab.async false

namespace Sys2Proof.Machine

open Sys2Proof

/-- The context is being torn down (R194). -/
def TornDown (c : Nat) (s : State) : Prop := (ctxAt s c).state = 2

section
variable {c : Nat} {s t : State}

theorem TornDown.congr (h : TornDown c s) (hc : t.ctxs = s.ctxs) : TornDown c t := by
  rw [TornDown, ctxAt, hc]
  exact h

/-- An operation that writes no context. -/
theorem TornDown.did (h : TornDown c s) (hd : Did (but 18) s t) : TornDown c t := h.congr (hd.ctxs rfl)

theorem TornDown.put {k : Nat} {x : Ctx} (h : TornDown c s) (hx : x.state = (ctxAt s k).state) : TornDown c (ctxPut s k x) := by
  by_cases hk : c = k
  · subst hk
    have h2 : x.state = 2 := hx.trans h
    have hne : x ≠ {} := fun he => absurd (h2.symm.trans (congrArg Ctx.state he)) (by decide)
    have hat : ctxAt (ctxPut s c x) c = x := tget_tset_self _ _ _ hne _
    rw [TornDown, hat]
    exact h2
  · have hat : ctxAt (ctxPut s k x) c = ctxAt s c := tget_tset_ne _ _ _ _ hk _
    rw [TornDown, hat]
    exact h

theorem TornDown.foldl {α : Type} {f : State → α → State} (hf : ∀ u x, TornDown c u → TornDown c (f u x)) (l : List α) (h : TornDown c s) :
    TornDown c (l.foldl f s) := List.foldlRecOn l f h fun u hu x _ => hf u x hu

theorem TornDown.countMiss (it : Item) (h : TornDown c s) : TornDown c (countMiss it s) :=
  (h.did (did_ite (bumpObj_did rfl (.refl s)) (.refl s))).put rfl

theorem TornDown.complete (n st : Nat) (h : TornDown c s) : TornDown c (complete n st s) := by
  unfold Machine.complete
  split
  · exact h
  · extract_lets tEnd late miss posted w t1 t2 t3 t4 t5 t6 t7 t8
    clear_value tEnd late miss
    have hposted : Did (but 18) s posted := addSums_did rfl (did_ite (markReleased_did rfl (.refl s)) (.refl s))
    clear_value posted
    have hw : Did (but 18) s w.2 := memWrite_did rfl hposted
    clear_value w
    have h1 : Did (but 18) s t1 := did_ite (parkQueue_did rfl hw) hw
    clear_value t1
    have h2 : Did (but 18) s t2 := did_foldl (fun _ _ k => freeCore_did rfl k) h1
    clear_value t2
    have h3 : TornDown c t3 := (h.did h2).congr rfl
    clear_value t3
    have h4 : TornDown c t4 := h3.did (retireReqs_did rfl (markCompleted_did rfl (.refl t3)))
    clear_value t4
    have h5 : TornDown c t5 := by
      show TornDown c (if _ then _ else _)
      split
      · exact h4.countMiss _
      · exact h4
    clear_value t5
    have h6 : Did (but 18) t5 t6 := doPost_did rfl (doPost_did rfl (.refl t5))
    clear_value t6
    have h7 : Did (but 18) t5 t7 := did_ite (ctxEvent_did rfl h6) h6
    clear_value t7
    have h8 : Did (but 18) t5 t8 := did_ite (ctxEvent_did rfl h7) h7
    clear_value t8
    exact h5.did (did_ite (ctxEvent_did rfl h8) h8)

theorem TornDown.releaseItem (n : Nat) (h : TornDown c s) : TornDown c (releaseItem n s) := by
  unfold Machine.releaseItem
  split
  · exact h
  next it _ =>
    have hmark : TornDown c (markReleased it.ctx it.q it.idx s) := h.did (markReleased_did rfl (.refl s))
    split
    · exact TornDown.complete n 0 (TornDown.congr hmark rfl)
    · split
      · exact h
      · exact hmark.congr rfl

theorem TornDown.settle (f : Nat) : ∀ {s : State}, TornDown c s → TornDown c (settle f s) := by
  induction f with
  | zero => exact id
  | succ f ih =>
    intro s h
    unfold Machine.settle
    split
    · exact h
    · exact ih (h.releaseItem _)

theorem TornDown.settleAll (h : TornDown c s) : TornDown c (settleAll s) := TornDown.settle _ h

theorem TornDown.rqFinish (n : Nat) (i : W32) (h : TornDown c s) : TornDown c (rqFinish n i s) := by
  unfold Machine.rqFinish
  split
  · exact h
  · extract_lets r w t r' d t'
    have hw : Did (but 18) s w.2 := memWrite_did rfl (.refl s)
    clear_value w
    have ht : Did (but 18) s t := did_ite (parkRq_did rfl hw) hw
    clear_value t
    have ht' : Did (but 18) s t' := rqPut_did rfl ht
    clear_value t'
    split
    · exact ((h.did ht').did (batonOp_did rfl (.refl t'))).settleAll
    · exact h.did ht'

theorem TornDown.rqEndAll (n st det : Nat) (which : RCmd → Bool) (h : TornDown c s) : TornDown c (rqEndAll n st det which s) := by
  refine TornDown.foldl (fun u x hu => ?_) _ h
  dsimp only
  have hnote : TornDown c (if rqEnded x then u else rqNote n x.idx st det u) := by
    split
    · exact hu
    · exact hu.did (rqNote_did rfl (.refl u))
  split
  · split
    · exact hnote.rqFinish n x.idx
    · exact hnote
  · exact hnote

theorem TornDown.teardownItem (k n : Nat) (h : TornDown c s) : TornDown c (teardownItem k n s) := by
  unfold Machine.teardownItem
  split
  · exact h
  · split
    · exact h
    · split
      · exact h.did (stopItem_did rfl (.refl s))
      · exact h.complete n 7

/-- A context whose teardown starts is being torn down once the steps of its start are done. -/
theorem tornDown_teardownStart (s : State) : TornDown c (teardownStart c s) := by
  have hput : TornDown c (ctxPut s c { ctxAt s c with state := 2 }) := by
    have hat : ctxAt (ctxPut s c { ctxAt s c with state := 2 }) c = { ctxAt s c with state := 2 } :=
      tget_tset_self _ _ _ (fun he => absurd (congrArg Ctx.state he : 2 = 0) (by decide)) _
    rw [TornDown, hat]
  unfold teardownStart
  extract_lets _ t1 t2 t3
  have h2 : TornDown c t2 := TornDown.foldl (fun u x hu => hu.did (did_ite (clearGroup_did rfl (.refl u)) (.refl u))) _ hput
  clear_value t2
  have h3 : TornDown c t3 := TornDown.foldl (fun u n hu => hu.teardownItem c n) _ h2
  clear_value t3
  have h4 : TornDown c (rqTeardown c t3) := TornDown.foldl (fun u n hu => (hu.did (rqTakeUnread_did rfl (.refl u))).rqEndAll n 6 0 _) _ h3
  exact (h4.did (retireReqs_did rfl (.refl _))).settleAll

end

end Sys2Proof.Machine
end

section
/-! PROOFS. Contexts (R191 to R194, R517). -/

namespace Sys2Proof.Machine

open Sys2Proof

section
variable {c : Nat} {s u : State} {fl : List (Nat × Bool)}

theorem onUnit_okCtx (h : c < 16384) (t : State) : onUnit (okCtx c) t = .next t := by rw [okCtx, decide_eq_true h, onUnit_true]

/-- A context's queues as an enable leaves them (R195). -/
theorem foldl_queuePut_default (c : Nat) (t : State) : (upto 0 4).foldl (fun v q => queuePut v (qKey c q) {}) t = { t with
    queues := tset {} (tset {} (tset {} (tset {} t.queues (4 * c) {}) (4 * c + 1) {}) (4 * c + 2) {}) (4 * c + 3) {} } := by
  simp [upto, queuePut, qKey]

theorem contextEnableEffect_of_disabled (hb : s.cmdBusy = false) (hst : (ctxAt s c).state = 0) {l : List Byte}
    (hr : memRead (subReq none) none (s.ctxBase.toNat + 128 * c) 128 s = (.ok l, u)) :
    contextEnableEffect c s =
      if !(entryOk u c (wordsOf l 16)) then ctxResult 2 u
      else if !(ringsOk u (wordsOf l 16)) then ctxResult 3 u
      else ctxResult 0 ((upto 0 4).foldl (fun v q => queuePut v (qKey c q) {})
        (ctxPut u c { ctxAt u c with state := 1, entry := wordsOf l 16, misses := 0, refusals := 0 })) := by
  simp only [contextEnableEffect, hb, hst, hr, Bool.false_eq_true, if_false, ne_eq, not_true]

end

/-- Settles O29: each command of a context by its equation; the steps of a teardown's start leave the context being torn down. -/
theorem contextsAreEnabledAndTornDown : Obligations.ContextsAreEnabledAndTornDown := by
  refine ⟨?teardownBusy, ?enableBusy, ?enabled, ?entryBad, ?ringsBad, ?enable, ?teardownIdle, ?teardown, ?done, ?reserved, ?base, ?baseHeld⟩
  case teardownBusy =>
    intro c s hc hb
    exact (onUnit_okCtx hc _).trans (congrArg Host.Outcome.next (if_pos hb))
  case enableBusy =>
    intro c fl s hc hb
    refine (onUnit_okCtx hc _).trans (congrArg Host.Outcome.next ?_)
    have hrun : contextEnableEffect c (setFlaws fl s) = setFlaws fl s := if_pos hb
    rw [withFlaws, hrun]
    rfl
  case enabled =>
    intro c fl s hc hb hst
    refine (onUnit_okCtx hc _).trans (congrArg Host.Outcome.next ?_)
    have hrun : contextEnableEffect c (setFlaws fl s) = ctxResult 1 (setFlaws fl s) := (if_neg (ne_true_of_eq_false hb)).trans (if_pos hst)
    rw [withFlaws, hrun]
    rfl
  case entryBad =>
    intro c fl l u s hc hb hst hr hbad
    refine (onUnit_okCtx hc _).trans (congrArg Host.Outcome.next ?_)
    rw [withFlaws, contextEnableEffect_of_disabled (s := setFlaws fl s) hb hst hr, hbad]
    rfl
  case ringsBad =>
    intro c fl l u s hc hb hst hr hok hbad
    refine (onUnit_okCtx hc _).trans (congrArg Host.Outcome.next ?_)
    rw [withFlaws, contextEnableEffect_of_disabled (s := setFlaws fl s) hb hst hr, hok, hbad]
    rfl
  case enable =>
    intro c fl l u s hc hb hst hr hok hrings
    refine (onUnit_okCtx hc _).trans (congrArg Host.Outcome.next ?_)
    rw [withFlaws, contextEnableEffect_of_disabled (s := setFlaws fl s) hb hst hr, hok, hrings, foldl_queuePut_default]
    rfl
  case teardownIdle =>
    intro c s hc hb hst
    exact (onUnit_okCtx hc _).trans (congrArg Host.Outcome.next ((if_neg (ne_true_of_eq_false hb)).trans (if_pos hst)))
  case teardown =>
    intro c s hc hb hst
    have hrun : contextTeardownEffect c s = teardownStart c { s with cmdBusy := true } :=
      (if_neg (ne_true_of_eq_false hb)).trans (if_neg (not_not.2 hst))
    have hdid := fun W hW => teardownStart_did (W := W) (a1 := c) hW (.refl { s with cmdBusy := true })
    have hbusy : (teardownStart c { s with cmdBusy := true }).cmdBusy = true := (hdid (but 21) rfl).cmdBusy rfl
    have hstat : (teardownStart c { s with cmdBusy := true }).cmdStat = s.cmdStat := (hdid (but 20) rfl).cmdStat rfl
    have htb : (teardownStart c { s with cmdBusy := true }).tb = s.tb := (hdid (but 27) rfl).tb rfl
    have hbase : (teardownStart c { s with cmdBusy := true }).ctxBase = s.ctxBase := (hdid (but 23) rfl).ctxBase rfl
    have hdown : TornDown c (teardownStart c { s with cmdBusy := true }) := tornDown_teardownStart _
    refine ⟨teardownStart c { s with cmdBusy := true }, (onUnit_okCtx hc _).trans ?_, hbusy, hstat, htb, hbase, fun _ => hdown⟩
    rw [hrun]
  case done =>
    intro c u s hc hst hitems hidle hu
    refine (onUnit_okCtx hc _).trans (congrArg Host.Outcome.next ?_)
    have hall : (s.items.all fun e => decide (e.2.ctx ≠ c)) = true := by simpa using hitems
    rw [teardownDoneEffect, if_pos ⟨hst, hall, hidle⟩]
    dsimp only
    rw [← hu]
    by_cases hlast : ∀ e ∈ u.ctxs, e.2.state ≠ 2
    · rw [if_pos hlast, if_neg (by simpa using hlast)]
    · rw [if_neg hlast, if_pos (by simpa using hlast)]
  case reserved =>
    intro v s hb hv
    refine congrArg Host.Outcome.next ?_
    have hgo : (!s.cmdBusy && (decide (fld 17 16 v = 0) || decide (fld 17 16 v = 3))) = true := by
      rcases hv with h | h <;> simp [hb, h]
    rw [hgo, onlyIf_true]
    rfl
  case base =>
    intro v s hall
    exact congrArg Host.Outcome.next (if_pos (by simpa using hall))
  case baseHeld =>
    intro v s e he hst
    refine congrArg Host.Outcome.next (if_neg fun h => hst ?_)
    exact of_decide_eq_true (List.all_eq_true.1 h e he)

end Sys2Proof.Machine
end

section
/-! PROOFS. The queues (R191 to R201), and the end of an item (R211), whose statement leaves out what the write of its record brings to an end
at that line's home. -/
set_option Elab.async false

namespace Sys2Proof.Machine

open Sys2Proof

section
variable {c q : Nat} {s t u : State} {fl : List (Nat × Bool)} {x : Queue} {l : List Byte}

theorem onUnit_okQueue (hc : c < 16384) (hq : q < 4) (t : State) : onUnit (okCtx c && okQueue q) t = .next t := by
  rw [okCtx, okQueue, decide_eq_true hc, decide_eq_true hq]
  rfl

theorem doorbellEffect_of_served {v : W64} (he : ctxEnabled s c = true) (hh : hasQueue s c q = true) :
    doorbellEffect c q v s = if doorbellValid s c q v then queuePut s (qKey c q) { queueAt s (qKey c q) with tail := v.truncate 32 }
      else parkQueue c q 2 (queueAt s (qKey c q)).accepted s := by
  simp only [doorbellEffect, he, hh, Bool.not_true, Bool.or_self, Bool.false_eq_true, if_false]

/-- A queue parks with its first cause (R197, R200). -/
theorem parkQueue_of_running {st : Nat} {i : W32} (h : (queueAt s (qKey c q)).status = 0) :
    parkQueue c q st i s = ctxEvent c q 3 i (queuePut s (qKey c q) { queueAt s (qKey c q) with status := st, parkedAt := i, rereads := 0 }) := by
  rw [parkQueue]
  exact congrArg _ (if_pos h)

/-- A descriptor read whose line is free and whose read succeeds. -/
theorem serveQueue_of_read (hw : rangeWaits s (subReq none) (some (ctxPart s c)) true (descAddr s c q (queueAt s (qKey c q)).accepted) 128 = false)
    (hr : memRead (subReq none) (some (ctxPart s c)) (descAddr s c q (queueAt s (qKey c q)).accepted) 128 s = (.ok l, u)) :
    serveQueue c q s =
      if fld 15 0 (bytesWord l 0) = genOf s c q (queueAt s (qKey c q)).accepted then acceptDesc c q (wordsOf l 16) u
      else if (queueAt s (qKey c q)).rereads < 8 then
        queuePut u (qKey c q) { queueAt s (qKey c q) with rereads := (queueAt s (qKey c q)).rereads + 1 }
      else parkQueue c q 1 (queueAt s (qKey c q)).accepted u := by
  have hword : (wordsOf l 16).getD 0 0 = bytesWord l 0 := rfl
  simp only [serveQueue, whenFree, hw, hr, hword, Bool.false_eq_true, if_false]

theorem queueResumeEffect_of_parked (he : ctxEnabled s c = true) (hh : hasQueue s c q = true) (hst : (queueAt s (qKey c q)).status ≠ 0) :
    queueResumeEffect c q s = queuePut s (qKey c q) { queueAt s (qKey c q) with status := 0, rereads := 0 } := by
  simp only [queueResumeEffect, he, hh, decide_eq_true hst, Bool.and_self, if_true]

theorem queueResumeEffect_of_running (hst : (queueAt s (qKey c q)).status = 0) : queueResumeEffect c q s = s := by
  simp [queueResumeEffect, hst]

end

/-- Settles O30: each command of a queue by its equation. -/
theorem queuesAreServedAndParked : Obligations.QueuesAreServedAndParked := by
  refine ⟨?rung, ?rungBadly, ?rungUnheard, ?accepted, ?again, ?otherTurn, ?reread, ?resume, ?running, ?skip⟩
  case rung =>
    intro c q v s hc hq he hh hv
    refine (onUnit_okQueue hc hq _).trans (congrArg Host.Outcome.next ?_)
    rw [doorbellEffect_of_served he hh, if_pos hv]
    rfl
  case rungBadly =>
    intro c q v s hc hq he hh hv hst
    refine (onUnit_okQueue hc hq _).trans (congrArg Host.Outcome.next ?_)
    rw [doorbellEffect_of_served he hh, if_neg (ne_true_of_eq_false hv)]
    exact parkQueue_of_running hst
  case rungUnheard =>
    intro c q v s hc hq h
    refine (onUnit_okQueue hc hq _).trans (congrArg Host.Outcome.next (if_pos ?_))
    rcases h with h | h <;> simp [h]
  case accepted =>
    rintro c q fl _ l u s hc hq hnext rfl hw hr hgen
    refine (onUnit_okQueue hc hq _).trans (congrArg Host.Outcome.next ?_)
    have hrun : descriptorReadEffect c q (setFlaws fl s) = serveQueue c q (setFlaws fl { s with rr := 4 * c + q }) := if_pos hnext
    rw [withFlaws, hrun, serveQueue_of_read (s := setFlaws fl { s with rr := 4 * c + q }) hw hr]
    exact congrArg _ (if_pos hgen)
  case again =>
    rintro c q fl _ l u s hc hq hnext rfl hw hr hgen hagain
    refine (onUnit_okQueue hc hq _).trans (congrArg Host.Outcome.next ?_)
    have hrun : descriptorReadEffect c q (setFlaws fl s) = serveQueue c q (setFlaws fl { s with rr := 4 * c + q }) := if_pos hnext
    rw [withFlaws, hrun, serveQueue_of_read (s := setFlaws fl { s with rr := 4 * c + q }) hw hr]
    exact congrArg _ ((if_neg hgen).trans (if_pos hagain))
  case otherTurn =>
    intro c q fl s hc hq hnext
    refine (onUnit_okQueue hc hq _).trans (congrArg Host.Outcome.next ?_)
    have hrun : descriptorReadEffect c q (setFlaws fl s) = setFlaws fl s := if_neg hnext
    rw [withFlaws, hrun]
    rfl
  case reread =>
    rintro c q fl _ l u s hc hq hwork rfl hre hw hr hgen
    refine (onUnit_okQueue hc hq _).trans (congrArg Host.Outcome.next ?_)
    have hgo : (hasWork (setFlaws fl s) c q && decide ((queueAt (setFlaws fl s) (qKey c q)).rereads ≠ 0)) = true := by
      rw [show hasWork (setFlaws fl s) c q = true from hwork]
      exact decide_eq_true hre
    rw [withFlaws, descriptorRereadEffect, if_pos hgo, serveQueue_of_read (s := setFlaws fl s) hw hr]
    exact congrArg _ (if_neg hgen)
  case resume =>
    intro c q s hc hq he hh hst
    exact (onUnit_okQueue hc hq _).trans (congrArg Host.Outcome.next (queueResumeEffect_of_parked he hh hst))
  case running =>
    intro c q s hc hq hst
    refine ⟨(onUnit_okQueue hc hq _).trans (congrArg Host.Outcome.next (queueResumeEffect_of_running hst)),
      (onUnit_okQueue hc hq _).trans (congrArg Host.Outcome.next (if_neg ?_))⟩
    have hst' : (queueAt s (qKey c q)).status = 0 := hst
    simp [hst']
  case skip =>
    rintro c q u s hc hq he hh hst hleft rfl
    refine (onUnit_okQueue hc hq _).trans (congrArg Host.Outcome.next ?_)
    have hgo : (ctxEnabled s c && hasQueue s c q && decide ((queueAt s (qKey c q)).status ≠ 0)) = true := by
      rw [he, hh]
      exact decide_eq_true hst
    have hresume := queueResumeEffect_of_parked he hh hst
    exact (if_pos hgo).trans ((if_neg hleft).trans (by rw [hresume]; rfl))

/-- Tensor core 8, of item 1, has asked for the line that item 0's completion record goes to. -/
def fillRequest : CohReq := { kind := .gets, req := 1, who := ⟨1, 8, some 1⟩, line := 1024 }

/-- Its fill, poisoned, is on its way. -/
def poisonedFill : State :=
  { witCtx with
    items := [(0, witItem), (1, witItem)], tcs := [(8, { item := some 1 })]
    coh := { dir := [(1024, ⟨.ts, 0, [1], .ds, some fillRequest, [], [1], false, [], false, 0⟩)], open_ := [fillRequest]
             net := [.homefill 1 1024 (some .s) false true 0] } }

/-- Refutes O31: the write of a completion record lets what is open at its line come to its end (log 148), and a poisoned fill that arrives
then faults its core, whose fault is noted at the core's own item. -/
theorem not_itemsAreAcceptedAndEnd : ¬ Obligations.ItemsAreAcceptedAndEnd := by
  rintro ⟨-, -, -, -, -, -, -, -, -, -, hothers⟩
  obtain ⟨t, ht, -, -, hkeep⟩ := hothers 0 witItem 0 poisonedFill (by decide)
  have hmem := hkeep 1 witItem (by decide) (List.mem_cons_of_mem _ List.mem_cons_self)
  rw [← ht] at hmem
  exact absurd hmem (by decide +kernel)

end Sys2Proof.Machine
end

section
/-! PROOFS. Batons and the entry window (R217 to R224). -/
set_option Elab.async false

namespace Sys2Proof.Machine

open Sys2Proof

section
variable {b : Nat} {op v : W32} {s : State}

theorem onUnit_okBaton (h : b < 8192) (t : State) : onUnit (okBaton b) t = .next t := by rw [okBaton, decide_eq_true h, onUnit_true]

/-- With no item ready, nothing is released. -/
theorem settleAll_of_noneReady (h : firstReady s = none) : settleAll s = s := by
  rw [settleAll]
  cases s.items.length with
  | zero => rfl
  | succ f => rw [settle, h]

theorem settleAll_of_noItems (h : s.items = []) : settleAll s = s := by rw [settleAll, h]; rfl

theorem batonOp_of_ok (hb : b < 8192) (hw : batonWordOk op = true) :
    batonOp b op s = batonStore b (batonApply op (batonAt s b).value) (op.getLsbD 4) s := by
  rw [batonOp, hw, decide_eq_true hb]; rfl

theorem batonOp_of_reserved (hw : batonWordOk op = false) : batonOp b op s = s := by rw [batonOp, hw]; rfl

/-- What the waiters and the event of a Baton leave: every part but the cores and the sources. -/
theorem batonStore_did_put (e : Bool) :
    Did 0x10000004002 (batonPut s b { batonAt s b with value := v }) (batonStore b v e s) := by
  unfold batonStore
  extract_lets x t rise t'
  have ht : Did 0x10000004002 t t' := did_ite (scRaise_did rfl (.refl _)) (.refl _)
  exact did_foldl (fun _ _ hu => wakeCore_did rfl hu) ht

theorem batonStore_items (e : Bool) : (batonStore b v e s).items = s.items := (batonStore_did_put e).items rfl

theorem batonStore_batons (e : Bool) : (batonStore b v e s).batons = tset {} s.batons b { batonAt s b with value := v } :=
  (batonStore_did_put e).batons rfl

theorem batonStore_tb (e : Bool) : (batonStore b v e s).tb = s.tb := (batonStore_did_put e).tb rfl

/-- With no core and no event enabled, a new value is all that changes. -/
theorem batonStore_of_quiet {e : Bool} (hc : bit 1 (batonAt s b).ctl = false) (ht : s.tcs = []) :
    batonStore b v e s = batonPut s b { batonAt s b with value := v } := by
  simp [batonStore, hc, ht]

/-- With no core, a condition that comes to hold raises the Baton's event (R222). -/
theorem batonStore_of_rise (hc : bit 1 (batonAt s b).ctl = true) (ht : s.tcs = []) (hv : condHolds (batonAt s b).cond v = true)
    (hold : condHolds (batonAt s b).cond (batonAt s b).value = false) :
    batonStore b v false s = scRaise 1 (BitVec.ofNat 32 b) (batonPut s b { batonAt s b with value := v }) := by
  have htcs : (scRaise 1 (BitVec.ofNat 32 b) (batonPut s b { batonAt s b with value := v })).tcs = [] :=
    ((scRaise_did (W := but 14) rfl (.refl _)).tcs rfl).trans ht
  simp [batonStore, hc, hv, hold, htcs]

theorem batonCondMask (v : W64) : maskWrite 0x7FFFFFFFF 0 v = v &&& 0x7FFFFFFFF := by simp [maskWrite]

end

section
variable (x : BitVec 24) (e : Bool)

/-- An operation word: the operand, three reserved bits, EVT and the code (R217). -/
def batonWord (k : BitVec 4) : W32 := x ++ (0 : BitVec 3) ++ (BitVec.ofBool e) ++ k

theorem batonWord_operand (k : BitVec 4) : batonWord x e k >>> 8 = x.zeroExtend 32 := by
  unfold batonWord
  ext i hi
  simp only [BitVec.getElem_ushiftRight, BitVec.getLsbD_append, BitVec.getElem_setWidth]
  rw [if_neg (by omega), if_neg (by omega), if_neg (by omega)]
  congr 1; omega

theorem batonWord_code (k : BitVec 4) : (batonWord x e k).toNat % 16 = k.toNat := by
  unfold batonWord
  rw [BitVec.toNat_append, Nat.shiftLeft_eq]
  have h := Nat.or_mod_two_pow (a := (x ++ (0 : BitVec 3) ++ BitVec.ofBool e).toNat * 2 ^ 4) (b := k.toNat) (n := 4)
  rw [Nat.mul_mod_left, Nat.zero_or, Nat.mod_eq_of_lt k.isLt] at h
  exact h

/-- The operations on a Baton's value, by their codes (R217). -/
theorem batonApply_batonWord (v : W32) :
    batonApply (batonWord x e 1) v = x.zeroExtend 32 ∧ batonApply (batonWord x e 2) v = v + x.zeroExtend 32 ∧
    batonApply (batonWord x e 3) v = v - x.zeroExtend 32 ∧
    (batonApply (batonWord x e 4) v).toNat = max v.toNat x.toNat ∧ batonApply (batonWord x e 5) v = v ||| x.zeroExtend 32 ∧
    batonApply (batonWord x e 6) v = v &&& ~~~(x.zeroExtend 32) := by
  simp only [batonApply, batonWord_operand, batonWord_code]
  refine ⟨rfl, rfl, rfl, ?_, rfl, rfl⟩
  have hx : (x.zeroExtend 32).toNat = x.toNat := by
    rw [BitVec.toNat_setWidth, Nat.mod_eq_of_lt (by have := x.isLt; omega)]
  show (if v.toNat < (x.zeroExtend 32).toNat then x.zeroExtend 32 else v).toNat = _
  rw [hx]
  split
  · rw [hx]; omega
  · omega

end

section
variable {c n off : Nat} {v : W64} {s : State}

theorem ewinSet_of_slot {w : Nat} (hs : ewIsSlot s c = true) (hn : ewSel s c < 64) (hb : slotBound s (ewSel s c) c = true) :
    ewinSet c w v s = slotWrite (ewSel s c) w v false s := by
  simp [ewinSet, hs, hn, hb]

theorem ewinSet_of_unboundSlot {w : Nat} (hs : ewIsSlot s c = true) (hb : slotBound s (ewSel s c) c = false) : ewinSet c w v s = s := by
  simp [ewinSet, hs, hb]

theorem ewinSet_of_group {w : Nat} (hs : ewIsSlot s c = false) (hb : groupOf s (ewSel s c) c = true) :
    ewinSet c w v s = groupWrite (ewSel s c) w v false s := by
  simp [ewinSet, hs, hb]

theorem ewinSet_of_unboundGroup {w : Nat} (hs : ewIsSlot s c = false) (hb : groupOf s (ewSel s c) c = false) : ewinSet c w v s = s := by
  simp [ewinSet, hs, hb]

theorem execEwinWrite_of_word (hc : c < 16384) (hoff : off < 64) (hal : off % 8 = 0) :
    exec (.ewinWrite c off v) s = .next (ewinSet c (off / 8) v s) := by
  refine (onUnit_okCtx hc _).trans (congrArg Host.Outcome.next ?_)
  rw [decide_eq_true hoff, decide_eq_true hal]; rfl

theorem execEwinWrite_of_noWord (hc : c < 16384) (h : off % 8 ≠ 0 ∨ 64 ≤ off) : exec (.ewinWrite c off v) s = .next s := by
  refine (onUnit_okCtx hc _).trans (congrArg Host.Outcome.next ?_)
  have hno : (decide (off < 64) && decide (off % 8 = 0)) = false := by
    rw [Bool.and_eq_false_iff, decide_eq_false_iff_not, decide_eq_false_iff_not]; omega
  rw [hno]; rfl

end

/-- Settles O32: a new value is kept by what the waiters and the event change, and a write in the window is the write of the entry it selects. -/
theorem batonsAndEntryWindowsTakeTheirWrites : Obligations.BatonsAndEntryWindowsTakeTheirWrites := by
  refine ⟨fun v x e => batonApply_batonWord x e v, fun b op s hb hw hc ht hi => ?_, fun b op s hb hw => ⟨⟨_, onUnit_okBaton hb _, ?_, fun hi => ?_⟩, rfl⟩,
    fun b op s hb hw hr => ?_, fun b v s hb => ⟨_, onUnit_okBaton hb _, fun hi => ?_⟩, fun b v s hb hc hi ht hv hold => ?_,
    fun b v s hb => ?_, fun b v s hb hn => ?_, fun b v s hb hn hch => ?_, fun c n v s hc hs hn hlt hb => ?_,
    fun c off v s hc hoff hal hs hg hsel => ?_, fun c off v s hc h => ?_⟩
  · have hq : signalBaton b op s = batonPut s b { batonAt s b with value := batonApply op (batonAt s b).value } := by
      rw [signalBaton, batonOp_of_ok hb hw, batonStore_of_quiet hc ht]; exact settleAll_of_noItems hi
    exact ⟨(onUnit_okBaton hb _).trans (congrArg _ hq), (onUnit_okBaton hb _).trans (congrArg _ hq)⟩
  · rw [signalBaton, settleAll_tb, batonOp_of_ok hb hw, batonStore_tb]
  · rw [signalBaton, batonOp_of_ok hb hw, settleAll_of_noItems ((batonStore_items _).trans hi), batonStore_batons]
  · have hq : signalBaton b op s = s := by rw [signalBaton, batonOp_of_reserved hw, settleAll_of_noneReady hr]
    exact ⟨(onUnit_okBaton hb _).trans (congrArg _ hq), (onUnit_okBaton hb _).trans (congrArg _ hq)⟩
  · rw [batonValueSet, settleAll_of_noItems ((batonStore_items _).trans hi), batonStore_batons]
  · refine (onUnit_okBaton hb _).trans (congrArg _ ?_)
    rw [batonValueSet, settleAll_of_noItems ((batonStore_items _).trans hi), batonStore_of_rise hc ht hv hold]
  · exact (onUnit_okBaton hb _).trans (by rw [batonCondSet, batonCondMask])
  · refine (onUnit_okBaton hb _).trans (congrArg _ ?_)
    simp only [batonCtlSet, hn, Bool.and_false, Bool.false_eq_true, if_false]
  · refine (onUnit_okBaton hb _).trans (congrArg _ ?_)
    simp only [batonCtlSet, hn, decide_eq_true hch, Bool.and_true, if_true]
  · subst hn
    have hword : ∀ k, k < 8 → exec (.ewinWrite c (8 * k) v) s = .next (slotWrite (ewSel s c) k v false s) := fun k hk => by
      rw [execEwinWrite_of_word hc (by omega) (by omega), ewinSet_of_slot hs hlt hb, Nat.mul_div_cancel_left _ (by decide)]
    exact ⟨hword 1 (by decide), hword 2 (by decide), hword 3 (by decide), hword 4 (by decide),
      (hword 5 (by decide)).trans (onUnit_okSlot hlt _).symm, (hword 6 (by decide)).trans (onUnit_okSlot hlt _).symm, hword 0 (by decide)⟩
  · rw [execEwinWrite_of_word hc hoff hal, ewinSet_of_group hs hg]
    refine Eq.symm ?_
    show onUnit (okGroup (ewSel s c)) (onlyIf (decide (off < 64) && decide (off % 8 = 0)) _ s) = _
    rw [okGroup, decide_eq_true hsel, decide_eq_true hoff, decide_eq_true hal]; rfl
  · by_cases hw : off % 8 ≠ 0 ∨ 64 ≤ off
    · exact execEwinWrite_of_noWord hc hw
    · rw [execEwinWrite_of_word hc (by omega) (by omega)]
      rcases h with h | h | ⟨hs, hb⟩ | ⟨hs, hb⟩
      · exact absurd (Or.inl h) hw
      · exact absurd (Or.inr h) hw
      · rw [ewinSet_of_unboundSlot hs hb]
      · rw [ewinSet_of_unboundGroup hs hb]

end Sys2Proof.Machine
end

section
/-! PROOFS. Pages at enqueue and while an item runs (R232 to R244). -/
set_option Elab.async false

namespace Sys2Proof.Machine

open Sys2Proof

section
variable {s u : State} {fl : List (Nat × Bool)} {n c vpn acc : Nat} {it : Item} {pages m : List (Nat × Nat)}

theorem withFlaws_eq {f : State → State} {t : State} (h : f (setFlaws fl s) = t) : withFlaws fl f s = setFlaws [] t := by rw [withFlaws, h]

theorem whenWalks_of_go (h : WalksGo s c pages) (t : State) : whenWalks c pages t s = t := by
  have hnone : pages.findSome? (fun p => walkWaits s c p.1 (p.2 % 8)) = none := List.findSome?_eq_none_iff.mpr h
  rw [whenWalks, hnone]

theorem walksGo_of_bare (h : bare s c = true) : WalksGo s c pages := fun p _ => by simp [walkWaits, h]

theorem walk_of_bare (h : bare s c = true) : walk s c vpn acc = (.page vpn 1 7 false false, []) := by simp [walk, h]

theorem walkReady_of_bare (h : bare s c = true) (f : Nat) : walkReady c vpn acc f s = s := by
  cases f with
  | zero => rfl
  | succ f => simp [walkReady, walk_of_bare h, walkShut]

/-- In a Bare context a page is its own translation, where the context may reach it (R231, R232). -/
theorem resolvePage_of_bare {i : Option Nat} (h : bare s c = true) :
    resolvePage c i vpn acc s = (if pageAllowed s (ctxPart s c) vpn then .ok vpn false else .denied, s) := by
  have hwalk : walkPage c i vpn acc s = (if pageAllowed s (ctxPart s c) vpn then .ok vpn false else .denied, s) := by
    cases ha : pageAllowed s (ctxPart s c) vpn <;>
      simp [walkPage, walkReady_of_bare h, walk_of_bare h, h, ha, walkNotes, oneSet, keepWalk, Nat.mod_one]
  cases ht : tlbFind s.stu.master (vmidOf s c) (asidOf s c) vpn acc with
  | none => simp [resolvePage, ht, hwalk]
  | some e => simp [resolvePage, ht, h, hwalk]

theorem pagePhys_of_bare_state {i : Option Nat} (h : bare s c = true) : (pagePhys c i vpn acc s).2 = s := by
  cases ha : pageAllowed s (ctxPart s c) vpn <;> simp [pagePhys, resolvePage_of_bare h, ha]

theorem engPage_of_bare_state {tc : Nat} {f : Bool} {i : Option Nat} (h : bare s c = true) : (engPage tc f c i vpn acc s).2 = s := by
  rw [engPage, if_pos h, pagePhys_of_bare_state h]

theorem engPage_of_cluster {tc : Nat} {f : Bool} {i : Option Nat} {e : Tlb} (h : bare s c = false)
    (hm : tlbFind (microAt s (microKey tc f)) (vmidOf s c) (asidOf s c) vpn acc = none)
    (hc : tlbFind (clusterAt s (tc / 8)) (vmidOf s c) (asidOf s c) vpn acc = some e) :
    (engPage tc f c i vpn acc s).2 = installTlb tc f false e s := by
  simp [engPage, h, hm, hc]

theorem trimSet_of_one {α : Type} (l : List α) (k : Nat) : trimSet (fun _ => true) k l = l.take k := by
  induction l generalizing k with
  | nil => simp [trimSet]
  | cons x r ih => cases k with
    | zero => simp [trimSet, ih]
    | succ k => simp [trimSet, ih]

/-- A micro-TLB is one set of 64 (R233, log 114). -/
theorem microPut_eq (e : Tlb) (l : List Tlb) : microPut e l = (e :: l.filter fun x => decide (x ≠ e)).take 64 := by
  have hone : (fun x : Tlb => decide (tlbSet 1 x = tlbSet 1 e)) = fun _ => true := by
    funext x; simp [tlbSet, Nat.mod_one]
  rw [microPut, setPut, hone, trimSet_of_one]

/-- An item being walked whose operand table needs no reading has its pages resolved, and goes on as they came out (R238). -/
theorem pageWalkEffect_of_walking (hi : itemAt s n = some it) (hph : it.phase = .walking) (ht : tableUnread it = false) (his : issuing s = true)
    (hw : WalksGo s it.ctx (itPages it)) {d : Bool} (hr : resolveAll it.ctx n (itPages it) (itemPut s n it) = (m, d, u)) :
    pageWalkEffect n s = settleAll (retireReqs (afterWalk n m d u)) := by
  have hgo : ¬ (it.phase ≠ .walking ∨ issuing s = false) := by rw [hph, his]; simp
  simp only [pageWalkEffect, hi, if_neg hgo, whenWalks_of_go hw, ht, Bool.false_and, Bool.false_eq_true, if_false]
  rw [show resolveAll it.ctx n _ _ = _ from hr]

theorem pageWalkEffect_of_idle (hi : itemAt s n = some it) (h : it.phase ≠ .walking ∨ issuing s = false) : pageWalkEffect n s = s := by
  simp only [pageWalkEffect, hi, if_pos h]

end

section
variable {s u : State} {tc n tag : Nat} {f : Bool} {va : W64} {it : Item}

theorem onUnit_okTc (h : tc < 192) (t : State) : onUnit (okTc tc) t = .next t := by rw [okTc, decide_eq_true h, onUnit_true]

theorem tlbFillEffect_of_present (htc : (tcAt s tc).item = some n) (hi : itemAt s n = some it)
    (hout : f = true → va.toNat / 4096 ∉ (tcAt s tc).codeOut)
    (hw : bare s it.ctx = true ∨ (tlbFind (clusterAt s (tc / 8)) (vmidOf s it.ctx) (asidOf s it.ctx) (va.toNat / 4096)
      (if f then 4 else accessAt it va.toNat)).isSome = true) :
    tlbFillEffect tc f va s = (engPage tc f it.ctx (some n) (va.toNat / 4096) (if f then 4 else accessAt it va.toNat) s).2 := by
  have hgo : ∀ (x : Bool) (t : State), x = true ∨ bare s it.ctx = true →
      whenWalks it.ctx (if x then [] else [(va.toNat / 4096, if f then 4 else accessAt it va.toNat)]) t s = t := by
    rintro x t (rfl | hb)
    · rfl
    · exact whenWalks_of_go (walksGo_of_bare hb) t
  simp only [tlbFillEffect, htc, hi]
  rw [hgo _ _ (hw.symm.imp (fun h => by rw [h, Bool.or_true]) id)]
  cases f with
  | false => rfl
  | true => simp [hout rfl]

/-- A transfer that misses, in a core that has not stopped and with PRQ_EN 1, is held, with a request that says RUN (R244). -/
theorem transferMissEffect_of_missing {acc st : Nat} {adb : Bool} (htc : (tcAt s tc).item = some n) (hi : itemAt s n = some it)
    (hph : it.phase = .running) (his : issuing s = true) (hat : transferAt it (tcAt s tc) tag f va.toNat = true)
    (hst : (tcAt s tc).stopped = false) (hacc : acc = if f then 4 else heldAccess it (tcAt s tc) tag)
    (hm : tlbFind (microAt s (microKey tc f)) (vmidOf s it.ctx) (asidOf s it.ctx) (va.toNat / 4096) acc = none)
    (hcl : tlbFind (clusterAt s (tc / 8)) (vmidOf s it.ctx) (asidOf s it.ctx) (va.toNat / 4096) acc = none)
    (hw : WalksGo s it.ctx [(va.toNat / 4096, acc)])
    (hr : resolvePage it.ctx (some n) (va.toNat / 4096) acc s = (.missing st adb, u)) (hu : tcAt u tc = tcAt s tc) (hq : bit 1 u.stu.cfg = true) :
    transferMissEffect tc tag f va s = requestPage it.ctx (va.toNat / 4096) acc st true adb n
      (tcPut u tc { tcAt s tc with heldOps := (tcAt s tc).heldOps ++ [(if f then 0 else tag, va)] }) := by
  subst hacc
  have hprq : ∀ c, prqEn (tcPut u tc c) = true := fun _ => hq
  simp only [transferMissEffect, htc, hi, hph, his, hat, hm, hcl, whenWalks_of_go hw, hr, hst, tcMod, hu, hprq]
  simp

theorem transferMissEffect_of_found (htc : (tcAt s tc).item = some n) (hi : itemAt s n = some it)
    (h : (tlbFind (microAt s (microKey tc f)) (vmidOf s it.ctx) (asidOf s it.ctx) (va.toNat / 4096)
      (if f then 4 else heldAccess it (tcAt s tc) tag)).isSome = true) : transferMissEffect tc tag f va s = s := by
  simp only [transferMissEffect, htc, hi, h, Bool.or_true, Bool.true_or, if_true]

end

/-- Settles O33: what the walks of an item's pages come to decides its phase; a fill copies the cluster's entry, and a page that no level holds
is asked for. -/
theorem pagesResolveAtEnqueueAndWhileRunning : Obligations.PagesResolveAtEnqueueAndWhileRunning := by
  refine ⟨fun n fl it u s hi hph ht his hw hr hu hd => ?_, fun n fl it m u s hi hph ht his hw hr hu => ?_,
    fun n fl it p m u s hi hph ht his hw hr hu => ?_, fun n fl it s hi h => ?_, fun s c vpn acc i hb ha => ?_, fun s c vpn acc i hb ha => ?_,
    fun tc n f va fl it e acc s hc htc hi hb hout hacc hm hcl => ?_, fun tc n f va fl it s hc htc hi hb hout => ?_,
    fun tc tag n f va fl it acc st adb u s hc htc hi hph his hat hst hacc hm hcl hw hr hu hq => ?_,
    fun tc tag n f va fl it s hc htc hi h => ?_⟩
  · refine congrArg Host.Outcome.next (withFlaws_eq ((pageWalkEffect_of_walking (s := setFlaws fl s) hi hph ht his hw hr).trans ?_))
    have hat : itemAt (itemPut u n { it with phase := .waiting, pages := [], batch := [] }) n = some { it with phase := .waiting, pages := [], batch := [] } :=
      itemAt_put ..
    simp only [afterWalk, hu, ht, Bool.false_eq_true, if_false, if_true]
    rw [itemTime_of_noDeadline hat hd]
  · refine congrArg Host.Outcome.next (withFlaws_eq ((pageWalkEffect_of_walking (s := setFlaws fl s) hi hph ht his hw hr).trans ?_))
    simp only [afterWalk, hu, if_true]
  · refine congrArg Host.Outcome.next (withFlaws_eq ((pageWalkEffect_of_walking (s := setFlaws fl s) hi hph ht his hw hr).trans ?_))
    simp only [afterWalk, hu, Bool.false_eq_true, if_false, reduceCtorEq]
  · exact congrArg Host.Outcome.next ((withFlaws_eq (pageWalkEffect_of_idle (s := setFlaws fl s) hi h)).trans rfl)
  · rw [resolvePage_of_bare hb, ha]; rfl
  · rw [resolvePage_of_bare hb, ha]; rfl
  · subst hacc
    refine (onUnit_okTc hc _).trans (congrArg Host.Outcome.next ((withFlaws_eq (t := installTlb tc f false e (setFlaws fl s)) ?_).trans ?_))
    · rw [tlbFillEffect_of_present (s := setFlaws fl s) htc hi hout (.inr (congrArg Option.isSome hcl))]
      exact engPage_of_cluster hb hm hcl
    · simp only [installTlb, microPut_eq]; rfl
  · refine (onUnit_okTc hc _).trans (congrArg Host.Outcome.next ((withFlaws_eq (t := setFlaws fl s) ?_).trans rfl))
    rw [tlbFillEffect_of_present (s := setFlaws fl s) htc hi hout (.inl hb), engPage_of_bare_state (s := setFlaws fl s) hb]
  · subst hacc
    exact (onUnit_okTc hc _).trans (congrArg Host.Outcome.next (withFlaws_eq
      (transferMissEffect_of_missing (s := setFlaws fl s) htc hi hph his hat hst rfl hm hcl hw hr hu hq)))
  · exact (onUnit_okTc hc _).trans (congrArg Host.Outcome.next ((withFlaws_eq (transferMissEffect_of_found (s := setFlaws fl s) htc hi h)).trans rfl))

end Sys2Proof.Machine
end

section
/-! PROOFS. Page requests and their answers (R245 to R248). -/
set_option Elab.async false

namespace Sys2Proof.Machine

open Sys2Proof

section
variable {s : State} {tag code : Nat} {ans : PReq → State → State}

/-- An answer to an outstanding request retires it first (R247). -/
theorem respond_of_open {r : PReq} (h : s.stu.reqs.find? (fun q => decide (q.tag = tag)) = some r) :
    respond tag ans s = settleAll (retireReqs (ans r { s with stu := { s.stu with reqs := s.stu.reqs.filter fun q => decide (q.tag ≠ tag) } })) := by
  rw [respond, h]; rfl

theorem reqs_find_none (h : ∀ q ∈ s.stu.reqs, q.tag ≠ tag) : s.stu.reqs.find? (fun q => decide (q.tag = tag)) = none := by
  simpa using h

theorem respond_of_unknown (h : ∀ q ∈ s.stu.reqs, q.tag ≠ tag) :
    respond tag ans s = if s.stu.nextTag ≤ tag then { s with stu := { s.stu with badResp := true } } else s := by
  rw [respond, reqs_find_none h]; rfl

theorem flushReqs_of_allWritten (h : ∀ q ∈ s.stu.reqs, q.written = true) : flushReqs s = s := by
  have hnone : (s.stu.reqs.filter fun r => !r.written) = [] := by simpa using h
  rw [flushReqs, if_pos hnone]

theorem prqErrorEffect_of_posted (hq : prqEn s = true) (hw : s.stu.werr = false) (hl : s.stu.posted ≠ []) (h1 : 1 ≤ code) (h6 : code ≤ 6) :
    prqErrorEffect code s =
      let t := unpost (s.stu.posted.drop ((Config.free s.fresh).toNat % s.stu.posted.length)) { s with fresh := s.fresh + 1 }
      scRaise t.stu.prqSrc 0 (stuMod (memErr code (prqAddr t) (stuReq none) t) fun x => { x with werr := true }) := by
  simp [prqErrorEffect, hq, hw, hl, h1, h6]

theorem prqErrorEffect_of_none (h : s.stu.werr = true ∨ s.stu.posted = [] ∨ code = 0 ∨ 6 < code) : prqErrorEffect code s = s := by
  rw [prqErrorEffect]
  refine if_neg fun hc => ?_
  simp only [Bool.and_eq_true, Bool.not_eq_true', decide_eq_true_eq] at hc
  obtain ⟨⟨⟨⟨-, hw⟩, hl⟩, h1⟩, h6⟩ := hc
  rcases h with h | h | h | h
  · rw [hw] at h; cases h
  · exact hl h
  · omega
  · omega

/-- Raising the ring's event leaves the unit and what was sent. -/
theorem scRaise_stu (k : Nat) (d : W32) (s : State) : (scRaise k d s).stu = s.stu := (scRaise_did (W := but 29) rfl (.refl s)).stu rfl
theorem scRaise_out (k : Nat) (d : W32) (s : State) : (scRaise k d s).out = s.out := (scRaise_did (W := but 2) rfl (.refl s)).out rfl

theorem memErr_stu (pa : Nat) (w : Requester) (s : State) : (memErr code pa w s).stu = s.stu := (memErr_did (W := but 29) rfl (.refl s)).stu rfl

end

/-- Settles O34: each answer goes by whether its tag is outstanding, and the records not written are the ones that `flushReqs` finds. -/
theorem pageRequestsAreAnswered : Obligations.PageRequestsAreAnswered := by
  refine ⟨fun tag fl r u s h hu => ?_, fun tag fl s h ht => ?_, fun tag fl s h ht => ?_, fun v s h => ?_, fun v s h => ?_, fun v s h => ?_,
    fun v s => ⟨rfl, rfl⟩, fun code l s hq hw hl hne h1 h6 => ?_, fun code s h => ?_⟩
  · subst hu
    exact ⟨congrArg Host.Outcome.next (respond_of_open h), congrArg Host.Outcome.next (withFlaws_eq (respond_of_open (s := setFlaws fl s) h))⟩
  · have hr : ∀ {t : State} {ans : PReq → State → State}, t.stu = s.stu → respond tag ans t = { t with stu := { t.stu with badResp := true } } :=
      fun {t ans} e => by rw [respond_of_unknown (by rwa [e]), if_pos (by rwa [e])]
    exact ⟨congrArg Host.Outcome.next (hr rfl), congrArg Host.Outcome.next ((withFlaws_eq (hr (t := setFlaws fl s) rfl)).trans rfl)⟩
  · have hr : ∀ {t : State} {ans : PReq → State → State}, t.stu = s.stu → respond tag ans t = t :=
      fun {t ans} e => by rw [respond_of_unknown (by rwa [e]), if_neg (by rw [e]; omega)]
    exact ⟨congrArg Host.Outcome.next (hr rfl), congrArg Host.Outcome.next ((withFlaws_eq (hr (t := setFlaws fl s) rfl)).trans rfl)⟩
  · exact congrArg Host.Outcome.next (by rw [prqBaseSet, prqEn, h]; rfl)
  · exact congrArg Host.Outcome.next (by rw [prqBaseSet, prqEn, h]; rfl)
  · exact ⟨congrArg Host.Outcome.next (flushReqs_of_allWritten (s := { s with stu := { s.stu with prqHead := v } }) h),
      congrArg Host.Outcome.next (flushReqs_of_allWritten (s := { s with stu := { s.stu with werr := false } }) h)⟩
  · subst hl
    have hpos : 0 < s.stu.posted.length := List.length_pos_of_ne_nil hne
    refine ⟨(Config.free s.fresh).toNat % s.stu.posted.length, _, Nat.mod_lt _ hpos,
      congrArg Host.Outcome.next (prqErrorEffect_of_posted hq hw hne h1 h6), ?_, ?_⟩
    · simp [unpost, stuMod, memErr_stu, scRaise_stu]
    · simp [unpost, stuMod, memErr_out, memErr_stu, scRaise_out, scRaise_stu, prqAddr, stuReq]
  · exact congrArg Host.Outcome.next (prqErrorEffect_of_none h)

end Sys2Proof.Machine
end

section
/-! PROOFS. HBM errors (R263 to R268): their statement leaves out that an uncorrectable error poisons the line in every cache too (R264). -/
set_option Elab.async false

namespace Sys2Proof.Machine

open Sys2Proof

/-- A running E9 in which a core's group holds line 0, not poisoned. -/
def cachedLineZero : State := { witRun with coh := { lines := [(0, 0, { st := .s, data := 0, poison := false })] } }

/-- Refutes O36: an uncorrectable error at line 0 poisons the group's copy of it, so the caches do not stay as they were. -/
theorem not_hbmErrorsAreRecorded : ¬ Obligations.HbmErrorsAreRecorded := by
  rintro ⟨-, -, -, -, huncorr, -⟩
  obtain ⟨t, ht, -, -, hcoh⟩ := huncorr 0 cachedLineZero (by decide) (by decide)
  have hnext : t = witNext (exec (.scrubStep 0 false true) cachedLineZero) := by rw [ht]; rfl
  rw [hnext] at hcoh
  exact absurd (congrArg (fun c : Coh => c.lines.map fun e => e.2.2.poison) hcoh) (by decide +kernel)

end Sys2Proof.Machine
end

section
/-! PROOFS. Channel retirement (R269 to R275). -/
set_option Elab.async false

namespace Sys2Proof.Machine

open Sys2Proof

section
variable {md c d : Nat} {s : State} {v : W64}

theorem onUnit_of_true {b : Bool} (h : b = true) (t : State) : onUnit b t = .next t := by rw [h, onUnit_true]

theorem onUnit_okMd (h : md < 6) (t : State) : onUnit (okMd md) t = .next t := by rw [okMd, decide_eq_true h, onUnit_true]

theorem onDie_of_present {win pa : Nat} {t : State} (h : diePresent s win = true) : onDie win pa t s = t := by rw [onDie, if_pos h]
theorem onDie_of_absent {win pa : Nat} {t : State} (h : diePresent s win = false) : onDie win pa t s = memErr 1 pa (noUnit win) s := by
  rw [onDie, h]; rfl

theorem becomeCandidate_of_known (h : newCandidate s md c = false) : becomeCandidate md c d s = s := by rw [becomeCandidate, h]; rfl

/-- A new candidate is a fault, and is entered once no recovery window is open (R269, R491). -/
theorem becomeCandidate_of_new {u : State} (h : newCandidate s md c = true)
    (hu : u = fault1 0x0104 (128 * md + c) d [(2, 128 * md + c)] s) (hr : inReset u = false) :
    becomeCandidate md c d s = if s.faults.windows = [] then addCandidate md c u else deferRepair 0x0104 (128 * md + c) false 0 u := by
  simp only [becomeCandidate, h, ← hu, hr, deferNow]
  by_cases hw : s.faults.windows = [] <;> simp [hw]

theorem startMigration_of_first {l : List Nat} (hc : (mdAt s md).cands = c :: l) (hm : (mdAt s md).migrating = none) :
    startMigration md s = fault2 0x0205 (128 * md + c) 0 [(2, 128 * md + c)]
      (mdPut s md { mdAt s md with cands := l, migrating := some c, withdrawn := true, mark := 0 }) := by
  simp [startMigration, hc, hm]

theorem startMigration_of_none (h : (mdAt s md).cands = [] ∨ (mdAt s md).migrating ≠ none) : startMigration md s = s := by
  rw [startMigration]
  cases hc : (mdAt s md).cands with
  | nil => rfl
  | cons c l =>
    rcases h with h | h
    · rw [hc] at h; cases h
    · simp [Option.isSome_iff_ne_none.mpr h]

/-- What `newCandidate` asks is what `addCandidate` asks first. -/
theorem newCandidate_iff (h : newCandidate s md c = true) :
    ((mdAt s md).cands.contains c || (mdAt s md).retired.contains c || (mdAt s md).noReserve.contains c ||
      decide ((mdAt s md).migrating = some c)) = false := by
  simpa [newCandidate, and_assoc] using h

theorem addCandidate_of_reserved {r : Nat} (h : newCandidate s md c = true) (hr : r ∈ (mdAt s md).retired) (hp : r / 32 = c / 32) :
    addCandidate md c s = mdPut s md { mdAt s md with noReserve := insNat c (mdAt s md).noReserve } := by
  have hany : (mdAt s md).retired.any (fun r => decide (r / 32 = c / 32)) = true := List.any_eq_true.mpr ⟨r, hr, decide_eq_true hp⟩
  simp only [addCandidate, newCandidate_iff h, hany, Bool.true_or, if_true, Bool.false_eq_true, if_false]

theorem addCandidate_of_free (h : newCandidate s md c = true) (hr : ∀ r ∈ (mdAt s md).retired, r / 32 ≠ c / 32) (hm : (mdAt s md).migrating = none)
    (hw : (mdAt s md).withdrawn = false)
    (hb : bit 0 (regGet (mdPut s md { mdAt s md with cands := insNat c (mdAt s md).cands }) (mdReg md 0x1D8)) = false) :
    addCandidate md c s = mdPut s md { mdAt s md with cands := insNat c (mdAt s md).cands } := by
  have hany : (mdAt s md).retired.any (fun r => decide (r / 32 = c / 32)) = false := by simpa using hr
  simp only [addCandidate]
  rw [if_neg (by rw [newCandidate_iff h]; decide), if_neg (by rw [hany, hm]; exact Bool.false_ne_true), if_neg (by rw [hb, hw]; decide)]

/-- A window that closes with nothing deferred only goes (R490). -/
theorem closeWindow_of_noDeferred {code unit : Nat} (h : s.faults.deferred = []) :
    closeWindow code unit s = { s with faults := { s.faults with
      windows := s.faults.windows.filter fun w => !(decide (w.code = code) && decide (w.unit = unit)), deferred := [] } } := by
  simp [closeWindow, h]

end

section
variable {md c : Nat} {s : State}

/-- The state with the channel retired, before the event and the window (R272 step 4). -/
def channelRetired (md c : Nat) (s : State) : State :=
  { mdPut s md { mdAt s md with migrating := none, retired := insNat c (mdAt s md).retired } with
    flash := { s.flash with retired := insNat (128 * md + c) s.flash.retired } }

theorem insNat_ne_nil (l : List Nat) : insNat c l ≠ [] := List.ne_nil_of_mem (mem_insNat c l)

theorem mdAt_channelRetired : mdAt (channelRetired md c s) md = { mdAt s md with migrating := none, retired := insNat c (mdAt s md).retired } :=
  mdAt_put s md _ fun h => insNat_ne_nil _ (congrArg Md.retired h)

theorem migrationEffect_of_last (hm : (mdAt s md).migrating = some c) (hc : (mdAt s md).cands = []) :
    migrationEffect md s = startMigration md (closeWindow 0x0205 (128 * md + c)
      (clarynEvent 0x3403 1 (hbmCapacity (channelRetired md c s)) (channelRetired md c s))) := by
  simp only [migrationEffect, hm, channelRetired, hc, List.filter_nil, List.foldl_nil, mdPut_flash]

theorem migrationEffect_of_idle (hm : (mdAt s md).migrating = none) : migrationEffect md s = s := by rw [migrationEffect, hm]

/-- The end of a migration, where nothing waits for it (R272 step 4). -/
theorem migrationEffect_leaves {t : State} (hm : (mdAt s md).migrating = some c) (hc : (mdAt s md).cands = []) (hd : s.faults.deferred = [])
    (ht : t = migrationEffect md s) :
    t.flash.retired = insNat (128 * md + c) s.flash.retired ∧
    mdAt t md = { mdAt s md with migrating := none, retired := insNat c (mdAt s md).retired } ∧
    t.faults.windows = s.faults.windows.filter fun w => !(decide (w.code = 0x0205) && decide (w.unit = 128 * md + c)) := by
  rw [migrationEffect_of_last hm hc] at ht
  generalize hu : clarynEvent 0x3403 1 (hbmCapacity (channelRetired md c s)) (channelRetired md c s) = u at ht
  have hdid : Did 0x50000000806 (channelRetired md c s) u := hu ▸ clarynEvent_did rfl (.refl _)
  have hf : u.faults = s.faults := hdid.faults rfl
  have hat : mdAt u md = mdAt (channelRetired md c s) md := by rw [mdAt, hdid.mds rfl]; rfl
  rw [closeWindow_of_noDeferred (by rw [hf, hd])] at ht
  have hcands : (mdAt u md).cands = [] := (congrArg Md.cands (hat.trans mdAt_channelRetired)).trans hc
  obtain rfl := ht.trans (startMigration_of_none (.inl hcands))
  exact ⟨congrArg Flash.retired (hdid.flash rfl), hat.trans mdAt_channelRetired, congrArg (fun f : Faults => f.windows.filter _) hf⟩

end

/-- Settles O37: a new candidate is a fault and an entry, and RET_GO takes the first one of the MD's list. -/
theorem channelsAreRetired : Obligations.ChannelsAreRetired := by
  refine ⟨fun ch s hch h => ?_, fun ch u s hch hp hl hn hu hr hw => ?_, fun md c v u s hmd hp hc hn hu hr => ?_, fun md c v s hmd hp hc hn => ?_,
    fun md c s hn hr hm hw hb => addCandidate_of_free hn hr hm hw hb, fun md c r s hn hr hp => addCandidate_of_reserved hn hr hp,
    fun md c l v s hmd hp hv hc hm => ?_, fun md v s hmd hp h => ?_, fun md v s hmd hp => ⟨?_, ?_⟩, fun md s hmd h => ?_,
    fun md c s hmd hp hm hc hd => ?_⟩
  · refine (onUnit_of_true (decide_eq_true hch) _).trans (congrArg Host.Outcome.next ?_)
    rw [candidateEffect]
    rcases h with h | h | h
    · rw [h]; rfl
    · rw [decide_eq_false (Nat.not_lt.mpr h), Bool.and_false]; rfl
    · rw [becomeCandidate_of_known h, ite_self]
  · refine (onUnit_of_true (decide_eq_true hch) _).trans (congrArg Host.Outcome.next ?_)
    rw [candidateEffect, hp, decide_eq_true hl, Bool.and_self, if_pos rfl, becomeCandidate_of_new hn hu hr, if_pos hw]
  · refine (onUnit_okMd hmd _).trans (congrArg Host.Outcome.next ((onDie_of_present hp).trans ?_))
    rw [retCmdEffect, ← hc, becomeCandidate_of_new hn hu hr]
  · refine (onUnit_okMd hmd _).trans (congrArg Host.Outcome.next ((onDie_of_present hp).trans ?_))
    rw [retCmdEffect, ← hc, becomeCandidate_of_known hn]
  · refine (onUnit_okMd hmd _).trans (congrArg Host.Outcome.next ((onDie_of_present hp).trans ?_))
    rw [hv, onlyIf_true, startMigration_of_first hc hm]
  · refine (onUnit_okMd hmd _).trans (congrArg Host.Outcome.next ((onDie_of_present hp).trans ?_))
    rcases h with h | h
    · rw [h, onlyIf_false]
    · rw [startMigration_of_none h, onlyIf, ite_self]
  · exact (onUnit_okMd hmd _).trans (congrArg Host.Outcome.next (onDie_of_absent hp))
  · exact (onUnit_okMd hmd _).trans (congrArg Host.Outcome.next (onDie_of_absent hp))
  · refine (onUnit_okMd hmd _).trans (congrArg Host.Outcome.next ?_)
    rcases h with h | h
    · rw [h, onlyIf_false]
    · rw [migrationEffect_of_idle h, onlyIf, ite_self]
  · obtain ⟨hflash, hat, hwin⟩ := migrationEffect_leaves hm hc hd rfl
    refine ⟨_, (onUnit_okMd hmd _).trans (congrArg Host.Outcome.next (by rw [hp, onlyIf_true])), hflash, hat, fun w hmem hw => ?_⟩
    rw [hwin, List.mem_filter, hw.1, hw.2] at hmem
    simp at hmem

end Sys2Proof.Machine
end

section
/-! PROOFS. Range maintenance and uncached accesses (R283, R290 to R292). -/
set_option Elab.async false

namespace Sys2Proof.Machine

open Sys2Proof

section
variable {md op lo n ln : Nat} {evt : Bool} {m : Maint} {s t : State} {e : LlcLine}

theorem mdMaintRun_of_present (hmd : md < 6) (hp : mdPresent s md = true) (ht : mdCommand md op evt s = t) : mdMaintRun md op evt s = .next t := by
  rw [mdMaintRun, onUnit_okMd hmd, onDie_of_present hp, ht]

theorem mdMaintRun_of_absent (hmd : md < 6) (hp : mdPresent s md = false) :
    mdMaintRun md op evt s = .next (memErr 1 (mdReg md 0x110) (noUnit (6 + md)) s) := by
  rw [mdMaintRun, onUnit_okMd hmd, onDie_of_absent hp]

theorem mdCommand_of_busy (hb : (mdMaint s md).busy = true) : mdCommand md op evt s = mdMaintPut md { mdMaint s md with cmdErr := true } s := by
  simp only [mdCommand, hb, if_true]

theorem mdCommand_of_empty (hb : (mdMaint s md).busy = false) (hn : fld 39 7 (regGet s (mdReg md 0x108)) * 128 = 0) :
    mdCommand md op evt s = if evt then scRaise (mdSrc s md) 0 s else s := by
  simp only [mdCommand, hb, hn, if_true, Bool.false_eq_true, if_false]

theorem mdCommand_of_outside (hb : (mdMaint s md).busy = false) (hlo : lo = fld 51 7 (regGet s (mdReg md 0x100)) * 128)
    (hn : n = fld 39 7 (regGet s (mdReg md 0x108)) * 128) (h0 : n ≠ 0) (hr : lo < md * tileSize ∨ (md + 1) * tileSize < lo + n) :
    mdCommand md op evt s = mdMaintPut md { mdMaint s md with rangeErr := true } s := by
  simp only [mdCommand, hb, ← hlo, ← hn, if_neg h0, if_pos hr, Bool.false_eq_true, if_false]

/-- A command the engine takes up: it is busy with the range, and reaches the lines that the home holds. -/
theorem mdCommand_of_inside (hb : (mdMaint s md).busy = false) (hlo : lo = fld 51 7 (regGet s (mdReg md 0x100)) * 128)
    (hn : n = fld 39 7 (regGet s (mdReg md 0x108)) * 128) (h0 : n ≠ 0) (h1 : md * tileSize ≤ lo) (h2 : lo + n ≤ (md + 1) * tileSize)
    (ht : t =
      mdMaintPut md { mdMaint s md with busy := true, op := op, evt := evt, base := lo, size := n, left := (heldLines s lo n).filter (maintHeld s) } s) :
    mdCommand md op evt s = (heldLines s lo n).foldl (fun u ln => maintLine ln u) (if op = 4 then zeroRange lo n (heldLines s lo n) t else t) := by
  have hr : ¬ (lo < md * tileSize ∨ (md + 1) * tileSize < lo + n) := by omega
  simp only [mdCommand, hb, ← hlo, ← hn, if_neg h0, if_neg hr, Bool.false_eq_true, if_false, ht]

theorem ne_default_of_busy {x : Md} (hb : x.maint.busy = true) : x ≠ {} := fun h => by rw [h] at hb; cases hb

theorem mdMaint_mdPut {x : Md} (hb : x.maint.busy = true) : mdMaint (mdPut s md x) md = x.maint :=
  congrArg Md.maint (mdAt_put s md x (ne_default_of_busy hb))

theorem mdMaint_put (hb : m.busy = true) : mdMaint (mdMaintPut md m s) md = m := mdMaint_mdPut hb

/-- Nothing is open at a home whose directory is empty. -/
theorem maintHeld_of_quiet (hd : s.coh.dir = []) (hnet : s.coh.net = []) : maintHeld s ln = false := by
  simp [maintHeld, lineBusy, fillOpen, entAt, hd, hnet, aget]

end

section
variable {ln : Nat} {s t : State} {e : LlcLine}

/-- What cleaning, dropping or evicting a dirty line of the slice leaves (R290). -/
structure MaintOf (op ln : Nat) (e : LlcLine) (s t : State) : Prop where
  hbm : t.mem.hbm = if op = 2 then s.mem.hbm else tputs s.mem.hbm (128 * ln) (lineBytes128 e.data)
  llc : t.mem.llc = if op = 1 then aput s.mem.llc ln { e with dirty := false } else adel s.mem.llc ln
  coh : t.coh = s.coh

theorem meter_mem (p : Option Nat) (n : Nat) (s : State) : (meter p n s).mem = s.mem := (meter_did (W := but 30) rfl (.refl s)).mem rfl
theorem meter_coh (p : Option Nat) (n : Nat) (s : State) : (meter p n s).coh = s.coh := (meter_did (W := but 33) rfl (.refl s)).coh rfl

theorem hbmLine_of_sound {d : LineData} {x : Bool} {p : Option Nat} (hx : x = false) :
    hbmLine ln d x p s = meter p (tileOf (128 * ln)) (setPoison ln false (putHbm ln d s)) := by subst hx; rfl

/-- A sound line that goes to HBM. -/
theorem hbmLine_leaves {d : LineData} {x : Bool} {p : Option Nat} (hx : x = false) (ht : hbmLine ln d x p s = t) :
    t.mem.hbm = tputs s.mem.hbm (128 * ln) (lineBytes128 d) ∧ t.mem.llc = s.mem.llc ∧ t.coh = s.coh := by
  have hmem : t.mem = (setPoison ln false (putHbm ln d s)).mem := by rw [← ht, hbmLine_of_sound hx, meter_mem]
  have hcoh : t.coh = (setPoison ln false (putHbm ln d s)).coh := by rw [← ht, hbmLine_of_sound hx, meter_coh]
  rw [hmem, hcoh]
  refine ⟨?_, ?_, ?_⟩ <;> simp only [setPoison, putHbm]

theorem maintHome_of_dirty {op : Nat} (hop : op = 1 ∨ op = 2 ∨ op = 3) (he : aget s.mem.llc ln = some e) (hd : e.dirty = true) (hp : e.poison = false) :
    MaintOf op ln e s (maintHome op ln s) := by
  rcases hop with rfl | rfl | rfl
  · obtain ⟨hhbm, hllc, hcoh⟩ := hbmLine_leaves (d := e.data) (p := e.part) (ln := ln) (s := s) hp rfl
    simp only [maintHome, llcClean, he, hd, if_true]
    exact { hbm := by rw [hhbm, if_neg (by decide)], llc := by rw [if_pos rfl]; exact congrArg (aput · ln { e with dirty := false }) hllc, coh := hcoh }
  · exact { hbm := by rw [if_pos rfl]; rfl, llc := by rw [if_neg (by decide)]; rfl, coh := rfl }
  · obtain ⟨hhbm, hllc, hcoh⟩ := hbmLine_leaves (d := e.data) (p := e.part) (ln := ln) (s := llcDrop ln s) hp rfl
    simp only [maintHome, llcEvict, he, hd, if_true]
    exact { hbm := by rw [hhbm, if_neg (by decide)]; rfl, llc := by rw [hllc, if_neg (by decide)]; rfl, coh := hcoh }

end

section
variable {md op lo n ln : Nat} {evt : Bool} {m : Maint} {s t : State} {e : LlcLine}

theorem maintWaits_of_noneLeft (h : (mdMaint s (lineHome ln)).left = []) : maintWaits s ln = false := by
  rw [maintWaits, h]; rfl

/-- Nothing waits behind a line of a home with no escalated request and no line left. -/
theorem runTasks_after_of_quiet {f : Nat} (hl : (mdMaint s (lineHome ln)).left = []) (he : s.coh.escal = []) :
    runTasks (f + 2) [.after ln] s = s := by
  have ht : runTask (.after ln) s = (s, []) := by
    simp only [runTask, afterTask, maintWaits_of_noneLeft hl, he, takeFirst, Bool.false_eq_true, if_false]
  rw [runTasks, ht]
  simp only [List.nil_append, runTasks]

theorem mdAt_bumpObj (i j w k : Nat) : mdAt (bumpObj i j w k s) md = mdAt s md := by
  rw [mdAt, (bumpObj_did (W := but 31) rfl (.refl s)).mds rfl]; rfl

/-- Metering an access leaves a busy engine as it is. -/
theorem mdMaint_meter (p : Option Nat) (k : Nat) (hb : (mdMaint s md).busy = true) : mdMaint (meter p k s) md = mdMaint s md := by
  cases p with
  | none => rfl
  | some p =>
    rw [meter, mdMaint, mdAt_bumpObj]
    by_cases hk : md = k
    · subst hk
      exact mdMaint_mdPut hb
    · rw [mdAt_put_ne _ _ _ _ hk]; rfl

theorem mdMaint_maintHome (hop : op = 1 ∨ op = 2 ∨ op = 3) (he : aget s.mem.llc ln = some e) (hp : e.poison = false)
    (hb : (mdMaint s md).busy = true) : mdMaint (maintHome op ln s) md = mdMaint s md := by
  have hline : ∀ t, t.mds = s.mds → mdMaint (hbmLine ln e.data e.poison e.part t) md = mdMaint s md := fun t ht => by
    have h : mdMaint (setPoison ln false (putHbm ln e.data t)) md = mdMaint s md := by simp only [mdMaint, mdAt, setPoison, putHbm, ht]
    rw [hbmLine_of_sound hp, mdMaint_meter _ _ (by rw [h, hb]), h]
  rcases hop with rfl | rfl | rfl
  · cases hd : e.dirty with
    | true => 
      simp only [maintHome, llcClean, he, hd, if_true]
      exact hline s rfl
    | false => simp only [maintHome, llcClean, he, hd, Bool.false_eq_true, if_false]
  · rfl
  · cases hd : e.dirty with
    | true => 
      simp only [maintHome, llcEvict, he, hd, if_true]
      exact hline (llcDrop ln s) rfl
    | false => simp only [maintHome, llcEvict, he, hd, Bool.false_eq_true, if_false]; rfl

/-- A line without a directory entry is processed as the engine reaches it. -/
theorem maintLine_of_quiet (hd : s.coh.dir = []) (hnet : s.coh.net = []) (hesc : s.coh.escal = []) (hhome : lineHome ln = md)
    (hm : mdMaint s md = m) (hl : m.left = []) (hb : m.busy = true) (hop : m.op = 1 ∨ m.op = 2 ∨ m.op = 3)
    (he : aget s.mem.llc ln = some e) (hdirty : e.dirty = true) (hp : e.poison = false) :
    MaintOf m.op ln e s (maintLine ln s) ∧ mdMaint (maintLine ln s) md = m := by
  subst hhome
  generalize ht : mdMaintPut (lineHome ln) { mdMaint s (lineHome ln) with left := (mdMaint s (lineHome ln)).left.filter fun l => decide (l ≠ ln) } s = t
  have htm : mdMaint t (lineHome ln) = m := by
    have hsame : ({ m with left := m.left.filter fun l => decide (l ≠ ln) } : Maint) = m := by rw [hl, List.filter_nil, ← hl]
    rw [← ht, hm, hsame, mdMaint_put hb]
  have hopen : openMaint ln s = (maintHome m.op ln t, [.after ln]) := by
    have hent : entAt t ln = none := by rw [← ht, entAt, mdMaintPut, mdPut_coh, hd]; rfl
    simp only [openMaint, ht, hent, htm]
  have hof : MaintOf m.op ln e t (maintHome m.op ln t) := maintHome_of_dirty hop (by rw [← ht]; exact he) hdirty hp
  have hhm : mdMaint (maintHome m.op ln t) (lineHome ln) = m := by
    rw [mdMaint_maintHome hop (by rw [← ht]; exact he) hp (by rw [htm, hb]), htm]
  have hrun : maintLine ln s = maintHome m.op ln t := by
    rw [maintLine, maintHeld_of_quiet hd hnet, if_neg (by decide), hopen, chainFuel]
    exact runTasks_after_of_quiet (by rw [hhm, hl]) (by rw [hof.coh, ← ht]; exact hesc)
  rw [hrun]
  refine ⟨{ hbm := ?_, llc := ?_, coh := ?_ }, hhm⟩
  · rw [hof.hbm, ← ht]; rfl
  · rw [hof.llc, ← ht]; rfl
  · rw [hof.coh, ← ht]; rfl

end

section
variable {u : MaintUnit} {op : Nat} {evt : Bool} {v : W64} {s : State}

theorem l2Command_of_busy (h : isL2 u = true) (hb : (l2At s u).busy = true) : l2Command u op evt s = l2Put u { l2At s u with cmdErr := true } s := by
  simp only [l2Command, h, hb, Bool.not_true, Bool.false_eq_true, if_false, if_true]

theorem l2Command_of_empty (h : isL2 u = true) (hb : (l2At s u).busy = false) (hn : fld 39 7 (regGet s (l2Reg u 0x18)) = 0) :
    l2Command u op false s = s := by
  simp only [l2Command, h, hb, hn, Bool.not_true, Nat.zero_mul, Bool.false_eq_true, if_false, if_true]

theorem l2Command_of_range (h : isL2 u = true) (hb : (l2At s u).busy = false) (hn : fld 39 7 (regGet s (l2Reg u 0x18)) ≠ 0) :
    l2Command u op evt s = l2Put u { l2At s u with
      busy := true, op := op, evt := evt, base := fld 51 7 (regGet s (l2Reg u 0x10)) * 128, size := fld 39 7 (regGet s (l2Reg u 0x18)) * 128 } s := by
  have h0 : ¬ fld 39 7 (regGet s (l2Reg u 0x18)) * 128 = 0 := by omega
  simp only [l2Command, h, hb, if_neg h0, Bool.not_true, Bool.false_eq_true, if_false]

theorem toEngine_of_l2 (h : isL2 u = true) (t : State) : toEngine u t s = onDie (maintWin u) (l2Reg u 0x20) t s := by
  cases u with
  | md n => cases h
  | cluster n => rfl
  | group n => rfl

theorem maintErr_of_l2 (h : isL2 u = true) : maintErr u s = l2Put u { l2At s u with cmdErr := true } s := by
  cases u with
  | md n => cases h
  | cluster n => rfl
  | group n => rfl

theorem maintReserved_of_l2 (h : isL2 u = true) (hr : (l2At s u).busy = true ∨ (fld 2 0 v ≠ 1 ∧ fld 2 0 v ≠ 3)) : maintReserved s u v = true := by
  cases u with
  | md n => cases h
  | cluster n | group n =>
    rcases hr with hb | ⟨h1, h3⟩
    · simp [maintReserved, maintBusy, hb]
    · simp [maintReserved, h1, h3]

/-- A second-level cache with nothing in the range and no request open is done. -/
theorem maintDone_of_l2 (h : isL2 u = true) (hb : (l2At s u).busy = true) (he : (l2At s u).evt = false) (ho : s.coh.open_ = [])
    (hl : l2Lines s (l2Key u) (l2At s u).base (l2At s u).size = []) : maintDone u s = l2Put u { l2At s u with busy := false } s := by
  cases u with
  | md n => cases h
  | cluster n | group n => simp [maintDone, l2Quiet, hb, he, ho, hl]

end

section
variable {pa size n : Nat} {v : W64} {who : Requester} {p : Option Nat} {s : State}

theorem length_leBytes (k x : Nat) : (leBytes k x).length = k := by
  induction k generalizing x with
  | zero => rfl
  | succ k ih => simp [leBytes, ih]

/-- A short run does not cover a whole line. -/
theorem runMask_ne_whole {l : List Byte} {i : Nat} (h : l.length ≤ 8) : runMask i false l ≠ wholeMask := fun heq => by
  have hbit : ∀ k, k < 1024 → (decide (4 * (2 * i) ≤ k) && decide (k - 4 * (2 * i) < 4 * (2 * l.length - b2n false))) = true := fun k hk => by
    have h := congrArg (fun x => x.getLsbD k) heq
    rw [runMask, nibbleMask, wholeMask, BitVec.getLsbD_ofNat, BitVec.getLsbD_allOnes, Nat.testBit_mul_two_pow, Nat.testBit_two_pow_sub_one] at h
    simpa [hk] using h
  have h0 := hbit 0 (by decide)
  have h1 := hbit 1023 (by decide)
  simp only [Bool.and_eq_true, decide_eq_true_eq, b2n, Bool.false_eq_true, if_false] at h0 h1
  omega

theorem lineStarts_of_aligned (hsize : size = 1 ∨ size = 2 ∨ size = 4 ∨ size = 8) (hal : pa % size = 0) : lineStarts pa size = [pa] := by
  have h0 : lineOf (pa + size - 1) = lineOf pa := by unfold lineOf; rcases hsize with rfl | rfl | rfl | rfl <;> omega
  have h1 : size ≠ 0 := by omega
  have h2 : max pa (128 * lineOf pa) = pa := by unfold lineOf; omega
  simp [lineStarts, h0, h1, h2, upto]

theorem tileOf_line : tileOf (128 * lineOf pa) = tileOf pa := by unfold tileOf lineOf tileSize; omega

theorem target_hbm_tile (h : target s pa = .hbm n) : n = tileOf pa := by
  unfold target at h
  dsimp only at h
  split at h
  · split at h
    · exact (Target.hbm.inj h).symm
    · cases h
  · repeat' split at h
    all_goals cases h

/-- An access that its partition may make at a present tile meets no error (R258, R277). -/
theorem rangeError_of_reached {w : Bool} (hsize : size = 1 ∨ size = 2 ∨ size = 4 ∨ size = 8) (hal : pa % size = 0) (ht : target s pa = .hbm n)
    (hr : reaches s p n = true) : rangeError s p w pa size = none := by
  simp [rangeError, lineStarts_of_aligned hsize hal, accessError, ht, hr]

theorem ncEffect_of_write {u : State} (hsize : size = 1 ∨ size = 2 ∨ size = 4 ∨ size = 8) (hal : pa % size = 0) (ht : target s pa = .hbm n)
    (hr : reaches s (partOf s who) n = true) (hw : ncWaits s who (partOf s who) (lineOf pa) = false)
    (h : ncWrite (partOf s who) pa false (leBytes size v.toNat) s = (none, u)) : ncEffect who true pa size v s = u := by
  have hc : ¬ (size ≠ 1 ∧ size ≠ 2 ∧ size ≠ 4 ∧ size ≠ 8 ∨ pa % size ≠ 0) := by omega
  simp only [ncEffect, if_neg hc, rangeError_of_reached hsize hal ht hr, ht, hw, h, Bool.false_eq_true, if_false, if_true]

theorem ncEffect_of_read {u : State} {l : List Byte} (hsize : size = 1 ∨ size = 2 ∨ size = 4 ∨ size = 8) (hal : pa % size = 0)
    (ht : target s pa = .hbm n) (hr : reaches s (partOf s who) n = true) (hw : ncWaits s who (partOf s who) (lineOf pa) = false)
    (h : ncRead (partOf s who) pa size s = (none, l, u)) :
    ncEffect who false pa size v s = emit (.readData pa (BitVec.ofNat 64 (leNat l))) u := by
  have hc : ¬ (size ≠ 1 ∧ size ≠ 2 ∧ size ≠ 4 ∧ size ≠ 8 ∨ pa % size ≠ 0) := by omega
  simp only [ncEffect, if_neg hc, rangeError_of_reached hsize hal ht hr, ht, hw, h, Bool.false_eq_true, if_false]

/-- A read of HBM that meets no flaw is only metered. -/
theorem hbmRead_of_sound {ln : Nat} (hp : ln ∉ s.mem.poison) (hf : s.mem.flaws = []) :
    hbmRead p ln s = (none, meter p (tileOf (128 * ln)) s) := by
  simp [hbmRead, meter_mem, hp, flawAt, hf, aget]

/-- What an uncached write of a few bytes comes to: the line is read, merged and written. -/
theorem ncWrite_of_sound {l : List Byte} (hl : l.length ≤ 8) (hp : lineOf pa ∉ s.mem.poison) (hf : s.mem.flaws = [])
    {t : State} (ht : t = meter p (tileOf pa) s) :
    ncWrite p pa false l s = (none, setPoison (lineOf pa) false (putHbm (lineOf pa)
      (mergeLine (runMask (pa % 128) false l) (hbmData t (lineOf pa)) (runLine (pa % 128) l)) (meter p (tileOf pa) t))) := by
  have hpoison : t.mem.poison.contains (lineOf pa) = false := by rw [ht, meter_mem]; simpa using hp
  have hread := hbmRead_of_sound (p := p) hp hf
  rw [tileOf_line, ← ht] at hread
  simp only [ncWrite, hbmMerge, if_neg (runMask_ne_whole hl), hread, hpoison, tileOf_line, reduceCtorEq, if_false]

theorem ncRead_of_sound (hp : lineOf pa ∉ s.mem.poison) (hf : s.mem.flaws = []) {t : State} (ht : t = meter p (tileOf pa) s) :
    ncRead p pa size s = (none, tbytes s.mem.hbm pa size, t) := by
  rw [ncRead, hbmRead_of_sound hp hf, tileOf_line, ← ht]
  simp only [ht, meter_mem]

end

/-- Settles O38: a command is taken up when the engine is free and the range its own, and what the home holds of it is processed line by line. -/
theorem maintenanceAndUncachedAccesses : Obligations.MaintenanceAndUncachedAccesses := by
  refine ⟨?_, ?_, ?_, fun u evt v s hok hl2 hp => ?_, fun u evt m s hok hl2 hp hm => ?_, fun md v s hmd hp => ?_, fun md v s hmd hp h => ?_,
    fun u v s hok hl2 hp h => ?_, fun md t s hmd hb hl hdir ht => ?_, fun u s hok hl2 hb he ho hlines => ?_,
    fun who pa size n v l t s hok hsize hal ht hr hp hw htm hl => ?_⟩
  · have hexec : ∀ p ∈ ([(1, .maintClean), (2, .maintInvalidate), (3, .maintCleanInvalidate), (4, .maintZero)] : List (Nat × (Nat → Bool → Instr))),
        ∀ md evt s, exec (p.2 md evt) s = mdMaintRun md p.1 evt s := by
      simp only [List.forall_mem_cons]
      exact ⟨fun _ _ _ => rfl, fun _ _ _ => rfl, fun _ _ _ => rfl, fun _ _ _ => rfl, nofun⟩
    rintro p hp md lo n evt m s hmd hpr rfl hlo hn
    rw [hexec p hp]
    refine ⟨fun hb => mdMaintRun_of_present hmd hpr (mdCommand_of_busy hb), fun hb h0 => mdMaintRun_of_present hmd hpr (mdCommand_of_empty hb (hn ▸ h0)),
      fun hb h0 hr => mdMaintRun_of_present hmd hpr (mdCommand_of_outside hb hlo hn h0 hr), fun hb h0 h1 h2 hh hop => mdMaintRun_of_present hmd hpr ?_,
      fun hb h0 h1 h2 hh hop => ⟨_, mdMaintRun_of_present hmd hpr (mdCommand_of_inside hb hlo hn h0 h1 h2 rfl), ?_⟩⟩
    · rw [mdCommand_of_inside hb hlo hn h0 h1 h2 rfl, hh, if_neg hop]; rfl
    · rw [hh, if_pos hop]
      exact ⟨by simp [zeroRange, mdMaintPut], by simp [zeroRange, mdMaintPut], by rw [List.foldl_nil]; exact congrArg Maint.busy (mdMaint_put rfl), rfl⟩
  · have hexec : ∀ p ∈ ([(1, .maintClean), (2, .maintInvalidate), (3, .maintCleanInvalidate)] : List (Nat × (Nat → Bool → Instr))),
        (p.1 = 1 ∨ p.1 = 2 ∨ p.1 = 3) ∧ ∀ md evt s, exec (p.2 md evt) s = mdMaintRun md p.1 evt s := by
      simp only [List.forall_mem_cons]
      exact ⟨⟨.inl trivial, fun _ _ _ => rfl⟩, ⟨.inr (.inl trivial), fun _ _ _ => rfl⟩, ⟨.inr (.inr trivial), fun _ _ _ => rfl⟩, nofun⟩
    rintro p hp md lo n ln evt m e u s hmd hpr rfl hlo hn hb h0 h1 h2 hh hdir hnet hesc hhome he hdirty hpoison hu
    obtain ⟨hop, hex⟩ := hexec p hp
    have hleft : [ln].filter (maintHeld s) = [] := by simp [maintHeld_of_quiet hdir hnet]
    have hrun : mdCommand md p.1 evt s = maintLine ln u := by
      rw [mdCommand_of_inside hb hlo hn h0 h1 h2 rfl, hh, hleft, if_neg (by omega), hu]; rfl
    have hum : mdMaint u md = { mdMaint s md with busy := true, op := p.1, evt := evt, base := lo, size := n, left := [] } := by
      rw [hu]; exact mdMaint_mdPut rfl
    obtain ⟨hof, hkeep⟩ := maintLine_of_quiet (s := u) (by rw [hu]; exact hdir) (by rw [hu]; exact hnet) (by rw [hu]; exact hesc) hhome hum rfl rfl hop
      (by rw [hu]; exact he) hdirty hpoison
    refine ⟨maintLine ln u, (hex md evt s).trans (mdMaintRun_of_present hmd hpr hrun), ?_, ?_, ?_, hkeep.trans hum.symm⟩
    · rw [hof.hbm, hu]; rfl
    · rw [hof.llc, hu]; rfl
    · rw [hof.coh, hu]; rfl
  · simp only [List.forall_mem_cons]
    exact ⟨fun md evt s hmd hp => mdMaintRun_of_absent hmd hp, fun md evt s hmd hp => mdMaintRun_of_absent hmd hp,
      fun md evt s hmd hp => mdMaintRun_of_absent hmd hp, fun md evt s hmd hp => mdMaintRun_of_absent hmd hp, nofun⟩
  · have hab : ∀ t, toEngine u t s = memErr 1 (l2Reg u 0x20) (noUnit (maintWin u)) s := fun t => by rw [toEngine_of_l2 hl2, onDie_of_absent hp]
    exact ⟨(onUnit_of_true hok _).trans (congrArg _ (hab _)), (onUnit_of_true hok _).trans (congrArg _ (hab _)),
      (onUnit_of_true hok _).trans (congrArg _ (hab _))⟩
  · subst hm
    have hrun : ∀ op, onUnit u.ok (toEngine u (l2Command u op evt s) s) = .next (l2Command u op evt s) := fun op => by
      rw [onUnit_of_true hok, toEngine_of_l2 hl2, onDie_of_present hp]
    simp only [List.forall_mem_cons]
    refine ⟨?_, ?_, nofun⟩
    · exact ⟨fun hb => (hrun 1).trans (congrArg _ (l2Command_of_busy hl2 hb)), fun hb hn he => he ▸ (he ▸ hrun 1).trans (congrArg _ (l2Command_of_empty hl2 hb hn)),
        fun hb hn => (hrun 1).trans (congrArg _ (l2Command_of_range hl2 hb hn))⟩
    · exact ⟨fun hb => (hrun 3).trans (congrArg _ (l2Command_of_busy hl2 hb)), fun hb hn he => he ▸ (he ▸ hrun 3).trans (congrArg _ (l2Command_of_empty hl2 hb hn)),
        fun hb hn => (hrun 3).trans (congrArg _ (l2Command_of_range hl2 hb hn))⟩
  · exact (onUnit_okMd hmd _).trans (congrArg Host.Outcome.next (onDie_of_absent hp))
  · refine (onUnit_okMd hmd _).trans (congrArg Host.Outcome.next ((onDie_of_present hp).trans ?_))
    have hres : maintReserved s (.md md) v = true := by
      rcases h with h | h | h <;> simp [maintReserved, maintBusy, h]
    rw [hres, onlyIf_true]; rfl
  · refine (onUnit_of_true hok _).trans (congrArg Host.Outcome.next ?_)
    rw [toEngine_of_l2 hl2, onDie_of_present hp, maintReserved_of_l2 hl2 h, onlyIf_true, maintErr_of_l2 hl2]
  · refine (onUnit_okMd hmd _).trans (congrArg Host.Outcome.next ?_)
    have hall : s.coh.dir.all (fun e => !(decide (lineHome e.1 = md) && decide (e.2.st = .tm))) = true := by
      refine List.all_eq_true.mpr fun e he => ?_
      by_cases hm : lineHome e.1 = md
      · simp [hdir e he hm]
      · simp [hm]
    simp only [maintDone, hb, hl, hall, ht, mdMaintPut, decide_true, Bool.and_self, if_true]
  · exact (onUnit_of_true hok _).trans (congrArg Host.Outcome.next (maintDone_of_l2 hl2 hb he ho hlines))
  · subst htm hl
    obtain rfl := target_hbm_tile ht
    have hlen : (leBytes size v.toNat).length ≤ 8 := by rw [length_leBytes]; omega
    exact ⟨(onUnit_of_true hok _).trans (congrArg Host.Outcome.next (withFlaws_eq
        (ncEffect_of_write (s := setFlaws [] s) hsize hal ht hr hw (ncWrite_of_sound (s := setFlaws [] s) hlen hp rfl rfl)))),
      (onUnit_of_true hok _).trans (congrArg Host.Outcome.next (withFlaws_eq
        (ncEffect_of_read (s := setFlaws [] s) hsize hal ht hr hw (ncRead_of_sound (s := setFlaws [] s) hp rfl rfl))))⟩

end Sys2Proof.Machine
end

section
/-! SUPPORT. Requests at their homes: how one is sent, refused, served, and how a message is heard (R303 to R321). -/
set_option Elab.async false

namespace Sys2Proof.Machine

open Sys2Proof

section
variable {s t u v : State} {r : CohReq} {ln c : Nat} {e d : DirEnt} {m : CohMsg} {p q : List CohMsg}

/-- A request that may go is on its way, and arrives (R303). -/
theorem sendReq_of_goes {ok fixed : Bool} (hok : ok = true) (hg : requestGoes s r = true) :
    sendReq ok fixed r s = arrive r (cohMod (keepWay r (if fixed then bumpObj 0x3505 (lineHome r.line + 1) 64 1 s else s)) fun c =>
      { c with open_ := c.open_ ++ [r] }) := by
  simp only [requestGoes, Bool.and_eq_true, Bool.not_eq_true', Option.isNone_iff_eq_none] at hg
  obtain ⟨⟨⟨⟨⟨⟨⟨hi, hwho⟩, hroom⟩, hpf⟩, hca⟩, hpath⟩, hww⟩, hacc⟩ := hg
  simp only [sendReq, hok, hi, hwho, hroom, hpf, hca, hpath, hww, hacc, Bool.not_true, Bool.or_self, Bool.false_eq_true, if_false]

theorem keepWay_of_noEntry (h : needsEntry r.kind = false) : keepWay r s = s := by
  rw [keepWay, h, Bool.and_false, Bool.false_and, if_neg (by decide)]

theorem keepWay_of_held {x : ALine} (h : lineAt s r.req r.line = some x) : keepWay r s = s := by
  rw [keepWay, h, Option.isNone_some, Bool.and_false, if_neg (by decide)]

theorem dropsAtHome_of_demand (h : isPrefetch r = false) : dropsAtHome s r = false := by rw [dropsAtHome, h, Bool.false_and]

theorem arrive_of_served (hd : dropsAtHome s r = false) (he : r.esc = false) (hc : refuseCause s r.part r.line = none) :
    arrive r s = settleLine (.serve r) s := by
  simp only [arrive, hd, he, hc, Bool.false_eq_true, if_false]

theorem arrive_of_refused (hd : dropsAtHome s r = false) (he : r.esc = false) (hc : refuseCause s r.part r.line = some c) :
    arrive r s = nackIt r c s := by
  simp only [arrive, hd, he, hc, Bool.false_eq_true, if_false]

/-- One task that lets nothing else in. -/
theorem settleLine_of_last {k : Task} (h : runTask k s = (u, [])) : settleLine k s = u := by
  rw [settleLine, chainFuel, runTasks, h]
  simp only [List.nil_append, runTasks]

theorem settleLine_of_two {k l : Task} (h : runTask k s = (t, [l])) (hl : runTask l t = (u, [])) : settleLine k s = u := by
  rw [settleLine, chainFuel, runTasks, h]
  simp only [List.cons_append, List.nil_append]
  rw [runTasks, hl]
  simp only [List.nil_append, runTasks]

/-- An entry that awaits an acknowledgement stays open (R312). -/
theorem advance_of_owed (h : entAt s ln = some e) (ha : e.acks ≠ []) : runTask (.advance ln) s = (s, []) := by
  simp only [runTask, advanceTask, h, decide_eq_true ha, Bool.or_true, if_true]

theorem aput_of_single {x y : DirEnt} : aput [(ln, x)] ln y = [(ln, y)] := by simp [aput, adel]

/-- Ways of an empty directory are free. -/
theorem dirWay_of_empty (h : s.coh.dir = []) : dirWay s ln = some 0 := by
  simp [dirWay, setEntries, h, upto]

theorem entUse_of_empty (h : s.coh.dir = []) : entUse ln e s = cohMod s fun c =>
    { c with dir := [(ln, { e with way := 0 })], dirlru := tmod 0 c.dirlru (dirKey ln) fun t => plruTouch t 0 } := by
  simp [entUse, entAt, h, aget, dirWay_of_empty h, dirTouch, entPut, cohMod, aput, adel]

theorem entUse_of_single (h : s.coh.dir = [(ln, d)]) : entUse ln e s = cohMod s fun c =>
    { c with dir := [(ln, { e with way := d.way })], dirlru := tmod 0 c.dirlru (dirKey ln) fun t => plruTouch t d.way } := by
  simp [entUse, entAt, h, aget, dirTouch, entPut, cohMod, aput, adel]

/-- A request that needs an entry and no snoop is performed as its line is opened (R311). -/
theorem serveTask_of_alone (hn : needsEntry r.kind = true) (hroom : entAt s r.line ≠ none ∨ dirWay s r.line ≠ none)
    (hs : snoopsFor { (entAt s r.line).getD emptyEnt with was := ((entAt s r.line).getD emptyEnt).st } r = [])
    (ht : t = entUse r.line { (entAt s r.line).getD emptyEnt with
      st := transientFor r.kind, was := ((entAt s r.line).getD emptyEnt).st, req := some r, snoops := [], acks := [r.req], fwd := false } s) :
    serveTask r s = (performReq r.line ((entAt t r.line).getD emptyEnt) r t, [.advance r.line]) := by
  have hk : r.kind ≠ .look := fun h => by rw [h] at hn; cases hn
  have hfull : (!(entAt s r.line).isSome && (dirWay s r.line).isNone) = false := by
    rcases hroom with h | h
    · rw [Option.isSome_iff_ne_none.mpr h]; rfl
    · rw [Option.isNone_eq_false_iff.mpr (Option.isSome_iff_ne_none.mpr h), Bool.and_false]
  simp only [serveTask, hfull, hn, decide_eq_false hk, Bool.not_true, Bool.and_false, Bool.false_and, Bool.false_eq_true, if_false, openTask, hs,
    List.filterMap_nil, if_true]
  rw [ht]

/-- A request without an entry that needs none, and pushes nowhere, is performed at once. -/
theorem serveTask_of_look (he : entAt s r.line = none) (hk : r.kind = .look) : serveTask r s = (sendHome r none s, []) := by
  simp [serveTask, he, hk, needsEntry]

theorem serveTask_of_write (he : entAt s r.line = none) (hn : needsEntry r.kind = false) (hk : r.kind ≠ .look)
    (hp : pushAgent s r.hint r.hintId r.line = none ∨ r.kind = .cashome) : serveTask r s = ((performWrite r s).2, []) := by
  have hpush : ((pushAgent s r.hint r.hintId r.line).isNone || decide (r.kind = .cashome)) = true := by
    rcases hp with h | h <;> simp [h]
  simp [serveTask, he, hn, hk, hpush, Bool.or_assoc]

/-! Messages heard -/

theorem firstFree_append {P : CohMsg → Bool} (hm : P m = true) (hp : ∀ x ∈ p, P x = false) : ∀ seen,
    firstFree P seen (p ++ m :: q) = if nextUp m (p.reverse ++ seen) q then some (m, seen.reverse ++ (p ++ q)) else none := by
  induction p with
  | nil => intro seen; rw [List.nil_append, firstFree, if_pos hm]; rfl
  | cons x p ih =>
    intro seen
    have hx : P x = false := hp x List.mem_cons_self
    rw [List.cons_append, firstFree, hx, if_neg (by decide), ih (fun y hy => hp y (List.mem_cons_of_mem _ hy))]
    simp

theorem nextUp_reverse (l : List CohMsg) : nextUp m l.reverse q = nextUp m l q := by simp [nextUp]

/-- A message that has arrived is the one heard, where no other that the test admits is before it (log 116). -/
theorem hear_of_arrived {P : CohMsg → Bool} (h : Arrived s t m p q) (hm : P m = true) (hp : ∀ x ∈ p, P x = false) : hear P s = some (m, t) := by
  obtain ⟨hnet, hnext, hpath, ht⟩ := h
  have hfree : firstFree P [] s.coh.net = some (m, p ++ q) := by
    rw [hnet, firstFree_append hm hp, List.append_nil, nextUp_reverse, hnext]; rfl
  rw [hear, hfree, ht]
  simp only [hpath, Bool.false_eq_true, if_false]
  rfl

theorem heard_of_arrived {P : CohMsg → Bool} (h : Arrived s t m p q) (hm : P m = true) (hp : ∀ x ∈ p, P x = false) :
    heard P s = deliverMsg m t := by
  rw [heard, hear_of_arrived h hm hp]

theorem takeFirst_append {α : Type} {P : α → Bool} {x : α} {a b : List α} (hx : P x = true) (ha : ∀ y ∈ a, P y = false) :
    takeFirst P (a ++ x :: b) = some (x, a ++ b) := by
  induction a with
  | nil => simp [takeFirst, hx]
  | cons y a ih =>
    have hy : P y = false := ha y List.mem_cons_self
    rw [List.cons_append, takeFirst, hy, if_neg (by decide), ih (fun z hz => ha z (List.mem_cons_of_mem _ hz))]
    rfl

end

end Sys2Proof.Machine
end

section
/-! PROOFS. Requests served, refused and retried (R303 to R321). -/
set_option Elab.async false

namespace Sys2Proof.Machine

open Sys2Proof

section
variable {s t v : State} {r : CohReq} {ln u : Nat} {d : DirEnt}

/-- The entry of a line while its fill is on its way to the requester. -/
def fillingEnt (r : CohReq) (st : Moesi) : DirEnt :=
  { emptyEnt with
    st := transientFor r.kind, req := some r, acks := [r.req],
    was := if st = .e then .de else .ds, owner := if st = .e then r.req else 0, sharers := if st = .e then [] else [r.req] }

/-- The home's answer to a request that finds its directory empty (R311). -/
def filledFrom (v : State) (r : CohReq) (st : Moesi) : State :=
  { v with coh := { v.coh with
    dir := [(r.line, fillingEnt r st)], dirlru := tmod 0 v.coh.dirlru (dirKey r.line) fun t => plruTouch t 0
    net := v.coh.net ++ [.homefill r.req r.line (some st) (aget v.mem.llc r.line).isNone (homeLine v r.line).2 (homeLine v r.line).1] } }

theorem settleLine_of_fill {st : Moesi} (hd : v.coh.dir = []) (hk : r.kind = .gets ∨ r.kind = .getm)
    (hst : fillState r true = some st) (hes : st = .e ∨ st = .s) : settleLine (.serve r) v = filledFrom v r st := by
  have hent : entAt v r.line = none := by rw [entAt, hd]; rfl
  have hn : needsEntry r.kind = true := by rcases hk with h | h <;> rw [h] <;> rfl
  have hsn : snoopsFor { (entAt v r.line).getD emptyEnt with was := ((entAt v r.line).getD emptyEnt).st } r = [] := by
    rw [hent]; rcases hk with h | h <;> simp [snoopsFor, h, emptyEnt, sharersBut]
  have hserve := serveTask_of_alone (s := v) hn (.inr (by rw [dirWay_of_empty hd]; nofun)) hsn rfl
  rw [hent, Option.getD_none, entUse_of_empty hd] at hserve
  refine settleLine_of_two (t := filledFrom v r st) (hserve.trans (congrArg (·, _) ?_)) (advance_of_owed (e := fillingEnt r st) ?_ (List.cons_ne_nil _ _))
  · rcases hk with h | h
    · rcases hes with rfl | rfl <;>
        simp [performReq, h, entAt, aget, cohMod, emptyEnt, holders, hst, sendHome, say, entPut, aput_of_single, grantedEnt, filledFrom, fillingEnt,
          homeLine, insNat]
    · obtain rfl : Moesi.e = st := Option.some.inj (by rw [← hst, fillState, h])
      simp [performReq, h, entAt, aget, cohMod, emptyEnt, sendHome, say, entPut, aput_of_single, grantedEnt, filledFrom, fillingEnt, homeLine]
  · simp [entAt, filledFrom, aget]

/-- A Promote of the line's only sharer is granted at once (R311). -/
theorem settleLine_of_promote (hk : r.kind = .promote) (hd : v.coh.dir = [(r.line, d)]) (hst : d.st = .ds) (hsh : d.sharers = [r.req]) :
    settleLine (.serve r) v = { v with coh := { v.coh with
      dir := [(r.line, { d with st := .tu, was := .de, owner := r.req, sharers := [], req := some r, snoops := [], acks := [r.req], fwd := false })]
      dirlru := tmod 0 v.coh.dirlru (dirKey r.line) fun t => plruTouch t d.way
      net := v.coh.net ++ [.grant r.req r.line (some .m) 0] } } := by
  have hent : entAt v r.line = some d := by rw [entAt, hd]; simp [aget]
  have hsn : snoopsFor { (entAt v r.line).getD emptyEnt with was := ((entAt v r.line).getD emptyEnt).st } r = [] := by
    rw [hent]; simp [snoopsFor, hk, listed, holders, hst, hsh]
  have hserve := serveTask_of_alone (s := v) (by rw [hk]; rfl) (.inl (by rw [hent]; nofun)) hsn rfl
  rw [hent, Option.getD_some, entUse_of_single hd] at hserve
  refine settleLine_of_two (hserve.trans (congrArg (·, _) ?_)) (advance_of_owed (by simp [entAt, aget]; rfl) (List.cons_ne_nil _ _))
  simp [performReq, hk, entAt, aget, cohMod, listed, hsh, say, entPut, aput_of_single, grantedEnt, transientFor]

theorem settleLine_of_look (hk : r.kind = .look) (he : entAt v r.line = none) : settleLine (.serve r) v = sendHome r none v :=
  settleLine_of_last (serveTask_of_look he hk)

theorem settleLine_of_write (hk : r.kind = .putplace ∧ r.hint = 0 ∨ r.kind = .cashome) (he : entAt v r.line = none) :
    settleLine (.serve r) v = (performWrite r v).2 := by
  refine settleLine_of_last (serveTask_of_write he ?_ ?_ ?_)
  · rcases hk with ⟨h, -⟩ | h <;> rw [h] <;> rfl
  · rcases hk with ⟨h, -⟩ | h <;> rw [h] <;> nofun
  · rcases hk with ⟨-, h⟩ | h
    · exact .inl (by simp [pushAgent, h])
    · exact .inr h

/-- A PutPlace to a line that the slice holds is merged there (R311). -/
theorem performWrite_of_putplace {x : LlcLine} (hk : r.kind = .putplace) (hx : aget v.mem.llc r.line = some x) :
    (performWrite r v).2 = say (.grant r.req r.line none 0) (toHome r.line (mergeLine (expandMask r.mask) x.data r.data)
      (x.poison && !(decide (expandMask r.mask = wholeMask))) r.part v) := by
  simp only [performWrite, hk, mergeHome, hx, reduceCtorEq, if_false]

/-- A CasHome compares the word with the line's as the slice has it (R309). -/
theorem performWrite_of_cashome {x : LlcLine} (hk : r.kind = .cashome) (hx : aget v.mem.llc r.line = some x) (hp : x.poison = false)
    (ht : t = llcTouch (lineHome r.line) (lineSet r.line) x.way v) :
    (performWrite r v).2 = say (.grant r.req r.line none (wordOfLine x.data r.word)) (if wordOfLine x.data r.word = r.old then
      toHome r.line (mergeLine (wordMask r.word) x.data (wordLine r.word r.new)) false r.part t else t) := by
  simp only [performWrite, hk, homeRead, hx, hp, ht, if_true, Bool.false_eq_true, if_false]

theorem refuseCause_of_shut (p : Option Nat) (h : lineShut s ln = true) : refuseCause s p ln = some 1 := by rw [refuseCause, if_pos h]

theorem refuseCause_of_open (p : Option Nat) (h : lineShut s ln = false) : refuseCause s p ln = trackerCause s (lineHome ln) p := by
  rw [refuseCause, h, if_neg (by decide)]

theorem refuseCause_ne_four (p : Option Nat) : refuseCause s p ln ≠ some 4 := by
  unfold refuseCause trackerCause
  repeat' split
  all_goals simp

theorem nackIt_of_cause {c : Nat} (hc : c ≠ 4) : nackIt r c s = bumpObj 0x3500 (lineHome r.line + 1) 64 1 (say (.nack r c) s) := by
  rw [nackIt, nackCount, if_neg hc]

theorem lineShut_of_transient {e : DirEnt} (he : entAt s ln = some e) (hs : stable e.st = false) : lineShut s ln = true := by
  simp [lineShut, lineBusy, he, hs]

end

section
variable {s : State} {u pa fill : Nat} {who : Requester} {fixed : Bool}

theorem lt_of_isGroup (h : isGroup u = true) : u < 56 := by
  simp only [isGroup, Bool.and_eq_true, decide_eq_true_eq] at h
  exact h.2

theorem onUnit_okReq {k : Nat} (hu : u < k) (hw : okRequester who = true) (t : State) : onUnit (decide (u < k) && okRequester who) t = .next t := by
  rw [decide_eq_true hu, hw]; rfl

theorem lookEffect_of_present (hp : unitPresent s u = true) :
    lookEffect u who pa false fixed s = sendReq true fixed (mkReq s .look u who pa false) s := by rw [lookEffect, hp]

end

/-- Settles O39: a request that finds no entry is performed as it arrives, one that needs an entry leaves it open until its acknowledgement, and
a refused one waits for its retry. -/
theorem requestsAreServedAtTheHome : Obligations.RequestsAreServedAtTheHome := by
  refine ⟨fun u fill pa ln who st r e v s hok hln hag hopen hline hroom hf hr hgo hv hdir hdrop hrc he hst hesc => ?_,
    fun u fill pa ln who x t s hok hln hu hwho hag hopen hline hf hnear ht htake => ?_,
    fun u pa ln who r v s hok hln hgr hag hopen hline hroom hr hgo hv hdir hrc hesc => ?_,
    fun u pa ln who x r d v s hok hln hgr hag hopen hline hx hdir hst hsh hr hgo hv hrc hesc => ?_,
    fun u pa ln fixed who r w v s hok hu hp hln he hr hgo hw hv hrc => ?_,
    fun u pa hid ln who mask d fl r v s hok hu hp hm hln he hr hgo hv hrc => ⟨?_, fun x hx => ?_⟩,
    fun pa ln w who old new fl r x v t s hok hp hal hln hw he hr hgo hv hrc hx hpo ht => ?_,
    fun u pa c who r s hok hu hp hr hi hwho hroom hca hpath hacc => ?_, fun u pa c who r v s hok hu hp hr hgo hv hrc => ?_,
    fun s p ln => ⟨fun h => refuseCause_of_shut p h, fun h hn => ?_, fun k h hn hp hk => ?_⟩, fun s ln e he hs => lineShut_of_transient he hs,
    fun p q u pa c r t s hu harr hreq hline hfirst => ?_, fun a b u pa x fl v s hu hret hreq hline ha hpath hww hv => ?_,
    fun s r => ⟨rfl, fun hk hl => ?_, fun hk => ?_⟩⟩
  · subst hr hln he
    have hu : u < 56 := by
      rcases hst with ⟨h, -, -⟩ | ⟨h, -⟩
      · omega
      · exact lt_of_isGroup h
    have hfill : fillState { mkReq s .gets u who pa false with fill := fill } true = some st := by
      rcases hst with ⟨h, -, rfl⟩ | ⟨h, rfl⟩
      · simp [fillState, mkReq, isGroup, show ¬ 24 ≤ u by omega]
      · simp [fillState, mkReq, h]
    have hnear : (decide (u < 24) && (nearSlice s u (lineOf pa)).isSome) = false := by
      rcases hst with ⟨-, h, -⟩ | ⟨h, -⟩
      · rw [h, Option.isSome_none, Bool.and_false]
      · simp only [isGroup, Bool.and_eq_true, decide_eq_true_eq] at h
        rw [decide_eq_false (by omega), Bool.false_and]
    refine (onUnit_okReq (by omega) hok _).trans (congrArg Host.Outcome.next ?_)
    simp only [getsEffect, hu, hf, hag, hopen, hline, hroom, decide_true, Option.isNone_none, Bool.not_false, Bool.and_self, Bool.true_and, Bool.and_assoc,
      hnear, Bool.and_false, Bool.false_eq_true, if_false]
    rw [sendReq_of_goes rfl hgo]
    obtain rfl : v = _ := hv
    exact (arrive_of_served hdrop rfl hrc).trans (settleLine_of_fill hdir (.inl rfl) hfill (hst.symm.imp And.right fun h => h.2.2))
  · subst hln ht
    refine (onUnit_okReq (by omega) hok _).trans (congrArg Host.Outcome.next ?_)
    have hfit : whoFits { mkReq s .gets u who pa false with fill := fill } = true := decide_eq_true hwho
    have hfr : fillRoom s u (lineOf pa) = true := by simp [fillRoom, isGroup, show ¬ 24 ≤ u by omega]
    simp only [getsEffect, hf, hag, hopen, hline, hfr, hfit, hnear, decide_true, Option.isNone_none, Option.isSome_some, Bool.not_false, Bool.and_self,
      decide_eq_true hu, decide_eq_true (show u < 56 by omega), if_true]
    simp only [clusterRead, hline, hnear]
    exact (if_pos htake).trans rfl
  · subst hr hln
    have hu := lt_of_isGroup hgr
    refine (onUnit_okReq (by omega) hok _).trans (congrArg Host.Outcome.next ?_)
    simp only [getmEffect, hgr, hag, hopen, hline, hroom, Bool.not_false, Bool.and_self]
    rw [sendReq_of_goes rfl hgo]
    obtain rfl : v = _ := hv
    exact (arrive_of_served (dropsAtHome_of_demand rfl) rfl hrc).trans (settleLine_of_fill hdir (.inr rfl) rfl (.inl rfl))
  · subst hr hln
    have hu := lt_of_isGroup hgr
    refine (onUnit_okReq (by omega) hok _).trans (congrArg Host.Outcome.next ?_)
    have hlist : (decide (x.st = .s) || decide (x.st = .o)) = true := by rcases hx with h | h <;> rw [h] <;> rfl
    simp only [promoteEffect, hgr, hag, hopen, hline, hlist, Bool.not_false, Bool.and_self]
    rw [sendReq_of_goes rfl hgo, keepWay_of_held hline]
    obtain rfl : v = _ := hv
    exact (arrive_of_served (dropsAtHome_of_demand rfl) rfl hrc).trans (settleLine_of_promote rfl hdir hst hsh)
  · subst hr hln hw
    refine (onUnit_okReq hu hok _).trans (congrArg Host.Outcome.next ?_)
    rw [lookEffect_of_present hp, sendReq_of_goes rfl hgo, keepWay_of_noEntry rfl]
    obtain rfl : v = _ := hv
    refine (arrive_of_served (dropsAtHome_of_demand rfl) rfl hrc).trans ((settleLine_of_look rfl ?_).trans rfl)
    cases fixed
    · exact he
    · rw [entAt, if_pos rfl]
      exact (congrArg (fun c : Coh => aget c.dir _) ((bumpObj_did (W := but 33) rfl (.refl s)).coh rfl)).trans he
  · subst hr hln
    refine (onUnit_okReq hu hok _).trans (congrArg Host.Outcome.next (withFlaws_eq ?_))
    have hmask : (unitPresent (setFlaws fl s) u && decide (mask ≠ 0) && decide (0 < 4)) = true := by
      rw [show unitPresent (setFlaws fl s) u = true from hp, decide_eq_true hm]; rfl
    refine (sendReq_of_goes hmask (s := setFlaws fl s) hgo).trans ?_
    rw [keepWay_of_noEntry rfl]
    obtain rfl : v = _ := hv
    exact (arrive_of_served (dropsAtHome_of_demand rfl) rfl hrc).trans (settleLine_of_write (.inl ⟨rfl, rfl⟩) he)
  · subst hr hln hv
    exact performWrite_of_putplace rfl hx
  · subst hr hln hw
    refine (onUnit_of_true hok _).trans (congrArg Host.Outcome.next (withFlaws_eq ?_))
    have hal' : (unitPresent (setFlaws fl s) 62 && decide (pa % 8 = 0)) = true := by
      rw [show unitPresent (setFlaws fl s) 62 = true from hp, decide_eq_true hal]; rfl
    refine (sendReq_of_goes hal' (s := setFlaws fl s) hgo).trans ?_
    rw [keepWay_of_noEntry rfl]
    obtain rfl : v = _ := hv
    exact (arrive_of_served (dropsAtHome_of_demand rfl) rfl hrc).trans ((settleLine_of_write (.inr rfl) he).trans
      (performWrite_of_cashome rfl hx hpo ht))
  · subst hr
    refine (onUnit_okReq hu hok _).trans (congrArg Host.Outcome.next ?_)
    rw [lookEffect_of_present hp]
    have hww : writeWaits s (mkReq s .look u who pa false) = false := rfl
    simp only [sendReq, hi, hwho, show issueRoom s (mkReq s .look u who pa false).who 1 = true from hroom,
      show coherentAddr s (128 * (mkReq s .look u who pa false).line) = true from hca,
      show pathHeld s (unitWin (mkReq s .look u who pa false).req) (homeWin (mkReq s .look u who pa false).line) = false from hpath, hww,
      show accessError s (mkReq s .look u who pa false).part (isWrite (mkReq s .look u who pa false).kind) (128 * (mkReq s .look u who pa false).line) = some c from hacc]
    rfl
  · subst hr
    refine (onUnit_okReq hu hok _).trans (congrArg Host.Outcome.next ?_)
    rw [lookEffect_of_present hp, sendReq_of_goes rfl hgo, keepWay_of_noEntry rfl]
    obtain rfl : v = _ := hv
    exact (arrive_of_refused (dropsAtHome_of_demand rfl) rfl hrc).trans (nackIt_of_cause fun h => refuseCause_ne_four _ (h ▸ hrc))
  · simp only [refuseCause_of_open _ h, trackerCause, if_pos hn]
  · simp only [refuseCause_of_open _ h, trackerCause, if_neg (Nat.not_le.mpr hn), hp, if_pos hk]
  · refine (onUnit_of_true (decide_eq_true hu) _).trans (congrArg Host.Outcome.next (heard_of_arrived harr ?_ ?_))
    · simp [hreq, hline]
    · intro m hm
      cases m with
      | nack x k => simpa [imp_iff_not_or] using hfirst x k hm
      | _ => rfl
  · refine (onUnit_of_true (decide_eq_true hu) _).trans (congrArg Host.Outcome.next (withFlaws_eq ?_))
    have htake := takeFirst_append (P := fun x : Retry => decide (x.req.req = u) && decide (x.req.line = lineOf pa)) (x := x) (a := a) (b := b)
      (by simp [hreq, hline]) (fun y hy => by simpa [imp_iff_not_or] using ha y hy)
    have hret' : (setFlaws fl s).coh.retries = a ++ x :: b := hret
    simp only [cohRetryEffect, hret', htake]
    have hgo : (pathHeld (setFlaws fl s) (unitWin u) (homeWin (lineOf pa)) || writeWaits (setFlaws fl s) x.req) = false := by
      rw [show pathHeld (setFlaws fl s) _ _ = false from hpath, show writeWaits (setFlaws fl s) _ = false from hww]; rfl
    rw [hgo, hv]; rfl
  · simp [retryOf, hk, hl]
  · simp [retryOf, hk]

end Sys2Proof.Machine
end

section
/-! PROOFS. Snoops at their agents (R309 to R315). -/
set_option Elab.async false

namespace Sys2Proof.Machine

open Sys2Proof

section
variable {s u : State} {m : CohMsg} {p q : List CohMsg} {a ln r pa : Nat} {x : ALine} {b : Bool}

theorem not_both {b c l k : Nat} (h : b = c → l = k → False) : (decide (b = c) && decide (l = k)) = false := by
  rw [Bool.and_eq_false_iff, decide_eq_false_iff_not, decide_eq_false_iff_not, ← not_and_or]
  exact fun hb => h hb.1 hb.2

theorem lineAt_of_arrived (h : Arrived s u m p q) : lineAt u a ln = lineAt s a ln := by
  obtain ⟨-, -, -, rfl⟩ := h
  rfl

theorem wbAt_of_arrived (h : Arrived s u m p q) : wbAt u a ln = wbAt s a ln := by
  obtain ⟨-, -, -, rfl⟩ := h
  rfl

/-- A writeback buffer is live at an agent that hears a message, where it was before. -/
theorem wbLive_of_arrived (h : Arrived s u m p q) (hv : vacSettled s a ln = false) : wbLive u a ln = wbAt s a ln := by
  have hnone : vacSettled u a ln = false := by
    obtain ⟨hnet, -, -, rfl⟩ := h
    simp only [vacSettled, hnet, List.any_append, List.any_cons, Bool.or_eq_false_iff] at hv ⊢
    exact ⟨hv.1, hv.2.2⟩
  rw [wbLive, hnone, if_neg (by decide), wbAt_of_arrived h]

theorem wbLive_of_empty (h : Arrived s u m p q) (hw : wbAt s a ln = none) : wbLive u a ln = none := by
  rw [wbLive, wbAt_of_arrived h, hw, ite_self]

theorem nearInv_of_noSlice (h : isSlice a = false) : nearInv a ln s = s := by
  rw [nearInv, h]; rfl

/-- With nothing on its way nothing is heard. -/
theorem heard_of_empty {P : CohMsg → Bool} (h : s.coh.net = []) : heard P s = s := by
  rw [heard, hear, h]; rfl

theorem ite_say (c : Prop) [Decidable c] (m n : CohMsg) (s : State) : (if c then say m s else say n s) = say (if c then m else n) s :=
  (apply_ite (say · s) c m n).symm

end

section
variable {s u : State} {p q : List CohMsg} {a pa r : Nat} {b : Bool}

theorem execFwds_of_arrived (ha : a < 62) (h : Arrived s u (.fwds a (lineOf pa) r) p q) (hp : ∀ k, .fwds a (lineOf pa) k ∉ p) :
    exec (.fwds a pa) s = .next (fwdsAt a (lineOf pa) r u) := by
  refine (onUnit_of_true (decide_eq_true ha) _).trans (congrArg Host.Outcome.next (heard_of_arrived h (by simp) fun m hm => ?_))
  cases m with
  | fwds c l k => exact not_both fun hc hl => by subst hc hl; exact hp k hm
  | _ => rfl

theorem execFwdm_of_arrived (ha : a < 62) (h : Arrived s u (.fwdm a (lineOf pa) r) p q) (hp : ∀ k, .fwdm a (lineOf pa) k ∉ p) :
    exec (.fwdm a pa) s = .next (fwdmAt a (lineOf pa) r u) := by
  refine (onUnit_of_true (decide_eq_true ha) _).trans (congrArg Host.Outcome.next (heard_of_arrived h (by simp) fun m hm => ?_))
  cases m with
  | fwdm c l k => exact not_both fun hc hl => by subst hc hl; exact hp k hm
  | _ => rfl

theorem execInv_of_arrived (ha : a < 62) (h : Arrived s u (.inv a (lineOf pa) b) p q) (hp : ∀ k, .inv a (lineOf pa) k ∉ p) :
    exec (.inv a pa) s = .next (invAt a (lineOf pa) b u) := by
  refine (onUnit_of_true (decide_eq_true ha) _).trans (congrArg Host.Outcome.next (heard_of_arrived h (by simp) fun m hm => ?_))
  cases m with
  | inv c l k => exact not_both fun hc hl => by subst hc hl; exact hp k hm
  | _ => rfl

theorem execPeek_of_arrived (ha : a < 62) (h : Arrived s u (.peek a (lineOf pa)) p q) (hp : .peek a (lineOf pa) ∉ p) :
    exec (.peek a pa) s = .next (peekAt a (lineOf pa) u) := by
  refine (onUnit_of_true (decide_eq_true ha) _).trans (congrArg Host.Outcome.next (heard_of_arrived h (by simp) fun m hm => ?_))
  cases m with
  | peek c l => exact not_both fun hc hl => by subst hc hl; exact hp hm
  | _ => rfl

theorem execFlushd_of_arrived (ha : a < 62) (h : Arrived s u (.flushd a (lineOf pa)) p q) (hp : .flushd a (lineOf pa) ∉ p) :
    exec (.flushd a pa) s = .next (flushdAt a (lineOf pa) u) := by
  refine (onUnit_of_true (decide_eq_true ha) _).trans (congrArg Host.Outcome.next (heard_of_arrived h (by simp) fun m hm => ?_))
  cases m with
  | flushd c l => exact not_both fun hc hl => by subst hc hl; exact hp hm
  | _ => rfl

end

/-- Settles O40: each snoop is answered from the copy its agent has, its buffer's where it has none, and as nothing held without either. -/
theorem agentsAnswerSnoops : Obligations.AgentsAnswerSnoops := by
  refine ⟨fun p q a pa r x u s ha h hp hx hst => ?_, fun p q a pa r x u s ha h hp hx hst => ?_, fun p q a pa d x u s ha hsl h hp hx => ?_,
    fun p q a pa d x u s ha hsl h hp hx hwb hv => ?_, fun p q a pa x u s ha h hp hx => ?_, fun p q a pa x u s ha h hp hx => ?_,
    fun p q a pa r u s ha hsl hx hwb => ⟨fun hp h => ?_, fun hp h => ?_, fun hp h => ?_, fun hp h => ?_, fun hp h => ?_⟩, fun a pa s ha hnet => ?_⟩
  · rw [execFwds_of_arrived ha h hp]
    simp only [fwdsAt, lineAt_of_arrived h, hx, if_neg hst]
  · rw [execFwdm_of_arrived ha h hp]
    simp only [fwdmAt, lineAt_of_arrived h, hx, if_neg hst]
  · rw [execInv_of_arrived ha h hp]
    simp only [invAt, lineAt_of_arrived h, hx, nearInv_of_noSlice hsl, ackNone, ite_say]
  · rw [execInv_of_arrived ha h hp]
    simp only [invAt, lineAt_of_arrived h, hx, wbLive_of_arrived h hv, hwb, ite_say]
  · rw [execPeek_of_arrived ha h hp]
    simp only [peekAt, lineAt_of_arrived h, hx]
  · rw [execFlushd_of_arrived ha h hp]
    simp only [flushdAt, lineAt_of_arrived h, hx]
  · rw [execFwds_of_arrived ha h hp]
    simp only [fwdsAt, lineAt_of_arrived h, hx, wbLive_of_empty h hwb, ackNone]
  · rw [execFwdm_of_arrived ha h hp]
    simp only [fwdmAt, lineAt_of_arrived h, hx, wbLive_of_empty h hwb, ackNone]
  · rw [execInv_of_arrived ha h hp]
    simp only [invAt, lineAt_of_arrived h, hx, wbLive_of_empty h hwb, ackNone, nearInv_of_noSlice hsl]
  · rw [execPeek_of_arrived ha h hp]
    simp only [peekAt, wbAnswer, lineAt_of_arrived h, hx, wbLive_of_empty h hwb, ackNone]
  · rw [execFlushd_of_arrived ha h hp]
    simp only [flushdAt, wbAnswer, lineAt_of_arrived h, hx, wbLive_of_empty h hwb, ackNone]
  · have hnone : ∀ P, onUnit (decide (a < 62)) (heard P s) = .next s := fun P => by rw [decide_eq_true ha, heard_of_empty hnet]; rfl
    simp only [List.forall_mem_cons]
    exact ⟨hnone _, hnone _, hnone _, hnone _, hnone _, List.forall_mem_nil _⟩

end Sys2Proof.Machine
end

section
/-! PROOFS. Answers, grants, fills and evictions (R310 to R323). -/
set_option Elab.async false

namespace Sys2Proof.Machine

open Sys2Proof

section
variable {s t u v : State} {m : CohMsg} {p q : List CohMsg} {a ln r pa : Nat} {e x : DirEnt} {fl : List (Nat × Bool)}

theorem Arrived.setFlaws (h : Arrived s u m p q) : Arrived (Machine.setFlaws fl s) (Machine.setFlaws fl u) m p q := by
  obtain ⟨hnet, hnext, hpath, rfl⟩ := h
  exact ⟨hnet, hnext, hpath, rfl⟩

theorem Arrived.dir (h : Arrived s u m p q) : u.coh.dir = s.coh.dir := by obtain ⟨-, -, -, rfl⟩ := h; rfl
theorem Arrived.entAt (h : Arrived s u m p q) : Machine.entAt u ln = Machine.entAt s ln := by rw [Machine.entAt, h.dir]; rfl
theorem Arrived.noneWaits (h : Arrived s u m p q) (hn : NoneWaits s ln) : NoneWaits u ln := by obtain ⟨-, -, -, rfl⟩ := h; exact hn

/-- Nothing follows the close of a line that nothing waits for. -/
theorem after_of_noneWaits (h : NoneWaits s ln) : runTask (.after ln) s = (s, []) := by
  simp only [runTask, afterTask, maintWaits_of_noneLeft h.2, h.1, takeFirst, Bool.false_eq_true, if_false]

/-- What is left of a directory of one entry once the entry closes (R312). -/
def closedDir (ln : Nat) (e : DirEnt) : List (Nat × DirEnt) := if e.was = .ds ∧ e.sharers = [] then [] else [(ln, closed e)]

theorem closeEnt_of_single (hd : s.coh.dir = [(ln, x)]) (hv : e.vac = []) :
    closeEnt ln e s = { s with coh := { s.coh with dir := closedDir ln e } } := by
  by_cases h : e.was = .ds ∧ e.sharers = []
  · simp [closeEnt, hv, h, closedDir, entDel, cohMod, hd, adel]
  · have h' : ¬ ((decide (e.was = .ds) && decide (e.sharers = [])) = true) := by simpa using h
    simp only [closeEnt, hv, if_neg h', List.foldl_nil, closedDir, if_neg h, entPut, cohMod, hd, aput_of_single]
    rfl

/-- An entry that awaits nothing more closes, where nothing waits for it (R312). -/
theorem settleLine_of_complete (hd : s.coh.dir = [(ln, e)]) (hs : stable e.st = false) (htm : e.st ≠ .tm) (hte : e.st ≠ .te)
    (hsn : e.snoops = []) (hac : e.acks = []) (hv : e.vac = []) (hn : NoneWaits s ln) :
    settleLine (.advance ln) s = { s with coh := { s.coh with dir := closedDir ln e } } := by
  have hent : entAt s ln = some e := by rw [entAt, hd]; simp [aget]
  have hadv : runTask (.advance ln) s = (closeEnt ln e s, [.after ln]) := by
    simp only [runTask, advanceTask, hent, hs, hsn, hac, if_neg htm, if_neg hte, ne_eq, not_true_eq_false, decide_false, Bool.or_self, Bool.false_eq_true, if_false]
  rw [closeEnt_of_single hd hv] at hadv
  exact settleLine_of_two hadv (after_of_noneWaits hn)

/-- The last acknowledgement closes its entry (R312). -/
theorem ackAt_of_last (hd : s.coh.dir = [(ln, e)]) (hs : stable e.st = false) (htm : e.st ≠ .tm) (hte : e.st ≠ .te)
    (hsn : e.snoops = []) (hac : e.acks = [a]) (hv : e.vac = []) (hn : NoneWaits s ln) :
    ackAt ln a s = { s with coh := { s.coh with dir := closedDir ln e } } := by
  have hent : entAt s ln = some e := by rw [entAt, hd]; simp [aget]
  have hput : (entPut ln { e with acks := e.acks.filter fun k => decide (k ≠ a) } s).coh.dir = [(ln, { e with acks := [] })] := by
    simp [entPut, cohMod, hd, aput_of_single, hac]
  simp only [ackAt, hent]
  exact (settleLine_of_complete hput hs htm hte hsn rfl hv hn).trans rfl

/-- No push waits once the directory holds closed entries only. -/
theorem nextPush_of_closed {md : Nat} (hd : s.coh.dir = closedDir ln e) : nextPush md a s = s := by
  have hnone : s.coh.dir.find? (fun e => decide (lineHome e.1 = md) && e.2.push && e.2.acks.contains a) = none := by
    rw [hd, closedDir]
    split <;> simp [closed]
  rw [nextPush, hnone]

/-- What an answer says of a copy leaves the entry's state and its request. -/
theorem keptEnt_st_req (k : Option Moesi) : (keptEnt e a k).st = e.st ∧ (keptEnt e a k).req = e.req := by
  constructor <;> (unfold keptEnt; dsimp only; repeat' split) <;> rfl

end

section
variable {s t u v : State} {p q : List CohMsg} {a ln pa : Nat} {e x : DirEnt} {fl : List (Nat × Bool)} {kept : Option Moesi} {f d w b : Bool}
  {l : LineData} {part : Option Nat} {st : Option Moesi} {old : W64} {c : Nat} {z : Moesi}

theorem answered_of_owed (hx : x = { keptEnt e a kept with snoops := e.snoops.filter fun k => decide (k ≠ a), fwd := e.fwd || f }) (hne : x.snoops ≠ []) :
    answered ln e a kept f s = entPut ln x s := by
  subst hx
  exact if_pos hne

/-- The last answer performs the request (R312). -/
theorem answered_of_last {r : CohReq} (hx : x = { keptEnt e a kept with snoops := e.snoops.filter fun k => decide (k ≠ a), fwd := e.fwd || f })
    (hno : x.snoops = []) (hst : e.st = .tu) (hr : e.req = some r) :
    answered ln e a kept f s = settleLine (.advance ln) (performReq ln x r (entPut ln x s)) := by
  obtain ⟨hkst, hkreq⟩ := keptEnt_st_req (e := e) (a := a) kept
  have hno' : (e.snoops.filter fun k => decide (k ≠ a)) = [] := by rw [hx] at hno; exact hno
  simp only [answered, ← hx]
  rw [if_neg (not_not_intro hno')]
  simp only [hkst, hkreq, hst, hr]

theorem snackHome_of_awaited (he : entAt s ln = some e) (hin : a ∈ e.snoops) : snackHome a ln kept f s = answered ln e a kept f s := by
  simp only [snackHome, he, List.contains_iff_mem.mpr hin, if_true]

/-- A dirty copy given up to a write or a promotion goes into home data (R311). -/
theorem sndataAt_of_dirty (he : entAt s ln = some e) (hin : a ∈ e.snoops) (hst : e.st = .tu) :
    sndataAt a ln kept f true w b l part s = answered ln e a kept f (toHome ln l b part s) := by
  simp only [sndataAt, he, List.contains_iff_mem.mpr hin, if_true, sndataHome, hst, Bool.or_false, reduceCtorEq, decide_false, Bool.false_and,
    Bool.false_eq_true, if_false]

theorem bumpObj_obj (i j k n : Nat) (s : State) : (bumpObj i j k n s).obj = tset (objDefault i j) s.obj (objKey i j)
    (if oget s i j + n < 2 ^ k then oget s i j + n else (Config.free s.fresh).toNat % 2 ^ k) := by
  have h : bumpObj i j k n s = if oget s i j + n < 2 ^ k then oset s i j (oget s i j + n) else
      oset (drawFree s).2 i j ((drawFree s).1.toNat % 2 ^ k) := rfl
  rw [h]
  split <;> rfl

theorem bumpObj_obj_congr {i j k n : Nat} (ho : s.obj = t.obj) (hf : s.fresh = t.fresh) : (bumpObj i j k n s).obj = (bumpObj i j k n t).obj := by
  have hg : oget s i j = oget t i j := by rw [oget_eq_tget, oget_eq_tget, ho]
  rw [bumpObj_obj, bumpObj_obj, ho, hf, hg]

/-- A push that is declined leaves no sharer, and is counted (R313). -/
theorem placeackAt_of_declined (hd : s.coh.dir = [(ln, e)]) (hst : e.st = .tw) (hwas : e.was = .ds) (hsh : e.sharers = [a]) (hsn : e.snoops = [])
    (hac : e.acks = [a]) (hv : e.vac = []) (hn : NoneWaits s ln) :
    placeackAt a ln false s = { bumpObj 0x3504 (lineHome ln + 1) 64 1 s with coh := { s.coh with dir := [] } } := by
  generalize hb : bumpObj 0x3504 (lineHome ln + 1) 64 1 s = v
  have hcoh : v.coh = s.coh := by rw [← hb]; exact (bumpObj_did (W := but 33) rfl (.refl s)).coh rfl
  have hmds : v.mds = s.mds := by rw [← hb]; exact (bumpObj_did (W := but 31) rfl (.refl s)).mds rfl
  have hent : entAt v ln = some e := by rw [entAt, hcoh, hd]; simp [aget]
  generalize hu : entPut ln { e with sharers := e.sharers.filter fun k => decide (k ≠ a) } v = u
  have hud : u.coh.dir = [(ln, { e with sharers := [] })] := by rw [← hu]; simp [entPut, cohMod, hcoh, hd, aput_of_single, hsh]
  have hun : NoneWaits u ln := by
    obtain ⟨h1, h2⟩ := hn
    refine ⟨by rw [← hu]; exact (congrArg Coh.escal hcoh).trans h1, ?_⟩
    rw [← hu, mdMaint, mdAt, show (entPut ln _ v).mds = s.mds from hmds]
    exact h2
  have hack := ackAt_of_last (a := a) hud (by rw [hst]; rfl) (by rw [hst]; nofun) (by rw [hst]; nofun) hsn hac hv hun
  have hcl : closedDir ln { e with sharers := [] } = [] := if_pos ⟨hwas, rfl⟩
  rw [hcl] at hack
  simp only [placeackAt, hb, hent, hu, Bool.false_eq_true, if_false, hack]
  rw [nextPush, show State.coh _ = _ from rfl, List.find?_nil]
  subst hu
  simp only [entPut, cohMod, hcoh]

theorem execSnack_of_arrived (ha : a < 62) (h : Arrived s u (.snack a (lineOf pa) kept f d w) p q) (hp : ∀ k f y z, .snack a (lineOf pa) k f y z ∉ p) :
    exec (.snack a pa fl) s = .next (setFlaws [] (snackHome a (lineOf pa) kept f (setFlaws fl u))) := by
  refine (onUnit_of_true (decide_eq_true ha) _).trans (congrArg Host.Outcome.next (withFlaws_eq (heard_of_arrived h.setFlaws (by simp) fun m hm => ?_)))
  cases m with
  | snack b' l' k f y z => exact not_both fun hc hl => by subst hc hl; exact hp k f y z hm
  | _ => rfl

theorem execSndata_of_arrived (ha : a < 62) (h : Arrived s u (.sndata a (lineOf pa) kept f d w b l part) p q)
    (hp : ∀ k f y z o v n, .sndata a (lineOf pa) k f y z o v n ∉ p) :
    exec (.sndata a pa fl) s = .next (setFlaws [] (sndataAt a (lineOf pa) kept f d w b l part (setFlaws fl u))) := by
  refine (onUnit_of_true (decide_eq_true ha) _).trans (congrArg Host.Outcome.next (withFlaws_eq (heard_of_arrived h.setFlaws (by simp) fun m hm => ?_)))
  cases m with
  | sndata b' l' k f y z o v n => exact not_both fun hc hl => by subst hc hl; exact hp k f y z o v n hm
  | _ => rfl

theorem execGrantack_of_arrived (ha : a < 62) (h : Arrived s u (.grantack a (lineOf pa)) p q) (hp : .grantack a (lineOf pa) ∉ p) :
    exec (.grantack a pa fl) s = .next (setFlaws [] (ackAt (lineOf pa) a (setFlaws fl u))) := by
  refine (onUnit_of_true (decide_eq_true ha) _).trans (congrArg Host.Outcome.next (withFlaws_eq (heard_of_arrived h.setFlaws (by simp) fun m hm => ?_)))
  cases m with
  | grantack b' l' => exact not_both fun hc hl => by subst hc hl; exact hp hm
  | _ => rfl

theorem execPlaceack_of_arrived (ha : a < 62) (h : Arrived s u (.placeack a (lineOf pa) b) p q) (hp : ∀ k, .placeack a (lineOf pa) k ∉ p) :
    exec (.placeack a pa fl) s = .next (setFlaws [] (placeackAt a (lineOf pa) b (setFlaws fl u))) := by
  refine (onUnit_of_true (decide_eq_true ha) _).trans (congrArg Host.Outcome.next (withFlaws_eq (heard_of_arrived h.setFlaws (by simp) fun m hm => ?_)))
  cases m with
  | placeack b' l' k => exact not_both fun hc hl => by subst hc hl; exact hp k hm
  | _ => rfl

theorem execGrant_of_arrived (ha : a < 64) (h : Arrived s u (.grant a (lineOf pa) st old) p q) (hp : ∀ k o, .grant a (lineOf pa) k o ∉ p) :
    exec (.grant a pa) s = .next (grantAt a (lineOf pa) st old u) := by
  refine (onUnit_of_true (decide_eq_true ha) _).trans (congrArg Host.Outcome.next (heard_of_arrived h (by simp) fun m hm => ?_))
  cases m with
  | grant b' l' k o => exact not_both fun hc hl => by subst hc hl; exact hp k o hm
  | _ => rfl

theorem execOwnerfill_of_arrived (ha : a < 62) (h : Arrived s u (.ownerfill c a (lineOf pa) z b l) p q)
    (hp : ∀ c k o v, .ownerfill c a (lineOf pa) k o v ∉ p) :
    exec (.ownerfill a pa) s = .next (receiveLine a (lineOf pa) (some z) (errOf b) b l u) := by
  refine (onUnit_of_true (decide_eq_true ha) _).trans (congrArg Host.Outcome.next (heard_of_arrived h (by simp) fun m hm => ?_))
  cases m with
  | ownerfill c' b' l' k o v => exact not_both fun hc hl => by subst hc hl; exact hp c' k o v hm
  | _ => rfl

theorem execPlacedata_of_arrived (ha : a < 62) (h : Arrived s u (.placedata a (lineOf pa) b l) p q) (hp : ∀ k v, .placedata a (lineOf pa) k v ∉ p) :
    exec (.placedata a pa) s = .next (placedataAt a (lineOf pa) b l u) := by
  refine (onUnit_of_true (decide_eq_true ha) _).trans (congrArg Host.Outcome.next (heard_of_arrived h (by simp) fun m hm => ?_))
  cases m with
  | placedata b' l' k v => exact not_both fun hc hl => by subst hc hl; exact hp k v hm
  | _ => rfl

theorem execVacack_of_arrived (ha : a < 62) (h : Arrived s u (.vacack a (lineOf pa)) p q) (hp : .vacack a (lineOf pa) ∉ p) :
    exec (.vacack a pa) s = .next (wbDrop a (lineOf pa) u) := by
  refine (onUnit_of_true (decide_eq_true ha) _).trans (congrArg Host.Outcome.next (heard_of_arrived h (by simp) fun m hm => ?_))
  cases m with
  | vacack b' l' => exact not_both fun hc hl => by subst hc hl; exact hp hm
  | _ => rfl

/-- No HomeFill but the one that has arrived is the unit's, in front of it. -/
theorem isFillOf_of_none (hp : ∀ k h o v, .homefill a ln k h o v ∉ p) : ∀ m ∈ p, isFillOf a ln m = false := fun m hm => by
  cases m with
  | homefill b' l' k h o v => exact not_both fun hc hl => by subst hc hl; exact hp k h o v hm
  | _ => rfl

/-- A HomeFill that may be heard: it needs no read of HBM, or its turn has come (R279, R280). -/
theorem execHomefill_of_arrived {x y : Bool} (ha : a < 64) (h : Arrived s u (.homefill a (lineOf pa) st d b l) p q)
    (hp : ∀ k h o v, .homefill a (lineOf pa) k h o v ∉ p)
    (hgo : (s.coh.net.any fun m => isFillOf a (lineOf pa) m && unsent m) = false ∨ fillWaits s a (lineOf pa) = false) :
    exec (.homefill a pa x y) s = .next (setFlaws [] (homefillAt a (lineOf pa) st d b l
      (setFlaws (if x || y then [(lineOf pa, y)] else []) u))) := by
  refine (onUnit_of_true (decide_eq_true ha) _).trans (congrArg Host.Outcome.next ?_)
  have hno : ((s.coh.net.any fun m => isFillOf a (lineOf pa) m && unsent m) && fillWaits s a (lineOf pa)) = false := by
    rcases hgo with hg | hg <;> rw [hg]
    · rfl
    · exact Bool.and_false _
  simp only [homefillEffect, hno, Bool.false_eq_true, if_false]
  exact withFlaws_eq (heard_of_arrived h.setFlaws (by simp [isFillOf]) (isFillOf_of_none hp))

theorem receiveLine_of_fill {r : CohReq} (hr : openOf u a ln = some r) (hv : v = closeReq a ln u)
    (hw : t = say (.grantack a ln) (agentFill a ln (agentMask v a r.fill r.part) ⟨z, l, b, r.part, 0⟩ v).2) :
    receiveLine a ln (some z) (errOf b) b l u = if b then failReq 3 r t else t := by
  subst hv hw
  cases b <;> simp [receiveLine, openPart, openFill, hr, errOf, failOpen]

end

section
variable {s u v : State} {p q : List CohMsg} {a ln pa : Nat} {x : ALine} {b : Bool}

/-- No HomeFill of the unit waits for HBM, where the one that has arrived does not. -/
theorem unsent_of_sent {st : Option Moesi} {l : LineData} (h : Arrived s u (.homefill a ln st false b l) p q)
    (hp : ∀ k h o v, .homefill a ln k h o v ∉ p) (hq : ∀ k o v, .homefill a ln k true o v ∉ q) :
    (s.coh.net.any fun m => isFillOf a ln m && unsent m) = false := by
  rw [h.1, List.any_append, List.any_cons, Bool.or_eq_false_iff, Bool.or_eq_false_iff]
  refine ⟨List.any_eq_false.mpr fun m hm => ?_, Bool.and_false _, List.any_eq_false.mpr fun m hm => ?_⟩
  · rw [isFillOf_of_none hp m hm]; nofun
  · cases m with
    | homefill b' l' k y o v =>
      simp only [isFillOf, unsent, Bool.and_eq_true, decide_eq_true_eq, not_and, Bool.not_eq_true]
      rintro ⟨rfl, rfl⟩
      exact Bool.eq_false_iff.mpr fun hy => hq k o v (hy ▸ hm)
    | _ => simp [isFillOf]

/-- The eviction of a line as its home is told of it. -/
def vacOf (a : Nat) (full : Bool) (x : ALine) : Vac := ⟨a, full, x.data, x.poison, x.part⟩

/-- An eviction goes out where none of the agent's is on its way. -/
theorem vacEffect_of_line {full : Bool} (hg : isGroup a = true) (hx : lineAt s a (lineOf pa) = some x) (hroom : vacRoom s a (lineOf pa) = true)
    (hwb : wbAt s a (lineOf pa) = none) (hopen : openReq s a (lineOf pa) = false) (hpath : pathHeld s (unitWin a) (homeWin (lineOf pa)) = false)
    (hs : x.st ≠ .s) (hfull : dirtySt x.st = full) (hnone : ∀ w, .vac (lineOf pa) w ∈ s.coh.net → w.agent ≠ a) :
    vacEffect a pa full s = vacate a (lineOf pa) x s := by
  unfold vacEffect
  dsimp only
  rw [if_neg ?none, hx]
  case none =>
    rw [Bool.not_eq_true]
    refine List.any_eq_false.mpr fun m hm => ?_
    cases m with
    | vac l v =>
      simp only [Bool.and_eq_true, decide_eq_true_eq, not_and]
      rintro ⟨rfl, hv⟩
      exact absurd hv (hnone v hm)
    | _ => nofun
  simp only [hg, decide_eq_true hs, hfull, hroom, hwb, hopen, hpath, decide_true, Option.isNone_none, Bool.not_false, Bool.and_self, if_true]

theorem vacate_eq (ht : v = { lineDrop a ln s with coh := { (lineDrop a ln s).coh with
      wb := (a, ln, if dirtySt x.st then x else { x with st := .s }) :: s.coh.wb } }) :
    vacate a ln x s = vacHear a ln (say (.vac ln (vacOf a (dirtySt x.st) x)) v) := by
  subst ht; rfl

theorem vacHear_of_arrived {w : Vac} (h : Arrived s u (.vac ln w) p q) (hp : ∀ x, .vac ln x ∈ p → x.agent ≠ w.agent) :
    vacHear w.agent ln s = vacArrive ln w u := by
  have hear : ∀ P : CohMsg → Bool, (∀ l v, P (.vac l v) = (decide (v.agent = w.agent) && decide (l = ln))) → (∀ m, P m = true → ∃ l v, m = .vac l v) →
      hear P s = some (.vac ln w, u) := fun P hv hother => by
    refine hear_of_arrived h (by rw [hv, decide_eq_true rfl, decide_eq_true rfl]; rfl) fun m hm => Bool.eq_false_iff.mpr fun hP => ?_
    obtain ⟨l, v, rfl⟩ := hother m hP
    rw [hv, Bool.and_eq_true, decide_eq_true_eq, decide_eq_true_eq] at hP
    exact hp v (hP.2 ▸ hm) hP.1
  unfold vacHear
  rw [hear _ (fun _ _ => rfl) fun m hm => ?_]
  cases m with
  | vac l v => exact ⟨l, v, rfl⟩
  | _ => cases hm

/-- With nothing else on its way an eviction is heard at once (R315). -/
theorem vacHear_of_alone {w : Vac} (hn : v.coh.net = []) (hpath : pathHeld v (unitWin w.agent) (homeWin ln) = false) :
    vacHear w.agent ln (say (.vac ln w) v) = vacArrive ln w v := by
  have h : Arrived (say (.vac ln w) v) v (.vac ln w) [] [] := by
    refine ⟨by simp [say, cohMod, hn], rfl, hpath, ?_⟩
    show v = { v with coh := { v.coh with net := ([] : List CohMsg) } }
    rw [← hn]
  exact vacHear_of_arrived h fun _ hx => absurd hx List.not_mem_nil

/-- An eviction on its way is heard where it is looked for. -/
theorem vacEffect_of_arrived {w : Vac} (h : Arrived s u (.vac (lineOf pa) w) p q) (hp : ∀ x, .vac (lineOf pa) x ∈ p → x.agent ≠ w.agent) :
    vacEffect w.agent pa w.full s = vacArrive (lineOf pa) w u := by
  unfold vacEffect
  dsimp only
  rw [if_pos ?some, vacHear_of_arrived h hp]
  exact List.any_eq_true.mpr ⟨.vac (lineOf pa) w, by rw [h.1]; simp, by simp⟩

/-- An agent with nothing to evict, and no eviction on its way, stays as it is. -/
theorem vacEffect_of_none {full : Bool} (hx : ∀ x, lineAt s a (lineOf pa) = some x → x.st = .s)
    (hnone : ∀ w, .vac (lineOf pa) w ∈ s.coh.net → w.agent ≠ a) : vacEffect a pa full s = s := by
  unfold vacEffect
  dsimp only
  rw [if_neg ?none]
  case none =>
    rw [Bool.not_eq_true]
    refine List.any_eq_false.mpr fun m hm => ?_
    cases m with
    | vac l v =>
      simp only [Bool.and_eq_true, decide_eq_true_eq, not_and]
      rintro ⟨rfl, hv⟩
      exact absurd hv (hnone v hm)
    | _ => nofun
  split
  · next x hl => simp [hx x hl]
  · rfl

end

/-- Settles O41: an answer or acknowledgement is noted at the entry that awaits it, a fill or push at the unit that receives it, and an eviction
moves to the buffer and is told to the home. -/
theorem linesAreAnsweredGrantedAndEvicted : Obligations.LinesAreAnsweredGrantedAndEvicted := by
  refine ⟨fun p q a pa kept fwd d w fl e x u s ha h hp he hin hx hne => ?_, fun p q a pa kept fwd d w fl e x r u s ha h hp he hsn hst hr hx => ?_,
    fun p q a pa kept fwd w b l part fl e x u s ha h hp he hin hst hx hne => ?_,
    fun p q a pa e fl u s ha h hp hd hs htm hte hsn hac hv hn => ?_, fun p q a pa e fl u s ha h hp hd hs htm hte hsn hac hv hn => ?_,
    fun p q a pa e fl u s ha h hp hd hst hwas hsh hsn hac hv hn => ?_,
    fun p q a pa x st old u v s ha h hp hv hx => ?_, fun p q a pa old u v s ha h hp hv => ?_,
    fun p q a b pa st poison d part r u v w s ha h hp hr hpart hv hw => ?_, fun r s => ⟨fun h => ?_, fun h => ?_⟩,
    fun p q a pa st poison d part r u v w s ha h hp hq hr hpart hv hw => ?_,
    fun p q a pa corrected st d r u s ha h hp hgo hr hr1 => ?_, fun p q a pa d u v s ha h hp hq hn hv => ?_,
    fun p q a pa d part u s ha h hp hpart => ?_, fun a pa x v s hg hx hroom hwb hopen hpath hdirty hnone hv => ?_,
    fun a pa x v s hg hx hroom hwb hopen hpath hst hnone hv => ?_,
    fun p q pa w u s ha h hp => ?_, fun p q a pa u s ha h hp => ?_, fun a pa s ha hx hnone => ?_⟩
  · rw [execSnack_of_arrived ha h hp]
    have hent : entAt (setFlaws fl u) (lineOf pa) = some e := h.entAt.trans he
    rw [snackHome_of_awaited hent hin, answered_of_owed hx hne]
    rfl
  · rw [execSnack_of_arrived ha h hp]
    have hent : entAt (setFlaws fl u) (lineOf pa) = some e := h.entAt.trans he
    have hno : (e.snoops.filter fun k => decide (k ≠ a)) = [] := by simp [hsn]
    rw [snackHome_of_awaited hent (by rw [hsn]; exact List.mem_singleton_self a), answered_of_last (x := x) (by rw [hx, hno]) (by rw [hx]) hst hr]
  · rw [execSndata_of_arrived ha h hp]
    have hent : entAt (setFlaws fl u) (lineOf pa) = some e := h.entAt.trans he
    rw [sndataAt_of_dirty hent hin hst, answered_of_owed hx hne]
  · rw [execGrantack_of_arrived ha h hp, ackAt_of_last (s := setFlaws fl u) (h.dir.trans hd) hs htm hte hsn hac hv (h.noneWaits hn)]
    rfl
  · rw [execPlaceack_of_arrived ha h hp]
    have hack := ackAt_of_last (s := setFlaws fl u) (h.dir.trans hd) hs htm hte hsn hac hv (h.noneWaits hn)
    simp only [placeackAt, if_true, hack]
    rw [nextPush_of_closed (ln := lineOf pa) (e := e) rfl]
    rfl
  · refine ⟨_, execPlaceack_of_arrived ha h hp, ?_⟩
    rw [placeackAt_of_declined (s := setFlaws fl u) (h.dir.trans hd) hst hwas hsh hsn hac hv (h.noneWaits hn)]
    have hmem := (bumpObj_did (W := but 30) (a1 := 0x3504) (a2 := lineHome (lineOf pa) + 1) (a3 := 64) (a4 := 1) rfl (.refl (setFlaws fl u))).mem rfl
    obtain ⟨-, -, -, rfl⟩ := h
    exact ⟨rfl, bumpObj_obj_congr rfl rfl, congrArg (fun m : Mem => { m with flaws := [] }) hmem⟩
  · subst hv
    rw [execGrant_of_arrived (by omega) h hp]
    have hline : lineAt (closeReq a (lineOf pa) u) a (lineOf pa) = some x := (lineAt_of_arrived h).trans hx
    simp only [grantAt, hline]
  · subst hv
    rw [execGrant_of_arrived ha h hp]
    obtain ⟨-, -, -, rfl⟩ := h
    rfl
  · subst hpart
    rw [execOwnerfill_of_arrived ha h hp]
    have hopen : openOf u a (lineOf pa) = some r := by obtain ⟨-, -, -, rfl⟩ := h; exact hr
    exact congrArg _ (receiveLine_of_fill hopen hv hw)
  · rw [failReq, if_pos h]
  · rw [failReq, h, if_neg (by decide)]
  · subst hpart
    rw [execHomefill_of_arrived (by omega) h hp (.inl (unsent_of_sent h hp hq))]
    have hopen : openOf (setFlaws [] u) a (lineOf pa) = some r := by obtain ⟨-, -, -, rfl⟩ := h; exact hr
    have hrec := receiveLine_of_fill hopen hv hw
    exact congrArg (fun x => Host.Outcome.next (setFlaws [] (settleLine (.after (lineOf pa)) x))) hrec
  · rw [execHomefill_of_arrived ha h hp (.inr hgo), Bool.or_false]
    have hread : homeRead a (openPart u a (lineOf pa)) (decide (openFill u a (lineOf pa) = 3)) (lineOf pa)
        (setFlaws (if corrected then [(lineOf pa, false)] else []) u) = r := by
      obtain ⟨-, -, -, rfl⟩ := h
      exact hr.symm
    have hat : homefillAt a (lineOf pa) st true false d (setFlaws (if corrected then [(lineOf pa, false)] else []) u) =
        settleLine (.after (lineOf pa)) (receiveLine a (lineOf pa) st r.1 (r.1.isSome || false) d r.2.2) := by rw [← hread]; rfl
    rw [hat, hr1]
    rfl
  · subst hv
    rw [execHomefill_of_arrived ha h hp (.inl (unsent_of_sent h hp hq))]
    have hafter : settleLine (.after (lineOf pa)) (emit (.lookData a (128 * lineOf pa) false d) (closeReq a (lineOf pa) (setFlaws [] u))) =
        emit (.lookData a (128 * lineOf pa) false d) (closeReq a (lineOf pa) (setFlaws [] u)) :=
      settleLine_of_last (after_of_noneWaits (h.noneWaits hn))
    refine congrArg Host.Outcome.next ((congrArg (setFlaws []) hafter).trans ?_)
    obtain ⟨-, -, -, rfl⟩ := h
    rfl
  · subst hpart
    rw [execPlacedata_of_arrived ha h hp, placedataAt, h.entAt]
  · have hlt := lt_of_isGroup hg
    have hs : x.st ≠ .s := fun h => by rw [h] at hdirty; cases hdirty
    have htold : exec (.vacdata a pa) s = .next (vacHear a (lineOf pa) (say (.vac (lineOf pa) (vacOf a true x)) v)) := by
      refine (onUnit_of_true (decide_eq_true (show a < 62 by omega)) _).trans (congrArg Host.Outcome.next ?_)
      rw [vacEffect_of_line hg hx hroom hwb hopen hpath hs hdirty hnone, vacate_eq (v := v) (by rw [hv, hdirty]; rfl), hdirty]
    exact ⟨htold, fun hnet => htold.trans (congrArg Host.Outcome.next
      (vacHear_of_alone (w := vacOf a true x) (by rw [hv]; exact hnet) (by rw [hv]; exact hpath)))⟩
  · have hlt := lt_of_isGroup hg
    have hdirty : dirtySt x.st = false := by rw [hst]; rfl
    have htold : exec (.vacclean a pa) s = .next (vacHear a (lineOf pa) (say (.vac (lineOf pa) (vacOf a false x)) v)) := by
      refine (onUnit_of_true (decide_eq_true (show a < 62 by omega)) _).trans (congrArg Host.Outcome.next ?_)
      rw [vacEffect_of_line hg hx hroom hwb hopen hpath (by rw [hst]; nofun) hdirty hnone, vacate_eq (v := v) (by rw [hv, hdirty]; rfl), hdirty]
    exact ⟨htold, fun hnet => htold.trans (congrArg Host.Outcome.next
      (vacHear_of_alone (w := vacOf a false x) (by rw [hv]; exact hnet) (by rw [hv]; exact hpath)))⟩
  · have hrun := vacEffect_of_arrived h hp
    exact ⟨vacHear_of_arrived h hp, fun hfull => (onUnit_of_true (decide_eq_true ha) _).trans (congrArg _ (hfull ▸ hrun)),
      fun hfull => (onUnit_of_true (decide_eq_true ha) _).trans (congrArg _ (hfull ▸ hrun))⟩
  · rw [execVacack_of_arrived ha h hp]
    obtain ⟨-, -, -, rfl⟩ := h
    rfl
  · exact ⟨(onUnit_of_true (decide_eq_true ha) _).trans (congrArg _ (vacEffect_of_none hx hnone)),
      (onUnit_of_true (decide_eq_true ha) _).trans (congrArg _ (vacEffect_of_none hx hnone))⟩

end Sys2Proof.Machine
end

section
/-! PROOFS. Codewords (R328 to R334): their statement has a port send on a die that is silent (R29). -/
set_option Elab.async false

namespace Sys2Proof.Machine

open Sys2Proof

/-- An E9 whose die of port 0 is silent. -/
def silentPortZero : State := { boot := { silent := [14] } }

/-- Refutes O42: a port on a silent die sends nothing. -/
theorem not_codewordsAndSidebandMessages : ¬ Obligations.CodewordsAndSidebandMessages := by
  rintro ⟨-, -, -, -, -, -, -, -, -, -, -, -, -, hemit⟩
  have hout : (emitSideband 0 1 0 silentPortZero).out = [] := rfl
  rw [hemit] at hout
  exact absurd hout (List.cons_ne_nil _ _)

end Sys2Proof.Machine
end

section
/-! PROOFS. Ports: training, service and the loss of chips (R335 to R338, R344, R362 to R368). -/
set_option Elab.async false

namespace Sys2Proof.Machine

open Sys2Proof

theorem onUnit_okPort {n : Nat} (h : n < 24) (t : State) : onUnit (okPort n) t = .next t := onUnit_of_true (decide_eq_true h) t

theorem scRaise_ports (k : Nat) (d : W32) (s : State) : (scRaise k d s).ports = s.ports := (scRaise_did (W := but 34) rfl (.refl s)).ports rfl
theorem scRaise_chips (k : Nat) (d : W32) (s : State) : (scRaise k d s).chips = s.chips := (scRaise_did (W := but 35) rfl (.refl s)).chips rfl
theorem bumpObj_chips (i j w n : Nat) (s : State) : (bumpObj i j w n s).chips = s.chips :=
  (bumpObj_did (W := but 35) rfl (.refl s)).chips rfl
theorem chipReturn_ports (b : Nat) (s : State) : (chipReturn b s).ports = s.ports := (chipReturn_did (W := but 34) rfl (.refl s)).ports rfl
theorem portAt_scRaise (k : Nat) (d : W32) (s : State) (n : Nat) : portAt (scRaise k d s) n = portAt s n := by rw [portAt, scRaise_ports]; rfl
theorem portAt_chipReturn (b : Nat) (s : State) (n : Nat) : portAt (chipReturn b s) n = portAt s n := by rw [portAt, chipReturn_ports]; rfl

theorem ne_default_of_role {p : Port} {k : Nat} (h : p.role = k) (hk : k ≠ 0) : p ≠ {} := by
  rintro rfl
  exact hk h.symm

section
variable {n : Nat} {s : State} {p : Port}

theorem trainAttemptEffect_of_ready (hp : portPresent s n = true) (hs : s.chips.slotOk = true) (hb : s.boot.phase = .running)
    (hst : (portAt s n).state = 1 ∨ (portAt s n).state = 5 ∨ (portAt s n).state = 6) :
    trainAttemptEffect n s = scRaise 7 0 (portPut (if (portAt s n).role = 2 ∧ (portAt s n).state ≠ 6 then forgetPlane (portAt s n).peerId s else s) n
      { (if oget s 0x2401 (n + 1) = 0 then ({} : Port) else trainPort (oget s 0x2401 (n + 1)) (oget s 0x2402 (n + 1)))
        with told := (portAt s n).told }) := by
  have hst' : (decide ((portAt s n).state = 1) || decide ((portAt s n).state = 5) || decide ((portAt s n).state = 6)) = true := by
    simpa [or_assoc] using hst
  exact if_pos (by rw [hp, hs, running, decide_eq_true hb, hst']; rfl)

theorem judgeState_of_partial (h : ((portAt s n).seen.getD 0 false && (portAt s n).seen.getD 1 false) = false) : judgeState n s = s :=
  if_neg (by rw [h]; exact Bool.false_ne_true)

theorem judgeState_of_seen (h₀ : (portAt s n).seen.getD 0 false = true) (h₁ : (portAt s n).seen.getD 1 false = true) :
    judgeState n s =
      if stateAgrees s (portAt s n) && !(planeTaken s n) then
        (if portInService (portAt s n) then s
         else if (portAt s n).role = 1 ∧ chipLost (scRaise 7 0 (portMod n (fun p => { p with state := trainedState p }) s))
             (peerChip (scRaise 7 0 (portMod n (fun p => { p with state := trainedState p }) s)) (portAt s n)) = false then
           chipReturn (peerChip (scRaise 7 0 (portMod n (fun p => { p with state := trainedState p }) s)) (portAt s n))
             (scRaise 7 0 (portMod n (fun p => { p with state := trainedState p }) s))
         else scRaise 7 0 (portMod n (fun p => { p with state := trainedState p }) s))
      else if (portAt s n).state = 6 then s else portOut n 6 s :=
  if_pos (by rw [h₀, h₁]; rfl)

/-- A port whose peer cannot be served stays set aside, or is set aside now (R338). -/
theorem judgeState_of_unfit (h₀ : (portAt s n).seen.getD 0 false = true) (h₁ : (portAt s n).seen.getD 1 false = true)
    (h : stateAgrees s (portAt s n) = false ∨ planeTaken s n = true) :
    judgeState n s = if (portAt s n).state = 6 then s else portOut n 6 s := by
  rw [judgeState_of_seen h₀ h₁]
  refine if_neg ?_
  obtain h | h := h <;> simp [h]

/-- A port whose peer agrees enters service, unless it is in service (R337, R338). -/
theorem judgeState_of_fit_plane (h₀ : (portAt s n).seen.getD 0 false = true) (h₁ : (portAt s n).seen.getD 1 false = true)
    (hr : (portAt s n).role ≠ 1) (ha : stateAgrees s (portAt s n) = true) (hp : planeTaken s n = false) :
    judgeState n s = if portInService (portAt s n) then s
      else scRaise 7 0 (portPut s n { portAt s n with state := trainedState (portAt s n) }) := by
  rw [judgeState_of_seen h₀ h₁, if_pos (by rw [ha, hp]; rfl)]
  split
  · rfl
  · exact if_neg fun h => hr h.1

theorem planeTaken_of_board (hr : (portAt s n).role = 1) : planeTaken s n = false := by
  rw [planeTaken, decide_eq_false (by rw [hr]; decide), Bool.false_and]

theorem judgeState_of_fit_board (h₀ : (portAt s n).seen.getD 0 false = true) (h₁ : (portAt s n).seen.getD 1 false = true)
    (hr : (portAt s n).role = 1) (ha : stateAgrees s (portAt s n) = true) (hi : portInService (portAt s n) = false)
    (hl : chipLost s (peerChip s (portAt s n)) = false) :
    judgeState n s = chipReturn (peerChip s (portAt s n)) (scRaise 7 0 (portPut s n { portAt s n with state := trainedState (portAt s n) })) := by
  have hchip (t : State) (ht : t.chips = s.chips) : chipLost t (peerChip t (portAt s n)) = chipLost s (peerChip s (portAt s n)) := by
    rw [chipLost, chipMark, chipByte, peerChip, ownBoard, ht]; rfl
  have hraise : (scRaise 7 0 (portMod n (fun p => { p with state := trainedState p }) s)).chips = s.chips := scRaise_chips ..
  rw [judgeState_of_seen h₀ h₁, if_pos (by rw [ha, planeTaken_of_board hr]; rfl), hi, if_neg Bool.false_ne_true,
    if_pos ⟨hr, by rw [hchip _ hraise]; exact hl⟩]
  rw [peerChip, ownBoard, hraise]
  rfl

theorem peerIncarnation_of_switch (h : (portAt s n).role ≠ 1) : peerIncarnation n s = s := if_pos (.inl h)
theorem peerIncarnation_of_unseen (h : (portAt s n).seen.getD 2 false = false) : peerIncarnation n s = s := if_pos (.inr (.inr h))

/-- What a STATE message does once its field has been noted as `p` (R330, R338). -/
theorem sbState_of_heard {v : Nat} {q : Port} (hn : n < 24) (hh : hearing (portAt s n) = true)
    (hq : q = { portAt s n with
      peer := lset (portAt s n).peer (bitsOf 15 14 v) (bitsOf 13 0 v)
      told := lset (portAt s n).told (bitsOf 15 14 v) (bitsOf 13 0 v)
      seen := lset (portAt s n).seen (bitsOf 15 14 v) true }) :
    exec (.sbState n v) s = .next (takeStream n (unrouted (seenVia (peerIncarnation n (judgeState n (portPut s n q)))))) := by
  subst hq
  refine (onUnit_okPort hn _).trans (congrArg (fun t => Host.Outcome.next (takeStream n t)) ?_)
  exact if_neg (by rw [hh]; exact Bool.false_ne_true)

theorem lossOfHeartbeat_of_switch (hn : n < 24) (hu : portUp s n = true) (hr : (portAt s n).role = 2) (ht : (portAt s n).retraining = false) :
    exec (.portHeartbeatLoss n) s = .next (portOut n 1 (portPut s n { portAt s n with lostAt := some (now s) })) := by
  refine (onUnit_okPort hn _).trans (congrArg Host.Outcome.next ?_)
  refine (if_neg (by rw [hu]; exact Bool.false_ne_true)).trans ?_
  simp only [hr, ht, Bool.false_eq_true, if_false]
  exact if_neg fun h => absurd h.1 (by decide)

theorem chipEvtEffect_of_up {v : Nat} (hu : portUp s n = true) (hr : (portAt s n).role = 2) (hp : (portAt s n).peerId ≤ 3) :
    chipEvtEffect n v s =
      if v.testBit 15 then chipReturn (bitsOf 11 0 v) (setPlane (bitsOf 11 0 v) (portAt s n).peerId true s)
      else if v.testBit 14 then loseChip (bitsOf 11 0 v) 0 (setPlane (bitsOf 11 0 v) (portAt s n).peerId false s)
      else planesJudge (unrouted (resendPorts (setPlane (bitsOf 11 0 v) (portAt s n).peerId false s))) :=
  if_neg (by simp [hu, hr, hp])

theorem goingDownEffect_of_sender {r b : Nat} (hh : hearing (portAt s n) = true) (hb : portSender s (portAt s n) = some b)
    (hl : ∀ m < 24, (portAt s m).retraining = true → portSender s (portAt s m) ≠ some b) :
    goingDownEffect n r s = loseChip b (r % 256) s := by
  have hnone : ((upto 0 24).filter fun m => (portAt s m).retraining && decide (portSender s (portAt s m) = some b)) = [] := by
    refine List.filter_eq_nil_iff.2 fun m hm => ?_
    have hm' : m < 24 := by rw [mem_upto] at hm; omega
    rw [Bool.and_eq_true, decide_eq_true_iff]
    exact fun h => hl m hm' h.1 h.2
  refine (if_neg (by rw [hh]; exact Bool.false_ne_true)).trans ?_
  rw [hb]
  dsimp only
  rw [hnone]
  rfl

theorem goingDownEffect_of_none {r : Nat} (h : hearing (portAt s n) = false ∨ portSender s (portAt s n) = none) : goingDownEffect n r s = s := by
  obtain h | h := h
  · exact if_pos (by rw [h]; rfl)
  · refine (ite_eq_left_iff).2 fun _ => ?_
    rw [h]

/-! Marks of chips (R365, R367) -/

theorem chipMark_setMark {b v : Nat} (hv : v = 1 ∨ v = 2) : chipMark (setMark b v s) b = v := by
  have hbyte : chipByte (setMark b v s) b = chipByte s b % 32 + 32 * v := tget_tset_self _ _ _ (by omega) _
  rw [chipMark, hbyte, bitsOf]
  omega

theorem chipMark_congr {t : State} (h : t.chips = s.chips) (b : Nat) : chipMark t b = chipMark s b := by
  rw [chipMark, chipByte, h]; rfl

theorem chipLost_chipGone {b r : Nat} (hb : b ≠ s.chips.chipId) (hl : chipLost s b = false) : chipLost (chipGone b r s) b = true := by
  have hcond : ¬ (b = s.chips.chipId ∨ chipLost s b = true) := by rw [hl]; simpa using hb
  rw [chipGone, if_neg hcond, chipLost, chipMark_congr ((scRaise_chips ..).trans (bumpObj_chips ..)), chipMark_setMark (.inr rfl)]
  rfl

theorem chipMark_chipReturn {b : Nat} (h : chipLost s b = true) : chipMark (chipReturn b s) b = 1 := by
  have hm : chipMark s b = 2 := of_decide_eq_true h
  rw [chipReturn, if_neg (by rw [hm]; decide), h, if_pos rfl, chipMark_congr (scRaise_chips ..), chipMark_setMark (.inl rfl)]

end

/-- Settles O43: each effect is read off by its cases; the STATE clauses by whether the peer agrees with the role. -/
theorem portsTrainServeAndFail : Obligations.PortsTrainServeAndFail := by
  refine ⟨?_, ?_, ?_, ?_, ?_, ?_, ?_, ?_, ?_, ?_, ?_, ?_, ?_, ?_⟩
  · rintro n t s hn hp hs hb hst rfl
    exact (onUnit_okPort hn _).trans (congrArg Host.Outcome.next (trainAttemptEffect_of_ready hp hs hb hst))
  · rintro n k fx fr s hn hst hl rfl
    have hgo : ¬ ((portAt s n).state ≠ 2 ∨ (portAt s n).tx.lanes ≠ []) := by rw [hst, hl]; decide
    refine ⟨fun hk => ?_, fun hk => ?_⟩ <;> refine (onUnit_okPort hn _).trans (congrArg Host.Outcome.next ?_)
    · exact (if_neg hgo).trans (if_pos hk)
    · exact (if_neg hgo).trans (if_neg (by omega))
  · rintro n i v p s hn hh hr rfl hp
    have hrole : p.role = 2 := by rw [hp]; exact hr
    have hat (q : Port) (hq : q.role = 2) (t : State) : portAt (portPut t n q) n = q := portAt_put _ _ _ (ne_default_of_role hq (by decide))
    have hp₁ := hat p hrole s
    have hne : p.role ≠ 1 := by rw [hrole]; decide
    have hstay : peerIncarnation n (portPut s n p) = portPut s n p := peerIncarnation_of_switch (by rw [hp₁]; exact hne)
    refine ⟨fun hpart => ?_, fun h₀ h₁ ha hpl => ?_, fun h₀ h₁ hun hst => ?_, fun h₀ h₁ hun hst => ?_⟩ <;>
      refine (sbState_of_heard hn hh hp).trans ?_
    · rw [judgeState_of_partial (by rw [hp₁]; exact hpart), hstay]
    · have hfit := judgeState_of_fit_plane (s := portPut s n p) (n := n) (by rwa [hp₁]) (by rwa [hp₁]) (by rwa [hp₁]) (by rw [hp₁]; exact ha) hpl
      rw [hp₁] at hfit
      rw [hfit]
      split
      · rw [hstay]
      · rw [peerIncarnation_of_switch]
        rw [portAt_scRaise, hat { p with state := trainedState p } hrole]
        exact hne
    · rw [judgeState_of_unfit (by rwa [hp₁]) (by rwa [hp₁]) (by rw [hp₁]; exact hun), hp₁, if_neg hst]
    · rw [judgeState_of_unfit (by rwa [hp₁]) (by rwa [hp₁]) (by rw [hp₁]; exact hun), hp₁, if_pos hst, hstay]
  · rintro n b v p s hn hh hr hv hp h₀ h₁ h₂ ha hi rfl hl
    have hrole : p.role = 1 := by rw [hp]; exact hr
    have hat (q : Port) (hq : q.role = 1) (t : State) : portAt (portPut t n q) n = q := portAt_put _ _ _ (ne_default_of_role hq (by decide))
    have hp₁ := hat p hrole s
    refine (sbState_of_heard (q := p) hn hh (by rw [hv]; exact hp)).trans ?_
    have hfit := judgeState_of_fit_board (s := portPut s n p) (n := n) (by rwa [hp₁]) (by rwa [hp₁]) (by rwa [hp₁])
      (by rw [hp₁]; exact ha) (by rwa [hp₁]) (by rw [hp₁]; exact hl)
    rw [hp₁] at hfit
    rw [hfit, peerIncarnation_of_unseen]
    · rfl
    · rw [portAt_chipReturn, portAt_scRaise, hat { p with state := trainedState p } hrole]
      exact h₂
  · rintro n p s hn rfl hu hr ht
    exact lossOfHeartbeat_of_switch hn hu hr ht
  · exact fun _ _ _ => rfl
  · exact fun _ _ => rfl
  · exact fun n s hn hu => (onUnit_okPort hn _).trans (congrArg Host.Outcome.next (if_pos (by rw [hu]; rfl)))
  · rintro n r b p s hn rfl hh hb hl
    exact (onUnit_okPort hn _).trans (congrArg Host.Outcome.next (goingDownEffect_of_sender hh hb hl))
  · exact fun p s => ⟨fun h hc => (if_pos h).trans (if_neg hc), fun h hr => (if_neg (by rw [h]; exact Bool.false_ne_true)).trans (if_pos hr)⟩
  · exact fun n r s hn h => (onUnit_okPort hn _).trans (congrArg Host.Outcome.next (goingDownEffect_of_none h))
  · rintro n v p s hn rfl hu hr hp
    refine ⟨fun h₁ => ?_, fun h₁ h₂ => ?_, fun h₁ h₂ => ?_⟩ <;>
      refine (onUnit_okPort hn _).trans (congrArg Host.Outcome.next ((chipEvtEffect_of_up hu hr hp).trans ?_))
    · exact if_pos h₁
    · exact (if_neg (by rw [h₁]; exact Bool.false_ne_true)).trans (if_pos h₂)
    · exact (if_neg (by rw [h₁]; exact Bool.false_ne_true)).trans (if_neg (by rw [h₂]; exact Bool.false_ne_true))
  · exact fun _ _ _ => chipLost_chipGone
  · exact fun _ _ => chipMark_chipReturn

end Sys2Proof.Machine
end

section
/-! SUPPORT. An access to one line at its home when nothing is open there (R303, log 148), and a run of bytes that one line holds. -/
set_option Elab.async false

namespace Sys2Proof.Machine

open Sys2Proof

section
variable {s t u : State} {who : Requester} {part : Option Nat} {ln off n : Nat} {x : LlcLine} {l : List Byte}

/-! An access that nothing is ahead of -/

theorem drainLine_of_quiet {unit : Nat} {read : Bool} (hs : lineShut s ln = false) (hc : lineCrossed s unit read ln = false) (f : Nat) :
    drainLine unit read ln f s = s := by
  cases f with
  | zero => rfl
  | succ f => rw [drainLine, hs, hc]; rfl

theorem settled_of_quiet {read : Bool} (hs : lineShut s ln = false) (hc : lineCrossed s (unitOf who) read ln = false) :
    settled who read ln s = s := by
  rw [settled, hs, if_neg Bool.false_ne_true, drainLine_of_quiet hs hc]

theorem atHome_of_quiet {α : Type} {read : Bool} {a : α} {f : State → Option Nat × α × State} (hs : lineShut s ln = false)
    (hc : lineCrossed s (unitOf who) read ln = false) : atHome who read ln a f s = f s := by
  rw [atHome, settled_of_quiet hs hc, hs]; rfl

theorem putHome_of_quiet {f : State → Option Nat × State} (hs : lineShut s ln = false) (hc : lineCrossed s (unitOf who) false ln = false) :
    putHome who ln f s = f s := by
  rw [putHome, settled_of_quiet hs hc, hs]; rfl

theorem refuseCause_of_room {read : Bool} (h : reqWaits s who part read ln = false) : refuseCause s part ln = none := by
  simp only [reqWaits, Bool.or_eq_false_iff] at h
  obtain ⟨⟨⟨⟨hc, -⟩, -⟩, -⟩, -⟩ := h
  rw [lineCause] at hc
  cases hr : refuseCause s part ln with
  | none => rfl
  | some c => rw [hr] at hc; cases hc

theorem lineShut_of_room {read : Bool} (h : reqWaits s who part read ln = false) : lineShut s ln = false := by
  have hr := refuseCause_of_room h
  by_contra hs
  rw [refuseCause, if_pos (by simpa using hs)] at hr
  cases hr

theorem lineCrossed_of_room {read : Bool} (h : reqWaits s who part read ln = false) : lineCrossed s (unitOf who) read ln = false := by
  simp only [reqWaits, Bool.or_eq_false_iff] at h
  exact h.1.1.2

/-! Lines that no agent holds -/

theorem ownerLine_of_noEntry (h : entAt s ln = none) : ownerLine s (entNow s ln) ln = none := by rw [entNow, h]; rfl

/-- A Look of a line that the home slice holds, and no agent. -/
theorem lookNow_of_slice {unit : Nat} (he : entAt s ln = none) (hx : aget s.mem.llc ln = some x) (hp : x.poison = false) :
    lookNow unit part ln s = (none, (x.data, false), llcTouch (lineHome ln) (lineSet ln) x.way s) := by
  rw [lookNow, ownerLine_of_noEntry he, homeRead, hx]
  simp only [hp]
  rfl

/-! Units of an XD -/

theorem unitOf_port (h : who.kind = 4) : unitOf who = 62 ∨ unitOf who = 63 := by
  have hu : unitOf who = if who.num < 12 then 62 else 63 := by rw [unitOf, h]; rfl
  rw [hu]
  split
  · exact .inl rfl
  · exact .inr rfl

theorem lineHit_of_port {read : Bool} (h : who.kind = 4) : lineHit s (unitOf who) read ln = false := by
  obtain h | h := unitOf_port h <;> simp [lineHit, h]

theorem lineRead_of_port {fill : Nat} (h : who.kind = 4) : lineRead who part fill ln s = lookLine who part ln s := by
  rw [lineRead, lineHit_of_port h, h]
  rfl

theorem lineWrite_of_port {hint : Nat × Nat} {mask d : LineData} (h : who.kind = 4) :
    lineWrite who part hint ln mask d s = putHome who ln (putNow part hint.1 hint.2 ln mask d) s := by
  rw [lineWrite, lineHit_of_port h, h]
  rfl

/-! A run of bytes within one line -/

theorem lineStarts_of_one (h₀ : 0 < n) (h : off % 128 + n ≤ 128) : lineStarts off n = [off] := by
  have hline : lineOf (off + n - 1) = lineOf off := by unfold lineOf; omega
  have hfirst : max off (128 * lineOf off) = off := by unfold lineOf; omega
  have hn : n ≠ 0 := by omega
  simp [lineStarts, hline, hn, upto, hfirst]

theorem lineSpans_of_one (h₀ : 0 < n) (h : off % 128 + n ≤ 128) : lineSpans off n = [(off, n)] := by
  have hlast : min (off + n) (128 * (lineOf off + 1)) - off = n := by unfold lineOf; omega
  rw [lineSpans, lineStarts_of_one h₀ h, List.map_singleton, hlast]

theorem cutLines_of_one (h₀ : l ≠ []) (h : off % 128 + l.length ≤ 128) : cutLines l.length off l = [(off, l)] := by
  obtain ⟨b, r, rfl⟩ := List.exists_cons_of_ne_nil h₀
  have htake : (b :: r).take (128 - off % 128) = b :: r := List.take_of_length_le (by omega)
  have hdrop : (b :: r).drop (128 - off % 128) = [] := List.drop_of_length_le (by omega)
  rw [List.length_cons, cutLines, if_neg h₀, htake, hdrop]
  cases r.length with
  | zero => rfl
  | succ k => rw [cutLines, if_pos rfl]

/-- An offset that a remote access may name lies in HBM of this package, within reach (R257). -/
theorem local_of_offset {w : Bool} (h₀ : 0 < n) (h : off % 128 + n ≤ 128) (he : offsetError s part w off n = none) :
    accessError s part w off = none ∧ localAddr s off = some off ∧ inWindow off = false ∧ rangeError s part w off n = none := by
  rw [offsetError] at he
  split at he
  · cases he
  · next hthere =>
    have hthere : hbmThere s off = true := by simpa [lineStarts_of_one h₀ h] using hthere
    have hlow : off < 6 * tileSize := by simp only [hbmThere, Bool.and_eq_true, decide_eq_true_eq] at hthere; exact hthere.1.1
    have htarget : target s off = .hbm (tileOf off) := by rw [target, if_pos hlow, if_pos hthere]
    have hacc : accessError s part w off = none := by simpa [rangeError, lineStarts_of_one h₀ h] using he
    refine ⟨hacc, by rw [localAddr, htarget], ?_, he⟩
    rw [inWindow, decide_eq_false (by unfold tileSize at hlow; omega), Bool.false_and]

/-- What one line's piece answers, a page's read answers. -/
theorem pageRead_of_one {fill : Nat} (h : pieceRead who part fill false off n s = (none, l, t)) :
    pageRead who part fill false [(off, n)] s = (.ok l, t) := by
  simp only [pageRead, h]
  exact congrArg (fun m => ((Except.ok m : Except (Nat × Nat) (List Byte)), t)) (List.append_nil l)

end

end Sys2Proof.Machine
end

section
/-! PROOFS. Packets that a port brings (R333, R345 to R348, R353 to R356). -/
set_option Elab.async false

namespace Sys2Proof.Machine

open Sys2Proof

section
variable {n c pa tag : Nat} {h : BitVec 256} {s t u : State} {l d : List Byte} {p : Pend} {fl : List (Nat × Bool)}

/-! Reads and writes served at the target -/

theorem serveRead_of_error {who : Requester} {part : Option Nat} {off k : Nat} (he : offsetError s part false off k = some (c, pa)) :
    serveRead who part off k s = (c, [], memErr c pa who s) := by rw [serveRead, he]

theorem serveRead_of_bytes {who : Requester} {part : Option Nat} {off k : Nat} (he : offsetError s part false off k = none)
    (hr : pageRead who part 0 false (lineSpans off k) s = (.ok l, t)) : serveRead who part off k s = (0, l, t) := by
  rw [serveRead, he]
  dsimp only
  rw [hr]

/-- A read that one line of the home slice answers (R303). -/
theorem serveRead_of_slice {who : Requester} {part : Option Nat} {off k : Nat} {x : LlcLine} (hk : who.kind = 4) (h₀ : 0 < k)
    (h₁ : off % 128 + k ≤ 128) (he : offsetError s part false off k = none) (hs : lineShut s (lineOf off) = false)
    (hc : lineCrossed s (unitOf who) true (lineOf off) = false) (hn : entAt s (lineOf off) = none)
    (hx : aget s.mem.llc (lineOf off) = some x) (hp : x.poison = false) :
    serveRead who part off k s =
      (0, lineCut x.data (off % 128) k, llcTouch (lineHome (lineOf off)) (lineSet (lineOf off)) x.way s) := by
  obtain ⟨hacc, hlocal, hwin, -⟩ := local_of_offset h₀ h₁ he
  have hline : lineRead who part 0 (lineOf off) s =
      (none, (x.data, false), llcTouch (lineHome (lineOf off)) (lineSet (lineOf off)) x.way s) := by
    rw [lineRead_of_port hk, lookLine, atHome_of_quiet hs hc, lookNow_of_slice hn hx hp]
  refine serveRead_of_bytes he ?_
  rw [lineSpans_of_one h₀ h₁]
  refine pageRead_of_one ?_
  simp only [pieceRead, hacc, hlocal, localRead, hwin, spanRead, hline, Bool.false_eq_true, if_false]

/-- A write that one line takes (R312, R346). -/
theorem serveWrite_of_line {who : Requester} {part : Option Nat} {hint : Nat × Nat} {off : Nat} {half : Bool} (hk : who.kind = 4)
    (he : offsetError s part true off l.length = none) (h₀ : l ≠ []) (h₁ : off % 128 + l.length ≤ 128)
    (hs : lineShut s (lineOf off) = false) (hc : lineCrossed s (unitOf who) false (lineOf off) = false)
    (hp : putNow part hint.1 hint.2 (lineOf off) (runMask (off % 128) half l) (runLine (off % 128) l) s = (none, t)) :
    serveWrite who part hint off half l s = (0, t) := by
  have hspan : spanWrite who part hint off half l s = (none, t) := by
    rw [spanWrite, lineWrite_of_port hk, putHome_of_quiet hs hc, hp]
  rw [serveWrite, he]
  dsimp only
  rw [cutLines_of_one h₀ h₁]
  simp only [servePieces, List.isEmpty_nil, Bool.and_true, hspan, logged]

/-! Packets that wait -/

theorem arrives_type {k : Nat} (ha : arrives s n h k = true) : hType h = k := by
  simp only [arrives, Bool.and_eq_true, decide_eq_true_eq] at ha
  exact ha.1.1.2

theorem packetWaits_of_error {b : Bool} (hb : b = (decide (hType h = 1) || decide (hType h = 6)))
    (he : (offsetError s (portPart s n) (!b) (hOff h) (hLen h)).isNone = false) : packetWaits s n h = false := by
  subst hb
  rw [packetWaits, he, Bool.and_false, Bool.false_and]

/-- A read packet that does not wait finds nothing ahead of it at its line. -/
theorem quiet_of_packet (ha : arrives s n h 1 = true) (h₀ : 0 < hLen h) (h₁ : hOff h % 128 + hLen h ≤ 128)
    (he : offsetError s (portPart s n) false (hOff h) (hLen h) = none) (hw : packetWaits s n h = false) :
    lineShut s (lineOf (hOff h)) = false ∧ lineCrossed s (unitOf (portReq n)) true (lineOf (hOff h)) = false := by
  obtain ⟨-, hlocal, hwin, -⟩ := local_of_offset h₀ h₁ he
  have hroom : reqWaits s (portReq n) (portPart s n) true (lineOf (hOff h)) = false := by
    simpa [packetWaits, arrives_type ha, ha, he, rangeWaits, lineStarts_of_one h₀ h₁, addrWaits, hlocal, hwin, lineWaits,
      lineHit_of_port (who := portReq n) rfl] using hw
  exact ⟨lineShut_of_room hroom, lineCrossed_of_room hroom⟩

/-! What each packet does -/

theorem winRdEffect_of_served (ha : arrives s n h 1 = true) (hw : packetWaits s n h = false) {r : Nat × List Byte × State}
    (hr : serveRead (portReq n) (portPart s n) (hOff h) (hLen h) s = r) : winRdEffect n h s = answer h 3 r.1 r.2.1 r.2.2 := by
  rw [winRdEffect, ha, hw, hr]
  rfl

theorem getEffect_of_served (ha : arrives s n h 6 = true) (hw : packetWaits s n h = false) {r : Nat × List Byte × State}
    (hr : serveRead (portReq n) (portPart s n) (hOff h) (hLen h) s = r) : getEffect n h s = answer h 7 r.1 r.2.1 r.2.2 := by
  rw [getEffect, ha, hw, hr]
  rfl

theorem winWrEffect_of_served (ha : arrives s n h 2 = true) (hd : d.length = hLen h) (hw : packetWaits s n h = false)
    (hr : serveWrite (portReq n) (portPart s n) (0, 0) (hOff h) (h.getLsbD 144) d s = (c, t)) : winWrEffect n h d s = answer h 3 c [] t := by
  rw [winWrEffect, ha, hw, hr, decide_eq_false (not_not.2 hd)]
  rfl

theorem putEffect_of_served (ha : arrives s n h 4 = true) (hd : d.length = hLen h) (hw : packetWaits s n h = false)
    (hr : serveWrite (portReq n) (portPart s n) (hfield h 113 112, hfield h 119 114) (hOff h) false d s = (c, t)) :
    putEffect n h d s =
      if c = 0 ∧ h.getLsbD 143 = true then
        answer h 5 (if (remotePost (some n) (hfield h 140 128) (BitVec.ofNat 32 (hfield h 191 160)) t).1 then 0 else 0x10) []
          (remotePost (some n) (hfield h 140 128) (BitVec.ofNat 32 (hfield h 191 160)) t).2
      else answer h 5 c [] t := by
  rw [putEffect, ha, hw, hr, decide_eq_false (not_not.2 hd)]
  rfl

theorem remotePost_of_below {port : Option Nat} {b : Nat} {op : W32} (hb : b < oget s 0x2400 4) : remotePost port b op s = (false, s) :=
  if_neg fun h => absurd h.1 (by omega)

theorem winCplEffect_of_answered (ha : arrives s n h 3 = true) (hp : pendOf s (hTag h) = some p) :
    winCplEffect n h d s =
      if isRemote p then s
      else if hStatus h ≠ 0 then failWindow p 5 s
      else if p.kind = 6 ∨ p.kind = 7 then dropPend p.tag s
      else if p.kind = 4 ∨ p.kind = 5 then transferAnswer p 0 d s
      else if p.kind = 0 then
        emit (.readData p.pa (loadedValue p.rd p.len d)) (corePut (dropPend p.tag s) p.ac
          (landLoad p.rd (d.take p.len) { coreAt (dropPend p.tag s) p.ac with waits := none }))
      else corePut (dropPend p.tag s) p.ac { coreAt (dropPend p.tag s) p.ac with waits := none } := by
  rw [winCplEffect, ha, hp]
  rfl

theorem winCplEffect_of_kind (ha : arrives s n h 3 = true) (hp : pendOf s (hTag h) = some p) (hs : hStatus h = 0) (hk : p.kind ≠ 2 ∧ p.kind ≠ 3) :
    winCplEffect n h d s =
      if p.kind = 6 ∨ p.kind = 7 then dropPend p.tag s
      else if p.kind = 4 ∨ p.kind = 5 then transferAnswer p 0 d s
      else if p.kind = 0 then
        emit (.readData p.pa (loadedValue p.rd p.len d)) (corePut (dropPend p.tag s) p.ac
          (landLoad p.rd (d.take p.len) { coreAt (dropPend p.tag s) p.ac with waits := none }))
      else corePut (dropPend p.tag s) p.ac { coreAt (dropPend p.tag s) p.ac with waits := none } := by
  rw [winCplEffect_of_answered ha hp, isRemote, decide_eq_false hk.1, decide_eq_false hk.2, if_neg (by decide), if_neg (not_not.2 hs)]

theorem putAckEffect_of_answered (ha : arrives s n h 5 = true) (hp : pendOf s (hTag h) = some p) (hk : p.kind = 2) :
    putAckEffect n h s = pumpCmd p.rq p.cmd (settlePacket p (if hStatus h = 0 then s else rqNote p.rq p.cmd 4 (hStatus h) s)) := by
  rw [putAckEffect, ha, hp]
  refine (if_neg (not_not.2 hk)).trans ?_
  rw [ite_not]

theorem getDataEffect_of_taken {ctx : Nat} {k : RCmd} {pieces : List (Nat × Nat × Bool)} (ha : arrives s n h 7 = true)
    (hp : pendOf s (hTag h) = some p) (hk : p.kind = 3) (hs : hStatus h = 0) (hc : rqCmd s p.rq p.cmd = some k)
    (hctx : ctx = rqCtx (rqAt s p.rq)) (hl : rcLocalPieces ctx 2 (pageSpans p.va p.len) s = (some pieces, t))
    (hw : writeAll (portReq n) (some (ctxPart t ctx)) (rcHint k) pieces d t = (none, u)) :
    getDataEffect n h d s = pumpCmd p.rq p.cmd (settlePacket p u) := by
  subst hctx
  rw [getDataEffect, ha, hp]
  refine (if_neg (not_not.2 hk)).trans ?_
  simp only [hs, hc, hl, hw, ne_eq, not_true_eq_false, if_false]

theorem unreachableEffect_of_returned (hu : portUp s n = true) (hb : behindMarker s n = false) (ht : hType h = 10)
    (hd : hDest h = s.chips.chipId) (hf : hfield h 203 200 = 1 ∨ hfield h 203 200 = 2 ∨ hfield h 203 200 = 4 ∨ hfield h 203 200 = 6)
    (hp : pendOf s (hTag h) = some p) :
    unreachableEffect n h s = if isRemote p then rqNote p.rq p.cmd 2 0 (settlePacket p s) else failWindow p 1 s := by
  have hreq : [1, 2, 4, 6].contains (hfield h 203 200) = true := by simpa using hf
  rw [unreachableEffect, hu, hb, ht, if_neg (by decide), if_neg (not_not.2 hd), hreq, if_pos rfl, unreachTag, hp]

end

/-- Settles O44: a packet is served by the read or the write it asks for, an answer by the request whose tag it bears. -/
theorem packetsAreServedAndAnswered : Obligations.PacketsAreServedAndAnswered := by
  have hexec {n : Nat} {f : State → State} {fl : List (Nat × Bool)} {s t : State} (hn : n < 24) (hf : f (setFlaws fl s) = t) :
      onUnit (okPort n) (withFlaws fl f s) = .next (setFlaws [] t) := by rw [withFlaws_eq hf, onUnit_okPort hn]
  refine ⟨?_, ?_, ?_, ?_, ?_, ?_, ?_, ?_, ?_, ?_, ?_, ?_, ?_⟩
  · intro n h d fl s hn
    have hstay {f : State → State} (hf : f (setFlaws fl s) = setFlaws fl s) : onUnit (okPort n) (withFlaws fl f s) = .next (setFlaws [] s) :=
      (hexec hn hf).trans rfl
    refine ⟨fun ha => hstay (if_pos ?_), fun ha => hstay (if_pos ?_), fun ha => (onUnit_okPort hn _).trans (congrArg _ (if_pos ?_)),
      fun ha => hstay (if_pos ?_), fun ha => (onUnit_okPort hn _).trans (congrArg _ (if_pos ?_)), fun ha => hstay (if_pos ?_),
      fun ha => hstay (if_pos ?_)⟩
    · exact congrArg not ha
    · exact congrArg (fun b => !b || decide (d.length ≠ hLen h)) ha
    · exact congrArg not ha
    · exact congrArg (fun b => !b || decide (d.length ≠ hLen h)) ha
    · exact congrArg not ha
    · exact congrArg not ha
    · exact congrArg not ha
  · intro n h l fl t s hn he hw hr
    have hserve := serveRead_of_bytes (s := setFlaws fl s) (part := portPart s n) (off := hOff h) (k := hLen h) he hr
    exact ⟨fun ha => hexec hn (winRdEffect_of_served (s := setFlaws fl s) ha hw hserve),
      fun ha => hexec hn (getEffect_of_served (s := setFlaws fl s) ha hw hserve)⟩
  · rintro n ln h x fl s hn rfl he h₀ h₁ hent hw hx hp ha
    obtain ⟨hs, hc⟩ := quiet_of_packet ha h₀ h₁ he hw
    exact hexec hn (winRdEffect_of_served (s := setFlaws fl s) ha hw (serveRead_of_slice (s := setFlaws fl s) rfl h₀ h₁ he hs hc hent hx hp))
  · intro n c pa h fl s hn he
    have hserve := serveRead_of_error (s := setFlaws fl s) (who := portReq n) (part := portPart s n) (off := hOff h) (k := hLen h) he
    have hw {k : Nat} (hk : k = 1 ∨ k = 6) (ha : arrives s n h k = true) : packetWaits s n h = false := by
      have hread : true = (decide (hType h = 1) || decide (hType h = 6)) := by
        rw [arrives_type ha]
        obtain rfl | rfl := hk <;> rfl
      exact packetWaits_of_error hread (by rw [Bool.not_true, he]; rfl)
    exact ⟨fun ha => hexec hn (winRdEffect_of_served (s := setFlaws fl s) ha (hw (.inl rfl) ha) hserve),
      fun ha => hexec hn (getEffect_of_served (s := setFlaws fl s) ha (hw (.inr rfl) ha) hserve)⟩
  · intro n c h d fl t s hn hd hw
    refine ⟨fun ha hr => hexec hn (winWrEffect_of_served (s := setFlaws fl s) ha hd hw hr), fun ha hr hc => ?_, fun ha hr hb hlow => ?_⟩ <;>
      refine hexec hn ((putEffect_of_served (s := setFlaws fl s) ha hd hw hr).trans ?_)
    · refine if_neg fun h => ?_
      obtain hc | hc := hc
      · exact hc h.1
      · rw [hc] at h
        exact Bool.false_ne_true h.2
    · rw [if_pos ⟨rfl, hb⟩, remotePost_of_below hlow]
      rfl
  · intro n h d fl s hn hw hd
    refine ⟨fun ha => hexec hn ?_, fun ha => hexec hn ?_, fun ha => hexec hn ?_, fun ha => hexec hn ?_⟩
    · exact (if_neg (by rw [show arrives (setFlaws fl s) n h 1 = true from ha]; decide)).trans (if_pos hw)
    · exact (if_neg (by rw [show arrives (setFlaws fl s) n h 2 = true from ha, decide_eq_false (not_not.2 hd)]; decide)).trans (if_pos hw)
    · exact (if_neg (by rw [show arrives (setFlaws fl s) n h 4 = true from ha, decide_eq_false (not_not.2 hd)]; decide)).trans (if_pos hw)
    · exact (if_neg (by rw [show arrives (setFlaws fl s) n h 6 = true from ha]; decide)).trans (if_pos hw)
  · exact fun who part hint off half l t s hk he h₀ h₁ hs hc hp => serveWrite_of_line hk he h₀ h₁ hs hc hp
  · rintro n h d p t s hn ha hp hs rfl
    refine ⟨fun hk => ?_, fun hk => ?_, fun hk => ?_, fun hk => ?_⟩ <;>
      refine (onUnit_okPort hn _).trans (congrArg _ ((winCplEffect_of_kind ha hp hs (by omega)).trans ?_))
    · rw [hk]; rfl
    · rw [hk]; rfl
    · rw [if_neg (by omega), if_pos hk]; rfl
    · exact if_pos hk
  · intro rd l c hrd
    rw [landLoad, Nat.div_eq_of_lt hrd]
    rfl
  · intro n h p d s hn ha hp hs hk
    refine (onUnit_okPort hn _).trans (congrArg _ ((winCplEffect_of_answered ha hp).trans ?_))
    rw [hk, if_neg Bool.false_ne_true, if_pos hs]
  · exact fun n h p s hn ha hp hk => (onUnit_okPort hn _).trans (congrArg _ (putAckEffect_of_answered ha hp hk))
  · exact fun n ctx h d fl p c l t u s hn ha hp hk hs hc hctx hl hw =>
      hexec hn (getDataEffect_of_taken (s := setFlaws fl s) ha hp hk hs hc hctx hl hw)
  · exact fun n h p s hn hu hb ht hd hf hp => (onUnit_okPort hn _).trans (congrArg _ (unreachableEffect_of_returned hu hb ht hd hf hp))

end Sys2Proof.Machine
end

section
/-! PROOFS. Accesses to the board-shared window (R345 to R348) and Relay packets (R358 to R360). -/
set_option Elab.async false

namespace Sys2Proof.Machine

open Sys2Proof

section
variable {ac pa size off k n src g : Nat} {v : W64} {s t u : State} {part : Option Nat} {h : BitVec 256} {d : List Byte}

theorem onUnit_okAc (h : ac < 128) (t : State) : onUnit (okAc ac) t = .next t := onUnit_of_true (decide_eq_true h) t

/-! The window -/

theorem sizeOk_iff : sizeOk pa size = true ↔ (size = 1 ∨ size = 2 ∨ size = 4 ∨ size = 8) ∧ pa % size = 0 := by
  simp [sizeOk, or_assoc]

theorem exec_boardWindowAccess_of_idle {w : Bool} {fl : List (Nat × Bool)} (hac : ac < 128)
    (h : (acLive s ac && inWindow pa && sizeOk pa size) = false) : exec (.boardWindowAccess ac w pa size v fl) s = .next s := by
  refine (onUnit_okAc hac _).trans (congrArg _ ?_)
  rw [h, onlyIf_false]

theorem exec_boardWindowAccess_of_waiting {w : Bool} {fl : List (Nat × Bool)} (hac : ac < 128)
    (h : (acLive s ac && inWindow pa && sizeOk pa size) = true) (hw : rangeWaits s (acReq ac) (partOf s (acReq ac)) (!w) pa size = true) :
    exec (.boardWindowAccess ac w pa size v fl) s = .next (nacked (acReq ac) (partOf s (acReq ac)) (!w) pa size s) := by
  refine (onUnit_okAc hac _).trans (congrArg _ ?_)
  rw [h, onlyIf_true, whenFree, if_pos hw]

theorem exec_boardWindowAccess_of_free {w : Bool} {fl : List (Nat × Bool)} (hac : ac < 128)
    (h : (acLive s ac && inWindow pa && sizeOk pa size) = true) (hw : rangeWaits s (acReq ac) (partOf s (acReq ac)) (!w) pa size = false)
    (ht : windowAccess ac w pa size 0 v (setFlaws fl s) = t) :
    exec (.boardWindowAccess ac w pa size v fl) s = .next (setFlaws [] t) := by
  refine (onUnit_okAc hac _).trans (congrArg _ ?_)
  rw [h, onlyIf_true, whenFree, hw, withFlaws_eq ht]
  rfl

/-- What an access to the own slot waits for, its line's home is asked (R348). -/
theorem ownSlot_room {read : Bool} {who : Requester} (hwin : inWindow pa = true) (hsz : sizeOk pa size = true)
    (ht : target s pa = .board (ownSlot s) off) (hw : rangeWaits s who part read pa size = false) :
    reqWaits s who part read (lineOf off) = false := by
  obtain ⟨hsize, hal⟩ := sizeOk_iff.1 hsz
  simpa [rangeWaits, lineStarts_of_aligned hsize hal, addrWaits, localAddr, ht, hwin] using hw

/-- A store in the own slot is a PutPlace with hint 0 at the home. -/
theorem windowAccess_own_store (ht : target s pa = .board (ownSlot s) off) (hp : part = partOf s (acReq ac)) (he : rangeError s part true pa size = none)
    (hroom : reqWaits s (acReq ac) part false (lineOf off) = false)
    (hput : putNow part 0 0 (lineOf off) (runMask (off % 128) false (leBytes size v.toNat)) (runLine (off % 128) (leBytes size v.toNat)) s = (none, u)) :
    windowAccess ac true pa size 0 v s = u := by
  subst hp
  rw [windowAccess, ht]
  dsimp only
  rw [he]
  dsimp only
  rw [if_pos rfl, if_pos rfl, putLine, putHome_of_quiet (lineShut_of_room hroom) (lineCrossed_of_room hroom), hput]

/-- A load from the own slot is a Look at the home. -/
theorem windowAccess_own_load {x : LlcLine} (ht : target s pa = .board (ownSlot s) off) (hp : part = partOf s (acReq ac))
    (he : rangeError s part false pa size = none) (hroom : reqWaits s (acReq ac) part true (lineOf off) = false) (hent : entAt s (lineOf off) = none)
    (hx : aget s.mem.llc (lineOf off) = some x) (hpoison : x.poison = false)
    (hu : u = llcTouch (lineHome (lineOf off)) (lineSet (lineOf off)) x.way s) :
    windowAccess ac false pa size 0 v s =
      emit (.readData pa (loadedValue 0 size (lineCut x.data (off % 128) size))) (corePut u ac (coreAt u ac)) := by
  subst hp
  subst hu
  rw [windowAccess, ht]
  dsimp only
  rw [he]
  dsimp only
  rw [if_pos rfl, if_neg Bool.false_ne_true, lookLine, atHome_of_quiet (lineShut_of_room hroom) (lineCrossed_of_room hroom),
    lookNow_of_slice hent hx hpoison]
  rfl

/-- An access to another slot is sent, and the core waits. -/
theorem windowAccess_other {w : Bool} (ht : target s pa = .board k off) (hk : k ≠ ownSlot s) (hp : part = partOf s (acReq ac))
    (he : rangeError s part w pa size = none) :
    windowAccess ac w pa size 0 v s =
      (let q := if w then request (windowPend s (b2n w) k off size pa ac 0) (fun tag => winWrHdr s (chipOfSlot s k) off size tag false) (leBytes size v.toNat) s
        else request (windowPend s (b2n w) k off size pa ac 0) (winRdHdr s (chipOfSlot s k) off size) [] s
       corePut q.2 ac { coreAt q.2 ac with waits := some q.1 }) := by
  subst hp
  rw [windowAccess, ht]
  dsimp only
  rw [he]
  exact if_neg hk

/-! Requests and Relay packets -/

theorem request_of_route {p : Pend} {hdr : Nat → BitVec 256} (hr : portFor s p.chip (offHash p.off) = some n) (hc : clashes s.chips.pend p n = false) :
    request p hdr d s =
      (freeTag s s.chips.pend.length s.chips.tag, pushPacket n (hdr (freeTag s s.chips.pend.length s.chips.tag)) d
        { s with chips := { s.chips with
          tag := (freeTag s s.chips.pend.length s.chips.tag + 1) % 65536
          pend := s.chips.pend ++ [{ p with tag := freeTag s s.chips.pend.length s.chips.tag, port := n }] } }) := by
  rw [request]
  dsimp only
  rw [hr]
  dsimp only
  rw [hc]
  rfl

theorem relayUpEffect_of_unserved (ha : arrives s n h 8 = true) (hs : relayServes s (hOff h % 1024) = false) :
    relayUpEffect n h d s = shadowGroup n (hOff h % 1024) s (relayRefuse (hOff h % 1024) (hSrc h) s) := by
  rw [relayUpEffect, ha]
  exact congrArg (shadowGroup n _ s) (if_pos (by rw [hs]; rfl))

theorem relayDownEffect_of_unserved (ha : arrives s n h 9 = true) (hst : hStatus h ≠ 5) (hs : relayServes s (hOff h % 1024) = false) :
    relayDownEffect n h d s = shadowGroup n (hOff h % 1024) s (relayRefuse (hOff h % 1024) (hSrc h) s) := by
  rw [relayDownEffect, ha]
  exact congrArg (shadowGroup n _ s) ((if_neg hst).trans (if_pos (by rw [hs]; rfl)))

theorem relayDownEffect_of_abort (ha : arrives s n h 9 = true) (hst : hStatus h = 5) :
    relayDownEffect n h d s = shadowGroup n (hOff h % 1024) s (groupAborted (hOff h % 1024) s) := by
  rw [relayDownEffect, ha]
  exact congrArg (shadowGroup n _ s) (if_pos hst)

theorem relayUpEffect_of_node (ha : arrives s n h 8 = true) (hg : g = hOff h % 1024) (hs : relayServes s g = true) (h2 : gState (groupAt s g) ≠ 2)
    (hr : (groupAt s g).ground ≤ roundOf (groupAt s g) h) (hk : gKind (groupAt s g) ≠ 4)
    (hn : nodeArrives g (roundOf (groupAt s g) h) (hLevel h) (arrivingNode s g (hSrc h) (hLevel h)) d s = some u) :
    relayUpEffect n h d s = shadowGroup n g s u := by
  subst hg
  rw [relayUpEffect, ha]
  refine congrArg (shadowGroup n _ s) ?_
  rw [hs, if_neg (by decide), if_neg (fun h => h.elim h2 (by omega)), if_neg (fun h => hk h.2), hn]

theorem relayDownEffect_of_node (ha : arrives s n h 9 = true) (hst : hStatus h ≠ 5) (hd : hDest h ≠ 0xFFF) (hg : g = hOff h % 1024)
    (hs : relayServes s g = true) (h2 : gState (groupAt s g) ≠ 2) (hr : (groupAt s g).ground ≤ roundOf (groupAt s g) h)
    (hn : nodeArrives g (roundOf (groupAt s g) h) (treeLevels (gN (groupAt s g))) 0 d s = some u) :
    relayDownEffect n h d s = shadowGroup n g s u := by
  subst hg
  rw [relayDownEffect, ha]
  refine congrArg (shadowGroup n _ s) ?_
  rw [if_neg hst, hs, if_neg (by decide), if_neg (fun h => h.elim h2 (by omega)), hn]
  exact if_neg fun h => hd h.1

theorem relayRefuse_of_served (hs : relayServes s n = true) (h2 : gState (groupAt s n) ≠ 2) :
    relayRefuse n src s = spreadAbort n (groupAt s n) (endRounds n 4 s) := by
  have hv : gValid (groupAt s n) = true := by
    simp only [relayServes, Bool.and_eq_true] at hs
    exact hs.1.2
  rw [relayRefuse, if_pos hs, hv, decide_eq_true h2]
  rfl

end

/-- Settles O45, by the slot that the access names and by what the group makes of the packet. -/
theorem windowAccessesAndRelayPackets : Obligations.WindowAccessesAndRelayPackets := by
  have hparts {a b c : Bool} (h : (a && b && c) = true) : b = true ∧ c = true := by
    simp only [Bool.and_eq_true] at h
    exact ⟨h.1.2, h.2⟩
  have hrelay {n : Nat} {t u : State} (hn : n < 24) (ht : t = u) : onUnit (okPort n) (settleAll t) = .next (settleAll u) := by
    rw [onUnit_okPort hn, ht]
  refine ⟨?_, ?_, ?_, ?_, ?_, ?_, ?_, ?_⟩
  · exact fun ac pa size w v fl s hac => ⟨exec_boardWindowAccess_of_idle hac, exec_boardWindowAccess_of_waiting hac⟩
  · rintro ac pa size off v fl l part x u s hac hok ht rfl rfl
    obtain ⟨hwin, hsz⟩ := hparts hok
    constructor
    · intro he hw hput
      have hroom := ownSlot_room hwin hsz ht hw
      exact exec_boardWindowAccess_of_free (w := true) hac hok hw (windowAccess_own_store (s := setFlaws fl s) ht rfl he hroom hput)
    · intro he hw hent hx hp hu
      have hroom := ownSlot_room hwin hsz ht hw
      refine (exec_boardWindowAccess_of_free (w := false) hac hok hw (windowAccess_own_load (s := setFlaws fl s) ht rfl he hroom hent hx hp rfl)).trans ?_
      subst hu
      rfl
  · intro ac pa size off k v fl p q s hac hok ht hk
    constructor <;> intro he hw hp hq <;> subst hp <;> subst hq
    · exact exec_boardWindowAccess_of_free (w := true) hac hok hw (windowAccess_other (s := setFlaws fl s) ht hk rfl he)
    · exact exec_boardWindowAccess_of_free (w := false) hac hok hw (windowAccess_other (s := setFlaws fl s) ht hk rfl he)
  · rintro p hdr d n tag t s rfl rfl hr hc
    exact request_of_route hr hc
  · rintro n h d g s hn rfl hs
    exact ⟨fun ha => hrelay hn (relayUpEffect_of_unserved ha hs), fun ha hst => hrelay hn (relayDownEffect_of_unserved ha hst hs)⟩
  · exact fun n src s hs h2 => relayRefuse_of_served hs h2
  · rintro n h d g s hn rfl ha hst
    exact hrelay hn (relayDownEffect_of_abort ha hst)
  · intro n h d g u s hn hg hs h2 hr
    exact ⟨fun ha hk hnode => hrelay hn (relayUpEffect_of_node ha hg hs h2 hr hk hnode),
      fun ha hst hd hnode => hrelay hn (relayDownEffect_of_node ha hst hd hg hs h2 hr hnode)⟩

end Sys2Proof.Machine
end

section
/-! PROOFS. Remote queues (R349 to R354, R357). -/
set_option Elab.async false

namespace Sys2Proof.Machine

open Sys2Proof

section
variable {n : Nat} {v : W64} {s t u : State} {r : RQueue} {l : List Byte} {c : RCmd} {fl : List (Nat × Bool)}

theorem onUnit_okRq (h : n < 256) (t : State) : onUnit (okRq n) t = .next t := onUnit_of_true (decide_eq_true h) t

theorem not_true_of_false {b : Bool} (h : b = false) : ¬ b = true := by rw [h]; exact Bool.false_ne_true

theorem rqEn_of_live (h : rqLive s n = true) : rqEn (rqAt s n) = true := by
  simp only [rqLive, Bool.and_eq_true] at h
  exact h.1

theorem ne_default_of_rqEn (h : rqEn r = true) : r ≠ {} := by
  rintro rfl
  exact absurd h (by decide)

/-! A queue that is not live takes nothing -/

theorem rqDoorbellEffect_of_dead (h : rqLive s n = false) : rqDoorbellEffect n v s = s := if_pos (by rw [h]; rfl)
theorem rqResumeEffect_of_dead (h : rqLive s n = false) : rqResumeEffect n s = s := if_neg (by rw [h]; exact Bool.false_ne_true)
theorem rqSkipEffect_of_dead (h : rqLive s n = false) : rqSkipEffect n s = s := if_neg (by rw [h]; exact Bool.false_ne_true)
theorem rqReadEffect_of_dead (h : rqLive s n = false) : rqReadEffect n s = s := if_pos (by rw [h]; rfl)
theorem rqStartEffect_of_dead (h : rqLive s n = false) : rqStartEffect n s = s := if_pos (by rw [h]; rfl)

/-! A live one -/

theorem rqDoorbellEffect_of_valid {p : W32} (hl : rqLive s n = true) (hp : p = v.truncate 32) (h₀ : fld 63 48 v = 0)
    (hg : fld 47 32 v = rqGen (rqAt s n) (p - 1)) (ht : (p - (rqAt s n).tail).toNat < 2 ^ 31)
    (hd : (p - (rqAt s n).done).toNat ≤ 2 ^ rqLog (rqAt s n)) : rqDoorbellEffect n v s = rqPut s n { rqAt s n with tail := p } := by
  subst hp
  refine (if_neg (by rw [hl]; decide)).trans (if_pos ?_)
  rw [decide_eq_true h₀, decide_eq_true hg, decide_eq_true ht, decide_eq_true hd]
  rfl

theorem rqDoorbellEffect_of_reserved (hl : rqLive s n = true) (h : fld 63 48 v ≠ 0) : rqDoorbellEffect n v s = parkRq n 2 (rqAt s n).read s := by
  refine (if_neg (by rw [hl]; decide)).trans (if_neg ?_)
  rw [decide_eq_false h]
  exact Bool.false_ne_true

theorem parked_of_status (hl : rqLive s n = true) (h₀ : (rqAt s n).status ≠ 0) (h₄ : (rqAt s n).status ≠ 4) :
    (rqLive s n && decide ((rqAt s n).status ≠ 0) && decide ((rqAt s n).status ≠ 4)) = true := by
  rw [hl, decide_eq_true h₀, decide_eq_true h₄]
  rfl

theorem rqResumeEffect_of_parked (hl : rqLive s n = true) (h₀ : (rqAt s n).status ≠ 0) (h₄ : (rqAt s n).status ≠ 4) :
    rqResumeEffect n s = rqPut s n { rqAt s n with status := 0, rereads := 0 } := if_pos (parked_of_status hl h₀ h₄)

/-- SKIP completes the command at the head, unread (R350). -/
theorem rqSkipEffect_of_parked (hl : rqLive s n = true) (h₀ : (rqAt s n).status ≠ 0) (h₄ : (rqAt s n).status ≠ 4) (hr : (rqAt s n).read ≠ (rqAt s n).tail) :
    rqSkipEffect n s = rqFinish n (rqAt s n).read (rqPut (rqPut s n { rqAt s n with status := 0, rereads := 0 }) n { rqAt s n with
      status := 0, rereads := 0, read := (rqAt s n).read + 1
      cmds := (rqAt s n).cmds ++ [{ idx := (rqAt s n).read, words := [], status := 1, detail := 0x11 }] }) := by
  have hq : rqAt (rqPut s n { rqAt s n with status := 0, rereads := 0 }) n = { rqAt s n with status := 0, rereads := 0 } :=
    rqAt_put _ _ _ (ne_default_of_rqEn (r := { rqAt s n with status := 0, rereads := 0 }) (rqEn_of_live hl))
  refine (if_pos (parked_of_status hl h₀ h₄)).trans ?_
  rw [if_neg hr, rqResumeEffect_of_parked hl h₀ h₄, hq]

theorem rqCfgSet_of_disabled (h : rqEn (rqAt s n) = false) :
    rqCfgSet n v s = if bit 0 v && ctxEnabled s (fld 29 16 (maskWrite 0xF3FFF0000 (rqAt s n).cfg v)) then
        rqPut s n { rqAt s n with
          cfg := setFld 0 0 1 (maskWrite 0xF3FFF0000 (rqAt s n).cfg v), tail := 0, read := 0, done := 0, doneAhead := [], cmds := []
          status := 0, rereads := 0 }
      else rqPut s n { rqAt s n with cfg := maskWrite 0xF3FFF0000 (rqAt s n).cfg v } := if_neg (not_true_of_false h)

/-- A descriptor that is read is accepted, read again or the queue parks, by its generation (R199, R200). -/
theorem rqReadEffect_of_read (hl : rqLive s n = true) (h₀ : (rqAt s n).status = 0) (hr : (rqAt s n).read ≠ (rqAt s n).tail)
    (hlen : (rqAt s n).cmds.length < 64) (hi : issuing s = true)
    (hw : rangeWaits s (subReq none) (some (ctxPart s (rqCtx (rqAt s n)))) true (rqAddr (rqAt s n) (rqAt s n).read) 64 = false)
    (hm : memRead (subReq none) (some (ctxPart s (rqCtx (rqAt s n)))) (rqAddr (rqAt s n) (rqAt s n).read) 64 s = (.ok l, u)) :
    rqReadEffect n s =
      if fld 15 0 ((wordsOf l 8).getD 0 0) = rqGen (rqAt s n) (rqAt s n).read then acceptCmd n (wordsOf l 8) u
      else if (rqAt s n).rereads < 8 then rqPut u n { rqAt s n with rereads := (rqAt s n).rereads + 1 }
      else parkRq n 1 (rqAt s n).read u := by
  have hgo : ¬ (!(rqLive s n) || !(issuing s) || decide ((rqAt s n).status ≠ 0) || decide ((rqAt s n).read = (rqAt s n).tail) ||
      decide (64 ≤ (rqAt s n).cmds.length)) = true := by
    rw [hl, hi, h₀, decide_eq_false hr, decide_eq_false (by omega : ¬ 64 ≤ _)]
    decide
  refine (if_neg hgo).trans ((if_neg (not_true_of_false hw)).trans ?_)
  rw [hm]

theorem rqStartEffect_of_next (hl : rqLive s n = true)
    (hnone : ∀ d ∈ (rqAt s n).cmds, ¬(d.started = true ∧ d.status = 0 ∧ d.sent < rcLen d ∧ d.packets = [])) (hc : nextStart (rqAt s n) = some c) :
    rqStartEffect n s = pumpCmd n c.idx (rqMod n c.idx (fun x => { x with started := true }) s) := by
  have hfind : ((rqAt s n).cmds.find? fun c => c.started && decide (c.status = 0) && decide (c.sent < rcLen c) && decide (c.packets = [])) = none := by
    refine List.find?_eq_none.2 fun d hd => ?_
    simp only [Bool.and_eq_true, decide_eq_true_eq]
    exact fun h => hnone d hd ⟨h.1.1.1, h.1.1.2, h.1.2, h.2⟩
  refine (if_neg (by rw [hl]; decide)).trans ?_
  rw [hfind]
  dsimp only
  rw [hc]

theorem rqCompleteEffect_of_ended (h : (rqAt s n).cmds.find? rqEnded = some c) : rqCompleteEffect n s = rqFinish n c.idx s := by
  rw [rqCompleteEffect, h]

theorem rqCompleteEffect_of_none (h : ∀ c ∈ (rqAt s n).cmds, rqEnded c = false) : rqCompleteEffect n s = s := by
  rw [rqCompleteEffect, List.find?_eq_none.2 fun c hc => not_true_of_false (h c hc)]

end

/-- Settles O46, one operation of a queue after the other. -/
theorem remoteQueuesRunTheirCommands : Obligations.RemoteQueuesRunTheirCommands := by
  have hexec {n : Nat} {s t : State} (hn : n < 256) (ht : t = s) : onUnit (okRq n) t = .next s := by rw [onUnit_okRq hn, ht]
  have hflaws {n : Nat} {fl : List (Nat × Bool)} {f : State → State} {s t : State} (hn : n < 256) (ht : f (setFlaws fl s) = t) :
      onUnit (okRq n) (withFlaws fl f s) = .next (setFlaws [] t) := by rw [onUnit_okRq hn, withFlaws_eq ht]
  refine ⟨?_, ?_, ?_, ?_, ?_, ?_, ?_, ?_, ?_, ?_⟩
  · rintro n v r p s hn rfl hp hl h₀ hg ht hd
    exact hexec hn (rqDoorbellEffect_of_valid hl hp h₀ hg ht hd)
  · exact fun n v s hn hl h => hexec hn (rqDoorbellEffect_of_reserved hl h)
  · intro n v fl s hn hl
    have hl' : rqLive (setFlaws fl s) n = false := hl
    exact ⟨hexec hn (rqDoorbellEffect_of_dead hl), hexec hn (rqResumeEffect_of_dead hl), hexec hn (rqSkipEffect_of_dead hl),
      (hflaws hn (rqReadEffect_of_dead hl')).trans rfl, (hflaws hn (rqStartEffect_of_dead hl')).trans rfl⟩
  · exact fun n s hn hl h₀ h₄ => hexec hn (rqResumeEffect_of_parked hl h₀ h₄)
  · rintro n r s hn rfl hl h₀ h₄ hr
    exact hexec hn (rqSkipEffect_of_parked hl h₀ h₄ hr)
  · rintro n v c s hn he rfl
    refine hexec hn ((rqCfgSet_of_disabled he).trans ?_)
    split <;> rfl
  · rintro n r l fl u s hn rfl hl h₀ hr hlen hi hw hm
    have hread := rqReadEffect_of_read (s := setFlaws fl s) hl h₀ hr hlen hi hw hm
    refine ⟨fun hg => hflaws hn (hread.trans (if_pos hg)), fun hg h8 => hflaws hn (hread.trans ((if_neg hg).trans (if_pos h8))), fun hg h8 =>
      hflaws hn (hread.trans ((if_neg hg).trans (if_neg (Nat.not_lt.2 h8))))⟩
  · exact fun n c fl s hn hl hnone hc => hflaws hn (rqStartEffect_of_next (s := setFlaws fl s) hl hnone hc)
  · exact fun n c s hn h => hexec hn (rqCompleteEffect_of_ended h)
  · exact fun n s hn h => hexec hn (rqCompleteEffect_of_none h)

end Sys2Proof.Machine
end

section
/-! PROOFS. Application cores (R372 to R376): their statement of a trap holds only where the core's register table lists no register twice. -/
set_option Elab.async false

namespace Sys2Proof.Machine

open Sys2Proof

/-- A core in machine mode, at instruction 0, whose register table lists mepc twice. -/
def mepcTwice : Core := { priv := 3, csr := [(0x341, 1), (0x341, 1)] }

/-- Refutes O47: the trap writes mepc to 0, which takes one of the two entries away, and mepc then reads as the other. -/
theorem not_applicationCoresRunAndAreInterrupted : ¬ Obligations.ApplicationCoresRunAndAreInterrupted := by
  rintro ⟨-, -, -, -, -, -, -, -, -, -, -, -, -, -, -, -, -, htrap, -⟩
  obtain ⟨-, -, hepc, -⟩ := htrap 2 0 mepcTwice rfl
  exact absurd hepc (by decide +kernel)

end Sys2Proof.Machine
end

section
/-! PROOFS. The PCIe controllers (R377 to R386). -/
set_option Elab.async false

namespace Sys2Proof.Machine

open Sys2Proof

theorem memErr_pcie (code pa : Nat) (who : Requester) (s : State) : (memErr code pa who s).pcie = s.pcie :=
  (memErr_did (W := but 39) rfl (.refl s)).pcie rfl

theorem onUnit_okPcie {p : Nat} (h : p < 4) (t : State) : onUnit (okPcie p) t = .next t := onUnit_of_true (decide_eq_true h) t

section
variable {p bar a n pa : Nat} {s t u : State} {l : List Byte} {e : Nat × Nat}

/-! Inbound reads -/

theorem whenFree_of_free {who : Requester} {part : Option Nat} {read : Bool} (h : rangeWaits s who part read pa n = false) :
    whenFree who part read pa n t s = t := if_neg (not_true_of_false h)

theorem inboundFree_of_free {read : Bool} (h : rangeWaits s (pcieReq p) (partOf s (pcieReq p)) read pa n = false) :
    inboundFree p read pa n t s = t := whenFree_of_free h

theorem inboundReadEffect_of_down (h : pcieUp s p = false) : inboundReadEffect p bar a n s = s := if_pos (by rw [h]; rfl)

/-- An inbound read of 1 to 4,096 bytes, by where it goes. -/
theorem inboundReadEffect_of_up (hup : pcieUp s p = true) (h₀ : 0 < n) (h₁ : n ≤ 4096) :
    (inboundTo s p bar a n false = none → inboundReadEffect p bar a n s = s) ∧
    (inboundTo s p bar a n false = some .refused → inboundReadEffect p bar a n s = emit (.pcieCompletion p 1 []) s) ∧
    (∀ r, inboundTo s p bar a n false = some (.regs r) → inboundReadEffect p bar a n s =
      inboundFree p true r n (emit (.pcieCompletion p 0 (regLoad (n + 1) r n s).1) (regLoad (n + 1) r n s).2) s) ∧
    (∀ pa e, inboundTo s p bar a n false = some (.hbm pa) → barError s (partOf s (pcieReq p)) false pa n = some e →
      inboundReadEffect p bar a n s = emit (.pcieCompletion p (cplStatus e.1) []) (memErr e.1 e.2 (pcieReq p) s)) ∧
    (∀ pa, (inboundTo s p bar a n false = some (.mem pa) ∨
        (inboundTo s p bar a n false = some (.hbm pa) ∧ barError s (partOf s (pcieReq p)) false pa n = none)) →
      inboundReadEffect p bar a n s = memAnswer p pa n s) := by
  have hgo : ¬ (!(pcieUp s p) || decide (n = 0) || decide (4096 < n)) = true := by
    rw [hup, decide_eq_false (by omega : ¬ n = 0), decide_eq_false (by omega : ¬ 4096 < n)]
    decide
  refine ⟨fun h => ?_, fun h => ?_, fun r h => ?_, fun pa e h he => ?_, fun pa h => ?_⟩
  · rw [inboundReadEffect, if_neg hgo, h]
  · rw [inboundReadEffect, if_neg hgo, h]
  · rw [inboundReadEffect, if_neg hgo, h]
  · rw [inboundReadEffect, if_neg hgo, h]
    dsimp only
    rw [he]
  · rw [inboundReadEffect, if_neg hgo]
    obtain h | ⟨h, he⟩ := h
    · rw [h]
    · rw [h]
      dsimp only
      rw [he]

theorem memAnswer_of_bytes (hw : rangeWaits s (pcieReq p) (partOf s (pcieReq p)) true pa n = false)
    (hr : memRead (pcieReq p) (some (oget s 0x5105 (p + 1))) pa n s = (.ok l, u)) :
    memAnswer p pa n s = { u with out := .pcieCompletion p 0 l :: u.out } := by
  refine (whenFree_of_free hw).trans ?_
  rw [answerRead, show partOf s (pcieReq p) = some (oget s 0x5105 (p + 1)) from rfl, hr]
  rfl

theorem memAnswer_of_error (hw : rangeWaits s (pcieReq p) (partOf s (pcieReq p)) true pa n = false)
    (hr : memRead (pcieReq p) (some (oget s 0x5105 (p + 1))) pa n s = (.error e, u)) :
    memAnswer p pa n s = { u with out := .pcieCompletion p (if e.1 = 1 ∨ e.1 = 4 then 1 else 4) [] :: u.out } := by
  refine (whenFree_of_free hw).trans ?_
  rw [answerRead, show partOf s (pcieReq p) = some (oget s 0x5105 (p + 1)) from rfl, hr]
  rfl

/-! Posted writes -/

theorem inboundWriteEffect_of_down (h : pcieUp s p = false) : inboundWriteEffect p bar a l s = s := if_pos (by rw [h]; rfl)

/-- An inbound write of 1 to 512 bytes, by where it goes. -/
theorem inboundWriteEffect_of_up {w : Bool} (hup : pcieUp s p = true) (h₀ : l ≠ []) (h₁ : l.length ≤ 512)
    (hw : w = (decide (l.length = 4) && decide (a % 4 = 0))) :
    ((inboundTo s p bar a l.length w = some .refused ∨ inboundTo s p bar a l.length w = none) → inboundWriteEffect p bar a l s = s) ∧
    (∀ r, inboundTo s p bar a l.length w = some (.regs r) → inboundWriteEffect p bar a l s = inboundFree p false r l.length (regBytes r l s) s) ∧
    (∀ pa e, inboundTo s p bar a l.length w = some (.hbm pa) → barError s (partOf s (pcieReq p)) true pa l.length = some e →
      inboundWriteEffect p bar a l s = discardIn p (memErr e.1 e.2 (pcieReq p) s)) ∧
    (∀ pa, (inboundTo s p bar a l.length w = some (.mem pa) ∨
        (inboundTo s p bar a l.length w = some (.hbm pa) ∧ barError s (partOf s (pcieReq p)) true pa l.length = none)) →
      inboundWriteEffect p bar a l s = inboundFree p false pa l.length (writeOr p pa l s) s) := by
  subst hw
  have hgo : ¬ (!(pcieUp s p) || decide (l = []) || decide (512 < l.length)) = true := by
    rw [hup, decide_eq_false h₀, decide_eq_false (by omega : ¬ 512 < l.length)]
    decide
  refine ⟨fun h => ?_, fun r h => ?_, fun pa e h he => ?_, fun pa h => ?_⟩
  · rw [inboundWriteEffect, if_neg hgo]
    obtain h | h := h <;> rw [h]
  · rw [inboundWriteEffect, if_neg hgo, h]
  · rw [inboundWriteEffect, if_neg hgo, h]
    dsimp only
    rw [he]
  · rw [inboundWriteEffect, if_neg hgo]
    obtain h | ⟨h, he⟩ := h
    · rw [h]
    · rw [h]
      dsimp only
      rw [he]

theorem discardIn_of_room (h : (pcieAt s p).discards + 1 < 2 ^ 32) :
    discardIn p s = pciePut s p { pcieAt s p with discards := (pcieAt s p).discards + 1 } := if_pos h

theorem writeOr_of_taken {part : Option Nat} {hint : Nat × Nat} (hp : partOf s (pcieReq p) = part) (hh : peHint s p = hint)
    (h : memPut (pcieReq p) part hint pa l s = (none, u)) : writeOr p pa l s = u := by
  rw [writeOr, hp, hh, h]

theorem writeOr_of_error {part : Option Nat} {hint : Nat × Nat} (hp : partOf s (pcieReq p) = part) (hh : peHint s p = hint)
    (h : memPut (pcieReq p) part hint pa l s = (some e, u)) (hd : (pcieAt u p).discards + 1 < 2 ^ 32) :
    writeOr p pa l s = pciePut u p { pcieAt u p with discards := (pcieAt u p).discards + 1 } := by
  rw [writeOr, hp, hh, h]
  exact discardIn_of_room hd

/-! Where a request goes -/

theorem isEndpoint_zero (hm : s.boot.modeSel = true) : isEndpoint s 0 = true := by rw [isEndpoint, hm]; rfl

theorem inboundTo_endpoint {w : Bool} (hm : s.boot.modeSel = true) : inboundTo s 0 bar a n w = barTarget s bar a n := if_pos (isEndpoint_zero hm)

theorem barTarget_of_running (h : s.boot.phase = .running) :
    (a + n ≤ 0x8000000 → barTarget s 0 a n = some (.regs (winBase 14 + 0x100000000 + a))) ∧
    (a + n ≤ 0x4000000 → barTarget s 2 a n = some (.regs (winBase 14 + 0x108000000 + a))) ∧
    (a + n ≤ 2 ^ (30 + (pcieAt s 0).barLog) → barTarget s 4 a n = some (.hbm ((regGet s (peReg 0 0x10)).toNat + a))) := by
  have hr : running s = true := decide_eq_true h
  refine ⟨fun hin => ?_, fun hin => ?_, fun hin => ?_⟩ <;> refine (if_pos hin).trans ?_ <;> rw [hr] <;> rfl

theorem barTarget_of_held (h : s.boot.phase = .held) :
    (a + n ≤ 0x8000000 → barTarget s 0 a n = some .refused) ∧
    (a + n ≤ 0x4000000 → barTarget s 2 a n = some (.regs (winBase 14 + 0x108000000 + a))) ∧
    (a + n ≤ 2 ^ (30 + (pcieAt s 0).barLog) → barTarget s 4 a n = some .refused) := by
  have hr : running s = false := decide_eq_false (by rw [h]; decide)
  have hheld : decide (s.boot.phase = .held) = true := decide_eq_true h
  refine ⟨fun hin => ?_, fun hin => ?_, fun hin => ?_⟩ <;> refine (if_pos hin).trans ?_
  · rw [hr]; rfl
  · rw [hheld, Bool.or_true]; rfl
  · rw [hr]; rfl

theorem inboundTo_root {w : Bool} {k : Nat} (h : p ≠ 0 ∨ s.boot.modeSel = false) (ht : target s a = .hbm k) : inboundTo s p bar a n w = some (.mem a) := by
  have hroot : isEndpoint s p = false := by
    obtain h | h := h
    · rw [isEndpoint, decide_eq_false h, Bool.and_false]
    · rw [isEndpoint, h, Bool.false_and]
  rw [inboundTo, hroot, rootTarget, ht]
  rfl

/-! Configuration requests -/

theorem configEffect_of_closed {op : CfgOp} (h : (s.boot.modeSel && pcieUp s 0) = false) : configEffect op s = s := if_pos (by rw [h]; rfl)

theorem configEffect_of_starting {op : CfgOp} (hm : s.boot.modeSel = true) (hu : pcieUp s 0 = true) (hr : s.boot.phase ≠ .running)
    (hh : s.boot.phase ≠ .held) : configEffect op s = emit (.pcieConfig true 0) s := by
  have hrun : running s = false := decide_eq_false hr
  refine (if_neg (by rw [hm, hu]; decide)).trans (if_pos ?_)
  rw [hrun, decide_eq_false hh]
  rfl

/-- An E9 that runs or is held serves its configuration space. -/
theorem configServed (hm : s.boot.modeSel = true) (hu : pcieUp s 0 = true) (hr : s.boot.phase = .running ∨ s.boot.phase = .held) :
    ¬ (!(s.boot.modeSel && pcieUp s 0)) = true ∧ ¬ (!(running s || decide (s.boot.phase = .held))) = true := by
  constructor
  · rw [hm, hu]; decide
  · obtain h | h := hr <;> simp [running, h]

/-! Completions -/

theorem completionEffect_of_read {tag : Nat} {ok : Bool} {r : PRead} (hr : (pcieAt s p).reads.find? (fun r => decide (r.tag = tag)) = some r) :
    completionEffect p tag ok l s =
      if !ok then endRead p r (.error 5) s else if l.length = r.size then endRead p r (.ok l) s else s := by
  rw [completionEffect, hr]

theorem completionEffect_of_unknown {tag : Nat} {ok : Bool} (h : ∀ r ∈ (pcieAt s p).reads, r.tag ≠ tag) : completionEffect p tag ok l s = s := by
  rw [completionEffect, List.find?_eq_none.2 fun r hr => by simpa using h r hr]

/-! The endpoint's reset -/

theorem foldl_teardown_of_idle (h : ∀ e ∈ s.ctxs, (ctxAt s e.1).state ≠ 1) (m : Tab Ctx) (hm : ∀ e ∈ m, e ∈ s.ctxs) :
    m.foldl (fun u e => if (ctxAt u e.1).state = 1 then teardownStart e.1 u else u) s = s := by
  induction m with
  | nil => rfl
  | cons e m ih =>
    rw [List.foldl_cons, if_neg (h e (hm e List.mem_cons_self))]
    exact ih fun x hx => hm x (List.mem_cons_of_mem _ hx)

theorem endpointResetEffect_of_idle (h : ∀ e ∈ s.ctxs, (ctxAt s e.1).state ≠ 1) :
    endpointResetEffect s = msixReset (regPut (pcieMod configReset s) (peReg 0 0x10) 0) := by
  rw [endpointResetEffect, foldl_teardown_of_idle h _ fun _ h => h]

theorem endpointResetEffect_of_one {c : Nat} {x : Ctx} (hc : s.ctxs = [(c, x)]) (hx : x.state = 1) :
    endpointResetEffect s = msixReset (regPut (pcieMod configReset (teardownStart c s)) (peReg 0 0x10) 0) := by
  have hat : ctxAt s c = x := by rw [ctxAt, hc]; exact if_pos rfl
  rw [endpointResetEffect, hc, List.foldl_cons, hat, if_pos hx]
  rfl

theorem aget_filter_key {α : Type} {f : Nat → Bool} {k : Nat} (h : f k = true) (m : Tab α) : aget (m.filter fun e => f e.1) k = aget m k := by
  induction m with
  | nil => rfl
  | cons e m ih =>
    by_cases he : e.1 = k
    · simp [he, h, aget]
    · by_cases hf : f e.1 = true <;> simp [hf, aget, he, ih]

theorem aget_filter_out {α : Type} {f : Nat → Bool} {k : Nat} (h : f k = false) (m : Tab α) : aget (m.filter fun e => f e.1) k = none := by
  induction m with
  | nil => rfl
  | cons e m ih =>
    by_cases hf : f e.1 = true
    · have hne : e.1 ≠ k := fun hk => by rw [hk, h] at hf; cases hf
      simp [hf, aget, hne, ih]
    · simp [hf, ih]

theorem regGet_regPut_ne (s : State) (v : W64) (h : a ≠ pa) : regGet (regPut s pa v) a = regGet s a := by
  rw [regGet, show aget (regPut s pa v).regs a = aget s.regs a from aget_tset_ne _ _ _ _ h _]
  rfl

theorem regGet_msixReset (h : a < winBase 14 + 0x10A000000 ∨ winBase 14 + 0x10A008000 ≤ a) : regGet (msixReset s) a = regGet s a := by
  have hkeep : (!(decide (winBase 14 + 0x10A000000 ≤ a) && decide (a < winBase 14 + 0x10A008000))) = true := by
    simp only [Bool.not_eq_true', Bool.and_eq_false_iff, decide_eq_false_iff_not]
    omega
  rw [regGet, show aget (msixReset s).regs a = aget s.regs a from
    aget_filter_key (f := fun k => !(decide (winBase 14 + 0x10A000000 ≤ k) && decide (k < winBase 14 + 0x10A008000))) hkeep _]
  rfl

/-- A vector's control word as it resets is masked (R397). -/
theorem regReset_msixCtl {v : Nat} (hv : v < 2048) : regReset (msixCtl v) = 0x100000000 := by
  have hwin : winOf (msixCtl v) = some (14, 0x10A000008 + 16 * v) := by
    unfold winOf msixCtl winBase
    rw [if_pos (by omega)]
    exact congrArg some (Prod.ext (by dsimp only; omega) (by dsimp only; omega))
  rw [regReset, hwin]
  dsimp only
  rw [if_neg (by omega), if_neg (by omega), if_neg (by omega), if_neg (by omega), if_pos (by omega)]

theorem msixMasked_msixReset {v : Nat} (hv : v < 2048) : msixMasked (msixReset s) v = true := by
  have hdrop : (!(decide (winBase 14 + 0x10A000000 ≤ msixCtl v) && decide (msixCtl v < winBase 14 + 0x10A008000))) = false := by
    rw [decide_eq_true (by unfold msixCtl; omega), decide_eq_true (by unfold msixCtl; omega)]
    rfl
  rw [msixMasked, regGet, show aget (msixReset s).regs (msixCtl v) = none from
    aget_filter_out (f := fun k => !(decide (winBase 14 + 0x10A000000 ≤ k) && decide (k < winBase 14 + 0x10A008000))) hdrop _]
  dsimp only
  rw [regReset_msixCtl hv]
  decide

/-! Links -/

theorem linkChangeEffect_of_go {r w : Nat} (hp : pciePresent s p = true) (hi : inReset s = false) (hr : rateOk r w = true)
    (hb : r = 0 ∨ p ∉ s.boot.perst) :
    linkChangeEffect p r w s = if r = 0 then linkDown p (scRaise (8 + p) 0 (pciePut s p { pcieAt s p with rate := r, width := w }))
      else scRaise (8 + p) 0 (pciePut s p { pcieAt s p with rate := r, width := w }) := by
  have hperst : (decide (r ≠ 0) && s.boot.perst.contains p) = false := by
    obtain h | h := hb
    · rw [h]; rfl
    · rw [List.contains_eq_mem, decide_eq_false h, Bool.and_false]
  exact if_neg (by rw [hp, hi, hr, hperst]; decide)

theorem linkChangeEffect_of_stay {r w : Nat} (h : pciePresent s p = false ∨ inReset s = true ∨ rateOk r w = false) : linkChangeEffect p r w s = s := by
  refine if_pos ?_
  obtain h | h | h := h <;> simp [h]

/-- An input that goes low asserts nothing (R394). -/
theorem scInput_of_low {n : Nat} (h : twf {} s.sc.src = true) : scInput n false s = srcPut s n { srcAt s n with level := false } := by
  refine if_neg ?_
  rw [srcAt_put_wf _ _ _ h]
  exact Bool.false_ne_true

theorem srcPut_wf {n : Nat} {x : Src} (h : twf {} s.sc.src = true) : twf {} (srcPut s n x).sc.src = true := twfFrom_tset _ _ _ _ _ (Nat.zero_le _) h

theorem foldl_scInput_low (b : Nat) (m : List Nat) : ∀ s : State, twf {} s.sc.src = true →
    ∃ src, m.foldl (fun u i => scInput (b + i) false u) s = { s with sc := { s.sc with src := src } } ∧ twf {} src = true ∧
      (∀ i ∈ m, (tget {} src (b + i)).level = false) ∧
      (∀ k, (tget {} s.sc.src k).level = false → (tget {} src k).level = false) ∧
      (∀ k, (∀ i ∈ m, k ≠ b + i) → tget {} src k = tget {} s.sc.src k) := by
  induction m with
  | nil => exact fun s h => ⟨s.sc.src, rfl, h, by simp, fun k hk => hk, fun k hk => rfl⟩
  | cons i m ih =>
    intro s h
    have hwf := srcPut_wf (n := b + i) (x := { srcAt s (b + i) with level := false }) h
    obtain ⟨src, heq, hsrc, hlow, hkeep, hrest⟩ := ih _ hwf
    have hself : tget {} (srcPut s (b + i) { srcAt s (b + i) with level := false }).sc.src (b + i) = { srcAt s (b + i) with level := false } :=
      srcAt_put_wf _ _ _ h
    refine ⟨src, ?_, hsrc, ?_, ?_, ?_⟩
    · rw [List.foldl_cons, scInput_of_low h, heq]
      rfl
    · intro j hj
      rcases List.mem_cons.1 hj with rfl | hj
      · exact hkeep _ (by rw [hself])
      · exact hlow j hj
    · intro k hk
      refine hkeep k ?_
      by_cases hki : k = b + i
      · rw [hki, hself]
      · rw [show tget {} (srcPut s (b + i) { srcAt s (b + i) with level := false }).sc.src k = tget {} s.sc.src k from tget_tset_ne _ _ _ _ hki _]
        exact hk
    · intro k hk
      rw [hrest k fun j hj => hk j (List.mem_cons_of_mem _ hj)]
      exact tget_tset_ne _ _ _ _ (hk i List.mem_cons_self) _

end

end Sys2Proof.Machine
end

section
/-! PROOFS. What PCIe requests do (R260, R377 to R386, R390). -/
set_option Elab.async false

namespace Sys2Proof.Machine

open Sys2Proof

section
variable {p : Nat} {s : State}

/-- What a link that goes down without reads leaves (R378, R390). -/
theorem linkDown_of_noReads (hp : p < 4) (hr : (pcieAt s p).reads = []) (hwf : twf {} s.sc.src = true) :
    ∃ src, linkDown p s = { pciePut s p { pcieAt s p with pins := [false, false, false, false] } with sc := { s.sc with src := src } } ∧
      (∀ i, i < 4 → (tget {} src (24 + 4 * p + i)).level = false) ∧ tget {} src (8 + p) = srcAt s (8 + p) := by
  obtain ⟨src, heq, -, hlow, -, hrest⟩ := foldl_scInput_low (24 + 4 * p) (upto 0 4)
    (pciePut s p { pcieAt s p with pins := [false, false, false, false] }) hwf
  refine ⟨src, ?_, fun i hi => hlow i ((mem_upto ..).2 ⟨Nat.zero_le _, by omega⟩), hrest _ fun i hi => by omega⟩
  rw [linkDown, hr]
  exact heq

theorem scRaise_pcie_source (hp : p < 4) (d : W32) (s : State) :
    scRaise (8 + p) d s = srcPut s (8 + p) { srcAt s (8 + p) with pend := true, detail := d, time := now s } := if_neg (by omega)

/-- A link of a port without outstanding reads goes down. -/
theorem linkChangeEffect_of_down (hp : p < 4) (hpres : pciePresent s p = true) (hi : inReset s = false) (hr : (pcieAt s p).reads = [])
    (hpc : twf {} s.pcie = true) (hwf : twf {} s.sc.src = true) :
    ∃ t, linkChangeEffect p 0 0 s = t ∧ t.cores = s.cores ∧ t.regs = s.regs ∧ (srcAt t (8 + p)).pend = true ∧
      (∀ i, i < 4 → (srcAt t (24 + 4 * p + i)).level = false) ∧
      pcieAt t p = { pcieAt s p with rate := 0, width := 0, pins := [false, false, false, false] } ∧ (∀ k, k ≠ p → pcieAt t k = pcieAt s k) := by
  have hstep := linkChangeEffect_of_go (w := 0) hpres hi rfl (.inl rfl)
  rw [if_pos rfl, scRaise_pcie_source hp] at hstep
  have hat : pcieAt (pciePut s p { pcieAt s p with rate := 0, width := 0 }) p = { pcieAt s p with rate := 0, width := 0 } :=
    pcieAt_put_wf _ _ _ hpc
  obtain ⟨src, hdown, hlow, hkeep⟩ := linkDown_of_noReads (s := srcPut (pciePut s p { pcieAt s p with rate := 0, width := 0 }) (8 + p)
    { srcAt s (8 + p) with pend := true, detail := 0, time := now s }) hp ((congrArg Pcie.reads hat).trans hr) (srcPut_wf hwf)
  refine ⟨_, hstep.trans hdown, rfl, rfl, ?_, hlow, ?_, fun k hk => ?_⟩
  · exact (congrArg Src.pend hkeep).trans (congrArg Src.pend (srcAt_put_wf _ _ _ hwf))
  · have htwice : twf {} (pciePut s p { pcieAt s p with rate := 0, width := 0 }).pcie = true := twfFrom_tset _ _ _ _ _ (Nat.zero_le _) hpc
    refine (tget_tset_wf _ _ _ _ htwice).trans ?_
    exact congrArg (fun c : Pcie => { c with pins := [false, false, false, false] }) hat
  · exact (tget_tset_ne _ _ _ _ hk _).trans (tget_tset_ne _ _ _ _ hk _)

end

/-- Configuration requests of an E9 that runs or is held (R377, R380, R381). -/
theorem configRequestsServed {reg k m : Nat} {v : W32} {t s : State} :
    s.boot.modeSel = true → pcieUp s 0 = true → (s.boot.phase = .running ∨ s.boot.phase = .held) →
    t = pciePut s 0 { pcieAt s 0 with barLog := k } → m = cfgMask s reg →
    (m = 0 → exec (.pcieConfigRequest (.write reg v)) s = .next { s with out := .pcieConfig false 0 :: s.out }) ∧
    (m ≠ 0 → reg ≠ 1 → exec (.pcieConfigRequest (.write reg v)) s = .next { pciePut s 0 { pcieAt s 0 with
      cfg := tset 0 (pcieAt s 0).cfg reg (v &&& BitVec.ofNat 32 m) } with out := .pcieConfig false 0 :: s.out }) ∧
    (exec (.pcieConfigRequest (.write 1 v)) s = .next (emit (.pcieConfig false 0) (releaseMsix (pciePut s 0 { pcieAt s 0 with
      cfg := tset 0 (pcieAt s 0).cfg 1 (v &&& 0x546) })))) ∧
    exec (.pcieConfigRequest (.read 4)) s = .next { s with
      out := .pcieConfig false ((tget 0 (pcieAt s 0).cfg 4 &&& BitVec.ofNat 32 (cfgMask s 4)) ||| 4) :: s.out } ∧
    exec (.pcieConfigRequest .bar4Read) s = .next { s with out := .pcieConfig false (BitVec.ofNat 32 (256 * (10 + (pcieAt s 0).barLog))) :: s.out } ∧
    exec (.pcieConfigRequest .msixRead) s = .next { s with out := .pcieConfig false (BitVec.ofNat 32
      ((b2n (pcieAt s 0).msixEn * 2 ^ 15 + b2n (pcieAt s 0).msixMask * 2 ^ 14 + 2047) * 65536)) :: s.out } ∧
    (∀ e f, exec (.pcieConfigRequest (.msixWrite e f)) s =
      .next (emit (.pcieConfig false 0) (releaseMsix (pciePut s 0 { pcieAt s 0 with msixEn := e, msixMask := f })))) ∧
    exec (.pcieConfigRequest .devCtlRead) s = .next { s with out := .pcieConfig false (pcieAt s 0).devCtl :: s.out } ∧
    (v.getLsbD 15 = false → exec (.pcieConfigRequest (.devCtlWrite v)) s = .next { pciePut s 0 { pcieAt s 0 with devCtl := v &&& 0x7FFF } with
      out := .pcieConfig false 0 :: s.out }) ∧
    (v.getLsbD 15 = true → exec (.pcieConfigRequest (.devCtlWrite v)) s =
      .next (emit (.pcieConfig false 0) (endpointResetEffect (pciePut s 0 { pcieAt s 0 with devCtl := v &&& 0x7FFF })))) ∧
    (∀ i, (i = 1 ∨ i = 2 ∨ i = 4) → exec (.pcieConfigRequest (.aerRead i)) s = .next { s with
        out := .pcieConfig false (tget (aerDefault i) (pcieAt s 0).aer i) :: s.out } ∧
      exec (.pcieConfigRequest (.aerWrite i v)) s = .next { pciePut s 0 { pcieAt s 0 with aer := tset (aerDefault i) (pcieAt s 0).aer i v } with
        out := .pcieConfig false 0 :: s.out }) ∧
    exec (.pcieConfigRequest (.read 0)) s = .next { s with out := .pcieConfig false 0x00E91F3E :: s.out } ∧
    (k < 12 → exec (.pcieConfigRequest (.bar4Size k)) s = .next { t with out := .pcieConfig false 0 :: s.out }) ∧
    (k = 12 → exec (.pcieConfigRequest (.bar4Size k)) s = .next { regPut t (peReg 0 0x10) 0 with out := .pcieConfig false 0 :: s.out }) ∧
    (12 < k → exec (.pcieConfigRequest (.bar4Size k)) s = .next { s with out := .pcieConfig false 0 :: s.out }) := by
  rintro hm hu hr rfl rfl
  have hdo {op : CfgOp} {u : State} (hop : configEffect op s = u) : exec (.pcieConfigRequest op) s = .next u := congrArg _ hop
  obtain ⟨hopen, hserved⟩ := configServed hm hu hr
  refine ⟨fun h0 => hdo ((if_neg hopen).trans ((if_neg hserved).trans ?_)), fun h0 h1 => hdo ((if_neg hopen).trans ((if_neg hserved).trans ?_)),
    hdo ((if_neg hopen).trans ((if_neg hserved).trans rfl)), hdo ((if_neg hopen).trans ((if_neg hserved).trans rfl)),
    hdo ((if_neg hopen).trans ((if_neg hserved).trans rfl)), hdo ((if_neg hopen).trans ((if_neg hserved).trans rfl)),
    fun e f => hdo ((if_neg hopen).trans ((if_neg hserved).trans rfl)), hdo ((if_neg hopen).trans ((if_neg hserved).trans rfl)),
    fun hv => hdo ((if_neg hopen).trans ((if_neg hserved).trans ?_)), fun hv => hdo ((if_neg hopen).trans ((if_neg hserved).trans ?_)),
    fun i hi => ⟨hdo ((if_neg hopen).trans ((if_neg hserved).trans ?_)), hdo ((if_neg hopen).trans ((if_neg hserved).trans ?_))⟩,
    hdo ((if_neg hopen).trans ((if_neg hserved).trans rfl)), fun hk => hdo ((if_neg hopen).trans ((if_neg hserved).trans ?_)),
    fun hk => hdo ((if_neg hopen).trans ((if_neg hserved).trans ?_)), fun hk => hdo ((if_neg hopen).trans ((if_neg hserved).trans ?_))⟩
  · have hreg : reg ≠ 1 := fun h => by rw [h] at h0; exact absurd h0 (by simp [cfgMask])
    have hset : configSet reg v s = s := (if_neg hreg).trans (if_pos h0)
    exact congrArg (emit (.pcieConfig false 0)) hset
  · have hset : configSet reg v s = pcieMod (fun c => { c with cfg := tset 0 c.cfg reg (v &&& BitVec.ofNat 32 (cfgMask s reg)) }) s :=
      (if_neg h1).trans (if_neg h0)
    exact congrArg (emit (.pcieConfig false 0)) hset
  · exact congrArg (emit (.pcieConfig false 0)) (if_neg (not_true_of_false hv))
  · exact congrArg (emit (.pcieConfig false 0)) (if_pos hv)
  · have hword : aerWord i s = (tget (aerDefault i) (pcieAt s 0).aer i, s) := if_neg (by omega)
    exact congrArg (fun r : W32 × State => emit (.pcieConfig false r.1) r.2) hword
  · exact congrArg (emit (.pcieConfig false 0)) (if_pos hi)
  · have hset : bar4SizeSet k s = pciePut s 0 { pcieAt s 0 with barLog := k } := (if_pos (by omega)).trans (if_neg (by omega))
    exact congrArg (emit (.pcieConfig false 0)) hset
  · have hset : bar4SizeSet k s = regPut (pciePut s 0 { pcieAt s 0 with barLog := k }) (peReg 0 0x10) 0 := (if_pos (by omega)).trans (if_pos hk)
    exact congrArg (emit (.pcieConfig false 0)) hset
  · have hset : bar4SizeSet k s = s := if_neg (by omega)
    exact congrArg (emit (.pcieConfig false 0)) hset

theorem exec_endpointReset (s : State) :
    exec .endpointReset s = .next (onlyIf (s.boot.modeSel && pciePresent s 0 && !(inReset s)) (endpointResetEffect s) s) := rfl

theorem exec_endpointReset_of_open {s : State} (hm : s.boot.modeSel = true) (hp : pciePresent s 0 = true) (hi : inReset s = false) :
    exec .endpointReset s = .next (endpointResetEffect s) := by rw [exec_endpointReset, hm, hp, hi]; rfl

/-- A reset of the endpoint with no enabled context (R384, R400). -/
theorem exec_endpointReset_of_idle {s : State} (hm : s.boot.modeSel = true) (hp : pciePresent s 0 = true) (hi : inReset s = false)
    (h : ∀ e ∈ s.ctxs, (ctxAt s e.1).state ≠ 1) :
    ∃ t, exec .endpointReset s = .next t ∧ t.sc.pba = [] ∧ (∀ v, v < 2048 → msixMasked t v = true) ∧ t.mem = s.mem ∧ t.ctxs = s.ctxs ∧
      (∀ a, a ≠ peReg 0 0x10 → (a < winBase 14 + 0x10A000000 ∨ winBase 14 + 0x10A008000 ≤ a) → regGet t a = regGet s a) := by
  have hreset := exec_endpointReset_of_open hm hp hi
  rw [endpointResetEffect_of_idle h] at hreset
  refine ⟨_, hreset, rfl, fun v hv => msixMasked_msixReset hv, rfl, rfl, fun a ha hout => ?_⟩
  exact (regGet_msixReset hout).trans (regGet_regPut_ne _ _ ha)

/-- Settles O48, one kind of request after the other. -/
theorem pcieRequestsAreServed : Obligations.PcieRequestsAreServed := by
  have hexec {p : Nat} {s t : State} (hp : p < 4) (ht : s = t) : onUnit (okPcie p) s = .next t := by rw [onUnit_okPcie hp, ht]
  have hflaws {p : Nat} {fl : List (Nat × Bool)} {f : State → State} {s t : State} (hp : p < 4) (ht : f (setFlaws fl s) = t) :
      onUnit (okPcie p) (withFlaws fl f s) = .next (setFlaws [] t) := by rw [onUnit_okPcie hp, withFlaws_eq ht]
  refine ⟨?_, ?_, ?_, ?_, ?_, ?_, ?_, ?_, ?_, ?_, ?_, ?_, ?_, ?_, ?_, ?_, ?_, ?_, ?_, ?_, ?_, ?_⟩
  · intro p bar a n l fl s hp hup
    have hdown : pcieUp (setFlaws fl s) p = false := hup
    exact ⟨(hflaws hp (inboundReadEffect_of_down hdown)).trans rfl, (hflaws hp (inboundWriteEffect_of_down hdown)).trans rfl⟩
  · rintro p bar a n fl v s hp hup h₀ h₁ rfl
    obtain ⟨hnone, hrefused, hregs, herror, hmem⟩ := inboundReadEffect_of_up (s := setFlaws fl s) (bar := bar) (a := a) hup h₀ h₁
    refine ⟨fun h => (hflaws hp (hnone h)).trans rfl, fun h => (hflaws hp (hrefused h)).trans rfl, fun pa l u h hw hr => ?_, fun pa e u h hw hr => ?_,
      fun pa e h he => hflaws hp (herror pa e h he), fun r h hw => ?_⟩
    · exact hflaws hp ((hmem pa h).trans (memAnswer_of_bytes (s := setFlaws fl s) hw hr))
    · exact hflaws hp ((hmem pa (.inl h)).trans (memAnswer_of_error (s := setFlaws fl s) hw hr))
    · exact hflaws hp ((hregs r h).trans (inboundFree_of_free (s := setFlaws fl s) hw))
  · intro bar a n w s hm hr
    obtain ⟨h0, h2, h4⟩ := barTarget_of_running (s := s) (a := a) (n := n) hr
    refine ⟨?_, ?_, ?_⟩ <;> rintro rfl hin <;> rw [inboundTo_endpoint hm]
    · exact h0 hin
    · exact h2 hin
    · exact h4 hin
  · intro a n w s hm hh
    rw [inboundTo_endpoint hm, inboundTo_endpoint hm, inboundTo_endpoint hm]
    exact barTarget_of_held hh
  · exact fun p bar a k n w s h ht => inboundTo_root h ht
  · rintro p bar a w l part fl v s hp hup h₀ h₁ hw rfl rfl
    obtain ⟨hnone, hregs, herror, hmem⟩ := inboundWriteEffect_of_up (s := setFlaws fl s) (bar := bar) (a := a) hup h₀ h₁ hw
    refine ⟨fun h => (hflaws hp (hnone h)).trans rfl, fun r h hfree => ?_, fun r h hwait => ?_, fun pa u h hfree hput => ?_,
      fun pa e u h hfree hput hd => ?_, fun pa e u h he hu hd => ?_⟩
    · exact hflaws hp ((hregs r h).trans (inboundFree_of_free (s := setFlaws fl s) hfree))
    · obtain h | h := h
      · exact hflaws hp ((hregs r h).trans (if_pos hwait))
      · exact hflaws hp ((hmem r (.inl h)).trans (if_pos hwait))
    · have hdone : writeOr p pa l (setFlaws fl s) = u := writeOr_of_taken rfl rfl hput
      have hfree' : rangeWaits (setFlaws fl s) (pcieReq p) (partOf (setFlaws fl s) (pcieReq p)) false pa l.length = false := hfree
      exact hflaws hp ((hmem pa h).trans ((inboundFree_of_free hfree').trans hdone))
    · have hdone : writeOr p pa l (setFlaws fl s) = pciePut u p { pcieAt u p with discards := (pcieAt u p).discards + 1 } :=  writeOr_of_error rfl rfl hput hd
      have hfree' : rangeWaits (setFlaws fl s) (pcieReq p) (partOf (setFlaws fl s) (pcieReq p)) false pa l.length = false := hfree
      exact hflaws hp ((hmem pa (.inl h)).trans ((inboundFree_of_free hfree').trans hdone))
    · subst hu
      have hpc : pcieAt (memErr e.1 e.2 (pcieReq p) (setFlaws fl s)) p = pcieAt s p := by rw [pcieAt, memErr_pcie]; rfl
      exact hflaws hp ((herror pa e h he).trans (discardIn_of_room (by rw [hpc]; exact hd)))
  · exact fun op s hm hu hr hh => congrArg _ (configEffect_of_starting hm hu hr hh)
  · exact fun reg k m v t s => configRequestsServed
  · exact fun op s h => congrArg _ (configEffect_of_closed h)
  · rintro p tag l x r t u s hp hr rfl rfl rfl
    refine ⟨fun hd hl => hexec hp ((completionEffect_of_read hr).trans ((if_pos hl).trans ?_)), fun hd => hexec hp ((completionEffect_of_read hr).trans ?_),
      fun hd hl => hexec hp ((completionEffect_of_read hr).trans ((if_pos hl).trans ?_)), fun hd => hexec hp ((completionEffect_of_read hr).trans ?_)⟩
    · exact if_neg (not_true_of_false hd)
    · exact if_neg (not_true_of_false hd)
    · exact if_pos hd
    · exact if_pos hd
  · exact fun p tag ok l s hp h => hexec hp (completionEffect_of_unknown h)
  · intro p s hp hpres
    refine ⟨hexec hp ?_, hexec hp ?_, fun b => hexec hp ?_⟩ <;> rw [hpres, onlyIf_true] <;> rfl
  · intro p b s hp hpres
    refine ⟨hexec hp ?_, hexec hp ?_, hexec hp ?_⟩ <;> rw [hpres, onlyIf_false]
  · intro s h
    rw [exec_endpointReset, h, onlyIf_false]
  · exact fun s hm hp hi h => exec_endpointReset_of_idle hm hp hi h
  · rintro c x t s hm hp hi hc hx rfl
    rw [exec_endpointReset_of_open hm hp hi, endpointResetEffect_of_one hc hx]
    rfl
  · exact fun _ => rfl
  · exact fun p r w s hp hpres hi hrate h0 hperst => hexec hp ((linkChangeEffect_of_go hpres hi hrate (.inr hperst)).trans (if_neg h0))
  · intro p s hp hpres hi hr hpc hwf
    obtain ⟨t, ht, hrest⟩ := linkChangeEffect_of_down hp hpres hi hr hpc hwf
    exact ⟨t, hexec hp ht, hrest⟩
  · exact fun p r w s hp h => hexec hp (linkChangeEffect_of_stay h)
  · intro p i s hp hi hroot hup
    have hok : (okPcie p && decide (i < 4)) = true := by rw [okPcie, decide_eq_true hp, decide_eq_true hi]; rfl
    have hgo : (rootPort s p && pcieUp s p) = true := by rw [hroot, hup]; rfl
    exact ⟨(onUnit_of_true hok _).trans (congrArg _ (if_pos hgo)), (onUnit_of_true hok _).trans (congrArg _ (if_pos hgo))⟩
  · intro p i s hp hi h
    have hok : (okPcie p && decide (i < 4)) = true := by rw [okPcie, decide_eq_true hp, decide_eq_true hi]; rfl
    exact ⟨(onUnit_of_true hok _).trans (congrArg _ (if_neg (not_true_of_false h))),
      (onUnit_of_true hok _).trans (congrArg _ (if_neg (not_true_of_false h)))⟩

end Sys2Proof.Machine
end

section
/-! PROOFS. Register writes (R12, R189): their statement has a held MSI-X message go out with its vector's mask while MSI-X is not enabled. -/
set_option Elab.async false

namespace Sys2Proof.Machine

open Sys2Proof

/-- A running E9 whose Pending Bit Array holds vector 0, and on which MSI-X is not enabled. -/
def heldVectorRun : State := { witRun with sc := { pba := [0] } }

/-- Refutes O49: the write that unmasks vector 0 sends nothing, since MSI-X is not enabled (R397). -/
theorem not_registerWritesReachTheirUnits : ¬ Obligations.RegisterWritesReachTheirUnits := by
  rintro ⟨-, -, -, hxd, -⟩
  obtain ⟨-, -, -, -, -, -, -, -, -, -, -, -, -, -, -, -, -, -, -, -, -, -, -, -, -, hmsix, -⟩ := hxd 0 heldVectorRun (by decide)
  have hout := congrArg (fun o => (witNext o).out.length) (hmsix 0 (by decide) (by decide))
  exact absurd hout (by decide +kernel)

end Sys2Proof.Machine
end

section
/-! PROOFS. Delivery of sources (R396, R397): their statement has a message of an unmasked vector go out under the function mask. -/
set_option Elab.async false

namespace Sys2Proof.Machine

open Sys2Proof

/-- A running E9 with MSI-X enabled and its function masked: source 2 pends for vector 0, whose own mask is clear. -/
def functionMasked : State :=
  { witRun with
    regs := [(msixCtl 0, 0)], pcie := [(0, { msixEn := true, msixMask := true, cfg := [(1, 4)] })], sc := { src := [(2, { cfg := 0x11, pend := true })] } }

/-- Refutes O50: the function mask holds the message back (R397). -/
theorem not_sourcesPendAndAreDelivered : ¬ Obligations.SourcesPendAndAreDelivered := by
  rintro ⟨-, -, -, -, -, -, -, -, -, -, -, -, -, hnormal, -⟩
  obtain ⟨-, hmsix, -⟩ := hnormal 2 _ _ functionMasked (by decide) (by decide +kernel) (by decide +kernel) rfl (by decide) rfl
  have hout := congrArg (fun o => (witNext o).out.length) (hmsix (by decide) (by decide +kernel))
  exact absurd hout (by decide +kernel)

end Sys2Proof.Machine
end

section
/-! PROOFS. Power (R402 to R423): their statement has a write of POWER_CAP take effect while Claryn does not serve it. -/
set_option Elab.async false

namespace Sys2Proof.Machine

open Sys2Proof

/-- Refutes O51: before power, Claryn does not run, and a write of 1,000 W to POWER_CAP changes nothing (R445). -/
theorem not_powerIsCappedAndDiesProtected : ¬ Obligations.PowerIsCappedAndDiesProtected := by
  rintro ⟨-, -, -, -, -, -, -, -, -, -, -, -, -, -, hcap, -⟩
  have hobj := congrArg (fun o => oget (witNext o) 0x4000 1) (hcap 1000 {})
  exact absurd hobj (by decide +kernel)

end Sys2Proof.Machine
end

section
/-! SUPPORT. Claryn's services (R432 to R438): how a request that is heard is answered. -/
set_option Elab.async false

namespace Sys2Proof.Machine

open Sys2Proof

section
variable {s t u : State} {via : Via} {m : Msg} {w : Row} {c i k n : Nat} {e : Sess} {l : List Byte}

/-! Requests that are heard -/

theorem serveAll_of_idle (h : s.cla.waiting = []) : serveAll s = s := by
  rw [serveAll, h]
  exact ite_self s

/-- Claryn answers a request that it hears (R432, R433). -/
theorem serveRow_of_heard (h : Heard s t via m) :
    serveRow via m s = (respondTo via m t).2.2 (answeredWith via m (respondTo via m t).1 t (respondTo via m t).2.1) := by
  obtain ⟨hs, hw, -, ho, hb, rfl, hk⟩ := h
  have hfind : s.cla.waiting.findIdx? (sameMsg via m) = none := by rw [hw]; rfl
  rw [serveRow, hs, ho, hb, hfind]
  rw [if_neg Bool.false_ne_true, serveAll_of_idle hw, serveMsg, hs]
  refine (if_neg Bool.false_ne_true).trans ((if_neg Bool.false_ne_true).trans ?_)
  dsimp only
  rw [hk]
  rfl

/-- A message that Claryn's form rules let pass (R433, R434). -/
def Formed (via : Via) (m : Msg) : Prop :=
  ¬ (!m.ok || m.dir || decide (m.svc = 0) || decide (7 < m.svc) || (viaCan via && (decide (m.node = 0) || decide (127 < m.node))) ||
      (decide (m.svc ≠ 2) && decide (m.len ≠ 0))) = true ∧ ¬ (m.status ≠ 0 ∨ (viaCan via = false ∧ m.node ≠ 0))

theorem formed_of_row (hv : viaOk via = true) (hok : m.ok = true) (hd : m.dir = false) (h₁ : 1 ≤ m.svc) (h₇ : m.svc ≤ 7) (hn : m.node = nodeOf via)
    (hst : m.status = 0) (hl : m.svc = 2 ∨ m.len = 0) : Formed via m := by
  have hlen : (decide (m.svc ≠ 2) && decide (m.len ≠ 0)) = false := by
    obtain h | h := hl <;> simp [h]
  have hnode : (viaCan via && (decide (m.node = 0) || decide (127 < m.node))) = false ∧ ¬ (viaCan via = false ∧ m.node ≠ 0) := by
    rw [hn]
    cases via with
    | can a =>
      simp only [viaOk, Bool.and_eq_true, decide_eq_true_eq] at hv
      refine ⟨?_, fun h => Bool.noConfusion h.1⟩
      rw [nodeOf, decide_eq_false (by omega : ¬ a = 0), decide_eq_false (by omega : ¬ 127 < a)]
      rfl
    | udp a b => exact ⟨rfl, fun h => h.2 rfl⟩
    | mailbox a => exact ⟨rfl, fun h => h.2 rfl⟩
  constructor
  · rw [hok, hd, hlen, hnode.1, decide_eq_false (by omega : ¬ m.svc = 0), decide_eq_false (by omega : ¬ 7 < m.svc)]
    decide
  · exact fun h => h.elim (fun h => h hst) hnode.2

/-! Answers, service by service -/

theorem respondTo_of_malformed
    (h : (!m.ok || m.dir || decide (m.svc = 0) || decide (7 < m.svc) || (viaCan via && (decide (m.node = 0) || decide (127 < m.node))) ||
      (decide (m.svc ≠ 2) && decide (m.len ≠ 0))) = true) : respondTo via m t = (failWith t via m 9, t, id) := if_pos h

theorem respondTo_next_of_some (hf : Formed via m) (h6 : m.svc = 6) {o : Nat × Nat} (ho : nextObject t m.index m.sub = some o) :
    respondTo via m t = (⟨0, o.1, o.2, 0, 0, []⟩, t, id) := by rw [respondTo, if_neg hf.1, if_neg hf.2, if_pos h6, ho]

theorem respondTo_next_of_none (hf : Formed via m) (h6 : m.svc = 6) (ho : nextObject t m.index m.sub = none) :
    respondTo via m t = (failWith t via m 1, t, id) := by rw [respondTo, if_neg hf.1, if_neg hf.2, if_pos h6, ho]

theorem respondTo_of_noObject (hf : Formed via m) (h6 : m.svc ≠ 6) (hg : objGate t m.index m.sub = .error c) :
    respondTo via m t = (failWith t via m c, t, id) := by rw [respondTo, if_neg hf.1, if_neg hf.2, if_neg h6, hg]

/-- A request that names an object: by its service. -/
theorem respondTo_of_object (hf : Formed via m) (hg : objGate t m.index m.sub = .ok w) :
    (m.svc = 1 → respondTo via m t = if w.acc = 3 then (failWith t via m 2, t, id)
      else if 56 < (objRead t w m.sub).length then (failWith t via m 5, t, id) else (⟨0, m.index, m.sub, 0, 0, objRead t w m.sub⟩, t, id)) ∧
    (m.svc = 5 → respondTo via m t = (⟨0, m.index, m.sub, 0, 0, describeBytes t w m.sub⟩, t, id)) ∧
    ((m.svc = 3 ∨ m.svc = 4) → m.off ≠ 0 → respondTo via m t = segment via m t) ∧
    ((m.svc = 3 ∨ m.svc = 4) → m.off = 0 → respondTo via m t =
      if (openSess via m w t).1 = 0 then segment via m (openSess via m w t).2 else (failWith t via m (openSess via m w t).1, t, id)) := by
  have hstart (h6 : m.svc ≠ 6) : respondTo via m t = (if m.svc = 1 then (if w.acc = 3 then (failWith t via m 2, t, id)
      else if 56 < (objRead t w m.sub).length then (failWith t via m 5, t, id) else (⟨0, m.index, m.sub, 0, 0, objRead t w m.sub⟩, t, id))
      else respondTo via m t) := by
    rw [respondTo, if_neg hf.1, if_neg hf.2, if_neg h6, hg]
    dsimp only
    split
    · rfl
    · rfl
  refine ⟨fun h => (hstart (by omega)).trans (if_pos h), fun h => ?_, fun h ho => ?_, fun h ho => ?_⟩
  · rw [respondTo, if_neg hf.1, if_neg hf.2, if_neg (by omega), hg]
    dsimp only
    rw [if_neg (by omega), if_neg (by omega), if_pos h]
  · rw [respondTo, if_neg hf.1, if_neg hf.2, if_neg (by omega), hg]
    dsimp only
    rw [if_neg (by omega), if_neg (by omega), if_neg (by omega), if_neg (by omega), if_neg ho]
  · rw [respondTo, if_neg hf.1, if_neg hf.2, if_neg (by omega), hg]
    dsimp only
    rw [if_neg (by omega), if_neg (by omega), if_neg (by omega), if_neg (by omega), if_pos ho]

/-- A write, or a refusal of its object (R437). -/
theorem respondTo_write (hf : Formed via m) (h2 : m.svc = 2) :
    respondTo via m t = (failWith t via m (objWrite m.index m.sub m.data t).1, (objWrite m.index m.sub m.data t).2) := by
  cases hg : objGate t m.index m.sub with
  | error c =>
    rw [respondTo_of_noObject hf (by omega) hg, objWrite, hg]
  | ok w =>
    rw [respondTo, if_neg hf.1, if_neg hf.2, if_neg (by omega), hg]
    dsimp only
    rw [if_neg (by omega), if_pos h2]

/-- ABORT discards the object's session, where one is open (R437). -/
theorem respondTo_abort (hf : Formed via m) (h7 : m.svc = 7) (hg : objGate t m.index m.sub = .ok w) :
    respondTo via m t = (failWith t via m 0, if (sessOf t via).any (fun e => decide (e.key = objKey m.index m.sub)) then discardSess via t else t, id) := by
  rw [respondTo, if_neg hf.1, if_neg hf.2, if_neg (by omega), hg]
  dsimp only
  rw [if_neg (by omega), if_neg (by omega), if_neg (by omega), if_pos h7]
  cases sessOf t via with
  | none => rfl
  | some e => simp only [Option.any_some, decide_eq_true_eq]

/-! Sessions (R435, R436) -/

theorem find_via (x : Sess) (hx : x.via = via) (r : List Sess) : (x :: r).find? (fun e => decide (e.via = via)) = some x := by
  rw [List.find?_cons, decide_eq_true hx]

theorem sessOf_putSess (hv : e.via = via) : sessOf (putSess e t) via = some e := find_via e hv _

theorem sessOf_dropSess : sessOf (dropSess via t) via = none := by
  refine List.find?_eq_none.2 fun x hx => ?_
  have hne : decide (x.via ≠ via) = true := (List.mem_filter.1 hx).2
  simpa using hne

theorem discardSess_of_none (h : sessOf t via = none) : discardSess via t = t := by rw [discardSess, h]

/-- A session as it opens (R435). -/
def freshSess (via : Via) (m : Msg) (w : Row) (t : State) : Sess :=
  ⟨via, objKey m.index m.sub, decide (m.svc = 4), if m.svc = 4 then m.total else (if m.svc = 4 then [] else objRead t w m.sub).length, 0,
    if m.svc = 4 then [] else objRead t w m.sub⟩

theorem openSess_of_bad (hb : (if m.svc = 4 then (if w.len < m.total ∨ (w.ty < 8 ∧ m.total ≠ w.len) then 5 else 0)
    else if w.acc = 3 then 2 else if m.total ≠ 0 then 7 else 0) = c) (hc : c ≠ 0) : openSess via m w t = (c, t) := by
  rw [openSess]
  dsimp only
  rw [hb, if_pos hc]

theorem openSess_of_good (hb : (if m.svc = 4 then (if w.len < m.total ∨ (w.ty < 8 ∧ m.total ≠ w.len) then 5 else 0)
    else if w.acc = 3 then 2 else if m.total ≠ 0 then 7 else 0) = 0) (hn : sessOf t via = none) (hr : t.cla.sess.length < 32) :
    openSess via m w t = (0, putSess (freshSess via m w t)
      (claMod (fun c => { c with aborted := c.aborted.filter fun x => decide (x ≠ (via, objKey m.index m.sub)) }) t)) := by
  have hobj : objRead (claMod (fun c => { c with aborted := c.aborted.filter fun x => decide (x ≠ (via, objKey m.index m.sub)) }) t) w m.sub =
      objRead t w m.sub := rfl
  rw [openSess]
  dsimp only
  rw [hb, if_neg (by omega), if_neg (by omega), discardSess_of_none hn, freshSess]

/-- A segment of the session that is open for it. -/
theorem segment_of_open (hs : sessOf t via = some e) (hk : e.key = objKey m.index m.sub) (hw : e.write = decide (m.svc = 4))
    (hn : n = min (e.total - m.off) (segSize via)) :
    (m.off ≠ e.nextOff → segment via m t = (failWith t via m 10, t, id)) ∧
    (m.off = e.nextOff → m.svc = 3 → segment via m t = (⟨0, m.index, m.sub, m.off + n, e.total, (e.data.drop m.off).take n⟩,
      if e.total ≤ m.off + n then dropSess via t else putSess { e with nextOff := m.off + n } t, id)) ∧
    (m.off = e.nextOff → m.svc = 4 → m.data.length = n → m.off + n < e.total → segment via m t =
      (⟨0, m.index, m.sub, m.off + n, e.total, []⟩, putSess { e with nextOff := m.off + n, data := e.data ++ m.data } t, id)) ∧
    (m.off = e.nextOff → m.svc = 4 → m.data.length = n → e.total ≤ m.off + n → segment via m t =
      (⟨(objWrite m.index m.sub (e.data ++ m.data) (dropSess via t)).1, m.index, m.sub, m.off + n, e.total, []⟩,
        (objWrite m.index m.sub (e.data ++ m.data) (dropSess via t)).2)) := by
  subst hn
  have hopen : ¬ (e.key ≠ objKey m.index m.sub ∨ e.write ≠ decide (m.svc = 4)) := by rw [hk, hw]; simp
  refine ⟨fun ho => ?_, fun ho h3 => ?_, fun ho h4 hd hlt => ?_, fun ho h4 hd hle => ?_⟩ <;> rw [segment, hs] <;> dsimp only <;> rw [if_neg hopen]
  · rw [if_pos ho]
  · rw [if_neg (not_not.2 ho), if_pos h3, slice]
  all_goals
    have hfit : ¬ (if viaCan via then decide (m.data.length < min (e.total - m.off) (segSize via))
        else decide (m.data.length ≠ min (e.total - m.off) (segSize via))) = true := by rw [hd]; simp
    have htake : m.data.take (min (e.total - m.off) (segSize via)) = m.data := List.take_of_length_le (Nat.le_of_eq hd)
    rw [if_neg (not_not.2 ho), if_neg (by omega), if_neg hfit, htake]
  · rw [if_pos hlt]
  · rw [if_neg (by omega)]

end

end Sys2Proof.Machine
end

section
/-! PROOFS. O52: Claryn's services (R426 to R439). -/
set_option Elab.async false

namespace Sys2Proof.Machine

open Sys2Proof

section
variable {r : Req} {m : Msg} {w : Row} {s t u : State} {via : Via} {c i k n o : Nat} {d l v : List Byte} {e : Sess} {g : State → State}

/-! Requests of a service row -/

theorem served_of_heard {p : Reply × State × (State → State)} (hm : Heard s t r.via m) (hp : respondTo r.via m t = p) :
    onUnit (viaOk r.via) (serveRow r.via m s) = .next (p.2.2 (answeredWith r.via m p.1 t p.2.1)) := by
  obtain ⟨-, -, hv, -⟩ := id hm
  rw [onUnit_of_true hv, serveRow_of_heard hm, hp]

theorem formed_of_heard (n : Nat) (h : Heard s t r.via m) (hsvc : m.svc = n) (h₁ : 1 ≤ n) (h₇ : n ≤ 7) (hok : m.ok = true) (hd : m.dir = false)
    (hn : m.node = nodeOf r.via) (hst : m.status = 0) (hl : n = 2 ∨ m.len = 0) : Formed r.via m := by
  obtain ⟨-, -, hv, -⟩ := h
  subst hsvc
  exact formed_of_row hv hok hd h₁ h₇ hn hst hl

theorem mem_of_heard (h : Heard s t via m) : t.mem = s.mem := by
  obtain ⟨-, -, -, -, -, rfl, -⟩ := h
  exact (ageBit_did (W := but 30) rfl (bumpObj_did rfl (.refl s))).mem rfl

theorem serveRow_of_deaf (h : serving s = false) : serveRow via m s = s := by rw [serveRow, h]; rfl

theorem services_of_deaf (hv : viaOk r.via = true) (h : serving s = false) (n : Nat) (b : Bool) :
    exec (.read r) s = .next s ∧ exec (.write r v) s = .next s ∧ exec (.readSeg r o) s = .next s ∧ exec (.writeSeg r o k l) s = .next s ∧
    exec (.describe r) s = .next s ∧ exec (.next r) s = .next s ∧ exec (.abort r) s = .next s ∧ exec (.serviceUnknown r n b) s = .next s := by
  have hrow (m : Msg) : onUnit (viaOk r.via) (serveRow r.via m s) = .next s := by rw [onUnit_of_true hv, serveRow_of_deaf h]
  refine ⟨hrow _, hrow _, hrow _, hrow _, hrow _, hrow _, hrow _, ?_⟩
  refine (onUnit_of_true hv _).trans (congrArg Host.Outcome.next ?_)
  rw [onlyIf, serveRow_of_deaf h, ite_self]

/-! Objects that are named, read and described -/

theorem read_of_heard (h : Heard s t r.via (rowMsg r 1)) (hg : objGate t (rowMsg r 1).index (rowMsg r 1).sub = .ok w) :
    (w.acc = 3 → exec (.read r) s = .next (answeredWith r.via (rowMsg r 1) (failWith t r.via (rowMsg r 1) 2) t t)) ∧
    (w.acc ≠ 3 → 56 < (objRead t w (rowMsg r 1).sub).length →
      exec (.read r) s = .next (answeredWith r.via (rowMsg r 1) (failWith t r.via (rowMsg r 1) 5) t t)) ∧
    (w.acc ≠ 3 → (objRead t w (rowMsg r 1).sub).length ≤ 56 → exec (.read r) s =
      .next (answeredWith r.via (rowMsg r 1) ⟨0, (rowMsg r 1).index, (rowMsg r 1).sub, 0, 0, objRead t w (rowMsg r 1).sub⟩ t t)) := by
  obtain ⟨hread, -⟩ := respondTo_of_object (formed_of_heard 1 h rfl (by decide) (by decide) rfl rfl rfl rfl (.inr rfl)) hg
  refine ⟨fun ha => ?_, fun ha hl => ?_, fun ha hl => ?_⟩
  · exact served_of_heard h ((hread rfl).trans (if_pos ha))
  · exact served_of_heard h ((hread rfl).trans ((if_neg ha).trans (if_pos hl)))
  · exact served_of_heard h ((hread rfl).trans ((if_neg ha).trans (if_neg (by omega))))

theorem noObject_of_heard (r : Req) : ∀ p ∈ ([(1, .read r), (5, .describe r), (7, .abort r)] : List (Nat × Instr)),
    ∀ (m : Msg) (c : Nat) (t s : State), m = rowMsg r p.1 →
    Heard s t r.via m → objGate t m.index m.sub = .error c → exec p.2 s = .next (answeredWith r.via m (failWith t r.via m c) t t) := by
  rintro p hp m c t s rfl h hg
  have hans (n : Nat) (hn : p.1 = n) (h₁ : 1 ≤ n) (h₇ : n ≤ 7) (h₆ : n ≠ 6) := served_of_heard h
    (respondTo_of_noObject (formed_of_heard n h hn h₁ h₇ rfl rfl rfl rfl (.inr rfl)) (fun h => h₆ (hn.symm.trans h)) hg)
  simp only [List.mem_cons, List.not_mem_nil, or_false] at hp
  obtain rfl | rfl | rfl := hp
  · exact hans 1 rfl (by decide) (by decide) (by decide)
  · exact hans 5 rfl (by decide) (by decide) (by decide)
  · exact hans 7 rfl (by decide) (by decide) (by decide)

/-- What the name of an object finds (R426, R430, R450). -/
theorem objGate_cases (i k : Nat) (t : State) : (findRow i k = none → objGate t i k = .error 1) ∧
    (∀ w, findRow i k = some w → unitThere t w.unit (k - w.sub) = false → objGate t i k = .error 1) ∧
    (∀ w, findRow i k = some w → unitThere t w.unit (k - w.sub) = true → t.boot.phase = .held → servedHeld i = false → objGate t i k = .error 8) ∧
    (∀ w, findRow i k = some w → unitThere t w.unit (k - w.sub) = true → (t.boot.phase ≠ .held ∨ servedHeld i = true) → objGate t i k = .ok w) := by
  have hrow (w : Row) (hw : findRow i k = some w) (b : Bool) (hu : unitThere t w.unit (k - w.sub) = b) :
      objRow t i k = if b = true then some w else none := by rw [objRow, hw]; dsimp only; rw [hu]
  refine ⟨fun h => ?_, fun w hw hu => ?_, fun w hw hu hp hh => ?_, fun w hw hu hp => ?_⟩
  · rw [objGate, objRow, h]
  · rw [objGate, hrow w hw _ hu, if_neg Bool.false_ne_true]
  · rw [objGate, hrow w hw _ hu, if_pos rfl]
    exact if_pos ⟨hp, hh⟩
  · rw [objGate, hrow w hw _ hu, if_pos rfl]
    refine if_neg fun ⟨hheld, hno⟩ => ?_
    obtain hp | hp := hp
    · exact hp hheld
    · exact Bool.false_ne_true (hno.symm.trans hp)

theorem findRow_of_gate (h : objGate t i k = .ok w) : findRow i k = some w := by
  obtain ⟨hnone, haway, hheld, hok⟩ := objGate_cases i k t
  cases hf : findRow i k with
  | none => rw [hnone hf] at h; cases h
  | some x =>
    cases hu : unitThere t x.unit (k - x.sub) with
    | false => rw [haway x hf hu] at h; cases h
    | true =>
      by_cases hp : t.boot.phase ≠ .held ∨ servedHeld i = true
      · rw [hok x hf hu hp] at h; cases h; rfl
      · obtain ⟨hph, hs⟩ := not_or.1 hp
        rw [hheld x hf hu (not_not.1 hph) (eq_false_of_ne_true hs)] at h
        cases h

theorem describeBytes_length (t : State) (w : Row) (k : Nat) : (describeBytes t w k).length = 56 := by
  rw [describeBytes]
  simp only [List.length_append, length_leBytes, List.length_take, List.length_replicate, List.length_singleton]
  omega

theorem describe_of_heard (h : Heard s t r.via (rowMsg r 5)) (hg : objGate t (rowMsg r 5).index (rowMsg r 5).sub = .ok w) :
    exec (.describe r) s = .next (answeredWith r.via (rowMsg r 5)
      ⟨0, (rowMsg r 5).index, (rowMsg r 5).sub, 0, 0, describeBytes t w (rowMsg r 5).sub⟩ t t) := by
  obtain ⟨-, hdesc, -⟩ := respondTo_of_object (formed_of_heard 5 h rfl (by decide) (by decide) rfl rfl rfl rfl (.inr rfl)) hg
  exact served_of_heard h (hdesc rfl)

theorem next_of_heard (h : Heard s t r.via (rowMsg r 6)) :
    (∀ o, nextObject t (rowMsg r 6).index (rowMsg r 6).sub = some o →
      exec (.next r) s = .next (answeredWith r.via (rowMsg r 6) ⟨0, o.1, o.2, 0, 0, []⟩ t t)) ∧
    (nextObject t (rowMsg r 6).index (rowMsg r 6).sub = none →
      exec (.next r) s = .next (answeredWith r.via (rowMsg r 6) (failWith t r.via (rowMsg r 6) 1) t t)) := by
  have hf : Formed r.via (rowMsg r 6) := formed_of_heard 6 h rfl (by decide) (by decide) rfl rfl rfl rfl (.inr rfl)
  exact ⟨fun o ho => served_of_heard h (respondTo_next_of_some hf rfl ho), fun ho => served_of_heard h (respondTo_next_of_none hf rfl ho)⟩

/-- The object that NEXT answers comes after the one named, and exists (R434). -/
theorem nextObject_sound (i k a b : Nat) (t : State) (h : nextObject t i k = some (a, b)) : objKey i k < objKey a b ∧
    ∃ w ∈ dictRows, w.index = a ∧ w.sub ≤ b ∧ b < w.sub + w.count ∧ unitThere t w.unit (b - w.sub) = true := by
  obtain ⟨w, hw, hfind⟩ := List.exists_of_findSome?_eq_some h
  obtain ⟨j, hj, hab⟩ := Option.map_eq_some_iff.1 hfind
  obtain ⟨rfl, rfl⟩ := Prod.mk.inj hab
  have hsound := List.find?_some hj
  simp only [Bool.and_eq_true, decide_eq_true_eq] at hsound
  obtain ⟨hlo, hhi⟩ := (mem_upto _ _ _).1 (List.mem_of_find?_eq_some hj)
  exact ⟨hsound.1, w, hw, rfl, hlo, hhi, hsound.2⟩

theorem abort_of_heard (h : Heard s t r.via (rowMsg r 7)) (hg : objGate t (rowMsg r 7).index (rowMsg r 7).sub = .ok w) :
    exec (.abort r) s = .next (answeredWith r.via (rowMsg r 7) (failWith t r.via (rowMsg r 7) 0) t
      (if (sessOf t r.via).any (fun e => decide (e.key = objKey (rowMsg r 7).index (rowMsg r 7).sub)) then discardSess r.via t else t)) :=
  served_of_heard h (respondTo_abort (formed_of_heard 7 h rfl (by decide) (by decide) rfl rfl rfl rfl (.inr rfl)) rfl hg)

theorem serviceUnknown_of_heard {b : Bool} (h : Heard s t r.via { rowMsg r (n % 128) with dir := b })
    (hbad : b = true ∨ n % 128 = 0 ∨ 7 < n % 128) :
    exec (.serviceUnknown r n b) s = .next (answeredWith r.via { rowMsg r (n % 128) with dir := b }
      (failWith t r.via { rowMsg r (n % 128) with dir := b } 9) t t) := by
  have hcond : (b || decide (n % 128 = 0) || decide (7 < n % 128)) = true := by simpa [or_assoc] using hbad
  have hmal : (b || decide (n % 128 = 0) || decide (7 < n % 128) || (viaCan r.via && (decide (nodeOf r.via = 0) || decide (127 < nodeOf r.via))) ||
      (decide (n % 128 ≠ 2) && decide (0 ≠ 0))) = true := by rw [hcond]; rfl
  exact (congrArg (onUnit (viaOk r.via)) (if_pos hcond)).trans (served_of_heard h (respondTo_of_malformed hmal))

theorem serviceUnknown_of_known (hv : viaOk r.via = true) (h₁ : 1 ≤ n) (h₇ : n ≤ 7) : exec (.serviceUnknown r n false) s = .next s := by
  have hcond : (false || decide (n % 128 = 0) || decide (7 < n % 128)) = false := by
    rw [decide_eq_false (by omega : ¬ n % 128 = 0), decide_eq_false (by omega : ¬ 7 < n % 128)]
    rfl
  exact (onUnit_of_true hv _).trans (congrArg Host.Outcome.next (if_neg (not_true_of_false hcond)))

/-! Writes -/

theorem write_of_heard (h : Heard s t r.via { rowMsg r 2 with len := v.length, data := v }) (hv : v.length ≤ 56)
    (hw : objWrite (rowMsg r 2).index (rowMsg r 2).sub v t = (c, u, g)) :
    exec (.write r v) s = .next (g (answeredWith r.via { rowMsg r 2 with len := v.length, data := v }
      (failWith t r.via { rowMsg r 2 with len := v.length, data := v } c) t u)) := by
  have hf : Formed r.via { rowMsg r 2 with len := v.length, data := v } := formed_of_heard 2 h rfl (by decide) (by decide) rfl rfl rfl rfl (.inl rfl)
  have hans := respondTo_write (t := t) hf rfl
  have hmsg : ({ rowMsg r 2 with len := v.length, data := v, ok := decide (v.length ≤ 56) } : Msg) = { rowMsg r 2 with len := v.length, data := v } := by
    rw [decide_eq_true hv]; rfl
  refine (congrArg (fun m => onUnit (viaOk r.via) (serveRow r.via m s)) hmsg).trans ((served_of_heard h hans).trans ?_)
  dsimp only
  rw [hw]

theorem write_of_long (h : Heard s t r.via { rowMsg r 2 with len := v.length, data := v, ok := false }) (hv : 56 < v.length) :
    exec (.write r v) s = .next (answeredWith r.via { rowMsg r 2 with len := v.length, data := v, ok := false }
      (failWith t r.via { rowMsg r 2 with len := v.length, data := v, ok := false } 9) t t) := by
  have hmsg : ({ rowMsg r 2 with len := v.length, data := v, ok := decide (v.length ≤ 56) } : Msg) =
      { rowMsg r 2 with len := v.length, data := v, ok := false } := by rw [decide_eq_false (by omega)]
  exact (congrArg (fun m => onUnit (viaOk r.via) (serveRow r.via m s)) hmsg).trans (served_of_heard h (respondTo_of_malformed rfl))

/-- A write of an object without a rule of its own. -/
theorem objEffect_of_plain (hw : findRow i k = some w)
    (hi : i ∉ [0x1106, 0x1F00, 0x4000, 0x4010, 0x4200, 0x5010, 0x5020, 0x5030, 0x5060, 0x6000, 0x6001, 0x6002, 0x6003, 0x6010]) :
    objEffect i k l t = (0, if 8 ≤ w.ty then octSet t i k l else oset t i k (leNat l), id) := by
  simp only [List.mem_cons, List.not_mem_nil, or_false, not_or] at hi
  simp only [objEffect, hi, false_and, if_false, hw]

theorem objWrite_cases (hg : objGate t i k = .ok w) :
    ((w.acc = 0 ∨ w.acc = 1) → objWrite i k l t = (3, t, id)) ∧ (w.acc = 4 → objWrite i k l t = (4, t, id)) ∧
    (1 < w.acc → w.acc ≠ 4 → valueStatus w k l ≠ 0 → objWrite i k l t = (valueStatus w k l, t, id)) ∧
    (1 < w.acc → w.acc ≠ 4 → valueStatus w k l = 0 → objWrite i k l t = objEffect i k l t) := by
  refine ⟨fun h => ?_, fun h => ?_, fun h h4 hv => ?_, fun h h4 hv => ?_⟩ <;> rw [objWrite, hg] <;> dsimp only
  · rw [if_pos h]
  · rw [if_neg (by omega), if_pos h]
  · rw [if_neg (by omega), if_neg h4, if_neg hv]
  · rw [if_neg (by omega), if_neg h4, if_pos hv]

/-! Segments -/

theorem readSeg_opens (h : Heard s t r.via (rowMsg r 3)) (hg : objGate t (rowMsg r 3).index (rowMsg r 3).sub = .ok w) (ha : w.acc ≠ 3)
    (hs : sessOf t r.via = none) (hroom : t.cla.sess.length < 32) (hl : l = objRead t w (rowMsg r 3).sub)
    (hn : n = min l.length (segSize r.via)) :
    ∃ u, exec (.readSeg r 0) s = .next (answeredWith r.via (rowMsg r 3) ⟨0, (rowMsg r 3).index, (rowMsg r 3).sub, n, l.length, l.take n⟩ t u) ∧
      sessOf u r.via = (if l.length ≤ n then none else some ⟨r.via, objKey (rowMsg r 3).index (rowMsg r 3).sub, false, l.length, n, l⟩) ∧
      u.obj = t.obj ∧ u.oct = t.oct ∧ u.mem = s.mem := by
  obtain ⟨-, -, -, hopen⟩ := respondTo_of_object (formed_of_heard 3 h rfl (by decide) (by decide) rfl rfl rfl rfl (.inr rfl)) hg
  have hsess := openSess_of_good (via := r.via) (m := rowMsg r 3) (w := w)
    ((if_neg (by decide : ¬ 3 = 4)).trans ((if_neg ha).trans (if_neg (not_not.2 rfl)))) hs hroom
  have hstart := (hopen (.inl rfl) rfl).trans ((if_pos (congrArg Prod.fst hsess)).trans (by rw [hsess]))
  subst hl
  obtain ⟨-, hseg, -⟩ := segment_of_open (n := n) (m := rowMsg r 3) (e := freshSess r.via (rowMsg r 3) w t) (sessOf_putSess rfl) rfl rfl hn
  have hreply := hstart.trans (hseg rfl rfl)
  rw [show (rowMsg r 3).off = 0 from rfl, Nat.zero_add, List.drop_zero] at hreply
  refine ⟨_, served_of_heard h hreply, ?_⟩
  have hmem : t.mem = s.mem := mem_of_heard h
  by_cases hle : (freshSess r.via (rowMsg r 3) w t).total ≤ n
  · rw [if_pos hle, if_pos (show (objRead t w (rowMsg r 3).sub).length ≤ n from hle)]
    exact ⟨sessOf_dropSess, rfl, rfl, hmem⟩
  · rw [if_neg hle, if_neg (show ¬ (objRead t w (rowMsg r 3).sub).length ≤ n from hle)]
    exact ⟨sessOf_putSess rfl, rfl, rfl, hmem⟩

theorem readSeg_goesOn (h : Heard s t r.via { rowMsg r 3 with off := o }) (hg : objGate t (rowMsg r 3).index (rowMsg r 3).sub = .ok w) (ho : o ≠ 0)
    (hs : sessOf t r.via = some e) (hk : e.key = objKey (rowMsg r 3).index (rowMsg r 3).sub) (hw : e.write = false)
    (hn : n = min (e.total - o) (segSize r.via)) :
    (o ≠ e.nextOff → exec (.readSeg r o) s = .next (answeredWith r.via { rowMsg r 3 with off := o }
      (failWith t r.via { rowMsg r 3 with off := o } 10) t t)) ∧
    (o = e.nextOff → exec (.readSeg r o) s = .next (answeredWith r.via { rowMsg r 3 with off := o }
      ⟨0, (rowMsg r 3).index, (rowMsg r 3).sub, o + n, e.total, (e.data.drop o).take n⟩ t
      (if e.total ≤ o + n then dropSess r.via t else putSess { e with nextOff := o + n } t))) := by
  have hf : Formed r.via { rowMsg r 3 with off := o } := formed_of_heard 3 h rfl (by decide) (by decide) rfl rfl rfl rfl (.inr rfl)
  obtain ⟨-, -, hlater, -⟩ := respondTo_of_object (t := t) (w := w) hf hg
  have hstart := hlater (.inl rfl) ho
  obtain ⟨hout, hin, -⟩ := segment_of_open (n := n) (m := { rowMsg r 3 with off := o }) hs hk hw hn
  exact ⟨fun hne => served_of_heard h (hstart.trans (hout hne)), fun heq => served_of_heard h (hstart.trans (hin heq rfl))⟩

theorem writeSeg_goesOn (h : Heard s t r.via { rowMsg r 4 with off := o, total := k, data := d })
    (hg : objGate t (rowMsg r 4).index (rowMsg r 4).sub = .ok w) (ho : o ≠ 0) (hs : sessOf t r.via = some e)
    (hk : e.key = objKey (rowMsg r 4).index (rowMsg r 4).sub) (hw : e.write = true) (hat : o = e.nextOff)
    (hn : n = min (e.total - o) (segSize r.via)) (hd : d.length = n) :
    (o + n < e.total → exec (.writeSeg r o k d) s = .next (answeredWith r.via { rowMsg r 4 with off := o, total := k, data := d }
      ⟨0, (rowMsg r 4).index, (rowMsg r 4).sub, o + n, e.total, []⟩ t (putSess { e with nextOff := o + n, data := e.data ++ d } t))) ∧
    (∀ c u g, e.total ≤ o + n → objWrite (rowMsg r 4).index (rowMsg r 4).sub (e.data ++ d) (dropSess r.via t) = (c, u, g) →
      exec (.writeSeg r o k d) s = .next (g (answeredWith r.via { rowMsg r 4 with off := o, total := k, data := d }
        ⟨c, (rowMsg r 4).index, (rowMsg r 4).sub, o + n, e.total, []⟩ t u))) := by
  have hf : Formed r.via { rowMsg r 4 with off := o, total := k, data := d } :=
    formed_of_heard 4 h rfl (by decide) (by decide) rfl rfl rfl rfl (.inr rfl)
  obtain ⟨-, -, hlater, -⟩ := respondTo_of_object (t := t) (w := w) hf hg
  have hstart := hlater (.inr rfl) ho
  obtain ⟨-, -, hmore, hlast⟩ := segment_of_open (n := n) (m := { rowMsg r 4 with off := o, total := k, data := d }) hs hk hw hn
  refine ⟨fun hlt => served_of_heard h (hstart.trans (hmore hat rfl hd hlt)), fun c u g hle hwr => ?_⟩
  refine (served_of_heard h (hstart.trans (hlast hat rfl hd hle))).trans ?_
  dsimp only
  rw [hwr]

theorem writeSeg_opens (h : Heard s t r.via { rowMsg r 4 with off := 0, total := k, data := d })
    (hg : objGate t (rowMsg r 4).index (rowMsg r 4).sub = .ok w) (hk : k ≤ w.len) (hty : w.ty < 8 → k = w.len)
    (hs : sessOf t r.via = none) (hroom : t.cla.sess.length < 32) (hn : n = min k (segSize r.via)) (hd : d.length = n) (hlt : n < k) :
    ∃ u, exec (.writeSeg r 0 k d) s = .next (answeredWith r.via { rowMsg r 4 with off := 0, total := k, data := d }
        ⟨0, (rowMsg r 4).index, (rowMsg r 4).sub, n, k, []⟩ t u) ∧
      sessOf u r.via = some ⟨r.via, objKey (rowMsg r 4).index (rowMsg r 4).sub, true, k, n, d⟩ ∧ u.obj = t.obj ∧ u.oct = t.oct ∧ u.mem = s.mem := by
  have hf : Formed r.via { rowMsg r 4 with off := 0, total := k, data := d } :=
    formed_of_heard 4 h rfl (by decide) (by decide) rfl rfl rfl rfl (.inr rfl)
  obtain ⟨-, -, -, hopen⟩ := respondTo_of_object (t := t) (w := w) hf hg
  have hsess := openSess_of_good (via := r.via) (m := { rowMsg r 4 with off := 0, total := k, data := d }) (w := w)
    ((if_pos rfl).trans (if_neg (by show ¬ (w.len < k ∨ (w.ty < 8 ∧ k ≠ w.len)); omega))) hs hroom
  have hstart := (hopen (.inr rfl) rfl).trans ((if_pos (congrArg Prod.fst hsess)).trans (by rw [hsess]))
  obtain ⟨-, -, hmore, -⟩ := segment_of_open (n := n) (m := { rowMsg r 4 with off := 0, total := k, data := d })
    (e := freshSess r.via { rowMsg r 4 with off := 0, total := k, data := d } w t) (sessOf_putSess rfl) rfl rfl hn
  have hreply := hstart.trans (hmore rfl rfl hd (by show 0 + n < k; omega))
  rw [show Msg.off { rowMsg r 4 with off := 0, total := k, data := d } = 0 from rfl, Nat.zero_add] at hreply
  have hmem : t.mem = s.mem := mem_of_heard h
  exact ⟨_, served_of_heard h hreply, sessOf_putSess rfl, rfl, rfl, hmem⟩

theorem writeSeg_of_badSize (h : Heard s t r.via { rowMsg r 4 with off := 0, total := k, data := d })
    (hg : objGate t (rowMsg r 4).index (rowMsg r 4).sub = .ok w) (hk : w.len < k ∨ (w.ty < 8 ∧ k ≠ w.len)) :
    exec (.writeSeg r 0 k d) s = .next (answeredWith r.via { rowMsg r 4 with off := 0, total := k, data := d }
      (failWith t r.via { rowMsg r 4 with off := 0, total := k, data := d } 5) t t) := by
  have hf : Formed r.via { rowMsg r 4 with off := 0, total := k, data := d } :=
    formed_of_heard 4 h rfl (by decide) (by decide) rfl rfl rfl rfl (.inr rfl)
  obtain ⟨-, -, -, hopen⟩ := respondTo_of_object (t := t) (w := w) hf hg
  have hsess := openSess_of_bad (via := r.via) (m := { rowMsg r 4 with off := 0, total := k, data := d }) (w := w) (t := t)
    ((if_pos rfl).trans (if_pos hk)) (by decide)
  exact served_of_heard h ((hopen (.inr rfl) rfl).trans (by rw [hsess]))

/-! Retries and messages that wait (R432, R438) -/

theorem oget_bumpObj_ne {i' k' b : Nat} (h : objKey i' k' ≠ objKey i k) : oget (bumpObj i k b n s) i' k' = oget s i' k' := by
  rw [bumpObj]
  dsimp only
  split
  · exact oget_oset_ne _ _ h
  · exact oget_oset_ne _ _ h

theorem oget_ageBit : oget (ageBit s).2 i k = oget s i k := by
  rw [ageBit]
  split
  · rfl
  · rfl

theorem sendVia_udp {a b : Nat} {x : Emit} (hr : inReset s = false) (ha : oget s 0x1101 6 ≠ 0) : sendVia (.udp a b) x s = emit x s :=
  (if_neg (not_true_of_false hr)).trans (if_neg ha)

theorem keep_inert (q : Kept) (s : State) : (keep q s).boot = s.boot ∧ (keep q s).obj = s.obj :=
  ⟨(keep_did (W := but 3) rfl (.refl s)).boot rfl, (keep_did (W := but 11) rfl (.refl s)).obj rfl⟩

theorem read_of_retry {q : Kept} (hs : serving s = true) (hw : s.cla.waiting = []) (hv : viaOk r.via = true) (ho : viaOpen s r.via = true)
    (hb : viaBarred s r.via = false) (ht : t = (ageBit (bumpObj 0x1105 2 64 1 s)).2)
    (hq : keptFor t r.via (rowMsg r 1) (ageBit (bumpObj 0x1105 2 64 1 s)).1 = some q) (hc : viaCan r.via = false) :
    exec (.read r) s = .next (emit q.resp (keep { q with frame := keptAt t } t)) := by
  have hfind : s.cla.waiting.findIdx? (sameMsg r.via (rowMsg r 1)) = none := by rw [hw]; rfl
  have hboot : t.boot = s.boot := by rw [ht]; exact (ageBit_did (W := but 3) rfl (bumpObj_did rfl (.refl s))).boot rfl
  have haddr : oget t 0x1101 6 = oget s 0x1101 6 := by rw [ht, oget_ageBit, oget_bumpObj_ne (by decide)]
  have hup : inReset s = false := by
    simp only [serving, Bool.and_eq_true, Bool.not_eq_true'] at hs
    exact hs.1.2
  obtain ⟨hkboot, hkobj⟩ := keep_inert { q with frame := keptAt t } t
  refine (onUnit_of_true hv _).trans (congrArg Host.Outcome.next ?_)
  rw [serveRow, hs, ho, hb, hfind]
  refine (if_neg Bool.false_ne_true).trans ((if_neg Bool.false_ne_true).trans ?_)
  dsimp only
  rw [serveAll_of_idle hw, serveMsg, hs]
  refine (if_neg Bool.false_ne_true).trans ?_
  dsimp only
  rw [← ht, hq]
  dsimp only
  cases hvia : r.via with
  | can a => rw [hvia] at hc; cases hc
  | mailbox a => rw [hvia, keptFor, viaBox, if_pos rfl] at hq; cases hq
  | udp a b =>
    refine sendVia_udp ?_ ?_
    · rw [inReset, hkboot, hboot]; exact hup
    · rw [oget, hkobj]
      show oget t 0x1101 6 ≠ 0
      rw [haddr]
      rw [hvia] at ho
      exact of_decide_eq_true ho

theorem keptFor_young {q : Kept} {b : Bool} (h : keptFor s via m b = some q) (hon : s.tb.on = true) (hf : q.frame.isSome = true) :
    ∃ f, q.frame = some f ∧ frameNow s ≤ f + framesIn s 2 := by
  obtain ⟨f, hf⟩ := Option.isSome_iff_exists.1 hf
  refine ⟨f, hf, ?_⟩
  cases hbox : viaBox via with
  | true => rw [keptFor, if_pos hbox] at h; cases h
  | false =>
    rw [keptFor, if_neg (not_true_of_false hbox)] at h
    have hy := List.find?_some h
    simp only [Bool.and_eq_true] at hy
    have hyoung := hy.2
    rw [keptYoung, keptAt, if_pos hon, hf] at hyoung
    exact of_decide_eq_true hyoung

theorem read_of_closed (hs : serving s = true) (hv : viaOk r.via = true) :
    (viaOpen s r.via = false → exec (.read r) s = .next s) ∧
    (viaOpen s r.via = true → viaBarred s r.via = true → exec (.read r) s = .next (bumpObj 0x1105 1 32 1 s)) := by
  refine ⟨fun ho => ?_, fun ho hb => ?_⟩ <;> refine (onUnit_of_true hv _).trans (congrArg Host.Outcome.next ?_)
  · rw [serveRow, hs, ho]; rfl
  · rw [serveRow, hs, ho, hb]; rfl

theorem failWith_cases (t : State) (via : Via) (m : Msg) (c : Nat) (e : Sess) :
    (isSeg m.svc = false → failWith t via m c = ⟨c, m.index, m.sub, 0, 0, []⟩) ∧
    (sessOf t via = none → failWith t via m c = ⟨c, m.index, m.sub, 0, 0, []⟩) ∧
    (sessOf t via = some e → isSeg m.svc = true → e.key = objKey m.index m.sub → e.write = decide (m.svc = 4) →
      failWith t via m c = ⟨c, m.index, m.sub, e.nextOff, e.total, []⟩) := by
  refine ⟨fun h => ?_, fun h => ?_, fun h hseg hk hw => ?_⟩ <;> rw [failWith]
  · cases sessOf t via with
    | none => rfl
    | some x => dsimp only; rw [h]; rfl
  · rw [h]
  · rw [h]
    dsimp only
    rw [hseg, decide_eq_true hk, decide_eq_true hw]
    rfl

theorem read_after_waiting {x : Via × List Byte} (hs : serving s = true) (hv : viaOk r.via = true) (hw : s.cla.waiting = [x])
    (ho : viaOpen s r.via = true) (hb : viaBarred s r.via = false) (ht : t = { s with cla := { s.cla with waiting := [] } }) :
    exec (.read r) s = .next (if sameMsg r.via (rowMsg r 1) x then serveMsg x.1 (parseMsg x.2) t
      else serveMsg r.via (rowMsg r 1) (serveMsg x.1 (parseMsg x.2) t)) := by
  subst ht
  have hfirst : serveFirst 1 s = serveMsg x.1 (parseMsg x.2) { s with cla := { s.cla with waiting := [] } } := by
    rw [serveFirst, hw]; rfl
  have hall : serveAll s = serveFirst 1 s := by rw [serveAll, hs, if_pos rfl, hw]; rfl
  refine (onUnit_of_true hv _).trans (congrArg Host.Outcome.next ?_)
  rw [serveRow, hs, ho, hb, hw, List.findIdx?_singleton]
  refine (if_neg Bool.false_ne_true).trans ((if_neg Bool.false_ne_true).trans ?_)
  rw [← hfirst, ← hall]
  by_cases hsame : sameMsg r.via (rowMsg r 1) x = true
  · rw [if_pos hsame, if_pos hsame, hall]
  · rw [if_neg hsame, if_neg hsame]

theorem segmentSessionTimeout_cases (via : Via) (s : State) :
    (serving s = true → exec (.segmentSessionTimeout via) s = .next { s with cla := { s.cla with
      sess := s.cla.sess.filter fun e => decide (e.via ≠ via) } }) ∧
    (serving s = false → exec (.segmentSessionTimeout via) s = .next s) :=
  ⟨fun h => congrArg Host.Outcome.next (if_pos h), fun h => congrArg Host.Outcome.next (if_neg (not_true_of_false h))⟩

end

/-- Settles O52: a service's request is heard, is well formed, and is answered by what its service finds. -/
theorem clarynServicesAnswerRequests : Obligations.ClarynServicesAnswerRequests := by
  unfold Obligations.ClarynServicesAnswerRequests
  refine ⟨?_, ?_, noObject_of_heard, objGate_cases, ?_, ?_, ?_, ?_, ?_, ?_, ?_, ?_, ?_, ?_, ?_, ?_, ?_, ?_, ?_, ?_, ?_, ?_, ?_, ?_, ?_⟩
  · rintro r v l o k n d s hv h
    exact services_of_deaf hv h n d
  · rintro r m w t s rfl h hg
    exact read_of_heard h hg
  · rintro r v m c g t u s rfl hv h hw
    exact write_of_heard h hv hw
  · rintro r v m t s rfl hv h
    exact write_of_long h hv
  · intro i k l w t hg
    obtain ⟨hro, hblock, hbad, hgood⟩ := objWrite_cases (l := l) hg
    exact ⟨hro, hblock, hbad, fun h₁ h₄ hv hi => (hgood h₁ h₄ hv).trans (objEffect_of_plain (findRow_of_gate hg) hi)⟩
  · rintro r m w l n t s rfl h hg ha hs hroom hl hn
    exact readSeg_opens h hg ha hs hroom hl hn
  · rintro r o n m w e t s rfl h hg ho hs hk hw hn
    exact readSeg_goesOn h hg ho hs hk hw hn
  · rintro r o k n d m w e t s rfl h hg ho hs hk hw hat hn hd
    exact writeSeg_goesOn h hg ho hs hk hw hat hn hd
  · rintro r k n d m w t s rfl h hg hk hty hs hroom hn hd hlt
    exact writeSeg_opens h hg hk hty hs hroom hn hd hlt
  · rintro r k d m w t s rfl h hg hk
    exact writeSeg_of_badSize h hg hk
  · rintro r m w t s rfl h hg
    exact describe_of_heard h hg
  · exact fun w k t => describeBytes_length t w k
  · rintro r m t s rfl h
    exact next_of_heard h
  · exact nextObject_sound
  · rintro r m w t s rfl h hg
    exact abort_of_heard h hg
  · rintro r n d m t s rfl h hbad
    exact serviceUnknown_of_heard h hbad
  · exact fun r n s hv h₁ h₇ => serviceUnknown_of_known hv h₁ h₇
  · rintro r m q x t s rfl hs hw hv ho hb rfl ht hq hc
    exact read_of_retry hs hw hv ho hb ht hq hc
  · exact fun m via q b s => keptFor_young
  · exact fun r s => read_of_closed
  · exact failWith_cases
  · rintro r m e t s rfl hs hv hw ho hb ht
    exact read_after_waiting hs hv hw ho hb ht
  · exact segmentSessionTimeout_cases

end Sys2Proof.Machine
end

section
/-! PROOFS. O53: Claryn's transports, its stores and its resets (R432, R440 to R450). -/
set_option Elab.async false

namespace Sys2Proof.Machine

open Sys2Proof

section
variable {s t : State} {a c i k n p v : Nat} {l : List Byte} {fd x b : Bool} {m : Mbox} {g : CfgBank}

/-! Messages that arrive -/

theorem arriveMsg_of_room (via : Via) (l : List Byte) (h : s.cla.waiting.length < 64) :
    arriveMsg via l s = { s with cla := { s.cla with waiting := s.cla.waiting ++ [(via, l)] } } := if_pos h

/-- The mailbox is never turned away: its channel admits one message at a time (R443). -/
theorem arriveMsg_mailbox (c : Nat) (l : List Byte) (s : State) :
    arriveMsg (.mailbox c) l s = { s with cla := { s.cla with waiting := s.cla.waiting ++ [(.mailbox c, l)] } } := by
  rw [arriveMsg]
  dsimp only
  split
  · rfl
  · rfl

theorem canSettle_cla (s : State) : (canSettle s).cla = s.cla := by
  rw [canSettle]
  split
  · rfl
  · rfl

theorem canFrame_of_deaf (h : serving s = false ∨ fd = false ∨ x = true ∨ s.boot.canNode = 0 ∨ oget s 0x1100 3 = 2) :
    exec (.canFrame i fd x l) s = .next s := by
  have hcond : (!(serving s) || !fd || x || decide (s.boot.canNode.toNat = 0) || decide (oget s 0x1100 3 = 2)) = true := by
    obtain h | h | h | h | h := h <;> simp [h]
  exact congrArg Host.Outcome.next (if_pos hcond)

theorem canFrame_of_heard (hs : serving s = true) (hn : n = s.boot.canNode.toNat) (h0 : n ≠ 0) (hoff : oget s 0x1100 3 ≠ 2)
    (ht : t = canSettle { s with cla := { s.cla with rec_ := if 127 < s.cla.rec_ then 127 else s.cla.rec_ - 1 } }) :
    exec (.canFrame i true false l) s = .next (if i = 0x100 + n ∨ i = 0x200 + n ∨ i = 0x300 + n then
        (if oget t 0x1100 3 = 3 then t else clarynEvent 0x1100 3 3 (oset t 0x1100 3 3))
      else if i = 0x280 + n ∧ 8 ≤ l.length then arriveMsg (.can (leAt l 2 1)) (l.take 64) t else t) := by
  subst hn ht
  have hcond : (!(serving s) || !true || false || decide (s.boot.canNode.toNat = 0) || decide (oget s 0x1100 3 = 2)) = false := by
    rw [hs, decide_eq_false h0, decide_eq_false hoff]; rfl
  exact congrArg Host.Outcome.next (if_neg (not_true_of_false hcond))

theorem canFrame_cases (hs : serving s = true) (hn : n = s.boot.canNode.toNat) (h0 : n ≠ 0) (hoff : oget s 0x1100 3 ≠ 2)
    (ht : t = canSettle { s with cla := { s.cla with rec_ := if 127 < s.cla.rec_ then 127 else s.cla.rec_ - 1 } }) :
    (i = 0x280 + n → 8 ≤ l.length → s.cla.waiting.length < 64 → exec (.canFrame i true false l) s = .next { t with cla := { t.cla with
      waiting := t.cla.waiting ++ [(.can (leAt l 2 1), l.take 64)] } }) ∧
    ((i ≠ 0x280 + n ∨ l.length < 8) → i ≠ 0x100 + n → i ≠ 0x200 + n → i ≠ 0x300 + n → exec (.canFrame i true false l) s = .next t) ∧
    ((i = 0x100 + n ∨ i = 0x200 + n ∨ i = 0x300 + n) → oget t 0x1100 3 ≠ 3 →
      exec (.canFrame i true false l) s = .next (clarynEvent 0x1100 3 3 (oset t 0x1100 3 3))) := by
  have hrun := canFrame_of_heard (i := i) (l := l) hs hn h0 hoff ht
  refine ⟨fun hi hl hw => ?_, fun hi h₁ h₂ h₃ => ?_, fun hi h3 => ?_⟩ <;> refine hrun.trans (congrArg Host.Outcome.next ?_)
  · have hroom : t.cla.waiting.length < 64 := by rw [ht, canSettle_cla]; exact hw
    rw [if_neg (by omega), if_pos ⟨hi, hl⟩, arriveMsg_of_room _ _ hroom]
  · rw [if_neg (by omega), if_neg (by omega)]
  · rw [if_pos hi, if_neg h3]

theorem udpDatagram_of_deaf (h : serving s = false ∨ oget s 0x1101 6 = 0) : exec (.udpDatagram a p l) s = .next s := by
  have hcond : (!(serving s) || decide (oget s 0x1101 6 = 0)) = true := by
    obtain h | h := h <;> simp [h]
  exact congrArg Host.Outcome.next (if_pos hcond)

theorem udpDatagram_cases (hs : serving s = true) (ha : oget s 0x1101 6 ≠ 0) :
    (l.take 4 = [0xE9, 0xC1, 1, 0] → 12 ≤ l.length → l.length ≤ 1044 → sourceAllowed s a = true → s.cla.waiting.length < 64 →
      exec (.udpDatagram a p l) s = .next { s with cla := { s.cla with waiting := s.cla.waiting ++ [(.udp a p, l.drop 4)] } }) ∧
    ((l.take 4 ≠ [0xE9, 0xC1, 1, 0] ∨ l.length < 12 ∨ 1044 < l.length ∨ sourceAllowed s a = false) → oget s 0x1105 1 + 1 < 2 ^ 32 →
      exec (.udpDatagram a p l) s = .next (oset s 0x1105 1 (oget s 0x1105 1 + 1))) := by
  have hcond : (!(serving s) || decide (oget s 0x1101 6 = 0)) = false := by rw [hs, decide_eq_false ha]; rfl
  have hrun : exec (.udpDatagram a p l) s = .next (if l.take 4 ≠ [0xE9, 0xC1, 1, 0] ∨ l.length < 12 ∨ 1044 < l.length ∨ sourceAllowed s a = false
      then bumpObj 0x1105 1 32 1 s else arriveMsg (.udp a p) (l.drop 4) s) := congrArg Host.Outcome.next (if_neg (not_true_of_false hcond))
  refine ⟨fun hpre hlo hhi hok hw => ?_, fun hbad hc => ?_⟩ <;> refine hrun.trans (congrArg Host.Outcome.next ?_)
  · have hgood : ¬ (l.take 4 ≠ [0xE9, 0xC1, 1, 0] ∨ l.length < 12 ∨ 1044 < l.length ∨ sourceAllowed s a = false) := by
      rw [hok]
      rintro (h | h | h | h)
      · exact h hpre
      · omega
      · omega
      · cases h
    rw [if_neg hgood, arriveMsg_of_room _ _ hw]
  · rw [if_pos hbad, bumpObj_below _ _ _ _ _ hc]

theorem mailboxDoor_cases {w : W64} (hc : c < 2) (hm : m = mboxAt s c) :
    ((s.boot.claryn && !(inReset s)) = false → exec (.mailboxDoor c w) s = .next s) ∧
    (s.boot.claryn = true → inReset s = false → (m.busy = true ∨ fld 12 0 w < 8 ∨ 4096 < fld 12 0 w) →
      exec (.mailboxDoor c w) s = .next (mboxPut c { m with ovr := true } s)) ∧
    (∀ t, s.boot.claryn = true → inReset s = false → m.busy = false → 8 ≤ fld 12 0 w → fld 12 0 w ≤ 4096 →
      t = mboxPut c { m with busy := true, done := false } s →
      exec (.mailboxDoor c w) s = .next { t with cla := { t.cla with waiting := t.cla.waiting ++ [(.mailbox c, mbReqBytes s c (fld 12 0 w))] } }) := by
  subst hm
  have hon (hb : s.boot.claryn = true) (hr : inReset s = false) : ¬ (!(s.boot.claryn && !(inReset s))) = true := by rw [hb, hr]; decide
  refine ⟨fun h => ?_, fun hb hr hbad => ?_, fun t hb hr hfree hlo hhi ht => ?_⟩ <;>
    refine (onUnit_of_true (decide_eq_true hc) _).trans (congrArg Host.Outcome.next ?_) <;> rw [mailboxDoorEffect]
  · rw [h]; rfl
  · rw [if_neg (hon hb hr)]
    exact if_pos hbad
  · subst ht
    have hgood : ¬ ((mboxAt s c).busy = true ∨ fld 12 0 w < 8 ∨ 4096 < fld 12 0 w) := by rw [hfree]; simp; omega
    rw [if_neg (hon hb hr)]
    exact (if_neg hgood).trans (arriveMsg_mailbox _ _ _)

/-! ARP, ICMP and DHCP (R442) -/

theorem addressed_cases (a b : Nat) (l : List Byte) (s : State) : (serving s = true → oget s 0x1101 6 = a → a ≠ 0 →
      exec (.arpRequest a b) s = .next { s with out := .arpReply b :: s.out } ∧
      exec (.icmpEcho a b l) s = .next { s with out := .icmpReply b l :: s.out }) ∧
    ((serving s = false ∨ oget s 0x1101 6 = 0 ∨ oget s 0x1101 6 ≠ a) → exec (.arpRequest a b) s = .next s ∧ exec (.icmpEcho a b l) s = .next s) := by
  refine ⟨fun hs ha h0 => ?_, fun h => ?_⟩
  · have hown : ownAddress s a = true := by
      rw [ownAddress, hs, decide_eq_true ha, decide_eq_true (ha ▸ h0)]; rfl
    exact ⟨congrArg Host.Outcome.next (if_pos hown), congrArg Host.Outcome.next (if_pos hown)⟩
  · have hown : ¬ ownAddress s a = true := by
      rw [ownAddress]
      obtain h | h | h := h <;> simp [h]
    exact ⟨congrArg Host.Outcome.next (if_neg hown), congrArg Host.Outcome.next (if_neg hown)⟩

theorem dhcp_of_deaf (h : (serving s && s.cla.dhcp) = false) : exec (.dhcpMessage k a n) s = .next s ∧ exec .dhcpRetry s = .next s := by
  constructor
  · refine congrArg Host.Outcome.next ?_
    rw [dhcpEffect, h]
    rfl
  · refine congrArg Host.Outcome.next ?_
    rw [h]
    rfl

theorem dhcp_cases (hs : serving s = true) (hd : s.cla.dhcp = true) :
    (k = 2 → s.cla.lease = false →
      exec (.dhcpMessage k a n) s = .next { s with cla := { s.cla with offered := a }, out := .dhcpRequest :: s.out }) ∧
    (k = 5 → s.cla.offered ≠ 0 →
      exec (.dhcpMessage k a n) s = .next (oset { s with cla := { s.cla with lease := true } } 0x1101 6 (a % 2 ^ 32))) ∧
    (k = 6 → ∃ t, exec (.dhcpMessage k a n) s = .next t ∧ t.out = .dhcpDiscover :: s.out ∧
      t.cla = { s.cla with lease := false, offered := 0 } ∧ t.obj = (oset s 0x1101 6 0).obj) ∧
    (s.cla.lease = false → exec .dhcpRetry s = .next { s with out := .dhcpDiscover :: s.out }) ∧
    (s.cla.lease = true → exec .dhcpRetry s = .next s) := by
  have hon : ¬ (!(serving s && s.cla.dhcp)) = true := by rw [hs, hd]; decide
  refine ⟨?_, ?_, ?_, fun hl => ?_, fun hl => ?_⟩
  · rintro rfl hl
    exact congrArg Host.Outcome.next ((if_neg hon).trans ((if_pos rfl).trans (if_neg (not_true_of_false hl))))
  · rintro rfl ho
    exact congrArg Host.Outcome.next ((if_neg hon).trans ((if_neg (by decide)).trans ((if_pos rfl).trans (if_neg ho))))
  · rintro rfl
    exact ⟨_, congrArg Host.Outcome.next ((if_neg hon).trans ((if_neg (by decide)).trans ((if_neg (by decide)).trans (if_pos rfl)))), rfl, rfl, rfl⟩
  · exact congrArg Host.Outcome.next (if_pos (by rw [hs, hd, hl]; rfl))
  · exact congrArg Host.Outcome.next (if_neg (by rw [hl]; simp))

theorem dhcpLeaseExpiry_cases (hs : serving s = true) (hl : s.cla.lease = true) :
    exec (.dhcpLeaseExpiry false) s = .next { s with out := .dhcpRequest :: s.out } ∧
    exec (.dhcpLeaseExpiry true) s = .next (oset { s with cla := { s.cla with lease := false, offered := 0 } } 0x1101 6 0) := by
  have hon : (serving s && s.cla.lease) = true := by rw [hs, hl]; rfl
  exact ⟨congrArg Host.Outcome.next (if_pos hon), congrArg Host.Outcome.next (if_pos hon)⟩

theorem ethLinkChange_eq (v : Nat) (s : State) :
    exec (.ethLinkChange v) s = .next (if serving s = true ∧ v < 3 then oset s 0x1101 7 v else s) := by
  refine congrArg Host.Outcome.next ?_
  rw [onlyIf]
  simp only [Bool.and_eq_true, decide_eq_true_eq]

/-! Heartbeats (R444) -/

theorem canSent_inert (s : State) : (canSent s).out = s.out ∧ (canSent s).boot = s.boot ∧ (canSent s).mem = s.mem :=
  ⟨(canSent_did (W := but 2) rfl (.refl s)).out rfl, (canSent_did (W := but 3) rfl (.refl s)).boot rfl,
    (canSent_did (W := but 30) rfl (.refl s)).mem rfl⟩

theorem canSent_hbSeq (s : State) : (canSent s).cla.hbSeq = s.cla.hbSeq := by rw [canSent, canSettle_cla]

theorem clarynDests_of_silent (hc : s.boot.canNode = 0) (ha : oget s 0x1101 6 = 0) : clarynDests s true true = [] := by
  simp [clarynDests, hc, ha]

theorem clarynDests_of_can (hc : s.boot.canNode ≠ 0) (hon : oget s 0x1100 3 < 2) (ha : oget s 0x1101 6 = 0) : clarynDests s true true = [0] := by
  simp only [clarynDests, hon, ha, ne_eq, hc, not_false_eq_true, not_true_eq_false, decide_true, decide_false, Bool.and_true, Bool.and_false,
    if_true, Bool.false_eq_true, if_false, List.append_nil]

theorem heartbeat_cases (hs : serving s = true) :
    (s.boot.canNode = 0 → oget s 0x1101 6 = 0 →
      exec .heartbeat s = .next { s with cla := { s.cla with hbSeq := (s.cla.hbSeq + 1) % 2 ^ 32 } }) ∧
    (s.boot.canNode ≠ 0 → oget s 0x1100 3 < 2 → oget s 0x1101 6 = 0 →
      ∃ t, exec .heartbeat s = .next t ∧ t.out = .heartbeat 0 (now s) s.chips.chipId (runState s) 0 s.flash.incarnation s.cla.hbSeq s.tb.state (hbFlags s)
        (wireOf s 0 0x300 (ownMsg 0x20 0 0 (heartbeatValue s (runState s) 0 s.cla.hbSeq))) :: s.out ∧
        t.cla.hbSeq = (s.cla.hbSeq + 1) % 2 ^ 32 ∧ t.boot = s.boot ∧ t.mem = s.mem) := by
  have hrun : exec .heartbeat s = .next (sendHeartbeat (runState s) 0 s) := congrArg Host.Outcome.next (if_pos hs)
  refine ⟨fun hc ha => ?_, fun hc hon ha => ?_⟩
  · rw [hrun, sendHeartbeat, clarynDests_of_silent hc ha]
    rfl
  · refine ⟨_, hrun, ?_⟩
    rw [sendHeartbeat, clarynDests_of_can hc hon ha, List.foldl_cons, List.foldl_nil, emitTo, if_pos rfl]
    obtain ⟨hout, hboot, hmem⟩ := canSent_inert (emit (.heartbeat 0 (now s) s.chips.chipId (runState s) 0 s.flash.incarnation s.cla.hbSeq s.tb.state
      (hbFlags s) (wireOf s 0 0x300 (ownMsg 0x20 0 0 (heartbeatValue s (runState s) 0 s.cla.hbSeq))))
      { s with cla := { s.cla with hbSeq := (s.cla.hbSeq + 1) % 2 ^ 32 } })
    exact ⟨hout, canSent_hbSeq _, hboot, hmem⟩

/-! Stores and resets (R447 to R450) -/

theorem commands_of_deaf (h : serving s = false) : exec .heartbeat s = .next s ∧ exec .storeCmd s = .next s ∧ exec .storeDefaults s = .next s ∧
    (∀ b, exec (.storeComplete b) s = .next s) ∧ (∀ v, exec (.resetCmd v) s = .next s) ∧ (∀ b, exec (.holdRelease b) s = .next s) ∧
    (∀ b, exec (.canErrorDetected b) s = .next s) ∧ exec .canBusOffRecovery s = .next s := by
  have hoff (t : State) : onlyIf (serving s) t s = s := if_neg (not_true_of_false h)
  refine ⟨congrArg Host.Outcome.next (hoff _), congrArg Host.Outcome.next (hoff _), congrArg Host.Outcome.next (hoff _),
    fun _ => congrArg Host.Outcome.next (hoff _), fun _ => congrArg Host.Outcome.next (hoff _), fun _ => congrArg Host.Outcome.next (hoff _),
    fun b => congrArg Host.Outcome.next ?_, congrArg Host.Outcome.next ?_⟩
  · rw [canErrorEffect, h]; rfl
  · rw [h]; rfl

theorem store_of_busy (hs : serving s = true) (hb : oget s 0x1106 2 = 1) : exec .storeCmd s = .next s ∧ exec .storeDefaults s = .next s := by
  have hset (v : Nat) (hv : ¬ (v ≠ 1 ∧ v ≠ 2)) : onlyIf (serving s) (storeSet v s).2 s = s := by
    rw [hs, onlyIf_true, storeSet, if_neg hv, if_pos hb]
  exact ⟨congrArg Host.Outcome.next (hset 1 (by decide)), congrArg Host.Outcome.next (hset 2 (by decide))⟩

theorem store_of_idle (hs : serving s = true) (hb : oget s 0x1106 2 ≠ 1) :
    exec .storeCmd s = .next { oset s 0x1106 2 1 with cla := { s.cla with storing := 1, storeNums := storeNums s, storeOcts := storeOcts s } } ∧
    exec .storeDefaults s = .next { oset s 0x1106 2 1 with cla := { s.cla with storing := 2, storeNums := [], storeOcts := [] } } := by
  constructor
  · refine congrArg Host.Outcome.next ?_
    rw [hs, onlyIf_true, storeSet, if_neg (by decide), if_neg hb]
    rfl
  · refine congrArg Host.Outcome.next ?_
    rw [hs, onlyIf_true, storeSet, if_neg (by decide), if_neg hb]
    rfl

/-- The state in which a bank has taken the values. -/
def bankStored (first : Bool) (g : CfgBank) (s : State) : State :=
  { s with
    cla := { s.cla with storing := 0, storeNums := [], storeOcts := [] }
    flash := if first then { s.flash with cfg1 := g } else { s.flash with cfg0 := g } }

theorem storeComplete_of_some (hs : serving s = true) (hst : s.cla.storing ≠ 0) (hk : cfgBank s = some g) (b : Bool) :
    exec (.storeComplete b) s = .next (if b then
        oset (oset (bankStored (decide (g = s.flash.cfg0)) ⟨g.seq + 1, b, s.cla.storeNums, s.cla.storeOcts⟩ s) 0x1106 2 2) 0x1106 3 ((g.seq + 1) % 2 ^ 32)
      else oset (bankStored (decide (g = s.flash.cfg0)) ⟨g.seq + 1, b, s.cla.storeNums, s.cla.storeOcts⟩ s) 0x1106 2 3) := by
  refine congrArg Host.Outcome.next ?_
  rw [hs, onlyIf_true, storeCompleteEffect, if_neg hst, hk]
  rfl

theorem storeComplete_of_none (hs : serving s = true) (hst : s.cla.storing ≠ 0) (hk : cfgBank s = none) (b : Bool) :
    exec (.storeComplete b) s = .next (if b then
        oset (oset (bankStored false ⟨1, b, s.cla.storeNums, s.cla.storeOcts⟩ s) 0x1106 2 2) 0x1106 3 (1 % 2 ^ 32)
      else oset (bankStored false ⟨1, b, s.cla.storeNums, s.cla.storeOcts⟩ s) 0x1106 2 3) := by
  refine congrArg Host.Outcome.next ?_
  rw [hs, onlyIf_true, storeCompleteEffect, if_neg hst, hk]
  rfl

theorem storeStatus_after (t : State) (v : Nat) : oget (oset (oset t 0x1106 2 2) 0x1106 3 v) 0x1106 2 = 2 ∧ oget (oset t 0x1106 2 3) 0x1106 2 = 3 :=
  ⟨(oget_oset_ne _ _ (by decide)).trans (oget_oset_self (by decide +kernel)), oget_oset_self (by decide +kernel)⟩

theorem cfgBank_sound (h : cfgBank s = some g) : g.ok = true ∧ (g = s.flash.cfg0 ∨ g = s.flash.cfg1) := by
  rw [cfgBank] at h
  split at h
  · rename_i hcond
    obtain rfl := Option.some.inj h
    exact ⟨(Bool.and_eq_true_iff.1 hcond).1, .inl rfl⟩
  · split at h
    · rename_i hok
      obtain rfl := Option.some.inj h
      exact ⟨hok, .inr rfl⟩
    · cases h

/-- A bank that does not verify leaves the bank in use, for it is the other one. -/
theorem cfgBank_of_failed {q : CfgBank} (hq : q.ok = false) (h : cfgBank s = some g) : cfgBank (bankStored (decide (g = s.flash.cfg0)) q s) = some g := by
  obtain ⟨hok, hwhich⟩ := cfgBank_sound h
  by_cases hg : g = s.flash.cfg0
  · rw [decide_eq_true hg, cfgBank]
    show (if s.flash.cfg0.ok && (!q.ok || decide (q.seq ≤ s.flash.cfg0.seq)) then some s.flash.cfg0 else if q.ok then some q else none) = some g
    rw [hq, ← hg, hok]
    rfl
  · obtain rfl : g = s.flash.cfg1 := hwhich.resolve_left hg
    rw [decide_eq_false hg, cfgBank]
    show (if q.ok && (!s.flash.cfg1.ok || decide (s.flash.cfg1.seq ≤ q.seq)) then some q else if s.flash.cfg1.ok then some s.flash.cfg1 else none) = _
    rw [hq, hok]
    rfl

theorem cfgBank_of_failedFirst {q : CfgBank} (hq : q.ok = false) (h : cfgBank s = none) : cfgBank (bankStored false q s) = none := by
  have hsecond : s.flash.cfg1.ok = false := by
    rw [cfgBank] at h
    split at h
    · cases h
    · split at h
      · cases h
      · exact eq_false_of_ne_true ‹_›
  rw [cfgBank]
  show (if q.ok && (!s.flash.cfg1.ok || decide (s.flash.cfg1.seq ≤ q.seq)) then some q else if s.flash.cfg1.ok then some s.flash.cfg1 else none) = _
  rw [hq, hsecond]
  rfl

theorem storeComplete_of_flaw (hs : serving s = true) (hst : s.cla.storing ≠ 0) : ∃ t, exec (.storeComplete false) s = .next t ∧
    t.cla.storing = 0 ∧ oget t 0x1106 2 = 3 ∧ cfgBank t = cfgBank s ∧ t.mem = s.mem := by
  cases hk : cfgBank s with
  | none => exact ⟨_, storeComplete_of_none hs hst hk false, rfl, (storeStatus_after _ 0).2, cfgBank_of_failedFirst rfl hk, rfl⟩
  | some g => exact ⟨_, storeComplete_of_some hs hst hk false, rfl, (storeStatus_after _ 0).2, cfgBank_of_failed rfl hk, rfl⟩

theorem storeComplete_of_idle (hs : serving s = true) (hst : s.cla.storing = 0) (b : Bool) : exec (.storeComplete b) s = .next s := by
  refine congrArg Host.Outcome.next ?_
  rw [hs, onlyIf_true, storeCompleteEffect, if_pos hst]

theorem resetCmd_eq (hs : serving s = true) (v : Nat) :
    exec (.resetCmd v) s = .next (if v = 0xE9 then record 0x0401 0 1 4 (packageReset 2 s) else s) := by
  refine congrArg Host.Outcome.next ?_
  rw [hs, onlyIf_true, resetSet]
  by_cases hv : v = 0xE9
  · rw [if_neg (not_not.2 hv), if_pos hv]
  · rw [if_pos hv, if_neg hv]
    rfl

theorem holdRelease_of_zero (s : State) : exec (.holdRelease false) s = .next s := by
  refine congrArg Host.Outcome.next ?_
  rw [onlyIf]
  exact ite_self s

theorem holdRelease_of_notHeld (h : s.boot.phase ≠ .held) : exec (.holdRelease true) s = .next s := by
  refine congrArg Host.Outcome.next ?_
  rw [onlyIf, holdSet, if_neg (by decide : ¬ b2n true = 0), if_pos h]
  exact ite_self s

theorem holdRelease_of_held (hs : serving s = true) (h : s.boot.phase = .held) :
    exec (.holdRelease true) s = .next (record 0x0401 0 2 4 (packageReset 2 (oset { s with
      flash := { s.flash with storms := [] }, faults := { s.faults with stormsKept := [], stormHold := false } } 0x7002 6 0))) := by
  refine congrArg Host.Outcome.next ?_
  rw [hs, onlyIf_true, holdSet, if_neg (by decide), if_neg (not_not.2 h)]

/-! Errors on CAN FD (R440) -/

theorem canErrorDetected_of_off (h : s.boot.canNode = 0 ∨ 2 ≤ oget s 0x1100 3) : exec (.canErrorDetected b) s = .next s := by
  have hcond : (!(serving s) || decide (s.boot.canNode = 0) || decide (2 ≤ oget s 0x1100 3)) = true := by
    obtain h | h := h <;> simp [h]
  exact congrArg Host.Outcome.next (if_pos hcond)

theorem canErrorDetected_cases (hs : serving s = true) (hc : s.boot.canNode ≠ 0) (hon : oget s 0x1100 3 < 2) :
    (s.cla.tec + 8 ≤ 255 → exec (.canErrorDetected true) s = .next (canSettle { s with cla := { s.cla with tec := s.cla.tec + 8 } })) ∧
    (s.cla.tec ≤ 255 → exec (.canErrorDetected false) s = .next (canSettle { s with cla := { s.cla with rec_ := min 255 (s.cla.rec_ + 1) } })) ∧
    (255 < s.cla.tec + 8 → ∃ t, exec (.canErrorDetected true) s = .next t ∧ oget t 0x1100 3 = 2 ∧ t.mem = s.mem) := by
  have hcond : (!(serving s) || decide (s.boot.canNode = 0) || decide (2 ≤ oget s 0x1100 3)) = false := by
    rw [hs, decide_eq_false hc, decide_eq_false (by omega)]; rfl
  refine ⟨fun h => ?_, fun h => ?_, fun h => ?_⟩
  · exact congrArg Host.Outcome.next ((if_neg (not_true_of_false hcond)).trans (if_neg (Nat.not_lt.2 h)))
  · exact congrArg Host.Outcome.next ((if_neg (not_true_of_false hcond)).trans (if_neg (Nat.not_lt.2 h)))
  · refine ⟨_, congrArg Host.Outcome.next ((if_neg (not_true_of_false hcond)).trans (if_pos h)), ?_, ?_⟩
    · rw [oget_bumpObj_ne (by decide)]
      exact oget_oset_self (by decide +kernel)
    · exact (bumpObj_did (W := but 30) rfl (.refl _)).mem rfl

theorem canBusOffRecovery_cases (hs : serving s = true) :
    (oget s 0x1100 3 = 2 → exec .canBusOffRecovery s = .next (oset { s with cla := { s.cla with tec := 0, rec_ := 0 } } 0x1100 3 0)) ∧
    (oget s 0x1100 3 ≠ 2 → exec .canBusOffRecovery s = .next s) := by
  refine ⟨fun h => ?_, fun h => ?_⟩ <;> refine congrArg Host.Outcome.next ?_
  · rw [hs, decide_eq_true h]; rfl
  · rw [hs, decide_eq_false h]; rfl

end

/-- Settles O53: each transport, store and reset by the cases of its own effect. -/
theorem clarynTransportsStoresAndResets : Obligations.ClarynTransportsStoresAndResets := by
  unfold Obligations.ClarynTransportsStoresAndResets
  refine ⟨fun i fd x l s => canFrame_of_deaf, ?_, fun a p l s => udpDatagram_of_deaf, fun a p l s => udpDatagram_cases,
    fun c v b s => mailboxDoor_cases, addressed_cases, fun k a n s => dhcp_of_deaf, fun k a n s => dhcp_cases, fun s => dhcpLeaseExpiry_cases,
    ?_, ethLinkChange_eq, fun s => commands_of_deaf, fun s => heartbeat_cases, fun s => store_of_busy, fun s => store_of_idle,
    fun b s hs hst => storeComplete_of_idle hs hst b, ?_, ?_, fun s => storeComplete_of_flaw, fun v s hs => resetCmd_eq hs v, holdRelease_of_zero,
    fun s => holdRelease_of_notHeld, fun s => holdRelease_of_held, fun b s => canErrorDetected_of_off, fun s => canErrorDetected_cases,
    fun s => canBusOffRecovery_cases⟩
  · exact fun i n l t s => canFrame_cases
  · exact fun b s h => congrArg Host.Outcome.next (if_neg (not_true_of_false h))
  · rintro k b s hs hst hk rfl
    refine ⟨_, storeComplete_of_some hs hst hk true, rfl, ?_, (storeStatus_after _ _).1, rfl⟩
    by_cases hfirst : k = s.flash.cfg0
    · rw [if_pos hfirst, decide_eq_true hfirst]; rfl
    · rw [if_neg hfirst, decide_eq_false hfirst]; rfl
  · intro s hs hst hk
    exact ⟨_, storeComplete_of_none hs hst hk true, rfl, rfl, (storeStatus_after _ _).1, rfl⟩

end Sys2Proof.Machine
end

section
/-! SUPPORT. The security controller: what an event leaves of the objects, an erasure, an alarm, and the commit of a change (R446, R464 to R466,
R473, R474). -/
set_option Elab.async false

namespace Sys2Proof.Machine

open Sys2Proof

section
variable {s t : State} {c d i k n : Nat} {b : Bool}

/-! Events and the objects -/

theorem oget_of_obj (h : t.obj = s.obj) : oget t i k = oget s i k := by rw [oget, oget, h]

theorem oget_canSettle_ne (h : objKey i k ≠ objKey 0x1100 3) : oget (canSettle s) i k = oget s i k := by
  rw [canSettle]
  split
  · exact oget_oset_ne _ _ h
  · rfl

theorem oget_emitTo_ne (h : objKey i k ≠ objKey 0x1100 3) (d : Nat) (e : Emit) : oget (emitTo d e s) i k = oget s i k := by
  rw [emitTo]
  split
  · exact oget_canSettle_ne h
  · rfl

theorem oget_foldl {α : Type} {g : State → α → State} (hg : ∀ v x, oget (g v x) i k = oget v i k) (l : List α) (s : State) :
    oget (l.foldl g s) i k = oget s i k := by
  induction l generalizing s with
  | nil => rfl
  | cons x r ih => rw [List.foldl_cons, ih, hg]

theorem oget_sendEvent_ne (h : objKey i k ≠ objKey 0x1100 3) (e : EvtMsg) : oget (sendEvent s e) i k = oget s i k :=
  oget_foldl (fun _ _ => oget_emitTo_ne h _ _) _ _

theorem oget_sendEvents_ne (h : objKey i k ≠ objKey 0x1100 3) : oget (sendEvents s) i k = oget s i k :=
  oget_foldl (fun _ _ => oget_sendEvent_ne h _) _ _

theorem oget_queueEvent_ne (h : objKey i k ≠ objKey 0x1100 3) (a b q v : Nat) : oget (queueEvent a b q v s) i k = oget s i k := by
  rw [queueEvent]
  dsimp only
  split
  · exact oget_sendEvent_ne h _
  · exact oget_sendEvents_ne h

/-- An event of Claryn's moves no object but the state of CAN FD. -/
theorem oget_clarynEvent_ne (h : objKey i k ≠ objKey 0x1100 3) (a b v : Nat) : oget (clarynEvent a b v s) i k = oget s i k := by
  have hraise : (scRaise 4 0 s).obj = s.obj := (scRaise_did (W := but 11) rfl (.refl s)).obj rfl
  have hstart (q : Nat) : oget { scRaise 4 0 s with cla := { (scRaise 4 0 s).cla with evSeq := q } } i k = oget s i k := oget_of_obj hraise
  rw [clarynEvent]
  dsimp only
  split
  · exact (oget_queueEvent_ne h _ _ _ _).trans (hstart _)
  · exact hstart _

/-! Erasure (R474) -/

theorem mem_tset {α : Type} [DecidableEq α] {d v : α} {i : Nat} {x : Nat × α} : ∀ {t : Tab α}, x ∈ tset d t i v → x = (i, v) ∨ x ∈ t
  | [], h => by
    rw [tset] at h
    split at h
    · cases h
    · exact .inl (List.mem_singleton.1 h)
  | (k, w) :: r, h => by
    rw [tset] at h
    split at h
    · split at h
      · exact .inr h
      · exact List.mem_cons.1 h
    · split at h
      · split at h
        · exact .inr (List.mem_cons_of_mem _ h)
        · exact (List.mem_cons.1 h).imp id (List.mem_cons_of_mem _)
      · obtain rfl | h := List.mem_cons.1 h
        · exact .inr (List.mem_cons_self ..)
        · exact (mem_tset h).imp id (List.mem_cons_of_mem _)

/-- Every sequence-slot key reads zero. -/
def KeysGone (l : Tab Slot) : Prop := ∀ x ∈ l, x.2.keyLo = 0 ∧ x.2.keyHi = 0

theorem zeroKeys_keys (s : State) : KeysGone (zeroKeys s).slots := by
  have hfold : ∀ (l t : Tab Slot), KeysGone t →
      KeysGone (l.foldl (fun t e => tset {} t e.1 { e.2 with keyLo := 0, keyHi := 0, chk := none }) t) := by
    intro l
    induction l with
    | nil => exact fun _ h => h
    | cons e r ih =>
      refine fun t h => ih _ fun x hx => ?_
      obtain rfl | hx := mem_tset hx
      · exact ⟨rfl, rfl⟩
      · exact h x hx
  exact hfold _ _ (fun _ hx => (List.not_mem_nil hx).elim)

theorem sealCommit_fsCount (s : State) : (sealCommit s).flash.fsCount = s.flash.fsCount := by
  show (if _ then _ else _ : Flash).fsCount = _
  split
  · rfl
  · rfl

/-- ERASE_USER: keys and ODK go, the count of alarms stays. -/
theorem eraseUser_erases (s : State) : (eraseUser s).sec.odk = none ∧ KeysGone (eraseUser s).slots ∧
    (eraseUser s).flash.fsCount = s.flash.fsCount := by
  have hz : KeysGone (zeroKeys s).slots := zeroKeys_keys s
  rw [eraseUser]
  dsimp only
  split
  · exact ⟨rfl, hz, rfl⟩
  · split
    · refine ⟨?_, ?_, sealCommit_fsCount _⟩
      · rw [(sealCommit_did (W := but 43) rfl (.refl _)).sec rfl]; rfl
      · rw [(sealCommit_did (W := but 26) rfl (.refl _)).slots rfl]; exact hz
    · exact ⟨rfl, hz, rfl⟩

/-! Alarms (R473) -/

theorem packageReset_flash {r : Nat} (hr : r ≠ 3) (s : State) : (packageReset r s).flash = s.flash := by
  rw [packageReset]
  split
  · split
    · rfl
    · rfl
  · extract_lets ports going beat roots pins
    have hgoing : Did (but 5) s going := did_foldl (fun _ _ k => emit_did rfl k) (.refl s)
    have hbeat : Did (but 5) s beat := did_ite (sendHeartbeat_did rfl hgoing) hgoing
    have hpins : Did (but 5) s pins := did_foldl (fun _ _ k => emit_did rfl k) hbeat
    exact hpins.flash rfl

/-- The record of an alarm, before its erasures. -/
def alarmRecord (code detail acts : Nat) (s : State) : State :=
  let t := record 0x0403 code detail 4 s
  scRaise 6 0 { t with flash := { t.flash with fsLast := fsRecord code acts detail (now t), fsCount := (t.flash.fsCount + 1) % 2 ^ 32 } }

theorem alarmRecord_count (code detail acts : Nat) (s : State) : (alarmRecord code detail acts s).flash.fsCount = (s.flash.fsCount + 1) % 2 ^ 32 ∧
    (alarmRecord code detail acts s).boot = s.boot := by
  have hflash : (record 0x0403 code detail 4 s).flash = s.flash := (record_did (W := but 5) rfl (.refl s)).flash rfl
  have hboot : (record 0x0403 code detail 4 s).boot = s.boot := (record_did (W := but 3) rfl (.refl s)).boot rfl
  constructor
  · rw [alarmRecord]
    dsimp only
    rw [(scRaise_did (W := but 5) rfl (.refl _)).flash rfl]
    exact congrArg (fun f => (f.fsCount + 1) % 2 ^ 32) hflash
  · rw [alarmRecord]
    dsimp only
    rw [(scRaise_did (W := but 3) rfl (.refl _)).boot rfl]
    exact hboot

/-- An alarm's erasures, as FS_POLICY orders them. -/
def alarmErased (p : Nat) (s : State) : State :=
  let t := if p.testBit 1 then eraseUser s else s
  if p.testBit 2 then eraseIdentity t else t

theorem alarmErased_inert (p : Nat) (s : State) : (alarmErased p s).boot.phase = s.boot.phase ∧
    (alarmErased p s).flash.fsCount = s.flash.fsCount := by
  obtain ⟨-, -, hcount⟩ := eraseUser_erases s
  have hboot : (eraseUser s).boot = s.boot := (eraseUser_did (W := but 3) rfl (.refl s)).boot rfl
  have huser : (if p.testBit 1 then eraseUser s else s).boot.phase = s.boot.phase ∧
      (if p.testBit 1 then eraseUser s else s).flash.fsCount = s.flash.fsCount := by
    split
    · exact ⟨congrArg Boot.phase hboot, hcount⟩
    · exact ⟨rfl, rfl⟩
  rw [alarmErased]
  split
  · exact huser
  · exact huser

theorem alarmErased_user {p : Nat} (hp : p.testBit 1 = true) (s : State) : (alarmErased p s).sec.odk = none ∧ KeysGone (alarmErased p s).slots := by
  obtain ⟨hodk, hkeys, -⟩ := eraseUser_erases s
  rw [alarmErased, if_pos hp]
  split
  · exact ⟨hodk, hkeys⟩
  · exact ⟨hodk, hkeys⟩

theorem alarmErased_identity {p : Nat} (hp : p.testBit 2 = true) (s : State) : (alarmErased p s).fuse.idErased = true :=
  congrArg (fun t : State => t.fuse.idErased) (if_pos hp)

/-- An alarm that orders package reset, with no update under way. -/
theorem alarm_of_reset (hu : oget s 0x5030 4 ≠ 1) (hp : (oget s 0x5002 1).testBit 0 = true) :
    alarm c d false s = packageReset 4 (alarmErased (oget s 0x5002 1) (alarmRecord c d
      (b2n true + 2 * b2n ((oget s 0x5002 1).testBit 1) + 4 * b2n ((oget s 0x5002 1).testBit 2)) s)) := by
  rw [alarm, hp, abandonUpdate, if_neg hu]
  rfl

theorem alarm_resets (hr : inReset s = false) (hu : oget s 0x5030 4 ≠ 1) (hp : (oget s 0x5002 1).testBit 0 = true) (ht : t = alarm c d false s) :
    t.boot.phase = .goingDown ∧ t.faults.resetReason = 4 ∧ t.flash.fsCount = (s.flash.fsCount + 1) % 2 ^ 32 ∧
      ((oget s 0x5002 1).testBit 1 = true → t.sec.odk = none ∧ ∀ x ∈ t.slots, x.2.keyLo = 0 ∧ x.2.keyHi = 0) ∧
      ((oget s 0x5002 1).testBit 2 = true → t.fuse.idErased = true) := by
  rw [alarm_of_reset hu hp] at ht
  generalize hacts : b2n true + 2 * b2n ((oget s 0x5002 1).testBit 1) + 4 * b2n ((oget s 0x5002 1).testBit 2) = acts at ht
  generalize hpol : oget s 0x5002 1 = p at *
  obtain ⟨hcount, hboot⟩ := alarmRecord_count c d acts s
  obtain ⟨hphase, hkeep⟩ := alarmErased_inert p (alarmRecord c d acts s)
  have hup : inReset (alarmErased p (alarmRecord c d acts s)) = false := by
    rw [inReset, hphase, hboot]; exact hr
  have hent := packageReset_entered (r := 4) hup
  have hdid (W : Nat) (hW : W &&& 0x4000000086e = 0x4000000086e) := packageReset_did (a1 := 4) hW (.refl (alarmErased p (alarmRecord c d acts s)))
  subst ht
  refine ⟨hent.phase, hent.resetReason, ?_, fun h1 => ?_, fun h2 => ?_⟩
  · rw [packageReset_flash (by decide), hkeep, hcount]
  · rw [(hdid (but 43) rfl).sec rfl, (hdid (but 26) rfl).slots rfl]
    exact alarmErased_user h1 _
  · rw [(hdid (but 4) rfl).fuse rfl]
    exact alarmErased_identity h2 _

/-! Commits (R464 to R466) -/

theorem protPublish_seq (h : s.fuse.counter ≠ 0) : oget (protPublish s) 0x5000 2 = s.fuse.counter := by
  have hset : oget (oset s 0x5000 2 s.fuse.counter) 0x5000 2 = s.fuse.counter :=
    oget_oset_self (by rw [show objDefault 0x5000 2 = 0 by decide +kernel]; exact h)
  refine Eq.trans ?_ hset
  exact (oget_oset_ne _ _ (by decide)).trans (oget_oset_ne _ _ (by decide))

theorem sealCommit_seals (s : State) : (sealCommit s).fuse.counter = s.fuse.counter + 1 ∧ oget (sealCommit s) 0x5000 2 = s.fuse.counter + 1 ∧
    (((sealCommit s).flash.sealed0.seq = s.fuse.counter + 1 ∧ sealOk s (sealCommit s).flash.sealed0 = true) ∨
      ((sealCommit s).flash.sealed1.seq = s.fuse.counter + 1 ∧ sealOk s (sealCommit s).flash.sealed1 = true)) := by
  refine ⟨rfl, ?_, ?_⟩
  · exact protPublish_seq (by show s.fuse.counter + 1 ≠ 0; omega)
  · have hseal : sealOk s ⟨s.fuse.counter + 1, bankSeal s.sec.sealKey (s.fuse.counter + 1) (protNums s) (protOcts s), protNums s, protOcts s⟩ = true :=
      decide_eq_true rfl
    by_cases hfirst : s.flash.sealed0.seq = s.fuse.counter ∧ sealOk s s.flash.sealed0 = true
    · refine .inr ?_
      have hflash : (sealCommit s).flash = { s.flash with sealed1 := ⟨s.fuse.counter + 1,
          bankSeal s.sec.sealKey (s.fuse.counter + 1) (protNums s) (protOcts s), protNums s, protOcts s⟩ } := if_pos hfirst
      rw [hflash]
      exact ⟨rfl, hseal⟩
    · refine .inl ?_
      have hflash : (sealCommit s).flash = { s.flash with sealed0 := ⟨s.fuse.counter + 1,
          bankSeal s.sec.sealKey (s.fuse.counter + 1) (protNums s) (protOcts s), protNums s, protOcts s⟩ } := if_neg hfirst
      rw [hflash]
      exact ⟨rfl, hseal⟩

theorem sealOk_congr {x : SealedBank} (h : t.sec.sealKey = s.sec.sealKey) : sealOk t x = sealOk s x := by rw [sealOk, sealOk, h]

end

end Sys2Proof.Machine
end

section
/-! PROOFS. O54: the security controller (R461 to R477). -/
set_option Elab.async false

namespace Sys2Proof.Machine

open Sys2Proof

section
variable {s t u : State} {c d i k n v a : Nat} {b : Bool} {l : List Byte} {op : DebugOp} {f : FwSlot}

/-! Commands that find the controller off -/

theorem security_of_off (h : secOn s = false) (v : Nat) (a b : Bool) (l o d k : List Byte) :
    exec (.fwUpdateCmd v) s = .next s ∧ exec (.fwUpdateComplete a) s = .next s ∧ exec (.protCommit a b) s = .next s ∧ exec (.attNonce l) s = .next s ∧
    exec (.keyLoad l) s = .next s ∧ exec .debugChallengeRead s = .next s ∧ exec (.debugUnlock v o d k) s = .next s := by
  have hobj (t : State) : onlyIf (secOn s && objectsOpen s) t s = s := by rw [h]; rfl
  have hsec (t : State) : onlyIf (secOn s) t s = s := by rw [h]; rfl
  refine ⟨congrArg Host.Outcome.next (hobj _), congrArg Host.Outcome.next ?_, congrArg Host.Outcome.next (hobj _), congrArg Host.Outcome.next (hobj _),
    congrArg Host.Outcome.next (hobj _), congrArg Host.Outcome.next (hsec _), congrArg Host.Outcome.next (hsec _)⟩
  rw [fwUpdateCompleteEffect, h]
  rfl

theorem security_of_closed (h : objectsOpen s = false) (v : Nat) (b c : Bool) (l : List Byte) :
    exec (.fwUpdateCmd v) s = .next s ∧ exec (.protCommit b c) s = .next s ∧ exec (.attNonce l) s = .next s ∧ exec (.keyLoad l) s = .next s := by
  have hobj (t : State) : onlyIf (secOn s && objectsOpen s) t s = s := by rw [h, Bool.and_false]; rfl
  exact ⟨congrArg Host.Outcome.next (hobj _), congrArg Host.Outcome.next (hobj _), congrArg Host.Outcome.next (hobj _),
    congrArg Host.Outcome.next (hobj _)⟩

theorem onlyIf_secured (hs : secOn s = true) (ho : objectsOpen s = true) (t : State) : onlyIf (secOn s && objectsOpen s) t s = t := by
  rw [hs, ho]; rfl

theorem onlyIf_same (b : Bool) (s : State) : onlyIf b s s = s := ite_self s

/-! Updates (R461) -/

theorem fwUpdateCmd_of_refused (h : v ≠ 1 ∨ oget s 0x5030 4 = 1) : exec (.fwUpdateCmd v) s = .next s := by
  have hset : (fwUpdateSet v s).2 = s := by
    rw [fwUpdateSet]
    by_cases hv : v ≠ 1
    · rw [if_pos hv]
    · rw [if_neg hv, if_pos (h.resolve_left hv)]
  refine congrArg Host.Outcome.next ?_
  rw [hset, onlyIf_same]

theorem fwUpdateCmd_of_idle (hs : secOn s = true) (ho : objectsOpen s = true) (hi : oget s 0x5030 4 ≠ 1) :
    (stageOk s (oget s 0x5030 1) (oget s 0x5030 2) = true → f = cutImage (memBytes s (oget s 0x5030 1) (oget s 0x5030 2)) →
      exec (.fwUpdateCmd 1) s = .next { oset s 0x5030 4 1 with sec := { s.sec with staged := some f, stagedCode := imageCode s f } }) ∧
    (stageOk s (oget s 0x5030 1) (oget s 0x5030 2) = false →
      exec (.fwUpdateCmd 1) s = .next { oset s 0x5030 4 1 with sec := { s.sec with staged := none, stagedCode := 0x12 } }) := by
  refine ⟨fun hok hf => ?_, fun hbad => ?_⟩ <;> refine congrArg Host.Outcome.next ?_ <;>
    rw [onlyIf_secured hs ho, fwUpdateSet, if_neg (not_not.2 rfl), if_neg hi]
  · subst hf
    dsimp only
    rw [if_pos hok]
    rfl
  · dsimp only
    rw [if_neg (not_true_of_false hbad)]
    rfl

theorem fwUpdateComplete_of_idle (h : oget s 0x5030 4 ≠ 1) : exec (.fwUpdateComplete b) s = .next s := by
  refine congrArg Host.Outcome.next ?_
  rw [fwUpdateCompleteEffect, decide_eq_false h, Bool.and_false]
  rfl

/-- An update cut short leaves the other slot EMPTY or FAILED, and the one booted alone. -/
theorem abandonUpdate_slots (h : oget s 0x5030 4 = 1) : if s.boot.slotBooted = 0 then (abandonUpdate s).flash.slotA = s.flash.slotA ∧
      ((abandonUpdate s).flash.slotB.state = 0 ∨ (abandonUpdate s).flash.slotB.state = 4)
    else (abandonUpdate s).flash.slotB = s.flash.slotB ∧ ((abandonUpdate s).flash.slotA.state = 0 ∨ (abandonUpdate s).flash.slotA.state = 4) := by
  have hstate (x : Bool) : (if x then 4 else 0) = 0 ∨ (if x then 4 else 0) = 4 := by cases x <;> decide
  have hflash : (abandonUpdate s).flash = if s.boot.slotBooted = 0
      then { s.flash with slotB := { s.flash.slotB with state := if bit 0 (Config.free s.fresh) then 4 else 0 } }
      else { s.flash with slotA := { s.flash.slotA with state := if bit 0 (Config.free s.fresh) then 4 else 0 } } := by
    rw [abandonUpdate, if_pos h]; rfl
  by_cases hslot : s.boot.slotBooted = 0
  · rw [if_pos hslot, hflash, if_pos hslot]
    exact ⟨rfl, hstate _⟩
  · rw [if_neg hslot, hflash, if_neg hslot]
    exact ⟨rfl, hstate _⟩

theorem fwUpdateComplete_of_busy (hs : secOn s = true) (h1 : oget s 0x5030 4 = 1)
    (hu : u = { s with sec := { s.sec with staged := none, stagedCode := 0 } }) :
    (s.sec.staged = none → exec (.fwUpdateComplete b) s = .next (oset u 0x5030 4 0x12)) ∧
    (∀ f, s.sec.staged = some f → s.sec.stagedCode ≠ 0 → exec (.fwUpdateComplete b) s = .next (oset u 0x5030 4 s.sec.stagedCode)) ∧
    (∀ f, s.sec.staged = some f → s.sec.stagedCode = 0 → exec (.fwUpdateComplete true) s = .next { oset u 0x5030 4 2 with
      flash := if s.boot.slotBooted = 0 then { s.flash with slotB := { f with state := 1 } } else { s.flash with slotA := { f with state := 1 } } }) ∧
    (∀ f, s.sec.staged = some f → s.sec.stagedCode = 0 → ∃ t, exec (.fwUpdateComplete false) s = .next t ∧ oget t 0x5030 4 = 0x13 ∧
      (if s.boot.slotBooted = 0 then t.flash.slotA = s.flash.slotA ∧ (t.flash.slotB.state = 0 ∨ t.flash.slotB.state = 4)
       else t.flash.slotB = s.flash.slotB ∧ (t.flash.slotA.state = 0 ∨ t.flash.slotA.state = 4))) := by
  subst hu
  have hon : ¬ (!(secOn s && decide (oget s 0x5030 4 = 1))) = true := by rw [hs, h1]; decide
  refine ⟨fun hn => ?_, fun f hf hc => ?_, fun f hf hc => ?_, fun f hf hc => ?_⟩
  · refine congrArg Host.Outcome.next ?_
    rw [fwUpdateCompleteEffect, if_neg hon, hn]
    rfl
  · refine congrArg Host.Outcome.next ?_
    rw [fwUpdateCompleteEffect, if_neg hon, hf]
    exact if_pos hc
  · refine congrArg Host.Outcome.next ?_
    rw [fwUpdateCompleteEffect, if_neg hon, hf]
    exact if_neg (not_not.2 hc)
  · refine ⟨oset (abandonUpdate s) 0x5030 4 0x13, ?_, oget_oset_self (by decide +kernel), abandonUpdate_slots h1⟩
    refine congrArg Host.Outcome.next ?_
    rw [fwUpdateCompleteEffect, if_neg hon, hf]
    exact if_neg (not_not.2 hc)

theorem imageCode_eq (f : FwSlot) (s : State) :
    imageCode s f = (if imgSound s.fuse.fwKeyDigest f = false then 0x10 else if imgRollback f < oget s 0x5002 3 then 0x11 else 0) := by
  rw [imageCode]
  cases imgSound s.fuse.fwKeyDigest f with
  | false => rfl
  | true => rfl

/-! Commits (R464, R465) -/

theorem protCommit_of_zero (b : Bool) (s : State) : exec (.protCommit false b) s = .next s :=
  congrArg Host.Outcome.next (onlyIf_same _ _)

theorem protCommit_of_refused (hs : secOn s = true) (ho : objectsOpen s = true) (hc : c = commitCode b s) (h0 : c ≠ 0) :
    exec (.protCommit true b) s = .next (if c = 0x16 ∨ c = 0x17 then
        if s.sec.badSigs + 1 = 8 then alarm 2 c false
            (secMod (fun k => { k with badSigs := if s.sec.badSigs + 1 = 8 then 0 else s.sec.badSigs + 1 }) (oset s 0x5010 5 c))
          else secMod (fun k => { k with badSigs := if s.sec.badSigs + 1 = 8 then 0 else s.sec.badSigs + 1 }) (oset s 0x5010 5 c)
      else oset s 0x5010 5 c) := by
  subst hc
  refine congrArg Host.Outcome.next ?_
  rw [onlyIf_secured hs ho, protCommitSet, if_neg (by decide)]
  exact if_neg h0

theorem protCommit_badSig (hs : secOn s = true) (ho : objectsOpen s = true) (hc : c = commitCode b s) (hsig : c = 0x16 ∨ c = 0x17) :
    (s.sec.badSigs ≠ 7 → exec (.protCommit true b) s = .next { oset s 0x5010 5 c with sec := { s.sec with badSigs := s.sec.badSigs + 1 } }) ∧
    (s.sec.badSigs = 7 → exec (.protCommit true b) s = .next (alarm 2 c false { oset s 0x5010 5 c with sec := { s.sec with badSigs := 0 } })) := by
  have hrun := protCommit_of_refused hs ho hc (by omega)
  rw [if_pos hsig] at hrun
  refine ⟨fun h => hrun.trans ?_, fun h => hrun.trans ?_⟩
  · have hn : ¬ s.sec.badSigs + 1 = 8 := by omega
    rw [if_neg hn, if_neg hn]
    rfl
  · have hn : s.sec.badSigs + 1 = 8 := by omega
    rw [if_pos hn, if_pos hn]
    rfl

/-- The values that a commit puts in force, before they are sealed. -/
def commitValues (s : State) : State :=
  if leAt s.sec.change 0x1C 4 / 2 = 1 then protDefaults s
  else { applyEntries ((changeParse s.sec.change).getD []) s with
    fuse := { (applyEntries ((changeParse s.sec.change).getD []) s).fuse with
      rollback := oget (applyEntries ((changeParse s.sec.change).getD []) s) 0x5002 3 } }

theorem commitValues_inert (s : State) : (commitValues s).fuse.counter = s.fuse.counter ∧ (commitValues s).mem = s.mem := by
  rw [commitValues]
  split
  · exact ⟨rfl, rfl⟩
  · refine ⟨?_, (applyEntries_did (W := but 30) rfl (.refl s)).mem rfl⟩
    show (applyEntries _ s).fuse.counter = _
    rw [(applyEntries_did (W := but 4) rfl (.refl s)).fuse rfl]

theorem commitApply_eq (s : State) : commitApply s = secMod (fun c => { c with badSigs := 0 })
    (oset (loadOdk (sealCommit (commitValues s))) 0x5000 1 (if leAt s.sec.change 0x1C 4 / 2 = 1 then 0 else 1)) := by
  by_cases h : leAt s.sec.change 0x1C 4 / 2 = 1
  · rw [commitApply, commitValues, if_pos h, decide_eq_true h, if_pos h]; rfl
  · rw [commitApply, commitValues, if_neg h, decide_eq_false h, if_neg h]; rfl

theorem protCommit_of_good (hs : secOn s = true) (ho : objectsOpen s = true) (hc : commitCode true s = 0) :
    ∃ t, exec (.protCommit true true) s = .next t ∧ t.fuse.counter = s.fuse.counter + 1 ∧
    oget t 0x5000 2 = s.fuse.counter + 1 ∧ t.sec.badSigs = 0 ∧ t.mem = s.mem ∧
    ((t.flash.sealed0.seq = s.fuse.counter + 1 ∧ sealOk t t.flash.sealed0 = true) ∨ (t.flash.sealed1.seq = s.fuse.counter + 1 ∧ sealOk t t.flash.sealed1 = true)) ∧
    (leAt s.sec.change 0x1C 4 / 2 ≠ 1 → oget t 0x5000 1 = 1) := by
  obtain ⟨hcounter, hmem⟩ := commitValues_inert s
  obtain ⟨hburn, hseq, hseal⟩ := sealCommit_seals (commitValues s)
  have happly := commitApply_eq s
  have hseqA : oget (commitApply s) 0x5000 2 = s.fuse.counter + 1 := by
    rw [happly, ← hcounter, ← hseq]
    exact oget_oset_ne _ _ (by decide)
  have hstate : leAt s.sec.change 0x1C 4 / 2 ≠ 1 → oget (commitApply s) 0x5000 1 = 1 := by
    intro h
    rw [happly, if_neg h]
    exact oget_oset_self (by decide +kernel)
  have hmemA : (commitApply s).mem = s.mem := by
    rw [happly]
    exact ((sealCommit_did (W := but 30) rfl (.refl _)).mem rfl).trans hmem
  have hfuseA : (commitApply s).fuse = (sealCommit (commitValues s)).fuse := by rw [happly]; rfl
  have hflashA : (commitApply s).flash = (sealCommit (commitValues s)).flash := by rw [happly]; rfl
  have hkeyA : (commitApply s).sec.sealKey = (commitValues s).sec.sealKey := by
    rw [happly]
    show (sealCommit (commitValues s)).sec.sealKey = _
    rw [(sealCommit_did (W := but 43) rfl (.refl (commitValues s))).sec rfl]
  have hbadA : (commitApply s).sec.badSigs = 0 := by rw [happly]; rfl
  let t := clarynEvent 0x5000 2 (oget (commitApply s) 0x5000 2) (oset (commitApply s) 0x5010 5 0)
  have hdid (W : Nat) (hW : W &&& 0x50000000806 = 0x50000000806) : Did W (oset (commitApply s) 0x5010 5 0) t := clarynEvent_did hW (.refl _)
  have hsec : t.sec = (commitApply s).sec := (hdid (but 43) rfl).sec rfl
  have hflash : t.flash = (sealCommit (commitValues s)).flash := ((hdid (but 5) rfl).flash rfl).trans hflashA
  have hsealT (x : SealedBank) : sealOk t x = sealOk (commitValues s) x := sealOk_congr (by rw [hsec, hkeyA])
  refine ⟨t, ?_, ?_, ?_, ?_, ((hdid (but 30) rfl).mem rfl).trans hmemA, ?_, fun h => ?_⟩
  · refine congrArg Host.Outcome.next ?_
    rw [onlyIf_secured hs ho, protCommitSet, if_neg (by decide)]
    exact if_pos hc
  · rw [(hdid (but 4) rfl).fuse rfl]
    show (commitApply s).fuse.counter = _
    rw [hfuseA, hburn, hcounter]
  · exact (oget_clarynEvent_ne (by decide) _ _ _).trans ((oget_oset_ne _ _ (by decide)).trans hseqA)
  · rw [hsec, hbadA]
  · rw [hflash, hsealT, hsealT, ← hcounter]
    exact hseal
  · exact (oget_clarynEvent_ne (by decide) _ _ _).trans ((oget_oset_ne _ _ (by decide)).trans (hstate h))

theorem commitCode_of_unsound (b : Bool) (s : State) (h : changeParse s.sec.change = none) : commitCode b s = 0x10 := by
  rw [commitCode, h]

theorem commitCode_of_addressee (b : Bool) (l : List (Nat × Nat × List Byte)) (s : State) (h : changeParse s.sec.change = some l) :
    (slice s.sec.change 8 16 ≠ s.fuse.serial → commitCode b s = 0x11) ∧
    (slice s.sec.change 8 16 = s.fuse.serial → leAt s.sec.change 0x18 4 ≠ oget s 0x5000 2 → commitCode b s = 0x12) := by
  refine ⟨fun hn => ?_, fun he hq => ?_⟩ <;> rw [commitCode, h] <;> dsimp only
  · rw [if_pos hn]
  · rw [if_neg (not_not.2 he), if_pos hq]

/-! Attestation (R470) -/

theorem attNonce_of_refused (h : l.length ≠ 32 ∨ s.boot.attest = false ∨ idPrivate s = none) : exec (.attNonce l) s = .next s := by
  have hset : (attNonceSet l s).2 = s := by
    rw [attNonceSet]
    by_cases hl : l.length ≠ 32
    · rw [if_pos hl]
    · rw [if_neg hl]
      obtain ha | hp := h.resolve_left hl
      · rw [ha]; rfl
      · rw [hp]
        exact (apply_ite Prod.snd _ _ _).trans (ite_self s)
  refine congrArg Host.Outcome.next ?_
  rw [hset, onlyIf_same]

theorem attNonce_of_good (hs : secOn s = true) (ho : objectsOpen s = true) (hl : l.length = 32) (ha : s.boot.attest = true)
    (hp : idPrivate s = some d) :
    exec (.attNonce l) s = .next { octSet s 0x5020 3 (reportBody l s ++ identitySign d s.fresh (reportBody l s)) with fresh := s.fresh + 1 } := by
  refine congrArg Host.Outcome.next ?_
  rw [onlyIf_secured hs ho, attNonceSet, if_neg (not_not.2 hl), ha, if_neg (by decide), hp]
  rfl

theorem slice_padded (l : List Byte) (n : Nat) : (slice (l ++ List.replicate n 0) 0 n).length = n := by
  rw [slice, List.drop_zero, List.length_take, List.length_append, List.length_replicate]
  omega

theorem reportBody_length (l : List Byte) (s : State) (h : l.length = 32) : (reportBody l s).length = 160 := by
  have hserial : (slice (s.fuse.serial ++ List.replicate 16 0) 0 16).length = 16 := slice_padded _ _
  have hmeasure : (slice (s.boot.measure ++ List.replicate 32 0) 0 32).length = 32 := slice_padded _ _
  have hdigest : (slice (octGet s 0x5000 4 ++ List.replicate 32 0) 0 32).length = 32 := slice_padded _ _
  unfold reportBody
  generalize slice (s.fuse.serial ++ List.replicate 16 0) 0 16 = serial at *
  generalize slice (s.boot.measure ++ List.replicate 32 0) 0 32 = measure at *
  generalize slice (octGet s 0x5000 4 ++ List.replicate 32 0) 0 32 = digest at *
  simp only [List.length_append, length_leBytes, hserial, hmeasure, hdigest, h, List.length_cons, List.length_nil]

theorem beBytes_length (n v : Nat) : (beBytes n v).length = n := by rw [beBytes, List.length_reverse, length_leBytes]

theorem sm2SignWith_length {e r : List Byte} (h : sm2SignWith d k e = some r) : r.length = 64 := by
  unfold sm2SignWith at h
  cases hec : ecMul 256 k sm2Base with
  | none => rw [hec] at h; cases h
  | some p =>
    rw [hec] at h
    obtain ⟨-, hr⟩ := Option.ite_none_left_eq_some.1 h
    rw [← Option.some.inj hr, List.length_append, beBytes_length, beBytes_length]

theorem identitySign_length (d n : Nat) (l : List Byte) : (identitySign d n l).length = 64 := by
  rw [identitySign]
  cases hf : (upto 0 8).findSome? fun i => sm2SignWith d (Config.signNonce (8 * n + i)) (sm2Digest sm2Ident (sm2Pub d) l) with
  | none => exact List.length_replicate ..
  | some r =>
    obtain ⟨i, -, hi⟩ := List.exists_of_findSome?_eq_some hf
    exact sm2SignWith_length hi

/-! Keys (R471) -/

theorem keyLoad_of_refused (h : l.length ≠ 48 ∨ allZero (slice l 1 3) = false ∨ 63 < leAt l 0 1 ∨ s.sec.odk = none) :
    exec (.keyLoad l) s = .next s := by
  have hset : (keyLoadSet l s).2 = s := by
    rw [keyLoadSet]
    by_cases hl : l.length ≠ 48
    · exact congrArg Prod.snd (if_pos hl)
    · refine (congrArg Prod.snd (if_neg hl)).trans ?_
      obtain hz | h := h.resolve_left hl
      · rw [hz]; rfl
      · by_cases hn : 63 < leAt l 0 1
        · rw [if_pos hn]
          exact (apply_ite Prod.snd _ _ _).trans (ite_self s)
        · rw [h.resolve_left hn, if_neg hn]
          exact (apply_ite Prod.snd _ _ _).trans (ite_self s)
  refine congrArg Host.Outcome.next ?_
  rw [hset, onlyIf_same]

theorem slot_ne_default {x : Slot} {q : W32} (h : x.chk = some q) : x ≠ {} := by
  rintro rfl
  cases h

/-- Both halves of a key written through the entry window's words (R150). -/
theorem keyWritten (n : Nat) (hi lo : W64) (s : State) :
    (slotAt (slotWrite n 5 lo false (slotWrite n 6 hi false s)) n).keyHi = hi ∧ (slotAt (slotWrite n 5 lo false (slotWrite n 6 hi false s)) n).keyLo = lo ∧
    ∀ k, k ≠ n → slotAt (slotWrite n 5 lo false (slotWrite n 6 hi false s)) k = slotAt s k := by
  have hfirst : slotAt (slotWrite n 6 hi false s) n = { slotAt s n with keyHi := hi, chk := some (keyChkRead (slotAt s n)) } :=
    slotAt_put s n _ (slot_ne_default rfl)
  have hsecond : slotAt (slotWrite n 5 lo false (slotWrite n 6 hi false s)) n =
      { slotAt (slotWrite n 6 hi false s) n with keyLo := lo, chk := some (keyChkRead (slotAt (slotWrite n 6 hi false s) n)) } :=
    slotAt_put _ n _ (slot_ne_default rfl)
  rw [hsecond]
  refine ⟨?_, rfl, fun k hk => (slotAt_put_ne _ _ _ _ hk).trans (slotAt_put_ne _ _ _ _ hk)⟩
  rw [hfirst]

theorem keyLoad_cases {k : BitVec 128} {p : Option (List Byte)} (hs : secOn s = true) (ho : objectsOpen s = true) (hl : l.length = 48)
    (hz : allZero (slice l 1 3) = true) (hn : leAt l 0 1 ≤ 63) (hk : s.sec.odk = some k)
    (hp : p = gcmOpen k (slice l 4 12) (s.fuse.serial ++ leBytes 1 (leAt l 0 1)) (slice l 16 16) (slice l 32 16)) :
    (∀ x, p = some x → ∃ t, exec (.keyLoad l) s = .next t ∧ (slotAt t (leAt l 0 1)).keyHi = BitVec.ofNat 64 (beNat (slice x 0 8)) ∧
      (slotAt t (leAt l 0 1)).keyLo = BitVec.ofNat 64 (beNat (slice x 8 8)) ∧ t.sec = { s.sec with badTags := 0 } ∧
      (∀ n, n ≠ leAt l 0 1 → slotAt t n = slotAt s n) ∧ t.mem = s.mem ∧ t.obj = s.obj) ∧
    (p = none → s.sec.badTags ≠ 15 → exec (.keyLoad l) s = .next { s with sec := { s.sec with badTags := s.sec.badTags + 1 } }) ∧
    (p = none → s.sec.badTags = 15 → exec (.keyLoad l) s = .next (alarm 7 (leAt l 0 1) false { s with sec := { s.sec with badTags := 0 } })) := by
  have hopen : exec (.keyLoad l) s = .next (keyLoadSet l s).2 := congrArg Host.Outcome.next (onlyIf_secured hs ho _)
  rw [keyLoadSet] at hopen
  dsimp only at hopen
  rw [if_neg (not_not.2 hl), hz, if_neg (by decide), if_neg (by omega), hk] at hopen
  dsimp only at hopen
  rw [← hp] at hopen
  refine ⟨fun x hx => ?_, fun hx h => ?_, fun hx h => ?_⟩
  · rw [hx] at hopen
    obtain ⟨hhi, hlo, hother⟩ := keyWritten (leAt l 0 1) (BitVec.ofNat 64 (beNat (slice x 0 8))) (BitVec.ofNat 64 (beNat (slice x 8 8))) s
    exact ⟨_, hopen, hhi, hlo, rfl, hother, rfl, rfl⟩
  · have hc : ¬ s.sec.badTags + 1 = 16 := by omega
    rw [hx] at hopen
    dsimp only at hopen
    rw [if_neg hc, if_neg hc] at hopen
    exact hopen
  · have hc : s.sec.badTags + 1 = 16 := by omega
    rw [hx] at hopen
    dsimp only at hopen
    rw [if_pos hc, if_pos hc] at hopen
    exact hopen

/-! Unlocks (R476, R477) -/

theorem debugUnlock_cases {o d k : List Byte} (hs : secOn s = true) :
    (unlockOk v o d k s = true → v < 2 → exec (.debugUnlock v o d k) s = .next (clarynEvent 0x5050 1 (max s.sec.debug v) { s with
      sec := { s.sec with badUnlocks := 0, debug := max s.sec.debug v } })) ∧
    (unlockOk v o d k s = true → 2 ≤ v → ∃ t, exec (.debugUnlock v o d k) s = .next t ∧ t.sec.debug = max s.sec.debug v ∧ t.sec.odk = none ∧
      t.sec.badUnlocks = 0 ∧ (∀ e ∈ t.slots, e.2.keyLo = 0 ∧ e.2.keyHi = 0) ∧ t.mem = s.mem) ∧
    (unlockOk v o d k s = false → s.sec.badUnlocks ≠ 3 →
      exec (.debugUnlock v o d k) s = .next { s with sec := { s.sec with badUnlocks := s.sec.badUnlocks + 1 } }) ∧
    (unlockOk v o d k s = false → s.sec.badUnlocks = 3 →
      exec (.debugUnlock v o d k) s = .next (alarm 3 v false { s with sec := { s.sec with badUnlocks := 0 } })) := by
  have hopen : exec (.debugUnlock v o d k) s = .next (debugUnlockEffect v o d k s) := by
    refine congrArg Host.Outcome.next ?_
    rw [hs, onlyIf_true]
  rw [debugUnlockEffect] at hopen
  refine ⟨fun hok hv => ?_, fun hok hv => ?_, fun hno h => ?_, fun hno h => ?_⟩
  · rw [hok, if_pos rfl, if_neg (by omega)] at hopen
    exact hopen
  · rw [hok, if_pos rfl, if_pos hv] at hopen
    have hdid (W : Nat) (hW : W &&& 0x50000000806 = 0x50000000806) := clarynEvent_did (a1 := 0x5050) (a2 := 1) (a3 := max s.sec.debug v) hW
      (.refl (secMod (fun k => { k with badUnlocks := 0, debug := max k.debug v }) (zeroKeys s)))
    refine ⟨_, hopen, ?_, ?_, ?_, ?_, (hdid (but 30) rfl).mem rfl⟩
    · exact congrArg Security.debug ((hdid (but 43) rfl).sec rfl)
    · exact congrArg Security.odk ((hdid (but 43) rfl).sec rfl)
    · exact congrArg Security.badUnlocks ((hdid (but 43) rfl).sec rfl)
    · have hslots := (hdid (but 26) rfl).slots rfl
      exact fun e he => zeroKeys_keys s e (hslots ▸ he)
  · have hc : ¬ s.sec.badUnlocks + 1 = 4 := by omega
    rw [hno, if_neg Bool.false_ne_true] at hopen
    dsimp only at hopen
    rw [if_neg hc, if_neg hc] at hopen
    exact hopen
  · have hc : s.sec.badUnlocks + 1 = 4 := by omega
    rw [hno, if_neg Bool.false_ne_true] at hopen
    dsimp only at hopen
    rw [if_pos hc, if_pos hc] at hopen
    exact hopen

theorem unlockOk_of_barred (v : Nat) (o d k : List Byte) (s : State) (h : oget s 0x5002 2 < v ∨ s.sec.challenge = []) : unlockOk v o d k s = false := by
  rw [unlockOk]
  obtain h | h := h
  · rw [decide_eq_false (by omega : ¬ v ≤ oget s 0x5002 2)]; rfl
  · rw [h]; simp only [ne_eq, not_true_eq_false, decide_false, Bool.and_false, Bool.false_and]

/-! Alarms and failures of the controllers (R454, R455, R472) -/

theorem alarmed_of_reset (hr : inReset s = true) (hg : s.boot.phase ≠ .goingDown) : alarmed c d b s = s := by
  rw [alarmed, if_neg hg, if_pos hr]

theorem alarmed_of_goingDown (hg : s.boot.phase = .goingDown) : alarmed c d b s = logFault 0x0403 c d 0 s := if_pos hg

theorem notGoingDown_of_up (hr : inReset s = false) : s.boot.phase ≠ .goingDown := by
  intro h
  rw [inReset, h] at hr
  cases hr

theorem alarmed_of_up (hr : inReset s = false) : alarmed c d b s = alarm c d b s := by
  rw [alarmed, if_neg (notGoingDown_of_up hr), if_neg (not_true_of_false hr)]

theorem checkFailure_of_known (hk : k = 1 ∨ k = 2) : exec (.controllerCheckFailure b k) s = .next (controllerFailure b k s) := by
  obtain rfl | rfl := hk
  · rfl
  · rfl

theorem checkFailure_of_unknown (b : Bool) (k : Nat) (s : State) (h1 : k ≠ 1) (h2 : k ≠ 2) : exec (.controllerCheckFailure b k) s = .next s := by
  refine congrArg Host.Outcome.next ?_
  rw [decide_eq_false h1, decide_eq_false h2]
  rfl

theorem failures_of_reset (n k : Nat) (s : State) (hr : inReset s = true) (hg : s.boot.phase ≠ .goingDown) :
    exec (.glitchDetected n) s = .next s ∧ exec (.watchdogExpiry true) s = .next s ∧ exec (.controllerCheckFailure true k) s = .next s := by
  have hstay (c d : Nat) (b : Bool) : alarmed c d b s = s := alarmed_of_reset hr hg
  refine ⟨congrArg Host.Outcome.next (hstay _ _ _), congrArg Host.Outcome.next (hstay _ _ _), ?_⟩
  by_cases hk : k = 1 ∨ k = 2
  · rw [checkFailure_of_known hk]
    exact congrArg Host.Outcome.next (hstay _ _ _)
  · obtain ⟨h1, h2⟩ := not_or.1 hk
    exact checkFailure_of_unknown _ _ _ h1 h2

theorem failures_of_goingDown (n k : Nat) (s : State) (hg : s.boot.phase = .goingDown) (hk : k = 1 ∨ k = 2) :
    exec (.glitchDetected n) s = .next (logFault 0x0403 4 n 0 s) ∧
    exec (.watchdogExpiry true) s = .next (logFault 0x0403 6 3 0 s) ∧ exec (.controllerCheckFailure true k) s = .next (logFault 0x0403 6 k 0 s) ∧
    (s.boot.claryn = true → exec (.watchdogExpiry false) s = .next (logFault 0x0307 0 3 0 s) ∧
      exec (.controllerCheckFailure false k) s = .next (logFault 0x0307 0 k 0 s)) := by
  have hr : inReset s = true := by rw [inReset, hg]
  rw [checkFailure_of_known hk, checkFailure_of_known hk]
  refine ⟨congrArg Host.Outcome.next (alarmed_of_goingDown hg), congrArg Host.Outcome.next (alarmed_of_goingDown hg),
    congrArg Host.Outcome.next (alarmed_of_goingDown hg), fun hc => ?_⟩
  have hfatal (j : Nat) : controllerFailure false j s = logFault 0x0307 0 j 0 s :=
    (if_neg Bool.false_ne_true).trans ((if_pos hc).trans (fatal_inReset hr))
  exact ⟨congrArg Host.Outcome.next (hfatal _), congrArg Host.Outcome.next (hfatal _)⟩

theorem failures_of_noClaryn (k : Nat) (s : State) (hc : s.boot.claryn = false) :
    exec (.watchdogExpiry false) s = .next s ∧ exec (.controllerCheckFailure false k) s = .next s := by
  have hstay (j : Nat) : controllerFailure false j s = s := (if_neg Bool.false_ne_true).trans (if_neg (not_true_of_false hc))
  refine ⟨congrArg Host.Outcome.next (hstay _), congrArg Host.Outcome.next ?_⟩
  rw [hstay, onlyIf_same]

theorem failures_of_up (n k : Nat) (s : State) (hr : inReset s = false) : exec (.glitchDetected n) s = .next (alarm 4 n (!s.boot.claryn) s) ∧
    exec (.watchdogExpiry true) s = .next (alarm 6 3 false s) ∧
    exec (.watchdogExpiry false) s = .next (if s.boot.claryn then fatal 0x0307 0 3 s else s) ∧
    ((k = 1 ∨ k = 2) → exec (.controllerCheckFailure true k) s = .next (alarm 6 k false s) ∧
      exec (.controllerCheckFailure false k) s = .next (if s.boot.claryn then fatal 0x0307 0 k s else s)) := by
  refine ⟨congrArg Host.Outcome.next (alarmed_of_up hr), congrArg Host.Outcome.next (alarmed_of_up hr), rfl, fun hk => ?_⟩
  rw [checkFailure_of_known hk, checkFailure_of_known hk]
  exact ⟨congrArg Host.Outcome.next (alarmed_of_up hr), rfl⟩

/-! The debug port (R475) -/

theorem debugLevel_pos (h : op ≠ .readIdcode) : debugLevel op ≠ 0 := by
  cases op with
  | readIdcode => exact absurd rfl h
  | _ => exact Nat.succ_ne_zero _

theorem debugPort_of_closed (op : DebugOp) (s : State) (hok : okDebug op = true) (hne : op ≠ .readIdcode)
    (h : inReset s = true ∨ s.sec.debug < debugLevel op) : exec (.debugPortAccess op) s = .next s := by
  have hshut : debugOpen s op = false := by
    rw [debugOpen, if_neg (debugLevel_pos hne)]
    obtain h | h := h
    · rw [h]; rfl
    · rw [decide_eq_false (by omega), Bool.and_false]
  refine (onUnit_of_true hok _).trans (congrArg Host.Outcome.next ?_)
  rw [hshut, onlyIf_false]

theorem debugPort_of_open (op : DebugOp) (hok : okDebug op = true) (hne : op ≠ .readIdcode) (hr : inReset s = false) (hl : debugLevel op ≤ s.sec.debug) :
    exec (.debugPortAccess op) s = .next (debugEffect op s) := by
  have hopen : debugOpen s op = true := by
    rw [debugOpen, if_neg (debugLevel_pos hne), hr, decide_eq_true hl]; rfl
  refine (onUnit_of_true hok _).trans (congrArg Host.Outcome.next ?_)
  rw [hopen, onlyIf_true]

/-- An operation that finds nothing leaves the state, open or not. -/
theorem debugPort_of_inert (op : DebugOp) (hok : okDebug op = true) (h : debugEffect op s = s) : exec (.debugPortAccess op) s = .next s := by
  refine (onUnit_of_true hok _).trans (congrArg Host.Outcome.next ?_)
  rw [h, onlyIf_same]

theorem readIdcode_cases (s : State) : (s.boot.phase = .off → exec (.debugPortAccess .readIdcode) s = .next s) ∧
    (s.boot.phase ≠ .off → exec (.debugPortAccess .readIdcode) s = .next { s with out := .debugData (Config.idCode.zeroExtend 64) :: s.out }) := by
  refine ⟨fun h => congrArg Host.Outcome.next (if_neg ?_), fun h => congrArg Host.Outcome.next (if_pos ?_)⟩
  · exact fun hne => of_decide_eq_true hne h
  · exact decide_eq_true h

theorem debugModule_cases (v : W32) (s : State) (hr : inReset s = false) (hl : 1 ≤ s.sec.debug) :
    (v.getLsbD 0 = false → ∃ t, exec (.debugPortAccess (.writeDm 0x10 v)) s = .next t ∧ t.sec = { s.sec with dm := {} } ∧ t.cores = s.cores) ∧
    (s.sec.dm.active = true → exec (.debugPortAccess (.writeDm 0x04 v)) s = .next { s with sec := { s.sec with dm := { s.sec.dm with data0 := v } } }) ∧
    exec (.debugPortAccess (.readDm 0x04)) s = .next { s with out := .debugData (BitVec.ofNat 64 s.sec.dm.data0.toNat) :: s.out } := by
  refine ⟨fun hv => ?_, fun ha => ?_, ?_⟩
  · refine ⟨dmMod (fun _ => {}) s, (debugPort_of_open (.writeDm 0x10 v) rfl nofun hr hl).trans (congrArg Host.Outcome.next ?_), rfl, rfl⟩
    show dmControl v.toNat s = _
    have hbit : v.toNat.testBit 0 = false := hv
    rw [dmControl, hbit]
    rfl
  · refine (debugPort_of_open (.writeDm 0x04 v) rfl nofun hr hl).trans (congrArg Host.Outcome.next ?_)
    show (if !(s.sec.dm.active) then s else dmMod (fun d => { d with data0 := v }) s) = _
    rw [ha]
    rfl
  · exact debugPort_of_open (.readDm 0x04) rfl nofun hr hl

theorem debugCore_of_away (n : Nat) (r : BitVec 5) (v : W64) (s : State) (hn : n < 128) (h : coreReached s n = false) :
    exec (.debugPortAccess (.haltCore n)) s = .next s ∧ exec (.debugPortAccess (.resumeCore n)) s = .next s ∧
    exec (.debugPortAccess (.readCoreReg n r)) s = .next s ∧ exec (.debugPortAccess (.writeCoreReg n r v)) s = .next s := by
  have hok : okAc n = true := decide_eq_true hn
  have haway : ¬ coreReached s n = true := not_true_of_false h
  exact ⟨debugPort_of_inert (.haltCore n) hok (if_neg haway), debugPort_of_inert (.resumeCore n) hok (if_neg haway),
    debugPort_of_inert (.readCoreReg n r) hok (if_neg haway), debugPort_of_inert (.writeCoreReg n r v) hok (if_neg haway)⟩

theorem debugCore_cases (n : Nat) (r : BitVec 5) (v : W64) (s : State) (hn : n < 128) (hr : inReset s = false) (hl : 1 ≤ s.sec.debug)
    (hp : acPresent s n = true) (hon : (coreAt s n).on = true) :
    ((coreAt s n).halted = false → exec (.debugPortAccess (.haltCore n)) s = .next (corePut s n { coreAt s n with
      halted := true, dcsr := dcsrCause 3 (coreAt s n).dcsr })) ∧
    ((coreAt s n).halted = true → exec (.debugPortAccess (.haltCore n)) s = .next s) ∧
    exec (.debugPortAccess (.resumeCore n)) s = .next (corePut s n { coreAt s n with halted := false }) ∧
    ((coreAt s n).halted = true → exec (.debugPortAccess (.readCoreReg n r)) s = .next { s with
      out := .debugData (tget 0 (coreAt s n).x r.toNat) :: s.out }) ∧
    ((coreAt s n).halted = true → r ≠ 0 → exec (.debugPortAccess (.writeCoreReg n r v)) s = .next (corePut s n { coreAt s n with
      x := tset 0 (coreAt s n).x r.toNat v })) ∧
    ((coreAt s n).halted = true → exec (.debugPortAccess (.writeCoreReg n 0 v)) s = .next s) := by
  have hok : okAc n = true := decide_eq_true hn
  have hreach : coreReached s n = true := by rw [coreReached, hp, hon]; rfl
  refine ⟨fun h => ?_, fun h => ?_, ?_, fun h => ?_, fun h h0 => ?_, fun h => ?_⟩
  · exact (debugPort_of_open (.haltCore n) hok nofun hr hl).trans (congrArg Host.Outcome.next ((if_pos hreach).trans (if_neg (not_true_of_false h))))
  · exact (debugPort_of_open (.haltCore n) hok nofun hr hl).trans (congrArg Host.Outcome.next ((if_pos hreach).trans (if_pos h)))
  · exact (debugPort_of_open (.resumeCore n) hok nofun hr hl).trans (congrArg Host.Outcome.next (if_pos hreach))
  · exact (debugPort_of_open (.readCoreReg n r) hok nofun hr hl).trans (congrArg Host.Outcome.next ((if_pos hreach).trans (if_pos h)))
  · exact (debugPort_of_open (.writeCoreReg n r v) hok nofun hr hl).trans (congrArg Host.Outcome.next ((if_pos hreach).trans (if_pos (by rw [h, decide_eq_true h0]; rfl))))
  · exact (debugPort_of_open (.writeCoreReg n 0 v) hok nofun hr hl).trans (congrArg Host.Outcome.next ((if_pos hreach).trans (if_neg (by rw [h]; decide))))

theorem foldl_emit {α : Type} (g : α → Emit) : ∀ (l : List α) (s : State),
    l.foldl (fun u w => emit (g w) u) s = { s with out := (l.map g).reverse ++ s.out }
  | [], _ => rfl
  | x :: r, s => by
    rw [List.foldl_cons, foldl_emit g r, List.map_cons, List.reverse_cons, List.append_assoc]
    rfl

theorem debugTensor_cases (n a tag : Nat) (q : BitVec 4) (b : Byte) (v : W64) (c : TCore) (s : State) (hn : n < 192) (ha : a < 0x400000)
    (hr : inReset s = false) (hl : 2 ≤ s.sec.debug) (hc : c = tcAt s n) (hh : c.halted = true) :
    exec (.debugPortAccess (.resumePacer n)) s = .next (tcPut s n { c with halted := false }) ∧
    exec (.debugPortAccess (.readTile n a)) s = .next { s with out := .debugData ((tget 0 c.tile a).zeroExtend 64) :: s.out } ∧
    exec (.debugPortAccess (.writeTile n a b)) s = .next (tcPut s n { c with tile := tset 0 c.tile a b }) ∧
    exec (.debugPortAccess (.readRegion n q)) s = .next { s with out := .debugData (tget 0 c.q q.toNat) :: s.out } ∧
    exec (.debugPortAccess (.writeRegion n q v)) s = .next (tcPut s n { c with q := tset 0 c.q q.toNat v }) ∧
    exec (.debugPortAccess (.clearScoreboard n tag)) s = .next (tcPut s n { c with sb := c.sb.filter fun o => decide (o.tag ≠ tag) }) ∧
    exec (.debugPortAccess (.readScoreboard n)) s = .next { s with out := ((c.sb.flatMap opWords).map fun w => .debugData w).reverse ++ s.out } := by
  subst hc
  have hok : okTc n = true := decide_eq_true hn
  have htile : (okTc n && decide (a < 0x400000)) = true := by rw [hok, decide_eq_true ha]; rfl
  have hrun (op : DebugOp) {t : State} (ho : okDebug op = true) (hne : op ≠ .readIdcode) (hlev : debugLevel op = 2)
      (he : debugEffect op s = t) : exec (.debugPortAccess op) s = .next t :=
    (debugPort_of_open op ho hne hr (hlev ▸ hl)).trans (congrArg Host.Outcome.next he)
  refine ⟨hrun (.resumePacer n) hok nofun rfl (if_pos hh), hrun (.readTile n a) htile nofun rfl (if_pos hh), hrun (.writeTile n a b) htile nofun rfl (if_pos hh),
    hrun (.readRegion n q) hok nofun rfl (if_pos hh), hrun (.writeRegion n q v) hok nofun rfl (if_pos hh), hrun (.clearScoreboard n tag) hok nofun rfl (if_pos hh),
    hrun (.readScoreboard n) hok nofun rfl ((if_pos hh).trans ?_)⟩
  rw [← foldl_emit, List.foldl_flatMap]

theorem writeScoreboard_marks (n tag : Nat) (rd wr : List (Nat × Nat)) (b : Bool) (s : State) (hn : n < 192) (hr : inReset s = false)
    (hl : 2 ≤ s.sec.debug) (hh : (tcAt s n).halted = true) :
    ∃ t, exec (.debugPortAccess (.writeScoreboard n tag rd wr b)) s = .next t ∧
    (∀ o ∈ (tcAt t n).sb, o.tag = tag → o.reads = rd ∧ o.writes = wr ∧ o.readDone = b) ∧
    (∀ o, o.tag ≠ tag → (o ∈ (tcAt t n).sb ↔ o ∈ (tcAt s n).sb)) ∧ (tcAt t n).sb.length = (tcAt s n).sb.length := by
  let g : Op → Op := fun o => if o.tag = tag then { o with reads := rd, writes := wr, readDone := b } else o
  have hhit (o : Op) (h : o.tag = tag) : g o = { o with reads := rd, writes := wr, readDone := b } := if_pos h
  have hmiss (o : Op) (h : o.tag ≠ tag) : g o = o := if_neg h
  have hput : tcAt (tcPut s n { tcAt s n with sb := (tcAt s n).sb.map g }) n = { tcAt s n with sb := (tcAt s n).sb.map g } :=
    tcAt_put s n _ (by rintro h; have := congrArg TCore.halted h; rw [show _ = true from hh] at this; cases this)
  refine ⟨tcPut s n { tcAt s n with sb := (tcAt s n).sb.map g }, ?_, ?_, ?_, ?_⟩
  · exact (debugPort_of_open (.writeScoreboard n tag rd wr b) (decide_eq_true hn) nofun hr hl).trans (congrArg Host.Outcome.next (if_pos hh))
  · rw [hput]
    intro o ho htag
    obtain ⟨p, -, rfl⟩ := List.mem_map.1 ho
    by_cases hp : p.tag = tag
    · rw [hhit p hp]; exact ⟨rfl, rfl, rfl⟩
    · rw [hmiss p hp] at htag; exact absurd htag hp
  · rw [hput]
    refine fun o htag => ⟨fun ho => ?_, fun ho => List.mem_map.2 ⟨o, ho, hmiss o htag⟩⟩
    obtain ⟨p, hp, rfl⟩ := List.mem_map.1 ho
    by_cases hpt : p.tag = tag
    · rw [hhit p hpt] at htag; exact absurd hpt htag
    · rw [hmiss p hpt]; exact hp
  · rw [hput]
    exact List.length_map ..

theorem controllerMemory_of_away (a : Nat) (b : Byte) (s : State) : exec (.debugPortAccess (.readController true (0x50000 + a))) s = .next s ∧
    exec (.debugPortAccess (.writeController true (0x50000 + a) b)) s = .next s ∧
    (a < 0x10000 → exec (.debugPortAccess (.writeController true a b)) s = .next s) := by
  have hpast : decide (0x50000 + a < 0x50000) = false := decide_eq_false (by omega)
  refine ⟨debugPort_of_inert (.readController true (0x50000 + a)) rfl (if_pos ?_), debugPort_of_inert (.writeController true (0x50000 + a) b) rfl (if_neg ?_),
    fun ha => debugPort_of_inert (.writeController true a b) rfl (if_neg ?_)⟩
  · rw [ctrlThere, hpast]; rfl
  · rw [ctrlWritable, hpast, Bool.and_false]; decide
  · rw [ctrlWritable, decide_eq_false (by omega : ¬ 0x10000 ≤ a)]; simp

theorem debugController_cases (a : Nat) (sc : Bool) (b : Byte) (s : State) (hr : inReset s = false) (hl : 3 ≤ s.sec.debug)
    (ha : sc = true → a < 0x50000) :
    exec (.debugPortAccess (.haltController true)) s = .next { s with sec := { s.sec with haltSec := true } } ∧
    exec (.debugPortAccess (.haltController false)) s = .next { s with sec := { s.sec with haltClaryn := true } } ∧
    exec (.debugPortAccess (.resumeController true)) s = .next { s with sec := { s.sec with haltSec := false } } ∧
    exec (.debugPortAccess (.resumeController false)) s = .next { s with sec := { s.sec with haltClaryn := false } } ∧
    ((sc = true → 0x10000 ≤ a) → exec (.debugPortAccess (.writeController sc a b)) s = .next { s with sec := { s.sec with ctrlMem := aput s.sec.ctrlMem (2 * a + (if sc then 1 else 0)) b } }) ∧
    (∀ x, aget s.sec.ctrlMem (2 * a + (if sc then 1 else 0)) = some x →
      exec (.debugPortAccess (.readController sc a)) s = .next { s with out := .debugData (x.zeroExtend 64) :: s.out }) ∧
    (aget s.sec.ctrlMem (2 * a + (if sc then 1 else 0)) = none → exec (.debugPortAccess (.readController sc a)) s = .next { s with
      out := .debugData ((Config.controllerByte sc a).zeroExtend 64) :: s.out }) := by
  have hthere : ¬ (!(ctrlThere sc a)) = true := by
    cases sc with
    | false => exact Bool.false_ne_true
    | true => rw [ctrlThere, decide_eq_true (ha rfl)]; decide
  refine ⟨debugPort_of_open (.haltController true) rfl nofun hr hl, debugPort_of_open (.haltController false) rfl nofun hr hl,
    debugPort_of_open (.resumeController true) rfl nofun hr hl, debugPort_of_open (.resumeController false) rfl nofun hr hl,
    fun h => (debugPort_of_open (.writeController sc a b) rfl nofun hr hl).trans (congrArg Host.Outcome.next ?_),
    fun x hx => (debugPort_of_open (.readController sc a) rfl nofun hr hl).trans (congrArg Host.Outcome.next ?_),
    fun hx => (debugPort_of_open (.readController sc a) rfl nofun hr hl).trans (congrArg Host.Outcome.next ?_)⟩
  · refine if_pos ?_
    cases sc with
    | false => rfl
    | true => rw [ctrlWritable, decide_eq_true (h rfl), decide_eq_true (ha rfl)]; rfl
  · refine (if_neg hthere).trans ?_
    have hkey : aget s.sec.ctrlMem (ctrlKey sc a) = some x := hx
    rw [hkey]
    rfl
  · refine (if_neg hthere).trans ?_
    have hkey : aget s.sec.ctrlMem (ctrlKey sc a) = none := hx
    rw [hkey]
    rfl

end

/-- Settles O54: each command of the security controller and of the debug port by the cases of its own effect. -/
theorem securityControllerActs : Obligations.SecurityControllerActs := by
  unfold Obligations.SecurityControllerActs
  refine ⟨fun v a b l o d k s h => security_of_off h v a b l o d k, fun v b c l s h => security_of_closed h v b c l, fun v s => fwUpdateCmd_of_refused,
    fun f s => fwUpdateCmd_of_idle, fun b s => fwUpdateComplete_of_idle, fun b u s => fwUpdateComplete_of_busy, imageCode_eq,
    protCommit_of_zero, ?_, fun b c s => protCommit_badSig, fun s => protCommit_of_good, commitCode_of_unsound, commitCode_of_addressee,
    fun l s => attNonce_of_refused, ?_, fun l d n s h => ⟨reportBody_length l s h, identitySign_length d n l⟩, fun l s => keyLoad_of_refused,
    fun l k p s => keyLoad_cases, ?_, fun v o d k s => debugUnlock_cases, unlockOk_of_barred, fun d c t s => alarm_resets, failures_of_reset,
    failures_of_goingDown, failures_of_noClaryn, failures_of_up, checkFailure_of_unknown, debugPort_of_closed, readIdcode_cases, debugModule_cases,
    debugCore_of_away, debugCore_cases, debugTensor_cases, writeScoreboard_marks, controllerMemory_of_away, debugController_cases⟩
  · intro b c s hs ho hc h0 h6 h7
    exact (protCommit_of_refused hs ho hc h0).trans (congrArg Host.Outcome.next (if_neg (by omega)))
  · intro l b d s hs ho hl ha hp hb
    rw [hb]
    exact attNonce_of_good hs ho hl ha hp
  · rintro c s hs rfl
    exact congrArg Host.Outcome.next (by rw [hs, onlyIf_true]; rfl)

end Sys2Proof.Machine
end

section
/-! SUPPORT. The bytes of a line: of a run written into it, of a merge, and of a line read back from HBM (R90, R309). -/
set_option Elab.async false

namespace Sys2Proof.Machine

open Sys2Proof

section
variable {d old new mask : LineData} {i j b : Nat} {l : List Byte}

/-- A byte of a line, bit by bit. -/
theorem lineByte_bit (d : LineData) (hb : b < 8) : (lineByte d j).getLsbD b = d.getLsbD (8 * j + b) := by
  rw [lineByte, BitVec.truncate_eq_setWidth, BitVec.getLsbD_setWidth, BitVec.getLsbD_ushiftRight, decide_eq_true hb, Bool.true_and]

theorem leNat_bit (hb : b < 8) : ∀ (l : List Byte) (q : Nat), (leNat l).testBit (8 * q + b) = (l.getD q 0).getLsbD b
  | [], q => by simp [leNat]
  | x :: r, 0 => by
    rw [leNat, Nat.mul_zero, Nat.zero_add, List.getD_cons_zero, Nat.add_comm, Nat.testBit_two_pow_mul_add (i := 8) (leNat r) x.isLt b, if_pos hb]
    rfl
  | x :: r, q + 1 => by
    rw [leNat, List.getD_cons_succ, Nat.add_comm, Nat.testBit_two_pow_mul_add (i := 8) (leNat r) x.isLt, if_neg (by omega),
      ← leNat_bit hb r q]
    congr 1
    omega

theorem mergeLine_bit (mask old new : LineData) {k : Nat} (hk : k < 1024) :
    (mergeLine mask old new).getLsbD k = if mask.getLsbD k then new.getLsbD k else old.getLsbD k := by
  rw [mergeLine, BitVec.getLsbD_or, BitVec.getLsbD_and, BitVec.getLsbD_and, BitVec.getLsbD_not, decide_eq_true hk]
  cases mask.getLsbD k <;> simp

theorem runMask_bit {k : Nat} (hk : k < 1024) :
    (runMask i false l).getLsbD k = (decide (8 * i ≤ k) && decide (k < 8 * (i + l.length))) := by
  have hlen : 4 * (2 * l.length - b2n false) = 8 * l.length := by show 4 * (2 * l.length - 0) = _; omega
  have hat : 4 * (2 * i) = 8 * i := by omega
  rw [runMask, nibbleMask, BitVec.getLsbD_ofNat, decide_eq_true hk, Bool.true_and, Nat.testBit_mul_two_pow, Nat.testBit_two_pow_sub_one, hlen, hat]
  by_cases h : 8 * i ≤ k
  · rw [decide_eq_true h, Bool.true_and, Bool.true_and]
    exact decide_eq_decide.2 (by omega)
  · rw [decide_eq_false h, Bool.false_and, Bool.false_and]

theorem runLine_bit {k : Nat} (hk : k < 1024) :
    (runLine i l).getLsbD k = (decide (8 * i ≤ k) && (leNat l).testBit (k - 8 * i)) := by
  rw [runLine, BitVec.getLsbD_ofNat, decide_eq_true hk, Bool.true_and, Nat.testBit_mul_two_pow]

/-- A run merged into a line: its own bytes, and the old ones elsewhere. -/
theorem lineByte_merge (i : Nat) (l : List Byte) (old : LineData) (hj : j < 128) :
    lineByte (mergeLine (runMask i false l) old (runLine i l)) j = if i ≤ j ∧ j < i + l.length then l.getD (j - i) 0 else lineByte old j := by
  refine BitVec.eq_of_getLsbD_eq fun b hb => ?_
  have hk : 8 * j + b < 1024 := by omega
  rw [lineByte_bit _ hb, mergeLine_bit _ _ _ hk, runMask_bit hk, runLine_bit hk]
  by_cases h : i ≤ j ∧ j < i + l.length
  · have hpos : 8 * j + b - 8 * i = 8 * (j - i) + b := by omega
    rw [decide_eq_true (by omega : 8 * i ≤ 8 * j + b), decide_eq_true (by omega : 8 * j + b < 8 * (i + l.length)), hpos, leNat_bit hb, if_pos h]
    rfl
  · have hout : (decide (8 * i ≤ 8 * j + b) && decide (8 * j + b < 8 * (i + l.length))) = false := by
      rw [← Bool.decide_and]
      exact decide_eq_false (by omega)
    rw [hout, if_neg Bool.false_ne_true, if_neg h, lineByte_bit _ hb]

theorem lineByte_whole (hj : j < 128) : lineByte (mergeLine wholeMask old new) j = lineByte new j := by
  refine BitVec.eq_of_getLsbD_eq fun b hb => ?_
  have hk : 8 * j + b < 1024 := by omega
  rw [lineByte_bit _ hb, lineByte_bit _ hb, mergeLine_bit _ _ _ hk, wholeMask, BitVec.getLsbD_allOnes, decide_eq_true hk, if_pos rfl]

theorem lineBytes128_get (d : LineData) (hj : j < 128) : (lineBytes128 d).getD j 0 = lineByte d j := by
  have hlen : ∀ n a, (upto a n).length = n := fun n => by
    induction n with
    | zero => exact fun _ => rfl
    | succ n ih => exact fun a => by rw [upto, List.length_cons, ih]
  have hget : ∀ n a k, k < n → (upto a n)[k]? = some (a + k) := fun n => by
    induction n with
    | zero => exact fun _ _ h => absurd h (Nat.not_lt_zero _)
    | succ n ih =>
      intro a k hk
      cases k with
      | zero => rfl
      | succ k => rw [upto, List.getElem?_cons_succ, ih _ _ (by omega)]; congr 1; omega
  rw [lineBytes128, List.getD_eq_getElem?_getD, List.getElem?_map, hget 128 0 j hj, Nat.zero_add]
  rfl

theorem lineByte_ofBytes (l : List Byte) (hj : j < 128) : lineByte (lineOfBytes l) j = l.getD j 0 := by
  refine BitVec.eq_of_getLsbD_eq fun b hb => ?_
  have hk : 8 * j + b < 1024 := by omega
  rw [lineByte_bit _ hb, lineOfBytes, BitVec.getLsbD_ofNat, decide_eq_true hk, Bool.true_and, leNat_bit hb]

end

end Sys2Proof.Machine
end

section
/-! SUPPORT. The newest copy of a line, and what a write of home data does to it and to the other lines (R284, R307, R311, R320). -/
set_option Elab.async false

namespace Sys2Proof.Machine

open Sys2Proof

section
variable {s t u : State} {ln y md n : Nat} {d : LineData} {b : Bool} {part : Option Nat} {e x : LlcLine}

/-! The newest copy -/

theorem newest_of_noCopies (hl : ∀ e ∈ s.coh.lines, e.2.1 ≠ ln) (hw : ∀ e ∈ s.coh.wb, e.2.1 ≠ ln) (hn : ∀ m ∈ s.coh.net, msgLine ln m = none) :
    newest s ln = homeLine s ln := by
  have hfind : s.coh.lines.find? (fun e => decide (e.2.1 = ln) && decide (e.2.2.st ≠ .s)) = none :=
    List.find?_eq_none.2 fun e he => by simp [hl e he]
  have hwb : s.coh.wb.find? (fun e => decide (e.2.1 = ln) && decide (e.2.2.st ≠ .s) && !(vacSettled s e.1 ln)) = none :=
    List.find?_eq_none.2 fun e he => by simp [hw e he]
  rw [newest, hfind, hwb, List.findSome?_eq_none_iff.2 hn]

theorem newest_of_linePut {a : Nat} {z : ALine} (hz : z.st ≠ .s) : newest (linePut a ln z s) ln = (z.data, z.poison) := by
  have hfind : (linePut a ln z s).coh.lines.find? (fun e => decide (e.2.1 = ln) && decide (e.2.2.st ≠ .s)) = some (a, ln, z) := by
    show List.find? _ ((a, ln, z) :: _) = _
    rw [List.find?_cons, decide_eq_true rfl, decide_eq_true hz]
    rfl
  rw [newest, hfind]

/-- A line's newest copy depends on the copies of it alone, and on home data where there is none. -/
theorem newest_congr (hl : t.coh.lines.find? (fun e => decide (e.2.1 = ln) && decide (e.2.2.st ≠ .s)) =
      s.coh.lines.find? fun e => decide (e.2.1 = ln) && decide (e.2.2.st ≠ .s)) (hw : t.coh.wb = s.coh.wb) (hn : t.coh.net = s.coh.net)
    (hh : (homeLine t ln).1 = (homeLine s ln).1) : (newest t ln).1 = (newest s ln).1 := by
  have hvac (a : Nat) : vacSettled t a ln = vacSettled s a ln := by rw [vacSettled, vacSettled, hn]
  rw [newest, newest, hl, hw, hn]
  simp only [hvac]
  split
  · rfl
  · split
    · rfl
    · split
      · rfl
      · exact hh

theorem newest_of_coh (hc : t.coh = s.coh) (hh : (homeLine t ln).1 = (homeLine s ln).1) : (newest t ln).1 = (newest s ln).1 :=
  newest_congr (by rw [hc]) (by rw [hc]) (by rw [hc]) hh

theorem memByte_eq {a : Nat} (h : (newest t (lineOf a)).1 = (newest s (lineOf a)).1) : memByte t a = memByte s a := by
  rw [memByte, memByte, h]

theorem memByte_congr (hc : t.coh = s.coh) (hl : t.mem.llc = s.mem.llc) (hm : t.mem.hbm = s.mem.hbm) (a : Nat) : memByte t a = memByte s a :=
  memByte_eq (newest_of_coh hc (by rw [homeLine, homeLine, hl, hm]; split <;> rfl))

/-! Home data -/

theorem homeLine_of_hit (h : aget s.mem.llc ln = some e) : homeLine s ln = (e.data, e.poison) := by rw [homeLine, h]

theorem homeLine_of_miss (h : aget s.mem.llc ln = none) : (homeLine s ln).1 = hbmData s ln := by rw [homeLine, h]; rfl

theorem homeLine_congr (hl : aget t.mem.llc y = aget s.mem.llc y) (hm : hbmData t y = hbmData s y) : (homeLine t y).1 = (homeLine s y).1 := by
  rw [homeLine, homeLine, hl]
  split
  · rfl
  · exact hm

theorem aget_aput_self {κ α : Type} [DecidableEq κ] (l : List (κ × α)) (k : κ) (v : α) : aget (aput l k v) k = some v := by
  rw [aput, aget, if_pos rfl]

theorem aget_aput_ne {κ α : Type} [DecidableEq κ] (l : List (κ × α)) {k j : κ} (v : α) (h : j ≠ k) : aget (aput l k v) j = aget l j := by
  rw [aput, aget, if_neg (Ne.symm h), aget_adel_ne _ _ h]

theorem lineBytes128_length (d : LineData) : (lineBytes128 d).length = 128 := by rw [lineBytes128, List.length_map]; rfl

/-- A line written to HBM is read back, and no other line changes. -/
theorem hbmData_written (hw : Memory.wf s.mem.hbm = true) (hm : t.mem.hbm = tputs s.mem.hbm (128 * ln) (lineBytes128 d)) :
    (∀ j, j < 128 → lineByte (hbmData t ln) j = lineByte d j) ∧ ∀ y, y ≠ ln → hbmData t y = hbmData s y := by
  refine ⟨fun j hj => ?_, fun y hy => ?_⟩
  · have hback := tbytes_tputs (lineBytes128 d) s.mem.hbm (128 * ln) hw
    rw [lineBytes128_length] at hback
    rw [hbmData, hm, hback, lineByte_ofBytes _ hj, lineBytes128_get _ hj]
  · rw [hbmData, hbmData, hm]
    refine congrArg lineOfBytes (tbytes_congr _ _ fun k hlo hhi => tget_tputs_outside _ _ _ _ ?_)
    rw [lineBytes128_length]
    omega

theorem meter_regs : (meter part md s).regs = s.regs := (meter_did (W := but 13) rfl (.refl s)).regs rfl

theorem hbmLine_mem : (hbmLine ln d b part s).mem = (setPoison ln b (putHbm ln d s)).mem := by
  rw [hbmLine]
  split
  · exact ((recordPage_did (W := but 30) rfl (.refl _)).mem rfl).trans (meter_mem _ _ _)
  · exact meter_mem _ _ _

theorem hbmLine_hbm : (hbmLine ln d b part s).mem.hbm = tputs s.mem.hbm (128 * ln) (lineBytes128 d) := by
  rw [hbmLine_mem]
  unfold setPoison putHbm
  generalize lineBytes128 d = l
  rfl

theorem hbmLine_llc : (hbmLine ln d b part s).mem.llc = s.mem.llc := by simp only [hbmLine_mem, setPoison, putHbm]

theorem hbmLine_coh : (hbmLine ln d b part s).coh = s.coh := (hbmLine_did (W := but 33) rfl (.refl s)).coh rfl

/-! Ways -/

/-- The ways of a mask that a fill may evict. -/
def openWays (mask : Nat) (locked : List Nat) : Nat :=
  (upto 0 16).foldl (fun k w => if mask.testBit w && !(locked.contains w) then k + 2 ^ w else k) 0

theorem openWays_ne_zero {mask w : Nat} {locked : List Nat} (hw : w < 16) (hm : mask.testBit w = true) (hl : locked.contains w = false) :
    openWays mask locked ≠ 0 := by
  have hgrow : ∀ (l : List Nat) (k : Nat), k ≠ 0 ∨ w ∈ l →
      l.foldl (fun k w => if mask.testBit w && !(locked.contains w) then k + 2 ^ w else k) k ≠ 0 := by
    intro l
    induction l with
    | nil => exact fun k h => h.resolve_right (List.not_mem_nil)
    | cons v r ih =>
      intro k h
      rw [List.foldl_cons]
      refine ih _ ?_
      have hpow : 0 < 2 ^ v := Nat.two_pow_pos v
      obtain hk | hmem := h
      · refine .inl ?_
        split
        · omega
        · exact hk
      · obtain rfl | hmem := List.mem_cons.1 hmem
        · refine .inl ?_
          rw [hm, hl]
          exact Nat.ne_of_gt (Nat.lt_of_lt_of_le hpow (Nat.le_add_left _ _))
        · exact .inr hmem
  exact hgrow _ _ (.inr ((mem_upto _ _ _).2 ⟨Nat.zero_le _, by omega⟩))

theorem pickWay_of_free {lru mask w : Nat} {used locked : List Nat}
    (h : (upto 0 16).find? (fun w => mask.testBit w && !(used.contains w)) = some w) : pickWay lru mask used locked = some w := by
  rw [pickWay, h]

theorem pickWay_isSome {lru mask : Nat} {used : List Nat} (h₀ : mask ≠ 0) (h : mask < 2 ^ 16) : (pickWay lru mask used []).isSome = true := by
  obtain ⟨w, hw⟩ := Nat.exists_testBit_of_ne_zero h₀
  have hlow : w < 16 := by
    by_contra hge
    have hpow : 2 ^ 16 ≤ 2 ^ w := Nat.pow_le_pow_right (by decide) (by omega)
    have hle := Nat.ge_two_pow_of_testBit hw
    omega
  rw [pickWay]
  split
  · rfl
  · dsimp only
    rw [← openWays, if_neg (openWays_ne_zero hlow hw rfl)]
    rfl

theorem llcMask_lt (s : State) (md : Nat) (part : Option Nat) (p : Bool) : llcMask s md part p < 2 ^ 16 := by
  refine Nat.lt_of_le_of_lt Nat.and_le_left ?_
  cases part with
  | none => exact (by decide : 0xFFFF < 2 ^ 16)
  | some k =>
    show bitsOf 15 0 _ < _
    rw [bitsOf]
    exact Nat.mod_lt _ (by decide)

theorem sliceWay_isSome (h₀ : n ≠ 0) (h : n < 2 ^ 16) : ∃ w t, sliceWay md ln n s = (some w, t) := by
  rw [sliceWay]
  split
  · next hnone =>
    have hsome := pickWay_isSome (lru := tget 0 s.mem.plru (65536 * md + lineSet ln)) (used := (sliceSet s md (lineSet ln)).map fun e => e.1) h₀ h
    rw [hnone] at hsome
    cases hsome
  · split
    · exact ⟨_, _, rfl⟩
    · exact ⟨_, _, rfl⟩

/-- A permitted way that is free takes the line, and nothing leaves. -/
theorem sliceWay_of_free (h : ∃ w, w < 16 ∧ n.testBit w = true ∧ ∀ e ∈ sliceSet s md (lineSet ln), e.1 ≠ w) :
    ∃ w, sliceWay md ln n s = (some w, s) := by
  obtain ⟨w, hw, hm, hfree⟩ := h
  have hunused : ((sliceSet s md (lineSet ln)).map fun e => e.1).contains w = false := by
    simp only [List.contains_eq_mem, List.mem_map, not_exists, not_and, decide_eq_false_iff_not]
    exact fun e he => hfree e he
  cases hf : (upto 0 16).find? fun w => n.testBit w && !(((sliceSet s md (lineSet ln)).map fun e => e.1).contains w) with
  | none =>
    have hno := List.find?_eq_none.1 hf w ((mem_upto _ _ _).2 ⟨Nat.zero_le _, by omega⟩)
    rw [hm, hunused] at hno
    exact absurd rfl hno
  | some v =>
    have hv := List.find?_some hf
    simp only [Bool.and_eq_true, Bool.not_eq_true', List.contains_eq_mem, List.mem_map, not_exists, not_and, decide_eq_false_iff_not] at hv
    have hnone : (sliceSet s md (lineSet ln)).find? (fun e => decide (e.1 = v)) = none :=
      List.find?_eq_none.2 fun e he => by simpa using hv.2 e he
    refine ⟨v, ?_⟩
    rw [sliceWay, pickWay_of_free hf]
    dsimp only
    rw [hnone]

/-! Lines that enter their home slice -/

theorem llcFill_of_hit {mask : Nat} (h : aget s.mem.llc ln = some x) : llcFill ln mask e s = llcTouch (lineHome ln) (lineSet ln) x.way
    { s with mem := { s.mem with llc := aput s.mem.llc ln { e with way := x.way } } } := by
  rw [llcFill]
  dsimp only
  rw [h]

theorem llcFill_of_way {mask w : Nat} (h : aget s.mem.llc ln = none) (hw : sliceWay (lineHome ln) ln mask s = (some w, t)) :
    llcFill ln mask e s = llcTouch (lineHome ln) (lineSet ln) w { t with mem := { t.mem with llc := aput t.mem.llc ln { e with way := w } } } := by
  rw [llcFill]
  dsimp only
  rw [h, hw]

theorem homeLine_entered (md set w : Nat) :
    homeLine (llcTouch md set w { s with mem := { s.mem with llc := aput s.mem.llc ln e } }) ln = (e.data, e.poison) := by
  have h : aget (llcTouch md set w { s with mem := { s.mem with llc := aput s.mem.llc ln e } }).mem.llc ln = some e := aget_aput_self _ _ _
  exact homeLine_of_hit h

/-- Home data as a write leaves it (R311). -/
theorem toHome_data (hw : Memory.wf s.mem.hbm = true) {j : Nat} (hj : j < 128) : lineByte (homeLine (toHome ln d b part s) ln).1 j = lineByte d j := by
  cases hx : aget s.mem.llc ln with
  | some x =>
    rw [toHome, hx]
    dsimp only
    rw [llcFill_of_hit hx]
    rw [homeLine_entered]
  | none =>
    rw [toHome, hx]
    dsimp only
    by_cases hm : llcMask s (lineHome ln) part false = 0
    · rw [if_pos hm]
      obtain ⟨hback, -⟩ := hbmData_written (t := hbmLine ln d b part s) hw hbmLine_hbm
      have hmiss : aget (hbmLine ln d b part s).mem.llc ln = none := by rw [hbmLine_llc]; exact hx
      rw [homeLine_of_miss hmiss]
      exact hback j hj
    · obtain ⟨w, t, hway⟩ := sliceWay_isSome (md := lineHome ln) (ln := ln) (s := s) hm (llcMask_lt _ _ _ _)
      rw [if_neg hm, llcFill_of_way hx hway]
      rw [homeLine_entered]

/-- Where the slice has room, a write of home data changes its own line alone. -/
theorem toHome_frame (hw : Memory.wf s.mem.hbm = true) (hr : SliceRoom s part ln) :
    (toHome ln d b part s).coh = s.coh ∧ ∀ y, y ≠ ln → (homeLine (toHome ln d b part s) y).1 = (homeLine s y).1 := by
  cases hx : aget s.mem.llc ln with
  | some x =>
    rw [toHome, hx]
    dsimp only
    rw [llcFill_of_hit hx]
    exact ⟨rfl, fun y hy => homeLine_congr (aget_aput_ne _ _ hy) rfl⟩
  | none =>
    rw [toHome, hx]
    dsimp only
    by_cases hm : llcMask s (lineHome ln) part false = 0
    · rw [if_pos hm]
      obtain ⟨-, hother⟩ := hbmData_written (t := hbmLine ln d b part s) hw hbmLine_hbm
      exact ⟨hbmLine_coh, fun y hy => homeLine_congr (by rw [hbmLine_llc]) (hother y hy)⟩
    · have hfree : ∃ w, w < 16 ∧ (llcMask s (lineHome ln) part false).testBit w = true ∧
          ∀ e ∈ sliceSet s (lineHome ln) (lineSet ln), e.1 ≠ w := by
        obtain h | h | h := hr
        · rw [hx] at h; cases h
        · exact absurd h hm
        · exact h
      obtain ⟨w, hway⟩ := sliceWay_of_free hfree
      rw [if_neg hm, llcFill_of_way hx hway]
      exact ⟨rfl, fun y hy => homeLine_congr (aget_aput_ne _ _ hy) rfl⟩

end

end Sys2Proof.Machine
end

section
/-! SUPPORT. What an access to home data leaves at the agents (R284, R289, R311, R314), and a write of a line that no agent holds (R313). -/
set_option Elab.async false

namespace Sys2Proof.Machine

open Sys2Proof

section
variable {s t u : State} {ln md n g a unit : Nat} {d mask : LineData} {b : Bool} {part : Option Nat} {e : LlcLine}

/-- Home data is all that moves: of the copies at agents only slices and clusters lose some, nothing is on its way that was not, and no group
learns of it. -/
structure HomeOnly (s t : State) : Prop where
  lines : ∃ p : Nat × Nat × ALine → Bool, t.coh.lines = s.coh.lines.filter p ∧ ∀ e, isGroup e.1 = true → p e = true
  wb : t.coh.wb = s.coh.wb
  net : t.coh.net = s.coh.net
  opens : t.coh.open_ = s.coh.open_
  lru : t.coh.l2lru = s.coh.l2lru
  flaws : t.mem.flaws = s.mem.flaws

theorem HomeOnly.of_coh (hc : t.coh = s.coh) (hf : t.mem.flaws = s.mem.flaws) : HomeOnly s t :=
  ⟨⟨fun _ => true, by rw [hc, List.filter_true], fun _ _ => rfl⟩, by rw [hc], by rw [hc], by rw [hc], by rw [hc], hf⟩

theorem HomeOnly.refl (s : State) : HomeOnly s s := .of_coh rfl rfl

theorem HomeOnly.trans (h : HomeOnly s t) (k : HomeOnly t u) : HomeOnly s u := by
  obtain ⟨⟨p, hp, hpg⟩, hwb, hnet, hopen, hlru, hfl⟩ := h
  obtain ⟨⟨q, hq, hqg⟩, kwb, knet, kopen, klru, kfl⟩ := k
  refine ⟨⟨fun e => p e && q e, ?_, fun e he => ?_⟩, kwb.trans hwb, knet.trans hnet, kopen.trans hopen, klru.trans hlru, kfl.trans hfl⟩
  · rw [hq, hp, List.filter_filter]
    exact List.filter_congr fun e _ => Bool.and_comm _ _
  · show (p e && q e) = true
    rw [hpg e he, hqg e he]; rfl

/-- A state reached in two steps of which the second touches neither copies nor flaws. -/
theorem HomeOnly.then_coh (h : HomeOnly s t) (hc : u.coh = t.coh) (hf : u.mem.flaws = t.mem.flaws) : HomeOnly s u := h.trans (.of_coh hc hf)

theorem HomeOnly.foldl {α : Type} {f : State → α → State} : ∀ (l : List α) (s : State), (∀ x ∈ l, ∀ v, HomeOnly v (f v x)) → HomeOnly s (l.foldl f s)
  | [], s, _ => .refl s
  | x :: r, s, h => (h x (List.mem_cons_self ..) s).trans (HomeOnly.foldl r _ fun y hy => h y (List.mem_cons_of_mem _ hy))

/-! Slices -/

theorem homeOnly_lineDrop (h : isGroup a = false) (ln : Nat) (s : State) : HomeOnly s (lineDrop a ln s) := by
  refine ⟨⟨_, rfl, fun e he => ?_⟩, rfl, rfl, rfl, rfl, rfl⟩
  have hne : e.1 ≠ a := by rintro rfl; rw [he] at h; cases h
  rw [decide_eq_false hne]
  rfl

theorem homeOnly_nearInv (a ln : Nat) (s : State) : HomeOnly s (nearInv a ln s) := by
  rw [nearInv]
  split
  · next hslice =>
    simp only [isSlice, Bool.and_eq_true, decide_eq_true_eq] at hslice
    refine HomeOnly.trans (t := (s.coh.near.filter fun e => decide (e.2 = ln) && decide (e.1 / 4 = a - 56)).foldl (fun u e => lineDrop e.1 ln u) s)
      (HomeOnly.foldl _ _ fun e he v => homeOnly_lineDrop ?_ _ _) ⟨⟨fun _ => true, (List.filter_true _).symm, fun _ _ => rfl⟩, rfl, rfl, rfl, rfl, rfl⟩
    have hnear := (List.mem_filter.1 he).2
    simp only [Bool.and_eq_true, decide_eq_true_eq] at hnear
    rw [isGroup, decide_eq_false (by omega : ¬ 24 ≤ e.1)]
    rfl
  · exact .refl s

theorem hbmLine_flaws : (hbmLine ln d b part s).mem.flaws = s.mem.flaws := by simp only [hbmLine_mem, setPoison, putHbm]

theorem homeOnly_hbmLine : HomeOnly s (hbmLine ln d b part s) := .of_coh hbmLine_coh hbmLine_flaws

theorem homeOnly_llcEvict (ln : Nat) (s : State) : HomeOnly s (llcEvict ln s) := by
  rw [llcEvict]
  split
  · exact .refl s
  · split
    · exact HomeOnly.trans (t := llcDrop ln s) (.of_coh rfl rfl) homeOnly_hbmLine
    · exact .of_coh rfl rfl

theorem notGroup_slice (md : Nat) : isGroup (56 + md) = false := by
  rw [isGroup, decide_eq_false (by omega : ¬ 56 + md < 56), Bool.and_false]

theorem homeOnly_sliceEvict (md ln : Nat) (s : State) : HomeOnly s (sliceEvict md ln s) := by
  rw [sliceEvict]
  split
  · exact homeOnly_llcEvict _ _
  · exact (homeOnly_lineDrop (notGroup_slice md) _ _).trans (homeOnly_nearInv _ _ _)

theorem homeOnly_sliceWay (md ln mask : Nat) (s : State) : HomeOnly s (sliceWay md ln mask s).2 := by
  rw [sliceWay]
  split
  · exact .refl s
  · split
    · exact homeOnly_sliceEvict _ _ _
    · exact .refl s

theorem homeOnly_llcFill (ln mask : Nat) (e : LlcLine) (s : State) : HomeOnly s (llcFill ln mask e s) := by
  have hway := homeOnly_sliceWay (lineHome ln) ln mask s
  rw [llcFill]
  dsimp only
  split
  · exact .of_coh rfl rfl
  · split
    · next heq => rw [heq] at hway; exact hway
    · next heq => rw [heq] at hway; exact hway.then_coh rfl rfl

theorem homeOnly_toHome (ln : Nat) (d : LineData) (b : Bool) (part : Option Nat) (s : State) : HomeOnly s (toHome ln d b part s) := by
  rw [toHome]
  split
  · exact homeOnly_llcFill _ _ _ _
  · dsimp only
    split
    · exact homeOnly_hbmLine
    · exact homeOnly_llcFill _ _ _ _

/-! Reads of HBM -/

/-- A read that meets no error but poison. -/
theorem hbmRead_of_noFlaws (h : s.mem.flaws = []) : hbmRead part ln s = (if s.mem.poison.contains ln then some 3 else none, meter part (tileOf (128 * ln)) s) := by
  have hflaw : flawAt (meter part (tileOf (128 * ln)) s) ln = none := by rw [flawAt, meter_mem, h]; rfl
  rw [hbmRead]
  rw [hflaw, meter_mem]
  split
  · rfl
  · rfl

theorem homeOnly_meter (part : Option Nat) (md : Nat) (s : State) : HomeOnly s (meter part md s) :=
  .of_coh (meter_coh _ _ _) (by rw [meter_mem])

theorem homeOnly_hbmRead (h : s.mem.flaws = []) : HomeOnly s (hbmRead part ln s).2 := by
  rw [hbmRead_of_noFlaws h]
  exact homeOnly_meter _ _ _

theorem homeOnly_memErr (c pa : Nat) (who : Requester) (s : State) : HomeOnly s (memErr c pa who s) :=
  .of_coh ((memErr_did (W := but 33) rfl (.refl s)).coh rfl) (by rw [(memErr_did (W := but 30) rfl (.refl s)).mem rfl])

theorem homeOnly_llcPrefetch (h : s.mem.flaws = []) : HomeOnly s (llcPrefetch part ln s) := by
  have hread : HomeOnly s (hbmRead part ln s).2 := homeOnly_hbmRead h
  rw [llcPrefetch]
  dsimp only
  split
  · exact .refl s
  · refine HomeOnly.trans ?_ (homeOnly_llcFill _ _ _ _)
    split
    · exact hread.trans (homeOnly_memErr _ _ _ _)
    · exact hread

theorem homeOnly_prefetches (l : List Nat) : ∀ s : State, s.mem.flaws = [] → HomeOnly s (l.foldl (fun u y => llcPrefetch part y u) s) := by
  induction l with
  | nil => exact fun s _ => .refl s
  | cons y r ih =>
    intro s h
    have hone : HomeOnly s (llcPrefetch part y s) := homeOnly_llcPrefetch h
    exact hone.trans (ih _ (hone.flaws.trans h))

theorem homeOnly_noteMiss (h : s.mem.flaws = []) : HomeOnly s (noteMiss unit part ln s) := by
  unfold noteMiss
  extract_lets md cfg
  split
  · exact .refl s
  · rename_i m mine x t deg _
    have hput : HomeOnly s t := .of_coh rfl rfl
    split
    · exact hput
    · exact hput.trans (homeOnly_prefetches _ _ h)

theorem homeOnly_homeRead (h : s.mem.flaws = []) : HomeOnly s (homeRead unit part b ln s).2.2 := by
  have hread : HomeOnly s (hbmRead part ln s).2 := homeOnly_hbmRead h
  rw [homeRead]
  split
  · exact .of_coh rfl rfl
  · have hfill := hread.trans (homeOnly_llcFill ln (llcMask (hbmRead part ln s).2 (lineHome ln) part b)
      ⟨hbmData (hbmRead part ln s).2 ln, false, (hbmRead part ln s).2.mem.poison.contains ln, part, 0⟩ _)
    exact hfill.trans (homeOnly_noteMiss (hfill.flaws.trans h))

/-! A group's own lines -/

theorem HomeOnly.agentSet_eq (h : HomeOnly s t) (hg : isGroup g = true) : agentSet t g ln = agentSet s g ln := by
  obtain ⟨⟨p, hp, hpg⟩, -⟩ := h
  rw [agentSet, agentSet, hp, List.filterMap_filter]
  refine List.filterMap_congr fun e _ => ?_
  by_cases he : e.1 = g
  · rw [hpg e (he ▸ hg)]; rfl
  · have hnone : (if e.1 = g ∧ e.2.1 % l2Sets g = ln % l2Sets g then some (e.2.2.way, e.2.1, e.2.2) else none) = none := if_neg fun h => he h.1
    rw [hnone]
    exact ite_self _

theorem HomeOnly.lineAt_eq (h : HomeOnly s t) (hg : isGroup g = true) (ln : Nat) : lineAt t g ln = lineAt s g ln := by
  obtain ⟨⟨p, hp, hpg⟩, -⟩ := h
  rw [lineAt, lineAt, hp, List.find?_filter]
  refine congrArg (Option.map _) (congrArg (fun q => List.find? q s.coh.lines) (funext fun e => ?_))
  by_cases he : e.1 = g
  · simp [hpg e (he ▸ hg), he]
  · simp [he]

theorem HomeOnly.pinned_eq (h : HomeOnly s t) (a l : Nat) (x : ALine) : pinned t a l x = pinned s a l x := by
  rw [pinned, pinned, vacRoom, vacRoom, wbAt, wbAt, h.opens, h.wb]

theorem HomeOnly.waysKept_eq (h : HomeOnly s t) (hg : isGroup g = true) : waysKept t g ln = waysKept s g ln := by
  rw [waysKept, waysKept, h.opens]
  simp only [h.lineAt_eq hg]

/-- The way that a group's fill finds is the one it would have found before. -/
theorem HomeOnly.agentWay_eq (h : HomeOnly s t) (hg : isGroup g = true) {mask : Nat} : (agentWay g ln mask t).1 = (agentWay g ln mask s).1 := by
  have hslice : isSlice g = false := by
    simp only [isGroup, Bool.and_eq_true, decide_eq_true_eq] at hg
    rw [isSlice, decide_eq_false (by omega : ¬ 56 ≤ g)]
    rfl
  have hfst (v : State) : (agentWay g ln mask v).1 = pickWay (tget 0 v.coh.l2lru (l2Key' g ln))
      (if 16 ≤ (agentSet v g ln).length + waysKept v g ln then mask &&& ((agentSet v g ln).foldl (fun k e => k ||| 2 ^ e.1) 0) else mask)
      ((agentSet v g ln).map fun e => e.1) ((agentSet v g ln).filterMap fun e => if pinned v g e.2.1 e.2.2 then some e.1 else none) := by
    rw [agentWay, hslice, if_neg Bool.false_ne_true]
    dsimp only
    split
    · next hp => rw [hp]
    · next hp =>
      rw [hp]
      split
      · rfl
      · rfl
  rw [hfst, hfst, h.agentSet_eq hg, h.waysKept_eq hg, h.lru]
  simp only [h.pinned_eq]

end

end Sys2Proof.Machine
end

section
/-! SUPPORT. A run of bytes written into a line that no agent holds, and into the copy of a group (R302, R312, R313). -/
set_option Elab.async false

namespace Sys2Proof.Machine

open Sys2Proof

section
variable {s t u v : State} {who : Requester} {ln a g n ac : Nat} {d mask : LineData} {b : Bool} {part : Option Nat} {l : List Byte} {y : ALine}

/-! A run in a line -/

/-- The newest copy of the line is `old` with the run written into it. -/
def RunWritten (a : Nat) (l : List Byte) (old : LineData) (t : State) : Prop :=
  ∀ j, j < 128 → lineByte (newest t (lineOf a)).1 j = lineByte (mergeLine (runMask (a % 128) false l) old (runLine (a % 128) l)) j

theorem RunWritten.inside (h : RunWritten a l d t) (hfit : a % 128 + l.length ≤ 128) {i : Nat} (hi : i < l.length) :
    memByte t (a + i) = l.getD i 0 := by
  have hline : lineOf (a + i) = lineOf a := by unfold lineOf; omega
  have hat : (a + i) % 128 = a % 128 + i := by omega
  rw [memByte, hline, hat, h _ (by omega), lineByte_merge _ _ _ (by omega), if_pos (by omega), Nat.add_sub_cancel_left]

theorem RunWritten.outside (h : RunWritten a l (newest s (lineOf a)).1 t) {x : Nat} (hx : lineOf x = lineOf a) (ho : x < a ∨ a + l.length ≤ x) :
    memByte t x = memByte s x := by
  have hpos : ¬ (a % 128 ≤ x % 128 ∧ x % 128 < a % 128 + l.length) := by unfold lineOf at hx; omega
  rw [memByte, memByte, hx, h _ (Nat.mod_lt _ (by decide)), lineByte_merge _ _ _ (Nat.mod_lt _ (by decide)), if_neg hpos]

/-- Where every other line stands, so does every byte outside the run. -/
theorem RunWritten.frame (h : RunWritten a l (newest s (lineOf a)).1 t) (ho : ∀ z, z ≠ lineOf a → (newest t z).1 = (newest s z).1) {x : Nat}
    (hx : x < a ∨ a + l.length ≤ x) : memByte t x = memByte s x := by
  by_cases hline : lineOf x = lineOf a
  · exact h.outside hline hx
  · exact memByte_eq (ho _ hline)

/-! A write at the home -/

theorem sliceRoom_congr (hm : t.mem = s.mem) (hc : t.coh = s.coh) (hr : t.regs = s.regs) (h : SliceRoom s part ln) : SliceRoom t part ln := by
  have hset : sliceSet t (lineHome ln) (lineSet ln) = sliceSet s (lineHome ln) (lineSet ln) := by rw [sliceSet, sliceSet, hm, hc]
  have hmask : llcMask t (lineHome ln) part false = llcMask s (lineHome ln) part false := by simp only [llcMask, regGet, hr]
  rw [SliceRoom, hset, hmask, hm]
  exact h

/-- A merge writes the merged line into home data, after a read of HBM where the slice does not hold the line (R311). -/
theorem mergeHome_eq (hf : s.mem.flaws = []) : ∃ D b v, mergeHome part ln mask d s = (none, toHome ln D b part v) ∧
    (v.mem = s.mem ∧ v.coh = s.coh ∧ v.regs = s.regs) ∧
    ∀ j, j < 128 → lineByte D j = lineByte (mergeLine mask (homeLine s ln).1 d) j := by
  have hwhole (h : mask = wholeMask) (j : Nat) (hj : j < 128) : lineByte d j = lineByte (mergeLine mask (homeLine s ln).1 d) j := by
    rw [h, lineByte_whole hj]
  cases hx : aget s.mem.llc ln with
  | some e =>
    refine ⟨mergeLine mask e.data d, e.poison && !(decide (mask = wholeMask)), s, ?_, ⟨rfl, rfl, rfl⟩, fun j _ => ?_⟩
    · rw [mergeHome]
      dsimp only
      rw [hx]
    · rw [homeLine_of_hit hx]
  | none =>
    by_cases h : mask = wholeMask
    · refine ⟨d, false, s, ?_, ⟨rfl, rfl, rfl⟩, hwhole h⟩
      rw [mergeHome]
      dsimp only
      rw [hx, decide_eq_true h]
      rfl
    · have hne : ¬ (if s.mem.poison.contains ln then some 3 else none) = some 2 := by split <;> decide
      refine ⟨mergeLine mask (hbmData (meter part (tileOf (128 * ln)) s) ln) d, (meter part (tileOf (128 * ln)) s).mem.poison.contains ln,
        meter part (tileOf (128 * ln)) s, ?_, ⟨meter_mem _ _ _, meter_coh _ _ _, meter_regs⟩, fun j _ => ?_⟩
      · rw [mergeHome]
        dsimp only
        rw [hx, decide_eq_false h, hbmRead_of_noFlaws hf]
        exact (if_neg Bool.false_ne_true).trans (if_neg hne)
      · rw [homeLine_of_miss hx, hbmData, hbmData, meter_mem]

theorem putNow_of_noEntry (he : entAt s ln = none) (hm : mergeHome part ln mask d (entDel ln s) = (none, t)) :
    putNow part 0 0 ln mask d s = (none, t) := by
  have hent : entNow s ln = emptyEnt := by rw [entNow, he]
  have hnone : (if ((entAt s ln).isSome || (dirWay s ln).isSome) = true then pushAgent t 0 0 ln else none) = none := ite_self none
  rw [putNow, hent, show invAll ln (holders emptyEnt) s = s from rfl, hm]
  dsimp only
  rw [hnone]

/-- A write of a line without copies: home data takes it, and no other line moves where the slice has room for it. -/
theorem putNow_of_noCopies (hn : NoCopies s ln) (hw : Memory.wf s.mem.hbm = true) (hf : s.mem.flaws = []) :
    ∃ t, putNow part 0 0 ln mask d s = (none, t) ∧
      (∀ j, j < 128 → lineByte (newest t ln).1 j = lineByte (mergeLine mask (newest s ln).1 d) j) ∧
      (SliceRoom s part ln → ∀ z, z ≠ ln → (newest t z).1 = (newest s z).1) := by
  obtain ⟨he, -, hl, hwb, hnet⟩ := hn
  obtain ⟨D, b, v, hm, ⟨hvm, hvc, hvr⟩, hD⟩ := mergeHome_eq (part := part) (ln := ln) (mask := mask) (d := d) (s := entDel ln s) hf
  have hvw : Memory.wf v.mem.hbm = true := by rw [hvm]; exact hw
  have hmove : HomeOnly v (toHome ln D b part v) := homeOnly_toHome _ _ _ _ _
  have hlines : ∀ e ∈ v.coh.lines, e.2.1 ≠ ln := by rw [hvc]; exact hl
  have hlines' : ∀ e ∈ (toHome ln D b part v).coh.lines, e.2.1 ≠ ln := by
    obtain ⟨p, hp, -⟩ := hmove.lines
    rw [hp]
    exact fun e he => hlines e (List.mem_filter.1 he).1
  refine ⟨_, putNow_of_noEntry he hm, fun j hj => ?_, fun hr z hz => ?_⟩
  · rw [newest_of_noCopies hlines' (by rw [hmove.wb, hvc]; exact hwb) (by rw [hmove.net, hvc]; exact hnet), toHome_data hvw hj, hD j hj,
      newest_of_noCopies hl hwb hnet]
    rfl
  · obtain ⟨hcoh, hhome⟩ := toHome_frame (d := D) (b := b) hvw (sliceRoom_congr hvm hvc hvr hr)
    have hback : (homeLine v z).1 = (homeLine s z).1 := by rw [homeLine, homeLine, hvm]; rfl
    refine (newest_of_coh (s := v) hcoh (hhome z hz)).trans ?_
    exact (newest_of_coh (s := entDel ln s) hvc hback).trans rfl

/-- A run within one line of local HBM is one write of the line. -/
theorem writeLines_of_line (h₀ : l ≠ []) (hfit : a % 128 + l.length ≤ 128) (hh : hbmThere s a = true)
    (hl : lineWrite who part (0, 0) (lineOf a) (runMask (a % 128) false l) (runLine (a % 128) l) s = (none, t)) :
    writeLines who part (0, 0) (cutLines l.length a l) s = (none, t) := by
  have hlow : a < 6 * tileSize := by simp only [hbmThere, Bool.and_eq_true, decide_eq_true_eq] at hh; exact hh.1.1
  have hlocal : localAddr s a = some a := by rw [localAddr, target, if_pos hlow, if_pos hh]
  have hwin : inWindow a = false := by rw [inWindow, decide_eq_false (by unfold tileSize at hlow; omega), Bool.false_and]
  have hline : writeInLine who part (0, 0) a l s = (none, t) := by
    rw [writeInLine, hlocal]
    dsimp only
    rw [localWrite, hwin, if_neg Bool.false_ne_true, if_neg Bool.false_ne_true, hl]
  rw [cutLines_of_one h₀ hfit, writeLines]
  simp only [hline, logged, writeLines]

/-- A write by a unit without a cache of its own, within one line that no agent holds. -/
theorem memWrite_of_line (hk : who.kind ≠ 2) (h₀ : l ≠ []) (hfit : a % 128 + l.length ≤ 128) (hh : hbmThere s a = true)
    (hr : rangeError s part true a l.length = none) (hn : NoCopies s (lineOf a)) (hs : lineShut s (lineOf a) = false)
    (hc : lineCrossed s (unitOf who) false (lineOf a) = false)
    (hp : putNow part 0 0 (lineOf a) (runMask (a % 128) false l) (runLine (a % 128) l) s = (none, t)) :
    memWrite who part a l s = (none, t) := by
  obtain ⟨-, -, hl, -, -⟩ := hn
  have hnone : lineAt s (unitOf who) (lineOf a) = none := by
    rw [lineAt, List.find?_eq_none.2 fun e he => by simp [hl e he]]; rfl
  have hhit : lineHit s (unitOf who) false (lineOf a) = false := by rw [lineHit, hnone, Bool.and_false]; rfl
  have hline : lineWrite who part (0, 0) (lineOf a) (runMask (a % 128) false l) (runLine (a % 128) l) s = (none, t) := by
    rw [lineWrite, hhit]
    refine (if_neg Bool.false_ne_true).trans ((putHome_of_quiet hs hc).trans ?_)
    exact (if_neg hk).trans hp
  rw [memWrite, memPut, hr]
  exact writeLines_of_line h₀ hfit hh hline

/-! A write into a group's copy -/

theorem lineAt_linePut (g ln : Nat) (y : ALine) (s : State) : lineAt (linePut g ln y s) g ln = some y := by
  show Option.map _ (List.find? _ ((g, ln, y) :: _)) = _
  rw [List.find?_cons, decide_eq_true rfl, decide_eq_true rfl]
  rfl

theorem l2Touch_group (hg : isGroup g = true) (way : Nat) (s : State) : l2Touch g ln way s =
    cohMod s fun c => { c with l2lru := tmod 0 c.l2lru (l2Key' g ln) fun t => plruTouch t way } := by
  have hslice : isSlice g = false := by
    simp only [isGroup, Bool.and_eq_true, decide_eq_true_eq] at hg
    rw [isSlice, decide_eq_false (by omega : ¬ 56 ≤ g)]
    rfl
  rw [l2Touch, hslice]
  rfl

theorem groupOwn_of_owned (hy : lineAt s g ln = some y) (hst : y.st = .m ∨ y.st = .e) : groupOwn g part ln s = (none, l2Touch g ln y.way s) := by
  rw [groupOwn, hy]
  dsimp only
  rw [if_pos hst]

theorem groupOwn_of_shared (hy : lineAt s g ln = some y) (hst : ¬ (y.st = .m ∨ y.st = .e)) :
    groupOwn g part ln s = (none, l2Touch g ln y.way (promoteNow g ln y s)) := by
  rw [groupOwn, hy]
  dsimp only
  rw [if_neg hst]

/-- A group that holds a line makes it its own with the data it has. -/
theorem groupOwn_of_held (hg : isGroup g = true) (hy : lineAt s g ln = some y) :
    ∃ z t, groupOwn g part ln s = (none, t) ∧ lineAt t g ln = some z ∧ z.data = y.data := by
  by_cases hst : y.st = .m ∨ y.st = .e
  · refine ⟨y, _, groupOwn_of_owned hy hst, ?_, rfl⟩
    rw [l2Touch_group hg]
    exact hy
  · refine ⟨{ y with st := .m }, _, groupOwn_of_shared hy hst, ?_, rfl⟩
    rw [l2Touch_group hg]
    exact lineAt_linePut _ _ _ _

theorem groupWrite_of_owned {z : ALine} (hway : ((lineAt s g ln).isNone && !(canFill s g ln 0xFFFF)) = false)
    (ho : groupOwn g part ln s = (none, t)) (hz : lineAt t g ln = some z) :
    ∃ q, groupWrite' g part ln mask d s = (none, linePut g ln { z with st := .m, data := mergeLine mask z.data d, poison := q } t) := by
  refine ⟨z.poison && !(decide (mask = wholeMask)), ?_⟩
  rw [groupWrite']
  dsimp only
  rw [hway, if_neg Bool.false_ne_true, ho]
  dsimp only
  rw [hz]
  rfl

theorem hit_of_owned {r : Bool} (hu : n < 56) (hy : lineAt s n ln = some y) (hst : y.st = .m ∨ y.st = .e) : lineHit s n r ln = true := by
  rw [lineHit, hy, decide_eq_true hu]
  obtain hst | hst := hst <;> simp [hst]

end

end Sys2Proof.Machine
end

section
/-! SUPPORT. Writes of units without a cache, and packets that write, to a line that no agent holds (R312, R320, R346). -/
set_option Elab.async false

namespace Sys2Proof.Machine

open Sys2Proof

section
variable {s t : State} {who : Requester} {ln a n : Nat} {d mask : LineData} {part : Option Nat} {l : List Byte} {h : BitVec 256}

/-! Through the memory -/

/-- The bytes of a write by a unit without a cache. -/
theorem written_of_noCopies (hn : NoCopies s (lineOf a)) (hw : Memory.wf s.mem.hbm = true) (hf : s.mem.flaws = []) :
    ∃ t, putNow part 0 0 (lineOf a) (runMask (a % 128) false l) (runLine (a % 128) l) s = (none, t) ∧
      RunWritten a l (newest s (lineOf a)).1 t ∧
      (SliceRoom s part (lineOf a) → ∀ z, z ≠ lineOf a → (newest t z).1 = (newest s z).1) :=
  putNow_of_noCopies hn hw hf

theorem memWrite_bytes (hk : who.kind ≠ 2) (h₀ : l ≠ []) (hfit : a % 128 + l.length ≤ 128) (hh : hbmThere s a = true)
    (hr : rangeError s part true a l.length = none) (hw : Memory.wf s.mem.hbm = true) (hf : s.mem.flaws = []) (hn : NoCopies s (lineOf a))
    (hs : lineShut s (lineOf a) = false) (hc : lineCrossed s (unitOf who) false (lineOf a) = false) :
    ∃ t, memWrite who part a l s = (none, t) ∧ (∀ i, i < l.length → memByte t (a + i) = l.getD i 0) ∧
      (∀ x, lineOf x = lineOf a → (x < a ∨ a + l.length ≤ x) → memByte t x = memByte s x) ∧
      (SliceRoom s part (lineOf a) → ∀ x, (x < a ∨ a + l.length ≤ x) → memByte t x = memByte s x) ∧
      t.tcs = s.tcs ∧ t.cores = s.cores ∧ t.items = s.items ∧ t.batons = s.batons ∧ t.slots = s.slots := by
  obtain ⟨t, hput, hrun, hframe⟩ := written_of_noCopies (part := part) hn hw hf
  have hdid : Did 0x502c000086e s t := by
    have hd := putNow_did (W := 0x502c000086e) (a1 := part) (a2 := 0) (a3 := 0) (a4 := lineOf a) (a5 := runMask (a % 128) false l)
      (a6 := runLine (a % 128) l) rfl (.refl s)
    rw [hput] at hd
    exact hd
  exact ⟨t, memWrite_of_line hk h₀ hfit hh hr hn hs hc hput, fun i hi => hrun.inside hfit hi, fun x hx ho => hrun.outside hx ho,
    fun hroom x ho => hrun.frame (hframe hroom) ho, hdid.tcs rfl, hdid.cores rfl, hdid.items rfl, hdid.batons rfl, hdid.slots rfl⟩

/-! Through a port -/

/-- A write packet that does not wait finds nothing ahead of it at its line. -/
theorem quiet_of_writePacket (ha : arrives s n h 2 = true) (h₀ : 0 < hLen h) (h₁ : hOff h % 128 + hLen h ≤ 128)
    (he : offsetError s (portPart s n) true (hOff h) (hLen h) = none) (hw : packetWaits s n h = false) :
    lineShut s (lineOf (hOff h)) = false ∧ lineCrossed s (unitOf (portReq n)) false (lineOf (hOff h)) = false := by
  obtain ⟨-, hlocal, hwin, -⟩ := local_of_offset h₀ h₁ he
  have hroom : reqWaits s (portReq n) (portPart s n) false (lineOf (hOff h)) = false := by
    simpa [packetWaits, arrives_type ha, ha, he, rangeWaits, lineStarts_of_one h₀ h₁, addrWaits, hlocal, hwin, lineWaits,
      lineHit_of_port (who := portReq n) rfl] using hw
  exact ⟨lineShut_of_room hroom, lineCrossed_of_room hroom⟩

theorem memByte_answer (type status x : Nat) : memByte (answer h type status [] s) x = memByte s x :=
  have hdid : Did 0x400000004 s (answer h type status [] s) := answer_did rfl (.refl s)
  memByte_congr (hdid.coh rfl) (by rw [hdid.mem rfl]) (by rw [hdid.mem rfl]) x

theorem winWr_bytes {d : List Byte} (hn : n < 24) (h₀ : d ≠ []) (hd : d.length = hLen h) (hfit : hOff h % 128 + d.length ≤ 128)
    (he : offsetError s (portPart s n) true (hOff h) (hLen h) = none) (ha : arrives s n h 2 = true) (hw : packetWaits s n h = false)
    (hhalf : h.getLsbD 144 = false) (hwf : Memory.wf s.mem.hbm = true) (hnc : NoCopies s (lineOf (hOff h))) :
    ∃ t, exec (.winWr n h d []) s = .next t ∧ (∀ i, i < d.length → memByte t (hOff h + i) = d.getD i 0) ∧
      (SliceRoom s (portPart s n) (lineOf (hOff h)) → ∀ x, (x < hOff h ∨ hOff h + d.length ≤ x) → memByte t x = memByte s x) := by
  obtain ⟨t, hput, hrun, hframe⟩ := written_of_noCopies (s := setFlaws [] s) (part := portPart s n) hnc hwf rfl
  have hlen : 0 < hLen h := hd ▸ List.length_pos_iff.2 h₀
  obtain ⟨hs, hc⟩ := quiet_of_writePacket ha hlen (hd ▸ hfit) he hw
  have hserve : serveWrite (portReq n) (portPart s n) (0, 0) (hOff h) (h.getLsbD 144) d (setFlaws [] s) = (0, t) := by
    rw [hhalf]
    exact serveWrite_of_line rfl (by rw [hd]; exact he) h₀ hfit hs hc hput
  have heff : winWrEffect n h d (setFlaws [] s) = answer h 3 0 [] t := winWrEffect_of_served ha hd hw hserve
  refine ⟨setFlaws [] (answer h 3 0 [] t), ?_, fun i hi => ?_, fun hroom x ho => ?_⟩
  · exact (congrArg (onUnit (okPort n)) (withFlaws_eq heff)).trans (onUnit_okPort hn _)
  · exact (memByte_answer 3 0 _).trans (hrun.inside hfit hi)
  · exact (memByte_answer 3 0 _).trans (hrun.frame (hframe hroom) ho)

end

end Sys2Proof.Machine
end

section
/-! SUPPORT. An application core's store in a line its group holds, and in one that its group takes (R302, R312, R320). -/
set_option Elab.async false

namespace Sys2Proof.Machine

open Sys2Proof

section
variable {s t u : State} {ln a g n ac : Nat} {d mask : LineData} {part : Option Nat} {l : List Byte} {y z : ALine}

theorem isGroup_groupAgent (h : ac < 128) : isGroup (groupAgent ac) = true := by
  rw [isGroup, groupAgent, decide_eq_true (by omega), decide_eq_true (by omega)]
  rfl

/-- A store within one line of local HBM, once nothing is ahead of it there. -/
theorem acPuts_of_line (h₀ : l ≠ []) (hfit : a % 128 + l.length ≤ 128) (hh : hbmThere s a = true)
    (hq : lineHit s (groupAgent ac) false (lineOf a) = true ∨
      (lineShut s (lineOf a) = false ∧ lineCrossed s (groupAgent ac) false (lineOf a) = false))
    (hg : groupWrite' (groupAgent ac) (acPart s ac) (lineOf a) (runMask (a % 128) false l) (runLine (a % 128) l) (dropResv ac (lineOf a) s) = (none, t)) :
    acPuts ac a l s = t := by
  have hline : lineWrite (acReq ac) (acPart s ac) (0, 0) (lineOf a) (runMask (a % 128) false l) (runLine (a % 128) l) (dropResv ac (lineOf a) s) =
      (none, t) := by
    rw [lineWrite]
    dsimp only
    obtain hit | ⟨hs, hc⟩ := hq
    · exact (if_pos (show lineHit (dropResv ac (lineOf a) s) (unitOf (acReq ac)) false (lineOf a) = true from hit)).trans ((if_pos rfl).trans hg)
    · split
      · exact (if_pos rfl).trans hg
      · exact (putHome_of_quiet (who := acReq ac) (s := dropResv ac (lineOf a) s) hs hc).trans ((if_pos rfl).trans hg)
  rw [acPuts, lineStarts_of_one (List.length_pos_iff.2 h₀) hfit, List.foldl_cons, List.foldl_nil]
  rw [writeLines_of_line (s := dropResv ac (lineOf a) s) h₀ hfit hh hline]

/-- Bytes that a group has written into a copy of `old` that it has made its own. -/
theorem runWritten_of_owned (hway : ((lineAt s g (lineOf a)).isNone && !(canFill s g (lineOf a) 0xFFFF)) = false)
    (ho : groupOwn g part (lineOf a) s = (none, t)) (hz : lineAt t g (lineOf a) = some z) (hd : z.data = d) :
    ∃ u, groupWrite' g part (lineOf a) (runMask (a % 128) false l) (runLine (a % 128) l) s = (none, u) ∧ RunWritten a l d u := by
  obtain ⟨q, hq⟩ := groupWrite_of_owned (mask := runMask (a % 128) false l) (d := runLine (a % 128) l) hway ho hz
  refine ⟨_, hq, fun j _ => ?_⟩
  rw [newest_of_linePut Moesi.noConfusion, hd]

/-! A line the group holds -/

theorem acPuts_of_held (hac : ac < 128) (h₀ : l ≠ []) (hfit : a % 128 + l.length ≤ 128) (hh : hbmThere s a = true)
    (hy : lineAt s (groupAgent ac) (lineOf a) = some y)
    (hq : y.st = .m ∨ y.st = .e ∨ (lineShut s (lineOf a) = false ∧ lineCrossed s (groupAgent ac) false (lineOf a) = false)) :
    RunWritten a l y.data (acPuts ac a l s) := by
  have hu : groupAgent ac < 56 := by unfold groupAgent; omega
  obtain ⟨z, t, ho, hz, hd⟩ := groupOwn_of_held (s := dropResv ac (lineOf a) s) (part := acPart s ac) (isGroup_groupAgent hac) hy
  have hway : ((lineAt (dropResv ac (lineOf a) s) (groupAgent ac) (lineOf a)).isNone &&
      !(canFill (dropResv ac (lineOf a) s) (groupAgent ac) (lineOf a) 0xFFFF)) = false := by
    rw [show lineAt (dropResv ac (lineOf a) s) (groupAgent ac) (lineOf a) = some y from hy]; rfl
  obtain ⟨u, hw, hrun⟩ := runWritten_of_owned (l := l) hway ho hz hd
  have hquiet : lineHit s (groupAgent ac) false (lineOf a) = true ∨
      (lineShut s (lineOf a) = false ∧ lineCrossed s (groupAgent ac) false (lineOf a) = false) := by
    obtain hm | he | hq := hq
    · exact .inl (hit_of_owned hu hy (.inl hm))
    · exact .inl (hit_of_owned hu hy (.inr he))
    · exact .inr hq
  rw [acPuts_of_line h₀ hfit hh hquiet hw]
  exact hrun

/-! A line the group owns -/

/-- The owner's copy is the newest of its line. -/
theorem newest_of_owner (hy : lineAt s g ln = some y) (hst : y.st ≠ .s) (ho : ∀ e ∈ s.coh.lines, e.2.1 = ln → e.2.2.st ≠ .s → e.1 = g) :
    newest s ln = (y.data, y.poison) := by
  have hfind : ∃ k, s.coh.lines.find? (fun e => decide (e.2.1 = ln) && decide (e.2.2.st ≠ .s)) = some (k, ln, y) := by
    rw [lineAt] at hy
    revert ho hy
    generalize s.coh.lines = r
    induction r with
    | nil => exact fun h => by cases h
    | cons e r ih =>
      intro hy ho
      by_cases hown : e.1 = g ∧ e.2.1 = ln
      · rw [List.find?_cons, decide_eq_true hown.1, decide_eq_true hown.2] at hy
        obtain rfl : e.2.2 = y := Option.some.inj hy
        refine ⟨e.1, ?_⟩
        rw [List.find?_cons, decide_eq_true hown.2, decide_eq_true hst, ← hown.2]
        rfl
      · have hskip : (decide (e.1 = g) && decide (e.2.1 = ln)) = false := by simpa using hown
        have hpass : (decide (e.2.1 = ln) && decide (e.2.2.st ≠ .s)) = false := by
          by_contra hne
          obtain ⟨hl, hs⟩ : e.2.1 = ln ∧ e.2.2.st ≠ .s := by simpa using hne
          exact hown ⟨ho e (List.mem_cons_self ..) hl hs, hl⟩
        rw [List.find?_cons, hskip] at hy
        rw [List.find?_cons, hpass]
        exact ih hy fun e he => ho e (List.mem_cons_of_mem _ he)
  obtain ⟨k, hk⟩ := hfind
  rw [newest, hk]

theorem newest_of_linePut_ne {x : Nat} (hx : x ≠ ln) : (newest (linePut g ln z s) x).1 = (newest s x).1 := by
  refine newest_congr ?_ rfl rfl rfl
  show List.find? _ ((g, ln, z) :: linesBut g ln s.coh.lines) = _
  rw [List.find?_cons, decide_eq_false (Ne.symm hx), Bool.false_and, linesBut, List.find?_filter]
  refine congrArg (fun q => List.find? q s.coh.lines) (funext fun e => ?_)
  by_cases he : e.2.1 = x
  · have hne : e.2.1 ≠ ln := fun h => hx (he ▸ h)
    simp [hne]
  · simp [he]

theorem acPuts_of_owned (hac : ac < 128) (h₀ : l ≠ []) (hfit : a % 128 + l.length ≤ 128) (hh : hbmThere s a = true)
    (hy : lineAt s (groupAgent ac) (lineOf a) = some y) (hst : y.st = .m ∨ y.st = .e) :
    ∃ z, acPuts ac a l s = linePut (groupAgent ac) (lineOf a) z (l2Touch (groupAgent ac) (lineOf a) y.way (dropResv ac (lineOf a) s)) := by
  have hu : groupAgent ac < 56 := by unfold groupAgent; omega
  have hy' : lineAt (dropResv ac (lineOf a) s) (groupAgent ac) (lineOf a) = some y := hy
  have hway : ((lineAt (dropResv ac (lineOf a) s) (groupAgent ac) (lineOf a)).isNone &&
      !(canFill (dropResv ac (lineOf a) s) (groupAgent ac) (lineOf a) 0xFFFF)) = false := by rw [hy']; rfl
  have hz : lineAt (l2Touch (groupAgent ac) (lineOf a) y.way (dropResv ac (lineOf a) s)) (groupAgent ac) (lineOf a) = some y := by
    rw [l2Touch_group (isGroup_groupAgent hac)]
    exact hy
  obtain ⟨q, hq⟩ := groupWrite_of_owned (mask := runMask (a % 128) false l) (d := runLine (a % 128) l) (part := acPart s ac) hway
    (groupOwn_of_owned hy' hst) hz
  exact ⟨_, acPuts_of_line h₀ hfit hh (.inl (hit_of_owned hu hy hst)) hq⟩

/-- Where the group owns the line, nothing but the bytes stored changes. -/
theorem acPuts_frame (hac : ac < 128) (h₀ : l ≠ []) (hfit : a % 128 + l.length ≤ 128) (hh : hbmThere s a = true)
    (hy : lineAt s (groupAgent ac) (lineOf a) = some y) (hst : y.st = .m ∨ y.st = .e)
    (ho : ∀ e ∈ s.coh.lines, e.2.1 = lineOf a → e.2.2.st ≠ .s → e.1 = groupAgent ac) {x : Nat} (hx : x < a ∨ a + l.length ≤ x) :
    memByte (acPuts ac a l s) x = memByte s x := by
  have hne : y.st ≠ .s := by obtain h | h := hst <;> rw [h] <;> decide
  have hrun : RunWritten a l (newest s (lineOf a)).1 (acPuts ac a l s) := by
    rw [newest_of_owner hy hne ho]
    exact acPuts_of_held hac h₀ hfit hh hy (hst.imp_right .inl)
  refine hrun.frame (fun w hw => ?_) hx
  obtain ⟨z, hz⟩ := acPuts_of_owned hac h₀ hfit hh hy hst
  rw [hz, newest_of_linePut_ne hw, l2Touch_group (isGroup_groupAgent hac)]
  exact newest_congr rfl rfl rfl rfl

/-! A line that nothing holds -/

theorem homeRead_clean (hf : s.mem.flaws = []) (hp : (homeLine s ln).2 = false) (unit : Nat) (part : Option Nat) (b : Bool) :
    (homeRead unit part b ln s).1 = none ∧ (homeRead unit part b ln s).2.1.1 = (homeLine s ln).1 := by
  cases hx : aget s.mem.llc ln with
  | some e =>
    rw [homeLine_of_hit hx] at hp
    rw [homeRead, homeLine_of_hit hx, hx]
    dsimp only
    rw [show e.poison = false from hp]
    exact ⟨rfl, rfl⟩
  | none =>
    have hclean : s.mem.poison.contains ln = false := by rw [homeLine, hx] at hp; exact hp
    rw [homeRead, homeLine_of_miss hx, hx]
    dsimp only
    rw [hbmRead_of_noFlaws hf, hclean, hbmData, hbmData, meter_mem]
    exact ⟨rfl, rfl⟩

theorem homeOnly_entClose (e : DirEnt) : HomeOnly s (entClose ln e s) := by
  have hsame : ∀ v : State, v.coh.lines = s.coh.lines → v.coh.wb = s.coh.wb → v.coh.net = s.coh.net → v.coh.open_ = s.coh.open_ →
      v.coh.l2lru = s.coh.l2lru → v.mem.flaws = s.mem.flaws → HomeOnly s v := fun v hl => .mk ⟨fun _ => true, by rw [hl, List.filter_true], fun _ _ => rfl⟩
  rw [entClose]
  split
  · exact hsame _ rfl rfl rfl rfl rfl rfl
  · rw [entUse]
    split <;> exact hsame _ rfl rfl rfl rfl rfl rfl

/-- A group takes a line that nothing holds with the data the home has. -/
theorem getmNow_of_noEntry (hg : isGroup g = true) (he : entAt s ln = none) (hl : lineAt s g ln = none) (hf : s.mem.flaws = [])
    (hp : (homeLine s ln).2 = false) (hroom : (dirWay s ln).isSome = true) (hway : (agentWay g ln 0xFFFF s).1.isSome = true) :
    ∃ z t, getmNow g part ln s = (none, t) ∧ lineAt t g ln = some z ∧ z.data = (homeLine s ln).1 := by
  have hmake : makeRoom ln s = s := by rw [makeRoom, hroom, Bool.or_true]; rfl
  have hent : entNow s ln = emptyEnt := by rw [entNow, he]
  obtain ⟨herr, hdata⟩ := homeRead_clean hf hp g part false
  have hread : HomeOnly s (homeRead g part false ln s).2.2 := homeOnly_homeRead hf
  generalize hr : homeRead g part false ln s = r at herr hdata hread
  obtain ⟨err, ⟨D, b⟩, v⟩ := r
  obtain rfl : err = none := herr
  have hclose := hread.trans (homeOnly_entClose (ln := ln) { emptyEnt with was := .de, owner := g, sharers := [] })
  generalize hv : entClose ln { emptyEnt with was := .de, owner := g, sharers := [] } v = w at hclose
  have hnone : lineAt w g ln = none := (hclose.lineAt_eq hg ln).trans hl
  have hsome : (agentWay g ln 0xFFFF w).1.isSome = true := by rw [hclose.agentWay_eq hg]; exact hway
  generalize hk : agentWay g ln 0xFFFF w = k at hsome
  obtain ⟨_ | k, t⟩ := k
  · cases hsome
  · refine ⟨⟨.e, D, b, part, k⟩, l2Touch g ln k (linePut g ln ⟨.e, D, b, part, k⟩ t), ?_, ?_, hdata⟩
    · rw [getmNow, hmake, hent]
      have hown : ownerLine s emptyEnt ln = none := rfl
      dsimp only
      rw [hown]
      dsimp only
      rw [show invAll ln (sharersBut emptyEnt g) s = s from rfl, hr, hv, agentFill, hnone]
      dsimp only
      rw [hk]
    · rw [l2Touch_group hg]
      exact lineAt_linePut _ _ _ _

theorem acPuts_of_noCopies (hac : ac < 128) (h₀ : l ≠ []) (hfit : a % 128 + l.length ≤ 128) (hh : hbmThere s a = true) (hf : s.mem.flaws = [])
    (hn : NoCopies s (lineOf a)) (hs : lineShut s (lineOf a) = false) (hc : lineCrossed s (groupAgent ac) false (lineOf a) = false)
    (hp : (homeLine s (lineOf a)).2 = false) (hroom : (dirWay s (lineOf a)).isSome = true)
    (hfill : canFill s (groupAgent ac) (lineOf a) 0xFFFF = true) : RunWritten a l (newest s (lineOf a)).1 (acPuts ac a l s) := by
  obtain ⟨he, -, hl, hwb, hnet⟩ := hn
  have hnone : lineAt s (groupAgent ac) (lineOf a) = none := by
    rw [lineAt, List.find?_eq_none.2 fun e he => by simp [hl e he]]; rfl
  have hway : (agentWay (groupAgent ac) (lineOf a) 0xFFFF s).1.isSome = true := by rw [canFill, hnone] at hfill; exact hfill
  have hwayR : (agentWay (groupAgent ac) (lineOf a) 0xFFFF (dropResv ac (lineOf a) s)).1.isSome = true := by
    have hmove : HomeOnly s (dropResv ac (lineOf a) s) := ⟨⟨fun _ => true, (List.filter_true _).symm, fun _ _ => rfl⟩, rfl, rfl, rfl, rfl, rfl⟩
    rw [hmove.agentWay_eq (isGroup_groupAgent hac)]
    exact hway
  obtain ⟨z, t, ho, hz, hd⟩ := getmNow_of_noEntry (s := dropResv ac (lineOf a) s) (part := acPart s ac) (isGroup_groupAgent hac) he hnone hf hp hroom hwayR
  have hown : groupOwn (groupAgent ac) (acPart s ac) (lineOf a) (dropResv ac (lineOf a) s) = (none, t) := by
    rw [groupOwn, show lineAt (dropResv ac (lineOf a) s) (groupAgent ac) (lineOf a) = none from hnone]
    exact ho
  have hcan : ((lineAt (dropResv ac (lineOf a) s) (groupAgent ac) (lineOf a)).isNone &&
      !(canFill (dropResv ac (lineOf a) s) (groupAgent ac) (lineOf a) 0xFFFF)) = false := by
    rw [canFill, hwayR, Bool.or_true, Bool.not_true, Bool.and_false]
  obtain ⟨u, hw, hrun⟩ := runWritten_of_owned (l := l) hcan hown hz hd
  rw [acPuts_of_line h₀ hfit hh (.inr ⟨hs, hc⟩) hw, newest_of_noCopies hl hwb hnet]
  exact hrun

end

end Sys2Proof.Machine
end

section
/-! PROOFS. Coherent stores: the bytes every reader then sees (R10, R302, R312, R320). -/
set_option Elab.async false

namespace Sys2Proof.Machine

open Sys2Proof

section
variable {s t : State} {ac pa size k n : Nat} {z : Bool} {rs2 : BitVec 5} {y : ALine} {fl : List (Nat × Bool)} {l : List Byte} {op : AcOp}

/-! A store instruction -/

theorem hbmThere_of_target (h : target s pa = .hbm k) : hbmThere s pa = true ∧ inWindow pa = false := by
  have hlow : pa < 6 * tileSize := by
    by_contra hge
    rw [target, if_neg hge] at h
    split at h
    · split at h <;> cases h
    · split at h
      · split at h <;> cases h
      · split at h
        · dsimp only at h
          split at h <;> cases h
        · cases h
  refine ⟨?_, by rw [inWindow, decide_eq_false (by unfold tileSize at hlow; omega), Bool.false_and]⟩
  by_contra hno
  rw [target, if_pos hlow, if_neg hno] at h
  cases h

theorem acWhenFree_of_free (h : acOpWaits s ac op = false) : acWhenFree ac op t s = t := by
  unfold acOpWaits at h
  rw [acWhenFree]
  split
  · next hacc =>
    rw [hacc] at h
    exact if_neg fun hw => Bool.false_ne_true (h.symm.trans hw)
  · rfl

theorem exec_acInstruction_of_free (hac : ac < 128) (hlive : acLive s ac = true) (hop : acOpOk op = true) (hfree : acOpWaits s ac op = false) :
    exec (.acInstruction ac z op fl) s = .next (setFlaws [] (acStepped ac (acGuarded ac z op (setFlaws fl s)))) := by
  show onUnit (okAc ac) _ = _
  rw [onUnit_okAc hac, hlive, hop, Bool.and_self, onlyIf_true, acWhenFree_of_free hfree, withFlaws]

/-- The state in which a store reaches the memory: the pc is past it. -/
def atStore (ac : Nat) (z : Bool) (fl : List (Nat × Bool)) (s : State) : State :=
  acNext ac (if z then 2 else 4) (acMod ac id (setFlaws fl s))

theorem acGuarded_store (hon : (coreAt s ac).on = true) (hpmp : pmpOk (coreAt s ac) 2 pa size = true) :
    acGuarded ac z (.store rs2 pa size) (setFlaws fl s) = acStore ac pa (leBytes size (coreX (coreAt s ac) rs2.toNat).toNat) (atStore ac z fl s) := by
  have hcore : coreAt (acMod ac id (setFlaws fl s)) ac = coreAt s ac := by
    refine coreAt_put _ _ _ fun h => ?_
    have hdark : (coreAt s ac).on = false := congrArg Core.on h
    rw [hdark] at hon
    cases hon
  have heff : acGuarded ac z (.store rs2 pa size) (setFlaws fl s) = acEffect ac z (.store rs2 pa size) (acMod ac id (setFlaws fl s)) := if_pos hpmp
  rw [heff, acEffect, hcore, atStore]

theorem target_atStore : target (atStore ac z fl s) pa = target s pa := rfl

theorem accessError_cores {part : Option Nat} {w : Bool} (c : Tab Core) (m : Mem) :
    accessError { s with cores := c, mem := m } part w pa = accessError s part w pa := rfl

theorem rangeError_atStore {part : Option Nat} {w : Bool} : rangeError (atStore ac z fl s) part w pa n = rangeError s part w pa n := by
  have hacc : accessError (atStore ac z fl s) part w = accessError s part w := funext fun _ => accessError_cores _ _
  rw [rangeError, rangeError, hacc]

theorem acStore_of_hbm (hwin : inWindow pa = false) (ht : target s pa = .hbm k) (he : rangeError s (acPart s ac) true pa l.length = none) :
    acStore ac pa l s = acPuts ac pa l s := by
  rw [acStore, hwin, if_neg Bool.false_ne_true, he, ht]

theorem acPuts_of_instruction (hac : ac < 128) (hr : acRuns s ac (.store rs2 pa size) = true) (ht : target s pa = .hbm k)
    (he : rangeError s (acPart s ac) true pa size = none) (hl : leBytes size (coreX (coreAt s ac) rs2.toNat).toNat = l) :
    exec (.acInstruction ac z (.store rs2 pa size) fl) s = .next (setFlaws [] (acStepped ac (acPuts ac pa l (atStore ac z fl s)))) := by
  simp only [acRuns, Bool.and_eq_true, Bool.not_eq_true'] at hr
  obtain ⟨⟨⟨⟨hlive, hop⟩, hfree⟩, -⟩, hpmp⟩ := hr
  have hon : (coreAt s ac).on = true := by
    simp only [acLive, Bool.and_eq_true] at hlive
    exact hlive.1.1.2
  obtain ⟨-, hwin⟩ := hbmThere_of_target ht
  have hlen : size = l.length := by rw [← hl, length_leBytes]
  have hat : rangeError (atStore ac z fl s) (acPart (atStore ac z fl s) ac) true pa l.length = none := by
    rw [rangeError_atStore, ← hlen]
    exact he
  rw [exec_acInstruction_of_free hac hlive hop hfree, acGuarded_store hon hpmp, hl, acStore_of_hbm hwin (target_atStore.trans ht) hat]

theorem memByte_acStepped (x : Nat) : memByte (setFlaws [] (acStepped ac s)) x = memByte s x := by
  rw [acStepped]
  split <;> exact memByte_congr rfl rfl rfl x

theorem memByte_atStore (x : Nat) : memByte (atStore ac z fl s) x = memByte s x := memByte_congr rfl rfl rfl x

/-- A store that runs waits for nothing at its line, unless the group owns it. -/
theorem quiet_of_runs (hr : acRuns s ac (.store rs2 pa size) = true) (h₀ : 0 < size) (hfit : pa % 128 + size ≤ 128) (hh : hbmThere s pa = true)
    (hwin : inWindow pa = false) (hhit : lineHit s (groupAgent ac) false (lineOf pa) = false) :
    lineShut s (lineOf pa) = false ∧ lineCrossed s (groupAgent ac) false (lineOf pa) = false := by
  simp only [acRuns, Bool.and_eq_true, Bool.not_eq_true'] at hr
  obtain ⟨⟨⟨-, hfree⟩, -⟩, -⟩ := hr
  have hlow : pa < 6 * tileSize := by simp only [hbmThere, Bool.and_eq_true, decide_eq_true_eq] at hh; exact hh.1.1
  have hlocal : localAddr s pa = some pa := by rw [localAddr, target, if_pos hlow, if_pos hh]
  have hwaits : rangeWaits s (acReq ac) (acPart s ac) false pa size = false := hfree
  have hroom : reqWaits s (acReq ac) (acPart s ac) false (lineOf pa) = false := by
    rw [rangeWaits, lineStarts_of_one h₀ hfit, List.any_cons, List.any_nil, Bool.or_false, addrWaits, hlocal] at hwaits
    dsimp only at hwaits
    rw [hwin, if_neg Bool.false_ne_true, lineWaits, show lineHit s (unitOf (acReq ac)) false (lineOf pa) = false from hhit] at hwaits
    exact hwaits
  exact ⟨lineShut_of_room hroom, lineCrossed_of_room (who := acReq ac) hroom⟩

theorem acStore_bytes (hac : ac < 128) (hr : acRuns s ac (.store rs2 pa size) = true) (ht : target s pa = .hbm k)
    (he : rangeError s (acPart s ac) true pa size = none) (hfit : pa % 128 + size ≤ 128) (hy : lineAt s (groupAgent ac) (lineOf pa) = some y) :
    ∃ t, exec (.acInstruction ac z (.store rs2 pa size) fl) s = .next t ∧
      (∀ i, i < size → memByte t (pa + i) = (leBytes size (coreX (coreAt s ac) rs2.toNat).toNat).getD i 0) ∧
      ((y.st = .m ∨ y.st = .e) → (∀ e ∈ s.coh.lines, e.2.1 = lineOf pa → e.2.2.st ≠ .s → e.1 = groupAgent ac) →
        ∀ x, (x < pa ∨ pa + size ≤ x) → memByte t x = memByte s x) := by
  obtain ⟨hh, hwin⟩ := hbmThere_of_target ht
  have hpos : 0 < size := by
    have hop : acOpOk (.store rs2 pa size) = true := by
      simp only [acRuns, Bool.and_eq_true] at hr
      exact hr.1.1.1.2
    refine Nat.pos_of_ne_zero fun h => ?_
    rw [h] at hop
    exact absurd hop (by decide : ¬ [1, 2, 4, 8].contains 0 = true)
  generalize hb : leBytes size (coreX (coreAt s ac) rs2.toNat).toNat = b
  have hlen : b.length = size := by rw [← hb, length_leBytes]
  have h₀ : b ≠ [] := List.length_pos_iff.1 (hlen ▸ hpos)
  have hfit : pa % 128 + b.length ≤ 128 := hlen ▸ hfit
  have hquiet : y.st = .m ∨ y.st = .e ∨ (lineShut s (lineOf pa) = false ∧ lineCrossed s (groupAgent ac) false (lineOf pa) = false) := by
    by_cases hst : y.st = .m ∨ y.st = .e
    · exact hst.imp_right .inl
    · refine .inr (.inr (quiet_of_runs hr hpos (hlen ▸ hfit) hh hwin ?_))
      rw [not_or] at hst
      rw [lineHit, hy]
      simp [hst]
  refine ⟨_, acPuts_of_instruction hac hr ht he hb, fun i hi => ?_, fun hst ho x hx => ?_⟩
  · have hrun : RunWritten pa b y.data (acPuts ac pa b (atStore ac z fl s)) := acPuts_of_held (s := atStore ac z fl s) hac h₀ hfit hh hy hquiet
    rw [memByte_acStepped]
    exact hrun.inside hfit (hlen ▸ hi)
  · have hframe : memByte (acPuts ac pa b (atStore ac z fl s)) x = memByte (atStore ac z fl s) x :=
      acPuts_frame (s := atStore ac z fl s) hac h₀ hfit hh hy hst ho (hlen ▸ hx)
    rw [memByte_acStepped, hframe, memByte_atStore]

end

/-- Settles O55: the newest copy of the line takes the run, in home data where nothing holds the line, else in the group's copy. -/
theorem storesChangeExactlyTheirBytes : Obligations.StoresChangeExactlyTheirBytes := by
  refine ⟨?_, ?_, ?_, ?_, ?_⟩
  · exact fun who part a l s hk h₀ hfit hh hr hw hf hn hs hc => memWrite_bytes hk h₀ hfit hh hr hw hf hn hs hc
  · exact fun n h d s hn h₀ hd hfit he ha hw hhalf hwf hnc => winWr_bytes hn h₀ hd hfit he ha hw hhalf hwf hnc
  · rintro ac a ln l y s hac rfl h₀ hfit hh hy hq
    exact ⟨fun i hi => (acPuts_of_held hac h₀ hfit hh hy hq).inside hfit hi, fun hst ho x hx => acPuts_frame hac h₀ hfit hh hy hst ho hx⟩
  · rintro ac a ln l s hac rfl h₀ hfit hh hf hn hs hc hp hroom hfill
    have hrun := acPuts_of_noCopies hac h₀ hfit hh hf hn hs hc hp hroom hfill
    exact ⟨fun i hi => hrun.inside hfit hi, fun x hx ho => hrun.outside hx ho⟩
  · rintro ac pa size k ln z rs2 y fl s hac hr ht he rfl hfit hy
    exact acStore_bytes hac hr ht he hfit hy

end Sys2Proof.Machine
end
